-- ==== Sys2Proof/Word.lean ====
section
/-!
DEFINITION. The plainest words of the model: bytes, bit fields of a number, little-endian bytes (R11), sparse stores.
-/

namespace Sys2Proof

/-- One byte. -/
abbrev Byte := BitVec 8

/-- A store of values by number: the pairs are listed with rising numbers, and a number that is not listed holds the
store's default. Machine/Sparse.lean reads and writes it. -/
abbrev Sparse (α : Type) := List (Nat × α)

/-- Bits [lo + n - 1 : lo] of a number (bit 0 the least significant, spec/00 "Numbers and units"). -/
def bits (w lo n : Nat) : Nat := (w >>> lo) % 2 ^ n

/-- Bit i of a number. -/
def bit (w i : Nat) : Bool := bits w i 1 == 1

/-- 1 for true, 0 for false. -/
def b2n (b : Bool) : Nat := if b then 1 else 0

/-- The low n bits of an integer in two's complement. -/
def wrapInt (n : Nat) (x : Int) : Nat := (x % (2 ^ n : Int)).toNat

/-- The two's complement value of the low n bits of a number. -/
def signedOf (n w : Nat) : Int :=
  let v := w % 2 ^ n
  if 2 * v < 2 ^ n then (v : Int) else (v : Int) - (2 ^ n : Int)

/-- The number whose little-endian bytes are given (R11). -/
def fromBytes : List Byte → Nat
  | [] => 0
  | b :: bs => b.toNat + 256 * fromBytes bs

/-- The n little-endian bytes of a number (R11). -/
def toBytes : Nat → Nat → List Byte
  | 0, _ => []
  | n + 1, w => BitVec.ofNat 8 w :: toBytes n (w / 256)

/-- Divide and round up. -/
def ceilDiv (a b : Nat) : Nat := if b = 0 then 0 else (a + b - 1) / b

end Sys2Proof
end

