-- ==== Sys2Proof/Syntax.lean ====
section
/-!
DEFINITION. The commands of the block: one constructor per row of spec/opcode_table.json, with the operands the spec
gives the event. Words of a context's stream are carried as their named fields (R158, R160, R209, R251, R279, R280,
R341, R375, R512, R199), as the opcode table's row gives the command (log entry 52).
-/

namespace Sys2Proof

/-! Stream words -/

/-- The MMA word of R158; `cp` is the plan number of the fused forms (R510). -/
structure MmaWord where
  acc : Bool
  out : Bool
  wt : Bool
  xt : Bool
  osr : Bool
  x : Nat
  w : Nat
  y : Nat
  tout : Nat
  tx : Nat
  tw : Nat
  osc : Nat
  part : Nat
  abase : Nat
  lst : Nat
  cp : Nat
  deriving DecidableEq, Repr

/-- The scalar word of R375. -/
structure ScalarWord where
  immFlag : Bool
  sd : Nat
  sa : Nat
  sb : Nat
  token : Nat
  cnt : Nat
  imm : Nat
  deriving DecidableEq, Repr

/-- The thread instruction word of R199. -/
structure ThreadWord where
  pred : Nat
  pneg : Bool
  sr : Bool
  ovf : Bool
  d : Nat
  a : Nat
  b : Nat
  c : Nat
  imm : Nat
  deriving DecidableEq, Repr

/-- The row operation word of R209. -/
structure RowWord where
  mode : Bool
  bmask : Bool
  sr : Bool
  ovf : Bool
  psrc : Bool
  x : Nat
  y : Nat
  g : Nat
  b : Nat
  sbase : Nat
  imm : Nat
  ofs : Nat
  deriving DecidableEq, Repr

/-- The update word of R279. -/
structure UpdWord where
  dw : Bool
  nes : Bool
  sr : Bool
  ovf : Bool
  g : Nat
  w : Nat
  wx : Nat
  m1 : Nat
  m2 : Nat
  u : Nat
  h : Nat
  r : Nat
  deriving DecidableEq, Repr

/-- The RFOLD word of R280. -/
structure FoldWord where
  sr : Bool
  ovf : Bool
  u : Nat
  w : Nat
  wx : Nat
  y : Nat
  r : Nat
  deriving DecidableEq, Repr

/-- The data mover word of R251 (DM.COPY too, R344). -/
structure DmWord where
  sr : Bool
  ovf : Bool
  cond : Bool
  mode : Bool
  x : Nat
  y : Nat
  g : Nat
  cnt : Nat
  imm0 : Nat
  imm1 : Nat
  deriving DecidableEq, Repr

/-- The Lift word of R341 and R343. -/
structure LiftWord where
  tier : Nat
  place : Nat
  x : Nat
  die : Nat
  cl : Nat
  co : Nat
  deadline : Nat
  cid : Nat
  token : Nat
  deriving DecidableEq, Repr

/-- The copy-with-collective word of R512. -/
structure CcWord where
  sr : Bool
  ovf : Bool
  x : Nat
  y : Nat
  cp : Nat
  deriving DecidableEq, Repr

/-! Records that commands carry -/

/-- A firmware image: the header of R686 and the bytes from 0x200 on. -/
structure FwImage where
  magic : Nat
  format : Nat
  securityVersion : Nat
  firmwareVersion : Nat
  imageBytes : Nat
  digest : List Byte
  vendorKey : List Byte
  ownerKey : List Byte
  vendorSignature : List Byte
  ownerSignature : List Byte
  body : List Byte
  deriving DecidableEq, Repr

/-- A key slot (R705, 0xB010): hash, role code, tenant index, valid. -/
structure KeySlot where
  hash : List Byte
  role : Nat
  tenant : Nat
  valid : Bool
  deriving DecidableEq, Repr

/-- One die's telemetry sample (spec/01, "How the governor keeps the limits"): junction temperature in 0.01 C and power
in mW. -/
structure DieSample where
  die : Nat
  temp : Int
  powerMw : Nat
  valid : Bool := true
  deriving DecidableEq, Repr

/-- A beat frame (R45, R52, R56): term, master, cadence time at which the beat began, the gate period in force, the
period to come and its first beat (0 for none), and the port it came by. -/
structure BeatFrame where
  term : Nat
  master : Nat
  cad : Nat
  period : Nat
  nextPeriod : Nat
  nextBeat : Nat
  port : Nat
  deriving DecidableEq, Repr

/-- One tensor map entry as software writes it (R316): the fields marked RW. -/
structure MapEntry where
  base : Nat
  sizeLines : Nat
  tensorId : Nat
  tenant : Nat
  homeTier : Nat
  homeDie : Nat
  pinned : Bool
  shared : Bool
  versioned : Bool
  placeKind : Nat
  placeCluster : Nat
  placeCore : Nat
  shareMask : Nat
  deriving DecidableEq, Repr

/-- A received block as the decoder releases it (R412, R413): whether a row codeword that includes it still has a non-zero syndrome, the
bytes of its lane frame (R411, R415) and the bits corrected. -/
structure LaneBlock where
  syndrome : Bool
  bytes : List Byte
  correctedBits : Nat
  deriving DecidableEq, Repr

/-- What one laser measured in a 100 us window (R426): launch power in 0.01 dB, corrected and received bits, uncorrected
blocks. -/
structure LaserWindow where
  laser : Nat
  powerCdb : Int
  correctedBits : Nat
  receivedBits : Nat
  uncorrectedBlocks : Nat
  deriving DecidableEq, Repr

/-- An identity record (R443). -/
structure IdRecord where
  major : Nat
  minor : Nat
  serialDigest : Nat
  chip : Nat
  physicalPort : Nat
  logicalPort : Nat
  lane : Nat
  channel : Nat
  expectedChip : Nat
  expectedPort : Nat
  drawingId : Nat
  flags : Nat
  deriving DecidableEq, Repr

/-- What a wax calibration measured (R432, R434, R437, R461): the rate in 16-QAM on the link in parts per 10^9, whether
the launch power lies within 3 dB of manufacture, the loop delay in ps and the heater margin in 0.01 C. -/
structure WaxResult where
  ratePpb : Nat
  powerGood : Bool
  loopDelayPs : Nat
  heaterMargin : Int
  deriving DecidableEq, Repr

/-- A packet's header (R473) and payload. -/
structure Packet where
  ptype : Nat
  flags : Nat
  dest : Nat
  source : Nat
  channel : Nat
  tenant : Nat
  sequence : Nat
  epoch : Nat
  drawingId : Nat
  hops : Nat
  replySlot : Nat
  deadline : Nat
  address : Nat
  ackSequence : Nat
  payload : List Byte
  deriving DecidableEq, Repr

/-- An axis record of a drawing (R464). -/
structure AxisRec where
  axisId : Nat
  kind : Nat
  length : Nat
  coordinate : Nat
  nextChip : Nat
  prevChip : Nat
  cut : Nat
  tenant : Nat
  deriving DecidableEq, Repr

/-- A lane entry of a drawing (R465). -/
structure LaneEntry where
  port : Nat
  lane : Nat
  channel : Nat
  axis : Nat
  backward : Bool
  noAxis : Bool
  tenant : Nat
  txChip : Nat
  rxChip : Nat
  deriving DecidableEq, Repr

/-- A drawing (R463). -/
structure Drawing where
  drawingId : Nat
  chip : Nat
  axes : List AxisRec
  lanes : List LaneEntry
  deriving DecidableEq, Repr

/-- Where a run stands in its instance (R517 to R520): its chunk, its stage (0 reduces along axis a or a table's ring, 1 along
axis b, 2 gathers along b, 3 along a), the rank whose piece it belongs to, its direction, the rank or ring place whose data it
carries unreduced, and the run within the piece. -/
structure RunKey where
  chunk : Nat
  stage : Nat
  piece : Nat
  backward : Bool
  origin : Nat
  run : Nat
  deriving DecidableEq, Repr

/-- A collective run (R520): the fields of its run tag, the peer it comes from, the epoch and drawing it was sent under, its place,
its elements (exchange integers for FX, none in a chunk that is not a number; element bits for native), and for rows (R531, R532)
the row count and the sender's format and extents. -/
structure Run where
  peer : Nat
  epoch : Nat
  drawingId : Nat
  tenant : Nat
  plan : Nat
  inst : Nat
  step : Nat
  key : RunKey
  phase : Nat
  retry : Bool
  eBound : Nat
  x : Nat
  elems : List (Option Int)
  rows : Nat
  shape : List Nat
  deriving DecidableEq, Repr

/-- A ledger message (R574). -/
structure LedgerMsg where
  kind : Nat
  veto : Bool
  mismatch : Bool
  hasProposal : Bool
  voted : Bool
  commitHeld : Bool
  commitApplied : Bool
  attempt : Nat
  jobEpoch : Nat
  step : Nat
  jobId : Nat
  sender : Nat
  voters : Nat
  causes : Nat
  findings : Nat
  proposal : Nat
  commitGate : Nat
  nonfinite : Nat
  loss : Nat
  gradNorm : Nat
  agreement : List Byte
  deriving DecidableEq, Repr

/-- The totals of one instruction for its Judges slot (R289): classes (R113), maximum (R290), empty products (R147). -/
structure Counts where
  total : Nat
  zero : Nat
  underflow : Nat
  saturated : Nat
  nonfinite : Nat
  maxMag : Nat
  empty : Nat
  deriving DecidableEq, Repr

/-- A Patrol beacon (R588). -/
structure Beacon where
  chip : Nat
  life : Nat
  epoch : Nat
  digest : List Byte
  status : Nat
  deriving DecidableEq, Repr

/-- A mirror table entry as software writes it (R600). -/
structure MirrorSpec where
  localBase : Nat
  buddyChip : Nat
  buddyBase : Nat
  role : Nat
  tensorId : Nat
  deriving DecidableEq, Repr

/-- A block's fault report (R620, R622): class, cause, reporter and master identifiers, access type, partition, address,
the work's tenant, context and step where it reaches work, and the injected bit. -/
structure FaultRep where
  cls : Nat
  cause : Nat
  reporter : Nat
  master : Nat
  access : Nat
  partition : Nat
  address : Nat
  work : Option (Nat × Nat × Nat)
  injected : Bool
  deriving DecidableEq, Repr

/-- Where in a core an error of a fault report lies, beside memory (R126, R208): an accumulator entry by row and column, a weight plane of a
partition (0 A, 1 B), or a side-memory entry. -/
inductive ErrSite where
  | elsewhere
  | accumulator (row col : Nat)
  | plane (part which : Nat)
  | side (entry : Nat)
  deriving DecidableEq, Repr

/-- What every message of an open session carries beside its content (R653, R662): the GDP version, session, sequence, the 32 bytes of its
tag, the network, the peer's address and the request id. -/
structure Envelope where
  version : Nat
  session : Nat
  sequence : Nat
  tag : List Byte
  net : Nat
  peer : Nat
  requestId : Nat
  deriving DecidableEq, Repr

/-- An object's name (R640). -/
structure ObjRef where
  index : Nat
  sub : Nat
  deriving DecidableEq, Repr

/-- One WRITE item (R654). -/
structure WriteItem where
  obj : ObjRef
  value : List Byte
  deriving DecidableEq, Repr

/-- One WRITE_SEG item (R654). -/
structure SegItem where
  obj : ObjRef
  offset : Nat
  total : Nat
  data : List Byte
  deriving DecidableEq, Repr

/-- An Ethernet frame as a port sees it (R709, R712, R713, R720): neighbour discovery (IPv6 or ARP) from a peer for a target address, an
echo request for a target address, UDP to a port other than RoCEv2's, RoCEv2 to a queue pair, marked CE or not, a global PAUSE, one
whose codeword the error correction could not mend (R729), and everything else. -/
inductive EthKind where
  | neighbour (solicit : Bool) (peer target : Nat)
  | echo (target : Nat)
  | udp (port : Nat)
  | roce (qp : Nat) (ce : Bool)
  | globalPause
  | uncorrected
  | other
  deriving DecidableEq, Repr

/-- A qp_table record's written fields (R731). -/
structure QpSpec where
  state : Nat
  remoteQpn : Nat
  primary : Nat
  alternate : Nat
  altValid : Bool
  remoteAddress : Nat
  sendPsn : Nat
  receivePsn : Nat
  tenant : Nat
  retryCount : Nat
  timeoutUs : Nat
  deriving DecidableEq, Repr

/-- The limits of R66 that end in a stop. -/
inductive StopLimit where
  | under24
  | rideTotal
  | rideLength
  | over42
  deriving DecidableEq, Repr

/-- What a beat frame and a far end's echo measured of a path (R46, R47), in ps: the time from the sending of the upstream's frame to its
arrival, and that of the way back on an inter-rack port. -/
structure Flight where
  flightPs : Int
  returnPs : Int
  deriving DecidableEq, Repr

/-- The strongest of the four tones in the light a lane's monitor receives, and in the light its rings pass (R423). -/
structure Tones where
  heard : Nat
  passed : Nat
  deriving DecidableEq, Repr

/-- An identity frame (R443): the epoch in its link fields and its record. -/
structure IdFrame where
  epoch : Nat
  record : IdRecord
  deriving DecidableEq, Repr

/-- A packet of an end point on a die (R23, R473). -/
structure DiePacket where
  die : Nat
  packet : Packet
  deriving DecidableEq, Repr

/-- A buddy's copy of an entry's buffer, where it sends one, and its digest (R604, R605). -/
structure BuddyCopy where
  copied : List Byte
  digest : List Byte
  deriving DecidableEq, Repr

/-- A fault report, and where in a core its error lies (R126, R208, R622). -/
structure SiteFault where
  rep : FaultRep
  site : ErrSite
  deriving DecidableEq, Repr

/-- What a block's pair of error lines, true line first, showed in some cycles, oldest first (R616). -/
structure PairCycles where
  unit : Nat
  cycles : List (Bool × Bool)
  deriving DecidableEq, Repr

/-- How an Ethernet frame arrived (R712, R713): its VLAN and priority, and the bytes its priority's buffer then holds, none where the frame
found that buffer full. -/
structure EthTag where
  vlan : Nat
  priority : Nat
  fill : Option Nat
  deriving DecidableEq, Repr

/-- The commands of the block. Operands named `core` are global core indices (0-511), `ctx` contexts (0-3), `sess` a
GDP session id, `n` a tenant (0-15), `die` a die index, `port` a fabric port (0-15), `laser` 0-8. -/
inductive Instr where
  -- start-up, identity, security (spec/19)
  | powerGood
  | powerLoss
  | bootStageComplete (stage : Nat) (failedUnit : Option Nat) (failedCores : List Nat)
  | coreReset (sess : Nat)
  | packageReset (sess : Nat)
  | drainEnd
  | firmwareUpdate (sess : Nat) (img : FwImage)
  | flashWriteComplete (ok : Bool)
  | rollbackCommit (sess value : Nat)
  | ownerKeyFuse (sess : Nat) (hash : List Byte)
  | keySlotWrite (sess slot : Nat) (ks : KeySlot)
  | attestationNonce (sess : Nat) (nonce : List Byte)
  -- supply, envelope, governor, thermal (spec/01, 02, 10, 20)
  | supplySample (mv maA maB : Nat)
  | rideThroughEnd
  | supplyStopTimeout (limit : StopLimit)
  | bladeImbalance
  | coolantInletHigh (inlet outlet : Int)
  | governorSample (samples : List DieSample)
  | telemetryInvalid (die : Nat)
  | telemetryValidRestore (die : Nat)
  | thermalThrottle (die : Nat) (temp : Int)
  | throttleStep (die : Nat)
  | clockRequestWrite (sess die mhz : Nat)
  | memoryThermalHalve (die unit : Nat) (temp : Int)
  | memoryRateRestore (die unit : Nat) (temp : Int)
  | envelopeCommit (sess value : Nat)
  -- cadence (spec/02)
  | beatFrameReceive (f : BeatFrame)
  | cadenceDelayMeasurement (m : Flight)
  | cadenceLock
  | upstreamTimeout (upstream : Nat)
  | holdoverExpiry
  | cadenceRoleWrite (sess value : Nat)
  | gatePeriodWrite (sess value : Nat)
  | gatePeriodChange
  | beat
  | arbiterCommitNow (sess : Nat)
  | arbiterCommitGate (sess : Nat)
  | flitCrcFail (link dir : Nat)
  -- matrix (spec/04, 05, 14)
  | mma (core ctx : Nat) (w : MmaWord)
  | matrixInstructionComplete (core part : Nat)
  | sharedLogicFault (core : Nat)
  | mmode (core ctx mode : Nat)
  | mmodeApply (core : Nat)
  | mmaRs (core ctx : Nat) (w : MmaWord)
  | mmaAg (core ctx : Nat) (w : MmaWord)
  | mmaAr (core ctx : Nat) (w : MmaWord)
  | mmaA2a (core ctx : Nat) (w : MmaWord)
  | mmaSend (core ctx : Nat) (w : MmaWord)
  | partitionSwitch (core part : Nat)
  -- scalar and control (spec/11)
  | nop (core ctx : Nat) (w : ScalarWord)
  | wait (core ctx : Nat) (w : ScalarWord)
  | yield (core ctx : Nat) (w : ScalarWord)
  | yieldTimeout (core ctx : Nat)
  | vlaunch (core ctx : Nat) (w : ScalarWord)
  | kernelComplete (core ctx token : Nat)
  | endWork (core ctx : Nat) (w : ScalarWord)
  | workComplete (core ctx : Nat)
  | publish (core ctx : Nat) (w : ScalarWord)
  | br (core ctx : Nat) (w : ScalarWord)
  | brz (core ctx : Nat) (w : ScalarWord)
  | brnz (core ctx : Nat) (w : ScalarWord)
  | sadd (core ctx : Nat) (w : ScalarWord)
  | ssub (core ctx : Nat) (w : ScalarWord)
  | smul (core ctx : Nat) (w : ScalarWord)
  | sand (core ctx : Nat) (w : ScalarWord)
  | sor (core ctx : Nat) (w : ScalarWord)
  | sxor (core ctx : Nat) (w : ScalarWord)
  | sshl (core ctx : Nat) (w : ScalarWord)
  | sshr (core ctx : Nat) (w : ScalarWord)
  | ssra (core ctx : Nat) (w : ScalarWord)
  | sslt (core ctx : Nat) (w : ScalarWord)
  | ssltu (core ctx : Nat) (w : ScalarWord)
  | reservedOpcode (core ctx op : Nat) (inKernel : Bool)
  -- threads (spec/06): the instruction of one thread group
  | threadLoad (core group : Nat) (w : ThreadWord)
  | vldI (core group : Nat) (w : ThreadWord)
  | threadStore (core group : Nat) (int : Bool) (w : ThreadWord)
  | vadd (core group : Nat) (w : ThreadWord)
  | vmul (core group : Nat) (w : ThreadWord)
  | vfma (core group : Nat) (w : ThreadWord)
  | vdiv (core group : Nat) (w : ThreadWord)
  | vsqrt (core group : Nat) (w : ThreadWord)
  | vrcp (core group : Nat) (w : ThreadWord)
  | vrsq (core group : Nat) (w : ThreadWord)
  | vexp (core group : Nat) (w : ThreadWord)
  | vlog (core group : Nat) (w : ThreadWord)
  | vexp2 (core group : Nat) (w : ThreadWord)
  | vlog2 (core group : Nat) (w : ThreadWord)
  | vsin (core group : Nat) (w : ThreadWord)
  | vcos (core group : Nat) (w : ThreadWord)
  | vtanh (core group : Nat) (w : ThreadWord)
  | vsigm (core group : Nat) (w : ThreadWord)
  | verf (core group : Nat) (w : ThreadWord)
  | vgelu (core group : Nat) (w : ThreadWord)
  | vredAdd (core group : Nat) (w : ThreadWord)
  | vredMax (core group : Nat) (w : ThreadWord)
  | vredMin (core group : Nat) (w : ThreadWord)
  | vbcast (core group : Nat) (w : ThreadWord)
  | vbar (core group : Nat) (w : ThreadWord)
  | vexit (core group : Nat) (w : ThreadWord)
  -- row engine and optimiser (spec/06, 08)
  | rnormF (core ctx : Nat) (w : RowWord)
  | rnormB (core ctx : Nat) (w : RowWord)
  | rnormP (core ctx : Nat) (w : RowWord)
  | rsmaxF (core ctx : Nat) (w : RowWord)
  | rsmaxB (core ctx : Nat) (w : RowWord)
  | rupdAm (core ctx : Nat) (w : UpdWord)
  | rupdMom (core ctx : Nat) (w : UpdWord)
  | rupdSgn (core ctx : Nat) (w : UpdWord)
  | rfold (core ctx : Nat) (w : FoldWord)
  -- data mover (spec/07, 10)
  | dmCopy (core ctx : Nat) (w : DmWord)
  | dmXpose (core ctx : Nat) (w : DmWord)
  | dmKeep (core ctx : Nat) (w : DmWord)
  | dmGate (core ctx : Nat) (w : DmWord)
  | aspush (core ctx : Nat) (w : DmWord)
  | aspop (core ctx : Nat) (w : DmWord)
  | dmFold (core ctx : Nat) (w : DmWord)
  | liftClaim (core ctx : Nat) (w : LiftWord)
  | liftDrop (core ctx : Nat) (w : LiftWord)
  -- copies with collective (spec/14)
  | ccAr (core ctx : Nat) (w : CcWord)
  | ccRs (core ctx : Nat) (w : CcWord)
  | ccAg (core ctx : Nat) (w : CcWord)
  | ccA2a (core ctx : Nat) (w : CcWord)
  | ccBcast (core ctx : Nat) (w : CcWord)
  | ccRecv (core ctx : Nat) (w : CcWord)
  -- Lift and memory (spec/10)
  | liftMoveStart (die : Nat)
  | liftMoveCommit (move : Nat)
  | liftCommitAck (move : Nat)
  | backgroundScrubRead (alloc line errors : Nat)
  | hbmRecalibration
  | deepSelfRefresh
  | tensorMapWrite (sess n : Nat) (entries : List MapEntry)
  | versionWriteResume (core ctx : Nat)
  | tagWaitEnd (core ctx : Nat)
  -- tenants, images, queues (spec/11, 19)
  | tenantAdmit (sess n : Nat)
  | tenantRelease (sess n : Nat)
  | tenantReset (sess n : Nat)
  | tenantFree (n : Nat)
  | tenantZeroingDone (n : Nat)
  | imageLoad (sess n slot : Nat) (image : List Byte)
  | imageClear (sess n slot value : Nat)
  | tailDoorbell (q tail : Nat)
  | descriptorAccept (q : Nat)
  | dispatch (env : Envelope) (q index : Nat) (desc : List Byte)
  | descriptorPlace (q : Nat)
  | completionPull (sess q : Nat)
  | completionHead (q sequence : Nat)
  | queueEnable (sess q : Nat) (config : List Byte)
  | queueDisable (sess q : Nat)
  | workAbortComplete (work : Nat)
  -- optical ports (spec/12)
  | laneFrameReceive (port laser : Nat) (b : LaneBlock)
  | edgeLockUpdate (port laser ring : Nat) (monitorError : Int)
  | heaterRangeLoss (port laser : Nat)
  | toneCorrelation (port laser : Nat) (tones : Tones) (wordOk : Bool)
  | relockComplete (port laser : Nat) (ok : Bool)
  | alignmentLoss (port laser : Nat)
  | alignmentReturn (port laser : Nat)
  | alignmentLossDrop (port laser : Nat)
  | marginWindowEnd (port : Nat) (windows : List LaserWindow)
  | farEndReport (port laser ratePpb : Nat)
  | farEndReportTimeout (port laser : Nat)
  | swapConfirm (port : Nat)
  | swapAbandon (port : Nat)
  | spareHoldbackEnd (port : Nat)
  | spareTakeoverComplete (port : Nat)
  | waxCalibrationEnd (port laser : Nat) (r : WaxResult)
  | laneTrainingEnd (port laser rate16Ppb rate4Ppb : Nat)
  | laneBringupRetry (port laser : Nat)
  | identityFrame (port laser : Nat) (f : IdFrame)
  | portRemapWrite (sess : Nat) (remap : List Nat)
  -- fabric (spec/13)
  | chipNumberWrite (sess value : Nat)
  | drawingWrite (sess slot : Nat) (d : Drawing)
  | slalomArm (sess : Nat)
  | packetInject (d : DiePacket)
  | packetForward (port : Nat) (p : Packet)
  | packetReceive (d : DiePacket) (crc : Nat)
  | ackReceive (p : Packet)
  | nakReceive (p : Packet)
  | resendTimeout (dest channel : Nat)
  | pathAReturn (dest channel : Nat)
  | streamRelease (dest channel : Nat)
  | heldPacketTimeout (source channel sequence : Nat)
  | creditReturn (port cls count : Nat)
  | creditReturnTimer (port : Nat)
  | departureNotice (chip : Nat)
  -- collectives (spec/14)
  | runSend (n plan inst chunk peer : Nat)
  | runReceive (r : Run)
  | bufferPost (n plan peer count : Nat)
  | retryNotice (n plan inst chunk x : Nat)
  | collectiveTokenDone (n plan inst : Nat)
  | feedReceive (n localBase step offset : Nat) (data : List Byte)
  | collectiveHold (sess n : Nat)
  | collectiveHoldEnd (sess n : Nat)
  | holdBeacon (n : Nat)
  | holdBeaconReceive (chip epoch plan inst : Nat)
  | holdSuspensionExpiry (chip : Nat)
  | holdLimitExpiry (n : Nat)
  | withdrawalReceive (n chip plan inst : Nat)
  | collectiveStall (n plan inst : Nat)
  -- sketch engine (spec/15)
  | sketchBlockProject (engine : Nat) (outputs : List Nat)
  | sketchCalibrationEnd (engine : Nat) (sigmas gains : List Nat) (orthoError : Nat)
  -- step ledger (spec/16)
  | stepClose (sess n step : Nat)
  | vote (n : Nat)
  | voteReceive (m : LedgerMsg)
  | commitReceive (m : LedgerMsg)
  | abortReceive (m : LedgerMsg)
  | ledgerAckReceive (m : LedgerMsg)
  | ledgerResend (n : Nat)
  | stateQueryReceive (m : LedgerMsg)
  | stateReportReceive (m : LedgerMsg)
  | abortRequest (sess n step : Nat)
  | abortRequestReceive (m : LedgerMsg)
  | voteTimeout (n : Nat)
  -- Judges (spec/09)
  | judgesReport (n slot step unit : Nat) (gradient noStep : Bool) (c : Counts)
  | lossWrite (sess n step value : Nat)
  | gradWrite (sess n step value : Nat)
  | statsReset (sess n value : Nat)
  | slotCheckFail (slot : Nat)
  -- members, Patrol, mirrors (spec/16)
  | ledgerMembersWrite (sess n : Nat) (members : List Nat)
  | beaconSend (lane : Nat)
  | beaconReceive (lane : Nat) (b : Beacon)
  | suspectTimeout (lane : Nat)
  | probeSend (lane : Nat)
  | probeReceive (chip : Nat) (pathB : Bool)
  | probeAnswerReceive (lane : Nat)
  | deadVerdict (lane : Nat)
  | lifeChangeReceive (changes : List (Nat × Nat))
  | memberRejoin (sess chip : Nat)
  | fenceRequest (sess chip : Nat)
  | mirrorTableWrite (sess n : Nat) (entries : List MirrorSpec)
  | mirrorPopulate (sess n : Nat) (buddyVersion : Nat) (buddyStepOpen : Bool)
  | mirrorDigestReceive (n index : Nat) (c : BuddyCopy)
  | mirrorVerify (sess n : Nat) (buddyVersion : Nat) (buddyStepOpen : Bool)
  -- faults and perturbation (spec/17)
  | faultReport (f : SiteFault)
  | wiringFault (w : PairCycles)
  | watchdogExpiry (proc : Nat)
  | testModeWrite (sess value : Nat)
  | perturbStop (sess value : Nat)
  | memoryInject (sess address kind : Nat)
  -- the dictionary protocol (spec/18)
  | read (env : Envelope) (items : List ObjRef)
  | describe (env : Envelope) (items : List ObjRef)
  | write (env : Envelope) (items : List WriteItem)
  | readSeg (env : Envelope) (obj : ObjRef) (offset length : Nat)
  | writeSeg (env : Envelope) (item : SegItem)
  | clearIf (env : Envelope) (obj : ObjRef) (count : Nat)
  | subscribeAdd (env : Envelope) (obj : ObjRef)
  | subscribeRemove (env : Envelope) (obj : ObjRef)
  | subscribeAcknowledge (env : Envelope) (sequence : Nat)
  | hello (net peer keySlot : Nat) (rolePublicKey ephemeral nonce : List Byte)
  | proof (env : Envelope) (flags : Nat) (signature : List Byte)
  | close (env : Envelope)
  | sessionClose (sess value : Nat)
  | handshakeTimeout (session : Nat)
  | sessionIdleTimeout (sess : Nat)
  | segmentTimeout (sess : Nat) (obj : ObjRef)
  | eventResend (sess : Nat)
  | subscriptionDelivery (sess : Nat)
  | gdpPortChange
  | objectWrite (sess : Nat) (obj : ObjRef) (value : List Byte)
  -- Ethernet and RoCEv2 (spec/20)
  | ethLinkRetry (port : Nat) (ok : Bool)
  | ethFrameReceive (port : Nat) (tag : EthTag) (kind : EthKind)
  | neighbourTimeout (net peer : Nat)
  | addressChangeEffect (obj : ObjRef)
  | pauseReceive (port priority quanta : Nat)
  | qpTableWrite (sess qp : Nat) (spec : QpSpec)
  | rdmaWrite (qp psn rkey address : Nat) (data : List Byte)
  | rdmaRead (qp psn rkey address length : Nat)
  | rdmaSendReceive (qp psn : Nat)
  | roceAckReceive (qp psn : Nat) (rnr : Bool)
  | roceRetryTimeout (qp : Nat)
  | roceRnrRetry (qp : Nat)
  | cnpReceive (qp : Nat)
  | cnpRateRecovery (qp : Nat)
  | ethernetLinkDown (port : Nat)
  | pauseQuantaExpiry (port priority : Nat)
  | completionDelayEnd (work : Nat)
  | cumulativeAckTimer (source channel : Nat)
  | chunkLevelFinished (n plan inst level chunk : Nat)
  deriving DecidableEq, Repr

end Sys2Proof
end

