-- ==== Sys2Proof/Decode.lean ====
section
/-!
DEFINITION. The words of a context's stream (R158, R160, R199, R209, R215, R250, R251, R255, R279, R280, R340 to R343, R374, R375, R510,
R512): the command that a 128-bit word spells, and the fields of a thread instruction. Reserved bits are ignored (R12). The bits of
spec/opcode_table.json: the table gives no row any, since its rows are commands and events from outside.
-/

namespace Sys2Proof

/-- Bits hi down to lo of a word, as a number. -/
def wordBits (w hi lo : Nat) : Nat := w / 2 ^ lo % 2 ^ (hi + 1 - lo)

/-- A flag bit of a word. -/
def wordFlag (w i : Nat) : Bool := w / 2 ^ i % 2 == 1

/-- The opcode of a stream word (R215). -/
def opcodeOf (w : Nat) : Nat := wordBits w 127 118

/-- The scalar word (R375). -/
def ScalarWord.ofWord (w : Nat) : ScalarWord :=
  { immFlag := wordFlag w 117, sd := wordBits w 111 107, sa := wordBits w 106 102, sb := wordBits w 101 97, token := wordBits w 87 80,
    cnt := wordBits w 79 64, imm := wordBits w 63 0 }

/-- The MMA word (R158), with the plan number of a fused form (R510). -/
def MmaWord.ofWord (w : Nat) (fused : Bool) : MmaWord :=
  { acc := wordFlag w 117, out := wordFlag w 116, wt := wordFlag w 115, xt := wordFlag w 114, osr := wordFlag w 113,
    x := wordBits w 111 100, w := wordBits w 99 88, y := wordBits w 87 76, tout := wordBits w 75 64, tx := wordBits w 63 52,
    tw := wordBits w 51 40, osc := wordBits w 39 32, part := wordBits w 31 30, abase := wordBits w 29 19, lst := wordBits w 18 14,
    cp := if fused then wordBits w 13 4 else 0 }

/-- The row operation word (R209). -/
def RowWord.ofWord (w : Nat) : RowWord :=
  { mode := wordFlag w 117, bmask := wordFlag w 116, sr := wordFlag w 115, ovf := wordFlag w 114, psrc := wordFlag w 113,
    x := wordBits w 111 100, y := wordBits w 99 88, g := wordBits w 87 76, b := wordBits w 75 64, sbase := wordBits w 63 48,
    imm := wordBits w 47 16, ofs := wordBits w 15 0 }

/-- The update word (R279). -/
def UpdWord.ofWord (w : Nat) : UpdWord :=
  { dw := wordFlag w 117, nes := wordFlag w 116, sr := wordFlag w 115, ovf := wordFlag w 114, g := wordBits w 111 100,
    w := wordBits w 99 88, wx := wordBits w 87 76, m1 := wordBits w 75 64, m2 := wordBits w 63 52, u := wordBits w 51 40,
    h := wordBits w 39 28, r := wordBits w 27 16 }

/-- The RFOLD word (R280). -/
def FoldWord.ofWord (w : Nat) : FoldWord :=
  { sr := wordFlag w 115, ovf := wordFlag w 114, u := wordBits w 111 100, w := wordBits w 99 88, wx := wordBits w 87 76,
    y := wordBits w 75 64, r := wordBits w 63 52 }

/-- The data mover word (R251, R344). -/
def DmWord.ofWord (w : Nat) : DmWord :=
  { sr := wordFlag w 117, ovf := wordFlag w 116, cond := wordFlag w 115, mode := wordFlag w 114, x := wordBits w 111 100,
    y := wordBits w 99 88, g := wordBits w 87 76, cnt := wordBits w 75 64, imm0 := wordBits w 63 32, imm1 := wordBits w 31 0 }

/-- The Lift word (R341, R343). -/
def LiftWord.ofWord (w : Nat) : LiftWord :=
  { tier := wordBits w 117 116, place := wordBits w 115 114, x := wordBits w 111 100, die := wordBits w 99 97, cl := wordBits w 96 94,
    co := wordBits w 93 91, deadline := wordBits w 87 64, cid := wordBits w 63 48, token := wordBits w 47 40 }

/-- The copy-with-collective word (R512). -/
def CcWord.ofWord (w : Nat) : CcWord :=
  { sr := wordFlag w 117, ovf := wordFlag w 116, x := wordBits w 111 100, y := wordBits w 99 88, cp := wordBits w 13 4 }

/-- The thread instruction word (R199). R203 names no opcode for a mnemonic, so a word gives the fields alone. -/
def ThreadWord.ofWord (w : Nat) : ThreadWord :=
  { pred := wordBits w 117 116, pneg := wordFlag w 115, sr := wordFlag w 114, ovf := wordFlag w 113, d := wordBits w 111 100,
    a := wordBits w 99 88, b := wordBits w 87 76, c := wordBits w 75 64, imm := wordBits w 63 32 }

/-- The scalar and control instruction of an opcode (R374). -/
def decodeScalar (core ctx op : Nat) (w : ScalarWord) : Option Instr :=
  match op with
  | 0x000 => some (.nop core ctx w)
  | 0x001 => some (.wait core ctx w)
  | 0x002 => some (.yield core ctx w)
  | 0x003 => some (.vlaunch core ctx w)
  | 0x004 => some (.endWork core ctx w)
  | 0x005 => some (.publish core ctx w)
  | 0x008 => some (.br core ctx w)
  | 0x009 => some (.brz core ctx w)
  | 0x00A => some (.brnz core ctx w)
  | 0x010 => some (.sadd core ctx w)
  | 0x011 => some (.ssub core ctx w)
  | 0x012 => some (.smul core ctx w)
  | 0x013 => some (.sand core ctx w)
  | 0x014 => some (.sor core ctx w)
  | 0x015 => some (.sxor core ctx w)
  | 0x016 => some (.sshl core ctx w)
  | 0x017 => some (.sshr core ctx w)
  | 0x018 => some (.ssra core ctx w)
  | 0x019 => some (.sslt core ctx w)
  | 0x01A => some (.ssltu core ctx w)
  | _ => none

/-- The data mover and Lift instructions (R250, R340). -/
def decodeMover (core ctx op w : Nat) : Option Instr :=
  match op with
  | 0x040 => some (.dmCopy core ctx (.ofWord w))
  | 0x041 => some (.liftClaim core ctx (.ofWord w))
  | 0x042 => some (.liftDrop core ctx (.ofWord w))
  | 0x048 => some (.dmXpose core ctx (.ofWord w))
  | 0x049 => some (.dmKeep core ctx (.ofWord w))
  | 0x04A => some (.dmGate core ctx (.ofWord w))
  | 0x04B => some (.aspush core ctx (.ofWord w))
  | 0x04C => some (.aspop core ctx (.ofWord w))
  | 0x04D => some (.dmFold core ctx (.ofWord w))
  | _ => none

/-- The matrix instructions and the copies with collective (R157, R160, R510, R512). -/
def decodeMatrix (core ctx op w : Nat) : Option Instr :=
  match op with
  | 0x080 => some (.mma core ctx (.ofWord w false))
  | 0x081 => some (.mmode core ctx (wordBits w 1 0))
  | 0x088 => some (.mmaRs core ctx (.ofWord w true))
  | 0x089 => some (.mmaAg core ctx (.ofWord w true))
  | 0x08A => some (.mmaAr core ctx (.ofWord w true))
  | 0x08B => some (.mmaA2a core ctx (.ofWord w true))
  | 0x08C => some (.mmaSend core ctx (.ofWord w true))
  | 0x090 => some (.ccAr core ctx (.ofWord w))
  | 0x091 => some (.ccRs core ctx (.ofWord w))
  | 0x092 => some (.ccAg core ctx (.ofWord w))
  | 0x093 => some (.ccA2a core ctx (.ofWord w))
  | 0x094 => some (.ccBcast core ctx (.ofWord w))
  | 0x095 => some (.ccRecv core ctx (.ofWord w))
  | _ => none

/-- The row engine's instructions (R207, R255). -/
def decodeRow (core ctx op w : Nat) : Option Instr :=
  match op with
  | 0x200 => some (.rnormF core ctx (.ofWord w))
  | 0x201 => some (.rnormB core ctx (.ofWord w))
  | 0x202 => some (.rnormP core ctx (.ofWord w))
  | 0x203 => some (.rsmaxF core ctx (.ofWord w))
  | 0x204 => some (.rsmaxB core ctx (.ofWord w))
  | 0x220 => some (.rupdAm core ctx (.ofWord w))
  | 0x221 => some (.rupdMom core ctx (.ofWord w))
  | 0x222 => some (.rupdSgn core ctx (.ofWord w))
  | 0x230 => some (.rfold core ctx (.ofWord w))
  | _ => none

/-- The command that a 128-bit word of a context's own stream spells (R215); an opcode that no chapter lists there is an instruction fault
(R157, R215, R216, R255, R340, R374, R512). -/
def decodeStream (core ctx w : Nat) : Instr :=
  let op := opcodeOf w
  let i := if op < 0x040 then decodeScalar core ctx op (.ofWord w)
    else if op < 0x080 then decodeMover core ctx op w
    else if op < 0x100 then decodeMatrix core ctx op w
    else decodeRow core ctx op w
  i.getD (.reservedOpcode core ctx op false)

/-- The command that a word of nbits bits spells by the opcode table: none, since no row of the table has bits. -/
def decodeTableWord (_nbits _w : Nat) : Option Instr := none

end Sys2Proof
end

