-- ==== Sys2Proof/Machine/Num.lean ====
section
/-!
DEFINITION. Exact numbers and their rounding: decoding and encoding the formats of R82 to R88, rounding to nearest and
stochastic rounding (R100, R172), overflow, underflow and classes (R101 to R103, R113), F32 arithmetic (R202) and the
generator of R174.
-/

namespace Sys2Proof.Machine

/-- A number: NaN, an infinity, or ± m × 2^e exactly; a zero keeps its sign. -/
inductive Num where
  | nan
  | inf (neg : Bool)
  | fin (neg : Bool) (m : Nat) (e : Int)
  deriving DecidableEq, Repr

/-- Positive zero. -/
def Num.zero : Num := .fin false 0 0

/-- An integer as a number. -/
def Num.ofInt (i : Int) : Num := .fin (decide (i < 0)) i.natAbs 0

/-- Multiply by 2^k, exactly. -/
def Num.scale (x : Num) (k : Int) : Num :=
  match x with
  | .fin s m e => .fin s m (e + k)
  | y => y

/-- Negate. -/
def Num.neg : Num → Num
  | .nan => .nan
  | .inf s => .inf (!s)
  | .fin s m e => .fin (!s) m e

/-- Magnitude. -/
def Num.abs : Num → Num
  | .nan => .nan
  | .inf _ => .inf false
  | .fin _ m e => .fin false m e

/-- Is the number finite? -/
def Num.isFin : Num → Bool
  | .fin _ _ _ => true
  | _ => false

/-- Is the number a zero? -/
def Num.isZero : Num → Bool
  | .fin _ 0 _ => true
  | _ => false

/-- The signed significand at a common exponent e0, which is at most e. -/
def alignTo (neg : Bool) (m : Nat) (e e0 : Int) : Int :=
  let v : Int := (m * 2 ^ (e - e0).toNat : Nat)
  if neg then -v else v

/-- Exact sum of two finite numbers; an exact zero is +0 unless both are -0 (IEEE 754-2019, R98). -/
def Num.add : Num → Num → Num
  | .nan, _ => .nan
  | _, .nan => .nan
  | .inf a, .inf b => if a = b then .inf a else .nan
  | .inf a, .fin _ _ _ => .inf a
  | .fin _ _ _, .inf b => .inf b
  | .fin a m e, .fin b n f =>
    let e0 := min e f
    let v := alignTo a m e e0 + alignTo b n f e0
    if v = 0 then .fin (a && b && m == 0 && n == 0) 0 0 else .fin (decide (v < 0)) v.natAbs e0

/-- Exact product. -/
def Num.mul : Num → Num → Num
  | .nan, _ => .nan
  | _, .nan => .nan
  | .inf a, .inf b => .inf (a != b)
  | .inf a, .fin b n _ => if n = 0 then .nan else .inf (a != b)
  | .fin a m _, .inf b => if m = 0 then .nan else .inf (a != b)
  | .fin a m e, .fin b n f => .fin (a != b) (m * n) (e + f)

/-- Strictly less, exactly; false with a NaN (R98). -/
def Num.lt : Num → Num → Bool
  | .nan, _ => false
  | _, .nan => false
  | .inf a, .inf b => a && !b
  | .inf a, .fin _ _ _ => a
  | .fin _ _ _, .inf b => !b
  | .fin a m e, .fin b n f => decide (alignTo a m e (min e f) < alignTo b n f (min e f))

/-- Equal in value; false with a NaN; +0 equals -0 (R98). -/
def Num.eq (x y : Num) : Bool :=
  match x, y with
  | .nan, _ => false
  | _, .nan => false
  | x, y => !x.lt y && !y.lt x

/-- The number is negative by its sign. -/
def Num.negSign : Num → Bool
  | .nan => false
  | .inf s => s
  | .fin s _ _ => s

/-- Maximum (R98): NaN with a NaN; max(+0, -0) = +0. -/
def Num.max (x y : Num) : Num :=
  match x, y with
  | .nan, _ => .nan
  | _, .nan => .nan
  | x, y => if x.lt y then y else if y.lt x then x else if x.negSign then y else x

/-- Minimum (R98): NaN with a NaN; min(+0, -0) = -0. -/
def Num.min (x y : Num) : Num :=
  match x, y with
  | .nan, _ => .nan
  | _, .nan => .nan
  | x, y => if x.lt y then x else if y.lt x then y else if x.negSign then x else y

/-! Rounding -/

/-- Round to nearest, or stochastically with the generator's 32 bits (R100, R172). -/
inductive Rnd where
  | nearest
  | stoch (u : Nat)
  deriving DecidableEq, Repr

/-- Drop k low bits of m, rounding. -/
def roundShift (r : Rnd) (m k : Nat) : Nat :=
  if k = 0 then m
  else
    let q := m / 2 ^ k
    let rest := m % 2 ^ k
    match r with
    | .nearest =>
      if 2 * rest > 2 ^ k ∨ (2 * rest = 2 ^ k ∧ q % 2 = 1) then q + 1 else q
    | .stoch u =>
      let d := if 32 ≤ k then rest / 2 ^ (k - 32) else rest * 2 ^ (32 - k)
      if u < d then q + 1 else q

/-- Round a magnitude m × 2^e to mb + 1 significant bits, on a grid no finer than 2^emin. Answers the significand and
its exponent. -/
def roundMag (r : Rnd) (mb : Nat) (emin : Int) (m : Nat) (e : Int) : Nat × Int :=
  if m = 0 then (0, emin)
  else
    let top := e + (Nat.log2 m : Int)
    let u := max (top - mb) emin
    if u ≤ e then (m * 2 ^ (e - u).toNat, u) else (roundShift r m (u - e).toNat, u)

/-- A floating format (R82, R85): exponent bits, mantissa bits, bias, largest finite code, NaN code if it has one, and
whether it has infinities. -/
structure FFmt where
  eb : Nat
  mb : Nat
  bias : Nat
  maxCode : Nat
  nan : Option Nat
  hasInf : Bool
  deriving DecidableEq, Repr

/-- The exponent of the subnormal grid. -/
def FFmt.emin (f : FFmt) : Int := 1 - (f.bias : Int) - (f.mb : Int)

/-- The floating formats of R82 by code. -/
def floatFmt : Nat → Option FFmt
  | 0x00 => some ⟨2, 1, 1, 0x7, none, false⟩
  | 0x01 => some ⟨2, 3, 1, 0x1F, none, false⟩
  | 0x02 => some ⟨3, 2, 3, 0x1F, none, false⟩
  | 0x03 => some ⟨4, 3, 7, 0x7E, some 0x7F, false⟩
  | 0x04 => some ⟨5, 2, 15, 0x7B, some 0x7E, true⟩
  | 0x09 => some ⟨8, 7, 127, 0x7F7F, some 0x7FC0, true⟩
  | 0x0A => some ⟨5, 10, 15, 0x7BFF, some 0x7E00, true⟩
  | 0x0B => some ⟨8, 23, 127, 0x7F7FFFFF, some 0x7FC00000, true⟩
  | _ => none

/-- The integer formats of R87: width and signedness. -/
def intFmt : Nat → Option (Nat × Bool)
  | 0x05 => some (4, true)
  | 0x06 => some (4, false)
  | 0x07 => some (8, true)
  | 0x08 => some (8, false)
  | _ => none

/-- Width of an element in bits (R82); 0 for a reserved code. -/
def fmtWidth : Nat → Nat
  | 0x00 => 4
  | 0x01 => 6
  | 0x02 => 6
  | 0x03 => 8
  | 0x04 => 8
  | 0x05 => 4
  | 0x06 => 4
  | 0x07 => 8
  | 0x08 => 8
  | 0x09 => 16
  | 0x0A => 16
  | 0x0B => 32
  | 0x0C => 32
  | 0x0D => 24
  | 0x0E => 8
  | _ => 0

/-- Format codes by name (R82). -/
def fmtU8 : Nat := 0x08
def fmtBF16 : Nat := 0x09
def fmtF16 : Nat := 0x0A
def fmtF32 : Nat := 0x0B
def fmtFX32 : Nat := 0x0C
def fmtFX24 : Nat := 0x0D
def fmtS8 : Nat := 0x0E

/-- Narrow formats (R84). -/
def isNarrow (c : Nat) : Bool := decide (c ≤ 0x08)

/-- The exchange formats (R84). -/
def isFx (c : Nat) : Bool := c == 0x0C || c == 0x0D

/-- The value of a floating element (R85, R86). -/
def FFmt.decode (f : FFmt) (w : Nat) : Num :=
  let neg := bit w (f.eb + f.mb)
  let ex := bits w f.mb f.eb
  let ma := bits w 0 f.mb
  if f.hasInf && ex == 2 ^ f.eb - 1 then if ma = 0 then .inf neg else .nan
  else if !f.hasInf && f.nan == some (bits w 0 (f.eb + f.mb)) then .nan
  else if ex = 0 then .fin neg ma f.emin
  else .fin neg (ma + 2 ^ f.mb) (f.emin + (ex : Int) - 1)

/-- The code of a significand and exponent on the format's grid, its exponent unbounded above. -/
def FFmt.magCode (f : FFmt) (m : Nat) (u : Int) : Nat :=
  let (m1, u1) := if 2 ^ (f.mb + 1) ≤ m then (m / 2, u + 1) else (m, u)
  if m1 < 2 ^ f.mb then m1 else (u1 - f.emin + 1).toNat * 2 ^ f.mb + (m1 - 2 ^ f.mb)

/-- The element classes of R113. -/
inductive Cls where
  | ordinary
  | zero
  | underflow
  | saturated
  | nonfinite
  deriving DecidableEq, Repr

/-- The sign bit in place. -/
def FFmt.signed (f : FFmt) (neg : Bool) (c : Nat) : Nat := (if neg then 2 ^ (f.eb + f.mb) else 0) + c

/-- The code of an infinity. -/
def FFmt.infCode (f : FFmt) : Nat := (2 ^ f.eb - 1) * 2 ^ f.mb

/-- Convert to a floating format (R100 to R103); `infMode` is the overflow mode of R101. -/
def FFmt.convert (f : FFmt) (r : Rnd) (infMode : Bool) (x : Num) : Nat × Cls :=
  match x with
  | .nan => ((match f.nan with | some c => c | none => 0), .nonfinite)
  | .inf s =>
    (if f.hasInf then f.signed s f.infCode
     else match f.nan with | some c => c | none => f.signed s f.maxCode, .nonfinite)
  | .fin s m e =>
    if m = 0 then (f.signed s 0, .zero)
    else
      let (q, u) := roundMag r f.mb f.emin m e
      if q = 0 then (0, .underflow)
      else
        let c := f.magCode q u
        if f.maxCode < c then
          if f.hasInf && infMode then (f.signed s f.infCode, .nonfinite) else (f.signed s f.maxCode, .saturated)
        else (f.signed s c, .ordinary)

/-- The integer nearest a finite number, or its stochastic rounding. -/
def roundInt (r : Rnd) (neg : Bool) (m : Nat) (e : Int) : Int :=
  let q := if 0 ≤ e then m * 2 ^ e.toNat else roundShift r m (-e).toNat
  if neg then -(q : Int) else (q : Int)

/-- Convert to an integer format (R100 to R103). -/
def intConvert (w : Nat) (sgn : Bool) (r : Rnd) (x : Num) : Nat × Cls :=
  let top : Int := if sgn then 2 ^ (w - 1) - 1 else 2 ^ w - 1
  let bot : Int := if sgn then -(2 ^ (w - 1)) else 0
  match x with
  | .nan => (0, .nonfinite)
  | .inf s => (wrapInt w (if s then bot else top), .nonfinite)
  | .fin s m e =>
    if m = 0 then (0, .zero)
    else
      let v := roundInt r s m e
      if v = 0 then (0, .underflow)
      else if top < v then (wrapInt w top, .saturated)
      else if v < bot then (wrapInt w bot, .saturated)
      else (wrapInt w v, .ordinary)

/-- Convert a number to an element of a format, unscaled (R100 to R103). -/
def convertElem (c : Nat) (r : Rnd) (infMode : Bool) (x : Num) : Nat × Cls :=
  match floatFmt c with
  | some f => f.convert r infMode x
  | none =>
    match intFmt c with
    | some (w, sg) => intConvert w sg r x
    | none => (0, .ordinary)

/-- The value of an unscaled element (R85, R87). -/
def decodeElem (c w : Nat) : Num :=
  match floatFmt c with
  | some f => f.decode w
  | none =>
    match intFmt c with
    | some (n, sg) => if sg then .ofInt (signedOf n w) else .fin false (w % 2 ^ n) 0
    | none => .zero

/-- The largest finite value of a format (R105). -/
def maxFinite (c : Nat) : Num :=
  match floatFmt c with
  | some f => f.decode f.maxCode
  | none =>
    match intFmt c with
    | some (n, sg) => .fin false (if sg then 2 ^ (n - 1) - 1 else 2 ^ n - 1) 0
    | none => .zero

/-- Is a magnitude at most another? -/
def leMag (m : Nat) (e : Int) (n : Nat) (f : Int) : Bool :=
  let e0 := min e f
  decide (m * 2 ^ (e - e0).toNat ≤ n * 2 ^ (f - e0).toNat)

/-- ⌈log2(A / V)⌉ for positive A and V (R105, R110). -/
def ceilLog2Ratio (ma : Nat) (ea : Int) (mv : Nat) (ev : Int) : Int :=
  let t := (ea + Nat.log2 ma) - (ev + Nat.log2 mv)
  if leMag ma ea mv (ev + t) then t else t + 1

/-- Clamp an integer. -/
def clampInt (lo hi x : Int) : Int := if x < lo then lo else if hi < x then hi else x

/-! F32 (R202) -/

/-- F32's layout. -/
def f32 : FFmt := ⟨8, 23, 127, 0x7F7FFFFF, some 0x7FC00000, true⟩

/-- An F32 word's value. -/
def ofF32 (w : Nat) : Num := f32.decode w

/-- Correctly rounded F32 of a number; an underflow of an operation keeps its sign (R202). -/
def toF32 (x : Num) : Nat :=
  match x with
  | .fin s m e =>
    let (q, u) := roundMag .nearest 23 f32.emin m e
    if q = 0 then f32.signed s 0
    else
      let c := f32.magCode q u
      if f32.maxCode < c then f32.signed s f32.infCode else f32.signed s c
  | y => (f32.convert .nearest true y).1

/-- F32 addition. -/
def fAdd (a b : Nat) : Nat := toF32 ((ofF32 a).add (ofF32 b))

/-- F32 negation. A NaN is canonical (R86). -/
def fNeg (a : Nat) : Nat := toF32 (ofF32 a).neg

/-- F32 subtraction. -/
def fSub (a b : Nat) : Nat := toF32 ((ofF32 a).add (ofF32 b).neg)

/-- F32 multiplication. -/
def fMul (a b : Nat) : Nat := toF32 ((ofF32 a).mul (ofF32 b))

/-- F32 fused multiply-add, one rounding. -/
def fFma (a b c : Nat) : Nat := toF32 (((ofF32 a).mul (ofF32 b)).add (ofF32 c))

/-- The exact quotient with enough bits and a sticky bit to round correctly. -/
def Num.div : Num → Num → Num
  | .nan, _ => .nan
  | _, .nan => .nan
  | .inf _, .inf _ => .nan
  | .inf a, .fin b _ _ => .inf (a != b)
  | .fin a _ _, .inf b => .fin (a != b) 0 0
  | .fin a m e, .fin b n f =>
    if n = 0 then if m = 0 then .nan else .inf (a != b)
    else if m = 0 then .fin (a != b) 0 0
    else
      let k := 32 + Nat.log2 n - Nat.log2 m
      let num := m * 2 ^ k
      let sticky := if num % n = 0 then 0 else 1
      .fin (a != b) (2 * (num / n) + sticky) (e - f - k - 1)

/-- F32 division, correctly rounded. -/
def fDiv (a b : Nat) : Nat := toF32 ((ofF32 a).div (ofF32 b))

/-- The integer square root, by bits from the k-th down. -/
def isqrtLoop (n : Nat) : Nat → Nat → Nat
  | 0, r => r
  | k + 1, r =>
    let r1 := r + 2 ^ k
    if r1 * r1 ≤ n then isqrtLoop n k r1 else isqrtLoop n k r

/-- The integer square root of a number below 2^128. -/
def isqrt (n : Nat) : Nat := isqrtLoop n 64 0

/-- The square root with enough bits and a sticky bit. -/
def Num.sqrt : Num → Num
  | .nan => .nan
  | .inf s => if s then .nan else .inf false
  | .fin s m e =>
    if m = 0 then .fin s 0 0
    else if s then .nan
    else
      let k := 64 - Nat.log2 m
      let k2 := if (e - k) % 2 = 0 then k else k + 1
      let n := m * 2 ^ k2
      let r := isqrt n
      .fin false (2 * r + (if r * r = n then 0 else 1)) ((e - k2) / 2 - 1)

/-- F32 square root, correctly rounded. -/
def fSqrt (a : Nat) : Nat := toF32 (ofF32 a).sqrt

/-- F32 maximum and minimum (R98, R86). -/
def fMax (a b : Nat) : Nat := toF32 ((ofF32 a).max (ofF32 b))
def fMin (a b : Nat) : Nat := toF32 ((ofF32 a).min (ofF32 b))

/-- F32 comparisons (R98). -/
def fLt (a b : Nat) : Bool := (ofF32 a).lt (ofF32 b)
def fEq (a b : Nat) : Bool := (ofF32 a).eq (ofF32 b)
def fLe (a b : Nat) : Bool := (ofF32 a).lt (ofF32 b) || (ofF32 a).eq (ofF32 b)

/-- Is an F32 word finite? -/
def fFinite (a : Nat) : Bool := (ofF32 a).isFin

/-- Canonical NaN and one. -/
def fNaN : Nat := 0x7FC00000
def fOne : Nat := 0x3F800000

/-- The index tree of R176 with an addition: one level. -/
def treeLevel {α : Type} (add : α → α → α) : List α → List α
  | a :: b :: rest => add a b :: treeLevel add rest
  | l => l

/-- The levels until one value is left. -/
def treeLoop {α : Type} (add : α → α → α) : Nat → List α → List α
  | 0, l => l
  | k + 1, l =>
    match l with
    | a :: b :: rest => treeLoop add k (treeLevel add (a :: b :: rest))
    | l => l

/-- index_tree of R176; z is the sum of no values. -/
def indexTree {α : Type} (add : α → α → α) (z : α) (l : List α) : α :=
  match treeLoop add l.length l with
  | a :: _ => a
  | [] => z

/-- F32 sums over an index tree (R176, R205). -/
def fTree (l : List Nat) : Nat := indexTree fAdd 0 l

/-! The generator (R174, R175) -/

/-- mix of R174. -/
def mix (z : Nat) : Nat :=
  let z1 := ((z ^^^ (z >>> 30)) * 0xBF58476D1CE4E5B9) % 2 ^ 64
  let z2 := ((z1 ^^^ (z1 >>> 27)) * 0x94D049BB133111EB) % 2 ^ 64
  z2 ^^^ (z2 >>> 31)

/-- random32 of R174. -/
def random32 (seed stage tensorId row column pass : Nat) : Nat :=
  let x2 := (row % 2 ^ 32) * 2 ^ 32 + column % 2 ^ 32
  let x1 := (tensorId % 2 ^ 32) * 2 ^ 32 + ((stage % 16) * 2 ^ 28) + pass % 2 ^ 28
  mix (seed ^^^ mix (x1 ^^^ mix x2)) / 2 ^ 32

/-- The step seed of a step number (R175). -/
def stepSeed (jobSeed step : Nat) : Nat := mix (jobSeed ^^^ mix step)

end Sys2Proof.Machine
end

