-- ==== Sys2Proof/Machine/Sparse.lean ====
section
/-!
DEFINITION. The sparse stores of State in one canonical form: numbers strictly rising, no pair that holds the store's
default. A number that is not listed holds the default.
-/

namespace Sys2Proof.Machine

/-- The value stored at k, d where none is listed. -/
def Sparse.get {α : Type} (d : α) (k : Nat) : Sparse α → α
  | [] => d
  | (j, v) :: m => if j = k then v else Sparse.get d k m

/-- Take the pair at k out. -/
def Sparse.erase {α : Type} (k : Nat) : Sparse α → Sparse α
  | [] => []
  | (j, v) :: m => if j = k then Sparse.erase k m else (j, v) :: Sparse.erase k m

/-- Put the pair (k, v) in its place. -/
def Sparse.insert {α : Type} (k : Nat) (v : α) : Sparse α → Sparse α
  | [] => [(k, v)]
  | (j, w) :: m =>
    if k < j then (k, v) :: (j, w) :: m
    else if j = k then (k, v) :: m
    else (j, w) :: Sparse.insert k v m

/-- Store v at k; a default value is stored by listing nothing. -/
def Sparse.set {α : Type} [DecidableEq α] (d : α) (k : Nat) (v : α) (m : Sparse α) : Sparse α :=
  if v = d then Sparse.erase k m else Sparse.insert k v m

/-- The numbers listed are strictly rising. -/
def Sparse.rising {α : Type} : Sparse α → Bool
  | [] => true
  | [_] => true
  | (j, _) :: (k, w) :: m => decide (j < k) && Sparse.rising ((k, w) :: m)

/-- The canonical form: rising numbers and no default value listed. -/
def Sparse.wf {α : Type} [DecidableEq α] (d : α) (m : Sparse α) : Bool :=
  Sparse.rising m && m.all fun p => !decide (p.2 = d)

/-- Change every listed value; the results that are the default are no longer listed. -/
def Sparse.mapAll {α : Type} [DecidableEq α] (d : α) (f : Nat → α → α) (m : Sparse α) : Sparse α :=
  (m.map fun p => (p.1, f p.1 p.2)).filter fun p => !decide (p.2 = d)

/-- Keep the listed pairs that satisfy p. -/
def Sparse.keep {α : Type} (p : Nat → α → Bool) (m : Sparse α) : Sparse α := m.filter fun q => p q.1 q.2

end Sys2Proof.Machine
end

