-- ==== Sys2Proof/Config.lean ====
section
/-!
DEFINITION. What one part fixes at manufacture (DESIGN CHOICE, log entry 5: the spec gives no such values), and the free
values: constants with no body, so that nothing can be proved of what they are.
-/

namespace Sys2Proof.Config

/-- A value the spec leaves open, of w bits: the k-th one drawn (log entry 2). -/
opaque freeValue (w k : Nat) : BitVec w

/-- The part's private identity key (R694, R695), which the spec does not give (log entry 6). -/
opaque identityKey : Nat

/-- The lane functions whose results R203 bounds but does not give (log entry 7): function number and argument. -/
opaque laneFunction (f : Nat) (x : BitVec 32) : BitVec 32

/-- Free value: the chip at a coordinate of an axis of a drawing, of which this package's axis record tells nothing (R464, R504, log
entry 41). -/
opaque axisMember (drawing axis coord : Nat) : BitVec 14

/-- The 16-bit CRC of a flit on a die link (R25), whose polynomial the spec does not give (log entry 135). -/
opaque flitCrc (data : List Byte) : BitVec 16

/-- The rate of a window in which a laser received nothing (R426 divides by the bits received): in parts per 10^9 (0) and as F32
(1), by the corrected bits (log entry 103). -/
opaque emptyWindow (k corrected : Nat) : BitVec 32

/-- The public part of the fuse block as 256 bytes (R697), whose layout the spec does not give: owner key hash and rollback
count (log entry 5). -/
opaque fuseView (ownerHash : List Byte) (count : Nat) : BitVec 2048

/-- The digest of the configuration block (R691), whose layout the spec does not give: the values of its objects and its key
slots (log entry 5). -/
opaque configDigest (values : List (Nat × Nat)) (slots : List (Nat × KeySlot)) : BitVec 256

/-- Main bytes tenants may reserve (R312). -/
def mainReservable : Nat := 1528 * 2 ^ 30

/-- Deep bytes tenants may reserve (R312). -/
def deepReservable : Nat := 3072 * 2 ^ 30

/-- The fused vendor key hash (R697): the SHA-256 of the shipped image's vendor key. -/
def vendorKeyHash : List Byte :=
  [0x39, 0x85, 0x8C, 0xE2, 0xF7, 0x4F, 0x75, 0xCF, 0x10, 0xC9, 0xF2, 0x8D, 0x17, 0x53, 0x1C, 0xD4,
   0x87, 0x2B, 0xA0, 0x54, 0x83, 0x6A, 0x1A, 0x13, 0x04, 0x94, 0x2D, 0xC7, 0xD4, 0x38, 0x1C, 0x78]

/-- The vendor key of the shipped image. -/
def vendorKey : List Byte :=
  [0x04, 0xCE, 0x16, 0x96, 0x40, 0x67, 0x8C, 0x59, 0x65, 0x34, 0x79, 0xEF, 0xC4, 0x67, 0xE8, 0xD2,
   0xC4, 0xA7, 0x63, 0xD4, 0x54, 0xA1, 0xEB, 0x83, 0xD6, 0xF2, 0x66, 0x78, 0xD6, 0x77, 0x8F, 0xFA,
   0x12, 0x45, 0xBC, 0x0E, 0x46, 0xEB, 0x4A, 0xF8, 0x43, 0x3A, 0x3B, 0x02, 0x0A, 0xDA, 0x21, 0xBE,
   0xA5, 0xFC, 0x2A, 0x3D, 0x38, 0xD0, 0x51, 0x44, 0xF3, 0x73, 0x4D, 0xB3, 0x71, 0x9B, 0x61, 0x03,
   0xD6]

/-- Its signature over the digest of the shipped image, which has no bytes from 0x200 on. -/
def vendorSignature : List Byte :=
  [0x4C, 0xC4, 0xA6, 0x90, 0x75, 0xC7, 0x84, 0x59, 0x38, 0x4E, 0x0B, 0x72, 0xF6, 0x77, 0x8F, 0xBA,
   0x6E, 0x00, 0xB4, 0xA9, 0xAA, 0x72, 0x3C, 0x2B, 0xB6, 0x4E, 0xA6, 0xDB, 0x78, 0xF2, 0x78, 0x17,
   0x42, 0x2F, 0x06, 0xB8, 0x0E, 0xBA, 0x1A, 0x2C, 0xE8, 0xB2, 0x9A, 0x7E, 0x67, 0x53, 0x7D, 0x88,
   0x73, 0xB5, 0x12, 0x2F, 0x60, 0xE6, 0xAF, 0x72, 0x93, 0x89, 0xE2, 0x1A, 0xB4, 0x41, 0x7E, 0x78]

/-- The digest of the shipped image. -/
def imageDigest : List Byte :=
  [0xE3, 0xB0, 0xC4, 0x42, 0x98, 0xFC, 0x1C, 0x14, 0x9A, 0xFB, 0xF4, 0xC8, 0x99, 0x6F, 0xB9, 0x24,
   0x27, 0xAE, 0x41, 0xE4, 0x64, 0x9B, 0x93, 0x4C, 0xA4, 0x95, 0x99, 0x1B, 0x78, 0x52, 0xB8, 0x55]

/-- The fused provisioning key hash (R698). -/
def provisioningKeyHash : List Byte := List.replicate 32 0x22

/-- The first 8 bytes of the SHA-256 digest of the serial number, as identity frames carry it (R443, 0x5000.02). -/
def serialDigest : Nat := 0x94cfaaa4ba4accdb

/-- The MAC address of E0, fixed in fuse; the eight ports' addresses are consecutive (R708). -/
def macBase : Nat := 0x020000000000

/-- The certificate chain (R695). -/
def identityCertificate : List Byte := List.replicate 4 0x44

/-- The stepping code of each die (0x0000.07). -/
def dieSteppings : List Byte := List.replicate 13 0xA0

/-- Serial number as ASCII bytes (0x0000.06). -/
def serialNumber : List Byte := [0x5A, 0x38, 0x30, 0x30, 0x31]

/-- The image the part ships with (R685, R686). -/
def shippedImage : FwImage :=
  { magic := 0x5A514638, format := 1, securityVersion := 0, firmwareVersion := 0x01000000, imageBytes := 0x200,
    digest := imageDigest, vendorKey := vendorKey, ownerKey := List.replicate 65 0,
    vendorSignature := vendorSignature, ownerSignature := List.replicate 64 0, body := [] }

end Sys2Proof.Config
end

