-- ==== Sys2Proof/Machine/State.lean ====
section
/-!
DEFINITION. The state of the block: every register, queue, table and memory the spec gives the package, as plain data,
with the queue of commands that wait.
-/

namespace Sys2Proof.Machine

/-- Why the block could stop for good. No meaning raises one: the spec's errors are state (R613), and HALTED is a device
state (R678). Safe. -/
inductive Fault where
  /-- An access to a place the spec says does not exist. Raised by no command: every address of the spec resolves or is
  an address fault of R314, which is state. Safe. -/
  | noSuchPlace
  deriving DecidableEq, Repr

/-- Why a command would have no meaning. -/
inductive Refusal where
  /-- The row's meaning is not modelled yet; raised by Dispatch.lean alone. Safe: a claim about a next state says
  nothing there. -/
  | notModelled (mnemonic : String)
  deriving DecidableEq, Repr

/-! Faults (spec/17) -/

/-- A capture record (R622). -/
structure Capture where
  valid : Bool := false
  cls : Nat := 0
  cause : Nat := 0
  reporter : Nat := 0
  master : Nat := 0
  access : Nat := 0
  partition : Nat := 0
  address : Nat := 0
  work : Option (Nat × Nat × Nat) := none
  injected : Bool := false
  uptime : Nat := 0
  cadence : Nat := 0
  later : Nat := 0
  overflow : Bool := false
  events : Nat := 0
  deriving DecidableEq, Repr

/-- A latched word with its event count (R619, R626). -/
structure Latch where
  word : Nat := 0
  count : Nat := 0
  deriving DecidableEq, Repr

/-! Scheduled events (R57, R58, R59) -/

/-- What a scheduled event does at its gate. -/
inductive SchedKind where
  | commit (n step attempt proposal : Nat) (late : Bool)
  | slalom (step drawing : Nat)
  | powerStep (floor ceiling : Nat)
  | recoveryStep
  | clockGrant (die mhz : Nat)
  | arbiter
  | sketchCal (engine : Nat)
  deriving DecidableEq, Repr

/-- A scheduled event: the number of its gate beat and what it does; `order` is the row of R58. -/
structure Sched where
  gate : Nat
  kind : SchedKind
  deriving DecidableEq, Repr

/-! Memory and Lift (spec/10) -/

/-- A place in Near (R316): kind, cluster, core. -/
structure Place where
  kind : Nat := 0
  cluster : Nat := 0
  core : Nat := 0
  deriving DecidableEq, Repr

/-- A claim (R330); `age` is the order of acceptance, `token` the context's token while the claim is not settled (R342). -/
structure Claim where
  tenant : Nat
  cid : Nat
  tier : Nat
  die : Nat
  place : Place
  deadline : Option Nat
  token : Option (Nat × Nat × Nat)
  age : Nat
  deriving DecidableEq, Repr

/-- The upper copy of an entry (R316, R332). -/
structure Upper where
  tier : Nat
  die : Nat
  place : Place
  alloc : Nat
  tenant : Nat
  cid : Nat
  deriving DecidableEq, Repr

/-- The state of a version buffer (R270). -/
inductive BufState where
  | free
  | pending
  | current
  | retained
  deriving DecidableEq, Repr

/-- A tensor table entry (R316), with the buffer state of R270 and its copies. `upper` is the committed upper copy. -/
structure Entry where
  base : Nat
  lines : Nat
  tensorId : Nat
  tenant : Nat
  homeTier : Nat
  homeDie : Nat
  pinned : Bool
  shared : Bool
  versioned : Bool
  place : Place
  shareMask : Nat
  bufIndex : Nat := 0
  bufState : BufState := .free
  versions : List Nat := []
  homeAlloc : Nat
  homeAt : Nat
  upper : Option Upper := none
  dirty : Bool := false
  moving : Bool := false
  claims : List Claim := []
  image : Bool := false
  removeAtCommit : Bool := false
  deriving DecidableEq, Repr

/-- A move of Lift (R323): the destination is an upper copy, or the home copy where `dest` is none; `tokens` complete as it ends
(R342). -/
structure Move where
  entry : Nat
  engine : Nat
  dest : Option Upper
  deadline : Option Nat
  order : Nat
  flying : Bool
  committed : Bool
  tokens : List (Nat × Nat × Nat)
  deriving DecidableEq, Repr

/-- A loan of R335: tier, lender, borrower, bytes. -/
structure Loan where
  tier : Nat
  lender : Nat
  borrower : Nat
  bytes : Nat
  deriving DecidableEq, Repr

/-- An allocation: tier, die, bytes and the tenant charged; `zeroing` once freed and not yet zeroed (R701). -/
structure Alloc where
  tier : Nat
  die : Nat
  bytes : Nat
  tenant : Nat
  place : Place := {}
  zeroing : Bool := false
  deriving DecidableEq, Repr

/-- A memory injection (R633): offset of the line and kind. -/
structure Inject where
  address : Nat
  kind : Nat
  deriving DecidableEq, Repr

/-! Cores and contexts (spec/04, 06, 11) -/

/-- A token of a context (R376). -/
inductive Token where
  | free
  | outstanding
  | done (status : Nat)
  deriving DecidableEq, Repr

/-- What a context waits for (R189, R376, R377, R274, R276, R143). -/
inductive WaitFor where
  | nothing
  | token (t sd : Nat)
  | yielded
  | ending
  | version (alloc : Nat)
  | turn
  | tag (released : Bool)
  | feed
  | promotion (entry : Nat)
  deriving DecidableEq, Repr

/-- A micro-batch context (R188, R189, R373, R376). `state`: 0 idle, 1 ready, 2 running, 3 waiting, 4 faulted; `stack` the
addresses of its activation stack's entries, the top one first (R235, R236). -/
structure Ctx where
  state : Nat := 0
  waits : WaitFor := .nothing
  ip : Nat := 0
  sregs : Sparse Nat := []
  work : Option Nat := none
  tokens : Sparse Token := []
  groups : List Nat := []
  accBase : Nat := 0
  accSize : Nat := 0
  sideBase : Nat := 0
  sideSize : Nat := 0
  stackBase : Nat := 0
  stackLimit : Nat := 0
  stack : List Nat := []
  published : List (Nat × Nat) := []
  firstFault : Option (Nat × Nat) := none
  stopping : Option Nat := none
  deriving DecidableEq, Repr

/-- A kernel of VLAUNCH (R197): context, token, blocks, the code offset, the next block to start, the blocks that ended, and the
thread groups at work with their block and the offset of their next instruction, and what the next instruction of a group that has
begun to wait waits for (R274, R276). -/
structure Kernel where
  ctx : Nat
  token : Nat
  blocks : Nat
  start : Nat
  nextBlock : Nat
  ended : Nat
  groups : List (Nat × Nat × Nat)
  held : List (Nat × WaitFor) := []
  deriving DecidableEq, Repr

/-- A thread slot (R196): registers, predicate bits, whether it has executed VEXIT. -/
structure Thread where
  regs : Sparse Nat := []
  preds : Nat := 15
  exited : Bool := false
  deriving DecidableEq, Repr

/-- A matrix instruction issued and not completed (R143, R155, R156): its context and partition, its locked ranges (tenant,
lowest and highest byte), the ranges of them it writes, and the report it sends at its end (slot, step, gradient, counts). -/
structure Issued where
  ctx : Nat
  part : Nat
  locks : List (Nat × Nat × Nat)
  writes : List (Nat × Nat) := []
  slot : Option Nat
  step : Option Nat
  gradient : Bool
  counts : Counts
  discarded : Bool := false
  deriving DecidableEq, Repr

/-- A weight tile (R121, R130): the context it was loaded for, the offset of W, the pass, and the elements of each of its columns. -/
structure Tile where
  ctx : Nat
  off : Nat
  pass : Nat
  words : List (List Nat)
  deriving DecidableEq, Repr

/-- The weight planes of a partition (R121, R126, R130, R142, R190): its context tag, none while it serves no context; which of A and B
is current; the tile each holds, none when invalid; whether each is poisoned; and each context's current tile. -/
structure Plane where
  tag : Option Nat := none
  current : Nat := 0
  tileA : Option Tile := none
  tileB : Option Tile := none
  badA : Bool := false
  badB : Bool := false
  tiles : Sparse Tile := []
  deriving DecidableEq, Repr

/-- A core (R18, R124, R143, R208). `acc` is keyed row * 64 + column, 40-bit cells; `accTag` 0 untagged, 1 floating,
2 integer, and `accPoison`, the poison of a drained region (R144), by row * 2 + column half; `accBad`, the entries in which an
uncorrectable error lies (R126), keyed as `acc`; `side` keyed by entry, 64 bits; `planes` by partition. -/
structure Core where
  mode : Nat := 0
  mmodeHeld : List (Nat × Nat) := []
  issued : List Issued := []
  planes : Sparse Plane := []
  acc : Sparse Nat := []
  accTag : Sparse Nat := []
  accPoison : Sparse Nat := []
  accBad : Sparse Nat := []
  side : Sparse Nat := []
  sidePoison : Sparse Nat := []
  kernels : List Kernel := []
  outOfService : Bool := false
  deriving DecidableEq, Repr

/-! Tenants, queues, work (spec/08, 11, 16) -/

/-- A loaded program image (R365, R366): code and table places, entry records (code_start, table, groups, acc, side). -/
structure Image where
  state : Nat := 0
  imageId : Nat := 0
  bytes : Nat := 0
  codeOffset : Nat := 0
  codeBytes : Nat := 0
  tableOffset : Nat := 0
  tableCount : Nat := 0
  entries : List (Nat × Nat × Nat × Nat × Nat) := []
  map : List MapEntry := []
  entry : Nat := 0
  deriving DecidableEq, Repr

/-- A work item (R370 to R378, R386, R395). `phase`: 0 posted, 1 accepted, 2 running, 3 ended and waiting for a delayed
completion. -/
structure Work where
  tenant : Nat
  queue : Nat
  index : Nat
  step : Nat
  microBatch : Nat
  imageId : Nat
  entryIndex : Nat
  rm : Bool
  ns : Bool
  pc : Bool
  bar : Bool
  coreField : Nat
  ctxField : Nat
  userTag : Nat
  bindings : List (Nat × List Byte)
  fences : List (Nat × Nat)
  arg0 : Nat
  arg1 : Nat
  phase : Nat
  core : Nat := 0xFFFF
  ctx : Nat := 0xFF
  status : Nat := 0
  detail : Nat := 0
  published : List (Nat × Nat) := []
  deriving DecidableEq, Repr

/-- A completion entry (R391). -/
structure Completion where
  sequence : Nat
  userTag : Nat
  step : Nat
  status : Nat
  ctx : Nat
  core : Nat
  detail : Nat
  deriving DecidableEq, Repr

/-- A work queue (R379 to R393, R400, R401). `ring` holds the window's slots as written. -/
structure Queue where
  mode : Nat := 0
  pull : Bool := false
  submitDepth : Nat := 64
  completionDepth : Nat := 256
  cqAddress : Nat := 0
  cqRkey : Nat := 0
  cqQp : Nat := 0
  error : Bool := false
  posted : Nat := 0
  accepted : Nat := 0
  consumed : Nat := 0
  placed : Nat := 0
  reserved : Nat := 0
  lastSequence : Nat := 0
  head : Nat := 0
  errorCount : Nat := 0
  wrongMode : Nat := 0
  window : Sparse Nat := []
  ring : List Completion := []
  results : Sparse Nat := []
  generations : Sparse Nat := []
  deriving DecidableEq, Repr

/-- The Judges settings in force for a step (R292, R301). -/
structure WatchCfg where
  vetoMask : Nat := 0x0A
  spikeK : Nat := 0x40C00000
  ewWeight : Nat := 0x3C23D70A
  warmup : Nat := 20
  spikeLimit : Nat := 1
  lossExpected : Bool := false
  deriving DecidableEq, Repr

/-- An open step of a tenant (R567): its fixed seed, service state and settings, the values written, the records listed
(R108, R264, R526), what its vote has seen, the samples behind one contribution as it opened (b, R553), and whether it
spans a change of the sketch settings (R560). -/
structure StepSt where
  step : Nat
  seed : Nat
  service : Nat
  cfg : WatchCfg
  loss : Option Nat := none
  grad : Option Nat := none
  scaleRecs : List Nat := []
  updRecs : List Nat := []
  exchRecs : List Nat := []
  voted : Bool := false
  faulted : Bool := false
  samples : Nat := 0
  spanned : Bool := false
  deriving DecidableEq, Repr

/-- A mirror entry (R600). -/
structure Mirror where
  localBase : Nat
  buddy : Nat
  buddyBase : Nat
  role : Nat
  state : Nat
  tensorId : Nat
  retried : Bool := false
  verifying : Bool := false
  deriving DecidableEq, Repr

/-- A live tag (R271): micro-batch, the step it belongs to where it has one, and the version. -/
structure Tag where
  microBatch : Nat
  step : Option Nat
  version : Nat
  deriving DecidableEq, Repr

/-- A decision this package holds on an attempt of a step (R576): a commit with its gate and the accumulation count it carries, or an
abort. -/
structure Decision where
  step : Nat
  attempt : Nat
  commit : Bool
  gate : Nat := 0
  proposal : Option Nat := none
  deriving DecidableEq, Repr

/-- A tenant (R361). `state`: 0 free, 1 admitted, 2 releasing. `closes` and `decisions` carry a step and its attempt, a
decision also whether it commits and the beat of its gate; `unacked` the receiver of a ledger message; `seenMsgs` the
messages applied, by job id, step, attempt, kind, sender and job epoch (R574, R566); `pendingRegs` the settings that take
effect at the next commit or abort (R564). -/
structure Tenant where
  state : Nat := 0
  commitsSince : Nat := 0
  images : Sparse Image := []
  tags : List Tag := []
  steps : List StepSt := []
  attempts : Sparse Nat := []
  closes : List (Nat × Nat) := []
  waitingRecs : List Nat := []
  members : List Nat := []
  live : List Nat := []
  votes : List LedgerMsg := []
  ownVote : Option LedgerMsg := none
  sentVote : Bool := false
  decisions : List Decision := []
  unacked : List (Nat × LedgerMsg) := []
  seenMsgs : List (Nat × Nat × Nat × Nat × Nat × Nat) := []
  reports : List LedgerMsg := []
  querying : Bool := false
  lateVeto : Bool := false
  spikes : Sparse Nat := []
  pendingCfg : Option WatchCfg := none
  statsReset : Bool := false
  mirrors : List Mirror := []
  populating : Bool := false
  rotCore : Nat := 0
  sealedSlots : Nat := 0
  pendingRegs : List (Nat × Nat) := []
  pendingAccum : Option Nat := none
  proposal : Option Nat := none
  sinceChange : Nat := 0
  deriving DecidableEq, Repr

/-! Judges (spec/09) -/

/-- A counter set (R290). -/
structure CountSet where
  total : Nat := 0
  zero : Nat := 0
  underflow : Nat := 0
  saturated : Nat := 0
  nonfinite : Nat := 0
  maxMag : Nat := 0
  instructions : Nat := 0
  empty : Nat := 0
  tag : Nat := 0
  time : Nat := 0
  deriving DecidableEq, Repr

/-- A slot's configuration (R291). -/
structure SlotCfg where
  silentMode : Nat := 0
  nonfiniteVeto : Bool := false
  silentSteps : Nat := 32
  zeroPpm : Nat := 999000
  underflowPpm : Nat := 990000
  deriving DecidableEq, Repr

/-- A Judges slot (R290 to R297). An open set carries its step and whether a report came from a gradient. -/
structure Slot where
  cfg : SlotCfg := {}
  pendingCfg : Option SlotCfg := none
  heldCfg : Option (Nat × SlotCfg) := none
  streak : Nat := 0
  raised : Bool := false
  opens : List (Nat × Bool × CountSet) := []
  stepSet : CountSet := {}
  totalSet : CountSet := {}
  lastSet : CountSet := {}
  deriving DecidableEq, Repr

/-! Optical ports (spec/12) -/

/-- What a laser holds beside its objects (R424 to R437): failed relock attempts, whether its receive direction is out of
service, whether its training has chosen a modulation, its runs of windows above the swap and fallback rates and below the clear
rate, the far end's rate (parts per 10^9), its state when its calibration began, whether it stays retired until power-on, the
count of the last block from its far end and the cadence time at which it came (R476, log entry 149), and its loop delay. -/
structure Laser where
  relocks : Nat := 0
  rxOut : Bool := false
  trained : Bool := false
  highWindows : Nat := 0
  fallWindows : Nat := 0
  clearWindows : Nat := 0
  farRate : Nat := 0
  waxFrom : Nat := 0
  lost : Bool := false
  lastBlock : Nat := 0
  heardAt : Nat := 0
  loopDelay : Nat := 0
  deriving DecidableEq, Repr

/-- What a port holds beside its objects (R430 to R445, R472, R484): the lane being swapped, the laser under wax, the next laser
of the rotation and how many calibrations have come due, the holdback of LS, the lane LS takes over, the remap in force, the
lane that carries the base lane, the drawing's lanes lost, the flits of F0 and F1 sent and not yet credited, those freed and not
yet returned, the cumulative counts of freed buffers of the six classes (R476), the last cumulative counts heard, the loop delay that the
in-neighbour of a rack port last told (R461), and the flits received with their classes that belong to no packet yet. -/
structure Port where
  swapLane : Option Nat := none
  waxLaser : Option Nat := none
  waxNext : Nat := 0
  waxCount : Nat := 0
  holdBack : Bool := false
  takeover : Option Nat := none
  remap : Option Nat := none
  baseLane : Nat := 0
  lostLanes : List Nat := []
  sent : Nat × Nat := (0, 0)
  freed : Nat × Nat := (0, 0)
  freedAll : List Nat := []
  heard : List Nat := []
  farLoop : Nat := 0
  inFlits : List (Nat × List Byte) := []
  deriving DecidableEq, Repr

/-! Fabric (spec/13) -/

/-- A stream of packets sent (R487 to R491): the last sequence used, the unacknowledged packets with the port each first left
by, the timeouts in a row, whether it has moved to path B, whether a busy answer makes it wait, and whether it was released, so
that its next packet resets the sequence. -/
structure TxStream where
  last : Nat := 0
  unacked : List (Nat × Packet) := []
  timeouts : Nat := 0
  pathB : Bool := false
  busy : Bool := false
  released : Bool := false
  deriving DecidableEq, Repr

/-- A stream of packets received (R488): the last sequence delivered, the deliveries since the last acknowledgement, and, where its last
packet was a run, the tenant of the piste it came by. -/
structure RxStream where
  last : Nat := 0
  sinceAck : Nat := 0
  run : Option Nat := none
  deriving DecidableEq, Repr

/-- The fabric state of the package (R463 to R498): drawings by slot, the drawing in force, the one it replaced and the uptime of
the change; the avoided chips, each with the membership epoch at which it entered; streams sent and received, by chip * 64 + channel; packets held for their epoch; packets that wait
for room at the egress with their ingress port; reply slots reserved with their request's destination; requests taken and not
answered; packets abandoned as unreachable; the arbiters' settings in force by site (offsets and floors as their objects hold
them), the requests held (site, requester, offset, jitter) and the rotating pointers. -/
structure Fabric where
  store : Sparse Drawing := []
  inForce : Option Drawing := none
  previous : Option Drawing := none
  changedAt : Nat := 0
  avoided : List (Nat × Nat) := []
  tx : Sparse TxStream := []
  rx : Sparse RxStream := []
  held : List Packet := []
  transit : List (Nat × Packet) := []
  replySlots : List (Nat × Nat) := []
  requests : List Packet := []
  unreached : List Packet := []
  settings : Sparse (Nat × Nat) := []
  asks : List (Nat × Nat × Nat × Nat) := []
  pointers : Sparse Nat := []
  deriving DecidableEq, Repr

/-! Die links (spec/01) -/

/-- A flit on a die link (R24, R25): its class (R480), the number of it within its class on that link, its bytes, its 16-bit CRC, the
deadline it is arbitrated by, the dies it has still to reach, the uptime until which a crossing delay holds it (R633), and the direction
whose far-side buffer it waits in. -/
structure Flit where
  cls : Nat
  number : Nat
  data : List Byte
  crc : Nat
  deadline : Nat
  path : List Nat
  ready : Nat := 0
  holds : Option Nat := none
  deriving DecidableEq, Repr

/-- One direction of a die link (R21, R24, R25): the flits that wait at its sending side, oldest first; those that crossed and wait at
the far side for their next link, which hold its buffers; the sender's replay buffer of the last 32 flits, newest first; and the flits
sent in each class. -/
structure DieLink where
  waiting : List Flit := []
  beyond : List Flit := []
  replay : List Flit := []
  counts : Sparse Nat := []
  deriving DecidableEq, Repr

/-! Collectives (spec/14) -/

/-- What an instance does with its data (R510, R512). -/
inductive CollForm where
  | reduceScatter
  | allGather
  | allReduce
  | allToAll
  | broadcast
  | send
  | receive
  deriving DecidableEq, Repr

/-- A ring of a group (R504, R505): its members, this package's rank on it, the chips of the next and the previous rank, and
whether it is a line. -/
structure Ring where
  n : Nat := 1
  me : Nat := 0
  next : Nat := 0xFFFF
  prev : Nat := 0xFFFF
  line : Bool := false
  deriving DecidableEq, Repr

/-- What a core contributes (R511, R527): its context, slots, conversion flags, the matrix word of a fused form, the values
kept until the instance ends, and the destination rank of each row (R531). -/
structure Contrib where
  core : Nat
  ctx : Nat
  x : Nat
  y : Nat
  sr : Bool
  ovf : Bool
  word : Option MmaWord
  vals : List Num
  route : List Nat
  deriving DecidableEq, Repr

/-- An open instance of a plan (R507 to R540): its number and step; what the agent read from the plan; its rings for the reduce and
the gather phases and its members; its element count, row length and rows, native format; the exchange record and its margin; the
exponent X as it opened and of chunks tried again, with their count; the finished in-package levels of chunks (0 and 1 up, 2 and 3
down); the cadence times at which chunks became ready by chunk * 4 + stage; what was received and sent; the chunks that left the
rings; whether the result is written, whether the instance has stalled; the forwarded bytes of R602 that have not left; and the packets
that left, by destination and sequence. -/
structure Inst where
  n : Nat
  plan : Nat
  inst : Nat
  step : Nat
  form : CollForm
  fused : Bool
  exch : Nat
  code : Nat
  token : Nat
  bidir : Bool
  cores : List Nat
  ra : Ring
  rb : Ring
  ga : Ring
  gb : Ring
  members : List Nat
  elems : Nat
  rowLen : Nat
  fmt : Nat
  record : Option Nat
  margin : Nat
  x0 : Nat
  buffers : Nat
  countSlot : Nat
  locks : List (Nat × Nat) := []
  contribs : List Contrib := []
  xs : Sparse Nat := []
  tries : Sparse Nat := []
  levels : List (Nat × Nat) := []
  readyAt : Sparse Nat := []
  got : List Run := []
  sent : List RunKey := []
  leftRing : List Nat := []
  written : Bool := false
  stalled : Bool := false
  feeds : List Packet := []
  packets : List (Nat × Nat) := []
  deriving DecidableEq, Repr

/-- The collective agents' state (R503 to R540): group tables and their tenants; open instances; the uses of plans (tenant, plan,
step, core); closed instances (tenant, plan, step, instance); the aborted
steps that have not opened again (tenant, step); runs that wait in posted buffers; by peer and plan the counts of runs
posted to the peer, announced by it, sent and received; each plan's work area in 64 KiB buffers; peers whose abandonment is
suspended; and the bytes that arrived for feed targets (tenant, base, step, bytes). -/
structure Colls where
  groups : Sparse (List Nat) := []
  owners : Sparse Nat := []
  insts : List Inst := []
  uses : List (Nat × Nat × Nat × Nat) := []
  closed : List (Nat × Nat × Nat × Nat) := []
  aborted : List (Nat × Nat) := []
  waiting : List Run := []
  posted : Sparse Nat := []
  announced : Sparse Nat := []
  sentRuns : Sparse Nat := []
  received : Sparse Nat := []
  areas : Sparse Nat := []
  suspended : List Nat := []
  feeds : List (Nat × Nat × Nat × Nat) := []
  deriving DecidableEq, Repr

/-! Sketch engine (spec/15) -/

/-- A block waiting at a sketch engine (R550): tenant, group, step, tap (0 micro-batch, 1 step), exponent e, and its 64
values as F32 words with the signs applied. -/
structure SkBlock where
  n : Nat
  group : Nat
  step : Nat
  tap : Nat
  e : Int
  values : List Nat
  deriving DecidableEq, Repr

/-- What a group has sketched in one step (R550 to R555): the members n and the plan's taps, the blocks taken and skipped,
the engines that projected, the sketch vectors by tap and engine (64 F32 words each) and the noise sums by tap (F32). -/
structure SkGroup where
  n : Nat := 0
  members : Nat := 0
  taken : Nat := 0
  skipped : Nat := 0
  engines : Nat := 0
  incomplete : Bool := false
  vectors : Sparse (List Nat) := []
  noise : Sparse Nat := []
  deriving DecidableEq, Repr

/-- The sketch engines' state (R545 to R560): the engines' queues, the groups of open steps by step * 256 + group, each
group's two weighted means (F32) once set, the settings to come, and the dies whose engine waits for its gate. -/
structure Sketch where
  queues : Sparse (List SkBlock) := []
  groups : Sparse SkGroup := []
  means : Sparse (Nat × Nat) := []
  pendingCode : Option Nat := none
  pendingPeriod : Option Nat := none
  sigmas : Sparse Nat := []
  gains : Sparse (List Nat) := []
  deriving DecidableEq, Repr

/-! GDP (spec/18) -/

/-- A segmented write in staging (R667): each byte received, plus one, by its offset, and the uptime of its last segment. -/
structure Staged where
  obj : Nat
  total : Nat
  bytes : Sparse Nat := []
  heard : Nat := 0
  deriving DecidableEq, Repr

/-- A notice of a session's queue (R673), and the uptime when it was first sent. -/
structure Notice where
  sequence : Nat
  obj : Nat
  loss : Bool
  value : List Byte
  sentAt : Nat := 0
  deriving DecidableEq, Repr

/-! Ethernet and RoCEv2 (spec/20) -/

/-- What a queue pair holds at its defaults (R731). -/
def qpDefault : QpSpec :=
  { state := 0, remoteQpn := 0, primary := 0, alternate := 0, altValid := false, remoteAddress := 0, sendPsn := 0, receivePsn := 0,
    tenant := 0, retryCount := 7, timeoutUs := 4096 }

/-- A queue pair (R715 to R720, R731): its record, whose state is the one in force; the next sequences to send and to receive;
the completion pushes not acknowledged, each with its sequence and queue; the retries spent on the port in use, by timeout and by
receiver-not-ready, and whether it waits after such an answer; its send rate in Mb/s; the received WRITEs that wait on a lock or a
move, with sequence, key, address and data; and the uptime of the last congestion notification it sent. -/
structure Qp where
  spec : QpSpec := qpDefault
  sendPsn : Nat := 0
  recvPsn : Nat := 0
  outstanding : List (Nat × Nat × Completion) := []
  retries : Nat := 0
  rnrTries : Nat := 0
  rnr : Bool := false
  rate : Nat := 400000
  onAlternate : Bool := false
  held : List (Nat × Nat × Nat × List Byte) := []
  lastCnp : Option Nat := none
  deriving DecidableEq, Repr

/-- What a watcher knows of the package one base lane hears (R589, R590): the status of its last beacon, and whether it is
suspect. -/
structure Watch where
  status : Nat := 0
  suspect : Bool := false
  deriving DecidableEq, Repr

/-! What leaves the package -/

/-- A message at the package's pins (log entry 3); `signed` is a GDP or Dispatch message with its trailer (R662). -/
inductive Msg where
  | reply (session request kind items status : Nat) (body : List Byte)
  | notice (session sequence obj : Nat) (loss : Bool) (value : List Byte)
  | challenge (session : Nat) (ephemeral nonce signature : List Byte)
  | accept (session request role tenant : Nat)
  | dispatchAck (session queue index status : Nat)
  | push (port qp psn : Nat) (dest : Option Nat) (rkey : Nat) (c : Completion)
  | ledger (dest : Nat) (m : LedgerMsg)
  | beacon (lane : Nat) (b : Beacon)
  | probe (dest : Nat) (pathB : Bool)
  | probeAnswer (dest : Nat) (pathB : Bool)
  | lifeChange (lane chip life : Nat)
  | tableSync (lane : Nat) (lives : Sparse Nat)
  | departure (chip : Nat)
  | flood (dest chip : Nat)
  | lasersOff
  | beatFrame (f : BeatFrame)
  | packet (port : Nat) (lanes : List Nat) (p : Packet)
  | ackPacket (dest channel sequence : Nat) (piste : Option Nat)
  | nakPacket (dest channel sequence code : Nat)
  | credit (port cls count : Nat)
  | bufferCount (peer channel sequence address : Nat)
  | retry (peer plan inst chunk x : Nat)
  | withdrawal (peer plan inst : Nat)
  | hold (chip epoch plan inst : Nat)
  | farEnd (port laser rate : Nat)
  | mirrorPair (buddy base localBase role : Nat) (versioned answer : Bool) (reserve tier lines tensorId : Nat)
  | mirrorCopy (buddy base : Nat) (data : List Byte)
  | mirrorDigest (buddy base : Nat) (digest : List Byte)
  | neighbour (net peer : Nat) (advert : Bool)
  | echo (port : Nat)
  | cnp (port qp : Nat)
  | roceAck (port qp psn : Nat)
  | roceNak (port qp psn code : Nat)
  | roceRead (port qp psn : Nat) (data : List Byte)
  | identity (port laser : Nat) (record : IdRecord)
  | marker (port lane bits : Nat)
  | signed (sequence : Nat) (tag : List Byte) (m : Msg)
  | pause (port priority : Nat) (stop : Bool)
  | frame (port vlan prio dscp : Nat) (ect : Bool) (m : Msg)
  deriving DecidableEq, Repr

/-! Sessions (spec/18) -/

/-- A GDP session (R657, R660, R662, R663, R675, R676): with the replies it gave by request sequence, its session key, and the sequence
of the next message the Z8 sends on it. -/
structure Session where
  id : Nat
  role : Nat
  tenant : Nat
  keySlot : Nat
  net : Nat := 0
  peer : Nat := 0
  opened : Nat := 0
  lastHeard : Nat := 0
  violations : Nat := 0
  losses : Nat := 0
  subs : List (Nat × List Byte) := []
  staged : List Staged := []
  queue : List Notice := []
  nextEvent : Nat := 1
  inflight : Nat := 0
  highest : Nat := 0
  seen : List Nat := []
  replies : List (Nat × Msg) := []
  key : List Byte := []
  nextSend : Nat := 1
  report : List Byte := []
  closing : Bool := false
  deriving DecidableEq, Repr

/-- A handshake in progress (R659, R660): the role key, the transcript PROOF signs, and the session key. -/
structure Handshake where
  id : Nat
  keySlot : Nat
  roleKey : List Byte
  started : Nat
  transcript : List Byte
  key : List Byte
  net : Nat
  peer : Nat
  deriving DecidableEq, Repr

/-! Ethernet (spec/20) -/

/-- A message on its way out by an Ethernet port: network, next hop, port, priority, and whether it is RoCEv2's (R710, R712). -/
structure EthMsg where
  net : Nat
  hop : Nat
  port : Nat
  prio : Nat
  rdma : Bool := false
  msg : Msg
  deriving DecidableEq, Repr

/-- A tensor window segment that waits on a lock or a move (R155, R326, R671): its message, tenant, offset and data. -/
structure WinWrite where
  env : Envelope
  n : Nat
  offset : Nat
  data : List Byte
  deriving DecidableEq, Repr

/-- The Ethernet state (R706 to R720): the neighbours resolved, by network and address, oldest first; the messages that wait for
one; those that wait for the end of a pause; the priorities paused, by port; the values that addresses, gateways and the GDP port
keep until a write of them takes effect; the echoes answered in a second of uptime, by port; the queue pairs; the RDMA keys of
earlier admissions, with their tenant; and the tensor window segments that wait. -/
structure Eth where
  neighbours : List (Nat × Nat) := []
  held : List EthMsg := []
  waiting : List EthMsg := []
  paused : List (Nat × Nat) := []
  pausing : List (Nat × Nat) := []
  oldAddr : List (Nat × Nat) := []
  echoes : Sparse (Nat × Nat) := []
  qps : Sparse Qp := []
  oldKeys : List (Nat × Nat) := []
  windows : List WinWrite := []
  deriving DecidableEq, Repr

/-! Device, time, supply -/

/-- Device, start-up, flash and fuses (R678 to R704). -/
structure Dev where
  stages : List Nat := []
  resetWaiting : Option Nat := none
  flash : FwImage
  flashGood : Bool := true
  running : Option FwImage := none
  writing : Option FwImage := none
  fuseCount : Nat := 0
  ownerFused : Bool := false
  ownerHash : List Byte := []
  keySlots : Sparse KeySlot := []
  fusedOff : List Nat := []
  stopCauseFlash : Nat := 0
  faultLog : List Capture := []
  lastLogged : Option Nat := none
  lastFatal : Capture := {}
  stopping : Bool := false
  lastWatchdog : Option Nat := none
  watchdogReset : Option Nat := none
  secondFaults : Nat × Nat := (0, 0)
  deriving DecidableEq, Repr

/-- Cadence and scheduled events (R44 to R60). `cad` is the package's cadence time, reported as 0 while acquiring; `phase` the part
of a nanosecond beyond it and `rest` the offset still to be corrected by rate, both in 0.01 ps (R48); `heard` by base port the chip
whose beat frame came last and the uptime of that; `periods` the gate periods accepted and not yet in force, each with its beat
(R56). -/
structure Time where
  cad : Nat := 0
  phase : Nat := 0
  rest : Int := 0
  inBand : Nat := 0
  upstreamChip : Nat := 0
  seenTerm : Nat := 0
  heard : Sparse (Nat × Nat) := []
  periods : List (Nat × Nat) := []
  events : List Sched := []
  deriving DecidableEq, Repr

/-- The supply and the envelope (R63 to R73): the input voltage of the sample before the latest (mV); the last 16 samples,
newest first, of input power (mW) and the two blades' currents (mA); whether the average calls for a reduction; the floor and
ceiling as they stand and where they go (mW); the committed floor and ceiling (W); a ride-through's recovery step to come; and the
compute dies that run ballast (R71). -/
structure Supply where
  prevMv : Option Nat := none
  samples : List (Nat × Nat × Nat) := []
  above : Bool := false
  floorNow : Nat := 0
  floorTo : Nat := 0
  ceilNow : Nat := 5200000
  ceilTo : Nat := 5200000
  committedFloor : Nat := 2860
  committedCeiling : Nat := 5200
  recovering : Bool := false
  ballastDies : List Nat := []
  deriving DecidableEq, Repr

/-- The governor (R36 to R40, R70, R74): by die, the request held (R38), the request granted where it is not the default 2,100
MHz, telemetry samples missing and valid in a row; the dies throttled, and those of them that have cooled below 95 °C since; the
pairs whose temperatures differ too much (R37); and whether clocks are being raised again (R70). -/
structure Gov where
  held : Sparse Nat := []
  granted : Sparse Nat := []
  missing : Sparse Nat := []
  valid : Sparse Nat := []
  throttled : List Nat := []
  cooled : List Nat := []
  hotPairs : List (Nat × Nat) := []
  raising : Bool := false
  deriving DecidableEq, Repr

/-- A write of the package to a tenant's memory that waits on a lock or a move (R155, R326): the step's bytes of a feed target (R603) with
the target's base and the step, or a word of the step ledger agent (R557). `unit` and `access` are what a fault of it is reported
under. -/
structure HeldWrite where
  tenant : Nat
  offset : Nat
  bytes : List Byte
  feed : Option (Nat × Nat)
  unit : Nat
  access : Nat
  deriving DecidableEq, Repr

/-- The whole state of the block. `regs` holds the value of every fixed-width dictionary object by its number
(Objects.lean); `pending` is the queue of commands, first in first out. -/
structure State where
  pending : List Instr := []
  regs : Sparse Nat := []
  drawn : Nat := 0
  serial : Nat := 1
  out : List Msg := []
  dev : Dev
  time : Time := {}
  supply : Supply := {}
  gov : Gov := {}
  replays : Sparse (List Nat) := []
  links : Sparse DieLink := []
  cores : Sparse Core := []
  ctxs : Sparse Ctx := []
  threads : Sparse Thread := []
  mem : List Host.Cell := []
  entries : Sparse Entry := []
  allocs : Sparse Alloc := []
  moves : Sparse Move := []
  loans : List Loan := []
  heldWrites : List HeldWrite := []
  poison : Sparse Nat := []
  injections : List Inject := []
  tenants : Sparse Tenant := []
  queues : Sparse Queue := []
  works : Sparse Work := []
  slots : Sparse Slot := []
  lasers : Sparse Laser := []
  ports : Sparse Port := []
  heaters : Sparse Int := []
  heaterCoefs : Sparse Int := []
  fabric : Fabric := {}
  colls : Colls := {}
  sketch : Sketch := {}
  life : Sparse Nat := []
  watches : Sparse Watch := []
  rejoinHeard : Sparse Nat := []
  captures : Sparse Capture := []
  latches : Sparse Latch := []
  sessions : List Session := []
  handshakes : List Handshake := []
  generations : Sparse Nat := []
  mapSeen : Sparse (List Byte) := []
  eth : Eth := {}
  deriving DecidableEq, Repr

/-- The machine right after power-good (R679: BOOT, uptime 0); log entries 4 and 5 name the values the spec does not
give. -/
def State.reset : State := { dev := { flash := Config.shippedImage } }

end Sys2Proof.Machine
end

