-- ==== Sys2Proof/Machine/Objects.lean ====
section
/-!
DEFINITION. The numbers of the dictionary objects (R640, R641): index * 256 + sub-index, one name per object of the
chapters' tables, what each holds at reset, and reading and writing the register store.
-/

namespace Sys2Proof.Machine

/-- The number of object index.sub (R640). -/
def obj (index sub : Nat) : Nat := index * 256 + sub

namespace Obj

/-- clock_request_mhz (0x4000+d.01, R42): U16, RW. -/
def clockRequestMhz (d : Nat) : Nat := obj (0x4000 + d) 0x1
/-- clock_granted_mhz (0x4000+d.02, R42): U16, RO. -/
def clockGrantedMhz (d : Nat) : Nat := obj (0x4000 + d) 0x2
/-- supply_mv (0x4000+d.03, R42): U16, RO. -/
def supplyMv (d : Nat) : Nat := obj (0x4000 + d) 0x3
/-- junction_temp (0x4000+d.04, R42): I32, RO. -/
def junctionTemp (d : Nat) : Nat := obj (0x4000 + d) 0x4
/-- power_mw (0x4000+d.05, R42): U32, RO. -/
def powerMw (d : Nat) : Nat := obj (0x4000 + d) 0x5
/-- limit_cap_count (0x4000+d.06, R42): U32, RO. -/
def limitCapCount (d : Nat) : Nat := obj (0x4000 + d) 0x6
/-- protective_step_count (0x4000+d.07, R42): U32, RO. -/
def protectiveStepCount (d : Nat) : Nat := obj (0x4000 + d) 0x7
/-- telemetry_state (0x4000+d.08, R42): U8, RO. -/
def telemetryState (d : Nat) : Nat := obj (0x4000 + d) 0x8
/-- link_replay_count (0x4020+d.(port+1), R43): U64, RO. -/
def linkReplayCount (d k : Nat) : Nat := obj (0x4020 + d) (k + 1)
/-- pair_clock_ratio_limit (0x4010.01, R43): F32, RO. -/
def pairClockRatioLimit : Nat := obj 0x4010 0x1
/-- pair_supply_limit_mv (0x4010.02, R43): U16, RO. -/
def pairSupplyLimitMv : Nat := obj 0x4010 0x2
/-- pair_temp_limit (0x4010.03, R43): U16, RO. -/
def pairTempLimit : Nat := obj 0x4010 0x3
/-- pair_temp_act (0x4010.04, R43): U16, RO. -/
def pairTempAct : Nat := obj 0x4010 0x4
/-- cadence_time (0x2000.01, R78): CAD64, RO. -/
def cadenceTime : Nat := obj 0x2000 0x1
/-- cadence_state (0x2000.02, R78): U8, RO. -/
def cadenceState : Nat := obj 0x2000 0x2
/-- cadence_master_chip (0x2000.03, R78): U16, RO. -/
def cadenceMasterChip : Nat := obj 0x2000 0x3
/-- cadence_term (0x2000.04, R78): U32, RO. -/
def cadenceTerm : Nat := obj 0x2000 0x4
/-- cadence_role (0x2000.05, R78): U8, RW. -/
def cadenceRole : Nat := obj 0x2000 0x5
/-- cadence_offset_ps (0x2000.06, R78): I32, RO. -/
def cadenceOffsetPs : Nat := obj 0x2000 0x6
/-- upstream_port (0x2000.07, R78): U8, RO. -/
def upstreamPort : Nat := obj 0x2000 0x7
/-- holdover_count (0x2000.08, R78): U32, RO. -/
def holdoverCount : Nat := obj 0x2000 0x8
/-- gate_period_beats (0x2001.01, R78): U16, RW. -/
def gatePeriodBeats : Nat := obj 0x2001 0x1
/-- next_gate (0x2001.02, R78): CAD64, RO. -/
def nextGate : Nat := obj 0x2001 0x2
/-- scheduled_pending (0x2001.03, R78): U16, RO. -/
def scheduledPending : Nat := obj 0x2001 0x3
/-- late_event_count (0x2001.04, R78): U32, RO. -/
def lateEventCount : Nat := obj 0x2001 0x4
/-- scheduled_refused_count (0x2001.05, R78): U32, RO. -/
def scheduledRefusedCount : Nat := obj 0x2001 0x5
/-- uptime (0x2002.01, R78): TIME64, RO. -/
def uptime : Nat := obj 0x2002 0x1
/-- input_mv (0x2010.01, R79): U32, RO. -/
def inputMv : Nat := obj 0x2010 0x1
/-- input_ma (0x2010.02, R79): U32, RO. -/
def inputMa : Nat := obj 0x2010 0x2
/-- input_mw (0x2010.03, R79): U32, RO. -/
def inputMw : Nat := obj 0x2010 0x3
/-- supply_state (0x2010.04, R79): U8, RO. -/
def supplyState : Nat := obj 0x2010 0x4
/-- ride_through_count (0x2010.05, R79): U32, RO. -/
def rideThroughCount : Nat := obj 0x2010 0x5
/-- last_stop_cause (0x2010.06, R79): U8, RO. -/
def lastStopCause : Nat := obj 0x2010 0x6
/-- power_floor_w (0x2020.01, R80): U16, RW. -/
def powerFloorW : Nat := obj 0x2020 0x1
/-- power_ceiling_w (0x2020.02, R80): U16, RW. -/
def powerCeilingW : Nat := obj 0x2020 0x2
/-- ramp_limit_w_per_ms (0x2020.03, R80): U16, RW. -/
def rampLimitWPerMs : Nat := obj 0x2020 0x3
/-- stagger_groups (0x2020.04, R80): U16, RW. -/
def staggerGroups : Nat := obj 0x2020 0x4
/-- stagger_step_gates (0x2020.05, R80): U16, RW. -/
def staggerStepGates : Nat := obj 0x2020 0x5
/-- floor_effective_w (0x2020.06, R80): U16, RO. -/
def floorEffectiveW : Nat := obj 0x2020 0x6
/-- ceiling_effective_w (0x2020.07, R80): U16, RO. -/
def ceilingEffectiveW : Nat := obj 0x2020 0x7
/-- ballast_mw (0x2020.08, R80): U32, RO. -/
def ballastMw : Nat := obj 0x2020 0x8
/-- envelope_commit (0x2020.09, R80): U8, WO. -/
def envelopeCommit : Nat := obj 0x2020 0x9
/-- throttle_temp (0x2030.01, R81): U16, RO. -/
def throttleTemp : Nat := obj 0x2030 0x1
/-- trip_temp (0x2030.02, R81): U16, RO. -/
def tripTemp : Nat := obj 0x2030 0x2
/-- throttle_clock_mhz (0x2030.03, R81): U16, RW. -/
def throttleClockMhz : Nat := obj 0x2030 0x3
/-- throttle_count (0x2030.04, R81): U32, RO. -/
def throttleCount : Nat := obj 0x2030 0x4
/-- matrix_mode (0x4100+d.c, R162): U8, RO. -/
def matrixMode (core : Nat) : Nat := obj (0x4100 + core / 64) (core % 64)
/-- tile_replay_count (0x4110+d.c, R162): U64, RO. -/
def tileReplayCount (core : Nat) : Nat := obj (0x4110 + core / 64) (core % 64)
/-- numeric_fault_count (0x4120+d.c, R162): U32, RO. -/
def numericFaultCount (core : Nat) : Nat := obj (0x4120 + core / 64) (core % 64)
/-- stream_cycles (0x4130+d.c, R162): U64, RO. -/
def streamCycles (core : Nat) : Nat := obj (0x4130 + core / 64) (core % 64)
/-- preload_miss_count (0x4140+d.c, R162): U32, RO. -/
def preloadMissCount (core : Nat) : Nat := obj (0x4140 + core / 64) (core % 64)
/-- partition_fault_count (0x4150+d.c, R162): U32, RO. -/
def partitionFaultCount (core : Nat) : Nat := obj (0x4150 + core / 64) (core % 64)
/-- shared_fault_count (0x4160+d.c, R162): U32, RO. -/
def sharedFaultCount (core : Nat) : Nat := obj (0x4160 + core / 64) (core % 64)
/-- job_seed (0x4200+n.01, R186): U64, RW. -/
def jobSeed (n : Nat) : Nat := obj (0x4200 + n) 0x1
/-- step_seed (0x4200+n.02, R186): U64, RO. -/
def stepSeed (n : Nat) : Nat := obj (0x4200 + n) 0x2
/-- seed_step (0x4200+n.03, R186): U64, RO. -/
def seedStep (n : Nat) : Nat := obj (0x4200 + n) 0x3
/-- stochastic_step_count (0x4170+d.c, R187): U64, RO. -/
def stochasticStepCount (core : Nat) : Nat := obj (0x4170 + core / 64) (core % 64)
/-- window_truncation_count (0x4180+d.c, R187): U64, RO. -/
def windowTruncationCount (core : Nat) : Nat := obj (0x4180 + core / 64) (core % 64)
/-- scaled_range_count (0x4220+d.c, R187): U64, RO. -/
def scaledRangeCount (core : Nat) : Nat := obj (0x4220 + core / 64) (core % 64)
/-- vector_issue_count (0x4190+d.c, R221): U64, RO. -/
def vectorIssueCount (core : Nat) : Nat := obj (0x4190 + core / 64) (core % 64)
/-- row_instruction_count (0x41A0+d.c, R221): U64, RO. -/
def rowInstructionCount (core : Nat) : Nat := obj (0x41A0 + core / 64) (core % 64)
/-- context_switch_count (0x41B0+d.c, R221): U64, RO. -/
def contextSwitchCount (core : Nat) : Nat := obj (0x41B0 + core / 64) (core % 64)
/-- switch_cycles (0x41C0+d.c, R221): U64, RO. -/
def switchCycles (core : Nat) : Nat := obj (0x41C0 + core / 64) (core % 64)
/-- context_state (0x41D0+d.x, R221): U8, RO. -/
def contextState (core ctx : Nat) : Nat := obj (0x41D0 + core / 64) (core % 64 * 4 + ctx)
/-- empty_reduction_flag (0x41E0+d.x, R221): U8, CLR. -/
def emptyReductionFlag (core ctx : Nat) : Nat := obj (0x41E0 + core / 64) (core % 64 * 4 + ctx)
/-- thread_groups (0x41F0+d.x, R221): U8, RO. -/
def threadGroups (core ctx : Nat) : Nat := obj (0x41F0 + core / 64) (core % 64 * 4 + ctx)
/-- stack_base (0x4300+d.x, R253): U64, RW. -/
def stackBase (core ctx : Nat) : Nat := obj (0x4300 + core / 64) (core % 64 * 4 + ctx)
/-- stack_limit (0x4310+d.x, R253): U64, RW. -/
def stackLimit (core ctx : Nat) : Nat := obj (0x4310 + core / 64) (core % 64 * 4 + ctx)
/-- stack_top (0x4320+d.x, R253): U64, RO. -/
def stackTop (core ctx : Nat) : Nat := obj (0x4320 + core / 64) (core % 64 * 4 + ctx)
/-- stack_high_water (0x4330+d.x, R253): U64, RO. -/
def stackHighWater (core ctx : Nat) : Nat := obj (0x4330 + core / 64) (core % 64 * 4 + ctx)
/-- stack_overflow_count (0x4340+d.x, R253): U32, RO. -/
def stackOverflowCount (core ctx : Nat) : Nat := obj (0x4340 + core / 64) (core % 64 * 4 + ctx)
/-- stack_underflow_count (0x4350+d.x, R253): U32, RO. -/
def stackUnderflowCount (core ctx : Nat) : Nat := obj (0x4350 + core / 64) (core % 64 * 4 + ctx)
/-- stack_order_count (0x4360+d.x, R253): U32, RO. -/
def stackOrderCount (core ctx : Nat) : Nat := obj (0x4360 + core / 64) (core % 64 * 4 + ctx)
/-- stack_leftover_count (0x4370+d.x, R253): U32, RO. -/
def stackLeftoverCount (core ctx : Nat) : Nat := obj (0x4370 + core / 64) (core % 64 * 4 + ctx)
/-- keep_mismatch_count (0x4380+d.x, R253): U32, RO. -/
def keepMismatchCount (core ctx : Nat) : Nat := obj (0x4380 + core / 64) (core % 64 * 4 + ctx)
/-- service_request (0x4400+n.01, R254): U8, RW. -/
def serviceRequest (n : Nat) : Nat := obj (0x4400 + n) 0x1
/-- service_state (0x4400+n.02, R254): U8, RO. -/
def serviceState (n : Nat) : Nat := obj (0x4400 + n) 0x2
/-- startup_steps (0x4400+n.03, R254): U16, RW. -/
def startupSteps (n : Nat) : Nat := obj (0x4400 + n) 0x3
/-- replay_full_keep (0x4400+n.04, R254): BOOL, RW. -/
def replayFullKeep (n : Nat) : Nat := obj (0x4400 + n) 0x4
/-- version_reserve (0x4500+n.01, R282): U8, RW. -/
def versionReserve (n : Nat) : Nat := obj (0x4500 + n) 0x1
/-- tag_quota (0x4500+n.02, R282): U16, RW. -/
def tagQuota (n : Nat) : Nat := obj (0x4500 + n) 0x2
/-- current_version (0x4500+n.03, R282): U16, RO. -/
def currentVersion (n : Nat) : Nat := obj (0x4500 + n) 0x3
/-- pending_open (0x4500+n.04, R282): BOOL, RO. -/
def pendingOpen (n : Nat) : Nat := obj (0x4500 + n) 0x4
/-- oldest_held (0x4500+n.05, R282): U16, RO. -/
def oldestHeld (n : Nat) : Nat := obj (0x4500 + n) 0x5
/-- live_tags (0x4500+n.06, R282): U16, RO. -/
def liveTags (n : Nat) : Nat := obj (0x4500 + n) 0x6
/-- version_wait_count (0x4500+n.07, R282): U32, RO. -/
def versionWaitCount (n : Nat) : Nat := obj (0x4500 + n) 0x7
/-- tag_wait_count (0x4500+n.08, R282): U32, RO. -/
def tagWaitCount (n : Nat) : Nat := obj (0x4500 + n) 0x8
/-- version_fault_count (0x4500+n.09, R282): U32, RO. -/
def versionFaultCount (n : Nat) : Nat := obj (0x4500 + n) 0x9
/-- update_sat_count (0x4500+n.0A, R282): U64, RO. -/
def updateSatCount (n : Nat) : Nat := obj (0x4500 + n) 0xA
/-- tag_capacity (0x4510.01, R283): U16, RO. -/
def tagCapacity : Nat := obj 0x4510 0x1
/-- tags_in_use (0x4510.02, R283): U16, RO. -/
def tagsInUse : Nat := obj 0x4510 0x2
/-- slot_capacity (0x8000.01, R307): U32, RO. -/
def slotCapacity : Nat := obj 0x8000 0x1
/-- slots_assigned (0x8000.02, R307): U32, RO. -/
def slotsAssigned : Nat := obj 0x8000 0x2
/-- slot_error_count (0x8000.03, R307): U32, RO. -/
def slotErrorCount : Nat := obj 0x8000 0x3
/-- slot_first (0x8010+n.01, R308): U16, RW. -/
def slotFirst (n : Nat) : Nat := obj (0x8010 + n) 0x1
/-- slot_count (0x8010+n.02, R308): U32, RW. -/
def slotCount (n : Nat) : Nat := obj (0x8010 + n) 0x2
/-- veto_mask (0x8010+n.03, R308): U8, RW. -/
def vetoMask (n : Nat) : Nat := obj (0x8010 + n) 0x3
/-- spike_k (0x8010+n.04, R308): F32, RW. -/
def spikeK (n : Nat) : Nat := obj (0x8010 + n) 0x4
/-- ew_weight (0x8010+n.05, R308): F32, RW. -/
def ewWeight (n : Nat) : Nat := obj (0x8010 + n) 0x5
/-- warmup_steps (0x8010+n.06, R308): U16, RW. -/
def warmupSteps (n : Nat) : Nat := obj (0x8010 + n) 0x6
/-- spike_veto_limit (0x8010+n.07, R308): U8, RW. -/
def spikeVetoLimit (n : Nat) : Nat := obj (0x8010 + n) 0x7
/-- loss_expected (0x8010+n.08, R308): BOOL, RW. -/
def lossExpected (n : Nat) : Nat := obj (0x8010 + n) 0x8
/-- loss_write (0x8020+n.01, R309): OCTETS(16), WO. -/
def lossWrite (n : Nat) : Nat := obj (0x8020 + n) 0x1
/-- loss_mean (0x8020+n.02, R309): F32, RO. -/
def lossMean (n : Nat) : Nat := obj (0x8020 + n) 0x2
/-- loss_var (0x8020+n.03, R309): F32, RO. -/
def lossVar (n : Nat) : Nat := obj (0x8020 + n) 0x3
/-- loss_samples (0x8020+n.04, R309): U32, RO. -/
def lossSamples (n : Nat) : Nat := obj (0x8020 + n) 0x4
/-- last_loss (0x8020+n.05, R309): F32, RO. -/
def lastLoss (n : Nat) : Nat := obj (0x8020 + n) 0x5
/-- grad_write (0x8020+n.06, R309): OCTETS(16), WO. -/
def gradWrite (n : Nat) : Nat := obj (0x8020 + n) 0x6
/-- grad_mean (0x8020+n.07, R309): F32, RO. -/
def gradMean (n : Nat) : Nat := obj (0x8020 + n) 0x7
/-- grad_var (0x8020+n.08, R309): F32, RO. -/
def gradVar (n : Nat) : Nat := obj (0x8020 + n) 0x8
/-- grad_samples (0x8020+n.09, R309): U32, RO. -/
def gradSamples (n : Nat) : Nat := obj (0x8020 + n) 0x9
/-- last_grad (0x8020+n.0A, R309): F32, RO. -/
def lastGrad (n : Nat) : Nat := obj (0x8020 + n) 0xA
/-- late_write_count (0x8020+n.0B, R309): U32, RO. -/
def lateWriteCount (n : Nat) : Nat := obj (0x8020 + n) 0xB
/-- stats_reset (0x8020+n.0C, R309): U8, WO. -/
def statsReset (n : Nat) : Nat := obj (0x8020 + n) 0xC
/-- advisory_count (0x8030+n.01, R310): U64, RO. -/
def advisoryCount (n : Nat) : Nat := obj (0x8030 + n) 0x1
/-- last_advisory (0x8030+n.02, R310): OCTETS(32), RO. -/
def lastAdvisory (n : Nat) : Nat := obj (0x8030 + n) 0x2
/-- veto_count (0x8030+n.03, R310): U32, RO. -/
def vetoCount (n : Nat) : Nat := obj (0x8030 + n) 0x3
/-- silent_flag (0x8030+n.04, R310): U8, CLR. -/
def silentFlag (n : Nat) : Nat := obj (0x8030 + n) 0x4
/-- slot_config (0x8100–0x81FF.s, R311): OCTETS(16), RW. -/
def slotConfig (q : Nat) : Nat := obj (0x8100 + q / 256) (q % 256)
/-- slot_step (0x8200–0x82FF.s, R311): OCTETS(64), RO. -/
def slotStep (q : Nat) : Nat := obj (0x8200 + q / 256) (q % 256)
/-- slot_total (0x8300–0x83FF.s, R311): OCTETS(64), RO. -/
def slotTotal (q : Nat) : Nat := obj (0x8300 + q / 256) (q % 256)
/-- slot_last (0x8400–0x84FF.s, R311): OCTETS(64), RO. -/
def slotLast (q : Nat) : Nat := obj (0x8400 + q / 256) (q % 256)
/-- near_capacity (0x3000.01, R356): U64, RO. -/
def nearCapacity : Nat := obj 0x3000 0x1
/-- main_reservable (0x3000.02, R356): U64, RO. -/
def mainReservable : Nat := obj 0x3000 0x2
/-- deep_reservable (0x3000.03, R356): U64, RO. -/
def deepReservable : Nat := obj 0x3000 0x3
/-- near_reserved_sum (0x3000.04, R356): U64, RO. -/
def nearReservedSum : Nat := obj 0x3000 0x4
/-- main_reserved_sum (0x3000.05, R356): U64, RO. -/
def mainReservedSum : Nat := obj 0x3000 0x5
/-- deep_reserved_sum (0x3000.06, R356): U64, RO. -/
def deepReservedSum : Nat := obj 0x3000 0x6
/-- entries_in_use (0x3000.07, R356): U32, RO. -/
def entriesInUse : Nat := obj 0x3000 0x7
/-- claims_in_use (0x3000.08, R356): U32, RO. -/
def claimsInUse : Nat := obj 0x3000 0x8
/-- spill_count (0x3000.09, R356): U32, RO. -/
def spillCount : Nat := obj 0x3000 0x9
/-- near_reserved (0x3010+n.01, R357): U64, RW. -/
def nearReserved (n : Nat) : Nat := obj (0x3010 + n) 0x1
/-- main_reserved (0x3010+n.02, R357): U64, RW. -/
def mainReserved (n : Nat) : Nat := obj (0x3010 + n) 0x2
/-- deep_reserved (0x3010+n.03, R357): U64, RW. -/
def deepReserved (n : Nat) : Nat := obj (0x3010 + n) 0x3
/-- near_charged (0x3010+n.04, R357): U64, RO. -/
def nearCharged (n : Nat) : Nat := obj (0x3010 + n) 0x4
/-- main_charged (0x3010+n.05, R357): U64, RO. -/
def mainCharged (n : Nat) : Nat := obj (0x3010 + n) 0x5
/-- deep_charged (0x3010+n.06, R357): U64, RO. -/
def deepCharged (n : Nat) : Nat := obj (0x3010 + n) 0x6
/-- near_lent (0x3010+n.07, R357): U64, RO. -/
def nearLent (n : Nat) : Nat := obj (0x3010 + n) 0x7
/-- main_lent (0x3010+n.08, R357): U64, RO. -/
def mainLent (n : Nat) : Nat := obj (0x3010 + n) 0x8
/-- near_borrowed (0x3010+n.09, R357): U64, RO. -/
def nearBorrowed (n : Nat) : Nat := obj (0x3010 + n) 0x9
/-- main_borrowed (0x3010+n.0A, R357): U64, RO. -/
def mainBorrowed (n : Nat) : Nat := obj (0x3010 + n) 0xA
/-- late_lift_count (0x3010+n.0B, R357): U64, RO. -/
def lateLiftCount (n : Nat) : Nat := obj (0x3010 + n) 0xB
/-- claim_refused_count (0x3010+n.0C, R357): U32, RO. -/
def claimRefusedCount (n : Nat) : Nat := obj (0x3010 + n) 0xC
/-- map_reject_count (0x3010+n.0D, R357): U32, RO. -/
def mapRejectCount (n : Nat) : Nat := obj (0x3010 + n) 0xD
/-- tensor_map (0x3030+n.01, R358): OCTETS(n), RW. -/
def tensorMap (n : Nat) : Nat := obj (0x3030 + n) 0x1
/-- lift_queued (0x3040+d.01, R359): U16, RO. -/
def liftQueued (d : Nat) : Nat := obj (0x3040 + d) 0x1
/-- moves_in_flight (0x3040+d.02, R359): U8, RO. -/
def movesInFlight (d : Nat) : Nat := obj (0x3040 + d) 0x2
/-- bytes_moved (0x3040+d.03, R359): U64, RO. -/
def bytesMoved (d : Nat) : Nat := obj (0x3040 + d) 0x3
/-- late_commit_count (0x3040+d.04, R359): U32, RO. -/
def lateCommitCount (d : Nat) : Nat := obj (0x3040 + d) 0x4
/-- immediate_return_count (0x3040+d.05, R359): U32, RO. -/
def immediateReturnCount (d : Nat) : Nat := obj (0x3040 + d) 0x5
/-- writeback_count (0x3040+d.06, R359): U32, RO. -/
def writebackCount (d : Nat) : Nat := obj (0x3040 + d) 0x6
/-- poison_copied_count (0x3040+d.07, R359): U32, RO. -/
def poisonCopiedCount (d : Nat) : Nat := obj (0x3040 + d) 0x7
/-- main_corrected_count (0x3050+d.s, R360): U64, RO. -/
def mainCorrectedCount (d s : Nat) : Nat := obj (0x3050 + d) s
/-- main_uncorrected_count (0x3060+d.s, R360): U32, RO. -/
def mainUncorrectedCount (d s : Nat) : Nat := obj (0x3060 + d) s
/-- main_temp (0x3070+d.s, R360): I32, RO. -/
def mainTemp (d s : Nat) : Nat := obj (0x3070 + d) s
/-- main_state (0x3080+d.s, R360): U8, RO. -/
def mainState (d s : Nat) : Nat := obj (0x3080 + d) s
/-- deep_corrected_count (0x3090+d.s, R360): U64, RO. -/
def deepCorrectedCount (d s : Nat) : Nat := obj (0x3090 + d) s
/-- deep_uncorrected_count (0x30A0+d.s, R360): U32, RO. -/
def deepUncorrectedCount (d s : Nat) : Nat := obj (0x30A0 + d) s
/-- deep_temp (0x30B0+d.s, R360): I32, RO. -/
def deepTemp (d s : Nat) : Nat := obj (0x30B0 + d) s
/-- deep_state (0x30C0+d.s, R360): U8, RO. -/
def deepState (d s : Nat) : Nat := obj (0x30C0 + d) s
/-- correction_radius (0x30D0+d.01, R360): U8, RW. -/
def correctionRadius (d : Nat) : Nat := obj (0x30D0 + d) 0x1
/-- poisoned_lines (0x30D0+d.02, R360): U32, RO. -/
def poisonedLines (d : Nat) : Nat := obj (0x30D0 + d) 0x2
/-- tenant_state (0xA010+n.01, R397): U8, RO. -/
def tenantState (n : Nat) : Nat := obj (0xA010 + n) 0x1
/-- tenant_control (0xA010+n.02, R397): U8, WO. -/
def tenantControl (n : Nat) : Nat := obj (0xA010 + n) 0x2
/-- admit_result (0xA010+n.03, R397): U8, RO. -/
def admitResult (n : Nat) : Nat := obj (0xA010 + n) 0x3
/-- core_set (0xA010+n.04, R397): OCTETS(64), RW. -/
def coreSet (n : Nat) : Nat := obj (0xA010 + n) 0x4
/-- queue_first (0xA010+n.05, R397): U16, RW. -/
def queueFirst (n : Nat) : Nat := obj (0xA010 + n) 0x5
/-- queue_count (0xA010+n.06, R397): U16, RW. -/
def queueCount (n : Nat) : Nat := obj (0xA010 + n) 0x6
/-- piste_quota (0xA010+n.07, R397): U8, RW. -/
def pisteQuota (n : Nat) : Nat := obj (0xA010 + n) 0x7
/-- access_violation_count (0xA010+n.08, R397): U64, RO. -/
def accessViolationCount (n : Nat) : Nat := obj (0xA010 + n) 0x8
/-- queue_window_rkey (0xA010+n.09, R397): U32, RO. -/
def queueWindowRkey (n : Nat) : Nat := obj (0xA010 + n) 0x9
/-- tensor_rkey (0xA010+n.0A, R397): U32, RO. -/
def tensorRkey (n : Nat) : Nat := obj (0xA010 + n) 0xA
/-- image_load (0xA030+n.s, R398): OCTETS(n), WO. -/
def imageLoad (n s : Nat) : Nat := obj (0xA030 + n) s
/-- image_state (0xA040+n.s, R398): OCTETS(8), RO. -/
def imageState (n s : Nat) : Nat := obj (0xA040 + n) s
/-- image_clear (0xA050+n.s, R398): U8, WO. -/
def imageClear (n s : Nat) : Nat := obj (0xA050 + n) s
/-- queue_config (0xA100–0xA10F.s, R399): OCTETS(32), RW. -/
def queueConfig (q : Nat) : Nat := obj (0xA100 + q / 256) (q % 256)
/-- queue_status (0xA200–0xA20F.s, R399): OCTETS(40), RO. -/
def queueStatus (q : Nat) : Nat := obj (0xA200 + q / 256) (q % 256)
/-- completion_pull (0xA300–0xA30F.s, R399): OCTETS(32), RO. -/
def completionPull (q : Nat) : Nat := obj (0xA300 + q / 256) (q % 256)
/-- completion_head (0xA310–0xA31F.s, R399): U64, RW. -/
def completionHead (q : Nat) : Nat := obj (0xA310 + q / 256) (q % 256)
/-- result_word (0xA400–0xA4FF.w, R399): OCTETS(16), RO. -/
def resultWord (q w : Nat) : Nat := obj (0xA400 + q / 16) (q % 16 * 16 + w)
/-- ixush_protocol (0x5000.01, R449): U16, RO. -/
def ixushProtocol : Nat := obj 0x5000 0x1
/-- serial_digest (0x5000.02, R449): OCTETS(8), RO. -/
def serialDigest : Nat := obj 0x5000 0x2
/-- wax_period_ms (0x5000.03, R449): U32, RW. -/
def waxPeriodMs : Nat := obj 0x5000 0x3
/-- wax_allow_degraded (0x5000.04, R449): BOOL, RW. -/
def waxAllowDegraded : Nat := obj 0x5000 0x4
/-- port_remap (0x5000.05, R449): OCTETS(12), RW. -/
def portRemap : Nat := obj 0x5000 0x5
/-- fade_watch_cdb (0x5001.01, R449): I16, RO. -/
def fadeWatchCdb : Nat := obj 0x5001 0x1
/-- fade_swap_cdb (0x5001.02, R449): I16, RO. -/
def fadeSwapCdb : Nat := obj 0x5001 0x2
/-- fade_drop_cdb (0x5001.03, R449): I16, RO. -/
def fadeDropCdb : Nat := obj 0x5001 0x3
/-- rate_swap (0x5001.04, R449): F32, RO. -/
def rateSwap : Nat := obj 0x5001 0x4
/-- rate_fallback (0x5001.05, R449): F32, RO. -/
def rateFallback : Nat := obj 0x5001 0x5
/-- rate_drop (0x5001.06, R449): F32, RO. -/
def rateDrop : Nat := obj 0x5001 0x6
/-- port_state (0x5200+p.s, R450): U8, RO. -/
def portState (port : Nat) : Nat := obj (0x5200 + port / 4) (port % 4)
/-- port_rate_16ths (0x5210+p.s, R450): U8, RO. -/
def portRate16ths (port : Nat) : Nat := obj (0x5210 + port / 4) (port % 4)
/-- spare_role (0x5220+p.s, R450): U8, RO. -/
def spareRole (port : Nat) : Nat := obj (0x5220 + port / 4) (port % 4)
/-- peer_expected (0x5230+p.s, R450): OCTETS(32), RO. -/
def peerExpected (port : Nat) : Nat := obj (0x5230 + port / 4) (port % 4)
/-- peer_found (0x5240+p.s, R450): OCTETS(32), RO. -/
def peerFound (port : Nat) : Nat := obj (0x5240 + port / 4) (port % 4)
/-- minor_in_use (0x5250+p.s, R450): U8, RO. -/
def minorInUse (port : Nat) : Nat := obj (0x5250 + port / 4) (port % 4)
/-- wax_deferred_count (0x5260+p.s, R450): U32, RO. -/
def waxDeferredCount (port : Nat) : Nat := obj (0x5260 + port / 4) (port % 4)
/-- quarantine_count (0x5270+p.s, R450): U32, RO. -/
def quarantineCount (port : Nat) : Nat := obj (0x5270 + port / 4) (port % 4)
/-- lane_state (0x5100+p.x, R451): U8, RO. -/
def laneState (port laser : Nat) : Nat := obj (0x5100 + port / 4) (port % 4 * 9 + laser)
/-- lane_channel (0x5110+p.x, R451): U8, RO. -/
def laneChannel (port laser : Nat) : Nat := obj (0x5110 + port / 4) (port % 4 * 9 + laser)
/-- lane_modulation (0x5120+p.x, R451): U8, RO. -/
def laneModulation (port laser : Nat) : Nat := obj (0x5120 + port / 4) (port % 4 * 9 + laser)
/-- launch_power_cdb (0x5130+p.x, R451): I16, RO. -/
def launchPowerCdb (port laser : Nat) : Nat := obj (0x5130 + port / 4) (port % 4 * 9 + laser)
/-- precorrection_rate (0x5140+p.x, R451): F32, RO. -/
def precorrectionRate (port laser : Nat) : Nat := obj (0x5140 + port / 4) (port % 4 * 9 + laser)
/-- corrected_bits (0x5150+p.x, R451): U64, RO. -/
def correctedBits (port laser : Nat) : Nat := obj (0x5150 + port / 4) (port % 4 * 9 + laser)
/-- uncorrected_blocks (0x5160+p.x, R451): U64, RO. -/
def uncorrectedBlocks (port laser : Nat) : Nat := obj (0x5160 + port / 4) (port % 4 * 9 + laser)
/-- mislock_count (0x5170+p.x, R451): U32, RO. -/
def mislockCount (port laser : Nat) : Nat := obj (0x5170 + port / 4) (port % 4 * 9 + laser)
/-- swap_count (0x5180+p.x, R451): U32, RO. -/
def swapCount (port laser : Nat) : Nat := obj (0x5180 + port / 4) (port % 4 * 9 + laser)
/-- drop_count (0x5190+p.x, R451): U32, RO. -/
def dropCount (port laser : Nat) : Nat := obj (0x5190 + port / 4) (port % 4 * 9 + laser)
/-- retune_count (0x51A0+p.x, R451): U32, RO. -/
def retuneCount (port laser : Nat) : Nat := obj (0x51A0 + port / 4) (port % 4 * 9 + laser)
/-- heater_margin (0x51B0+p.x, R451): I16, RO. -/
def heaterMargin (port laser : Nat) : Nat := obj (0x51B0 + port / 4) (port % 4 * 9 + laser)
/-- chip_number (0x6000.01, R499): U16, RW. -/
def chipNumber : Nat := obj 0x6000 0x1
/-- rack_bits (0x6000.02, R499): U8, RW. -/
def rackBits : Nat := obj 0x6000 0x2
/-- drawing_in_force (0x6000.03, R499): U8, RO. -/
def drawingInForce : Nat := obj 0x6000 0x3
/-- avoided_chips (0x6000.04, R499): OCTETS(512), RO. -/
def avoidedChips : Nat := obj 0x6000 0x4
/-- route_switch_count (0x6000.05, R499): U32, RO. -/
def routeSwitchCount : Nat := obj 0x6000 0x5
/-- unreachable_count (0x6000.06, R499): U32, RO. -/
def unreachableCount : Nat := obj 0x6000 0x6
/-- fenced_discard_count (0x6000.07, R499): U64, RO. -/
def fencedDiscardCount : Nat := obj 0x6000 0x7
/-- drawing_mismatch_count (0x6000.08, R499): U32, RO. -/
def drawingMismatchCount : Nat := obj 0x6000 0x8
/-- busy_nak_count (0x6000.09, R499): U32, RO. -/
def busyNakCount : Nat := obj 0x6000 0x9
/-- resend_count (0x6000.0A, R499): U64, RO. -/
def resendCount : Nat := obj 0x6000 0xA
/-- streams_active (0x6000.0B, R499): U16, RO. -/
def streamsActive : Nat := obj 0x6000 0xB
/-- drawing_reject_count (0x6000.0C, R499): U32, RO. -/
def drawingRejectCount : Nat := obj 0x6000 0xC
/-- slalom_late_count (0x6000.0D, R499): U32, RO. -/
def slalomLateCount : Nat := obj 0x6000 0xD
/-- drawing_store (0x6010.s (s = 1–8), R500): OCTETS(n), RW. -/
def drawingStore (s : Nat) : Nat := obj 0x6010 s
/-- slalom_step (0x6020.s (s = 1–16), R500): OCTETS(16), RW. -/
def slalomStep (s : Nat) : Nat := obj 0x6020 s
/-- slalom_arm (0x6021.01, R500): U8, WO. -/
def slalomArm : Nat := obj 0x6021 0x1
/-- slalom_state (0x6021.02, R500): U8, RO. -/
def slalomState : Nat := obj 0x6021 0x2
/-- slalom_next (0x6021.03, R500): U8, RO. -/
def slalomNext : Nat := obj 0x6021 0x3
/-- last_piste_event (0x6030.01, R500): OCTETS(16), RO. -/
def lastPisteEvent : Nat := obj 0x6030 0x1
/-- piste_event_count (0x6030.02, R500): U32, RO. -/
def pisteEventCount : Nat := obj 0x6030 0x2
/-- retransmit_bytes (0x6040+p.s, R501): U32, RO. -/
def retransmitBytes (port : Nat) : Nat := obj (0x6040 + port / 4) (port % 4)
/-- credit_wait_cycles (0x6050+p.s, R501): U64, RO. -/
def creditWaitCycles (port : Nat) : Nat := obj (0x6050 + port / 4) (port % 4)
/-- transit_flits (0x6060+p.s, R501): U64, RO. -/
def transitFlits (port : Nat) : Nat := obj (0x6060 + port / 4) (port % 4)
/-- requester_offsets (0x6400+site.01, R502): OCTETS(n), RW. -/
def requesterOffsets (site : Nat) : Nat := obj (0x6400 + site) 0x1
/-- class_floors (0x6400+site.02, R502): OCTETS(24), RW. -/
def classFloors (site : Nat) : Nat := obj (0x6400 + site) 0x2
/-- settings_effective (0x6400+site.03, R502): OCTETS(n), RO. -/
def settingsEffective (site : Nat) : Nat := obj (0x6400 + site) 0x3
/-- missed_deadline_counts (0x6400+site.04, R502): OCTETS(n), RO. -/
def missedDeadlineCounts (site : Nat) : Nat := obj (0x6400 + site) 0x4
/-- arbiter_commit (0x6300.01, R502): U8, WO. -/
def arbiterCommit : Nat := obj 0x6300 0x1
/-- group_table (0x6500–0x6503.s, R541): OCTETS(n), RW. -/
def groupTable (q : Nat) : Nat := obj (0x6500 + q / 256) (q % 256)
/-- collective_plan (0x6600–0x663F.s, R542): OCTETS(128), RW. -/
def collectivePlan (q : Nat) : Nat := obj (0x6600 + q / 256) (q % 256)
/-- hold_limit_ms (0x6700+n.01, R543): U16, RW. -/
def holdLimitMs (n : Nat) : Nat := obj (0x6700 + n) 0x1
/-- stall_ms (0x6700+n.02, R543): U16, RW. -/
def stallMs (n : Nat) : Nat := obj (0x6700 + n) 0x2
/-- collective_slack_ns (0x6700+n.03, R543): U32, RW. -/
def collectiveSlackNs (n : Nat) : Nat := obj (0x6700 + n) 0x3
/-- collective_hold (0x6700+n.04, R543): U8, RW. -/
def collectiveHold (n : Nat) : Nat := obj (0x6700 + n) 0x4
/-- open_instances (0x6700+n.05, R543): U16, RO. -/
def openInstances (n : Nat) : Nat := obj (0x6700 + n) 0x5
/-- rescale_count (0x6700+n.06, R543): U64, RO. -/
def rescaleCount (n : Nat) : Nat := obj (0x6700 + n) 0x6
/-- duplicate_run_count (0x6700+n.07, R543): U64, RO. -/
def duplicateRunCount (n : Nat) : Nat := obj (0x6700 + n) 0x7
/-- instance_fail_count (0x6700+n.08, R543): U32, RO. -/
def instanceFailCount (n : Nat) : Nat := obj (0x6700 + n) 0x8
/-- stall_count (0x6700+n.09, R543): U32, RO. -/
def stallCount (n : Nat) : Nat := obj (0x6700 + n) 0x9
/-- last_collective_event (0x6700+n.0A, R543): OCTETS(32), RO. -/
def lastCollectiveEvent (n : Nat) : Nat := obj (0x6700 + n) 0xA
/-- sketch_integration (0x5800.01, R561): U8, RW. -/
def sketchIntegration : Nat := obj 0x5800 0x1
/-- sample_code (0x5800.02, R561): U8, RW. -/
def sampleCode : Nat := obj 0x5800 0x2
/-- sketch_skip_count (0x5800.03, R561): U32, RO. -/
def sketchSkipCount : Nat := obj 0x5800 0x3
/-- engine_state (0x5810+p.01, R561): U8, RO. -/
def engineState (p : Nat) : Nat := obj (0x5810 + p) 0x1
/-- blocks_projected (0x5810+p.02, R561): U64, RO. -/
def blocksProjected (p : Nat) : Nat := obj (0x5810 + p) 0x2
/-- blocks_skipped (0x5810+p.03, R561): U64, RO. -/
def blocksSkipped (p : Nat) : Nat := obj (0x5810 + p) 0x3
/-- noise_sigma (0x5810+p.04, R561): F32, RO. -/
def noiseSigma (p : Nat) : Nat := obj (0x5810 + p) 0x4
/-- ortho_error (0x5810+p.05, R561): F32, RO. -/
def orthoError (p : Nat) : Nat := obj (0x5810 + p) 0x5
/-- calibration_count (0x5810+p.06, R561): U32, RO. -/
def calibrationCount (p : Nat) : Nat := obj (0x5810 + p) 0x6
/-- sketch_watch (0x5820–0x5823.s, R562): OCTETS(4), RW. -/
def sketchWatch (q : Nat) : Nat := obj (0x5820 + q / 256) (q % 256)
/-- sketch_estimate (0x5840.g, R562): OCTETS(64), RO. -/
def sketchEstimate (s : Nat) : Nat := obj 0x5840 s
/-- estimate_count (0x5841.g, R562): U32, RO. -/
def estimateCount (s : Nat) : Nat := obj 0x5841 s
/-- micro_batch_samples (0x5860+n.01, R564): U32, RW. -/
def microBatchSamples (n : Nat) : Nat := obj (0x5860 + n) 0x1
/-- accum_count (0x5860+n.02, R564): U16, RW. -/
def accumCount (n : Nat) : Nat := obj (0x5860 + n) 0x2
/-- steer_mode (0x5860+n.03, R564): U8, RW. -/
def steerMode (n : Nat) : Nat := obj (0x5860 + n) 0x3
/-- steer_group (0x5860+n.04, R564): U8, RW. -/
def steerGroup (n : Nat) : Nat := obj (0x5860 + n) 0x4
/-- steer_chip (0x5860+n.05, R564): U16, RW. -/
def steerChip (n : Nat) : Nat := obj (0x5860 + n) 0x5
/-- accum_min (0x5860+n.06, R564): U16, RW. -/
def accumMin (n : Nat) : Nat := obj (0x5860 + n) 0x6
/-- accum_max (0x5860+n.07, R564): U16, RW. -/
def accumMax (n : Nat) : Nat := obj (0x5860 + n) 0x7
/-- steer_gain (0x5860+n.08, R564): F32, RW. -/
def steerGain (n : Nat) : Nat := obj (0x5860 + n) 0x8
/-- steer_hold_steps (0x5860+n.09, R564): U16, RW. -/
def steerHoldSteps (n : Nat) : Nat := obj (0x5860 + n) 0x9
/-- noise_ew_weight (0x5860+n.0A, R564): F32, RW. -/
def noiseEwWeight (n : Nat) : Nat := obj (0x5860 + n) 0xA
/-- steer_address (0x5860+n.0B, R564): U64, RW. -/
def steerAddress (n : Nat) : Nat := obj (0x5860 + n) 0xB
/-- mean_form (0x5860+n.0C, R564): BOOL, RW. -/
def meanForm (n : Nat) : Nat := obj (0x5860 + n) 0xC
/-- steer_change_count (0x5860+n.0D, R564): U32, RO. -/
def steerChangeCount (n : Nat) : Nat := obj (0x5860 + n) 0xD
/-- ledger_job_id (0x7010+n.01, R583): U32, RW. -/
def ledgerJobId (n : Nat) : Nat := obj (0x7010 + n) 0x1
/-- ledger_first_step (0x7010+n.02, R583): U64, RW. -/
def ledgerFirstStep (n : Nat) : Nat := obj (0x7010 + n) 0x2
/-- ledger_members (0x7010+n.03, R583): OCTETS(n), RW. -/
def ledgerMembers (n : Nat) : Nat := obj (0x7010 + n) 0x3
/-- committed_step (0x7010+n.04, R583): U64, RO. -/
def committedStep (n : Nat) : Nat := obj (0x7010 + n) 0x4
/-- step_attempt (0x7010+n.05, R583): U16, RO. -/
def stepAttempt (n : Nat) : Nat := obj (0x7010 + n) 0x5
/-- step_close (0x7010+n.06, R583): U64, WO. -/
def stepClose (n : Nat) : Nat := obj (0x7010 + n) 0x6
/-- abort_request (0x7010+n.07, R583): U64, WO. -/
def abortRequest (n : Nat) : Nat := obj (0x7010 + n) 0x7
/-- job_epoch (0x7010+n.08, R583): U32, RO. -/
def jobEpoch (n : Nat) : Nat := obj (0x7010 + n) 0x8
/-- live_members (0x7010+n.09, R583): U16, RO. -/
def liveMembers (n : Nat) : Nat := obj (0x7010 + n) 0x9
/-- ledger_root (0x7010+n.0A, R583): U16, RO. -/
def ledgerRoot (n : Nat) : Nat := obj (0x7010 + n) 0xA
/-- commit_lead_beats (0x7010+n.0B, R583): U32, RW. -/
def commitLeadBeats (n : Nat) : Nat := obj (0x7010 + n) 0xB
/-- vote_timeout_ms (0x7010+n.0C, R583): U32, RW. -/
def voteTimeoutMs (n : Nat) : Nat := obj (0x7010 + n) 0xC
/-- commit_count (0x7010+n.0D, R583): U64, RO. -/
def commitCount (n : Nat) : Nat := obj (0x7010 + n) 0xD
/-- abort_count (0x7010+n.0E, R583): U64, RO. -/
def abortCount (n : Nat) : Nat := obj (0x7010 + n) 0xE
/-- commit_late_count (0x7010+n.0F, R583): U32, RO. -/
def commitLateCount (n : Nat) : Nat := obj (0x7010 + n) 0xF
/-- last_ledger_event (0x7010+n.10, R583): OCTETS(32), RO. -/
def lastLedgerEvent (n : Nat) : Nat := obj (0x7010 + n) 0x10
/-- ring_base (0x7030+n.01, R587): U64, RW. -/
def ringBase (n : Nat) : Nat := obj (0x7030 + n) 0x1
/-- ring_bytes (0x7030+n.02, R587): U64, RW. -/
def ringBytes (n : Nat) : Nat := obj (0x7030 + n) 0x2
/-- ring_slots (0x7030+n.03, R587): U8, RW. -/
def ringSlots (n : Nat) : Nat := obj (0x7030 + n) 0x3
/-- slot_bytes (0x7030+n.04, R587): U64, RO. -/
def slotBytes (n : Nat) : Nat := obj (0x7030 + n) 0x4
/-- sealed_slots (0x7030+n.05, R587): U8, RO. -/
def sealedSlots (n : Nat) : Nat := obj (0x7030 + n) 0x5
/-- mirror_table (0x7050+n.01, R609): OCTETS(n), RW. -/
def mirrorTable (n : Nat) : Nat := obj (0x7050 + n) 0x1
/-- mirror_populate (0x7050+n.02, R609): U8, WO. -/
def mirrorPopulate (n : Nat) : Nat := obj (0x7050 + n) 0x2
/-- mirror_verify (0x7050+n.03, R609): U8, WO. -/
def mirrorVerify (n : Nat) : Nat := obj (0x7050 + n) 0x3
/-- populate_bytes (0x7050+n.04, R609): U64, RO. -/
def populateBytes (n : Nat) : Nat := obj (0x7050 + n) 0x4
/-- digest_mismatch_count (0x7050+n.05, R609): U32, RO. -/
def digestMismatchCount (n : Nat) : Nat := obj (0x7050 + n) 0x5
/-- last_mirror_event (0x7050+n.06, R609): OCTETS(32), RO. -/
def lastMirrorEvent (n : Nat) : Nat := obj (0x7050 + n) 0x6
/-- membership_epoch (0x7000.01, R612): U32, RO. -/
def membershipEpoch : Nat := obj 0x7000 0x1
/-- own_life (0x7000.02, R612): U16, RO. -/
def ownLife : Nat := obj 0x7000 0x2
/-- member_state (0x7000.03, R612): U8, RO. -/
def memberState : Nat := obj 0x7000 0x3
/-- life_table (0x7000.04, R612): OCTETS(32768), RO. -/
def lifeTable : Nat := obj 0x7000 0x4
/-- fence_request (0x7000.05, R612): U16, WO. -/
def fenceRequest : Nat := obj 0x7000 0x5
/-- member_rejoin (0x7000.06, R612): U16, WO. -/
def memberRejoin : Nat := obj 0x7000 0x6
/-- watched (0x7000.07, R612): OCTETS(40), RO. -/
def watchedObj : Nat := obj 0x7000 0x7
/-- verdict_count (0x7000.08, R612): U32, RO. -/
def verdictCount : Nat := obj 0x7000 0x8
/-- suspect_count (0x7000.09, R612): U32, RO. -/
def suspectCount : Nat := obj 0x7000 0x9
/-- suspect_cleared_count (0x7000.0A, R612): U32, RO. -/
def suspectClearedCount : Nat := obj 0x7000 0xA
/-- table_sync_count (0x7000.0B, R612): U32, RO. -/
def tableSyncCount : Nat := obj 0x7000 0xB
/-- last_membership_event (0x7000.0C, R612): OCTETS(32), RO. -/
def lastMembershipEvent : Nat := obj 0x7000 0xC
/-- package_status (0x9000.01, R637): OCTETS(16), CLR. -/
def packageStatus : Nat := obj 0x9000 0x1
/-- package_capture (0x9000.02, R637): OCTETS(48), CLR. -/
def packageCapture : Nat := obj 0x9000 0x2
/-- corrected_events (0x9000.03, R637): BOOL, RW. -/
def correctedEvents : Nat := obj 0x9000 0x3
/-- event_drop_count (0x9000.04, R637): U32, RO. -/
def eventDropCount : Nat := obj 0x9000 0x4
/-- last_fault_event (0x9000.05, R637): OCTETS(32), RO. -/
def lastFaultEvent : Nat := obj 0x9000 0x5
/-- fault_log (0x9000.06, R637): OCTETS(n), RO. -/
def faultLog : Nat := obj 0x9000 0x6
/-- log_skip_count (0x9000.07, R637): U32, RO. -/
def logSkipCount : Nat := obj 0x9000 0x7
/-- last_fatal_record (0x9000.08, R637): OCTETS(48), RO. -/
def lastFatalRecord : Nat := obj 0x9000 0x8
/-- watchdog_count (0x9000.09, R637): U32, RO. -/
def watchdogCount : Nat := obj 0x9000 0x9
/-- test_mode (0xC000.01, R637): U8, RW. -/
def testMode : Nat := obj 0xC000 0x1
/-- perturb_active (0xC000.02, R637): U32, RO. -/
def perturbActive : Nat := obj 0xC000 0x2
/-- perturb_stop (0xC000.03, R637): U8, WO. -/
def perturbStop : Nat := obj 0xC000 0x3
/-- die_capture (0x9010+d.01, R638): OCTETS(48), CLR. -/
def dieCapture (d : Nat) : Nat := obj (0x9010 + d) 0x1
/-- corrected_count (0x9010+d.02, R638): U64, RO. -/
def correctedCount (d : Nat) : Nat := obj (0x9010 + d) 0x2
/-- contained_count (0x9010+d.03, R638): U64, RO. -/
def containedCount (d : Nat) : Nat := obj (0x9010 + d) 0x3
/-- fatal_count (0x9010+d.04, R638): U32, RO. -/
def fatalCount (d : Nat) : Nat := obj (0x9010 + d) 0x4
/-- out_of_service (0x9010+d.05, R638): OCTETS(8), RO. -/
def outOfService (d : Nat) : Nat := obj (0x9010 + d) 0x5
/-- die_status (0x9100+d.(g+1), R638): OCTETS(16), CLR. -/
def dieStatus (d k : Nat) : Nat := obj (0x9100 + d) (k + 1)
/-- cluster_capture (0x9200+d.(c+1), R638): OCTETS(48), CLR. -/
def clusterCapture (d k : Nat) : Nat := obj (0x9200 + d) (k + 1)
/-- cluster_wiring (0x9210+d.(c+1), R638): OCTETS(16), CLR. -/
def clusterWiring (d k : Nat) : Nat := obj (0x9210 + d) (k + 1)
/-- crossing_delay (0xC010.s, R639): U16, RW. -/
def crossingDelay (s : Nat) : Nat := obj 0xC010 s
/-- queue_backpressure (0xC020–0xC02F.s, R639): U8, RW. -/
def queueBackpressure (q : Nat) : Nat := obj (0xC020 + q / 256) (q % 256)
/-- completion_delay (0xC030–0xC03F.s, R639): U16, RW. -/
def completionDelay (q : Nat) : Nat := obj (0xC030 + q / 256) (q % 256)
/-- credit_delay (0xC040+p.s, R639): U16, RW. -/
def creditDelay (port : Nat) : Nat := obj (0xC040 + port / 4) (port % 4)
/-- arbitration_jitter (0xC100+site.01, R639): U32, RW. -/
def arbitrationJitter (site : Nat) : Nat := obj (0xC100 + site) 0x1
/-- memory_inject (0xC200.01, R639): OCTETS(16), WO. -/
def memoryInject : Nat := obj 0xC200 0x1
/-- inject_pending (0xC200.02, R639): U8, RO. -/
def injectPending : Nat := obj 0xC200 0x2
/-- lane_fade_sim (0xC210+p.x, R639): I16, RW. -/
def laneFadeSim (port laser : Nat) : Nat := obj (0xC210 + port / 4) (port % 4 * 9 + laser)
/-- beacon_drop (0xC220.s, R639): U16, RW. -/
def beaconDrop (s : Nat) : Nat := obj 0xC220 s
/-- probe_drop (0xC220.0B, R639): BOOL, RW. -/
def probeDrop : Nat := obj 0xC220 0xB
/-- vendor (0x0000.01, R674): STRING, RO. -/
def vendorName : Nat := obj 0x0 0x1
/-- family (0x0000.02, R674): STRING, RO. -/
def family : Nat := obj 0x0 0x2
/-- part_code (0x0000.03, R674): STRING, RO. -/
def partCode : Nat := obj 0x0 0x3
/-- enabled_cores (0x0000.04, R674): U16, RO. -/
def enabledCores : Nat := obj 0x0 0x4
/-- enabled_core_map (0x0000.05, R674): OCTETS(64), RO. -/
def enabledCoreMap : Nat := obj 0x0 0x5
/-- serial_number (0x0000.06, R674): STRING, RO. -/
def serialNumber : Nat := obj 0x0 0x6
/-- die_steppings (0x0000.07, R674): OCTETS(13), RO. -/
def dieSteppings : Nat := obj 0x0 0x7
/-- firmware_version (0x0000.08, R674): U32, RO. -/
def firmwareVersion : Nat := obj 0x0 0x8
/-- dictionary_version (0x0000.09, R674): U16, RO. -/
def dictionaryVersion : Nat := obj 0x0 0x9
/-- gdp_udp_port (0x0000.0A, R674): U16, RW. -/
def gdpUdpPort : Nat := obj 0x0 0xA
/-- session_id (0x0010.01, R675): U32, RO. -/
def sessionId : Nat := obj 0x10 0x1
/-- session_role (0x0010.02, R675): U8, RO. -/
def sessionRole : Nat := obj 0x10 0x2
/-- session_tenant (0x0010.03, R675): U8, RO. -/
def sessionTenant : Nat := obj 0x10 0x3
/-- violation_count (0x0010.04, R675): U32, RO. -/
def violationCount : Nat := obj 0x10 0x4
/-- event_loss_count (0x0010.05, R675): U32, RO. -/
def eventLossCount : Nat := obj 0x10 0x5
/-- subscriptions (0x0010.06, R675): U16, RO. -/
def subscriptions : Nat := obj 0x10 0x6
/-- session_opened (0x0010.07, R675): TIME64, RO. -/
def sessionOpened : Nat := obj 0x10 0x7
/-- session_close (0x0010.08, R675): U8, WO. -/
def sessionClose : Nat := obj 0x10 0x8
/-- session_table (0x0020.s (s = 1–64), R676): OCTETS(32), RO. -/
def sessionTable (s : Nat) : Nat := obj 0x20 s
/-- sessions_open (0x0021.01, R676): U8, RO. -/
def sessionsOpen : Nat := obj 0x21 0x1
/-- auth_fail_count (0x0021.02, R676): U32, RO. -/
def authFailCount : Nat := obj 0x21 0x2
/-- handshake_refused_count (0x0021.03, R676): U32, RO. -/
def handshakeRefusedCount : Nat := obj 0x21 0x3
/-- tensor_window (0xA060+n.01, R677): OCTETS(n), RW. -/
def tensorWindow (n : Nat) : Nat := obj (0xA060 + n) 0x1
/-- device_state (0x1000.01, R703): U8, RO. -/
def deviceState : Nat := obj 0x1000 0x1
/-- boot_stage (0x1000.02, R703): U8, RO. -/
def bootStage : Nat := obj 0x1000 0x2
/-- boot_failure (0x1000.03, R703): OCTETS(8), RO. -/
def bootFailure : Nat := obj 0x1000 0x3
/-- device_reset (0x1000.04, R703): U8, WO. -/
def deviceReset : Nat := obj 0x1000 0x4
/-- last_reset_kind (0x1000.05, R703): U8, RO. -/
def lastResetKind : Nat := obj 0x1000 0x5
/-- core_reset_count (0x1000.06, R703): U32, RO. -/
def coreResetCount : Nat := obj 0x1000 0x6
/-- ready_uptime (0x1000.07, R703): TIME64, RO. -/
def readyUptime : Nat := obj 0x1000 0x7
/-- self_test_failed (0x1000.08, R703): OCTETS(64), RO. -/
def selfTestFailed : Nat := obj 0x1000 0x8
/-- firmware_update (0x1010.01, R704): OCTETS(n), WO. -/
def firmwareUpdate : Nat := obj 0x1010 0x1
/-- update_state (0x1010.02, R704): U8, RO. -/
def updateState : Nat := obj 0x1010 0x2
/-- running_digest (0x1010.03, R704): DIGEST, RO. -/
def runningDigest : Nat := obj 0x1010 0x3
/-- running_security_version (0x1010.04, R704): U8, RO. -/
def runningSecurityVersion : Nat := obj 0x1010 0x4
/-- rollback_fuses (0x1010.05, R704): U8, RO. -/
def rollbackFuses : Nat := obj 0x1010 0x5
/-- rollback_commit (0x1010.06, R704): U8, WO. -/
def rollbackCommit : Nat := obj 0x1010 0x6
/-- identity_public_key (0xB000.01, R705): OCTETS(65), RO. -/
def identityPublicKey : Nat := obj 0xB000 0x1
/-- identity_certificate (0xB000.02, R705): OCTETS(n), RO. -/
def identityCertificate : Nat := obj 0xB000 0x2
/-- vendor_key_hash (0xB000.03, R705): DIGEST, RO. -/
def vendorKeyHash : Nat := obj 0xB000 0x3
/-- owner_key_hash (0xB000.04, R705): DIGEST, RW. -/
def ownerKeyHash : Nat := obj 0xB000 0x4
/-- provisioning (0xB000.05, R705): U8, RO. -/
def provisioning : Nat := obj 0xB000 0x5
/-- fuse_view (0xB000.06, R705): OCTETS(256), RO. -/
def fuseView : Nat := obj 0xB000 0x6
/-- fuse_digest (0xB000.07, R705): DIGEST, RO. -/
def fuseDigest : Nat := obj 0xB000 0x7
/-- config_digest (0xB000.08, R705): DIGEST, RO. -/
def configDigest : Nat := obj 0xB000 0x8
/-- maker_lock (0xB000.09, R705): U8, RO. -/
def makerLock : Nat := obj 0xB000 0x9
/-- key_slot (0xB010.s (s = 1–32), R705): OCTETS(40), RW. -/
def keySlot (s : Nat) : Nat := obj 0xB010 s
/-- attestation_nonce (0xB020.01, R705): OCTETS(32), WO. -/
def attestationNonce : Nat := obj 0xB020 0x1
/-- attestation_report (0xB020.02, R705): OCTETS(256), RO. -/
def attestationReport : Nat := obj 0xB020 0x2
/-- mac_address (0x5900.s, R729): OCTETS(6), RO. -/
def macAddress (s : Nat) : Nat := obj 0x5900 s
/-- ipv6_address (0x5901.s, R729): OCTETS(16), RW. -/
def ipv6Address (s : Nat) : Nat := obj 0x5901 s
/-- ipv6_prefix (0x5902.s, R729): U8, RW. -/
def ipv6Prefix (s : Nat) : Nat := obj 0x5902 s
/-- ipv4_address (0x5903.s, R729): U32, RW. -/
def ipv4Address (s : Nat) : Nat := obj 0x5903 s
/-- ipv4_prefix (0x5904.s, R729): U8, RW. -/
def ipv4Prefix (s : Nat) : Nat := obj 0x5904 s
/-- ip_mtu (0x5905.s, R729): U16, RW. -/
def ipMtu (s : Nat) : Nat := obj 0x5905 s
/-- link_state (0x5906.s, R729): U8, RO. -/
def linkState (s : Nat) : Nat := obj 0x5906 s
/-- link_down_count (0x5907.s, R729): U32, RO. -/
def linkDownCount (s : Nat) : Nat := obj 0x5907 s
/-- discard_count (0x5908.s, R729): U64, RO. -/
def discardCount (s : Nat) : Nat := obj 0x5908 s
/-- fec_uncorrected (0x5909.s, R729): U64, RO. -/
def fecUncorrected (s : Nat) : Nat := obj 0x5909 s
/-- pause_sent (0x590A.s, R729): U64, RO. -/
def pauseSent (s : Nat) : Nat := obj 0x590A s
/-- pause_received (0x590B.s, R729): U64, RO. -/
def pauseReceived (s : Nat) : Nat := obj 0x590B s
/-- gateway_ipv6 (0x5910+net.01, R730): OCTETS(16), RW. -/
def gatewayIpv6 (net : Nat) : Nat := obj (0x5910 + net) 0x1
/-- gateway_ipv4 (0x5910+net.02, R730): U32, RW. -/
def gatewayIpv4 (net : Nat) : Nat := obj (0x5910 + net) 0x2
/-- vlan_id (0x5910+net.03, R730): U16, RW. -/
def vlanId (net : Nat) : Nat := obj (0x5910 + net) 0x3
/-- pcp_control (0x5910+net.04, R730): U8, RW. -/
def pcpControl (net : Nat) : Nat := obj (0x5910 + net) 0x4
/-- pcp_rdma (0x5910+net.05, R730): U8, RW. -/
def pcpRdma (net : Nat) : Nat := obj (0x5910 + net) 0x5
/-- dscp_control (0x5910+net.06, R730): U8, RW. -/
def dscpControl (net : Nat) : Nat := obj (0x5910 + net) 0x6
/-- dscp_rdma (0x5910+net.07, R730): U8, RW. -/
def dscpRdma (net : Nat) : Nat := obj (0x5910 + net) 0x7
/-- pfc_mask (0x5910+net.08, R730): U8, RW. -/
def pfcMask (net : Nat) : Nat := obj (0x5910 + net) 0x8
/-- qp_table (0xA600–0xA603.s, R731): OCTETS(48), RW. -/
def qpTable (q : Nat) : Nat := obj (0xA600 + q / 256) (q % 256)
/-- path_migration_count (0xA610.01, R731): U32, RO. -/
def pathMigrationCount : Nat := obj 0xA610 0x1
/-- blade_a_ma (0x2040.01, R732): U32, RO. -/
def bladeAMa : Nat := obj 0x2040 0x1
/-- blade_b_ma (0x2040.02, R732): U32, RO. -/
def bladeBMa : Nat := obj 0x2040 0x2
/-- coolant_inlet (0x2040.03, R732): I32, RO. -/
def coolantInlet : Nat := obj 0x2040 0x3
/-- coolant_outlet (0x2040.04, R732): I32, RO. -/
def coolantOutlet : Nat := obj 0x2040 0x4
/-- dispatch_udp_port (0xA000.01, R399): U16, RW. -/
def dispatchUdpPort : Nat := obj 0xA000 0x1
/-- agent_busy_cycles (0x6710+d.c, R544): U64, RO. -/
def agentBusyCycles (core : Nat) : Nat := obj (0x6710 + core / 64) (core % 64)

end Obj

/-- One row of the objects whose reset value is not zero: first and last index, first and last sub-index, value. -/
structure DefaultRow where
  ilo : Nat
  ihi : Nat
  slo : Nat
  shi : Nat
  value : Nat
  deriving DecidableEq, Repr

/-- Does a row name index.sub? -/
def DefaultRow.covers (r : DefaultRow) (index sub : Nat) : Bool :=
  decide (r.ilo ≤ index) && decide (index ≤ r.ihi) && decide (r.slo ≤ sub) && decide (sub ≤ r.shi)

/-- Reset values of the objects that do not start at zero, part 1 (the default column of the tables). -/
def defaultRows1 : List DefaultRow :=
  [⟨0x4000, 0x400C, 1, 1, 0x834⟩,
   ⟨0x4000, 0x400C, 2, 2, 0x834⟩,
   ⟨0x4000, 0x400C, 3, 3, 0x384⟩,
   ⟨0x4010, 0x4010, 1, 1, 0x3FCCCCCD⟩,
   ⟨0x4010, 0x4010, 2, 2, 0x96⟩,
   ⟨0x4010, 0x4010, 3, 3, 0x1E⟩,
   ⟨0x4010, 0x4010, 4, 4, 0x1C⟩,
   ⟨0x2000, 0x2000, 7, 7, 0xFF⟩,
   ⟨0x2001, 0x2001, 1, 1, 0x40⟩,
   ⟨0x2020, 0x2020, 1, 1, 0xB2C⟩,
   ⟨0x2020, 0x2020, 2, 2, 0x1450⟩,
   ⟨0x2020, 0x2020, 3, 3, 0x5DC⟩,
   ⟨0x2020, 0x2020, 4, 4, 0x40⟩,
   ⟨0x2020, 0x2020, 5, 5, 0x2⟩,
   ⟨0x2020, 0x2020, 7, 7, 0x1450⟩,
   ⟨0x2030, 0x2030, 1, 1, 0x2710⟩,
   ⟨0x2030, 0x2030, 2, 2, 0x2CEC⟩,
   ⟨0x2030, 0x2030, 3, 3, 0x4B0⟩,
   ⟨0x4400, 0x440F, 3, 3, 0x2⟩,
   ⟨0x4400, 0x440F, 4, 4, 0x1⟩,
   ⟨0x4500, 0x450F, 1, 1, 0x2⟩,
   ⟨0x4500, 0x450F, 2, 2, 0x400⟩,
   ⟨0x4500, 0x450F, 5, 5, 0xFFFF⟩,
   ⟨0x4510, 0x4510, 1, 1, 0x4000⟩,
   ⟨0x8000, 0x8000, 1, 1, 0x10000⟩,
   ⟨0x8010, 0x801F, 3, 3, 0xA⟩,
   ⟨0x8010, 0x801F, 4, 4, 0x40C00000⟩,
   ⟨0x8010, 0x801F, 5, 5, 0x3C23D70A⟩,
   ⟨0x8010, 0x801F, 6, 6, 0x14⟩,
   ⟨0x8010, 0x801F, 7, 7, 0x1⟩]

/-- Reset values of the objects that do not start at zero, part 2 (the default column of the tables). -/
def defaultRows2 : List DefaultRow :=
  [⟨0x3000, 0x3000, 1, 1, 0x80000000⟩,
   ⟨0x3000, 0x3000, 2, 2, 0x17E00000000⟩,
   ⟨0x3000, 0x3000, 3, 3, 0x30000000000⟩,
   ⟨0x30D0, 0x30D7, 1, 1, 0x4⟩,
   ⟨0x5000, 0x5000, 1, 1, 0x100⟩,
   ⟨0x5000, 0x5000, 3, 3, 0x2710⟩,
   ⟨0x5000, 0x5000, 5, 5, 0xB0A09080706050403020100⟩,
   ⟨0x5001, 0x5001, 1, 1, 0xFF9C⟩,
   ⟨0x5001, 0x5001, 2, 2, 0xFF38⟩,
   ⟨0x5001, 0x5001, 3, 3, 0xFE70⟩,
   ⟨0x5001, 0x5001, 4, 4, 0x3A83126F⟩,
   ⟨0x5001, 0x5001, 5, 5, 0x3B449BA6⟩,
   ⟨0x5001, 0x5001, 6, 6, 0x3CA3D70A⟩,
   ⟨0x5110, 0x5113, 0, 35, 0xFF⟩,
   ⟨0x6000, 0x6000, 1, 1, 0xFFFF⟩,
   ⟨0x6700, 0x670F, 1, 1, 0x64⟩,
   ⟨0x6700, 0x670F, 2, 2, 0x1F4⟩,
   ⟨0x6700, 0x670F, 3, 3, 0xC350⟩,
   ⟨0x5800, 0x5800, 2, 2, 0x4⟩,
   ⟨0x5860, 0x586F, 2, 2, 0x1⟩,
   ⟨0x5860, 0x586F, 5, 5, 0xFFFF⟩,
   ⟨0x5860, 0x586F, 6, 6, 0x1⟩,
   ⟨0x5860, 0x586F, 7, 7, 0x1⟩,
   ⟨0x5860, 0x586F, 8, 8, 0x3F800000⟩,
   ⟨0x5860, 0x586F, 9, 9, 0x32⟩,
   ⟨0x5860, 0x586F, 10, 10, 0x3D4CCCCD⟩,
   ⟨0x7010, 0x701F, 2, 2, 0x1⟩,
   ⟨0x7010, 0x701F, 10, 10, 0xFFFF⟩,
   ⟨0x7010, 0x701F, 11, 11, 0x400⟩,
   ⟨0x7010, 0x701F, 12, 12, 0x7530⟩]

/-- Reset values of the objects that do not start at zero, part 3 (the default column of the tables). -/
def defaultRows3 : List DefaultRow :=
  [⟨0x7030, 0x703F, 3, 3, 0x3⟩,
   ⟨0x0, 0x0, 4, 4, 0x200⟩,
   ⟨0x0, 0x0, 9, 9, 0x100⟩,
   ⟨0x0, 0x0, 10, 10, 0xB860⟩,
   ⟨0x10, 0x10, 3, 3, 0xFF⟩,
   ⟨0x1000, 0x1000, 1, 1, 0x1⟩,
   ⟨0xB000, 0xB000, 9, 9, 0x1⟩,
   ⟨0x5902, 0x5902, 0, 7, 0x40⟩,
   ⟨0x5904, 0x5904, 0, 7, 0x18⟩,
   ⟨0x5905, 0x5905, 0, 7, 0x2328⟩,
   ⟨0x5910, 0x5911, 4, 4, 0x6⟩,
   ⟨0x5910, 0x5911, 5, 5, 0x3⟩,
   ⟨0x5910, 0x5911, 6, 6, 0x30⟩,
   ⟨0x5910, 0x5911, 7, 7, 0x1A⟩,
   ⟨0x5910, 0x5911, 8, 8, 0x8⟩,
   ⟨0x6400, 0x64BF, 2, 2, 0xFFFFFF00FFFFFF00FFFFFF00FFFFFF00FFFFFF00000000⟩,
   ⟨0x6600, 0x663F, 0, 255, 0x7F000200⟩,
   ⟨0xA000, 0xA000, 1, 1, 0xB86A⟩]

/-- All of them. -/
def defaultRows : List DefaultRow := defaultRows1 ++ defaultRows2 ++ defaultRows3

/-- What the register of number k holds at reset: the default the tables give; where a table gives none, the value of
log entry 4. -/
def regDefault (k : Nat) : Nat :=
  match defaultRows.find? fun r => r.covers (k / 256) (k % 256) with
  | some r => r.value
  | none => 0

/-- The value of register k. -/
def State.reg (s : State) (k : Nat) : Nat := Sparse.get (regDefault k) k s.regs

/-- Write register k. -/
def State.setReg (s : State) (k v : Nat) : State := { s with regs := Sparse.set (regDefault k) k v s.regs }

/-- Add to an unsigned counter of w bits; it wraps (log entry 8). -/
def State.addReg (s : State) (w k a : Nat) : State := s.setReg k ((s.reg k + a) % 2 ^ w)

/-- Count one event in a counter of w bits. -/
def State.count (s : State) (w k : Nat) : State := s.addReg w k 1

/-- The signed reading of a register of w bits. -/
def State.sreg (s : State) (w k : Nat) : Int := signedOf w (s.reg k)

end Sys2Proof.Machine
end

