-- ==== Sys2Proof/Machine/ObjTable.lean ====
section
/-!
DEFINITION. The tables of dictionary objects (R640 to R645): for each, the indices and sub-indices it takes, its type,
length, access kind, default, whom it belongs to (R647), and whether it is segmented (R665).
-/

namespace Sys2Proof.Machine

/-- Whom an object belongs to (R647): the package, or the tenant at base + m, or the tenant of the slot, queue, core,
context, group table, plan, watch entry, sketch group or queue pair it is an instance of. -/
inductive Belongs where
  | pkg
  | tenant
  | slot
  | queue
  | core
  | ctx
  | group
  | plan
  | watch
  | sketchGroup
  | qp
  deriving DecidableEq, Repr

/-- A row of the object tables. `type` is the code of R642, `access` 0 RO, 1 RW, 2 WO, 3 CLR (R656). -/
structure ObjRow where
  ilo : Nat
  ihi : Nat
  slo : Nat
  shi : Nat
  type : Nat
  width : Nat
  access : Nat
  belongs : Belongs
  dflt : Nat
  seg : Bool
  deriving DecidableEq, Repr

/-- Does a row name index.sub? -/
def ObjRow.covers (r : ObjRow) (index sub : Nat) : Bool :=
  decide (r.ilo ≤ index) && decide (index ≤ r.ihi) && decide (r.slo ≤ sub) && decide (sub ≤ r.shi)

/-- Object rows, part 1. -/
def objRows1 : List ObjRow :=
  [⟨0x0, 0x0, 1, 1, 14, 0, 0, .pkg, 0x0, false⟩,
   ⟨0x0, 0x0, 2, 2, 14, 0, 0, .pkg, 0x0, false⟩,
   ⟨0x0, 0x0, 3, 3, 14, 0, 0, .pkg, 0x0, false⟩,
   ⟨0x0, 0x0, 4, 4, 3, 2, 0, .pkg, 0x200, false⟩,
   ⟨0x0, 0x0, 5, 5, 13, 64, 0, .pkg, 0x0, false⟩,
   ⟨0x0, 0x0, 6, 6, 14, 0, 0, .pkg, 0x0, false⟩,
   ⟨0x0, 0x0, 7, 7, 13, 13, 0, .pkg, 0x0, false⟩,
   ⟨0x0, 0x0, 8, 8, 4, 4, 0, .pkg, 0x0, false⟩,
   ⟨0x0, 0x0, 9, 9, 3, 2, 0, .pkg, 0x100, false⟩,
   ⟨0x0, 0x0, 10, 10, 3, 2, 1, .pkg, 0xB860, false⟩,
   ⟨0x10, 0x10, 1, 1, 4, 4, 0, .pkg, 0x0, false⟩,
   ⟨0x10, 0x10, 2, 2, 2, 1, 0, .pkg, 0x0, false⟩,
   ⟨0x10, 0x10, 3, 3, 2, 1, 0, .pkg, 0xFF, false⟩,
   ⟨0x10, 0x10, 4, 4, 4, 4, 0, .pkg, 0x0, false⟩,
   ⟨0x10, 0x10, 5, 5, 4, 4, 0, .pkg, 0x0, false⟩,
   ⟨0x10, 0x10, 6, 6, 3, 2, 0, .pkg, 0x0, false⟩,
   ⟨0x10, 0x10, 7, 7, 10, 8, 0, .pkg, 0x0, false⟩,
   ⟨0x10, 0x10, 8, 8, 2, 1, 2, .pkg, 0x0, false⟩,
   ⟨0x20, 0x20, 1, 64, 13, 32, 0, .pkg, 0x0, false⟩,
   ⟨0x21, 0x21, 1, 1, 2, 1, 0, .pkg, 0x0, false⟩,
   ⟨0x21, 0x21, 2, 2, 4, 4, 0, .pkg, 0x0, false⟩,
   ⟨0x21, 0x21, 3, 3, 4, 4, 0, .pkg, 0x0, false⟩,
   ⟨0x1000, 0x1000, 1, 1, 2, 1, 0, .pkg, 0x1, false⟩,
   ⟨0x1000, 0x1000, 2, 2, 2, 1, 0, .pkg, 0x0, false⟩,
   ⟨0x1000, 0x1000, 3, 3, 13, 8, 0, .pkg, 0x0, false⟩,
   ⟨0x1000, 0x1000, 4, 4, 2, 1, 2, .pkg, 0x0, false⟩,
   ⟨0x1000, 0x1000, 5, 5, 2, 1, 0, .pkg, 0x0, false⟩,
   ⟨0x1000, 0x1000, 6, 6, 4, 4, 0, .pkg, 0x0, false⟩,
   ⟨0x1000, 0x1000, 7, 7, 10, 8, 0, .pkg, 0x0, false⟩,
   ⟨0x1000, 0x1000, 8, 8, 13, 64, 0, .pkg, 0x0, false⟩,
   ⟨0x1010, 0x1010, 1, 1, 13, 0, 2, .pkg, 0x0, true⟩,
   ⟨0x1010, 0x1010, 2, 2, 2, 1, 0, .pkg, 0x0, false⟩,
   ⟨0x1010, 0x1010, 3, 3, 12, 32, 0, .pkg, 0x0, false⟩,
   ⟨0x1010, 0x1010, 4, 4, 2, 1, 0, .pkg, 0x0, false⟩,
   ⟨0x1010, 0x1010, 5, 5, 2, 1, 0, .pkg, 0x0, false⟩,
   ⟨0x1010, 0x1010, 6, 6, 2, 1, 2, .pkg, 0x0, false⟩,
   ⟨0x2000, 0x2000, 1, 1, 11, 8, 0, .pkg, 0x0, false⟩,
   ⟨0x2000, 0x2000, 2, 2, 2, 1, 0, .pkg, 0x0, false⟩,
   ⟨0x2000, 0x2000, 3, 3, 3, 2, 0, .pkg, 0x0, false⟩,
   ⟨0x2000, 0x2000, 4, 4, 4, 4, 0, .pkg, 0x0, false⟩]

/-- Object rows, part 2. -/
def objRows2 : List ObjRow :=
  [⟨0x2000, 0x2000, 5, 5, 2, 1, 1, .pkg, 0x0, false⟩,
   ⟨0x2000, 0x2000, 6, 6, 7, 4, 0, .pkg, 0x0, false⟩,
   ⟨0x2000, 0x2000, 7, 7, 2, 1, 0, .pkg, 0xFF, false⟩,
   ⟨0x2000, 0x2000, 8, 8, 4, 4, 0, .pkg, 0x0, false⟩,
   ⟨0x2001, 0x2001, 1, 1, 3, 2, 1, .pkg, 0x40, false⟩,
   ⟨0x2001, 0x2001, 2, 2, 11, 8, 0, .pkg, 0x0, false⟩,
   ⟨0x2001, 0x2001, 3, 3, 3, 2, 0, .pkg, 0x0, false⟩,
   ⟨0x2001, 0x2001, 4, 4, 4, 4, 0, .pkg, 0x0, false⟩,
   ⟨0x2001, 0x2001, 5, 5, 4, 4, 0, .pkg, 0x0, false⟩,
   ⟨0x2002, 0x2002, 1, 1, 10, 8, 0, .pkg, 0x0, false⟩,
   ⟨0x2010, 0x2010, 1, 1, 4, 4, 0, .pkg, 0x0, false⟩,
   ⟨0x2010, 0x2010, 2, 2, 4, 4, 0, .pkg, 0x0, false⟩,
   ⟨0x2010, 0x2010, 3, 3, 4, 4, 0, .pkg, 0x0, false⟩,
   ⟨0x2010, 0x2010, 4, 4, 2, 1, 0, .pkg, 0x0, false⟩,
   ⟨0x2010, 0x2010, 5, 5, 4, 4, 0, .pkg, 0x0, false⟩,
   ⟨0x2010, 0x2010, 6, 6, 2, 1, 0, .pkg, 0x0, false⟩,
   ⟨0x2020, 0x2020, 1, 1, 3, 2, 1, .pkg, 0xB2C, false⟩,
   ⟨0x2020, 0x2020, 2, 2, 3, 2, 1, .pkg, 0x1450, false⟩,
   ⟨0x2020, 0x2020, 3, 3, 3, 2, 1, .pkg, 0x5DC, false⟩,
   ⟨0x2020, 0x2020, 4, 4, 3, 2, 1, .pkg, 0x40, false⟩,
   ⟨0x2020, 0x2020, 5, 5, 3, 2, 1, .pkg, 0x2, false⟩,
   ⟨0x2020, 0x2020, 6, 6, 3, 2, 0, .pkg, 0x0, false⟩,
   ⟨0x2020, 0x2020, 7, 7, 3, 2, 0, .pkg, 0x1450, false⟩,
   ⟨0x2020, 0x2020, 8, 8, 4, 4, 0, .pkg, 0x0, false⟩,
   ⟨0x2020, 0x2020, 9, 9, 2, 1, 2, .pkg, 0x0, false⟩,
   ⟨0x2030, 0x2030, 1, 1, 3, 2, 0, .pkg, 0x2710, false⟩,
   ⟨0x2030, 0x2030, 2, 2, 3, 2, 0, .pkg, 0x2CEC, false⟩,
   ⟨0x2030, 0x2030, 3, 3, 3, 2, 1, .pkg, 0x4B0, false⟩,
   ⟨0x2030, 0x2030, 4, 4, 4, 4, 0, .pkg, 0x0, false⟩,
   ⟨0x2040, 0x2040, 1, 1, 4, 4, 0, .pkg, 0x0, false⟩,
   ⟨0x2040, 0x2040, 2, 2, 4, 4, 0, .pkg, 0x0, false⟩,
   ⟨0x2040, 0x2040, 3, 3, 7, 4, 0, .pkg, 0x0, false⟩,
   ⟨0x2040, 0x2040, 4, 4, 7, 4, 0, .pkg, 0x0, false⟩,
   ⟨0x3000, 0x3000, 1, 1, 5, 8, 0, .pkg, 0x80000000, false⟩,
   ⟨0x3000, 0x3000, 2, 2, 5, 8, 0, .pkg, 0x17E00000000, false⟩,
   ⟨0x3000, 0x3000, 3, 3, 5, 8, 0, .pkg, 0x30000000000, false⟩,
   ⟨0x3000, 0x3000, 4, 4, 5, 8, 0, .pkg, 0x0, false⟩,
   ⟨0x3000, 0x3000, 5, 5, 5, 8, 0, .pkg, 0x0, false⟩,
   ⟨0x3000, 0x3000, 6, 6, 5, 8, 0, .pkg, 0x0, false⟩,
   ⟨0x3000, 0x3000, 7, 7, 4, 4, 0, .pkg, 0x0, false⟩]

/-- Object rows, part 3. -/
def objRows3 : List ObjRow :=
  [⟨0x3000, 0x3000, 8, 8, 4, 4, 0, .pkg, 0x0, false⟩,
   ⟨0x3000, 0x3000, 9, 9, 4, 4, 0, .pkg, 0x0, false⟩,
   ⟨0x3010, 0x301F, 1, 1, 5, 8, 1, .tenant, 0x0, false⟩,
   ⟨0x3010, 0x301F, 2, 2, 5, 8, 1, .tenant, 0x0, false⟩,
   ⟨0x3010, 0x301F, 3, 3, 5, 8, 1, .tenant, 0x0, false⟩,
   ⟨0x3010, 0x301F, 4, 4, 5, 8, 0, .tenant, 0x0, false⟩,
   ⟨0x3010, 0x301F, 5, 5, 5, 8, 0, .tenant, 0x0, false⟩,
   ⟨0x3010, 0x301F, 6, 6, 5, 8, 0, .tenant, 0x0, false⟩,
   ⟨0x3010, 0x301F, 7, 7, 5, 8, 0, .tenant, 0x0, false⟩,
   ⟨0x3010, 0x301F, 8, 8, 5, 8, 0, .tenant, 0x0, false⟩,
   ⟨0x3010, 0x301F, 9, 9, 5, 8, 0, .tenant, 0x0, false⟩,
   ⟨0x3010, 0x301F, 10, 10, 5, 8, 0, .tenant, 0x0, false⟩,
   ⟨0x3010, 0x301F, 11, 11, 5, 8, 0, .tenant, 0x0, false⟩,
   ⟨0x3010, 0x301F, 12, 12, 4, 4, 0, .tenant, 0x0, false⟩,
   ⟨0x3010, 0x301F, 13, 13, 4, 4, 0, .tenant, 0x0, false⟩,
   ⟨0x3030, 0x303F, 1, 1, 13, 0, 1, .tenant, 0x0, true⟩,
   ⟨0x3040, 0x3047, 1, 1, 3, 2, 0, .pkg, 0x0, false⟩,
   ⟨0x3040, 0x3047, 2, 2, 2, 1, 0, .pkg, 0x0, false⟩,
   ⟨0x3040, 0x3047, 3, 3, 5, 8, 0, .pkg, 0x0, false⟩,
   ⟨0x3040, 0x3047, 4, 4, 4, 4, 0, .pkg, 0x0, false⟩,
   ⟨0x3040, 0x3047, 5, 5, 4, 4, 0, .pkg, 0x0, false⟩,
   ⟨0x3040, 0x3047, 6, 6, 4, 4, 0, .pkg, 0x0, false⟩,
   ⟨0x3040, 0x3047, 7, 7, 4, 4, 0, .pkg, 0x0, false⟩,
   ⟨0x3050, 0x3057, 0, 2, 5, 8, 0, .pkg, 0x0, false⟩,
   ⟨0x3060, 0x3067, 0, 2, 4, 4, 0, .pkg, 0x0, false⟩,
   ⟨0x3070, 0x3077, 0, 2, 7, 4, 0, .pkg, 0x0, false⟩,
   ⟨0x3080, 0x3087, 0, 2, 2, 1, 0, .pkg, 0x0, false⟩,
   ⟨0x3090, 0x3097, 0, 1, 5, 8, 0, .pkg, 0x0, false⟩,
   ⟨0x30A0, 0x30A7, 0, 1, 4, 4, 0, .pkg, 0x0, false⟩,
   ⟨0x30B0, 0x30B7, 0, 1, 7, 4, 0, .pkg, 0x0, false⟩,
   ⟨0x30C0, 0x30C7, 0, 1, 2, 1, 0, .pkg, 0x0, false⟩,
   ⟨0x30D0, 0x30D7, 1, 1, 2, 1, 1, .pkg, 0x4, false⟩,
   ⟨0x30D0, 0x30D7, 2, 2, 4, 4, 0, .pkg, 0x0, false⟩,
   ⟨0x4000, 0x4007, 1, 1, 3, 2, 1, .pkg, 0x834, false⟩,
   ⟨0x4008, 0x400C, 1, 1, 3, 2, 0, .pkg, 0x834, false⟩,
   ⟨0x4000, 0x400C, 2, 2, 3, 2, 0, .pkg, 0x834, false⟩,
   ⟨0x4000, 0x400C, 3, 3, 3, 2, 0, .pkg, 0x384, false⟩,
   ⟨0x4000, 0x400C, 4, 4, 7, 4, 0, .pkg, 0x0, false⟩,
   ⟨0x4000, 0x400C, 5, 5, 4, 4, 0, .pkg, 0x0, false⟩,
   ⟨0x4000, 0x400C, 6, 6, 4, 4, 0, .pkg, 0x0, false⟩,
   ⟨0x4000, 0x400C, 7, 7, 4, 4, 0, .pkg, 0x0, false⟩]

/-- Object rows, part 4. -/
def objRows4 : List ObjRow :=
  [⟨0x4000, 0x400C, 8, 8, 2, 1, 0, .pkg, 0x0, false⟩,
   ⟨0x4010, 0x4010, 1, 1, 9, 4, 0, .pkg, 0x3FCCCCCD, false⟩,
   ⟨0x4010, 0x4010, 2, 2, 3, 2, 0, .pkg, 0x96, false⟩,
   ⟨0x4010, 0x4010, 3, 3, 3, 2, 0, .pkg, 0x1E, false⟩,
   ⟨0x4010, 0x4010, 4, 4, 3, 2, 0, .pkg, 0x1C, false⟩,
   ⟨0x4020, 0x402C, 1, 16, 5, 8, 0, .pkg, 0x0, false⟩,
   ⟨0x4100, 0x4107, 0, 63, 2, 1, 0, .core, 0x0, false⟩,
   ⟨0x4110, 0x4117, 0, 63, 5, 8, 0, .core, 0x0, false⟩,
   ⟨0x4120, 0x4127, 0, 63, 4, 4, 0, .core, 0x0, false⟩,
   ⟨0x4130, 0x4137, 0, 63, 5, 8, 0, .core, 0x0, false⟩,
   ⟨0x4140, 0x4147, 0, 63, 4, 4, 0, .core, 0x0, false⟩,
   ⟨0x4150, 0x4157, 0, 63, 4, 4, 0, .core, 0x0, false⟩,
   ⟨0x4160, 0x4167, 0, 63, 4, 4, 0, .core, 0x0, false⟩,
   ⟨0x4170, 0x4177, 0, 63, 5, 8, 0, .core, 0x0, false⟩,
   ⟨0x4180, 0x4187, 0, 63, 5, 8, 0, .core, 0x0, false⟩,
   ⟨0x4190, 0x4197, 0, 63, 5, 8, 0, .core, 0x0, false⟩,
   ⟨0x41A0, 0x41A7, 0, 63, 5, 8, 0, .core, 0x0, false⟩,
   ⟨0x41B0, 0x41B7, 0, 63, 5, 8, 0, .core, 0x0, false⟩,
   ⟨0x41C0, 0x41C7, 0, 63, 5, 8, 0, .core, 0x0, false⟩,
   ⟨0x41D0, 0x41D7, 0, 255, 2, 1, 0, .ctx, 0x0, false⟩,
   ⟨0x41E0, 0x41E7, 0, 255, 2, 1, 3, .ctx, 0x0, false⟩,
   ⟨0x41F0, 0x41F7, 0, 255, 2, 1, 0, .ctx, 0x0, false⟩,
   ⟨0x4200, 0x420F, 1, 1, 5, 8, 1, .tenant, 0x0, false⟩,
   ⟨0x4200, 0x420F, 2, 2, 5, 8, 0, .tenant, 0x0, false⟩,
   ⟨0x4200, 0x420F, 3, 3, 5, 8, 0, .tenant, 0x0, false⟩,
   ⟨0x4220, 0x4227, 0, 63, 5, 8, 0, .core, 0x0, false⟩,
   ⟨0x4300, 0x4307, 0, 255, 5, 8, 1, .ctx, 0x0, false⟩,
   ⟨0x4310, 0x4317, 0, 255, 5, 8, 1, .ctx, 0x0, false⟩,
   ⟨0x4320, 0x4327, 0, 255, 5, 8, 0, .ctx, 0x0, false⟩,
   ⟨0x4330, 0x4337, 0, 255, 5, 8, 0, .ctx, 0x0, false⟩,
   ⟨0x4340, 0x4347, 0, 255, 4, 4, 0, .ctx, 0x0, false⟩,
   ⟨0x4350, 0x4357, 0, 255, 4, 4, 0, .ctx, 0x0, false⟩,
   ⟨0x4360, 0x4367, 0, 255, 4, 4, 0, .ctx, 0x0, false⟩,
   ⟨0x4370, 0x4377, 0, 255, 4, 4, 0, .ctx, 0x0, false⟩,
   ⟨0x4380, 0x4387, 0, 255, 4, 4, 0, .ctx, 0x0, false⟩,
   ⟨0x4400, 0x440F, 1, 1, 2, 1, 1, .tenant, 0x0, false⟩,
   ⟨0x4400, 0x440F, 2, 2, 2, 1, 0, .tenant, 0x0, false⟩,
   ⟨0x4400, 0x440F, 3, 3, 3, 2, 1, .tenant, 0x2, false⟩,
   ⟨0x4400, 0x440F, 4, 4, 1, 1, 1, .tenant, 0x1, false⟩,
   ⟨0x4500, 0x450F, 1, 1, 2, 1, 1, .tenant, 0x2, false⟩]

/-- Object rows, part 5. -/
def objRows5 : List ObjRow :=
  [⟨0x4500, 0x450F, 2, 2, 3, 2, 1, .tenant, 0x400, false⟩,
   ⟨0x4500, 0x450F, 3, 3, 3, 2, 0, .tenant, 0x0, false⟩,
   ⟨0x4500, 0x450F, 4, 4, 1, 1, 0, .tenant, 0x0, false⟩,
   ⟨0x4500, 0x450F, 5, 5, 3, 2, 0, .tenant, 0xFFFF, false⟩,
   ⟨0x4500, 0x450F, 6, 6, 3, 2, 0, .tenant, 0x0, false⟩,
   ⟨0x4500, 0x450F, 7, 7, 4, 4, 0, .tenant, 0x0, false⟩,
   ⟨0x4500, 0x450F, 8, 8, 4, 4, 0, .tenant, 0x0, false⟩,
   ⟨0x4500, 0x450F, 9, 9, 4, 4, 0, .tenant, 0x0, false⟩,
   ⟨0x4500, 0x450F, 10, 10, 5, 8, 0, .tenant, 0x0, false⟩,
   ⟨0x4510, 0x4510, 1, 1, 3, 2, 0, .pkg, 0x4000, false⟩,
   ⟨0x4510, 0x4510, 2, 2, 3, 2, 0, .pkg, 0x0, false⟩,
   ⟨0x5000, 0x5000, 1, 1, 3, 2, 0, .pkg, 0x100, false⟩,
   ⟨0x5000, 0x5000, 2, 2, 13, 8, 0, .pkg, 0x0, false⟩,
   ⟨0x5000, 0x5000, 3, 3, 4, 4, 1, .pkg, 0x2710, false⟩,
   ⟨0x5000, 0x5000, 4, 4, 1, 1, 1, .pkg, 0x0, false⟩,
   ⟨0x5000, 0x5000, 5, 5, 13, 12, 1, .pkg, 0xB0A09080706050403020100, false⟩,
   ⟨0x5001, 0x5001, 1, 1, 6, 2, 0, .pkg, 0xFF9C, false⟩,
   ⟨0x5001, 0x5001, 2, 2, 6, 2, 0, .pkg, 0xFF38, false⟩,
   ⟨0x5001, 0x5001, 3, 3, 6, 2, 0, .pkg, 0xFE70, false⟩,
   ⟨0x5001, 0x5001, 4, 4, 9, 4, 0, .pkg, 0x3A83126F, false⟩,
   ⟨0x5001, 0x5001, 5, 5, 9, 4, 0, .pkg, 0x3B449BA6, false⟩,
   ⟨0x5001, 0x5001, 6, 6, 9, 4, 0, .pkg, 0x3CA3D70A, false⟩,
   ⟨0x5100, 0x5103, 0, 35, 2, 1, 0, .pkg, 0x0, false⟩,
   ⟨0x5110, 0x5113, 0, 35, 2, 1, 0, .pkg, 0xFF, false⟩,
   ⟨0x5120, 0x5123, 0, 35, 2, 1, 0, .pkg, 0x0, false⟩,
   ⟨0x5130, 0x5133, 0, 35, 6, 2, 0, .pkg, 0x0, false⟩,
   ⟨0x5140, 0x5143, 0, 35, 9, 4, 0, .pkg, 0x0, false⟩,
   ⟨0x5150, 0x5153, 0, 35, 5, 8, 0, .pkg, 0x0, false⟩,
   ⟨0x5160, 0x5163, 0, 35, 5, 8, 0, .pkg, 0x0, false⟩,
   ⟨0x5170, 0x5173, 0, 35, 4, 4, 0, .pkg, 0x0, false⟩,
   ⟨0x5180, 0x5183, 0, 35, 4, 4, 0, .pkg, 0x0, false⟩,
   ⟨0x5190, 0x5193, 0, 35, 4, 4, 0, .pkg, 0x0, false⟩,
   ⟨0x51A0, 0x51A3, 0, 35, 4, 4, 0, .pkg, 0x0, false⟩,
   ⟨0x51B0, 0x51B3, 0, 35, 6, 2, 0, .pkg, 0x0, false⟩,
   ⟨0x5200, 0x5203, 0, 3, 2, 1, 0, .pkg, 0x0, false⟩,
   ⟨0x5210, 0x5213, 0, 3, 2, 1, 0, .pkg, 0x0, false⟩,
   ⟨0x5220, 0x5223, 0, 3, 2, 1, 0, .pkg, 0x0, false⟩,
   ⟨0x5230, 0x5233, 0, 3, 13, 32, 0, .pkg, 0x0, false⟩,
   ⟨0x5240, 0x5243, 0, 3, 13, 32, 0, .pkg, 0x0, false⟩,
   ⟨0x5250, 0x5253, 0, 3, 2, 1, 0, .pkg, 0x0, false⟩]

/-- Object rows, part 6. -/
def objRows6 : List ObjRow :=
  [⟨0x5260, 0x5263, 0, 3, 4, 4, 0, .pkg, 0x0, false⟩,
   ⟨0x5270, 0x5273, 0, 3, 4, 4, 0, .pkg, 0x0, false⟩,
   ⟨0x5800, 0x5800, 1, 1, 2, 1, 1, .pkg, 0x0, false⟩,
   ⟨0x5800, 0x5800, 2, 2, 2, 1, 1, .pkg, 0x4, false⟩,
   ⟨0x5800, 0x5800, 3, 3, 4, 4, 0, .pkg, 0x0, false⟩,
   ⟨0x5810, 0x5813, 1, 1, 2, 1, 0, .pkg, 0x0, false⟩,
   ⟨0x5810, 0x5813, 2, 2, 5, 8, 0, .pkg, 0x0, false⟩,
   ⟨0x5810, 0x5813, 3, 3, 5, 8, 0, .pkg, 0x0, false⟩,
   ⟨0x5810, 0x5813, 4, 4, 9, 4, 0, .pkg, 0x0, false⟩,
   ⟨0x5810, 0x5813, 5, 5, 9, 4, 0, .pkg, 0x0, false⟩,
   ⟨0x5810, 0x5813, 6, 6, 4, 4, 0, .pkg, 0x0, false⟩,
   ⟨0x5820, 0x5823, 0, 255, 13, 4, 1, .watch, 0x0, false⟩,
   ⟨0x5840, 0x5840, 0, 255, 13, 64, 0, .sketchGroup, 0x0, false⟩,
   ⟨0x5841, 0x5841, 0, 255, 4, 4, 0, .sketchGroup, 0x0, false⟩,
   ⟨0x5860, 0x586F, 1, 1, 4, 4, 1, .tenant, 0x0, false⟩,
   ⟨0x5860, 0x586F, 2, 2, 3, 2, 1, .tenant, 0x1, false⟩,
   ⟨0x5860, 0x586F, 3, 3, 2, 1, 1, .tenant, 0x0, false⟩,
   ⟨0x5860, 0x586F, 4, 4, 2, 1, 1, .tenant, 0x0, false⟩,
   ⟨0x5860, 0x586F, 5, 5, 3, 2, 1, .tenant, 0xFFFF, false⟩,
   ⟨0x5860, 0x586F, 6, 6, 3, 2, 1, .tenant, 0x1, false⟩,
   ⟨0x5860, 0x586F, 7, 7, 3, 2, 1, .tenant, 0x1, false⟩,
   ⟨0x5860, 0x586F, 8, 8, 9, 4, 1, .tenant, 0x3F800000, false⟩,
   ⟨0x5860, 0x586F, 9, 9, 3, 2, 1, .tenant, 0x32, false⟩,
   ⟨0x5860, 0x586F, 10, 10, 9, 4, 1, .tenant, 0x3D4CCCCD, false⟩,
   ⟨0x5860, 0x586F, 11, 11, 5, 8, 1, .tenant, 0x0, false⟩,
   ⟨0x5860, 0x586F, 12, 12, 1, 1, 1, .tenant, 0x0, false⟩,
   ⟨0x5860, 0x586F, 13, 13, 4, 4, 0, .tenant, 0x0, false⟩,
   ⟨0x5900, 0x5900, 0, 7, 13, 6, 0, .pkg, 0x0, false⟩,
   ⟨0x5901, 0x5901, 0, 7, 13, 16, 1, .pkg, 0x0, false⟩,
   ⟨0x5902, 0x5902, 0, 7, 2, 1, 1, .pkg, 0x40, false⟩,
   ⟨0x5903, 0x5903, 0, 7, 4, 4, 1, .pkg, 0x0, false⟩,
   ⟨0x5904, 0x5904, 0, 7, 2, 1, 1, .pkg, 0x18, false⟩,
   ⟨0x5905, 0x5905, 0, 7, 3, 2, 1, .pkg, 0x2328, false⟩,
   ⟨0x5906, 0x5906, 0, 7, 2, 1, 0, .pkg, 0x0, false⟩,
   ⟨0x5907, 0x5907, 0, 7, 4, 4, 0, .pkg, 0x0, false⟩,
   ⟨0x5908, 0x5908, 0, 7, 5, 8, 0, .pkg, 0x0, false⟩,
   ⟨0x5909, 0x5909, 0, 7, 5, 8, 0, .pkg, 0x0, false⟩,
   ⟨0x590A, 0x590A, 0, 7, 5, 8, 0, .pkg, 0x0, false⟩,
   ⟨0x590B, 0x590B, 0, 7, 5, 8, 0, .pkg, 0x0, false⟩,
   ⟨0x5910, 0x5911, 1, 1, 13, 16, 1, .pkg, 0x0, false⟩]

/-- Object rows, part 7. -/
def objRows7 : List ObjRow :=
  [⟨0x5910, 0x5911, 2, 2, 4, 4, 1, .pkg, 0x0, false⟩,
   ⟨0x5910, 0x5911, 3, 3, 3, 2, 1, .pkg, 0x0, false⟩,
   ⟨0x5910, 0x5911, 4, 4, 2, 1, 1, .pkg, 0x6, false⟩,
   ⟨0x5910, 0x5911, 5, 5, 2, 1, 1, .pkg, 0x3, false⟩,
   ⟨0x5910, 0x5911, 6, 6, 2, 1, 1, .pkg, 0x30, false⟩,
   ⟨0x5910, 0x5911, 7, 7, 2, 1, 1, .pkg, 0x1A, false⟩,
   ⟨0x5910, 0x5911, 8, 8, 2, 1, 1, .pkg, 0x8, false⟩,
   ⟨0x6000, 0x6000, 1, 1, 3, 2, 1, .pkg, 0xFFFF, false⟩,
   ⟨0x6000, 0x6000, 2, 2, 2, 1, 1, .pkg, 0x0, false⟩,
   ⟨0x6000, 0x6000, 3, 3, 2, 1, 0, .pkg, 0x0, false⟩,
   ⟨0x6000, 0x6000, 4, 4, 13, 512, 0, .pkg, 0x0, false⟩,
   ⟨0x6000, 0x6000, 5, 5, 4, 4, 0, .pkg, 0x0, false⟩,
   ⟨0x6000, 0x6000, 6, 6, 4, 4, 0, .pkg, 0x0, false⟩,
   ⟨0x6000, 0x6000, 7, 7, 5, 8, 0, .pkg, 0x0, false⟩,
   ⟨0x6000, 0x6000, 8, 8, 4, 4, 0, .pkg, 0x0, false⟩,
   ⟨0x6000, 0x6000, 9, 9, 4, 4, 0, .pkg, 0x0, false⟩,
   ⟨0x6000, 0x6000, 10, 10, 5, 8, 0, .pkg, 0x0, false⟩,
   ⟨0x6000, 0x6000, 11, 11, 3, 2, 0, .pkg, 0x0, false⟩,
   ⟨0x6000, 0x6000, 12, 12, 4, 4, 0, .pkg, 0x0, false⟩,
   ⟨0x6000, 0x6000, 13, 13, 4, 4, 0, .pkg, 0x0, false⟩,
   ⟨0x6010, 0x6010, 1, 8, 13, 0, 1, .pkg, 0x0, true⟩,
   ⟨0x6020, 0x6020, 1, 16, 13, 16, 1, .pkg, 0x0, false⟩,
   ⟨0x6021, 0x6021, 1, 1, 2, 1, 2, .pkg, 0x0, false⟩,
   ⟨0x6021, 0x6021, 2, 2, 2, 1, 0, .pkg, 0x0, false⟩,
   ⟨0x6021, 0x6021, 3, 3, 2, 1, 0, .pkg, 0x0, false⟩,
   ⟨0x6030, 0x6030, 1, 1, 13, 16, 0, .pkg, 0x0, false⟩,
   ⟨0x6030, 0x6030, 2, 2, 4, 4, 0, .pkg, 0x0, false⟩,
   ⟨0x6040, 0x6043, 0, 3, 4, 4, 0, .pkg, 0x0, false⟩,
   ⟨0x6050, 0x6053, 0, 3, 5, 8, 0, .pkg, 0x0, false⟩,
   ⟨0x6060, 0x6063, 0, 3, 5, 8, 0, .pkg, 0x0, false⟩,
   ⟨0x6300, 0x6300, 1, 1, 2, 1, 2, .pkg, 0x0, false⟩,
   ⟨0x6400, 0x64BF, 1, 1, 13, 0, 1, .pkg, 0x0, false⟩,
   ⟨0x6400, 0x64BF, 2, 2, 13, 24, 1, .pkg, 0x0, false⟩,
   ⟨0x6400, 0x64BF, 3, 3, 13, 0, 0, .pkg, 0x0, false⟩,
   ⟨0x6400, 0x64BF, 4, 4, 13, 0, 0, .pkg, 0x0, false⟩,
   ⟨0x6500, 0x6503, 0, 255, 13, 0, 1, .group, 0x0, true⟩,
   ⟨0x6600, 0x663F, 0, 255, 13, 128, 1, .plan, 0x0, false⟩,
   ⟨0x6700, 0x670F, 1, 1, 3, 2, 1, .tenant, 0x64, false⟩,
   ⟨0x6700, 0x670F, 2, 2, 3, 2, 1, .tenant, 0x1F4, false⟩,
   ⟨0x6700, 0x670F, 3, 3, 4, 4, 1, .tenant, 0xC350, false⟩]

/-- Object rows, part 8. -/
def objRows8 : List ObjRow :=
  [⟨0x6700, 0x670F, 4, 4, 2, 1, 1, .tenant, 0x0, false⟩,
   ⟨0x6700, 0x670F, 5, 5, 3, 2, 0, .tenant, 0x0, false⟩,
   ⟨0x6700, 0x670F, 6, 6, 5, 8, 0, .tenant, 0x0, false⟩,
   ⟨0x6700, 0x670F, 7, 7, 5, 8, 0, .tenant, 0x0, false⟩,
   ⟨0x6700, 0x670F, 8, 8, 4, 4, 0, .tenant, 0x0, false⟩,
   ⟨0x6700, 0x670F, 9, 9, 4, 4, 0, .tenant, 0x0, false⟩,
   ⟨0x6700, 0x670F, 10, 10, 13, 32, 0, .tenant, 0x0, false⟩,
   ⟨0x6710, 0x6717, 0, 63, 5, 8, 0, .core, 0x0, false⟩,
   ⟨0x7000, 0x7000, 1, 1, 4, 4, 0, .pkg, 0x0, false⟩,
   ⟨0x7000, 0x7000, 2, 2, 3, 2, 0, .pkg, 0x0, false⟩,
   ⟨0x7000, 0x7000, 3, 3, 2, 1, 0, .pkg, 0x0, false⟩,
   ⟨0x7000, 0x7000, 4, 4, 13, 32768, 0, .pkg, 0x0, true⟩,
   ⟨0x7000, 0x7000, 5, 5, 3, 2, 2, .pkg, 0x0, false⟩,
   ⟨0x7000, 0x7000, 6, 6, 3, 2, 2, .pkg, 0x0, false⟩,
   ⟨0x7000, 0x7000, 7, 7, 13, 40, 0, .pkg, 0x0, false⟩,
   ⟨0x7000, 0x7000, 8, 8, 4, 4, 0, .pkg, 0x0, false⟩,
   ⟨0x7000, 0x7000, 9, 9, 4, 4, 0, .pkg, 0x0, false⟩,
   ⟨0x7000, 0x7000, 10, 10, 4, 4, 0, .pkg, 0x0, false⟩,
   ⟨0x7000, 0x7000, 11, 11, 4, 4, 0, .pkg, 0x0, false⟩,
   ⟨0x7000, 0x7000, 12, 12, 13, 32, 0, .pkg, 0x0, false⟩,
   ⟨0x7010, 0x701F, 1, 1, 4, 4, 1, .tenant, 0x0, false⟩,
   ⟨0x7010, 0x701F, 2, 2, 5, 8, 1, .tenant, 0x1, false⟩,
   ⟨0x7010, 0x701F, 3, 3, 13, 0, 1, .tenant, 0x0, true⟩,
   ⟨0x7010, 0x701F, 4, 4, 5, 8, 0, .tenant, 0x0, false⟩,
   ⟨0x7010, 0x701F, 5, 5, 3, 2, 0, .tenant, 0x0, false⟩,
   ⟨0x7010, 0x701F, 6, 6, 5, 8, 2, .tenant, 0x0, false⟩,
   ⟨0x7010, 0x701F, 7, 7, 5, 8, 2, .tenant, 0x0, false⟩,
   ⟨0x7010, 0x701F, 8, 8, 4, 4, 0, .tenant, 0x0, false⟩,
   ⟨0x7010, 0x701F, 9, 9, 3, 2, 0, .tenant, 0x0, false⟩,
   ⟨0x7010, 0x701F, 10, 10, 3, 2, 0, .tenant, 0xFFFF, false⟩,
   ⟨0x7010, 0x701F, 11, 11, 4, 4, 1, .tenant, 0x400, false⟩,
   ⟨0x7010, 0x701F, 12, 12, 4, 4, 1, .tenant, 0x7530, false⟩,
   ⟨0x7010, 0x701F, 13, 13, 5, 8, 0, .tenant, 0x0, false⟩,
   ⟨0x7010, 0x701F, 14, 14, 5, 8, 0, .tenant, 0x0, false⟩,
   ⟨0x7010, 0x701F, 15, 15, 4, 4, 0, .tenant, 0x0, false⟩,
   ⟨0x7010, 0x701F, 16, 16, 13, 32, 0, .tenant, 0x0, false⟩,
   ⟨0x7030, 0x703F, 1, 1, 5, 8, 1, .tenant, 0x0, false⟩,
   ⟨0x7030, 0x703F, 2, 2, 5, 8, 1, .tenant, 0x0, false⟩,
   ⟨0x7030, 0x703F, 3, 3, 2, 1, 1, .tenant, 0x3, false⟩,
   ⟨0x7030, 0x703F, 4, 4, 5, 8, 0, .tenant, 0x0, false⟩]

/-- Object rows, part 9. -/
def objRows9 : List ObjRow :=
  [⟨0x7030, 0x703F, 5, 5, 2, 1, 0, .tenant, 0x0, false⟩,
   ⟨0x7050, 0x705F, 1, 1, 13, 0, 1, .tenant, 0x0, true⟩,
   ⟨0x7050, 0x705F, 2, 2, 2, 1, 2, .tenant, 0x0, false⟩,
   ⟨0x7050, 0x705F, 3, 3, 2, 1, 2, .tenant, 0x0, false⟩,
   ⟨0x7050, 0x705F, 4, 4, 5, 8, 0, .tenant, 0x0, false⟩,
   ⟨0x7050, 0x705F, 5, 5, 4, 4, 0, .tenant, 0x0, false⟩,
   ⟨0x7050, 0x705F, 6, 6, 13, 32, 0, .tenant, 0x0, false⟩,
   ⟨0x8000, 0x8000, 1, 1, 4, 4, 0, .pkg, 0x10000, false⟩,
   ⟨0x8000, 0x8000, 2, 2, 4, 4, 0, .pkg, 0x0, false⟩,
   ⟨0x8000, 0x8000, 3, 3, 4, 4, 0, .pkg, 0x0, false⟩,
   ⟨0x8010, 0x801F, 1, 1, 3, 2, 1, .tenant, 0x0, false⟩,
   ⟨0x8010, 0x801F, 2, 2, 4, 4, 1, .tenant, 0x0, false⟩,
   ⟨0x8010, 0x801F, 3, 3, 2, 1, 1, .tenant, 0xA, false⟩,
   ⟨0x8010, 0x801F, 4, 4, 9, 4, 1, .tenant, 0x40C00000, false⟩,
   ⟨0x8010, 0x801F, 5, 5, 9, 4, 1, .tenant, 0x3C23D70A, false⟩,
   ⟨0x8010, 0x801F, 6, 6, 3, 2, 1, .tenant, 0x14, false⟩,
   ⟨0x8010, 0x801F, 7, 7, 2, 1, 1, .tenant, 0x1, false⟩,
   ⟨0x8010, 0x801F, 8, 8, 1, 1, 1, .tenant, 0x0, false⟩,
   ⟨0x8020, 0x802F, 1, 1, 13, 16, 2, .tenant, 0x0, false⟩,
   ⟨0x8020, 0x802F, 2, 2, 9, 4, 0, .tenant, 0x0, false⟩,
   ⟨0x8020, 0x802F, 3, 3, 9, 4, 0, .tenant, 0x0, false⟩,
   ⟨0x8020, 0x802F, 4, 4, 4, 4, 0, .tenant, 0x0, false⟩,
   ⟨0x8020, 0x802F, 5, 5, 9, 4, 0, .tenant, 0x0, false⟩,
   ⟨0x8020, 0x802F, 6, 6, 13, 16, 2, .tenant, 0x0, false⟩,
   ⟨0x8020, 0x802F, 7, 7, 9, 4, 0, .tenant, 0x0, false⟩,
   ⟨0x8020, 0x802F, 8, 8, 9, 4, 0, .tenant, 0x0, false⟩,
   ⟨0x8020, 0x802F, 9, 9, 4, 4, 0, .tenant, 0x0, false⟩,
   ⟨0x8020, 0x802F, 10, 10, 9, 4, 0, .tenant, 0x0, false⟩,
   ⟨0x8020, 0x802F, 11, 11, 4, 4, 0, .tenant, 0x0, false⟩,
   ⟨0x8020, 0x802F, 12, 12, 2, 1, 2, .tenant, 0x0, false⟩,
   ⟨0x8030, 0x803F, 1, 1, 5, 8, 0, .tenant, 0x0, false⟩,
   ⟨0x8030, 0x803F, 2, 2, 13, 32, 0, .tenant, 0x0, false⟩,
   ⟨0x8030, 0x803F, 3, 3, 4, 4, 0, .tenant, 0x0, false⟩,
   ⟨0x8030, 0x803F, 4, 4, 2, 1, 3, .tenant, 0x0, false⟩,
   ⟨0x8100, 0x81FF, 0, 255, 13, 16, 1, .slot, 0x0, false⟩,
   ⟨0x8200, 0x82FF, 0, 255, 13, 64, 0, .slot, 0x0, false⟩,
   ⟨0x8300, 0x83FF, 0, 255, 13, 64, 0, .slot, 0x0, false⟩,
   ⟨0x8400, 0x84FF, 0, 255, 13, 64, 0, .slot, 0x0, false⟩,
   ⟨0x9000, 0x9000, 1, 1, 13, 16, 3, .pkg, 0x0, false⟩,
   ⟨0x9000, 0x9000, 2, 2, 13, 48, 3, .pkg, 0x0, false⟩]

/-- Object rows, part 10. -/
def objRows10 : List ObjRow :=
  [⟨0x9000, 0x9000, 3, 3, 1, 1, 1, .pkg, 0x0, false⟩,
   ⟨0x9000, 0x9000, 4, 4, 4, 4, 0, .pkg, 0x0, false⟩,
   ⟨0x9000, 0x9000, 5, 5, 13, 32, 0, .pkg, 0x0, false⟩,
   ⟨0x9000, 0x9000, 6, 6, 13, 0, 0, .pkg, 0x0, true⟩,
   ⟨0x9000, 0x9000, 7, 7, 4, 4, 0, .pkg, 0x0, false⟩,
   ⟨0x9000, 0x9000, 8, 8, 13, 48, 0, .pkg, 0x0, false⟩,
   ⟨0x9000, 0x9000, 9, 9, 4, 4, 0, .pkg, 0x0, false⟩,
   ⟨0x9010, 0x901C, 1, 1, 13, 48, 3, .pkg, 0x0, false⟩,
   ⟨0x9010, 0x901C, 2, 2, 5, 8, 0, .pkg, 0x0, false⟩,
   ⟨0x9010, 0x901C, 3, 3, 5, 8, 0, .pkg, 0x0, false⟩,
   ⟨0x9010, 0x901C, 4, 4, 4, 4, 0, .pkg, 0x0, false⟩,
   ⟨0x9010, 0x901C, 5, 5, 13, 8, 0, .pkg, 0x0, false⟩,
   ⟨0x9100, 0x910C, 1, 18, 13, 16, 3, .pkg, 0x0, false⟩,
   ⟨0x9200, 0x9207, 1, 8, 13, 48, 3, .pkg, 0x0, false⟩,
   ⟨0x9210, 0x9217, 1, 8, 13, 16, 3, .pkg, 0x0, false⟩,
   ⟨0xA000, 0xA000, 1, 1, 3, 2, 1, .pkg, 0xB86A, false⟩,
   ⟨0xA010, 0xA01F, 1, 1, 2, 1, 0, .tenant, 0x0, false⟩,
   ⟨0xA010, 0xA01F, 2, 2, 2, 1, 2, .tenant, 0x0, false⟩,
   ⟨0xA010, 0xA01F, 3, 3, 2, 1, 0, .tenant, 0x0, false⟩,
   ⟨0xA010, 0xA01F, 4, 4, 13, 64, 1, .tenant, 0x0, false⟩,
   ⟨0xA010, 0xA01F, 5, 5, 3, 2, 1, .tenant, 0x0, false⟩,
   ⟨0xA010, 0xA01F, 6, 6, 3, 2, 1, .tenant, 0x0, false⟩,
   ⟨0xA010, 0xA01F, 7, 7, 2, 1, 1, .tenant, 0x0, false⟩,
   ⟨0xA010, 0xA01F, 8, 8, 5, 8, 0, .tenant, 0x0, false⟩,
   ⟨0xA010, 0xA01F, 9, 9, 4, 4, 0, .tenant, 0x0, false⟩,
   ⟨0xA010, 0xA01F, 10, 10, 4, 4, 0, .tenant, 0x0, false⟩,
   ⟨0xA030, 0xA03F, 1, 16, 13, 0, 2, .tenant, 0x0, true⟩,
   ⟨0xA040, 0xA04F, 1, 16, 13, 8, 0, .tenant, 0x0, false⟩,
   ⟨0xA050, 0xA05F, 1, 16, 2, 1, 2, .tenant, 0x0, false⟩,
   ⟨0xA060, 0xA06F, 1, 1, 13, 0, 1, .tenant, 0x0, true⟩,
   ⟨0xA100, 0xA10F, 0, 255, 13, 32, 1, .queue, 0x0, false⟩,
   ⟨0xA200, 0xA20F, 0, 255, 13, 40, 0, .queue, 0x0, false⟩,
   ⟨0xA300, 0xA30F, 0, 255, 13, 32, 0, .queue, 0x0, false⟩,
   ⟨0xA310, 0xA31F, 0, 255, 5, 8, 1, .queue, 0x0, false⟩,
   ⟨0xA400, 0xA4FF, 0, 255, 13, 16, 0, .queue, 0x0, false⟩,
   ⟨0xA600, 0xA603, 0, 255, 13, 48, 1, .qp, 0x0, false⟩,
   ⟨0xA610, 0xA610, 1, 1, 4, 4, 0, .pkg, 0x0, false⟩,
   ⟨0xB000, 0xB000, 1, 1, 13, 65, 0, .pkg, 0x0, false⟩,
   ⟨0xB000, 0xB000, 2, 2, 13, 0, 0, .pkg, 0x0, true⟩,
   ⟨0xB000, 0xB000, 3, 3, 12, 32, 0, .pkg, 0x0, false⟩]

/-- Object rows, part 11. -/
def objRows11 : List ObjRow :=
  [⟨0xB000, 0xB000, 4, 4, 12, 32, 1, .pkg, 0x0, false⟩,
   ⟨0xB000, 0xB000, 5, 5, 2, 1, 0, .pkg, 0x0, false⟩,
   ⟨0xB000, 0xB000, 6, 6, 13, 256, 0, .pkg, 0x0, false⟩,
   ⟨0xB000, 0xB000, 7, 7, 12, 32, 0, .pkg, 0x0, false⟩,
   ⟨0xB000, 0xB000, 8, 8, 12, 32, 0, .pkg, 0x0, false⟩,
   ⟨0xB000, 0xB000, 9, 9, 2, 1, 0, .pkg, 0x1, false⟩,
   ⟨0xB010, 0xB010, 1, 32, 13, 40, 1, .pkg, 0x0, false⟩,
   ⟨0xB020, 0xB020, 1, 1, 13, 32, 2, .pkg, 0x0, false⟩,
   ⟨0xB020, 0xB020, 2, 2, 13, 256, 0, .pkg, 0x0, false⟩,
   ⟨0xC000, 0xC000, 1, 1, 2, 1, 1, .pkg, 0x0, false⟩,
   ⟨0xC000, 0xC000, 2, 2, 4, 4, 0, .pkg, 0x0, false⟩,
   ⟨0xC000, 0xC000, 3, 3, 2, 1, 2, .pkg, 0x0, false⟩,
   ⟨0xC010, 0xC010, 1, 60, 3, 2, 1, .pkg, 0x0, false⟩,
   ⟨0xC020, 0xC02F, 0, 255, 2, 1, 1, .pkg, 0x0, false⟩,
   ⟨0xC030, 0xC03F, 0, 255, 3, 2, 1, .pkg, 0x0, false⟩,
   ⟨0xC040, 0xC043, 0, 3, 3, 2, 1, .pkg, 0x0, false⟩,
   ⟨0xC100, 0xC1BF, 1, 1, 4, 4, 1, .pkg, 0x0, false⟩,
   ⟨0xC200, 0xC200, 1, 1, 13, 16, 2, .pkg, 0x0, false⟩,
   ⟨0xC200, 0xC200, 2, 2, 2, 1, 0, .pkg, 0x0, false⟩,
   ⟨0xC210, 0xC213, 0, 35, 6, 2, 1, .pkg, 0x0, false⟩,
   ⟨0xC220, 0xC220, 1, 10, 3, 2, 1, .pkg, 0x0, false⟩,
   ⟨0xC220, 0xC220, 11, 11, 1, 1, 1, .pkg, 0x0, false⟩]

/-- All of them. -/
def objRows : List ObjRow :=
  objRows1 ++ objRows2 ++ objRows3 ++ objRows4 ++ objRows5 ++ objRows6 ++ objRows7 ++ objRows8 ++ objRows9 ++ objRows10 ++ objRows11

/-- The row that names index.sub. -/
def objRow (o : ObjRef) : Option ObjRow := objRows.find? fun r => r.covers o.index o.sub

/-- The number of an object. -/
def objKey (o : ObjRef) : Nat := obj o.index o.sub

end Sys2Proof.Machine
end

