-- ==== Sys2Proof/Machine/Sha.lean ====
section
/-!
DEFINITION. SHA-256 as its public standard gives it (PRESUMED, log entry 6: the spec names the function and no more).
-/

namespace Sys2Proof.Machine

/-- Round constants, part 1. -/
def shaK1 : List Nat :=
  [0x428A2F98, 0x71374491, 0xB5C0FBCF, 0xE9B5DBA5, 0x3956C25B, 0x59F111F1, 0x923F82A4, 0xAB1C5ED5,
   0xD807AA98, 0x12835B01, 0x243185BE, 0x550C7DC3, 0x72BE5D74, 0x80DEB1FE, 0x9BDC06A7, 0xC19BF174]
/-- Round constants, part 2. -/
def shaK2 : List Nat :=
  [0xE49B69C1, 0xEFBE4786, 0x0FC19DC6, 0x240CA1CC, 0x2DE92C6F, 0x4A7484AA, 0x5CB0A9DC, 0x76F988DA,
   0x983E5152, 0xA831C66D, 0xB00327C8, 0xBF597FC7, 0xC6E00BF3, 0xD5A79147, 0x06CA6351, 0x14292967]
/-- Round constants, part 3. -/
def shaK3 : List Nat :=
  [0x27B70A85, 0x2E1B2138, 0x4D2C6DFC, 0x53380D13, 0x650A7354, 0x766A0ABB, 0x81C2C92E, 0x92722C85,
   0xA2BFE8A1, 0xA81A664B, 0xC24B8B70, 0xC76C51A3, 0xD192E819, 0xD6990624, 0xF40E3585, 0x106AA070]
/-- Round constants, part 4. -/
def shaK4 : List Nat :=
  [0x19A4C116, 0x1E376C08, 0x2748774C, 0x34B0BCB5, 0x391C0CB3, 0x4ED8AA4A, 0x5B9CCA4F, 0x682E6FF3,
   0x748F82EE, 0x78A5636F, 0x84C87814, 0x8CC70208, 0x90BEFFFA, 0xA4506CEB, 0xBEF9A3F7, 0xC67178F2]

/-- The sixty-four round constants. -/
def shaK : List Nat := shaK1 ++ shaK2 ++ shaK3 ++ shaK4

/-- The eight working words. -/
structure Sha where
  a : Nat
  b : Nat
  c : Nat
  d : Nat
  e : Nat
  f : Nat
  g : Nat
  h : Nat
  deriving DecidableEq, Repr

/-- The initial hash value. -/
def shaInit : Sha := ⟨0x6A09E667, 0xBB67AE85, 0x3C6EF372, 0xA54FF53A, 0x510E527F, 0x9B05688C, 0x1F83D9AB, 0x5BE0CD19⟩

/-- Rotate a 32-bit word right. -/
def rotr (x k : Nat) : Nat := (x >>> k) ||| ((x <<< (32 - k)) % 2 ^ 32)

/-- 32-bit complement. -/
def not32 (x : Nat) : Nat := 0xFFFFFFFF - x % 2 ^ 32

/-- One round with its schedule word plus constant. -/
def shaRound (s : Sha) (kw : Nat) : Sha :=
  let s1 := rotr s.e 6 ^^^ rotr s.e 11 ^^^ rotr s.e 25
  let ch := (s.e &&& s.f) ^^^ (not32 s.e &&& s.g)
  let t1 := s.h + s1 + ch + kw
  let s0 := rotr s.a 2 ^^^ rotr s.a 13 ^^^ rotr s.a 22
  let maj := (s.a &&& s.b) ^^^ (s.a &&& s.c) ^^^ (s.b &&& s.c)
  ⟨(t1 + s0 + maj) % 2 ^ 32, s.a, s.b, s.c, (s.d + t1) % 2 ^ 32, s.e, s.f, s.g⟩

/-- Extend the schedule: the words so far, latest first. -/
def shaExtend : Nat → List Nat → List Nat
  | 0, ws => ws
  | k + 1, ws =>
    let w := fun i => ws.getD i 0
    let x := w 14
    let y := w 1
    let s0 := rotr x 7 ^^^ rotr x 18 ^^^ (x >>> 3)
    let s1 := rotr y 17 ^^^ rotr y 19 ^^^ (y >>> 10)
    shaExtend k (((w 15 + s0 + w 6 + s1) % 2 ^ 32) :: ws)

/-- One block of sixteen words. -/
def shaBlock (s : Sha) (ws : List Nat) : Sha :=
  let sched := (shaExtend 48 ws.reverse).reverse
  let t := (sched.zip shaK).foldl (fun v p => shaRound v (p.1 + p.2)) s
  ⟨(s.a + t.a) % 2 ^ 32, (s.b + t.b) % 2 ^ 32, (s.c + t.c) % 2 ^ 32, (s.d + t.d) % 2 ^ 32, (s.e + t.e) % 2 ^ 32,
   (s.f + t.f) % 2 ^ 32, (s.g + t.g) % 2 ^ 32, (s.h + t.h) % 2 ^ 32⟩

/-- A big-endian word of four bytes. -/
def beWord (bs : List Byte) : Nat := bs.foldl (fun v b => v * 256 + b.toNat) 0

/-- The n big-endian bytes of a number. -/
def beBytes (n w : Nat) : List Byte := (toBytes n w).reverse

/-- The padded message. -/
def shaPad (m : List Byte) : List Byte :=
  m ++ [0x80] ++ List.replicate ((119 - m.length % 64) % 64) 0 ++ beBytes 8 (8 * m.length)

/-- Blocks, with as much fuel as there are bytes. -/
def shaBlocks : Nat → List Byte → Sha → Sha
  | 0, _, s => s
  | k + 1, bs, s =>
    if bs.isEmpty then s
    else
      let blk := bs.take 64
      shaBlocks k (bs.drop 64) (shaBlock s ((List.range 16).map fun i => beWord ((blk.drop (4 * i)).take 4)))

/-- The SHA-256 digest: 32 bytes in their order (R642). -/
def sha256 (m : List Byte) : List Byte :=
  let p := shaPad m
  let s := shaBlocks p.length p shaInit
  beBytes 4 s.a ++ beBytes 4 s.b ++ beBytes 4 s.c ++ beBytes 4 s.d ++ beBytes 4 s.e ++ beBytes 4 s.f ++ beBytes 4 s.g ++
  beBytes 4 s.h

end Sys2Proof.Machine
end

