-- ==== Sys2Proof/Machine/P256.lean ====
section
/-!
DEFINITION. HMAC-SHA-256, and P-256 with ECDH and ECDSA, as their public standards give them (PRESUMED, log entry 6: the spec names
the functions and no more; R659, R660, R662, R685).
-/

namespace Sys2Proof.Machine

/-- HMAC-SHA-256 of a message under a key of at most 64 bytes (R660, R662). -/
def hmac (key m : List Byte) : List Byte :=
  let k := key ++ List.replicate (64 - key.length) 0
  sha256 ((k.map fun b => b ^^^ 0x5C) ++ sha256 ((k.map fun b => b ^^^ 0x36) ++ m))

/-- The field prime, the order of the base point, and the coefficient b of P-256; a is -3. -/
def ecP : Nat := 0xFFFFFFFF00000001000000000000000000000000FFFFFFFFFFFFFFFFFFFFFFFF
def ecN : Nat := 0xFFFFFFFF00000000FFFFFFFFFFFFFFFFBCE6FAADA7179E84F3B9CAC2FC632551
def ecB : Nat := 0x5AC635D8AA3A93E7B3EBBD55769886BC651D06B0CC53B0F63BCE3C3E27D2604B

/-- A point in Jacobian coordinates; z = 0 is the point at infinity. -/
structure EcPoint where
  x : Nat
  y : Nat
  z : Nat
  deriving DecidableEq, Repr

/-- The base point. -/
def ecG : EcPoint :=
  ⟨0x6B17D1F2E12C4247F8BCE6E563A440F277037D812DEB33A0F4A13945D898C296,
   0x4FE342E2FE1A7F9B8EE7EB4A7C0F9E162BCE33576B315ECECBB6406837BF51F5, 1⟩

/-- Powers modulo m, by the bits of the exponent from the highest of 256. -/
def powMod (m b e : Nat) : Nat :=
  (List.range 256).foldl (fun r i => let q := r * r % m; if e.testBit (255 - i) then q * b % m else q) 1

/-- Inverses modulo a prime. -/
def invMod (m a : Nat) : Nat := powMod m a (m - 2)

/-- Twice a point. -/
def EcPoint.double (p : EcPoint) : EcPoint :=
  let d := p.z * p.z % ecP
  let g := p.y * p.y % ecP
  let b := p.x * g % ecP
  let a := 3 * ((p.x + ecP - d) % ecP * ((p.x + d) % ecP)) % ecP
  let x := (a * a + 8 * (ecP - b)) % ecP
  let z := 2 * p.y * p.z % ecP
  ⟨x, (a * (4 * b + ecP - x) + 8 * (ecP - g * g % ecP)) % ecP, z⟩

/-- The sum of two points. -/
def EcPoint.add (p q : EcPoint) : EcPoint :=
  if p.z = 0 then q
  else if q.z = 0 then p
  else
    let zp := p.z * p.z % ecP
    let zq := q.z * q.z % ecP
    let u := p.x * zq % ecP
    let v := q.x * zp % ecP
    let s := p.y * q.z % ecP * zq % ecP
    let t := q.y * p.z % ecP * zp % ecP
    if u = v then (if s = t then p.double else ⟨1, 1, 0⟩)
    else
      let h := (v + ecP - u) % ecP
      let r := (t + ecP - s) % ecP
      let hh := h * h % ecP
      let k := h * hh % ecP
      let w := u * hh % ecP
      let x := (r * r + (ecP - k) + 2 * (ecP - w)) % ecP
      ⟨x, (r * (w + ecP - x) + s * (ecP - k)) % ecP, h * p.z % ecP * q.z % ecP⟩

/-- A multiple of a point. -/
def EcPoint.times (p : EcPoint) (k : Nat) : EcPoint :=
  (List.range 256).foldl (fun r i => let d := r.double; if k.testBit (255 - i) then d.add p else d) ⟨1, 1, 0⟩

/-- The coordinates of a point in the plane. -/
def EcPoint.affine (p : EcPoint) : Nat × Nat :=
  let i := invMod ecP p.z
  let j := i * i % ecP
  (p.x * j % ecP, p.y * j % ecP * i % ecP)

/-- The point of an uncompressed encoding of 65 bytes (R659), none where it is not a point of the curve. -/
def ecPoint (bs : List Byte) : Option EcPoint :=
  let x := beWord ((bs.drop 1).take 32)
  let y := beWord ((bs.drop 33).take 32)
  if bs.length = 65 ∧ bs.head? = some 4 ∧ x < ecP ∧ y < ecP ∧ y * y % ecP = (x * x % ecP * x + (ecP - 3) * x + ecB) % ecP then
    some ⟨x, y, 1⟩
  else none

/-- The 65 bytes of a point (R659). -/
def ecBytes (p : EcPoint) : List Byte :=
  let a := p.affine
  [4] ++ beBytes 32 a.1 ++ beBytes 32 a.2

/-- The public key of a private one. -/
def ecPublic (d : Nat) : List Byte := ecBytes (ecG.times d)

/-- The x-coordinate of the shared point of a private key and a public one (R660); a public key that is no point shares none. -/
def ecdhX (d : Nat) (key : List Byte) : List Byte :=
  match ecPoint key with
  | some q => beBytes 32 (q.times d).affine.1
  | none => []

/-- Does a signature r ‖ s of 64 bytes over a digest of 32 bytes verify under a public key (R659, R685)? -/
def ecdsaVerify (key digest sig : List Byte) : Bool :=
  let r := beWord (sig.take 32)
  let s := beWord (sig.drop 32)
  match ecPoint key with
  | none => false
  | some q =>
    if sig.length ≠ 64 ∨ r = 0 ∨ s = 0 ∨ ecN ≤ r ∨ ecN ≤ s then false
    else
      let w := invMod ecN s
      let e := beWord digest
      let p := (ecG.times (e * w % ecN)).add (q.times (r * w % ecN))
      p.z != 0 && p.affine.1 % ecN == r

/-- The signature of a private key over a digest, with a secret number k (R659): r ‖ s. -/
def ecdsaSign (d k : Nat) (digest : List Byte) : List Byte :=
  let r := (ecG.times k).affine.1 % ecN
  let s := invMod ecN k * (beWord digest + r * d) % ecN
  beBytes 32 r ++ beBytes 32 s

end Sys2Proof.Machine
end

