-- ==== Sys2Proof/Machine/Wire.lean ====
section
/-!
DEFINITION. GDP and Dispatch messages as bytes (R383, R653, R654, R661, R673), and their trailers (R662).
-/

namespace Sys2Proof.Machine

/-- A value padded to 4 bytes (R654). -/
def pad4 (v : List Byte) : List Byte := v ++ List.replicate ((4 - v.length % 4) % 4) 0

/-- A GDP message before its trailer (R653): header and body. -/
def gdpMessage (version kind flags status session request items : Nat) (body : List Byte) : List Byte :=
  toBytes 1 version ++ toBytes 1 kind ++ toBytes 1 flags ++ toBytes 1 status ++ toBytes 4 session ++ toBytes 4 request ++
  toBytes 2 items ++ toBytes 2 body.length ++ body

/-- A Dispatch message's 16-byte head (R383). -/
def dispatchHead (kind queue index session status : Nat) : List Byte :=
  toBytes 2 kind ++ toBytes 2 queue ++ toBytes 4 index ++ toBytes 4 session ++ toBytes 1 status ++ toBytes 3 0

/-- An object's index and sub-index as items carry them (R654). -/
def itemName (o : ObjRef) : List Byte := toBytes 2 o.index ++ toBytes 1 o.sub

/-- A READ item (R654). -/
def readBytes (o : ObjRef) : List Byte := itemName o ++ toBytes 1 0

/-- A WRITE item (R654). -/
def writeBytes (i : WriteItem) : List Byte := itemName i.obj ++ toBytes 2 0 ++ toBytes 2 i.value.length ++ pad4 i.value

/-- A READ_SEG item (R654). -/
def readSegBytes (o : ObjRef) (offset length : Nat) : List Byte := itemName o ++ toBytes 1 0 ++ toBytes 8 offset ++ toBytes 2 length

/-- A WRITE_SEG item (R654); its seg_flags, which no rule gives a meaning, are zero. -/
def writeSegBytes (i : SegItem) : List Byte :=
  itemName i.obj ++ toBytes 1 0 ++ toBytes 8 i.offset ++ toBytes 8 i.total ++ toBytes 2 i.data.length ++ pad4 i.data

/-- A CLEAR_IF item (R654). -/
def clearBytes (o : ObjRef) (count : Nat) : List Byte := itemName o ++ toBytes 1 count

/-- A SUBSCRIBE item (R654, R672): op 1 add, 2 remove, 3 acknowledge. -/
def subscribeBytes (op : Nat) (o : ObjRef) (ack : Nat) : List Byte := toBytes 1 op ++ itemName o ++ toBytes 2 0 ++ toBytes 8 ack

/-- The 128-byte payload of a ledger message (R574). -/
def ledgerBytes (m : LedgerMsg) : List Byte :=
  let flags := b2n m.veto + 2 * b2n m.mismatch + 4 * b2n m.hasProposal + 8 * b2n m.voted + 16 * b2n m.commitHeld + 32 * b2n m.commitApplied
  toBytes 1 m.kind ++ toBytes 1 flags ++ toBytes 2 m.attempt ++ toBytes 4 m.jobEpoch ++ toBytes 8 m.step ++ toBytes 4 m.jobId ++
  toBytes 2 m.sender ++ toBytes 2 m.voters ++ toBytes 4 m.causes ++ toBytes 1 m.findings ++ toBytes 1 0 ++ toBytes 2 m.proposal ++
  toBytes 8 m.commitGate ++ toBytes 8 m.nonfinite ++ toBytes 4 m.loss ++ toBytes 4 m.gradNorm ++ toBytes 8 0 ++
  (m.agreement ++ List.replicate 32 0).take 32 ++ List.replicate 32 0

/-- A message of the Z8 before its trailer (R383, R574, R653, R654, R659, R673): of GDP its direction bit is 1. A CHALLENGE carries session 0 in its
header (log entry 138). -/
def msgBytes : Msg → List Byte
  | .reply session request kind items status body => gdpMessage 1 (kind + 128) 1 status session request items body
  | .notice session sequence obj loss value =>
    gdpMessage 1 8 1 0 session 0 1 (toBytes 8 sequence ++ toBytes 2 (obj / 256) ++ toBytes 1 obj ++ toBytes 1 (b2n loss) ++ value)
  | .challenge session key nonce signature =>
    gdpMessage 1 7 1 0 0 0 1 (toBytes 1 2 ++ toBytes 4 session ++ key ++ nonce ++ signature)
  | .accept session request role tenant => gdpMessage 1 7 1 0 session request 1 (toBytes 1 4 ++ toBytes 1 role ++ toBytes 1 tenant)
  | .ledger _ m => ledgerBytes m
  | .dispatchAck session queue index status => dispatchHead 2 queue index session status
  | _ => []

/-- The tag of a message with a sequence under a session key (R662): over every byte before it. -/
def tagOf (key : List Byte) (sequence : Nat) (message : List Byte) : List Byte := hmac key (message ++ toBytes 8 sequence ++ toBytes 8 0)

/-- A message of the Z8 with the trailer of the session's next sequence (R662). -/
def Session.sign (x : Session) (m : Msg) : Msg := .signed x.nextSend (tagOf x.key x.nextSend (msgBytes m)) m

end Sys2Proof.Machine
end

