-- ==== Sys2Proof/Machine/Ops.lean ====
section
/-!
DEFINITION. The named operations every family shares: reading and writing the parts of the state, drawing a free value,
sending a message, the rights of sessions (R646 to R650), notices (R672, R673), fault reports (R613 to R629), the orderly
stop (R67) and scheduled events (R58 to R60).
-/

namespace Sys2Proof.Machine

/-! Parts of the state -/

/-- The state a meaning answers. -/
def nextOf (s : State) (o : Host.Outcome State Fault Refusal) : State :=
  match o with
  | .next t => t
  | _ => s

/-- A core's state. -/
def State.core (s : State) (c : Nat) : Core := Sparse.get {} c s.cores

/-- Replace a core's state. -/
def State.setCore (s : State) (c : Nat) (v : Core) : State := { s with cores := Sparse.set {} c v s.cores }

/-- Is a core enabled (R3 to R7)? The fuse block names the cores fused off. -/
def State.coreEnabled (s : State) (c : Nat) : Bool := decide (c < 512) && !s.dev.fusedOff.contains c

/-- The number of enabled cores (R3, R6): 512, 480 or 448 by the ordering code. -/
def State.enabledCores (s : State) : Nat := ((List.range 512).filter s.coreEnabled).length

/-- The ordering code (R3): ZQ8- and the number of enabled cores. -/
def State.partCode (s : State) : List Byte :=
  let n := s.enabledCores
  [0x5A, 0x51, 0x38, 0x2D, BitVec.ofNat 8 (48 + n / 100), BitVec.ofNat 8 (48 + n / 10 % 10), BitVec.ofNat 8 (48 + n % 10)]

/-- The capacity of Near (R8, R312): the tile memory of a core that is fused off is gone with it (R4). -/
def State.nearCapacity (s : State) : Nat := (1024 + 2 * s.enabledCores) * 2 ^ 20

/-- The number a context is held under. -/
def ctxKey (c x : Nat) : Nat := c * 4 + x

/-- A context's state. -/
def State.ctx (s : State) (c x : Nat) : Ctx := Sparse.get {} (ctxKey c x) s.ctxs

/-- Replace a context's state. -/
def State.setCtx (s : State) (c x : Nat) (v : Ctx) : State := { s with ctxs := Sparse.set {} (ctxKey c x) v s.ctxs }

/-- A tenant. -/
def State.tenant (s : State) (n : Nat) : Tenant := Sparse.get {} n s.tenants

/-- Replace a tenant. -/
def State.setTenant (s : State) (n : Nat) (v : Tenant) : State := { s with tenants := Sparse.set {} n v s.tenants }

/-- A work queue. -/
def State.queue (s : State) (q : Nat) : Queue := Sparse.get {} q s.queues

/-- Replace a work queue. -/
def State.setQueue (s : State) (q : Nat) (v : Queue) : State := { s with queues := Sparse.set {} q v s.queues }

/-- A work item. -/
def State.work? (s : State) (w : Nat) : Option Work := (s.works.find? fun p => p.1 = w).map (·.2)

/-- Replace a work item. -/
def State.setWork (s : State) (w : Nat) (v : Work) : State := { s with works := Sparse.insert w v s.works }

/-- A tensor table entry. -/
def State.entry? (s : State) (e : Nat) : Option Entry := (s.entries.find? fun p => p.1 = e).map (·.2)

/-- Replace a tensor table entry. -/
def State.setEntry (s : State) (e : Nat) (v : Entry) : State := { s with entries := Sparse.insert e v s.entries }

/-- The value of a segmented object changes: its generation rises by one (R669). -/
def State.bump (s : State) (k : Nat) : State :=
  { s with generations := Sparse.set 0 k ((Sparse.get 0 k s.generations + 1) % 2 ^ 32) s.generations }

/-- A Judges slot. -/
def State.slot (s : State) (j : Nat) : Slot := Sparse.get {} j s.slots

/-- Replace a Judges slot. -/
def State.setSlot (s : State) (j : Nat) (v : Slot) : State := { s with slots := Sparse.set {} j v s.slots }

/-- The number a laser is held under (R451: port * 9 + laser, LS is 8). -/
def laserKey (port laser : Nat) : Nat := port * 9 + laser

/-- A laser. -/
def State.laser (s : State) (port laser : Nat) : Laser := Sparse.get {} (laserKey port laser) s.lasers

/-- Replace a laser. -/
def State.setLaser (s : State) (port laser : Nat) (v : Laser) : State :=
  { s with lasers := Sparse.set {} (laserKey port laser) v s.lasers }

/-- A fabric port. -/
def State.port (s : State) (p : Nat) : Port := Sparse.get {} p s.ports

/-- Replace a fabric port. -/
def State.setPort (s : State) (p : Nat) (v : Port) : State := { s with ports := Sparse.set {} p v s.ports }

/-- The life of a chip (R593). -/
def State.lifeOf (s : State) (chip : Nat) : Nat := Sparse.get 0 chip s.life

/-- A life is odd when its chip is fenced (R593). -/
def State.fenced (s : State) (chip : Nat) : Bool := s.lifeOf chip % 2 == 1

/-- A latched word (R619). -/
def State.latch (s : State) (k : Nat) : Latch := Sparse.get {} k s.latches

/-- Replace a latched word. -/
def State.setLatch (s : State) (k : Nat) (v : Latch) : State := { s with latches := Sparse.set {} k v s.latches }

/-- A capture record (R622). -/
def State.capture (s : State) (k : Nat) : Capture := Sparse.get {} k s.captures

/-- Replace a capture record. -/
def State.setCapture (s : State) (k : Nat) (v : Capture) : State := { s with captures := Sparse.set {} k v s.captures }

/-- A session, by its id. -/
def State.session? (s : State) (id : Nat) : Option Session := s.sessions.find? fun x => x.id = id

/-- Replace the session of the same id. -/
def State.setSession (s : State) (v : Session) : State :=
  { s with sessions := s.sessions.map fun x => if x.id = v.id then v else x }

/-- A message leaves the package (log entry 3). -/
def State.emit (s : State) (m : Msg) : State := { s with out := s.out ++ [m] }

/-- Draw a free value of w bits (log entry 2). -/
def State.draw (s : State) (w : Nat) : Nat × State := ((Config.freeValue w s.drawn).toNat, { s with drawn := s.drawn + 1 })

/-- Draw n free values of w bits. -/
def State.drawMany (w : Nat) : Nat → State → List Nat × State
  | 0, s => ([], s)
  | n + 1, s =>
    let (v, s1) := s.draw w
    let (vs, s2) := State.drawMany w n s1
    (v :: vs, s2)

/-- A fresh number for an entry, allocation, work item or handshake. -/
def State.fresh (s : State) : Nat × State := (s.serial, { s with serial := s.serial + 1 })

/-! Ethernet: where a message of the package's own goes (R708, R710, R712, R713) -/

/-- The value in force of an address, a gateway or the GDP port: the old one until a write of it takes effect (R708, R674). -/
def State.inForce (s : State) (k : Nat) : Nat :=
  match s.eth.oldAddr.find? fun p => p.1 = k with
  | some p => p.2
  | none => s.reg k

/-- Write an object whose value takes effect later; its old value answers until then (R708, R674). -/
def State.setLater (s : State) (k v : Nat) : State :=
  let old := s.eth.oldAddr
  let s1 : State := if old.any fun p => p.1 == k then s else { s with eth := { s.eth with oldAddr := old ++ [(k, s.reg k)] } }
  s1.setReg k v

/-- An address object's 16 bytes, first byte first, as a number. -/
def addrNum (v : Nat) : Nat := fromBytes (toBytes 16 v).reverse

/-- An IPv4 address as an IPv4-mapped IPv6 address (R676, R731). -/
def mapped (v : Nat) : Nat := 0xFFFF * 2 ^ 32 + v

/-- The MAC address of a port (R708). -/
def macOf (port : Nat) : Nat := Config.macBase + port

/-- The link-local address of a port, from its MAC address in the modified EUI-64 form (R708). -/
def linkLocal (port : Nat) : Nat :=
  let m := macOf port
  0xFE80 * 2 ^ 112 + (m / 2 ^ 24 ^^^ 2 ^ 17) * 2 ^ 40 + 0xFFFE * 2 ^ 24 + m % 2 ^ 24

/-- A port's own addresses (R708). -/
def State.ownAddresses (s : State) (port : Nat) : List Nat :=
  let v6 := addrNum (s.inForce (Obj.ipv6Address port))
  let v4 := s.inForce (Obj.ipv4Address port)
  linkLocal port :: ((if v6 = 0 then [] else [v6]) ++ (if v4 = 0 then [] else [mapped v4]))

/-- Does the port of a network reach a peer on its own link (R710)? -/
def State.onLink (s : State) (port peer : Nat) : Bool :=
  let same := fun (a n : Nat) => a / 2 ^ (128 - n) == peer / 2 ^ (128 - n)
  let v6 := addrNum (s.inForce (Obj.ipv6Address port))
  let v4 := s.inForce (Obj.ipv4Address port)
  peer / 2 ^ 118 == 0x3FA || (v6 != 0 && same v6 (s.reg (Obj.ipv6Prefix port))) ||
    (v4 != 0 && same (mapped v4) (96 + s.reg (Obj.ipv4Prefix port)))

/-- The next hop to a peer: the peer, or the network's gateway (R710). -/
def State.ethHop (s : State) (net port peer : Nat) : Nat :=
  if s.onLink port peer then peer
  else if peer / 2 ^ 32 = 0xFFFF then mapped (s.inForce (Obj.gatewayIpv4 net))
  else addrNum (s.inForce (Obj.gatewayIpv6 net))

/-- The frame of a message as it leaves (R712): the network's VLAN id, the priority, and the DSCP, with ECT(0) on RoCEv2. -/
def State.marked (s : State) (m : EthMsg) : Msg :=
  let net := m.port / 4
  .frame m.port (s.reg (Obj.vlanId net)) m.prio (s.reg (if m.rdma then Obj.dscpRdma net else Obj.dscpControl net)) m.rdma m.msg

/-- A message leaves by a port, or waits while its priority is paused there (R713). -/
def State.transmit (s : State) (m : EthMsg) : State :=
  if s.eth.paused.contains (m.port, m.prio) then { s with eth := { s.eth with waiting := s.eth.waiting ++ [m] } }
  else s.emit (s.marked m)

/-- The priority of a port's control frames: GDP, Dispatch, neighbour discovery, ICMP (R712). -/
def State.controlPrio (s : State) (port : Nat) : Nat := s.reg (Obj.pcpControl (port / 4))

/-- A solicitation for a next hop leaves (R710). -/
def State.solicit (s : State) (port hop : Nat) : State :=
  s.transmit { net := port / 4, hop := hop, port := port, prio := s.controlPrio port, msg := .neighbour (port / 4) hop false }

/-- Send an IP packet (R710): to a resolved next hop at once; else it waits while three solicitations go out. -/
def State.sendIp (s : State) (port : Nat) (rdma : Bool) (peer : Nat) (m : Msg) : State :=
  let net := port / 4
  let prio := if rdma then s.reg (Obj.pcpRdma net) else s.controlPrio port
  let e : EthMsg := { net := net, hop := s.ethHop net port peer, port := port, prio := prio, rdma := rdma, msg := m }
  if s.eth.neighbours.contains (net, e.hop) then s.transmit e
  else
    let s1 : State := { s with eth := { s.eth with held := s.eth.held ++ [e] } }
    if s.eth.held.any fun h => h.net == net && h.hop == e.hop then s1
    else ((s1.solicit port e.hop).solicit port e.hop).solicit port e.hop

/-- The port of a network by which control messages leave: the lowest whose link is up (log entry 47). -/
def State.controlPort (s : State) (net : Nat) : Nat :=
  match (List.range 4).find? fun i => s.reg (Obj.linkState (4 * net + i)) == 1 with
  | some i => 4 * net + i
  | none => 4 * net

/-- Send a GDP or Dispatch message to a peer on a network (R652, R712). -/
def State.sendControl (s : State) (net peer : Nat) (m : Msg) : State :=
  s.sendIp (s.controlPort net) false peer m

/-- Send a message of a session with its trailer (R662, R663): the Z8's sequence of the session moves on. -/
def State.sendSession (s : State) (id net peer : Nat) (m : Msg) : State :=
  match s.session? id with
  | some x => (s.setSession { x with nextSend := x.nextSend + 1 }).sendControl net peer (x.sign m)
  | none => s.sendControl net peer m

/-! Often read registers -/

/-- Device states (R678). -/
def devBoot : Nat := 1
def devRecovery : Nat := 2
def devReady : Nat := 3
def devAdmitted : Nat := 4
def devRunning : Nat := 5
def devDraining : Nat := 6
def devFenced : Nat := 7
def devHalted : Nat := 8
def devOff : Nat := 0

/-- The device state (R678). -/
def State.device (s : State) : Nat := s.reg Obj.deviceState

/-- Enter a device state. -/
def State.enter (s : State) (d : Nat) : State := s.setReg Obj.deviceState d

/-- READY, ADMITTED or RUNNING. -/
def State.isUp (s : State) : Bool := decide (devReady ≤ s.device) && decide (s.device ≤ devRunning)

/-- Uptime in ns (R61). -/
def State.up (s : State) : Nat := s.reg Obj.uptime

/-- Cadence states (R78). -/
def cadAcquiring : Nat := 0
def cadLocked : Nat := 1
def cadHoldover : Nat := 2
def cadUnlocked : Nat := 3

/-- The cadence time the package reports: zero while acquiring (R51). -/
def State.cadNow (s : State) : Nat := if s.reg Obj.cadenceState = cadAcquiring then 0 else s.time.cad

/-- May the package execute coordinated events and vote (R50)? -/
def State.coordinated (s : State) : Bool :=
  s.reg Obj.cadenceState == cadLocked || s.reg Obj.cadenceState == cadHoldover

/-- This package's chip number (R499). -/
def State.chip (s : State) : Nat := s.reg Obj.chipNumber

/-- member_state (R596, R681): 1 in FENCED, 2 ready to rejoin, 0 a member. -/
def State.memberState (s : State) : Nat :=
  if s.device = devFenced then 1 else if s.fenced s.chip then 2 else 0

/-- The current beat (R44). -/
def State.beatNo (s : State) : Nat := s.time.cad / 1024

/-- The gate period in beats (R55). -/
def State.gatePeriod (s : State) : Nat := s.reg Obj.gatePeriodBeats

/-- The first gate beat at or after beat b (R55). -/
def gateFrom (b period : Nat) : Nat := ceilDiv b period * period

/-- The next gate after the current beat. -/
def State.nextGate (s : State) : Nat := gateFrom (s.beatNo + 1) s.gatePeriod

/-- The admitted tenants (R361). -/
def State.admitted (s : State) : List Nat := (List.range 16).filter fun n => (s.tenant n).state == 1

/-- The tenants that are not free (R361). -/
def State.notFree (s : State) : List Nat := (List.range 16).filter fun n => (s.tenant n).state != 0

/-- Any step of any tenant open (R679). -/
def State.anyStepOpen (s : State) : Bool := s.notFree.any fun n => !(s.tenant n).steps.isEmpty

/-- The moves of R679 between READY, ADMITTED and RUNNING that tenants and steps bring about. -/
def State.settleDevice (s : State) : State :=
  if s.isUp then
    if s.anyStepOpen then s.enter devRunning
    else if s.notFree.isEmpty then s.enter devReady
    else s.enter devAdmitted
  else s

/-! Rights (R646 to R650) -/

/-- Roles (R646). -/
def roleOperator : Nat := 1
def roleOwner : Nat := 2
def roleTenant : Nat := 3

/-- The tenant whose core set has a core (R362). -/
def State.tenantOfCore (s : State) (c : Nat) : Option Nat :=
  (List.range 16).find? fun n => bit (s.reg (Obj.coreSet n)) c

/-- The tenant whose range has a queue (R362). -/
def State.tenantOfQueue (s : State) (q : Nat) : Option Nat :=
  (List.range 16).find? fun n =>
    decide (s.reg (Obj.queueFirst n) ≤ q) && decide (q < s.reg (Obj.queueFirst n) + s.reg (Obj.queueCount n))

/-- A slot lies in the tenant's share (R285). -/
def State.inShare (s : State) (j n : Nat) : Bool :=
  decide (s.reg (Obj.slotFirst n) ≤ j) && decide (j < s.reg (Obj.slotFirst n) + s.reg (Obj.slotCount n))

/-- The tenant whose share holds a slot (R285): the shares of tenants that are not free never overlap, and a free tenant's range holds a slot
only where none of theirs does (DESIGN CHOICE, log entry 147). -/
def State.tenantOfSlot (s : State) (j : Nat) : Option Nat :=
  let holders := (List.range 16).filter (s.inShare j)
  match holders.find? fun n => (s.tenant n).state != 0 with
  | some n => some n
  | none => holders.head?

/-- The tenant an object belongs to (R647), none for a package object. -/
def State.ownerOf (s : State) (r : ObjRow) (o : ObjRef) : Option Nat :=
  match r.belongs with
  | .pkg => none
  | .tenant => some (o.index - r.ilo)
  | .slot => s.tenantOfSlot ((o.index - r.ilo) * 256 + o.sub)
  | .queue =>
    if r.ilo = 0xA400 then s.tenantOfQueue ((o.index - r.ilo) * 16 + o.sub / 16)
    else s.tenantOfQueue ((o.index - r.ilo) * 256 + o.sub)
  | .core => s.tenantOfCore ((o.index - r.ilo) * 64 + o.sub)
  | .ctx => s.tenantOfCore ((o.index - r.ilo) * 64 + o.sub / 4)
  | .group =>
    let v := Sparse.get 0 ((o.index - r.ilo) * 256 + o.sub) s.colls.owners
    if v = 0 then none else some (v - 1)
  | .plan => some ((o.index - r.ilo) / 4)
  | .watch =>
    let v := s.reg (objKey o)
    if bit v 7 then some (bits v 0 4) else none
  | .sketchGroup =>
    ((List.range 1024).map fun j => s.reg (Obj.sketchWatch j)).find? (fun v => bit v 7 && bits v 24 8 == o.sub) |>.map
      fun v => bits v 0 4
  | .qp => some (Sparse.get {} ((o.index - 0xA600) * 256 + o.sub) s.eth.qps).spec.tenant

/-- Slots, queues and watch entries give rights to nobody but their tenant and the Owner (R311, R399, R562). -/
def Belongs.closed : Belongs → Bool
  | .slot => true
  | .queue => true
  | .watch => true
  | .sketchGroup => true
  | _ => false

/-- In RECOVERY the dictionary is limited (R689). -/
def inRecoveryDictionary (o : ObjRef) : Bool :=
  o.index == 0x0000 || o.index == 0x0010 || o.index == 0x1000 || o.index == 0x1010 ||
    (decide (0xB000 ≤ o.index) && decide (o.index ≤ 0xB0FF))

/-- May a session read an object (R643, R648, R676)? -/
def State.canRead (s : State) (x : Session) (o : ObjRef) : Bool :=
  match objRow o with
  | none => false
  | some r =>
    if r.access = 2 then false
    else if s.device = devRecovery && !inRecoveryDictionary o then false
    else if o.index = 0x0020 then x.role == roleOwner
    else if r.belongs = .pkg then decide (x.role ≤ roleTenant)
    else
      match s.ownerOf r o with
      | some m => x.role == roleOwner || (x.role == roleTenant && x.tenant == m)
      | none => if r.belongs.closed then x.role == roleOwner else decide (x.role ≤ roleTenant)

/-- Objects that only the Owner writes (R361, R631, R674, R704, R705, R729, R730). -/
def ownerOnly (o : ObjRef) : Bool :=
  (decide (0x3010 ≤ o.index) && decide (o.index ≤ 0x301F) && decide (o.sub ≤ 3)) ||
  (decide (0xA010 ≤ o.index) && decide (o.index ≤ 0xA01F) && decide (4 ≤ o.sub) && decide (o.sub ≤ 7)) ||
  (decide (0x8010 ≤ o.index) && decide (o.index ≤ 0x801F) && decide (o.sub ≤ 2)) ||
  (decide (0x5900 ≤ o.index) && decide (o.index ≤ 0x5911)) ||
  (o.index == 0xC000 && o.sub == 1)

/-- May a session write, or clear, an object (R643, R648 and the chapters' own namings)? -/
def State.canWrite (s : State) (x : Session) (o : ObjRef) : Bool :=
  match objRow o with
  | none => false
  | some r =>
    if r.access = 0 || (o.index == 0xB010 && o.sub == 1) then false
    else if s.device = devRecovery && !inRecoveryDictionary o then false
    else if (o.index == 0x0010 && o.sub == 8) || (o.index == 0xB020 && o.sub == 1) then decide (x.role ≤ roleTenant)
    else if ownerOnly o then x.role == roleOwner
    else if r.belongs = .pkg then
      if o.index = 0x1000 && o.sub = 4 then x.role == roleOperator || x.role == roleOwner
      else if o.index = 0x7000 then x.role == roleOwner || x.role == roleTenant
      else if (decide (0x2000 ≤ o.index) && decide (o.index ≤ 0x2FFF)) ||
          (decide (0x4000 ≤ o.index) && decide (o.index ≤ 0x6FFF)) ||
          (decide (0x9000 ≤ o.index) && decide (o.index ≤ 0x9FFF)) ||
          (decide (0xC000 ≤ o.index) && decide (o.index ≤ 0xCFFF)) then
        x.role == roleOperator || x.role == roleOwner
      else x.role == roleOwner
    else
      match s.ownerOf r o with
      | some m => x.role == roleOwner || (x.role == roleTenant && x.tenant == m)
      | none =>
        if r.belongs = .group || r.belongs = .watch then x.role == roleOwner || x.role == roleTenant
        else x.role == roleOwner || (x.role == roleOperator && !r.belongs.closed)

/-- A violation is counted in the session and nowhere else (R650). -/
def State.violate (s : State) (sess : Nat) : State :=
  match s.session? sess with
  | some x => s.setSession { x with violations := x.violations + 1 }
  | none => s

/-- Apply a write of a session to an object: with the right, its effect; without it, only the violation is counted
(R650, R651). A session that is not open does nothing (R663). -/
def State.guarded (s : State) (sess : Nat) (index sub : Nat) (effect : State → State) : State :=
  match s.session? sess with
  | none => s
  | some x => if s.canWrite x ⟨index, sub⟩ then effect s else s.violate sess

/-! Notices (R672, R673) -/

/-- The notices in flight are at most eight (R673). -/
def maxInFlight : Nat := 8

/-- Send notices while fewer than eight are in flight (R673). -/
def State.pump (s : State) (x : Session) : State :=
  let new := (x.queue.drop x.inflight).take (maxInFlight - x.inflight)
  let sent := new.map fun n => { n with sentAt := s.up }
  let s1 := s.setSession { x with
    inflight := x.inflight + new.length,
    queue := x.queue.take x.inflight ++ sent ++ x.queue.drop (x.inflight + new.length) }
  sent.foldl (fun t n => t.sendSession x.id x.net x.peer (.notice x.id n.sequence n.obj n.loss n.value)) s1

/-- Put a notice in a session's queue; a full queue drops its oldest notice not yet in flight, counts the loss and marks the
next one (R673, log entry 118). -/
def Session.push (x : Session) (k : Nat) (value : List Byte) : Session :=
  let n : Notice := { sequence := x.nextEvent, obj := k, loss := false, value := value }
  if x.queue.length < 256 then { x with queue := x.queue ++ [n], nextEvent := x.nextEvent + 1 }
  else
    match x.queue.drop (x.inflight + 1) ++ [n] with
    | [] => x
    | m :: ms =>
      { x with queue := x.queue.take x.inflight ++ { m with loss := true } :: ms, nextEvent := x.nextEvent + 1,
               losses := x.losses + 1 }

/-- Deliver a record of an event object to every session subscribed to it whose read right stands (R672). -/
def State.notify (s : State) (k : Nat) (value : List Byte) : State :=
  s.sessions.foldl (fun t x =>
    match t.session? x.id with
    | some y =>
      if y.subs.any (fun q => q.1 == k) && t.canRead y ⟨k / 256, k % 256⟩ then t.pump (y.push k value) else t
    | none => t) s

/-- Write an event object and deliver its record. -/
def State.raise (s : State) (k : Nat) (value : List Byte) : State := (s.setReg k (fromBytes value)).notify k value

/-! Steps and their vetoes -/

/-- The oldest uncommitted step (R567, R583). -/
def State.oldestStep (s : State) (n : Nat) : Nat := s.reg (Obj.committedStep n) + 1

/-- An open step of a tenant (R567). -/
def Tenant.step? (t : Tenant) (k : Nat) : Option StepSt := t.steps.find? fun p => p.step == k

/-- Change an open step. -/
def Tenant.modStep (t : Tenant) (k : Nat) (f : StepSt → StepSt) : Tenant :=
  { t with steps := t.steps.map fun p => if p.step = k then f p else p }

/-- The step is vetoed with cause 1 (R571, R613). -/
def State.vetoStep (s : State) (n step : Nat) : State :=
  s.setTenant n ((s.tenant n).modStep step fun p => { p with faulted := true })

/-! Fault reports (R613 to R629) -/

/-- Advance an 8-bit event count: 255 is followed by 1 (R626). -/
def bumpEvents (c : Nat) : Nat := if c = 255 then 1 else c + 1

/-- Latch bits of a status word; a report is one event (R626). -/
def Latch.hit (l : Latch) (mask : Nat) : Latch := { word := l.word ||| mask, count := bumpEvents l.count }

/-- Add one to later_count, saturating, with the overflow flag (R622). -/
def Capture.later1 (c : Capture) : Capture :=
  if c.later = 0xFFFF then { c with overflow := true } else { c with later := c.later + 1 }

/-- A record receives a report (R625): an invalid record captures it, a higher class replaces the record and counts one
more, every other report only counts. -/
def Capture.take (c new : Capture) : Capture :=
  let e := bumpEvents c.events
  if !c.valid then { new with valid := true, events := e }
  else if c.cls < new.cls then { ({ c with events := e }).later1 with
      cls := new.cls, cause := new.cause, reporter := new.reporter, master := new.master, access := new.access,
      partition := new.partition, address := new.address, work := new.work, injected := new.injected,
      uptime := new.uptime, cadence := new.cadence }
  else ({ c with events := e }).later1

/-- The 48 bytes of a capture record (R622). -/
def Capture.bytes (c : Capture) : List Byte :=
  toBytes 8 c.address ++ toBytes 2 c.master ++ toBytes 2 c.reporter ++ toBytes 1 (c.access % 16) ++
  toBytes 1 (c.cls + 4 * c.partition + 32 * b2n c.injected + 64 * b2n c.valid) ++ toBytes 1 c.cause ++
  toBytes 1 (match c.work with | some (n, x, _) => n + 16 * x + 64 | none => 0) ++
  toBytes 8 c.uptime ++ toBytes 8 c.cadence ++
  toBytes 8 (match c.work with | some (_, _, st) => st | none => 0) ++
  toBytes 2 c.later ++ toBytes 1 (b2n c.overflow) ++ toBytes 1 c.events ++ toBytes 4 0

/-- The record a report makes (R622). -/
def State.recordOf (s : State) (r : FaultRep) : Capture :=
  { valid := true, cls := r.cls, cause := r.cause, reporter := r.reporter, master := r.master, access := r.access,
    partition := r.partition, address := r.address, work := r.work, injected := r.injected, uptime := s.up,
    cadence := s.cadNow }

/-- Die, group and unit of an identifier (R16). -/
def unitDie (u : Nat) : Nat := bits u 12 4
def unitGroup (u : Nat) : Nat := bits u 6 6
def unitUnit (u : Nat) : Nat := bits u 0 6

/-- The identifier of a block (R16). -/
def unitId (die group unit : Nat) : Nat := die * 4096 + group * 64 + unit

/-- The identifier of engine e of a core (R28). -/
def engineId (core e : Nat) : Nat := unitId (core / 64) (core / 8 % 8) (core % 8 * 8 + e)

/-- A cluster block's report passes its cluster collector too (R616, R620). -/
def clusterCaptureOf (u : Nat) : Option Nat :=
  if unitDie u < 8 && unitGroup u < 16 then some (Obj.clusterCapture (unitDie u) (unitGroup u % 8)) else none

/-- Every level's collector takes the report (R620, R622). -/
def State.collect (s : State) (r : FaultRep) : State :=
  let c := s.recordOf r
  let s1 := match clusterCaptureOf r.reporter with
    | some k => s.setCapture k ((s.capture k).take c)
    | none => s
  let kd := Obj.dieCapture (unitDie r.reporter)
  let s2 := s1.setCapture kd ((s1.capture kd).take c)
  s2.setCapture Obj.packageCapture ((s2.capture Obj.packageCapture).take c)

/-- The status words latch (R619, R621). -/
def State.latchStatus (s : State) (r : FaultRep) : State :=
  let kd := Obj.dieStatus (unitDie r.reporter) (unitGroup r.reporter)
  let s1 := s.setLatch kd ((s.latch kd).hit (2 ^ unitUnit r.reporter))
  s1.setLatch Obj.packageStatus
    ((s1.latch Obj.packageStatus).hit (2 ^ (unitDie r.reporter + (if r.cls = 1 then 0 else if r.cls = 2 then 16 else 32))))

/-- The die's counter of the class (R613, R638). -/
def State.countClass (s : State) (r : FaultRep) : State :=
  let d := unitDie r.reporter
  if r.cls = 1 then s.count 64 (Obj.correctedCount d)
  else if r.cls = 2 then s.count 64 (Obj.containedCount d)
  else s.count 32 (Obj.fatalCount d)

/-- The fault event (R628): delivered at most 1,000 times a second of uptime. -/
def State.faultEvent (s : State) (r : FaultRep) : State :=
  if r.cls = 1 && s.reg Obj.correctedEvents = 0 then s
  else
    let sec := s.up / 1000000000
    let used := if s.dev.secondFaults.1 = sec then s.dev.secondFaults.2 else 0
    if used < 1000 then
      ({ s with dev := { s.dev with secondFaults := (sec, used + 1) } }).raise Obj.lastFaultEvent
        ((s.recordOf r).bytes.take 32)
    else s.count 32 Obj.eventDropCount

/-- The fault log keeps the 256 most recent records of classes 2 and 3, a class 2 record at most once in 10 s (R629). -/
def State.logFault (s : State) (r : FaultRep) : State :=
  if r.cls = 1 then s
  else
    let recent := match s.dev.lastLogged with
      | some t => r.cls == 2 && decide (s.up < t + 10000000000)
      | none => false
    if recent then s.count 32 Obj.logSkipCount
    else
      let log := s.dev.faultLog ++ [s.recordOf r]
      ({ s with dev := { s.dev with
          faultLog := log.drop (log.length - 256),
          lastLogged := if r.cls = 2 then some s.up else s.dev.lastLogged } } : State).bump Obj.faultLog

/-! Losing power (R77, R679) -/

/-- The objects of the configuration block (R691), by index and sub-index. -/
def inConfigBlock (k : Nat) : Bool :=
  k == Obj.chipNumber || k == Obj.rackBits || k == Obj.portRemap || k == Obj.gdpUdpPort || k == Obj.dispatchUdpPort ||
  (decide (0x5901 ≤ k / 256) && decide (k / 256 ≤ 0x5905)) || k / 256 == 0x5910 || k / 256 == 0x5911

/-- The state with everything lost but the registers kept, the queue of commands, and the model's own counters. -/
def State.reborn (s : State) (keep : Nat → Bool) (dev : Dev) : State :=
  { pending := s.pending, regs := s.regs.filter (fun p => keep p.1), drawn := s.drawn, serial := s.serial, out := s.out,
    dev := dev }

/-- What flash and fuses hold (R77). -/
def Dev.persist (d : Dev) : Dev :=
  { flash := d.flash, flashGood := d.flashGood, fuseCount := d.fuseCount, ownerFused := d.ownerFused, ownerHash := d.ownerHash,
    keySlots := d.keySlots, fusedOff := d.fusedOff, stopCauseFlash := d.stopCauseFlash, faultLog := d.faultLog, lastFatal := d.lastFatal }

/-- Power goes (R679, R77, R688): to OFF; a flash write that it cuts leaves an image that fails its check; the cause of a stop is kept
only where the package had stopped in order (R68). -/
def State.powerOff (s : State) : State :=
  let d := s.dev.persist
  let d1 : Dev := { d with
    flashGood := d.flashGood && s.dev.writing.isNone, stopCauseFlash := if s.device = devHalted then d.stopCauseFlash else 0 }
  (s.reborn inConfigBlock d1).enter devOff

/-- The latest sample has the input below 18 V (R67). -/
def State.inputGone (s : State) : Bool := !s.supply.samples.isEmpty && decide (s.reg Obj.inputMv < 18000)

/-- An orderly stop (R67): the cores halt, a departure notice goes out, the cause and the package capture are written
to flash (R629), the lasers and Ethernet go off, HALTED (R678; log entry 128). With the input
below 18 V the stop is abrupt: no notice, no cause. -/
def State.orderlyStop (s : State) (cause : Nat) : State :=
  if s.device = devOff || s.device = devHalted then s
  else if s.inputGone then s.powerOff
  else
    let ctxs := Sparse.mapAll {} (fun _ x => if x.state = 1 ∨ x.state = 2 then { x with state := 3 } else x) s.ctxs
    let s1 : State := { s with
      ctxs := ctxs,
      lasers := [],
      eth := {},
      dev := { s.dev with stopCauseFlash := cause, stopping := true, lastFatal := s.capture Obj.packageCapture } }
    let s2 := ((s1.emit (.departure s.chip)).emit .lasersOff).setReg Obj.supplyState 3
    let s3 := (List.range 144).foldl (fun t l => t.setReg (Obj.laneState (l / 9) (l % 9)) 0) s2
    let s4 := (List.range 16).foldl (fun t p =>
      ((t.setReg (Obj.portState p) 0).setReg (Obj.portRate16ths p) 0).setReg (Obj.spareRole p) 0) s3
    let s5 := (List.range 8).foldl (fun t p => t.setReg (Obj.linkState p) 0) s4
    s5.enter devHalted

/-- A report without the stop a fatal one brings about. -/
def State.reportOnly (s : State) (r : FaultRep) : State :=
  let s1 := (((s.collect r).latchStatus r).countClass r).faultEvent r
  let s2 := s1.logFault r
  match r.work with
  | some (n, _, st) => if r.cls = 2 ∧ st ≠ 0 then s2.vetoStep n st else s2
  | none => s2

/-- A fault is reported (R613): classed, collected, latched, counted, delivered, logged; a class 2 report of work vetoes
its step; a fatal one stops the package in order with cause 4. -/
def State.report (s : State) (r : FaultRep) : State :=
  if r.cls = 3 then (s.reportOnly r).orderlyStop 4 else s.reportOnly r

/-- A report of a block about itself, with no access and no work. -/
def blockReport (cls cause unit : Nat) : FaultRep :=
  { cls := cls, cause := cause, reporter := unit, master := unit, access := 8, partition := 0, address := 0, work := none,
    injected := false }

/-! Scheduled events (R57 to R60) -/

/-- The row of R58 an event is applied in. -/
def SchedKind.order : SchedKind → Nat
  | .commit _ _ _ _ _ => 1
  | .slalom _ _ => 2
  | .powerStep _ _ => 3
  | .recoveryStep => 3
  | .clockGrant _ _ => 4
  | .arbiter => 5
  | .sketchCal _ => 6

/-- A commit uses an entry of its own (R579). -/
def SchedKind.isCommit : SchedKind → Bool
  | .commit _ _ _ _ _ => true
  | _ => false

/-- The events that count against the 256 entries (R59, R579). -/
def State.schedCount (s : State) : Nat := (s.time.events.filter fun e => !e.kind.isCommit).length

/-- Accept a scheduled event (R59): a full table refuses all but commits, and counts. -/
def State.schedule (s : State) (e : Sched) : State :=
  if e.kind.isCommit || decide (s.schedCount < 256) then
    { s with time := { s.time with events := s.time.events ++ [e] } }
  else s.count 32 Obj.scheduledRefusedCount

/-- Accept a local event: one whose gate has passed takes the next gate and counts as late (R60). -/
def State.scheduleLocal (s : State) (gate : Nat) (k : SchedKind) : State :=
  if gate ≤ s.beatNo then (s.schedule ⟨s.nextGate, k⟩).count 32 Obj.lateEventCount else s.schedule ⟨gate, k⟩

/-- Round down to a power of two between 1 and 4,096 (R55). -/
def roundGate (v : Nat) : Nat := if v = 0 then 1 else if 4096 < v then 4096 else 2 ^ Nat.log2 v

/-- A power step's gate (R72): the gate of the request, and (chip number mod stagger_groups) × stagger_step_gates gates
more. -/
def State.powerStepGate (s : State) : Nat :=
  s.nextGate + (s.chip % s.reg Obj.staggerGroups) * s.reg Obj.staggerStepGates * s.gatePeriod

/-- Request a power step toward a floor and a ceiling (R72). -/
def State.requestPowerStep (s : State) (floor ceiling : Nat) : State :=
  s.scheduleLocal s.powerStepGate (.powerStep floor ceiling)

end Sys2Proof.Machine
end

