-- ==== Sys2Proof/Machine/Mem.lean ====
section
/-!
DEFINITION. Memory: allocations and their charges (R312 to R321, R332 to R337), the tensor table's resolution of an offset
(R314, R319, R272), bytes, poison and injected errors (R350, R633), locks and moves that a write waits on (R155, R326).
-/

namespace Sys2Proof.Machine

/-! Bytes -/

/-- The number of a byte: 2^32 bytes are the most an allocation has (R315). -/
def memKey (alloc off : Nat) : Nat := alloc * 2 ^ 32 + off

/-- The number of a line of an allocation. -/
def lineKey (alloc line : Nat) : Nat := alloc * 2 ^ 26 + line

/-- The canonical form of memory: rising addresses, no zero byte listed (R684: every tier reads as zero). -/
def Memory.wf (m : List Host.Cell) : Bool := Sparse.wf (0 : Byte) m

/-- The byte of an allocation. -/
def State.rdByte (s : State) (alloc off : Nat) : Byte := Sparse.get (0 : Byte) (memKey alloc off) s.mem

/-- Store a byte of an allocation. -/
def State.wrByte (s : State) (alloc off : Nat) (b : Byte) : State :=
  { s with mem := Sparse.set (0 : Byte) (memKey alloc off) b s.mem }

/-- Store the bytes at an offset of an allocation. -/
def State.wrBytes (s : State) (alloc off : Nat) : List Byte → State
  | [] => s
  | b :: bs => (s.wrByte alloc off b).wrBytes alloc (off + 1) bs

/-- Take every byte of an allocation out: it reads as zero. -/
def State.zeroAlloc (s : State) (alloc : Nat) : State :=
  { s with
    mem := s.mem.filter fun p => !decide (p.1 / 2 ^ 32 = alloc),
    poison := s.poison.filter fun p => !decide (p.1 / 2 ^ 26 = alloc) }

/-- Copy the bytes and the poison of one allocation into another (R323, R327). -/
def State.copyAlloc (s : State) (src dst : Nat) : State :=
  let s0 := s.zeroAlloc dst
  let bytes := s.mem.filter fun p => p.1 / 2 ^ 32 = src
  let bad := s.poison.filter fun p => p.1 / 2 ^ 26 = src
  { s0 with
    mem := bytes.foldl (fun m p => Sparse.set (0 : Byte) (memKey dst (p.1 % 2 ^ 32)) p.2 m) s0.mem,
    poison := bad.foldl (fun m p => Sparse.set 0 (lineKey dst (p.1 % 2 ^ 26)) p.2 m) s0.poison }

/-- Is a line of an allocation poisoned (R350)? -/
def State.poisoned (s : State) (alloc line : Nat) : Bool := Sparse.get 0 (lineKey alloc line) s.poison != 0

/-- Poison a line or clear its poison (R350). -/
def State.setPoison (s : State) (alloc line : Nat) (v : Bool) : State :=
  { s with poison := Sparse.set 0 (lineKey alloc line) (b2n v) s.poison }

/-- Poison a line by a test perturbation (R633): what it causes is marked as injected (R635). -/
def State.injectPoison (s : State) (alloc line : Nat) : State :=
  { s with poison := Sparse.set 0 (lineKey alloc line) 2 s.poison }

/-! Tiers, reservations, allocations -/

/-- Tier codes (R312). -/
def tierNear : Nat := 0
def tierMain : Nat := 1
def tierDeep : Nat := 2

/-- A tenant's reservation in a tier (R357). -/
def reservedObj (t n : Nat) : Nat :=
  if t = 0 then Obj.nearReserved n else if t = 1 then Obj.mainReserved n else Obj.deepReserved n

/-- What is charged to a tenant in a tier (R357). -/
def chargedObj (t n : Nat) : Nat :=
  if t = 0 then Obj.nearCharged n else if t = 1 then Obj.mainCharged n else Obj.deepCharged n

/-- What a tenant lent in a tier (R335; Deep is only ever a home tier). -/
def State.lent (s : State) (t n : Nat) : Nat :=
  if t = 0 then s.reg (Obj.nearLent n) else if t = 1 then s.reg (Obj.mainLent n) else 0

/-- What a tenant borrowed in a tier (R335). -/
def State.borrowed (s : State) (t n : Nat) : Nat :=
  if t = 0 then s.reg (Obj.nearBorrowed n) else if t = 1 then s.reg (Obj.mainBorrowed n) else 0

/-- Free room (R333): reserved − charged − lent. -/
def State.freeRoom (s : State) (t n : Nat) : Nat :=
  s.reg (reservedObj t n) - s.reg (chargedObj t n) - s.lent t n

/-- Bytes of a die's tier that allocations take. -/
def State.usedOn (s : State) (tier die : Nat) : Nat :=
  ((s.allocs.filter fun p => p.2.tier = tier && p.2.die = die).map fun p => p.2.bytes).sum

/-- What a die span of some bytes takes of cluster memory c: the 256-byte units 8k + c (R320). -/
def spanShare (bytes c : Nat) : Nat := bytes / 2048 * 256 + min 256 (bytes % 2048 - 256 * c)

/-- Bytes of one cluster memory that allocations take. -/
def State.usedCluster (s : State) (die c : Nat) : Nat :=
  ((s.allocs.filter fun p => p.2.tier = 0 && p.2.die = die).map fun p =>
    if p.2.place.kind = 0 then spanShare p.2.bytes c
    else if p.2.place.kind = 1 && p.2.place.cluster = c then p.2.bytes else 0).sum

/-- Bytes of one tile memory that allocations take. -/
def State.usedTile (s : State) (die c k : Nat) : Nat :=
  ((s.allocs.filter fun p => p.2.tier = 0 && p.2.die = die && p.2.place = ⟨2, c, k⟩).map fun p => p.2.bytes).sum

/-- Has a die's tier, or the Near place named, free space for some bytes (R312, R313, R318, R333)? -/
def State.fits (s : State) (tier die : Nat) (pl : Place) (bytes : Nat) : Bool :=
  if tier = 0 then
    if pl.kind = 0 then (List.range 8).all fun c => decide (s.usedCluster die c + spanShare bytes c ≤ 16 * 2 ^ 20)
    else if pl.kind = 1 then decide (s.usedCluster die pl.cluster + bytes ≤ 16 * 2 ^ 20)
    else s.coreEnabled (die * 64 + pl.cluster * 8 + pl.core) && decide (s.usedTile die pl.cluster pl.core + bytes ≤ 2 * 2 ^ 20)
  else if tier = 1 then decide (s.usedOn 1 die + bytes ≤ 191 * 2 ^ 30)
  else decide (s.usedOn 2 die + bytes ≤ 384 * 2 ^ 30)

/-- The compute die with the least of a tier taken, the lower index on a tie (R321, R367). -/
def State.emptiest (s : State) (tier : Nat) : Nat :=
  (List.range 8).foldl (fun b d => if s.usedOn tier d < s.usedOn tier b then d else b) 0

/-- Where a home allocation goes (R321): its die, or on a spill the die with the most free space. -/
def State.homeDieFor (s : State) (tier die bytes : Nat) (pl : Place) : Nat :=
  if tier = 0 ∨ s.fits tier die pl bytes then die else s.emptiest tier

/-- Loans of a borrower in a tier are repaid, oldest first, by some bytes (R335). -/
def repay (tier borrower excess : Nat) : List Loan → List Loan
  | [] => []
  | l :: ls =>
    if l.tier = tier ∧ l.borrower = borrower then
      if excess ≥ l.bytes then repay tier borrower (excess - l.bytes) ls
      else { l with bytes := l.bytes - excess } :: ls
    else l :: repay tier borrower excess ls

/-- Loans given by a tenant in a tier. -/
def loansBy (tier n : Nat) (ls : List Loan) : Nat :=
  ((ls.filter fun l => l.tier = tier && l.lender = n).map (·.bytes)).sum

/-- Loans taken by a tenant in a tier. -/
def loansTo (tier n : Nat) (ls : List Loan) : Nat :=
  ((ls.filter fun l => l.tier = tier && l.borrower = n).map (·.bytes)).sum

/-- Publish what each tenant lent and borrowed in Near and Main (R357). -/
def State.publishLoans (s : State) : State :=
  (List.range 16).foldl (fun t n =>
    let b0 := t.reg (chargedObj 0 n) - t.reg (reservedObj 0 n)
    let b1 := t.reg (chargedObj 1 n) - t.reg (reservedObj 1 n)
    (((t.setReg (Obj.nearLent n) (loansBy 0 n t.loans)).setReg (Obj.mainLent n) (loansBy 1 n t.loans)).setReg
      (Obj.nearBorrowed n) (if loansTo 0 n t.loans = 0 then 0 else b0)).setReg
      (Obj.mainBorrowed n) (if loansTo 1 n t.loans = 0 then 0 else b1)) s

/-- A tenant's charge has fallen by some bytes: as many of its loans are repaid, oldest first (R335). -/
def State.settleLoans (s : State) (tier n fallen : Nat) : State :=
  if loansTo tier n s.loans = 0 then s
  else ({ s with loans := repay tier n (min fallen (loansTo tier n s.loans)) s.loans }).publishLoans

/-- Make an allocation and charge it (R318, R332). -/
def State.allocate (s : State) (tier die : Nat) (pl : Place) (bytes n : Nat) : Nat × State :=
  let (a, s1) := s.fresh
  (a, ({ s1 with allocs := Sparse.insert a { tier := tier, die := die, bytes := bytes, tenant := n, place := pl } s1.allocs }).addReg
    64 (chargedObj tier n) bytes)

/-- Free an allocation: its charge falls, loans are repaid, and it is zeroed before it is given out again (R701). -/
def State.freeAlloc (s : State) (a : Nat) (zeroLater : Bool) : State :=
  match (s.allocs.find? fun p => p.1 = a).map (·.2) with
  | none => s
  | some v =>
    let s1 := s.setReg (chargedObj v.tier v.tenant) (s.reg (chargedObj v.tier v.tenant) - v.bytes)
    let s2 := s1.settleLoans v.tier v.tenant v.bytes
    if zeroLater then { s2 with allocs := Sparse.insert a { v with zeroing := true } s2.allocs }
    else ({ s2 with allocs := Sparse.erase a s2.allocs }).zeroAlloc a

/-- Bytes of a tier that admission counts as unavailable (R337, R701): allocations being zeroed, and of the tenants that are free, the
copies of others' entries still charged to them and what they have lent. What a free tenant's own images hold is part of its
reservation when it is admitted. -/
def State.unavailable (s : State) (t : Nat) : Nat :=
  ((s.allocs.filter fun p => p.2.tier == t && (p.2.zeroing || ((s.tenant p.2.tenant).state == 0 &&
    !s.entries.any fun q => q.2.tenant == p.2.tenant && q.2.homeAlloc == p.1))).map fun p => p.2.bytes).sum +
  ((List.range 16).filterMap fun n => if (s.tenant n).state = 0 then some (s.lent t n) else none).sum

/-- The reservations of the tenants that are not free plus the unavailable bytes (R356). -/
def State.reservedSum (s : State) (t : Nat) : Nat :=
  (s.notFree.map fun n => s.reg (reservedObj t n)).sum + s.unavailable t

/-! The tensor table -/

/-- Which version an access resolves to (R272): no version, a number, or the pending version. -/
inductive VSel where
  | plain
  | num (x : Nat)
  | pending
  deriving DecidableEq, Repr

/-- The offset's entry covers it. -/
def Entry.covers (e : Entry) (off : Nat) : Bool := decide (e.base ≤ off) && decide (off < e.base + 64 * e.lines)

/-- May a tenant read the entry (R319)? -/
def Entry.readable (e : Entry) (n : Nat) : Bool := e.tenant == n || (e.shared && bit e.shareMask n)

/-- Is this the buffer the access resolves to (R270, R272)? A plain access to a versioned entry, which only a host makes,
meets the current buffer (log entry 9). -/
def Entry.selects (e : Entry) (v : VSel) : Bool :=
  if !e.versioned then true
  else
    match v with
    | .plain => e.bufState == .current
    | .num x => e.bufState != .free && e.versions.contains x
    | .pending => e.bufState == .pending

/-- The entry that covers an offset for a tenant (R314): its own first, then a shared one it may read. -/
def State.findEntry (s : State) (n off : Nat) (v : VSel) : Option (Nat × Entry) :=
  match s.entries.find? fun p => p.2.tenant == n && p.2.covers off && p.2.selects v with
  | some p => some p
  | none => s.entries.find? fun p => p.2.readable n && p.2.covers off && p.2.selects v

/-- Any entry a tenant may read covers the offset, whatever its version. -/
def State.anyEntry (s : State) (n off : Nat) : Option (Nat × Entry) :=
  match s.entries.find? fun p => p.2.tenant == n && p.2.covers off with
  | some p => some p
  | none => s.entries.find? fun p => p.2.readable n && p.2.covers off

/-- The allocation of the committed copy (R314). -/
def Entry.committed (e : Entry) : Nat :=
  match e.upper with
  | some u => u.alloc
  | none => e.homeAlloc

/-- The tier of the committed copy. -/
def Entry.tier (e : Entry) : Nat :=
  match e.upper with
  | some u => u.tier
  | none => e.homeTier

/-- The die of the committed copy. -/
def Entry.die (e : Entry) : Nat :=
  match e.upper with
  | some u => u.die
  | none => e.homeAt

/-- Where a byte lies: allocation and offset in it. -/
def State.locate (s : State) (n off : Nat) (v : VSel) : Option (Nat × Nat) :=
  (s.findEntry n off v).map fun p => (p.2.committed, off - p.2.base)

/-- The byte at an offset of a tenant's tensor space, zero where nothing covers it. -/
def State.peek (s : State) (n off : Nat) (v : VSel) : Byte :=
  match s.locate n off v with
  | some (a, o) => s.rdByte a o
  | none => 0

/-- The bytes from an offset on. -/
def State.peekBytes (s : State) (n off : Nat) (v : VSel) (len : Nat) : List Byte :=
  (List.range len).map fun i => s.peek n (off + i) v

/-- Is the line of an offset poisoned? -/
def State.lineBad (s : State) (n off : Nat) (v : VSel) : Bool :=
  match s.locate n off v with
  | some (a, o) => s.poisoned a (o / 64)
  | none => false

/-- The home copy of an entry. -/
def Entry.homeCopy (e : Entry) : Upper :=
  { tier := e.homeTier, die := e.homeAt, place := e.place, alloc := e.homeAlloc, tenant := e.tenant, cid := 0 }

/-- The committed copy (R314). -/
def Entry.current (e : Entry) : Upper := e.upper.getD e.homeCopy

/-- The controller of a byte of a copy (R28, R320). -/
def Upper.controller (u : Upper) (off : Nat) : Nat :=
  if u.tier = 1 then unitId u.die 16 (off / 256 % 3)
  else if u.tier = 2 then unitId u.die 16 (3 + off / 256 % 2)
  else if u.place.kind = 0 then unitId u.die (8 + off / 256 % 8) 2
  else if u.place.kind = 1 then unitId u.die (8 + u.place.cluster) 2
  else unitId u.die u.place.cluster (u.place.core * 8 + 6)

/-- The controller of a byte of the committed copy. -/
def Entry.controller (e : Entry) (off : Nat) : Nat := e.current.controller off

/-- The sites at which a transfer of a whole copy asks (R329, R495), with Lift's index there: its controllers, or the crossbars of its
cluster memories. -/
def Upper.sites (u : Upper) : List (Nat × Nat) :=
  if u.tier = 1 then (List.range 3).map fun c => (0x50 + 5 * u.die + c, 64)
  else if u.tier = 2 then (List.range 2).map fun c => (0x53 + 5 * u.die + c, 64)
  else if u.place.kind = 0 then (List.range 8).map fun c => (0x80 + 8 * u.die + c, 9)
  else [(0x80 + 8 * u.die + u.place.cluster, 9)]

/-- The global address of an offset on this package (R17). -/
def State.globalAddr (s : State) (off : Nat) : Nat := s.chip % 2 ^ 14 * 2 ^ 50 + off % 2 ^ 50

/-- Count a corrected or uncorrected error of one unit of a die's memory (R346, R360): 0 to 2 a Main stack, 3 and 4 a Deep device. -/
def State.countDevice (s : State) (die unit : Nat) (corrected : Bool) : State :=
  if unit < 3 then
    (if corrected then s.count 64 (Obj.mainCorrectedCount die unit) else s.count 32 (Obj.mainUncorrectedCount die unit))
  else if unit < 5 then
    (if corrected then s.count 64 (Obj.deepCorrectedCount die (unit - 3)) else s.count 32 (Obj.deepUncorrectedCount die (unit - 3)))
  else s

/-- Count a line's corrected or uncorrected error at its device (R360). -/
def State.countLine (s : State) (u : Upper) (off : Nat) (corrected : Bool) : State :=
  if u.tier = 1 then s.countDevice u.die (off / 256 % 3) corrected
  else if u.tier = 2 then s.countDevice u.die (3 + off / 256 % 2) corrected
  else s

/-- A read of a copy finds an error in a line (R350, R633): a corrected one is counted and reported; an uncorrectable one poisons
the line and is reported as uncorrected-contained. -/
def State.copyError (s : State) (e : Entry) (u : Upper) (off master access : Nat) (corrected injected : Bool) : State :=
  let ctl := u.controller (off - e.base)
  let rep : FaultRep :=
    { cls := if corrected then 1 else 2, cause := if corrected then 1 else 2, reporter := ctl, master := master,
      access := access, partition := 0, address := s.globalAddr (off / 64 * 64), work := none, injected := injected }
  let s1 := s.countLine u (off - e.base) corrected
  let s2 := if corrected then s1 else
    (if injected then s1.injectPoison u.alloc ((off - e.base) / 64) else s1.setPoison u.alloc ((off - e.base) / 64) true)
  s2.report rep

/-- A read finds an error in a line of the committed copy. -/
def State.lineError (s : State) (e : Entry) (off master access : Nat) (corrected injected : Bool) : State :=
  s.copyError e e.current off master access corrected injected

/-- The injected errors a read of these offsets meets are found, and discarded from the waiting list (R633). -/
def State.meetInjections (s : State) (n : Nat) (offs : List Nat) (v : VSel) (master access : Nat) : State :=
  s.injections.foldl (fun t j =>
    match offs.find? fun o => o / 64 = j.address / 64 with
    | none => t
    | some o =>
      match t.findEntry n o v with
      | none => t
      | some (_, e) =>
        ({ t with injections := t.injections.erase j }).lineError e o master access (j.kind == 1) true) s

/-- Does a read of these offsets meet a poisoned line? -/
def State.anyBad (s : State) (n : Nat) (offs : List Nat) (v : VSel) : Bool := offs.any fun o => s.lineBad n o v

/-- Does a test perturbation stand behind the poison of the line at a global address (R635)? -/
def State.poisonInjected (s : State) (address : Nat) : Bool :=
  s.entries.any fun p => p.2.covers (address % 2 ^ 50) &&
    Sparse.get 0 (lineKey p.2.committed ((address % 2 ^ 50 - p.2.base) / 64)) s.poison == 2

/-- The line-aligned global address of the first of some offsets in a poisoned line (R350, R622). -/
def State.badAddr (s : State) (n : Nat) (offs : List Nat) (v : VSel) : Nat :=
  match offs.find? fun o => s.lineBad n o v with
  | some o => s.globalAddr o / 64 * 64
  | none => 0

/-! Writes -/

/-- Offsets from lo to hi overlap those from lo2 to hi2. -/
def overlaps (lo hi lo2 hi2 : Nat) : Bool := decide (lo ≤ hi2) && decide (lo2 ≤ hi)

/-- A matrix instruction (R155), or an open collective instance but those exempt (R514), holds the range locked against other writers. -/
def State.lockedBut (s : State) (exempt : Inst → Bool) (n lo hi : Nat) : Bool :=
  (s.cores.any fun p => p.2.issued.any fun i => i.locks.any fun l => l.1 == n && overlaps lo hi l.2.1 l.2.2) ||
  s.colls.insts.any fun i => !exempt i && i.n == n && i.locks.any fun l => overlaps lo hi l.1 l.2

/-- A matrix instruction or an open collective instance holds the range locked (R155, R514). -/
def State.locked (s : State) (n lo hi : Nat) : Bool := s.lockedBut (fun _ => false) n lo hi

/-- A move holds writes to the entry (R326). -/
def State.movingAt (s : State) (n lo hi : Nat) (v : VSel) : Bool :=
  s.entries.any fun p => p.2.readable n && p.2.selects v && p.2.moving &&
    overlaps lo hi p.2.base (p.2.base + 64 * p.2.lines - 1)

/-- A write to a range must wait: a matrix instruction locks it, or an entry it meets is moving (R155, R326). -/
def State.rangeHeld (s : State) (n lo hi : Nat) (v : VSel) : Bool := s.locked n lo hi || s.movingAt n lo hi v

/-- A sealed replay slot covers the offset (R584, R585). -/
def State.sealedAt (s : State) (n off : Nat) : Bool :=
  let base := s.reg (Obj.ringBase n)
  let sb := s.reg (Obj.slotBytes n)
  decide (0 < sb) && decide (base ≤ off) && decide (off < base + sb * s.reg (Obj.ringSlots n)) &&
    bit (s.tenant n).sealedSlots ((off - base) / sb)

/-- May an engine of a tenant write the offset: its own entry, no image, not sealed (R319, R369, R585)? -/
def State.writable (s : State) (n off : Nat) (v : VSel) : Bool :=
  match s.findEntry n off v with
  | some (_, e) => e.tenant == n && !e.image && !s.sealedAt n off
  | none => false

/-- Store one byte at an offset of a tenant's tensor space, in the committed copy, which becomes dirty (R314, R336). -/
def State.poke (s : State) (n off : Nat) (v : VSel) (b : Byte) : State :=
  match s.findEntry n off v with
  | none => s
  | some (k, e) =>
    let s1 := s.wrByte e.committed (off - e.base) b
    if e.upper.isSome && !e.dirty then s1.setEntry k { e with dirty := true } else s1

/-- How many bytes of a line are written. -/
def inLine (ws : List (Nat × Byte)) (line : Nat) : Nat := ((ws.filter fun w => w.1 / 64 = line).map (·.1)).eraseDups.length

/-- Store bytes at offsets (R350): a poisoned line that is covered whole loses its poison; the bytes of a poisoned line
that is covered only in part are not stored. Answers the state and whether a part was not stored. -/
def State.pokeAll (s : State) (n : Nat) (v : VSel) (ws : List (Nat × Byte)) : State × Bool :=
  ws.foldl (fun (t : State × Bool) w =>
    match s.locate n w.1 v with
    | none => t
    | some (a, o) =>
      if s.poisoned a (o / 64) then
        if inLine ws (w.1 / 64) < 64 then (t.1, true)
        else ((t.1.setPoison a (o / 64) false).poke n w.1 v w.2, t.2)
      else (t.1.poke n w.1 v w.2, t.2)) (s, false)

/-- Store a run of bytes. -/
def State.pokeRun (s : State) (n off : Nat) (v : VSel) (bs : List Byte) : State × Bool :=
  s.pokeAll n v ((List.range bs.length).zip bs |>.map fun p => (off + p.1, p.2))

/-! Fences (R395, R396) -/

/-- A fence of an accepted, uncompleted descriptor of the tenant covers the line of an offset. -/
def State.fencedAt (s : State) (n off : Nat) : Bool :=
  s.works.any fun p => p.2.tenant == n && p.2.phase != 0 &&
    p.2.fences.any fun f => decide (f.1 / 64 ≤ off / 64) && decide (off / 64 ≤ f.2 / 64)

/-- A host reads bytes (R350, R396, R671): fenced, poisoned and unresolved bytes read as zeros. -/
def State.hostBytes (s : State) (n off len : Nat) : List Byte :=
  (List.range len).map fun i =>
    let o := off + i
    if s.fencedAt n o || s.lineBad n o .plain then 0 else s.peek n o .plain

/-- Does the run meet an offset with property p? -/
def anyOffset (off len : Nat) (p : Nat → Bool) : Bool := (List.range len).any fun i => p (off + i)

/-- Access violations of a tenant (R396). -/
def State.accessViolation (s : State) (n : Nat) : State := s.count 64 (Obj.accessViolationCount n)

/-- A host write stores the bytes it may (R396, R350, R369, R585): not in fenced lines, images, sealed slots or unresolved
offsets. -/
def State.hostStore (s : State) (n off : Nat) (bs : List Byte) : State × Bool :=
  s.pokeAll n .plain (((List.range bs.length).zip bs |>.map fun p => (off + p.1, p.2)).filter fun w =>
    !s.fencedAt n w.1 && s.writable n w.1 .plain)

/-! Writes of the package itself -/

/-- Contexts that wait for a feed try again (R603). -/
def State.wakeFeeds (s : State) : State :=
  let wake : Nat → Ctx → Ctx := fun _ y => if y.state = 3 ∧ y.waits = .feed then { y with state := 1, waits := .nothing } else y
  { s with ctxs := Sparse.mapAll {} wake s.ctxs }

/-- A write of the package is made: a part in a poisoned line that it covers in part is not stored, and is a fault of the writer that
reaches no work (R350, R614); bytes of a feed let the reads that wait on them go on (R603). -/
def State.storeHeld (s : State) (w : HeldWrite) : State :=
  let (t, bad) := s.pokeRun w.tenant w.offset .plain w.bytes
  let t1 := if bad then t.report
      { cls := 2, cause := 3, reporter := w.unit, master := w.unit, access := w.access, partition := 0,
        address := t.badAddr w.tenant ((List.range w.bytes.length).map fun i => w.offset + i) .plain, work := none,
        injected := t.poisonInjected (t.badAddr w.tenant ((List.range w.bytes.length).map fun i => w.offset + i) .plain) }
    else t
  match w.feed with
  | some (base, step) =>
    ({ t1 with colls := { t1.colls with feeds := t1.colls.feeds ++ [(w.tenant, base, step, w.bytes.length)] } } : State).wakeFeeds
  | none => t1

/-- Must a write of the package wait (R155, R326)? -/
def State.mustHold (s : State) (w : HeldWrite) : Bool :=
  !w.bytes.isEmpty && s.rangeHeld w.tenant w.offset (w.offset + w.bytes.length - 1) .plain

/-- A write of the package is made, or waits on a lock or a move (R155, R326). -/
def State.engineWrite (s : State) (w : HeldWrite) : State :=
  if s.mustHold w then { s with heldWrites := s.heldWrites ++ [w] } else s.storeHeld w

/-- The package's writes that wait no longer are made. -/
def State.resumeWrites (s : State) : State :=
  s.heldWrites.foldl (fun t w =>
    if t.mustHold w then t else ({ t with heldWrites := t.heldWrites.erase w } : State).storeHeld w) s

end Sys2Proof.Machine
end

