-- ==== Sys2Proof/Machine/Versions.lean ====
section
/-!
DEFINITION. Weight versions (R268 to R278): the counter, the buffers' states, tags, and how a descriptor's version
resolves.
-/

namespace Sys2Proof.Machine

/-- The version that follows another (R269). -/
def nextVersion (v : Nat) : Nat := if v ≥ 0xFFFD then 0 else v + 1

/-- A tenant's current version (R269). -/
def State.curVersion (s : State) (n : Nat) : Nat := s.reg (Obj.currentVersion n)

/-- The buffers of a tenant's versioned tensor at a base. -/
def Entry.sameTensor (e : Entry) (n base : Nat) : Bool := e.versioned && e.tenant == n && e.base == base

/-- Change every entry. -/
def State.mapEntries (s : State) (f : Entry → Entry) : State := { s with entries := s.entries.map fun p => (p.1, f p.2) }

/-- Some tensor of the tenant has a pending buffer (0x4500+n.04). -/
def State.pendingOpen (s : State) (n : Nat) : Bool :=
  s.entries.any fun p => p.2.tenant == n && p.2.versioned && p.2.bufState == .pending

/-- The live tags of all tenants (R276). -/
def State.liveTags (s : State) : Nat := ((List.range 16).map fun n => (s.tenant n).tags.length).sum

/-- A live tag of the tenant names one of the numbers. -/
def Tenant.tagsName (t : Tenant) (vs : List Nat) : Bool := t.tags.any fun g => vs.contains g.version

/-- A free buffer of the tensor becomes its pending version (R270). -/
def State.openPending (s : State) (n base : Nat) : Option State :=
  match s.entries.find? fun p => p.2.sameTensor n base && p.2.bufState == .free with
  | none => none
  | some (k, e) => some (s.setEntry k { e with bufState := .pending, versions := [nextVersion (s.curVersion n)] })

/-- What resolving a version answers: the copy, a version fault (R273), or a wait (R274, R276, R569). -/
inductive VRes where
  | ok (v : VSel) (s : State)
  | fault
  | wait (w : WaitFor) (s : State)

/-- Who asks: tenant, its work's micro-batch, its step (none for work without one). -/
structure Asker where
  n : Nat
  microBatch : Nat
  step : Option Nat
  deriving DecidableEq, Repr

/-- Bytes of a step that have arrived for a feed target (R603). -/
def State.fedBytes (s : State) (n base step : Nat) : Nat :=
  ((s.colls.feeds.filter fun f => f.1 == n && f.2.1 == base && f.2.2.1 == step).map fun f => f.2.2.2).sum

/-- A read by work of a step of a live feed target waits until that step's write has arrived whole (R603): the target's last line has
begun to arrive (log entry 44). -/
def State.feedWaits (s : State) (a : Asker) (off : Nat) : Bool :=
  match a.step with
  | none => false
  | some k =>
    (s.tenant a.n).mirrors.any fun m => m.role == 4 && m.state == 3 &&
      s.entries.any fun p => p.2.tenant == a.n && p.2.base == m.localBase && p.2.covers off &&
        decide (s.fedBytes a.n m.localBase k ≤ 64 * (p.2.lines - 1))

/-- The version a micro-batch is tagged with (R271): its tag's, or from its first read of any versioned tensor on the current version;
none while a tag would go beyond the limits of R276. The micro-batch belongs to the step of its work: a tag that step-less work made
takes the step of the first work of a step that reads under it (R275). -/
def State.tagFor (s : State) (a : Asker) : Option (Nat × State) :=
  let t := s.tenant a.n
  match t.tags.find? fun g => g.microBatch == a.microBatch with
  | some g =>
    some (g.version, if g.step = none ∧ a.step ≠ none then s.setTenant a.n { t with
      tags := t.tags.map fun h => if h.microBatch = a.microBatch then { h with step := a.step } else h } else s)
  | none =>
    if t.tags.length < s.reg (Obj.tagQuota a.n) ∧ s.liveTags < 16384 then
      let v := s.curVersion a.n
      some (v, s.setTenant a.n { t with tags := t.tags ++ [{ microBatch := a.microBatch, step := a.step, version := v }] })
    else none

/-- A read resolves (R271, R272, R276, R603). -/
def State.resolveRead (s : State) (a : Asker) (off vtag : Nat) (flagV : Bool) : VRes :=
  match s.anyEntry a.n off with
  | none => .ok .plain s
  | some (_, e) =>
    if s.feedWaits a off then .wait .feed s
    else if !e.versioned then .ok .plain s
    else if !flagV then .fault
    else
      match s.tagFor a with
      | none => .wait (.tag false) (s.count 32 (Obj.tagWaitCount a.n))
      | some (tagged, s1) =>
        let sel : VSel := if vtag = 0xFFFE then .pending else .num (if vtag = 0xFFFF then tagged else vtag)
        if (s1.findEntry a.n off sel).isSome then .ok sel s1 else .fault

/-- The step a write to a pending version belongs to is open (R272, R273, R569): the asker's step is the oldest
uncommitted step and open; work without a step needs that step open. -/
def State.pendingAllowed (s : State) (a : Asker) : Bool :=
  ((s.tenant a.n).step? (s.oldestStep a.n)).isSome

/-- A write resolves (R272, R273, R274, R569). -/
def State.resolveWrite (s : State) (a : Asker) (off vtag : Nat) (flagV : Bool) : VRes :=
  match s.anyEntry a.n off with
  | none => .ok .plain s
  | some (_, e) =>
    if !e.versioned then .ok .plain s
    else if !flagV then .fault
    else if !(vtag == 0xFFFE || vtag == nextVersion (s.curVersion a.n)) then .fault
    else if (match a.step with | some k => k == s.oldestStep a.n + 1 | none => false) then
      .wait .turn s
    else if !s.pendingAllowed a then .fault
    else if (s.findEntry a.n off .pending).isSome then .ok .pending s
    else
      match s.openPending a.n e.base with
      | some s1 => .ok .pending s1
      | none => .wait (.version e.homeAlloc) (s.count 32 (Obj.versionWaitCount a.n))

/-- The version tag an optimiser asks for (R272): it reads a versioned operand at the current version and writes it at the pending
one, but for an explicit number that names neither. -/
def State.optimTag (s : State) (n vtag : Nat) (write : Bool) : Nat :=
  let cur := s.curVersion n
  if vtag < 0xFFFE ∧ vtag ≠ cur ∧ vtag ≠ nextVersion cur then vtag else if write then 0xFFFE else cur

/-- Retained buffers that no live tag names become free (R270). -/
def State.freeRetained (s : State) (n : Nat) : State :=
  let t := s.tenant n
  s.mapEntries fun e =>
    if e.tenant = n ∧ e.versioned ∧ e.bufState = .retained ∧ !t.tagsName e.versions then
      { e with bufState := .free, versions := [] }
    else e

/-- What waits for room for a tag sees that a tag of its tenant has been released (R276). -/
def WaitFor.afterRelease : WaitFor → WaitFor
  | .tag _ => .tag true
  | w => w

/-- The contexts and thread groups of a tenant that wait for a tag see a release (R276). -/
def State.tagReleased (s : State) (n : Nat) : State :=
  let mine : Nat → Bool := fun c => bit (s.reg (Obj.coreSet n)) c
  { s with
    ctxs := s.ctxs.map fun p => if mine (p.1 / 4) then (p.1, { p.2 with waits := p.2.waits.afterRelease }) else p
    cores := s.cores.map fun p =>
      if mine p.1 then (p.1, { p.2 with
        kernels := p.2.kernels.map fun k => { k with held := k.held.map fun h => (h.1, h.2.afterRelease) } }) else p }

/-- Release the tags that satisfy a test (R275, R277). -/
def State.releaseTags (s : State) (n : Nat) (p : Tag → Bool) : State :=
  let t := s.tenant n
  let s1 := if t.tags.any p then s.tagReleased n else s
  (s1.setTenant n { t with tags := t.tags.filter fun g => !p g }).freeRetained n

/-- The versions advance at a step's commit (R269, R270). -/
def State.commitVersions (s : State) (n : Nat) : State :=
  let t := s.tenant n
  let new := nextVersion (s.curVersion n)
  let written : Nat → Bool := fun base => s.entries.any fun p => p.2.sameTensor n base && p.2.bufState == .pending
  let s1 := s.mapEntries fun e =>
    if e.tenant ≠ n ∨ !e.versioned then e
    else
      match e.bufState with
      | .pending => { e with bufState := .current, versions := [new] }
      | .current =>
        if written e.base then
          if t.tagsName e.versions then { e with bufState := .retained } else { e with bufState := .free, versions := [] }
        else { e with versions := e.versions ++ [new] }
      | _ => e
  ((s1.freeRetained n).setReg (Obj.currentVersion n) new)

/-- Pending buffers are freed and their contents discarded at an abort (R270). -/
def State.abortVersions (s : State) (n : Nat) : State :=
  s.mapEntries fun e =>
    if e.tenant = n ∧ e.versioned ∧ e.bufState = .pending then { e with bufState := .free, versions := [] } else e

end Sys2Proof.Machine
end

