-- ==== Sys2Proof/Machine/Operands.lean ====
section
/-!
DEFINITION. Operands: the tensor descriptor (R218 to R220), the slots of a context (R371), the bytes and elements a
descriptor reaches (R89 to R94), scaled values (R91, R92, R116, R117), and a context's faults (R83, R144, R350, R394).
-/

namespace Sys2Proof.Machine

/-- A tensor descriptor (R218). -/
structure Desc where
  address : Nat
  e0 : Nat
  e1 : Nat
  e2 : Nat
  e3 : Nat
  s1 : Int
  s2 : Int
  s3 : Int
  scalePtr : Nat
  tensorId : Nat
  vtag : Nat
  slot : Nat
  fmt : Nat
  block : Nat
  j : Bool
  g : Bool
  v : Bool
  deriving DecidableEq, Repr

/-- The field of a record at a byte, of some bytes. -/
def field (bs : List Byte) (at_ len : Nat) : Nat := fromBytes ((bs.drop at_).take len)

/-- Read the 64 bytes of a descriptor (R218). -/
def Desc.ofBytes (bs : List Byte) : Desc :=
  { address := field bs 0x00 8, e0 := field bs 0x08 4, e1 := field bs 0x0C 4, e2 := field bs 0x10 4, e3 := field bs 0x14 4,
    s1 := signedOf 48 (field bs 0x18 6), s2 := signedOf 48 (field bs 0x1E 6), s3 := signedOf 48 (field bs 0x24 6),
    scalePtr := field bs 0x2A 8, tensorId := field bs 0x32 4, vtag := field bs 0x36 2, slot := field bs 0x38 2,
    fmt := bits (field bs 0x3A 1) 0 5, block := bits (field bs 0x3A 1) 5 2, j := bit (field bs 0x3B 1) 0,
    g := bit (field bs 0x3B 1) 1, v := bit (field bs 0x3B 1) 2 }

/-- Elements of a descriptor. -/
def Desc.count (d : Desc) : Nat := d.e0 * d.e1 * d.e2 * d.e3

/-- Runs of dimension 0 (R94). -/
def Desc.runs (d : Desc) : Nat := d.e1 * d.e2 * d.e3

/-- The offset in its tensor space of a global address (R17). -/
def offOf (a : Nat) : Nat := a % 2 ^ 50

/-- The chip number of a global address (R17). -/
def chipOf (a : Nat) : Nat := a / 2 ^ 50

/-- Where run r begins, dimension 1 fastest (R94): the strides are signed, so it may lie below the tensor space. -/
def Desc.runAt (d : Desc) (r : Nat) : Int :=
  let i1 := r % d.e1
  let i2 := r / d.e1 % d.e2
  let i3 := r / d.e1 / d.e2
  (offOf d.address : Int) + i1 * d.s1 + i2 * d.s2 + i3 * d.s3

/-- The offset of run r of a descriptor that stays in its tensor space (R94, R219). -/
def Desc.runOff (d : Desc) (r : Nat) : Nat := (d.runAt r).toNat

/-- The first run that begins below the tensor space (R219). -/
def Desc.sinks (d : Desc) : Option Nat := if d.e0 = 0 then none else (List.range d.runs).find? fun r => decide (d.runAt r < 0)

/-- Bytes of one run (R89). -/
def Desc.runBytes (d : Desc) : Nat := ceilDiv (d.e0 * fmtWidth d.fmt) 8

/-- The offsets a descriptor reaches, run after run. -/
def Desc.offsets (d : Desc) : List Nat :=
  if d.e0 = 0 then []
  else (List.range d.runs).flatMap fun r => (List.range d.runBytes).map fun i => d.runOff r + i

/-- The lowest and highest byte reached (R155); none for an empty tensor. -/
def Desc.span (d : Desc) : Option (Nat × Nat) :=
  match d.offsets with
  | [] => none
  | o :: os => some (os.foldl min o, os.foldl max o)

/-- Bounding ranges of two descriptors intersect. -/
def Desc.meets (a b : Desc) : Bool :=
  match a.span, b.span with
  | some x, some y => overlaps x.1 x.2 y.1 y.2
  | _, _ => false

/-- The bits of element i of a run whose first byte is at off (R89). -/
def State.rawElem (s : State) (n : Nat) (v : VSel) (d : Desc) (r i : Nat) : Nat :=
  let w := fmtWidth d.fmt
  let lo := i * w
  let b0 := d.runOff r + lo / 8
  bits (fromBytes (s.peekBytes n b0 v (ceilDiv (lo % 8 + w) 8))) (lo % 8) w

/-- The raw elements of a tensor, run after run. -/
def State.rawElems (s : State) (n : Nat) (v : VSel) (d : Desc) : List Nat :=
  (List.range d.runs).flatMap fun r => (List.range d.e0).map fun i => s.rawElem n v d r i

/-- The block size of R91. -/
def blockSize (code : Nat) : Nat := 8 * 2 ^ code

/-- Blocks in a run (R94). -/
def Desc.blocksPerRun (d : Desc) (size : Nat) : Nat := ceilDiv d.e0 size

/-- The scale byte of element i of run r: a block's, or the tensor's stored scale (R91, R94, R95). -/
def State.scaleByte (s : State) (n : Nat) (d : Desc) (r i : Nat) : Nat :=
  let p := offOf d.scalePtr
  if d.block = 0 then (s.peek n (p + 4) .plain).toNat
  else (s.peek n (p + 128 + r * d.blocksPerRun (blockSize d.block) + i / blockSize d.block) .plain).toNat

/-- The exponent byte of an FX chunk (R119). A scale pointer of 0 is a scale pointer like another here: its array begins at offset 128 of the
tensor space (log entry 141). -/
def State.chunkByte (s : State) (n : Nat) (d : Desc) (r i : Nat) : Nat :=
  (s.peek n (offOf d.scalePtr + 128 + r * d.blocksPerRun 256 + i / 256) .plain).toNat

/-- The bits of the FX saturation marker (R118). -/
def fxMarker (fmt : Nat) : Nat := if fmt = fmtFX24 then 0x800000 else 0x80000000

/-- The chunk of an FX element holds a saturation marker (R118, R120). -/
def State.chunkMarked (s : State) (n : Nat) (v : VSel) (d : Desc) (r i : Nat) : Bool :=
  let b := i / 256 * 256
  (List.range (min 256 (d.e0 - b))).any fun k => s.rawElem n v d r (b + k) == fxMarker d.fmt

/-- An element's exact scaled value (R91, R92, R117, R120). -/
def State.elemValue (s : State) (n : Nat) (v : VSel) (d : Desc) (r i : Nat) : Num :=
  let w := s.rawElem n v d r i
  if d.fmt = fmtS8 then (if w = 0xFF then .nan else (Num.ofInt 1).scale ((w : Int) - 127))
  else if isFx d.fmt then
    let x := s.chunkByte n d r i
    let f : Int := if d.fmt = fmtFX24 then 22 else 30
    if x = 0xFF ∨ s.chunkMarked n v d r i then .nan
    else (Num.ofInt (signedOf (fmtWidth d.fmt) w)).scale ((x : Int) - 127 - f)
  else if isNarrow d.fmt && d.scalePtr != 0 then
    let sb := s.scaleByte n d r i
    if sb = 0xFF then .nan else (decodeElem d.fmt w).scale ((sb : Int) - 127)
  else decodeElem d.fmt w

/-- A value as an F32 word when it is read into a wide format (R116): the nearest on F32's grid, below 2^-149 the zero of
its sign. Answers the word and whether it counts in scaled_range_count. -/
def readF32 (x : Num) : Nat × Bool :=
  match x with
  | .fin s m e =>
    if m = 0 then (toF32 x, false)
    else if e + Nat.log2 m < -149 then (f32.signed s 0, true)
    else
      let w := toF32 x
      (w, !((ofF32 w).eq x))
  | _ => (toF32 x, false)

/-- An element of a format as an F32 word: a narrow or wide element is read (R116), and one of FX is converted out of it to nearest, which
counts nothing (R100, R102, R120). -/
def readAs (fmt : Nat) (x : Num) : Nat × Bool :=
  if isFx fmt then (let w := toF32 x; (if w = 0x80000000 then 0 else w, false)) else readF32 x

/-- Every element as an F32 word. -/
def State.readF32s (s : State) (n : Nat) (v : VSel) (d : Desc) : List (Nat × Bool) :=
  (List.range d.runs).flatMap fun r => (List.range d.e0).map fun i => readAs d.fmt (s.elemValue n v d r i)

/-! Slots -/

/-- The work on a context. -/
def State.ctxWork (s : State) (c x : Nat) : Option (Nat × Work) :=
  match (s.ctx c x).work with
  | none => none
  | some w => (s.work? w).map fun v => (w, v)

/-- The loaded image of an id. -/
def State.imageOf (s : State) (n id : Nat) : Option (Nat × Image) :=
  (s.tenant n).images.find? fun p => p.2.state == 1 && p.2.imageId == id

/-- The base of image slot i's entry in the tensor space (R367). -/
def imageBase (i : Nat) : Nat := 0x3FFFFC0000000 + (i - 1) * 0x4000000

/-- The descriptor of a slot for the work on a context (R371): the last binding that names it, or the table's. -/
def State.descOf (s : State) (k : Work) (slot : Nat) : Desc :=
  match k.bindings.reverse.find? fun b => b.1 = slot with
  | some b => Desc.ofBytes b.2
  | none =>
    match s.imageOf k.tenant k.imageId with
    | none => Desc.ofBytes []
    | some (i, im) =>
      let table := match im.entries[k.entryIndex]? with
        | some e => e.2.1
        | none => 0
      Desc.ofBytes (s.peekBytes k.tenant (imageBase i + im.tableOffset + table * 0x40000 + slot * 64) .plain 64)

/-- Who a context's work asks as (R271, R272): every work item carries a micro-batch number (log entry 10). -/
def Work.asker (k : Work) : Asker := { n := k.tenant, microBatch := k.microBatch, step := if k.ns then none else some k.step }

/-- The step a work item's conversions and reports belong to. -/
def Work.stepOf (k : Work) : Option Nat := if k.ns then none else some k.step

/-- What an operand breaks. -/
inductive OpFault where
  | descriptor
  | address
  | version
  | poison
  | numeric
  | stack
  deriving DecidableEq, Repr

/-- The cause code of a fault (R624). -/
def OpFault.cause : OpFault → Nat
  | .descriptor => 5
  | .address => 4
  | .version => 7
  | .poison => 3
  | .numeric => 8
  | .stack => 9

/-- What a descriptor itself breaks (R83, R90, R91, R219). -/
def State.descFault (s : State) (n : Nat) (d : Desc) : Bool :=
  decide (0x0E < d.fmt) ||
  (decide (fmtWidth d.fmt = 4) && d.e0 % 2 == 1) || (decide (fmtWidth d.fmt = 6) && d.e0 % 4 != 0) ||
  (isNarrow d.fmt && d.block != 0 && d.scalePtr == 0) ||
  (isFx d.fmt && d.block != 0) ||
  decide (2 ^ 24 < d.e0) || decide (2 ^ 24 < d.e1) || decide (2 ^ 24 < d.e2) || decide (2 ^ 24 < d.e3) ||
  (d.j && !(decide (s.reg (Obj.slotFirst n) ≤ d.slot) &&
    decide (d.slot < s.reg (Obj.slotFirst n) + s.reg (Obj.slotCount n))))

/-- The chip number is not this package's, or some element reached lies below the tensor space or is covered by no entry the tenant may
use (R219, R314, R319). -/
def State.addrFault (s : State) (n : Nat) (d : Desc) (write : Bool) : Bool :=
  decide (chipOf d.address ≠ s.chip) || d.sinks.isSome ||
  d.offsets.any fun o =>
    match s.anyEntry n o with
    | none => true
    | some (_, e) => write && (e.tenant != n || e.image || s.sealedAt n o)

/-- A source is scaled by its tensor's record or its blocks (R91). -/
def Desc.scaled (d : Desc) : Bool := isNarrow d.fmt && d.scalePtr != 0

/-- The places of a tensor's scale array (R94, R119): the block scales, or the chunk exponents. -/
def Desc.scaleOffs (d : Desc) : List Nat :=
  let fx := isFx d.fmt
  if (d.scaled && d.block != 0) || (fx && d.scalePtr != 0) then
    (List.range (d.runs * d.blocksPerRun (if fx then 256 else blockSize d.block))).map fun i => offOf d.scalePtr + 128 + i
  else []

/-- The lowest and highest byte of a scale record and its scale array (R94, R95, R119). -/
def Desc.scaleSpan (d : Desc) : Option (Nat × Nat) :=
  if d.scalePtr = 0 then none else some (offOf d.scalePtr, offOf d.scalePtr + 127 + d.scaleOffs.length)

/-- The places of the scale bytes that a read of the whole tensor uses (R91, R94, R106). -/
def Desc.scaleReads (d : Desc) : List Nat :=
  if d.count = 0 then [] else if d.scaled && d.block == 0 then [offOf d.scalePtr + 4] else d.scaleOffs

/-- The place of the scale byte of element i of run r, if it has one. -/
def Desc.elemScale (d : Desc) (r i : Nat) : List Nat :=
  if d.scaleReads.isEmpty then []
  else if d.scaled && d.block == 0 then [offOf d.scalePtr + 4]
  else
    let size := if d.scaled then blockSize d.block else 256
    [offOf d.scalePtr + 128 + r * d.blocksPerRun size + i / size]

/-- The scale bytes that an access uses: a conversion into the tensor uses the header of its record too (R95, R96). -/
def Desc.scaleUses (d : Desc) (write : Bool) : List Nat :=
  (if write then [offOf d.scalePtr, offOf d.scalePtr + 64] else []) ++ d.scaleReads

/-- A scale pointer that reaches a versioned entry is a version fault, whatever the format; scale bytes that the access uses and no
entry of the tenant holds are an address fault (R91, R95, R219, R273, R585). -/
def State.scaleFault (s : State) (n : Nat) (d : Desc) (write : Bool) : Option OpFault :=
  let versioned : Nat → Bool := fun o => match s.anyEntry n o with | some (_, e) => e.versioned | none => false
  let absent : Nat → Bool := fun o =>
    match s.anyEntry n o with
    | none => true
    | some (_, e) => write && (e.tenant != n || e.image || s.sealedAt n o)
  let uses := d.scaleUses write
  if d.scalePtr = 0 then none
  else if chipOf d.scalePtr ≠ s.chip then (if uses.isEmpty then none else some .address)
  else if versioned (offOf d.scalePtr) || uses.any versioned then some .version
  else if uses.any absent then some .address
  else none

/-- The global address of the first access a descriptor makes beyond what the tenant may reach (R219, R622). -/
def State.addrFaultAt (s : State) (n : Nat) (d : Desc) (write : Bool) : Nat :=
  if chipOf d.address ≠ s.chip then d.address
  else
    match d.offsets.find? fun o =>
      match s.anyEntry n o with
      | none => true
      | some (_, e) => write && (e.tenant != n || e.image || s.sealedAt n o) with
    | some o => s.globalAddr o
    | none => match d.sinks with
      | some r => (((s.chip * 2 ^ 50 : Nat) + d.runAt r) % 2 ^ 64).toNat
      | none => d.address

/-- What preparing an operand answers; a fault with the address of the access involved, if any (R622), and the state it leaves: the
errors a read has met stay met (R350). -/
inductive Prep where
  | ready (d : Desc) (v : VSel) (s : State)
  | fault (f : OpFault) (addr : Nat) (s : State)
  | wait (w : WaitFor) (s : State)

/-- Where a descriptor's version resolves: its first byte in a versioned tensor, if it reaches one (R272). -/
def State.versionOff (s : State) (n : Nat) (d : Desc) : Nat :=
  match d.offsets.find? fun o => match s.anyEntry n o with | some (_, e) => e.versioned | none => false with
  | some o => o
  | none => offOf d.address

/-- What an access of a tensor meets before its version: a scale pointer or an element outside what the tenant may use (R91, R219), with
the address of the access (R622). -/
def State.reachFault (s : State) (n : Nat) (d : Desc) (write : Bool) : Option (OpFault × Nat) :=
  match s.scaleFault n d write with
  | some f => some (f, d.scalePtr)
  | none => if s.addrFault n d write then some (.address, s.addrFaultAt n d write) else none

/-- Resolve the version a descriptor names (R272): a tensor without elements reaches none. `tag` is the version tag asked for. -/
def State.resolveAt (s : State) (a : Asker) (d : Desc) (tag : Nat) (write : Bool) : Prep :=
  if d.count = 0 then .ready d .plain s
  else
    let off := s.versionOff a.n d
    match (if write then s.resolveWrite a off tag d.v else s.resolveRead a off tag d.v) with
    | .fault => .fault .version d.address s
    | .wait w t => .wait w t
    | .ok v t => if d.offsets.any fun o => (t.findEntry a.n o v).isNone then .fault .version d.address s else .ready d v t

/-- The errors and poison met by a read of some offsets, or by a write's reading of its scale record (R96, R350, R633). -/
def State.meetAt (s : State) (n : Nat) (d : Desc) (v : VSel) (write : Bool) (master : Nat) (offs : List Nat) : Prep :=
  let met := if !write then offs else if d.count = 0 ∨ d.scalePtr = 0 then [] else [offOf d.scalePtr, offOf d.scalePtr + 64]
  let t := s.meetInjections n met v master 0
  if t.anyBad n met v then .fault .poison (t.badAddr n met v) t else .ready d v t

/-- Prepare a descriptor for reading or writing (R219, R272): checks, version, and the errors and poison met. -/
def State.prepAt (s : State) (a : Asker) (d : Desc) (tag : Nat) (write : Bool) (master : Nat) (offs : List Nat) : Prep :=
  if s.descFault a.n d then .fault .descriptor 0 s
  else
    match s.reachFault a.n d write with
    | some (f, x) => .fault f x s
    | none =>
      match s.resolveAt a d tag write with
      | .ready _ v t => t.meetAt a.n d v write master offs
      | p => p

/-! Faults of a context -/

/-- A context that issues nothing more ends its kernels: they start no further thread instruction, and their tokens are free
again (R388, log entry 26). -/
def State.endKernels (s : State) (c x : Nat) : State :=
  let core := s.core c
  let mine := core.kernels.filter fun k => k.ctx == x
  if mine.isEmpty then s
  else
    let y := s.ctx c x
    (s.setCore c { core with kernels := core.kernels.filter fun k => k.ctx != x }).setCtx c x { y with
      tokens := mine.foldl (fun m k => Sparse.set .free k.token .free m) y.tokens }

/-- A context is in the faulted state (R189, R394): the first fault is kept, nothing more is issued, its kernels end (log entry 26). -/
def State.stopFaulted (s : State) (c x unit access : Nat) : State :=
  let s0 := s.endKernels c x
  let y := s0.ctx c x
  s0.setCtx c x { y with
    state := 4, waits := .nothing,
    firstFault := match y.firstFault with | none => some (unit, access) | some f => some f }

/-- The context is faulted (R83, R144, R394): reported as uncorrected-contained against the block, the step vetoed, the
first fault kept, nothing more issued, its kernels ended (log entry 26). -/
def State.faultCtx (s : State) (c x unit cause access addr part : Nat) : State :=
  let w := match s.ctxWork c x with
    | some (_, k) => some (k.tenant, x, if k.ns then 0 else k.step)
    | none => none
  let s1 := s.stopFaulted c x unit access
  let s2 := if cause = 7 then
      match w with
      | some (n, _, _) => s1.count 32 (Obj.versionFaultCount n)
      | none => s1
    else s1
  s2.report { cls := 2, cause := cause, reporter := unit, master := unit, access := access, partition := part,
              address := addr, work := w, injected := cause == 3 && s.poisonInjected addr }

/-- A context begins to wait. -/
def State.waitCtx (s : State) (c x : Nat) (w : WaitFor) : State :=
  s.setCtx c x { s.ctx c x with state := 3, waits := w }

/-- The next word. -/
def State.advance (s : State) (c x : Nat) : State :=
  let y := s.ctx c x
  s.setCtx c x { y with ip := y.ip + 16 }

/-- Another context of the core is ready or running (R190, R192). -/
def State.otherReady (s : State) (c x : Nat) : Bool :=
  (List.range 4).any fun i => i != x && ((s.ctx c i).state == 1 || (s.ctx c i).state == 2)

/-- The context waits only on a promotion, and no other context of its core is ready: its instruction proceeds (R192). -/
def State.lateReady (s : State) (c x : Nat) : Bool :=
  match (s.ctx c x).waits with
  | .promotion _ => (s.ctx c x).state == 3 && !s.otherReady c x
  | _ => false

/-- A write waits for a buffer of a pending version (R274). -/
def WaitFor.isVersion : WaitFor → Bool
  | .version _ => true
  | _ => false

/-- The context, or a thread group of its kernels, has a write that waits for a buffer (R274, R278). -/
def State.awaitsVersion (s : State) (c x : Nat) : Bool :=
  (s.ctx c x).waits.isVersion || (s.core c).kernels.any fun k => k.ctx == x && k.held.any fun h => h.2.isVersion

/-- May a context issue (R64, R189, R192, R388, R618)? -/
def State.mayIssue (s : State) (c x : Nat) : Bool :=
  let y := s.ctx c x
  decide (c < 512) && s.coreEnabled c && decide (x < 4) && s.isUp && s.reg Obj.supplyState != 1 &&
  !(s.core c).outOfService && (y.state == 1 || y.state == 2 || s.lateReady c x) && y.stopping.isNone && (s.ctxWork c x).isSome

/-- Other contexts of the core that had yielded are ready again when this one issues (R374). -/
def State.wakeYielded (s : State) (c x : Nat) : State :=
  (List.range 4).foldl (fun t i =>
    let y := t.ctx c i
    if i ≠ x ∧ y.state = 3 ∧ y.waits = .yielded then t.setCtx c i { y with state := 1, waits := .nothing } else t) s

/-- A whole word of the code lies at the instruction pointer (R369, R375): a fetch beyond code_bytes, or at an offset
that is no multiple of 16, is an instruction fault. -/
def State.fetchOk (s : State) (k : Work) (ip : Nat) : Bool :=
  match s.imageOf k.tenant k.imageId with
  | some (_, im) => decide (ip % 16 = 0) && decide (ip + 16 ≤ im.codeBytes)
  | none => false

/-- Issue an instruction of a context's stream: where the context may issue, a fetch beyond the code faults it (R369),
and otherwise the context runs, its pointer moves to the next word and the instruction has its effect. Where it may not
issue, the event does not occur (log entry 11). -/
def State.issue (s : State) (c x : Nat) (effect : Work → State → State) : State :=
  if s.mayIssue c x then
    match s.ctxWork c x with
    | none => s
    | some (_, k) =>
      let s0 := s.wakeYielded c x
      if s0.fetchOk k (s0.ctx c x).ip then
        let y := s0.ctx c x
        effect k (s0.setCtx c x { y with state := 2, waits := .nothing, ip := y.ip + 16 })
      else s0.faultCtx c x (engineId c 5) 6 3 0 0
  else s

/-- The instruction does not complete now and is issued again: its pointer stays, and the context waits (log entry 12). -/
def State.holdBack (s : State) (c x : Nat) (w : WaitFor) : State :=
  let y := s.ctx c x
  s.setCtx c x { y with state := 3, waits := w, ip := y.ip - 16 }

/-- An instruction that waits on a lock or a move does not issue yet: nothing changes but the pointer, which stays (R155,
R326, log entry 12). -/
def State.notYet (s : State) (c x : Nat) : State :=
  let y := s.ctx c x
  s.setCtx c x { y with state := 1, ip := y.ip - 16 }

/-- Scalar registers: s0 reads as zero and ignores writes (R373). -/
def Ctx.sreg (y : Ctx) (i : Nat) : Nat := if i = 0 then 0 else Sparse.get 0 i y.sregs

/-- Write a scalar register (R373). -/
def Ctx.setSreg (y : Ctx) (i v : Nat) : Ctx :=
  if i = 0 then y else { y with sregs := Sparse.set 0 i (v % 2 ^ 64) y.sregs }

/-- A token (R376); token 0 is none. -/
def Ctx.token (y : Ctx) (t : Nat) : Token := Sparse.get .free t y.tokens

/-- Change a token (R376). -/
def Ctx.setToken (y : Ctx) (t : Nat) (v : Token) : Ctx := if t = 0 then y else { y with tokens := Sparse.set .free t v y.tokens }

/-- A token is done (R376): a context that waits for it takes its status and frees it. -/
def State.finishToken (s : State) (c x t status : Nat) : State :=
  if t = 0 then s
  else
    let y := s.ctx c x
    match y.waits with
    | .token tk sd =>
      if tk = t ∧ y.state = 3 then
        s.setCtx c x { (y.setToken t .free).setSreg sd status with state := 1, waits := .nothing }
      else s.setCtx c x (y.setToken t (.done status))
    | _ => s.setCtx c x (y.setToken t (.done status))

end Sys2Proof.Machine
end

