-- ==== Sys2Proof/Machine/Route.lean ====
section
/-!
DEFINITION. Places in the fabric: racks, positions, the base drawing's lanes and their far packages (R452 to R460), and the
two paths of the base drawing (R477, R479).
-/

namespace Sys2Proof.Machine

/-- Rack and position of a chip number (R16). -/
def rackOf (chip : Nat) : Nat := chip / 64
def posOf (chip : Nat) : Nat := chip % 64

/-- The chip at a rack and position. -/
def chipAt (rack pos : Nat) : Nat := rack * 64 + pos % 64

/-- The rack bit that inter-rack port 12 + m carries at a position (R455). -/
def rackBitOf (pos m : Nat) : Nat := if pos % 2 = 0 then m else 4 + m

/-- The partner of inter-rack port 12 + m, none without one (R455, R457). -/
def State.partner (s : State) (m : Nat) : Option Nat :=
  let b := rackBitOf (posOf s.chip) m
  if b < s.reg Obj.rackBits then some (chipAt (rackOf s.chip ^^^ 2 ^ b) (posOf s.chip)) else none

/-- Does a chip number name a package of the fabric (R456)? -/
def State.inFabric (s : State) (chip : Nat) : Bool := decide (rackOf chip < 2 ^ s.reg Obj.rackBits)

/-- The fabric port of base lane i, in the order of R460. -/
def basePort (i : Nat) : Nat := if i < 6 then i else 6 + i

/-- The package base lane i sends to (R460); none where it has no partner (R457) or the chip number is not set (R458). -/
def State.baseTo (s : State) (i : Nat) : Option Nat :=
  if s.chip = 0xFFFF then none
  else if i < 6 then some (chipAt (rackOf s.chip) (posOf s.chip + 2 ^ i))
  else s.partner (i - 6)

/-- The package base lane i hears (R460). -/
def State.baseFrom (s : State) (i : Nat) : Option Nat :=
  if s.chip = 0xFFFF then none
  else if i < 6 then some (chipAt (rackOf s.chip) (posOf s.chip + 64 - 2 ^ i))
  else s.partner (i - 6)

/-- The base lanes in use (R457, R460, R588). -/
def State.baseLanes (s : State) : List Nat := (List.range 10).filter fun i => (s.baseTo i).isSome

/-- Flit classes in the order of R480. -/
def clsM : Nat := 0
def clsQ : Nat := 1
def clsP : Nat := 2
def clsF0 : Nat := 3
def clsF1 : Nat := 4
def clsC : Nat := 5

/-- A hop: the port it leaves by, its class, and the chip it leads to. -/
structure Hop where
  port : Nat
  cls : Nat
  dst : Nat
  deriving DecidableEq, Repr

/-- Where a path has come to: rack, position, hops, and whether path B has met its destination. -/
structure Walk where
  rack : Nat
  pos : Nat
  hops : List Hop := []
  met : Bool := false
  deriving DecidableEq, Repr

/-- One in-rack hop. -/
def Walk.inRack (w : Walk) (b cls : Nat) : Walk :=
  let p := (w.pos + 2 ^ b) % 64
  { w with pos := p, hops := w.hops ++ [⟨b, cls, chipAt w.rack p⟩] }

/-- The crossing of rack bit b, with the twist where the parity asks for it (R477). -/
def Walk.cross (w : Walk) (b : Nat) : Walk :=
  let want := if b < 4 then 0 else 1
  let v := if w.pos % 2 ≠ want then w.inRack 0 clsF0 else w
  let r := v.rack ^^^ 2 ^ b
  { v with rack := r, hops := v.hops ++ [⟨12 + b % 4, clsF0, chipAt r v.pos⟩] }

/-- The hops of path A or B (R477), before the final hop takes its class. -/
def routeHops (src dst : Nat) (alternate : Bool) : List Hop :=
  let w0 : Walk := { rack := rackOf src, pos := posOf src }
  let w1 := if alternate then w0.inRack 5 clsF0 else w0
  let goal := (posOf dst + (if alternate then 32 else 0)) % 64
  let d := rackOf src ^^^ rackOf dst
  let w2 := (List.range 8).foldl (fun w b => if bit d b then w.cross b else w) w1
  let e := (goal + 64 - w2.pos) % 64
  let w3 := (List.range 6).foldl (fun (w : Walk) b =>
    if w.met || !bit e b then w
    else
      let v := w.inRack b clsF1
      if alternate && v.pos == posOf dst then { v with met := true } else v) w2
  let w4 := if alternate && !w3.met && w3.pos != posOf dst then w3.inRack 5 clsF1 else w3
  w4.hops

/-- The bits set among the lowest w of a number. -/
def popCount (w n : Nat) : Nat := ((List.range w).filter fun i => bit n i).length

/-- The fewest hops of the base drawing from one package to another (R45, R46, R455, R460): the strides of the positions' distance
and the rack bits that differ, with two stride-1 hops where a rack bit needs positions of the parity that no stride reaches. -/
def fewestHops (src dst : Nat) : Nat :=
  let e := (posOf dst + 64 - posOf src) % 64
  let d := rackOf src ^^^ rackOf dst
  let other := if posOf src % 2 = 0 then d / 16 % 16 else d % 16
  popCount 8 d + (if e % 2 = 1 ∨ other = 0 then popCount 6 e else 2 + popCount 6 ((e + 62) % 64))

/-- The final hop carries class Q for a request, P otherwise (R477). -/
def finalClass (request : Bool) : List Hop → List Hop
  | [] => []
  | [h] => [{ h with cls := if request then clsQ else clsP }]
  | h :: hs => h :: finalClass request hs

/-- The hops of a path with their classes (R477). -/
def route (src dst : Nat) (alternate request : Bool) : List Hop := finalClass request (routeHops src dst alternate)

/-- Is a chip in the avoided list (R479)? -/
def State.avoids (s : State) (chip : Nat) : Bool := s.fabric.avoided.any fun a => a.1 == chip

/-- The rank of the buffer a hop takes, by whether it leaves an odd position (R486): along a path the ranks rise. -/
def bufferRank (odd : Bool) (h : Hop) : Nat :=
  if h.cls = clsF1 then 11 + h.port
  else if h.port = 5 then 0
  else if h.port = 0 then (if odd then 1 else 6)
  else (if odd then 7 else 2) + (h.port - 12)

/-- Does a path pass through an avoided chip, its ends apart (R479)? -/
def State.pathAvoided (s : State) (dst : Nat) (alternate : Bool) : Bool :=
  (routeHops s.chip dst alternate).any fun h => h.dst != dst && s.avoids h.dst

/-- Path B is taken when path A meets an avoided chip and path B does not (R479). -/
def State.takesB (s : State) (dst : Nat) : Bool := s.pathAvoided dst false && !s.pathAvoided dst true

end Sys2Proof.Machine
end

