-- ==== Sys2Proof/Machine/OpticalOps.lean ====
section
/-!
DEFINITION. Lanes and lasers: who carries a lane, the states of ports, what happens when a lane leaves service (R433, R435,
R472), swaps (R431), and bring-up (R442).
-/

namespace Sys2Proof.Machine

/-- Lane states (R447). -/
def lnOff : Nat := 0
def lnUp : Nat := 1
def lnService : Nat := 2
def lnWatched : Nat := 3
def lnSwapping : Nat := 4
def lnRelock : Nat := 5
def lnWax : Nat := 6
def lnRetired : Nat := 7
def lnQuarantine : Nat := 8
def lnSpareIdle : Nat := 9
def lnSpareReady : Nat := 10
def lnSpareIn : Nat := 11

/-- The index of the spare LS among a port's lasers (R451). -/
def spare : Nat := 8

/-- The frequency of a grid channel, in GHz (R405). -/
def channelGHz (channel : Nat) : Nat := 190100 + 100 * channel

/-- The pilot tones by number, and the number a channel's laser dithers by (R421): 10, 30, 50 and 70 kHz. -/
def toneKHz (tone : Nat) : Nat := 10 + 20 * tone
def toneOf (channel : Nat) : Nat := channel % 4

/-- The identity word that keys a laser's tone (R421): physical port and laser, then the low bits of the chip number. -/
def identityWord (port laser chip : Nat) : Nat := (9 * port + laser) * 2 ^ 8 + chip % 2 ^ 8

/-- The marker bits of a lane frame (R414, R415). -/
def mkSwap : Nat := 1
def mkRetune : Nat := 2
def mkRelock : Nat := 4
def mkModulation : Nat := 8

/-- A laser's state. -/
def State.lane (s : State) (port laser : Nat) : Nat := s.reg (Obj.laneState port laser)

/-- Set a laser's state. -/
def State.setLane (s : State) (port laser v : Nat) : State := s.setReg (Obj.laneState port laser) v

/-- A laser in one of the states in service (R447). -/
def inService (st : Nat) : Bool := st == lnService || st == lnWatched || st == lnSwapping || st == lnSpareIn

/-- The role and the lane of LS (R450). -/
def State.role (s : State) (port : Nat) : Nat := s.reg (Obj.spareRole port) / 16
def State.roleLane (s : State) (port : Nat) : Nat := s.reg (Obj.spareRole port) % 16

/-- Set them. -/
def State.setRole (s : State) (port role lane : Nat) : State := s.setReg (Obj.spareRole port) (role * 16 + lane)

/-- The laser that carries a logical lane (R406): its own, or LS standing in for it, for good or during its calibration. -/
def State.carrier (s : State) (port lane : Nat) : Nat :=
  if (s.role port = 3 ∨ s.role port = 4) ∧ s.roleLane port = lane ∧ s.lane port spare = lnSpareIn then spare else lane

/-- A logical lane in service. -/
def State.laneUp (s : State) (port lane : Nat) : Bool := inService (s.lane port (s.carrier port lane))

/-- A laser's identifier (R29). -/
def laserId (port laser : Nat) : Nat := unitId (8 + port / 4) (port % 4) laser

/-- The identifier of a port's receive path (R29). -/
def rxPathId (port : Nat) : Nat := unitId (8 + port / 4) (port % 4) 10

/-- A laser's launch power is measured with a simulated fade (R633). -/
def State.faded (s : State) (port laser : Nat) : Bool := s.reg (Obj.laneFadeSim port laser) != 0

/-- A lane event (R448): a corrected fault of cause 14 against the laser, marked as injected under a simulated fade (R635, log entry
154). -/
def State.laneEvent (s : State) (port laser : Nat) : State :=
  s.report { blockReport 1 14 (laserId port laser) with injected := s.faded port laser }

/-- The port's state and rate follow its lanes (R450): a port whose lasers are off reads 0; a port that loses its last lane is an uncorrected-contained fault against
its receive path (R448). -/
def State.settlePort (s : State) (port : Nat) : State :=
  let up := (List.range 8).filter fun l => s.laneUp port l
  let rate := (up.map fun l => if s.reg (Obj.laneModulation port (s.carrier port l)) = 1 then 1 else 2).sum
  let was := s.reg (Obj.portState port)
  let any := fun (st : Nat) => (List.range 8).any fun l => s.lane port l == st
  let dark : Bool := (List.range 8).all fun l => s.lane port l == lnOff
  let now := if !up.isEmpty then 2 else if dark then 0 else if was = 2 ∨ was = 4 then 4 else if any lnQuarantine then 3 else if any lnUp then 1 else 0
  let s1 := (s.setReg (Obj.portRate16ths port) rate).setReg (Obj.portState port) now
  if now = 4 ∧ was = 2 then
    s1.report { blockReport 2 15 (rxPathId port) with injected := (List.range 9).any (s1.faded port) }
  else s1

/-! Piste events (R472) -/

/-- The lane's entry in the drawing in force. -/
def State.drawnLane (s : State) (port lane : Nat) : Option LaneEntry :=
  match s.fabric.inForce with
  | some d => d.lanes.find? fun e => e.port == port && e.lane == lane
  | none => none

/-- The 16 bytes of a piste event. -/
def State.pisteBytes (s : State) (kind port lane step chip : Nat) : List Byte :=
  toBytes 1 kind ++ toBytes 1 (port + 16 * lane) ++
  toBytes 1 (match s.fabric.inForce with | some d => d.drawingId | none => 0) ++ toBytes 1 step ++ toBytes 2 chip ++ toBytes 2 0 ++
  toBytes 8 s.up

/-- Raise a piste event. -/
def State.pisteEvent (s : State) (kind port lane step chip : Nat) : State :=
  (s.count 32 Obj.pisteEventCount).raise Obj.lastPisteEvent (s.pisteBytes kind port lane step chip)

/-- A lane of the drawing is lost: its entry reads as lost, and event 1 is raised (R472). -/
def State.loseLane (s : State) (port lane : Nat) : State :=
  match s.drawnLane port lane with
  | none => s
  | some e =>
    if (s.port port).lostLanes.contains lane then s
    else
      (s.setPort port { s.port port with lostLanes := (s.port port).lostLanes ++ [lane] }).pisteEvent 1 port lane 0 e.txChip

/-- A lost lane of the drawing is in service again: event 4 (R472). -/
def State.regainLane (s : State) (port lane : Nat) : State :=
  if (s.port port).lostLanes.contains lane then
    (s.setPort port { s.port port with lostLanes := (s.port port).lostLanes.filter fun l => l != lane }).pisteEvent 4 port lane 0
      (match s.drawnLane port lane with | some e => e.txChip | none => 0)
  else s

/-! Base lanes -/

/-- The ports of the base drawing (R460). -/
def isBasePort (port : Nat) : Bool := decide (port < 6) || (decide (12 ≤ port) && decide (port < 16))

/-- The channel of a port's base lane (R460). -/
def baseChannel (port : Nat) : Nat := if port < 12 then 2 ^ port else 4

/-- Has the port a partner, or is it a rack port (R457)? With no chip number set, the base lanes of a port that has a partner at one of
the parities still come up, to quarantine (R458, log entry 126). -/
def State.portUsed (s : State) (port : Nat) : Bool :=
  decide (port < 12) || (if s.chip = 0xFFFF then decide (port - 12 < s.reg Obj.rackBits) else (s.partner (port - 12)).isSome)

/-- When the base lane's laser leaves service and LS cannot take it, the highest-numbered working lane takes the base lane, and
its piste loses it (R435). -/
def State.moveBase (s : State) (port : Nat) : State :=
  match ((List.range 8).reverse.find? fun l => l != (s.port port).baseLane && s.laneUp port l) with
  | none => s
  | some l =>
    let tx := match s.drawnLane port l with | some e => e.txChip | none => 0
    let s1 := s.setPort port { s.port port with
      baseLane := l, lostLanes := if (s.drawnLane port l).isSome then (s.port port).lostLanes ++ [l] else (s.port port).lostLanes }
    let s2 := ((s1.emit (.marker port l mkRetune)).setReg (Obj.laneChannel port (s1.carrier port l)) (baseChannel port)).count 32
      (Obj.retuneCount port (s1.carrier port l))
    s2.pisteEvent 2 port l 0 tx

/-! Leaving service -/

/-- LS can take a lane: idle or ready, and not held back (R430, R431). -/
def State.spareFree (s : State) (port : Nat) : Bool :=
  (s.lane port spare == lnSpareIdle || s.lane port spare == lnSpareReady) && !(s.port port).holdBack &&
  (s.port port).swapLane.isNone && (s.port port).takeover.isNone

/-- A lane has left service with nobody to take it (R433, R435, R472). -/
def State.laneGone (s : State) (port lane : Nat) : State :=
  let s1 := s.loseLane port lane
  if isBasePort port && (s1.port port).baseLane == lane then s1.moveBase port else s1

/-- LS returns to idle. -/
def State.freeSpare (s : State) (port : Nat) : State := (s.setLane port spare lnSpareIdle).setRole port 0 0

/-- A swap is completed: counted at the lane's laser (R451), and a lane event (R448). -/
def State.countSwap (s : State) (port laser : Nat) : State :=
  let v := s.reg (Obj.swapCount port laser)
  (s.setReg (Obj.swapCount port laser) (v / 2 ^ 24 * 2 ^ 24 + (v % 2 ^ 24 + 1) % 2 ^ 24)).laneEvent port laser

/-- A laser takes its lane back from LS by a swap (R431, R432, R437): LS's last block carries the marker, and LS is free. -/
def State.swapBack (s : State) (port laser : Nat) : State := ((s.emit (.marker port laser mkSwap)).countSwap port laser).freeSpare port

/-- A calibration is abandoned: its laser takes its lane back by a swap, and LS is free (R439). -/
def State.abandonWax (s : State) (port : Nat) : State :=
  match (s.port port).waxLaser with
  | none => s
  | some l =>
    if l = spare ∨ s.role port ≠ 4 then s
    else ((s.setPort port { s.port port with waxLaser := none }).setLane port l lnService).swapBack port l

/-- A dropped lane leaves service at once (R433), one lane event (log entry 150): LS takes it break-before-make where it is free; a failure of LS itself leaves
the lane it stands in for out of service. -/
def State.dropLane (s : State) (port laser : Nat) : State :=
  let s0 := s.abandonWax port
  let s1 := ((s0.setLane port laser lnRetired).count 32 (Obj.dropCount port laser)).laneEvent port laser
  if laser = spare then
    let s2 := s1.setRole port 5 0
    (if s0.role port = 3 then s2.laneGone port (s0.roleLane port) else s2).settlePort port
  else
    let s2 := if (s1.port port).swapLane = some laser then
        (s1.setPort port { s1.port port with
          swapLane := none,
          waxLaser := if (s1.port port).waxLaser = some laser then none else (s1.port port).waxLaser }).freeSpare port
      else s1
    if s2.spareFree port then
      ((s2.setPort port { s2.port port with takeover := some laser }).setRole port 2 laser).settlePort port
    else (s2.laneGone port laser).settlePort port

/-- A mislock (R423, R424): the lane leaves service and sweeps for a relock, after which its chain restarts (R414). -/
def State.mislock (s : State) (port laser : Nat) : State :=
  if !inService (s.lane port laser) then s
  else
    ((((s.emit (.marker port laser mkRelock)).setLane port laser lnRelock).setLaser port laser
      { s.laser port laser with relocks := 0 }).count 32 (Obj.mislockCount port laser)).laneEvent port laser |>.settlePort port

/-- A change of modulation (R434): a fallback is a lane event. -/
def State.fallBack (s : State) (port laser : Nat) : State :=
  if s.reg (Obj.laneModulation port laser) = 1 then s
  else ((s.setReg (Obj.laneModulation port laser) 1).laneEvent port laser).settlePort port

/-- A swap to LS begins (R431): the lane runs on. -/
def State.startSwap (s : State) (port lane : Nat) : State :=
  ((((s.setPort port { s.port port with swapLane := some lane }).setLane port lane lnSwapping).setRole port 2 lane).setReg
    (Obj.laneChannel port spare) (s.reg (Obj.laneChannel port lane)))

/-! Bring-up (R442) -/

/-- A laser begins to come up on a channel; the remap of its port takes force with it (R445). A laser retired until power-on
stays retired. -/
def State.bringUp (s : State) (port laser channel : Nat) : State :=
  if (s.laser port laser).lost then s
  else
    let s1 := s.setPort port { s.port port with remap := some (s.reg Obj.portRemap / 256 ^ port % 256) }
    let s2 := if port < 12 then s1 else s.setPort port { s.port port with remap := none }
    ((s2.setLaser port laser { s.laser port laser with trained := false, relocks := 0 }).setLane port laser lnUp).setReg
      (Obj.laneChannel port laser) channel |>.settlePort port

/-- A port's spare is ready to serve. -/
def State.wakeSpare (s : State) (port : Nat) : State :=
  if s.lane port spare = lnOff ∧ !(s.laser port spare).lost then s.setLane port spare lnSpareIdle else s

/-- The base lanes begin to come up (R442, R458, R460). -/
def State.bringUpBase (s : State) : State :=
  ((List.range 16).filter fun p => isBasePort p && s.portUsed p).foldl (fun t p =>
    (t.bringUp p 0 (baseChannel p)).wakeSpare p) s

/-- Every laser of a port goes off. -/
def State.darken (s : State) (port : Nat) : State :=
  (((List.range 9).foldl (fun t l => t.setLane port l lnOff) s).setRole port 0 0).settlePort port

/-- The inter-rack ports follow the chip number and the rack bits (R457): the lasers of a port without a partner stay off, the base
lane of a port that has one comes up. -/
def State.settleRacks (s : State) : State :=
  (List.range 4).foldl (fun t m =>
    let p := 12 + m
    if !t.portUsed p then (if (List.range 9).all (fun l => t.lane p l == lnOff) then t else t.darken p)
    else if t.lane p 0 = lnOff then (t.bringUp p 0 (baseChannel p)).wakeSpare p
    else t) s

/-- Lanes in quarantine try again when the drawing, the remap or the chip number changes (R446). -/
def State.retryQuarantine (s : State) : State :=
  (List.range 144).foldl (fun t i =>
    if t.lane (i / 9) (i % 9) = lnQuarantine then t.bringUp (i / 9) (i % 9) (t.reg (Obj.laneChannel (i / 9) (i % 9))) else t) s

/-- The logical port of a physical port (R445). -/
def State.logicalPort (s : State) (port : Nat) : Nat := (s.port port).remap.getD port

/-- The chip a logical lane is heard from and the channel, by the base drawing or the drawing in force. -/
def State.expects (s : State) (port lane : Nat) : Option Nat :=
  if isBasePort port && lane == (s.port port).baseLane then
    s.baseFrom (if port < 6 then port else port - 6)
  else (s.drawnLane port lane).map (·.rxChip)

end Sys2Proof.Machine
end

