-- ==== Sys2Proof/Machine/Frames.lean ====
section
/-!
DEFINITION. What crosses a lane, bit by bit: packet headers and the CRC-64 (R473, R474), lane frames (R415, R416, R476), the
scrambler, the component code and the blocks of the staircase code (R409 to R411, R414), and symbols (R408).
-/

namespace Sys2Proof.Machine

/-! Check sums -/

/-- The bits of bytes, from bit 0 of the first byte (R411). -/
def bitsOf (bs : List Byte) : List Bool := bs.flatMap fun b => (List.range 8).map fun i => b.toNat.testBit i

/-- The bytes that hold some bits, from bit 0 of the first byte. -/
def bytesOf (bs : List Bool) : List Byte :=
  (List.range (ceilDiv bs.length 8)).map fun i =>
    BitVec.ofNat 8 (((List.range 8).map fun k => b2n (bs.getD (8 * i + k) false) * 2 ^ k).sum)

/-- One byte of the CRC-64 (R474), the most significant bit first. -/
def crc64Byte (r : Nat) (b : Byte) : Nat :=
  (List.range 8).foldl (fun v _ =>
    let w := v * 2 % 2 ^ 64
    if 2 ^ 63 ≤ v then w ^^^ 0x42F0E1EBA9EA3693 else w) (r ^^^ (b.toNat * 2 ^ 56))

/-- The CRC-64 of R474: ECMA-182, all ones at first, the result inverted. -/
def crc64 (bs : List Byte) : Nat := (bs.foldl crc64Byte (2 ^ 64 - 1)) ^^^ (2 ^ 64 - 1)

/-- One byte of the CRC-32 of IEEE 802.3 (R415), the least significant bit first. -/
def crc32Byte (r : Nat) (b : Byte) : Nat :=
  (List.range 8).foldl (fun v _ => if v % 2 = 1 then (v / 2) ^^^ 0xEDB88320 else v / 2) (r ^^^ b.toNat)

/-- The CRC-32 of IEEE 802.3 (R415): all ones at first, the result inverted. -/
def crc32 (bs : List Byte) : Nat := (bs.foldl crc32Byte (2 ^ 32 - 1)) ^^^ (2 ^ 32 - 1)

/-! Packets (R473, R474) -/

/-- The 64 bytes of a packet's header with a value in its CRC field (R473). -/
def packetHeader (p : Packet) (crc : Nat) : List Byte :=
  toBytes 1 p.ptype ++ toBytes 1 p.flags ++ toBytes 2 p.dest ++ toBytes 2 p.source ++ toBytes 1 p.channel ++ toBytes 1 p.tenant ++
  toBytes 8 p.sequence ++ toBytes 4 p.epoch ++ toBytes 4 p.payload.length ++ toBytes 1 p.drawingId ++ toBytes 1 p.hops ++
  toBytes 2 p.replySlot ++ toBytes 4 0 ++ toBytes 8 p.deadline ++ toBytes 8 p.address ++ toBytes 8 p.ackSequence ++ toBytes 8 crc

/-- A packet's CRC-64 (R473): over its header with that field zero, then its payload. The hops are part of the header: a package that
raises them brings the CRC with them (log entry 137). -/
def packetCrc (p : Packet) : Nat := crc64 (packetHeader p 0 ++ p.payload)

/-- A packet as it is sent: its header and its payload (R473). -/
def packetWire (p : Packet) : List Byte := packetHeader p (packetCrc p) ++ p.payload

/-- The packet of a header and a payload (R473): reserved bits are ignored (R12). -/
def readPacket (bs : List Byte) : Packet :=
  { ptype := field bs 0 1, flags := field bs 1 1, dest := field bs 2 2 % 2 ^ 14, source := field bs 4 2 % 2 ^ 14,
    channel := field bs 6 1 % 64, tenant := field bs 7 1 % 16, sequence := field bs 8 8, epoch := field bs 0x10 4,
    drawingId := field bs 0x18 1, hops := field bs 0x19 1, replySlot := field bs 0x1A 2, deadline := field bs 0x20 8,
    address := field bs 0x28 8, ackSequence := field bs 0x30 8, payload := (bs.drop 64).take (field bs 0x14 4) }

/-! Lane frames (R415, R416, R476) -/

/-- The alignment word (R415). -/
def alignWord : Nat := 0x5A3CC3A5

/-- Frame types (R415). -/
def frData : Nat := 0
def frIdentity : Nat := 1
def frIdle : Nat := 2
def frTraining : Nat := 3

/-- Slots of a lane frame (R415). -/
def frameSlots : Nat := 105

/-- Bytes of a lane frame (R415). -/
def frameBytes : Nat := 27000

/-- The class of the flit in a slot, by the slot map (R415): 0 empty, then M, Q, P, F0, F1, C as 1 to 6. -/
def slotCode (bs : List Byte) (slot : Nat) : Nat := field bs (0x10 + slot / 2) 1 / (if slot % 2 = 0 then 1 else 16) % 16

/-- The flits of a frame's slots, each with its class (R415, R416): reserved codes carry none. -/
def slotFlits (bs : List Byte) : List (Nat × List Byte) :=
  (List.range frameSlots).filterMap fun i =>
    let c := slotCode bs i
    if 1 ≤ c ∧ c ≤ 6 then some (c - 1, (bs.drop (120 + 256 * i)).take 256) else none

/-- The six cumulative credit counts of a frame's link fields (R476). -/
def frameCredits (bs : List Byte) : List Nat := (List.range 6).map fun i => field bs (0x48 + 2 * i) 2

/-- The header check of a frame (R413, R415): its alignment word and its CRC-32. -/
def headerOk (bs : List Byte) : Bool := field bs 0 4 == alignWord && field bs 0x74 4 == crc32 (bs.take 0x74)

/-- What a sender puts into a frame's header (R415, R476). -/
structure FrameHead where
  blockCount : Nat
  frameType : Nat
  marker : Nat
  lane : Nat
  drawingId : Nat
  sourceChip : Nat
  sourcePort : Nat
  credits : List Nat
  txTime : Nat
  echoTime : Nat
  echoBlock : Nat
  loopDelayPs : Nat
  epoch : Nat
  deriving DecidableEq, Repr

/-- The slot map of the flits of a frame (R415): two slots a byte, the even slot low; unused slots read 0. -/
def slotMap (slots : List (Option (Nat × List Byte))) : List Byte :=
  let code := fun i => match slots.getD i none with | some f => f.1 + 1 | none => 0
  (List.range 53).map fun k => BitVec.ofNat 8 (code (2 * k) + (if 2 * k + 1 < frameSlots then 16 * code (2 * k + 1) else 0))

/-- Bytes 0x00 to 0x73 of a frame (R415, R476). -/
def frameHeader (h : FrameHead) (slots : List (Option (Nat × List Byte))) : List Byte :=
  toBytes 4 alignWord ++ toBytes 4 h.blockCount ++ toBytes 1 h.frameType ++ toBytes 1 h.marker ++ toBytes 1 h.lane ++
  toBytes 1 h.drawingId ++ toBytes 2 h.sourceChip ++ toBytes 1 h.sourcePort ++ toBytes 1 0 ++ slotMap slots ++ toBytes 3 0 ++
  ((List.range 6).flatMap fun i => toBytes 2 (h.credits.getD i 0)) ++ toBytes 8 h.txTime ++ toBytes 8 h.echoTime ++
  toBytes 4 h.echoBlock ++ toBytes 4 h.loopDelayPs ++ toBytes 4 h.epoch ++ toBytes 4 0

/-- The 256 bytes of a slot (R416): an empty slot's bytes are zero. -/
def slotBytes : Option (Nat × List Byte) → List Byte
  | some f => f.2.take 256 ++ List.replicate (256 - f.2.length) 0
  | none => List.replicate 256 0

/-- A lane frame (R415, R416): the header with its CRC-32, then the 105 slots. -/
def laneFrame (h : FrameHead) (slots : List (Option (Nat × List Byte))) : List Byte :=
  let head := frameHeader h slots
  head ++ toBytes 4 (crc32 head) ++ (List.range frameSlots).flatMap fun i => slotBytes (slots.getD i none)

/-- The slots that a laser's frame may carry (R416, R417): identity frames their record in slot 0 and nothing else, idle and training
frames none, and a lane in quarantine flits of class M only. -/
def State.maySlots (s : State) (port laser ftype : Nat) (slots : List (Option (Nat × List Byte))) : List (Option (Nat × List Byte)) :=
  if ftype = frIdentity then slots.take 1
  else if ftype ≠ frData then []
  else if s.lane port laser = lnQuarantine then slots.map fun f => f.filter fun g => g.1 == clsM
  else slots

/-- The header of the frame that a laser of this package sends (R415, R476), its block being the given one of its chain: its lane, drawing,
chip, port and epoch, and when it leaves; on inter-rack ports the credits and the echo of the last block from the far end, on rack ports
the loop delay. -/
def State.headOf (s : State) (port laser ftype marker block lane : Nat) : FrameHead :=
  let v := s.laser port laser
  let far : Bool := decide (12 ≤ port)
  { blockCount := block % 2 ^ 32, frameType := ftype,
    marker := marker % 16 + 16 * (s.reg (Obj.laneModulation port laser) % 2) + 32 * b2n (s.lane port laser == lnQuarantine),
    lane := lane % 8 + 8 * b2n (laser == spare), drawingId := s.reg Obj.drawingInForce, sourceChip := s.chip % 2 ^ 14,
    sourcePort := s.logicalPort port % 16, credits := if far then (s.port port).freedAll else [],
    txTime := s.cadNow, echoTime := if far then v.heardAt else 0,
    echoBlock := if far then v.lastBlock else 0, loopDelayPs := if far then 0 else (s.laser port 0).loopDelay,
    epoch := s.reg Obj.membershipEpoch }

/-- The frame that a laser of this package sends with some flits (R415 to R417, R476). -/
def State.frameOf (s : State) (port laser ftype marker block lane : Nat) (slots : List (Option (Nat × List Byte))) : List Byte :=
  laneFrame (s.headOf port laser ftype marker block lane) (s.maySlots port laser ftype slots)

/-! The scrambler (R411) -/

/-- The next bits of the sequence of x^31 + x^28 + 1 with its last 31 bits, the oldest first: a new bit is the sum of the bits 31 and
28 places back. -/
def scrambleBits : Nat → List Bool → List Bool
  | 0, _ => []
  | n + 1, r =>
    match r with
    | [] => []
    | b :: bs => b :: scrambleBits n (bs ++ [b != r.getD 3 false])

/-- The sequence from bit 32 of a block on, its first 31 bits ones (R411, log entry 136). -/
def scrambleSequence (n : Nat) : List Bool := scrambleBits n (List.replicate 31 true)

/-- Scramble or unscramble the information bits of a block: the alignment word, bits 0 to 31, stays (R411). -/
def scramble (info : List Bool) : List Bool :=
  info.take 32 ++ (List.zipWith (fun a b => a != b) (info.drop 32) (scrambleSequence (info.length - 32)))

/-! The component code (R410) -/

/-- Multiplication in GF(2^10), by the primitive polynomial x^10 + x^3 + 1 (R410). -/
def gfMul (a b : Nat) : Nat :=
  (List.range 10).foldl (fun r i =>
    let d := r * 2
    let e := if 1024 ≤ d then d ^^^ 0x409 else d
    if b.testBit (9 - i) then e ^^^ a else e) 0

/-- Powers of the primitive element α (R410). -/
def alphaPow (k : Nat) : Nat := (List.range k).foldl (fun r _ => gfMul r 2) 1

/-- A polynomial over GF(2^10), its lowest coefficient first, times x + r. -/
def timesRoot (p : List Nat) (r : Nat) : List Nat :=
  List.zipWith (fun a b => a ^^^ b) (0 :: p) ((p.map fun c => gfMul c r) ++ [0])

/-- The minimal polynomial of α^k for k = 1, 3, 5 (R410): its roots are the ten powers of α^k with exponents doubled each time. -/
def minimalPoly (k : Nat) : List Nat :=
  ((List.range 9).foldl (fun (p : List Nat × Nat) _ => (timesRoot p.1 (gfMul p.2 p.2), gfMul p.2 p.2))
    (timesRoot [1] (alphaPow k), alphaPow k)).1

/-- A polynomial over the two-element field as the number of its coefficients. -/
def polyNum (p : List Nat) : Nat := p.foldr (fun c n => 2 * n + c) 0

/-- The product of two polynomials over the two-element field. -/
def polyMul (a b : Nat) : Nat := (List.range 31).foldl (fun r i => if b.testBit i then r ^^^ (a <<< i) else r) 0

/-- g(x), the product of the minimal polynomials of α, α^3 and α^5, of degree 30 (R410). -/
def bchGenerator : Nat := 0x50A91113

/-- The remainder of a polynomial times x^30 divided by g(x), its coefficients given from the highest down (R410). -/
def bchRemainder (v : List Bool) : Nat :=
  v.foldl (fun r b =>
    let w := r * 2 % 2 ^ 30
    if (2 ^ 29 ≤ r) != b then w ^^^ (bchGenerator % 2 ^ 30) else w) 0

/-- The 30 parity bits v_930 to v_959 of the 930 bits before them (R410): the coefficients of x^29 down to x^0. -/
def bchParity (v : List Bool) : List Bool :=
  let r := bchRemainder v
  (List.range 30).map fun i => r.testBit (29 - i)

/-- Is a vector of 960 bits a codeword (R410)? -/
def isCodeword (v : List Bool) : Bool := v.drop 930 == bchParity (v.take 930)

/-! Blocks (R409, R411, R414) -/

/-- The all-zero block before the first of a chain (R409), which a guard block is too (R414). -/
def zeroBlock : List (List Bool) := List.replicate 480 (List.replicate 480 false)

/-- Column r of a block, which is row r of its transpose. -/
def blockColumn (b : List (List Bool)) (r : Nat) : List Bool := b.map fun row => row.getD r false

/-- A row of a block (R409, R410): 450 bits of information and the parity that makes a codeword with row r of the transpose of the
block before. -/
def blockRow (before : List (List Bool)) (r : Nat) (info : List Bool) : List Bool := info ++ bchParity (blockColumn before r ++ info)

/-- The block of a frame after another block (R409, R411): the scrambled bits fill it row by row. -/
def encodeBlock (before : List (List Bool)) (frame : List Byte) : List (List Bool) :=
  let t := scramble (bitsOf frame)
  (List.range 480).map fun r => blockRow before r ((t.drop (450 * r)).take 450)

/-- The blocks of a chain of frames (R409, R414): the first follows the all-zero block. -/
def encodeChain : List (List Bool) → List (List Byte) → List (List (List Bool))
  | _, [] => []
  | before, f :: fs => encodeBlock before f :: encodeChain (encodeBlock before f) fs

/-- A chain of blocks followed by the two guard blocks of a change of carrier (R414). -/
def sentChain (frames : List (List Byte)) : List (List (List Bool)) := encodeChain zeroBlock frames ++ [zeroBlock, zeroBlock]

/-- The order in which a block's bits are sent (R411): row by row, each from column 0. -/
def sendOrder (b : List (List Bool)) : List Bool := b.flatten

/-- Every row of a block makes a codeword with the block before it (R409). -/
def blockValid (before b : List (List Bool)) : Bool := (List.range 480).all fun r => isCodeword (blockColumn before r ++ b.getD r [])

/-- The lane frame that a block carries (R411). -/
def blockFrame (b : List (List Bool)) : List Byte := bytesOf (scramble (b.flatMap fun row => row.take 450))

/-! Symbols (R408) -/

/-- The level of a pair of bits in 16-QAM. -/
def level16 (a b : Bool) : Int := if a then (if b then 1 else 3) else if b then -1 else -3

/-- The X in-phase, X quadrature, Y in-phase and Y quadrature levels of a symbol of eight bits in 16-QAM. -/
def symbol16 (b : List Bool) : List Int := (List.range 4).map fun i => level16 (b.getD (2 * i) false) (b.getD (2 * i + 1) false)

/-- The same of four bits in 4-QAM. -/
def symbol4 (b : List Bool) : List Int := (List.range 4).map fun i => if b.getD i false then 1 else -1

/-- The symbols of bits sent in a modulation (R407, R408): 0 is 16-QAM, 1 is 4-QAM. -/
def symbols (modulation : Nat) (b : List Bool) : List (List Int) :=
  let n := if modulation = 0 then 8 else 4
  (List.range (b.length / n)).map fun i =>
    let x := (b.drop (n * i)).take n
    if modulation = 0 then symbol16 x else symbol4 x

end Sys2Proof.Machine
end

