-- ==== Sys2Proof/Machine/Arbiters.lean ====
section
/-!
DEFINITION. The deadline arbiters (R495 to R498): requests, keys and settings.
-/

namespace Sys2Proof.Machine

/-- A request's offset from the start of the beat (R496). -/
def State.askOffset (s : State) (deadline : Nat) : Nat :=
  if deadline = 2 ^ 64 - 1 then 0xFFFFFF else min 0xFFFFFF (deadline - s.beatNo * 1024)

/-- The random value that the site's arbitration jitter adds to a request's key (R633): none while the amplitude is 0, else a free
value from 0 to the amplitude. -/
def State.drawJitter (s : State) (site : Nat) : Nat × State :=
  let a := s.reg (Obj.arbitrationJitter site)
  if a = 0 then (0, s)
  else
    let (v, s1) := s.draw 24
    (v % (a + 1), s1)

/-- A requester asks at a site (R496, R633). -/
def State.ask (s : State) (site requester deadline : Nat) : State :=
  let (j, s1) := s.drawJitter site
  { s1 with fabric := { s1.fabric with asks := s1.fabric.asks ++ [(site, requester, s1.askOffset deadline, j)] } }

/-- A requester asks for some transfers of one deadline (R497). -/
def State.askTimes (s : State) (k site requester deadline : Nat) : State :=
  (List.range k).foldl (fun t _ => t.ask site requester deadline) s

/-- The requesters of a site and the class of each (R495). -/
def siteClass (site i : Nat) : Nat :=
  if site < 0x50 then (match i with | 0 => 0 | 1 => 2 | 2 => 2 | 3 => 4 | 4 => 4 | _ => 1)
  else if site < 0x80 then
    (if i < 64 then 2 else if i = 64 then 3 else if i ≤ 72 then 1 else if i = 73 then 5 else if i = 74 then 0 else 2)
  else if i < 8 then 2
  else (match i with | 8 => 1 | 9 => 3 | 10 => 4 | _ => 0)

/-- How many requesters a site has (R495). -/
def siteSize (site : Nat) : Nat := if site < 0x50 then 6 else if site < 0x80 then 76 else 12

/-- The settings of a site in force (R498). -/
def State.siteSettings (s : State) (site : Nat) : Nat × Nat :=
  match s.fabric.settings.find? fun p => p.1 = site with
  | some p => p.2
  | none => (regDefault (Obj.requesterOffsets site), regDefault (Obj.classFloors site))

/-- The key of a request (R496, R633): class 0 has key 0. -/
def State.askKey (s : State) (site requester offset jitter : Nat) : Nat :=
  let c := siteClass site requester
  if c = 0 then 0
  else
    let cfg := s.siteSettings site
    let v : Int := min ((offset : Int) + signedOf 32 (bits cfg.1 (32 * requester) 32)) (bits cfg.2 (32 * c) 32)
    min 0xFFFFFF (v + jitter).toNat

/-- How far a requester lies from the site's rotating pointer (R496). -/
def State.askTurn (s : State) (site requester : Nat) : Nat :=
  (requester + siteSize site - Sparse.get 0 site s.fabric.pointers) % siteSize site

/-- Is the first of two requests of a site granted before the second (R496)? -/
def State.askBefore (s : State) (site : Nat) (a b : Nat × Nat × Nat × Nat) : Bool :=
  let ka := s.askKey site a.2.1 a.2.2.1 a.2.2.2
  let kb := s.askKey site b.2.1 b.2.2.1 b.2.2.2
  let ta := s.askTurn site a.2.1
  let tb := s.askTurn site b.2.1
  decide (ka < kb) || (ka == kb && (decide (ta < tb) || (ta == tb && decide (a.2.2.1 < b.2.2.1))))

end Sys2Proof.Machine
end

