-- ==== Sys2Proof/Machine/Flags.lean ====
section
/-!
DEFINITION. The flags and counts an instruction makes: Judges' classes and sets (R113, R288 to R290), the empty-reduction
flag (R206), and clear-if-unchanged (R626, R627).
-/

namespace Sys2Proof.Machine

/-- No counts. -/
def noCounts : Counts := ⟨0, 0, 0, 0, 0, 0, 0⟩

/-- The largest finite F32 (R107, R290). -/
def f32Max : Nat := 0x7F7FFFFF

/-- A finite magnitude as the F32 that maxima record (R107, R290): above F32's largest finite value, that value. -/
def magF32 (x : Num) : Nat :=
  match x with
  | .fin _ _ _ => let w := toF32 x.abs; if w = 0x7F800000 then f32Max else w
  | _ => 0

/-- Count one element of a class whose input was x (R113, R288, R290). -/
def countElem (c : Counts) (x : Num) (k : Cls) : Counts :=
  { c with
    total := c.total + 1
    zero := c.zero + b2n (k == .zero)
    underflow := c.underflow + b2n (k == .underflow)
    saturated := c.saturated + b2n (k == .saturated)
    nonfinite := c.nonfinite + b2n (k == .nonfinite)
    maxMag := fMax c.maxMag (magF32 x) }

/-- Add the counts of two parts of an instruction. -/
def plusCounts (a b : Counts) : Counts :=
  { total := a.total + b.total, zero := a.zero + b.zero, underflow := a.underflow + b.underflow,
    saturated := a.saturated + b.saturated, nonfinite := a.nonfinite + b.nonfinite, maxMag := fMax a.maxMag b.maxMag,
    empty := a.empty + b.empty }

/-- Add a report to a counter set (R289, R290). -/
def CountSet.add (t : CountSet) (c : Counts) : CountSet :=
  { t with
    total := (t.total + c.total) % 2 ^ 64
    zero := (t.zero + c.zero) % 2 ^ 64
    underflow := (t.underflow + c.underflow) % 2 ^ 64
    saturated := (t.saturated + c.saturated) % 2 ^ 64
    nonfinite := (t.nonfinite + c.nonfinite) % 2 ^ 64
    maxMag := fMax t.maxMag c.maxMag
    instructions := (t.instructions + 1) % 2 ^ 32
    empty := (t.empty + c.empty) % 2 ^ 32 }

/-- Add a report to the open set of a step (R289, R293, R296). -/
def addOpen (step : Nat) (gradient : Bool) (c : Counts) : List (Nat × Bool × CountSet) → List (Nat × Bool × CountSet)
  | [] => [(step, gradient, ({ tag := step % 2 ^ 32 } : CountSet).add c)]
  | (k, g, t) :: rest =>
    if k = step then (k, g || gradient, t.add c) :: rest else (k, g, t) :: addOpen step gradient c rest

/-- An instruction's report reaches its slot (R289, R293, R295): work of an open step adds to that step's open set; work
of no step adds to the total set; both replace the last-conversion set. A report of a step that is no longer open is
discarded. -/
def State.judge (s : State) (n slot : Nat) (step : Option Nat) (unit : Nat) (gradient : Bool) (c : Counts) : State :=
  let j := s.slot slot
  let last : CountSet := { (({} : CountSet).add c) with tag := unit, time := s.up }
  match step with
  | none => s.setSlot slot { j with totalSet := j.totalSet.add c, lastSet := last }
  | some k =>
    if ((s.tenant n).step? k).isSome then
      s.setSlot slot { j with opens := addOpen k gradient c j.opens, lastSet := last }
    else s

/-- A destination's counts go to its slot when flag J is set (R288). -/
def State.judgeDesc (s : State) (k : Work) (d : Desc) (unit : Nat) (c : Counts) : State :=
  if d.j then s.judge k.tenant d.slot k.stepOf unit d.g c else s

/-- The slots that the destinations of one instruction name each take one report: the totals of the destinations that name it (R288,
R289). -/
def State.judgeAll (s : State) (k : Work) (unit : Nat) (ds : List (Desc × Counts)) : State :=
  let js := ds.filter fun p => p.1.j
  (js.map fun p => p.1.slot).eraseDups.foldl (fun t slot =>
    let mine := js.filter fun p => p.1.slot == slot
    t.judge k.tenant slot k.stepOf unit (mine.any fun p => p.1.g) (mine.foldl (fun a p => plusCounts a p.2) noCounts)) s

/-- An empty maximum or minimum raises the context's flag: one event (R206, R626). -/
def State.emptyReduction (s : State) (c x : Nat) : State :=
  let o := Obj.emptyReductionFlag c x
  s.setReg o (bumpEvents (s.reg o))

/-! Clear-if-unchanged (R627) -/

/-- Clear a flag whose register holds only its event count. -/
def State.clearFlag (s : State) (k count : Nat) : State := if s.reg k = count then s.setReg k 0 else s

/-- Clear a status or wiring word. -/
def State.clearLatch (s : State) (k count : Nat) : State := if (s.latch k).count = count then s.setLatch k {} else s

/-- Clear a capture record: it becomes not valid with later_count, flags and count at 0. -/
def State.clearCapture (s : State) (k count : Nat) : State :=
  if (s.capture k).events = count then
    s.setCapture k { s.capture k with valid := false, later := 0, overflow := false, events := 0 }
  else s

end Sys2Proof.Machine
end

