-- ==== Sys2Proof/Machine/Convert.lean ====
section
/-!
DEFINITION. Conversions into tensors (R91 to R113): block and tensor scales, maxima and scale records, classes, packing,
and the roll of a record (R108 to R112).
-/

namespace Sys2Proof.Machine

/-! The scale record (R95) -/

/-- Byte places of the record (R95). -/
def recAmax (step : Nat) : Nat := if step % 2 = 0 then 0x00 else 0x50
def recNext (step : Nat) : Nat := if step % 2 = 0 then 0x05 else 0x54

/-- A little-endian field of a record in memory. -/
def State.recField (s : State) (n off len : Nat) : Nat := fromBytes (s.peekBytes n off .plain len)

/-- Write a little-endian field of a record. -/
def State.setField (s : State) (n off len v : Nat) : State := (s.pokeRun n off .plain (toBytes len v)).1

/-- The step whose record entries a conversion uses (R106, R112): its own while that is open, else the oldest uncommitted
step. -/
def State.recStep (s : State) (n : Nat) (step : Option Nat) : Nat :=
  match step with
  | some k => if ((s.tenant n).step? k).isSome then k else s.oldestStep n
  | none => s.oldestStep n

/-- The records a step lists (R108): scale records, exchange records (R526) and update records (R264). -/
def StepSt.listed (p : StepSt) : Nat :=
  (p.scaleRecs ++ p.exchRecs.filter fun o => !p.scaleRecs.contains o).length + p.updRecs.length

/-- The step lists a scale record, or its list has room for it (R108). -/
def StepSt.takes (p : StepSt) (off : Nat) : Bool := (p.scaleRecs ++ p.exchRecs).contains off || decide (p.listed < 65536)

/-- A record joins the step's list, or waits for the step to open (R108, R112); none when the list is full. -/
def State.listRec (s : State) (n step off : Nat) : Option State :=
  let t := s.tenant n
  match t.step? step with
  | some p =>
    if p.scaleRecs.contains off then some s
    else if p.takes off then some (s.setTenant n (t.modStep step fun q => { q with scaleRecs := q.scaleRecs ++ [off] }))
    else none
  | none =>
    if t.waitingRecs.contains off then some s
    else if t.waitingRecs.length < 65536 then some (s.setTenant n { t with waitingRecs := t.waitingRecs ++ [off] })
    else none

/-- Is format a's largest finite value below format b's? R105 states none for the FX formats (log entry 140). -/
def smallerMax (a b : Nat) : Bool := !isFx a && (isFx b || (maxFinite a).lt (maxFinite b))

/-- Record a maximum and the target's format into a record (R96, R107). -/
def State.recordMax (s : State) (n step off fmt mag : Nat) : State :=
  let s1 := s.setField n (off + recAmax step) 4 (fMax (s.recField n (off + recAmax step) 4) mag)
  let pf := s1.recField n (off + 0x0B) 1
  if !bit pf 7 || smallerMax fmt (bits pf 0 5) then s1.setField n (off + 0x0B) 1 (fmt + 0x80) else s1

/-- The policy's choice of a scale (R110), from the most recent entries of the history. -/
def State.policyScale (s : State) (n off : Nat) : Option Nat :=
  let window := let w := s.recField n (off + 0x06) 1; if w = 0 then 1 else min w 16
  let margin := min (s.recField n (off + 0x07) 1) 15
  let head := s.recField n (off + 0x08) 1 % 16
  let cnt := min (s.recField n (off + 0x09) 1) 16
  let pf := s.recField n (off + 0x0B) 1
  let hs := (List.range (min window cnt)).map fun i => s.recField n (off + 0x10 + 4 * ((head + 15 - i) % 16)) 4
  let h := (hs.filter fFinite).foldl (fun m x => fMax m (toF32 (ofF32 x).abs)) 0
  if h = 0 ∨ cnt = 0 ∨ !bit pf 7 then none
  else
    match ofF32 h, maxFinite (bits pf 0 5) with
    | .fin _ m e, .fin _ v f =>
      if v = 0 then none else some (clampInt 0 0xFE (ceilLog2Ratio m e v f + margin + 127)).toNat
    | _, _ => none

/-- Roll a scale record at the commit of a step (R109). A record whose line is poisoned is not rolled, and is reported
(R109, R614). -/
def State.rollScale (s0 : State) (n step off : Nat) : State :=
  let s := s0.meetInjections n [off, off + 64] .plain 0xC044 2
  if s.anyBad n [off, off + 64] .plain then
    s.report { cls := 2, cause := 3, reporter := 0xC044, master := 0xC044, access := 2, partition := 0,
               address := s.badAddr n [off, off + 64] .plain, work := none,
               injected := s.poisonInjected (s.badAddr n [off, off + 64] .plain) }
  else
    let head := s.recField n (off + 0x08) 1 % 16
    let cnt := s.recField n (off + 0x09) 1
    let s1 := if s.recField n (off + 0x0C) 4 = step % 2 ^ 32 then s else
      ((s.setField n (off + 0x10 + 4 * head) 4 (s.recField n (off + recAmax step) 4)).setField n (off + 0x08) 1
        ((head + 1) % 16)).setField n (off + 0x09) 1 (min (cnt + 1) 16)
    let s2 := s1.setField n (off + 0x0C) 4 (step % 2 ^ 32)
    let s3 := if bit (s2.recField n (off + 0x0A) 1) 0 then
        match s2.policyScale n off with
        | some v => s2.setField n (off + recNext step) 1 v
        | none => s2
      else s2
    s3.setField n (off + recAmax step) 4 0

/-- At an abort the step's maximum is set to 0.0 (R111). -/
def State.clearScale (s : State) (n step off : Nat) : State := s.setField n (off + recAmax step) 4 0

/-! Converting a tensor -/

/-- The rounding of one element: to nearest, or by the generator with a key (R100, R173). -/
def rndOf (sr : Bool) (seed stage tensorId row col pass : Nat) : Rnd :=
  if sr then .stoch (random32 seed stage tensorId row col pass) else .nearest

/-- The seed a rounding uses (R173, R175): its own open step's; of work without one, that of the tenant's oldest open step (log entry
144); and with no step open, that of step number 0. -/
def State.seedOf (s : State) (n : Nat) (step : Option Nat) : Nat :=
  let t := s.tenant n
  match (step.bind t.step?).or t.steps.head? with
  | some p => p.seed
  | none => stepSeed (s.reg (Obj.jobSeed n)) 0

/-- The largest magnitude among the finite inputs. -/
def largest (xs : List Num) : Num :=
  xs.foldl (fun m x => if x.isFin && m.lt x.abs then x.abs else m) Num.zero

/-- The scale byte of a block (R105). -/
def blockScale (fmt : Nat) (xs : List Num) : Nat :=
  if fmt ≠ 0x03 ∧ fmt ≠ 0x04 ∧ xs.any (fun x => !x.isFin) then 0xFF
  else
    match largest xs, maxFinite fmt with
    | .fin _ m e, .fin _ v f => if m = 0 ∨ v = 0 then 0 else (clampInt (-127) 127 (ceilLog2Ratio m e v f) + 127).toNat
    | _, _ => 0

/-- One converted element: its bits, its input and its class. -/
structure Elem where
  bits : Nat
  input : Num
  cls : Cls
  deriving DecidableEq, Repr

/-- Convert the elements of a block (R104, R105): the scale byte and the elements. -/
def convertBlock (fmt : Nat) (infMode : Bool) (rnd : Nat → Rnd) (xs : List (Nat × Num)) : Nat × List Elem :=
  let sb := blockScale fmt (xs.map (·.2))
  (sb, xs.map fun p =>
    if sb = 0xFF then ⟨0, p.2, .nonfinite⟩
    else
      let (w, k) := convertElem fmt (rnd p.1) infMode (p.2.scale (127 - (sb : Int)))
      ⟨w, p.2, k⟩)

/-- Cut a list into pieces of k. -/
def chunksOf {α : Type} (k : Nat) : Nat → List α → List (List α)
  | 0, _ => []
  | fuel + 1, l => if l.isEmpty then [] else l.take k :: chunksOf k fuel (l.drop k)

/-- The cut with enough fuel. -/
def cut {α : Type} (k : Nat) (l : List α) : List (List α) := if k = 0 then [l] else chunksOf k l.length l

/-- Bits of a run packed little-endian (R89). -/
def packRun (w : Nat) (es : List Nat) : Nat :=
  es.foldr (fun e acc => acc * 2 ^ w + e % 2 ^ w) 0

/-- A plan of conversion: stage and pass fields, rounding, overflow mode. -/
structure ConvMode where
  sr : Bool
  inf : Bool
  stage : Nat
  deriving DecidableEq, Repr

/-- What converting a tensor makes: the byte stores of the tensor, those of its scale array, and the counts. -/
structure Conv where
  data : List (Nat × Byte)
  scales : List (Nat × Byte)
  counts : Counts
  deriving Repr

/-- An FX element of an exact value (R117, R118, R120): its bits and class, under exponent byte x. -/
def fxElem (fmt x : Nat) (v : Num) : Nat × Cls :=
  let w := fmtWidth fmt
  let f : Int := if fmt = fmtFX24 then 22 else 30
  if x = 0xFF then (0, .nonfinite)
  else
    match v with
    | .fin s m e =>
      if m = 0 then (0, .zero)
      else
        let q := roundInt .nearest s m (e - ((x : Int) - 127 - f))
        if q.natAbs > 2 ^ (w - 1) - 1 then (fxMarker fmt, .saturated)
        else if q = 0 then (0, .underflow) else (wrapInt w q, .ordinary)
    | _ => (0, .nonfinite)

/-- Convert the values of a tensor, run after run (R91, R100 to R106, R119, R120). `next` is the tensor scale of R106. -/
def convertRuns (s : State) (n : Nat) (d : Desc) (m : ConvMode) (seed next : Nat) (vals : List Num) : Conv :=
  let w := fmtWidth d.fmt
  let rows := (List.range d.runs).zip (cut d.e0 vals)
  let one : Nat × List Num → Conv := fun p =>
    let r := p.1
    let xs := (List.range p.2.length).zip p.2
    let rnd : Nat → Rnd := fun i => rndOf m.sr seed m.stage d.tensorId r i 0
    let fx := isFx d.fmt
    let blocks : List (Nat × List Elem) :=
      if fx then (cut 256 xs).map fun b =>
          let x := s.chunkByte n d r (match b with | q :: _ => q.1 | [] => 0)
          let x1 := if b.any (fun q => !q.2.isFin) then 0xFF else x
          (x1, b.map fun q => let (e, k) := fxElem d.fmt x1 q.2; ⟨e, q.2, k⟩)
      else if isNarrow d.fmt && d.block != 0 then (cut (blockSize d.block) xs).map (convertBlock d.fmt m.inf rnd)
      else
        let k : Int := if isNarrow d.fmt && d.scalePtr != 0 then 127 - (next : Int) else 0
        [(next, xs.map fun q => let (e, c) := convertElem d.fmt (rnd q.1) m.inf (q.2.scale k); ⟨e, q.2, c⟩)]
    let es := blocks.flatMap (·.2)
    let data := toBytes d.runBytes (packRun w (es.map (·.bits)))
    let sbase := offOf d.scalePtr + 128 + r * d.blocksPerRun (if fx then 256 else blockSize d.block)
    { data := (List.range data.length).zip data |>.map fun q => (d.runOff r + q.1, q.2)
      scales := if fx || (isNarrow d.fmt && d.block != 0) then
          (List.range blocks.length).zip blocks |>.map fun q => (sbase + q.1, BitVec.ofNat 8 q.2.1)
        else []
      counts := es.foldl (fun c e => countElem c e.input e.cls) noCounts }
  rows.foldl (fun acc p =>
    let c := one p
    { data := acc.data ++ c.data, scales := acc.scales ++ c.scales, counts := plusCounts acc.counts c.counts })
    { data := [], scales := [], counts := noCounts }

/-- What storing a converted tensor answers: a full list of records is a descriptor fault (R108), a part stored into a
poisoned line a poisoned-operand fault (R350). -/
inductive Stored where
  | done (s : State) (c : Counts)
  | full
  | bad (s : State)

/-- The tensor scale that conversions of a step into a tensor apply (R106). -/
def State.nextScale (s : State) (n : Nat) (step : Option Nat) (d : Desc) : Nat :=
  if d.scalePtr = 0 then 0x7F else s.recField n (offOf d.scalePtr + recNext (s.recStep n step)) 1

/-- A conversion into a tensor narrower than its source records the maximum of its finite inputs, and lists the record into which it has
recorded one (R107, R108); none when the list is full. -/
def State.listMax (s : State) (n st : Nat) (d : Desc) (srcBits : Nat) (mags : List Num) : Option State :=
  if d.scalePtr ≠ 0 ∧ fmtWidth d.fmt < srcBits ∧ mags.any Num.isFin then
    (s.listRec n st (offOf d.scalePtr)).map fun t =>
      t.recordMax n st (offOf d.scalePtr) d.fmt (mags.foldl (fun a x => fMax a (magF32 x)) 0)
  else some s

/-- Convert values into a prepared destination (R91 to R113): the tensor scale's stored_scale, the scale bytes, the
elements, the maximum recorded when the target is narrower than its source of srcBits: `mags` are the values whose maximum is
recorded (R107, R154). -/
def State.storeWith (s : State) (n : Nat) (step : Option Nat) (d : Desc) (v : VSel) (m : ConvMode) (srcBits : Nat)
    (vals mags : List Num) : Stored :=
  if vals.isEmpty then .done s noCounts
  else
    let st := s.recStep n step
    let rec0 := offOf d.scalePtr
    let next := s.nextScale n step d
    let conv := convertRuns s n d m (s.seedOf n step) next vals
    let s1 := if isNarrow d.fmt && d.block == 0 && d.scalePtr != 0 then s.setField n (rec0 + 4) 1 next else s
    match s1.listMax n st d srcBits mags with
    | none => .full
    | some s2 =>
      let (s3, b1) := s2.pokeAll n .plain conv.scales
      let (s4, b2) := s3.pokeAll n v conv.data
      if b1 || b2 then .bad s4 else .done s4 conv.counts

/-- The part of a conversion's bytes that lies in some elements, by run and place in the run. -/
def Conv.only (d : Desc) (c : Conv) (keep : Nat → Nat → Bool) : Conv :=
  let per := d.blocksPerRun (blockSize d.block)
  { c with
    data := (((List.range c.data.length).zip c.data).filter fun p =>
      keep (p.1 / d.runBytes) (p.1 % d.runBytes * 8 / fmtWidth d.fmt)).map (·.2)
    scales := (((List.range c.scales.length).zip c.scales).filter fun p =>
      keep (p.1 / per) (p.1 % per * blockSize d.block)).map (·.2) }

/-- Write the elements of a conversion that were delivered before it ended in a fault (R144): no maximum is recorded. -/
def State.storePart (s : State) (n : Nat) (step : Option Nat) (d : Desc) (v : VSel) (m : ConvMode) (vals : List Num)
    (keep : Nat → Nat → Bool) : State :=
  let next := s.nextScale n step d
  let conv := (convertRuns s n d m (s.seedOf n step) next vals).only d keep
  if conv.data.isEmpty then s
  else
    let s1 := if isNarrow d.fmt && d.block == 0 && d.scalePtr != 0 then s.setField n (offOf d.scalePtr + 4) 1 next else s
    ((s1.pokeAll n .plain conv.scales).1.pokeAll n v conv.data).1

/-- Convert values into a prepared destination, their own maximum recorded. -/
def State.storeValues (s : State) (n : Nat) (step : Option Nat) (d : Desc) (v : VSel) (m : ConvMode) (srcBits : Nat)
    (vals : List Num) : Stored := s.storeWith n step d v m srcBits vals vals

/-- Store raw element bits into a prepared destination, with no conversion. -/
def State.storeRaw (s : State) (n : Nat) (d : Desc) (v : VSel) (es : List Nat) : State × Bool :=
  let rows := (List.range d.runs).zip (cut d.e0 es)
  s.pokeAll n v (rows.flatMap fun p =>
    let data := toBytes d.runBytes (packRun (fmtWidth d.fmt) p.2)
    (List.range data.length).zip data |>.map fun q => (d.runOff p.1 + q.1, q.2))

end Sys2Proof.Machine
end

