-- ==== Sys2Proof/Machine/Judges.lean ====
section
/-!
DEFINITION. Judges (spec/09): reports, the silent-layer watch, the loss and gradient-norm watches, vetoes and advisories.
-/

namespace Sys2Proof.Machine

/-- The slots of a tenant's share (R285). -/
def State.shareHas (s : State) (n j : Nat) : Bool :=
  decide (s.reg (Obj.slotFirst n) ≤ j) && decide (j < s.reg (Obj.slotFirst n) + s.reg (Obj.slotCount n))

/-- Clear every slot of a tenant's share (R286). -/
def State.clearShare (s : State) (n : Nat) : State :=
  { s with slots := Sparse.keep (fun j _ => !s.shareHas n j) s.slots }

/-- The advisory record (R306). -/
def advisoryBytes (kind veto n slot step value threshold up : Nat) : List Byte :=
  toBytes 1 kind ++ toBytes 1 veto ++ toBytes 1 n ++ toBytes 1 0 ++ toBytes 4 slot ++ toBytes 8 step ++ toBytes 4 value ++
  toBytes 4 threshold ++ toBytes 8 up

/-- Raise an advisory (R306): counted, kept as the last one, delivered. -/
def State.advise (s : State) (n kind veto slot step value threshold : Nat) : State :=
  (s.count 64 (Obj.advisoryCount n)).raise (Obj.lastAdvisory n) (advisoryBytes kind veto n slot step value threshold s.up)

/-- Add one counter set to another (R295). -/
def CountSet.merge (t a : CountSet) : CountSet :=
  { t with
    total := (t.total + a.total) % 2 ^ 64
    zero := (t.zero + a.zero) % 2 ^ 64
    underflow := (t.underflow + a.underflow) % 2 ^ 64
    saturated := (t.saturated + a.saturated) % 2 ^ 64
    nonfinite := (t.nonfinite + a.nonfinite) % 2 ^ 64
    maxMag := fMax t.maxMag a.maxMag
    instructions := (t.instructions + a.instructions) % 2 ^ 32
    empty := (t.empty + a.empty) % 2 ^ 32 }

/-- The configuration a step is judged with: the one it opened with (R292). -/
def Slot.cfgOf (j : Slot) (step : Nat) : SlotCfg :=
  match j.heldCfg with
  | some (k, c) => if k = step then c else j.cfg
  | none => j.cfg

/-- Armed for the step (R296). -/
def SlotCfg.armed (c : SlotCfg) (gradient : Bool) : Bool := c.silentMode == 1 || (c.silentMode == 0 && gradient)

/-- Either share meets its threshold, by exact integer tests (R296). -/
def SlotCfg.silent (c : SlotCfg) (t : CountSet) : Bool :=
  (decide (0 < t.total) && decide (c.zeroPpm * t.total ≤ (t.zero + t.underflow) * 1000000)) ||
  (decide (0 < t.total - t.zero - t.nonfinite) &&
    decide (c.underflowPpm * (t.total - t.zero - t.nonfinite) ≤ t.underflow * 1000000))

/-- The streak after a commit (R297). -/
def Slot.newStreak (j : Slot) (c : SlotCfg) (gradient : Bool) (t : CountSet) : Nat :=
  if !c.armed gradient || t.total == 0 then j.streak
  else if c.silent t then min (j.streak + 1) 65535
  else 0

/-- The open set of a step. -/
def Slot.openOf (j : Slot) (step : Nat) : Option (Bool × CountSet) := (j.opens.find? fun p => p.1 == step).map (·.2)

/-- Pending configurations take effect at a commit or abort; an open step keeps what it opened with (R292). -/
def State.settleSlots (s : State) (n done : Nat) : State :=
  let other := ((s.tenant n).steps.filter fun p => p.step != done).head?
  { s with slots := Sparse.mapAll {} (fun j v =>
      if !s.shareHas n j then v
      else
        let v1 : Slot := { v with heldCfg := match v.heldCfg with
          | some (k, c) => if k = done then none else some (k, c)
          | none => none }
        match v1.pendingCfg with
        | none => v1
        | some c =>
          { v1 with cfg := c, pendingCfg := none,
                    heldCfg := match v1.heldCfg, other with
                      | some h, _ => some h
                      | none, some p => some (p.step, v.cfg)
                      | none, none => none }) s.slots }

/-- Zero share in parts per million, as the advisory carries it (R306). -/
def zeroPpmOf (t : CountSet) : Nat := if t.total = 0 then 0 else (t.zero + t.underflow) * 1000000 / t.total

/-- The streak rises at this commit (R297). -/
def SlotCfg.rises (c : SlotCfg) (gradient : Bool) (t : CountSet) : Bool := c.armed gradient && t.total != 0 && c.silent t

/-- A slot at the commit of a step (R295, R297): its advisory is raised once for each time its streak reaches silent_steps, and again only
after the streak was 0. -/
def State.commitSlot (s : State) (n step j : Nat) : State :=
  let v := s.slot j
  match v.openOf step with
  | none => s
  | some (g, t) =>
    let c := v.cfgOf step
    let k := v.newStreak c g t
    let fires := c.rises g t && decide (c.silentSteps ≤ k) && !v.raised
    let v1 : Slot := { v with
      totalSet := v.totalSet.merge t, stepSet := { t with time := b2n (c.armed g) }, streak := k,
      raised := k != 0 && (v.raised || fires), opens := v.opens.filter fun p => p.1 != step }
    let s1 := s.setSlot j v1
    if fires then
      let s2 := s1.setReg (Obj.silentFlag n) (bumpEvents (s1.reg (Obj.silentFlag n)))
      s2.advise n 1 0 j step (zeroPpmOf t) c.zeroPpm
    else s1

/-- The spike threshold μ + k · √σ² (R300). -/
def spikeThreshold (mean var k : Nat) : Nat := fAdd mean (fMul k (fSqrt var))

/-- The finding about a written value (R300): 0 none, 1 spike, 2 non-finite. -/
def findingOf (cfg : WatchCfg) (mean var samples : Nat) : Option Nat → Nat
  | none => 0
  | some x =>
    if !fFinite x then 2
    else if cfg.warmup ≤ samples ∧ fLt (spikeThreshold mean var cfg.spikeK) x then 1
    else 0

/-- Findings about the loss and the gradient norm of an open step. -/
def State.lossFinding (s : State) (n : Nat) (p : StepSt) : Nat :=
  findingOf p.cfg (s.reg (Obj.lossMean n)) (s.reg (Obj.lossVar n)) (s.reg (Obj.lossSamples n)) p.loss
def State.gradFinding (s : State) (n : Nat) (p : StepSt) : Nat :=
  findingOf p.cfg (s.reg (Obj.gradMean n)) (s.reg (Obj.gradVar n)) (s.reg (Obj.gradSamples n)) p.grad

/-- The slots that counted a non-finite element in the step and may veto it (R291). -/
def State.vetoSlots (s : State) (n step : Nat) : List Nat :=
  (s.slots.filter fun p => s.shareHas n p.1 && (p.2.cfgOf step).nonfiniteVeto &&
    (match p.2.openOf step with | some (_, t) => decide (0 < t.nonfinite) | none => false)).map (·.1)

/-- Judges' findings of an open step, by the bits of R303; a spike beyond the limit of R302 selects nothing. -/
def State.findings (s : State) (n : Nat) (p : StepSt) : Nat :=
  let spiked := Sparse.get 0 p.step (s.tenant n).spikes
  let may := p.cfg.spikeLimit == 0 || decide (spiked < p.cfg.spikeLimit)
  b2n (s.lossFinding n p == 1 && may) + 2 * b2n (s.lossFinding n p == 2) +
  4 * b2n (s.gradFinding n p == 1 && may) + 8 * b2n (s.gradFinding n p == 2) +
  16 * b2n (!(s.vetoSlots n p.step).isEmpty)

/-- The findings the tenant's mask selects (R303, R304). -/
def State.selected (s : State) (n : Nat) (p : StepSt) : Nat := s.findings n p &&& p.cfg.vetoMask

/-- Raise the advisories of the watches' findings, each marked when it vetoes; the bits of `sel` veto (R304, R305, R306). -/
def State.adviseWatches (s : State) (n : Nat) (p : StepSt) (sel : Nat) (onlyVeto : Bool) : State :=
  let lf := s.lossFinding n p
  let gf := s.gradFinding n p
  let thr := fun mean var => spikeThreshold mean var p.cfg.spikeK
  let s1 := if lf = 0 ∨ (onlyVeto && !(bit sel (lf - 1))) then s
    else s.advise n (1 + lf) (b2n (bit sel (lf - 1))) 0xFFFFFFFF p.step (p.loss.getD 0)
      (if lf = 1 then thr (s.reg (Obj.lossMean n)) (s.reg (Obj.lossVar n)) else 0)
  if gf = 0 ∨ (onlyVeto && !(bit sel (1 + gf))) then s1
  else s1.advise n (3 + gf) (b2n (bit sel (1 + gf))) 0xFFFFFFFF p.step (p.grad.getD 0)
    (if gf = 1 then thr (s.reg (Obj.gradMean n)) (s.reg (Obj.gradVar n)) else 0)

/-- Raise the advisories of the slots that hold non-finite elements (R306, kind 6). -/
def State.adviseSlots (s : State) (n : Nat) (p : StepSt) (veto : Nat) : State :=
  (s.vetoSlots n p.step).foldl (fun t j =>
    t.advise n 6 veto j p.step
      ((match (s.slot j).openOf p.step with | some (_, c) => c.nonfinite | none => 0) % 2 ^ 32) 0) s

/-- At the vote (R294, R304): the selected findings veto, raise their advisories and are counted. -/
def State.judgeVote (s : State) (n : Nat) (p : StepSt) : State :=
  let sel := s.selected n p
  if sel = 0 then s
  else
    let s1 := if bit sel 4 then s.adviseSlots n p 1 else s
    let s2 := (s1.adviseWatches n p sel true).count 32 (Obj.vetoCount n)
    if bit sel 0 || bit sel 2 then
      let t := s2.tenant n
      s2.setTenant n { t with spikes := Sparse.set 0 p.step (Sparse.get 0 p.step t.spikes + 1) t.spikes }
    else s2

/-- One watch's statistics after a finite value (R301): mean, variance, samples. -/
def watchUpdate (a mean var samples x : Nat) : Nat × Nat × Nat :=
  if samples = 0 then (x, 0, 1)
  else
    let d := fSub x mean
    (fAdd mean (fMul a d), fMul (fSub fOne a) (fAdd var (fMul a (fMul d d))), (samples + 1) % 2 ^ 32)

/-- A pending stats_reset returns both watches to zero (R301). -/
def State.resetStats (s : State) (n : Nat) : State :=
  if (s.tenant n).statsReset then
    let s1 := s.setTenant n { s.tenant n with statsReset := false }
    ((((((s1.setReg (Obj.lossMean n) 0).setReg (Obj.lossVar n) 0).setReg (Obj.lossSamples n) 0).setReg
      (Obj.gradMean n) 0).setReg (Obj.gradVar n) 0).setReg (Obj.gradSamples n) 0)
  else s

/-- The committing step's loss enters its watch (R301). -/
def State.lossUpdate (s : State) (n a : Nat) : Option Nat → State
  | none => s
  | some x =>
    if !fFinite x then s
    else
      let (m, v, k) := watchUpdate a (s.reg (Obj.lossMean n)) (s.reg (Obj.lossVar n)) (s.reg (Obj.lossSamples n)) x
      (((s.setReg (Obj.lossMean n) m).setReg (Obj.lossVar n) v).setReg (Obj.lossSamples n) k).setReg (Obj.lastLoss n) x

/-- The committing step's gradient norm enters its watch (R301). -/
def State.gradUpdate (s : State) (n a : Nat) : Option Nat → State
  | none => s
  | some x =>
    if !fFinite x then s
    else
      let (m, v, k) := watchUpdate a (s.reg (Obj.gradMean n)) (s.reg (Obj.gradVar n)) (s.reg (Obj.gradSamples n)) x
      (((s.setReg (Obj.gradMean n) m).setReg (Obj.gradVar n) v).setReg (Obj.gradSamples n) k).setReg (Obj.lastGrad n) x

/-- Pending writes to the watch settings take effect (R301, R309). -/
def State.applyWatchCfg (s : State) (n : Nat) : State :=
  match (s.tenant n).pendingCfg with
  | none => s
  | some c =>
    let s1 := s.setTenant n { s.tenant n with pendingCfg := none }
    (((((s1.setReg (Obj.vetoMask n) c.vetoMask).setReg (Obj.spikeK n) c.spikeK).setReg (Obj.ewWeight n) c.ewWeight).setReg
      (Obj.warmupSteps n) c.warmup).setReg (Obj.spikeVetoLimit n) c.spikeLimit).setReg (Obj.lossExpected n)
      (b2n c.lossExpected)

/-- The watch settings in force. -/
def State.watchCfg (s : State) (n : Nat) : WatchCfg :=
  { vetoMask := s.reg (Obj.vetoMask n), spikeK := s.reg (Obj.spikeK n), ewWeight := s.reg (Obj.ewWeight n),
    warmup := s.reg (Obj.warmupSteps n), spikeLimit := s.reg (Obj.spikeVetoLimit n),
    lossExpected := s.reg (Obj.lossExpected n) != 0 }

/-- What a commit or an abort puts in force whether or not the step was open here (R292, R301, R309): the watch settings and the slots'
configurations that were pending. -/
def State.settleJudges (s : State) (n step : Nat) : State := (s.applyWatchCfg n).settleSlots n step

/-- Judges commits a step (R295, R297, R301): of a step open here, the slots by rising number, then the findings that did not veto; a pending
reset of the statistics, then the step's values; then the pending settings. -/
def State.judgesCommit (s : State) (n step : Nat) (open_ : Option StepSt) : State :=
  match open_ with
  | none => (s.resetStats n).settleJudges n step
  | some p =>
    let slots := (s.slots.filter fun q => s.shareHas n q.1).map (·.1)
    let s0 := s.adviseSlots n p 0
    let s1 := slots.foldl (fun t j => t.commitSlot n p.step j) s0
    let s2 := (s1.adviseWatches n p 0 false).resetStats n
    ((s2.lossUpdate n p.cfg.ewWeight p.loss).gradUpdate n p.cfg.ewWeight p.grad).settleJudges n step

/-- The open sets of an aborted step are discarded (R295). -/
def State.dropOpens (s : State) (n step : Nat) : State :=
  { s with slots := Sparse.mapAll {} (fun j v =>
    if s.shareHas n j then { v with opens := v.opens.filter fun q => q.1 != step } else v) s.slots }

/-- Judges at an abort (R295, R301): the open sets of the steps it ends are discarded; a pending reset and pending settings take effect, and
no sample is applied. -/
def State.judgesAbort (s : State) (n : Nat) (ended : List Nat) : State :=
  ended.foldl (fun t k => t.settleSlots n k) (((ended.foldl (fun t k => t.dropOpens n k) s).resetStats n).applyWatchCfg n)

/-! Meanings -/

/-- JUDGES_REPORT (R289): a report reaches its slot. -/
def execJudgesReport (n slot step unit : Nat) (gradient noStep : Bool) (c : Counts) (s : State) :
    Host.Outcome State Fault Refusal :=
  .next (s.judge n slot (if noStep then none else some step) unit gradient c)

/-- Is the step open and not voted on yet (R298)? -/
def State.takesValue (s : State) (n step : Nat) : Bool :=
  match (s.tenant n).step? step with
  | some p => !p.voted
  | none => false

/-- A write for any other step: counted, with a late-write advisory (R298). -/
def State.lateWrite (s : State) (n step value : Nat) : State :=
  (s.count 32 (Obj.lateWriteCount n)).advise n 7 0 0xFFFFFFFF step value 0

/-- LOSS_WRITE (R298). -/
def execLossWrite (sess n step value : Nat) (s : State) : Host.Outcome State Fault Refusal :=
  .next (s.guarded sess (Obj.lossWrite n / 256) 1 fun t =>
    if t.takesValue n step then t.setTenant n ((t.tenant n).modStep step fun p => { p with loss := some value })
    else t.lateWrite n step value)

/-- GRAD_WRITE (R298). -/
def execGradWrite (sess n step value : Nat) (s : State) : Host.Outcome State Fault Refusal :=
  .next (s.guarded sess (Obj.gradWrite n / 256) 6 fun t =>
    if t.takesValue n step then t.setTenant n ((t.tenant n).modStep step fun p => { p with grad := some value })
    else t.lateWrite n step value)

/-- STATS_RESET (R301, R309): 1 resets both watches at the next commit or abort; other values are ignored. -/
def execStatsReset (sess n value : Nat) (s : State) : Host.Outcome State Fault Refusal :=
  .next (s.guarded sess (Obj.statsReset n / 256) 0x0C fun t =>
    if value = 1 then t.setTenant n { t.tenant n with statsReset := true } else t)

/-- SLOT_CHECK_FAIL (R311): the slot is cleared, counted, and a corrected fault is recorded against the ledger agent. -/
def execSlotCheckFail (slot : Nat) (s : State) : Host.Outcome State Fault Refusal :=
  .next (((s.setSlot slot {}).count 32 Obj.slotErrorCount).report (blockReport 1 20 0xC044))

end Sys2Proof.Machine
end

