-- ==== Sys2Proof/Machine/CollOps.lean ====
section
/-!
DEFINITION. How collective instances end: their tokens, failures against a peer (R539) and step aborts (R540).
-/

namespace Sys2Proof.Machine

/-- Change the instances that satisfy a test. -/
def State.mapInsts (s : State) (p : Inst → Bool) (f : Inst → Inst) : State :=
  { s with colls := { s.colls with insts := s.colls.insts.map fun i => if p i then f i else i } }

/-- Take out the instances that satisfy a test. -/
def State.dropInsts (s : State) (p : Inst → Bool) : State :=
  { s with colls := { s.colls with insts := s.colls.insts.filter fun i => !p i } }

/-- Is it the same instance? -/
def Inst.same (i j : Inst) : Bool := i.n == j.n && i.plan == j.plan && i.inst == j.inst && i.step == j.step

/-- Replace an instance. -/
def State.setInst (s : State) (i : Inst) : State := s.mapInsts (fun j => j.same i) fun _ => i

/-- The number under which the agents hold counts of a peer and a plan of a tenant (R522). -/
def collKey (chip n plan : Nat) : Nat := (chip * 16 + n) * 1024 + plan % 1024

/-- Raise a collective event (R543). -/
def State.collEvent (s : State) (i : Inst) (kind peer : Nat) : State :=
  s.raise (Obj.lastCollectiveEvent i.n) (toBytes 1 kind ++ toBytes 1 i.inst ++ toBytes 2 i.plan ++ toBytes 8 i.step ++
    toBytes 2 peer ++ toBytes 10 0 ++ toBytes 8 s.up)

/-- An open instance makes progress: one that had stalled raises a resumed event (R538). -/
def State.progress (s : State) (i : Inst) : State :=
  if i.stalled then (s.setInst { i with stalled := false }).collEvent i 2 0xFFFF else s

/-- An instance ends (R514): its contributors' tokens complete with a status, and runs that come later for it are known as those
of a closed instance (R523). -/
def State.endInst (s : State) (i : Inst) (status : Nat) : State :=
  let s1 := i.contribs.foldl (fun t p => t.finishToken p.core p.ctx i.token status) s
  let s2 := s1.dropInsts fun j => j.same i
  { s2 with colls := { s2.colls with
      closed := s2.colls.closed ++ [(i.n, i.plan, i.step, i.inst)],
      waiting := s2.colls.waiting.filter fun r =>
        !(r.tenant == i.n && r.plan == i.plan && r.inst == i.inst && r.step % 64 == i.step % 64) } }

/-- An instance ends with status 16 (R537, R543): one count for each token, and an event. -/
def State.endFailed (s : State) (i : Inst) (peer : Nat) : State :=
  ((s.endInst i 16).addReg 32 (Obj.instanceFailCount i.n) i.contribs.length).collEvent i 5 peer

/-- An instance fails (R539): its tokens complete with status 16 and each contributing context is faulted. -/
def State.failInst (s : State) (i : Inst) (peer : Nat) : State :=
  i.contribs.foldl (fun t p => t.faultCtx p.core p.ctx (engineId p.core 4) 17 5 0 0) (s.endFailed i peer)

/-- Every instance that waits on a peer fails (R539, R595). -/
def State.failPeer (s : State) (chip : Nat) : State :=
  (s.colls.insts.filter fun i => i.members.contains chip).foldl (fun t i => t.failInst i chip) s

/-- What the agents remember of a tenant's steps that satisfy a test is gone (R509, R540). -/
def State.forgetUses (s : State) (n : Nat) (p : Nat → Bool) : State :=
  { s with colls := { s.colls with
      uses := s.colls.uses.filter fun u => !(u.1 == n && p u.2.2.1),
      closed := s.colls.closed.filter fun u => !(u.1 == n && p u.2.2.1),
      feeds := s.colls.feeds.filter fun u => !(u.1 == n && p u.2.2.1) } }

/-- Does a run name a step from a number on (R520)? The tag holds the low 6 bits of the step, taken as the nearest step. -/
def runFrom (step : Nat) (r : Run) : Bool := decide ((r.step % 64 + 64 - step % 64) % 64 < 32)

/-- A step abort ends the instances of the step and of later ones (R540): their tokens complete with status 17, the runs that wait
for them are discarded, and so are those that come before the step opens again (R523). -/
def State.abortInsts (s : State) (n step : Nat) (ended : List Nat) : State :=
  let gone := s.colls.insts.filter fun i => i.n == n && decide (step ≤ i.step)
  let s1 := gone.foldl (fun t i => t.endInst i 17) s
  let s2 := s1.forgetUses n fun k => decide (step ≤ k)
  { s2 with colls := { s2.colls with
      aborted := s2.colls.aborted ++ (ended.filter fun k => !s2.colls.aborted.contains (n, k)).map fun k => (n, k),
      waiting := s2.colls.waiting.filter fun r => !(r.tenant == n && runFrom step r) } }

/-- All of a tenant's instances end without a completion (R364, R694). -/
def State.clearInsts (s : State) (n : Nat) : State :=
  let s1 := (s.dropInsts fun i => i.n == n).forgetUses n fun _ => true
  { s1 with
    heldWrites := s1.heldWrites.filter fun w => w.tenant != n
    colls := { s1.colls with
      aborted := s1.colls.aborted.filter fun a => a.1 != n
      waiting := s1.colls.waiting.filter fun r => r.tenant != n } }

end Sys2Proof.Machine
end

