-- ==== Sys2Proof/Machine/Links.lean ====
section
/-!
DEFINITION. The die links: their routes, buffers, replay buffers and flits (R21 to R25), and the grants of the arbiters (R496, R497).
-/

namespace Sys2Proof.Machine

/-! Die links (R21 to R25) -/

/-- The links of R21 in the order of its table: 0 to 5 in a row, 6 to 9 across rows, 10 to 17 photonic, 18 to 29 control; the
lower die index first. -/
def dieLinks : List (Nat × Nat) :=
  [(0, 1), (1, 2), (2, 3), (4, 5), (5, 6), (6, 7), (0, 4), (1, 5), (2, 6), (3, 7), (0, 8), (1, 8), (2, 9), (3, 9), (4, 10),
   (5, 10), (6, 11), (7, 11), (0, 12), (1, 12), (2, 12), (3, 12), (4, 12), (5, 12), (6, 12), (7, 12), (8, 12), (9, 12),
   (10, 12), (11, 12)]

/-- The port of a die toward another (R28, R29): compute dies 0 left, 1 right, 2 across, 3 photonic, 4 HUB; photonic dies 0 and
1 their compute dies, 2 HUB; HUB the die's index. -/
def portToward (d e : Nat) : Nat :=
  if d = 12 then e
  else if 8 ≤ d then (if e = 12 then 2 else e % 2)
  else if e = 12 then 4
  else if 8 ≤ e then 3
  else if e + 1 = d then 0
  else if e = d + 1 then 1
  else 2

/-- The identifier of a die's link port (R28, R29). -/
def linkPortId (d port : Nat) : Nat :=
  if d = 12 then unitId 12 2 port else if 8 ≤ d then unitId d 6 (8 + port) else unitId d 17 (8 + port)

/-- One direction of a link by its ends: twice the link's number in R21's order, and 1 more from the higher die index (R495). -/
def linkKey (a b : Nat) : Option Nat :=
  match dieLinks.findIdx? fun l => l == (min a b, max a b) with
  | some i => some (2 * i + (if a < b then 0 else 1))
  | none => none

/-- The dies from compute die x to compute die y, x itself left out: along the row to y's column, then across (R23). -/
def dieWalk (x y : Nat) : List Nat :=
  let cx := x % 4
  let cy := y % 4
  let row := if cx ≤ cy then (List.range (cy - cx)).map fun i => x + i + 1 else (List.range (cx - cy)).map fun i => x - i - 1
  row ++ (if x / 4 = y / 4 then [] else [y])

/-- The compute dies at which traffic of an end point enters or leaves (R23): its own, or the pair of a photonic die. -/
def doorDies (d : Nat) : List Nat := if d < 8 then [d] else [2 * (d - 8), 2 * (d - 8) + 1]

/-- The entry and exit die of two end points (R23): the fewest hops, then the lower entry die, then the lower exit die. -/
def doorsBetween (a b : Nat) : Nat × Nat :=
  let ps := (doorDies a).flatMap fun x => (doorDies b).map fun y => (x, y)
  match ps with
  | [] => (a, b)
  | p :: qs => qs.foldl (fun m q => if (dieWalk q.1 q.2).length < (dieWalk m.1 m.2).length then q else m) p

/-- The dies that traffic from die a crosses to die b, a itself left out (R23): by the control link from or to HUB. -/
def diePath (a b : Nat) : List Nat :=
  if a = b then []
  else if a = 12 ∨ b = 12 then [b]
  else
    let (x, y) := doorsBetween a b
    (if a < 8 then [] else [x]) ++ dieWalk x y ++ (if b < 8 then [] else [b])

/-- A direction of a link. -/
def State.dieLink (s : State) (k : Nat) : DieLink := Sparse.get {} k s.links

/-- Replace it. -/
def State.setDieLink (s : State) (k : Nat) (v : DieLink) : State := { s with links := Sparse.set {} k v s.links }

/-- Flits of a class in the far-side buffer of a direction: those held there by the crossing, and those that wait there for their
next link. -/
def State.linkUsed (s : State) (k cls : Nat) : Nat :=
  ((s.dieLink k).beyond.filter fun f => f.cls == cls).length +
    (s.links.map fun p => (p.2.waiting.filter fun f => f.cls == cls && f.holds == some k).length).sum

/-- Has the far-side buffer room for a flit of a class (R24, R34): 4 flits kept back for each of the six classes, and 96 shared by
all? -/
def State.linkRoom (s : State) (k cls : Nat) : Bool :=
  decide (s.linkUsed k cls < 4) || decide (((List.range 6).map fun c => s.linkUsed k c - 4).sum < 96)

/-- A flit waits at a die for the next link of its path, and asks there (R495): with no die left it has arrived. -/
def State.queueFlit (s : State) (die : Nat) (f : Flit) : State :=
  match f.path with
  | [] => s
  | e :: _ =>
    match linkKey die e with
    | none => s
    | some k =>
      let v := s.dieLink k
      (s.setDieLink k { v with waiting := v.waiting ++ [f] }).ask (0x10 + k) f.cls f.deadline

/-- The dies of a direction: from, toward. -/
def linkEnds (k : Nat) : Nat × Nat :=
  let l := dieLinks.getD (k / 2) (0, 0)
  if k % 2 = 0 then l else (l.2, l.1)

/-- The time in ns for which a crossing delay holds a flit: cycles of the receiving side (R22, R633). -/
def State.crossingNs (s : State) (k : Nat) : Nat :=
  ceilDiv (s.reg (Obj.crossingDelay (k + 1)) * 1000) (s.reg (Obj.clockGrantedMhz (linkEnds k).2))

/-- The flits that a direction has held long enough go on, in order within each class (R24): to their next link, or out at their
last die. -/
def State.settleLink (s : State) (k : Nat) : State :=
  let v := s.dieLink k
  let (kept, gone) := v.beyond.foldl (fun (p : List Flit × List Flit) f =>
    if f.ready ≤ s.up ∧ !p.1.any (fun g => g.cls == f.cls) then (p.1, p.2 ++ [f]) else (p.1 ++ [f], p.2)) ([], [])
  gone.foldl (fun t f => t.queueFlit (linkEnds k).2 { f with holds := some k }) (s.setDieLink k { v with beyond := kept })

/-- The first waiting flit of a class crosses a direction (R24, R25): with its CRC, a copy in the sender's 32-flit replay buffer. -/
def State.crossFlit (s : State) (k cls : Nat) : State :=
  let v := s.dieLink k
  match v.waiting.find? fun f => f.cls == cls with
  | none => s
  | some f =>
    let n := Sparse.get 0 cls v.counts + 1
    let g : Flit := { f with
      number := n, crc := (Config.flitCrc f.data).toNat, path := f.path.drop 1, ready := s.up + s.crossingNs k, holds := none }
    (s.setDieLink k { v with
      waiting := v.waiting.erase f, beyond := v.beyond ++ [g], replay := (g :: v.replay).take 32,
      counts := Sparse.set 0 cls n v.counts }).settleLink k

/-- A flit is replayed from the sender's buffer (R25): the newest one crosses again, so that a crossing delay holds it anew. -/
def State.replayFlit (s : State) (k : Nat) : State :=
  let v := s.dieLink k
  match v.replay with
  | [] => s
  | g :: _ =>
    s.setDieLink k { v with beyond := v.beyond.map fun f =>
      if f.cls = g.cls ∧ f.number = g.number then { f with ready := s.up + s.crossingNs k } else f }

/-- The 256-byte flits of some bytes, the last one filled with zeros (R473). -/
def cutFlits (data : List Byte) : List (List Byte) :=
  (List.range (ceilDiv data.length 256)).map fun i =>
    let x := (data.drop (256 * i)).take 256
    x ++ List.replicate (256 - x.length) 0

/-- Bytes of a class cross from one die to another (R23, R24). -/
def State.crossDies (s : State) (a b cls deadline : Nat) (data : List Byte) : State :=
  (cutFlits data).foldl (fun t x =>
    t.queueFlit a { cls := cls, number := 0, data := x, crc := 0, deadline := deadline, path := diePath a b }) s

/-! Grants (R496, R497) -/

/-- The request a site grants in a cycle (R496), among those whose transfer has room. -/
def State.winner (s : State) (site : Nat) : Option (Nat × Nat × Nat × Nat) :=
  match s.fabric.asks.filter fun a => a.1 == site && (!(decide (0x10 ≤ site) && decide (site < 0x4C)) || s.linkRoom (site - 0x10) a.2.1) with
  | [] => none
  | a :: as => some (as.foldl (fun b c => if s.askBefore site b c then b else c) a)

/-- A site grants one request (R496, R497): the pointer moves past it, a request whose offset had reached 0 counts as a missed
deadline of its requester, and on a die link one flit of the requester's class crosses. -/
def State.grant (s : State) (site : Nat) : State :=
  match s.winner site with
  | none => s
  | some a =>
    let s1 : State := { s with fabric := { s.fabric with
      asks := s.fabric.asks.erase a,
      pointers := Sparse.set 0 site ((a.2.1 + 1) % siteSize site) s.fabric.pointers } }
    let s2 := if a.2.2.1 = 0 then
        let k := Obj.missedDeadlineCounts site
        let v := bits (s1.reg k) (32 * a.2.1) 32
        s1.setReg k (s1.reg k - v * 2 ^ (32 * a.2.1) + (v + 1) % 2 ^ 32 * 2 ^ (32 * a.2.1))
      else s1
    if 0x10 ≤ site ∧ site < 0x4C then s2.crossFlit (site - 0x10) a.2.1 else s2

/-- At each beat the arbiters lower the offsets they hold by 1,024, stopping at 0 (R496). -/
def State.lowerOffsets (s : State) : State :=
  let low := s.fabric.asks.map fun a => (a.1, a.2.1, if a.2.2.1 = 0xFFFFFF then a.2.2.1 else a.2.2.1 - 1024, a.2.2.2)
  { s with fabric := { s.fabric with asks := low } }

/-- The sites of R495. -/
def arbiterSites : List Nat := (List.range 192).filter fun k => decide (k < 0x4C) || (decide (0x50 ≤ k) && (decide (0x80 ≤ k) ||
  decide (k < 0x78)))

/-- The shadowed settings of every site take effect together (R498). -/
def State.commitArbiters (s : State) : State :=
  let set := arbiterSites.filterMap fun k =>
    let v := (s.reg (Obj.requesterOffsets k), s.reg (Obj.classFloors k))
    if v = (regDefault (Obj.requesterOffsets k), regDefault (Obj.classFloors k)) then none else some (k, v)
  { s with fabric := { s.fabric with settings := set } }

end Sys2Proof.Machine
end

