-- ==== Sys2Proof/Machine/FabricOps.lean ====
section
/-!
DEFINITION. Packets and streams (R473 to R491), credits (R484, R485), drawings and their check (R463 to R467), and slalom
steps (R469).
-/

namespace Sys2Proof.Machine

/-! Packets (R473) -/

/-- Packet types (R473). -/
def ptRequest : Nat := 0
def ptReply : Nat := 1
def ptAck : Nat := 2
def ptNak : Nat := 3
def ptRun : Nat := 4
def ptManage : Nat := 5
def ptCredit : Nat := 6

/-- The bit of `flags` that resets the sequence at the destination (R487). The table of R473 names no bit for it: bit 4 (log entry
22). -/
def flagRestart : Nat := 4

/-- Flits of a packet (R473). -/
def flitsOf (p : Packet) : Nat := ceilDiv (64 + p.payload.length) 256

/-- Bytes of a packet. -/
def packetBytes (p : Packet) : Nat := 64 + p.payload.length

/-- Packets of a stream (R487): types 0, 1 and 4 without the unsequenced flag. -/
def sequenced (p : Packet) : Bool := (p.ptype == ptRequest || p.ptype == ptReply || p.ptype == ptRun) && !bit p.flags 3

/-- The number a stream is held under. -/
def streamKey (chip channel : Nat) : Nat := chip * 64 + channel % 64

/-- A stream sent. -/
def State.txStream (s : State) (chip channel : Nat) : TxStream := Sparse.get {} (streamKey chip channel) s.fabric.tx

/-- Replace a stream sent. -/
def State.setTx (s : State) (chip channel : Nat) (v : TxStream) : State :=
  { s with fabric := { s.fabric with tx := Sparse.set {} (streamKey chip channel) v s.fabric.tx } }

/-- A stream received. -/
def State.rxStream (s : State) (chip channel : Nat) : RxStream := Sparse.get {} (streamKey chip channel) s.fabric.rx

/-- Replace a stream received. -/
def State.setRx (s : State) (chip channel : Nat) (v : RxStream) : State :=
  { s with fabric := { s.fabric with rx := Sparse.set {} (streamKey chip channel) v s.fabric.rx } }

/-- A package holds at most 16,384 active streams (R487). -/
def State.activeStreams (s : State) : Nat := (s.fabric.tx.filter fun p => p.2.last != 0).length

/-! Paths and credits -/

/-- A logical lane whose laser is in quarantine carries class M only (R417, R446). -/
def State.laneBarred (s : State) (port lane cls : Nat) : Bool :=
  cls != clsM && s.lane port (s.carrier port lane) == lnQuarantine

/-- A lane of the piste toward a chip (R462): of the tenant, in service, neither lost nor in quarantine (R417). -/
def State.inPiste (s : State) (chip tenant : Nat) (e : LaneEntry) : Bool :=
  e.txChip == chip && e.tenant == tenant && !(s.port e.port).lostLanes.contains e.lane && s.laneUp e.port e.lane &&
  !s.laneBarred e.port e.lane clsC

/-- The port of the piste toward a chip (R462): that of the first of its lanes. -/
def State.pistePort (s : State) (chip tenant : Nat) : Option Nat :=
  match s.fabric.inForce with
  | none => none
  | some d => (d.lanes.find? (s.inPiste chip tenant)).map (·.port)

/-- The logical lanes of a piste on a port, rising (R462). -/
def State.pisteLanes (s : State) (chip tenant port : Nat) : List Nat :=
  match s.fabric.inForce with
  | none => []
  | some d => (List.range 8).filter fun l => d.lanes.any fun e => e.port == port && e.lane == l && s.inPiste chip tenant e

/-- A hop of the base drawing leaves by the port's base lane: in quarantine, class M alone (R417, R480). -/
def State.hopBarred (s : State) (port cls : Nat) : Bool := cls != clsC && s.laneBarred port (s.port port).baseLane cls

/-- The lane by which each flit of a packet leaves: a run's are striped over the lanes of its piste (R462), any other's go by the base lane
(R477). -/
def State.flitLanes (s : State) (port cls : Nat) (p : Packet) : List Nat :=
  let ls := if cls = clsC then s.pisteLanes p.dest p.tenant port else [(s.port port).baseLane]
  (List.range (flitsOf p)).map fun i => ls.getD (i % ls.length) 0

/-- The port and the class by which a packet leaves after some hops (R477, R480): a run on its piste, types 5 and 6 in class M. -/
def State.nextHop (s : State) (p : Packet) : Option (Nat × Nat) :=
  if p.ptype = ptRun then (if p.hops = 0 then (s.pistePort p.dest p.tenant).map fun q => (q, clsC) else none)
  else
    match (route p.source p.dest (bit p.flags 0) (p.ptype == ptRequest))[p.hops]? with
    | none => none
    | some h => some (h.port, if p.ptype = ptManage ∨ p.ptype = ptCredit then clsM else h.cls)

/-- The class of a packet on the hop it arrived by (R477, R480). -/
def arrivalCls (p : Packet) : Nat :=
  if p.ptype = ptRun then clsC
  else if p.ptype = ptManage ∨ p.ptype = ptCredit then clsM
  else
    match (route p.source p.dest (bit p.flags 0) (p.ptype == ptRequest))[p.hops - 1]? with
    | some h => h.cls
    | none => clsM

/-- The port a packet arrives by: rack ports are directed rings and inter-rack ports join one pair, so it is the port of the same
number as that of its last hop (R453, R455); a run's is that of its piste's lane from its source. -/
def State.ingressOf (s : State) (p : Packet) : Option Nat :=
  if p.ptype = ptRun then
    match s.fabric.inForce with
    | none => none
    | some d => (d.lanes.find? fun e => e.rxChip == p.source && e.tenant == p.tenant).map (·.port)
  else ((route p.source p.dest (bit p.flags 0) (p.ptype == ptRequest))[p.hops - 1]?).map (·.port)

/-- The die of a fabric port (R29). -/
def portDie (port : Nat) : Nat := 8 + port / 4

/-- Flits of buffer of each of F0 and F1 at a port (R484): 2 MiB. -/
def creditFlits : Nat := 8192

/-- Bytes of a port's retransmit buffer (R489). -/
def retransmitRoom : Nat := 16 * 2 ^ 20

/-- Flits sent and not yet credited in a class. -/
def Port.out (v : Port) (cls : Nat) : Nat := if cls = clsF0 then v.sent.1 else if cls = clsF1 then v.sent.2 else 0

/-- Has a port the credits for some flits of a class (R484, R485)? -/
def State.hasCredit (s : State) (port cls n : Nat) : Bool :=
  if cls = clsF0 ∨ cls = clsF1 then decide ((s.port port).out cls + n ≤ creditFlits) else true

/-- Use credits. -/
def State.useCredit (s : State) (port cls n : Nat) : State :=
  let v := s.port port
  if cls = clsF0 then s.setPort port { v with sent := (v.sent.1 + n, v.sent.2) }
  else if cls = clsF1 then s.setPort port { v with sent := (v.sent.1, v.sent.2 + n) }
  else s

/-- Credits return (R484). -/
def State.giveCredit (s : State) (port cls n : Nat) : State :=
  let v := s.port port
  if cls = clsF0 then s.setPort port { v with sent := (v.sent.1 - n, v.sent.2) }
  else if cls = clsF1 then s.setPort port { v with sent := (v.sent.1, v.sent.2 - n) }
  else s

/-- The credits freed at a port leave as type 6 packets (R484). -/
def State.sendCredits (s : State) (port : Nat) : State :=
  let v := s.port port
  let s1 := if v.freed.1 = 0 then s else s.emit (.credit port clsF0 v.freed.1)
  let s2 := if v.freed.2 = 0 then s1 else s1.emit (.credit port clsF1 v.freed.2)
  s2.setPort port { v with freed := (0, 0) }

/-- A cumulative count of freed buffers rises, modulo 2^16 (R476). -/
def raiseCount (cls n : Nat) (l : List Nat) : List Nat :=
  (List.range 6).map fun k => (l.getD k 0 + (if k = cls then n else 0)) % 2 ^ 16

/-- Buffers of a class are freed at an ingress port (R476, R484): on a rack port the credits return after every 64 flits. -/
def State.freeFlits (s0 : State) (port cls n : Nat) : State :=
  let s := s0.setPort port { s0.port port with freedAll := raiseCount cls n (s0.port port).freedAll }
  let v := s.port port
  let s1 :=
    if cls = clsF0 then s.setPort port { v with freed := (v.freed.1 + n, v.freed.2) }
    else if cls = clsF1 then s.setPort port { v with freed := (v.freed.1, v.freed.2 + n) }
    else s
  if port < 12 ∧ 64 ≤ (s1.port port).freed.1 + (s1.port port).freed.2 then s1.sendCredits port else s1

/-- One cycle of every die link and every arbiter (R24, R497), and of the flits that wait for credits (R501). -/
def State.arbitrate (s : State) : State :=
  let sites := (s.fabric.asks.map (·.1)).eraseDups
  let s0 := (s.links.map (·.1)).foldl (fun t k => t.settleLink k) s
  let s1 := sites.foldl (fun t k => t.grant k) s0
  let ports := (s1.fabric.transit.filterMap fun p => (s1.nextHop p.2).map (·.1)).eraseDups
  ports.foldl (fun t p => t.count 64 (Obj.creditWaitCycles p)) s1

/-! Sending and acknowledging -/

/-- A packet leaves by a port in a class, with one more hop taken (R473): its flits cross the die links from the die they come from
(R23, R24), credits are used, and the port's scheduler is asked for each flit (R485, R495, R497). -/
def State.leave (s : State) (die port cls : Nat) (p : Packet) : State :=
  let q : Packet := { p with hops := p.hops + 1 }
  let s1 := s.crossDies die (portDie port) cls p.deadline (packetWire q)
  (((s1.useCredit port cls (flitsOf p)).askTimes (flitsOf p) port cls p.deadline)).emit (.packet port (s.flitLanes port cls p) q)

/-- Send a packet of a stream once more (R489): with the resend flag, on the stream's path, from the retransmit buffer of its port
(R29). -/
def State.resendOne (s : State) (p : Packet) (onB : Bool) : State :=
  let q : Packet := { p with flags := p.flags / 4 * 4 + 2 + b2n onB, hops := 0 }
  match s.nextHop q with
  | none => s
  | some (port, cls) => if s.hopBarred port cls then s else (s.leave (portDie port) port cls q).count 64 Obj.resendCount

/-- Which path a stream uses (R479, R490). -/
def State.onPathB (s : State) (dest : Nat) (v : TxStream) : Bool := v.pathB || s.takesB dest

/-- Send packets of a stream again, in order. -/
def State.resendAll (s : State) (dest channel : Nat) (ps : List (Nat × Packet)) : State :=
  let onB := s.onPathB dest (s.txStream dest channel)
  ps.foldl (fun t p => t.resendOne p.2 onB) s

/-- Give back retransmit room (R489, R501). -/
def State.freeRetransmit (s : State) (ps : List (Nat × Packet)) : State :=
  ps.foldl (fun t p => t.setReg (Obj.retransmitBytes p.1) (t.reg (Obj.retransmitBytes p.1) - packetBytes p.2)) s

/-- The instance that forwarded bytes in a packet fails (R539, R602). -/
def State.failSender (s : State) (p : Packet) : State :=
  (s.colls.insts.filter fun i => i.n == p.tenant && i.plan % 64 == p.channel && i.packets.contains (p.dest, p.sequence)).foldl
    (fun t i => t.failInst i p.dest) s

/-- An abandoned packet is reported to its agent (R491): a request's reply slot is freed, and the instance that forwarded bytes in it
fails; a run fails the instances with its peer (R539). -/
def State.abandonPacket (s : State) (p : Packet) : State :=
  let s1 := (({ s with fabric := { s.fabric with unreached := s.fabric.unreached ++ [p] } } : State)).count 32 Obj.unreachableCount
  if p.ptype = ptRequest then
    ({ s1 with fabric := { s1.fabric with replySlots := s1.fabric.replySlots.filter fun r => r != (p.replySlot, p.dest) } } : State).failSender p
  else if p.ptype = ptRun then s1.failPeer p.dest
  else s1

/-- A stream's outstanding packets are abandoned (R491). -/
def State.abandonStream (s : State) (dest channel : Nat) : State :=
  let v := s.txStream dest channel
  let s1 := (s.freeRetransmit v.unacked).setTx dest channel { v with unacked := [], timeouts := 0, busy := false }
  v.unacked.foldl (fun t p => t.abandonPacket p.2) s1

/-! Sending -/

/-- Transit runs wherever the link domain does (R27, R492, R493). -/
def State.linksUp (s : State) : Bool := s.device != devOff && s.device != devHalted

/-- A packet as its source sends it (R473, R487): on path A or B, with its sequence, epoch and drawing. -/
def State.ownPacket (s : State) (p : Packet) : Packet :=
  let v := s.txStream p.dest p.channel
  { p with
    source := s.chip, hops := 0, epoch := s.reg Obj.membershipEpoch,
    flags := b2n (s.onPathB p.dest v) + 8 * b2n (bit p.flags 3) + 16 * b2n (v.released && sequenced p),
    sequence := if sequenced p then v.last + 1 else 0,
    drawingId := if p.ptype = ptRun then s.reg Obj.drawingInForce else 0 }

/-- May a packet be sent by a port in a class (R417, R482, R485, R487)? -/
def State.maySend (s : State) (p : Packet) (port cls : Nat) : Bool :=
  !s.hopBarred port cls && s.hasCredit port cls (flitsOf p) &&
  (!sequenced p || (decide (s.reg (Obj.retransmitBytes port) + packetBytes p ≤ retransmitRoom) &&
    ((s.txStream p.dest p.channel).last != 0 || decide (s.activeStreams < 16384)))) &&
  !(p.ptype == ptRequest && s.fabric.replySlots.any fun r => r.1 == p.replySlot)

/-- What the source holds of a packet it sent: its stream and retransmit buffer (R489), a request's reply slot (R482), and of a
reply, that its request is answered. -/
def State.holdSent (s : State) (p : Packet) (port : Nat) : State :=
  let v := s.txStream p.dest p.channel
  let s1 := if sequenced p then
      (s.setTx p.dest p.channel { v with last := p.sequence, unacked := v.unacked ++ [(port, p)], released := false }).setReg
        (Obj.retransmitBytes port) (s.reg (Obj.retransmitBytes port) + packetBytes p)
    else s
  if p.ptype = ptRequest then
    { s1 with fabric := { s1.fabric with replySlots := s1.fabric.replySlots ++ [(p.replySlot, p.dest)] } }
  else if p.ptype = ptReply then
    { s1 with fabric := { s1.fabric with
        requests := s1.fabric.requests.filter fun q => !(q.source == p.dest && q.replySlot == p.replySlot) } }
  else s1

/-! Receiving -/

/-- Does the first hop toward a chip carry acknowledgements (R417, R477)? -/
def State.answersLeave (s : State) (chip : Nat) : Bool :=
  match (route s.chip chip (s.takesB chip) false)[0]? with
  | some h => !s.hopBarred h.port h.cls
  | none => true

/-- Acknowledge a stream cumulatively (R488): for runs, on a piste to the source where the drawing holds one, else on the base drawing. -/
def State.sendAck (s : State) (chip channel : Nat) : State :=
  let v := s.rxStream chip channel
  let s1 := s.setRx chip channel { v with sinceAck := 0 }
  let piste := v.run.bind fun n => s.pistePort chip n
  if piste.isSome || s.answersLeave chip then s1.emit (.ackPacket chip channel v.last piste) else s1

/-- Answer with a negative acknowledgement (R482, R488): code 0 names the next expected sequence, 1 is busy. -/
def State.sendNak (s : State) (p : Packet) (code : Nat) : State :=
  if s.answersLeave p.source then s.emit (.nakPacket p.source p.channel ((s.rxStream p.source p.channel).last + 1) code) else s

/-- The requests taken and not answered fill the Q buffer of 8 MiB (R482); HUB takes none during a core reset (R492). -/
def State.busyFor (s : State) (p : Packet) : Bool :=
  p.ptype == ptRequest &&
  ((s.device == devBoot && s.reg Obj.lastResetKind == 2) ||
    decide (8 * 2 ^ 20 < ((s.fabric.requests.map fun q => flitsOf q * 256).sum + flitsOf p * 256)))

/-- A packet is delivered (R482, R488): a request is held until it is answered; a reply frees its request's slot. -/
def State.deliver (s : State) (p : Packet) : State :=
  if p.ptype = ptRequest then { s with fabric := { s.fabric with requests := s.fabric.requests ++ [p] } }
  else if p.ptype = ptReply then
    { s with fabric := { s.fabric with replySlots := s.fabric.replySlots.filter fun r => r != (p.replySlot, p.source) } }
  else s

/-- A run of the drawing in force, or within 8 µs of a gate of the one it replaced (R470). -/
def State.drawingGood (s : State) (id : Nat) : Bool :=
  s.reg Obj.drawingInForce == id ||
  (match s.fabric.previous with
   | some d => d.drawingId == id && decide (s.up ≤ s.fabric.changedAt + 8000)
   | none => false)

/-- A packet of a stream arrives (R482, R487, R488); a run of another drawing is discarded and counted (R470). -/
def State.takeSequenced (s : State) (p : Packet) : State :=
  let v0 := s.rxStream p.source p.channel
  let restart : Bool := bit p.flags flagRestart && !(bit p.flags 1 && v0.last == p.sequence)
  let v : RxStream := if restart then { last := p.sequence - 1 } else v0
  if p.ptype = ptRun ∧ s.drawingGood p.drawingId = false then s.count 64 Obj.drawingMismatchCount
  else if p.sequence ≤ v.last then s.sendAck p.source p.channel
  else if p.sequence ≠ v.last + 1 then s.sendNak p 0
  else if s.busyFor p then (s.sendNak p 1).count 32 Obj.busyNakCount
  else
    let s1 := (s.setRx p.source p.channel { last := p.sequence, sinceAck := v.sinceAck + 1,
                                                run := if p.ptype = ptRun then some p.tenant else none }).deliver p
    if 16 ≤ v.sinceAck + 1 then s1.sendAck p.source p.channel else s1

/-- The cumulative count of runs posted that an acknowledgement of a run stream announces (R522). -/
def State.takePosts (s : State) (p : Packet) : State :=
  if p.address % 1024 = 0 then s
  else
    { s with colls := { s.colls with
        announced := Sparse.set 0 (collKey p.source p.tenant p.address) (p.address / 2 ^ 32 % 2 ^ 32) s.colls.announced } }

/-- A run is acknowledged: its instance progresses (R538). -/
def State.runAcked (s : State) (p : Packet) : State :=
  match s.colls.insts.find? fun i => i.n == p.tenant && i.plan % 64 == p.channel && i.packets.contains (p.dest, p.sequence) with
  | some i => s.progress i
  | none => s

/-- An acknowledgement frees what it covers (R489) and announces posts (R522). -/
def State.takeAck (s : State) (p : Packet) : State :=
  let s0 := s.takePosts p
  let v := s.txStream p.source p.channel
  let done := v.unacked.filter fun q => q.2.sequence ≤ p.ackSequence
  if done.isEmpty then s0
  else
    done.foldl (fun t q => t.runAcked q.2) ((s0.freeRetransmit done).setTx p.source p.channel { v with
      unacked := v.unacked.filter (fun q => decide (p.ackSequence < q.2.sequence)), timeouts := 0 })

/-- A negative acknowledgement (R489): a busy one makes the source wait a timeout, any other makes it send again from the sequence
named. -/
def State.takeNak (s : State) (p : Packet) : State :=
  let v := s.txStream p.source p.channel
  if bit p.flags 2 then (if v.unacked.isEmpty then s else s.setTx p.source p.channel { v with busy := true })
  else s.resendAll p.source p.channel (v.unacked.filter fun q => decide (p.ackSequence ≤ q.2.sequence))

/-- A packet of types 0 to 4 whose epoch is this package's takes effect by its type. -/
def State.takePacket (s : State) (p : Packet) : State :=
  if p.ptype = ptAck then s.takeAck p
  else if p.ptype = ptNak then s.takeNak p
  else if sequenced p then s.takeSequenced p
  else if s.busyFor p then (s.sendNak p 1).count 32 Obj.busyNakCount
  else s.deliver p

/-- The epoch rule of R475 for types 0 to 4: an older epoch is discarded and counted, a newer one held; a packet of a fenced chip is
discarded and counted whatever its epoch (R595). -/
def State.epochGate (s : State) (p : Packet) : State :=
  let e := s.reg Obj.membershipEpoch
  if s.fenced p.source ∨ p.epoch < e then s.count 64 Obj.fencedDiscardCount
  else if e < p.epoch then { s with fabric := { s.fabric with held := s.fabric.held ++ [p] } }
  else s.takePacket p

/-- When the epoch advances, the packets held for it take effect or are discarded (R475). -/
def State.releaseHeld (s : State) : State :=
  let ps := s.fabric.held
  ps.foldl (fun t p => t.epochGate p) { s with fabric := { s.fabric with held := [] } }

/-! Transit (R485) -/

/-- Forward a transit packet where the egress has room for all of it (R485) and its lane carries its class (R417): it crosses the die
links between its ports (R23), and its ingress buffers are freed. -/
def State.forward (s : State) (ingress : Nat) (p : Packet) : State :=
  match s.nextHop p with
  | none => s
  | some (port, cls) =>
    if s.hasCredit port cls (flitsOf p) && !s.hopBarred port cls then
      ((s.leave (portDie ingress) port cls p).addReg 64 (Obj.transitFlits port) (flitsOf p)).freeFlits ingress (arrivalCls p)
        (flitsOf p)
    else { s with fabric := { s.fabric with transit := s.fabric.transit ++ [(ingress, p)] } }

/-- Packets that wait in transit try again when credits return. -/
def State.retryTransit (s : State) : State :=
  let ps := s.fabric.transit
  ps.foldl (fun t p => t.forward p.1 p.2) { s with fabric := { s.fabric with transit := [] } }

/-- The cumulative counts of a lane frame's link fields (R476, R484): classes F0 and F1 return their credits. -/
def State.heardCredits (s : State) (port : Nat) (credits : List Nat) : State :=
  let v := s.port port
  let delta := fun (c : Nat) => (credits.getD c 0 + 2 ^ 16 - v.heard.getD c 0 % 2 ^ 16) % 2 ^ 16
  if credits.length ≠ 6 then s
  else
    (((s.setPort port { v with heard := credits }).giveCredit port clsF0 (delta clsF0)).giveCredit port clsF1
      (delta clsF1)).retryTransit

/-- The flits of a good frame join those of their classes at the port (R415, R416). -/
def State.takeSlots (s : State) (port : Nat) (fs : List (Nat × List Byte)) : State :=
  s.setPort port { s.port port with inFlits := (s.port port).inFlits ++ fs }

/-- Some flits without the first n of a class. -/
def dropFlits (cls : Nat) : Nat → List (Nat × List Byte) → List (Nat × List Byte)
  | _, [] => []
  | 0, fs => fs
  | n + 1, f :: fs => if f.1 = cls then dropFlits cls n fs else f :: dropFlits cls (n + 1) fs

/-- A packet has come together from its flits at its ingress port (R473). -/
def State.packetWhole (s : State) (port cls : Nat) (p : Packet) : State :=
  s.setPort port { s.port port with inFlits := dropFlits cls (flitsOf p) (s.port port).inFlits }

/-! Drawings (R463 to R467) -/

/-- The base lane of a port may not be drawn (R460, R466). -/
def drawsBase (e : LaneEntry) : Bool := isBasePort e.port && e.lane == 0

/-- No two lanes of a list share a port and lane, or a port and channel (R454, R466). -/
def lanesDistinct : List LaneEntry → Bool
  | [] => true
  | e :: es => (es.all fun f => !(e.port == f.port && (e.lane == f.lane || e.channel == f.channel))) && lanesDistinct es

/-- A lane's ends are those of its port and channel (R453, R455, R466). -/
def State.laneEndsOk (s : State) (e : LaneEntry) : Bool :=
  if e.port < 12 then
    e.channel != 0 && decide (e.channel < 64) && e.txChip == chipAt (rackOf s.chip) (posOf s.chip + e.channel) &&
    e.rxChip == chipAt (rackOf s.chip) (posOf s.chip + 64 - e.channel) && !(isBasePort e.port && e.channel == baseChannel e.port)
  else
    e.channel == 8 * e.lane + 4 && s.partner (e.port - 12) == some e.txChip && e.rxChip == e.txChip

/-- A lane's axis is one of its tenant and leads where the lane does (R466). -/
def drawnAxisOk (d : Drawing) (e : LaneEntry) : Bool :=
  e.noAxis ||
  match d.axes[e.axis]? with
  | none => false
  | some a => a.tenant == e.tenant && (if e.backward then a.prevChip else a.nextChip) == e.txChip

/-- An axis record within its ranges (R464, log entry 156). -/
def axisOkOwn (a : AxisRec) : Bool :=
  decide (a.axisId < 16) && decide (a.kind ≤ 1) && decide (2 ≤ a.length) && decide (a.length ≤ 16384) &&
  decide (a.coordinate < a.length) && decide (a.tenant < 16)

/-- No axis id twice (R464). -/
def axesDistinct : List AxisRec → Bool
  | [] => true
  | a :: as => (as.all fun b => a.axisId != b.axisId) && axesDistinct as

/-- The check of a drawing (R463 to R466). -/
def State.drawingOk (s : State) (d : Drawing) : Bool :=
  decide (1 ≤ d.drawingId) && decide (d.drawingId ≤ 255) && d.chip == s.chip && decide (d.axes.length ≤ 16) &&
  decide (d.lanes.length ≤ 128) && d.axes.all axisOkOwn && axesDistinct d.axes && lanesDistinct d.lanes &&
  (d.lanes.all fun e => decide (e.port < 16) && decide (e.lane < 8) && decide (e.tenant < 16) && !drawsBase e &&
    s.laneEndsOk e && drawnAxisOk d e) &&
  ((List.range 16).all fun n => decide ((d.lanes.filter fun e => e.tenant == n).length ≤ s.reg (Obj.pisteQuota n)))

/-- The drawing of a slot. -/
def State.stored (s : State) (slot : Nat) : Option Drawing := (s.fabric.store.find? fun p => p.1 = slot).map (·.2)

/-- The stored drawing of an id. -/
def State.drawingNamed (s : State) (id : Nat) : Option Drawing := (s.fabric.store.find? fun p => p.2.drawingId = id).map (·.2)

/-- Is a drawing of this id in force? -/
def State.drawingInForceIs (s : State) (id : Nat) : Bool :=
  match s.fabric.inForce with
  | some d => d.drawingId == id
  | none => false

/-- Store a drawing (R467): it replaces a stored one of its id; the drawing in force cannot be replaced or removed. -/
def State.storeDrawing (s : State) (slot : Nat) (d : Drawing) : State :=
  let there : Bool := match s.stored slot with
    | some o => s.drawingInForceIs o.drawingId
    | none => false
  if there || s.drawingInForceIs d.drawingId then s
  else
    let old := s.fabric.store.filter fun p => p.2.drawingId == d.drawingId && p.1 != slot
    let s1 := old.foldl (fun t p => t.bump (Obj.drawingStore p.1)) (if s.stored slot = some d then s else s.bump (Obj.drawingStore slot))
    { s1 with fabric := { s1.fabric with
        store := Sparse.insert slot d (s1.fabric.store.filter fun p => p.2.drawingId != d.drawingId) } }

/-! Slalom steps (R469, R471) -/

/-- A slalom step cannot be applied in time (R60, R471). -/
def State.lateSlalom (s : State) (step : Nat) : State :=
  ((s.count 32 Obj.slalomLateCount).count 32 Obj.lateEventCount).pisteEvent 3 0 0 step 0

/-- The lane of a drawing in the list, if any. -/
def laneIn (d : Option Drawing) (port lane : Nat) : Option LaneEntry :=
  match d with
  | some v => v.lanes.find? fun e => e.port == port && e.lane == lane
  | none => none

/-- A lane in service retunes in place, its marker out (R441). -/
def State.retune (s : State) (port lane channel : Nat) : State :=
  let l := s.carrier port lane
  (((s.emit (.marker port lane mkRetune)).count 32 (Obj.retuneCount port l)).setReg (Obj.laneChannel port l) channel).setReg
    (Obj.laneChannel port lane) channel

/-- A lane that the drawing puts on a channel (R440, R441, R469): in service on another channel it retunes, by LS where LS carries it, and
on its own channel runs on; off, coming up or in quarantine it comes up there; else it takes the channel when it returns. A lane that
is swapping retunes when the swap ends. -/
def State.drawLane (s : State) (port lane channel : Nat) : State :=
  let l := s.carrier port lane
  let st := s.lane port lane
  if (s.port port).swapLane = some lane then s
  else if inService (s.lane port l) then (if s.reg (Obj.laneChannel port l) = channel then s else s.retune port lane channel)
  else if st = lnOff ∨ st = lnUp ∨ st = lnQuarantine then
    (if st = lnUp ∧ s.reg (Obj.laneChannel port lane) = channel then s else (s.bringUp port lane channel).wakeSpare port)
  else s.setReg (Obj.laneChannel port lane) channel

/-- A lane that the drawing no longer names goes off; LS, where it carries or is to carry it, is free again, and a laser that is retired
stays so (R432, R447). -/
def State.undrawLane (s : State) (port lane : Nat) : State :=
  let v := s.port port
  let s1 := s.setPort port { v with
    swapLane := if v.swapLane = some lane then none else v.swapLane,
    takeover := if v.takeover = some lane then none else v.takeover,
    waxLaser := if v.waxLaser = some lane then none else v.waxLaser }
  let s2 := if v.swapLane = some lane ∨ v.takeover = some lane ∨ s.carrier port lane = spare then s1.freeSpare port else s1
  (if s.lane port lane = lnRetired then s2 else s2.setLane port lane lnOff).settlePort port

/-- The lane that carries the base lane in place of L0 belongs to no drawing (R435, R472). -/
def State.baseTaken (s : State) (port lane : Nat) : Bool := isBasePort port && (s.port port).baseLane == lane

/-- A lane at a slalom gate (R441, R469). -/
def State.slalomLane (s : State) (old new : Option Drawing) (port lane : Nat) : State :=
  if s.baseTaken port lane then s
  else
    match laneIn old port lane, laneIn new port lane with
    | none, none => s
    | _, some b => s.drawLane port lane b.channel
    | some _, none => s.undrawLane port lane

/-- Put a stored drawing in force (R467, R469): the lanes change, lost lanes are forgotten, but for one taken for the base drawing (R472), lanes in quarantine try again
(R446). A step that names the drawing in force changes nothing. -/
def State.putInForce (s : State) (id : Nat) : State :=
  if s.drawingInForceIs id then s
  else
    match s.drawingNamed id with
    | none => s
    | some d =>
      let old := s.fabric.inForce
      let s1 : State := { s with
        fabric := { s.fabric with inForce := some d, previous := old, changedAt := s.up },
        ports := Sparse.mapAll {} (fun p v => { v with lostLanes := v.lostLanes.filter (s.baseTaken p) }) s.ports }
      let s2 := s1.setReg Obj.drawingInForce id
      let s3 := (List.range 128).foldl (fun t i => t.slalomLane old (some d) (i / 8) (i % 8)) s2
      s3.retryQuarantine

/-- The slalom's state follows the steps that wait (R500). -/
def State.settleSlalom (s : State) : State :=
  let waits := s.time.events.filterMap fun e => match e.kind with | .slalom k _ => some (e.gate, k) | _ => none
  match waits with
  | [] => (s.setReg Obj.slalomNext 0).setReg Obj.slalomState (if s.reg Obj.slalomState = 1 then 0 else s.reg Obj.slalomState)
  | w :: ws => s.setReg Obj.slalomNext (ws.foldl (fun b x => if x.1 < b.1 then x else b) w).2

end Sys2Proof.Machine
end

