-- ==== Sys2Proof/Machine/Roce.lean ====
section
/-!
DEFINITION. RoCEv2 as requester and what queue pairs share (R714, R715, R718 to R720): the completion pushes, their resending, the
move to the alternate port, and errors.
-/

namespace Sys2Proof.Machine

/-- A queue pair. -/
def State.qp (s : State) (i : Nat) : Qp := Sparse.get {} i s.eth.qps

/-- Replace a queue pair. -/
def State.setQp (s : State) (i : Nat) (v : Qp) : State := { s with eth := { s.eth with qps := Sparse.set {} i v s.eth.qps } }

/-- Queue pair states (R731). -/
def qpReset : Nat := 0
def qpReady : Nat := 1
def qpError : Nat := 2

/-- The port a queue pair uses: its primary, or its alternate after a move (R718). -/
def Qp.port (v : Qp) : Nat := if v.onAlternate then v.spec.alternate else v.spec.primary

/-- The queue pair a queue pair number names (R715): entry i has the number 0x01_0000 + i. -/
def qpIndex (qpn : Nat) : Option Nat := if 0x10000 ≤ qpn ∧ qpn < 0x10400 then some (qpn - 0x10000) else none

/-- Packet sequences are 24 bits. -/
def psnMod : Nat := 2 ^ 24

/-- How far sequence b lies ahead of a. -/
def psnAhead (a b : Nat) : Nat := (b + psnMod - a) % psnMod

/-- Send a RoCEv2 message of a queue pair by the port it uses, to its peer (R712). -/
def State.sendRdma (s : State) (i : Nat) (m : Msg) : State :=
  let v := s.qp i
  s.sendIp v.port true (addrNum v.spec.remoteAddress) m

/-- The message of a completion push (R392, R718): an RDMA WRITE of the entry's place in the host ring, or a SEND where cq_address
is 0. -/
def State.pushMsg (s : State) (i psn q : Nat) (c : Completion) : Msg :=
  let v := s.queue q
  let dest := if v.cqAddress = 0 then none else some (v.cqAddress + (c.sequence - 1) % v.completionDepth * 32)
  .push (s.qp i).port i psn dest v.cqRkey c

/-- Push a completion of a queue in push mode (R392, R718): on its queue pair, when that is ready; otherwise the entry stays in the
queue's ring (R719). -/
def State.pushCompletion (s : State) (q : Nat) (c : Completion) : State :=
  match qpIndex (s.queue q).cqQp with
  | none => s
  | some i =>
    let v := s.qp i
    if v.spec.state = qpReady then
      let s1 := s.setQp i { v with sendPsn := (v.sendPsn + 1) % psnMod, outstanding := v.outstanding ++ [(v.sendPsn, q, c)] }
      s1.sendRdma i (s1.pushMsg i v.sendPsn q c)
    else s

/-- Send again requests that are not acknowledged (R718). -/
def State.resendPushes (s : State) (i : Nat) (rs : List (Nat × Nat × Completion)) : State :=
  rs.foldl (fun t r => t.sendRdma i (t.pushMsg i r.1 r.2.1 r.2.2)) s

/-- A queue pair enters error (R716, R718): what it waited for is dropped. -/
def State.qpFail (s : State) (i : Nat) : State :=
  let v := s.qp i
  s.setQp i { v with spec := { v.spec with state := qpError }, outstanding := [], held := [], rnr := false }

/-- The retries on a port are exhausted (R718): the queue pair moves to a valid alternate port, counted, and resends from the oldest
unacknowledged packet; without one, or on the alternate port, it enters error. -/
def State.qpExhausted (s : State) (i : Nat) : State :=
  let v := s.qp i
  if v.spec.altValid && !v.onAlternate then
    ((s.setQp i { v with onAlternate := true, retries := 0, rnrTries := 0, rnr := false }).count 32 Obj.pathMigrationCount).resendPushes
      i v.outstanding
  else s.qpFail i

/-- A queue pair becomes ready on its primary port (R715), and pushing resumes from the entry after each queue's head (R719). -/
def State.qpStart (s : State) (i : Nat) (spec : QpSpec) : State :=
  let s1 := s.setQp i { spec := { spec with state := qpReady }, sendPsn := spec.sendPsn, recvPsn := spec.receivePsn }
  (s1.queues.filter fun p => !p.2.pull && qpIndex p.2.cqQp == some i).foldl (fun t p =>
    p.2.ring.foldl (fun u c => u.pushCompletion p.1 c) t) s1

end Sys2Proof.Machine
end

