-- ==== Sys2Proof/Machine/Works.lean ====
section
/-!
DEFINITION. Work items: reading a descriptor (R370 to R372), completions (R389 to R394), the ends of work (R364, R377,
R388), step openings (R567) and placement (R385 to R387).
-/

namespace Sys2Proof.Machine

/-! Work descriptors -/

/-- Bound descriptors and their slots, in binding order (R370, R371). -/
def readBindings (bs : List Byte) : List (Nat × List Byte) :=
  (List.range (min (field bs 0x12 1) 8)).map fun i => (bits (field bs (0x20 + 2 * i) 2) 0 12, (bs.drop (64 + 64 * i)).take 64)

/-- The line ranges that the result bindings fence (R395). -/
def readFences (bs : List Byte) : List (Nat × Nat) :=
  (List.range (min (field bs 0x12 1) 8)).filterMap fun i =>
    if bit (field bs (0x20 + 2 * i) 2) 15 then
      (Desc.ofBytes ((bs.drop (64 + 64 * i)).take 64)).span.map fun p => (p.1 / 64 * 64, p.2 / 64 * 64 + 63)
    else none

/-- Read a work descriptor (R370). -/
def readWork (n q index : Nat) (bs : List Byte) : Work :=
  { tenant := n, queue := q, index := index, step := field bs 0x00 8, microBatch := field bs 0x08 4,
    imageId := field bs 0x0C 4, entryIndex := field bs 0x10 2, rm := bit (field bs 0x13 1) 0, ns := bit (field bs 0x13 1) 1,
    pc := bit (field bs 0x13 1) 2, bar := bit (field bs 0x13 1) 3, coreField := field bs 0x14 2, ctxField := field bs 0x16 1,
    userTag := field bs 0x18 8, bindings := readBindings bs, fences := readFences bs, arg0 := field bs 0x30 8,
    arg1 := field bs 0x38 8, phase := 1 }

/-- Is the step of a closed attempt (R568)? -/
def Tenant.closed (t : Tenant) (step : Nat) : Bool :=
  t.closes.any fun c => c.1 == step && c.2 == Sparse.get 0 step t.attempts

/-- The descriptor is refused (R372, R568, R618); the reserved fields are those of the header and of the bound descriptors (R218,
R370). -/
def State.refuses (s : State) (k : Work) (bs : List Byte) : Bool :=
  let im := s.imageOf k.tenant k.imageId
  (match im with | some (_, i) => decide (i.entries.length ≤ k.entryIndex) | none => true) ||
  decide (8 < field bs 0x12 1) ||
  (k.bindings.any fun b => b.1 == 0) ||
  (k.pc && (!bit (s.reg (Obj.coreSet k.tenant)) k.coreField || decide (512 ≤ k.coreField) ||
    (s.core k.coreField).outOfService)) ||
  (decide (3 < k.ctxField) && k.ctxField != 0xFF) ||
  (bits (field bs 0x13 1) 4 4 != 0) || (field bs 0x17 1 != 0) ||
  ((List.range 8).any fun i => bits (field bs (0x20 + 2 * i) 2) 12 3 != 0) ||
  (k.bindings.any fun b => bit (field b.2 0x3A 1) 7 || bits (field b.2 0x3B 1) 3 5 != 0 || field b.2 0x3C 4 != 0) ||
  (!k.ns && (decide (k.step < s.oldestStep k.tenant) || (s.tenant k.tenant).closed k.step))

/-! Completions -/

/-- The published words become visible with the completion's sequence as their generation (R389). -/
def publishWords (q : Queue) (seq : Nat) (ws : List (Nat × Nat)) : Queue :=
  ws.foldl (fun t w => { t with results := Sparse.set 0 w.1 w.2 t.results, generations := Sparse.set 0 w.1 seq t.generations }) q

/-- The completion of a work item (R391). -/
def completionOf (k : Work) (seq : Nat) : Completion :=
  { sequence := seq, userTag := k.userTag, step := k.step, status := k.status, ctx := k.ctx, core := k.core,
    detail := k.detail }

/-- Write a work item's completion (R389 to R392): the next sequence number, the published words, the ring entry, and in
push mode the RDMA WRITE; its fences lift with it. -/
def State.writeCompletion (s : State) (w : Nat) (k : Work) : State :=
  let q := s.queue k.queue
  let seq := q.lastSequence + 1
  let c := completionOf k seq
  let q1 := publishWords q seq k.published
  let q2 : Queue := { q1 with
    lastSequence := seq, ring := q1.ring ++ [c], placed := q1.placed - (if k.core = 0xFFFF then 0 else 1) }
  let s1 := { s.setQueue k.queue q2 with works := Sparse.erase w s.works }
  if q.pull then s1 else s1.pushCompletion k.queue c

/-- A work item ends: its tag is released when it carries the mark (R275, R378), its slot is freed when it was never
placed (R380), and its completion is written, now or after the queue's completion delay (R633). -/
def State.endWork (s : State) (w : Nat) (k : Work) (status detail : Nat) : State :=
  let k1 : Work := { k with status := status, detail := detail }
  let s1 := if k.rm then s.releaseTags k.tenant fun g => g.microBatch == k.microBatch else s
  let q := s1.queue k.queue
  let s2 := if k.phase = 1 then s1.setQueue k.queue { q with consumed := (q.consumed + 1) % 2 ^ 32 } else s1
  if s2.reg (Obj.completionDelay k.queue) = 0 then s2.writeCompletion w k1
  else s2.setWork w { k1 with phase := 3 }

/-- A context without work has no weight tile, and a partition serves it no longer (R142). -/
def Plane.leave (p : Plane) (x : Nat) : Plane :=
  { p with tag := if p.tag = some x then none else p.tag, tiles := Sparse.erase x p.tiles }

/-- The context of ended work is idle (R377, R394): tokens, scalar registers, bindings and shares are given back. -/
def State.idleCtx (s : State) (c x : Nat) : State :=
  let core := s.core c
  let s1 := s.setCore c { core with kernels := core.kernels.filter fun k => k.ctx != x,
                                    mmodeHeld := core.mmodeHeld.filter (fun m => m.1 != x),
                                    planes := core.planes.map fun p => (p.1, p.2.leave x) }
  let y := s1.ctx c x
  s1.setCtx c x { stackBase := y.stackBase, stackLimit := y.stackLimit, stack := y.stack }

/-- Work on a context ends with a status (R377, R388, R394). -/
def State.endOnCtx (s : State) (c x status : Nat) : State :=
  let y := s.ctx c x
  match s.ctxWork c x with
  | none => s
  | some (w, k) =>
    let detail := if status = 1 then (match y.firstFault with | some f => f.1 + f.2 * 2 ^ 16 | none => 0) else 0
    (s.idleCtx c x).endWork w { k with published := y.published } status detail

/-- Everything the work issued has ended (R377, R388): no token outstanding, no kernel, no matrix instruction, no held
instruction. -/
def State.quiet (s : State) (c x : Nat) : Bool :=
  let y := s.ctx c x
  let core := s.core c
  !(y.tokens.any fun p => p.2 == .outstanding) && !(core.kernels.any fun k => k.ctx == x) &&
  !(core.issued.any fun i => i.ctx == x) && !(core.mmodeHeld.any fun m => m.1 == x)

/-- A context stops at its next instruction boundary (R364, R388): it issues nothing more; its kernels start no further
thread instruction; a write that waits for a version ends without writing. What it has issued runs to its end; the reports of work that a
step's abort ends are discarded (R295). -/
def State.stopCtx (s : State) (c x status : Nat) : State :=
  let y := s.ctx c x
  let core := s.core c
  let s1 := s.setCore c { core with
    kernels := core.kernels.filter fun k => k.ctx != x,
    issued := core.issued.map fun i => if i.ctx = x then { i with discarded := i.discarded || status == 2 } else i }
  s1.setCtx c x { y with stopping := some status, state := 3, waits := .nothing,
                         tokens := y.tokens.filter fun p => p.2 != .outstanding }

/-- End the work items that satisfy a test: those on a context stop there, those not yet placed complete at once with the
status (R364, R388). -/
def State.endWorks (s : State) (p : Work → Bool) (status : Nat) (stopRunning : Bool) : State :=
  s.works.foldl (fun t q =>
    if !p q.2 then t
    else if q.2.phase = 1 then t.endWork q.1 q.2 status 0
    else if q.2.phase = 2 ∧ stopRunning then t.stopCtx q.2.core q.2.ctx status
    else t) s

/-! Steps -/

/-- Service states (R254). -/
def State.serviceFor (s : State) (n step : Nat) : Nat :=
  let t := s.tenant n
  if s.reg (Obj.serviceRequest n) = 2 then 2
  else if Sparse.get 0 step t.attempts ≠ 0 ∧ s.reg (Obj.replayFullKeep n) ≠ 0 then 3
  else if t.commitsSince < s.reg (Obj.startupSteps n) then 1
  else 0

/-- The contexts of a tenant's cores take the stack bounds of a step that opens (R235). -/
def State.takeBounds (s : State) (n : Nat) : State :=
  ((List.range 512).filter fun c => bit (s.reg (Obj.coreSet n)) c).foldl (fun t c =>
    (List.range 4).foldl (fun t2 x =>
      let b := t2.reg (Obj.stackBase c x)
      let l := t2.reg (Obj.stackLimit c x)
      if b = (t2.ctx c x).stackBase ∧ l = (t2.ctx c x).stackLimit then t2
      else (t2.setCtx c x { t2.ctx c x with stackBase := b, stackLimit := l, stack := [] }).setReg (Obj.stackTop c x) b) t) s

/-- Step s opens (R567): its seed (log entry 144), service state and Judges configuration are fixed, its replay slot is sealed (R585),
records waiting to join it join (R112), and a written
accumulation count takes effect (R558). -/
def State.openStep (s : State) (n step : Nat) : State :=
  let t := s.tenant n
  let sv := s.serviceFor n step
  let seed := stepSeed (s.reg (Obj.jobSeed n)) step
  let waits := step = s.oldestStep n
  let k := match t.pendingAccum with | some v => v | none => s.reg (Obj.accumCount n)
  let p : StepSt := { step := step, seed := seed, service := sv, cfg := s.watchCfg n,
                      scaleRecs := if waits then t.waitingRecs else [], samples := s.reg (Obj.microBatchSamples n) * k }
  let slot := step % (let k := s.reg (Obj.ringSlots n); if k = 0 then 1 else k)
  let t1 : Tenant := { t with
    steps := t.steps ++ [p],
    waitingRecs := if waits then [] else t.waitingRecs,
    pendingAccum := none,
    sealedSlots := if s.reg (Obj.slotBytes n) = 0 then t.sealedSlots else t.sealedSlots ||| 2 ^ slot }
  let s0 := { s with colls := { s.colls with aborted := s.colls.aborted.filter fun a => a != (n, step) } }
  let s1 := (((s0.setTenant n t1).setReg (Obj.accumCount n) k).setReg (Obj.stepSeed n) seed).setReg (Obj.seedStep n) step
  (((s1.setReg (Obj.serviceState n) sv).setReg (Obj.stepAttempt n)
    (Sparse.get 0 (s.oldestStep n) t.attempts)).takeBounds n).settleDevice

/-- Open a step unless it is open. -/
def State.ensureStep (s : State) (n step : Nat) : State :=
  if ((s.tenant n).step? step).isSome then s else s.openStep n step

/-! Placement -/

/-- Thread groups free on a core, in rising order. -/
def State.freeGroups (s : State) (c : Nat) : List Nat :=
  (List.range 64).filter fun g => !((List.range 4).any fun x => (s.ctx c x).groups.contains g)

/-- The lowest base where a window of a size fits among the windows taken, in units (R386). -/
def lowestFree (total size : Nat) (taken : List (Nat × Nat)) : Option Nat :=
  (List.range (total + 1 - size)).find? fun b =>
    size = 0 || !(taken.any fun w => w.2 != 0 && decide (b < w.1 + w.2) && decide (w.1 < b + size))

/-- Where a descriptor's shares go on a core: groups, accumulator base, side base (R386). -/
def State.roomOn (s : State) (c groups acc side : Nat) : Option (List Nat × Nat × Nat) :=
  let fg := s.freeGroups c
  if fg.length < groups then none
  else
    let accs := (List.range 4).map fun x => ((s.ctx c x).accBase / 64, (s.ctx c x).accSize / 64)
    let sides := (List.range 4).map fun x => ((s.ctx c x).sideBase / 1024, (s.ctx c x).sideSize / 1024)
    match lowestFree 32 acc accs, lowestFree 64 side sides with
    | some a, some b => some (fg.take groups, a * 64, b * 1024)
    | _, _ => none

/-- The contexts of a core that a descriptor may use (R386). -/
def State.ctxChoices (s : State) (k : Work) (c : Nat) : List Nat :=
  (List.range 4).filter fun x => (s.ctx c x).state == 0 && (k.ctxField == 0xFF || k.ctxField == x)

/-- The cores a descriptor may use, from the tenant's rotating pointer on (R386, R387, R618). -/
def State.coreChoices (s : State) (k : Work) : List Nat :=
  if k.pc then [k.coreField]
  else
    let p := (s.tenant k.tenant).rotCore
    ((List.range 512).map fun i => (p + i) % 512).filter fun c =>
      bit (s.reg (Obj.coreSet k.tenant)) c && s.coreEnabled c && !(s.core c).outOfService

/-- The entry record a descriptor runs (R366). -/
def State.entryOf (s : State) (k : Work) : Option (Nat × Nat × Nat × Nat × Nat) :=
  match s.imageOf k.tenant k.imageId with
  | some (_, im) => im.entries[k.entryIndex]?
  | none => none

/-- The core, context and windows a descriptor takes (R386, R387). -/
def State.placeFor (s : State) (k : Work) : Option (Nat × Nat × List Nat × Nat × Nat) :=
  match s.entryOf k with
  | none => none
  | some (_, _, g, a, b) =>
    (s.coreChoices k).findSome? fun c =>
      match s.ctxChoices k c with
      | [] => none
      | x :: _ =>
        match s.roomOn c g a b with
        | some (gs, ab, sb) => some (c, x, gs, ab, sb)
        | none => none

/-- The first accepted, unplaced descriptor of a queue (R385). -/
def State.queueHead (s : State) (q : Nat) : Option (Nat × Work) :=
  (s.works.filter fun p => p.2.queue == q && p.2.phase == 1).head?

/-- An earlier descriptor of the queue has not completed (R385): one whose submission index comes before. -/
def State.earlierOpen (s : State) (k : Work) : Bool :=
  s.works.any fun p => p.2.queue == k.queue && p.2.index != k.index && decide ((k.index + 2 ^ 32 - p.2.index) % 2 ^ 32 < 2 ^ 31)

/-- A descriptor's conditions (R385, R386, R604); the step ledger agent's word is written before any work is placed (R557). -/
def State.mayPlace (s : State) (k : Work) : Bool :=
  (s.tenant k.tenant).state == 1 && s.isUp &&
  (k.ns || (decide (k.step ≤ s.oldestStep k.tenant + 1) && !(s.tenant k.tenant).populating)) &&
  !(s.heldWrites.any fun w => w.tenant == k.tenant && w.feed.isNone) &&
  (!k.bar || !s.earlierOpen k)

/-- Place work on a context (R373, R386): its registers, its windows, ready. -/
def State.putOn (s : State) (w : Nat) (k : Work) (c x : Nat) (gs : List Nat) (ab sb : Nat) : State :=
  match s.entryOf k with
  | none => s
  | some (start, _, _, a, b) =>
    let y := s.ctx c x
    let regs := [(1, k.arg0), (2, k.arg1), (3, k.microBatch), (4, k.step)].foldl
      (fun m p => Sparse.set 0 p.1 p.2 m) ([] : Sparse Nat)
    let y1 : Ctx := { y with
      state := 1, waits := .nothing, ip := start, sregs := regs, work := some w, groups := gs, accBase := ab,
      accSize := a * 64, sideBase := sb, sideSize := b * 1024, published := [], firstFault := none, stopping := none,
      tokens := [] }
    let q := s.queue k.queue
    let s1 := (s.setCtx c x y1).setWork w { k with phase := 2, core := c, ctx := x }
    let s2 := s1.setQueue k.queue { q with consumed := (q.consumed + 1) % 2 ^ 32, placed := q.placed + 1 }
    let t := s2.tenant k.tenant
    s2.setTenant k.tenant { t with rotCore := if k.pc then t.rotCore else (c + 1) % 512 }

/-- Place a queue's head descriptor when it may be (R385 to R387); its step opens with it (R567). A descriptor for a core
that has left service completes with status 3 (R618). -/
def State.placeHead (s : State) (q : Nat) : State :=
  match s.queueHead q with
  | none => s
  | some (w, k) =>
    if !s.mayPlace k then s
    else if k.pc && (s.core k.coreField).outOfService then s.endWork w k 3 0
    else
      match s.placeFor k with
      | none => s
      | some (c, x, gs, ab, sb) =>
        let s1 := if k.ns then s else s.ensureStep k.tenant k.step
        s1.putOn w k c x gs ab sb

end Sys2Proof.Machine
end

