-- ==== Sys2Proof/Machine/SketchOps.lean ====
section
/-!
DEFINITION. The sketch engine's arithmetic (R549 to R557): selection and signs of blocks, the estimate made at a commit, its
means, and the steering of the accumulation count.
-/

namespace Sys2Proof.Machine

/-- The key of an element block (R549). -/
def blockKey (seed group inst j : Nat) : Nat :=
  mix (seed ^^^ mix (group * 2 ^ 48 ||| inst * 2 ^ 40 ||| j))

/-- Is the block sampled (R549)? -/
def blockSelected (code h : Nat) : Bool := code == 0 || (h >>> (64 - code)) == 0

/-- The signs of a block: element i is negated where bit i is set (R549). -/
def signBlock (h : Nat) (xs : List Nat) : List Nat :=
  (List.range xs.length).zip xs |>.map fun p => if bit (mix h) p.1 then fNeg p.2 else p.2

/-- The number a group's sketch of a step is held under. -/
def skKey (step group : Nat) : Nat := step * 256 + group

/-- A group's sketch of a step. -/
def State.skGroup (s : State) (step group : Nat) : SkGroup := Sparse.get {} (skKey step group) s.sketch.groups

/-- Replace it. -/
def State.setSkGroup (s : State) (step group : Nat) (g : SkGroup) : State :=
  { s with sketch := { s.sketch with groups := Sparse.set {} (skKey step group) g s.sketch.groups } }

/-- A whole number as F32. -/
def fOfNat (k : Nat) : Nat := toF32 (Num.ofInt k)

/-- 2^k as F32. -/
def fPow2 (k : Int) : Nat := toF32 ((Num.ofInt 1).scale k)

/-- The sketch vector of a tap: the four engines' vectors added in die order (R552). -/
def SkGroup.vector (g : SkGroup) (tap : Nat) : List Nat :=
  (List.range 64).map fun i =>
    fTree ((List.range 4).filterMap fun p =>
      match Sparse.get [] (tap * 4 + p) g.vectors with
      | [] => none
      | v => some (v.getD i 0))

/-- The squared norm Q of a tap (R552). -/
def SkGroup.norm2 (g : SkGroup) (code tap : Nat) : Nat :=
  fMul (fPow2 code) (fSub (fTree ((g.vector tap).map fun x => fMul x x)) (Sparse.get 0 tap g.noise))

/-- The quantities of R553. -/
structure NoiseEst where
  small : Nat
  big : Nat
  true_ : Nat
  trace : Nat
  scale : Nat
  deriving DecidableEq, Repr

/-- Form them in F32 (R553); the order of the operations is that of the table read from left to right (log entry 13). -/
def noiseEst (q0 q1 b n : Nat) (meanForm : Bool) : NoiseEst :=
  let fb := fOfNat b
  let fB := fOfNat (n * b)
  let fn := fOfNat n
  let small := if meanForm then q0 else fDiv q0 (fMul fb fb)
  let big := if meanForm then fDiv q1 (fMul fn fn) else fDiv q1 (fMul fB fB)
  let g2 := fDiv (fSub (fMul fB big) (fMul fb small)) (fSub fB fb)
  let tr := fDiv (fSub small big) (fSub (fDiv fOne fb) (fDiv fOne fB))
  { small := small, big := big, true_ := g2, trace := tr, scale := fDiv tr g2 }

/-- The 64 bytes of an estimate record (R563). -/
def estimateBytes (step flags engines members b bigB : Nat) (e : NoiseEst) (smoothed taken skipped up : Nat) : List Byte :=
  toBytes 8 step ++ toBytes 1 flags ++ toBytes 1 engines ++ toBytes 2 members ++ toBytes 4 b ++ toBytes 8 bigB ++
  toBytes 4 e.small ++ toBytes 4 e.big ++ toBytes 4 e.true_ ++ toBytes 4 e.trace ++ toBytes 4 e.scale ++
  toBytes 4 smoothed ++ toBytes 4 taken ++ toBytes 4 skipped ++ toBytes 8 up

/-- The group's smoothed noise scale: the ratio of its means (R554); +0 before the first. -/
def State.smoothedScale (s : State) (g : Nat) : Nat :=
  match s.sketch.means.find? fun p => p.1 == g with
  | some (_, m, t) => fDiv t m
  | none => 0

/-- Move the means by a published step (R554). -/
def State.moveMeans (s : State) (g a true_ trace : Nat) : State :=
  let v := match s.sketch.means.find? fun p => p.1 == g with
    | some (_, m, t) => (fAdd m (fMul a (fSub true_ m)), fAdd t (fMul a (fSub trace t)))
    | none => (true_, trace)
  { s with sketch := { s.sketch with means := Sparse.insert g v s.sketch.means } }

/-- A new estimate record (R555): flags in the order of the table; the record replaces the group's, is delivered, and is
counted. -/
def State.estimate (s : State) (p : StepSt) (group : Nat) (g : SkGroup) : State :=
  let code := s.reg Obj.sampleCode
  let b := p.samples
  let zero : NoiseEst := ⟨0, 0, 0, 0, 0⟩
  let emit : State → Nat → NoiseEst → State := fun t flags e =>
    (t.count 32 (Obj.estimateCount group)).raise (Obj.sketchEstimate group)
      (estimateBytes p.step flags g.engines g.members b (g.members * b) e (if flags = 1 then t.smoothedScale group else 0) g.taken
        g.skipped t.up)
  if g.incomplete || p.spanned then emit s 2 zero
  else if g.members < 2 ∨ b = 0 then emit s 4 zero
  else
    let e := noiseEst (g.norm2 code 0) (g.norm2 code 1) b g.members (s.reg (Obj.meanForm g.n) != 0)
    if fLt 0 e.true_ && fLt 0 e.trace then
      emit (s.moveMeans group (s.reg (Obj.noiseEwWeight g.n)) e.true_ e.trace) 1 e
    else emit s 8 { e with trace := 0, scale := 0 }

/-- Every group the tenant sketched in a step gets its record at the commit (R555), and the step's sketches and its blocks not yet
projected are gone (log entry 151). -/
def State.estimateAll (s : State) (n : Nat) (p : StepSt) : State :=
  let mine := (s.sketch.groups.filter fun q => q.2.n == n && q.1 / 256 == p.step).map fun q => (q.1 % 256, q.2)
  let s1 := mine.foldl (fun t q => t.estimate p q.1 q.2) s
  { s1 with sketch := { s1.sketch with
      groups := s1.sketch.groups.filter fun q => !(q.2.n == n && q.1 / 256 == p.step)
      queues := Sparse.mapAll [] (fun _ l => l.filter fun b => !(b.n == n && b.step == p.step)) s1.sketch.queues } }

/-- Sketches of aborted steps are discarded, and their blocks that still wait (R555). -/
def State.dropSketches (s : State) (n step : Nat) : State :=
  { s with sketch := { s.sketch with
      groups := s.sketch.groups.filter fun q => !(q.2.n == n && decide (step ≤ q.1 / 256)),
      queues := Sparse.mapAll [] (fun _ l => l.filter fun b => !(b.n == n && decide (step ≤ b.step))) s.sketch.queues } }

/-- round(gain × scale ÷ d), halves rounded up (R556); 0 for a value that is not finite or not positive. -/
def steerRound (gain scale d : Nat) : Nat :=
  match ofF32 gain, ofF32 scale with
  | .fin false m e, .fin false v f =>
    let x := m * v
    let k := e + f
    if d = 0 then 0
    else if 0 ≤ k then (2 * (x * 2 ^ k.toNat) + d) / (2 * d)
    else (2 * x + d * 2 ^ (-k).toNat) / (2 * d * 2 ^ (-k).toNat)
  | _, _ => 0

/-- Clamp a number. -/
def clampNat (lo hi v : Nat) : Nat := if v < lo then lo else if hi < v then hi else v

/-- The published flag of a group's estimate for a step (R563). -/
def State.published (s : State) (g step : Nat) : Bool :=
  let r := s.reg (Obj.sketchEstimate g)
  bits r 0 64 == step && bit r 64

/-- The steering member's proposal after a commit (R556). -/
def State.steer (s : State) (n step members : Nat) : Option Nat :=
  let g := s.reg (Obj.steerGroup n)
  let k := s.reg (Obj.accumCount n)
  let chip := s.reg (Obj.steerChip n)
  let lo := s.reg (Obj.accumMin n)
  let hi := max lo (s.reg (Obj.accumMax n))
  if s.reg (Obj.steerMode n) = 1 ∧ chip ≠ 0xFFFF ∧ chip = s.chip ∧ (s.tenant n).members.contains chip ∧
      s.published g step ∧ s.reg (Obj.steerHoldSteps n) ≤ (s.tenant n).sinceChange then
    let star := steerRound (s.reg (Obj.steerGain n)) (s.smoothedScale g) (s.reg (Obj.microBatchSamples n) * members)
    let new := clampNat lo hi (clampNat (ceilDiv k 2) (2 * k) star)
    if new = k then none else some new
  else none

/-- A carried proposal takes effect (R557): the count, its word in memory, and the count of changes. -/
def State.applyProposal (s : State) (n : Nat) : Option Nat → State
  | none => s.setTenant n { s.tenant n with sinceChange := (s.tenant n).sinceChange + 1 }
  | some k =>
    let s1 := ((s.setTenant n { s.tenant n with sinceChange := 0 }).setReg (Obj.accumCount n) k).count 32
      (Obj.steerChangeCount n)
    let a := s.reg (Obj.steerAddress n)
    if a = 0 then s1
    else s1.engineWrite { tenant := n, offset := offOf a, bytes := toBytes 8 k, feed := none, unit := 0xC044, access := 1 }

/-- noise_sigma of an engine is its σ at the code in force, as its last calibration measured it (R552, R559, R561). -/
def State.showSigma (s : State) (engine : Nat) : State :=
  s.setReg (Obj.noiseSigma engine) (Sparse.get 0 (engine * 8 + s.reg Obj.sketchIntegration) s.sketch.sigmas)

/-- The settings of R560 take effect at a gate: groups of open steps become incomplete. -/
def State.applySketchSettings (s : State) : State :=
  if s.sketch.pendingCode.isNone && s.sketch.pendingPeriod.isNone then s
  else
    let s1 := match s.sketch.pendingCode with | some v => s.setReg Obj.sampleCode v | none => s
    let s2 := match s.sketch.pendingPeriod with
      | some v => (List.range 4).foldl State.showSigma (s1.setReg Obj.sketchIntegration v)
      | none => s1
    { s2 with
      sketch := { s2.sketch with pendingCode := none, pendingPeriod := none },
      tenants := Sparse.mapAll {} (fun _ (t : Tenant) =>
        { t with steps := t.steps.map fun p => { p with spanned := true } }) s2.tenants }

end Sys2Proof.Machine
end

