-- ==== Sys2Proof/Machine/Steps.lean ====
section
/-!
DEFINITION. What a step's commit and abort do on this package (R579 to R581, R264, R242), and the records of continuity
events (R611).
-/

namespace Sys2Proof.Machine

/-! Events (R611) -/

/-- The 32 bytes of a continuity event. -/
def eventBytes (kind tenant chip epoch step detail up : Nat) : List Byte :=
  toBytes 1 kind ++ toBytes 1 tenant ++ toBytes 2 chip ++ toBytes 4 epoch ++ toBytes 8 step ++ toBytes 8 detail ++
  toBytes 8 up

/-- Raise a ledger event of a tenant (R611). -/
def State.ledgerEvent (s : State) (n kind chip step detail : Nat) : State :=
  s.raise (Obj.lastLedgerEvent n) (eventBytes kind n chip (s.reg Obj.membershipEpoch) step detail s.up)

/-- Raise a mirror event of a tenant (R611). -/
def State.mirrorEvent (s : State) (n kind chip base : Nat) : State :=
  s.raise (Obj.lastMirrorEvent n) (eventBytes kind n chip (s.reg Obj.membershipEpoch) 0 base s.up)

/-- Raise a membership event (R611). -/
def State.memberEvent (s : State) (kind chip : Nat) : State :=
  s.raise Obj.lastMembershipEvent (eventBytes kind 0xFF chip (s.reg Obj.membershipEpoch) 0 0 s.up)

/-! Update records (R262, R264) -/

/-- ⌊log2⌋ of a positive finite F32. -/
def floorLog2 (w : Nat) : Int :=
  match ofF32 w with
  | .fin _ m e => e + Nat.log2 m
  | _ => 0

/-- Roll an update record at the commit of a step (R264). A record whose line is poisoned is not rolled, and is reported
(R614). -/
def State.rollUpdate (s0 : State) (n step off : Nat) : State :=
  let s := s0.meetInjections n [off] .plain 0xC044 2
  if s.lineBad n off .plain then
    s.report { cls := 2, cause := 3, reporter := 0xC044, master := 0xC044, access := 2, partition := 0,
               address := s.globalAddr off, work := none, injected := s.poisonInjected off }
  else
    let u := s.recField n off 4
    let s1 := if s.recField n (off + 0x08) 4 = step % 2 ^ 32 then s else s.setField n (off + 0x0C) 4 u
    let s2 := if bit (s.recField n (off + 0x05) 1) 0 && fFinite u && fLt 0 u then
        s1.setField n (off + 0x04) 1 (wrapInt 8 (clampInt (-126) 126 (14 - floorLog2 u)))
      else s1
    (s2.setField n (off + 0x08) 4 (step % 2 ^ 32)).setField n off 4 0

/-- At an abort the record's maximum is set to 0.0 (R264). -/
def State.clearUpdate (s : State) (n off : Nat) : State := s.setField n off 4 0

/-! Stacks (R242) -/

/-- Every stack of the tenant returns to its base; at a commit a stack that still holds entries is counted (R242). -/
def State.emptyStacks (s : State) (n : Nat) (commit : Bool) : State :=
  (s.ctxs.filter fun p => bit (s.reg (Obj.coreSet n)) (p.1 / 4)).foldl (fun t p =>
    let c := p.1 / 4
    let x := p.1 % 4
    let y := t.ctx c x
    let left := t.reg (Obj.stackTop c x) != y.stackBase
    let t1 := (t.setCtx c x { y with stack := [] }).setReg (Obj.stackTop c x) y.stackBase
    if commit && left then t1.count 32 (Obj.stackLeftoverCount c x) else t1) s

/-! Replay slots (R584 to R586) -/

/-- Slots of the tenant's ring (R587): values outside 2 to 4 are read as 3. -/
def State.ringSlotsOf (s : State) (n : Nat) : Nat :=
  let k := s.reg (Obj.ringSlots n)
  if 2 ≤ k ∧ k ≤ 4 then k else 3

/-- Unseal the slot of a step (R579, R581). -/
def State.unseal (s : State) (n step : Nat) : State :=
  let t := s.tenant n
  let m := 2 ^ (step % s.ringSlotsOf n)
  s.setTenant n { t with sealedSlots := if t.sealedSlots &&& m = 0 then t.sealedSlots else t.sealedSlots - m }

/-! Settings that wait for a commit or abort (R564) -/

/-- Pending settings take effect. -/
def State.applyPendingRegs (s : State) (n : Nat) : State :=
  let t := s.tenant n
  t.pendingRegs.foldl (fun u p => u.setReg p.1 p.2) (s.setTenant n { t with pendingRegs := [] })

/-- step_attempt: the attempt of the oldest uncommitted step (R583). -/
def State.showAttempt (s : State) (n : Nat) : State :=
  s.setReg (Obj.stepAttempt n) (Sparse.get 0 (s.oldestStep n) (s.tenant n).attempts)

/-! Commit -/

/-- The records of a committing step roll (R109, R264, R526). -/
def State.rollRecords (s : State) (n : Nat) (p : StepSt) : State :=
  let s1 := p.scaleRecs.foldl (fun t o => t.rollScale n p.step o) s
  let s2 := p.updRecs.foldl (fun t o => t.rollUpdate n p.step o) s1
  (p.exchRecs.filter fun o => !p.scaleRecs.contains o).foldl (fun t o => t.rollScale n p.step o) s2

/-- The part of a commit that acts on a step open here (R579, steps 2 and 3; R555), and what Judges does at every commit (R301, R309). -/
def State.commitOpen (s : State) (n step : Nat) : Option StepSt → State
  | some p => (((s.rollRecords n p).judgesCommit n step (some p)).unseal n step).estimateAll n p
  | none => s.judgesCommit n step none

/-- The members of the steering group's last sketch, as its record holds them (R563). -/
def State.steerMembers (s : State) (n : Nat) : Nat := bits (s.reg (Obj.sketchEstimate (s.reg (Obj.steerGroup n)))) 80 16

/-- Records that wait for the oldest uncommitted step join it when it is open (R112). -/
def State.joinWaiting (s : State) (n : Nat) : State :=
  let t := s.tenant n
  let k := s.oldestStep n
  match t.step? k with
  | none => s
  | some _ =>
    s.setTenant n { (t.modStep k fun p => { p with
      scaleRecs := p.scaleRecs ++ t.waitingRecs.filter fun o => !p.scaleRecs.contains o }) with waitingRecs := [] }

/-- Apply the commit of a step on this package (R579), its five parts in order. -/
def State.applyCommit (s : State) (n step : Nat) (proposal : Option Nat) : State :=
  let open_ := (s.tenant n).step? step
  let s2 := (s.commitVersions n).commitOpen n step open_
  let s3 := (s2.emptyStacks n true).applyProposal n proposal
  let t := s3.tenant n
  let s4 := (s3.setTenant n { t with
    steps := t.steps.filter fun p => p.step != step,
    closes := t.closes.filter fun c => decide (step < c.1),
    attempts := Sparse.keep (fun k _ => decide (step < k)) t.attempts,
    spikes := Sparse.keep (fun k _ => decide (step < k)) t.spikes,
    decisions := t.decisions.filter fun d => decide (step ≤ d.step),
    votes := t.votes.filter fun m => decide (step < m.step),
    ownVote := none, sentVote := false,
    commitsSince := t.commitsSince + 1 }).setReg (Obj.committedStep n) step
  let s5 := (((s4.forgetUses n fun k => decide (k ≤ step)).count 64 (Obj.commitCount n)).applyPendingRegs n).joinWaiting n
  let s6 := s5.setTenant n { s5.tenant n with proposal := s5.steer n step (s5.steerMembers n) }
  (s6.showAttempt n).settleDevice

/-! Abort -/

/-- What the abort of an open step discards of its records (R581). -/
def State.abortOpen (s : State) (n : Nat) (p : StepSt) : State :=
  let s1 := (p.scaleRecs ++ p.exchRecs).foldl (fun t o => t.clearScale n p.step o) s
  let s2 := p.updRecs.foldl (fun t o => t.clearUpdate n o) s1
  s2.unseal n p.step

/-- The steps that an abort from a step on ends: that step and every later open one. -/
def Tenant.endedBy (t : Tenant) (step : Nat) : List Nat :=
  step :: ((t.steps.filter fun p => decide (step < p.step)).map (·.step))

/-- Bit 8 of R571: previous step aborted. -/
def causePrev : Nat := 256

/-- Writes of step-less work that wait for a buffer of the aborted step's pending version end, and write nothing (R274). -/
def State.endVersionWaits (s : State) (n : Nat) : State :=
  { s with
    ctxs := s.ctxs.map fun p =>
      match s.ctxWork (p.1 / 4) (p.1 % 4), p.2.waits with
      | some (_, k), .version _ =>
        if k.tenant = n ∧ k.ns ∧ p.2.state = 3 then (p.1, { p.2 with state := 1, waits := .nothing, ip := p.2.ip + 16 }) else p
      | _, _ => p
    cores := s.cores.map fun p =>
      (p.1, { p.2 with kernels := p.2.kernels.map fun k =>
        match s.ctxWork p.1 k.ctx with
        | some (_, w) =>
          let ends : Nat → Bool := fun g => k.held.any fun h => h.1 == g && h.2.isVersion
          if w.tenant = n ∧ w.ns then
            { k with groups := k.groups.map (fun q => if ends q.1 then (q.1, q.2.1, q.2.2 + 16) else q),
                     held := k.held.filter fun h => !h.2.isVersion }
          else k
        | none => k }) }

/-- A member applies an abort (R581, R388, R540, R270, R275, R295, R111, R264, R242, R586): every open step from the aborted
one onward ends; its attempt number rises and its close is cleared. -/
def State.abortFrom (s : State) (n step causes : Nat) : State :=
  let t := s.tenant n
  let opens := t.steps.filter fun p => decide (step ≤ p.step)
  let ended := t.endedBy step
  let whole : Bool := decide (step ≤ s.oldestStep n)
  let s1 := s.endWorks (fun k => k.tenant == n && !k.ns && decide (step ≤ k.step)) 2 true
  let s2 := s1.abortInsts n step ended
  let s3 := if whole then (s2.endVersionWaits n).abortVersions n else s2
  let s4 := s3.releaseTags n fun g => match g.step with | some k => decide (step ≤ k) | none => false
  let s5 := (opens.foldl (fun u p => u.abortOpen n p) s4).judgesAbort n ended
  let s6 := (s5.dropSketches n step).emptyStacks n false
  let u := s6.tenant n
  let s7 := s6.setTenant n { u with
    steps := u.steps.filter fun p => decide (p.step < step),
    closes := u.closes.filter fun c => decide (c.1 < step),
    attempts := ended.foldl (fun m k => Sparse.set 0 k (Sparse.get 0 k m + 1) m) u.attempts,
    votes := u.votes.filter fun m => decide (m.step < step),
    ownVote := if whole then none else u.ownVote, sentVote := !whole && u.sentVote, querying := !whole && u.querying,
    reports := if whole then [] else u.reports, lateVeto := !whole && u.lateVeto }
  let s8 := (s7.count 64 (Obj.abortCount n)).applyPendingRegs n
  let s9 := ended.foldl (fun v k => v.ledgerEvent n 8 0xFFFF k (if k = step then causes else causePrev)) s8
  (s9.showAttempt n).settleDevice

end Sys2Proof.Machine
end

