-- ==== Sys2Proof/Machine/LedgerOps.lean ====
section
/-!
DEFINITION. The step ledger's shared operations (R565 to R582): the vote tree, messages and their acknowledgement, votes and
their combination, decisions, and what a changed job epoch brings about.
-/

namespace Sys2Proof.Machine

/-! Members and the vote tree (R566, R572) -/

/-- The job's members: the list written, or this package alone where none is (log entry 14). -/
def State.membersOf (s : State) (n : Nat) : List Nat :=
  if (s.tenant n).members.isEmpty then [s.chip] else (s.tenant n).members

/-- The live set (R566), in increasing chip number. -/
def State.liveOf (s : State) (n : Nat) : List Nat :=
  if (s.tenant n).members.isEmpty then [s.chip] else (s.tenant n).live

/-- The lowest set bit of a number, as a power of two. -/
def lowBit (i : Nat) : Nat := ((List.range 16).find? fun k => bit i k).elim 0 fun k => 2 ^ k

/-- The parent of index i (R572); none for the root. -/
def parentOf (i : Nat) : Option Nat := if i = 0 then none else some (i - lowBit i)

/-- The children of index i in a live set of a size (R572). -/
def childrenOf (size i : Nat) : List Nat :=
  let top := if i = 0 then size else lowBit i
  ((List.range 16).filter fun k => decide (2 ^ k < top) && decide (i + 2 ^ k < size)).map fun k => i + 2 ^ k

/-- This package's index in the live set. -/
def State.indexIn (s : State) (n : Nat) : Nat := (s.liveOf n).idxOf s.chip

/-- The chips of a package's children in the tree. -/
def State.childChips (s : State) (n : Nat) : List Nat :=
  let l := s.liveOf n
  (childrenOf l.length (s.indexIn n)).map fun i => l.getD i 0xFFFF

/-- Is this package the root (R572)? -/
def State.isRoot (s : State) (n : Nat) : Bool := (s.liveOf n).head? == some s.chip

/-- The attempt number of a step (R581, R583). -/
def State.attemptOf (s : State) (n step : Nat) : Nat := Sparse.get 0 step (s.tenant n).attempts

/-! Messages (R574) -/

/-- A ledger message of this package with only its identity set. -/
def State.ledgerMsg (s : State) (n kind step : Nat) : LedgerMsg :=
  { kind := kind, veto := false, mismatch := false, hasProposal := false, voted := false, commitHeld := false,
    commitApplied := false, attempt := s.attemptOf n step, jobEpoch := s.reg (Obj.jobEpoch n), step := step,
    jobId := s.reg (Obj.ledgerJobId n), sender := s.chip, voters := 0, causes := 0, findings := 0, proposal := 0,
    commitGate := 0, nonfinite := 0, loss := 0, gradNorm := 0, agreement := List.replicate 32 0 }

/-- Send a message; it is sent again until the receiver acknowledges it (R574). -/
def State.sendLedger (s : State) (n dest : Nat) (m : LedgerMsg) : State :=
  (s.setTenant n { s.tenant n with unacked := (s.tenant n).unacked ++ [(dest, m)] }).emit (.ledger dest m)

/-- Send a message to every child (R572). -/
def State.sendDown (s : State) (n : Nat) (m : LedgerMsg) : State :=
  (s.childChips n).foldl (fun t c => t.sendLedger n c { m with sender := s.chip }) s

/-- The identity of a message (R574, R566). -/
def msgIdent (m : LedgerMsg) : Nat × Nat × Nat × Nat × Nat × Nat :=
  (m.jobId, m.step, m.attempt, m.kind, m.sender, m.jobEpoch)

/-- The admitted tenant that runs a job. -/
def State.tenantOfJob (s : State) (job : Nat) : Option Nat :=
  s.admitted.find? fun n => s.reg (Obj.ledgerJobId n) == job

/-- Receive a message: it is acknowledged; a repeat of one already applied is ignored (R574). Messages of no job of this
package are not taken. -/
def State.takeLedger (s : State) (m : LedgerMsg) (f : Nat → State → State) : State :=
  match s.tenantOfJob m.jobId with
  | none => s
  | some n =>
    let s1 := s.emit (.ledger m.sender { m with kind := 4, sender := s.chip })
    let t := s1.tenant n
    if t.seenMsgs.contains (msgIdent m) then s1
    else
      let kept := t.seenMsgs.filter fun i => decide (s.reg (Obj.committedStep n) < i.2.1 + 4)
      f n (s1.setTenant n { t with seenMsgs := [msgIdent m] ++ kept })

/-! Votes (R570 to R576) -/

/-- The agreement digest (R575). -/
def State.agreement (s : State) (n step : Nat) : List Byte :=
  let p := (s.tenant n).step? step
  let seed := match p with | some q => q.seed | none => stepSeed (s.reg (Obj.jobSeed n)) step
  let sv := match p with | some q => q.service | none => s.serviceFor n step
  sha256 (toBytes 4 (s.reg (Obj.ledgerJobId n)) ++ toBytes 8 step ++ toBytes 2 (s.attemptOf n step) ++
    toBytes 4 (s.reg (Obj.jobEpoch n)) ++ toBytes 8 seed ++ toBytes 2 (s.reg (Obj.accumCount n)) ++
    toBytes 2 (s.curVersion n) ++ toBytes 1 sv ++ toBytes 2 (s.liveOf n).length)

/-- Non-finite elements that the tenant's slots counted in a step. -/
def State.stepNonfinite (s : State) (n step : Nat) : Nat :=
  ((s.slots.filter fun p => s.shareHas n p.1).map fun p =>
    match p.2.openOf step with | some (_, t) => t.nonfinite | none => 0).sum % 2 ^ 64

/-- This package's vote on its oldest uncommitted step (R571, R574). -/
def State.makeVote (s : State) (n step : Nat) : LedgerMsg :=
  let t := s.tenant n
  let p := t.step? step
  let sel := match p with | some q => s.selected n q | none => 0
  let causes := b2n (sel != 0) + 2 * b2n (match p with | some q => q.faulted | none => false) + 128 * b2n t.lateVeto
  let base := s.ledgerMsg n 1 step
  { base with
    veto := causes != 0, causes := causes, findings := sel, voters := 1,
    hasProposal := t.proposal.isSome, proposal := t.proposal.getD 0, nonfinite := s.stepNonfinite n step,
    loss := match p with | some q => q.loss.getD 0 | none => 0,
    gradNorm := match p with | some q => q.grad.getD 0 | none => 0, agreement := s.agreement n step }

/-- Everything of the step, and every step-less write to a pending version, has ended (R570, R278, R294). -/
def State.stepQuiet (s : State) (n step : Nat) : Bool :=
  !(s.works.any fun p => p.2.tenant == n &&
    ((!p.2.ns && p.2.step == step) ||
     (p.2.ns && p.2.phase == 2 && s.awaitsVersion p.2.core p.2.ctx)))

/-- The conditions of R570. -/
def State.mayVote (s : State) (n step : Nat) : Bool :=
  let t := s.tenant n
  t.state == 1 && s.isUp && t.ownVote.isNone && t.closes.contains (step, s.attemptOf n step) && s.stepQuiet n step &&
  s.coordinated && !t.populating &&
  (match t.step? step with
   | some p => !p.cfg.lossExpected || p.loss.isSome
   | none => s.reg (Obj.lossExpected n) == 0)

/-- Combine two votes (R573). -/
def combineVotes (a b : LedgerMsg) : LedgerMsg :=
  { a with
    voters := a.voters + b.voters, veto := a.veto || b.veto, causes := a.causes ||| b.causes,
    findings := a.findings ||| b.findings, nonfinite := (a.nonfinite + b.nonfinite) % 2 ^ 64, loss := fMax a.loss b.loss,
    gradNorm := fMax a.gradNorm b.gradNorm, hasProposal := a.hasProposal || b.hasProposal,
    proposal := if a.hasProposal then a.proposal else b.proposal,
    mismatch := a.mismatch || b.mismatch || a.agreement != b.agreement ||
      (a.hasProposal && b.hasProposal && a.proposal != b.proposal) }

/-- The children whose vote on an attempt has not arrived. -/
def State.missingVotes (s : State) (n : Nat) (own : LedgerMsg) : List Nat :=
  (s.childChips n).filter fun c =>
    !((s.tenant n).votes.any fun m => m.sender == c && m.step == own.step && m.attempt == own.attempt &&
      m.jobEpoch == own.jobEpoch)

/-- The combined vote of this package and its children, once all have come (R572). -/
def State.combined (s : State) (n : Nat) : Option LedgerMsg :=
  match (s.tenant n).ownVote with
  | none => none
  | some own =>
    if (s.missingVotes n own).isEmpty then
      some (((s.tenant n).votes.filter fun m => (s.childChips n).contains m.sender && m.step == own.step &&
        m.attempt == own.attempt && m.jobEpoch == own.jobEpoch).foldl combineVotes own)
    else none

/-! Decisions (R576 to R580) -/

/-- Has an attempt been decided here? -/
def State.decided (s : State) (n step attempt : Nat) : Bool :=
  (s.tenant n).decisions.any fun d => d.step == step && d.attempt == attempt

/-- Keep a decision. -/
def State.keepDecision (s : State) (n : Nat) (d : Decision) : State :=
  s.setTenant n { s.tenant n with decisions := (s.tenant n).decisions ++ [d] }

/-- The proposal a message carries (R574). -/
def carriedBy (m : LedgerMsg) : Option Nat := if m.hasProposal then some m.proposal else none

/-- The decision a message brings. -/
def decisionOf (m : LedgerMsg) (commit : Bool) : Decision :=
  { step := m.step, attempt := m.attempt, commit := commit, gate := if commit then m.commitGate / 1024 else 0,
    proposal := if commit then carriedBy m else none }

/-- A member takes a commit (R579, R580): it schedules it in an entry reserved for ledger commits, and sends it down. One that this
package has decided or applied already only goes down the tree (R582); one of another attempt, or of a step still to come, changes
nothing. -/
def State.takeCommit (s : State) (n : Nat) (m : LedgerMsg) : State :=
  if m.step < s.oldestStep n then s.sendDown n m
  else if m.step ≠ s.oldestStep n ∨ m.attempt ≠ s.attemptOf n m.step then s
  else if s.decided n m.step m.attempt then s.sendDown n m
  else
    ((s.keepDecision n (decisionOf m true)).sendDown n m).schedule
      ⟨m.commitGate / 1024, .commit n m.step m.attempt (match carriedBy m with | some v => v + 1 | none => 0) m.commitApplied⟩

/-- A member takes an abort (R581) and sends it down; an attempt that it has ended already (R582) ends once. -/
def State.takeAbort (s : State) (n : Nat) (m : LedgerMsg) : State :=
  if m.step < s.oldestStep n ∨ s.attemptOf n m.step < m.attempt then s
  else if m.attempt ≠ s.attemptOf n m.step ∨ s.decided n m.step m.attempt then s.sendDown n m
  else (((s.keepDecision n (decisionOf m false)).sendDown n m).abortFrom n m.step m.causes)

/-- The root aborts an attempt (R576, R578). -/
def State.decideAbort (s : State) (n step causes : Nat) : State :=
  let base := s.ledgerMsg n 3 step
  s.takeAbort n { base with causes := causes }

/-- The gate a commit names (R579): the first gate at least commit_lead_beats after the decision. -/
def State.commitGateOf (s : State) (n : Nat) : Nat := gateFrom (s.beatNo + s.reg (Obj.commitLeadBeats n)) s.gatePeriod

/-- The root decides on the combined vote (R575 to R577): a mismatch is cause 5 and event 10, a lost quorum cause 6 and
event 17. -/
def State.decideVote (s : State) (n : Nat) (v : LedgerMsg) : State :=
  let quorum : Bool := decide ((s.membersOf n).length < 2 * (s.liveOf n).length)
  let causes := v.causes ||| (if v.mismatch then 32 else 0) ||| (if quorum then 0 else 64)
  if v.veto || v.mismatch || !quorum then
    let s1 := if v.mismatch then s.ledgerEvent n 10 0xFFFF v.step 0 else s
    let s2 := if quorum then s1 else s1.ledgerEvent n 17 0xFFFF v.step 0
    s2.decideAbort n v.step causes
  else
    let base := s.ledgerMsg n 2 v.step
    s.takeCommit n { base with
      commitGate := s.commitGateOf n * 1024, hasProposal := v.hasProposal, proposal := v.proposal, voters := v.voters }

/-- A vote goes up once this package holds its own and its children's (R572); at the root it is decided once it carries as
many voters as the live set holds (R576). -/
def State.voteUp (s : State) (n : Nat) : State :=
  match s.combined n with
  | none => s
  | some v =>
    if (s.tenant n).sentVote then s
    else if s.isRoot n then
      if v.voters = (s.liveOf n).length ∧ !s.decided n v.step v.attempt then
        (s.setTenant n { s.tenant n with sentVote := true }).decideVote n v
      else s
    else
      match parentOf (s.indexIn n) with
      | none => s
      | some i =>
        (s.setTenant n { s.tenant n with sentVote := true }).sendLedger n ((s.liveOf n).getD i 0xFFFF)
          { v with sender := s.chip }

/-- At its gate a scheduled commit is applied (R579); one whose gate has passed, or that was given a new gate (R582), is late: counted, reported, and the next
vote vetoes with cause 7 (R580, R60). -/
def State.runCommit (s : State) (n step attempt proposal gate : Nat) (late : Bool) : State :=
  if step ≠ s.oldestStep n ∨ attempt ≠ s.attemptOf n step then s
  else
    let s1 := s.applyCommit n step (if proposal = 0 then none else some (proposal - 1))
    if late || decide (gate < s.beatNo) then
      let s2 := s1.setTenant n { s1.tenant n with lateVeto := true }
      ((s2.count 32 (Obj.commitLateCount n)).count 32 Obj.lateEventCount).ledgerEvent n 11 0xFFFF step 0
    else s1.setTenant n { s1.tenant n with lateVeto := false }

/-! A changed job epoch (R582) -/

/-- The other members of the live set. -/
def State.others (s : State) (n : Nat) : List Nat := (s.liveOf n).filter fun c => c != s.chip

/-- The new root sends a commit it knows of again: at its original gate when that is ahead, else at a new one, marked as late (R582, log
entry 152). -/
def State.resendCommit (s : State) (n : Nat) (d : Decision) : State :=
  let ahead : Bool := decide (s.beatNo < d.gate)
  let base := s.ledgerMsg n 2 d.step
  s.takeCommit n { base with
    attempt := d.attempt, commitGate := (if ahead then d.gate else s.commitGateOf n) * 1024, commitApplied := !ahead,
    hasProposal := d.proposal.isSome, proposal := d.proposal.getD 0 }

/-- Once every other live member has reported, the new root sends the commit that some report holds again, or aborts
(R582). -/
def State.resolveQuery (s : State) (n : Nat) : State :=
  let t := s.tenant n
  let k := s.oldestStep n
  if !t.querying || !((s.others n).all fun c => t.reports.any fun m => m.sender == c && m.step == k) then s
  else
    let s1 := s.setTenant n { t with querying := false }
    match t.decisions.find? fun d => d.step == k && d.attempt == s.attemptOf n k && d.commit with
    | some d => s1.resendCommit n d
    | none =>
      match t.reports.find? fun m => m.step == k && (m.commitHeld || m.commitApplied) with
      | some m => s1.resendCommit n (decisionOf m true)
      | none => s1.decideAbort n k 8

/-- A step whose attempt is open here, past a vote, when the job epoch changes (R578, R582): the root decides its abort, another member
aborts it at once. -/
def State.abortUnvoted (s : State) (n step : Nat) : State :=
  if ((s.tenant n).step? step).isNone then s
  else if s.isRoot n then s.decideAbort n step 8
  else s.abortFrom n step 8

/-- The live set or its epoch has changed (R582, R578): the tree is built again; a member that has not voted aborts its open
attempt, and the root aborts the attempt; a root that has voted sends a state query. -/
def State.jobEpochChange (s : State) (n epoch : Nat) : State :=
  let t := s.tenant n
  let s1 := (((s.setTenant n { t with
      votes := t.votes.filter fun m => m.jobEpoch == epoch, reports := [], querying := false }).setReg (Obj.jobEpoch n) epoch).setReg
    (Obj.liveMembers n) t.live.length).setReg (Obj.ledgerRoot n) (t.live.head?.getD 0xFFFF)
  if t.state ≠ 1 then s1
  else
    let k := s1.oldestStep n
    let s2 := match t.decisions.find? fun d => d.step + 1 == k && d.commit with
      | some d => if s1.isRoot n then s1.resendCommit n d else s1
      | none => s1
    if t.ownVote.isSome then
      let s3 := if s2.isRoot n then
          let q := s2.ledgerMsg n 5 k
          ((s2.others n).foldl (fun u c => u.sendLedger n c q)
            (s2.setTenant n { s2.tenant n with querying := true })).resolveQuery n
        else s2
      s3.abortUnvoted n (k + 1)
    else if s2.isRoot n then s2.decideAbort n k 8
    else s2.abortUnvoted n k

end Sys2Proof.Machine
end

