-- ==== Sys2Proof/Machine/MemberOps.lean ====
section
/-!
DEFINITION. The membership epoch and fencing (R593 to R598), what a fence does to mirrors (R606, R608) and to the cadence
(R53).
-/

namespace Sys2Proof.Machine

/-! Mirrors of a fenced buddy -/

/-- An entry that is paired: unpopulated, populating or live (R600). -/
def Mirror.paired (m : Mirror) : Bool := decide (1 ≤ m.state) && decide (m.state ≤ 3)

/-- A mirror entry whose buddy is fenced is orphaned: after live, or before (R606). -/
def Mirror.orphan (chip : Nat) (m : Mirror) : Mirror :=
  if m.buddy = chip ∧ m.paired then { m with state := if m.state = 3 then 4 else 5 } else m

/-- A tenant's mirror entries when a chip is fenced: events 12 and 13 (R606, R608, R611). -/
def State.orphanMirrors (s : State) (n chip : Nat) : State :=
  let old := (s.tenant n).mirrors
  let hit := old.filter fun m => m.buddy == chip && m.paired
  if hit.isEmpty then s
  else
    let s1 := (s.bump (Obj.mirrorTable n)).setTenant n { s.tenant n with
      mirrors := old.map (Mirror.orphan chip), populating := (s.tenant n).populating &&
        ((old.map (Mirror.orphan chip)).any fun m => m.state == 2) }
    hit.foldl (fun t m =>
      if m.state = 3 then t.mirrorEvent n 12 chip m.localBase
      else if m.role = 2 ∧ !(old.any fun k => k.role == 2 && k.buddy == chip && k.buddyBase == m.buddyBase && k.state == 3) then
        t.mirrorEvent n 13 chip m.localBase
      else t) s1

/-! Cadence master (R53) -/

/-- The live package of the base drawing with the lowest chip number. -/
def State.lowestLive (s : State) : Option Nat :=
  (List.range (64 * 2 ^ s.reg Obj.rackBits)).find? fun c => !s.fenced c

/-- This package becomes cadence master under a term one above the highest it has seen (R52, R53). -/
def State.becomeMaster (s : State) : State :=
  let term := (s.time.seenTerm + 1) % 2 ^ 32
  let s1 : State := { s with time := { s.time with seenTerm := term, inBand := 0, rest := 0 } }
  ((((s1.setReg Obj.cadenceRole 1).setReg Obj.cadenceTerm term).setReg Obj.cadenceMasterChip s.chip).setReg Obj.upstreamPort
    0xFF).setReg Obj.cadenceState cadLocked

/-- When the cadence master is fenced, the lowest live member takes over (R53). -/
def State.cadenceTakeover (s : State) (chip : Nat) : State :=
  if s.reg Obj.cadenceMasterChip = chip ∧ s.time.seenTerm ≠ 0 ∧ s.lowestLive = some s.chip then s.becomeMaster else s

/-! Lives (R593) -/

/-- The membership epoch: the sum of all lives modulo 2^32. -/
def State.epochOf (s : State) : Nat := ((s.life.map (·.2)).sum) % 2 ^ 32

/-- Write a life; the epoch follows, and the packets held for it (R475). -/
def State.setLife (s : State) (chip v : Nat) : State :=
  let s0 := if s.lifeOf chip = v % 2 ^ 16 then s else s.bump Obj.lifeTable
  let s1 : State := { s0 with life := Sparse.set 0 chip (v % 2 ^ 16) s0.life }
  (s1.setReg Obj.membershipEpoch s1.epochOf).releaseHeld

/-- Send a change on every base lane (R594). -/
def State.sendLife (s : State) (chip v : Nat) : State := s.baseLanes.foldl (fun t i => t.emit (.lifeChange i chip v)) s

/-- Put a chip in the avoided list of at most 256, with the epoch of that moment (R479). -/
def State.avoid (s : State) (chip : Nat) : State :=
  if s.avoids chip ∨ 256 ≤ s.fabric.avoided.length then s
  else { s with fabric := { s.fabric with avoided := s.fabric.avoided ++ [(chip, s.reg Obj.membershipEpoch)] } }

/-- Take a chip out of it. -/
def State.unavoid (s : State) (chip : Nat) : State :=
  { s with fabric := { s.fabric with avoided := s.fabric.avoided.filter fun a => a.1 != chip } }

/-- A chip's identity is seen under an epoch (R479): under a newer one than that at which it entered, it leaves the avoided list. -/
def State.seenUnder (s : State) (chip epoch : Nat) : State :=
  { s with fabric := { s.fabric with avoided := s.fabric.avoided.filter fun a => a.1 != chip || decide (epoch ≤ a.2) } }

/-- This package finds its own life odd (R596): its steps end, its work completes with status 2, it is FENCED. -/
def State.enterFenced (s : State) : State :=
  if !s.isUp then s
  else
    let s1 := s.notFree.foldl (fun t n => if (t.tenant n).steps.isEmpty then t else t.abortFrom n (t.oldestStep n) 8) s
    let s2 := s1.endWorks (fun _ => true) 2 true
    (s2.enter devFenced).memberEvent 4 s.chip

/-- A tenant's live set loses a chip (R595). -/
def State.loseMember (s : State) (n chip : Nat) : State :=
  let t := s.tenant n
  if t.live.contains chip then
    (s.setTenant n { t with live := t.live.filter (fun c => c != chip),
                            unacked := t.unacked.filter (fun u => u.1 != chip) }).jobEpochChange n
      (s.reg Obj.membershipEpoch)
  else s

/-- What a newly fenced chip brings about here (R595). -/
def State.fenceApply (s : State) (chip : Nat) : State :=
  if chip = s.chip then s.enterFenced
  else
    let s1 := s.avoid chip
    let s2 := (List.range 16).foldl (fun t n => t.loseMember n chip) s1
    let s3 := s2.failPeer chip
    let s4 := (List.range 16).foldl (fun t n => t.orphanMirrors n chip) s3
    s4.cadenceTakeover chip

/-- Fence a chip as a verdict of this package (R593, R595): its life rises from even to odd, the change is sent, and the
event is raised. A chip already fenced is unchanged. -/
def State.fenceChip (s : State) (chip event : Nat) : State :=
  let v := s.lifeOf chip
  if v % 2 = 1 then s
  else (((s.setLife chip (v + 1)).sendLife chip (v + 1)).memberEvent event chip).fenceApply chip

/-- A chip that was fenced and rejoined unseen has left its jobs (R566). -/
def State.loseAll (s : State) (chip : Nat) : State := (List.range 16).foldl (fun t n => t.loseMember n chip) s

/-- Adopt a change: the larger life wins (R594). It is forwarded once; a fence or a rejoin takes effect. -/
def State.adoptLife (s : State) (chip v : Nat) : State :=
  let old := s.lifeOf chip
  if v ≤ old then s
  else
    let s1 := (s.setLife chip v).sendLife chip v
    if v % 2 = 1 then
      if old % 2 = 1 then s1 else (if chip = s1.chip then s1 else s1.memberEvent 1 chip).fenceApply chip
    else
      let s2 := (s1.memberEvent 5 chip).unavoid chip
      if old % 2 = 0 then s2.loseAll chip else s2

end Sys2Proof.Machine
end

