-- ==== Sys2Proof/Machine/Cadence.lean ====
section
/-!
DEFINITION. The cadence (R44 to R56): its master, the upstream a package follows, locking, holdover, and the gate period. The
beat itself is in Beat.lean.
-/

namespace Sys2Proof.Machine

/-- The cadence unit works from the start-up of firmware on: not while the package is off, halted or in RECOVERY. -/
def State.cadenceRuns (s : State) : Bool :=
  s.device != devOff && s.device != devHalted && s.device != devRecovery

/-- Hops between a chip and the master over the base drawing (R45), along the lanes by which beats come from the master (log entry
133). -/
def hopsTo (chip master : Nat) : Nat := fewestHops master chip

/-- The neighbour heard on a base port. -/
def State.heardOn (s : State) (port : Nat) : Option Nat :=
  ((List.range 10).find? fun i => basePort i == port).bind fun i => s.baseFrom i

/-- Is a neighbour a better upstream than the one followed (R45): fewer hops to the master, then the lower chip number? -/
def State.betterUpstream (s : State) (chip master : Nat) : Bool :=
  s.reg Obj.upstreamPort == 0xFF ||
  decide (hopsTo chip master < hopsTo s.time.upstreamChip master) ||
  (hopsTo chip master == hopsTo s.time.upstreamChip master && decide (chip < s.time.upstreamChip))

/-- Follow the frames of a master (R52). -/
def State.followTerm (s : State) (f : BeatFrame) : State :=
  if f.term = s.reg Obj.cadenceTerm ∧ f.master = s.reg Obj.cadenceMasterChip then s
  else
    ({ ((s.setReg Obj.cadenceTerm f.term).setReg Obj.cadenceMasterChip f.master).setReg Obj.cadenceRole 0 with
      time := { s.time with heard := [] } }).setReg Obj.upstreamPort 0xFF

/-- Note that a neighbour supplies beats on a port (R49). -/
def State.noteHeard (s : State) (port chip : Nat) : State :=
  { s with time := { s.time with heard := Sparse.insert port (chip, s.up) s.time.heard } }

/-- Take the frame's sender as upstream where it is the better one, and from the upstream its time and gate period (R45, R56).
An acquiring package takes its time from it (log entry 21). -/
def State.takeFrame (s : State) (f : BeatFrame) (chip : Nat) : State :=
  let s1 := if s.betterUpstream chip f.master then
      { s.setReg Obj.upstreamPort f.port with time := { s.time with upstreamChip := chip, inBand := 0 } }
    else s
  if s1.reg Obj.upstreamPort ≠ f.port then s1
  else
    let s2 := s1.setReg Obj.gatePeriodBeats f.period
    { s2 with time := { s2.time with
        periods := if f.nextBeat = 0 then [] else [(f.nextPeriod, f.nextBeat)],
        cad := if s2.reg Obj.cadenceState = cadAcquiring then f.cad else s2.time.cad } }

/-- Does this package follow a frame (R52): a higher term than any seen, or the followed term from a master that is not above
the followed one? A master gives way only to a higher term. -/
def State.follows (s : State) (f : BeatFrame) : Bool :=
  decide (s.time.seenTerm < f.term) ||
  (s.reg Obj.cadenceRole == 0 && f.term == s.time.seenTerm && decide (f.master ≤ s.reg Obj.cadenceMasterChip))

/-- BEAT_FRAME_RECEIVE (R45, R52, R56). -/
def execBeatFrameReceive (f : BeatFrame) (s : State) : Host.Outcome State Fault Refusal :=
  if !s.cadenceRuns || !s.follows f then .next s
  else
    match s.heardOn f.port with
    | none => .next s
    | some c =>
      let s1 := { s with time := { s.time with seenTerm := max s.time.seenTerm f.term } }
      .next (((s1.followTerm f).noteHeard f.port c).takeFrame f c)

/-- The offset is beyond 500 ns (R48, R49): locked and holdover end; in READY, and while acquiring, the package takes the
upstream's time at once; in ADMITTED and RUNNING it goes on slewing. -/
def State.offsetLost (s : State) (offsetPs : Int) : State :=
  let st := s.reg Obj.cadenceState
  let s1 := if st = cadLocked ∨ st = cadHoldover then s.setReg Obj.cadenceState cadUnlocked else s
  if s1.device = devReady ∨ st = cadAcquiring then
    { s1 with time := { s1.time with cad := ((s1.time.cad : Int) - offsetPs / 1000).toNat, rest := 0 } }
  else s1

/-- The one-way delay of the upstream link in ps (R45, R461): on an inter-rack port half of the way there and back; on a rack port, whose
base lane hears another package than the one it sends to, half the sum of the two packages' loop delays. -/
def State.pathDelay (s : State) (flightPs returnPs : Int) : Int :=
  let p := s.reg Obj.upstreamPort
  if p < 12 then (((s.laser p 0).loopDelay + (s.port p).farLoop : Nat) : Int) / 2 else (flightPs + returnPs) / 2

/-- CADENCE_DELAY_MEASUREMENT (R45, R46, R48, R49, R461). `flightPs` is the arrival of a block by this package's time less the time at which
its sender says it left; `returnPs`, on an inter-rack port, the arrival of a block of this package by its far end's echo less the time at
which it left. The offset is what the flight takes beyond the delay; the rate of cadence time then works it off (`rest`, by at most 10
ppm, State.tick). -/
def execCadenceDelayMeasurement (m : Flight) (s : State) : Host.Outcome State Fault Refusal :=
  if !s.cadenceRuns || s.reg Obj.cadenceRole == 1 || s.reg Obj.upstreamPort == 0xFF then .next s
  else
    let offsetPs := m.flightPs - s.pathDelay m.flightPs m.returnPs
    let s1 := s.setReg Obj.cadenceOffsetPs (wrapInt 32 offsetPs)
    let band := if offsetPs.natAbs ≤ 5000 then min 16 (s.time.inBand + 1) else 0
    let s2 := { s1 with time := { s1.time with inBand := band, rest := offsetPs * 100 } }
    .next (if 500000 < offsetPs.natAbs then s2.offsetLost offsetPs else s2)

/-- CADENCE_LOCK (R46, R48, R49): after 16 measurements in a row within 5 ns. -/
def execCadenceLock (s : State) : Host.Outcome State Fault Refusal :=
  .next (if s.cadenceRuns && s.reg Obj.cadenceRole == 0 && s.time.inBand == 16 then s.setReg Obj.cadenceState cadLocked else s)

/-- The neighbours that supply beats: those heard within the last 4 beats (R49), the upstream apart. -/
def State.supplying (s : State) : List (Nat × Nat) :=
  (s.time.heard.filter fun p => decide (s.up ≤ p.2.2 + 4096) && p.1 != s.reg Obj.upstreamPort).map fun p => (p.1, p.2.1)

/-- The next upstream under R45 among them: a port and its chip. -/
def State.nextUpstream (s : State) : Option (Nat × Nat) :=
  let m := s.reg Obj.cadenceMasterChip
  s.supplying.foldl (fun b p =>
    match b with
    | none => some p
    | some q => if hopsTo p.2 m < hopsTo q.2 m ∨ (hopsTo p.2 m = hopsTo q.2 m ∧ p.2 < q.2) then some p else b) none

/-- UPSTREAM_TIMEOUT (R45, R49): no frame from the upstream on a port (0xFF while there is none) for 4 beats; the next upstream is taken, or a locked package enters
holdover where no neighbour supplies beats. -/
def execUpstreamTimeout (upstream : Nat) (s : State) : Host.Outcome State Fault Refusal :=
  if !s.cadenceRuns || s.reg Obj.cadenceRole == 1 || s.reg Obj.upstreamPort != upstream then .next s
  else
    let s1 : State := { s with time := { s.time with inBand := 0, heard := Sparse.erase (s.reg Obj.upstreamPort) s.time.heard } }
    match s.nextUpstream with
    | some (port, chip) => .next { s1.setReg Obj.upstreamPort port with time := { s1.time with upstreamChip := chip } }
    | none =>
      let s2 := s1.setReg Obj.upstreamPort 0xFF
      .next (if s2.reg Obj.cadenceState = cadLocked then
        (s2.setReg Obj.cadenceState cadHoldover).count 32 Obj.holdoverCount else s2)

/-- HOLDOVER_EXPIRY (R49). -/
def execHoldoverExpiry (s : State) : Host.Outcome State Fault Refusal :=
  .next (if s.reg Obj.cadenceState = cadHoldover then s.setReg Obj.cadenceState cadUnlocked else s)

/-- CADENCE_ROLE_WRITE (R52, R54): 1 makes a follower master; the first master of a fabric starts cadence time at zero. Any
other write changes nothing. -/
def execCadenceRoleWrite (sess value : Nat) (s : State) : Host.Outcome State Fault Refusal :=
  .next (s.guarded sess 0x2000 5 fun t =>
    if value = 1 ∧ t.reg Obj.cadenceRole ≠ 1 then
      let t1 := if t.time.seenTerm = 0 then { t with time := { t.time with cad := 0 } } else t
      t1.becomeMaster
    else t)

/-- GATE_PERIOD_WRITE (R55, R56): on the master; in force from the first multiple of 4,096 beats at least 8,192 beats on. Each period
accepted takes effect at its own beat. -/
def execGatePeriodWrite (sess value : Nat) (s : State) : Host.Outcome State Fault Refusal :=
  .next (s.guarded sess 0x2001 1 fun t =>
    if t.reg Obj.cadenceRole = 1 then
      { t with time := { t.time with
          periods := t.time.periods ++ [(roundGate value, gateFrom (t.beatNo + 8192) 4096)] } }
    else t)

/-- GATE_PERIOD_CHANGE (R56): the periods whose beat is reached come into force, in the order they were accepted. -/
def execGatePeriodChange (s : State) : Host.Outcome State Fault Refusal :=
  let due := s.time.periods.filter fun p => decide (p.2 ≤ s.beatNo)
  if due.isEmpty ∨ s.reg Obj.cadenceState = cadAcquiring then .next s
  else
    .next (due.foldl (fun (t : State) p => t.setReg Obj.gatePeriodBeats p.1)
      { s with time := { s.time with periods := s.time.periods.filter fun p => decide (s.beatNo < p.2) } })

end Sys2Proof.Machine
end

