-- ==== Sys2Proof/Machine/Mirrors.lean ====
section
/-!
DEFINITION. Shard mirrors (R600 to R609): the mirror table, pairing, population and verification.
-/

namespace Sys2Proof.Machine

/-- The tensor table entry of a tenant at a base; of a versioned tensor its first buffer. -/
def State.entryAt (s : State) (n base : Nat) : Option Entry :=
  (s.entries.find? fun p => p.2.tenant == n && p.2.base == base).map (·.2)

/-- The bytes of the copy that holds the current version (R604). -/
def State.shardBytes (s : State) (n base : Nat) : List Byte :=
  match s.entryAt n base with
  | some e => s.peekBytes n base .plain (64 * e.lines)
  | none => []

/-- Change the mirror entries of a tenant by their place in the table. -/
def State.setMirror (s : State) (n i : Nat) (m : Mirror) : State :=
  let old := (s.tenant n).mirrors
  let shown := match old[i]? with | some k => k.state != m.state | none => false
  (if shown then s.bump (Obj.mirrorTable n) else s).setTenant n { s.tenant n with mirrors := old.set i m }

/-- A mirror entry as it is written: unpaired (R600). -/
def MirrorSpec.toMirror (m : MirrorSpec) : Mirror :=
  { localBase := m.localBase, buddy := m.buddyChip, buddyBase := m.buddyBase, role := m.role, state := 0,
    tensorId := m.tensorId }

/-- A promotion that R606 refuses: role 1 over a role 2 entry that is neither live nor orphaned after live. -/
def Tenant.badPromotion (t : Tenant) (m : MirrorSpec) : Bool :=
  m.role == 1 && t.mirrors.any fun k => k.localBase == m.localBase && k.role == 2 && k.state != 3 && k.state != 4

/-- An entry asks its buddy to pair, or answers its request (R601). -/
def State.askPair (s : State) (n : Nat) (answer : Bool) (m : Mirror) : State :=
  match s.entryAt n m.localBase with
  | none => s
  | some e => s.emit (.mirrorPair m.buddy m.buddyBase m.localBase m.role e.versioned answer (s.reg (Obj.versionReserve n)) e.homeTier
      e.lines m.tensorId)

/-- MIRROR_TABLE_WRITE (R600, R601, R606): whole, while no step of the tenant is open, naming entries it owns. -/
def execMirrorTableWrite (sess n : Nat) (entries : List MirrorSpec) (s : State) : Host.Outcome State Fault Refusal :=
  .next (s.guarded sess (0x7050 + n) 1 fun t =>
    let u := t.tenant n
    if !u.steps.isEmpty || decide (4096 < entries.length) || (entries.any fun m => (t.entryAt n m.localBase).isNone) ||
        entries.any u.badPromotion then t
    else
      let ms := entries.map MirrorSpec.toMirror
      ms.foldl (fun v m => v.askPair n false m) ((if ms = u.mirrors then t else t.bump (Obj.mirrorTable n)).setTenant n { u with mirrors := ms, populating := false }))

/-- What a buddy says of its entry when it asks to pair (R601). -/
structure PairAsk where
  chip : Nat
  base : Nat
  localBase : Nat
  role : Nat
  versioned : Bool
  answer : Bool
  reserve : Nat
  tier : Nat
  lines : Nat
  tensorId : Nat
  deriving DecidableEq, Repr

/-- The roles that pair (R601). -/
def rolesPair (a b : Nat) : Bool := (a == 1 && b == 2) || (a == 2 && b == 1) || (a == 3 && b == 4) || (a == 4 && b == 3)

/-- The state that pairing gives an entry (R601). -/
def State.pairState (s : State) (n : Nat) (m : Mirror) (a : PairAsk) : Nat :=
  match s.entryAt n m.localBase with
  | none => 6
  | some e =>
    let same := rolesPair m.role a.role && a.lines == e.lines && a.versioned == e.versioned &&
      a.reserve == s.reg (Obj.versionReserve n) && a.tensorId == m.tensorId
    let deep := (m.role != 2 || e.homeTier == tierDeep) && (a.role != 2 || a.tier == tierDeep)
    if same && deep then (if 3 ≤ m.role then 3 else 1) else 6

/-- A population ends with its last entry (R604). -/
def State.settlePopulation (s : State) (n : Nat) : State :=
  s.setTenant n { s.tenant n with
    populating := (s.tenant n).populating && (s.tenant n).mirrors.any fun m => m.state == 2 }

/-- Does a message of the buddy pair an entry? Its request pairs an entry again, but never an orphaned one; its answer meets the
entry that asked (log entry 17). -/
def Mirror.meets (m : Mirror) (a : PairAsk) : Bool :=
  m.buddy == a.chip && m.buddyBase == a.base && m.localBase == a.localBase &&
    (m.state == 0 || (!a.answer && m.state != 4 && m.state != 5))

/-- An entry of the table takes a state, and answers a request; event 16 when it is broken (R601, R611). -/
def State.pairOne (s : State) (n : Nat) (a : PairAsk) (i : Nat) (m : Mirror) : State :=
  if m.meets a then
    let st := s.pairState n m a
    let s1 := (s.setMirror n i { m with state := st, retried := false, verifying := false }).settlePopulation n
    let s2 := if a.answer then s1 else s1.askPair n true m
    if st = 6 then s2.mirrorEvent n 16 m.buddy m.localBase else s2
  else s

/-- A buddy's request or answer meets the entries that name it (R601). -/
def State.pairWith (s : State) (a : PairAsk) : State :=
  s.admitted.foldl (fun t n =>
    ((List.range (t.tenant n).mirrors.length).zip (t.tenant n).mirrors).foldl (fun u p => u.pairOne n a p.1 p.2) t) s

/-- The conditions of R604 and R605: no open step on either package, equal versions. -/
def State.mayPopulate (s : State) (n buddyVersion : Nat) (buddyStepOpen : Bool) : Bool :=
  (s.tenant n).state == 1 && (s.tenant n).steps.isEmpty && !buddyStepOpen && buddyVersion == s.curVersion n

/-- Copy one primary entry to its buddy (R604). -/
def State.copyShard (s : State) (n i : Nat) (m : Mirror) : State :=
  let bytes := s.shardBytes n m.localBase
  ((s.setMirror n i m).emit (.mirrorCopy m.buddy m.buddyBase bytes)).addReg 64 (Obj.populateBytes n) bytes.length

/-- MIRROR_POPULATE (R604): every unpopulated primary entry begins to be copied. -/
def execMirrorPopulate (sess n buddyVersion : Nat) (buddyStepOpen : Bool) (s : State) : Host.Outcome State Fault Refusal :=
  .next (s.guarded sess (0x7050 + n) 2 fun t =>
    if !t.mayPopulate n buddyVersion buddyStepOpen || (t.tenant n).populating then t
    else
      let ms := (List.range (t.tenant n).mirrors.length).zip (t.tenant n).mirrors
      let t1 := (t.setReg (Obj.populateBytes n) 0).setTenant n
        { t.tenant n with populating := (t.tenant n).mirrors.any fun m => m.role == 1 && m.state == 1 }
      ms.foldl (fun u p => if p.2.role = 1 ∧ p.2.state = 1 then
        u.copyShard n p.1 { p.2 with state := 2, retried := false } else u) t1)

/-- A digest differs (R604, R605): counted, event 15; a populating primary is copied once more, any other entry, and a
second mismatch, is broken, event 16. -/
def State.digestDiffers (s : State) (n i : Nat) (m : Mirror) : State :=
  let s1 := (s.count 32 (Obj.digestMismatchCount n)).mirrorEvent n 15 m.buddy m.localBase
  if m.state = 2 ∧ !m.retried then s1.copyShard n i { m with retried := true }
  else (s1.setMirror n i { m with state := 6, verifying := false }).mirrorEvent n 16 m.buddy m.localBase

/-- The digest of an entry equals the buddy's (R604, R605): the pair is live, event 14 when it becomes so. -/
def State.digestSame (s : State) (n i : Nat) (m : Mirror) : State :=
  let s1 := s.setMirror n i { m with state := 3, verifying := false }
  if m.state = 3 then s1 else s1.mirrorEvent n 14 m.buddy m.localBase

/-- The buddy's copy of an entry's current buffer is stored in this package's mirror of it (R604). -/
def State.storeCopy (s : State) (n : Nat) (m : Mirror) (copied : List Byte) : State :=
  match s.entryAt n m.localBase with
  | some e => if m.role = 2 ∧ copied.length = 64 * e.lines then (s.pokeRun n m.localBase .plain copied).1 else s
  | none => s

/-- MIRROR_DIGEST_RECEIVE (R604, R605): for an entry that is populating, that is verified, or that is a mirror being
populated by its buddy, which stores the buddy's copy and answers with its own digest (log entry 153). -/
def execMirrorDigestReceive (n index : Nat) (c : BuddyCopy) (s : State) : Host.Outcome State Fault Refusal :=
  match (s.tenant n).mirrors[index]? with
  | none => .next s
  | some m =>
    let waits := m.state == 2 || m.verifying || (m.role == 2 && m.state == 1)
    if !waits then .next s
    else
      let s0 := if m.verifying then s else s.storeCopy n m c.copied
      let own := sha256 (s0.shardBytes n m.localBase)
      let s1 := if m.role = 2 then s0.emit (.mirrorDigest m.buddy m.buddyBase own) else s0
      if own = c.digest then .next ((s1.digestSame n index m).settlePopulation n)
      else if m.role = 2 ∧ m.state = 1 then
        let s2 := s1.setMirror n index { m with retried := true, state := 2 }
        .next (((s2.setTenant n { s2.tenant n with populating := true }).count 32 (Obj.digestMismatchCount n)).mirrorEvent n 15 m.buddy
          m.localBase)
      else .next ((s1.digestDiffers n index m).settlePopulation n)

/-- MIRROR_VERIFY (R605): the digests of every live pair of roles 1 and 2 are computed again and exchanged. -/
def execMirrorVerify (sess n buddyVersion : Nat) (buddyStepOpen : Bool) (s : State) : Host.Outcome State Fault Refusal :=
  .next (s.guarded sess (0x7050 + n) 3 fun t =>
    if !t.mayPopulate n buddyVersion buddyStepOpen then t
    else
      let ms := (List.range (t.tenant n).mirrors.length).zip (t.tenant n).mirrors
      ms.foldl (fun u p => if p.2.role ≤ 2 ∧ p.2.state = 3 then
        (u.setMirror n p.1 { p.2 with verifying := true }).emit
          (.mirrorDigest p.2.buddy p.2.buddyBase (sha256 (u.shardBytes n p.2.localBase))) else u) t)

end Sys2Proof.Machine
end

