-- ==== Sys2Proof/Machine/Fabric.lean ====
section
/-!
DEFINITION. The commands of the fabric (R466 to R491, R498): drawings, slaloms, packets, streams, credits, arbiter commits.
-/

namespace Sys2Proof.Machine

/-! Drawings and slaloms -/

/-- DRAWING_WRITE (R466, R467): checked whole; a drawing that fails is counted and not stored. -/
def execDrawingWrite (sess slot : Nat) (d : Drawing) (s : State) : Host.Outcome State Fault Refusal :=
  .next (s.guarded sess 0x6010 slot fun t =>
    if t.drawingOk d then t.storeDrawing slot d else t.count 32 Obj.drawingRejectCount)

/-- The valid slalom steps as written (R468, R500): step, gate in cadence time, drawing. -/
def State.slalomSteps (s : State) : List (Nat × Nat × Nat) :=
  (List.range 16).filterMap fun i =>
    let v := s.reg (Obj.slalomStep (i + 1))
    if bit v 72 then some (i + 1, bits v 0 64, bits v 64 8) else none

/-- Gates that rise by at least 8 beats from step to step (R468). -/
def gatesRise : List (Nat × Nat × Nat) → Bool
  | a :: b :: ls => decide (a.2.1 + 8 * 1024 ≤ b.2.1) && gatesRise (b :: ls)
  | _ => true

/-- SLALOM_ARM (R468, R471): every valid step is accepted, or none; a step whose gate has passed is late. -/
def execSlalomArm (sess : Nat) (s : State) : Host.Outcome State Fault Refusal :=
  .next (s.guarded sess 0x6021 1 fun t =>
    let ks := t.slalomSteps
    if ks.isEmpty then t
    else if !(gatesRise ks && (ks.all fun k => k.2.1 % (1024 * t.gatePeriod) == 0 && (t.drawingNamed k.2.2).isSome) &&
        decide (t.schedCount + ks.length ≤ 256)) then t.setReg Obj.slalomState 2
    else
      (ks.foldl (fun u k =>
        if k.2.1 / 1024 ≤ u.beatNo then u.lateSlalom k.1 else u.schedule ⟨k.2.1 / 1024, .slalom k.1 k.2.2⟩)
        (t.setReg Obj.slalomState 1)).settleSlalom)

/-! Packets -/

/-- PACKET_INJECT (R23, R456, R479, R482, R485, R487, R489): a packet of an end point on a die. One to a chip that no package has is unreachable
at once; any other leaves when it holds its credits and its retransmit room. -/
def execPacketInject (d : DiePacket) (s : State) : Host.Outcome State Fault Refusal :=
  let p := d.packet
  if !s.isUp || p.dest == s.chip then .next s
  else if !s.inFabric p.dest then .next (s.abandonPacket (s.ownPacket p))
  else
    let q := s.ownPacket p
    match s.nextHop q with
    | none => .next s
    | some (port, cls) => if s.maySend q port cls then .next ((s.leave d.die port cls q).holdSent q port) else .next s

/-- PACKET_FORWARD (R485): a packet of others on its way, whose path leads through this package. -/
def execPacketForward (port : Nat) (p : Packet) (s : State) : Host.Outcome State Fault Refusal :=
  let here : Bool := match (route p.source p.dest (bit p.flags 0) (p.ptype == ptRequest))[p.hops - 1]? with
    | some h => h.dst == s.chip
    | none => false
  if !s.linksUp || decide (16 ≤ port) || p.dest == s.chip || p.hops == 0 || !here then .next s
  else .next ((s.packetWhole port (arrivalCls p) p).forward port p)

/-- The pairing request a type 5 packet carries (R601; its layout is the model's, log entry 17). -/
def pairAskOf (p : Packet) : PairAsk :=
  { chip := p.source, base := field p.payload 12 8, localBase := p.address, role := field p.payload 0 1,
    versioned := field p.payload 1 1 % 2 == 1, answer := field p.payload 1 1 / 2 % 2 == 1, reserve := field p.payload 2 1,
    tier := field p.payload 3 1, lines := field p.payload 4 4, tensorId := field p.payload 8 4 }

/-- A packet has come to its destination package: its flits are taken at its ingress port and cross the die links to the die of the end
point it is for (R23, R473). -/
def State.arrive (s : State) (die : Nat) (p : Packet) : State :=
  match s.ingressOf p with
  | none => s
  | some port =>
    ((s.packetWhole port (arrivalCls p) p).freeFlits port (arrivalCls p) (flitsOf p)).crossDies (portDie port) die (arrivalCls p)
      p.deadline (packetWire p)

/-- PACKET_RECEIVE (R23, R474, R475, R482, R488): a packet for an end point on a die, with the CRC-64 it carries. One that fails its check is
answered with the next expected sequence; types 0 to 4 meet the epoch rule; a pairing request of type 5 takes effect. -/
def execPacketReceive (d : DiePacket) (crc : Nat) (s : State) : Host.Outcome State Fault Refusal :=
  let p := d.packet
  if !s.linksUp || p.dest != s.chip then .next s
  else
    let s1 := s.arrive d.die p
    if crc ≠ packetCrc p then .next (if sequenced p then s1.sendNak p 0 else s1)
    else if p.ptype ≤ 4 then .next (s1.epochGate p)
    else if p.ptype = ptManage ∧ p.payload.length = 20 then .next (s1.pairWith (pairAskOf p))
    else .next s1

/-- ACK_RECEIVE (R475, R489). -/
def execAckReceive (p : Packet) (s : State) : Host.Outcome State Fault Refusal :=
  if !s.linksUp || p.dest != s.chip || p.ptype != ptAck then .next s else .next (s.epochGate p)

/-- NAK_RECEIVE (R475, R489). -/
def execNakReceive (p : Packet) (s : State) : Host.Outcome State Fault Refusal :=
  if !s.linksUp || p.dest != s.chip || p.ptype != ptNak then .next s else .next (s.epochGate p)

/-- The timeout of a packet in ns (R489): 20 µs on a piste or 40 µs, and 6.5 µs for each hop of its path and of its acknowledgement's. -/
def resendTimeout (piste : Bool) (hops ackHops : Nat) : Nat := (if piste then 20000 else 40000) + 6500 * (hops + ackHops)

/-- Is a stream's oldest packet a run on a piste? -/
def TxStream.onPiste (v : TxStream) : Bool :=
  match v.unacked with
  | q :: _ => q.2.ptype == ptRun
  | [] => false

/-- RESEND_TIMEOUT (R489 to R491): after a busy answer the source sends again; else the oldest packet is sent again, after two
timeouts on path A the stream moves to path B, and after four more there, or six of a run, it is abandoned, but for runs to a held
member (R536). -/
def execResendTimeout (dest channel : Nat) (s : State) : Host.Outcome State Fault Refusal :=
  let v := s.txStream dest channel
  if v.unacked.isEmpty || !s.linksUp then .next s
  else if v.busy then .next ((s.setTx dest channel { v with busy := false }).resendAll dest channel v.unacked)
  else
    let k := v.timeouts + 1
    let s1 := s.setTx dest channel { v with timeouts := k }
    let again := s1.resendAll dest channel (v.unacked.take 1)
    if v.onPiste then .next (if 6 ≤ k ∧ !s.colls.suspended.contains dest then s1.abandonStream dest channel else again)
    else if s.onPathB dest v then .next (if 4 ≤ k then s1.abandonStream dest channel else again)
    else if 2 ≤ k then
      .next (((s.setTx dest channel { v with timeouts := 0, pathB := true }).count 32 Obj.routeSwitchCount).resendAll dest channel
        v.unacked)
    else .next again

/-- PATH_A_RETURN (R490): 100 ms after the move, unless path A is still avoided. -/
def execPathAReturn (dest channel : Nat) (s : State) : Host.Outcome State Fault Refusal :=
  let v := s.txStream dest channel
  .next (if v.pathB && !s.pathAvoided dest false then s.setTx dest channel { v with pathB := false, timeouts := 0 } else s)

/-- STREAM_RELEASE (R487): all acknowledged and idle for 100 ms; it starts again at 1, with the flag that resets the sequence. -/
def execStreamRelease (dest channel : Nat) (s : State) : Host.Outcome State Fault Refusal :=
  let v := s.txStream dest channel
  .next (if v.unacked.isEmpty && v.last != 0 then s.setTx dest channel { released := true } else s)

/-- HELD_PACKET_TIMEOUT (R475): discarded and counted. -/
def execHeldPacketTimeout (source channel sequence : Nat) (s : State) : Host.Outcome State Fault Refusal :=
  let is := fun (p : Packet) => p.source == source && p.channel == channel && p.sequence == sequence
  if s.fabric.held.any is then
    .next ((({ s with fabric := { s.fabric with held := s.fabric.held.filter fun p => !is p } } : State)).addReg 64
      Obj.fencedDiscardCount (s.fabric.held.filter is).length)
  else .next s

/-- CREDIT_RETURN (R484): credits of F0 or F1 return, and waiting packets try again. -/
def execCreditReturn (port cls count : Nat) (s : State) : Host.Outcome State Fault Refusal :=
  .next (if s.linksUp && decide (port < 16) then (s.giveCredit port cls count).retryTransit else s)

/-- CREDIT_RETURN_TIMER (R484): every 2 µs a rack port's freed credits leave. -/
def execCreditReturnTimer (port : Nat) (s : State) : Host.Outcome State Fault Refusal :=
  .next (if s.linksUp && decide (port < 12) then s.sendCredits port else s)

/-- CUMULATIVE_ACK_TIMER (R488): 2 µs after a delivery. -/
def execCumulativeAckTimer (source channel : Nat) (s : State) : Host.Outcome State Fault Refusal :=
  .next (if s.linksUp && (s.rxStream source channel).sinceAck != 0 then s.sendAck source channel else s)

/-! Arbiters -/

/-- ARBITER_COMMIT_NOW (R498). -/
def execArbiterCommitNow (sess : Nat) (s : State) : Host.Outcome State Fault Refusal :=
  .next (s.guarded sess 0x6300 1 fun t => t.commitArbiters)

/-- ARBITER_COMMIT_GATE (R498): at the next gate, an event of order 5. -/
def execArbiterCommitGate (sess : Nat) (s : State) : Host.Outcome State Fault Refusal :=
  .next (s.guarded sess 0x6300 1 fun t => t.scheduleLocal t.nextGate .arbiter)

end Sys2Proof.Machine
end

