-- ==== Sys2Proof/Machine/Optical.lean ====
section
/-!
DEFINITION. The commands of the optical ports (R412 to R449).
-/

namespace Sys2Proof.Machine

/-- A laser of a port that is on. -/
def State.laserOn (s : State) (port laser : Nat) : Bool :=
  decide (port < 16) && decide (laser ≤ 8) && s.lane port laser != lnOff && s.device != devOff

/-- The flits of a good frame that are received (R415, R416, R417, R425): of a lane in service, all of them; of a lane in quarantine, those
of class M; of any other lane, or of one whose receive direction is out of service, none. Only data frames carry flits. -/
def State.heardFlits (s : State) (port laser : Nat) (bs : List Byte) : List (Nat × List Byte) :=
  let st := s.lane port laser
  if field bs 8 1 ≠ frData ∨ (s.laser port laser).rxOut then []
  else if inService st then slotFlits bs
  else if st = lnQuarantine then (slotFlits bs).filter fun f => f.1 == clsM
  else []

/-- What a good frame brings (R415, R434, R461, R476, R484): its block count and when it came, on a rack port's base lane the in-neighbour's
loop delay, a change of modulation, the flits of its slots, and on inter-rack ports the credits. -/
def State.takeFrameFields (s : State) (port laser : Nat) (bs : List Byte) : State :=
  let marker := field bs 9 1
  let s0 := s.setLaser port laser { s.laser port laser with lastBlock := field bs 4 4, heardAt := s.cadNow }
  let s1 := if port < 12 ∧ laser = s.carrier port (s.port port).baseLane then
      s0.setPort port { s0.port port with farLoop := field bs 0x68 4 } else s0
  let s2 := if bit marker 3 then
      (if bit marker 4 then (s1.setReg (Obj.laneModulation port laser) 0).settlePort port else s1.fallBack port laser)
    else s1
  let s3 := s2.takeSlots port (s.heardFlits port laser bs)
  if 12 ≤ port then s3.heardCredits port (frameCredits bs) else s3

/-- LANE_FRAME_RECEIVE (R413, R415, R434, R474, R476, R484): a block with a syndrome left, or whose header fails its check, is
uncorrected: counted, and its flits are discarded with the packets they belong to. -/
def execLaneFrameReceive (port laser : Nat) (b : LaneBlock) (s : State) : Host.Outcome State Fault Refusal :=
  if !s.laserOn port laser then .next s
  else
    let s1 := s.addReg 64 (Obj.correctedBits port laser) b.correctedBits
    if b.syndrome ∨ !headerOk b.bytes then
      .next ((s1.count 64 (Obj.uncorrectedBlocks port laser)).setPort port { s1.port port with inFlits := [] })
    else .next (s1.takeFrameFields port laser b.bytes)

/-- EDGE_LOCK_UPDATE (R418): a ring's loop moves its heater. The spec gives the loop's rate and bandwidth and not its law: the
drive and the margin are free values (log entry 2). Rings 0 to 3 modulate, ring 4 receives. -/
def execEdgeLockUpdate (port laser ring : Nat) (_monitorError : Int) (s : State) : Host.Outcome State Fault Refusal :=
  if !s.laserOn port laser || decide (4 < ring) then .next s
  else
    let (v, s1) := s.draw 16
    let (m, s2) := s1.draw 16
    .next ({ s2 with heaters := Sparse.set 0 (laserKey port laser * 8 + ring) (signedOf 16 v) s2.heaters }.setReg
      (Obj.heaterMargin port laser) m)

/-- HEATER_RANGE_LOSS (R420): a mislock with cause heater range. -/
def execHeaterRangeLoss (port laser : Nat) (s : State) : Host.Outcome State Fault Refusal :=
  if s.laserOn port laser && inService (s.lane port laser) then .next ((s.laneEvent port laser).mislock port laser) else .next s

/-- TONE_CORRELATION (R423, R424): of the four tones, `heard` is the strongest in the received light and `passed` in the light the rings
pass; a tone other than the lane's channel has, or an identity word that does not match, is a mislock. -/
def execToneCorrelation (port laser : Nat) (tones : Tones) (wordOk : Bool) (s : State) : Host.Outcome State Fault Refusal :=
  let tone := toneOf (s.reg (Obj.laneChannel port laser))
  .next (if s.laserOn port laser && !(tones.heard == tone && tones.passed == tone && wordOk) then s.mislock port laser else s)

/-- RELOCK_COMPLETE (R424): the lane returns to service, or after a third failure it is retired and handled as a drop. -/
def execRelockComplete (port laser : Nat) (ok : Bool) (s : State) : Host.Outcome State Fault Refusal :=
  if s.lane port laser ≠ lnRelock then .next s
  else if ok then
    .next ((((s.setLane port laser (if laser = spare then lnSpareIn else lnService)).setLaser port laser
      { s.laser port laser with relocks := 0 }).laneEvent port laser).settlePort port)
  else
    let n := (s.laser port laser).relocks + 1
    let s1 := s.setLaser port laser { s.laser port laser with relocks := n }
    .next (if 3 ≤ n then s1.dropLane port laser else s1)

/-- ALIGNMENT_LOSS (R425). -/
def execAlignmentLoss (port laser : Nat) (s : State) : Host.Outcome State Fault Refusal :=
  .next (if s.laserOn port laser then s.setLaser port laser { s.laser port laser with rxOut := true } else s)

/-- ALIGNMENT_RETURN (R425). -/
def execAlignmentReturn (port laser : Nat) (s : State) : Host.Outcome State Fault Refusal :=
  .next (if s.laserOn port laser then s.setLaser port laser { s.laser port laser with rxOut := false } else s)

/-- ALIGNMENT_LOSS_DROP (R425): a loss of 1 ms is handled as a drop. -/
def execAlignmentLossDrop (port laser : Nat) (s : State) : Host.Outcome State Fault Refusal :=
  .next (if (s.laser port laser).rxOut && inService (s.lane port laser) then
    (s.setLaser port laser { s.laser port laser with rxOut := false }).dropLane port laser else s)

/-! Windows (R426 to R430) -/

/-- Rates are held in parts per 10^9: drop, fallback, swap and clear thresholds (R429). -/
def rateDropPpb : Nat := 20000000
def rateFallPpb : Nat := 3000000
def rateSwapPpb : Nat := 1000000
def rateClearPpb : Nat := 100000

/-- The receive rate of a window (R426): three uncorrected blocks count as above 2 × 10^-2; where nothing was received the spec
states no rate (log entry 103). -/
def windowRate (w : LaserWindow) : Nat :=
  if 3 ≤ w.uncorrectedBlocks then rateDropPpb + 1
  else if w.receivedBits = 0 then (Config.emptyWindow 0 w.correctedBits).toNat
  else w.correctedBits * 1000000000 / w.receivedBits

/-- The rate as F32 (R451). -/
def windowRateF (w : LaserWindow) : Nat :=
  if w.receivedBits = 0 then (Config.emptyWindow 1 w.correctedBits).toNat
  else toF32 ((Num.ofInt w.correctedBits).div (Num.ofInt w.receivedBits))

/-- Measure a laser's window (R426, R427, R633): launch power with the simulated fade, rate, and the report to the far end. -/
def State.measure (s : State) (port : Nat) (w : LaserWindow) : State :=
  let p := w.powerCdb + s.sreg 16 (Obj.laneFadeSim port w.laser)
  let s1 := (s.setReg (Obj.launchPowerCdb port w.laser) (wrapInt 16 p)).setReg (Obj.precorrectionRate port w.laser) (windowRateF w)
  s1.emit (.farEnd port w.laser (windowRate w))

/-- The launch power of a laser, in 0.01 dB. -/
def State.launch (s : State) (port laser : Nat) : Int := s.sreg 16 (Obj.launchPowerCdb port laser)

/-- Count the runs of windows of a laser (R429): a rate condition holds in two consecutive windows, clear in 1,000. -/
def State.countWindows (s : State) (port laser : Nat) : State :=
  let v := s.laser port laser
  let clear : Bool := decide (-50 < s.launch port laser) && decide (v.farRate ≤ rateClearPpb)
  s.setLaser port laser { v with
    highWindows := if rateSwapPpb < v.farRate then min 2 (v.highWindows + 1) else 0,
    fallWindows := if rateFallPpb < v.farRate then min 2 (v.fallWindows + 1) else 0,
    clearWindows := if clear then min 1000 (v.clearWindows + 1) else 0 }

/-- LS is held, locked and with its output held, for the watched lane with the lowest launch power (R429, R430). -/
def State.holdSpare (s : State) (port : Nat) : State :=
  if !s.spareFree port then s
  else
    let ws := (List.range 8).filter fun l => s.lane port l == lnWatched
    match ws with
    | [] => s.freeSpare port
    | l :: ls =>
      let w := ls.foldl (fun b k => if s.launch port k < s.launch port b then k else b) l
      ((s.setLane port spare lnSpareReady).setRole port 1 w).setReg (Obj.laneChannel port spare) (s.reg (Obj.laneChannel port w))

/-- A lane falls back (R434): the marker goes out on its current block. -/
def State.sendFallBack (s : State) (port lane laser : Nat) : State :=
  if s.reg (Obj.laneModulation port laser) = 1 then s else (s.emit (.marker port lane mkModulation)).fallBack port laser

/-- Judge one lane at the end of a window (R429): drop, swap, fallback, watch, clear, the most severe first. `swapped` says that a
lower lane has reached swap in this window. A lane that is swapping can only drop. -/
def State.judgeLane (s : State) (port lane : Nat) (swapped : Bool) : State × Bool :=
  let laser := s.carrier port lane
  let st := s.lane port laser
  if !inService st then (s, swapped)
  else
    let v := s.laser port laser
    let p := s.launch port laser
    let wantsSwap : Bool := decide (p ≤ -200) || v.highWindows == 2
    let may : Bool := laser != spare && (s.spareFree port || (s.role port == 4 && (s.port port).waxLaser != some spare))
    if p ≤ -400 ∨ rateDropPpb < v.farRate then (s.dropLane port laser, swapped)
    else if st = lnSwapping then (s, swapped)
    else if wantsSwap && swapped then (s, true)
    else if wantsSwap && may then ((s.abandonWax port).startSwap port lane, true)
    else if v.fallWindows = 2 then (s.sendFallBack port lane laser, swapped)
    else if p ≤ -100 then (if st = lnService then s.setLane port laser lnWatched else s, swapped)
    else if v.clearWindows = 1000 then (if st = lnWatched then s.setLane port laser lnService else s, swapped)
    else (s, swapped)

/-- MARGIN_WINDOW_END (R426 to R430, R433, R434). -/
def execMarginWindowEnd (port : Nat) (windows : List LaserWindow) (s : State) : Host.Outcome State Fault Refusal :=
  if 16 ≤ port ∨ s.device = devOff ∨ s.device = devHalted then .next s
  else
    let ws := windows.filter fun w => s.laserOn port w.laser
    let s1 := ws.foldl (fun t w => (t.measure port w).countWindows port w.laser) s
    let r := (List.range 8).foldl (fun (t : State × Bool) l => t.1.judgeLane port l t.2) (s1, false)
    .next (r.1.holdSpare port)

/-- FAR_END_REPORT (R427). -/
def execFarEndReport (port laser ratePpb : Nat) (s : State) : Host.Outcome State Fault Refusal :=
  .next (if s.laserOn port laser then s.setLaser port laser { s.laser port laser with farRate := ratePpb } else s)

/-- FAR_END_REPORT_TIMEOUT (R427): the rate counts as above 2 × 10^-2. -/
def execFarEndReportTimeout (port laser : Nat) (s : State) : Host.Outcome State Fault Refusal :=
  .next (if s.laserOn port laser then s.setLaser port laser { s.laser port laser with farRate := rateDropPpb + 1 } else s)

/-! Swaps (R431) -/

/-- A retune that fell in a swap is applied as the swap ends (R441). -/
def State.settleRetune (s : State) (port lane : Nat) : State :=
  match s.drawnLane port lane with
  | some e => if s.baseTaken port lane then s else s.drawLane port lane e.channel
  | none => s

/-- SWAP_CONFIRM (R431, R437): the marker goes out, LS carries the lane; the old laser is retired, or calibrated when the swap was
its calibration's. -/
def execSwapConfirm (port : Nat) (s : State) : Host.Outcome State Fault Refusal :=
  match (s.port port).swapLane with
  | none => .next s
  | some l =>
    let wax : Bool := (s.port port).waxLaser == some l
    let s1 := ((s.setPort port { s.port port with swapLane := none }).emit (.marker port l mkSwap)).setLane port spare lnSpareIn
    let s2 := (s1.setLane port l (if wax then lnWax else lnRetired)).setRole port (if wax then 4 else 3) l
    let s4 := (s2.setReg (Obj.laneModulation port spare) (s.reg (Obj.laneModulation port l))).countSwap port l
    .next (((if wax then s4 else s4.laneEvent port l).settlePort port).settleRetune port l)

/-- SWAP_ABANDON (R431): the lane stays on its laser, LS is held back for 10 ms, and the event is counted. -/
def execSwapAbandon (port : Nat) (s : State) : Host.Outcome State Fault Refusal :=
  match (s.port port).swapLane with
  | none => .next s
  | some l =>
    let p := s.port port
    let s1 := ((s.setPort port { p with
      swapLane := none, holdBack := true, waxLaser := if p.waxLaser = some l then none else p.waxLaser }).setLane port l
        lnService).freeSpare port
    .next ((s1.setReg (Obj.swapCount port l) ((s1.reg (Obj.swapCount port l) + 2 ^ 24) % 2 ^ 32)).settleRetune port l)

/-- SPARE_HOLDBACK_END (R431). -/
def execSpareHoldbackEnd (port : Nat) (s : State) : Host.Outcome State Fault Refusal :=
  .next (if (s.port port).holdBack then s.setPort port { s.port port with holdBack := false } else s)

/-- SPARE_TAKEOVER_COMPLETE (R433): LS carries the dropped lane. -/
def execSpareTakeoverComplete (port : Nat) (s : State) : Host.Outcome State Fault Refusal :=
  match (s.port port).takeover with
  | none => .next s
  | some l =>
    let s1 := (s.setPort port { s.port port with takeover := none }).setLane port spare lnSpareIn
    let s2 := ((s1.setRole port 3 l).setReg (Obj.laneChannel port spare) (s1.reg (Obj.laneChannel port l))).setReg
      (Obj.laneModulation port spare) (s1.reg (Obj.laneModulation port l))
    .next (s2.settlePort port)

/-! The wax cycle (R432, R436 to R438) -/

/-- What a calibration records (R437): the margin, the loop delay, the coefficients of each ring's feed-forward for the die's two
compute dies, which the spec does not give (log entry 2), and a new launch-power reference. -/
def State.recordWax (s : State) (port laser : Nat) (r : WaxResult) : State :=
  let (cs, s1) := State.drawMany 16 10 s
  let k := laserKey port laser * 16
  let s2 : State := { s1 with heaterCoefs :=
    ((List.range 10).zip cs).foldl (fun m p => Sparse.set 0 (k + p.1) (signedOf 16 p.2) m) s1.heaterCoefs }
  ((s2.setLaser port laser { s2.laser port laser with loopDelay := r.loopDelayPs }).setReg (Obj.heaterMargin port laser)
    (wrapInt 16 r.heaterMargin)).setReg (Obj.launchPowerCdb port laser) 0

/-- The laser's state after its calibration: a laser that was retired returns when its launch power is good (R432), else it stays
retired until power-on, a corrected fault; any other takes its lane back, by a swap where LS carries it. -/
def State.afterWax (s : State) (port laser : Nat) (r : WaxResult) : State :=
  let v := s.laser port laser
  if v.waxFrom = lnRetired ∧ !r.powerGood then
    let s1 := ((s.setLane port laser lnRetired).setLaser port laser { v with lost := true }).laneEvent port laser
    if laser = spare then s1.setRole port 5 0 else s1
  else if laser = spare then s.freeSpare port
  else
    let s1 := s.setLane port laser lnService
    let s2 := if r.ratePpb ≤ rateClearPpb then s1.setReg (Obj.laneModulation port laser) 0 else s1
    let s3 := if s2.roleLane port = laser ∧ (s2.role port = 3 ∨ s2.role port = 4) then
        s2.swapBack port laser else s2
    s3.regainLane port laser

/-- After the calibration of LS of its die's first port, the sketch engine's calibration follows at the next gate (R559). -/
def State.waxedSpare (s : State) (port : Nat) : State :=
  if port % 4 = 0 then s.scheduleLocal s.nextGate (.sketchCal (port / 4)) else s

/-- WAX_CALIBRATION_END (R432, R434, R437, R559). -/
def execWaxCalibrationEnd (port laser : Nat) (r : WaxResult) (s : State) : Host.Outcome State Fault Refusal :=
  if (s.port port).waxLaser ≠ some laser ∨ s.lane port laser ≠ lnWax then .next s
  else
    let s1 := s.setPort port { s.port port with waxLaser := none }
    let s2 := ((s1.recordWax port laser r).afterWax port laser r).settlePort port
    .next (if laser = spare then s2.waxedSpare port else s2)

/-! Bring-up (R442 to R446) -/

/-- The identity record that a laser of this package sends (R443): where the drawing expects no far end, 0xFFFF (log entry 148). -/
def State.identityRecord (s : State) (port laser : Nat) (quarantine : Bool) : IdRecord :=
  let lane := if laser = spare then s.roleLane port else laser
  { major := 1, minor := 0, serialDigest := Config.serialDigest, chip := s.chip, physicalPort := port,
    logicalPort := s.logicalPort port, lane := lane % 8 + 8 * b2n (laser == spare), channel := s.reg (Obj.laneChannel port laser),
    expectedChip := (s.expects port lane).getD 0xFFFF, expectedPort := s.logicalPort port, drawingId := s.reg Obj.drawingInForce,
    flags := b2n quarantine + 2 * b2n (s.logicalPort port != port) }

/-- A laser sends its identity frame (R442, R443). -/
def State.sendIdentity (s : State) (port laser : Nat) (quarantine : Bool) : State :=
  s.emit (.identity port laser (s.identityRecord port laser quarantine))

/-- LANE_TRAINING_END (R442): rates in 16-QAM and 4-QAM; a lane above both limits stays down. -/
def execLaneTrainingEnd (port laser rate16Ppb rate4Ppb : Nat) (s : State) : Host.Outcome State Fault Refusal :=
  if s.lane port laser ≠ lnUp ∨ (s.laser port laser).trained then .next s
  else if rateClearPpb < rate16Ppb ∧ rateFallPpb < rate4Ppb then .next s
  else
    let s1 := s.setReg (Obj.laneModulation port laser) (if rate16Ppb ≤ rateClearPpb then 0 else 1)
    .next ((s1.setLaser port laser { s1.laser port laser with trained := true }).sendIdentity port laser false)

/-- LANE_BRINGUP_RETRY (R442): a lane that stayed down tunes and trains again. -/
def execLaneBringupRetry (port laser : Nat) (s : State) : Host.Outcome State Fault Refusal :=
  if s.lane port laser = lnUp ∧ !(s.laser port laser).trained then
    .next (s.bringUp port laser (s.reg (Obj.laneChannel port laser)))
  else .next s

/-- The identities agree (R444): found chip and port are those this end expects, this package is what the far end expects, the
majors match. -/
def State.identityAgrees (s : State) (port laser : Nat) (r : IdRecord) : Bool :=
  r.major == 1 && s.chip != 0xFFFF && s.expects port laser == some r.chip && r.logicalPort == s.logicalPort port &&
  r.expectedChip == s.chip && r.expectedPort == s.logicalPort port

/-- The first 32 bytes of an identity record (R443). -/
def idBytes (r : IdRecord) : List Byte :=
  toBytes 1 r.major ++ toBytes 1 r.minor ++ toBytes 8 r.serialDigest ++ toBytes 2 r.chip ++ toBytes 1 r.physicalPort ++
  toBytes 1 r.logicalPort ++ toBytes 1 r.lane ++ toBytes 1 r.channel ++ toBytes 2 r.expectedChip ++ toBytes 1 r.expectedPort ++
  toBytes 1 r.drawingId ++ toBytes 1 r.flags ++ toBytes 11 0

/-- IDENTITY_FRAME (R443 to R446, R479), with the epoch that the frame's link fields carry: a trained lane, or one in quarantine, enters service, so that what
waited for it goes on, or quarantine, a lane event. -/
def execIdentityFrame (port laser : Nat) (f : IdFrame) (s : State) : Host.Outcome State Fault Refusal :=
  let r := f.record
  let st := s.lane port laser
  let s0 := if s.laserOn port laser then s.seenUnder r.chip f.epoch else s
  let s1 := if laser = s.carrier port 0 ∧ s.laserOn port laser then s0.setReg (Obj.peerFound port) (fromBytes (idBytes r)) else s0
  if !((st == lnUp && (s.laser port laser).trained) || st == lnQuarantine) then .next s1
  else if s1.identityAgrees port laser r then
    let s2 := (s1.setLane port laser lnService).setReg (Obj.minorInUse port) 0
    .next (((s2.regainLane port laser).settlePort port).retryTransit)
  else if st = lnQuarantine then .next s1
  else
    let s2 := ((s1.setLane port laser lnQuarantine).count 32 (Obj.quarantineCount port)).laneEvent port laser
    .next ((s2.sendIdentity port laser true).settlePort port)

/-- A permutation of the physical ports 0 to 11 (R445). -/
def isRemap (l : List Nat) : Bool := l.length == 12 && (List.range 12).all fun i => l.contains i

/-- PORT_REMAP_WRITE (R445, R446): adopted by each port at its next bring-up, which lanes in quarantine begin. -/
def execPortRemapWrite (sess : Nat) (remap : List Nat) (s : State) : Host.Outcome State Fault Refusal :=
  .next (s.guarded sess 0x5000 5 fun t =>
    if isRemap remap then (t.setReg Obj.portRemap (fromBytes (remap.map (BitVec.ofNat 8)))).retryQuarantine else t)

/-- CHIP_NUMBER_WRITE (R457, R458, R16): in READY, while no tenant is admitted; the inter-rack ports follow it, and base lanes in
quarantine try again. -/
def execChipNumberWrite (sess value : Nat) (s : State) : Host.Outcome State Fault Refusal :=
  .next (s.guarded sess 0x6000 1 fun t =>
    if t.device = devReady ∧ t.notFree.isEmpty ∧ (value ≤ 0x3FFF ∨ value = 0xFFFF) then
      (t.setReg Obj.chipNumber value).settleRacks.retryQuarantine
    else t)

end Sys2Proof.Machine
end

