-- ==== Sys2Proof/Machine/LiftOps.lean ====
section
/-!
DEFINITION. Residency (R323 to R338): claims, promotions, demotions, the passing of a charge, and the removal of entries.
-/

namespace Sys2Proof.Machine

/-- The move of an entry that has not been acknowledged. -/
def State.moveOf (s : State) (key : Nat) : Option (Nat × Move) := s.moves.find? fun p => p.2.entry == key

/-- Moves of an engine that are queued, or in flight until every die has acknowledged the commit (R324, R329, R359). -/
def State.queuedOn (s : State) (die : Nat) : Nat := (s.moves.filter fun p => p.2.engine == die && !p.2.flying).length
def State.flyingOn (s : State) (die : Nat) : Nat :=
  (s.moves.filter fun p => p.2.engine == die && p.2.flying).length

/-- Bytes of an entry. -/
def Entry.bytes (e : Entry) : Nat := 64 * e.lines

/-- The oldest claim of a tier (R332, R335). -/
def Entry.oldest (e : Entry) (tier : Nat) : Option Claim :=
  (e.claims.filter fun c => c.tier == tier).foldl (fun b c =>
    match b with
    | none => some c
    | some d => if c.age < d.age then some c else some d) none

/-- The highest tier that holds a claim, or the home tier (R332); Near is the highest. -/
def Entry.target (e : Entry) : Nat := e.claims.foldl (fun t c => min t c.tier) e.homeTier

/-- Tokens complete with a status (R342). -/
def State.settleTokens (s : State) (ts : List (Nat × Nat × Nat)) (status : Nat) : State :=
  ts.foldl (fun t k => t.finishToken k.1 k.2.1 k.2.2 status) s

/-- Tokens of claims and moves that end without a commit complete, each with a status the spec does not state (log entry 123). -/
def State.endTokens (s : State) (ts : List (Nat × Nat × Nat)) : State :=
  ts.foldl (fun t k =>
    let (v, t1) := t.draw 8
    t1.finishToken k.1 k.2.1 k.2.2 v) s

/-- A claim's token completes (R342). -/
def State.settleClaim (s : State) (c : Claim) (status : Nat) : State :=
  match c.token with
  | some (co, x, t) => s.finishToken co x t status
  | none => s

/-- A refusal (R338): counted, and its token completes with the status. -/
def State.refuseClaim (s : State) (c : Claim) (status : Nat) : State :=
  (s.count 32 (Obj.claimRefusedCount c.tenant)).settleClaim c status

/-- The die of an upper copy in a tier, where the place is Main: the die named, or the emptiest when that is full
(log entry 34). -/
def State.upperDie (s : State) (c : Claim) (bytes : Nat) : Nat :=
  if c.tier = 1 then (if s.fits 1 c.die c.place bytes then c.die else s.emptiest 1) else c.die

/-- Start a promotion for a claim (R332, R333): the upper copy is allocated and charged, and a move is queued. -/
def State.promote (s : State) (key : Nat) (e : Entry) (c : Claim) : State :=
  let die := s.upperDie c e.bytes
  let (a, s1) := s.allocate c.tier die c.place e.bytes c.tenant
  let (m, s2) := s1.fresh
  let mv : Move :=
    { entry := key, engine := die,
      dest := some { tier := c.tier, die := die, place := c.place, alloc := a, tenant := c.tenant, cid := c.cid },
      deadline := c.deadline, order := m, flying := false, committed := false, tokens := c.token.toList }
  { s2 with moves := Sparse.insert m mv s2.moves }

/-- Why a promotion for a claim cannot start (R333, R335, R338); none when it can. -/
def State.promoteRefusal (s : State) (e : Entry) (c : Claim) : Option Nat :=
  if s.borrowed c.tier c.tenant ≠ 0 ∨ s.freeRoom c.tier c.tenant < e.bytes then some 1
  else if c.tier = 0 ∧ !s.fits 0 c.die c.place e.bytes then some 2
  else if 1024 ≤ s.queuedOn (s.upperDie c e.bytes) then some 4
  else none

/-- A clean entry returns home at once (R336). -/
def State.returnClean (s : State) (key : Nat) (e : Entry) : State :=
  match e.upper with
  | none => s
  | some u =>
    ((s.setEntry key { e with upper := none, dirty := false }).count 32 (Obj.immediateReturnCount e.homeAt)).freeAlloc
      u.alloc false

/-- A dirty entry returns home by a write-back move (R336), run by the home die's engine (R323). -/
def State.writeBack (s : State) (key : Nat) (e : Entry) : State :=
  let (m, s1) := s.fresh
  let mv : Move :=
    { entry := key, engine := e.homeAt, dest := none, deadline := none, order := m, flying := false, committed := false,
      tokens := [] }
  ({ s1 with moves := Sparse.insert m mv s1.moves }).count 32 (Obj.writebackCount e.homeAt)

/-- The claim that a demotion moves the entry to (R336): the highest tier between the copy and home that holds a claim
whose tenant, oldest first, has room. -/
def State.demoteTo (s : State) (e : Entry) (from_ : Nat) : Option Claim :=
  let tiers := (List.range 3).filter fun t => decide (from_ < t) && decide (t < e.homeTier)
  tiers.findSome? fun t =>
    let cs := (e.claims.filter fun c => c.tier == t).mergeSort fun a b => decide (a.age ≤ b.age)
    cs.find? fun c => decide (e.bytes ≤ s.freeRoom t c.tenant)

/-- The claim of a claimant on an entry, if it holds one (R330). -/
def Entry.held (e : Entry) (tenant cid : Nat) : Option Claim :=
  e.claims.find? fun d => d.tenant == tenant && d.cid == cid

/-- The claims without a claimant's. -/
def Entry.without (e : Entry) (tenant cid : Nat) : Entry :=
  { e with claims := e.claims.filter fun d => !(d.tenant == tenant && d.cid == cid) }

/-- Record a claim on an entry; a claimant's earlier claim is replaced (R330). -/
def Entry.addClaim (e : Entry) (c : Claim) : Entry := { e with claims := (e.without c.tenant c.cid).claims ++ [c] }

/-- Claims whose tier the entry has reached, or is promoting to, join: their tokens complete (R333, R334, R342). -/
def State.joinClaims (s : State) (key tier : Nat) : State :=
  match s.entry? key with
  | none => s
  | some e =>
    let js := e.claims.filter fun c => decide (tier ≤ c.tier)
    (s.setEntry key { e with claims := e.claims.map fun c => if tier ≤ c.tier then { c with token := none } else c }).settleTokens
      (js.filterMap (·.token)) 0

/-- The entry meets the activation stack of a context of its tenant: Lift never moves that region (R235, log entry 31). -/
def State.onStack (s : State) (e : Entry) : Bool :=
  s.ctxs.any fun p =>
    bit (s.reg (Obj.coreSet e.tenant)) (p.1 / 4) && decide (p.2.stackBase < p.2.stackLimit) &&
    overlaps e.base (e.base + e.bytes - 1) (offOf p.2.stackBase) (offOf (p.2.stackLimit - 1))

/-- Act on the claims that wait for a tier above the committed copy's (R334, R336): the oldest of the highest tier starts a promotion,
which others join, or is refused, and then the next. The number bounds how many are looked at. -/
def State.promoteWaiting (key : Nat) : Nat → State → State
  | 0, s => s
  | fuel + 1, s =>
    match s.entry? key with
    | none => s
    | some e =>
      if e.target < e.tier then
        match e.oldest e.target with
        | none => s
        | some c =>
          match s.promoteRefusal e c with
          | none => ((s.setEntry key (e.addClaim { c with token := none })).promote key e c).joinClaims key c.tier
          | some st => State.promoteWaiting key fuel ((s.setEntry key (e.without c.tenant c.cid)).refuseClaim c st)
      else s

/-- A copy whose tier holds no claim is demoted (R336): to a tier below that holds a claim with room, else home; an engine whose queue of
1,024 is full takes no move (R329), and the demotion waits. A clean entry is home at once, and its claims are evaluated again. -/
def State.demote (s : State) (key : Nat) (e : Entry) (u : Upper) : State :=
  match s.demoteTo e u.tier with
  | some c => if 1024 ≤ s.queuedOn (s.upperDie c e.bytes) then s else s.promote key e c
  | none =>
    if e.dirty then (if 1024 ≤ s.queuedOn e.homeAt then s else s.writeBack key e)
    else State.promoteWaiting key e.claims.length (s.returnClean key e)

/-- Evaluate an entry's claims when no move is in flight (R334, R336). -/
def State.evaluate (s : State) (key : Nat) : State :=
  match s.entry? key with
  | none => s
  | some e =>
    if (s.moveOf key).isSome then s
    else if s.onStack e then s.joinClaims key e.tier
    else
      let s1 := State.promoteWaiting key e.claims.length (s.joinClaims key e.tier)
      if (s1.moveOf key).isSome then s1
      else
        match s1.entry? key with
        | none => s1
        | some e1 =>
          match e1.upper with
          | none => s1
          | some u => if e1.claims.any fun c => c.tier == u.tier then s1 else s1.demote key e1 u

/-- Entries without a move whose claims ask for another tier are evaluated again: a demotion that waited for room in an engine's queue
(R329, R336), or an entry that has ceased to lie under a stack (R235). -/
def State.retryMoves (s : State) : State :=
  s.entries.foldl (fun t p =>
    let idle := match p.2.upper with
      | some u => !p.2.claims.any fun c => c.tier == u.tier
      | none => false
    if idle || decide (p.2.target < p.2.tier) then t.evaluate p.1 else t) s

/-- Contexts that wait for the promotion of an entry are ready again (R189). -/
def State.wakePromotion (s : State) (key : Nat) : State :=
  { s with ctxs := s.ctxs.map fun p =>
      if p.2.state = 3 ∧ p.2.waits = .promotion key then (p.1, { p.2 with state := 1, waits := .nothing }) else p }

/-- All claims the package holds (R317). -/
def State.claimCount (s : State) : Nat := (s.entries.map fun p => p.2.claims.length).sum

/-- Pass the charge of an upper copy from one tenant to another (R335): a loan where the new tenant's room is short;
the leaving tenant's own loans are repaid as its charge falls. -/
def State.passCharge (s : State) (u : Upper) (heir : Claim) : State :=
  match (s.allocs.find? fun p => p.1 = u.alloc).map (·.2) with
  | none => s
  | some a =>
    let room := s.freeRoom u.tier heir.tenant
    let s1 := (s.setReg (chargedObj u.tier u.tenant) (s.reg (chargedObj u.tier u.tenant) - a.bytes)).addReg 64
      (chargedObj u.tier heir.tenant) a.bytes
    let s2 : State := { s1 with
      allocs := Sparse.insert u.alloc { a with tenant := heir.tenant } s1.allocs,
      loans := if room < a.bytes then
          s1.loans ++ [{ tier := u.tier, lender := u.tenant, borrower := heir.tenant, bytes := a.bytes - room }]
        else s1.loans }
    if heir.tenant = u.tenant then s else s2.publishLoans.settleLoans u.tier u.tenant a.bytes

/-- The upper copy, or the destination of the move in flight, loses its anchor (R334, R335). -/
def State.reAnchor (s : State) (key : Nat) (tenant cid : Nat) : State :=
  match s.entry? key with
  | none => s
  | some e =>
    let s1 := match e.upper with
      | some u =>
        if u.tenant = tenant ∧ u.cid = cid then
          match e.oldest u.tier with
          | some c => (s.passCharge u c).setEntry key { e with upper := some { u with tenant := c.tenant, cid := c.cid } }
          | none => s
        else s
      | none => s
    match s1.moveOf key with
    | some (k, m) =>
      match m.dest with
      | some u =>
        if u.tenant = tenant ∧ u.cid = cid then
          match e.oldest u.tier with
          | some c =>
            let s2 := s1.passCharge u c
            { s2 with moves := Sparse.insert k { m with dest := some { u with tenant := c.tenant, cid := c.cid } } s2.moves }
          | none => s1
        else s1
      | none => s1
    | none => s1

/-- The outstanding token of a claim that is dropped or replaced completes as the move in flight ends (R342). -/
def State.handToken (s : State) (key : Nat) (c : Claim) : State :=
  match s.moveOf key with
  | some (k, m) => { s with moves := Sparse.insert k { m with tokens := m.tokens ++ c.token.toList } s.moves }
  | none => s

/-- Record a claim (R330): an earlier claim of its claimant gives up its place, and its charge when it was on another tier. -/
def State.record (s : State) (key : Nat) (e : Entry) (c : Claim) : State :=
  match e.held c.tenant c.cid with
  | none => s.setEntry key (e.addClaim c)
  | some old =>
    let s1 := (s.handToken key old).setEntry key (e.addClaim c)
    if old.tier = c.tier then s1 else s1.reAnchor key c.tenant c.cid

/-- A claim event (R330 to R338, R342). -/
def State.applyClaim (s : State) (key : Nat) (e : Entry) (c : Claim) : State :=
  if e.homeTier ≤ c.tier then s.settleClaim c 5
  else if e.pinned || s.onStack e then s.refuseClaim c 3
  else if e.held c.tenant c.cid = none ∧ (255 ≤ e.claims.length ∨ 131072 ≤ s.claimCount) then s.refuseClaim c 4
  else
    match s.moveOf key with
    | some (_, m) =>
      let joins : Bool := if m.committed then decide (e.tier ≤ c.tier) else
        match m.dest with
        | some u => decide (u.tier < e.tier) && decide (u.tier ≤ c.tier)
        | none => false
      if joins then (s.record key e { c with token := none }).settleClaim c 0 else s.record key e c
    | none =>
      if e.tier ≤ c.tier then
        let s1 := (s.record key e { c with token := none }).settleClaim c 0
        if (e.held c.tenant c.cid).isSome then s1.evaluate key else s1
      else
        match s.promoteRefusal e c with
        | some st => s.refuseClaim c st
        | none => (s.record key e { c with token := none }).promote key e c

/-- A claim is removed (R334, R335, R343). -/
def State.dropClaim (s : State) (key tenant cid : Nat) : State :=
  match s.entry? key with
  | none => s
  | some e =>
    match e.held tenant cid with
    | some c => (((s.handToken key c).setEntry key (e.without tenant cid)).reAnchor key tenant cid).evaluate key
    | none => s

/-- End a move without a commit: the destination copy is freed (R328); of a committed move that is not acknowledged, the source copy
goes. -/
def State.cancelMove (s : State) (k : Nat) (m : Move) (zeroLater : Bool) : State :=
  let s1 := (({ s with moves := Sparse.erase k s.moves }).endTokens m.tokens).wakePromotion m.entry
  match s1.entry? m.entry with
  | none => s1
  | some e =>
    let s2 := s1.setEntry m.entry { e with moving := false }
    if m.committed then (if m.order = e.homeAlloc then s2 else s2.freeAlloc m.order zeroLater)
    else
      match m.dest with
      | some u => s2.freeAlloc u.alloc zeroLater
      | none => s2

/-- Remove an entry: its move ends, its copies are freed, and no claim on it waits any longer (R318, R337). -/
def State.removeEntry (s : State) (key : Nat) (zeroLater : Bool) : State :=
  match s.entry? key with
  | none => s
  | some e =>
    let s1 := match s.moveOf key with
      | some (k, m) => s.cancelMove k m zeroLater
      | none => s
    let s2 := match e.upper with
      | some u => s1.freeAlloc u.alloc zeroLater
      | none => s1
    let s3 := (s2.freeAlloc e.homeAlloc zeroLater).endTokens (e.claims.filterMap (·.token))
    { s3 with entries := Sparse.erase key s3.entries }

end Sys2Proof.Machine
end

