-- ==== Sys2Proof/Machine/Issue.lean ====
section
/-!
DEFINITION. Issuing an instruction that names operands: its descriptors are prepared one after another (R219, R272), a fault faults
the context, a version or tag that must wait holds the instruction back (R274, R276), and a write into a locked or moving range
waits (R155, R326).
-/

namespace Sys2Proof.Machine

/-- An operand to prepare: its descriptor, the version tag asked for, whether it is written, and the offsets that a read meets. -/
structure OpAsk where
  d : Desc
  tag : Nat
  write : Bool
  reads : List Nat

/-- An operand at a version tag; a read meets every element and the scale bytes it uses. -/
def askAt (d : Desc) (tag : Nat) (write : Bool) : OpAsk := ⟨d, tag, write, if write then [] else d.offsets ++ d.scaleReads⟩

/-- An operand read, at the version its descriptor names. -/
def askRead (d : Desc) : OpAsk := askAt d d.vtag false

/-- An operand written. -/
def askWrite (d : Desc) : OpAsk := askAt d d.vtag true

/-- What preparing operands answers. -/
inductive Preps where
  | ready (ops : List (Desc × VSel)) (s : State)
  | fault (f : OpFault) (addr : Nat) (write : Bool) (s : State)
  | wait (w : WaitFor) (s : State)

/-- Resolve the versions of operands in order (R272). -/
def State.resolveAll (s : State) (a : Asker) : List OpAsk → Preps
  | [] => .ready [] s
  | o :: os =>
    match s.resolveAt a o.d o.tag o.write with
    | .fault f x u => .fault f x o.write u
    | .wait w t => .wait w t
    | .ready d v t =>
      match t.resolveAll a os with
      | .ready ds u => .ready ((d, v) :: ds) u
      | p => p

/-- Meet the errors and poison of what the operands read, in order (R350). -/
def State.meetAll (s : State) (n unit : Nat) : List (OpAsk × VSel) → Preps
  | [] => .ready [] s
  | (o, v) :: os =>
    match s.meetAt n o.d v o.write unit o.reads with
    | .fault f x u => .fault f x false u
    | .wait w t => .wait w t
    | .ready d v t =>
      match t.meetAll n unit os with
      | .ready ds u => .ready ((d, v) :: ds) u
      | p => p

/-- Prepare operands: every operand's descriptor and reach is checked before any version is resolved, and every version before any
access (R161, R219, R272). -/
def State.prepAll (s : State) (a : Asker) (unit : Nat) (ops : List OpAsk) : Preps :=
  if ops.any fun o => s.descFault a.n o.d then .fault .descriptor 0 false s
  else
    match ops.findSome? fun o => (s.reachFault a.n o.d o.write).map fun p => (p.1, p.2, o.write) with
    | some (f, x, w) => .fault f x w s
    | none =>
      match s.resolveAll a ops with
      | .ready ds t => t.meetAll a.n unit (ops.zip (ds.map (·.2)))
      | p => p

/-- A write to an operand must wait for a lock or a move (R155, R326): the range it reaches, or the scale record and scale bytes that the
conversion writes. -/
def State.writeHeld (s : State) (n : Nat) (o : OpAsk) (v : VSel) : Bool :=
  o.write &&
  match o.d.span with
  | some (lo, hi) => s.rangeHeld n lo hi v ||
    (match o.d.scaleSpan with
    | some (slo, shi) => s.rangeHeld n slo shi .plain
    | none => false)
  | none => false

/-- A fault of an instruction: a descriptor, stack or numeric fault involves no access (R622, R623, log entry 116). -/
def State.opFault (s : State) (c x unit part : Nat) (f : OpFault) (addr : Nat) (write : Bool) : State :=
  if f = .address ∨ f = .version ∨ f = .poison then s.faultCtx c x unit f.cause (b2n write) addr part
  else s.faultCtx c x unit f.cause 8 0 part

/-- The state in which an instruction faults on an operand: a poisoned operand is found by reading, and the errors met stay met (R350);
every other check comes before any access, and no fault opens a pending version (R219, R272). -/
def State.afterFault (s : State) (e : OpFault) (u : State) : State := if e = .poison then { u with entries := s.entries } else s

/-- The promotion in flight of an entry that an operand reads or writes (R189, R339). -/
def State.promotionOf (s : State) (n : Nat) (p : Desc × VSel) : Option (Nat × Entry × Upper) :=
  match p.1.span with
  | none => none
  | some (lo, hi) =>
    s.moves.findSome? fun m =>
      match s.entry? m.2.entry, m.2.dest with
      | some e, some u =>
        if u.tier < e.tier ∧ !m.2.committed ∧ overlaps lo hi e.base (e.base + e.bytes - 1) ∧
            (s.findEntry n (max lo e.base) p.2).map (·.1) = some m.2.entry then some (m.2.entry, e, u)
        else none
      | _, _ => none

/-- An instruction that names an operand whose promotion, claimed by its own tenant, is still in flight proceeds with no other context
ready: one late lift (R192, R339). -/
def State.lateLift (s : State) (c x n : Nat) (ds : List (Desc × VSel)) : State :=
  if s.otherReady c x then s
  else if ds.any fun p => match s.promotionOf n p with
      | some (_, e, u) => e.claims.any fun k => k.tenant == n && k.tier == u.tier
      | none => false then s.count 64 (Obj.lateLiftCount n)
  else s

/-- Run an instruction of a context on its operands, with its own answer to a fault. While a promotion of an operand is in flight and
another context of the core is ready, the context waits; with none ready the instruction proceeds (R189, R190, R192). -/
def State.withOpsElse (s : State) (c x unit : Nat) (k : Work) (ops : List OpAsk) (bad : OpFault → Nat → Bool → State → State)
    (f : List (Desc × VSel) → State → State) : State :=
  match s.prepAll k.asker unit ops with
  | .fault e a w u => bad e a w (s.afterFault e u)
  | .wait w t => t.holdBack c x w
  | .ready ds t =>
    if (ops.zip ds).any fun p => t.writeHeld k.tenant p.1 p.2.2 then s.notYet c x
    else
      match (if s.otherReady c x then ds.findSome? (s.promotionOf k.tenant) else none) with
      | some p => s.holdBack c x (.promotion p.1)
      | none => f ds (t.lateLift c x k.tenant ds)

/-- Run an instruction of a context on its operands: a fault faults the context. -/
def State.withOps (s : State) (c x unit part : Nat) (k : Work) (ops : List OpAsk) (f : List (Desc × VSel) → State → State) : State :=
  s.withOpsElse c x unit k ops (fun e a w t => t.opFault c x unit part e a w) f

/-- A descriptor fault of an instruction (R83, R161, R219). -/
def State.descriptorFault (s : State) (c x unit part : Nat) : State := s.opFault c x unit part .descriptor 0 false

/-- The line-aligned address of the first poisoned line a written descriptor reaches (R350, R622). -/
def State.badWrite (s : State) (n : Nat) (d : Desc) : Nat := s.badAddr n d.offsets (if d.v then .pending else .plain)

/-- Finish a store: the counts go to the destination's slot; a full record list is a descriptor fault (R108), a part stored into a
poisoned line a poisoned-operand fault (R350). -/
def State.finishStore (s : State) (c x unit : Nat) (k : Work) (d : Desc) : Stored → State
  | .done t n => t.judgeDesc k d unit n
  | .full => s.descriptorFault c x unit 0
  | .bad t => t.opFault c x unit 0 .poison (t.badWrite k.tenant d) true

/-- An element is counted in scaled_range_count (R116, R187). -/
def State.countRange (s : State) (c : Nat) (xs : List (Nat × Bool)) : State :=
  let k := (xs.filter (·.2)).length
  if k = 0 then s else s.addReg 64 (Obj.scaledRangeCount c) k

/-- The F32 words of an operand, its elements outside F32's range counted. -/
def State.takeF32s (s : State) (c n : Nat) (v : VSel) (d : Desc) : List Nat × State :=
  let xs := s.readF32s n v d
  (xs.map (·.1), s.countRange c xs)

/-- The descriptor of a slot; slot 0 names no tensor (R215). -/
def State.slotDesc (s : State) (k : Work) (slot : Nat) : Option Desc := if slot = 0 then none else some (s.descOf k slot)

end Sys2Proof.Machine
end

