-- ==== Sys2Proof/Machine/LaneFns.lean ====
section
/-!
DEFINITION. The functions of R203 and R204: the exact value in fixed point, and the bit pattern delivered: one the part fixes
(log entry 7) within the bound of R203.
-/

namespace Sys2Proof.Machine

/-- The functions of R203 that are not correctly rounded. -/
inductive LaneFn where
  | rcp
  | rsq
  | exp
  | log
  | exp2
  | log2
  | sin
  | cos
  | tanh
  | sigm
  | erf
  | gelu
  deriving DecidableEq, Repr

/-- The function's number for the part's own choice. -/
def LaneFn.code : LaneFn → Nat
  | .rcp => 0
  | .rsq => 1
  | .exp => 2
  | .log => 3
  | .exp2 => 4
  | .log2 => 5
  | .sin => 6
  | .cos => 7
  | .tanh => 8
  | .sigm => 9
  | .erf => 10
  | .gelu => 11

/-! Fixed point with 512 fraction bits: every F32 is exact, and the values below differ from the functions by less than
2^-300 (log entry 7). -/

/-- One. -/
def fixOne : Int := 2 ^ 512

/-- ln 2, π, 2 / √π and 1 / √2. -/
def fixLn2 : Int :=
  0xb17217f7d1cf79abc9e3b39803f2f6af40f343267298b62d8a0d175b8baafa2be7b876206debac98559552fb4afa1b10ed2eae35c138214427573b291169b825
def fixPi : Int :=
  0x3243f6a8885a308d313198a2e03707344a4093822299f31d0082efa98ec4e6c89452821e638d01377be5466cf34e90c6cc0ac29b7c97c50dd3f84d5b5b5470917
def fixTwoOverRootPi : Int :=
  0x120dd750429b6d11ae3a914fed7fd8688281341d7587cea2e7342b06199cc416180eb39f0b24e1e2281806c12d98f35d77a3e9ddc91c394f0e9eedf0efffd84a2
def fixRootHalf : Int :=
  0xb504f333f9de6484597d89b3754abe9f1d6f60ba893ba84ced17ac85833399154afc83043ab8a2c3a8b1fe6fdc83db390f74a85e439c7b4a780487363dfa2768

/-- A finite number in fixed point. -/
def fixOf : Num → Int
  | .fin s m e => alignTo s m e (-512)
  | _ => 0

/-- A fixed-point value as a number. -/
def fixNum (y : Int) : Num := .fin (decide (y < 0)) y.natAbs (-512)

/-- Product and quotient. -/
def fixMul (a b : Int) : Int := a * b / fixOne
def fixDiv (a b : Int) : Int := a * fixOne / b

/-- Clamp an argument to ± k. -/
def fixClamp (k x : Int) : Int := clampInt (-(k * fixOne)) (k * fixOne) x

/-- Sum of a power series: the term after term t of index i is next i t, and it enters with weight w i. -/
def fixSeries (next : Nat → Int → Int) (w : Nat → Int → Int) : Nat → Nat → Int → Int
  | 0, _, _ => 0
  | fuel + 1, i, t => w i t + fixSeries next w fuel (i + 1) (next i t)

/-- e^x. -/
def fixExp (x : Int) : Int :=
  let k := (2 * x + fixLn2) / (2 * fixLn2)
  let r := x - k * fixLn2
  let y := fixSeries (fun i t => fixMul t r / (i + 1)) (fun _ t => t) 100 0 fixOne
  if 0 ≤ k then y * 2 ^ k.toNat else y / 2 ^ (-k).toNat

/-- ln of m × 2^e, with m positive. -/
def fixLog (m : Nat) (e : Int) : Int :=
  let k := Nat.log2 m
  let z : Int := alignTo false m (-(k : Int)) (-512)
  let t := fixDiv (z - fixOne) (z + fixOne)
  let t2 := fixMul t t
  2 * fixSeries (fun _ u => fixMul u t2) (fun i u => u / (2 * i + 1)) 180 0 t + (e + k) * fixLn2

/-- The sine at q quarter turns more: x is reduced by quarter turns, and an even count takes the sine series, an odd one the
cosine series. -/
def fixSin (x : Int) (q : Nat) : Int :=
  let n := (2 * x + fixPi / 2) / fixPi
  let r := (2 * x - n * fixPi) / 2
  let r2 := fixMul r r
  let sn := fixSeries (fun i t => -(fixMul t r2) / ((2 * i + 2) * (2 * i + 3))) (fun _ t => t) 80 0 r
  let cs := fixSeries (fun i t => -(fixMul t r2) / ((2 * i + 1) * (2 * i + 2))) (fun _ t => t) 80 0 fixOne
  let j := ((n + q) % 4).toNat
  if j = 0 then sn else if j = 1 then cs else if j = 2 then -sn else -cs

/-- erf x, for |x| at most 10. -/
def fixErf (x : Int) : Int :=
  let x2 := fixMul x x
  fixMul fixTwoOverRootPi (fixSeries (fun i t => -(fixMul t x2) / (i + 1)) (fun i t => t / (2 * i + 1)) 620 0 x)

/-- tanh x. -/
def fixTanh (x : Int) : Int :=
  let e := fixExp (2 * fixClamp 60 x)
  fixDiv (e - fixOne) (e + fixOne)

/-- The exact value of a function at a finite argument that R204 does not name. -/
def LaneFn.exact (f : LaneFn) (neg : Bool) (m : Nat) (e : Int) : Int :=
  let x := alignTo neg m e (-512)
  match f with
  | .rcp => fixDiv fixOne x
  | .rsq => isqrtLoop (2 ^ 1536 / x.toNat) 600 0
  | .exp => fixExp (fixClamp 120 x)
  | .exp2 => fixExp (fixMul (fixClamp 170 x) fixLn2)
  | .log => fixLog m e
  | .log2 => fixDiv (fixLog m e) fixLn2
  | .sin => fixSin x 0
  | .cos => fixSin x 1
  | .tanh => fixTanh x
  | .sigm =>
    let t := fixExp (-(fixClamp 120 x).natAbs)
    if 0 ≤ x then fixDiv fixOne (fixOne + t) else fixDiv t (fixOne + t)
  | .erf => fixErf (fixClamp 10 x)
  | .gelu =>
    if 14 * fixOne < x then x
    else if x < -(14 * fixOne) then 0
    else fixMul x (fixOne + fixErf (fixMul x fixRootHalf)) / 2

/-- The unit in the last place of F32 at a value (R203), in fixed point. -/
def fixUlp (y : Int) : Int := 2 ^ (512 + max ((Nat.log2 y.natAbs : Int) - 512 - 23) (-149)).toNat

/-- The distance R203 allows from the exact value y at argument x. -/
def LaneFn.bound (f : LaneFn) (x y : Int) : Int :=
  match f with
  | .sin | .cos => if x.natAbs ≤ 2 ^ 532 then 2 * fixUlp y else 2 ^ 490
  | .tanh | .sigm | .erf => 2 * fixUlp y
  | .gelu => if y.natAbs < 2 ^ 412 then 2 ^ 386 else 3 * fixUlp y
  | _ => fixUlp y

/-- The results at special arguments (R204): NaN, infinities, zeros and negative arguments. -/
def LaneFn.special (f : LaneFn) : Num → Option Nat
  | .nan => some fNaN
  | .inf neg =>
    some (match f with
      | .exp | .exp2 => if neg then 0 else f32.infCode
      | .log | .log2 => if neg then fNaN else f32.infCode
      | .rcp => f32.signed neg 0
      | .rsq => if neg then fNaN else 0
      | .sin | .cos => fNaN
      | .tanh | .erf => f32.signed neg fOne
      | .sigm => if neg then 0 else fOne
      | .gelu => if neg then f32.signed true 0 else f32.infCode)
  | .fin neg m _ =>
    match f with
    | .log | .log2 => if m = 0 then some (f32.signed true f32.infCode) else if neg then some fNaN else none
    | .rcp => if m = 0 then some (f32.signed neg f32.infCode) else none
    | .rsq => if m = 0 then some (f32.signed neg f32.infCode) else if neg then some fNaN else none
    | _ => none

/-- The pattern delivered at a finite argument: the part's own pattern where it lies within the bound, else the nearest one. A
result of e^x or 2^x below the smallest subnormal is +0 (R204). -/
def LaneFn.pick (f : LaneFn) (x : Nat) (neg : Bool) (m : Nat) (e : Int) : Nat :=
  let y := f.exact neg m e
  if (f = .exp ∨ f = .exp2) ∧ y < 2 ^ 363 then 0
  else
    let best := toF32 (fixNum y)
    let own := (Config.laneFunction f.code (BitVec.ofNat 32 x)).toNat
    if fFinite own ∧ fFinite best ∧ ((fixOf (ofF32 own) - y).natAbs : Int) ≤ f.bound (alignTo neg m e (-512)) y then own
    else best

/-- A function of R203 on an F32 word. -/
def LaneFn.apply (f : LaneFn) (x : Nat) : Nat :=
  match f.special (ofF32 x) with
  | some v => v
  | none =>
    match ofF32 x with
    | .fin neg m e => f.pick x neg m e
    | _ => fNaN

/-! Lane operations that R202 and R203 give without a mnemonic: no row of the opcode table is one of them, so no command names them -/

/-- Lane operations of two registers (R202): F32 subtraction, maximum and minimum, 32-bit integer arithmetic. -/
inductive LaneOp where
  | sub
  | max
  | min
  | iadd
  | isub
  | imul
  deriving DecidableEq, Repr

/-- Their results (R98, R202): integers wrap modulo 2^32. -/
def LaneOp.apply : LaneOp → Nat → Nat → Nat
  | .sub, a, b => fSub a b
  | .max, a, b => fMax a b
  | .min, a, b => fMin a b
  | .iadd, a, b => (a + b) % 2 ^ 32
  | .isub, a, b => (a + 2 ^ 32 - b % 2 ^ 32) % 2 ^ 32
  | .imul, a, b => a * b % 2 ^ 32

/-- Conversion between F32 and F16 or BF16, correctly rounded (R202): out of F32 in infinity mode, and into it exactly. -/
def laneNarrow (fmt a : Nat) : Nat := (convertElem fmt .nearest true (ofF32 a)).1
def laneWiden (fmt a : Nat) : Nat := toF32 (decodeElem fmt a)

/-- The comparisons of R98. -/
inductive LaneTest where
  | eq
  | ne
  | lt
  | le
  | unordered
  deriving DecidableEq, Repr

/-- Ordered comparisons with a NaN are false, inequality is the negation of equality, and zeros of either sign compare equal (R98). -/
def LaneTest.holds : LaneTest → Nat → Nat → Bool
  | .eq, a, b => (ofF32 a).eq (ofF32 b)
  | .ne, a, b => !(ofF32 a).eq (ofF32 b)
  | .lt, a, b => (ofF32 a).lt (ofF32 b)
  | .le, a, b => (ofF32 a).lt (ofF32 b) || (ofF32 a).eq (ofF32 b)
  | .unordered, a, b => ofF32 a == .nan || ofF32 b == .nan

end Sys2Proof.Machine
end

