-- ==== Sys2Proof/Machine/Rows.lean ====
section
/-!
DEFINITION. The row engine's normalisations and soft-maximum (R207 to R214), and the optimiser kernels (R255 to R267). Every written
operation is one F32 operation, in the order in which the rule writes it (log entry 13).
-/

namespace Sys2Proof.Machine

/-- The unit of the row engine (R28). -/
def rowUnit (c : Nat) : Nat := engineId c 2

/-! Side memory (R208) -/

/-- The entry of row r: window base + SBASE + r. -/
def State.sideKey (s : State) (c x sbase r : Nat) : Nat := (s.ctx c x).sideBase + sbase + r

/-- Read an entry: a and b. -/
def State.sideEntry (s : State) (c x sbase r : Nat) : Nat × Nat :=
  let v := Sparse.get 0 (s.sideKey c x sbase r) (s.core c).side
  (v % 2 ^ 32, v / 2 ^ 32)

/-- Write the entries of rows 0, 1, 2, … -/
def State.putSide (s : State) (c x sbase : Nat) (es : List (Nat × Nat)) : State :=
  let v := s.core c
  let ks := (List.range es.length).zip es |>.map fun p => (s.sideKey c x sbase p.1, p.2.1 + p.2.2 * 2 ^ 32)
  s.setCore c { v with
    side := ks.foldl (fun m p => Sparse.set 0 p.1 p.2 m) v.side,
    sidePoison := ks.foldl (fun m p => Sparse.set 0 p.1 0 m) v.sidePoison }

/-- An instruction on M rows reaches an entry outside its context's window (R208). -/
def State.sideOutside (s : State) (c x sbase rows : Nat) : Bool :=
  decide (0 < rows) && decide ((s.ctx c x).sideSize < sbase + rows)

/-- A row's entry is poisoned (R208). -/
def State.sideBad (s : State) (c x sbase rows : Nat) : Bool :=
  (List.range rows).any fun r => Sparse.get 0 (s.sideKey c x sbase r) (s.core c).sidePoison != 0

/-! Rows -/

/-- Two descriptors have the same extents. -/
def Desc.sameShape (a b : Desc) : Bool := a.e0 == b.e0 && a.e1 == b.e1 && a.e2 == b.e2 && a.e3 == b.e3

/-- A vector of n elements along dimension 0. -/
def Desc.isVec (d : Desc) (n : Nat) : Bool := d.e0 == n && d.runs == 1

/-- Cut a tensor's words into its rows. -/
def Desc.rowsOf (d : Desc) (xs : List Nat) : List (List Nat) := (List.range d.runs).map fun r => (xs.drop (r * d.e0)).take d.e0

/-- The conversion of an instruction's output (R100, R173 stage 2). -/
def rowMode (sr ovf : Bool) : ConvMode := ⟨sr, ovf, 2⟩

/-- F32 results as numbers. -/
def f32Nums (rows : List (List Nat)) : List Num := rows.flatten.map ofF32

/-- Count a completed row instruction (R221). -/
def State.rowDone (s : State) (c : Nat) : State := s.addReg 64 (Obj.rowInstructionCount c) 1

/-- Store rows into Y and complete (R207). -/
def State.storeRows (s : State) (c x : Nat) (k : Work) (d : Desc) (v : VSel) (m : ConvMode) (rows : List (List Nat))
    (after : State → State) : State :=
  match s.storeValues k.tenant k.stepOf d v m 32 (f32Nums rows) with
  | .done t n => (after (t.judgeDesc k d (rowUnit c) n)).rowDone c
  | other => s.finishStore c x (rowUnit c) k d other

/-- The correctly rounded 1 / n (R211). -/
def invCount (n : Nat) : Nat := fDiv fOne (toF32 (Num.ofInt n))

/-- A vector operand, absent where the slot is 0. -/
def vecOr (n dflt : Nat) : Option (List Nat) → List Nat
  | some l => l
  | none => List.replicate n dflt

/-- RNORM.F of one row (R211): the output and the entry. -/
def normForward (rms : Bool) (eps : Nat) (gs bs xs : List Nat) : List Nat × (Nat × Nat) :=
  if xs.isEmpty then ([], (0, 0))
  else
    let inv := invCount xs.length
    if rms then
      let rho := LaneFn.rsq.apply (fAdd (fMul (fTree (xs.map fun a => fMul a a)) inv) eps)
      ((xs.zip gs).map fun p => fMul (fMul p.1 rho) p.2, (0, rho))
    else
      let mu := fMul (fTree xs) inv
      let ds := xs.map fun a => fSub a mu
      let var := fMul (fTree (ds.map fun a => fMul a a)) inv
      let rho := LaneFn.rsq.apply (fAdd var eps)
      ((ds.zip (gs.zip bs)).map fun p => fAdd (fMul (fMul p.1 rho) p.2.1) p.2.2, (mu, rho))

/-- x̂ of a row from its entry (R211). -/
def normHat (rms : Bool) (e : Nat × Nat) (xs : List Nat) : List Nat :=
  xs.map fun a => fMul (if rms then a else fSub a e.1) e.2

/-- RNORM.B of one row (R211): x̂ · Σ(g · x̂) / n from left to right (log entry 13). -/
def normBackward (rms : Bool) (e : Nat × Nat) (gs xs dys : List Nat) : List Nat :=
  let inv := invCount xs.length
  let hs := normHat rms e xs
  let g := (dys.zip gs).map fun p => fMul p.1 p.2
  let sg := fMul (fTree g) inv
  let sgh := fTree ((g.zip hs).map fun p => fMul p.1 p.2)
  (g.zip hs).map fun p =>
    let a := if rms then p.1 else fSub p.1 sg
    fMul e.2 (fSub a (fMul (fMul p.2 sgh) inv))

/-- A column of rows. -/
def column (rows : List (List Nat)) (j : Nat) : List Nat := rows.map fun r => (r[j]?).getD 0

/-- The required slots of a row instruction are named and none is of format S8 (R84, log entry 30). -/
def rowSlots (ds : List (Option Desc)) : Option (List Desc) :=
  let l := ds.filterMap id
  if l.length = ds.length ∧ l.all (fun d => d.fmt != fmtS8) then some l else none

/-- An optional operand. -/
def optAsk (write : Bool) : Option Desc → List OpAsk
  | some d => [askAt d d.vtag write]
  | none => []

/-- Optional vector operand fits: n elements, not S8. -/
def optVecOk (n : Nat) : Option Desc → Bool
  | some d => d.isVec n && d.fmt != fmtS8
  | none => true

/-- Read an optional prepared operand as F32 words. -/
def State.takeOpt (s : State) (c n : Nat) : Option (Desc × VSel) → Option (List Nat) × State
  | some (d, v) => let (xs, t) := s.takeF32s c n v d; (some xs, t)
  | none => (none, s)

/-- RNORM_F (R211). -/
def execRnormF (core ctx : Nat) (w : RowWord) (s : State) : Host.Outcome State Fault Refusal :=
  .next (s.issue core ctx fun k t =>
    let gd := t.slotDesc k w.g
    let bd := t.slotDesc k w.b
    match rowSlots [t.slotDesc k w.x, t.slotDesc k w.y] with
    | some [x, y] =>
      if !x.sameShape y || !optVecOk x.e0 gd || !optVecOk x.e0 bd || t.sideOutside core ctx w.sbase x.runs then
        t.descriptorFault core ctx (rowUnit core) 0
      else
        t.withOps core ctx (rowUnit core) 0 k ([askRead x, askWrite y] ++ optAsk false gd ++ optAsk false bd) fun ds u =>
          match ds with
          | (xd, xv) :: (yd, yv) :: rest =>
            let gp := if gd.isSome then rest.head? else none
            let bp := if bd.isSome then (if gd.isSome then rest.tail.head? else rest.head?) else none
            let (xs, u1) := u.takeF32s core k.tenant xv xd
            let (gs, u2) := u1.takeOpt core k.tenant gp
            let (bs, u3) := u2.takeOpt core k.tenant bp
            let out := (xd.rowsOf xs).map (normForward w.mode w.imm (vecOr xd.e0 fOne gs) (vecOr xd.e0 0 bs))
            u3.storeRows core ctx k yd yv (rowMode w.sr w.ovf) (out.map (·.1)) fun v =>
              v.putSide core ctx w.sbase (out.map (·.2))
          | _ => u
    | _ => t.descriptorFault core ctx (rowUnit core) 0)

/-- A poisoned side-memory entry met by an instruction (R208). -/
def State.sidePoisonFault (s : State) (c x : Nat) : State := s.opFault c x (rowUnit c) 0 .poison 0 false

/-- RNORM_B (R211). -/
def execRnormB (core ctx : Nat) (w : RowWord) (s : State) : Host.Outcome State Fault Refusal :=
  .next (s.issue core ctx fun k t =>
    let bd := t.slotDesc k w.b
    match rowSlots [t.slotDesc k w.x, t.slotDesc k w.y, t.slotDesc k w.g] with
    | some [x, y, g] =>
      if !x.sameShape y || !x.sameShape g || !optVecOk x.e0 bd || t.sideOutside core ctx w.sbase x.runs then
        t.descriptorFault core ctx (rowUnit core) 0
      else if t.sideBad core ctx w.sbase x.runs then t.sidePoisonFault core ctx
      else
        t.withOps core ctx (rowUnit core) 0 k ([askRead x, askWrite y, askRead g] ++ optAsk false bd) fun ds u =>
          match ds with
          | (xd, xv) :: (yd, yv) :: (gd, gv) :: rest =>
            let (xs, u1) := u.takeF32s core k.tenant xv xd
            let (dys, u2) := u1.takeF32s core k.tenant gv gd
            let (gs, u3) := u2.takeOpt core k.tenant rest.head?
            let rows := (List.range xd.runs).zip ((xd.rowsOf xs).zip (gd.rowsOf dys))
            let out := rows.map fun p =>
              normBackward w.mode (u3.sideEntry core ctx w.sbase p.1) (vecOr xd.e0 fOne gs) p.2.1 p.2.2
            u3.storeRows core ctx k yd yv (rowMode w.sr w.ovf) out id
          | _ => u
    | _ => t.descriptorFault core ctx (rowUnit core) 0)

/-- RNORM_P (R211): dγ into Y, and in the layer form dβ into slot B where it is named. -/
def execRnormP (core ctx : Nat) (w : RowWord) (s : State) : Host.Outcome State Fault Refusal :=
  .next (s.issue core ctx fun k t =>
    let bd := if w.mode then none else t.slotDesc k w.b
    match rowSlots [t.slotDesc k w.x, t.slotDesc k w.y, t.slotDesc k w.g] with
    | some [x, y, g] =>
      if !x.sameShape g || !y.isVec x.e0 || !optVecOk x.e0 bd || t.sideOutside core ctx w.sbase x.runs then
        t.descriptorFault core ctx (rowUnit core) 0
      else if t.sideBad core ctx w.sbase x.runs then t.sidePoisonFault core ctx
      else
        t.withOps core ctx (rowUnit core) 0 k ([askRead x, askWrite y, askRead g] ++ optAsk true bd) fun ds u =>
          match ds with
          | (xd, xv) :: (yd, yv) :: (gd, gv) :: rest =>
            let (xs, u1) := u.takeF32s core k.tenant xv xd
            let (dys, u2) := u1.takeF32s core k.tenant gv gd
            let hats := ((List.range xd.runs).zip (xd.rowsOf xs)).map fun p =>
              normHat w.mode (u2.sideEntry core ctx w.sbase p.1) p.2
            let dyRows := gd.rowsOf dys
            let prods := (dyRows.zip hats).map fun p => (p.1.zip p.2).map fun q => fMul q.1 q.2
            let dg := (List.range xd.e0).map fun j => fTree (column prods j)
            let db := (List.range xd.e0).map fun j => fTree (column dyRows j)
            let m := rowMode w.sr w.ovf
            match rest with
            | [] => u2.storeRows core ctx k yd yv m [dg] id
            | (bd1, bv) :: _ =>
              match u2.storeValues k.tenant k.stepOf yd yv m 32 (f32Nums [dg]) with
              | .done u3 n =>
                (match u3.storeValues k.tenant k.stepOf bd1 bv m 32 (f32Nums [db]) with
                | .done u4 n2 => (u4.judgeAll k (rowUnit core) [(yd, n), (bd1, n2)]).rowDone core
                | .full => u2.descriptorFault core ctx (rowUnit core) 0
                | other => u3.finishStore core ctx (rowUnit core) k bd1 other)
              | other => u2.finishStore core ctx (rowUnit core) k yd other
          | _ => u
    | _ => t.descriptorFault core ctx (rowUnit core) 0)

/-! Soft-maximum -/

/-- The block mask admits element j of row r (R212). -/
def State.maskByte (s : State) (n : Nat) (m : Option (Desc × VSel)) (j r : Nat) : Bool :=
  match m with
  | some (d, v) => s.rawElem n v d (r / 64) (j / 64) != 0
  | none => true

/-- Is element j of row r unmasked (R212)? -/
def State.unmasked (s : State) (n : Nat) (w : RowWord) (m : Option (Desc × VSel)) (r j : Nat) : Bool :=
  !(w.mode && decide ((r : Int) + signedOf 16 w.ofs < (j : Int))) && s.maskByte n m j r

/-- Negative infinity. -/
def fNegInf : Nat := 0xFF800000

/-- RSMAX.F of one row (R212, R213): the output, the entry, and whether the maximum was empty. `live` says which elements are
unmasked. -/
def softForward (alpha : Nat) (live : List Bool) (xs : List Nat) : List Nat × (Nat × Nat) × Bool :=
  let ps := (live.zip xs).map fun p => (p.1, fMul alpha p.2)
  match (ps.filter (·.1)).map (·.2) with
  | [] => (xs.map fun _ => 0, (fNegInf, fNegInf), true)
  | v :: vs =>
    let m := vs.foldl fMax v
    let l := LaneFn.log.apply (fTree ((v :: vs).map fun a => LaneFn.exp.apply (fSub a m)))
    (ps.map fun p => if p.1 then LaneFn.exp.apply (fSub (fSub p.2 m) l) else 0, (m, l), false)

/-- The mask operand of a soft-maximum (R212): U8, covering the rows and columns. -/
def maskOk (w : RowWord) (x : Desc) : Option Desc → Bool
  | some d => d.fmt == fmtU8 && decide (ceilDiv x.e0 64 ≤ d.e0) && decide (ceilDiv x.runs 64 ≤ d.runs)
  | none => !w.bmask

/-- RSMAX_F (R212, R213). -/
def execRsmaxF (core ctx : Nat) (w : RowWord) (s : State) : Host.Outcome State Fault Refusal :=
  .next (s.issue core ctx fun k t =>
    let md := if w.bmask then t.slotDesc k w.b else none
    match rowSlots [t.slotDesc k w.x, t.slotDesc k w.y] with
    | some [x, y] =>
      if !x.sameShape y || !maskOk w x md || t.sideOutside core ctx w.sbase x.runs then
        t.descriptorFault core ctx (rowUnit core) 0
      else
        t.withOps core ctx (rowUnit core) 0 k ([askRead x, askWrite y] ++ optAsk false md) fun ds u =>
          match ds with
          | (xd, xv) :: (yd, yv) :: rest =>
            let (xs, u1) := u.takeF32s core k.tenant xv xd
            let out := ((List.range xd.runs).zip (xd.rowsOf xs)).map fun p =>
              softForward w.imm ((List.range xd.e0).map (u1.unmasked k.tenant w rest.head? p.1)) p.2
            u1.storeRows core ctx k yd yv (rowMode w.sr w.ovf) (out.map (·.1)) fun v =>
              (out.filter (·.2.2)).foldl (fun z _ => z.emptyReduction core ctx)
                (v.putSide core ctx w.sbase (out.map (·.2.1)))
          | _ => u
    | _ => t.descriptorFault core ctx (rowUnit core) 0)

/-- RSMAX.B of one row (R214). -/
def softBackward (alpha : Nat) (psrc : Bool) (e : Nat × Nat) (live : List Bool) (xs dps : List Nat) : List Nat :=
  if !psrc && e.1 == fNegInf && e.2 == fNegInf then xs.map fun _ => 0
  else
    let ps := xs.map fun a => if psrc then a else LaneFn.exp.apply (fSub (fSub (fMul alpha a) e.1) e.2)
    let all := live.zip (ps.zip dps)
    let s := fTree ((all.filter (·.1)).map fun q => fMul q.2.1 q.2.2)
    all.map fun q => if q.1 then fMul (fMul alpha q.2.1) (fSub q.2.2 s) else 0

/-- RSMAX_B (R214). -/
def execRsmaxB (core ctx : Nat) (w : RowWord) (s : State) : Host.Outcome State Fault Refusal :=
  .next (s.issue core ctx fun k t =>
    let md := if w.bmask then t.slotDesc k w.b else none
    match rowSlots [t.slotDesc k w.x, t.slotDesc k w.y, t.slotDesc k w.g] with
    | some [x, y, g] =>
      if !x.sameShape y || !x.sameShape g || !maskOk w x md || (!w.psrc && t.sideOutside core ctx w.sbase x.runs) then
        t.descriptorFault core ctx (rowUnit core) 0
      else if !w.psrc && t.sideBad core ctx w.sbase x.runs then t.sidePoisonFault core ctx
      else
        t.withOps core ctx (rowUnit core) 0 k ([askRead x, askWrite y, askRead g] ++ optAsk false md) fun ds u =>
          match ds with
          | (xd, xv) :: (yd, yv) :: (gd, gv) :: rest =>
            let (xs, u1) := u.takeF32s core k.tenant xv xd
            let (dps, u2) := u1.takeF32s core k.tenant gv gd
            let out := ((List.range xd.runs).zip ((xd.rowsOf xs).zip (gd.rowsOf dps))).map fun p =>
              softBackward w.imm w.psrc (u2.sideEntry core ctx w.sbase p.1)
                ((List.range xd.e0).map (u2.unmasked k.tenant w rest.head? p.1)) p.2.1 p.2.2
            u2.storeRows core ctx k yd yv (rowMode w.sr w.ovf) out id
          | _ => u
    | _ => t.descriptorFault core ctx (rowUnit core) 0)

end Sys2Proof.Machine
end

