-- ==== Sys2Proof/Machine/Mover.lean ====
section
/-!
DEFINITION. The data mover (R226, R231 to R252, R344): copies, bit planes, the activation stack and folds.
-/

namespace Sys2Proof.Machine

/-- The unit of the data mover (R28). -/
def moverUnit (c : Nat) : Nat := engineId c 3

/-- A descriptor fault of the data mover. -/
def State.moverFault (s : State) (c x : Nat) : State := s.descriptorFault c x (moverUnit c) 0

/-- S8, FX32 or FX24: no source of DM.KEEP, DM.GATE or DM.XPOSE (R252). -/
def isExchangeFmt (f : Nat) : Bool := f == fmtS8 || f == fmtFX32 || f == fmtFX24

/-- Exact scaled values of a tensor, run after run (R91; log entry 32). -/
def State.exactValues (s : State) (n : Nat) (v : VSel) (d : Desc) : List Num :=
  (List.range d.runs).flatMap fun r => (List.range d.e0).map fun i => s.elemValue n v d r i

/-- Convert values into Y, and the report of the instruction (R100 to R113, R288). -/
def State.moverStore (s : State) (c x : Nat) (k : Work) (p : Desc × VSel) (sr ovf : Bool) (srcBits : Nat) (vals : List Num) :
    State := s.finishStore c x (moverUnit c) k p.1 (s.storeValues k.tenant k.stepOf p.1 p.2 (rowMode sr ovf) srcBits vals)

/-- Write raw elements into Y; a part not stored into a poisoned line is a fault (R350). -/
def State.moverRaw (s : State) (c x : Nat) (k : Work) (p : Desc × VSel) (es : List Nat) (next : State → State) : State :=
  let (t, bad) := s.storeRaw k.tenant p.1 p.2 es
  if bad then t.opFault c x (moverUnit c) 0 .poison (t.badWrite k.tenant p.1) true else next t

/-! Copies -/

/-- DM_COPY (R344). -/
def execDmCopy (core ctx : Nat) (w : DmWord) (s : State) : Host.Outcome State Fault Refusal :=
  .next (s.issue core ctx fun k t =>
    match t.slotDesc k w.x, t.slotDesc k w.y with
    | some x, some y =>
      if !x.sameShape y || x.meets y || (x.fmt == fmtS8) != (y.fmt == fmtS8) || x.fmt == fmtFX32 || x.fmt == fmtFX24 ||
          y.fmt == fmtFX32 || y.fmt == fmtFX24 then t.moverFault core ctx
      else
        t.withOps core ctx (moverUnit core) 0 k [askRead x, askWrite y] fun ds u =>
          match ds with
          | [(xd, xv), yp] =>
            if x.fmt = fmtS8 then u.moverRaw core ctx k yp (u.rawElems k.tenant xv xd) id
            else u.moverStore core ctx k yp w.sr w.ovf (fmtWidth xd.fmt) (u.exactValues k.tenant xv xd)
          | _ => u
    | _, _ => t.moverFault core ctx)

/-- The values of Y in its own order when dimensions 0 and 1 of X are exchanged (R226). -/
def transposed (d : Desc) (vals : List Num) : List Num :=
  (List.range (d.e2 * d.e3)).flatMap fun q =>
    let plane := (vals.drop (q * d.e0 * d.e1)).take (d.e0 * d.e1)
    (List.range d.e0).flatMap fun i => (List.range d.e1).map fun j => (plane[j * d.e0 + i]?).getD .zero

/-- DM_XPOSE (R226). -/
def execDmXpose (core ctx : Nat) (w : DmWord) (s : State) : Host.Outcome State Fault Refusal :=
  .next (s.issue core ctx fun k t =>
    match t.slotDesc k w.x, t.slotDesc k w.y with
    | some x, some y =>
      if isExchangeFmt x.fmt || y.fmt == fmtS8 || x.meets y || x.e0 != y.e1 || x.e1 != y.e0 || x.e2 != y.e2 || x.e3 != y.e3 then
        t.moverFault core ctx
      else
        t.withOps core ctx (moverUnit core) 0 k [askRead x, askWrite y] fun ds u =>
          match ds with
          | [(xd, xv), yp] =>
            u.moverStore core ctx k yp w.sr w.ovf (fmtWidth xd.fmt) (transposed xd (u.exactValues k.tenant xv xd))
          | _ => u
    | _, _ => t.moverFault core ctx)

/-! Bit planes (R231 to R233) -/

/-- A bit plane fits its activation or gradient (R231). -/
def planeOk (p a : Desc) : Bool :=
  p.fmt == fmtU8 && p.block == 0 && p.scalePtr == 0 && p.e0 == ceilDiv a.e0 8 && p.e1 == a.e1 && p.e2 == a.e2 && p.e3 == a.e3

/-- The bit of an element (R232): non-zero mode, or the window lo < x < hi. -/
def keepBit (mode : Bool) (lo hi : Nat) (x : Num) : Bool := if mode then !x.isZero else (ofF32 lo).lt x && x.lt (ofF32 hi)

/-- The bytes of a plane from the bits of one run. -/
def planeRun (bs : List Bool) : List Nat :=
  (cut 8 bs).map fun c => ((List.range c.length).zip c).foldl (fun a p => a + b2n p.2 * 2 ^ p.1) 0

/-- The bytes of a plane from the bits of all runs. -/
def planeBytes (d : Desc) (bs : List Bool) : List Nat :=
  (List.range d.runs).flatMap fun r => planeRun ((bs.drop (r * d.e0)).take d.e0)

/-- The bits of a plane, element after element of its activation. -/
def planeBits (d : Desc) (bytes : List Nat) : List Bool :=
  let n := ceilDiv d.e0 8
  (List.range d.runs).flatMap fun r => (List.range d.e0).map fun i => bit ((bytes[r * n + i / 8]?).getD 0) (i % 8)

/-! The activation stack (R235 to R241) -/

/-- The service state of the work on a context (R228, R254): work that carries no step runs in normal service. -/
def State.serviceOf (s : State) (k : Work) : Nat :=
  match k.stepOf with
  | some st => (match (s.tenant k.tenant).step? st with | some p => p.service | none => 0)
  | none => 0

/-- The bytes of an entry (R236, R237). -/
def State.stackEntry (s : State) (k : Work) (d : Desc) (v : VSel) (top kind tid : Nat) (mode : Bool) (lo hi : Nat) : List Byte :=
  let body := (d.offsets.map fun o => s.peek k.tenant o v) ++ d.scaleOffs.map fun o => s.peek k.tenant o .plain
  let stored := if d.scaled then s.recField k.tenant (offOf d.scalePtr + 4) 1 else 0x7F
  toBytes 4 tid ++ toBytes 2 k.microBatch ++ toBytes 1 (d.fmt + 32 * d.block) ++ toBytes 1 kind ++ toBytes 1 (b2n mode) ++
  toBytes 1 stored ++ toBytes 6 0 ++ toBytes 4 d.e0 ++ toBytes 4 d.e1 ++ toBytes 4 d.e2 ++ toBytes 4 d.e3 ++
  toBytes 8 body.length ++ toBytes 8 top ++ toBytes 4 lo ++ toBytes 4 hi ++ toBytes 8 0 ++ body ++
  List.replicate ((64 - body.length % 64) % 64) 0

/-- The bounds break R235: not 64-byte aligned, not of this chip, or outside the tenant's own entries. -/
def State.stackBoundsBad (s : State) (n base limit : Nat) : Bool :=
  base % 64 != 0 || limit % 64 != 0 || decide (limit < base) || chipOf base != s.chip || chipOf limit != s.chip ||
  (List.range ((limit - base) / 64)).any fun i =>
    match s.findEntry n (offOf base + 64 * i) .plain with
    | some (_, e) => e.tenant != n || e.image
    | none => true

/-- A stack fault, counted by the context's object (R239, R240, R253). -/
def State.stackFault (s : State) (c x obj : Nat) : State := (s.count 32 obj).opFault c x (moverUnit c) 0 .stack 0 false

/-- Push an entry (R235, R236, R240, R253), and go on. -/
def State.pushEntry (s : State) (c x : Nat) (k : Work) (bytes : List Byte) (next : State → State) : State :=
  let y := s.ctx c x
  let top := s.reg (Obj.stackTop c x)
  let off := offOf top
  let fault := fun (f : OpFault) (t : State) => t.opFault c x (moverUnit c) 0 f (s.globalAddr off) true
  if s.stackBoundsBad k.tenant y.stackBase y.stackLimit then fault .address s
  else if y.stackLimit < top + bytes.length then s.stackFault c x (Obj.stackOverflowCount c x)
  else if (List.range (bytes.length / 64)).any fun i => !s.writable k.tenant (off + 64 * i) .plain then fault .address s
  else if s.locked k.tenant off (off + bytes.length - 1) || s.movingAt k.tenant off (off + bytes.length - 1) .plain then
    s.notYet c x
  else
    let (s1, _) := s.pokeRun k.tenant off .plain bytes
    let y1 := s1.ctx c x
    let top1 := top + bytes.length
    let high := Obj.stackHighWater c x
    next (((s1.setCtx c x { y1 with stack := top :: y1.stack }).setReg (Obj.stackTop c x) top1).setReg high
      (max (s1.reg high) (top1 - y.stackBase)))

/-- The top entry's header and payload. -/
structure StackEntry where
  header : List Byte
  payload : List Byte

/-- The header found fault with by a pop (R239): tensor id, micro-batch, kind, and the extents that DM_GATE demands. -/
def orderBad (h : List Byte) (k : Work) (tid kind : Nat) (shape : Option Desc) : Bool :=
  field h 0 4 != tid || field h 4 2 != k.microBatch % 2 ^ 16 || field h 7 1 != kind ||
  (match shape with
   | some d => field h 0x10 4 != d.e0 || field h 0x14 4 != d.e1 || field h 0x18 4 != d.e2 || field h 0x1C 4 != d.e3
   | none => false)

/-- Read a run of plain bytes for the mover (R127, R350, R638): what waits on an injected error or on poison is found here. -/
def State.readRun (s : State) (c x n off len : Nat) (next : List Byte → State → State) : State :=
  let offs := (List.range len).map fun i => off + i
  let s1 := s.meetInjections n offs .plain (moverUnit c) 0
  if s1.anyBad n offs .plain then s1.opFault c x (moverUnit c) 0 .poison (s1.badAddr n offs .plain) false
  else next (s1.peekBytes n off .plain len) s1

/-- Read the top entry's header and check it, and only then read its payload (R239): an empty stack is one whose top stands at its
base. `tid`, `kind` and `shape` are what the header must say. -/
def State.withTop (s : State) (c x : Nat) (k : Work) (tid kind : Nat) (shape : Option Desc) (next : StackEntry → State → State) :
    State :=
  let y := s.ctx c x
  match y.stack with
  | top :: _ =>
    if s.reg (Obj.stackTop c x) = y.stackBase then s.stackFault c x (Obj.stackUnderflowCount c x)
    else
      s.readRun c x k.tenant (offOf top) 64 fun h s1 =>
        if orderBad h k tid kind shape then s1.stackFault c x (Obj.stackOrderCount c x)
        else s1.readRun c x k.tenant (offOf top + 64) (field h 0x20 8) fun p s2 => next ⟨h, p⟩ s2
  | [] => s.stackFault c x (Obj.stackUnderflowCount c x)

/-- The top entry is gone (R241): stack_top is its previous_top. -/
def State.popped (s : State) (c x : Nat) (e : StackEntry) : State :=
  let y := s.ctx c x
  (s.setCtx c x { y with stack := y.stack.tail }).setReg (Obj.stackTop c x) (field e.header 0x28 8)

/-- Element k of an entry's payload, whose elements lie packed run after run. -/
def payloadElem (bs : List Byte) (w k : Nat) : Nat :=
  bits (fromBytes ((bs.drop (k * w / 8)).take (ceilDiv (k * w % 8 + w) 8))) (k * w % 8) w

/-- The values an entry holds (R238, R91). -/
def StackEntry.values (e : StackEntry) : List Num :=
  let fb := field e.header 6 1
  let fmt := bits fb 0 5
  let block := bits fb 5 2
  let w := fmtWidth fmt
  let e0 := field e.header 0x10 4
  let runs := field e.header 0x14 4 * field e.header 0x18 4 * field e.header 0x1C 4
  let runBytes := ceilDiv (e0 * w) 8
  let sc := e.payload.drop (runs * runBytes)
  let perRun := ceilDiv e0 (blockSize block)
  (List.range runs).flatMap fun r => (List.range e0).map fun i =>
    let v := decodeElem fmt (payloadElem (e.payload.drop (r * runBytes)) w i)
    if !isNarrow fmt then v
    else
      let sb := if block = 0 then field e.header 9 1 else ((sc[r * perRun + i / blockSize block]?).getD 0).toNat
      if sb = 0xFF then .nan else v.scale ((sb : Int) - 127)

/-- The bits an implicit entry implies (R238). -/
def StackEntry.keepBits (e : StackEntry) : List Bool :=
  e.values.map (keepBit (bit (field e.header 8 1) 0) (field e.header 0x30 4) (field e.header 0x34 4))

/-! Meanings -/

/-- DM_KEEP (R232, R238): the bit plane, and outside normal service an implicit entry on the stack. -/
def execDmKeep (core ctx : Nat) (w : DmWord) (s : State) : Host.Outcome State Fault Refusal :=
  .next (s.issue core ctx fun k t =>
    match t.slotDesc k w.x, t.slotDesc k w.y with
    | some x, some y =>
      if isExchangeFmt x.fmt || !planeOk y x || x.meets y then t.moverFault core ctx
      else
        t.withOps core ctx (moverUnit core) 0 k [askRead x, askWrite y] fun ds u =>
          match ds with
          | [(xd, xv), yp] =>
            let plane := planeBytes xd ((u.exactValues k.tenant xv xd).map (keepBit w.mode w.imm0 w.imm1))
            if u.serviceOf k = 0 then u.moverRaw core ctx k yp plane id
            else
              let e := u.stackEntry k xd xv (u.reg (Obj.stackTop core ctx)) 1 y.tensorId w.mode
                (if w.mode then 0 else w.imm0) (if w.mode then 0 else w.imm1)
              u.pushEntry core ctx k e fun z => z.moverRaw core ctx k yp plane id
          | _ => u
    | _, _ => t.moverFault core ctx)

/-- The gated gradient (R233): dy × slope in F32; a zero slope gives +0. -/
def gateElem (slope0 slope1 : Nat) (b : Bool) (dy : Nat) : Num :=
  let sl := if b then slope1 else slope0
  if (ofF32 sl).isZero then .zero else ofF32 (fMul dy sl)

/-- The bytes of Y past the first v go back to what they were: elements that a keep mismatch found not yet written (R239, log
entry 33). -/
def State.undoTail (s before : State) (n : Nat) (p : Desc × VSel) (v : Nat) : State :=
  (s.pokeAll n p.2 ((p.1.offsets.drop v).map fun o => (o, before.peek n o p.2))).1

/-- DM_GATE (R233, R238, R239). -/
def execDmGate (core ctx : Nat) (w : DmWord) (s : State) : Host.Outcome State Fault Refusal :=
  .next (s.issue core ctx fun k t =>
    match t.slotDesc k w.x, t.slotDesc k w.g, t.slotDesc k w.y with
    | some x, some g, some y =>
      if isExchangeFmt x.fmt || y.fmt == fmtS8 || !planeOk g x || !x.sameShape y || x.meets y then t.moverFault core ctx
      else
        t.withOps core ctx (moverUnit core) 0 k [askRead x, askRead g, askWrite y] fun ds u =>
          match ds with
          | [(xd, xv), (gd, gv), yp] =>
            let run := fun (z : State) (finish : List Bool → List Num → State → State) =>
              let (dys, z1) := z.takeF32s core k.tenant xv xd
              let bs := planeBits xd (z1.rawElems k.tenant gv gd)
              finish bs ((bs.zip dys).map fun p => gateElem w.imm0 w.imm1 p.1 p.2) z1
            if u.serviceOf k = 0 then run u fun _ out z => z.moverStore core ctx k yp w.sr w.ovf 32 out
            else
              u.withTop core ctx k g.tensorId 1 (some x) fun e z => run z fun bs out z1 =>
                if e.keepBits = bs then (z1.popped core ctx e).moverStore core ctx k yp w.sr w.ovf 32 out
                else
                  let (v, z2) := z1.draw 32
                  let z3 := (z2.moverStore core ctx k yp w.sr w.ovf 32 out).undoTail z1 k.tenant yp (v % (yp.1.offsets.length + 1))
                  z3.stackFault core ctx (Obj.keepMismatchCount core ctx)
          | _ => u
    | _, _, _ => t.moverFault core ctx)

/-- ASPUSH (R236, R240). -/
def execAspush (core ctx : Nat) (w : DmWord) (s : State) : Host.Outcome State Fault Refusal :=
  .next (s.issue core ctx fun k t =>
    if w.cond && t.serviceOf k == 0 then t
    else
      match t.slotDesc k w.x with
      | some x =>
        if x.fmt = fmtS8 then t.moverFault core ctx
        else
          t.withOps core ctx (moverUnit core) 0 k [askRead x] fun ds u =>
            match ds with
            | [(xd, xv)] =>
              u.pushEntry core ctx k (u.stackEntry k xd xv (u.reg (Obj.stackTop core ctx)) 0 x.tensorId false 0 0) id
            | _ => u
      | none => t.moverFault core ctx)

/-- The entry's bytes go back into Y (R241): elements, scale array, stored_scale. -/
def State.restoreEntry (s : State) (c x : Nat) (k : Work) (p : Desc × VSel) (e : StackEntry) : State :=
  let offs := p.1.offsets
  let (s1, b1) := s.pokeAll k.tenant p.2 (offs.zip e.payload)
  let (s2, b2) := s1.pokeAll k.tenant .plain (p.1.scaleOffs.zip (e.payload.drop offs.length))
  let s3 := if p.1.scaled then s2.setField k.tenant (offOf p.1.scalePtr + 4) 1 (field e.header 9 1) else s2
  let s4 := s3.popped c x e
  if b1 || b2 then s4.opFault c x (moverUnit c) 0 .poison (s4.badWrite k.tenant p.1) true else s4

/-- ASPOP (R239, R241). -/
def execAspop (core ctx : Nat) (w : DmWord) (s : State) : Host.Outcome State Fault Refusal :=
  .next (s.issue core ctx fun k t =>
    if w.cond && t.serviceOf k == 0 then t
    else
      match t.slotDesc k w.y with
      | some y =>
        if y.fmt = fmtS8 then t.moverFault core ctx
        else
          t.withOps core ctx (moverUnit core) 0 k [askWrite y] fun ds u =>
            match ds with
            | [yp] =>
              u.withTop core ctx k y.tensorId 0 none fun e z =>
                let h := e.header
                if field h 6 1 ≠ y.fmt + 32 * y.block ∨ field h 0x10 4 ≠ y.e0 ∨ field h 0x14 4 ≠ y.e1 ∨ field h 0x18 4 ≠ y.e2 ∨
                    field h 0x1C 4 ≠ y.e3 then z.moverFault core ctx
                else z.restoreEntry core ctx k yp e
            | _ => u
      | none => t.moverFault core ctx)

/-! Folds (R179, R245) -/

/-- One addition in a wide format (R176): to nearest, beyond the range an infinity. -/
def wideAdd (fmt a b : Nat) : Nat :=
  match floatFmt fmt with
  | some f => (f.convert .nearest true ((f.decode a).add (f.decode b))).1
  | none => 0

/-- The sequential sum of the buffers, element by element (R179). -/
def foldBuffers (fmt : Nat) : List (List Nat) → List Nat
  | [] => []
  | b :: bs => bs.foldl (fun acc c => (acc.zip c).map fun p => wideAdd fmt p.1 p.2) b

/-- The descriptors of the consecutive slots of a fold; none where a slot is 0 or beyond 4,095 or U lies outside 1 to 256. -/
def State.foldSlots (s : State) (k : Work) (x cnt : Nat) : Option (List Desc) :=
  if x = 0 ∨ cnt = 0 ∨ 256 < cnt ∨ 4095 < x + cnt - 1 then none
  else some ((List.range cnt).map fun i => s.descOf k (x + i))

/-- The buffers and Y fit a fold (R245, R252). -/
def foldOk (bufs : List Desc) (y : Desc) : Bool :=
  match bufs with
  | [] => false
  | b :: bs =>
    (b.fmt == fmtF32 || b.fmt == fmtF16 || b.fmt == fmtBF16) && b.sameShape y && y.fmt != fmtS8 &&
    bs.all (fun d => d.fmt == b.fmt && d.sameShape b && !d.meets y) && (!b.meets y || b.span == y.span)

/-- DM_FOLD (R179, R245): the sum goes out as formed in the buffers' format, or is converted once. -/
def execDmFold (core ctx : Nat) (w : DmWord) (s : State) : Host.Outcome State Fault Refusal :=
  .next (s.issue core ctx fun k t =>
    match t.foldSlots k w.x w.cnt, t.slotDesc k w.y with
    | some bufs, some y =>
      if !foldOk bufs y then t.moverFault core ctx
      else
        t.withOps core ctx (moverUnit core) 0 k (askWrite y :: bufs.map askRead) fun ds u =>
          match ds with
          | yp :: rest =>
            let fmt := (rest.head?.map fun p => p.1.fmt).getD fmtF32
            let sum := foldBuffers fmt (rest.map fun p => u.rawElems k.tenant p.2 p.1)
            if yp.1.fmt = fmt then u.moverRaw core ctx k yp sum id
            else u.moverStore core ctx k yp w.sr w.ovf (fmtWidth fmt) (sum.map (decodeElem fmt))
          | _ => u
    | _, _ => t.moverFault core ctx)

end Sys2Proof.Machine
end

