-- ==== Sys2Proof/Machine/Rings.lean ====
section
/-!
DEFINITION. What an instance of a collective holds and sends, from what its cores contributed and what arrived: the cut into
chunks, pieces and runs (R517, R519, R520), FX and native additions (R117, R118, R529), the rings' stages (R516, R519, R530, R531),
bounds and the control exchange (R526).
-/

namespace Sys2Proof.Machine

/-- Exchange elements with the e_bound of what they sum (R526). -/
abbrev Val := List (Option Int) × Nat

/-! The cut (R517) -/

/-- Members of the group. -/
def Inst.size (i : Inst) : Nat := i.ra.n * i.rb.n

/-- This package's rank (R504). -/
def Inst.rank (i : Inst) : Nat := i.ra.me + i.ra.n * i.rb.me

/-- Rows travel whole (R531, R532). -/
def Inst.rowForm (i : Inst) : Bool := i.form == .allToAll || i.form == .send || i.form == .receive

/-- The form adds contributions. -/
def Inst.reduces (i : Inst) : Bool := i.form == .reduceScatter || i.form == .allReduce

/-- The exchange is native (R507). -/
def Inst.native (i : Inst) : Bool := i.exch == 2

/-- The FX format of the exchange. -/
def Inst.fxFmt (i : Inst) : Nat := if i.exch = 0 then fmtFX32 else fmtFX24

/-- Bits of an exchange element. -/
def Inst.elemBits (i : Inst) : Nat := fmtWidth (if i.native then i.fmt else i.fxFmt)

/-- Elements of a chunk (R507). -/
def chunkElems (code : Nat) : Nat := 16384 * 2 ^ code

/-- Elements of a piece, P of R517. -/
def Inst.pieceElems (i : Inst) : Nat := 256 * ceilDiv (chunkElems i.code) (256 * i.size)

/-- Elements of a shard: S of R517; of a form whose instruction places the shards by rows, its n-th part (R510). -/
def Inst.shardElems (i : Inst) : Nat :=
  if i.form = .reduceScatter ∨ i.form = .allGather then i.elems / i.size else 256 * ceilDiv i.elems (256 * i.size)

/-- Chunks of an instance; rows count as one chunk at the in-package levels. -/
def Inst.chunkCount (i : Inst) : Nat := if i.rowForm then 1 else ceilDiv i.shardElems i.pieceElems

/-- Elements of a run: at most 65,536 bytes, ending on a 256-element boundary (R520). -/
def Inst.runElems (i : Inst) : Nat := 65536 / (32 * i.elemBits) * 256

/-- The control exchange takes the number after the last chunk, of rows the highest number (R526, log entry 40). -/
def Inst.controlChunk (i : Inst) : Nat := if i.rowForm then 2 ^ 17 - 1 else i.chunkCount

/-- Is it the control exchange of an FX instance (R526)? A send and its receive have none: no ring joins their two members. -/
def Inst.isControl (i : Inst) (c : Nat) : Bool :=
  !i.native && i.form != .send && i.form != .receive && c == i.controlChunk

/-- The flattened elements of piece c of shard r (R517). -/
def Inst.pieceRange (i : Inst) (c r : Nat) : Nat × Nat :=
  let lo := r * i.shardElems + c * i.pieceElems
  (lo, min (lo + i.pieceElems) (min ((r + 1) * i.shardElems) i.elems))

/-- The part of a piece that travels in a direction (R519). -/
def Inst.halfOf (i : Inst) (p : Nat × Nat) (backward : Bool) : Nat × Nat :=
  if !i.bidir then p
  else
    let mid := min p.2 (p.1 + 256 * ceilDiv (ceilDiv (p.2 - p.1) 256) 2)
    if backward then (mid, p.2) else (p.1, mid)

/-- Cut a range into parts of k. -/
def cutSpan (k lo hi : Nat) : List (Nat × Nat) :=
  (List.range (ceilDiv (hi - lo) k)).map fun j => (lo + j * k, min hi (lo + (j + 1) * k))

/-- The runs of a piece in a direction (R520). -/
def Inst.spans (i : Inst) (c r : Nat) (backward : Bool) : List (Nat × Nat) :=
  if i.isControl c then (if r = 0 && !backward then [(0, 1)] else [])
  else
    let p := i.halfOf (i.pieceRange c r) backward
    cutSpan i.runElems p.1 p.2

/-- Directions in use. -/
def Inst.ways (i : Inst) : List Bool := if i.bidir then [false, true] else [false]

/-- The runs of all pieces of a chunk, without stage. -/
def Inst.chunkKeys (i : Inst) (c : Nat) : List RunKey :=
  (List.range i.size).flatMap fun r => i.ways.flatMap fun b =>
    (List.range (i.spans c r b).length).map fun j => ⟨c, 0, r, b, 0, j⟩

/-! Elements -/

/-- The exponent X of a chunk (R524, R527). -/
def Inst.xOf (i : Inst) (c : Nat) : Nat := if i.native then 0 else Sparse.get i.x0 c i.xs

/-- The saturation marker (R118). -/
def fxMark (w : Nat) : Int := -(2 ^ (w - 1) : Nat)

/-- The elements of one 256-element chunk at X: none throughout where a value is not finite (R120). -/
def fxBlock (fmt x : Nat) (vs : List Num) : List (Option Int) :=
  if vs.any fun v => !v.isFin then vs.map fun _ => none
  else vs.map fun v => some (signedOf (fmtWidth fmt) (fxElem fmt x v).1)

/-- An FX addition (R118). -/
def fxPlus (w : Nat) (a b : Option Int) : Option Int :=
  match a, b with
  | some x, some y =>
    if x = fxMark w ∨ y = fxMark w ∨ 2 ^ (w - 1) - 1 < (x + y).natAbs then some (fxMark w) else some (x + y)
  | _, _ => none

/-- A native addition (R176, R529). -/
def nativePlus (fmt : Nat) (a b : Option Int) : Option Int :=
  match a, b with
  | some x, some y => some (wideAdd fmt x.toNat y.toNat : Nat)
  | _, _ => none

/-- Add two lists of elements. -/
def Inst.plus (i : Inst) (control : Bool) (a b : Val) : Val :=
  (if control then (a.1.zip b.1).map fun p => max p.1 p.2
   else (a.1.zip b.1).map fun p => if i.native then nativePlus i.fmt p.1 p.2 else fxPlus i.elemBits p.1 p.2, max a.2 b.2)

/-- e_bound: 128 + ⌈log2⌉ of the largest magnitude, 1 to 255, and 0 where all are zero (R520). -/
def eBoundOf (vs : List Num) : Nat :=
  match largest vs with
  | .fin _ m e => if m = 0 then 0 else (clampInt 1 255 (128 + ceilLog2Ratio m e 1 0)).toNat
  | _ => 0

/-- Values as exchange elements at a chunk's X (R511, R525). -/
def Inst.toVal (i : Inst) (c : Nat) (vs : List Num) : Val :=
  (if i.native then vs.map fun v => some ((convertElem i.fmt .nearest true v).1 : Nat)
   else (cut 256 vs).flatMap (fxBlock i.fxFmt (i.xOf c)), eBoundOf vs)

/-- An exchange element as a number (R117, R120): the marker and an element of a chunk that is not a number are NaN. -/
def Inst.ofElem (i : Inst) (c : Nat) (e : Option Int) : Num :=
  match e with
  | none => .nan
  | some v =>
    if i.native then decodeElem i.fmt v.toNat
    else if v = fxMark i.elemBits then .nan
    else (Num.ofInt v).scale ((i.xOf c : Int) - 127 - (if i.exch = 0 then 30 else 22))

/-- No marker among the elements. -/
def Inst.clean (i : Inst) (v : Val) : Bool := i.native || v.1.all fun e => e != some (fxMark i.elemBits)

/-- index_tree over values in order (R176, R529); an FX sum has no order (R178). -/
def Inst.treeOf (i : Inst) (vs : List Val) : Val := indexTree (i.plus false) ([], 0) vs

/-! What this package holds -/

/-- All cores of the mask have contributed (R509). -/
def Inst.allIn (i : Inst) : Bool := i.cores.all fun c => i.contribs.any fun p => p.core == c

/-- The dies of the contributing cores, in rising order. -/
def Inst.dies (i : Inst) : List Nat := (List.range 8).filter fun d => i.cores.any fun c => c / 64 == d

/-- The in-package levels in use (R516): a level with one participant is skipped; the adds of a reduction go up 0 and 1, the
results down 2 (the dies) and 3 (the cores of each die). -/
def Inst.inPackage (i : Inst) : List Nat :=
  let cores : Bool := i.dies.any fun d => decide (1 < (i.cores.filter fun c => c / 64 == d).length)
  let dies : Bool := decide (1 < i.dies.length)
  (if i.reduces then (if cores then [0] else []) ++ (if dies then [1] else []) else []) ++
  (if i.form = .send then [] else (if dies then [2] else []) ++ (if cores then [3] else []))

/-- A chunk is ready for the rings (R518): every core has contributed and the levels below have added. -/
def Inst.ready (i : Inst) (c : Nat) : Bool :=
  i.allIn && (i.inPackage.filter fun l => decide (l < 2)).all fun l => i.levels.contains (l, if i.rowForm then 0 else c)

/-- What this package contributes to a range of a chunk (R529): of a reduction the sum over its cores in rising order, of any other
form the lowest contributing core's data. -/
def Inst.ownRange (i : Inst) (c lo hi : Nat) : Val :=
  let part := fun (p : Contrib) => i.toVal c ((p.vals.drop lo).take (hi - lo))
  if i.reduces then i.treeOf (i.contribs.map part)
  else match i.contribs with
    | p :: _ => part p
    | [] => ([], 0)

/-- This package's own values of a run. -/
def Inst.ownRun (i : Inst) (k : RunKey) : Option Val :=
  if i.isControl k.chunk then
    if (List.range i.chunkCount).all i.leftRing.contains then
      let e := (i.got.map (·.eBound)).foldl max ((i.contribs.map fun p => eBoundOf p.vals).foldl max 0)
      some ([some (e : Int)], e)
    else none
  else if i.ready k.chunk then
    match (i.spans k.chunk k.piece k.backward)[k.run]? with
    | some (lo, hi) =>
      some (if i.form = .allGather then i.ownRange k.chunk (lo - k.piece * i.shardElems) (hi - k.piece * i.shardElems)
        else i.ownRange k.chunk lo hi)
    | none => none
  else none

/-- What arrived at a place. -/
def Inst.gotAt (i : Inst) (k : RunKey) : Option Val := (i.got.find? fun r => r.key == k).map fun r => (r.elems, r.eBound)

/-! The rings (R519, R530) -/

/-- The ring of a stage. -/
def Inst.ring (i : Inst) (stage : Nat) : Ring :=
  match stage with
  | 0 => i.ra
  | 1 => i.rb
  | 2 => i.gb
  | _ => i.ga

/-- The place on a stage's ring at which a piece ends, or from which it is gathered: of a broadcast and of the control exchange
place 0. -/
def Inst.label (i : Inst) (k : RunKey) (stage : Nat) : Nat :=
  if i.form = .broadcast ∨ i.isControl k.chunk then 0
  else
    match stage with
    | 0 => k.piece % i.ra.n
    | 1 => k.piece / i.ra.n
    | 2 => k.piece / i.ga.n
    | _ => k.piece % i.ga.n

/-- A place counted in the direction of travel. -/
def Ring.along (r : Ring) (backward : Bool) (p : Nat) : Nat := if backward then (r.n - p) % r.n else p

/-- The chip a run goes to on a ring. -/
def Ring.toward (r : Ring) (backward : Bool) : Nat := if backward then r.prev else r.next

/-- The chip a run comes from on a ring. -/
def Ring.source (r : Ring) (backward : Bool) : Nat := if backward then r.next else r.prev

/-- Each stage adds in turn: an FX piece starts at the place after its end and takes each member's part on its way (R519). -/
def Inst.addOn (i : Inst) (stage : Nat) (k : RunKey) (own : Option Val) : Option Val :=
  let r := i.ring stage
  let l := i.label k stage
  if r.n = 1 ∨ r.along k.backward r.me = (r.along k.backward l + 1) % r.n then own
  else
    match own, i.gotAt { k with stage := stage } with
    | some a, some b => some (i.plus (i.isControl k.chunk) a b)
    | _, _ => none

/-- The values of a list, where every one is there. -/
def allSome {α : Type} : List (Option α) → Option (List α)
  | [] => some []
  | none :: _ => none
  | some a :: l => (allSome l).map fun m => a :: m

/-- A native piece's parts, unreduced, in rank order, at the place where it ends (R530). -/
def Inst.gathered (i : Inst) (stage : Nat) (k : RunKey) (own : Option Val) : Option Val :=
  let r := i.ring stage
  (allSome ((List.range r.n).map fun o =>
    if o = r.me then own else i.gotAt { k with stage := stage, origin := o })).map i.treeOf

/-- A stage's sum at the member where the piece ends. -/
def Inst.summed (i : Inst) (stage : Nat) (k : RunKey) (own : Option Val) : Option Val :=
  if (i.ring stage).me = i.label k stage then
    if i.native then i.gathered stage k own else i.addOn stage k own
  else none

/-- What enters the second reduce stage (R519). -/
def Inst.afterA (i : Inst) (k : RunKey) : Option Val := i.summed 0 k (i.ownRun k)

/-- The reduced values, at the rank that owns the piece. -/
def Inst.reduced (i : Inst) (k : RunKey) : Option Val := i.summed 1 k (i.afterA k)

/-- What a gather starts from at its owner: nothing while a marker stands in it (R527). -/
def Inst.origin (i : Inst) (k : RunKey) : Option Val :=
  let v := if i.form = .allReduce ∨ i.form = .reduceScatter ∨ i.isControl k.chunk then i.reduced k
    else if i.form = .broadcast then (if i.rank = 0 then i.ownRun k else none)
    else if k.piece = i.rank then i.ownRun k else none
  match v with
  | some a => if i.isControl k.chunk || i.clean a then some a else none
  | none => none

/-- After the gather along axis b. -/
def Inst.afterB (i : Inst) (k : RunKey) : Option Val :=
  if i.label k 2 = i.gb.me ∧ i.label k 3 = i.ga.me then i.origin k else i.gotAt { k with stage := 2 }

/-- A run's final values on this member. -/
def Inst.final (i : Inst) (k : RunKey) : Option Val :=
  if i.form = .reduceScatter && !i.isControl k.chunk then i.origin k
  else if i.label k 3 = i.ga.me then i.afterB k else i.gotAt { k with stage := 3 }

/-- The runs a member of a reduction or gather can send now, each with its stage (R519, R530). -/
def Inst.sendsOf (i : Inst) (k : RunKey) : List (RunKey × Val) :=
  let some1 : Nat → Nat → Option Val → List (RunKey × Val) := fun stage origin v =>
    match v with
    | some a => [({ k with stage := stage, origin := origin }, a)]
    | none => []
  let reduceAt : Nat → Option Val → List (RunKey × Val) := fun stage own =>
    let r := i.ring stage
    if r.n = 1 ∨ r.me = i.label k stage then []
    else if i.native then (List.range r.n).flatMap fun o =>
      some1 stage o (if o = r.me then own else i.gotAt { k with stage := stage, origin := o })
    else some1 stage 0 (i.addOn stage k own)
  let gatherAt : Nat → Option Val → List (RunKey × Val) := fun stage v =>
    let r := i.ring stage
    if r.n = 1 ∨ (r.along k.backward r.me + 1) % r.n = r.along k.backward (i.label k stage) then [] else some1 stage 0 v
  (if i.reduces || i.isControl k.chunk then reduceAt 0 (i.ownRun k) ++ reduceAt 1 (i.afterA k) else []) ++
  (if i.form = .reduceScatter && !i.isControl k.chunk then []
   else (if i.label k 3 = i.ga.me then gatherAt 2 (i.afterB k) else []) ++ gatherAt 3 (i.final k))

/-! Rows (R531, R532) -/

/-- The rows of this package for a rank, flattened. -/
def Inst.rowsTo (i : Inst) (dest : Nat) : List Num :=
  match i.contribs with
  | p :: _ => (((cut i.rowLen p.vals).zip p.route).filter fun q => q.2 == dest).flatMap (·.1)
  | [] => []

/-- The ranks this package sends rows to. -/
def Inst.rowDests (i : Inst) : List Nat :=
  match i.form with
  | .allToAll => (List.range i.size).filter fun r => r != i.rank
  | .send => [(i.rank + 1) % i.size]
  | _ => []

/-- The ranks whose rows this package receives. -/
def Inst.rowSources (i : Inst) : List Nat :=
  match i.form with
  | .allToAll => (List.range i.size).filter fun r => r != i.rank
  | .receive => [(i.rank + i.size - 1) % i.size]
  | _ => []

/-- The runs of a number of flattened row elements: chunk, run and range; one empty run where there is none (R531). -/
def Inst.rowRuns (i : Inst) (len : Nat) : List (Nat × Nat × Nat × Nat) :=
  if len = 0 then [(0, 0, 0, 0)]
  else (List.range (ceilDiv len i.pieceElems)).flatMap fun c =>
    let ps := cutSpan i.runElems (c * i.pieceElems) (min len ((c + 1) * i.pieceElems))
    ((List.range ps.length).zip ps).map fun p => (c, p.1, p.2.1, p.2.2)

/-- The stage on which rows for a rank go on from here; none where they have arrived. -/
def Inst.rowStage (i : Inst) (dest : Nat) : Option Nat :=
  if dest % i.ra.n ≠ i.ra.me then some 0 else if dest / i.ra.n ≠ i.rb.me then some 1 else none

/-- This package's own rows as runs: place, values, row count. -/
def Inst.ownRows (i : Inst) : List (RunKey × Val × Nat) :=
  if !i.ready 0 then []
  else i.rowDests.flatMap fun d =>
    let vs := i.rowsTo d
    (i.rowRuns vs.length).map fun q =>
      (⟨q.1, (i.rowStage d).getD 0, d, false, i.rank, q.2.1⟩, i.toVal q.1 ((vs.drop q.2.2.1).take (q.2.2.2 - q.2.2.1)),
        if i.rowLen = 0 then 0 else vs.length / i.rowLen)

/-- The runs of rows that can go now: this package's own without a marker, and what it holds for others (R531). -/
def Inst.rowSends (i : Inst) : List (RunKey × Val × Nat) :=
  (i.ownRows.filter fun q => i.clean q.2.1) ++
  (i.got.filter fun r => !i.isControl r.key.chunk).filterMap fun r =>
    match i.rowStage r.key.piece with
    | some st => some ({ r.key with stage := st }, (r.elems, r.eBound), r.rows)
    | none => none

/-- The rows received from a rank, once every run is here: elements with their chunks, and the row count. -/
def Inst.rowsFrom (i : Inst) (o : Nat) : Option (List (Nat × Option Int) × Nat) :=
  let mine := i.got.filter fun r => r.key.origin == o && r.key.piece == i.rank && !i.isControl r.key.chunk
  match mine.find? fun r => r.key.chunk == 0 && r.key.run == 0 with
  | none => none
  | some f =>
    (allSome ((i.rowRuns (f.rows * i.rowLen)).map fun q =>
      (mine.find? fun r => r.key.chunk == q.1 && r.key.run == q.2.1).map fun r => r.elems.map fun e => (q.1, e))).map
        fun ls => (ls.flatten, f.rows)

/-! The whole -/

/-- Every run this member can send now: place, values, row count. -/
def Inst.sends (i : Inst) : List (RunKey × Val × Nat) :=
  (if i.rowForm then i.rowSends else []) ++
  ((if i.rowForm then [] else List.range i.chunkCount) ++ (if i.isControl i.controlChunk then [i.controlChunk] else [])).flatMap
    fun c => (i.chunkKeys c).flatMap fun k => (i.sendsOf k).map fun p => (p.1, p.2, 0)

/-- The chip a run goes to. -/
def Inst.peerOf (i : Inst) (k : RunKey) : Nat := (i.ring k.stage).toward k.backward

/-- A step of a ring on a chunk begins once the same step on the chunk before it has been sent (R518). -/
def Inst.inTurn (i : Inst) (k : RunKey) : Bool :=
  i.rowForm || k.chunk == 0 || i.isControl k.chunk ||
  (List.range (i.spans (k.chunk - 1) k.piece k.backward).length).all fun j =>
    i.sent.contains { k with chunk := k.chunk - 1, run := j }

/-- The next run of a chunk for a peer. -/
def Inst.nextRun (i : Inst) (chunk peer : Nat) : Option (RunKey × Val × Nat) :=
  i.sends.find? fun p => p.1.chunk == chunk && i.peerOf p.1 == peer && !i.sent.contains p.1 && i.inTurn p.1

/-- Everything of a chunk is on this member. -/
def Inst.complete (i : Inst) (c : Nat) : Bool :=
  if i.rowForm && !i.isControl c then i.ready 0 && i.rowSources.all fun o => (i.rowsFrom o).isSome
  else
    i.allIn && (i.chunkKeys c).all fun k =>
      (i.form == .reduceScatter && !i.isControl c && k.piece != i.rank) || (i.final k).isSome

/-- The largest e_bound of the instance, once the control exchange has returned it (R526). -/
def Inst.controlBound (i : Inst) : Option Nat := (i.final ⟨i.controlChunk, 0, 0, false, 0, 0⟩).map (·.2)

/-- Nothing is left to send. -/
def Inst.allSent (i : Inst) : Bool := i.sends.all fun p => i.sent.contains p.1

/-- The phase field of a run tag (R520). -/
def Inst.phase (i : Inst) (k : RunKey) : Nat :=
  if i.isControl k.chunk then 3 else if i.rowForm then 2 else if k.stage ≤ 1 then 0 else 1

/-- The run tag (R520). -/
def Inst.tag (i : Inst) (k : RunKey) (eBound : Nat) : Nat :=
  i.plan % 1024 + i.inst % 256 * 2 ^ 10 + i.step % 64 * 2 ^ 18 + k.chunk % 2 ^ 17 * 2 ^ 24 + k.run % 16 * 2 ^ 41 +
  i.phase k * 2 ^ 45 + b2n (Sparse.get 0 k.chunk i.tries != 0) * 2 ^ 47 + eBound * 2 ^ 48 + i.xOf k.chunk * 2 ^ 56

/-- The bytes of a run's elements; the first run of rows carries their count before them (R531). -/
def Inst.payload (i : Inst) (k : RunKey) (v : Val) (rows : Nat) : List Byte :=
  (if i.rowForm && !i.isControl k.chunk && k.chunk == 0 && k.run == 0 then toBytes 4 rows else []) ++
  v.1.flatMap fun e => toBytes (i.elemBits / 8) (wrapInt i.elemBits (e.getD 0))

/-- The numbers of a piece, in order, from the values of its runs; a run that is not here gives none. -/
def Inst.pieceNums (i : Inst) (c r : Nat) (val : RunKey → Option Val) : List Num :=
  i.ways.flatMap fun b => (List.range (i.spans c r b).length).flatMap fun j =>
    match val ⟨c, 0, r, b, 0, j⟩ with
    | some v => v.1.map (i.ofElem c)
    | none => []

/-- The flattened final result, shard after shard; of a reduce-scatter this member's shard (R525). -/
def Inst.result (i : Inst) : List Num :=
  ((if i.form = .reduceScatter then [i.rank] else List.range i.size)).flatMap fun r =>
    (List.range i.chunkCount).flatMap fun c => i.pieceNums c r i.final

/-- Do two runs carry the same run tag (R523)? -/
def sameTag (a b : Run) : Bool :=
  a.tenant == b.tenant && a.plan == b.plan && a.inst == b.inst && a.step % 64 == b.step % 64 && a.key == b.key && a.x == b.x &&
    a.retry == b.retry && a.peer == b.peer

/-- Is a run one of an instance (R509)? The tag holds the low 6 bits of the step. -/
def Inst.owns (i : Inst) (r : Run) : Bool :=
  i.n == r.tenant && i.plan == r.plan && i.inst == r.inst && i.step % 64 == r.step % 64

end Sys2Proof.Machine
end

