-- ==== Sys2Proof/Machine/Agents.lean ====
section
/-!
DEFINITION. The collective agents' shared operations: groups and plans (R503 to R508), instances and contributions (R509, R511), the
exponent (R524), retries (R527, R528), taps for the sketch engines (R548 to R551), the final write (R525, R526, R531) and its feeds
(R602), runs applied (R523).
-/

namespace Sys2Proof.Machine

/-! Groups and plans -/

/-- A group descriptor (R503). -/
structure GroupDesc where
  kind : Nat
  axisA : Nat
  maskA : Nat
  axisB : Nat
  maskB : Nat
  table : Nat
  ok : Bool
  deriving DecidableEq, Repr

/-- Read one. -/
def readGroup (bs : List Byte) : GroupDesc :=
  { kind := field bs 0 1, axisA := field bs 1 1, maskA := field bs 2 2, axisB := field bs 4 1, maskB := field bs 6 2,
    table := field bs 8 2, ok := decide (field bs 0 1 ≤ 2) && field bs 5 1 == 0 && decide (field bs 8 2 < 1024) && field bs 10 2 == 0 }

/-- A plan (R507). -/
structure CollPlan where
  exch : Nat
  gather : Bool
  bidir : Bool
  code : Nat
  token : Nat
  xInit : Nat
  reduceGroup : GroupDesc
  gatherGroup : GroupDesc
  exchSlot : Nat
  workSlot : Nat
  routeSlot : Nat
  countSlot : Nat
  cores : Nat
  ok : Bool
  deriving DecidableEq, Repr

/-- Read a plan; `ok` says that no field holds a reserved value (R507, R513) and every slot lies in the table. -/
def readPlan (bs : List Byte) : CollPlan :=
  let e := field bs 0 1
  let r := readGroup (bs.drop 0x04)
  let g := readGroup (bs.drop 0x10)
  { exch := bits e 0 2, gather := bit e 2, bidir := bit e 3, code := field bs 1 1, token := field bs 2 1, xInit := field bs 3 1,
    reduceGroup := r, gatherGroup := g, exchSlot := field bs 0x1C 2, workSlot := field bs 0x1E 2,
    routeSlot := field bs 0x20 2, countSlot := field bs 0x22 2, cores := field bs 0x40 64,
    ok := bits e 0 2 != 3 && bits e 4 4 == 0 && decide (field bs 1 1 ≤ 4) && field bs 2 1 != 0 && r.ok && (!bit e 2 || g.ok) &&
      field bs 0x24 28 == 0 && [0x1C, 0x1E, 0x20, 0x22].all fun o => decide (field bs o 2 < 4096) }

/-- A tenant's plan. -/
def State.planOf (s : State) (n p : Nat) : CollPlan := readPlan (toBytes 128 (s.reg (Obj.collectivePlan (1024 * n + p))))

/-- The bits of a number inside a mask, gathered lowest first (R504). -/
def gatherBits (mask v : Nat) : Nat :=
  ((List.range 16).foldl (fun (t : Nat × Nat) b => if bit mask b then (t.1 + b2n (bit v b) * 2 ^ t.2, t.2 + 1) else t) (0, 0)).1

/-- Bits set in a mask. -/
def maskCount (mask : Nat) : Nat := ((List.range 16).filter fun b => bit mask b).length

/-- The place inside a mask that gathers to a number, lowest bit first: the other way round of `gatherBits`. -/
def scatterBits (mask v : Nat) : Nat :=
  ((List.range 16).foldl (fun (t : Nat × Nat) b => if bit mask b then (t.1 + b2n (bit v t.2) * 2 ^ b, t.2 + 1) else t) (0, 0)).1

/-- The chip at a coordinate of an axis: of its two neighbours the axis record tells it (R464), of any other the configuration (log
entry 41). -/
def axisChip (a : AxisRec) (drawing coord : Nat) : Nat :=
  if coord = (a.coordinate + 1) % a.length then a.nextChip
  else if coord = (a.coordinate + a.length - 1) % a.length then a.prevChip
  else (Config.axisMember drawing a.axisId coord).toNat

/-- The ring of an axis group (R504); none where the rank cannot be resolved. Of the whole axis the neighbours are those of the axis
record (R464); of a masked part those whose gathered rank is one more or less. -/
def State.axisRing (s : State) (n id mask : Nat) : Option Ring :=
  match s.fabric.inForce with
  | none => none
  | some d =>
    match d.axes.find? fun a => a.axisId == id && a.tenant == n with
    | none => none
    | some a =>
      let top := a.length - 1
      let m := top &&& mask
      let r : Ring := { n := a.length, me := a.coordinate, next := a.nextChip, prev := a.prevChip, line := a.kind == 1 }
      if m = top then some r
      else if a.length = 2 ^ Nat.log2 a.length then
        let k := 2 ^ maskCount m
        let me := gatherBits m a.coordinate
        let at_ := fun (q : Nat) => axisChip a d.drawingId (a.coordinate - (a.coordinate &&& m) + scatterBits m (q % k))
        some { r with n := k, me := me, next := at_ (me + 1), prev := at_ (me + k - 1) }
      else none

/-- The chips of a ring's neighbours. -/
def Ring.chips (r : Ring) : List Nat := if r.n = 1 then [] else [r.next, r.prev].filter fun c => c != 0xFFFF

/-- The rings of a group and the members this package knows by chip number (R504, R505); none where it is no member. -/
def State.groupOf (s : State) (n : Nat) (g : GroupDesc) : Option (Ring × Ring × List Nat) :=
  if g.kind = 1 then
    match s.axisRing n g.axisA g.maskA with
    | none => none
    | some a =>
      if g.axisB = 0xFF then some (a, {}, a.chips)
      else
        match s.axisRing n g.axisB g.maskB with
        | none => none
        | some b => some (a, b, a.chips ++ b.chips)
  else if g.kind = 2 then
    let l := Sparse.get [] g.table s.colls.groups
    if Sparse.get 0 g.table s.colls.owners ≠ n + 1 ∨ !l.contains s.chip then none
    else
      let me := l.idxOf s.chip
      let at_ := fun (k : Nat) => (l[k % l.length]?).getD 0xFFFF
      some ({ n := l.length, me := me, next := at_ (me + 1), prev := at_ (me + l.length - 1) }, {}, l)
  else none

/-- Is a member held (R535)? -/
def State.held (s : State) (n : Nat) : Bool := s.reg (Obj.collectiveHold n) == 1 || s.reg Obj.supplyState == 1

/-! The exponent (R524) -/

/-- ⌈log2⌉ of a count (R524, log entry 160). -/
def ceilLog (n : Nat) : Nat := if n ≤ 1 then 0 else Nat.log2 (n - 1) + 1

/-- The margin of an exchange record (R95). -/
def State.recMargin (s : State) (n off : Nat) : Nat := min (s.recField n (off + 0x07) 1) 15

/-- The largest magnitude of the history that an instance of a step reads (R524), as F32. -/
def State.exchHistory (s : State) (n off step : Nat) : Nat :=
  let window := let w := s.recField n (off + 0x06) 1; if w = 0 then 1 else min w 16
  let head := s.recField n (off + 0x08) 1 % 16
  let cnt := min (s.recField n (off + 0x09) 1) 16
  let skip := b2n (s.recField n (off + 0x0C) 4 == (step + 2 ^ 32 - 1) % 2 ^ 32)
  let hs := (List.range (min window (cnt - skip))).map fun i => s.recField n (off + 0x10 + 4 * ((head + 31 - i - skip) % 16)) 4
  (hs.filter fFinite).foldl (fun m x => fMax m (toF32 (ofF32 x).abs)) 0

/-- The exponent X of an FX instance (R524). -/
def State.exponentOf (s : State) (n : Nat) (record : Option Nat) (step size xInit : Nat) : Nat :=
  let x : Int := match record with
    | none => xInit
    | some off =>
      match ofF32 (s.exchHistory n off step) with
      | .fin _ m e =>
        if m = 0 ∨ s.recField n (off + 0x09) 1 = 0 then xInit
        else 126 + ceilLog2Ratio m e 1 0 + ceilLog size + s.recMargin n off
      | _ => xInit
  (clampInt 1 0xFE x).toNat

/-! Instances -/

/-- How often a core has used a plan in a step (R509). -/
def State.usesOf (s : State) (n p step core : Nat) : Nat := (s.colls.uses.filter fun u => u == (n, p, step, core)).length

/-- What an instruction brings to its plan: the form, the element count of the result, the length of a row, the native element
format. -/
structure CollAsk where
  form : CollForm
  fused : Bool
  elems : Nat
  rowLen : Nat
  fmt : Nat
  deriving DecidableEq, Repr

/-- The exchange record a plan names in a context's table (R507). -/
def State.exchRecord (s : State) (k : Work) (pl : CollPlan) : Option Nat :=
  if pl.exch = 2 then none
  else
    match s.slotDesc k pl.exchSlot with
    | some d => if d.scalePtr = 0 then none else some (offOf d.scalePtr)
    | none => none

/-- Bits of an element of a plan's exchange. -/
def CollPlan.elemBits (pl : CollPlan) (fmt : Nat) : Nat :=
  if pl.exch = 0 then 32 else if pl.exch = 1 then 24 else fmtWidth fmt

/-- The instance an instruction of a core joins (R508, R509): the open one of its number, or a new one; none where the group cannot
be resolved or the instructions do not agree. -/
def State.instFor (s : State) (c : Nat) (k : Work) (p : Nat) (pl : CollPlan) (a : CollAsk) : Option Inst :=
  let n := k.tenant
  let idx := s.usesOf n p k.step c
  match s.colls.insts.find? fun i => i.n == n && i.plan == p && i.inst == idx && i.step == k.step with
  | some i =>
    if i.form = a.form ∧ i.fused = a.fused ∧ i.rowLen = a.rowLen ∧ i.fmt = a.fmt ∧ (i.rowForm ∨ i.elems = a.elems) then some i else none
  | none =>
    match s.groupOf n pl.reduceGroup, (if pl.gather then s.groupOf n pl.gatherGroup else s.groupOf n pl.reduceGroup) with
    | some (ra, rb, ms), some (ga, gb, ms2) =>
      let size := ra.n * rb.n
      if size ≠ ga.n * gb.n ∨ ra.me + ra.n * rb.me ≠ ga.me + ga.n * gb.me then none
      else
        let rec_ := s.exchRecord k pl
        let work := match s.slotDesc k pl.workSlot with
          | some d => d.runs * d.runBytes / 65536
          | none => 0
        some { n := n, plan := p, inst := idx, step := k.step, form := a.form, fused := a.fused, exch := pl.exch, code := pl.code,
               token := pl.token,
               bidir := pl.bidir && pl.exch != 2 && (ra.chips ++ rb.chips).all (fun c => (s.pistePort c n).isSome), cores := (List.range 512).filter fun j => bit pl.cores j,
               ra := ra, rb := rb, ga := ga, gb := gb, members := ms ++ ms2, elems := a.elems, rowLen := a.rowLen, fmt := a.fmt,
               record := rec_, margin := (match rec_ with | some o => s.recMargin n o | none => 1),
               x0 := if pl.exch = 2 then 0 else s.exponentOf n rec_ k.step size pl.xInit, buffers := work,
               countSlot := pl.countSlot }
    | _, _ => none

/-- What breaks R513 before the instance is known. -/
def State.planBad (s : State) (c : Nat) (k : Work) (p : Nat) (pl : CollPlan) : Bool :=
  p == 0 || decide (1023 < p) || !pl.ok || !bit pl.cores c || k.ns || decide (256 ≤ s.usesOf k.tenant p k.step c)

/-- Formats a native exchange takes (R513). -/
def nativeFmt (f : Nat) : Bool := f == fmtF32 || f == fmtF16 || f == fmtBF16

/-- A number is a power of two. -/
def isPow2 (n : Nat) : Bool := n == 2 ^ Nat.log2 n

/-- The formats of X and Y suit the exchange (R513). -/
def collFormats (pl : CollPlan) (fs : List Nat) : Bool :=
  fs.all (fun f => f != fmtS8 && f != fmtFX32 && f != fmtFX24) &&
  (pl.exch != 2 || (fs.all nativeFmt && match fs with | a :: b :: _ => a == b | _ => true))

/-- Bytes a descriptor holds. -/
def Desc.bytes (d : Desc) : Nat := d.runs * d.runBytes

/-- The plan's tensors are large enough (R513), and the group suits the form (R513, R532). -/
def State.planFits (s : State) (k : Work) (pl : CollPlan) (a : CollAsk) (rows : Nat) (i : Inst) : Bool :=
  (match s.slotDesc k pl.workSlot with
   | some d => decide (8 * (chunkElems pl.code * pl.elemBits a.fmt / 8) ≤ d.bytes)
   | none => false) &&
  (a.form != .allToAll ||
    match s.slotDesc k pl.routeSlot, s.slotDesc k pl.countSlot with
    | some r, some t => decide (2 * rows ≤ r.bytes) && decide (4 * i.size ≤ t.bytes)
    | _, _ => false) &&
  !(i.native && i.rb.n != 1 && !isPow2 i.ra.n) &&
  !(a.form == .send && i.ra.line && i.rank + 1 == i.size) && !(a.form == .receive && i.ra.line && i.rank == 0)

/-- The plan's tensors as operands (R507). -/
def State.planAsks (s : State) (k : Work) (pl : CollPlan) (form : CollForm) : List OpAsk :=
  (s.slotDesc k pl.workSlot).toList.map askWrite ++
  (if form = .allToAll then (s.slotDesc k pl.routeSlot).toList.map askRead ++ (s.slotDesc k pl.countSlot).toList.map askWrite else [])

/-- The fault of an exchange record that no address reaches or that lies in a versioned entry (R95, R273), or for which the step's list has
no room (R108). -/
def State.exchFault (s : State) (k : Work) (pl : CollPlan) : Option OpFault :=
  if pl.exch = 2 then none
  else
    match s.slotDesc k pl.exchSlot with
    | some d =>
      (match s.scaleFault k.tenant d true, (s.tenant k.tenant).step? k.step with
      | some f, _ => some f
      | none, some p => if d.scalePtr = 0 ∨ p.takes (offOf d.scalePtr) then none else some .descriptor
      | none, none => none)
    | none => none

/-- The route of each row, U16 each (R507); none where one names no rank (R531). -/
def State.routeOf (s : State) (k : Work) (pl : CollPlan) (rows size : Nat) : Option (List Nat) :=
  match s.slotDesc k pl.routeSlot with
  | none => none
  | some d =>
    let bs := d.offsets.map fun o => s.peek k.tenant o .plain
    let rs := (List.range rows).map fun m => field bs (2 * m) 2
    if rs.all fun r => decide (r < size) then some rs else none

/-- Put a contribution in its place, by core. -/
def putContrib (p : Contrib) : List Contrib → List Contrib
  | [] => [p]
  | q :: qs => if p.core < q.core then p :: q :: qs else q :: putContrib p qs

/-! Taps (R547 to R551) -/

/-- The sketch group that watches a plan (R547). -/
def State.watchGroup (s : State) (n p : Nat) : Option Nat :=
  ((List.range 1024).find? fun j =>
    let v := s.reg (Obj.sketchWatch j)
    bit v 7 && bits v 0 4 == n && bits v 8 16 == p).map fun j => bits (s.reg (Obj.sketchWatch j)) 24 8

/-- The engine of a chunk (R550): the next in service from its own on. -/
def State.sketchEngine (s : State) (c group : Nat) : Option Nat :=
  ((List.range 4).map fun j => (c + group + j) % 4).find? fun p => s.reg (Obj.engineState p) == 0

/-- Blocks an engine's queue holds (R551). -/
def sketchRoom : Nat := 4096

/-- A block is skipped (R551): counted at its engine and in its group, which is incomplete. -/
def State.skipBlock (s : State) (i : Inst) (group : Nat) (engine : Option Nat) : State :=
  let g := s.skGroup i.step group
  let s1 := s.setSkGroup i.step group { g with n := i.n, members := i.size, skipped := g.skipped + 1, incomplete := true }
  match engine with
  | some p => s1.count 64 (Obj.blocksSkipped p)
  | none => s1

/-- Tap one block of 64 values (R549 to R551). -/
def State.tapBlock (s : State) (i : Inst) (group tap c j : Nat) (xs : List Num) : State :=
  let seed := match (s.tenant i.n).step? i.step with | some p => p.seed | none => 0
  let h := blockKey seed group i.inst j
  if !blockSelected (s.reg Obj.sampleCode) h then s
  else
    let e := s.sketchEngine c group
    match e with
    | none => s.skipBlock i group none
    | some p =>
      let q := Sparse.get [] p s.sketch.queues
      if xs.any fun v => !v.isFin then s.skipBlock i group e
      else
        let g := s.skGroup i.step group
        let took := s.setSkGroup i.step group { g with n := i.n, members := i.size, taken := g.taken + 1 }
        let fs := (xs ++ List.replicate (64 - xs.length) Num.zero).map toF32
        match largest (fs.map ofF32) with
        | .fin _ m ex =>
          if m = 0 then took
          else if sketchRoom ≤ q.length then s.skipBlock i group e
          else
            let b : SkBlock := { n := i.n, group := group, step := i.step, tap := tap, e := ceilLog2Ratio m ex 1 0,
                                 values := signBlock h fs }
            { took with sketch := { took.sketch with queues := Sparse.set [] p (q ++ [b]) took.sketch.queues } }
        | _ => took

/-- Tap a chunk of an all-reduce of a watched plan (R548): tap 0 is this package's sum, tap 1 the result. -/
def State.tapChunk (s : State) (i : Inst) (tap c : Nat) (val : RunKey → Option Val) : State :=
  if i.form ≠ .allReduce then s
  else
    match s.watchGroup i.n i.plan with
    | none => s
    | some g =>
      let s1 := s.setSkGroup i.step g { s.skGroup i.step g with n := i.n, members := i.size }
      (List.range i.size).foldl (fun t r =>
        let bs := cut 64 (i.pieceNums c r val)
        ((List.range bs.length).zip bs).foldl (fun u b => u.tapBlock i g tap c ((i.pieceRange c r).1 / 64 + b.1) b.2) t) s1

/-! Chunks -/

/-- The instance as it stands. -/
def State.inst? (s : State) (i : Inst) : Option Inst := s.colls.insts.find? fun j => j.same i

/-- Act on an instance while it is open. -/
def State.withInst (s : State) (i : Inst) (f : Inst → State) : State :=
  match s.inst? i with
  | some j => f j
  | none => s

/-- A chunk is ready for the rings: its deadline counts from now (R521), and its first attempt is tapped (R548). -/
def State.chunkReady (s : State) (i : Inst) (c : Nat) : State :=
  let s1 := s.setInst { i with readyAt := Sparse.set 0 (c * 4) s.cadNow i.readyAt }
  if Sparse.get 0 c i.tries = 0 then s1.tapChunk i 0 c i.ownRun else s1

/-- Every chunk that is ready at once when the last core contributes, where no level below adds. -/
def State.readyNow (s : State) (i : Inst) : State :=
  (List.range i.chunkCount).foldl (fun t c => t.withInst i fun j => if j.ready c then t.chunkReady j c else t) s

/-! Retries (R527, R528) -/

/-- The ring neighbours that a notice or a beacon goes to. -/
def Inst.neighbours (i : Inst) : List Nat := ([i.ra, i.rb, i.ga, i.gb].flatMap Ring.chips).eraseDups

/-- The chips that follow on the rings. -/
def Inst.followers (i : Inst) : List Nat :=
  (([i.ra, i.rb].filter fun r => r.n != 1).map fun r => r.next).eraseDups

/-- A third attempt is needed, or X leaves its range (R528): a contained numeric fault of every contributing context; the tokens
carry 16 (log entry 42). -/
def State.retryFails (s : State) (i : Inst) : State :=
  i.contribs.foldl (fun t p => t.opFault p.core p.ctx (engineId p.core 4) 0 .numeric 0 false)
    (s.endFailed i 0xFFFF)

/-- A notice with a higher exponent (R527): passed on, the chunk's partial sums discarded, its contributions converted again, the
chunk run again with the retry bit. -/
def State.retryChunk (s : State) (i : Inst) (c x : Nat) : State :=
  let s1 := i.followers.foldl (fun t p => t.emit (.retry p i.plan i.inst c x)) s
  if Sparse.get 0 c i.tries ≠ 0 ∨ 0xFE < x then s1.retryFails i
  else
    let j : Inst := { i with
      xs := Sparse.insert c x i.xs, tries := Sparse.set 0 c (Sparse.get 0 c i.tries + 1) i.tries,
      levels := i.levels.filter fun l => l.2 != c,
      got := i.got.filter (fun r => r.key.chunk != c),
      sent := i.sent.filter (fun k => k.chunk != c) }
    let s2 := (s1.setInst j).count 64 (Obj.rescaleCount i.n)
    if j.ready c then s2.chunkReady j c else s2

/-- X′ of a piece whose largest e_bound is e (R527). -/
def Inst.retryX (i : Inst) (e : Nat) : Nat := ((126 : Int) + ((e : Int) - 128) + ceilLog i.size + i.margin).toNat

/-- The chunks whose final sum at this member holds a marker, with the largest bound (R527). -/
def Inst.marked (i : Inst) : List (Nat × Nat) :=
  if i.native then []
  else if i.rowForm then (i.ownRows.filter fun q => !i.clean q.2.1).map fun q => (q.1.chunk, q.2.1.2)
  else
    (List.range i.chunkCount).flatMap fun c => (i.chunkKeys c).filterMap fun k =>
      let v := if i.reduces then i.reduced k
        else if (if i.form = .broadcast then i.rank = 0 else k.piece = i.rank) then i.ownRun k else none
      match v with
      | some a => if i.clean a then none else some (c, a.2)
      | none => none

/-- One retry for every marked chunk. -/
def State.retryMarked (s : State) (i : Inst) : State :=
  s.withInst i fun j =>
    let cs := (j.marked.map (·.1)).eraseDups
    cs.foldl (fun t c => t.withInst i fun k =>
      t.retryChunk k c (k.retryX (((j.marked.filter fun m => m.1 == c).map (·.2)).foldl max 0))) s

/-! Sending at once -/

/-- Send a packet of an end point on a die of this package where it can leave now; answers whether it left. -/
def State.sendNow (s : State) (die : Nat) (p : Packet) : State × Bool :=
  let q := s.ownPacket p
  match s.nextHop q with
  | none => (s, false)
  | some (port, cls) => if s.maySend q port cls then ((s.leave die port cls q).holdSent q port, true) else (s, false)

/-! The final write -/

/-- The unit of a core's collective agent (R28). -/
def agentUnit (c : Nat) : Nat := engineId c 4

/-- The conversion of a final result (R511, R512, R525). -/
def Inst.convMode (i : Inst) (p : Contrib) : ConvMode :=
  { sr := p.sr && !(i.native && i.fused), inf := i.native && p.ovf, stage := 2 }

/-- Write final values through a slot of a contributor's table (R525): only this conversion is counted, in the slot's Judges slot.
What the tensor breaks now faults the context. -/
def State.agentWrite (s : State) (i : Inst) (p : Contrib) (slot : Nat) (vals : List Num) : State :=
  match s.ctxWork p.core p.ctx with
  | none => s
  | some (_, k) =>
    let d := s.descOf k slot
    let unit := agentUnit p.core
    match s.prepAt k.asker d d.vtag true unit [] with
    | .ready d v t => t.finishStore p.core p.ctx unit k d (t.storeValues i.n k.stepOf d v (i.convMode p) i.elemBits vals)
    | .fault e a u => u.opFault p.core p.ctx unit 0 e a (e != .poison)
    | .wait _ _ => s

/-- The slots of a contributor's table that an instance's result is written into (R511, R531). -/
def Inst.resultSlots (i : Inst) (p : Contrib) : List Nat :=
  match i.form with
  | .send => []
  | .allToAll => [p.y, i.countSlot]
  | .allGather => [if i.fused then p.x else p.y]
  | _ => [p.y]

/-- The final write of an instance waits (R155, R274, R326): another's lock or a move holds a tensor that takes the result, or its pending
version waits for a buffer. The agent's own locks do not hold it (R514). -/
def State.resultHeld (s : State) (i : Inst) : Bool :=
  let held : VSel → Nat × Nat → Bool := fun v r => s.lockedBut i.same i.n r.1 r.2 || s.movingAt i.n r.1 r.2 v
  i.contribs.any fun p =>
    match s.ctxWork p.core p.ctx with
    | none => false
    | some (_, k) => (i.resultSlots p).any fun slot =>
      let d := s.descOf k slot
      (match s.resolveAt k.asker d d.vtag true with | .wait _ _ => true | _ => false) ||
      (d.span.toList.any (held (if d.v then .pending else .plain))) || d.scaleSpan.toList.any (held .plain)

/-- The rows of every source in rising rank, this member's own in its place (R531): values and counts. -/
def Inst.allRows (i : Inst) : List (List Num × Nat) :=
  (List.range i.size).map fun o =>
    if o = i.rank then
      let vs := i.rowsTo o
      let own := (i.rowRuns vs.length).flatMap fun q =>
        (i.toVal q.1 ((vs.drop q.2.2.1).take (q.2.2.2 - q.2.2.1))).1.map (i.ofElem q.1)
      (own, if i.rowLen = 0 then 0 else vs.length / i.rowLen)
    else
      match i.rowsFrom o with
      | some (es, rows) => (es.map fun e => i.ofElem e.1 e.2, rows)
      | none => ([], 0)

/-- Write an all-to-all's rows and counts (R531): beyond Y's capacity nothing is written, an address fault. -/
def State.writeRows (s : State) (i : Inst) (p : Contrib) : State :=
  match s.ctxWork p.core p.ctx with
  | none => s
  | some (_, k) =>
    let d := s.descOf k p.y
    let all := i.allRows
    let vals := all.flatMap (·.1)
    let s1 := s.agentWrite i p p.y (vals.take (d.runs * i.rowLen))
    let t := s1.descOf k i.countSlot
    let bs := all.flatMap fun q => toBytes 4 q.2
    let (s2, bad) := s1.pokeAll i.n .plain (t.offsets.zip bs)
    if bad then s2.opFault p.core p.ctx (agentUnit p.core) 0 .poison (s2.badWrite i.n t) true
    else if d.runs < (all.map (·.2)).sum then s2.opFault p.core p.ctx (agentUnit p.core) 0 .address (s2.globalAddr (offOf d.address)) true
    else s2

/-- What one contributor's tensors receive. -/
def State.writeFor (s : State) (i : Inst) (p : Contrib) : State :=
  match i.form with
  | .send => s
  | .allToAll => s.writeRows i p
  | .receive =>
    s.agentWrite i p p.y (i.rowSources.flatMap fun o =>
      match i.rowsFrom o with | some (es, _) => es.map fun e => i.ofElem e.1 e.2 | none => [])
  | .allGather => s.agentWrite i p (if i.fused then p.x else p.y) i.result
  | _ => s.agentWrite i p p.y i.result

/-- Every member records 2^(e - 128) into its exchange record's amax_current of the step (R526); in a poisoned line it is not stored, a
poisoned-operand fault of the contributing contexts (R350). -/
def State.recordBound (s : State) (i : Inst) : State :=
  match i.record, i.controlBound with
  | some off, some e =>
    if e = 0 then s
    else
      let a := off + recAmax i.step
      let bs := toBytes 4 (fMax (s.recField i.n a 4) (toF32 ((Num.ofInt 1).scale ((e : Int) - 128))))
      let (t, bad) := s.pokeRun i.n a .plain bs
      if bad then
        i.contribs.foldl (fun u p => u.opFault p.core p.ctx (agentUnit p.core) 0 .poison (u.globalAddr a / 64 * 64) true) t
      else t
  | _, _ => s

/-! Feeds (R602) -/

/-- The live feed sources of a tenant that cover a range. -/
def State.feedsOver (s : State) (n off : Nat) : List (Mirror × Entry) :=
  (s.tenant n).mirrors.filterMap fun m =>
    if m.role = 3 ∧ m.state = 3 then
      match s.entries.find? fun p => p.2.tenant == n && p.2.base == m.localBase && p.2.covers off with
      | some (_, e) => some (m, e)
      | none => none
    else none

/-- The forwarded bytes that can leave now do (R602). -/
def State.flushFeeds (s : State) (i : Inst) : State :=
  i.feeds.foldl (fun t p =>
    let (u, gone) := t.sendNow (i.cores.headD 0 / 64) p
    if gone then
      u.withInst i fun j => u.setInst { j with
        feeds := j.feeds.erase p, packets := j.packets ++ [(p.dest, (u.txStream p.dest p.channel).last)] }
    else u) s

/-- Forward the bytes a contributor's result wrote into a feed source (R602): over the tenant's piste to the buddy where there is
one, else as requests; the bytes carry the step (their layout: log entry 43). -/
def State.forwardFeed (s : State) (i : Inst) (p : Contrib) : State :=
  match s.ctxWork p.core p.ctx with
  | none => s
  | some (_, k) =>
    let d := s.descOf k (if i.form = .allGather && i.fused then p.x else p.y)
    let ps := (s.feedsOver i.n (offOf d.address)).flatMap fun f =>
      let piste := (s.pistePort f.1.buddy i.n).isSome
      (List.range d.runs).flatMap fun r =>
        (cutSpan (if piste then 65536 else 4096) 0 d.runBytes).map fun q =>
          let off := d.runOff r + q.1
          ({ ptype := if piste then ptRun else ptRequest, flags := 0, dest := f.1.buddy, source := s.chip, channel := i.plan % 64,
             tenant := i.n, sequence := 0, epoch := 0, drawingId := 0, hops := 0, replySlot := off % 2 ^ 16,
             deadline := s.cadNow + min 16777215 (s.reg (Obj.collectiveSlackNs i.n)),
             address := f.1.buddyBase + (off - f.1.localBase) + i.step % 2 ^ 14 * 2 ^ 50, ackSequence := 0,
             payload := s.peekBytes i.n off .plain (q.2 - q.1) } : Packet)
    let s1 := s.withInst i fun j => s.setInst { j with feeds := j.feeds ++ ps }
    s1.withInst i fun j => s1.flushFeeds j

/-- A chunk's final write: the cycles of the agents that write (R544, log entry 24). -/
def State.busy (s : State) (core bytes : Nat) : State :=
  s.addReg 64 (Obj.agentBusyCycles (core / 64 * 64 + core % 64 / 8)) (ceilDiv bytes 256)

/-- Write the instance's result into every contributor's tensors (R514, R525), record the bound, forward feeds. -/
def State.writeResult (s : State) (i : Inst) : State :=
  let s1 := s.setInst { i with written := true }
  let s2 := i.contribs.foldl (fun t p => ((t.writeFor i p).busy p.core (i.elems * i.elemBits / 8)).forwardFeed i p) s1
  s2.recordBound i

/-- Chunks that have left the rings (R518), with the step tap (R548). -/
def State.leaveRings (s : State) (i : Inst) : State :=
  s.withInst i fun j =>
    let new := (List.range j.chunkCount).filter fun c => !j.leftRing.contains c && j.complete c
    new.foldl (fun t c => t.tapChunk j 1 c j.final) (s.setInst { j with leftRing := j.leftRing ++ new })

/-- Everything is on this member: every chunk has left the rings and gone down, and the control exchange has returned. -/
def Inst.whole (i : Inst) : Bool :=
  i.allIn && !i.written &&
  ((List.range i.chunkCount).all fun c => i.leftRing.contains c &&
    (i.inPackage.filter fun l => decide (2 ≤ l)).all fun l => i.levels.contains (l, c)) &&
  (!i.isControl i.controlChunk || i.controlBound.isSome)

/-! Runs -/

/-- Does a run come from the member that sends at its place? -/
def Inst.fromPeer (i : Inst) (r : Run) : Bool :=
  let g := i.ring r.key.stage
  g.n != 1 && r.peer == g.source r.key.backward

/-- The format and extents of the rows an instance sends, or expects (R532). -/
def State.rowShape (s : State) (i : Inst) : List Nat :=
  match i.contribs with
  | p :: _ =>
    match s.ctxWork p.core p.ctx with
    | some (_, k) => let d := s.descOf k p.y; [d.fmt, d.e0, d.e1, d.e2, d.e3]
    | none => []
  | [] => []

/-- The sender's format or extents are not the receiver's (R532): the receiver's instance fails with a descriptor fault. -/
def State.shapeFails (s : State) (i : Inst) : State :=
  i.contribs.foldl (fun t p => t.descriptorFault p.core p.ctx (agentUnit p.core) 0) (s.endFailed i 0xFFFF)

/-- A run waits in its buffer (R522). -/
def State.waitRun (s : State) (r : Run) : State := { s with colls := { s.colls with waiting := s.colls.waiting ++ [r] } }

/-- A run meets its open instance (R522, R523, R527): once per tag; one that carries an older X is discarded, a newer one waits for
its notice. -/
def State.applyRun (s : State) (i : Inst) (r : Run) : State :=
  let x := if i.isControl r.key.chunk then r.x else i.xOf r.key.chunk
  if !i.fromPeer r then s
  else if r.x < x then s
  else if i.got.any fun g => g.key == r.key then s.count 64 (Obj.duplicateRunCount i.n)
  else if x < r.x then s.waitRun r
  else if i.form = .receive ∧ i.contribs ≠ [] ∧ r.shape ≠ s.rowShape i then s.shapeFails i
  else
    let later := (List.range 4).filter fun t => decide (r.key.stage < t)
    let j : Inst := { i with
      got := i.got ++ [r],
      readyAt := later.foldl (fun m t => Sparse.set 0 (r.key.chunk * 4 + t) s.cadNow m) i.readyAt }
    (s.setInst j).progress j

/-- The runs that waited for an instance are applied. -/
def State.drainRuns (s : State) (i : Inst) : State :=
  let mine := s.colls.waiting.filter i.owns
  mine.foldl (fun t r => t.withInst i fun j => t.applyRun j r)
    { s with colls := { s.colls with waiting := s.colls.waiting.filter fun r => !i.owns r } }

end Sys2Proof.Machine
end

