-- ==== Sys2Proof/Machine/MatrixOps.lean ====
section
/-!
DEFINITION. The arithmetic and the checks of the matrix engine (R121 to R161, R163 to R175): passes, windows and accumulate steps,
the accumulator's form, tiles and their scales, partitions.
-/

namespace Sys2Proof.Machine

/-! The accumulator's entries (R124, R125) -/

/-- The value of a 40-bit floating entry (R124). -/
def accValue (w : Nat) : Num :=
  let ex := bits w 28 11
  let sig := bits w 0 28
  if ex = 0x7FF then (if sig = 0 then .inf (bit w 39) else .nan)
  else if ex = 0 then .zero
  else .fin (bit w 39) sig ((ex : Int) - 1023 - 27)

/-- Round into the 40-bit floating form (R124, R165): an exact zero is +0; the engine's NaN is 0x7FF and 0x800_0000. -/
def accCode (r : Rnd) (x : Num) : Nat :=
  match x with
  | .nan => 0x7FF * 2 ^ 28 + 0x8000000
  | .inf s => b2n s * 2 ^ 39 + 0x7FF * 2 ^ 28
  | .fin s m e =>
    if m = 0 then 0
    else
      let (q, u) := roundMag r 27 (-4000) m e
      let top := Nat.log2 q
      let sig := if top ≤ 27 then q * 2 ^ (27 - top) else q / 2 ^ (top - 27)
      b2n s * 2 ^ 39 + (u + top + 1023).toNat * 2 ^ 28 + sig

/-! Passes (R163 to R167) -/

/-- The exponent of a number's leading bit. -/
def topExp : Num → Int
  | .fin _ m e => e + Nat.log2 m
  | _ => 0

/-- The window sum of a pass (R163, R164, R166) and whether a product lost bits. -/
def windowSum (ps : List Num) : Num × Bool :=
  let odd := ps.filter fun p => !p.isFin
  if !odd.isEmpty then (odd.foldl Num.add .zero, false)
  else
    match ps.filter fun p => !p.isZero with
    | [] => (.zero, false)
    | q :: qs =>
      let base := qs.foldl (fun t p => max t (topExp p)) (topExp q) - 67
      let part : Num → Int × Bool := fun p =>
        match p with
        | .fin s m e =>
          if base ≤ e then (alignTo s m e base, false)
          else
            let k := (base - e).toNat
            let v : Int := (m / 2 ^ k : Nat)
            (if s then -v else v, decide (m % 2 ^ k ≠ 0))
        | _ => (0, false)
      let sum := (q :: qs).foldl (fun (t : Int × Bool) p => (t.1 + (part p).1, t.2 || (part p).2)) (0, false)
      (.fin (decide (sum.1 < 0)) sum.1.natAbs base, sum.2)

/-- The accumulate step (R165, R166). -/
def accStep (r : Rnd) (a : Nat) (w : Num) : Nat := accCode r ((accValue a).add w)

/-- The long-sum threshold (R159): none for code 31. -/
def longSum (code : Nat) : Option Nat := if code = 31 then none else if code = 0 then some 16384 else some (2 ^ code)

/-- A pass rounds stochastically when its last position is not below the threshold (R169; log entry 159). -/
def passStochastic (lst kp k p : Nat) : Bool :=
  match longSum lst with
  | none => false
  | some t => decide (t ≤ min ((p + 1) * kp) k - 1)

/-- The passes of one floating output element (R163 to R169): the entry, and for each pass whether it lost bits. -/
def floatEntry (lst kp k seed tensorId m n start : Nat) (xs ws : List Num) : Nat × List Bool :=
  let segs := (cut kp xs).zip (cut kp ws)
  ((List.range segs.length).zip segs).foldl (fun (t : Nat × List Bool) q =>
    let (w, lost) := windowSum ((q.2.1.zip q.2.2).map fun e => e.1.mul e.2)
    let r := rndOf (passStochastic lst kp k q.1) seed 0 tensorId m n q.1
    (accStep r t.1 w, t.2 ++ [lost])) (start, [])

/-- Is a sum within 48 bits (R138)? -/
def in48 (v : Int) : Bool := decide (-(2 ^ 47) ≤ v) && decide (v < 2 ^ 47)

/-- An integer element's value. -/
def intOf : Num → Int
  | .fin s m e => if s then -((m * 2 ^ e.toNat : Nat) : Int) else ((m * 2 ^ e.toNat : Nat) : Int)
  | _ => 0

/-- The passes of one integer output element (R138, R167): none when a step leaves 48 bits. -/
def intEntry (kp : Nat) (start : Int) (xs ws : List Int) : Option Int :=
  ((cut kp xs).zip (cut kp ws)).foldl (fun (t : Option Int) q =>
    match t with
    | none => none
    | some a =>
      let v := a + ((q.1.zip q.2).map fun e => e.1 * e.2).sum
      if in48 v then some v else none) (some start)

/-! Operands (R127, R128, R134 to R138, R152) -/

/-- Array element formats (R127). -/
def isArrayFloat (f : Nat) : Bool := [0x00, 0x01, 0x02, 0x03, 0x04, 0x09, 0x0A].contains f
def isArrayInt (f : Nat) : Bool := [0x05, 0x06, 0x07, 0x08].contains f

/-- The pass depth (R128). -/
def passDepth (fx fw : Nat) (quarters : Bool) : Nat :=
  let w := max (fmtWidth fx) (fmtWidth fw)
  let k := if w = 4 then 256 else if w ≤ 8 then 128 else 64
  if quarters then k / 2 else k

/-- The descriptors of a matrix instruction. -/
structure Mma where
  x : Desc
  w : Desc
  y : Option Desc
  tout : Option Desc
  tx : Option Desc
  tw : Option Desc

/-- M, K and N of an MMA (R134, R135, R158). -/
def mmaM (w : MmaWord) (m : Mma) : Nat := if w.xt then m.x.e0 else m.x.e1
def mmaK (w : MmaWord) (m : Mma) : Nat := if w.xt then m.x.e1 else m.x.e0
def mmaKw (w : MmaWord) (m : Mma) : Nat := if w.wt then m.w.e1 else m.w.e0
def mmaN (w : MmaWord) (m : Mma) : Nat := if w.wt then m.w.e0 else m.w.e1

/-- Integer form (R138). -/
def Mma.intForm (m : Mma) : Bool :=
  isArrayInt m.x.fmt && m.x.block == 0 && m.w.block == 0 && m.tx.isNone && m.tw.isNone

/-- The pairing is one R127 allows. -/
def Mma.pairs (m : Mma) : Bool :=
  (isArrayFloat m.x.fmt && isArrayFloat m.w.fmt) || (isArrayInt m.x.fmt && isArrayInt m.w.fmt)

/-- A tile scale of an operand's element in its own coordinates (R152): 2^(S - 127). -/
def State.tileScaled (s : State) (n : Nat) (t : Option (Desc × VSel)) (i0 i1 : Nat) (v : Num) : Num :=
  match t with
  | none => v
  | some (d, sel) =>
    let b := s.rawElem n sel d (i1 / 64) (i0 / 32)
    if b = 0xFF then .nan else v.scale ((b : Int) - 127)

/-- An element of an operand with every scale (R136): of an integer form, the element alone. -/
def State.mmaElem (s : State) (n : Nat) (plain : Bool) (o : Desc × VSel) (t : Option (Desc × VSel)) (i0 i1 : Nat) : Num :=
  if plain then decodeElem o.1.fmt (s.rawElem n o.2 o.1 i1 i0) else s.tileScaled n t i0 i1 (s.elemValue n o.2 o.1 i1 i0)

/-- The vectors of an operand along K: `len` of them; `swapped` when K runs along dimension 1.
A write completed before the instruction issued is always seen (R156, log entry 158). -/
def State.mmaVectors (s : State) (n : Nat) (plain swapped : Bool) (o : Desc × VSel) (t : Option (Desc × VSel)) (len k : Nat) :
    List (List Num) :=
  (List.range len).map fun i => (List.range k).map fun j =>
    if swapped then s.mmaElem n plain o t i j else s.mmaElem n plain o t j i

/-- The tensor scale of an integer operand, applied at output conversion (R138). -/
def State.tensorScale (s : State) (n : Nat) (d : Desc) (v : Num) : Num :=
  if d.scalePtr = 0 then v
  else
    let b := s.scaleByte n d 0 0
    if b = 0xFF then .nan else v.scale ((b : Int) - 127)

/-! Partitions (R141, R193) -/

/-- Is a partition number valid in a mode (R141)? -/
def partOk (mode part : Nat) : Bool := if mode = 0 then part == 0 else if mode = 1 then decide (part < 2) else decide (part < 4)

/-- The first accumulator row of a context's window in a partition's region, and the window's rows (R193). -/
def Ctx.window (y : Ctx) (mode part : Nat) : Nat × Nat :=
  if mode = 2 then (1024 * (part / 2) + y.accBase / 2, y.accSize / 2) else (y.accBase, y.accSize)

/-- A partition's cell columns (R141): the first, and how many. -/
def partCols (mode part : Nat) : Nat × Nat := if mode = 0 then (0, 64) else (32 * (part % 2), 32)

/-- A partition's accumulator rows: the first, and how many. -/
def partRows (mode part : Nat) : Nat × Nat := if mode = 2 then (1024 * (part / 2), 1024) else (0, 2048)

/-- The region rows of output row j above a window's start (R125, R193). -/
def accRowsOf (int : Bool) (base j : Nat) : List Nat := if int then [base + 2 * j, base + 2 * j + 1] else [base + j]

/-- The halves of a row that a partition owns (0 columns 0 to 31, 1 columns 32 to 63). -/
def partHalves (mode part : Nat) : List Nat := if mode = 0 then [0, 1] else [part % 2]

/-! Checks (R161) -/

/-- A tile scale array is S8 and large enough for its operand's tiles (R161). -/
def tileArrayOk (e0 e1 : Nat) : Option Desc → Bool
  | none => true
  | some d => d.fmt == fmtS8 && (decide (e0 = 0) || decide (e1 = 0) ||
      (decide (ceilDiv e0 32 ≤ d.e0) && decide (ceilDiv e1 64 ≤ d.e1) && decide (1 ≤ d.e2) && decide (1 ≤ d.e3)))

/-- Dimensions 2 and 3 have extent 1. -/
def flat2 (d : Desc) : Bool := d.e2 == 1 && d.e3 == 1

/-- How an instruction runs (R131): resident, or in streaming mode. -/
def mmaResident (w : MmaWord) (M outRows : Nat) : Bool := decide (w.abase + M ≤ outRows)
def mmaStreams (w : MmaWord) (M K kp outRows : Nat) : Bool :=
  decide (0 < K) && decide (K ≤ kp) && w.out && !w.acc && decide (outRows < w.abase + M) && decide (w.abase + 128 ≤ outRows)

/-- The descriptor faults of R161 that the words, descriptors and the window decide; `yOk` is the form's own demand on Y. -/
def mmaOk (w : MmaWord) (m : Mma) (mode outRows : Nat) (resident : Bool) (yOk : Desc → Bool) : Bool :=
  let M := mmaM w m
  let K := mmaK w m
  let N := mmaN w m
  let kp := passDepth m.x.fmt m.w.fmt (mode == 2)
  m.pairs && flat2 m.x && flat2 m.w && mmaKw w m == K && partOk mode w.part && decide (N ≤ (partCols mode 0).2) &&
  decide (M ≤ 2 ^ 24) && decide (K ≤ 2 ^ 24) &&
  (mmaResident w M outRows || (!resident && mmaStreams w M K kp outRows)) && (decide (w.lst ≤ 24) || w.lst == 31) &&
  tileArrayOk m.x.e0 m.x.e1 m.tx && tileArrayOk m.w.e0 m.w.e1 m.tw &&
  (if w.out then
    match m.y with
    | none => false
    | some y => flat2 y && yOk y && y.fmt != fmtS8 && y.fmt != fmtFX32 && y.fmt != fmtFX24 && !y.meets m.x && !y.meets m.w &&
        tileArrayOk N M m.tout
   else true)

/-! Output conversion (R148 to R154) -/

/-- What an output tensor's conversion applies: format, block-size code, tensor scale and rounding. -/
structure OutConv where
  fmt : Nat
  block : Nat
  next : Nat
  scaled : Bool
  sr : Bool
  seed : Nat
  tensorId : Nat

/-- Is the output block-scaled? -/
def OutConv.blocked (o : OutConv) : Bool := isNarrow o.fmt && o.block != 0

/-- The power of two an unblocked conversion applies (R106). -/
def OutConv.shift (o : OutConv) : Int := if isNarrow o.fmt && o.scaled then 127 - (o.next : Int) else 0

/-- A finite block whose scale would be clamped at 127 (R105, R149). -/
def blockOverflows (fmt : Nat) (xs : List Num) : Bool :=
  match largest xs, maxFinite fmt with
  | .fin _ m e, .fin _ v f => m != 0 && v != 0 && decide (127 < ceilLog2Ratio m e v f)
  | _, _ => false

/-- An element that would be clamped or become infinite (R149). -/
def elemOverflows (o : OutConv) (m n : Nat) (x : Num) : Bool :=
  (convertElem o.fmt (rndOf o.sr o.seed 1 o.tensorId m n 0) false (x.scale o.shift)).2 == .saturated

/-- The rows of conversion inputs under the tiles' scales (R148; a starting scale of 0xFF is a factor like another, log entry 146): each accumulator value × 2^(127 − t). -/
def tileInputs (scales : Sparse Nat) (osc : Nat) (rows : List (List Num)) : List (List Num) :=
  ((List.range rows.length).zip rows).map fun p => ((List.range p.2.length).zip p.2).map fun q =>
    q.2.scale (127 - ((Sparse.get osc (p.1 / 64 * 2 + q.1 / 32) scales : Nat) : Int))

/-- The part of a row in a tile's 32 columns. -/
def tileCols {α : Type} (h : Nat) (row : List α) : List α := (row.drop (32 * h)).take 32

/-- The largest magnitude of a tile as presented to rounding (R150). -/
def tileLargest (o : OutConv) (tile : List (List Num)) : Num :=
  (largest tile.flatten).scale (if o.blocked then -127 else o.shift)

/-- Does tile (g, h) overflow (R149)? -/
def tileOverflows (o : OutConv) (inputs : List (List Num)) (g h : Nat) : Bool :=
  let rows := (List.range 64).filterMap fun i => (inputs[64 * g + i]?).map fun r => (64 * g + i, r)
  if o.blocked then
    rows.any fun p =>
      let size := blockSize o.block
      let bs := cut size ((List.range p.2.length).zip p.2)
      ((List.range bs.length).zip bs).any fun b =>
        decide (b.1 * size < 32 * h + 32) && decide (32 * h < (b.1 + 1) * size) &&
          (blockOverflows o.fmt (b.2.map (·.2)) ||
           ((convertBlock o.fmt false (fun i => rndOf o.sr o.seed 1 o.tensorId p.1 i 0) b.2).2.zip b.2).any fun e =>
             e.1.cls == .saturated && e.2.1 / 32 == h)
  else
    rows.any fun p => ((List.range 32).zip (tileCols h p.2)).any fun q => elemOverflows o p.1 (32 * h + q.1) q.2

/-- The raise of an overflowing tile (R150). -/
def tileRaise (o : OutConv) (inputs : List (List Num)) (g h : Nat) : Nat :=
  let tile := ((List.range 64).filterMap fun i => inputs[64 * g + i]?).map fun r => tileCols h r
  (max 1 (topExp (tileLargest o tile) - topExp (maxFinite o.fmt))).toNat

/-- The conversion of tiles as it goes on (R149 to R151): the tiles' scales, how often each was replayed, the tiles written, the replay
attempts made, and the tiles that ended in a numeric fault. -/
structure TileRun where
  scales : Sparse Nat := []
  tries : Sparse Nat := []
  written : List (Nat × Nat) := []
  replays : Nat := 0
  faults : Nat := 0

/-- One attempt at some tiles: those that overflow are held, the others written. -/
def TileRun.attempt (r : TileRun) (o : OutConv) (osc : Nat) (named : Bool) (rows : List (List Num)) (ts : List (Nat × Nat)) :
    TileRun × List (Nat × Nat) :=
  let inputs := tileInputs r.scales osc rows
  let key : Nat × Nat → Nat := fun t => t.1 * 2 + t.2
  let high := ts.filter fun t => tileOverflows o inputs t.1 t.2
  let dead := high.filter fun t => !named || Sparse.get 0 (key t) r.tries == 2 || Sparse.get osc (key t) r.scales == 0xFE
  let again := if dead.isEmpty then high else []
  ({ scales := again.foldl (fun m t =>
       Sparse.insert (key t) (min 0xFE (Sparse.get osc (key t) r.scales + tileRaise o inputs t.1 t.2)) m) r.scales
     tries := again.foldl (fun m t => Sparse.set 0 (key t) (Sparse.get 0 (key t) m + 1) m) r.tries
     written := r.written ++ ts.filter fun t => !high.contains t
     replays := r.replays + (ts.filter fun t => Sparse.get 0 (key t) r.tries != 0).length
     faults := dead.length }, again)

/-- Convert the tiles window after window (R149 to R151). A tile that overflows is replayed, at most twice: in streaming mode before the
next window, in resident mode after the attempt the converter is then working on. A tile that ends in a fault ends the conversion
(R144). -/
def tileLoop (o : OutConv) (osc : Nat) (named streams : Bool) (rows : List (List Num)) :
    Nat → List (List (Nat × Nat)) → TileRun → TileRun
  | 0, _, r => r
  | _, [], r => r
  | fuel + 1, ts :: q, r =>
    let (r1, again) := r.attempt o osc named rows ts
    if r1.faults ≠ 0 then r1
    else
      let q1 := match streams, q with
        | false, n :: later => n :: (again.map fun t => [t]) ++ later
        | _, _ => (again.map fun t => [t]) ++ q
      tileLoop o osc named streams rows fuel q1 r1

/-- The tiles of an output of M rows and N columns. -/
def tilesOf (M N : Nat) : List (Nat × Nat) :=
  (List.range (ceilDiv M 64)).flatMap fun g => (List.range (ceilDiv N 32)).map fun h => (g, h)

/-- The windows of 64 rows in which they are first converted (R131, R149). -/
def windowsOf (M N : Nat) : List (List (Nat × Nat)) :=
  (List.range (ceilDiv M 64)).map fun g => (List.range (ceilDiv N 32)).map fun h => (g, h)

end Sys2Proof.Machine
end

