-- ==== Sys2Proof/Machine/MatrixRun.lean ====
section
/-!
DEFINITION. Running a matrix product on a partition (R130 to R154), the locks it holds (R155), and what a partition-local fault does
(R144).
-/

namespace Sys2Proof.Machine

/-- Change a core. -/
def State.modCore (s : State) (c : Nat) (f : Core → Core) : State := s.setCore c (f (s.core c))

/-! Faults (R144) -/

/-- The keys of a region's rows, by row and half. -/
def regionKeys (mode part : Nat) : List Nat :=
  let (lo, k) := partRows mode part
  (List.range k).flatMap fun i => (partHalves mode part).map fun h => (lo + i) * 2 + h

/-- Poison a partition's region (R144). -/
def Core.poisonRegion (v : Core) (part : Nat) : Core :=
  { v with accPoison := (regionKeys v.mode part).foldl (fun m k => Sparse.set 0 k 1 m) v.accPoison }

/-- The partitions that run an instruction of a context. -/
def Core.running (v : Core) (x : Nat) : List Nat := ((v.issued.filter fun i => i.ctx == x).map (·.part)).eraseDups

/-- Drain a context from some partitions (R144): its instructions end there, and the regions are poisoned. -/
def Core.drain (v : Core) (x : Nat) (parts : List Nat) : Core :=
  parts.foldl (fun u p => u.poisonRegion p) { v with issued := v.issued.filter fun i => i.ctx != x }

/-- A fault of a matrix instruction (R144, R146): the context is faulted, and drained from every partition that runs an instruction of it,
the instruction's own among them once it runs there: a descriptor and an address are checked before it has any effect (R161). A version
fault is none of R144's faults. -/
def State.partitionFault (s : State) (c x part : Nat) (f : OpFault) (addr : Nat) (write : Bool) : State :=
  let v := s.core c
  let p := if v.mode = 0 then 0 else part
  if f = .version then s.opFault c x (engineId c 0) p f addr write
  else
    let parts := if f = .poison ∨ f = .numeric then (p :: v.running x).eraseDups else v.running x
    ((s.setCore c (v.drain x parts)).count 32 (Obj.partitionFaultCount c)).opFault c x (engineId c 0) p f addr write

/-- A contained numeric fault of some tiles (R151, R162). -/
def State.numericFault (s : State) (c x part k : Nat) : State :=
  (s.addReg 32 (Obj.numericFaultCount c) k).partitionFault c x part .numeric 0 false

/-! The accumulator rows of an instruction -/

/-- What an instruction reaches in a core: its partition, form, window start above ABASE, columns and rows. -/
structure AccWin where
  mode : Nat
  part : Nat
  int : Bool
  base : Nat
  streams : Bool
  deriving DecidableEq, Repr

/-- The window an MMA reaches (R193). -/
def accWin (w : MmaWord) (m : Mma) (mode : Nat) (y : Ctx) (streams : Bool) : AccWin :=
  let b := (y.window mode w.part).1
  { mode := mode, part := w.part, int := m.intForm, base := b + (if m.intForm then 2 * w.abase else w.abase), streams := streams }

/-- The output rows of a context's window (R131, R193). -/
def windowRows (m : Mma) (mode part : Nat) (y : Ctx) : Nat :=
  let k := (y.window mode part).2
  if m.intForm then k / 2 else k

/-- The accumulator rows of output row i; streaming uses 128 rows in turn (R131). -/
def AccWin.rows (a : AccWin) (i : Nat) : List Nat := accRowsOf a.int a.base (if a.streams then i % 128 else i)

/-- The keys of all rows of M output rows, by row and half. -/
def AccWin.keys (a : AccWin) (M : Nat) : List Nat :=
  (List.range (if a.streams then min M 128 else M)).flatMap fun i => (a.rows i).flatMap fun r =>
    (partHalves a.mode a.part).map fun h => r * 2 + h

/-- The form tag of a form (R125). -/
def formTag (int : Bool) : Nat := if int then 2 else 1

/-- Does ACC meet a row tagged with the other form (R161)? -/
def Core.tagClash (v : Core) (a : AccWin) (M : Nat) : Bool :=
  (a.keys M).any fun k => let t := Sparse.get 0 k v.accTag; t != 0 && t != formTag a.int

/-- The entries of M output rows and N columns. -/
def AccWin.cells (a : AccWin) (M N : Nat) : List Nat :=
  (List.range (if a.streams then min M 128 else M)).flatMap fun i => (a.rows i).flatMap fun r =>
    (List.range N).map fun n => r * 64 + (partCols a.mode a.part).1 + n

/-- Does ACC meet a poisoned row or entry (R126, R144)? -/
def Core.rowsBad (v : Core) (a : AccWin) (M N : Nat) : Bool :=
  ((a.keys M).any fun k => Sparse.get 0 k v.accPoison == 1) ||
  (!v.accBad.isEmpty && (a.cells M N).any fun k => Sparse.get 0 k v.accBad == 1)

/-- A floating entry as ACC takes it: an untagged row is +0 (R125). -/
def Core.floatAt (v : Core) (a : AccWin) (i n : Nat) : Nat :=
  let col := (partCols a.mode a.part).1 + n
  match a.rows i with
  | r :: _ => if Sparse.get 0 (r * 2 + col / 32) v.accTag = 0 then 0 else Sparse.get 0 (r * 64 + col) v.acc
  | [] => 0

/-- An integer entry (R125): the low 40 bits in the first row, the upper 8 in the second. -/
def Core.intAt (v : Core) (a : AccWin) (i n : Nat) : Int :=
  let col := (partCols a.mode a.part).1 + n
  match a.rows i with
  | r :: q :: _ =>
    if Sparse.get 0 (r * 2 + col / 32) v.accTag = 0 then 0
    else signedOf 48 (Sparse.get 0 (r * 64 + col) v.acc + Sparse.get 0 (q * 64 + col) v.acc * 2 ^ 40)
  | _ => 0

/-- Store a floating entry. -/
def Core.putFloat (v : Core) (a : AccWin) (i n e : Nat) : Core :=
  let col := (partCols a.mode a.part).1 + n
  match a.rows i with
  | r :: _ => { v with acc := Sparse.set 0 (r * 64 + col) e v.acc }
  | [] => v

/-- Store an integer entry. -/
def Core.putInt (v : Core) (a : AccWin) (i n : Nat) (e : Int) : Core :=
  let col := (partCols a.mode a.part).1 + n
  let w := wrapInt 48 e
  match a.rows i with
  | r :: q :: _ =>
    { v with acc := Sparse.set 0 (q * 64 + col) (w / 2 ^ 40) (Sparse.set 0 (r * 64 + col) (w % 2 ^ 40) v.acc) }
  | _ => v

/-- The rows written carry the form's tag (R125), and with ACC clear lose their poison (R126, R144). -/
def Core.tagRows (v : Core) (a : AccWin) (M N : Nat) (acc : Bool) : Core :=
  let ks := a.keys M
  { v with
    accTag := ks.foldl (fun m k => Sparse.set 0 k (formTag a.int) m) v.accTag,
    accPoison := if acc then v.accPoison else ks.foldl (fun m k => Sparse.erase k m) v.accPoison,
    accBad := if acc || v.accBad.isEmpty then v.accBad else (a.cells M N).foldl (fun m k => Sparse.erase k m) v.accBad }

/-! The product -/

/-- What the passes of a product make: every output element, and per pass whether any product lost bits; none where an integer sum
leaves 48 bits. -/
structure Product where
  core : Core
  rows : List (List Num)
  lost : List Bool

/-- The passes of a floating product. -/
def floatProduct (v : Core) (w : MmaWord) (a : AccWin) (seed tensorId kp K : Nat) (xs ws : List (List Num)) : Product :=
  let out := ((List.range xs.length).zip xs).map fun p => ((List.range ws.length).zip ws).map fun q =>
    floatEntry w.lst kp K seed tensorId p.1 q.1 (if w.acc then v.floatAt a p.1 q.1 else 0) p.2 q.2
  let core := ((List.range out.length).zip out).foldl (fun u p =>
    ((List.range p.2.length).zip p.2).foldl (fun t q => t.putFloat a p.1 q.1 q.2.1) u) v
  { core := core, rows := out.map fun r => r.map fun e => accValue e.1,
    lost := (List.range (ceilDiv K kp)).map fun p => out.any fun r => r.any fun e => e.2.getD p false }

/-- The passes of an integer product. -/
def intProduct (v : Core) (w : MmaWord) (a : AccWin) (kp : Nat) (xs ws : List (List Num)) : Option Product :=
  let out := ((List.range xs.length).zip xs).map fun p => ((List.range ws.length).zip ws).map fun q =>
    intEntry kp (if w.acc then v.intAt a p.1 q.1 else 0) (p.2.map intOf) (q.2.map intOf)
  if out.any fun r => r.any Option.isNone then none
  else
    let vals := out.map fun r => r.map fun e => e.getD 0
    let core := ((List.range vals.length).zip vals).foldl (fun u p =>
      ((List.range p.2.length).zip p.2).foldl (fun t q => t.putInt a p.1 q.1 q.2) u) v
    some { core := core, rows := vals.map fun r => r.map Num.ofInt, lost := [] }

/-- The prepared operands of a matrix instruction. -/
structure MmaOps where
  x : Desc × VSel
  w : Desc × VSel
  y : Option (Desc × VSel)
  tout : Option (Desc × VSel)
  tx : Option (Desc × VSel)
  tw : Option (Desc × VSel)

/-- Run the passes (R130): the product, or none for an integer overflow. -/
def State.mmaProduct (s : State) (c : Nat) (k : Work) (w : MmaWord) (m : Mma) (a : AccWin) (o : MmaOps) (tensorId : Nat) :
    Option Product :=
  let K := mmaK w m
  let kp := passDepth m.x.fmt m.w.fmt (a.mode == 2)
  let xs := s.mmaVectors k.tenant m.intForm w.xt o.x o.tx (mmaM w m) K
  let ws := s.mmaVectors k.tenant m.intForm w.wt o.w o.tw (mmaN w m) K
  let v := s.core c
  if m.intForm then intProduct v w a kp xs ws
  else some (floatProduct v w a (s.seedOf k.tenant k.stepOf) tensorId kp K xs ws)

/-- The id a matrix key takes (R173): of Y, or of W where slot Y is 0. -/
def State.mmaTensorId (s : State) (k : Work) (w : MmaWord) (m : Mma) : Nat :=
  if w.y = 0 then m.w.tensorId else (s.descOf k w.y).tensorId

/-- The counters of the passes (R162, R187): truncated passes, stochastic steps, streamed rows (log entry 24). -/
def State.countPasses (s : State) (c : Nat) (w : MmaWord) (M K N kp : Nat) (lost : List Bool) (int : Bool) : State :=
  let passes := ceilDiv K kp
  let stoch := ((List.range passes).filter fun p => !int && passStochastic w.lst kp K p).length
  ((s.addReg 64 (Obj.windowTruncationCount c) (lost.filter id).length).addReg 64 (Obj.stochasticStepCount c) (stoch * N)).addReg 64
    (Obj.streamCycles c) (passes * M)

/-- The weight tile of a pass (R130, R134): for each column, the elements of its part of K. -/
def State.weightTile (s : State) (n x : Nat) (swapped : Bool) (o : Desc × VSel) (cols K kp p : Nat) : Tile :=
  { ctx := x, off := offOf o.1.address, pass := p,
    words := (List.range cols).map fun j => (List.range (min kp (K - p * kp))).map fun i =>
      if swapped then s.rawElem n o.2 o.1 (p * kp + i) j else s.rawElem n o.2 o.1 j (p * kp + i) }

/-- The planes after an instruction's passes (R130): each loads its tile into the free plane and swaps, so the last tile is current. -/
def Plane.after (p : Plane) (x passes : Nat) (tile : Nat → Tile) : Plane :=
  if passes = 0 then { p with tag := some x }
  else
    let cur := (p.current + passes) % 2
    let last := some (tile (passes - 1))
    let (other, bad) := if 2 ≤ passes then (some (tile (passes - 2)), false)
      else if p.current = 0 then (p.tileA, p.badA) else (p.tileB, p.badB)
    { tag := some x, current := cur, tileA := if cur = 0 then last else other, tileB := if cur = 0 then other else last,
      badA := cur != 0 && bad, badB := cur == 0 && bad, tiles := Sparse.insert x (tile (passes - 1)) p.tiles }

/-- The partition of an instruction runs no other one, so that its first weight tile has not been preloaded (R133, R162); one without a
pass has no tile (log entry 143). -/
def State.countMiss (s : State) (c part passes : Nat) : State :=
  if passes = 0 ∨ (s.core c).issued.any (fun j => j.part == part) then s else s.count 32 (Obj.preloadMissCount c)

/-- The locks of a matrix instruction (R155). -/
def lockRanges (n : Nat) (ds : List Desc) : List (Nat × Nat × Nat) :=
  ds.filterMap fun d => d.span.map fun p => (n, p.1, p.2)

/-- The instruction stays issued until it completes (R133, R155): its locks, what it writes, and its report. One with K = 0 reports an empty
product into Y's slot with or without OUT (R147, log entry 142). -/
def State.issueMatrix (s : State) (c x : Nat) (k : Work) (w : MmaWord) (m : Mma) (ds : List Desc) (counts : Counts) : State :=
  let named := if w.out then m.y else if mmaK w m = 0 then s.slotDesc k w.y else none
  let n := k.tenant
  let i : Issued :=
    { ctx := x, part := w.part, locks := lockRanges n ds,
      writes := (m.y.toList ++ m.tout.toList).filterMap Desc.span,
      slot := match named with
        | some d =>
          if d.j && decide (s.reg (Obj.slotFirst n) ≤ d.slot) && decide (d.slot < s.reg (Obj.slotFirst n) + s.reg (Obj.slotCount n))
          then some d.slot else none
        | none => none,
      step := k.stepOf, gradient := match named with | some d => d.g | none => false, counts := counts }
  s.modCore c fun v => { v with issued := v.issued ++ [i] }

/-- The accumulator values as output conversion takes them: an integer form's with the tensor scales (R138), but for an empty product written
anew, which reads no scale (R147). -/
def State.convRows (s : State) (k : Work) (w : MmaWord) (m : Mma) (rows : List (List Num)) : List (List Num) :=
  if m.intForm && (decide (mmaK w m ≠ 0) || w.acc) then rows.map fun r => r.map fun e => s.tensorScale k.tenant m.w (s.tensorScale k.tenant m.x e) else rows

/-- How Y is converted. -/
def State.outConv (s : State) (k : Work) (w : MmaWord) (y : Desc) : OutConv :=
  { fmt := y.fmt, block := y.block, next := s.nextScale k.tenant k.stepOf y, scaled := y.scalePtr != 0, sr := w.osr,
    seed := s.seedOf k.tenant k.stepOf, tensorId := y.tensorId }

/-- Write the tiles' final scales into TO (R152). -/
def State.putTileScales (s : State) (n osc : Nat) (tout : Option (Desc × VSel)) (scales : Sparse Nat) (tiles : List (Nat × Nat)) :
    State :=
  match tout with
  | none => s
  | some (d, v) =>
    (s.pokeAll n v (tiles.map fun t => (d.runOff t.1 + t.2, BitVec.ofNat 8 (Sparse.get osc (t.1 * 2 + t.2) scales)))).1

/-- Convert the accumulated rows into Y (R148 to R154). Where a tile ends in a fault, the tiles written before it stay written (R144, log
entry 25). The maximum counted is of the values before any raise (R154, R290). `empty` counts one empty product (R147). -/
def State.convertOut (s : State) (c x : Nat) (k : Work) (w : MmaWord) (streams : Bool) (o : MmaOps) (y : Desc × VSel)
    (rows : List (List Num)) (empty : Bool) (after : Counts → State → State) : State :=
  let N := match rows with | r :: _ => r.length | [] => 0
  let tiles := tilesOf rows.length N
  let r := tileLoop (s.outConv k w y.1) w.osc o.tout.isSome streams rows (3 * tiles.length) (windowsOf rows.length N) {}
  let s1 := s.addReg 64 (Obj.tileReplayCount c) r.replays
  let vals := (tileInputs r.scales w.osc rows).flatten
  let mode : ConvMode := ⟨w.osr, false, 1⟩
  if r.faults ≠ 0 then
    ((s1.storePart k.tenant k.stepOf y.1 y.2 mode vals fun i j => r.written.contains (i / 64, j / 32)).putTileScales k.tenant w.osc o.tout
      r.scales r.written).numericFault c x w.part r.faults
  else
    let mags := (tileInputs [] w.osc rows).flatten
    match s1.storeWith k.tenant k.stepOf y.1 y.2 mode 40 vals mags with
    | .done t n =>
      after { n with maxMag := mags.foldl (fun a v => fMax a (magF32 v)) 0, empty := b2n empty }
        (t.putTileScales k.tenant w.osc o.tout r.scales tiles)
    | .full => s1.partitionFault c x w.part .descriptor 0 false
    | .bad t => t.partitionFault c x w.part .poison (t.badWrite k.tenant y.1) true

/-- The descriptors a matrix word names; none where X or W is slot 0 (R161). TO is ignored without OUT, as is Y (R158). -/
def State.mmaDescs (s : State) (k : Work) (w : MmaWord) : Option Mma :=
  match s.slotDesc k w.x, s.slotDesc k w.w with
  | some x, some v =>
    some { x := x, w := v, y := if w.out then s.slotDesc k w.y else none, tout := if w.out then s.slotDesc k w.tout else none,
           tx := s.slotDesc k w.tx, tw := s.slotDesc k w.tw }
  | _, _ => none

/-- The operands a matrix instruction reads and writes. One with K = 0 reads no element and no scale (R147), but for the tensor scales of
an integer form that it converts as it stands (R138). -/
def Mma.asks (w : MmaWord) (m : Mma) : List OpAsk :=
  let none_ := mmaK w m = 0
  let data : Desc → OpAsk := fun d =>
    if none_ then { askRead d with reads := if w.acc && w.out && m.intForm && d.scalePtr != 0 then [offOf d.scalePtr + 4] else [] }
    else askRead d
  let scales : Desc → OpAsk := fun d => if none_ then { askRead d with reads := [] } else askRead d
  [data m.x, data m.w] ++ m.tx.toList.map scales ++ m.tw.toList.map scales ++ m.y.toList.map askWrite ++ m.tout.toList.map askWrite

/-- The prepared operands by name. -/
def Mma.named (m : Mma) (ds : List (Desc × VSel)) : Option MmaOps :=
  match ds with
  | x :: w :: rest =>
    let (tx, r1) := if m.tx.isSome then (rest.head?, rest.drop 1) else (none, rest)
    let (tw, r2) := if m.tw.isSome then (r1.head?, r1.drop 1) else (none, r1)
    let (y, r3) := if m.y.isSome then (r2.head?, r2.drop 1) else (none, r2)
    some { x := x, w := w, y := y, tout := if m.tout.isSome then r3.head? else none, tx := tx, tw := tw }
  | _ => none

/-- The descriptors of an instruction, for its locks. -/
def Mma.locked (m : Mma) : List Desc := [m.x, m.w] ++ m.tx.toList ++ m.tw.toList ++ m.y.toList ++ m.tout.toList

/-- The planes of a partition hold what the passes of an instruction loaded (R130), a first tile that was not preloaded counted (R162). -/
def State.loadPlanes (s : State) (c x : Nat) (k : Work) (w : MmaWord) (m : Mma) (o : MmaOps) : State :=
  let kp := passDepth m.x.fmt m.w.fmt ((s.core c).mode == 2)
  let K := mmaK w m
  (s.countMiss c w.part (ceilDiv K kp)).modCore c fun v => { v with
    planes := Sparse.set {} w.part ((Sparse.get {} w.part v.planes).after x (ceilDiv K kp)
      (s.weightTile k.tenant x w.wt o.w (mmaN w m) K kp)) v.planes }

/-- Run the passes of an instruction whose operands are prepared, then what the form does with the product (R130, R138, R144). One
with K = 0 and ACC leaves the rows' tags as they are (log entry 145). -/
def State.runProduct (s : State) (c x : Nat) (k : Work) (w : MmaWord) (m : Mma) (a : AccWin) (o : MmaOps)
    (finish : Product → State → State) : State :=
  let M := mmaM w m
  let N := mmaN w m
  let kp := passDepth m.x.fmt m.w.fmt (a.mode == 2)
  let s0 := s.loadPlanes c x k w m o
  let v := s0.core c
  if w.acc && v.rowsBad a M N then s0.partitionFault c x w.part .poison 0 false
  else
    match s0.mmaProduct c k w m a o (s0.mmaTensorId k w m) with
    | none => s0.partitionFault c x w.part .numeric 0 false
    | some p =>
      let touched := decide (mmaK w m ≠ 0) || !w.acc
      let core := if touched then p.core.tagRows a M N w.acc else v
      finish p ((s0.setCore c core).countPasses c w M (mmaK w m) N kp p.lost m.intForm)

/-- The partition serves another context, which holds work and is not faulted: the instruction waits for the partition to switch (R142,
R190). -/
def State.otherServed (s : State) (c x part : Nat) : Bool :=
  match (Sparse.get {} part (s.core c).planes).tag with
  | some y => y != x && (s.ctx c y).state != 0 && (s.ctx c y).state != 4
  | none => false

/-- An earlier write of the context to the ranges is still to be made (R156): by a matrix instruction that has not completed, or as the
result of a collective instance that is open. -/
def State.writesAhead (s : State) (c x : Nat) (k : Work) (ranges : List (Nat × Nat)) : Bool :=
  let meets : Nat × Nat → Bool := fun q => ranges.any fun r => overlaps q.1 q.2 r.1 r.2
  ((s.core c).issued.any fun i => i.ctx == x && i.writes.any meets) ||
  s.colls.insts.any fun i => !i.written && i.contribs.any fun p =>
    p.core == c && p.ctx == x && match (s.descOf k p.y).span with | some q => meets q | none => false

/-- A matrix instruction issues (R131, R143, R147, R156, R161, R190): it waits while a mode change is held, is checked, completes at once
where M or N is 0, waits while its partition serves another context or an earlier write of its context to its operands is to be made,
and else runs. `resident` forbids streaming; `yOk` is the form's demand on Y. -/
def State.startMatrix (s : State) (c x : Nat) (k : Work) (w : MmaWord) (resident : Bool) (yOk : Mma → Desc → Bool)
    (more : Mma → Bool) (run : Mma → AccWin → MmaOps → State → State) : State :=
  let v := s.core c
  let bad := s.partitionFault c x w.part .descriptor 0 false
  if !v.mmodeHeld.isEmpty then s.notYet c x
  else
    match s.mmaDescs k w with
    | none => bad
    | some m =>
      let y := s.ctx c x
      let out := windowRows m v.mode w.part y
      let M := mmaM w m
      let a := accWin w m v.mode y (!mmaResident w M out)
      if !mmaOk w m v.mode out resident (yOk m) || (w.acc && v.tagClash a M) || !more m then bad
      else if M = 0 ∨ mmaN w m = 0 then
        if m.locked.any fun d => s.descFault k.tenant d then bad else s
      else if s.otherServed c x w.part || s.writesAhead c x k (m.locked.filterMap Desc.span) then s.notYet c x
      else
        s.withOpsElse c x (engineId c 0) k (m.asks w) (fun e ad wr t => t.partitionFault c x w.part e ad wr) fun ds t =>
          match m.named ds with
          | some o => run m a o t
          | none => t

end Sys2Proof.Machine
end

