-- ==== Sys2Proof/Machine/Scalar.lean ====
section
/-!
DEFINITION. The scalar and control instructions (R373 to R377), kernels (R197) and instruction faults (R215, R216).
-/

namespace Sys2Proof.Machine

/-- An instruction fault of a context (R215, R374): uncorrected-contained against its scalar sequencer. -/
def State.instrFault (s : State) (c x : Nat) : State := s.faultCtx c x (engineId c 5) 6 8 0 0

/-- The second operand (R374): with flag I the immediate. -/
def operandTwo (w : ScalarWord) (y : Ctx) : Nat := if w.immFlag then w.imm else y.sreg w.sb

/-- SD = SA op second operand, modulo 2^64 (R374). -/
def State.arith (s : State) (c x : Nat) (w : ScalarWord) (f : Nat → Nat → Nat) : State :=
  let y := s.ctx c x
  s.setCtx c x (y.setSreg w.sd (f (y.sreg w.sa) (operandTwo w y)))

/-- An arithmetic instruction issues (R374). -/
def State.issueArith (s : State) (c x : Nat) (w : ScalarWord) (f : Nat → Nat → Nat) : State :=
  s.issue c x fun _ t => t.arith c x w f

/-- The stream goes on at a code offset (R374). -/
def State.jump (s : State) (c x target : Nat) : State := s.setCtx c x { s.ctx c x with ip := target }

/-- The arithmetic of R374: wraps modulo 2^64; shifts take the low 6 bits of the second operand. -/
def opAdd (a b : Nat) : Nat := (a + b) % 2 ^ 64
def opSub (a b : Nat) : Nat := (a + (2 ^ 64 - b % 2 ^ 64)) % 2 ^ 64
def opMul (a b : Nat) : Nat := a * b % 2 ^ 64
def opShl (a b : Nat) : Nat := a * 2 ^ (b % 64) % 2 ^ 64
def opShr (a b : Nat) : Nat := a / 2 ^ (b % 64)
def opSra (a b : Nat) : Nat := wrapInt 64 (signedOf 64 a / (2 ^ (b % 64) : Int))
def opSlt (a b : Nat) : Nat := b2n (decide (signedOf 64 a < signedOf 64 b))
def opSltu (a b : Nat) : Nat := b2n (decide (a < b))

/-- NOP (R374): nothing. -/
def execNop (core ctx : Nat) (_w : ScalarWord) (s : State) : Host.Outcome State Fault Refusal :=
  .next (s.issue core ctx fun _ t => t)

/-- WAIT (R376): on an outstanding token the context waits; on a done one its status goes to SD and the token is freed;
on a free one, and with TOKEN 0, SD is 0. -/
def execWait (core ctx : Nat) (w : ScalarWord) (s : State) : Host.Outcome State Fault Refusal :=
  .next (s.issue core ctx fun _ t =>
    let y := t.ctx core ctx
    match y.token w.token with
    | .outstanding => t.waitCtx core ctx (.token w.token w.sd)
    | .done st => t.setCtx core ctx ((y.setToken w.token .free).setSreg w.sd st)
    | .free => t.setCtx core ctx (y.setSreg w.sd 0))

/-- YIELD (R189, R374): the context waits. -/
def execYield (core ctx : Nat) (_w : ScalarWord) (s : State) : Host.Outcome State Fault Refusal :=
  .next (s.issue core ctx fun _ t => t.waitCtx core ctx .yielded)

/-- YIELD_TIMEOUT (R374): one microsecond after its YIELD a context that still waits is ready again. -/
def execYieldTimeout (core ctx : Nat) (s : State) : Host.Outcome State Fault Refusal :=
  let y := s.ctx core ctx
  .next (if y.state = 3 ∧ y.waits = .yielded then s.setCtx core ctx { y with state := 1, waits := .nothing } else s)

/-- Make a token outstanding (R376); none when it is not free. Token 0 is none. -/
def State.issueToken (s : State) (c x t : Nat) : Option State :=
  let y := s.ctx c x
  if t = 0 then some s
  else if y.token t = .free then some (s.setCtx c x (y.setToken t .outstanding))
  else none

/-- The thread groups of a context that run no block, in rising order. -/
def State.idleGroups (s : State) (c x : Nat) : List Nat :=
  (s.ctx c x).groups.filter fun g => !((s.core c).kernels.any fun k => k.groups.any fun p => p.1 == g)

/-- A thread's key: core, group and thread in the group (R196). -/
def threadKey (c g i : Nat) : Nat := (c * 64 + g) * 64 + i

/-- Start a block on a group (R198): v0 the thread's index, v1 the block index, v2 B; the other registers zero and the
predicate bits 1. -/
def State.startBlock (s : State) (c g block total : Nat) : State :=
  { s with threads := (List.range 64).foldl (fun m i =>
      let regs := [(0, i), (1, block), (2, total)].foldl (fun r p => Sparse.set 0 p.1 p.2 r) ([] : Sparse Nat)
      Sparse.set {} (threadKey c g i) { regs := regs } m) s.threads }

/-- Hand out a context's blocks in increasing index to its free groups (R197): oldest kernel first. -/
def State.handOut (s : State) (c x : Nat) : State :=
  (s.idleGroups c x).foldl (fun t g =>
    let core := t.core c
    let waiting : Kernel → Bool := fun k => k.ctx == x && decide (k.nextBlock < k.blocks)
    match core.kernels.find? waiting with
    | none => t
    | some k =>
      let k1 : Kernel := { k with groups := k.groups ++ [(g, k.nextBlock, k.start)], nextBlock := k.nextBlock + 1 }
      (t.setCore c { core with kernels := core.kernels.set (core.kernels.findIdx waiting) k1 }).startBlock c g k.nextBlock k.blocks) s

/-- VLAUNCH (R197, R376): the token is outstanding and the kernel's blocks are handed out; B = 0 completes at once; a
token that is not free is an instruction fault. -/
def execVlaunch (core ctx : Nat) (w : ScalarWord) (s : State) : Host.Outcome State Fault Refusal :=
  .next (s.issue core ctx fun _ t =>
    match t.issueToken core ctx w.token with
    | none => t.instrFault core ctx
    | some t1 =>
      if w.cnt = 0 then t1.finishToken core ctx w.token 0
      else
        let v := t1.core core
        let k : Kernel := { ctx := ctx, token := w.token, blocks := w.cnt, start := w.imm, nextBlock := 0, ended := 0,
                            groups := [] }
        (t1.setCore core { v with kernels := v.kernels ++ [k] }).handOut core ctx)

/-- Has a kernel's last block ended (R197)? -/
def Kernel.done (k : Kernel) : Bool := decide (k.blocks ≤ k.ended) && k.groups.isEmpty

/-- KERNEL_COMPLETE (R197, R376): once its last block has ended a kernel completes its token with status 0. -/
def execKernelComplete (core ctx token : Nat) (s : State) : Host.Outcome State Fault Refusal :=
  let v := s.core core
  match v.kernels.find? fun k => k.ctx == ctx && k.token == token && k.done with
  | none => .next s
  | some k => .next ((s.setCore core { v with kernels := v.kernels.erase k }).finishToken core ctx token 0)

/-- END (R377): the context issues nothing more and waits for all it issued. -/
def execEndWork (core ctx : Nat) (_w : ScalarWord) (s : State) : Host.Outcome State Fault Refusal :=
  .next (s.issue core ctx fun _ t => t.waitCtx core ctx .ending)

/-- PUBLISH (R374, R389): SA is kept for result word IMM[3:0] of the work's queue until the work completes; the later
PUBLISH to a word wins. -/
def execPublish (core ctx : Nat) (w : ScalarWord) (s : State) : Host.Outcome State Fault Refusal :=
  .next (s.issue core ctx fun _ t =>
    let y := t.ctx core ctx
    t.setCtx core ctx { y with
      published := (y.published.filter fun p => p.1 != w.imm % 16) ++ [(w.imm % 16, y.sreg w.sa)] })

/-- BR (R374). -/
def execBr (core ctx : Nat) (w : ScalarWord) (s : State) : Host.Outcome State Fault Refusal :=
  .next (s.issue core ctx fun _ t => t.jump core ctx w.imm)

/-- BRZ (R374): continue at IMM when SA is zero. -/
def execBrz (core ctx : Nat) (w : ScalarWord) (s : State) : Host.Outcome State Fault Refusal :=
  .next (s.issue core ctx fun _ t => if (t.ctx core ctx).sreg w.sa = 0 then t.jump core ctx w.imm else t)

/-- BRNZ (R374): continue at IMM when SA is not zero. -/
def execBrnz (core ctx : Nat) (w : ScalarWord) (s : State) : Host.Outcome State Fault Refusal :=
  .next (s.issue core ctx fun _ t => if (t.ctx core ctx).sreg w.sa = 0 then t else t.jump core ctx w.imm)

/-- SADD (R374): SD = SA + second operand. -/
def execSadd (core ctx : Nat) (w : ScalarWord) (s : State) : Host.Outcome State Fault Refusal :=
  .next (s.issueArith core ctx w opAdd)

/-- SSUB (R374): SD = SA − second operand. -/
def execSsub (core ctx : Nat) (w : ScalarWord) (s : State) : Host.Outcome State Fault Refusal :=
  .next (s.issueArith core ctx w opSub)

/-- SMUL (R374): SD = SA × second operand. -/
def execSmul (core ctx : Nat) (w : ScalarWord) (s : State) : Host.Outcome State Fault Refusal :=
  .next (s.issueArith core ctx w opMul)

/-- SAND (R374): SD = SA and second operand. -/
def execSand (core ctx : Nat) (w : ScalarWord) (s : State) : Host.Outcome State Fault Refusal :=
  .next (s.issueArith core ctx w (fun a b => a &&& b))

/-- SOR (R374): SD = SA or second operand. -/
def execSor (core ctx : Nat) (w : ScalarWord) (s : State) : Host.Outcome State Fault Refusal :=
  .next (s.issueArith core ctx w (fun a b => a ||| b))

/-- SXOR (R374): SD = SA exclusive-or second operand. -/
def execSxor (core ctx : Nat) (w : ScalarWord) (s : State) : Host.Outcome State Fault Refusal :=
  .next (s.issueArith core ctx w (fun a b => a ^^^ b))

/-- SSHL (R374): SD = SA shifted left. -/
def execSshl (core ctx : Nat) (w : ScalarWord) (s : State) : Host.Outcome State Fault Refusal :=
  .next (s.issueArith core ctx w opShl)

/-- SSHR (R374): SD = SA shifted right, logical. -/
def execSshr (core ctx : Nat) (w : ScalarWord) (s : State) : Host.Outcome State Fault Refusal :=
  .next (s.issueArith core ctx w opShr)

/-- SSRA (R374): SD = SA shifted right, arithmetic. -/
def execSsra (core ctx : Nat) (w : ScalarWord) (s : State) : Host.Outcome State Fault Refusal :=
  .next (s.issueArith core ctx w opSra)

/-- SSLT (R374): SD = 1 when SA is below the second operand, signed. -/
def execSslt (core ctx : Nat) (w : ScalarWord) (s : State) : Host.Outcome State Fault Refusal :=
  .next (s.issueArith core ctx w opSlt)

/-- SSLTU (R374): SD = 1 when SA is below the second operand, unsigned. -/
def execSsltu (core ctx : Nat) (w : ScalarWord) (s : State) : Host.Outcome State Fault Refusal :=
  .next (s.issueArith core ctx w opSltu)

/-- The opcodes of a context's stream that some chapter lists (R215, R251, R255, R340, R374, R512). -/
def listedOpcode (op : Nat) : Bool :=
  [0x000, 0x001, 0x002, 0x003, 0x004, 0x005, 0x008, 0x009, 0x00A].contains op ||
  (decide (0x010 ≤ op) && decide (op ≤ 0x01A)) || (decide (0x040 ≤ op) && decide (op ≤ 0x042)) ||
  (decide (0x048 ≤ op) && decide (op ≤ 0x04D)) || op == 0x080 || op == 0x081 || (decide (0x088 ≤ op) && decide (op ≤ 0x08C)) ||
  (decide (0x090 ≤ op) && decide (op ≤ 0x095)) || (decide (0x200 ≤ op) && decide (op ≤ 0x204)) ||
  (decide (0x220 ≤ op) && decide (op ≤ 0x222)) || op == 0x230

/-- RESERVED_OPCODE (R215, R216, R374): a word whose opcode lies in no group, is unlisted in its group, or is of the other
stream is an instruction fault of the context. A listed opcode of its own stream is none of these, and the event does not
occur (log entry 11). -/
def execReservedOpcode (core ctx op : Nat) (inKernel : Bool) (s : State) : Host.Outcome State Fault Refusal :=
  let thread : Bool := decide (0x100 ≤ op) && decide (op ≤ 0x1FF)
  if inKernel then
    if thread then .next s
    else if (s.core core).kernels.any fun k => k.ctx == ctx && !k.groups.isEmpty then .next (s.instrFault core ctx)
    else .next s
  else if listedOpcode op then .next s
  else .next (s.issue core ctx fun _ t => t.instrFault core ctx)

end Sys2Proof.Machine
end

