-- ==== Sys2Proof/Machine/Fused.lean ====
section
/-!
DEFINITION. The instructions that start collectives: the fused matrix forms (R510, R511) and the copies with collective (R512), with
the faults of R513.
-/

namespace Sys2Proof.Machine

/-! Settling an instance -/

/-- Run the product of a fused all-gather once its input is whole (R510). -/
def State.runGathered (s : State) (p : Contrib) : State :=
  match p.word, s.ctxWork p.core p.ctx with
  | some w, some (_, k) =>
    let c := p.core
    let x := p.ctx
    match s.mmaDescs k w with
    | none => s
    | some m =>
      match s.prepAll k.asker (engineId c 0) (m.asks w) with
      | .ready ds t =>
        match m.named ds with
        | some o =>
          let a := accWin w m (t.core c).mode (t.ctx c x) false
          t.runProduct c x k w m a o fun q v =>
            match o.y with
            | none => v
            | some y => v.convertOut c x k w false o y (v.convRows k w m q.rows) (mmaK w m == 0) fun n u => u.issueMatrix c x k w m m.locked n
        | none => t
      | .fault e ad wr t => (s.afterFault e t).partitionFault c x w.part e ad wr
      | .wait _ t => t
  | _, _ => s

/-- What follows once everything is on this member, and no lock and no move holds the tensors (R155, R326): the result is written, and a fused all-gather's products run. -/
def State.finishWhole (s : State) (i : Inst) : State :=
  s.withInst i fun j =>
    if j.whole && !s.resultHeld j then
      let s1 := s.writeResult j
      if j.form = .allGather && j.fused then j.contribs.foldl (fun t p => t.runGathered p) s1 else s1
    else s

/-- After anything that changes an instance: retries (R527), chunks that leave the rings (R518), the final write. -/
def State.settleInst (s : State) (i : Inst) : State :=
  (((s.retryMarked i).retryMarked i).leaveRings i).finishWhole i

/-- A core's contribution joins its instance (R509): its token is outstanding (R376), the use is counted, ranges are locked (R514), and runs that waited are applied
(R522). -/
def State.joinInst (s : State) (i : Inst) (p : Contrib) (locks : List (Nat × Nat)) : State :=
  let j : Inst := { i with contribs := putContrib p i.contribs, locks := i.locks ++ locks }
  let new := (s.inst? i).isNone
  let y := s.ctx p.core p.ctx
  let s0 := s.setCtx p.core p.ctx (y.setToken i.token .outstanding)
  let s1 : State := { s0 with colls := { s0.colls with
    insts := if new then s.colls.insts ++ [j] else s.colls.insts.map fun q => if q.same i then j else q,
    uses := s.colls.uses ++ [(i.n, i.plan, i.step, p.core)],
    areas := if new then Sparse.set 0 (i.n * 1024 + i.plan) i.buffers s.colls.areas else s.colls.areas } }
  let s2 := if new then
      let a := match i.record with
        | some off => s1.setTenant i.n ((s1.tenant i.n).modStep i.step fun q =>
            if q.exchRecs.contains off then q else { q with exchRecs := q.exchRecs ++ [off] })
        | none => s1
      if i.form != .allReduce && (a.watchGroup i.n i.plan).isSome then a.count 32 Obj.sketchSkipCount else a
    else s1
  let s3 := s2.withInst j fun q => if q.allIn then s2.readyNow q else s2
  let s4 := if s3.held i.n then s3 else s3.drainRuns j
  s4.settleInst j

/-! Copies with collective -/

/-- Extents a copy form needs of Y for its X (R513). -/
def copyShape (form : CollForm) (x y : Desc) (size : Nat) : Bool :=
  match form with
  | .allReduce => x.sameShape y
  | .broadcast => x.sameShape y
  | .reduceScatter => decide (x.count % size = 0) && y.count == x.count / size
  | .allGather => y.count == size * x.count
  | .allToAll => y.e0 == x.e0
  | _ => true

/-- What a copy form brings (R512). -/
def copyAsk (form : CollForm) (x y : Desc) (size : Nat) : CollAsk :=
  { form := form, fused := false, elems := if form = .allGather then size * x.count else x.count, rowLen := x.e0, fmt := y.fmt }

/-- The members of a plan's reduce group. -/
def State.planSize (s : State) (n : Nat) (pl : CollPlan) : Nat :=
  match s.groupOf n pl.reduceGroup with
  | some (a, b, _) => a.n * b.n
  | none => 1

/-- A copy with collective issues (R512 to R514): X is the source, but for a receive, which has none. -/
def State.startCopy (s : State) (c x : Nat) (k : Work) (w : CcWord) (form : CollForm) : State :=
  let pl := s.planOf k.tenant w.cp
  let u := agentUnit c
  let bad := s.descriptorFault c x u 0
  match s.slotDesc k (if form = .receive then w.y else w.x), s.slotDesc k w.y with
  | some xd, some yd =>
    let a := copyAsk form xd yd (s.planSize k.tenant pl)
    if s.planBad c k w.cp pl || !collFormats pl (if form = .receive then [yd.fmt] else [xd.fmt, yd.fmt]) ||
        (form != .receive && xd.meets yd) then bad
    else
      match s.instFor c k w.cp pl a with
      | none => bad
      | some i =>
        if !copyShape form xd yd i.size || !s.planFits k pl a xd.runs i then bad
        else
          match s.exchFault k pl with
          | some f => s.opFault c x u 0 f 0 false
          | none =>
            s.withOps c x u 0 k ((if form = .receive then [] else [askRead xd]) ++ [askWrite yd] ++ s.planAsks k pl form) fun ds t =>
              match (if form = .allToAll then t.routeOf k pl xd.runs i.size else some []) with
              | none => t.opFault c x u 0 .address (t.globalAddr (offOf xd.address)) false
              | some route =>
                if (t.ctx c x).token i.token ≠ .free then t.instrFault c x
                else
                  let vals := if form = .receive then [] else
                    match ds with
                    | (d, v) :: _ => t.exactValues k.tenant v d
                    | [] => []
                  let spans := ((ds.map (·.1)).filterMap Desc.span)
                  t.joinInst i { core := c, ctx := x, x := w.x, y := w.y, sr := w.sr, ovf := w.ovf, word := none, vals := vals,
                                  route := route } spans
  | _, _ => bad

/-- CC_AR. -/
def execCcAr (core ctx : Nat) (w : CcWord) (s : State) : Host.Outcome State Fault Refusal :=
  .next (s.issue core ctx fun k t => t.startCopy core ctx k w .allReduce)

/-- CC_RS. -/
def execCcRs (core ctx : Nat) (w : CcWord) (s : State) : Host.Outcome State Fault Refusal :=
  .next (s.issue core ctx fun k t => t.startCopy core ctx k w .reduceScatter)

/-- CC_AG. -/
def execCcAg (core ctx : Nat) (w : CcWord) (s : State) : Host.Outcome State Fault Refusal :=
  .next (s.issue core ctx fun k t => t.startCopy core ctx k w .allGather)

/-- CC_A2A. -/
def execCcA2a (core ctx : Nat) (w : CcWord) (s : State) : Host.Outcome State Fault Refusal :=
  .next (s.issue core ctx fun k t => t.startCopy core ctx k w .allToAll)

/-- CC_BCAST. -/
def execCcBcast (core ctx : Nat) (w : CcWord) (s : State) : Host.Outcome State Fault Refusal :=
  .next (s.issue core ctx fun k t => t.startCopy core ctx k w .broadcast)

/-- CC_RECV (R532). -/
def execCcRecv (core ctx : Nat) (w : CcWord) (s : State) : Host.Outcome State Fault Refusal :=
  .next (s.issue core ctx fun k t => t.startCopy core ctx k w .receive)

/-! Fused forms -/

/-- Extents of Y and the count of rows that a fused form needs (R510, R513). -/
def fusedShape (form : CollForm) (w : MmaWord) (m : Mma) (y : Desc) (size : Nat) : Bool :=
  let M := mmaM w m
  let N := mmaN w m
  match form with
  | .reduceScatter => decide (M % size = 0) && y.e0 == N && y.e1 == M / size
  | .allGather => decide (M % size = 0) && y.e0 == N && y.e1 == M
  | .allReduce => y.e0 == N && y.e1 == M && nativeFmt y.fmt
  | .allToAll => y.e0 == N
  | _ => y.e0 == N && y.e1 == M

/-- What a fused form brings (R510). -/
def fusedAsk (form : CollForm) (w : MmaWord) (m : Mma) (y : Desc) : CollAsk :=
  { form := form, fused := true, elems := if form = .allGather then m.x.count else mmaM w m * mmaN w m,
    rowLen := mmaN w m, fmt := if form = .allGather then m.x.fmt else y.fmt }

/-- The values a fused form contributes (R511): each accumulator value × 2^(127 − OSC), in a native exchange converted into Y's
format; none where one overflows. -/
def State.fusedVals (s : State) (k : Work) (w : MmaWord) (y : Desc) (native : Bool) (rows : List (List Num)) : Option (List Num) :=
  let vals := rows.map fun r => r.map fun e => e.scale (127 - (w.osc : Int))
  if !native then some vals.flatten
  else
    let es := ((List.range vals.length).zip vals).flatMap fun p => ((List.range p.2.length).zip p.2).map fun q =>
      convertElem y.fmt (rndOf w.osr (s.seedOf k.tenant k.stepOf) 1 y.tensorId p.1 q.1 0) false q.2
    if es.any fun e => e.2 = .saturated then none else some (es.map fun e => decodeElem y.fmt e.1)

/-- Prepare the plan's tensors of a fused form, check that its token is free (R376), and go on (R513). -/
def State.withPlan (s : State) (c x : Nat) (k : Work) (w : MmaWord) (pl : CollPlan) (form : CollForm) (extra : List OpAsk)
    (go : List (Nat × Nat) → State → State) : State :=
  match s.exchFault k pl with
  | some f => s.partitionFault c x w.part f 0 false
  | none =>
    s.withOpsElse c x (engineId c 0) k (extra ++ s.planAsks k pl form) (fun e ad wr t => t.partitionFault c x w.part e ad wr)
      fun ds t =>
        if (t.ctx c x).token pl.token ≠ .free then t.instrFault c x else go ((ds.map (·.1)).filterMap Desc.span) t

/-- What a fused form demands beside an MMA's checks (R512, R513). -/
def State.fusedFits (s : State) (c : Nat) (k : Work) (w : MmaWord) (form : CollForm) (y : Desc) (m : Mma) : Bool :=
  let pl := s.planOf k.tenant w.cp
  w.out && (w.tout == 0 || form == .allGather) && !s.planBad c k w.cp pl && collFormats pl [m.x.fmt, y.fmt] && flat2 y &&
  (form != .send || !s.descFault k.tenant y) &&
  match s.instFor c k w.cp pl (fusedAsk form w m y) with
  | none => false
  | some i => fusedShape form w m y i.size && s.planFits k pl (fusedAsk form w m y) (mmaM w m) i

/-- A fused form issues (R510 to R514): OUT set, resident, TO 0 but for the all-gather, with the faults of R513; its contribution
joins its instance, and an all-gather's product runs once its input is whole. -/
def State.startFused (s : State) (c x : Nat) (k : Work) (w : MmaWord) (form : CollForm) : State :=
  let pl := s.planOf k.tenant w.cp
  let quiet : MmaWord := { w with out := false }
  match s.slotDesc k w.y with
  | none => s.partitionFault c x w.part .descriptor 0 false
  | some y =>
    s.startMatrix c x k (if form = .send then quiet else w) true (fun _ _ => true) (s.fusedFits c k w form y) fun m a o t =>
      let ask := fusedAsk form w m y
      match t.instFor c k w.cp pl ask with
      | none => t
      | some i =>
        t.withPlan c x k w pl form (if form = .allGather then [askWrite m.x] else []) fun spans u =>
          let locks := (if form = .allGather then m.locked.filterMap Desc.span else []) ++ y.span.toList ++ spans
          let base : Contrib := { core := c, ctx := x, x := w.x, y := w.y, sr := w.osr, ovf := false, word := none, vals := [],
                                  route := [] }
          if form = .allGather then
            let all := u.exactValues k.tenant o.x.2 o.x.1
            let part := all.length / i.size
            u.joinInst i { base with word := some w, vals := (all.drop (i.rank * part)).take part } locks
          else
            match (if form = .allToAll then u.routeOf k pl (mmaM w m) i.size
                else some (List.replicate (mmaM w m) ((i.rank + 1) % i.size))) with
            | none => u.partitionFault c x w.part .address (u.globalAddr (offOf m.x.address)) false
            | some route =>
              u.runProduct c x k w m a o fun p v =>
                match v.fusedVals k w y i.native (v.convRows k w m p.rows) with
                | none => v.numericFault c x w.part 1
                | some vals =>
                  (v.issueMatrix c x k quiet m m.locked { noCounts with empty := b2n (mmaK w m == 0) }).joinInst i
                    { base with vals := vals, route := route } locks

/-- MMA_RS. -/
def execMmaRs (core ctx : Nat) (w : MmaWord) (s : State) : Host.Outcome State Fault Refusal :=
  .next (s.issue core ctx fun k t => t.startFused core ctx k w .reduceScatter)

/-- MMA_AG. -/
def execMmaAg (core ctx : Nat) (w : MmaWord) (s : State) : Host.Outcome State Fault Refusal :=
  .next (s.issue core ctx fun k t => t.startFused core ctx k w .allGather)

/-- MMA_AR. -/
def execMmaAr (core ctx : Nat) (w : MmaWord) (s : State) : Host.Outcome State Fault Refusal :=
  .next (s.issue core ctx fun k t => t.startFused core ctx k w .allReduce)

/-- MMA_A2A. -/
def execMmaA2a (core ctx : Nat) (w : MmaWord) (s : State) : Host.Outcome State Fault Refusal :=
  .next (s.issue core ctx fun k t => t.startFused core ctx k w .allToAll)

/-- MMA_SEND (R532). -/
def execMmaSend (core ctx : Nat) (w : MmaWord) (s : State) : Host.Outcome State Fault Refusal :=
  .next (s.issue core ctx fun k t => t.startFused core ctx k w .send)

end Sys2Proof.Machine
end

