-- ==== Sys2Proof/Machine/Auth.lean ====
section
/-!
DEFINITION. The authentication of messages of open sessions (R662, R663) and the replies sent again (R663).
-/

namespace Sys2Proof.Machine

/-- GDP is served once Ethernet is up and firmware runs (R682, R689): stages 2 and 6 ended in BOOT, or any state but OFF,
BOOT and HALTED. -/
def State.gdpUp (s : State) : Bool :=
  match s.device with
  | 0 => false
  | 8 => false
  | 1 => s.dev.stages.contains 6 && s.dev.stages.contains 2
  | _ => true

/-- What authenticating a message answers: it is applied for a session, it is a duplicate, or it is dropped. -/
inductive AuthRes where
  | fresh (s : State) (x : Session)
  | settled (s : State)

/-- A drop without an answer is counted (R663). -/
def State.authFail (s : State) : State := s.count 32 Obj.authFailCount

/-- Check a message's session, tag and sequence (R662, R663): a message of no session, with a bad tag, or 1,024 or more below
the highest is dropped and counted; a duplicate gets its reply again and is not applied. -/
def State.authenticate (s : State) (e : Envelope) (message : List Byte) : AuthRes :=
  if !s.gdpUp then .settled s
  else
    match s.session? e.session with
    | none => .settled s.authFail
    | some x =>
      if e.tag ≠ tagOf x.key e.sequence message ∨ e.sequence + 1024 ≤ x.highest then .settled s.authFail
      else if x.seen.contains e.sequence then
        match x.replies.find? fun r => r.1 == e.sequence with
        | some r => .settled (s.sendControl e.net e.peer r.2)
        | none => .settled s
      else
        let hi := max x.highest e.sequence
        let x1 : Session := { x with
          highest := hi, seen := (e.sequence :: x.seen).filter (fun q => decide (hi < q + 1024)), lastHeard := s.up,
          net := e.net, peer := e.peer }
        .fresh (s.setSession x1) x1

/-- Check a GDP message (R653): one of another version than 1 is dropped. -/
def State.gdpAuth (s : State) (e : Envelope) (kind flags items : Nat) (body : List Byte) : AuthRes :=
  if e.version ≠ 1 then .settled s else s.authenticate e (gdpMessage e.version kind flags 0 e.session e.requestId items body)

/-- Send an answer to a message, and keep it for the message's sequence: the 64 most recent (R663). -/
def State.answerWith (s : State) (e : Envelope) (m : Msg) : State :=
  match s.session? e.session with
  | none => s.sendControl e.net e.peer m
  | some x =>
    (s.setSession { x with replies := ((e.sequence, x.sign m) :: x.replies).take 64, nextSend := x.nextSend + 1 }).sendControl e.net
      e.peer (x.sign m)

/-- Answer a request of some kind and number of items (R653, R654). -/
def State.answer (s : State) (e : Envelope) (kind items status : Nat) (body : List Byte) : State :=
  s.answerWith e (.reply e.session e.requestId kind items status body)

/-- A session ends (R657, R661, R664): with it its subscriptions and its open segmented writes. -/
def State.endSession (s : State) (id : Nat) : State := { s with sessions := s.sessions.filter fun x => x.id != id }

end Sys2Proof.Machine
end

