-- ==== Sys2Proof/Machine/Queues.lean ====
section
/-!
DEFINITION. Work queues (R379 to R393, R399 to R401): doorbells, Dispatch, acceptance, placement, completions and the
queue's configuration.
-/

namespace Sys2Proof.Machine

/-- The queue is active (R401): its mode is Dispatch or doorbell, its tenant is admitted, it is not in error. -/
def State.queueActive (s : State) (q : Nat) : Bool :=
  let v := s.queue q
  v.mode != 0 && !v.error && (match s.tenantOfQueue q with | some n => (s.tenant n).state == 1 | none => false)

/-- A submission the queue cannot take (R379). -/
def State.wrongMode (s : State) (q : Nat) : State :=
  let v := s.queue q
  s.setQueue q { v with wrongMode := (v.wrongMode + 1) % 2 ^ 16 }

/-- A queue error (R382, R393). -/
def State.queueError (s : State) (q : Nat) : State :=
  let v := s.queue q
  s.setQueue q { v with errorCount := (v.errorCount + 1) % 2 ^ 16 }

/-- The 1 KiB slot of submission index i, as the window holds it (R380, R381). -/
def Queue.slotBytes (v : Queue) (i : Nat) : List Byte :=
  (List.range 576).map fun j => BitVec.ofNat 8 (Sparse.get 0 ((i % v.submitDepth) * 0x400 + j) v.window)

/-- Accept a descriptor (R372, R382, R390): it reserves a completion entry and its result fences begin; a malformed one
completes with status 3 without running. -/
def State.accept (s : State) (n q index : Nat) (bs : List Byte) : State :=
  let k := readWork n q index bs
  let v := s.queue q
  let s1 := s.setQueue q { v with accepted := (v.accepted + 1) % 2 ^ 32, reserved := v.reserved + 1 }
  let (w, s2) := s1.fresh
  let s3 := s2.setWork w k
  if s3.refuses k bs then s3.endWork w k 3 0 else s3

/-- Accept the next posted descriptor when a completion entry can be reserved (R382, R390). -/
def State.acceptNext (s : State) (q : Nat) : State :=
  let v := s.queue q
  match s.tenantOfQueue q with
  | none => s
  | some n =>
    if s.queueActive q && v.accepted != v.posted && decide (v.reserved < v.completionDepth) then
      s.accept n q v.accepted (v.slotBytes v.accepted)
    else s

/-- Accept up to k posted descriptors. -/
def State.acceptMany (q : Nat) : Nat → State → State
  | 0, s => s
  | k + 1, s => State.acceptMany q k (s.acceptNext q)

/-- TAIL_DOORBELL (R379, R382): ignored and counted at a queue that is not an active doorbell queue; an older or
duplicate tail is ignored; a tail within the ring posts descriptors, which are accepted in order; one beyond it puts the
queue in error. -/
def execTailDoorbell (q tail : Nat) (s : State) : Host.Outcome State Fault Refusal :=
  let v := s.queue q
  let t := tail % 2 ^ 32
  if !s.queueActive q || v.mode == 1 then .next (s.wrongMode q)
  else if (t + 2 ^ 32 - v.posted) % 2 ^ 32 = 0 ∨ 2 ^ 31 ≤ (t + 2 ^ 32 - v.posted) % 2 ^ 32 then .next s
  else if (t + 2 ^ 32 - v.consumed) % 2 ^ 32 ≤ v.submitDepth then
    .next (State.acceptMany q v.submitDepth (s.setQueue q { v with posted := t }))
  else .next ((s.setQueue q { v with error := true }).queueError q)

/-- DESCRIPTOR_ACCEPT (R382). -/
def execDescriptorAccept (q : Nat) (s : State) : Host.Outcome State Fault Refusal :=
  .next (if (s.queue q).mode = 2 then s.acceptNext q else s)

/-- The acknowledgement's status for an index (R384). -/
def State.dispatchStatus (s : State) (q index : Nat) : Nat :=
  let v := s.queue q
  let d := (index + 2 ^ 32 - v.accepted) % 2 ^ 32
  if !s.queueActive q || v.mode == 2 then 4
  else if d = 0 then
    if (v.accepted + 2 ^ 32 - v.consumed) % 2 ^ 32 < v.submitDepth ∧ v.reserved < v.completionDepth then 0 else 3
  else if 2 ^ 31 ≤ d then 1
  else 2

/-- An acknowledgement goes out by the network of its Dispatch, and is kept for duplicates (R384, R663). -/
def State.dispatchAck (s : State) (e : Envelope) (q index status : Nat) : State :=
  s.answerWith e (.dispatchAck e.session q index status)

/-- DISPATCH (R383, R384): dropped when it does not authenticate; without rights it is answered with status 0 and the
index plus one and not applied; otherwise it is answered with its status and accepted with status 0. -/
def execDispatch (e : Envelope) (q index : Nat) (desc : List Byte) (s : State) : Host.Outcome State Fault Refusal :=
  match s.authenticate e (dispatchHead 1 q index e.session 0 ++ desc) with
  | .settled t => .next t
  | .fresh t x =>
    if !t.canWrite x ⟨Obj.queueConfig q / 256, Obj.queueConfig q % 256⟩ then
      .next ((t.violate x.id).dispatchAck e q ((index + 1) % 2 ^ 32) 0)
    else
      let st := t.dispatchStatus q index
      if st = 0 then
        match t.tenantOfQueue q with
        | some n =>
          let t1 := t.accept n q index desc
          .next ((t1.setQueue q { t1.queue q with posted := (t1.queue q).accepted }).dispatchAck e q
            (t1.queue q).accepted 0)
        | none => .next t
      else if st = 4 then .next ((t.wrongMode q).dispatchAck e q (t.queue q).accepted 4)
      else .next (t.dispatchAck e q (t.queue q).accepted st)

/-- DESCRIPTOR_PLACE (R385 to R387, R567): the queue's head descriptor is placed when its conditions hold. -/
def execDescriptorPlace (q : Nat) (s : State) : Host.Outcome State Fault Refusal := .next (s.placeHead q)

/-- The 32 bytes of a completion entry (R391). -/
def Completion.bytes (c : Completion) : List Byte :=
  toBytes 8 c.sequence ++ toBytes 8 c.userTag ++ toBytes 8 c.step ++ toBytes 1 c.status ++ toBytes 1 c.ctx ++
  toBytes 2 c.core ++ toBytes 4 c.detail

/-- What completion_pull reads: the oldest unconsumed entry, or an entry with sequence 0 (R392). -/
def Queue.pullBytes (v : Queue) : List Byte :=
  match v.ring with
  | c :: _ => c.bytes
  | [] => List.replicate 32 0

/-- COMPLETION_PULL (R392): the oldest unconsumed entry is returned; nothing is consumed. -/
def execCompletionPull (sess q : Nat) (s : State) : Host.Outcome State Fault Refusal :=
  match s.session? sess with
  | none => .next s
  | some x =>
    if s.canRead x ⟨Obj.completionPull q / 256, Obj.completionPull q % 256⟩ then
      .next (s.sendSession sess x.net x.peer (.reply sess 0 1 1 0 (s.queue q).pullBytes))
    else .next ((s.violate sess).sendSession sess x.net x.peer (.reply sess 0 1 1 0 (List.replicate 32 0)))

/-- Advance the consumed head (R393): a value below it is ignored; one above the last sequence is counted as an error. -/
def State.advanceHead (s : State) (q v : Nat) : State :=
  let u := s.queue q
  if v ≤ u.head then s
  else if u.lastSequence < v then s.queueError q
  else s.setQueue q { u with head := v, ring := u.ring.filter (fun c => decide (v < c.sequence)),
                             reserved := u.reserved - (v - u.head) }

/-- COMPLETION_HEAD (R393). -/
def execCompletionHead (q sequence : Nat) (s : State) : Host.Outcome State Fault Refusal := .next (s.advanceHead q sequence)

/-- Disable a queue (R382): accepted, unplaced descriptors complete with status 4; posted ones are discarded. -/
def State.disableQueue (s : State) (q : Nat) : State :=
  let s1 := s.endWorks (fun k => k.queue == q && k.phase == 1) 4 false
  let v := s1.queue q
  s1.setQueue q { v with mode := 0, posted := v.accepted, error := false }

/-- The record of queue_config is well formed (R400). -/
def queueConfigOk (bs : List Byte) : Bool :=
  let sd := field bs 2 2
  let cd := field bs 4 2
  bits (field bs 0 1) 0 2 != 3 && decide (8 ≤ sd) && decide (sd ≤ 256) && sd == 2 ^ Nat.log2 sd &&
  decide (16 ≤ cd) && decide (cd ≤ 4096) && cd == 2 ^ Nat.log2 cd

/-- Does the queue hold accepted or placed descriptors (R400)? -/
def State.queueBusy (s : State) (q : Nat) : Bool := s.works.any fun p => p.2.queue == q

/-- Write queue_config (R379, R400): a busy queue takes only the change to disabled; a write that turns the queue on
starts its sequence numbers anew (R391). -/
def State.writeQueueConfig (s : State) (q : Nat) (bs : List Byte) : State :=
  if !queueConfigOk bs then s
  else
    let mode := bits (field bs 0 1) 0 2
    if s.queueBusy q then if mode = 0 then s.disableQueue q else s
    else
      let s0 := if mode = 0 then s.disableQueue q else s
      let v := s0.queue q
      let v1 : Queue := { v with
        mode := mode, pull := bit (field bs 0 1) 2, submitDepth := field bs 2 2, completionDepth := field bs 4 2,
        cqAddress := field bs 8 8, cqRkey := field bs 0x10 4, cqQp := field bs 0x14 3 }
      if v.mode = 0 ∧ mode ≠ 0 then
        s0.setQueue q { v1 with lastSequence := 0, head := 0, ring := [], reserved := 0, error := false }
      else s0.setQueue q v1

/-- QUEUE_ENABLE (R400): a write of queue_config. -/
def execQueueEnable (sess q : Nat) (config : List Byte) (s : State) : Host.Outcome State Fault Refusal :=
  .next (s.guarded sess (Obj.queueConfig q / 256) (Obj.queueConfig q % 256) fun t => t.writeQueueConfig q config)

/-- QUEUE_DISABLE (R382, R400): a write of queue_config with mode 0. -/
def execQueueDisable (sess q : Nat) (s : State) : Host.Outcome State Fault Refusal :=
  .next (s.guarded sess (Obj.queueConfig q / 256) (Obj.queueConfig q % 256) fun t => t.disableQueue q)

/-- WORK_COMPLETE (R377, R394): the work on a context that has reached its end, or is faulted, completes once everything
it issued has ended. -/
def execWorkComplete (core ctx : Nat) (s : State) : Host.Outcome State Fault Refusal :=
  let y := s.ctx core ctx
  if !s.quiet core ctx then .next s
  else if y.state = 4 then .next (s.endOnCtx core ctx 1)
  else if y.state = 3 ∧ y.waits = .ending then .next (s.endOnCtx core ctx 0)
  else .next s

/-- WORK_ABORT_COMPLETE (R388): the completion of stopped work is written once everything it issued has ended. -/
def execWorkAbortComplete (work : Nat) (s : State) : Host.Outcome State Fault Refusal :=
  match s.work? work with
  | none => .next s
  | some k =>
    match (s.ctx k.core k.ctx).stopping with
    | some st => if s.quiet k.core k.ctx ∧ k.phase = 2 then .next (s.endOnCtx k.core k.ctx st) else .next s
    | none => .next s

/-- COMPLETION_DELAY_END (R633): a completion held back is written and its fences lift. -/
def execCompletionDelayEnd (work : Nat) (s : State) : Host.Outcome State Fault Refusal :=
  match s.work? work with
  | some k => if k.phase = 3 then .next (s.writeCompletion work k) else .next s
  | none => .next s

end Sys2Proof.Machine
end

