-- ==== Sys2Proof/Machine/Host.lean ====
section
/-!
DEFINITION. Host accesses to memory (R381, R395, R396, R671, R716, R717): RDMA and the tensor window, what they may not touch and what
that counts, and the writes that wait on a lock or a move.
-/

namespace Sys2Proof.Machine

/-- A host write waits on a lock of R155 or a move of R326 (R671, R717). -/
def State.hostWaits (s : State) (n off len : Nat) : Bool :=
  len != 0 && (s.locked n off (off + len - 1) || s.movingAt n off (off + len - 1) .plain)

/-- What a host access met (R671, R716): bytes no entry covers, a fence, a poisoned line, a sealed replay slot (R585), an image
(R369). -/
structure Met where
  unresolved : Bool
  fenced : Bool
  poisoned : Bool
  sealed : Bool
  image : Bool
  deriving DecidableEq, Repr

/-- How many cases that is. -/
def Met.cases (m : Met) : Nat := b2n m.unresolved + b2n m.fenced + b2n m.poisoned + b2n m.sealed + b2n m.image

/-- The entry of an offset is an image (R369). -/
def State.imageAt (s : State) (n off : Nat) : Bool :=
  match s.findEntry n off .plain with
  | some (_, e) => e.image
  | none => false

/-- The offset lies in no entry of the tenant itself: a host write there is not applied (R319, R671). -/
def State.notOwn (s : State) (n off : Nat) : Bool :=
  match s.findEntry n off .plain with
  | some (_, e) => e.tenant != n
  | none => true

/-- A host read (R350, R396, R671, R716): waiting injections and uncorrectable errors are met and reported (R633, R622); fenced,
poisoned and unresolved bytes read as zeros. -/
def State.hostRead (s : State) (n off len master access : Nat) : List Byte × Met × State :=
  let open_ := ((List.range len).map fun i => off + i).filter fun o => !s.fencedAt n o
  let s1 := s.meetInjections n open_ .plain master access
  (s1.hostBytes n off len,
    { unresolved := anyOffset off len fun o => (s1.findEntry n o .plain).isNone, fenced := anyOffset off len fun o => s1.fencedAt n o,
      poisoned := open_.any fun o => s1.lineBad n o .plain, sealed := false, image := false }, s1)

/-- A host write (R350, R369, R396, R585, R671, R716): what it may not touch stays as it is. -/
def State.hostWrite (s : State) (n off : Nat) (data : List Byte) : Met × State :=
  let (s1, part) := s.hostStore n off data
  let len := data.length
  ({ unresolved := anyOffset off len fun o => s.notOwn n o, fenced := anyOffset off len fun o => s.fencedAt n o, poisoned := part,
     sealed := anyOffset off len fun o => s.sealedAt n o, image := anyOffset off len fun o => s.imageAt n o }, s1)

/-! RDMA (R716, R717, R702, R381) -/

/-- The identifier of an Ethernet port (R29). -/
def ethUnit (port : Nat) : Nat := unitId (8 + port / 2) 4 (port % 2)

/-- What an RDMA key names for a tenant that is not free (R397, R716): its tensor space, or its queue windows. -/
inductive KeyKind where
  | tensor
  | window
  | foreign
  deriving DecidableEq, Repr

/-- Look a key up. -/
def State.keyKind (s : State) (n rkey : Nat) : KeyKind :=
  if (s.tenant n).state = 0 then .foreign
  else if rkey = s.reg (Obj.tensorRkey n) then .tensor
  else if rkey = s.reg (Obj.queueWindowRkey n) then .window
  else .foreign

/-- An access with a key of an earlier admission is counted at the tenant that now holds the index (R702). -/
def State.countOldKey (s : State) (rkey : Nat) : State :=
  match s.eth.oldKeys.find? fun p => p.2 = rkey with
  | some p => s.accessViolation p.1
  | none => s

/-- A negative acknowledgement, after which the queue pair is in error (R716). -/
def State.refuseRdma (s : State) (i psn code : Nat) : State :=
  (s.sendRdma i (.roceNak (s.qp i).port i psn code)).qpFail i

/-- A doorbell takes effect (R382, R393). -/
def State.ringTail (s : State) (q tail : Nat) : State :=
  match execTailDoorbell q tail s with
  | .next t => t
  | _ => s

/-- A write into a queue window (R381): slot bytes are stored; a write that covers a doorbell whole rings it. -/
def State.windowBytes (s : State) (q off : Nat) (data : List Byte) : State :=
  let v := s.queue q
  let ws := ((List.range data.length).zip data).filter fun p => off + p.1 < 0x40000
  let s1 := s.setQueue q { v with window := ws.foldl (fun m p => Sparse.set 0 (off + p.1) p.2.toNat m) v.window }
  let s2 := if off ≤ 0x40000 ∧ 0x40008 ≤ off + data.length then s1.ringTail q (field data (0x40000 - off) 8) else s1
  if off ≤ 0x40008 ∧ 0x40010 ≤ off + data.length then s2.advanceHead q (field data (0x40008 - off) 8) else s2

/-- A write into the tenant's queue windows, window after window (R381); a window of another tenant's queue is an access violation. -/
def State.windowWrite (n : Nat) : Nat → Nat → List Byte → State → State
  | 0, _, _, s => s
  | k + 1, at_, data, s =>
    if data.isEmpty then s
    else
      let len := 0x80000 - at_ % 0x80000
      let t := if s.tenantOfQueue (at_ / 0x80000) = some n then s.windowBytes (at_ / 0x80000) (at_ % 0x80000) (data.take len)
        else s.accessViolation n
      State.windowWrite n k (at_ + len) (data.drop len) t

/-- A received WRITE is applied and acknowledged (R716, R717). -/
def State.applyRdma (s : State) (i psn rkey address : Nat) (data : List Byte) : State :=
  let n := (s.qp i).spec.tenant
  let s1 :=
    match s.keyKind n rkey with
    | .tensor =>
      let (m, t) := s.hostWrite n address data
      t.addReg 64 (Obj.accessViolationCount n) m.cases
    | .window => State.windowWrite n (data.length / 0x80000 + 2) address data s
    | .foreign => s
  s1.sendRdma i (.roceAck (s1.qp i).port i psn)

/-- Does a WRITE wait? -/
def State.rdmaWaits (s : State) (n rkey address : Nat) (data : List Byte) : Bool :=
  s.keyKind n rkey == .tensor && s.hostWaits n address data.length

/-- The held WRITEs of a queue pair are applied in order, as far as none waits (R717). -/
def State.resumeQp (i : Nat) : Nat → State → State
  | 0, s => s
  | k + 1, s =>
    let v := s.qp i
    match v.held with
    | [] => s
    | (psn, rkey, address, data) :: rest =>
      if s.rdmaWaits v.spec.tenant rkey address data then s
      else State.resumeQp i k ((s.setQp i { v with held := rest }).applyRdma i psn rkey address data)

/-! The tensor window (R671) -/

/-- A WRITE_SEG result item (R654): index, sub, status, reserved, received. -/
def segResult (o : ObjRef) (status received : Nat) : List Byte :=
  toBytes 2 o.index ++ toBytes 1 o.sub ++ toBytes 1 status ++ toBytes 1 0 ++ toBytes 8 received

/-- What a window segment met is counted in the session, fences, sealed slots and images at the tenant too (R396, R585, R671). -/
def State.countWindow (s : State) (sess n : Nat) (m : Met) : State :=
  let k := b2n m.unresolved + b2n m.fenced + b2n m.poisoned
  let s1 := match s.session? sess with
    | some x => s.setSession { x with violations := x.violations + k }
    | none => s
  s1.addReg 64 (Obj.accessViolationCount n) (b2n m.fenced + b2n m.sealed + b2n m.image)

/-- Apply a tensor window segment and answer it (R671). -/
def State.applyWindow (s : State) (w : WinWrite) : State :=
  let (m, t) := s.hostWrite w.n w.offset w.data
  (t.countWindow w.env.session w.n m).answer w.env 4 1 0 (segResult ⟨0xA060 + w.n, 1⟩ 0 w.data.length)

/-- The window segments that wait no longer are applied. -/
def State.resumeWindows (s : State) : State :=
  s.eth.windows.foldl (fun t w =>
    if t.hostWaits w.n w.offset w.data.length then t
    else ({ t with eth := { t.eth with windows := t.eth.windows.erase w } }).applyWindow w) s

/-- Host writes held by a lock or a move that has ended go on (R155, R326, R671, R717). -/
def State.resumeHost (s : State) : State :=
  (s.eth.qps.foldl (fun t p => State.resumeQp p.1 p.2.held.length t) s).resumeWindows

end Sys2Proof.Machine
end

