-- ==== Sys2Proof/Machine/Collective.lean ====
section
/-!
DEFINITION. The commands of the collective agents (R518 to R544): runs, posted buffers, retries, in-package levels, tokens, feeds,
holds, withdrawals, stalls.
-/

namespace Sys2Proof.Machine

/-- The open instance of a number, that of the oldest step first. -/
def State.openInst (s : State) (n plan inst : Nat) : Option Inst :=
  s.colls.insts.find? fun i => i.n == n && i.plan == plan && i.inst == inst

/-! Runs -/

/-- May the agents send (R492, R535)? -/
def State.agentsRun (s : State) (n : Nat) : Bool := s.isUp && !s.held n

/-- The packet of a run (R473, R520, R521). -/
def State.runPacket (s : State) (i : Inst) (q : RunKey × Val × Nat) : Packet :=
  { ptype := ptRun, flags := 0, dest := i.peerOf q.1, source := s.chip, channel := i.plan % 64, tenant := i.n, sequence := 0,
    epoch := 0, drawingId := 0, hops := 0, replySlot := 0,
    deadline := Sparse.get 0 (q.1.chunk * 4 + q.1.stage) i.readyAt + min 16777215 (s.reg (Obj.collectiveSlackNs i.n)),
    address := i.tag q.1 q.2.1.2, ackSequence := 0, payload := i.payload q.1 q.2.1 q.2.2 }

/-- RUN_SEND (R483, R520 to R522): while the count of runs sent to the peer for the plan is below the announced count, the next run
of the chunk leaves on its piste. -/
def execRunSend (n plan inst chunk peer : Nat) (s : State) : Host.Outcome State Fault Refusal :=
  match s.openInst n plan inst with
  | none => .next s
  | some i =>
    match i.nextRun chunk peer with
    | none => .next s
    | some q =>
      let key := collKey peer n plan
      let sent := Sparse.get 0 key s.colls.sentRuns
      let room := (Sparse.get 0 key s.colls.announced + 2 ^ 32 - sent) % 2 ^ 32
      if !s.agentsRun n || room = 0 || decide (2 ^ 31 ≤ room) then .next s
      else
        let p := s.runPacket i q
        let (t, gone) := s.sendNow (i.cores.headD 0 / 64) p
        if gone then
          let u := t.setInst { i with
            sent := i.sent ++ [q.1], packets := i.packets ++ [(p.dest, (t.txStream p.dest p.channel).last)] }
          .next { u with colls := { u.colls with sentRuns := Sparse.set 0 key ((sent + 1) % 2 ^ 32) u.colls.sentRuns } }
        else .next s

/-- Does a run name a step already committed (R523)? The tag holds the low 6 bits of the step, taken as the nearest step. -/
def State.stepPast (s : State) (r : Run) : Bool :=
  decide (32 ≤ (r.step % 64 + 64 - s.oldestStep r.tenant % 64) % 64)

/-- Does a run name a closed instance (R523)? -/
def State.closedFor (s : State) (r : Run) : Bool :=
  s.colls.closed.any fun c => c.1 == r.tenant && c.2.1 == r.plan && c.2.2.1 % 64 == r.step % 64 && c.2.2.2 == r.inst

/-- Does a run name a step that aborted and has not opened again (R523, R540)? -/
def State.abortedFor (s : State) (r : Run) : Bool :=
  s.colls.aborted.any fun a => a.1 == r.tenant && a.2 % 64 == r.step % 64

/-- One more run received of a peer for a plan (R522). -/
def State.countReceived (s : State) (r : Run) : State :=
  let key := collKey r.peer r.tenant r.plan
  { s with colls := { s.colls with received := Sparse.set 0 key ((Sparse.get 0 key s.colls.received + 1) % 2 ^ 32) s.colls.received } }

/-- RUN_RECEIVE (R470, R475, R522, R523, R527, R595): its packet's place in the stream is PACKET_RECEIVE's matter (log entry 45). -/
def execRunReceive (r : Run) (s : State) : Host.Outcome State Fault Refusal :=
  if !s.isUp || r.epoch != s.reg Obj.membershipEpoch || s.fenced r.peer then .next s
  else if !s.drawingGood r.drawingId then .next (s.count 64 Obj.drawingMismatchCount)
  else if s.stepPast r || s.abortedFor r || s.closedFor r || s.colls.waiting.any (sameTag r) then
    .next (s.count 64 (Obj.duplicateRunCount r.tenant))
  else
    match s.colls.insts.find? fun i => i.owns r with
    | none => .next ((s.countReceived r).waitRun r)
    | some i =>
      if s.held r.tenant then .next ((s.countReceived r).waitRun r)
      else .next (((s.countReceived r).applyRun i r).settleInst i)

/-- Buffers of a plan's work area that are posted and unused, or hold a run that waits (R522). -/
def State.buffersUsed (s : State) (n plan : Nat) : Nat :=
  ((s.colls.posted.filter fun p => p.1 % 16384 == n * 1024 + plan).map fun p =>
    (p.2 + 2 ^ 32 - Sparse.get 0 p.1 s.colls.received) % 2 ^ 32).sum +
  (s.colls.waiting.filter fun r => r.tenant == n && r.plan == plan).length

/-- BUFFER_POST (R522): freed buffers of the plan's work area are posted to a peer and announced, in an acknowledgement on the peer's run
stream whose address field holds the plan and the cumulative count. -/
def execBufferPost (n plan peer count : Nat) (s : State) : Host.Outcome State Fault Refusal :=
  let key := collKey peer n plan
  if s.isUp && s.buffersUsed n plan + count ≤ Sparse.get 0 (n * 1024 + plan) s.colls.areas && decide (0 < count) then
    let v := (Sparse.get 0 key s.colls.posted + count) % 2 ^ 32
    .next (({ s with colls := { s.colls with posted := Sparse.set 0 key v s.colls.posted } } : State).emit
      (.bufferCount peer (plan % 64) (s.rxStream peer (plan % 64)).last (plan % 1024 + v * 2 ^ 32)))
  else .next s

/-- RETRY_NOTICE (R527, R528): above the chunk's X; at or below it, ignored. -/
def execRetryNotice (n plan inst chunk x : Nat) (s : State) : Host.Outcome State Fault Refusal :=
  match s.openInst n plan inst with
  | none => .next s
  | some i =>
    if i.native ∨ x ≤ i.xOf chunk then .next s
    else
      let s1 := s.retryChunk i chunk x
      let s2 := s1.withInst i fun j => if s1.held n then s1 else s1.drainRuns j
      .next (s2.settleInst i)

/-! In-package levels -/

/-- A level may finish a chunk (R518): after the level before it, and after the chunk before. -/
def Inst.levelDue (i : Inst) (level c : Nat) : Bool :=
  let below : Bool := match level with
    | 0 => i.allIn
    | 1 => i.allIn && (!i.inPackage.contains 0 || i.levels.contains (0, c))
    | 2 => i.leftRing.contains c
    | _ => i.leftRing.contains c && (!i.inPackage.contains 2 || i.levels.contains (2, c))
  i.inPackage.contains level && decide (c < i.chunkCount) && !i.levels.contains (level, c) && below &&
    (c == 0 || i.levels.contains (level, c - 1))

/-- The lowest contributing core of a die: its cluster's agent leads (R515). -/
def Inst.leader (i : Inst) (d : Nat) : Nat := (i.cores.find? fun c => c / 64 == d).getD 0

/-- The work of the leading agents for a chunk at a level (R515, R544). -/
def State.levelBusy (s : State) (i : Inst) (level : Nat) : State :=
  let bytes := i.pieceElems * i.size * i.elemBits / 8
  if level = 0 ∨ level = 3 then
    i.dies.foldl (fun t d => t.busy (i.leader d) ((i.cores.filter fun c => c / 64 == d).length * bytes)) s
  else
    match i.dies with
    | d :: _ => s.busy (i.leader d) (i.dies.length * bytes)
    | [] => s

/-- CHUNK_LEVEL_FINISHED (R516, R518). -/
def execChunkLevelFinished (n plan inst level chunk : Nat) (s : State) : Host.Outcome State Fault Refusal :=
  match s.openInst n plan inst with
  | none => .next s
  | some i =>
    if !i.levelDue level chunk || !s.isUp then .next s
    else
      let j : Inst := { i with levels := i.levels ++ [(level, chunk)] }
      let s1 := (s.setInst j).levelBusy j level
      let s2 := if level < 2 && j.ready chunk then s1.chunkReady j chunk else s1
      .next (s2.settleInst j)

/-! Tokens and stalls -/

/-- Every packet the instance sent is acknowledged (R514, R602). -/
def State.allAcked (s : State) (i : Inst) : Bool :=
  i.packets.all fun p => !(s.txStream p.1 (i.plan % 64)).unacked.any fun q => q.2.sequence == p.2

/-- COLLECTIVE_TOKEN_DONE (R514, R602): everything this member receives is written, and everything it sent acknowledged. -/
def execCollectiveTokenDone (n plan inst : Nat) (s : State) : Host.Outcome State Fault Refusal :=
  match s.openInst n plan inst with
  | none => .next s
  | some i =>
    let s0 := s.flushFeeds i
    let s1 := s0.withInst i fun j => if j.whole then s0.finishWhole j else s0
    .next (s1.withInst i fun j =>
      if j.written && j.allSent && j.feeds.isEmpty && s1.allAcked j then (s1.endInst j 0).resumeHost else s1)

/-- COLLECTIVE_STALL (R538). -/
def execCollectiveStall (n plan inst : Nat) (s : State) : Host.Outcome State Fault Refusal :=
  match s.openInst n plan inst with
  | none => .next s
  | some i =>
    if i.stalled then .next s
    else .next (((s.setInst { i with stalled := true }).count 32 (Obj.stallCount n)).collEvent i 1 0xFFFF)

/-! Feeds -/

/-- The lowest core of a tenant. -/
def State.firstCore (s : State) (n : Nat) : Nat := ((List.range 512).find? fun c => bit (s.reg (Obj.coreSet n)) c).getD 0

/-- FEED_RECEIVE (R155, R326, R602, R603): the bytes are stored in the live feed target, once no lock and no move holds them, and reads that
wait on them proceed. -/
def execFeedReceive (n localBase step offset : Nat) (data : List Byte) (s : State) : Host.Outcome State Fault Refusal :=
  if s.isUp && (s.tenant n).mirrors.any fun m => m.role == 4 && m.state == 3 && m.localBase == localBase then
    .next (s.engineWrite { tenant := n, offset := localBase + offset, bytes := data, feed := some (localBase, step),
                           unit := agentUnit (s.firstCore n), access := 5 })
  else .next s

/-! Holds (R535 to R537) -/

/-- A hold's event of a tenant (R543): it names no instance. -/
def State.holdEvent (s : State) (n kind : Nat) : State :=
  s.raise (Obj.lastCollectiveEvent n) (toBytes 1 kind ++ toBytes 11 0 ++ toBytes 2 0xFFFF ++ toBytes 10 0 ++ toBytes 8 s.up)

/-- A tenant's members begin to be held (R535). -/
def State.beginHold (s : State) (n : Nat) : State := s.holdEvent n 3

/-- A hold has ended (R535): runs are sent again from the oldest unacknowledged one of each stream, and runs that arrived are
applied. -/
def State.endHold (s : State) (n : Nat) : State :=
  let s1 := s.holdEvent n 4
  let mine := s1.colls.insts.filter fun i => i.n == n
  mine.foldl (fun t i =>
    let t1 := i.neighbours.foldl (fun u p =>
      u.resendAll p (i.plan % 64) ((u.txStream p (i.plan % 64)).unacked.filter fun q => q.2.ptype == ptRun)) t
    let t2 := t1.withInst i fun j => t1.drainRuns j
    t2.settleInst i) s1

/-- The tenants with open instances that collective_hold does not hold. -/
def State.rideTenants (s : State) : List Nat :=
  (List.range 16).filter fun n => s.reg (Obj.collectiveHold n) != 1 && s.colls.insts.any fun i => i.n == n

/-- A ride-through holds every member (R535). -/
def State.beginRideHold (s : State) : State := s.rideTenants.foldl (fun t n => t.beginHold n) s

/-- A ride-through's hold ends (R535). -/
def State.endRideHold (s : State) : State := s.rideTenants.foldl (fun t n => t.endHold n) s

/-- COLLECTIVE_HOLD (R535): the state of the open instances is kept as it stands. -/
def execCollectiveHold (sess n : Nat) (s : State) : Host.Outcome State Fault Refusal :=
  .next (s.guarded sess (0x6700 + n) 4 fun t =>
    if t.reg (Obj.collectiveHold n) = 1 then t
    else
      let was := t.held n
      let t1 := t.setReg (Obj.collectiveHold n) 1
      if was then t1 else t1.beginHold n)

/-- COLLECTIVE_HOLD_END (R535): a write of 0; the end of a ride-through is RIDE_THROUGH_END's. -/
def execCollectiveHoldEnd (sess n : Nat) (s : State) : Host.Outcome State Fault Refusal :=
  .next (s.guarded sess (0x6700 + n) 4 fun t =>
    if t.reg (Obj.collectiveHold n) = 0 then t
    else
      let t1 := t.setReg (Obj.collectiveHold n) 0
      if t1.held n then t1 else t1.endHold n)

/-- HOLD_BEACON (R535): to the ring neighbours of every open instance. -/
def execHoldBeacon (n : Nat) (s : State) : Host.Outcome State Fault Refusal :=
  if s.held n && s.linksUp then
    .next ((s.colls.insts.filter fun i => i.n == n).foldl (fun t i =>
      i.neighbours.foldl (fun u p => u.emit (.hold p (s.reg Obj.membershipEpoch) i.plan i.inst)) t) s)
  else .next s

/-- HOLD_BEACON_RECEIVE (R536): of an epoch not older than this package's. -/
def execHoldBeaconReceive (chip epoch _plan _inst : Nat) (s : State) : Host.Outcome State Fault Refusal :=
  if s.linksUp && decide (s.reg Obj.membershipEpoch ≤ epoch) && !s.colls.suspended.contains chip then
    .next { s with colls := { s.colls with suspended := s.colls.suspended ++ [chip] } }
  else .next s

/-- HOLD_SUSPENSION_EXPIRY (R536). -/
def execHoldSuspensionExpiry (chip : Nat) (s : State) : Host.Outcome State Fault Refusal :=
  .next { s with colls := { s.colls with suspended := s.colls.suspended.filter fun c => c != chip } }

/-- HOLD_LIMIT_EXPIRY (R537): the held member withdraws; its work areas are freed, its instances end with status 16. -/
def execHoldLimitExpiry (n : Nat) (s : State) : Host.Outcome State Fault Refusal :=
  if !s.held n then .next s
  else
    .next ((s.colls.insts.filter fun i => i.n == n).foldl (fun t i =>
      let t1 := i.neighbours.foldl (fun u p => u.emit (.withdrawal p i.plan i.inst)) t
      let t2 := { t1 with colls := { t1.colls with areas := Sparse.erase (i.n * 1024 + i.plan) t1.colls.areas } }
      (t2.collEvent i 6 0xFFFF).endFailed i 0xFFFF) s)

/-- WITHDRAWAL_RECEIVE (R537): the same instances of a member of theirs fail with status 16. -/
def execWithdrawalReceive (n chip plan inst : Nat) (s : State) : Host.Outcome State Fault Refusal :=
  .next ((s.colls.insts.filter fun i => i.n == n && i.plan == plan && i.inst == inst && i.members.contains chip).foldl (fun t i =>
    (t.collEvent i 6 chip).endFailed i chip) s)

end Sys2Proof.Machine
end

