-- ==== Sys2Proof/Machine/Power.lean ====
section
/-!
DEFINITION. The supply, the power envelope, the governor and the thermal limits (R21 to R43, R63 to R76, R355, R724, R726).
-/

namespace Sys2Proof.Machine

/-! Dies and links -/

/-- The neighbouring compute dies of a die (R21, R31). -/
def computeNeighbours (d : Nat) : List Nat :=
  dieLinks.filterMap fun l => if l.1 = d ∧ l.2 < 8 then some l.2 else if l.2 = d then some l.1 else none

/-- The governor's identifier (R29, R724). -/
def governorId : Nat := 0xC042

/-- The regulation unit of a die (R28, R29); HUB lists none, and its governor stands for it (log entry 20). -/
def regulationId (d : Nat) : Nat :=
  if d < 8 then unitId d 17 1 else if d < 12 then unitId d 6 1 else governorId

/-- FLIT_CRC_FAIL (R25, R43): link and direction 0 from the lower die index; replayed and counted at the sender's port; more
than 1,000 within 1 ms are a fatal fault. -/
def execFlitCrcFail (link dir : Nat) (s : State) : Host.Outcome State Fault Refusal :=
  match dieLinks[link]? with
  | none => .next s
  | some (a, b) =>
    if s.device = devOff then .next s
    else
      let from_ := if dir = 0 then a else b
      let port := portToward from_ (if dir = 0 then b else a)
      let times := s.up :: (Sparse.get [] link s.replays).filter fun t => decide (s.up < t + 1000000)
      let s1 := ({ s with replays := Sparse.set [] link times s.replays }.replayFlit (2 * link + dir % 2)).count 64
        (Obj.linkReplayCount from_ port)
      let s2 := s1.report (blockReport 1 11 (linkPortId from_ port))
      .next (if 1000 < times.length then s2.report (blockReport 3 12 (linkPortId from_ port)) else s2)

/-! Clocks -/

/-- The supply for a clock (R33): every die of this part follows the nominal curve, 0.620 V at 0.6 GHz to 0.900 V at 2.1 GHz
(log entry 5). -/
def curveMv (mhz : Nat) : Nat := 620 + (mhz - 600) * 280 / 1500

/-- The clock in force on a die. -/
def State.clock (s : State) (d : Nat) : Nat := s.reg (Obj.clockGrantedMhz d)

/-- Set a die's clock and its supply on the curve at once: a photonic die or HUB, whose links R31 exempts. -/
def State.setClock (s : State) (d mhz : Nat) : State :=
  (s.setReg (Obj.clockGrantedMhz d) mhz).setReg (Obj.supplyMv d) (curveMv mhz)

/-- The clocks of the grid, highest first (R33). -/
def clockGrid : List Nat := (List.range 76).map fun i => 2100 - 20 * i

/-- May two neighbouring compute dies run at these clocks (R31)? The supply acts at 140 mV. -/
def pairOk (fast slow : Nat) : Bool := decide (fast * 10 ≤ slow * 16) && decide (curveMv fast ≤ curveMv slow + 140)

/-- The highest grid clock that the limits allow beside a neighbour's clock. -/
def pairCap (slow : Nat) : Nat := (clockGrid.find? fun f => pairOk f slow).getD 600

/-! The new set of clocks is decided for all compute dies together (R36): a list of eight clocks -/

/-- The clocks in force. -/
def State.clockSet (s : State) : List Nat := (List.range 8).map s.clock

/-- A die's clock in a set. -/
def clockAt (t : List Nat) (d : Nat) : Nat := t.getD d 2100

/-- The highest clock that the clocks of a die's neighbours in a set allow it (R31). -/
def setBound (t : List Nat) (d : Nat) : Nat := (computeNeighbours d).foldl (fun m e => min m (pairCap (clockAt t e))) 2100

/-- Every pair of a set is brought within the limits by lowering its faster die (R37), never by raising one; a lowered die may
lower its own neighbours, at most once along any path of the eight dies. -/
def settleSet (t : List Nat) : List Nat :=
  (List.range 8).foldl (fun u _ => (List.range 8).map fun d => min (clockAt u d) (setBound u d)) t

/-- Put a number into a list in the order of a key, behind those of the same key. -/
def insertBy (key : Nat → Nat) (x : Nat) : List Nat → List Nat
  | [] => [x]
  | y :: ys => if key x < key y then x :: y :: ys else y :: insertBy key x ys

/-- The compute dies in the order of a key, the lower index first on a tie. -/
def diesBy (key : Nat → Nat) : List Nat := (List.range 8).foldl (fun l d => insertBy key d l) []

/-- A new set of clocks is applied in the order of R36: clock decreases, the fastest die first; supply decreases; supply increases;
clock increases, the slowest die first. -/
def State.applySet (s : State) (t : List Nat) : State :=
  let slow := diesBy s.clock
  let s1 := slow.reverse.foldl (fun u d => if clockAt t d < u.clock d then u.setReg (Obj.clockGrantedMhz d) (clockAt t d) else u) s
  let mv := fun d => curveMv (clockAt t d)
  let s2 := (List.range 8).foldl (fun u d => if mv d < u.reg (Obj.supplyMv d) then u.setReg (Obj.supplyMv d) (mv d) else u) s1
  let s3 := (List.range 8).foldl (fun u d => if u.reg (Obj.supplyMv d) < mv d then u.setReg (Obj.supplyMv d) (mv d) else u) s2
  slow.foldl (fun u d => if u.clock d < clockAt t d then u.setReg (Obj.clockGrantedMhz d) (clockAt t d) else u) s3

/-- What telemetry allows a die (R40): 600 MHz while its own is invalid, 960 MHz for a compute die while a neighbour's is. -/
def State.telemetryCap (s : State) (d : Nat) : Nat :=
  if s.reg (Obj.telemetryState d) = 1 then 600
  else if (List.range 13).any fun e => s.reg (Obj.telemetryState e) == 1 && (computeNeighbours e).contains d then 960
  else 2100

/-- The difference of a pair's junction temperatures. -/
def State.tempGap (s : State) (p : Nat × Nat) : Int :=
  s.sreg 32 (Obj.junctionTemp p.1) - s.sreg 32 (Obj.junctionTemp p.2)

/-- The hotter die of a pair. -/
def State.hotter (s : State) (p : Nat × Nat) : Nat := if 0 < s.tempGap p then p.1 else p.2

/-- The compute dies that are the hotter one of a pair that R37 is lowering. -/
def State.hotDies (s : State) : List Nat := (List.range 8).filter fun d => s.gov.hotPairs.any fun p => s.hotter p == d

/-- The highest clock a die may be given beside a set of clocks (R31, R37, R40): a die being lowered for its temperature is not
raised. -/
def State.capIn (s : State) (t : List Nat) (d : Nat) : Nat :=
  min (min (setBound t d) (s.telemetryCap d)) (if s.hotDies.contains d then s.clock d else 2100)

/-- The request that stands granted for a die (R38); none was ever lowered at reset. -/
def State.grantedOf (s : State) (d : Nat) : Nat := Sparse.get 2100 d s.gov.granted

/-- The full request held for a die (R38), none held. -/
def State.heldOf (s : State) (d : Nat) : Option Nat := (s.gov.held.find? fun p => p.1 = d).map (·.2)

/-- Hold a request. -/
def State.hold (s : State) (d mhz : Nat) : State := { s with gov := { s.gov with held := Sparse.insert d mhz s.gov.held } }

/-- A protective reduction of a die under R37 or R40 is counted, and its request is held (R38). -/
def State.noteStep (s : State) (d : Nat) : State :=
  let s1 := s.count 32 (Obj.protectiveStepCount d)
  match s1.heldOf d with
  | some _ => s1
  | none => s1.hold d (s1.grantedOf d)

/-- Lower clocks toward a set, at once (R39): pairs are settled first, and every reduction of R37 or R40 is counted, those of another
rule that the set itself asks for (`own`) not. -/
def State.lowerSet (s : State) (t : List Nat) (own : Nat → Bool) : State :=
  let goal := settleSet ((List.range 8).map fun d => min (s.clock d) (clockAt t d))
  let hit := (List.range 8).filter fun d => decide (clockAt goal d < s.clock d) && !(own d && clockAt goal d == clockAt t d)
  (hit.foldl (fun u d => u.noteStep d) s).applySet goal

/-- The dies of a set brought to what telemetry allows them (R40). -/
def State.underTelemetry (s : State) (t : List Nat) : List Nat := (List.range 8).map fun d => min (clockAt t d) (s.telemetryCap d)

/-! Grants at gates (R38, R74) -/

/-- Requests at a gate (R38): those below a die's clock lower it first, with what that asks of faster neighbours (R37; log entry 130);
then every held request is granted, the slowest die first, as far as its neighbours' clocks, its telemetry and its temperature
allow. A throttled die, and a die that is being raised again after a reduction, takes its clock later (R70, R74). -/
def State.decideGrants (s : State) : List Nat × List Nat × List (Nat × Nat) :=
  let t1 := (List.range 8).map fun d => match s.heldOf d with
    | some w => min (s.clock d) w
    | none => s.clock d
  let t2 := settleSet t1
  let later := fun d => s.gov.throttled.contains d || s.gov.raising || s.reg Obj.supplyState == 1
  let (t3, gs) := (diesBy (clockAt t2)).foldl (fun (p : List Nat × List (Nat × Nat)) d =>
    match s.heldOf d with
    | none => p
    | some w =>
      let g := min w (s.capIn p.1 d)
      (if later d then p.1 else p.1.set d (max (clockAt p.1 d) g), p.2 ++ [(d, g)])) (t2, [])
  (t1, t3, gs)

/-- A grant of g of the request held for a die (R38): a request granted in full is held no longer. -/
def State.putGrant (s : State) (d g : Nat) : State :=
  { s with gov := { s.gov with
      granted := Sparse.set 2100 d g s.gov.granted,
      held := if s.heldOf d = some g then Sparse.erase d s.gov.held else s.gov.held } }

/-- A throttled die below 95 °C rises by 20 MHz toward its request at each gate (R74). -/
def State.riseThrottled (s : State) : State :=
  let t := s.gov.throttled.foldl (fun u d =>
    if s.sreg 32 (Obj.junctionTemp d) < 9500 ∧ s.reg Obj.supplyState ≠ 1 then
      u.set d (max (clockAt u d) (min (clockAt u d + 20) (min (s.grantedOf d) (s.capIn u d))))
    else u) s.clockSet
  let s1 := s.applySet t
  let stay := s1.gov.throttled.filter fun d => !(decide (s1.sreg 32 (Obj.junctionTemp d) < 9500) && decide (s1.grantedOf d ≤ s1.clock d))
  { s1 with gov := { s1.gov with throttled := stay, cooled := s1.gov.cooled.filter fun d => stay.contains d } }

/-- At a gate: the requests that take effect at it, which a limit of R31 may cap (counted; a cap of R40 alone is not, log entry 157), those held from before, and the throttled
dies (R38, R74). -/
def State.gateClocks (s : State) (firsts : List Nat) : State :=
  let (t1, t3, gs) := s.decideGrants
  let low := (List.range 8).filter fun d => decide (clockAt (settleSet t1) d < clockAt t1 d)
  let capped := firsts.filter fun d => match s.heldOf d with
    | some w => decide (setBound t3 d < w) && gs.any fun p => p.1 == d && decide (p.2 < w)
    | none => false
  let s1 := capped.foldl (fun u d => u.count 32 (Obj.limitCapCount d)) s
  let s2 := low.foldl (fun u d => u.noteStep d) s1
  ((gs.foldl (fun u p => u.putGrant p.1 p.2) s2).applySet t3).riseThrottled

/-- CLOCK_REQUEST_WRITE (R38, R42, R59): rounded down to the grid and clamped, granted at the next gate; a request that the full table
of scheduled events refuses takes no effect. HUB and the photonic dies take none: their object is read-only. -/
def execClockRequestWrite (sess die mhz : Nat) (s : State) : Host.Outcome State Fault Refusal :=
  .next (s.guarded sess (0x4000 + die) 1 fun t =>
    if 8 ≤ die then t
    else
      let v := min 2100 (max 600 (mhz / 20 * 20))
      (t.setReg (Obj.clockRequestMhz die) v).scheduleLocal t.nextGate (.clockGrant die v))

/-! The envelope (R69 to R73) -/

/-- Average input power over 16 µs, in mW. -/
def Supply.avgMw (p : Supply) : Nat := if p.samples.isEmpty then 0 else (p.samples.map (·.1)).sum / p.samples.length

/-- The larger average current of the two blades, in mA (R724). -/
def Supply.avgBlade (p : Supply) : Nat :=
  if p.samples.isEmpty then 0
  else max ((p.samples.map (·.2.1)).sum / p.samples.length) ((p.samples.map (·.2.2)).sum / p.samples.length)

/-- The effective ceiling in mW (R69). -/
def State.ceiling (s : State) : Nat :=
  let limit := min s.supply.ceilNow (160 * s.reg Obj.inputMv)
  if s.reg Obj.supplyState = 1 ∨ s.supply.recovering then min limit 1040000 else limit

/-- The compute dies on which the floor is not suspended (R71): those not thermally throttled. -/
def State.floorDies (s : State) : List Nat := (List.range 8).filter fun d => !s.gov.throttled.contains d

/-- The effective floor in mW (R71): suspended but in ADMITTED and RUNNING with a normal supply, and where every compute die is
throttled (log entry 131). -/
def State.floor (s : State) : Nat :=
  if (s.device = devAdmitted ∨ s.device = devRunning) ∧ s.reg Obj.supplyState ≠ 1 ∧ s.reg Obj.supplyState ≠ 3 ∧
      !s.floorDies.isEmpty then
    s.supply.floorNow
  else 0

/-- Move an edge toward its new value by at most a step. -/
def toward (now goal step : Nat) : Nat := if now < goal then min goal (now + step) else max goal (now - step)

/-- The edges move with the ramp limit (R72): its W per ms are mW per µs, the time between samples. From a ride-through until its
recovery step starts the floor stands at zero. -/
def State.moveEdges (s : State) : State :=
  let r := s.reg Obj.rampLimitWPerMs
  { s with supply := { s.supply with
      floorNow := if s.reg Obj.supplyState = 1 ∨ s.supply.recovering then 0 else toward s.supply.floorNow s.supply.floorTo r,
      ceilNow := toward s.supply.ceilNow s.supply.ceilTo r } }

/-- A power step starts (R72): the edges begin to move toward its floor and ceiling. -/
def State.startPowerStep (s : State) (floor ceiling : Nat) : State :=
  { s with supply := { s.supply with floorTo := floor * 1000, ceilTo := ceiling * 1000 } }

/-- A recovery step starts (R65, R69, R72): the ceiling rises from 1,040 W and the floor from zero toward the values then in force. -/
def State.startRecovery (s : State) : State :=
  { s with supply := { s.supply with
      recovering := false, ceilNow := min s.supply.ceilNow 1040000, floorNow := 0 } }

/-- ENVELOPE_COMMIT (R73): 1 puts the shadowed floor and ceiling in force as one power step; the floor is at most the ceiling,
and stays zero while no tenant is admitted (R72). -/
def execEnvelopeCommit (sess value : Nat) (s : State) : Host.Outcome State Fault Refusal :=
  .next (s.guarded sess 0x2020 9 fun t =>
    if value ≠ 1 then t
    else
      let c := t.reg Obj.powerCeilingW
      let f := min (t.reg Obj.powerFloorW) c
      ({ t with supply := { t.supply with committedFloor := f, committedCeiling := c } }).requestPowerStep
        (if t.notFree.isEmpty then 0 else f) c)

/-! Supply samples (R63 to R67) -/

/-- The stop of a supply or thermal limit (R66, R76, R355): a fatal fault of cause 19 with a stop cause of its own. -/
def State.limitStop (s : State) (unit cause : Nat) : State := (s.reportOnly (blockReport 3 19 unit)).orderlyStop cause

/-- A condition holds in this and the previous sample. -/
def State.twice (s : State) (p : Nat → Bool) : Bool :=
  (match s.supply.prevMv with | some v => p v | none => false) && p (s.reg Obj.inputMv)

/-- Take a sample into the averages. -/
def State.takeSample (s : State) (mv a b : Nat) : State :=
  let mw := mv * (a + b) / 1000
  let first := s.supply.samples.isEmpty
  let s1 : State := { s with supply := { s.supply with
    prevMv := if first then none else some (s.reg Obj.inputMv), samples := ((mw, a, b) :: s.supply.samples).take 16 } }
  let s2 := ((s1.setReg Obj.inputMv mv).setReg Obj.inputMa (a + b)).setReg Obj.inputMw s1.supply.avgMw
  (s2.setReg Obj.bladeAMa a).setReg Obj.bladeBMa b

/-- Ride-through begins (R64, R535): counted; the compute clocks go to 600 MHz, and the members of collectives are held. -/
def State.enterRide (s : State) : State :=
  (((s.setReg Obj.supplyState 1).count 32 Obj.rideThroughCount).applySet (List.replicate 8 600)).beginRideHold

/-- Judge the sample against the limits of R64 and R66. -/
def State.judgeVoltage (s : State) : State :=
  if s.twice fun v => decide (45000 < v) then s.limitStop governorId 2
  else if s.reg Obj.supplyState ≠ 1 && s.twice fun v => decide (v < 30000) then s.enterRide
  else if s.reg Obj.supplyState = 0 && s.twice fun v => decide (42000 < v) then s.setReg Obj.supplyState 2
  else if s.reg Obj.supplyState = 2 && s.twice fun v => decide (v ≤ 42000) then s.setReg Obj.supplyState 0
  else s

/-- Has a compute die an array with no runnable context (R71)? -/
def State.idleArrayOn (s : State) (d : Nat) : Bool :=
  (List.range 64).any fun k => s.coreEnabled (d * 64 + k) &&
    (List.range 4).all fun x => (s.ctx (d * 64 + k) x).state != 1 && (s.ctx (d * 64 + k) x).state != 2

/-- Ballast (R71): while the average is below the effective floor, on arrays with no runnable context of the dies that are not
throttled; how much is added the spec does not say (log entry 2). -/
def State.judgeFloor (s : State) : State :=
  let dies := if s.supply.avgMw < s.floor then s.floorDies.filter s.idleArrayOn else []
  if dies.isEmpty then { s.setReg Obj.ballastMw 0 with supply := { s.supply with ballastDies := [] } }
  else
    let (v, s1) := s.draw 32
    { s1.setReg Obj.ballastMw v with supply := { s1.supply with ballastDies := dies } }

/-- Judge the averages against the ceiling and the blades (R69, R724), and publish the edges. -/
def State.judgePower (s : State) : State :=
  let s1 := s.moveEdges
  let s2 : State := { s1 with supply := { s1.supply with
    above := decide (s1.ceiling < s1.supply.avgMw) || decide (80000 < s1.supply.avgBlade) } }
  ((s2.setReg Obj.ceilingEffectiveW (s2.ceiling / 1000)).setReg Obj.floorEffectiveW (s2.floor / 1000)).judgeFloor

/-- SUPPLY_SAMPLE (R63, R64, R66, R69, R71, R724): the 1 µs sample of the input voltage and the two blades' currents. -/
def execSupplySample (mv maA maB : Nat) (s : State) : Host.Outcome State Fault Refusal :=
  if s.device = devOff then .next s
  else if s.device = devHalted then .next (s.takeSample mv maA maB)
  else
    let s1 := (s.takeSample mv maA maB).judgeVoltage
    .next (if s1.device = devHalted then s1 else s1.judgePower)

/-- RIDE_THROUGH_END (R65, R535): once the input holds at or above 30 V; the cores resume and a recovery step is requested. -/
def execRideThroughEnd (s : State) : Host.Outcome State Fault Refusal :=
  if s.reg Obj.supplyState ≠ 1 ∨ !(s.twice fun v => decide (30000 ≤ v)) then .next s
  else
    let s1 := { s.setReg Obj.supplyState 0 with
      supply := { s.supply with recovering := true, floorNow := 0 }, gov := { s.gov with raising := true } }
    .next (s1.scheduleLocal s1.powerStepGate .recoveryStep).endRideHold

/-- SUPPLY_STOP_TIMEOUT (R66, R67): a duration limit has run out while its condition holds. -/
def execSupplyStopTimeout (limit : StopLimit) (s : State) : Host.Outcome State Fault Refusal :=
  let ride := s.reg Obj.supplyState == 1
  if s.device = devOff ∨ s.device = devHalted then .next s
  else
    match limit with
    | .under24 => .next (if s.twice fun v => decide (v < 24000) then s.limitStop governorId 1 else s)
    | .rideTotal => .next (if ride then s.limitStop governorId 1 else s)
    | .rideLength => .next (if ride then s.limitStop governorId 1 else s)
    | .over42 => .next (if s.reg Obj.supplyState = 2 then s.limitStop governorId 2 else s)

/-- BLADE_IMBALANCE (R724): one blade carries more than 62.5 % of the total. -/
def execBladeImbalance (s : State) : Host.Outcome State Fault Refusal :=
  let a := s.reg Obj.bladeAMa
  let b := s.reg Obj.bladeBMa
  if s.device = devOff ∨ max a b * 1000 ≤ (a + b) * 625 then .next s
  else .next (s.report (blockReport 1 16 governorId))

/-- COOLANT_INLET_HIGH (R726, R732): temperatures in 0.01 °C; above 40 °C it is a corrected fault. -/
def execCoolantInletHigh (inlet outlet : Int) (s : State) : Host.Outcome State Fault Refusal :=
  if s.device = devOff then .next s
  else
    let s1 := (s.setReg Obj.coolantInlet (wrapInt 32 inlet)).setReg Obj.coolantOutlet (wrapInt 32 outlet)
    .next (if 4000 < inlet then s1.report (blockReport 1 16 governorId) else s1)

/-! The governor's sample (R36, R37, R69, R70, R75, R76) -/

/-- Telemetry of one die: its objects, its run of valid samples (R40), and whether a throttled die has cooled below 95 °C (R74). -/
def State.takeTelemetry (s : State) (x : DieSample) : State :=
  let s1 := (s.setReg (Obj.junctionTemp x.die) (wrapInt 32 x.temp)).setReg (Obj.powerMw x.die) x.powerMw
  { s1 with gov := { s1.gov with
      missing := Sparse.erase x.die s1.gov.missing,
      cooled := if s1.gov.throttled.contains x.die ∧ x.temp < 9500 ∧ !s1.gov.cooled.contains x.die then s1.gov.cooled ++ [x.die]
        else s1.gov.cooled,
      valid := Sparse.set 0 x.die (min 16 (Sparse.get 0 x.die s1.gov.valid + 1)) s1.gov.valid } }

/-- A die whose telemetry is missing from the sample or invalid in it (R40). -/
def State.missTelemetry (s : State) (d : Nat) : State :=
  { s with gov := { s.gov with
      missing := Sparse.set 0 d (min 3 (Sparse.get 0 d s.gov.missing + 1)) s.gov.missing, valid := Sparse.erase d s.gov.valid } }

/-- A photonic die or HUB that reaches 100 °C is a corrected fault (R75). -/
def State.overtemp (before : State) (s : State) (x : DieSample) : State :=
  if 8 ≤ x.die ∧ 10000 ≤ x.temp ∧ before.sreg 32 (Obj.junctionTemp x.die) < 10000 then
    s.report (blockReport 1 16 (regulationId x.die))
  else s

/-- The pairs R37 watches: neighbouring compute dies, and compute dies beside a photonic one (R31). -/
def tempPairs : List (Nat × Nat) := dieLinks.take 18

/-- A pair at 28 °C is lowered until it is at 26 °C or below (R37). -/
def State.watchPairs (s : State) : State :=
  let hot := tempPairs.filter fun p =>
    decide (2800 ≤ (s.tempGap p).natAbs) || (s.gov.hotPairs.contains p && decide (2600 < (s.tempGap p).natAbs))
  { s with gov := { s.gov with hotPairs := hot } }

/-- The hotter die of such pairs is lowered by one step of 20 MHz (R37), and every die to what telemetry allows it (R40); a photonic
die's clock is fixed. -/
def State.coolPairs (s : State) : State :=
  s.lowerSet (s.underTelemetry ((List.range 8).map fun d =>
    if s.hotDies.contains d then max 600 (s.clock d - 20) else s.clock d)) fun _ => false

/-- Every limit of R31 holds: clocks and supplies of neighbouring compute dies, and temperatures. -/
def State.limitsHold (s : State) : Bool :=
  (dieLinks.take 10).all (fun p => pairOk (s.clock p.1) (s.clock p.2) && pairOk (s.clock p.2) (s.clock p.1)) &&
    tempPairs.all fun p => decide ((s.tempGap p).natAbs ≤ 3000)

/-- The set after a raise of 20 MHz on each die toward its granted request, the slowest die first (R70). -/
def State.raisedSet (s : State) : List Nat :=
  (diesBy s.clock).foldl (fun t d =>
    if s.gov.throttled.contains d then t
    else t.set d (max (clockAt t d) (min (clockAt t d + 20) (min (s.grantedOf d) (s.capIn t d))))) s.clockSet

/-- Reductions and raises that follow the power (R69, R70): 20 MHz down on every compute die while the average is over, then what
the pairs ask for (R37); up toward the granted requests while 100 W of room and every limit allow. -/
def State.followPower (s : State) : State :=
  if s.supply.above then
    let s1 := s.lowerSet (s.clockSet.map fun c => max 600 (c - 20)) fun _ => true
    { s1 with gov := { s1.gov with raising := true } }
  else if s.gov.raising && decide (s.reg Obj.supplyState ≠ 1) && decide (s.supply.avgMw + 100000 ≤ s.ceiling) && s.limitsHold then
    let s1 := s.applySet s.raisedSet
    { s1 with gov := { s1.gov with raising := (List.range 8).any fun d => decide (s1.clock d < s1.grantedOf d) } }
  else s

/-- The change of a compute die's power since the sample before, in mW. -/
def State.powerChange (s old : State) (d : Nat) : Int := (s.reg (Obj.powerMw d) : Int) - old.reg (Obj.powerMw d)

/-- Every loop of a photonic die adds its feed-forward step (R419): the change in power of each of the die's two compute dies (R21)
times the ring's coefficient for that die. -/
def State.feedForward (s old : State) : State :=
  let rings := (List.range 144).flatMap fun l => (List.range 5).map fun r => (l, r)
  let lit := rings.filter fun q => s.reg (Obj.laneState (q.1 / 9) (q.1 % 9)) != 0
  lit.foldl (fun t q =>
    let d := q.1 / 36 * 2
    let step := s.powerChange old d * Sparse.get 0 (q.1 * 16 + q.2 * 2) s.heaterCoefs +
      s.powerChange old (d + 1) * Sparse.get 0 (q.1 * 16 + q.2 * 2 + 1) s.heaterCoefs
    { t with heaters := Sparse.set 0 (q.1 * 8 + q.2) (Sparse.get 0 (q.1 * 8 + q.2) t.heaters + step) t.heaters }) s

/-- GOVERNOR_SAMPLE (R36, R37, R69, R70, R75, R76, R419): the 2 µs telemetry of the dies it names. -/
def execGovernorSample (samples : List DieSample) (s : State) : Host.Outcome State Fault Refusal :=
  if s.device = devOff ∨ s.device = devHalted then .next s
  else
    let xs := samples.filter fun x => decide (x.die < 13) && x.valid
    let s1 := xs.foldl (fun t x => t.takeTelemetry x) s
    let s2 := ((List.range 13).filter fun d => !(xs.any fun x => x.die == d)).foldl (fun t d => t.missTelemetry d) s1
    match xs.find? fun x => decide (11500 ≤ x.temp) with
    | some x => .next (s2.limitStop (regulationId x.die) 3)
    | none =>
      let s3 := xs.foldl (fun t x => State.overtemp s t x) s2
      .next ((s3.watchPairs.coolPairs.followPower).feedForward s)

/-- TELEMETRY_INVALID (R40): after three samples without; the die goes to 600 MHz, its compute neighbours are capped at 960
MHz, and a corrected fault is recorded. -/
def execTelemetryInvalid (die : Nat) (s : State) : Host.Outcome State Fault Refusal :=
  if Sparse.get 0 die s.gov.missing < 3 ∨ s.reg (Obj.telemetryState die) = 1 ∨ 12 < die then .next s
  else
    let s1 := s.setReg (Obj.telemetryState die) 1
    let s2 := if die < 8 then s1 else (s1.setClock die 600).count 32 (Obj.protectiveStepCount die)
    .next ((s2.lowerSet (s2.underTelemetry s2.clockSet) fun _ => false).report (blockReport 1 16 (regulationId die)))

/-- TELEMETRY_VALID_RESTORE (R40): after 16 valid samples; the held requests are granted again at gates, and a photonic die or HUB
returns to its fixed clock (R22). -/
def execTelemetryValidRestore (die : Nat) (s : State) : Host.Outcome State Fault Refusal :=
  if Sparse.get 0 die s.gov.valid < 16 ∨ s.reg (Obj.telemetryState die) ≠ 1 then .next s
  else
    let s1 := s.setReg (Obj.telemetryState die) 0
    .next (if die < 8 then s1 else s1.setClock die 2100)

/-- THERMAL_THROTTLE (R74, R37, R76): a compute die that reaches 100 °C goes to throttle_clock_mhz at once; a die whose clock is already
lower keeps it (log entry 132). A throttled die that has cooled below 95 °C may reach it again. At 115 °C the package stops. -/
def execThermalThrottle (die : Nat) (temp : Int) (s : State) : Host.Outcome State Fault Refusal :=
  if 8 ≤ die ∨ temp < 10000 ∨ s.device = devOff ∨ s.device = devHalted then .next s
  else if 11500 ≤ temp then .next ((s.setReg (Obj.junctionTemp die) (wrapInt 32 temp)).limitStop (regulationId die) 3)
  else if s.gov.throttled.contains die ∧ !s.gov.cooled.contains die then .next s
  else
    let s1 := (s.setReg (Obj.junctionTemp die) (wrapInt 32 temp)).count 32 Obj.throttleCount
    let s2 : State := { s1 with gov := { s1.gov with
      throttled := s1.gov.throttled.filter (fun d => d != die) ++ [die], cooled := s1.gov.cooled.filter fun d => d != die } }
    .next (s2.lowerSet (s2.clockSet.set die (min (s2.clock die) (s2.reg Obj.throttleClockMhz))) fun d => d == die)

/-- THROTTLE_STEP (R74): a throttled die still at 100 °C loses a further 100 MHz, down to 600. -/
def execThrottleStep (die : Nat) (s : State) : Host.Outcome State Fault Refusal :=
  if !s.gov.throttled.contains die || decide (s.sreg 32 (Obj.junctionTemp die) < 10000) then .next s
  else .next (s.lowerSet (s.clockSet.set die (max 600 (s.clock die - 100))) fun d => d == die)

/-! Memory temperature (R355) -/

/-- The state and temperature objects of a memory unit: 0 to 2 a Main stack, 3 and 4 a Deep device (R28, R360). -/
def memStateObj (die unit : Nat) : Nat := if unit < 3 then Obj.mainState die unit else Obj.deepState die (unit - 3)
def memTempObj (die unit : Nat) : Nat := if unit < 3 then Obj.mainTemp die unit else Obj.deepTemp die (unit - 3)

/-- MEMORY_THERMAL_HALVE (R355): at 95 °C the controller halves its rate and a corrected fault is recorded; at 105 °C the
package stops in order. -/
def execMemoryThermalHalve (die unit : Nat) (temp : Int) (s : State) : Host.Outcome State Fault Refusal :=
  if 8 ≤ die ∨ 5 ≤ unit ∨ s.device = devOff ∨ s.device = devHalted then .next s
  else
    let s1 := s.setReg (memTempObj die unit) (wrapInt 32 temp)
    if 10500 ≤ temp then .next (s1.limitStop (unitId die 16 unit) 3)
    else if 9500 ≤ temp ∧ s.reg (memStateObj die unit) ≠ 1 then
      .next ((s1.setReg (memStateObj die unit) 1).report (blockReport 1 16 (unitId die 16 unit)))
    else .next s1

/-- MEMORY_RATE_RESTORE (R355): below 90 °C the full rate is restored. -/
def execMemoryRateRestore (die unit : Nat) (temp : Int) (s : State) : Host.Outcome State Fault Refusal :=
  if 8 ≤ die ∨ 5 ≤ unit ∨ 9000 ≤ temp ∨ s.reg (memStateObj die unit) ≠ 1 then .next s
  else .next ((s.setReg (memTempObj die unit) (wrapInt 32 temp)).setReg (memStateObj die unit) 0)

end Sys2Proof.Machine
end

