-- ==== Sys2Proof/Machine/Beat.lean ====
section
/-!
DEFINITION. The beat (R44), the gates (R55 to R60) and what happens at them, calibration starts among it (R436, R438, R559).
-/

namespace Sys2Proof.Machine

/-! Calibration starts (R436, R438) -/

/-- How many calibrations of a port have come due (R436): one every wax_period / 9 of cadence time (R14), staggered by port (log entry
23). -/
def State.waxDue (s : State) (port : Nat) : Nat :=
  let p := s.reg Obj.waxPeriodMs * 1000000
  if p = 0 then 0 else (s.time.cad - port * p / 144) * 9 / p

/-- A laser begins its calibration (R437, R438): LS and a retired laser take no swap; a laser in service is swapped out where LS is
free, or with wax_allow_degraded taken out of service, or skipped and counted. -/
def State.startWax (s : State) (port l : Nat) : State :=
  let st := s.lane port l
  let alone := fun (t : State) =>
    let u := ((t.setPort port { t.port port with waxLaser := some l }).setLaser port l { t.laser port l with waxFrom := st }).setLane
      port l lnWax
    if l = spare then u.setRole port 4 0 else u
  if (s.port port).waxLaser.isSome then s.count 32 (Obj.waxDeferredCount port)
  else if (l = spare ∧ s.spareFree port) ∨ (st = lnRetired ∧ !(s.laser port l).lost) then alone s
  else if l ≠ spare ∧ inService st ∧ s.spareFree port then
    ((s.setPort port { s.port port with waxLaser := some l }).setLaser port l { s.laser port l with waxFrom := st }).startSwap port l
  else if inService st then
    if s.reg Obj.waxAllowDegraded ≠ 0 ∧ l ≠ spare then ((alone s).emit (.marker port l mkRelock)).settlePort port
    else s.count 32 (Obj.waxDeferredCount port)
  else s

/-- At a gate a port whose next calibration has come due starts it (R436). -/
def State.gateWax (s : State) (port : Nat) : State :=
  let v := s.port port
  let due := s.waxDue port
  if due ≤ v.waxCount then (if due = v.waxCount then s else s.setPort port { v with waxCount := due })
  else (s.setPort port { v with waxCount := due, waxNext := (v.waxNext + 1) % 9 }).startWax port v.waxNext

/-- The ports that have a laser on. -/
def State.litPorts (s : State) : List Nat :=
  (List.range 16).filter fun p => (List.range 9).any fun l => s.lane p l != lnOff

/-! Gates (R58 to R60) -/

/-- An event is applied at this gate: its gate has come, and a commit waits until the package may execute coordinated events
(R580). -/
def State.due (s : State) (e : Sched) : Bool := decide (e.gate ≤ s.beatNo) && (!e.kind.isCommit || s.coordinated)

/-- Apply one scheduled event (R58). A coordinated slalom step whose gate has passed, or arrives while the package may not execute
coordinated events, is late (R471). -/
def State.runEvent (s : State) (e : Sched) : State :=
  match e.kind with
  | .commit n step attempt proposal late => s.runCommit n step attempt proposal e.gate late
  | .slalom step d => (if e.gate < s.beatNo ∨ !s.coordinated then s.lateSlalom step else s.putInForce d).settleSlalom
  | .powerStep f c => s.startPowerStep f c
  | .recoveryStep => s.startRecovery
  | .clockGrant d mhz => s.hold d mhz
  | .arbiter => s.commitArbiters
  | .sketchCal p => if s.reg (Obj.engineState p) = 1 then s else s.setReg (Obj.engineState p) 1

/-- The events of a gate in the order of R58. -/
def State.dueEvents (s : State) : List Sched :=
  (List.range 7).flatMap fun k => s.time.events.filter fun e => s.due e && e.kind.order == k

/-- The dies whose requests take effect at a gate (R38). -/
def grantDies (es : List Sched) : List Nat :=
  (List.range 8).filter fun d => es.any fun e => match e.kind with
    | .clockGrant k _ => k == d
    | _ => false

/-- A gate beat (R58): the due events in table order; held clock requests and throttled dies (R38, R74); calibrations (R436); and
the sketch settings written since the last gate (R560). -/
def State.gateBeat (s : State) : State :=
  let due := s.dueEvents
  let s1 : State := { s with time := { s.time with events := s.time.events.filter fun e => !s.due e } }
  let early := due.filter fun e => decide (e.kind.order ≤ 4)
  let late := due.filter fun e => decide (4 < e.kind.order)
  let s2 := (early.foldl (fun t e => t.runEvent e) s1).gateClocks (grantDies due)
  let s3 := late.foldl (fun t e => t.runEvent e) s2
  (s3.litPorts.foldl (fun t p => t.gateWax p) s3).applySketchSettings

/-! The beat (R44, R45) -/

/-- The beat frames of a package that has a term go out on its base lanes (R45, R52, R56). -/
def State.sendBeats (s : State) : State :=
  if s.time.seenTerm = 0 ∨ s.reg Obj.cadenceState = cadAcquiring then s
  else
    let next := s.time.periods.headD (0, 0)
    s.baseLanes.foldl (fun t i => t.emit (.beatFrame
      { term := t.reg Obj.cadenceTerm, master := t.reg Obj.cadenceMasterChip, cad := t.time.cad, period := t.gatePeriod,
        nextPeriod := next.1, nextBeat := next.2, port := basePort i })) s

/-- The next beat begins: cadence time moves on to it. Uptime, which no cadence time is ever converted into (R14), does not: a command
takes no time (log entry 1). -/
def State.nextBeat (s : State) : State := { s with time := { s.time with cad := (s.beatNo + 1) * 1024, phase := 0 } }

/-- BEAT (R44, R496, R55 to R60): the arbiters lower their held offsets; a package that has a cadence time moves on to the next
beat, sends its beat frames, and at a gate beat applies its scheduled events. -/
def execBeat (s : State) : Host.Outcome State Fault Refusal :=
  let s1 := s.lowerOffsets
  if !s.cadenceRuns || s.reg Obj.cadenceState == cadAcquiring then .next s1
  else
    let s2 := s1.nextBeat.sendBeats
    .next (if s2.gatePeriod ≠ 0 ∧ s2.beatNo % s2.gatePeriod = 0 then s2.gateBeat else s2)

end Sys2Proof.Machine
end

