-- ==== Sys2Proof/Machine/Ledger.lean ====
section
/-!
DEFINITION. The commands of the step ledger (R565 to R583): closes, votes, decisions, acknowledgements, queries, abort
requests and the member list.
-/

namespace Sys2Proof.Machine

/-- STEP_CLOSE (R568): the current attempt of an uncommitted step is closed. -/
def execStepClose (sess n step : Nat) (s : State) : Host.Outcome State Fault Refusal :=
  .next (s.guarded sess (0x7010 + n) 6 fun t =>
    let u := t.tenant n
    let c := (step, t.attemptOf n step)
    if u.state ≠ 1 ∨ step < t.oldestStep n ∨ u.closes.contains c then t
    else t.setTenant n { u with closes := u.closes ++ [c] })

/-- Form this package's vote (R570, R571): its findings are those of the moment, and their advisories and the count of R302 follow
(R304). -/
def State.castVote (s : State) (n step : Nat) : State :=
  let s1 := match (s.tenant n).step? step with
    | some p => s.judgeVote n p
    | none => s
  let v := s.makeVote n step
  s1.setTenant n { (s1.tenant n).modStep step (fun p => { p with voted := true }) with ownVote := some v }

/-- VOTE (R570 to R572): on the oldest uncommitted step, once every condition holds. -/
def execVote (n : Nat) (s : State) : Host.Outcome State Fault Refusal :=
  let k := s.oldestStep n
  .next (if s.mayVote n k then (s.castVote n k).voteUp n else s)

/-- VOTE_RECEIVE (R572, R573, R576): a child's vote is kept, and the combined vote goes up, or is decided at the root. -/
def execVoteReceive (m : LedgerMsg) (s : State) : Host.Outcome State Fault Refusal :=
  .next (s.takeLedger m fun n t => (t.setTenant n { t.tenant n with votes := (t.tenant n).votes ++ [m] }).voteUp n)

/-- COMMIT_RECEIVE (R572, R579, R580). -/
def execCommitReceive (m : LedgerMsg) (s : State) : Host.Outcome State Fault Refusal :=
  .next (s.takeLedger m fun n t => t.takeCommit n m)

/-- ABORT_RECEIVE (R572, R581): applied on receipt. -/
def execAbortReceive (m : LedgerMsg) (s : State) : Host.Outcome State Fault Refusal :=
  .next (s.takeLedger m fun n t => t.takeAbort n m)

/-- Does an acknowledgement from a chip answer a message sent to it (R574)? -/
def acksMsg (m : LedgerMsg) (u : Nat × LedgerMsg) : Bool :=
  u.1 == m.sender && u.2.step == m.step && u.2.attempt == m.attempt && u.2.jobEpoch == m.jobEpoch

/-- LEDGER_ACK_RECEIVE (R574): the acknowledged message is sent no more. -/
def execLedgerAckReceive (m : LedgerMsg) (s : State) : Host.Outcome State Fault Refusal :=
  match s.tenantOfJob m.jobId with
  | none => .next s
  | some n => .next (s.setTenant n { s.tenant n with unacked := (s.tenant n).unacked.filter fun u => !acksMsg m u })

/-- LEDGER_RESEND (R574): every message not acknowledged goes out again. -/
def execLedgerResend (n : Nat) (s : State) : Host.Outcome State Fault Refusal :=
  .next ((s.tenant n).unacked.foldl (fun t u => t.emit (.ledger u.1 u.2)) s)

/-- The state report of this package on a step (R574, R582). -/
def State.stateReport (s : State) (n step : Nat) : LedgerMsg :=
  let t := s.tenant n
  let d := t.decisions.find? fun d => d.step == step && d.commit
  let base := s.ledgerMsg n 6 step
  { base with
    attempt := match d with | some x => x.attempt | none => base.attempt,
    hasProposal := match d with | some x => x.proposal.isSome | none => false,
    proposal := match d with | some x => x.proposal.getD 0 | none => 0,
    voted := t.ownVote.isSome,
    commitHeld := d.isSome,
    commitApplied := decide (step ≤ s.reg (Obj.committedStep n)),
    commitGate := match d with | some x => x.gate * 1024 | none => 0 }

/-- STATE_QUERY_RECEIVE (R582): answered with a state report. -/
def execStateQueryReceive (m : LedgerMsg) (s : State) : Host.Outcome State Fault Refusal :=
  .next (s.takeLedger m fun n t => t.sendLedger n m.sender (t.stateReport n m.step))

/-- STATE_REPORT_RECEIVE (R582): the new root collects it. -/
def execStateReportReceive (m : LedgerMsg) (s : State) : Host.Outcome State Fault Refusal :=
  .next (s.takeLedger m fun n t =>
    (t.setTenant n { t.tenant n with reports := (t.tenant n).reports ++ [m] }).resolveQuery n)

/-- The root aborts an undecided attempt that was requested (R578); one already decided is ignored. -/
def State.requestedAbort (s : State) (n step : Nat) : State :=
  if step < s.oldestStep n ∨ s.oldestStep n + 1 < step ∨ s.decided n step (s.attemptOf n step) then s
  else s.decideAbort n step 4

/-- ABORT_REQUEST (R578): the request goes to the root; at the root it is decided. -/
def execAbortRequest (sess n step : Nat) (s : State) : Host.Outcome State Fault Refusal :=
  .next (s.guarded sess (0x7010 + n) 7 fun t =>
    if (t.tenant n).state ≠ 1 then t
    else if t.isRoot n then t.requestedAbort n step
    else t.sendLedger n ((t.liveOf n).headD 0xFFFF) (t.ledgerMsg n 7 step))

/-- ABORT_REQUEST_RECEIVE (R578): at the root, for its current attempt. -/
def execAbortRequestReceive (m : LedgerMsg) (s : State) : Host.Outcome State Fault Refusal :=
  .next (s.takeLedger m fun n t =>
    if t.isRoot n && m.attempt == t.attemptOf n m.step then t.requestedAbort n m.step else t)

/-- A vote for an attempt has come to this package, its own among them. -/
def State.voteSeen (s : State) (n step : Nat) : Bool :=
  let a := s.attemptOf n step
  (match (s.tenant n).ownVote with | some v => v.step == step && v.attempt == a | none => false) ||
  (s.tenant n).votes.any fun v => v.step == step && v.attempt == a

/-- The child a timeout names (R599, R611): the first whose vote is missing, this package where its own is. -/
def State.missingChild (s : State) (n step : Nat) : Nat :=
  match (s.missingVotes n (s.ledgerMsg n 1 step)).head? with
  | some c => c
  | none => s.chip

/-- VOTE_TIMEOUT (R578): the root aborts an undecided attempt of which it has a vote, with cause 4 and event 9. -/
def execVoteTimeout (n : Nat) (s : State) : Host.Outcome State Fault Refusal :=
  let k := s.oldestStep n
  if (s.tenant n).state = 1 ∧ s.isRoot n ∧ s.voteSeen n k ∧ !s.decided n k (s.attemptOf n k) then
    .next ((s.ledgerEvent n 9 (s.missingChild n k) k 0).decideAbort n k 16)
  else .next s

/-- Chip numbers in increasing order (R565). -/
def ascending : List Nat → Bool
  | a :: b :: r => decide (a < b) && ascending (b :: r)
  | _ => true

/-- A member list that R565 admits: this package is in it, unless it is empty (log entry 14). -/
def State.membersOk (s : State) (l : List Nat) : Bool :=
  ascending l && decide (l.length ≤ 16384) && (l.isEmpty || l.contains s.chip)

/-- LEDGER_MEMBERS_WRITE (R565, R566): while no step of the tenant is open; the live set and the job epoch follow. A vote
that was not decided is formed again under the new epoch (log entry 15). -/
def execLedgerMembersWrite (sess n : Nat) (members : List Nat) (s : State) : Host.Outcome State Fault Refusal :=
  .next (s.guarded sess (0x7010 + n) 3 fun t =>
    let u := t.tenant n
    if !u.steps.isEmpty || !t.membersOk members then t
    else
      let t1 := (if members = u.members then t else t.bump (Obj.ledgerMembers n)).setTenant n { u with
        members := members, live := members, votes := [], ownVote := none, sentVote := false, unacked := [], reports := [],
        querying := false }
      ((t1.setReg (Obj.jobEpoch n) (t.reg Obj.membershipEpoch)).setReg (Obj.liveMembers n) members.length).setReg
        (Obj.ledgerRoot n) (members.headD 0xFFFF))

end Sys2Proof.Machine
end

