-- ==== Sys2Proof/Machine/Lift.lean ====
section
/-!
DEFINITION. Lift's instructions and events, the memory controllers' events and the tensor map (spec/10).
-/

namespace Sys2Proof.Machine

/-- The place a LIFT.CLAIM names (R341). Near 0 is the issuing core's cluster memory, or its die span where that lacks
room. -/
def State.liftPlace (s : State) (core : Nat) (w : LiftWord) (tier bytes home : Nat) : Nat × Place :=
  if tier = 1 then (if w.place = 1 then w.die else home, {})
  else if w.place = 0 then
    let pl : Place := ⟨1, core / 8 % 8, 0⟩
    if s.fits 0 (core / 64) pl bytes then (core / 64, pl) else (core / 64, {})
  else if w.place = 1 then (w.die, {})
  else if w.place = 2 then (w.die, ⟨1, w.cl, 0⟩)
  else (w.die, ⟨2, w.cl, w.co⟩)

/-- The cadence time a deadline field names (R341). -/
def State.deadlineAt (s : State) (d : Nat) : Option Nat :=
  if d = 0xFFFFFF then none else some (s.time.cad / 1024 * 1024 + d)

/-- The entry that slot X names (R341): an address no entry covers is an address fault; a versioned entry without flag V, or a
version that is not held, a version fault (R272, R273). The checks of R219 come first. It reads nothing, so it tags no micro-batch and
waits for nothing (log entry 10). -/
def State.liftEntry (s : State) (k : Work) (d : Desc) : Except OpFault (Nat × Entry) :=
  let off := offOf d.address
  if s.descFault k.tenant d then .error .descriptor
  else
  match if chipOf d.address ≠ s.chip || s.addrFault k.tenant d false then none else s.anyEntry k.tenant off with
  | none => .error .address
  | some p =>
    if !p.2.versioned then .ok p
    else if !d.v then .error .version
    else
      let tagged := match (s.tenant k.tenant).tags.find? fun g => g.microBatch == k.microBatch with
        | some g => g.version
        | none => s.curVersion k.tenant
      let sel : VSel := if d.vtag = 0xFFFE then .pending else .num (if d.vtag = 0xFFFF then tagged else d.vtag)
      match s.findEntry k.tenant off sel with
      | some q => .ok q
      | none => .error .version

/-- LIFT.CLAIM (R341): it does not wait; its token is outstanding until the claim is settled (R342). -/
def execLiftClaim (core ctx : Nat) (w : LiftWord) (s : State) : Host.Outcome State Fault Refusal :=
  .next (s.issue core ctx fun k t =>
    let unit := engineId core 3
    if w.tier = 0 ∨ w.tier = 3 ∨ w.x = 0 then t.faultCtx core ctx unit 5 8 0 0
    else if w.token ≠ 0 ∧ (t.ctx core ctx).token w.token ≠ .free then t.faultCtx core ctx unit 6 8 0 0
    else
      let d := t.descOf k w.x
      match t.liftEntry k d with
      | .error f => t.faultCtx core ctx unit f.cause 4 d.address 0
      | .ok (key, e) =>
        let tier := if w.tier = 1 then 1 else 0
        let (die, pl) := t.liftPlace core w tier e.bytes e.homeAt
        let (age, t1) := (t.setCtx core ctx ((t.ctx core ctx).setToken w.token .outstanding)).fresh
        t1.applyClaim key e
          { tenant := k.tenant, cid := w.cid, tier := tier, die := die, place := pl, deadline := t.deadlineAt w.deadline,
            token := if w.token = 0 then none else some (core, ctx, w.token), age := age })

/-- LIFT.DROP (R343): the claim of (tenant, CID) on the entry is removed at once. -/
def execLiftDrop (core ctx : Nat) (w : LiftWord) (s : State) : Host.Outcome State Fault Refusal :=
  .next (s.issue core ctx fun k t =>
    if w.x = 0 then t.faultCtx core ctx (engineId core 3) 5 8 0 0
    else
      let d := t.descOf k w.x
      match t.liftEntry k d with
      | .error f => t.faultCtx core ctx (engineId core 3) f.cause 4 d.address 0
      | .ok (key, _) => t.dropClaim key k.tenant w.cid)

/-- The queued move an engine starts next (R329): the nearest deadline, then the order of acceptance; an entry under an activation stack
is not moved (R235). -/
def State.nextMove (s : State) (die : Nat) : Option (Nat × Move) :=
  (s.moves.filter fun p => p.2.engine == die && !p.2.flying && !(match s.entry? p.2.entry with | some e => s.onStack e | none => false)).foldl (fun b p =>
    match b with
    | none => some p
    | some q =>
      let before := match p.2.deadline, q.2.deadline with
        | some x, some y => decide (x < y)
        | some _, none => true
        | _, _ => false
      if before then some p else some q) none

/-- The transfers of a move ask the arbiters with its deadline, or none (R329): at the sites of the copy it reads and of the one it
writes, one request for each site (log entry 107). -/
def State.askMove (s : State) (e : Entry) (m : Move) : State :=
  let dest := m.dest.getD e.homeCopy
  (e.current.sites ++ dest.sites).foldl (fun t q => t.ask q.1 q.2 (m.deadline.getD (2 ^ 64 - 1))) s

/-- LIFT_MOVE_START (R324, R326, R329): up to eight moves are in flight per engine; writes to the entry wait from now, and the move's
transfers ask the arbiters. Lift pauses in ride-through (R64). -/
def execLiftMoveStart (die : Nat) (s : State) : Host.Outcome State Fault Refusal :=
  if 8 ≤ s.flyingOn die ∨ s.reg Obj.supplyState = 1 then .next s
  else
    match s.nextMove die with
    | none => .next s.retryMoves
    | some (k, m) =>
      match s.entry? m.entry with
      | none => .next s
      | some e =>
        .next (((({ s with moves := Sparse.insert k { m with flying := true } s.moves }).setEntry m.entry
          { e with moving := true }).askMove e m).retryMoves)

/-- The poisoned lines of an allocation. -/
def State.poisonCount (s : State) (a : Nat) : Nat := (s.poison.filter fun p => p.1 / 2 ^ 26 = a).length

/-- LIFT_MOVE_COMMIT (R323, R327, R334, R342): every line is copied, poison included, and the destination is the committed
copy; the claims the promotion served complete their tokens. In ride-through Lift pauses between transfers (R64). -/
def execLiftMoveCommit (move : Nat) (s : State) : Host.Outcome State Fault Refusal :=
  match (s.moves.find? fun p => p.1 = move).map (·.2) with
  | none => .next s
  | some m =>
    if !m.flying || m.committed || s.reg Obj.supplyState == 1 then .next s
    else
      match s.entry? m.entry with
      | none => .next s
      | some e =>
        let src := e.committed
        let dst := match m.dest with | some u => u.alloc | none => e.homeAlloc
        let s1 := s.copyAlloc src dst
        let e1 : Entry := { e with upper := m.dest, dirty := if m.dest.isNone then false else e.dirty }
        let s2 := ({ s1 with moves := Sparse.insert move { m with committed := true, order := src, tokens := [] } s1.moves }).setEntry
          m.entry e1
        let s3 := (s2.addReg 64 (Obj.bytesMoved m.engine) e.bytes).addReg 32 (Obj.poisonCopiedCount m.engine)
          (s.poisonCount src)
        let s4 := match m.deadline with
          | some d => if d < s.time.cad then s3.count 32 (Obj.lateCommitCount m.engine) else s3
          | none => s3
        .next ((s4.settleTokens m.tokens 0).wakePromotion m.entry)

/-- LIFT_COMMIT_ACK (R325, R326, R328, R336): waiting writes may proceed, the source copy is freed, a removal that waited
takes effect, and the claims are evaluated again. -/
def execLiftCommitAck (move : Nat) (s : State) : Host.Outcome State Fault Refusal :=
  match (s.moves.find? fun p => p.1 = move).map (·.2) with
  | none => .next s
  | some m =>
    if !m.committed then .next s
    else
      let s1 := ({ s with moves := Sparse.erase move s.moves }).settleTokens m.tokens 0
      match s1.entry? m.entry with
      | none => .next s1
      | some e =>
        let s2 := s1.setEntry m.entry { e with moving := false }
        let s3 := if m.order = e.homeAlloc then s2 else s2.freeAlloc m.order false
        if e.removeAtCommit then .next (s3.removeEntry m.entry false).resumeHost
        else .next (s3.evaluate m.entry).resumeHost

/-- The errors of a line of a copy that its code corrects (R348, R349): the outer code's radius in bytes; in Near, one bit of a word. -/
def State.radiusOf (s : State) (u : Upper) : Nat := if u.tier = 0 then 1 else s.reg (Obj.correctionRadius u.die)

/-- The errors of a line that its code detects (R348, R349). -/
def State.detects (s : State) (u : Upper) : Nat := if u.tier = 0 then 2 else 8 - s.reg (Obj.correctionRadius u.die)

/-- The line's bytes are decoded wrongly (R348): the controller writes back 64 bytes that the spec does not state. -/
def State.garbleLine (s : State) (u : Upper) (line : Nat) : State :=
  let (vs, t) := State.drawMany 8 64 s
  t.wrBytes u.alloc (64 * line) (vs.map fun v => BitVec.ofNat 8 v)

/-- The entry and the copy of it that an allocation holds. -/
def State.copyIn (s : State) (alloc : Nat) : Option (Entry × Upper) :=
  s.entries.findSome? fun p =>
    match p.2.upper with
    | some u => if u.alloc = alloc then some (p.2, u) else if p.2.homeAlloc = alloc then some (p.2, p.2.homeCopy) else none
    | none => if p.2.homeAlloc = alloc then some (p.2, p.2.homeCopy) else none

/-- The background reader of a Main or Deep controller asks with no deadline (R351, R495); a Near memory has no such requester. -/
def State.askScrub (s : State) (u : Upper) (off : Nat) : State :=
  if u.tier = 1 then s.ask (0x50 + 5 * u.die + off / 256 % 3) 73 (2 ^ 64 - 1)
  else if u.tier = 2 then s.ask (0x53 + 5 * u.die + off / 256 % 2) 73 (2 ^ 64 - 1)
  else s

/-- BACKGROUND_SCRUB_READ (R348 to R351): a line of a home or upper copy whose errors the code corrects is written back and counted; one
whose errors it detects is poisoned and reported with the controller as master; one with more is detected or decoded wrongly (a free
value says which, log entry 124). The number is of bytes in error of a line of Main or Deep, and of bits in the worst word of a line of
Near. -/
def execBackgroundScrubRead (alloc line errors : Nat) (s : State) : Host.Outcome State Fault Refusal :=
  match s.copyIn alloc with
  | none => .next s
  | some (e, u) =>
    if e.lines ≤ line then .next s
    else
      let s1 := s.askScrub u (64 * line)
      let off := e.base + 64 * line
      let ctl := u.controller (64 * line)
      if errors = 0 then .next s1
      else if errors ≤ s.radiusOf u then .next (s1.copyError e u off ctl 0 true false)
      else if errors ≤ s.detects u then .next (s1.copyError e u off ctl 0 false false)
      else
        let (v, t) := s1.draw 1
        if v = 0 then .next (t.copyError e u off ctl 0 false false)
        else .next ((t.garbleLine u line).copyError e u off ctl 0 true false)

/-- HBM_RECALIBRATION (R352): timing recalibration behind refresh; no state the spec gives changes. -/
def execHbmRecalibration (s : State) : Host.Outcome State Fault Refusal := .next s

/-- DEEP_SELF_REFRESH (R353): only in READY with no tenant admitted, the Deep devices enter self-refresh. -/
def execDeepSelfRefresh (s : State) : Host.Outcome State Fault Refusal :=
  if s.device = devReady ∧ s.notFree.isEmpty then
    .next ((List.range 16).foldl (fun t i => t.setReg (Obj.deepState (i / 2) (i % 2)) 2) s)
  else .next s

/-! The tensor map -/

/-- The image region of a tensor space (R367). -/
def imageRegionLo : Nat := 0x3FFFFC0000000

/-- Two ranges of offsets meet. -/
def rangesMeet (b1 l1 b2 l2 : Nat) : Bool := decide (b1 < b2 + 64 * l2) && decide (b2 < b1 + 64 * l1)

/-- An entry of a map meets R315 and R318 for its tenant, but for room. -/
def State.mapEntryOk (s : State) (n : Nat) (m : MapEntry) : Bool :=
  m.tenant == n && decide (m.homeTier < 3) && decide (m.homeDie < 8) &&
  (m.homeTier != 0 || (m.pinned && decide (m.placeKind < 3) &&
    (m.placeKind != 2 || s.coreEnabled (m.homeDie * 64 + m.placeCluster * 8 + m.placeCore)))) &&
  !(m.shared && m.versioned) && m.base % 64 == 0 && decide (1 ≤ m.sizeLines) && decide (m.sizeLines ≤ 2 ^ 26) &&
  decide (m.base + 64 * m.sizeLines ≤ imageRegionLo) &&
  !(s.entries.any fun p => p.2.tenant == n && rangesMeet m.base m.sizeLines p.2.base p.2.lines)

/-- Buffers a versioned tensor has (R268, R282): 2 or 3. -/
def State.reserveOf (s : State) (n : Nat) : Nat := if s.reg (Obj.versionReserve n) = 3 then 3 else 2

/-- Add one buffer of a map entry (R318, R321): its home allocation is made and charged; none without room. -/
def State.addBuffer (s : State) (n : Nat) (m : MapEntry) (i : Nat) : Option State :=
  let bytes := 64 * m.sizeLines
  let pl : Place := ⟨m.placeKind, m.placeCluster, m.placeCore⟩
  if s.freeRoom m.homeTier n < bytes ∨ 262144 ≤ s.entries.length then none
  else if m.homeTier = 0 ∧ !s.fits 0 m.homeDie pl bytes then none
  else
    let die := s.homeDieFor m.homeTier m.homeDie bytes pl
    let s0 := if die ≠ m.homeDie then s.count 32 Obj.spillCount else s
    let (a, s1) := s0.allocate m.homeTier die pl bytes n
    let (key, s2) := s1.fresh
    let ne : Entry :=
      { base := m.base, lines := m.sizeLines, tensorId := m.tensorId, tenant := n, homeTier := m.homeTier,
        homeDie := m.homeDie, pinned := m.pinned, shared := m.shared, versioned := m.versioned, place := pl,
        shareMask := m.shareMask, bufIndex := i, bufState := if m.versioned && i == 0 then .current else .free,
        versions := if m.versioned && i == 0 then [s2.curVersion n] else [], homeAlloc := a, homeAt := die }
    some { s2 with entries := Sparse.insert key ne s2.entries }

/-- Add a map entry: one buffer, or version_reserve buffers (R318). -/
def State.addMapEntry (s : State) (n : Nat) (m : MapEntry) : Option State :=
  if !s.mapEntryOk n m then none
  else
    (List.range (if m.versioned then s.reserveOf n else 1)).foldl (fun t i => t.bind fun u => u.addBuffer n m i) (some s)

/-- Add a list of map entries, all or none. -/
def State.addMap (s : State) (n : Nat) (ms : List MapEntry) : Option State :=
  ms.foldl (fun t m => t.bind fun u => u.addMapEntry n m) (some s)

/-- Remove the entries at a base (R358); a moving entry goes at its move's commit (R328). -/
def State.removeBase (s : State) (n base : Nat) : Option State :=
  let es := s.entries.filter fun p => p.2.tenant == n && p.2.base == base
  if es.isEmpty || es.any (fun p => p.2.image) then none
  else some (es.foldl (fun t p =>
    if p.2.moving then t.setEntry p.1 { p.2 with removeAtCommit := true } else t.removeEntry p.1 false) s)

/-- Apply a tensor_map write to an admitted tenant with no step open: whole or not at all (R358). -/
def State.writeMap (s : State) (n : Nat) (ms : List MapEntry) : Option State :=
  if (s.tenant n).state ≠ 1 ∨ !(s.tenant n).steps.isEmpty then none
  else ms.foldl (fun t m => t.bind fun u =>
    if imageRegionLo ≤ m.base then none
    else if m.sizeLines = 0 then u.removeBase n m.base else u.addMapEntry n m) (some s)

/-- TENSOR_MAP_WRITE (R358): applied whole or not at all; a write that is not applied is counted. -/
def execTensorMapWrite (sess n : Nat) (entries : List MapEntry) (s : State) : Host.Outcome State Fault Refusal :=
  .next (s.guarded sess (0x3030 + n) 1 fun t =>
    match t.writeMap n entries with
    | some u => u
    | none => t.count 32 (Obj.mapRejectCount n))

/-- The work on a context belongs to the step after the oldest uncommitted one, so that its writes to pending versions wait (R569). -/
def State.stepAhead (s : State) (core ctx : Nat) : Bool :=
  match s.ctxWork core ctx with
  | some (_, k) => k.stepOf == some (s.oldestStep k.tenant + 1)
  | none => false

/-- VERSION_WRITE_RESUME (R274, R569): a context that waits to write a pending version is ready again once a buffer is free, and one that
waits for its step's turn once that step is the oldest uncommitted one; its instruction issues again. -/
def execVersionWriteResume (core ctx : Nat) (s : State) : Host.Outcome State Fault Refusal :=
  let y := s.ctx core ctx
  let may : Bool := match y.waits with
    | .version a =>
      (match s.entries.find? fun p => p.2.homeAlloc == a with
      | some (_, v) => s.entries.any fun p => p.2.sameTensor v.tenant v.base && (p.2.bufState == .free || p.2.bufState == .pending)
      | none => true) && !s.stepAhead core ctx
    | .turn => !s.stepAhead core ctx
    | _ => false
  .next (if y.state = 3 ∧ may then s.setCtx core ctx { y with state := 1, waits := .nothing } else s)

/-- TAG_WAIT_END (R276): a context that waits for tag room is ready again once a tag of its tenant has been released and there is room. -/
def execTagWaitEnd (core ctx : Nat) (s : State) : Host.Outcome State Fault Refusal :=
  let y := s.ctx core ctx
  match s.ctxWork core ctx with
  | none => .next s
  | some (_, k) =>
    if y.state = 3 ∧ y.waits = .tag true ∧ (s.tenant k.tenant).tags.length < s.reg (Obj.tagQuota k.tenant) ∧
        s.liveTags < 16384 then
      .next (s.setCtx core ctx { y with state := 1, waits := .nothing })
    else .next s

end Sys2Proof.Machine
end

