-- ==== Sys2Proof/Machine/PerturbOps.lean ====
section
/-!
DEFINITION. The perturbation objects (R631 to R633): their return to default, and the mask of those in use.
-/

namespace Sys2Proof.Machine

/-- The index of a register's object. -/
def regIndex (k : Nat) : Nat := k / 256

/-- The row of R633 a perturbation object belongs to, counted from 0. -/
def perturbRow (k : Nat) : Option Nat :=
  let i := regIndex k
  if i = 0xC010 then some 0
  else if 0xC020 ≤ i ∧ i ≤ 0xC02F then some 1
  else if 0xC040 ≤ i ∧ i ≤ 0xC043 then some 2
  else if 0xC030 ≤ i ∧ i ≤ 0xC03F then some 3
  else if 0xC100 ≤ i ∧ i ≤ 0xC1FF then some 4
  else if 0xC210 ≤ i ∧ i ≤ 0xC213 then some 6
  else if i = 0xC220 then some 7
  else none

/-- perturb_active (R637): bit k is set while perturbation k is not at its default. -/
def State.perturbActive (s : State) : Nat :=
  let m := s.regs.foldl (fun a p => match perturbRow p.1 with | some r => a ||| 2 ^ r | none => a) 0
  if s.injections.isEmpty then m else m ||| 2 ^ 5

/-- Every perturbation returns to its default and waiting injections are discarded (R632). -/
def State.clearPerturb (s : State) : State :=
  { s with regs := s.regs.filter (fun p => (perturbRow p.1).isNone), injections := [] }

/-- May the perturbation objects be written (R631)? -/
def State.perturbAllowed (s : State) : Bool := s.notFree.isEmpty || s.reg Obj.testMode == 1

end Sys2Proof.Machine
end

