-- ==== Sys2Proof/Machine/Startup.lean ====
section
/-!
DEFINITION. Start-up, resets, the firmware image and the keys (R678 to R699).
-/

namespace Sys2Proof.Machine

/-! What a reset keeps (R692, R694) -/

/-- Counters kept since power-on (log entry 18). -/
def sincePowerOn (k : Nat) : Bool :=
  let i := k / 256
  (decide (0x4020 ≤ i) && decide (i ≤ 0x402F)) || k == Obj.rideThroughCount || k == Obj.throttleCount ||
  (decide (0x4110 ≤ i) && decide (i ≤ 0x4117)) || (decide (0x4330 ≤ i) && decide (i ≤ 0x4337)) ||
  (decide (0x3040 ≤ i) && decide (i ≤ 0x3047) && k % 256 == 3) || (decide (0x5150 ≤ i) && decide (i ≤ 0x5153)) ||
  (decide (0x5810 ≤ i) && decide (i ≤ 0x5813) && k % 256 == 2) || k == Obj.coreResetCount

/-- What a package reset keeps of the registers (R692): the configuration block, uptime, the counters since power-on, and the cause of
the stop before it (R68). -/
def packageKeeps (k : Nat) : Bool := inConfigBlock k || sincePowerOn k || k == Obj.uptime || k == Obj.lastStopCause

/-- The link domain's objects (R27, R694): cadence, lanes and ports, drawings, membership, Ethernet links; and what a core out
of service keeps until a package reset (R618, R683). -/
def linkDomain (k : Nat) : Bool :=
  let i := k / 256
  (decide (0x2000 ≤ i) && decide (i ≤ 0x2002)) || k == Obj.lastStopCause || (decide (0x5000 ≤ i) && decide (i ≤ 0x52FF)) ||
  (decide (0x6000 ≤ i) && decide (i ≤ 0x6063) && !(i == 0x6021) && !(decide (0x6040 ≤ i) && decide (i ≤ 0x6043))) || i == 0x7000 ||
  (decide (0x5906 ≤ i) && decide (i ≤ 0x590B)) || k == Obj.selfTestFailed

/-- What a core reset keeps of the registers (R694). -/
def coreKeeps (k : Nat) : Bool := packageKeeps k || linkDomain k

/-! Power (R679, R680, R68) -/

/-- POWER_GOOD (R679, R61, R68, R77): from OFF to BOOT; uptime starts again, only flash and fuses are kept, and the cause of an
orderly stop reads in last_stop_cause. -/
def execPowerGood (s : State) : Host.Outcome State Fault Refusal :=
  if s.device ≠ devOff then .next s
  else
    let s1 := s.reborn inConfigBlock s.dev.persist
    .next ((s1.setReg Obj.lastStopCause s.dev.stopCauseFlash).enter devBoot)

/-- POWER_LOSS (R679, R77, R688): to OFF from any state. -/
def execPowerLoss (s : State) : Host.Outcome State Fault Refusal :=
  if s.device = devOff then .next s
  else .next s.powerOff

/-! The image check (R685, R686) -/

/-- The bytes the digest and the signatures cover: 0x200 to image_bytes − 1 (R685). -/
def imgSigned (i : FwImage) : List Byte := i.body.take (i.imageBytes - 0x200)

/-- The header is well formed (R685 item 1, R686). -/
def imgHeaderOk (i : FwImage) : Bool :=
  i.magic == 0x5A514638 && i.format == 1 && decide (0x200 ≤ i.imageBytes) && decide (i.imageBytes ≤ 192 * 2 ^ 20) &&
  decide (i.imageBytes ≤ 0x200 + i.body.length)

/-- The vendor's key and signature (R685 items 2 and 3). -/
def imgVendorOk (i : FwImage) : Bool :=
  sha256 i.vendorKey == Config.vendorKeyHash && ecdsaVerify i.vendorKey (sha256 (imgSigned i)) i.vendorSignature

/-- The owner's signature by a key of a hash (R685 item 4, R698). -/
def imgOwnerOk (i : FwImage) (hash : List Byte) : Bool :=
  sha256 i.ownerKey == hash && ecdsaVerify i.ownerKey (sha256 (imgSigned i)) i.ownerSignature

/-- The check of R685: 0 when the image passes, else the code of update_state (R704). -/
def Dev.checkImage (d : Dev) (i : FwImage) : Nat :=
  if !imgHeaderOk i then 5
  else if !imgVendorOk i then 3
  else if d.ownerFused && !imgOwnerOk i d.ownerHash then 3
  else if i.securityVersion < d.fuseCount ∨ 64 < i.securityVersion then 4
  else 0

/-! Start-up stages (R682) -/

/-- The stages a stage follows (R682); in a core reset stages 7 and 8 wait for stage 2 (R694). -/
def stageFollows : Nat → List Nat
  | 2 => [1]
  | 3 => [2]
  | 4 => [2]
  | 5 => [2]
  | 6 => [2]
  | 7 => [2, 4]
  | 8 => [2, 3, 4]
  | 9 => [5]
  | _ => []

/-- Is a stage in progress? -/
def State.stageRuns (s : State) (k : Nat) : Bool :=
  decide (1 ≤ k) && decide (k ≤ 9) && !s.dev.stages.contains k && (stageFollows k).all fun j => s.dev.stages.contains j

/-- boot_stage (R703): the lowest stage in progress, 0 none. -/
def State.bootStageNow (s : State) : Nat :=
  if s.device = devBoot then ((List.range 10).find? fun k => s.stageRuns k).getD 0 else 0

/-- boot_failure (R703): stage, reason, unit. -/
def State.bootFailed (s : State) (stage reason unit : Nat) : State :=
  s.setReg Obj.bootFailure (stage + reason * 256 + unit * 65536)

/-- Once every stage has ended the package is READY (R682). -/
def State.settleBoot (s : State) : State :=
  if (List.range 9).all fun i => s.dev.stages.contains (i + 1) then (s.enter devReady).setReg Obj.readyUptime s.up else s

/-- A stage ends; with stage 5 the base lanes begin to come up (R682, R442). -/
def State.endStage (s : State) (k : Nat) : State :=
  let s1 : State := { s with dev := { s.dev with stages := s.dev.stages ++ [k] } }
  (if k = 5 then s1.bringUpBase else s1).settleBoot

/-- The configuration block fails its digest: it is replaced by defaults (R691). -/
def State.dropConfig (s : State) (unit : Nat) : State :=
  ({ s with regs := s.regs.filter (fun p => !inConfigBlock p.1),
            dev := { s.dev with keySlots := [] } }).bootFailed 2 4 unit

/-- Stage 2 (R685, R691): an image that fails sends the package to RECOVERY; one that passes runs. -/
def State.endImageStage (s : State) (configUnit : Option Nat) : State :=
  let s1 := match configUnit with
    | some u => s.dropConfig u
    | none => s
  if s1.dev.flashGood && s1.dev.checkImage s1.dev.flash == 0 then
    ({ s1 with dev := { s1.dev with running := some s1.dev.flash } }).endStage 2
  else (s1.bootFailed 2 3 0xC000).enter devRecovery

/-- Cores that fail their self-test leave service (R683, R618). -/
def State.failCores (s : State) (cs : List Nat) : State :=
  cs.foldl (fun t c =>
    (t.setCore c { t.core c with outOfService := true }).setReg Obj.selfTestFailed
      (t.reg Obj.selfTestFailed ||| 2 ^ (c % 512))) s

/-- BOOT_STAGE_COMPLETE (R682 to R685, R691, R26, R354): in BOOT, a stage in progress ends, or fails. A unit named at stage 3 or
4 cannot be trained and holds the package in BOOT; one named at stage 2 is the configuration block's. -/
def execBootStageComplete (stage : Nat) (failedUnit : Option Nat) (failedCores : List Nat) (s : State) :
    Host.Outcome State Fault Refusal :=
  if s.device ≠ devBoot ∨ !s.stageRuns stage then .next s
  else if stage = 2 then .next (s.endImageStage failedUnit)
  else if stage = 7 then .next ((s.failCores failedCores).endStage 7)
  else if stage = 8 then .next ({ s with mem := [], poison := [] }.endStage 8)
  else
    match failedUnit with
    | some u => .next (if stage = 3 then s.bootFailed 3 1 u else if stage = 4 then s.bootFailed 4 2 u else s.endStage stage)
    | none => .next (s.endStage stage)

/-! Resets (R692 to R694) -/

/-- The arbiters of the ports and the die links (R495), which sit in the switches of the link domain: a core reset keeps their settings in
force, pointers and held requests (log entry 134). -/
def linkSite (site : Nat) : Bool := decide (site < 0x4C)

/-- A core reset (R694): HUB and the clusters restart, every tenant is free, every tier zeroed, every session ended; the link
domain, the life table, the cadence unit and the drawings go on. -/
def State.coreReset (s : State) : State :=
  let f := s.fabric
  let d := s.dev.persist
  let s1 := s.reborn coreKeeps { d with
    stages := [1, 3, 4, 5, 6, 9], lastLogged := s.dev.lastLogged, lastWatchdog := s.dev.lastWatchdog,
    watchdogReset := s.dev.watchdogReset, secondFaults := s.dev.secondFaults }
  let s2 : State := { s1 with
    time := { s.time with events := [] },
    replays := s.replays, lasers := s.lasers, ports := s.ports, heaters := s.heaters, heaterCoefs := s.heaterCoefs, life := s.life, watches := s.watches,
    rejoinHeard := s.rejoinHeard, eth := { s.eth with qps := [] },
    cores := Sparse.mapAll {} (fun _ c => { outOfService := c.outOfService }) s.cores,
    links := s.links,
    fabric := { store := f.store, inForce := f.inForce, previous := f.previous, changedAt := f.changedAt,
                avoided := f.avoided, transit := f.transit, settings := f.settings.filter fun p => linkSite p.1,
                asks := f.asks.filter fun a => linkSite a.1, pointers := f.pointers.filter fun p => linkSite p.1 } }
  ((s2.setReg Obj.lastResetKind 2).count 32 Obj.coreResetCount).enter devBoot

/-- A package reset begins (R493, R592, R692): the departure notice fences this package, and transit drains. -/
def State.packageReset (s : State) : State :=
  let v := s.lifeOf s.chip
  let s1 := if v % 2 = 0 ∧ s.chip < 16384 then s.setLife s.chip (v + 1) else s
  (s1.emit (.departure s.chip)).enter devDraining

/-- A requested reset is carried out (R693): 1 a core reset, not in FENCED, 2 a package reset. -/
def State.runReset (s : State) (kind : Nat) : State :=
  if kind = 1 then (if s.isUp then s.coreReset else s)
  else if s.isUp ∨ s.device = devFenced then s.packageReset
  else s

/-- A write of device_reset (R688, R693): it waits for a flash write to end, and is not applied while a reset waits. -/
def State.requestReset (s : State) (kind : Nat) : State :=
  if s.dev.resetWaiting.isSome then s
  else if !s.isUp && (kind == 1 || s.device != devFenced) then s
  else if s.dev.writing.isSome then { s with dev := { s.dev with resetWaiting := some kind } }
  else s.runReset kind

/-- CORE_RESET (R693, R694). -/
def execCoreReset (sess : Nat) (s : State) : Host.Outcome State Fault Refusal :=
  .next (s.guarded sess 0x1000 4 fun t => t.requestReset 1)

/-- PACKAGE_RESET (R692, R693). -/
def execPackageReset (sess : Nat) (s : State) : Host.Outcome State Fault Refusal :=
  .next (s.guarded sess 0x1000 4 fun t => t.requestReset 2)

/-- A laser retired until the next power-on stays retired (R432). -/
def State.keepRetired (s old : State) : State :=
  ((List.range 144).filter fun i => (old.laser (i / 9) (i % 9)).lost).foldl (fun t i =>
    (t.setLaser (i / 9) (i % 9) { lost := true }).setReg (Obj.laneState (i / 9) (i % 9)) 7) s

/-- DRAIN_END (R493, R692): the lasers go off and the package restarts; its own life stays odd (R681, log entry 19). -/
def execDrainEnd (s : State) : Host.Outcome State Fault Refusal :=
  if s.device ≠ devDraining then .next s
  else
    let s1 := s.emit .lasersOff
    let s2 := (s1.reborn packageKeeps s1.dev.persist).keepRetired s
    let s3 := s2.setLife s.chip (s.lifeOf s.chip)
    .next ((s3.setReg Obj.lastResetKind 1).enter devBoot)

/-! The firmware image (R687 to R690) -/

/-- FIRMWARE_UPDATE (R687, R689): in READY or RECOVERY, while no write runs; an image that fails its check is not applied and
update_state says why; one that passes is written to flash. -/
def execFirmwareUpdate (sess : Nat) (img : FwImage) (s : State) : Host.Outcome State Fault Refusal :=
  .next (s.guarded sess 0x1010 1 fun t =>
    if (t.device ≠ devReady ∧ t.device ≠ devRecovery) ∨ t.dev.writing.isSome then t.setReg Obj.updateState 5
    else
      let code := t.dev.checkImage img
      if code = 0 then ({ t with dev := { t.dev with writing := some img } }).setReg Obj.updateState 1
      else t.setReg Obj.updateState code)

/-- A reset that waited for the flash write follows it (R688). -/
def State.resumeReset (s : State) : State :=
  match s.dev.resetWaiting with
  | none => s
  | some k => ({ s with dev := { s.dev with resetWaiting := none } }).runReset k

/-- FLASH_WRITE_COMPLETE (R687 to R689): the new image is in flash, and in RECOVERY it is started at stage 2; after a failed
write the spec does not say whether flash holds a valid image (log entry 2). -/
def execFlashWriteComplete (ok : Bool) (s : State) : Host.Outcome State Fault Refusal :=
  match s.dev.writing with
  | none => .next s
  | some img =>
    if ok then
      let s1 := ({ s with dev := { s.dev with flash := img, flashGood := true, writing := none } }).setReg Obj.updateState 2
      let s2 := if s1.device = devRecovery then ({ s1 with dev := { s1.dev with stages := [1] } }).enter devBoot else s1
      .next s2.resumeReset
    else
      let (v, s1) := s.draw 1
      let s2 := ({ s1 with dev := { s1.dev with flashGood := v == 1, writing := none } }).setReg Obj.updateState 6
      .next s2.resumeReset

/-- ROLLBACK_COMMIT (R690): 1 blows bits up to the running image's security_version, when that exceeds the count. -/
def execRollbackCommit (sess value : Nat) (s : State) : Host.Outcome State Fault Refusal :=
  .next (s.guarded sess 0x1010 6 fun t =>
    match t.dev.running with
    | some i =>
      if value = 1 ∧ t.dev.fuseCount < i.securityVersion then { t with dev := { t.dev with fuseCount := i.securityVersion } }
      else t
    | none => t)

/-! Keys (R697 to R699) -/

/-- Every session opened through a key slot ends. -/
def State.endSlotSessions (s : State) (slot : Nat) : State :=
  { s with sessions := s.sessions.filter fun x => x.keySlot != slot }

/-- OWNER_KEY_FUSE (R698): once, and only when the running image carries a valid owner signature by a key of that hash; the
sessions opened through slot 0 end. -/
def execOwnerKeyFuse (sess : Nat) (hash : List Byte) (s : State) : Host.Outcome State Fault Refusal :=
  .next (s.guarded sess 0xB000 4 fun t =>
    match t.dev.running with
    | some i =>
      if !t.dev.ownerFused && imgOwnerOk i hash then
        ({ t with dev := { t.dev with ownerFused := true, ownerHash := hash } }).endSlotSessions 0
      else t
    | none => t)

/-- May a key slot hold this record (R699)? -/
def slotOk (k : KeySlot) : Bool :=
  decide (k.role < 4) && decide (k.tenant ≤ 15) && k.hash.length == 32 && !(k.valid && k.hash.all fun b => b == 0)

/-- No key: what an unwritten slot holds (R705). -/
def emptySlot : KeySlot := { hash := List.replicate 32 0, role := 0, tenant := 0, valid := false }

/-- A key slot's record. -/
def State.keySlot (s : State) (slot : Nat) : KeySlot :=
  if slot = 0 then
    { hash := if s.dev.ownerFused then s.dev.ownerHash else Config.provisioningKeyHash, role := roleOwner, tenant := 0,
      valid := true }
  else Sparse.get emptySlot slot s.dev.keySlots

/-- KEY_SLOT_WRITE (R699): slots 1 to 31; a change ends the sessions opened through the slot. -/
def execKeySlotWrite (sess slot : Nat) (ks : KeySlot) (s : State) : Host.Outcome State Fault Refusal :=
  .next (s.guarded sess 0xB010 (slot + 1) fun t =>
    if slot = 0 ∨ 31 < slot ∨ !slotOk ks ∨ t.keySlot slot = ks then t
    else ({ t with dev := { t.dev with keySlots := Sparse.set emptySlot slot ks t.dev.keySlots } }).endSlotSessions slot)

/-! Attestation (R695, R696) -/

/-- fuse_view, fuse_digest and config_digest (R697, R691). -/
def State.fuseView (s : State) : List Byte := toBytes 256 (Config.fuseView s.dev.ownerHash s.dev.fuseCount).toNat
def State.fuseDigest (s : State) : List Byte := sha256 s.fuseView
def State.configDigest (s : State) : List Byte :=
  toBytes 32 (Config.configDigest (s.regs.filter fun p => inConfigBlock p.1) s.dev.keySlots).toNat

/-- The bytes 0x00 to 0xBF of an attestation report (R696). -/
def State.reportBody (s : State) (nonce : List Byte) : List Byte :=
  let i := s.dev.running
  let digest := match i with | some v => v.digest | none => List.replicate 32 0
  toBytes 2 1 ++ toBytes 1 s.device ++ toBytes 1 s.dev.fuseCount ++ toBytes 2 s.chip ++ toBytes 2 s.enabledCores ++
  toBytes 8 s.up ++ toBytes 8 s.cadNow ++ nonce ++ digest ++ s.configDigest ++ s.fuseDigest ++
  toBytes 4 (match i with | some v => v.firmwareVersion | none => 0) ++
  toBytes 1 (match i with | some v => v.securityVersion | none => 0) ++ toBytes 1 (b2n s.dev.ownerFused) ++ toBytes 2 0 ++
  toBytes 8 Config.serialDigest ++ toBytes 24 0

/-- The signed report (R696), by the identity key with a secret number. -/
def State.attest (s : State) (nonce : List Byte) (k : Nat) : List Byte :=
  let b := s.reportBody nonce
  b ++ ecdsaSign Config.identityKey (1 + k % (ecN - 1)) (sha256 b)

/-- ATTESTATION_NONCE (R696): the session's own report, in any role; a new nonce replaces it. -/
def execAttestationNonce (sess : Nat) (nonce : List Byte) (s : State) : Host.Outcome State Fault Refusal :=
  .next (s.guarded sess 0xB020 1 fun t =>
    if nonce.length ≠ 32 then t
    else
      let (k, t1) := t.draw 256
      match t1.session? sess with
      | some x => t1.setSession { x with report := t1.attest nonce k }
      | none => t)

end Sys2Proof.Machine
end

