-- ==== Sys2Proof/Machine/Faults.lean ====
section
/-!
DEFINITION. Faults from outside the other families (R613 to R630) and the perturbation commands (R631 to R635).
-/

namespace Sys2Proof.Machine

/-- The core a compute die's block belongs to (R28): groups 0 to 7 hold a cluster's cores, eight units each. -/
def coreOfUnit (u : Nat) : Option Nat :=
  if unitDie u < 8 ∧ unitGroup u < 8 then some (unitDie u * 64 + unitGroup u * 8 + unitUnit u / 8) else none

/-- An uncorrected-contained error that reaches work on a core's context faults that context (R613, R394). -/
def State.faultReached (s : State) (r : FaultRep) : State :=
  match r.work, coreOfUnit r.reporter with
  | some (_, x, _), some c =>
    if r.cls = 2 ∧ (s.ctxWork c x).isSome then s.stopFaulted c x r.reporter r.access else s
  | _, _ => s

/-- The line that an uncorrectable memory error names is poisoned (R350): of the work's tenant, else of the first entry that
covers it. -/
def State.poisonNamed (s : State) (r : FaultRep) : State :=
  if r.cls = 2 ∧ r.cause = 2 ∧ r.address / 2 ^ 50 = s.chip then
    let off := r.address % 2 ^ 50
    let e : Option Entry := match r.work with
      | some (n, _, _) => (s.findEntry n off .plain).map (·.2)
      | none => (s.entries.find? fun p => p.2.covers off && p.2.selects .plain).map (·.2)
    match e with
    | some v => s.setPoison v.committed ((off - v.base) / 64) true
    | none => s
  else s

/-- A device's inner-code report is counted against it by its controller (R346, R352, R353, R360): a corrected error, or uncorrectable
data. -/
def State.countInner (s : State) (r : FaultRep) : State :=
  if unitDie r.reporter < 8 ∧ unitGroup r.reporter = 16 ∧ ((r.cls = 1 ∧ r.cause = 1) ∨ (r.cls = 2 ∧ r.cause = 2)) then
    s.countDevice (unitDie r.reporter) (unitUnit r.reporter) (r.cls == 1)
  else s

/-- The partitions of a core's mode. -/
def partsOf (mode : Nat) : List Nat := (List.range 4).filter (partOk mode)

/-- A partition-local fault of an error in its cells or region (R126, R144): counted, and every context that it runs is faulted and
drained. -/
def State.partitionErrors (s : State) (c : Nat) (r : FaultRep) (parts : List Nat) : State :=
  parts.foldl (fun t p =>
    let xs := (((t.core c).issued.filter fun i => i.part == p).map (·.ctx)).eraseDups
    xs.foldl (fun u x => (u.modCore c fun v => v.drain x (v.running x)).stopFaulted c x r.reporter r.access)
      (t.count 32 (Obj.partitionFaultCount c))) s

/-- An uncorrectable error in a core's accumulator memory, weight planes or side memory poisons the entry or the plane that the report
names; in the first two it is a partition-local fault against the partition that owns the row or the cells (R126, R144, R208). -/
def State.poisonSite (s : State) (r : FaultRep) (site : ErrSite) : State :=
  match coreOfUnit r.reporter with
  | none => s
  | some c =>
    let e := r.reporter % 8
    if r.cls ≠ 2 ∨ r.cause ≠ 2 then s
    else
      let v := s.core c
      match site with
      | .accumulator row col =>
        if e ≠ 7 then s
        else
          let own := (partsOf v.mode).filter fun p =>
            let (lo, k) := partRows v.mode p
            decide (lo ≤ row) && decide (row < lo + k) && (partHalves v.mode p).contains (col / 32)
          (s.setCore c { v with accBad := Sparse.set 0 (row * 64 + col) 1 v.accBad }).partitionErrors c r own
      | .plane part which =>
        if e ≠ 0 ∨ !partOk v.mode part then s
        else
          let p := Sparse.get {} part v.planes
          let p1 : Plane := if which = 0 then { p with badA := true } else { p with badB := true }
          (s.setCore c { v with planes := Sparse.set {} part p1 v.planes }).partitionErrors c r [part]
      | .side entry => if e ≠ 2 then s else s.setCore c { v with sidePoison := Sparse.set 0 entry 1 v.sidePoison }
      | .elsewhere => s

/-- FAULT_REPORT (R126, R144, R208, R346, R613, R619 to R629): collected, latched, counted, delivered and logged; what it reaches is
faulted or poisoned; a fatal one stops the package in order. Off or halted, there is nobody to report to. -/
def execFaultReport (f : SiteFault) (s : State) : Host.Outcome State Fault Refusal :=
  let r := f.rep
  if s.device = devOff ∨ s.device = devHalted then .next s
  else .next (((((s.countInner r).poisonNamed r).poisonSite r f.site).faultReached r).report
    (if r.cause = 21 then { r with cls := 3 } else r))

/-- A core leaves service (R618): its work completes with status 1. -/
def State.retireCore (s : State) (c : Nat) : State :=
  let s1 := s.setCore c { s.core c with outOfService := true }
  (List.range 4).foldl (fun t x => if (t.ctxWork c x).isSome then t.stopCtx c x 1 else t) s1

/-- The bit of cluster_wiring a block has (R638), and the cluster. -/
def wiringBit (u : Nat) : Option (Nat × Nat) :=
  if unitDie u < 8 ∧ unitGroup u < 8 then some (unitGroup u, unitUnit u)
  else if unitDie u < 8 ∧ unitGroup u < 16 ∧ unitUnit u < 4 then some (unitGroup u - 8, 64 + unitUnit u)
  else none

/-- What a pair of error lines says in a cycle (R616). -/
inductive PairState where
  | idle
  | error
  | invalid
  deriving DecidableEq, Repr

/-- Decode a pair, true line first (R616). -/
def pairState (p : Bool × Bool) : PairState :=
  match p with
  | (false, true) => .idle
  | (true, false) => .error
  | _ => .invalid

/-- A pair is invalid for 4 consecutive cycles (R616, log entry 161). -/
def heldInvalid : List (Bool × Bool) → Bool
  | a :: b :: c :: d :: r =>
    ([a, b, c, d].all fun p => pairState p == .invalid) || heldInvalid (b :: c :: d :: r)
  | _ => false

/-- WIRING_FAULT (R616 to R618): a block's pair over some cycles, oldest first; invalid for 4 consecutive ones it is latched, reported
with cause 13; a core's block takes the core out of service, a block of the cluster takes every core of the cluster. -/
def execWiringFault (w : PairCycles) (s : State) : Host.Outcome State Fault Refusal :=
  let unit := w.unit
  match wiringBit unit with
  | none => .next s
  | some (cl, b) =>
    if s.device = devOff ∨ s.device = devHalted ∨ heldInvalid w.cycles = false then .next s
    else
      let k := Obj.clusterWiring (unitDie unit) cl
      let s1 := s.setLatch k ((s.latch k).hit (2 ^ b))
      let first := unitDie unit * 64 + cl * 8
      let cs := if b < 64 then [first + b / 8] else (List.range 8).map fun i => first + i
      .next ((cs.foldl (fun t c => t.retireCore c) s1).report (blockReport 2 13 unit))

/-- An expiry within 10 s after a watchdog's core reset is fatal (R630). -/
def State.afterWatchdogReset (s : State) : Bool :=
  match s.dev.watchdogReset with
  | some t => decide (s.up < t + 10000000000)
  | none => false

/-- A second expiry of the package within 1 s of the first (R630). -/
def State.secondExpiry (s : State) : Bool :=
  match s.dev.lastWatchdog with
  | some t => decide (s.up ≤ t + 1000000000)
  | none => false

/-- WATCHDOG_EXPIRY (R630): counted and reported with cause 18; the second within 1 s brings a core reset; one within 10 s of
such a reset is fatal. -/
def execWatchdogExpiry (proc : Nat) (s : State) : Host.Outcome State Fault Refusal :=
  if s.device = devOff ∨ s.device = devHalted ∨ s.device = devRecovery then .next s
  else
    let s1 := s.count 32 Obj.watchdogCount
    let unit := 0xC000 + proc
    if s.afterWatchdogReset then .next (s1.report (blockReport 3 18 unit))
    else
      let second := s.secondExpiry
      let s2 := { s1 with dev := { s1.dev with lastWatchdog := if second then none else some s.up } }.report
        (blockReport 2 18 unit)
      if second && s2.isUp then
        .next ({ s2 with dev := { s2.dev with watchdogReset := some s.up } }.coreReset)
      else .next s2

/-- TEST_MODE_WRITE (R631, R632): by the Owner; values other than 1 are 0, and a 0 with a tenant admitted returns every
perturbation to its default. -/
def execTestModeWrite (sess value : Nat) (s : State) : Host.Outcome State Fault Refusal :=
  .next (s.guarded sess 0xC000 1 fun t =>
    if value = 1 then t.setReg Obj.testMode 1
    else
      let t1 := t.setReg Obj.testMode 0
      if t.notFree.isEmpty then t1 else t1.clearPerturb)

/-- PERTURB_STOP (R631, R632): 1 returns every perturbation to its default. -/
def execPerturbStop (sess value : Nat) (s : State) : Host.Outcome State Fault Refusal :=
  .next (s.guarded sess 0xC000 3 fun t => if value = 1 then t.clearPerturb else t)

/-- MEMORY_INJECT (R631, R633, R639): up to 16 lines of this package wait for their next read. -/
def execMemoryInject (sess address kind : Nat) (s : State) : Host.Outcome State Fault Refusal :=
  .next (s.guarded sess 0xC200 1 fun t =>
    if t.perturbAllowed && address / 2 ^ 50 == t.chip && (kind == 1 || kind == 2) && decide (t.injections.length < 16) then
      { t with injections := t.injections ++ [{ address := address % 2 ^ 50, kind := kind }] }
    else t)

end Sys2Proof.Machine
end

