-- ==== Sys2Proof/Machine/Members.lean ====
section
/-!
DEFINITION. Patrol and membership: the commands of R588 to R598.
-/

namespace Sys2Proof.Machine

/-- What one base lane's watcher knows (R589). -/
def State.watch (s : State) (lane : Nat) : Watch := Sparse.get {} lane s.watches

/-- Replace it. -/
def State.setWatch (s : State) (lane : Nat) (w : Watch) : State := { s with watches := Sparse.set {} lane w s.watches }

/-- The watched lanes (R589): those a package is heard on. -/
def State.watchedLanes (s : State) : List Nat := (List.range 10).filter fun i => (s.baseFrom i).isSome

/-- HUB's firmware runs Patrol: READY to FENCED. -/
def State.patrols (s : State) : Bool := decide (devReady ≤ s.device) && decide (s.device ≤ devFenced)

/-- A beacon's status (R588), none while the package sends no beacons: it is off, halted or has never been up since power-on
(log entry 16). The photonic dies go on sending during a core reset (R492). -/
def State.beaconStatus (s : State) : Option Nat :=
  if s.device = devFenced then some 2
  else if s.device = devDraining then some 3
  else if s.device = devBoot ∧ s.reg Obj.lastResetKind = 2 then some 1
  else if s.isUp then some (if s.fenced s.chip then 4 else 0)
  else none

/-- The first 8 bytes of the digest of the life table (R588). -/
def State.lifeDigest (s : State) : List Byte :=
  (sha256 ((List.range 16384).flatMap fun c => toBytes 2 (s.lifeOf c))).take 8

/-- The beacon of this package (R588). -/
def State.beacon (s : State) (status : Nat) : Beacon :=
  { chip := s.chip, life := s.lifeOf s.chip, epoch := s.reg Obj.membershipEpoch, digest := s.lifeDigest, status := status }

/-- BEACON_SEND (R588, R633): on a base lane in use; a dropped beacon is counted down, 0xFFFF drops every one. -/
def execBeaconSend (lane : Nat) (s : State) : Host.Outcome State Fault Refusal :=
  match s.beaconStatus with
  | none => .next s
  | some st =>
    let k := Obj.beaconDrop (lane + 1)
    if !s.baseLanes.contains lane then .next s
    else if s.reg k = 0 then .next (s.emit (.beacon lane (s.beacon st)))
    else if s.reg k = 0xFFFF then .next s
    else .next (s.setReg k (s.reg k - 1))

/-- A sign of life clears a suspicion (R590): counted, with event 6. -/
def State.clearSuspicion (s : State) (lane chip : Nat) : State :=
  let w := s.watch lane
  if w.suspect then
    ((s.setWatch lane { w with suspect := false }).count 32 Obj.suspectClearedCount).memberEvent 6 chip
  else s

/-- What the status of a beacon says: event 7 for a member that now only forwards (R599), and the time of a beacon with
status 4 (R597). -/
def State.noteStatus (s : State) (lane chip status : Nat) : State :=
  let w := s.watch lane
  let s1 := s.setWatch lane { w with status := status }
  let s2 := if status = 1 ∧ w.status ≠ 1 then s1.memberEvent 7 chip else s1
  if status = 4 then { s2 with rejoinHeard := Sparse.set 0 chip (s.up + 1) s2.rejoinHeard } else s2

/-- BEACON_RECEIVE (R589, R590, R594): from the package the lane hears; a different epoch or digest starts an exchange of
the tables. -/
def execBeaconReceive (lane : Nat) (b : Beacon) (s : State) : Host.Outcome State Fault Refusal :=
  if !s.patrols || s.baseFrom lane != some b.chip then .next s
  else
    let s1 := (s.clearSuspicion lane b.chip).noteStatus lane b.chip b.status
    if b.epoch ≠ s1.reg Obj.membershipEpoch ∨ b.digest ≠ s1.lifeDigest then
      .next ((s1.emit (.tableSync lane s1.life)).count 32 Obj.tableSyncCount)
    else .next s1

/-- SUSPECT_TIMEOUT (R589). -/
def execSuspectTimeout (lane : Nat) (s : State) : Host.Outcome State Fault Refusal :=
  match s.baseFrom lane with
  | none => .next s
  | some _ =>
    let w := s.watch lane
    if !s.patrols || w.suspect then .next s
    else .next ((s.setWatch lane { w with suspect := true }).count 32 Obj.suspectCount)

/-- PROBE_SEND (R590): on path A and path B. -/
def execProbeSend (lane : Nat) (s : State) : Host.Outcome State Fault Refusal :=
  match s.baseFrom lane with
  | none => .next s
  | some c =>
    if s.patrols && (s.watch lane).suspect then .next ((s.emit (.probe c false)).emit (.probe c true)) else .next s

/-- PROBE_RECEIVE (R590, R633): answered by the same path, unless answers are suppressed. -/
def execProbeReceive (chip : Nat) (pathB : Bool) (s : State) : Host.Outcome State Fault Refusal :=
  if s.beaconStatus.isSome && s.reg Obj.probeDrop == 0 then .next (s.emit (.probeAnswer chip pathB)) else .next s

/-- PROBE_ANSWER_RECEIVE (R590). -/
def execProbeAnswerReceive (lane : Nat) (s : State) : Host.Outcome State Fault Refusal :=
  match s.baseFrom lane with
  | none => .next s
  | some c => if s.patrols then .next (s.clearSuspicion lane c) else .next s

/-- Every watched package is suspect at once (R591). -/
def State.cutOff (s : State) : Bool := s.watchedLanes.all fun i => (s.watch i).suspect

/-- DEAD_VERDICT (R590, R591, R595): a suspect is fenced, unless this package is the one cut off. A package that is
forwarding only sends beacons, so it is no suspect (R592). -/
def execDeadVerdict (lane : Nat) (s : State) : Host.Outcome State Fault Refusal :=
  match s.baseFrom lane with
  | none => .next s
  | some c =>
    let w := s.watch lane
    if !s.patrols || !w.suspect || s.cutOff || s.fenced c then .next s
    else .next ((s.count 32 Obj.verdictCount).fenceChip c 1)

/-- LIFE_CHANGE_RECEIVE (R594, R595, R596): each change, of one chip or of a whole table, is merged; a package whose links are off
hears none. -/
def execLifeChangeReceive (changes : List (Nat × Nat)) (s : State) : Host.Outcome State Fault Refusal :=
  if !s.linksUp then .next s
  else .next (changes.foldl (fun t c => t.adoptLife c.1 c.2) s)

/-- A departing neighbour's notice is flooded (R493): a base neighbour of the sender passes it to every package of its rack and to its own
inter-rack partners. -/
def State.floodDeparture (s : State) (chip : Nat) : State :=
  if (List.range 10).any fun i => s.baseFrom i == some chip then
    let rack := (List.range 64).map fun p => chipAt (rackOf s.chip) p
    let far := (List.range 4).filterMap s.partner
    ((rack ++ far).filter fun c => c != s.chip && c != chip).foldl (fun t c => t.emit (.flood c chip)) s
  else s

/-- DEPARTURE_NOTICE (R493, R592): the sender is avoided from the next packet, and fenced as its own verdict. -/
def execDepartureNotice (chip : Nat) (s : State) : Host.Outcome State Fault Refusal :=
  if s.linksUp = false ∨ chip = s.chip ∨ s.fenced chip then .next s
  else .next (((s.floodDeparture chip).avoid chip).fenceChip chip 3)

/-- May a session name a chip (R598, R612)? The Owner any, a tenant the chips of its own member list. -/
def State.mayName (s : State) (sess chip : Nat) : Bool :=
  match s.session? sess with
  | none => false
  | some x => x.role == roleOwner || (x.role == roleTenant && (s.tenant x.tenant).members.contains chip)

/-- A write that only the Owner, or a tenant for its own members, may make (R598, R612); any other is a violation. -/
def State.guardedChip (s : State) (sess sub chip : Nat) (effect : State → State) : State :=
  s.guarded sess 0x7000 sub fun t => if t.mayName sess chip then effect t else t.violate sess

/-- Beacons with status 4 have arrived from a chip within the last 10 ms (R597). -/
def State.readyToRejoin (s : State) (chip : Nat) : Bool :=
  let h := Sparse.get 0 chip s.rejoinHeard
  h != 0 && decide (s.up < h + 10000000)

/-- MEMBER_REJOIN (R597): the chip's life rises to even; the change spreads as R594 has it. -/
def execMemberRejoin (sess chip : Nat) (s : State) : Host.Outcome State Fault Refusal :=
  .next (s.guardedChip sess 6 chip fun t =>
    if t.fenced chip && t.readyToRejoin chip then t.adoptLife chip (t.lifeOf chip + 1) else t)

/-- FENCE_REQUEST (R598): a fence as a verdict, with event 2. -/
def execFenceRequest (sess chip : Nat) (s : State) : Host.Outcome State Fault Refusal :=
  .next (s.guardedChip sess 5 chip fun t => if chip < 16384 then t.fenceChip chip 2 else t)

end Sys2Proof.Machine
end

