-- ==== Sys2Proof/Machine/ObjValue.lean ====
section
/-!
DEFINITION. What every dictionary object reads as (R640 to R645 and the object tables of the chapters): a register, or a record or
count formed from the state it shows.
-/

namespace Sys2Proof.Machine

/-- Bytes of n zeros. -/
def zeros (n : Nat) : List Byte := List.replicate n 0

/-- ASCII bytes. -/
def asciiBytes (t : String) : List Byte := t.toList.map fun c => BitVec.ofNat 8 c.toNat

/-- A U16 per item of a list. -/
def u16s (l : List Nat) : List Byte := l.flatMap fun v => toBytes 2 v

/-! Records -/

/-- One die's lines now poisoned (R360). -/
def State.poisonedLines (s : State) (die : Nat) : Nat :=
  (s.poison.filter fun p => match (s.allocs.find? fun a => a.1 = p.1 / 2 ^ 26) with | some a => a.2.die == die | none => false).length

/-- A tensor table entry's 32 bytes (R316): its upper copy is the committed one, or the one a promotion from home has allocated (R332, log
entry 139). -/
def State.entryBytes (s : State) (key : Nat) (e : Entry) : List Byte :=
  let goal := match s.moveOf key with
    | some p => (match p.2.dest with | some u => u.tier | none => e.homeTier)
    | none => e.tier
  let copy := match e.upper with
    | some u => some u
    | none => (s.moveOf key).bind fun p => p.2.dest
  let up := match copy with | some u => (u.die, u.place) | none => (0, {})
  let anchor := match copy with | some u => u.tenant * 2 ^ 16 + u.cid | none => 0xFFFFFFFF
  toBytes 8 e.base ++ toBytes 4 e.lines ++ toBytes 4 e.tensorId ++ toBytes 1 e.tenant ++ toBytes 1 (e.homeTier + 4 * e.homeDie) ++
  toBytes 1 (b2n e.pinned + 2 * b2n e.shared + 4 * b2n e.versioned + 8 * e.bufIndex) ++
  toBytes 1 (e.place.kind + 4 * e.place.cluster + 32 * e.place.core) ++
  toBytes 1 (e.tier + 4 * goal + 16 * b2n e.moving + 32 * b2n e.dirty) ++ toBytes 1 (up.1 + 8 * up.2.kind) ++
  toBytes 1 (up.2.cluster + 8 * up.2.core) ++ toBytes 1 e.claims.length ++ toBytes 4 anchor ++ toBytes 2 e.shareMask ++ toBytes 2 0

/-- Put an entry in its place by base and buffer. -/
def insertEntry (p : Nat × Entry) : List (Nat × Entry) → List (Nat × Entry)
  | [] => [p]
  | q :: qs =>
    if p.2.base < q.2.base ∨ (p.2.base = q.2.base ∧ p.2.bufIndex < q.2.bufIndex) then p :: q :: qs else q :: insertEntry p qs

/-- A tenant's tensor map as it reads: every entry, ordered by base (R358). -/
def State.mapBytes (s : State) (n : Nat) : List Byte :=
  ((s.entries.filter fun p => p.2.tenant == n).foldl (fun l p => insertEntry p l) []).flatMap fun p => s.entryBytes p.1 p.2

/-- A counter set's 64 bytes (R290). -/
def CountSet.bytes (c : CountSet) : List Byte :=
  toBytes 8 c.total ++ toBytes 8 c.zero ++ toBytes 8 c.underflow ++ toBytes 8 c.saturated ++ toBytes 8 c.nonfinite ++
  toBytes 4 c.maxMag ++ toBytes 4 c.instructions ++ toBytes 4 c.empty ++ toBytes 4 c.tag ++ toBytes 8 c.time

/-- A slot's configuration record (R291), as it is written: a pending one shows. -/
def Slot.cfgBytes (j : Slot) : List Byte :=
  let c := j.pendingCfg.getD j.cfg
  toBytes 1 (c.silentMode + 4 * b2n c.nonfiniteVeto) ++ toBytes 1 0 ++ toBytes 2 c.silentSteps ++ toBytes 4 c.zeroPpm ++
  toBytes 4 c.underflowPpm ++ toBytes 2 j.streak ++ toBytes 2 0

/-- A queue's configuration record (R400). -/
def Queue.cfgBytes (q : Queue) : List Byte :=
  toBytes 1 (q.mode + 4 * b2n q.pull) ++ toBytes 1 0 ++ toBytes 2 q.submitDepth ++ toBytes 2 q.completionDepth ++ toBytes 2 0 ++
  toBytes 8 q.cqAddress ++ toBytes 4 q.cqRkey ++ toBytes 3 q.cqQp ++ zeros 9

/-- A queue's status record (R401). -/
def State.queueStatusBytes (s : State) (i : Nat) : List Byte :=
  let q := s.queue i
  let st := if q.error then 2 else if s.queueActive i then 1 else 0
  toBytes 4 q.accepted ++ toBytes 4 q.consumed ++ toBytes 8 q.lastSequence ++ toBytes 8 q.head ++ toBytes 1 st ++ toBytes 1 0 ++
  toBytes 2 q.placed ++ toBytes 2 q.errorCount ++ toBytes 2 q.wrongMode ++ toBytes 4 q.posted ++ toBytes 2 q.reserved ++ toBytes 2 0

/-- A queue pair's record (R731). -/
def Qp.bytes (v : Qp) (i : Nat) : List Byte :=
  let r := v.spec
  toBytes 3 (0x10000 + i) ++ toBytes 1 r.state ++ toBytes 3 r.remoteQpn ++ toBytes 1 (r.primary + 16 * r.alternate + 128 * b2n r.altValid) ++
  toBytes 16 r.remoteAddress ++ toBytes 3 r.sendPsn ++ toBytes 3 r.receivePsn ++ toBytes 1 r.tenant ++ toBytes 1 r.retryCount ++
  toBytes 4 r.timeoutUs ++ zeros 12

/-- A session slot's record (R676). -/
def Session.bytes (x : Session) : List Byte :=
  toBytes 4 x.id ++ toBytes 1 x.role ++ toBytes 1 x.tenant ++ toBytes 1 x.net ++ toBytes 1 x.keySlot ++ toBytes 4 x.violations ++
  toBytes 4 0 ++ (toBytes 16 x.peer).reverse

/-- An empty session slot's record (R676): its tenant reads 0xFF. -/
def emptySessionBytes : List Byte := toBytes 5 0 ++ toBytes 1 0xFF ++ zeros 26

/-- A key slot's record (R705). -/
def keySlotBytes (k : KeySlot) : List Byte := k.hash ++ toBytes 1 k.role ++ toBytes 1 k.tenant ++ toBytes 1 (b2n k.valid) ++ zeros 5

/-- A drawing's bytes (R463 to R465). -/
def drawingBytes (d : Drawing) : List Byte :=
  toBytes 1 d.drawingId ++ toBytes 1 d.axes.length ++ toBytes 1 d.lanes.length ++ toBytes 1 0 ++ toBytes 2 d.chip ++ zeros 58 ++
  (d.axes.flatMap fun a => toBytes 1 a.axisId ++ toBytes 1 a.kind ++ toBytes 2 a.length ++ toBytes 2 a.coordinate ++
    toBytes 2 a.nextChip ++ toBytes 2 a.prevChip ++ toBytes 1 a.cut ++ toBytes 1 a.tenant ++ toBytes 4 0) ++
  d.lanes.flatMap fun e => toBytes 1 (e.port + 16 * e.lane) ++ toBytes 1 e.channel ++
    toBytes 1 (e.axis + 16 * b2n e.backward + 32 * b2n e.noAxis) ++ toBytes 1 e.tenant ++ toBytes 2 e.txChip ++ toBytes 2 e.rxChip

/-- A mirror entry's bytes (R600). -/
def mirrorBytes (m : Mirror) : List Byte :=
  toBytes 8 m.localBase ++ toBytes 2 m.buddy ++ zeros 6 ++ toBytes 8 m.buddyBase ++ toBytes 1 m.role ++ toBytes 1 m.state ++
  toBytes 2 0 ++ toBytes 4 m.tensorId

/-- A group table's bytes (R541), none for one never written. -/
def State.groupBytes (s : State) (g : Nat) : List Byte :=
  let l := Sparse.get [] g s.colls.groups
  let o := Sparse.get 0 g s.colls.owners
  if o = 0 then [] else toBytes 2 l.length ++ toBytes 1 (o - 1) ++ zeros 5 ++ u16s l

/-- Who L0 to L7 of a port expect at their far ends (R450): chip, logical port, channel. -/
def State.peerBytes (s : State) (port : Nat) : List Byte :=
  (List.range 8).flatMap fun l =>
    match s.expects port l with
    | some c => toBytes 2 c ++ toBytes 1 (s.logicalPort port) ++
        toBytes 1 (match s.drawnLane port l with | some e => e.channel | none => s.reg (Obj.laneChannel port l))
    | none => toBytes 4 0

/-- What each of the ten base lanes watches (R612). -/
def State.watchedBytes (s : State) : List Byte :=
  (List.range 10).flatMap fun i =>
    toBytes 2 ((s.baseFrom i).getD 0xFFFF) ++ toBytes 1 (s.watch i).status ++ toBytes 1 (b2n (s.watch i).suspect)

/-- A latched word with its count at byte 8 (R637, R638). -/
def Latch.bytes (l : Latch) : List Byte := toBytes 8 l.word ++ toBytes 1 l.count ++ zeros 7

/-- A wiring word (R638): 64 lines of cores' blocks, four of the cluster's, and the count at byte 9. -/
def Latch.wiringBytes (l : Latch) : List Byte := toBytes 8 l.word ++ toBytes 1 (l.word / 2 ^ 64) ++ toBytes 1 l.count ++ zeros 6

/-- The cores of a compute die out of service (R618, R638). -/
def State.outBits (s : State) (die : Nat) : Nat :=
  ((List.range 64).map fun c => if (s.core (die * 64 + c)).outOfService then 2 ^ c else 0).sum

/-- The settings of a site now in force: offsets, then floors (R502). -/
def State.settingsBytes (s : State) (site : Nat) : List Byte :=
  toBytes (4 * siteSize site) (s.siteSettings site).1 ++ toBytes 24 (s.siteSettings site).2

/-- The oldest version that a live tag names (R282): the one given longest ago, as the counter stands. -/
def State.oldestHeld (s : State) (n : Nat) : Nat :=
  match (s.tenant n).tags with
  | [] => 0xFFFF
  | t :: ts =>
    let age := fun (v : Nat) => (s.reg (Obj.currentVersion n) + 65536 - v) % 65536
    ts.foldl (fun b g => if age b < age g.version then g.version else b) t.version

/-- The moves of a die's Lift engine, queued or in flight (R359). -/
def State.movesOf (s : State) (die : Nat) (flying : Bool) : Nat :=
  (s.moves.filter fun p => p.2.engine == die && p.2.flying == flying).length

/-! Reads by chapter: none where the object is a plain register -/

/-- Identity, sessions, start-up, security (R674 to R676, R703 to R705). -/
def State.valIdentity (s : State) (x : Session) (o : ObjRef) : Option (List Byte) :=
  match o.index, o.sub with
  | 0x0000, 1 => some (asciiBytes "Aelong Microsystems")
  | 0x0000, 2 => some (asciiBytes "Zequamin")
  | 0x0000, 3 => some s.partCode
  | 0x0000, 4 => some (toBytes 2 s.enabledCores)
  | 0x0000, 5 => some (toBytes 64 ((List.range 512).map fun c => if s.coreEnabled c then 2 ^ c else 0).sum)
  | 0x0000, 6 => some Config.serialNumber
  | 0x0000, 7 => some Config.dieSteppings
  | 0x0000, 8 => some (toBytes 4 (match s.dev.running with | some i => i.firmwareVersion | none => 0))
  | 0x0010, 1 => some (toBytes 4 x.id)
  | 0x0010, 2 => some (toBytes 1 x.role)
  | 0x0010, 3 => some (toBytes 1 x.tenant)
  | 0x0010, 4 => some (toBytes 4 x.violations)
  | 0x0010, 5 => some (toBytes 4 x.losses)
  | 0x0010, 6 => some (toBytes 2 x.subs.length)
  | 0x0010, 7 => some (toBytes 8 x.opened)
  | 0x0020, k => some (match s.sessions[k - 1]? with | some y => y.bytes | none => emptySessionBytes)
  | 0x0021, 1 => some (toBytes 1 s.sessions.length)
  | 0x1000, 2 => some (toBytes 1 s.bootStageNow)
  | 0x1010, 3 => some (match s.dev.running with | some i => i.digest | none => zeros 32)
  | 0x1010, 4 => some (toBytes 1 (match s.dev.running with | some i => i.securityVersion | none => 0))
  | 0x1010, 5 => some (toBytes 1 s.dev.fuseCount)
  | 0xB000, 1 => some (ecPublic Config.identityKey)
  | 0xB000, 2 => some Config.identityCertificate
  | 0xB000, 3 => some Config.vendorKeyHash
  | 0xB000, 4 => some (if s.dev.ownerFused then s.dev.ownerHash else zeros 32)
  | 0xB000, 5 => some (toBytes 1 (b2n s.dev.ownerFused))
  | 0xB000, 6 => some s.fuseView
  | 0xB000, 7 => some s.fuseDigest
  | 0xB000, 8 => some s.configDigest
  | 0xB010, k => some (keySlotBytes (s.keySlot (k - 1)))
  | 0xB020, 2 => some (if x.report.isEmpty then zeros 256 else x.report)
  | _, _ => none

/-- Time, supply and memory (R78 to R80, R356 to R360). -/
def State.valMemory (s : State) (o : ObjRef) : Option (List Byte) :=
  if o.index = 0x2000 ∧ o.sub = 1 then some (toBytes 8 s.cadNow)
  else if o.index = 0x2001 ∧ o.sub = 2 then some (toBytes 8 (if s.reg Obj.cadenceState = cadAcquiring then 0 else s.nextGate * 1024))
  else if o.index = 0x2001 ∧ o.sub = 3 then some (toBytes 2 s.schedCount)
  else if o.index = 0x2020 ∧ o.sub = 6 then some (toBytes 2 (s.floor / 1000))
  else if o.index = 0x3000 ∧ o.sub = 1 then some (toBytes 8 s.nearCapacity)
  else if o.index = 0x3000 ∧ 4 ≤ o.sub ∧ o.sub ≤ 6 then some (toBytes 8 (s.reservedSum (o.sub - 4)))
  else if o.index = 0x3000 ∧ o.sub = 7 then some (toBytes 4 s.entries.length)
  else if o.index = 0x3000 ∧ o.sub = 8 then some (toBytes 4 (s.entries.map fun p => p.2.claims.length).sum)
  else if 0x3030 ≤ o.index ∧ o.index ≤ 0x303F then some (s.mapBytes (o.index - 0x3030))
  else if 0x3040 ≤ o.index ∧ o.index ≤ 0x3047 ∧ o.sub = 1 then some (toBytes 2 (s.movesOf (o.index - 0x3040) false))
  else if 0x3040 ≤ o.index ∧ o.index ≤ 0x3047 ∧ o.sub = 2 then some (toBytes 1 (s.movesOf (o.index - 0x3040) true))
  else if 0x30D0 ≤ o.index ∧ o.index ≤ 0x30D7 ∧ o.sub = 2 then some (toBytes 4 (s.poisonedLines (o.index - 0x30D0)))
  else none

/-- Compute and tenants' compute settings (R186, R221, R254, R282, R283). -/
def State.valCompute (s : State) (o : ObjRef) : Option (List Byte) :=
  if 0x41D0 ≤ o.index ∧ o.index ≤ 0x41D7 then
    some (toBytes 1 (s.ctx ((o.index - 0x41D0) * 64 + o.sub / 4) (o.sub % 4)).state)
  else if 0x41F0 ≤ o.index ∧ o.index ≤ 0x41F7 then
    some (toBytes 1 (s.ctx ((o.index - 0x41F0) * 64 + o.sub / 4) (o.sub % 4)).groups.length)
  else if 0x4200 ≤ o.index ∧ o.index ≤ 0x420F ∧ (o.sub = 2 ∨ o.sub = 3) then
    let n := o.index - 0x4200
    let p := (s.tenant n).steps.head?
    let step := match p with | some q => q.step | none => 0
    let seed := match p with | some q => q.seed | none => stepSeed (s.reg (Obj.jobSeed n)) 0
    some (toBytes 8 (if o.sub = 2 then seed else step))
  else if 0x4500 ≤ o.index ∧ o.index ≤ 0x450F then
    let n := o.index - 0x4500
    match o.sub with
    | 4 => some (toBytes 1 (b2n (s.entries.any fun p => p.2.tenant == n && p.2.bufState == .pending)))
    | 5 => some (toBytes 2 (s.oldestHeld n))
    | 6 => some (toBytes 2 (s.tenant n).tags.length)
    | _ => none
  else if o.index = 0x4510 ∧ o.sub = 2 then some (toBytes 2 s.liveTags)
  else none

/-- A setting written and not yet in force reads as it was written (R665): the watch settings (R309), the steering settings (R564),
accum_count (R558), the sketch settings (R560). -/
def State.valSettings (s : State) (o : ObjRef) (width : Nat) : Option (List Byte) :=
  if 0x8010 ≤ o.index ∧ o.index ≤ 0x801F then
    (s.tenant (o.index - 0x8010)).pendingCfg.bind fun c =>
      match o.sub with
      | 3 => some (toBytes 1 c.vetoMask)
      | 4 => some (toBytes 4 c.spikeK)
      | 5 => some (toBytes 4 c.ewWeight)
      | 6 => some (toBytes 2 c.warmup)
      | 7 => some (toBytes 1 c.spikeLimit)
      | 8 => some (toBytes 1 (b2n c.lossExpected))
      | _ => none
  else if 0x5860 ≤ o.index ∧ o.index ≤ 0x586F then
    let t := s.tenant (o.index - 0x5860)
    if o.sub = 2 then t.pendingAccum.map (toBytes 2)
    else (t.pendingRegs.find? fun p => p.1 = objKey o).map fun p => toBytes width p.2
  else if o.index = 0x5800 ∧ o.sub = 1 then s.sketch.pendingPeriod.map (toBytes 1)
  else if o.index = 0x5800 ∧ o.sub = 2 then s.sketch.pendingCode.map (toBytes 1)
  else none

/-- Ports and fabric (R449, R450, R499 to R502, R541 to R543, R729). -/
def State.valFabric (s : State) (o : ObjRef) : Option (List Byte) :=
  if o.index = 0x5000 ∧ o.sub = 2 then some (toBytes 8 Config.serialDigest)
  else if 0x5230 ≤ o.index ∧ o.index ≤ 0x5233 then some (s.peerBytes ((o.index - 0x5230) * 4 + o.sub))
  else if o.index = 0x5900 then some (toBytes 6 (macOf o.sub)).reverse
  else if o.index = 0x6000 ∧ o.sub = 4 then
    some (u16s ((s.fabric.avoided.take 256).map (·.1) ++ List.replicate (256 - s.fabric.avoided.length) 0xFFFF))
  else if o.index = 0x6000 ∧ o.sub = 11 then some (toBytes 2 (s.fabric.tx.filter fun p => p.2.last != 0).length)
  else if o.index = 0x6010 then some (match s.stored o.sub with | some d => drawingBytes d | none => [])
  else if 0x6400 ≤ o.index ∧ o.index ≤ 0x64BF then
    let site := o.index - 0x6400
    match o.sub with
    | 1 => some (toBytes (4 * siteSize site) (s.reg (objKey o)))
    | 3 => some (s.settingsBytes site)
    | 4 => some (toBytes (4 * siteSize site) (s.reg (objKey o)))
    | _ => none
  else if 0x6500 ≤ o.index ∧ o.index ≤ 0x6503 then some (s.groupBytes ((o.index - 0x6500) * 256 + o.sub))
  else if 0x6600 ≤ o.index ∧ o.index ≤ 0x663F ∧ o.index % 4 = 0 ∧ o.sub = 0 then some (zeros 128)
  else if 0x6700 ≤ o.index ∧ o.index ≤ 0x670F ∧ o.sub = 5 then
    some (toBytes 2 (s.colls.insts.filter fun i => i.n == o.index - 0x6700).length)
  else none

/-- Continuity and Judges (R307, R311, R583, R587, R609, R612). -/
def State.valContinuity (s : State) (o : ObjRef) : Option (List Byte) :=
  if o.index = 0x7000 then
    match o.sub with
    | 2 => some (toBytes 2 (if s.chip < 16384 then s.lifeOf s.chip else 0))
    | 3 => some (toBytes 1 s.memberState)
    | 4 => some (u16s ((List.range 16384).map fun c => s.lifeOf c))
    | 7 => some s.watchedBytes
    | _ => none
  else if 0x7010 ≤ o.index ∧ o.index ≤ 0x701F ∧ o.sub = 3 then
    let l := (s.tenant (o.index - 0x7010)).members
    some (if l.isEmpty then [] else toBytes 2 l.length ++ zeros 6 ++ u16s l)
  else if 0x7030 ≤ o.index ∧ o.index ≤ 0x703F ∧ o.sub = 5 then some (toBytes 1 (s.tenant (o.index - 0x7030)).sealedSlots)
  else if 0x7050 ≤ o.index ∧ o.index ≤ 0x705F ∧ o.sub = 1 then some ((s.tenant (o.index - 0x7050)).mirrors.flatMap mirrorBytes)
  else if o.index = 0x8000 ∧ o.sub = 2 then some (toBytes 4 (s.admitted.map fun n => s.reg (Obj.slotCount n)).sum)
  else if 0x8100 ≤ o.index ∧ o.index ≤ 0x81FF then some (s.slot ((o.index - 0x8100) * 256 + o.sub)).cfgBytes
  else if 0x8200 ≤ o.index ∧ o.index ≤ 0x82FF then some (s.slot ((o.index - 0x8200) * 256 + o.sub)).stepSet.bytes
  else if 0x8300 ≤ o.index ∧ o.index ≤ 0x83FF then some (s.slot ((o.index - 0x8300) * 256 + o.sub)).totalSet.bytes
  else if 0x8400 ≤ o.index ∧ o.index ≤ 0x84FF then some (s.slot ((o.index - 0x8400) * 256 + o.sub)).lastSet.bytes
  else none

/-- Faults, queues, tenants, queue pairs, perturbation (R397 to R401, R637 to R639, R731). -/
def State.valQueues (s : State) (o : ObjRef) : Option (List Byte) :=
  if o.index = 0x9000 ∧ o.sub = 1 then some (s.latch (objKey o)).bytes
  else if o.index = 0x9000 ∧ o.sub = 2 then some (s.capture (objKey o)).bytes
  else if o.index = 0x9000 ∧ o.sub = 6 then some (s.dev.faultLog.flatMap Capture.bytes)
  else if o.index = 0x9000 ∧ o.sub = 8 then some s.dev.lastFatal.bytes
  else if 0x9010 ≤ o.index ∧ o.index ≤ 0x901C ∧ o.sub = 1 then some (s.capture (objKey o)).bytes
  else if 0x9010 ≤ o.index ∧ o.index ≤ 0x901C ∧ o.sub = 5 then
    some (toBytes 8 (if o.index < 0x9018 then s.outBits (o.index - 0x9010) else 0))
  else if 0x9100 ≤ o.index ∧ o.index ≤ 0x910C then some (s.latch (objKey o)).bytes
  else if 0x9200 ≤ o.index ∧ o.index ≤ 0x9207 then some (s.capture (objKey o)).bytes
  else if 0x9210 ≤ o.index ∧ o.index ≤ 0x9217 then some (s.latch (objKey o)).wiringBytes
  else if 0xA010 ≤ o.index ∧ o.index ≤ 0xA01F ∧ o.sub = 1 then some (toBytes 1 (s.tenant (o.index - 0xA010)).state)
  else if 0xA040 ≤ o.index ∧ o.index ≤ 0xA04F then
    let i : Image := Sparse.get {} o.sub (s.tenant (o.index - 0xA040)).images
    some (toBytes 4 i.imageId ++ toBytes 4 i.state)
  else if 0xA100 ≤ o.index ∧ o.index ≤ 0xA10F then some (s.queue ((o.index - 0xA100) * 256 + o.sub)).cfgBytes
  else if 0xA200 ≤ o.index ∧ o.index ≤ 0xA20F then some (s.queueStatusBytes ((o.index - 0xA200) * 256 + o.sub))
  else if 0xA300 ≤ o.index ∧ o.index ≤ 0xA30F then some (s.queue ((o.index - 0xA300) * 256 + o.sub)).pullBytes
  else if 0xA310 ≤ o.index ∧ o.index ≤ 0xA31F then some (toBytes 8 (s.queue ((o.index - 0xA310) * 256 + o.sub)).head)
  else if 0xA400 ≤ o.index ∧ o.index ≤ 0xA4FF then
    let q := s.queue ((o.index - 0xA400) * 16 + o.sub / 16)
    some (toBytes 8 (Sparse.get 0 (o.sub % 16) q.results) ++ toBytes 8 (Sparse.get 0 (o.sub % 16) q.generations))
  else if 0xA600 ≤ o.index ∧ o.index ≤ 0xA603 then
    let i := (o.index - 0xA600) * 256 + o.sub
    some ((s.qp i).bytes i)
  else if o.index = 0xC000 ∧ o.sub = 2 then some (toBytes 4 s.perturbActive)
  else if o.index = 0xC200 ∧ o.sub = 2 then some (toBytes 1 s.injections.length)
  else none

/-- The objects of a fused-off core read as zeros (R162, R645). -/
def State.fusedOff (s : State) (r : ObjRow) (o : ObjRef) : Bool :=
  match r.belongs with
  | .core => !s.coreEnabled ((o.index - r.ilo) * 64 + o.sub)
  | .ctx => !s.coreEnabled ((o.index - r.ilo) * 64 + o.sub / 4)
  | _ => false

/-- The value of an object for a session (R640). -/
def State.objValue (s : State) (x : Session) (o : ObjRef) : List Byte :=
  match objRow o with
  | none => []
  | some r =>
    if s.fusedOff r o then zeros r.width
    else
      let special := (s.valIdentity x o).orElse fun _ => (s.valMemory o).orElse fun _ => (s.valCompute o).orElse fun _ =>
        (s.valFabric o).orElse fun _ => (s.valContinuity o).orElse fun _ => (s.valQueues o).orElse fun _ =>
        s.valSettings o r.width
      match special with
      | some v => v
      | none => toBytes r.width (s.reg (objKey o))

/-- The largest length of an object's value (R656): its width, or the limit its chapter gives. -/
def maxLength (o : ObjRef) (r : ObjRow) : Nat :=
  if r.width ≠ 0 then r.width
  else if r.type = 14 then 256
  else if o.index = 0x1010 then 192 * 2 ^ 20
  else if 0x3030 ≤ o.index ∧ o.index ≤ 0x303F then 262144 * 32
  else if o.index = 0x6010 then 64 + 16 * 16 + 128 * 8
  else if 0x6400 ≤ o.index ∧ o.index ≤ 0x64BF then
    (if o.sub = 3 then 4 * siteSize (o.index - 0x6400) + 24 else 4 * siteSize (o.index - 0x6400))
  else if 0x6500 ≤ o.index ∧ o.index ≤ 0x6503 then 8 + 2 * 16384
  else if 0x7010 ≤ o.index ∧ o.index ≤ 0x701F then 8 + 2 * 16384
  else if 0x7050 ≤ o.index ∧ o.index ≤ 0x705F then 4096 * 32
  else if o.index = 0x9000 then 256 * 48
  else if 0xA030 ≤ o.index ∧ o.index ≤ 0xA03F then 64 * 2 ^ 20
  else if 0xA060 ≤ o.index ∧ o.index ≤ 0xA06F then 2 ^ 50
  else Config.identityCertificate.length

end Sys2Proof.Machine
end

