-- ==== Sys2Proof/Machine/Tenants.lean ====
section
/-!
DEFINITION. Tenants and their program images (R361 to R369, R701, R702).
-/

namespace Sys2Proof.Machine

/-! Images -/

/-- What an image's header says, and its entry records and map (R365, R366). -/
structure ImageHeader where
  minor : Nat
  major : Nat
  imageId : Nat
  bytes : Nat
  entryCount : Nat
  tableCount : Nat
  entryOffset : Nat
  tableOffset : Nat
  codeOffset : Nat
  codeBytes : Nat
  mapOffset : Nat
  mapCount : Nat
  deriving DecidableEq, Repr

/-- Read the header (R365). -/
def readImageHeader (b : List Byte) : ImageHeader :=
  { minor := field b 0x00 2, major := field b 0x02 2, imageId := field b 0x04 4, bytes := field b 0x08 4,
    entryCount := field b 0x0C 2, tableCount := field b 0x0E 2, entryOffset := field b 0x10 4, tableOffset := field b 0x14 4,
    codeOffset := field b 0x18 4, codeBytes := field b 0x1C 4, mapOffset := field b 0x20 4, mapCount := field b 0x24 4 }

/-- The header's fields lie in their ranges (R365, R367). -/
def ImageHeader.ok (h : ImageHeader) (len : Nat) : Bool :=
  h.major == 1 && h.minor == 0 && decide (128 ≤ h.bytes) && decide (h.bytes ≤ 64 * 2 ^ 20) && decide (h.bytes ≤ len) &&
  decide (1 ≤ h.entryCount) && decide (h.entryCount ≤ 4096) && decide (1 ≤ h.tableCount) && decide (h.tableCount ≤ 64) &&
  h.entryOffset % 64 == 0 && h.tableOffset % 64 == 0 && h.codeOffset % 64 == 0 && h.mapOffset % 64 == 0 &&
  h.codeBytes % 16 == 0 && decide (h.entryOffset + 16 * h.entryCount ≤ h.bytes) &&
  decide (h.tableOffset + 0x40000 * h.tableCount ≤ h.bytes) && decide (h.codeOffset + h.codeBytes ≤ h.bytes) &&
  decide (h.mapOffset + 32 * h.mapCount ≤ h.bytes)

/-- The entry records (R366): code_start, table, thread groups, accumulator units, side units. -/
def readEntries (b : List Byte) (h : ImageHeader) : List (Nat × Nat × Nat × Nat × Nat) :=
  (List.range h.entryCount).map fun i =>
    let o := h.entryOffset + 16 * i
    (field b o 4, field b (o + 4) 2, field b (o + 6) 1, field b (o + 7) 1, field b (o + 8) 1)

/-- An entry record is valid (R367). -/
def entryOk (h : ImageHeader) (e : Nat × Nat × Nat × Nat × Nat) : Bool :=
  e.1 % 16 == 0 && decide (e.1 < h.codeBytes) && decide (e.2.1 < h.tableCount) && decide (1 ≤ e.2.2.1) &&
  decide (e.2.2.1 ≤ 64) && decide (e.2.2.2.1 ≤ 32) && decide (e.2.2.2.2 ≤ 64)

/-- One tensor map entry from its 32 bytes (R316). -/
def readMapEntry (b : List Byte) : MapEntry :=
  { base := field b 0x00 8, sizeLines := field b 0x08 4, tensorId := field b 0x0C 4, tenant := bits (field b 0x10 1) 0 4,
    homeTier := bits (field b 0x11 1) 0 2, homeDie := bits (field b 0x11 1) 2 3, pinned := bit (field b 0x12 1) 0,
    shared := bit (field b 0x12 1) 1, versioned := bit (field b 0x12 1) 2, placeKind := bits (field b 0x13 1) 0 2,
    placeCluster := bits (field b 0x13 1) 2 3, placeCore := bits (field b 0x13 1) 5 3, shareMask := field b 0x1C 2 }

/-- The image's tensor map. -/
def readMap (b : List Byte) (h : ImageHeader) : List MapEntry :=
  (List.range h.mapCount).map fun i => readMapEntry ((b.drop (h.mapOffset + 32 * i)).take 32)

/-- Put this package's chip number into a global address (R367). -/
def withChip (chip a : Nat) : Nat := chip * 2 ^ 50 + a % 2 ^ 50

/-- Store the little-endian field of a byte list. -/
def putField (b : List Byte) (at_ len v : Nat) : List Byte := b.take at_ ++ toBytes len v ++ b.drop (at_ + len)

/-- The chip number goes into a descriptor's address, and into its scale pointer where that is not zero (R367, R218). -/
def relocateDesc (chip : Nat) (d : List Byte) : List Byte :=
  let d1 := putField d 0x00 8 (withChip chip (field d 0x00 8))
  let sp := field d1 0x2A 8
  if sp = 0 then d1 else putField d1 0x2A 8 (withChip chip sp)

/-- The first k descriptors of a byte list, relocated. -/
def relocateDescs (chip : Nat) : Nat → List Byte → List Byte
  | 0, b => b
  | k + 1, b => relocateDesc chip (b.take 64) ++ relocateDescs chip k (b.drop 64)

/-- The image with its tables' descriptors relocated (R367): 4,096 of 64 bytes a table. -/
def relocate (chip : Nat) (b : List Byte) (h : ImageHeader) : List Byte :=
  b.take h.tableOffset ++ relocateDescs chip (4096 * h.tableCount) (b.drop h.tableOffset)

/-- Remove an image and its entry. -/
def State.removeImage (s : State) (n slot : Nat) : State :=
  let t := s.tenant n
  let im := Sparse.get {} slot t.images
  let s1 := if im.state = 1 then s.removeEntry im.entry false else s
  s1.setTenant n { s1.tenant n with images := Sparse.erase slot (s1.tenant n).images }

/-- Keep a failed image's mark (R368). -/
def State.markImage (s : State) (n slot id code : Nat) : State :=
  let t := s.tenant n
  s.setTenant n { t with images := Sparse.set {} slot { state := code, imageId := id } t.images }

/-- Place a checked image in its pinned Main entry, charged to the tenant (R367). -/
def State.placeImage (s : State) (n slot : Nat) (b : List Byte) (h : ImageHeader) : State :=
  let bytes := ceilDiv h.bytes 64 * 64
  if s.freeRoom 1 n < bytes ∨ 262144 ≤ s.entries.length then s.markImage n slot h.imageId 4
  else
    let die := s.emptiest 1
    let (a, s1) := s.allocate 1 die {} bytes n
    let (key, s2) := s1.fresh
    let e : Entry :=
      { base := imageBase slot, lines := ceilDiv h.bytes 64, tensorId := h.imageId, tenant := n, homeTier := 1,
        homeDie := die, pinned := true, shared := false, versioned := false, place := {}, shareMask := 0, homeAlloc := a,
        homeAt := die, image := true }
    let s3 := ({ s2 with entries := Sparse.insert key e s2.entries }).wrBytes a 0 ((relocate s.chip b h).take h.bytes)
    let im : Image :=
      { state := 1, imageId := h.imageId, bytes := h.bytes, codeOffset := h.codeOffset, codeBytes := h.codeBytes,
        tableOffset := h.tableOffset, tableCount := h.tableCount, entries := readEntries b h, map := readMap b h,
        entry := key }
    s3.setTenant n { s3.tenant n with images := Sparse.set {} slot im (s3.tenant n).images }

/-- Load an image into a slot (R367): digest, header, entry records, then its place. An image of the same id is
replaced. -/
def State.loadImage (s : State) (n slot : Nat) (b : List Byte) : State :=
  let h := readImageHeader b
  let same := ((s.tenant n).images.filter fun p => p.2.imageId == h.imageId || p.1 == slot).map (·.1)
  let s1 := same.foldl (fun t i => t.removeImage n i) s
  if sha256 ((b.take h.bytes).drop 0x80) ≠ (b.drop 0x40).take 32 then s1.markImage n slot h.imageId 2
  else if !h.ok b.length then s1.markImage n slot h.imageId 3
  else if !(readEntries b h).all (entryOk h) then s1.markImage n slot h.imageId 5
  else s1.placeImage n slot b h

/-- IMAGE_LOAD (R367): while the tenant is free. -/
def execImageLoad (sess n slot : Nat) (image : List Byte) (s : State) : Host.Outcome State Fault Refusal :=
  .next (s.guarded sess (0xA030 + n) slot fun t =>
    if (t.tenant n).state = 0 ∧ 1 ≤ slot ∧ slot ≤ 16 then t.loadImage n slot image else t)

/-- IMAGE_CLEAR (R368, R398): 0 removes the image while the tenant is free; other values are ignored. -/
def execImageClear (sess n slot value : Nat) (s : State) : Host.Outcome State Fault Refusal :=
  .next (s.guarded sess (0xA050 + n) slot fun t =>
    if value = 0 ∧ (t.tenant n).state = 0 then t.removeImage n slot else t)

/-! Admission -/

/-- Two shares of slots meet. -/
def sharesMeet (f1 c1 f2 c2 : Nat) : Bool := decide (f1 < f2 + c2) && decide (f2 < f1 + c1)

/-- The first condition of R363 that fails, 0 when all hold; the map of condition 6 is answered with the state, every versioned
tensor's first buffer current under number 0x0000 (R269). -/
def State.admitCheck (s : State) (n : Nat) : Nat × State :=
  let t := s.tenant n
  let qf := s.reg (Obj.queueFirst n)
  let qc := s.reg (Obj.queueCount n)
  let others := s.notFree
  if s.reg (Obj.coreSet n) = 0 then (1, s)
  else if qc = 0 ∨ 4096 < qf + qc then (2, s)
  else if s.nearCapacity < s.reservedSum 0 + s.reg (Obj.nearReserved n) ∨
      Config.mainReservable < s.reservedSum 1 + s.reg (Obj.mainReserved n) ∨
      Config.deepReservable < s.reservedSum 2 + s.reg (Obj.deepReserved n) then (3, s)
  else if others.any (fun m => sharesMeet (s.reg (Obj.slotFirst n)) (s.reg (Obj.slotCount n)) (s.reg (Obj.slotFirst m))
      (s.reg (Obj.slotCount m))) then (4, s)
  else if !(t.images.any fun p => p.2.state == 1) || (t.images.any fun p => p.2.state != 1) then (5, s)
  else
    match (s.setReg (Obj.currentVersion n) 0).addMap n (t.images.flatMap fun p => p.2.map) with
    | none => (6, s)
    | some s1 =>
      if 128 < ((others.map fun m => s.reg (Obj.pisteQuota m)).sum + s.reg (Obj.pisteQuota n)) then (7, s) else (0, s1)

/-- What a tenant keeps from one admission to the next: its member list, and the settings written and not yet in force (R301, R309,
R558, R564). -/
def Tenant.settings (t : Tenant) : Tenant :=
  { members := t.members, live := t.live, pendingCfg := t.pendingCfg, statsReset := t.statsReset, pendingRegs := t.pendingRegs,
    pendingAccum := t.pendingAccum }

/-- The tenant is admitted (R363, R269, R286, R583, R632, R702, R72): its maps merged, its share cleared, its version
counter at 0, its keys drawn, and for the first tenant the floor's power step requested. -/
def State.admitTenant (s : State) (n : Nat) : State :=
  let first := s.notFree.isEmpty
  let t := s.tenant n
  let s0 := if t.mirrors.isEmpty then s else s.bump (Obj.mirrorTable n)
  let s1 := ((s0.clearShare n).setReg (Obj.currentVersion n) 0).setTenant n
    { t.settings with images := t.images, state := 1 }
  let old := ([s.reg (Obj.queueWindowRkey n), s.reg (Obj.tensorRkey n)].filter fun k => k != 0).map fun k => (n, k)
  let s1 : State := { s1 with eth := { s1.eth with oldKeys := s1.eth.oldKeys ++ old } }
  let (k1, s2) := s1.draw 32
  let (k2, s3) := s2.draw 32
  let s4 := ((s3.setReg (Obj.queueWindowRkey n) k1).setReg (Obj.tensorRkey n) k2).setReg (Obj.committedStep n)
    (s.reg (Obj.ledgerFirstStep n) - 1)
  let s5 := (List.range 16).foldl (fun u i => u.setReg (Obj.deepState (i / 2) (i % 2))
    (if u.reg (Obj.deepState (i / 2) (i % 2)) = 2 then 0 else u.reg (Obj.deepState (i / 2) (i % 2)))) s4
  let s6 := if s5.reg Obj.testMode = 0 then s5.clearPerturb else s5
  let s7 := if first then s6.requestPowerStep s6.supply.committedFloor s6.supply.committedCeiling else s6
  (s7.setReg (Obj.admitResult n) 0).settleDevice

/-- TENANT_ADMIT (R363): only the Owner; not while the package is fenced or ready to rejoin (R681), or flash is being
written (R688). -/
def execTenantAdmit (sess n : Nat) (s : State) : Host.Outcome State Fault Refusal :=
  .next (s.guarded sess (0xA010 + n) 2 fun t =>
    match t.session? sess with
    | none => t
    | some x =>
      if x.role ≠ roleOwner then t.violate sess
      else if (t.tenant n).state ≠ 0 then t.setReg (Obj.admitResult n) 8
      else if t.memberState ≠ 0 ∨ t.dev.writing.isSome ∨ !t.isUp then t
      else
        match t.admitCheck n with
        | (0, u) => u.admitTenant n
        | (code, _) => t.setReg (Obj.admitResult n) code)

/-- The tenant enters releasing (R364): accepted, unplaced work completes with status 4; a reset also stops running work. -/
def State.beginRelease (s : State) (n : Nat) (reset : Bool) : State :=
  let s1 := s.setTenant n { s.tenant n with state := 2 }
  let s2 := s1.endWorks (fun k => k.tenant == n) 4 reset
  let s3 := if reset then s2.releaseTags n (fun _ => true) else s2
  s3.clearShare n

/-- TENANT_RELEASE (R364): of an admitted tenant; a free or releasing one is unchanged. -/
def execTenantRelease (sess n : Nat) (s : State) : Host.Outcome State Fault Refusal :=
  .next (s.guarded sess (0xA010 + n) 2 fun t => if (t.tenant n).state = 1 then t.beginRelease n false else t)

/-- TENANT_RESET (R364): of an admitted tenant, or of one whose release turns into a reset from now. -/
def execTenantReset (sess n : Nat) (s : State) : Host.Outcome State Fault Refusal :=
  .next (s.guarded sess (0xA010 + n) 2 fun t => if (t.tenant n).state = 0 then t else t.beginRelease n true)

/-- Every claim of the tenant, and every claim on its entries, is removed, with its entries (R337). -/
def State.removeHoldings (s : State) (n : Nat) : State :=
  let claims := s.entries.flatMap fun p => (p.2.claims.filter fun c => c.tenant == n && p.2.tenant != n).map fun c => (p.1, c.cid)
  let s1 := claims.foldl (fun t c => t.dropClaim c.1 n c.2) s
  let mine := (s1.entries.filter fun p => p.2.tenant == n).map (·.1)
  mine.foldl (fun t k => t.removeEntry k true) s1

/-- The tenant's contexts are idle and its cores in whole mode; every accumulator row is untagged and +0, and side memory zero (R125, R143,
R208, R364). -/
def State.freeCores (s : State) (n : Nat) : State :=
  let cs := (List.range 512).filter fun c => bit (s.reg (Obj.coreSet n)) c
  cs.foldl (fun t c =>
    let t1 := (List.range 4).foldl (fun u x => if u.ctx c x = {} then u else u.setCtx c x {}) t
    if t1.core c = {} then t1 else
      (t1.setCore c { ({} : Core) with outOfService := (t1.core c).outOfService }).setReg (Obj.matrixMode c) 0) s

/-- TENANT_FREE (R364): once every work item of a releasing tenant has completed. -/
def execTenantFree (n : Nat) (s : State) : Host.Outcome State Fault Refusal :=
  let t := s.tenant n
  if t.state ≠ 2 ∨ (s.works.any fun p => p.2.tenant == n) then .next s
  else
    let s1 := (((s.removeHoldings n).clearInsts n).freeCores n).clearShare n
    let s2 := s1.setTenant n t.settings
    let s3 := if s2.notFree.isEmpty then s2.requestPowerStep 0 s2.supply.committedCeiling else s2
    .next s3.settleDevice

/-- TENANT_ZEROING_DONE (R701): what was charged to the freed tenant is zeroed and available: memory, accumulator rows,
side memory and registers of its cores. -/
def execTenantZeroingDone (n : Nat) (s : State) : Host.Outcome State Fault Refusal :=
  if (s.tenant n).state ≠ 0 then .next s
  else
    let gone := (s.allocs.filter fun p => p.2.zeroing && p.2.tenant == n).map (·.1)
    let s1 := gone.foldl (fun t a => ({ t with allocs := Sparse.erase a t.allocs }).zeroAlloc a) s
    let mine : Nat → Bool := fun c => bit (s.reg (Obj.coreSet n)) c
    .next { s1 with
      cores := Sparse.mapAll {} (fun c v => if mine c then
        { v with acc := [], accTag := [], accPoison := [], accBad := [], side := [], sidePoison := [] } else v) s1.cores,
      threads := Sparse.keep (fun k _ => !mine (k / 4096)) s1.threads }

end Sys2Proof.Machine
end

