-- ==== Sys2Proof/Machine/ObjWrite.lean ====
section
/-!
DEFINITION. What a write does to each object (R651 item 3 and the object tables of the chapters): its effect, its clamps, and the
item status: 0 applied, 1 not applied, 2 a form error.
-/

namespace Sys2Proof.Machine

/-- A write that is applied where a condition of its chapter holds, and not applied otherwise (R651). -/
def State.applyIf (s : State) (c : Bool) (t : State) : State × Nat := if c then (t, 0) else (s, 1)

/-- A write stored clamped to a range (R651). -/
def State.storeClamped (s : State) (k lo hi v : Nat) : State × Nat := (s.setReg k (clampNat lo hi v), 0)

/-- A write stored only inside a range (R651). -/
def State.storeWithin (s : State) (k lo hi v : Nat) : State × Nat :=
  s.applyIf (decide (lo ≤ v) && decide (v ≤ hi)) (s.setReg k v)

/-- A BOOL is stored as 0 or 1 (R642). -/
def State.storeBool (s : State) (k v : Nat) : State × Nat := (s.setReg k (if v = 0 then 0 else 1), 0)

/-- The records of a value, n bytes each. -/
def records (n : Nat) (v : List Byte) : List (List Byte) := (List.range (v.length / n)).map fun i => (v.drop (n * i)).take n

/-- The weights of R301 and R554 are clamped to 2^-16 to 0.5; a NaN is in no range and is not applied. -/
def clampWeight (v : Nat) : Option Nat :=
  if 0x7F800000 < v % 2 ^ 31 then none
  else if 2 ^ 31 ≤ v then some 0x37800000
  else some (clampNat 0x37800000 0x3F000000 v)

/-- A tenant names only itself in an object that no tenant has yet (R547, R541); anything else is a violation. -/
def State.ownNaming (s : State) (x : Session) (n : Nat) (r : State × Nat) : State × Nat :=
  if x.role = roleTenant ∧ x.tenant ≠ n then (s.violate x.id, 0) else r

/-! Identity, start-up, security (R674, R675, R703 to R705) -/

/-- An image file read by its header (R686). -/
def readFirmware (b : List Byte) : FwImage :=
  { magic := field b 0 4, format := field b 4 2, securityVersion := field b 6 1, firmwareVersion := field b 8 4,
    imageBytes := field b 0xC 4, digest := (b.drop 0x10).take 32, vendorKey := (b.drop 0x30).take 65,
    ownerKey := (b.drop 0x71).take 65, vendorSignature := (b.drop 0xB2).take 64, ownerSignature := (b.drop 0xF2).take 64,
    body := b.drop 0x200 }

/-- A key slot's record as written (R705). -/
def readKeySlot (b : List Byte) : KeySlot :=
  { hash := b.take 32, role := field b 0x20 1, tenant := field b 0x21 1, valid := bit (field b 0x22 1) 0 }

/-- Is a write of device_reset applied (R693)? -/
def State.resetApplies (s : State) (kind : Nat) : Bool :=
  s.dev.resetWaiting.isNone && (s.isUp || (kind == 2 && s.device == devFenced))

/-- Writes of 0x0000 to 0x1FFF and 0xB000 to 0xBFFF. -/
def State.putIdentity (s : State) (x : Session) (o : ObjRef) (v : List Byte) : Option (State × Nat) :=
  let w := fromBytes v
  match o.index, o.sub with
  | 0x0000, 0xA => some (s.setLater Obj.gdpUdpPort w, 0)
  | 0x0010, 8 => some (if w = 1 then s.setSession { x with closing := true } else s, 0)
  | 0x1000, 4 =>
    some (if w = 1 then s.applyIf (s.resetApplies 1) (nextOf s (execCoreReset x.id s))
      else if w = 2 then s.applyIf (s.resetApplies 2) (nextOf s (execPackageReset x.id s)) else (s, 0))
  | 0x1010, 1 =>
    let i := readFirmware v
    some (nextOf s (execFirmwareUpdate x.id i s),
      if (s.device = devReady ∨ s.device = devRecovery) ∧ s.dev.writing.isNone ∧ s.dev.checkImage i = 0 then 0 else 1)
  | 0x1010, 6 =>
    let more := match s.dev.running with | some i => decide (s.dev.fuseCount < i.securityVersion) | none => false
    some (if w = 1 then s.applyIf more (nextOf s (execRollbackCommit x.id 1 s)) else (s, 0))
  | 0xB000, 4 =>
    let good := match s.dev.running with | some i => !s.dev.ownerFused && imgOwnerOk i v | none => false
    some (s.applyIf good (nextOf s (execOwnerKeyFuse x.id v s)))
  | 0xB010, k => some (s.applyIf (slotOk (readKeySlot v)) (nextOf s (execKeySlotWrite x.id (k - 1) (readKeySlot v) s)))
  | 0xB020, 1 => some (nextOf s (execAttestationNonce x.id v s), 0)
  | _, _ => none

/-! Cadence, envelope, thermal, tiers (R78 to R81, R357, R358, R360) -/

/-- Writes of 0x2000 to 0x3FFF. -/
def State.putSupply (s : State) (x : Session) (o : ObjRef) (v : List Byte) : Option (State × Nat) :=
  let w := fromBytes v
  let k := objKey o
  let master := s.reg Obj.cadenceRole == 1
  if o.index = 0x2000 then
    some (if w = 1 then (nextOf s (execCadenceRoleWrite x.id 1 s), 0) else s.applyIf (w == 0 && !master) s)
  else if o.index = 0x2001 then some (s.applyIf master (nextOf s (execGatePeriodWrite x.id w s)))
  else if o.index = 0x2020 then
    match o.sub with
    | 1 => some (s.storeClamped k 0 5200 w)
    | 2 => some (s.storeClamped k 1500 5200 w)
    | 3 => some (s.storeClamped k 100 1500 w)
    | 4 => some (s.storeClamped k 1 256 w)
    | 5 => some (s.storeClamped k 0 64 w)
    | _ => some (nextOf s (execEnvelopeCommit x.id w s), 0)
  else if o.index = 0x2030 then
    some (s.applyIf (w % 20 == 0 && decide (600 ≤ w) && decide (w ≤ 2100)) (s.setReg k w))
  else if 0x3010 ≤ o.index ∧ o.index ≤ 0x301F then
    some (s.applyIf ((s.tenant (o.index - 0x3010)).state == 0 && w % 64 == 0) (s.setReg k w))
  else if 0x3030 ≤ o.index ∧ o.index ≤ 0x303F then
    let n := o.index - 0x3030
    if v.length % 32 ≠ 0 then some (s, 2)
    else
      let ms := (records 32 v).map readMapEntry
      some (nextOf s (execTensorMapWrite x.id n ms s), if (s.writeMap n ms).isSome then 0 else 1)
  else if 0x30D0 ≤ o.index ∧ o.index ≤ 0x30D7 then some (s.setReg k (min 4 w), 0)
  else none

/-! Compute and tenants' compute settings (R42, R186, R253, R254, R282) -/

/-- Writes of 0x4000 to 0x4FFF. -/
def State.putCompute (s : State) (x : Session) (o : ObjRef) (v : List Byte) : Option (State × Nat) :=
  let w := fromBytes v
  let k := objKey o
  if 0x4000 ≤ o.index ∧ o.index ≤ 0x400F then
    some (s.applyIf (decide (o.index < 0x4008)) (nextOf s (execClockRequestWrite x.id (o.index - 0x4000) w s)))
  else if 0x4400 ≤ o.index ∧ o.index ≤ 0x440F then
    match o.sub with
    | 1 => some (s.setReg k (if w = 2 then 2 else 0), 0)
    | 4 => some (s.storeBool k w)
    | _ => none
  else if 0x4500 ≤ o.index ∧ o.index ≤ 0x450F then
    let open_ := (s.tenant (o.index - 0x4500)).state != 1
    if o.sub = 1 then some (s.applyIf open_ (s.setReg k (if w = 3 then 3 else 2)))
    else some (s.applyIf (open_ && decide (1 ≤ w) && decide (w ≤ 16384)) (s.setReg k w))
  else none

/-! Optical ports, sketch engine, steering, Ethernet (R449, R560 to R564, R708, R729, R730) -/

/-- A write of the watch table (R547): no group holds entries of two tenants. -/
def State.putWatch (s : State) (x : Session) (o : ObjRef) (w : Nat) : State × Nat :=
  let i := (o.index - 0x5820) * 256 + o.sub
  let e := w &&& 0xFFFFFF8F
  let n := bits e 0 4
  let clash := (List.range 1024).any fun j =>
    let f := s.reg (Obj.sketchWatch j)
    j != i && bit f 7 && bits f 24 8 == bits e 24 8 && bits f 0 4 != n
  if bit e 7 then s.ownNaming x n (s.applyIf (!clash) (s.setReg (objKey o) e)) else (s.setReg (objKey o) e, 0)

/-- A write of the steering settings (R554, R558, R564): accum_count waits for a step's opening, the others for a commit or
abort. -/
def State.putSteering (s : State) (o : ObjRef) (w : Nat) : State × Nat :=
  let n := o.index - 0x5860
  let t := s.tenant n
  let later := fun (u : Nat) =>
    (s.setTenant n { t with pendingRegs := (t.pendingRegs.filter fun p => p.1 != objKey o) ++ [(objKey o, u)] }, 0)
  match o.sub with
  | 2 => (s.setTenant n { t with pendingAccum := some w }, 0)
  | 3 => if w ≤ 1 then later w else (s, 1)
  | 6 => later (max 1 w)
  | 10 =>
    match clampWeight w with
    | some u => later u
    | none => (s, 1)
  | 12 => later (if w = 0 then 0 else 1)
  | _ => later w

/-- Writes of 0x5000 to 0x5FFF. -/
def State.putOptical (s : State) (x : Session) (o : ObjRef) (v : List Byte) : Option (State × Nat) :=
  let w := fromBytes v
  let k := objKey o
  if o.index = 0x5000 then
    match o.sub with
    | 3 => some (s.storeClamped k 900 600000 w)
    | 4 => some (s.storeBool k w)
    | _ => some (s.applyIf (isRemap (v.map (·.toNat))) (nextOf s (execPortRemapWrite x.id (v.map (·.toNat)) s)))
  else if o.index = 0x5800 then
    if o.sub = 1 then some ({ s with sketch := { s.sketch with pendingPeriod := some (min 5 w) } }, 0)
    else some ({ s with sketch := { s.sketch with pendingCode := some (min 16 w) } }, 0)
  else if 0x5820 ≤ o.index ∧ o.index ≤ 0x5823 then some (s.putWatch x o w)
  else if 0x5860 ≤ o.index ∧ o.index ≤ 0x586F then some (s.putSteering o w)
  else if o.index = 0x5901 ∨ o.index = 0x5903 then some (s.setLater k w, 0)
  else if o.index = 0x5902 then some (s.storeWithin k 0 128 w)
  else if o.index = 0x5904 then some (s.storeWithin k 0 32 w)
  else if o.index = 0x5905 then some (s.storeClamped k 4272 9216 w)
  else if o.index = 0x5910 ∨ o.index = 0x5911 then
    match o.sub with
    | 1 => some (s.setLater k w, 0)
    | 2 => some (s.setLater k w, 0)
    | 3 => some (s.setReg k (if 4094 < w then 0 else w), 0)
    | 4 => some (s.storeWithin k 0 7 w)
    | 5 => some (s.storeWithin k 0 7 w)
    | 6 => some (s.storeWithin k 0 63 w)
    | 7 => some (s.storeWithin k 0 63 w)
    | _ => none
  else none

/-! Fabric and collectives (R458, R463 to R468, R498 to R502, R508, R541 to R543) -/

/-- A drawing as written (R463 to R465). -/
def readDrawing (b : List Byte) : Drawing :=
  let na := field b 1 1
  { drawingId := field b 0 1, chip := field b 4 2,
    axes := (List.range na).map fun i =>
      let a := b.drop (64 + 16 * i)
      { axisId := field a 0 1, kind := field a 1 1, length := field a 2 2, coordinate := field a 4 2, nextChip := field a 6 2,
        prevChip := field a 8 2, cut := field a 10 1, tenant := field a 11 1 % 16 },
    lanes := (List.range (field b 2 1)).map fun i =>
      let e := b.drop (64 + 16 * na + 8 * i)
      { port := bits (field e 0 1) 0 4, lane := bits (field e 0 1) 4 3, channel := field e 1 1, axis := bits (field e 2 1) 0 4,
        backward := bit (field e 2 1) 4, noAxis := bit (field e 2 1) 5, tenant := field e 3 1 % 16, txChip := field e 4 2,
        rxChip := field e 6 2 } }

/-- A write of a stored drawing (R466, R467): an empty value removes it; the drawing in force stays. -/
def State.putDrawing (s : State) (x : Session) (slot : Nat) (v : List Byte) : State × Nat :=
  let kept : Bool := match s.stored slot with
    | some d => s.drawingInForceIs d.drawingId
    | none => false
  if v.isEmpty then
    let s1 := if (s.stored slot).isSome then s.bump (Obj.drawingStore slot) else s
    s.applyIf (!kept) { s1 with fabric := { s1.fabric with store := Sparse.erase slot s1.fabric.store } }
  else if v.length ≠ 64 + 16 * field v 1 1 + 8 * field v 2 1 then (s.count 32 Obj.drawingRejectCount, 1)
  else
    let d := readDrawing v
    (nextOf s (execDrawingWrite x.id slot d s), if s.drawingOk d && !kept && !s.drawingInForceIs d.drawingId then 0 else 1)

/-- Is an instance open that uses a group table (R541)? -/
def State.groupInUse (s : State) (g : Nat) : Bool :=
  s.colls.insts.any fun i =>
    let p := s.planOf i.n i.plan
    (p.reduceGroup.kind == 2 && p.reduceGroup.table == g) || (p.gather && p.gatherGroup.kind == 2 && p.gatherGroup.table == g)

/-- A write of a group table (R541): chip numbers in rank order, each unique. -/
def State.putGroup (s : State) (x : Session) (g : Nat) (v : List Byte) : State × Nat :=
  let n := field v 2 1 % 16
  let l := (List.range (field v 0 2)).map fun i => field v (8 + 2 * i) 2
  let b := s.bump (Obj.groupTable g)
  if s.groupInUse g then (s, 1)
  else if v.isEmpty then
    ({ (if Sparse.get 0 g s.colls.owners = 0 then s else b) with colls := { s.colls with groups := Sparse.erase g s.colls.groups, owners := Sparse.erase g s.colls.owners } }, 0)
  else
    s.ownNaming x n (s.applyIf (v.length == 8 + 2 * l.length && decide (l.length ≤ 16384) && decide l.Nodup)
      { (if Sparse.get [] g s.colls.groups = l ∧ Sparse.get 0 g s.colls.owners = n + 1 then s else b) with colls := { s.colls with
          groups := Sparse.insert g l s.colls.groups, owners := Sparse.insert g (n + 1) s.colls.owners } })

/-- A plan's reserved fields read as zeros (R12, R503, R507). -/
def planStored (v : List Byte) : Nat :=
  let keep : Nat → Nat := fun i =>
    if i = 0 then 0x0F
    else if i = 0x09 ∨ i = 0x0E ∨ i = 0x0F ∨ i = 0x15 ∨ i = 0x1A ∨ i = 0x1B then 0
    else if i = 0x0D ∨ i = 0x19 then 0x03
    else if 0x24 ≤ i ∧ i ≤ 0x3F then 0
    else 0xFF
  fromBytes (((List.range v.length).zip v).map fun p => p.2 &&& BitVec.ofNat 8 (keep p.1))

/-- A write of a plan (R507, R508, R542): not while an instance of it is open. -/
def State.putPlan (s : State) (o : ObjRef) (v : List Byte) : State × Nat :=
  let q := (o.index - 0x6600) * 256 + o.sub
  if q % 1024 = 0 then (s, 0)
  else
    s.applyIf (!(s.colls.insts.any fun i => i.n == q / 1024 && i.plan == q % 1024) && decide (field v 1 1 ≤ 4))
      (s.setReg (objKey o) (planStored v))

/-- Writes of 0x6000 to 0x6FFF. -/
def State.putFabric (s : State) (x : Session) (o : ObjRef) (v : List Byte) : Option (State × Nat) :=
  let w := fromBytes v
  let k := objKey o
  let calm := s.device == devReady && s.notFree.isEmpty
  if o.index = 0x6000 then
    if o.sub = 1 then
      some (s.applyIf (calm && (decide (w ≤ 0x3FFF) || w == 0xFFFF)) (nextOf s (execChipNumberWrite x.id w s)))
    else some (s.applyIf (calm && decide (w ≤ 8)) (s.setReg k w).settleRacks)
  else if o.index = 0x6010 then some (s.putDrawing x o.sub v)
  else if o.index = 0x6020 then some (s.setReg k (w % 2 ^ 73), 0)
  else if o.index = 0x6021 then
    let t := nextOf s (execSlalomArm x.id s)
    some (if w = 1 then (t, if t.reg Obj.slalomState = 2 then 1 else 0) else (s, 0))
  else if o.index = 0x6300 then
    some (if w = 1 then nextOf s (execArbiterCommitNow x.id s) else if w = 2 then nextOf s (execArbiterCommitGate x.id s) else s, 0)
  else if 0x6400 ≤ o.index ∧ o.index ≤ 0x64BF then
    if o.sub = 1 then (if v.length % 4 ≠ 0 then some (s, 2) else none) else some (s.setReg k (w / 2 ^ 32 * 2 ^ 32), 0)
  else if 0x6500 ≤ o.index ∧ o.index ≤ 0x6503 then some (s.putGroup x ((o.index - 0x6500) * 256 + o.sub) v)
  else if 0x6600 ≤ o.index ∧ o.index ≤ 0x663F then some (s.putPlan o v)
  else if 0x6700 ≤ o.index ∧ o.index ≤ 0x670F then
    let n := o.index - 0x6700
    match o.sub with
    | 1 => some (s.storeWithin k 1 60000 w)
    | 2 => some (s.storeWithin k 10 60000 w)
    | 3 => some (s.storeClamped k 0 16777215 w)
    | _ =>
      some (if w = 1 then (nextOf s (execCollectiveHold x.id n s), 0)
        else s.applyIf (w == 0) (nextOf s (execCollectiveHoldEnd x.id n s)))
  else none

/-! Continuity (R565 to R568, R578, R583, R584, R587, R597, R598, R600, R604, R605) -/

/-- A member list as written (R583). -/
def readMembers (v : List Byte) : List Nat := (List.range (field v 0 2)).map fun i => field v (8 + 2 * i) 2

/-- A mirror entry's written fields (R600). -/
def readMirror (v : List Byte) : MirrorSpec :=
  { localBase := field v 0 8, buddyChip := field v 8 2, buddyBase := field v 0x10 8, role := field v 0x18 1,
    tensorId := field v 0x1C 4 }

/-- A ring that R584 admits: 64-byte aligned, wholly in the tenant's own entries of home tier Deep, neither versioned nor shared. -/
def State.ringOk (s : State) (n base len : Nat) : Bool :=
  base % 64 == 0 && !anyOffset base len fun o =>
    match s.findEntry n o .plain with
    | some (_, e) => e.tenant != n || e.homeTier != 2 || e.versioned || e.shared
    | none => true

/-- A write of the ring's objects (R584, R587): not while a step is open; the slot size follows. -/
def State.putRing (s : State) (n sub w : Nat) : State × Nat :=
  let slots := if 2 ≤ w ∧ w ≤ 4 then w else 3
  let base := if sub = 1 then w else s.reg (Obj.ringBase n)
  let len := if sub = 2 then w else s.reg (Obj.ringBytes n)
  let k := if sub = 3 then slots else s.ringSlotsOf n
  s.applyIf ((s.tenant n).steps.isEmpty && s.ringOk n base len)
    ((((s.setReg (Obj.ringBase n) base).setReg (Obj.ringBytes n) len).setReg (Obj.ringSlots n) k).setReg (Obj.slotBytes n)
      (len / k / 64 * 64))

/-- Writes of 0x7010+n. -/
def State.putLedger (s : State) (x : Session) (n : Nat) (o : ObjRef) (v : List Byte) : State × Nat :=
  let w := fromBytes v
  let t := s.tenant n
  let k := objKey o
  match o.sub with
  | 1 => s.applyIf t.steps.isEmpty (s.setReg k w)
  | 2 => s.applyIf (t.state == 0) ((s.setReg k w).setReg (Obj.committedStep n) (w - 1))
  | 3 =>
    let l := readMembers v
    let form := v.isEmpty || v.length == 8 + 2 * l.length
    s.applyIf (form && t.steps.isEmpty && s.membersOk l) (nextOf s (execLedgerMembersWrite x.id n l s))
  | 6 => s.applyIf (t.state == 1 && decide (s.oldestStep n ≤ w)) (nextOf s (execStepClose x.id n w s))
  | 7 => s.applyIf (t.state == 1) (nextOf s (execAbortRequest x.id n w s))
  | 11 => s.storeClamped k 64 65536 w
  | _ => s.storeClamped k 10 3600000 w

/-- Writes of 0x7050+n; what the buddy says of its version and steps is not known to a plain write and is drawn (log entry 2). -/
def State.putMirrors (s : State) (x : Session) (n : Nat) (o : ObjRef) (v : List Byte) : State × Nat :=
  let w := fromBytes v
  let t := s.tenant n
  let (ver, s1) := s.draw 16
  let (busy, s2) := s1.draw 1
  match o.sub with
  | 1 =>
    if v.length % 32 ≠ 0 then (s, 2)
    else
      let ms := (records 32 v).map readMirror
      s.applyIf (t.steps.isEmpty && ms.all (fun m => (s.entryAt n m.localBase).isSome && !t.badPromotion m))
        (nextOf s (execMirrorTableWrite x.id n ms s))
  | 2 => if w = 1 then s2.applyIf (s2.mayPopulate n ver (busy == 1)) (nextOf s2 (execMirrorPopulate x.id n ver (busy == 1) s2)) else (s, 0)
  | _ => if w = 1 then s2.applyIf (s2.mayPopulate n ver (busy == 1)) (nextOf s2 (execMirrorVerify x.id n ver (busy == 1) s2)) else (s, 0)

/-- Writes of 0x7000 to 0x7FFF. -/
def State.putContinuity (s : State) (x : Session) (o : ObjRef) (v : List Byte) : Option (State × Nat) :=
  let w := fromBytes v
  if o.index = 0x7000 then
    if !s.mayName x.id w then some (s.violate x.id, 0)
    else if o.sub = 5 then some (s.applyIf (decide (w < 16384)) (nextOf s (execFenceRequest x.id w s)))
    else some (s.applyIf (s.fenced w && s.readyToRejoin w) (nextOf s (execMemberRejoin x.id w s)))
  else if 0x7010 ≤ o.index ∧ o.index ≤ 0x701F then some (s.putLedger x (o.index - 0x7010) o v)
  else if 0x7030 ≤ o.index ∧ o.index ≤ 0x703F then some (s.putRing (o.index - 0x7030) o.sub w)
  else if 0x7050 ≤ o.index ∧ o.index ≤ 0x705F then some (s.putMirrors x (o.index - 0x7050) o v)
  else none

/-! Judges (R285, R291, R292, R298, R301, R308, R309) -/

/-- A slot's configuration as written (R291). -/
def readSlotCfg (v : List Byte) : SlotCfg :=
  let f := field v 0 1
  { silentMode := if bits f 0 2 = 3 then 0 else bits f 0 2, nonfiniteVeto := bit f 2, silentSteps := max 1 (field v 2 2),
    zeroPpm := min 1000000 (field v 4 4), underflowPpm := min 1000000 (field v 8 4) }

/-- A write of a watch setting (R301, R303, R309; the reserved bits of veto_mask are ignored, R12): it waits for the next commit or abort. -/
def State.putWatchCfg (s : State) (n sub w : Nat) : State × Nat :=
  let t := s.tenant n
  let c := t.pendingCfg.getD (s.watchCfg n)
  let later := fun (d : WatchCfg) => (s.setTenant n { t with pendingCfg := some d }, 0)
  match sub with
  | 3 => later { c with vetoMask := w % 32 }
  | 4 => later { c with spikeK := w }
  | 5 =>
    match clampWeight w with
    | some u => later { c with ewWeight := u }
    | none => (s, 1)
  | 6 => later { c with warmup := w }
  | 7 => later { c with spikeLimit := w }
  | _ => later { c with lossExpected := w != 0 }

/-- Writes of 0x8000 to 0x8FFF. -/
def State.putJudges (s : State) (x : Session) (o : ObjRef) (v : List Byte) : Option (State × Nat) :=
  let w := fromBytes v
  let k := objKey o
  if 0x8010 ≤ o.index ∧ o.index ≤ 0x801F then
    let n := o.index - 0x8010
    if o.sub ≤ 2 then
      some (s.applyIf ((s.tenant n).state != 1 && (o.sub == 1 || decide (w ≤ 65536))) (s.setReg k w))
    else some (s.putWatchCfg n o.sub w)
  else if 0x8020 ≤ o.index ∧ o.index ≤ 0x802F then
    let n := o.index - 0x8020
    let step := field v 0 8
    let good := if s.takesValue n step then 0 else 1
    match o.sub with
    | 1 => some (nextOf s (execLossWrite x.id n step (field v 8 4) s), good)
    | 6 => some (nextOf s (execGradWrite x.id n step (field v 8 4) s), good)
    | _ => some (nextOf s (execStatsReset x.id n w s), 0)
  else if 0x8100 ≤ o.index ∧ o.index ≤ 0x81FF then
    let j := (o.index - 0x8100) * 256 + o.sub
    some (s.setSlot j { s.slot j with pendingCfg := some (readSlotCfg v) }, 0)
  else none

/-! Tenants, images, queues, queue pairs (R361 to R364, R367, R368, R393, R397 to R400, R715, R731) -/

/-- A core set that R362 admits: no core of another tenant, none that is fused off. -/
def State.coreSetOk (s : State) (n w : Nat) : Bool :=
  (List.range 512).all fun c => !bit w c || (s.coreEnabled c &&
    (List.range 16).all fun m => m == n || !bit (s.reg (Obj.coreSet m)) c)

/-- A range of queues that R362 admits. -/
def State.queueRangeOk (s : State) (n first count : Nat) : Bool :=
  (List.range 16).all fun m => m == n || !sharesMeet first count (s.reg (Obj.queueFirst m)) (s.reg (Obj.queueCount m))

/-- A write of tenant_control (R363, R364): other values are ignored. -/
def State.putControl (s : State) (x : Session) (n w : Nat) : State × Nat :=
  if w = 1 then
    let t := nextOf s (execTenantAdmit x.id n s)
    (t, if x.role ≠ roleOwner ∨ ((s.tenant n).state = 0 ∧ (t.tenant n).state = 1) then 0 else 1)
  else if w = 2 then (nextOf s (execTenantRelease x.id n s), 0)
  else if w = 3 then (nextOf s (execTenantReset x.id n s), 0)
  else (s, 0)

/-- Writes of 0xA010+n (R397). -/
def State.putTenant (s : State) (x : Session) (o : ObjRef) (w : Nat) : State × Nat :=
  let n := o.index - 0xA010
  let k := objKey o
  let free := (s.tenant n).state == 0
  match o.sub with
  | 2 => s.putControl x n w
  | 4 => s.applyIf (free && s.coreSetOk n w) (s.setReg k w)
  | 5 => s.applyIf (free && s.queueRangeOk n w (s.reg (Obj.queueCount n))) (s.setReg k w)
  | 6 => s.applyIf (free && decide (w ≤ 4096) && s.queueRangeOk n (s.reg (Obj.queueFirst n)) w) (s.setReg k w)
  | _ => s.storeWithin k 0 128 w

/-- A queue pair's record as written (R731). -/
def readQp (v : List Byte) : QpSpec :=
  let p := field v 7 1
  { state := field v 3 1, remoteQpn := field v 4 3, primary := bits p 0 3, alternate := bits p 4 3, altValid := bit p 7,
    remoteAddress := field v 8 16, sendPsn := field v 0x18 3, receivePsn := field v 0x1B 3, tenant := bits (field v 0x1E 1) 0 4,
    retryCount := field v 0x1F 1, timeoutUs := field v 0x20 4 }

/-- A write of a queue pair (R715): its fields in reset only; state 1 makes it ready; from ready or error only the return to reset is
applied. A valid alternate port lies on the other network. -/
def State.putQp (s : State) (i : Nat) (v : QpSpec) : State × Nat :=
  let q := s.qp i
  if q.spec.state ≠ qpReset then s.applyIf (v.state == qpReset) (s.setQp i { spec := { q.spec with state := qpReset } })
  else if v.state = qpError ∨ 2 < v.state ∨ 7 < v.retryCount ∨ (v.altValid ∧ v.primary / 4 = v.alternate / 4) then (s, 1)
  else if v.state = qpReady then (s.qpStart i v, 0)
  else (s.setQp i { spec := v }, 0)

/-- Writes of 0xA000 to 0xAFFF. -/
def State.putQueues (s : State) (x : Session) (o : ObjRef) (v : List Byte) : Option (State × Nat) :=
  let w := fromBytes v
  if 0xA010 ≤ o.index ∧ o.index ≤ 0xA01F then some (s.putTenant x o w)
  else if 0xA030 ≤ o.index ∧ o.index ≤ 0xA03F then
    let n := o.index - 0xA030
    some (s.applyIf ((s.tenant n).state == 0) (nextOf s (execImageLoad x.id n o.sub v s)))
  else if 0xA050 ≤ o.index ∧ o.index ≤ 0xA05F then
    let n := o.index - 0xA050
    some (s.applyIf (w != 0 || (s.tenant n).state == 0) (nextOf s (execImageClear x.id n o.sub w s)))
  else if 0xA060 ≤ o.index ∧ o.index ≤ 0xA06F then
    let (m, t) := s.hostWrite (o.index - 0xA060) 0 v
    some (t.countWindow x.id (o.index - 0xA060) m, 0)
  else if 0xA100 ≤ o.index ∧ o.index ≤ 0xA10F then
    let q := (o.index - 0xA100) * 256 + o.sub
    some (s.applyIf (queueConfigOk v && (!s.queueBusy q || bits w 0 2 == 0)) (s.writeQueueConfig q v))
  else if 0xA310 ≤ o.index ∧ o.index ≤ 0xA31F then
    let q := (o.index - 0xA310) * 256 + o.sub
    some (s.advanceHead q w, if (s.queue q).lastSequence < w then 1 else 0)
  else if 0xA600 ≤ o.index ∧ o.index ≤ 0xA603 then some (s.putQp ((o.index - 0xA600) * 256 + o.sub) (readQp v))
  else none

/-! Perturbation (R631 to R633, R639) -/

/-- Writes of 0xC000 to 0xCFFF. -/
def State.putPerturb (s : State) (x : Session) (o : ObjRef) (v : List Byte) : Option (State × Nat) :=
  let w := fromBytes v
  let k := objKey o
  let within := fun (lo hi : Nat) => some (s.applyIf (s.perturbAllowed && decide (lo ≤ w) && decide (w ≤ hi)) (s.setReg k w))
  if o.index = 0xC000 then
    some (if o.sub = 1 then nextOf s (execTestModeWrite x.id w s) else nextOf s (execPerturbStop x.id w s), 0)
  else if o.index = 0xC010 then within 0 4095
  else if o.index = 0xC200 then
    let a := field v 0 8
    let kind := field v 8 1
    some (s.applyIf (s.perturbAllowed && a / 2 ^ 50 == s.chip && (kind == 1 || kind == 2) && decide (s.injections.length < 16))
      (nextOf s (execMemoryInject x.id a kind s)))
  else if 0xC100 ≤ o.index ∧ o.index ≤ 0xC1BF then within 0 0xFFFFFF
  else if 0xC210 ≤ o.index ∧ o.index ≤ 0xC213 then
    some (s.applyIf (s.perturbAllowed && (w == 0 || decide (0x10000 - 1000 ≤ w))) (s.setReg k w))
  else if o.index = 0xC220 ∧ o.sub = 11 then some (s.applyIf s.perturbAllowed (s.setReg k (if w = 0 then 0 else 1)))
  else if 0xC020 ≤ o.index ∧ o.index ≤ 0xC220 then within 0 0xFFFF
  else none

/-! Every object -/

/-- Apply a write whose right and form stand (R651 item 3): the object's chapter decides; what no chapter restricts is stored. -/
def State.writeObj (s : State) (x : Session) (o : ObjRef) (v : List Byte) : State × Nat :=
  let r := (s.putIdentity x o v).orElse fun _ => (s.putSupply x o v).orElse fun _ => (s.putCompute x o v).orElse fun _ =>
    (s.putOptical x o v).orElse fun _ => (s.putFabric x o v).orElse fun _ => (s.putContinuity x o v).orElse fun _ =>
    (s.putJudges x o v).orElse fun _ => (s.putQueues x o v).orElse fun _ => s.putPerturb x o v
  match r with
  | some p => p
  | none =>
    match objRow o with
    | some row => if row.type = 1 then s.storeBool (objKey o) (fromBytes v) else (s.setReg (objKey o) (fromBytes v), 0)
    | none => (s, 1)

/-- The form of a value (R651 item 2): the length of its type, or up to the object's largest. -/
def formOk (o : ObjRef) (r : ObjRow) (v : List Byte) : Bool :=
  r.access != 3 && (if r.width = 0 then decide (v.length ≤ maxLength o r) else v.length == r.width)

/-- OBJECT_WRITE (R651): a write of an object that has no row of its own; without the right only the violation is counted. -/
def execObjectWrite (sess : Nat) (obj : ObjRef) (value : List Byte) (s : State) : Host.Outcome State Fault Refusal :=
  .next (match s.session? sess, objRow obj with
    | some x, some r =>
      if !s.canWrite x obj then s.violate sess
      else if formOk obj r value then (s.writeObj x obj value).1
      else s
    | some _, none => s.violate sess
    | none, _ => s)

end Sys2Proof.Machine
end

