-- ==== Sys2Proof/Machine/Ethernet.lean ====
section
/-!
DEFINITION. The commands of the Ethernet ports and of RoCEv2 (R706 to R720, R729 to R731).
-/

namespace Sys2Proof.Machine

/-! Fibre connectors (R721) -/

/-- The connector and the positions of a fabric port's fibres, transmit and receive (R721). -/
def fabricFibres (f : Nat) : Nat × Nat × Nat := (f / 4, 2 * (f % 4) + 1, 2 * (f % 4) + 2)

/-- The connector of an Ethernet port, and the positions of a lane's transmit and receive fibres (R721). -/
def ethFibres (e lane : Nat) : Nat × Nat × Nat := (e / 2, 9 + 8 * (e % 2) + lane, 13 + 8 * (e % 2) + lane)

/-! Links, frames, neighbours, pauses (R706 to R713) -/

/-- The Ethernet ports run (R682, R689): stage 6 of start-up has begun. -/
def State.ethPowered (s : State) : Bool :=
  s.device != devOff && s.device != devHalted && (s.device != devBoot || s.stageRuns 6 || s.dev.stages.contains 6)

/-- A port's link is up. -/
def State.ethUp (s : State) (port : Nat) : Bool := s.reg (Obj.linkState port) == 1

/-- ETH_LINK_RETRY (R706): a port that is down tries again, every 100 ms. -/
def execEthLinkRetry (port : Nat) (ok : Bool) (s : State) : Host.Outcome State Fault Refusal :=
  .next (if s.ethPowered && !s.ethUp port && ok then s.setReg (Obj.linkState port) 1 else s)

/-- ETHERNET_LINK_DOWN (R729): counted; the port goes back to retrying. -/
def execEthernetLinkDown (port : Nat) (s : State) : Host.Outcome State Fault Refusal :=
  .next (if s.ethUp port then (s.setReg (Obj.linkState port) 0).count 32 (Obj.linkDownCount port) else s)

/-- Messages that waited leave, each as its priority allows (R710, R713). -/
def State.transmitAll (s : State) (ms : List EthMsg) : State := ms.foldl (fun t m => t.transmit m) s

/-- The neighbour cache of a network holds 4,096 entries (R710). -/
def neighbourRoom : Nat := 4096

/-- Put a peer into a network's neighbour cache, which gives up its oldest entry when it is full. -/
def withNeighbour (l : List (Nat × Nat)) (net peer : Nat) : List (Nat × Nat) :=
  let rest := l.filter fun p => !(p.1 == net && p.2 == peer)
  let full := decide (neighbourRoom ≤ (rest.filter fun p => p.1 == net).length)
  let kept := if full then (match rest.find? fun p => p.1 == net with | some p => rest.erase p | none => rest) else rest
  kept ++ [(net, peer)]

/-- A peer is resolved (R710): the packets that wait for it leave. -/
def State.learn (s : State) (net peer : Nat) : State :=
  let mine : EthMsg → Bool := fun h => h.net == net && h.hop == peer
  ({ s with eth := { s.eth with
      neighbours := withNeighbour s.eth.neighbours net peer,
      held := s.eth.held.filter fun h => !mine h } }).transmitAll (s.eth.held.filter mine)

/-- A frame is discarded and counted (R709). -/
def State.discard (s : State) (port : Nat) : State := s.count 64 (Obj.discardCount port)

/-- Echo requests answered in a second of uptime (R709). -/
def echoesPerSecond : Nat := 64

/-- An echo request (R709): answered for the port's own addresses, at most 64 in a second. -/
def State.answerEcho (s : State) (port target : Nat) : State :=
  let sec := s.up / 1000000000
  let old := Sparse.get (0, 0) port s.eth.echoes
  let used := if old.1 = sec then old.2 else 0
  if !(s.ownAddresses port).contains target || decide (echoesPerSecond ≤ used) then s.discard port
  else
    ({ s with eth := { s.eth with echoes := Sparse.insert port (sec, used + 1) s.eth.echoes } }).transmit
      { net := port / 4, hop := 0, port := port, prio := s.controlPrio port, msg := .echo port }

/-- A RoCEv2 packet marked CE is answered with a notification, at most one in 50 µs per queue pair (R720). -/
def State.congested (s : State) (i : Nat) : State :=
  let v := s.qp i
  let recent : Bool := match v.lastCnp with | some t => decide (s.up < t + 50000) | none => false
  if v.spec.state ≠ qpReady ∨ recent then s
  else (s.setQp i { v with lastCnp := some s.up }).sendRdma i (.cnp v.port i)

/-- Bytes in a priority's receive buffer at which a pause is sent, and below which it is released (R713). -/
def pauseAbove : Nat := 2621440
def resumeBelow : Nat := 1572864

/-- The priorities of pfc_mask are held back by pauses, the others are lossy (R713). -/
def State.lossless (s : State) (port priority : Nat) : Bool := bit (s.reg (Obj.pfcMask (port / 4))) priority

/-- A frame has come in on a priority of pfc_mask whose buffer now holds fill bytes (R713): at 2.5 MiB a pause is sent and counted,
below 1.5 MiB it is released. -/
def State.pauseFor (s : State) (port priority fill : Nat) : State :=
  let on := s.eth.pausing.contains (port, priority)
  if !s.lossless port priority then s
  else if !on && decide (pauseAbove ≤ fill) then
    ((({ s with eth := { s.eth with pausing := s.eth.pausing ++ [(port, priority)] } }).count 64 (Obj.pauseSent port))).emit
      (.pause port priority true)
  else if on && decide (fill < resumeBelow) then
    ({ s with eth := { s.eth with pausing := s.eth.pausing.filter fun p => p != (port, priority) } }).emit (.pause port priority false)
  else s

/-- What a port does with a frame of its own network (R709, R712, R720); UDP to a port it does not serve is discarded. -/
def State.takeEth (s : State) (port : Nat) : EthKind → State
  | .neighbour true peer target =>
    if (s.ownAddresses port).contains target then (s.learn (port / 4) peer).transmit
      { net := port / 4, hop := peer, port := port, prio := s.controlPrio port, msg := .neighbour (port / 4) peer true }
    else s
  | .neighbour false peer _ => s.learn (port / 4) peer
  | .echo target => s.answerEcho port target
  | .udp p => if p = s.inForce Obj.gdpUdpPort ∨ p = s.reg Obj.dispatchUdpPort then s else s.discard port
  | .roce i ce => if ce then s.congested i else s
  | .globalPause => s
  | .uncorrected => s
  | .other => s.discard port

/-- ETH_FRAME_RECEIVE (R709, R710, R712, R713, R720, R729): what GDP, Dispatch and RoCEv2 do with a frame is their own commands' effect.
The bytes its priority's buffer then holds come with the frame, none where it finds that buffer full (log entry 155). -/
def execEthFrameReceive (port : Nat) (tag : EthTag) (kind : EthKind) (s : State) : Host.Outcome State Fault Refusal :=
  .next (
    if !s.ethUp port then s
    else if kind = .uncorrected then s.count 64 (Obj.fecUncorrected port)
    else if kind = .globalPause then s
    else if tag.vlan ≠ s.reg (Obj.vlanId (port / 4)) then s.discard port
    else
      match tag.fill with
      | none => s.discard port
      | some n => (s.pauseFor port tag.priority n).takeEth port kind)

/-- NEIGHBOUR_TIMEOUT (R710): the packets that still wait for a next hop after 1 ms are dropped. -/
def execNeighbourTimeout (net peer : Nat) (s : State) : Host.Outcome State Fault Refusal :=
  .next { s with eth := { s.eth with held := s.eth.held.filter fun h => !(h.net == net && h.hop == peer) } }

/-- ADDRESS_CHANGE_EFFECT (R708): 1 s after the reply to its write, an address or gateway is in force. -/
def execAddressChangeEffect (obj : ObjRef) (s : State) : Host.Outcome State Fault Refusal :=
  .next { s with eth := { s.eth with oldAddr := s.eth.oldAddr.filter fun p => p.1 != objKey obj || p.1 == Obj.gdpUdpPort } }

/-- A paused priority transmits again (R713). -/
def State.resume (s : State) (port priority : Nat) : State :=
  let mine : EthMsg → Bool := fun h => h.port == port && h.prio == priority
  ({ s with eth := { s.eth with
      paused := s.eth.paused.filter fun p => !(p.1 == port && p.2 == priority),
      waiting := s.eth.waiting.filter fun h => !mine h } }).transmitAll (s.eth.waiting.filter mine)

/-- PAUSE_RECEIVE (R713): on a priority of pfc_mask; quanta of 0 end a pause. -/
def execPauseReceive (port priority quanta : Nat) (s : State) : Host.Outcome State Fault Refusal :=
  .next (
    if !s.ethUp port || !bit (s.reg (Obj.pfcMask (port / 4))) priority then s
    else
      let s1 := s.count 64 (Obj.pauseReceived port)
      if quanta = 0 then s1.resume port priority
      else if s1.eth.paused.contains (port, priority) then s1
      else { s1 with eth := { s1.eth with paused := s1.eth.paused ++ [(port, priority)] } })

/-- PAUSE_QUANTA_EXPIRY (R713). -/
def execPauseQuantaExpiry (port priority : Nat) (s : State) : Host.Outcome State Fault Refusal := .next (s.resume port priority)

/-! Queue pairs (R715, R731) -/

/-- QP_TABLE_WRITE (R715). -/
def execQpTableWrite (sess qp : Nat) (spec : QpSpec) (s : State) : Host.Outcome State Fault Refusal :=
  .next (s.guarded sess (Obj.qpTable qp / 256) (Obj.qpTable qp % 256) fun t => (t.putQp qp spec).1)

/-! The responder (R714, R716, R717) -/

/-- Negative acknowledgement codes: sequence error, invalid request, remote access error. -/
def nakSequence : Nat := 0
def nakInvalid : Nat := 1
def nakAccess : Nat := 2

/-- Sequences a transfer of a length uses: one for each 4,096 bytes (R711). -/
def psnsOf (len : Nat) : Nat := max 1 (ceilDiv len 4096)

/-- A request's sequence against the one expected: the next, a repeat, or one that shows a gap. -/
inductive PsnOrder where
  | next
  | again
  | gap
  deriving DecidableEq, Repr

/-- Judge a sequence. -/
def Qp.order (v : Qp) (psn : Nat) : PsnOrder :=
  let d := psnAhead v.recvPsn psn
  if d = 0 then .next else if 2 ^ 23 ≤ d then .again else .gap

/-- Expect what follows a request. -/
def State.expect (s : State) (i psn len : Nat) : State := s.setQp i { s.qp i with recvPsn := (psn + psnsOf len) % psnMod }

/-- A key that is not one of the queue pair's tenant (R702, R716). -/
def State.refuseKey (s : State) (i psn rkey : Nat) : State := (s.countOldKey rkey).refuseRdma i psn nakAccess

/-- RDMA_WRITE (R716, R717): in sequence; one that waits, or that follows one that waits, holds back its acknowledgement. -/
def execRdmaWrite (qp psn rkey address : Nat) (data : List Byte) (s : State) : Host.Outcome State Fault Refusal :=
  let v := s.qp qp
  .next (
    if v.spec.state ≠ qpReady then s
    else
      match v.order psn with
      | .gap => s.sendRdma qp (.roceNak v.port qp v.recvPsn nakSequence)
      | .again => if v.held.any fun h => h.1 == psn then s else s.sendRdma qp (.roceAck v.port qp psn)
      | .next =>
        if s.keyKind v.spec.tenant rkey = .foreign then s.refuseKey qp psn rkey
        else
          let s1 := s.expect qp psn data.length
          if !v.held.isEmpty || s.rdmaWaits v.spec.tenant rkey address data then
            s1.setQp qp { s1.qp qp with held := v.held ++ [(psn, rkey, address, data)] }
          else s1.applyRdma qp psn rkey address data)

/-- Answer an RDMA READ (R381, R716): tensor bytes, zeros for a queue window; what it meets counts at the tenant. -/
def State.answerRdmaRead (s : State) (i psn rkey address length : Nat) : State :=
  let v := s.qp i
  if s.keyKind v.spec.tenant rkey = .tensor then
    let (bs, m, s1) := s.hostRead v.spec.tenant address length (ethUnit v.port) 0
    (s1.addReg 64 (Obj.accessViolationCount v.spec.tenant) m.cases).sendRdma i (.roceRead v.port i psn bs)
  else s.sendRdma i (.roceRead v.port i psn (zeros length))

/-- RDMA_READ (R716). -/
def execRdmaRead (qp psn rkey address length : Nat) (s : State) : Host.Outcome State Fault Refusal :=
  let v := s.qp qp
  .next (
    if v.spec.state ≠ qpReady then s
    else
      match v.order psn with
      | .gap => s.sendRdma qp (.roceNak v.port qp v.recvPsn nakSequence)
      | .again => if s.keyKind v.spec.tenant rkey = .foreign then s.refuseKey qp psn rkey else s.answerRdmaRead qp psn rkey address length
      | .next =>
        if s.keyKind v.spec.tenant rkey = .foreign then s.refuseKey qp psn rkey
        else (s.expect qp psn length).answerRdmaRead qp psn rkey address length)

/-- RDMA_SEND_RECEIVE (R716): refused, and the queue pair enters error. -/
def execRdmaSendReceive (qp psn : Nat) (s : State) : Host.Outcome State Fault Refusal :=
  .next (if (s.qp qp).spec.state = qpReady then s.refuseRdma qp psn nakInvalid else s)

/-! The requester (R718, R719) and congestion (R720) -/

/-- ROCE_ACK_RECEIVE (R718): an acknowledgement retires every request up to its sequence; a receiver-not-ready answer keeps them. -/
def execRoceAckReceive (qp psn : Nat) (rnr : Bool) (s : State) : Host.Outcome State Fault Refusal :=
  let v := s.qp qp
  .next (
    if v.spec.state ≠ qpReady then s
    else if rnr then s.setQp qp { v with rnr := true }
    else
      let left := v.outstanding.filter fun r => r.1 != psn && decide (psnAhead r.1 psn ≥ 2 ^ 23)
      if left = v.outstanding then s else s.setQp qp { v with outstanding := left, retries := 0, rnrTries := 0, rnr := false })

/-- ROCE_RETRY_TIMEOUT (R718): after timeout_us a request is sent again, up to retry_count times on a port. -/
def execRoceRetryTimeout (qp : Nat) (s : State) : Host.Outcome State Fault Refusal :=
  let v := s.qp qp
  .next (
    if v.spec.state ≠ qpReady ∨ v.outstanding.isEmpty then s
    else if v.retries < v.spec.retryCount then (s.setQp qp { v with retries := v.retries + 1 }).resendPushes qp v.outstanding
    else s.qpExhausted qp)

/-- Receiver-not-ready retries (R718). -/
def rnrLimit : Nat := 7

/-- ROCE_RNR_RETRY (R718): every 1 ms, up to seven times. -/
def execRoceRnrRetry (qp : Nat) (s : State) : Host.Outcome State Fault Refusal :=
  let v := s.qp qp
  .next (
    if v.spec.state ≠ qpReady ∨ !v.rnr then s
    else if v.rnrTries < rnrLimit then
      (s.setQp qp { v with rnrTries := v.rnrTries + 1, rnr := false }).resendPushes qp v.outstanding
    else s.qpExhausted qp)

/-- Line rate and the least send rate, in Mb/s (R706, R720). -/
def lineRate : Nat := 400000
def leastRate : Nat := 1000

/-- CNP_RECEIVE (R720): the send rate halves, to no less than 1 Gb/s. -/
def execCnpReceive (qp : Nat) (s : State) : Host.Outcome State Fault Refusal :=
  .next (if (s.qp qp).spec.state = qpReady then s.setQp qp { s.qp qp with rate := max leastRate ((s.qp qp).rate / 2) } else s)

/-- CNP_RATE_RECOVERY (R720): it rises by 5 % of line rate after every 55 µs. -/
def execCnpRateRecovery (qp : Nat) (s : State) : Host.Outcome State Fault Refusal :=
  .next (if (s.qp qp).spec.state = qpReady then
      s.setQp qp { s.qp qp with rate := min lineRate ((s.qp qp).rate + lineRate / 20) }
    else s)

end Sys2Proof.Machine
end

