-- ==== Sys2Proof/Machine/Gdp.lean ====
section
/-!
DEFINITION. The Gagon dictionary protocol (R646 to R677): reads, descriptors, writes, segmented transfers, clears, subscriptions,
notices, the handshake, and how sessions end.
-/

namespace Sys2Proof.Machine

/-! Results of items (R650, R651, R654) -/

/-- The head of a result item: index, sub, status (R654). -/
def itemHead (o : ObjRef) (status : Nat) : List Byte := toBytes 2 o.index ++ toBytes 1 o.sub ++ toBytes 1 status

/-- A result item of four bytes (R654): WRITE and SUBSCRIBE. -/
def itemResult (o : ObjRef) (status : Nat) : List Byte := itemHead o status ++ toBytes 1 0

/-- A READ result item (R654). -/
def readResult (o : ObjRef) (status type : Nat) (v : List Byte) : List Byte :=
  itemHead o status ++ toBytes 1 type ++ toBytes 2 v.length ++ pad4 v

/-- A READ_SEG result item (R654). -/
def readSegResult (o : ObjRef) (status len gen : Nat) (v : List Byte) : List Byte :=
  itemHead o status ++ toBytes 1 0 ++ toBytes 2 v.length ++ toBytes 8 len ++ toBytes 4 gen ++ pad4 v

/-- An object whose form bit 0 is set, or that is longer than 4,096 bytes, is read and written by segments only (R666). -/
def segmentedOnly (r : ObjRow) (len : Nat) : Bool := r.seg || decide (4096 < len)

/-- Carry the items of a request out in order, each on its own (R665). -/
def State.eachItem {α : Type} (f : State → α → List Byte × State) : List α → State → List Byte × State
  | [], s => ([], s)
  | i :: is, s =>
    let (b, s1) := f s i
    let (bs, s2) := State.eachItem f is s1
    (b ++ bs, s2)

/-- Sessions closed by session_close end after the reply (R675). -/
def State.endClosing (s : State) : State := { s with sessions := s.sessions.filter fun x => !x.closing }

/-- Answer a request of items, each as it stands in the body: 1 to 64 of them, each with its result (R653, R654). -/
def State.answerItems {α : Type} (s : State) (e : Envelope) (kind flags : Nat) (bytes : α → List Byte) (items : List α)
    (f : State → α → List Byte × State) : State :=
  match s.gdpAuth e kind flags items.length (items.flatMap bytes) with
  | .settled t => t
  | .fresh t _ =>
    if items.isEmpty then t.answer e kind 0 1 []
    else if 64 < items.length then t.answer e kind 0 2 []
    else
      let (b, u) := t.eachItem f items
      (u.answer e kind items.length 0 b).endClosing

/-! Reads (R645, R650, R656, R666) -/

/-- One READ item. -/
def State.readItem (sess : Nat) (s : State) (o : ObjRef) : List Byte × State :=
  match s.session? sess, objRow o with
  | some x, some r =>
    if !s.canRead x o then (readResult o 0 r.type (zeros r.width), s.violate sess)
    else
      let v := s.objValue x o
      if segmentedOnly r v.length then (readResult o 2 r.type [], s) else (readResult o 0 r.type v, s)
  | _, _ => (readResult o 0 0 [], s.violate sess)

/-- READ (R654, R666). -/
def execRead (env : Envelope) (items : List ObjRef) (s : State) : Host.Outcome State Fault Refusal :=
  .next (s.answerItems env 1 0 readBytes items (State.readItem env.session))

/-- An object's descriptor for a session (R656). -/
def State.descriptor (s : State) (x : Session) (o : ObjRef) (r : ObjRow) : List Byte :=
  toBytes 1 r.type ++ toBytes 1 r.access ++ toBytes 1 (b2n (s.canRead x o) + 2 * b2n (s.canWrite x o)) ++
  toBytes 1 (b2n (segmentedOnly r (maxLength o r)) + 2 * b2n (decide (r.slo < r.shi) || decide (r.ilo < r.ihi))) ++
  toBytes 4 (min (maxLength o r) 0xFFFFFFFF) ++ toBytes 8 (if r.width ≤ 8 then r.dflt else 0)

/-- One item of a READ with the describe flag: a session without any right to the object gets zeros (R650). -/
def State.describeItem (sess : Nat) (s : State) (o : ObjRef) : List Byte × State :=
  match s.session? sess, objRow o with
  | some x, some r =>
    if s.canRead x o || s.canWrite x o then (readResult o 0 r.type (s.descriptor x o r), s)
    else (readResult o 0 r.type (zeros 16), s.violate sess)
  | _, _ => (readResult o 0 0 (zeros 16), s.violate sess)

/-- DESCRIBE (R656). -/
def execDescribe (env : Envelope) (items : List ObjRef) (s : State) : Host.Outcome State Fault Refusal :=
  .next (s.answerItems env 1 2 readBytes items (State.describeItem env.session))

/-! Writes (R650, R651, R665, R666) -/

/-- One WRITE item: rights, form, the object's chapter. -/
def State.writeItem (sess : Nat) (s : State) (i : WriteItem) : List Byte × State :=
  match s.session? sess, objRow i.obj with
  | some x, some r =>
    if !s.canWrite x i.obj then (itemResult i.obj 0, s.violate sess)
    else if segmentedOnly r i.value.length || !formOk i.obj r i.value then (itemResult i.obj 2, s)
    else
      let (t, status) := s.writeObj x i.obj i.value
      (itemResult i.obj status, t)
  | _, _ => (itemResult i.obj 0, s.violate sess)

/-- WRITE (R651, R654). -/
def execWrite (env : Envelope) (items : List WriteItem) (s : State) : Host.Outcome State Fault Refusal :=
  .next (s.answerItems env 2 0 writeBytes items (State.writeItem env.session))

/-! Segmented transfers (R665 to R671) -/

/-- A tenant's tensor window (R671). -/
def windowOf (o : ObjRef) : Option Nat := if 0xA060 ≤ o.index ∧ o.index ≤ 0xA06F then some (o.index - 0xA060) else none

/-- The generation of a segmented object (R669). A tensor map shows what Lift and every store do to its entries, whose changes are not
counted one by one: a reader that finds another value finds a higher generation, by how much is drawn (log entry 2). -/
def State.generation (s : State) (o : ObjRef) (v : List Byte) : Nat × State :=
  let k := objKey o
  let g := Sparse.get 0 k s.generations
  if o.index < 0x3030 ∨ 0x303F < o.index then (g, s)
  else if Sparse.get [] k s.mapSeen = v then (g, s)
  else
    let (d, s1) := s.draw 16
    let g1 := (g + 1 + d) % 2 ^ 32
    (g1, { s1 with generations := Sparse.set 0 k g1 s1.generations, mapSeen := Sparse.set [] k v s1.mapSeen })

/-- A segment of a tensor window (R671): what it meets counts in the session, fences at the tenant too (R396). Which
of HUB's processors reads is drawn (log entry 60). -/
def State.readWindow (s : State) (sess n : Nat) (o : ObjRef) (offset length : Nat) : List Byte × State :=
  let len := min length (2 ^ 50 - offset)
  let (port, s1) := s.draw 2
  let (bs, m, s2) := s1.hostRead n offset len (unitId 12 0 port) 7
  (readSegResult o 0 (2 ^ 50) 0 bs, s2.countWindow sess n m)

/-- READ_SEG's item. -/
def State.readSegItem (sess offset length : Nat) (s : State) (o : ObjRef) : List Byte × State :=
  match s.session? sess, objRow o with
  | some x, some r =>
    if !s.canRead x o then (readSegResult o 0 0 0 (zeros length), s.violate sess)
    else if length = 0 ∨ 4096 < length then (readSegResult o 2 0 0 [], s)
    else
      match windowOf o with
      | some n => s.readWindow sess n o offset length
      | none =>
        let v := s.objValue x o
        let (g, s1) := if r.seg then s.generation o v else (0, s)
        (readSegResult o 0 v.length g ((v.drop offset).take length), s1)
  | _, _ => (readSegResult o 0 0 0 (zeros length), s.violate sess)

/-- READ_SEG (R669, R670). -/
def execReadSeg (env : Envelope) (obj : ObjRef) (offset length : Nat) (s : State) : Host.Outcome State Fault Refusal :=
  .next (s.answerItems env 3 0 (fun o => readSegBytes o offset length) [obj] (State.readSegItem env.session offset length))

/-- The staging areas hold 256 MiB in all (R668). -/
def stagingRoom : Nat := 256 * 2 ^ 20

/-- What open transfers have reserved. -/
def State.stagedBytes (s : State) : Nat := (s.sessions.map fun x => (x.staged.map (·.total)).sum).sum

/-- A session's open transfer of an object (R667). -/
def Session.transfer (x : Session) (k : Nat) : Option Staged := x.staged.find? fun t => t.obj == k

/-- Another session has an open transfer of an object (R667). -/
def State.transferElsewhere (s : State) (sess k : Nat) : Bool :=
  s.sessions.any fun y => y.id != sess && (y.transfer k).isSome

/-- A session without its transfer of an object. -/
def Session.dropTransfer (x : Session) (k : Nat) : Session := { x with staged := x.staged.filter fun t => t.obj != k }

/-- Bytes put into a transfer at their offsets, each plus one. -/
def putBytes (m : Sparse Nat) (offset : Nat) (data : List Byte) : Sparse Nat :=
  ((List.range data.length).zip data).foldl (fun m p => Sparse.set 0 (offset + p.1) (p.2.toNat + 1) m) m

/-- Which transfer a segment belongs to, or why it belongs to none (R667, R668). -/
def State.transferFor (s : State) (x : Session) (r : ObjRow) (i : SegItem) : Sum Nat Staged :=
  let k := objKey i.obj
  if i.total < i.offset + i.data.length ∨ 4096 < i.data.length then .inl 2
  else if i.offset = 0 then
    let mine := match x.transfer k with | some t => t.total | none => 0
    if s.transferElsewhere x.id k then .inl 3
    else if maxLength i.obj r < i.total ∨ r.access = 3 then .inl 2
    else if stagingRoom < s.stagedBytes - mine + i.total then .inl 3
    else .inr { obj := k, total := i.total }
  else
    match x.transfer k with
    | none => .inl 2
    | some t => if t.total = i.total then .inr t else .inl 2

/-- A segment is staged; the last one has the transfer applied whole (R667). -/
def State.stage (s : State) (x : Session) (r : ObjRow) (i : SegItem) : List Byte × State :=
  match s.transferFor x r i with
  | .inl status => (segResult i.obj status 0, s)
  | .inr t =>
    let t1 : Staged := { t with bytes := putBytes t.bytes i.offset i.data, heard := s.up }
    let x1 := x.dropTransfer t.obj
    if t1.bytes.length = t1.total then
      let v := (List.range t1.total).map fun j => BitVec.ofNat 8 (Sparse.get 0 j t1.bytes - 1)
      let s1 := s.setSession x1
      let (s2, status) := if formOk i.obj r v then s1.writeObj x1 i.obj v else (s1, 2)
      (segResult i.obj status t1.total, s2)
    else (segResult i.obj 0 t1.bytes.length, s.setSession { x1 with staged := x1.staged ++ [t1] })

/-- WRITE_SEG's item outside the tensor window. -/
def State.writeSegItem (sess : Nat) (s : State) (i : SegItem) : List Byte × State :=
  match s.session? sess, objRow i.obj with
  | some x, some r =>
    if s.canWrite x i.obj then s.stage x r i else (segResult i.obj 0 i.data.length, s.violate sess)
  | _, _ => (segResult i.obj 0 i.data.length, s.violate sess)

/-- A WRITE_SEG to a tensor window (R671): applied on its own, after any lock or move that it waits on (R155, R326). -/
def State.writeWindow (s : State) (e : Envelope) (n : Nat) (i : SegItem) : State :=
  match s.gdpAuth e 4 0 1 (writeSegBytes i) with
  | .settled t => t
  | .fresh t x =>
    if !t.canWrite x i.obj then (t.violate x.id).answer e 4 1 0 (segResult i.obj 0 i.data.length)
    else if 4096 < i.data.length ∨ 2 ^ 50 < i.offset + i.data.length then t.answer e 4 1 0 (segResult i.obj 2 0)
    else
      let w : WinWrite := { env := e, n := n, offset := i.offset, data := i.data }
      if t.hostWaits n i.offset i.data.length then { t with eth := { t.eth with windows := t.eth.windows ++ [w] } }
      else t.applyWindow w

/-- WRITE_SEG (R667, R668, R671). -/
def execWriteSeg (env : Envelope) (item : SegItem) (s : State) : Host.Outcome State Fault Refusal :=
  match windowOf item.obj with
  | some n => .next (s.writeWindow env n item)
  | none => .next (s.answerItems env 4 0 writeSegBytes [item] (State.writeSegItem env.session))

/-! Clears (R626, R627) -/

/-- A CLEAR_IF result item (R654). -/
def clearResult (o : ObjRef) (status count : Nat) : List Byte := itemHead o status ++ toBytes 1 count

/-- Clear an object whose event count is still the one named; the count that then stands is answered (R627). -/
def State.clearObj (s : State) (o : ObjRef) (count : Nat) : Nat × State :=
  let k := objKey o
  if (0x41E0 ≤ o.index ∧ o.index ≤ 0x41E7) ∨ (0x8030 ≤ o.index ∧ o.index ≤ 0x803F) then
    if s.reg k = count then (0, s.setReg k 0) else (s.reg k, s)
  else if o.index = 0x9000 ∧ o.sub = 1 ∨ 0x9100 ≤ o.index ∧ o.index ≤ 0x910C ∨ 0x9210 ≤ o.index ∧ o.index ≤ 0x9217 then
    if (s.latch k).count = count then (0, s.setLatch k {}) else ((s.latch k).count, s)
  else
    let c := s.capture k
    if c.events = count then (0, s.setCapture k { c with valid := false, later := 0, overflow := false, events := 0 }) else (c.events, s)

/-- CLEAR_IF's item. -/
def State.clearItem (sess count : Nat) (s : State) (o : ObjRef) : List Byte × State :=
  match s.session? sess, objRow o with
  | some x, some r =>
    if r.access = 3 ∧ s.canWrite x o then
      let (c, t) := s.clearObj o count
      (clearResult o 0 c, t)
    else if s.canWrite x o then (clearResult o 2 0, s)
    else (clearResult o 0 0, s.violate sess)
  | _, _ => (clearResult o 0 0, s.violate sess)

/-- CLEAR_IF (R627). -/
def execClearIf (env : Envelope) (obj : ObjRef) (count : Nat) (s : State) : Host.Outcome State Fault Refusal :=
  .next (s.answerItems env 5 0 (fun o => clearBytes o count) [obj] (State.clearItem env.session count))

/-! Subscriptions and notices (R672, R673) -/

/-- The event objects (R672). -/
def isEvent (o : ObjRef) : Bool :=
  (decide (0x8030 ≤ o.index) && decide (o.index ≤ 0x803F) && o.sub == 2) || (o.index == 0x6030 && o.sub == 1) ||
  (decide (0x6700 ≤ o.index) && decide (o.index ≤ 0x670F) && o.sub == 10) || o.index == 0x5840 ||
  (o.index == 0x7000 && o.sub == 12) || (decide (0x7010 ≤ o.index) && decide (o.index ≤ 0x701F) && o.sub == 16) ||
  (decide (0x7050 ≤ o.index) && decide (o.index ≤ 0x705F) && o.sub == 6) || (o.index == 0x9000 && o.sub == 5)

/-- A subscription is added (R672): at most 256; the value that stands is the one changes are told from. -/
def State.subscribe (sess : Nat) (s : State) (o : ObjRef) : List Byte × State :=
  match s.session? sess with
  | none => (itemResult o 0, s)
  | some x =>
    if !s.canRead x o then (itemResult o 0, s.violate sess)
    else if (windowOf o).isSome then (itemResult o 2, s)
    else if x.subs.any fun q => q.1 == objKey o then (itemResult o 0, s)
    else if 256 ≤ x.subs.length then (itemResult o 1, s)
    else (itemResult o 0, s.setSession { x with subs := x.subs ++ [(objKey o, if isEvent o then [] else s.objValue x o)] })

/-- SUBSCRIBE_ADD (R672). -/
def execSubscribeAdd (env : Envelope) (obj : ObjRef) (s : State) : Host.Outcome State Fault Refusal :=
  .next (s.answerItems env 6 0 (fun o => subscribeBytes 1 o 0) [obj] (State.subscribe env.session))

/-- A subscription is removed (R672). -/
def State.unsubscribe (sess : Nat) (s : State) (o : ObjRef) : List Byte × State :=
  match s.session? sess with
  | none => (itemResult o 0, s)
  | some x => (itemResult o 0, s.setSession { x with subs := x.subs.filter fun q => q.1 != objKey o })

/-- SUBSCRIBE_REMOVE (R672). -/
def execSubscribeRemove (env : Envelope) (obj : ObjRef) (s : State) : Host.Outcome State Fault Refusal :=
  .next (s.answerItems env 6 0 (fun o => subscribeBytes 2 o 0) [obj] (State.unsubscribe env.session))

/-- Notices up to a sequence are acknowledged; the ones behind them follow (R673). -/
def State.acknowledge (sess : Nat) (s : State) (sequence : Nat) : List Byte × State :=
  match s.session? sess with
  | none => (itemResult ⟨0, 0⟩ 0, s)
  | some x =>
    let gone := ((x.queue.take x.inflight).filter fun n => decide (n.sequence ≤ sequence)).length
    (itemResult ⟨0, 0⟩ 0, s.pump { x with queue := x.queue.drop gone, inflight := x.inflight - gone })

/-- SUBSCRIBE_ACKNOWLEDGE (R673). -/
def execSubscribeAcknowledge (env : Envelope) (sequence : Nat) (s : State) : Host.Outcome State Fault Refusal :=
  .next (s.answerItems env 6 0 (fun q => subscribeBytes 3 ⟨0, 0⟩ q) [sequence] (State.acknowledge env.session))

/-- After 50 ms without an acknowledgement a notice goes to the other network as well (R673). -/
def otherNetAfter : Nat := 50000000

/-- EVENT_RESEND (R673): the notices in flight go out again. -/
def execEventResend (sess : Nat) (s : State) : Host.Outcome State Fault Refusal :=
  match s.session? sess with
  | none => .next s
  | some x =>
    .next ((x.queue.take x.inflight).foldl (fun t n =>
      let m : Msg := .notice x.id n.sequence n.obj n.loss n.value
      let t1 := t.sendSession x.id x.net x.peer m
      if n.sentAt + otherNetAfter ≤ s.up then t1.sendSession x.id (1 - x.net) x.peer m else t1) s)

/-- The value of one subscribed object has changed: it is delivered (R672). -/
def State.deliverSub (s : State) (sess : Nat) (q : Nat × List Byte) : State :=
  let o : ObjRef := ⟨q.1 / 256, q.1 % 256⟩
  match s.session? sess with
  | none => s
  | some x =>
    if isEvent o || !s.canRead x o then s
    else
      let v := s.objValue x o
      let subs := x.subs.map fun (p : Nat × List Byte) => if p.1 = q.1 then (p.1, v) else p
      let y : Session := { x with subs := subs }
      if v = q.2 then s else s.pump (y.push q.1 v)

/-- SUBSCRIPTION_DELIVERY (R672): the changed objects of a session, with the values current now. -/
def execSubscriptionDelivery (sess : Nat) (s : State) : Host.Outcome State Fault Refusal :=
  match s.session? sess with
  | none => .next s
  | some x => .next (x.subs.foldl (fun t q => t.deliverSub sess q) s)

/-! Sessions (R657 to R661, R664, R675) -/

/-- Key slots that open sessions now: in RECOVERY slot 0 and Owner slots only (R689). -/
def State.slotOpens (s : State) (slot : Nat) (key : List Byte) : Bool :=
  let k := s.keySlot slot
  decide (slot < 32) && k.valid && sha256 key == k.hash && (s.device != devRecovery || slot == 0 || k.role == roleOwner)

/-- A secret number of P-256 from a free value of 256 bits. -/
def secretOf (v : Nat) : Nat := 1 + v % (ecN - 1)

/-- The session key K (R660): keyed by the shared point's x-coordinate, over "gdp-key", the client's nonce, the Z8's nonce and the
session id. -/
def sessionKey (secret : Nat) (clientKey clientNonce ownNonce : List Byte) (id : Nat) : List Byte :=
  hmac (ecdhX secret clientKey) ([0x67, 0x64, 0x70, 0x2D, 0x6B, 0x65, 0x79] ++ clientNonce ++ ownNonce ++ toBytes 4 id)

/-- HELLO (R657, R659, R660, R661): a handshake begins with a signed challenge; a key no slot holds is dropped and counted, and so is one
beyond 16 handshakes or 64 sessions. -/
def execHello (net peer keySlot : Nat) (rolePublicKey ephemeral nonce : List Byte) (s : State) : Host.Outcome State Fault Refusal :=
  if !s.gdpUp then .next s
  else if 16 ≤ s.handshakes.length ∨ 64 ≤ s.sessions.length then .next (s.count 32 Obj.handshakeRefusedCount)
  else if !s.slotOpens keySlot rolePublicKey then .next s.authFail
  else
    let (id, s1) := s.fresh
    let (e, s2) := s1.draw 256
    let (r, s3) := s2.draw 256
    let (k, s4) := s3.draw 256
    let d := secretOf e
    let own := ecPublic d
    let own_nonce := toBytes 32 r
    let hello := toBytes 1 1 ++ toBytes 1 keySlot ++ rolePublicKey ++ ephemeral ++ nonce
    let challenge := toBytes 1 2 ++ toBytes 4 id ++ own ++ own_nonce
    let h1 := sha256 (hello ++ challenge)
    let sig := ecdsaSign Config.identityKey (secretOf k) h1
    let h : Handshake := { id := id, keySlot := keySlot, roleKey := rolePublicKey, started := s.up, transcript := sha256 (h1 ++ sig),
                           key := sessionKey d ephemeral nonce own_nonce id, net := net, peer := peer }
    .next (({ s4 with handshakes := s4.handshakes ++ [h] }).sendControl net peer (.challenge id own own_nonce sig))

/-- A handshake that has proved its key becomes a session (R657, R659, R660). -/
def State.openSession (s : State) (h : Handshake) (sequence request : Nat) : State :=
  let k := s.keySlot h.keySlot
  let n := if k.role = roleTenant then k.tenant else 0xFF
  let x : Session := { id := h.id, role := k.role, tenant := n, keySlot := h.keySlot, net := h.net, peer := h.peer, opened := s.up,
                       lastHeard := s.up, highest := sequence, seen := [sequence], key := h.key }
  ({ s with sessions := s.sessions ++ [x], handshakes := s.handshakes.filter fun y => y.id != h.id }).sendSession h.id h.net h.peer
    (.accept h.id request k.role n)

/-- The flags byte of a host's message (R653): the direction bit is 0; reserved bits are ignored (R12), but its tag covers them. -/
def hostFlags (flags : Nat) : Nat := flags / 2 % 128 * 2

/-- PROOF (R659 to R662): its tag under K and the role key's signature over the transcript hash H2 open the session. -/
def execProof (env : Envelope) (flags : Nat) (signature : List Byte) (s : State) : Host.Outcome State Fault Refusal :=
  if !s.gdpUp || env.version != 1 then .next s
  else
    match s.handshakes.find? fun h => h.id = env.session with
    | none => .next s.authFail
    | some h =>
      let m := gdpMessage 1 7 (hostFlags flags) 0 env.session env.requestId 1 (toBytes 1 3 ++ signature)
      if env.tag ≠ tagOf h.key env.sequence m || !ecdsaVerify h.roleKey h.transcript signature || !s.slotOpens h.keySlot h.roleKey then
        .next s.authFail
      else if 64 ≤ s.sessions.length then .next (s.count 32 Obj.handshakeRefusedCount)
      else .next (s.openSession h env.sequence env.requestId)

/-- CLOSE (R661): the session ends at once. -/
def execClose (env : Envelope) (s : State) : Host.Outcome State Fault Refusal :=
  match s.gdpAuth env 7 0 1 (toBytes 1 5) with
  | .settled t => .next t
  | .fresh t x => .next (t.endSession x.id)

/-- SESSION_CLOSE (R675): a write of 1 ends the session; other values are ignored. -/
def execSessionClose (sess value : Nat) (s : State) : Host.Outcome State Fault Refusal :=
  .next (s.guarded sess 0x0010 8 fun t => if value = 1 then t.endSession sess else t)

/-- HANDSHAKE_TIMEOUT (R661): 1 s after its HELLO. -/
def execHandshakeTimeout (session : Nat) (s : State) : Host.Outcome State Fault Refusal :=
  if s.handshakes.any fun h => h.id == session && decide (h.started + 1000000000 ≤ s.up) then
    .next ({ s with handshakes := s.handshakes.filter fun h => h.id != session }).authFail
  else .next s

/-- SESSION_IDLE_TIMEOUT (R664): after 60 s without an authenticated message. -/
def execSessionIdleTimeout (sess : Nat) (s : State) : Host.Outcome State Fault Refusal :=
  match s.session? sess with
  | none => .next s
  | some x => .next (if x.lastHeard + 60000000000 ≤ s.up then s.endSession sess else s)

/-- SEGMENT_TIMEOUT (R667): after 10 s without a segment. -/
def execSegmentTimeout (sess : Nat) (obj : ObjRef) (s : State) : Host.Outcome State Fault Refusal :=
  match s.session? sess with
  | none => .next s
  | some x =>
    match x.transfer (objKey obj) with
    | none => .next s
    | some t => .next (if t.heard + 10000000000 ≤ s.up then s.setSession (x.dropTransfer (objKey obj)) else s)

/-- GDP_PORT_CHANGE (R674): 1 s after its write the new port is in force; sessions continue on it. -/
def execGdpPortChange (s : State) : Host.Outcome State Fault Refusal :=
  .next { s with eth := { s.eth with oldAddr := s.eth.oldAddr.filter fun p => p.1 != Obj.gdpUdpPort } }

end Sys2Proof.Machine
end

