-- ==== Sys2Proof/Machine/Matrix.lean ====
section
/-!
DEFINITION. The commands of the matrix engine (R130, R143 to R145, R155, R160, R190). The fused forms are in Fused.lean.
-/

namespace Sys2Proof.Machine

/-- Y's extents are N by M (R161). -/
def yPlain (w : MmaWord) (m : Mma) (y : Desc) : Bool := y.e0 == mmaN w m && y.e1 == mmaM w m

/-- What an MMA does with its product (R147, R148): with OUT it converts the rows into Y, and it stays issued until it completes. -/
def State.mmaFinish (s : State) (c x : Nat) (k : Work) (w : MmaWord) (m : Mma) (streams : Bool) (o : MmaOps) (p : Product) : State :=
  let empty := mmaK w m == 0
  let hold := fun (n : Counts) (t : State) => t.issueMatrix c x k w m m.locked n
  match o.y with
  | none => hold { noCounts with empty := b2n empty } s
  | some y => s.convertOut c x k w streams o y (s.convRows k w m p.rows) empty hold

/-- MMA (R130, R131, R147, R161): its effect is made at issue; MATRIX_INSTRUCTION_COMPLETE ends it. -/
def execMma (core ctx : Nat) (w : MmaWord) (s : State) : Host.Outcome State Fault Refusal :=
  .next (s.issue core ctx fun k t =>
    t.startMatrix core ctx k w false (yPlain w) (fun _ => true) fun m a o u =>
      u.runProduct core ctx k w m a o fun p v => v.mmaFinish core ctx k w m a.streams o p)

/-- Send the report of an instruction that ends to its Judges slot (R289). -/
def State.reportIssued (s : State) (core : Nat) (i : Issued) : State :=
  match i.slot, s.tenantOfCore core with
  | some j, some n => if i.discarded then s else s.judge n j i.step (engineId core 0) i.gradient i.counts
  | _, _ => s

/-- MATRIX_INSTRUCTION_COMPLETE (R132, R155): the partition's oldest instruction ends, its locks lift, its report is sent. -/
def execMatrixInstructionComplete (core part : Nat) (s : State) : Host.Outcome State Fault Refusal :=
  match (s.core core).issued.find? fun i => i.part == part with
  | none => .next s
  | some i => .next (((s.modCore core fun v => { v with issued := v.issued.erase i }).reportIssued core i).resumeHost)

/-- The contexts that run on a core's array: those with an instruction issued, or running (R145). -/
def State.arrayContexts (s : State) (core : Nat) : List Nat :=
  (List.range 4).filter fun x => ((s.core core).issued.any fun i => i.ctx == x) || (s.ctx core x).state == 2

/-- SHARED_LOGIC_FAULT (R145, R146): every partition and every context on the array is faulted, reported as shared. -/
def execSharedLogicFault (core : Nat) (s : State) : Host.Outcome State Fault Refusal :=
  if 512 ≤ core ∨ !s.isUp then .next s
  else
    let xs := s.arrayContexts core
    let v := s.core core
    let parts := if v.mode = 0 then [0] else if v.mode = 1 then [0, 1] else [0, 1, 2, 3]
    let s1 := (s.setCore core (parts.foldl (fun u p => u.poisonRegion p) { v with issued := [] })).count 32
      (Obj.sharedFaultCount core)
    .next (if xs.isEmpty then s1.report { blockReport 2 10 (engineId core 0) with partition := 7 }
      else xs.foldl (fun t x => t.faultCtx core x (engineId core 0) 10 8 0 7) s1)

/-- MMODE (R143, R160): held until every matrix instruction issued has completed; code 3 is a descriptor fault. -/
def execMmode (core ctx mode : Nat) (s : State) : Host.Outcome State Fault Refusal :=
  .next (s.issue core ctx fun _ t =>
    if 3 ≤ mode then t.partitionFault core ctx 0 .descriptor 0 false
    else t.modCore core fun v => { v with mmodeHeld := v.mmodeHeld ++ [(ctx, mode)] })

/-- A fused all-gather of the core waits for its input (R510): it is issued and not completed. -/
def State.gatherWaits (s : State) (core : Nat) : Bool :=
  s.colls.insts.any fun i => !i.written && i.contribs.any fun p => p.core == core && p.word.isSome

/-- MMODE_APPLY (R143): the mode changes, both planes are invalid, later instructions are released; accumulator contents stay. -/
def execMmodeApply (core : Nat) (s : State) : Host.Outcome State Fault Refusal :=
  let v := s.core core
  match v.mmodeHeld with
  | [] => .next s
  | m :: ms =>
    if v.issued.isEmpty && !s.gatherWaits core then
      .next ((s.setCore core { v with mode := m.2, mmodeHeld := ms, planes := [] }).setReg (Obj.matrixMode core) m.2)
    else .next s

/-- The ready context that follows one in rotating order (R190). -/
def State.nextReady (s : State) (core x : Nat) : Option Nat :=
  ([1, 2, 3].map fun i => (x + i) % 4).find? fun i => (s.ctx core i).state == 1 || (s.ctx core i).state == 2

/-- PARTITION_SWITCH (R190): the context on the partition waits, and the next ready one takes it; its weight tile is loaded into the
free plane, and the planes are swapped. The drain takes at most 16 cycles (log entry 24). -/
def execPartitionSwitch (core part : Nat) (s : State) : Host.Outcome State Fault Refusal :=
  let v := s.core core
  let p := Sparse.get {} part v.planes
  match p.tag with
  | none => .next s
  | some t =>
    if (s.ctx core t).state ≠ 3 ∨ !partOk v.mode part then .next s
    else
      match s.nextReady core t with
      | none => .next s
      | some x =>
        let tile := (p.tiles.find? fun q => q.1 == x).map (·.2)
        let p1 : Plane := { p with
          tag := some x, current := 1 - p.current, tileA := if p.current = 1 then tile else p.tileA,
          tileB := if p.current = 1 then p.tileB else tile, badA := p.current != 1 && p.badA, badB := p.current == 1 && p.badB }
        .next (((s.setCore core { v with planes := Sparse.set {} part p1 v.planes }).count 64
          (Obj.contextSwitchCount core)).addReg 64 (Obj.switchCycles core) 16)

end Sys2Proof.Machine
end

