-- ==== Sys2Proof/Machine/Optim.lean ====
section
/-!
DEFINITION. The optimiser kernels of the row engine (R255 to R267, R279 to R281): updates, the update record, and the fold into the
40-bit master weight.
-/

namespace Sys2Proof.Machine

/-! Operands (R272, R281) -/

/-- The operands of an optimiser instruction with the version each asks for (R272). -/
def State.optimAsks (s : State) (n : Nat) (ops : List (Desc × Bool)) : List OpAsk :=
  ops.map fun p => askAt p.1 (if p.1.v then s.optimTag n p.1.vtag p.2 else p.1.vtag) p.2

/-- Run an optimiser instruction on its operands. -/
def State.withOptim (s : State) (c x : Nat) (k : Work) (ops : List (Desc × Bool)) (f : List (Desc × VSel) → State → State) : State :=
  s.withOps c x (rowUnit c) 0 k (s.optimAsks k.tenant ops) f

/-- An extension tensor (R257): format code of F16, no block size, no scale pointer. -/
def extOk (d : Desc) : Bool := d.fmt == fmtF16 && d.block == 0 && d.scalePtr == 0

/-- An update buffer (R281). -/
def updBufOk (d : Desc) : Bool := extOk d && !d.v

/-- An update record's descriptor (R262, R281). -/
def updRecOk (d : Desc) : Bool := d.fmt == fmtU8 && decide (64 ≤ d.e0) && offOf d.address % 64 == 0 && !d.v

/-- A moment (R261, R281). -/
def momentOk (d : Desc) : Bool := (d.fmt == fmtF32 || d.fmt == fmtBF16) && d.v

/-- The operands of an update instruction. -/
structure UpdOps where
  g : Desc
  w : Desc
  wx : Desc
  m1 : Desc
  m2 : Option Desc
  u : Desc
  h : Desc
  r : Desc

/-- The slots of an update instruction (R279); none where a required one is 0. -/
def State.updOps (s : State) (k : Work) (w : UpdWord) (am : Bool) : Option UpdOps :=
  match s.slotDesc k w.g, s.slotDesc k w.w, s.slotDesc k w.wx, s.slotDesc k w.m1, s.slotDesc k w.u, s.slotDesc k w.h,
      s.slotDesc k w.r with
  | some g, some wd, some wx, some m1, some u, some h, some r =>
    let m2 := if am then s.slotDesc k w.m2 else none
    if am && m2.isNone then none else some ⟨g, wd, wx, m1, m2, u, h, r⟩
  | _, _, _, _, _, _, _ => none

/-- The descriptors an update instruction admits (R281). -/
def UpdOps.ok (o : UpdOps) : Bool :=
  o.g.sameShape o.w && o.g.sameShape o.wx && o.g.sameShape o.m1 && o.g.sameShape o.u &&
  (o.g.fmt == fmtF32 || o.g.fmt == fmtF16 || o.g.fmt == fmtBF16) && !o.g.v && o.w.fmt == fmtF32 && o.w.v && extOk o.wx &&
  o.wx.v && momentOk o.m1 && updBufOk o.u && o.h.fmt == fmtF32 && decide (8 ≤ o.h.count) && !o.h.v && updRecOk o.r &&
  (match o.m2 with | some d => momentOk d && o.g.sameShape d | none => true)

/-! The kernels (R260) -/

/-- The hyperparameters, in the order of R259. -/
structure Hyper where
  eta : Nat
  beta1 : Nat
  beta2 : Nat
  eps : Nat
  lambda : Nat
  bc1 : Nat
  bc2 : Nat
  gamma : Nat

/-- Read the hyperparameter block (R259): eight F32 words. -/
def hyperOf (xs : List Nat) : Hyper :=
  let v := fun i => (xs[i]?).getD 0
  ⟨v 0, v 1, v 2, v 3, v 4, v 5, v 6, v 7⟩

/-- The three update kernels. -/
inductive UpdKind where
  | am
  | mom
  | sgn
  deriving DecidableEq, Repr

/-- sign(c) of R260. -/
def fSign (c : Nat) : Nat :=
  match ofF32 c with
  | .nan => fNaN
  | .inf s => f32.signed s fOne
  | .fin s m _ => if m = 0 then f32.signed s 0 else f32.signed s fOne

/-- One element of a kernel (R260): the new moments and u. -/
def updElem (kind : UpdKind) (dw nes : Bool) (h : Hyper) (g wHi m v : Nat) : Nat × Nat × Nat :=
  let c1 := fSub fOne h.beta1
  let c2 := fSub fOne h.beta2
  let g0 := fMul h.gamma g
  let gs := if dw then g0 else fFma h.lambda wHi g0
  let (m1, v1, d) := match kind with
    | .am =>
      let m1 := fFma h.beta1 m (fMul c1 gs)
      let v1 := fFma h.beta2 v (fMul c2 (fMul gs gs))
      (m1, v1, fDiv (fMul m1 h.bc1) (fAdd (fSqrt (fMul v1 h.bc2)) h.eps))
    | .mom =>
      let m1 := fFma h.beta1 m gs
      (m1, v, if nes then fFma h.beta1 m1 gs else m1)
    | .sgn =>
      let c := fFma h.beta1 m (fMul c1 gs)
      (fFma h.beta2 m (fMul c2 gs), v, fSign c)
  let d1 := if dw then fFma h.lambda wHi d else d
  (m1, v1, fNeg (fMul h.eta d1))

/-- û of an update (R263): u × 2^s in F16, to nearest and saturating; a non-finite u is the canonical NaN. -/
def updStore (s : Int) (u : Nat) : Elem :=
  let x := (ofF32 u).scale s
  if x.isFin then let (b, k) := convertElem fmtF16 .nearest false x; ⟨b, x, k⟩ else ⟨0x7E00, x, .nonfinite⟩

/-- An update record joins its step's list (R264); none when the list is full. -/
def State.listUpd (s : State) (n step off : Nat) : Option State :=
  let t := s.tenant n
  match t.step? step with
  | none => some s
  | some p =>
    if p.updRecs.contains off then some s
    else if p.listed < 65536 then some (s.setTenant n (t.modStep step fun q => { q with updRecs := q.updRecs ++ [off] }))
    else none

/-- The record after an update (R263): the atomic maximum of the finite |u|, and sat_total. -/
def State.recordUpd (s : State) (n off : Nat) (us : List Nat) (sat : Nat) : State :=
  let fin := (us.filter fFinite).map fun u => toF32 (ofF32 u).abs
  let s1 := if fin.isEmpty then s else s.setField n off 4 (fin.foldl fMax (s.recField n off 4))
  if sat = 0 then s1
  else
    (s1.setField n (off + 0x10) 4 ((s1.recField n (off + 0x10) 4 + sat) % 2 ^ 32)).addReg 64 (Obj.updateSatCount n) sat

/-- Store a moment into its pending version (R261); what follows learns its counts. -/
def State.storeMoment (s : State) (c x : Nat) (k : Work) (w : UpdWord) (p : Desc × VSel) (ms : List Nat)
    (next : Desc × Counts → State → State) : State :=
  match s.storeValues k.tenant k.stepOf p.1 p.2 (rowMode w.sr w.ovf) 32 (ms.map ofF32) with
  | .done t n => next (p.1, n) t
  | other => s.finishStore c x (rowUnit c) k p.1 other

/-- Write the update buffer and the record, and complete: each slot takes one report (R263, R264, R289). -/
def State.finishUpd (s : State) (c x : Nat) (k : Work) (u : Desc × VSel) (rOff : Nat) (us : List Nat) (ms : List (Desc × Counts)) :
    State :=
  let n := k.tenant
  let off := signedOf 8 (s.recField n (rOff + 4) 1)
  let es := us.map (updStore off)
  let counts := es.foldl (fun a e => countElem a e.input e.cls) noCounts
  let (s2, bad) := s.storeRaw n u.1 u.2 (es.map (·.bits))
  let s3 := s2.recordUpd n rOff us counts.saturated
  if bad then s3.opFault c x (rowUnit c) 0 .poison (s3.badWrite k.tenant u.1) true
  else (s3.judgeAll k (rowUnit c) (ms ++ [(u.1, counts)])).rowDone c

/-- An update instruction (R260 to R264). -/
def State.runUpd (s : State) (c x : Nat) (w : UpdWord) (kind : UpdKind) : State :=
  s.issue c x fun k t =>
    match t.updOps k w (kind == .am) with
    | none => t.descriptorFault c x (rowUnit c) 0
    | some o =>
      if !o.ok then t.descriptorFault c x (rowUnit c) 0
      else
        let m2s : List Desc := match o.m2 with | some d => [d] | none => []
        let reads := [o.g, o.w, o.wx, o.h, o.r, o.m1] ++ m2s
        let writes := [o.u, o.r, o.m1] ++ m2s
        t.withOptim c x k (reads.map (fun d => (d, false)) ++ writes.map (fun d => (d, true))) fun ds u =>
          match ds with
          | (gd, gv) :: (wd, wv) :: _ :: (hd, hv) :: _ :: (md, mv) :: rest =>
            let n := k.tenant
            match u.listUpd n (u.recStep n k.stepOf) (offOf o.r.address) with
            | none => u.descriptorFault c x (rowUnit c) 0
            | some u0 =>
            let (gs, u1) := u0.takeF32s c n gv gd
            let ws := (u1.readF32s n wv wd).map (·.1)
            let hy := hyperOf ((u1.readF32s n hv hd).map (·.1))
            let ms := (u1.readF32s n mv md).map (·.1)
            let vs := match o.m2, rest.head? with
              | some _, some (vd, vv) => (u1.readF32s n vv vd).map (·.1)
              | _, _ => List.replicate gs.length 0
            let out := (gs.zip (ws.zip (ms.zip vs))).map fun p => updElem kind w.dw w.nes hy p.1 p.2.1 p.2.2.1 p.2.2.2
            let us := out.map (·.2.2)
            match (match o.m2 with | some _ => rest.tail | none => rest) with
            | ud :: _ :: md1 :: rest2 =>
              u1.storeMoment c x k w md1 (out.map (·.1)) fun m u2 =>
                match o.m2, rest2 with
                | some _, vd1 :: _ =>
                  u2.storeMoment c x k w vd1 (out.map (·.2.1)) fun m2 u3 => u3.finishUpd c x k ud (offOf o.r.address) us [m, m2]
                | _, _ => u2.finishUpd c x k ud (offOf o.r.address) us [m]
            | _ => u1
          | _ => u

/-- RUPD_AM (R260). -/
def execRupdAm (core ctx : Nat) (w : UpdWord) (s : State) : Host.Outcome State Fault Refusal := .next (s.runUpd core ctx w .am)

/-- RUPD_MOM (R260). -/
def execRupdMom (core ctx : Nat) (w : UpdWord) (s : State) : Host.Outcome State Fault Refusal := .next (s.runUpd core ctx w .mom)

/-- RUPD_SGN (R260). -/
def execRupdSgn (core ctx : Nat) (w : UpdWord) (s : State) : Host.Outcome State Fault Refusal := .next (s.runUpd core ctx w .sgn)

/-! The fold (R257, R266, R267) -/

/-- The 40-bit significand with F32's exponents (R257). -/
def f40 : FFmt := ⟨8, 39, 127, 0x7F7FFFFFFFFF, none, true⟩

/-- The value of a master weight (R257). -/
def masterValue (hi ext : Nat) : Num :=
  match ofF32 hi with
  | .fin s m e => .fin s (m * 2 ^ 16 + ext % 2 ^ 16) (e - 16)
  | y => y

/-- A folded element (R266): the upper part, the extension, the rounded value, and the class. -/
structure Folded where
  hi : Nat
  ext : Nat
  value : Num
  cls : Cls

/-- The exact sum rounded once to the 40-bit significand (R266). -/
def foldElem (r : Rnd) (x : Num) : Folded :=
  match x with
  | .nan => ⟨fNaN, 0, .nan, .nonfinite⟩
  | .inf s => ⟨f32.signed s f32.infCode, 0, .inf s, .nonfinite⟩
  | .fin s m e =>
    if m = 0 then ⟨0, 0, .zero, .zero⟩
    else
      let (q, v) := roundMag r 39 f40.emin m e
      if q = 0 then ⟨0, 0, .zero, .underflow⟩
      else
        let c := f40.magCode q v
        if f40.maxCode < c then ⟨f32.signed s f32.infCode, 0, .inf s, .nonfinite⟩
        else ⟨f32.signed s (c / 2 ^ 16), c % 2 ^ 16, .fin s q v, .ordinary⟩

/-- The operands of RFOLD. -/
structure FoldOps where
  u : Desc
  w : Desc
  wx : Desc
  y : Option Desc
  r : Desc

/-- The slots of RFOLD (R280); none where a required one is 0. -/
def State.foldOps (s : State) (k : Work) (w : FoldWord) : Option FoldOps :=
  match s.slotDesc k w.u, s.slotDesc k w.w, s.slotDesc k w.wx, s.slotDesc k w.r with
  | some u, some wd, some wx, some r => some ⟨u, wd, wx, s.slotDesc k w.y, r⟩
  | _, _, _, _ => none

/-- The descriptors RFOLD admits (R267, R281). -/
def FoldOps.ok (o : FoldOps) : Bool :=
  o.u.sameShape o.w && o.u.sameShape o.wx && updBufOk o.u && o.w.fmt == fmtF32 && o.w.v && extOk o.wx && o.wx.v && updRecOk o.r &&
  (match o.y with
   | some d => o.u.sameShape d && d.v && (isArrayFloat d.fmt || isArrayInt d.fmt || d.fmt == fmtF32)
   | none => true)

/-- The fold of every element, with the keys of stage 3 (R173, R266). -/
def foldAll (seed tensorId e0 : Nat) (off : Int) (his exts us : List Nat) : List (Num × Folded) :=
  ((List.range his.length).zip (his.zip (exts.zip us))).map fun p =>
    let r := if e0 = 0 then 0 else p.1 / e0
    let i := if e0 = 0 then 0 else p.1 % e0
    let x := (masterValue p.2.1 p.2.2.1).add ((decodeElem fmtF16 p.2.2.2).scale (-off))
    (x, foldElem (.stoch (random32 seed 3 tensorId r i 0)) x)

/-- RFOLD (R266, R267). -/
def execRfold (core ctx : Nat) (w : FoldWord) (s : State) : Host.Outcome State Fault Refusal :=
  .next (s.issue core ctx fun k t =>
    match t.foldOps k w with
    | none => t.descriptorFault core ctx (rowUnit core) 0
    | some o =>
      if !o.ok then t.descriptorFault core ctx (rowUnit core) 0
      else
        let ys : List (Desc × Bool) := match o.y with | some d => [(d, true)] | none => []
        t.withOptim core ctx k
            ([(o.u, false), (o.w, false), (o.wx, false), (o.r, false), (o.w, true), (o.wx, true)] ++ ys) fun ds z =>
          match ds with
          | (ud, uv) :: (wd, wv) :: (xd, xv) :: _ :: (wd1, wv1) :: (xd1, xv1) :: rest =>
            let n := k.tenant
            let off := signedOf 8 (z.recField n (offOf o.r.address + 4) 1)
            let out := foldAll (z.seedOf n k.stepOf) wd.tensorId wd.e0 off (z.rawElems n wv wd) (z.rawElems n xv xd)
              (z.rawElems n uv ud)
            let counts := out.foldl (fun a e => countElem a e.1 e.2.cls) noCounts
            let (z1, b1) := z.storeRaw n wd1 wv1 (out.map (·.2.hi))
            let (z2, b2) := z1.storeRaw n xd1 xv1 (out.map (·.2.ext))
            if b1 || b2 then z2.opFault core ctx (rowUnit core) 0 .poison (z2.badWrite k.tenant wd1) true
            else
              match rest with
              | [] => (z2.judgeAll k (rowUnit core) [(wd1, counts)]).rowDone core
              | (yd, yv) :: _ =>
                match z2.storeValues n k.stepOf yd yv (rowMode w.sr w.ovf) 40 (out.map (·.2.value)) with
                | .done z4 c => (z4.judgeAll k (rowUnit core) [(wd1, counts), (yd, c)]).rowDone core
                | .full => z.descriptorFault core ctx (rowUnit core) 0
                | other => z2.finishStore core ctx (rowUnit core) k yd other
          | _ => z)

end Sys2Proof.Machine
end

