-- ==== Sys2Proof/Machine/Sketch.lean ====
section
/-!
DEFINITION. The commands of the sketch engines (R545, R550, R552, R559).
-/

namespace Sys2Proof.Machine

/-- The unit of a sketch engine (R545). -/
def sketchUnit (p : Nat) : Nat := 0x8140 + 0x1000 * p

/-- What an engine adds for a block (R550, R552): each output × 2^e in F32 into the tap's vector, and the noise of one block. -/
def SkGroup.addBlock (g : SkGroup) (p : Nat) (b : SkBlock) (outputs : List Nat) (sigma : Nat) : SkGroup :=
  let key := b.tap * 4 + p
  let old := match Sparse.get [] key g.vectors with
    | [] => List.replicate 64 0
    | v => v
  let new := (List.range 64).map fun i => fAdd (old.getD i 0) (fMul (outputs.getD i 0) (fPow2 b.e))
  let noise := fMul (fMul (fOfNat 64) (fMul sigma sigma)) (fPow2 (2 * b.e))
  { g with
    engines := g.engines ||| 2 ^ p,
    vectors := Sparse.set [] key new g.vectors,
    noise := Sparse.set 0 b.tap (fAdd (Sparse.get 0 b.tap g.noise) noise) g.noise }

/-- SKETCH_BLOCK_PROJECT (R550): the engine's oldest block, with the 64 receiver outputs it measured. -/
def execSketchBlockProject (engine : Nat) (outputs : List Nat) (s : State) : Host.Outcome State Fault Refusal :=
  if 4 ≤ engine ∨ s.reg (Obj.engineState engine) ≠ 0 then .next s
  else
    match Sparse.get [] engine s.sketch.queues with
    | [] => .next s
    | b :: bs =>
      let s1 : State := { s with sketch := { s.sketch with queues := Sparse.set [] engine bs s.sketch.queues } }
      let g := (s1.skGroup b.step b.group).addBlock engine b outputs (s.reg (Obj.noiseSigma engine))
      .next ((s1.setSkGroup b.step b.group g).count 64 (Obj.blocksProjected engine))

/-- The bound of a calibration, 2^-10, as F32 (R559). -/
def orthoBound : Nat := fPow2 (-10)

/-- SKETCH_CALIBRATION_END (R559, R561): the noise measured at every integration code and the modulator gains are recorded; an engine that reaches the bound returns to service; one that does not leaves it with a corrected
fault (its cause: log entry 46) and tries again at its next rotation. -/
def execSketchCalibrationEnd (engine : Nat) (sigmas gains : List Nat) (orthoError : Nat) (s : State) : Host.Outcome State Fault Refusal :=
  if 4 ≤ engine ∨ s.reg (Obj.engineState engine) ≠ 1 then .next s
  else
    let s0 : State := { s with sketch := { s.sketch with
      sigmas := ((List.range 6).zip sigmas).foldl (fun m p => Sparse.set 0 (engine * 8 + p.1) p.2 m) s.sketch.sigmas,
      gains := Sparse.set [] engine gains s.sketch.gains } }
    let s1 := s0.showSigma engine |>.setReg (Obj.orthoError engine) orthoError
    .next (if fLe orthoError orthoBound then (s1.setReg (Obj.engineState engine) 0).count 32 (Obj.calibrationCount engine)
      else (s1.setReg (Obj.engineState engine) 2).report (blockReport 1 0 (sketchUnit engine)))

end Sys2Proof.Machine
end

