-- ==== Sys2Proof/Machine/Threads.lean ====
section
/-!
DEFINITION. The thread instructions of the vector engine (R194 to R206): one command is one instruction of one thread group, on all
its active threads.
-/

namespace Sys2Proof.Machine

/-! Threads -/

/-- A thread of a group. -/
def State.thread (s : State) (c g i : Nat) : Thread := Sparse.get {} (threadKey c g i) s.threads

/-- Replace a thread. -/
def State.setThread (s : State) (c g i : Nat) (v : Thread) : State :=
  { s with threads := Sparse.set {} (threadKey c g i) v s.threads }

/-- A register of a thread. -/
def Thread.reg (t : Thread) (r : Nat) : Nat := Sparse.get 0 r t.regs

/-- Write a register of a thread. -/
def Thread.setReg (t : Thread) (r v : Nat) : Thread := { t with regs := Sparse.set 0 r (v % 2 ^ 32) t.regs }

/-- A thread is active for an instruction (R196, R199): it has not executed VEXIT and its governing predicate bit says so. -/
def Thread.active (t : Thread) (w : ThreadWord) : Bool := !t.exited && (bit t.preds w.pred != w.pneg)

/-- The active threads of a group, in rising index. -/
def State.activeOf (s : State) (c g : Nat) (w : ThreadWord) : List Nat :=
  (List.range 64).filter fun i => (s.thread c g i).active w

/-- The register an operand field names lies in its low 5 bits (R199). -/
def regOf (f : Nat) : Nat := f % 32

/-- Write a register of some threads, each with its value. -/
def State.setRegs (s : State) (c g r : Nat) (vals : List (Nat × Nat)) : State :=
  vals.foldl (fun t p => t.setThread c g p.1 ((t.thread c g p.1).setReg r p.2)) s

/-! Issue -/

/-- The kernel whose block a group runs, and where its next instruction lies. -/
def State.kernelOn (s : State) (c g : Nat) : Option (Kernel × Nat) :=
  (s.core c).kernels.findSome? fun k => (k.groups.find? fun p => p.1 == g).map fun p => (k, p.2.2)

/-- A context's kernels may issue (R64, R189, R388, R394, R618). -/
def State.threadsMay (s : State) (c x : Nat) : Bool :=
  let y := s.ctx c x
  decide (c < 512) && s.coreEnabled c && s.isUp && s.reg Obj.supplyState != 1 && !(s.core c).outOfService &&
  decide (1 ≤ y.state) && decide (y.state ≤ 3) && y.stopping.isNone

/-- A group's instruction has issued: it is counted (R221), and the group goes on to the next word. -/
def State.threadIssued (s : State) (c g : Nat) : State :=
  let v := s.core c
  (s.setCore c { v with kernels := v.kernels.map fun k =>
    { k with groups := k.groups.map (fun p => if p.1 = g then (p.1, p.2.1, p.2.2 + 16) else p),
             held := k.held.filter fun h => h.1 != g } }).addReg 64 (Obj.vectorIssueCount c) 1

/-- What a group's next instruction waits for. -/
def State.groupWait (s : State) (c g : Nat) : WaitFor :=
  match (s.core c).kernels.findSome? fun k => k.held.find? fun h => h.1 == g with
  | some h => h.2
  | none => .nothing

/-- A group's next instruction waits, and will be issued again. -/
def State.setGroupWait (s : State) (c g : Nat) (w : WaitFor) : State :=
  let v := s.core c
  let hold := fun (k : Kernel) =>
    if k.groups.any (fun p => p.1 == g) then { k with held := (k.held.filter fun h => h.1 != g) ++ [(g, w)] } else k
  s.setCore c { v with kernels := v.kernels.map hold }

/-- A wait goes on: for a tag, or for the same buffer or turn. -/
def WaitFor.goesOn : WaitFor → WaitFor → Bool
  | .tag _, .tag _ => true
  | a, b => a == b

/-- The thread instruction waits (R274, R276): a wait is counted when it begins, not when the instruction is tried again. `t` is the
state in which it has been counted. -/
def State.holdGroup (s t : State) (c g : Nat) (w : WaitFor) : State :=
  (if (s.groupWait c g).goesOn w then s else t).setGroupWait c g w

/-- Issue an instruction of a thread group (R195): where the group runs a block of a kernel whose context may issue, a fetch beyond
the code is an instruction fault of the context (R369), and otherwise the instruction has its effect. The effect is told the
context, its work and the active threads. Where none of this holds the event does not occur (log entry 11). -/
def State.threadIssue (s : State) (c g : Nat) (w : ThreadWord) (effect : Nat → Work → List Nat → State → State) : State :=
  match s.kernelOn c g with
  | none => s
  | some (k, ip) =>
    if !s.threadsMay c k.ctx then s
    else
      match s.ctxWork c k.ctx with
      | none => s
      | some (_, wk) =>
        if s.groupWait c g = .tag false then s
        else if s.fetchOk wk ip then effect k.ctx wk (s.activeOf c g w) s
        else s.faultCtx c k.ctx (engineId c 5) 6 3 0 0

/-- An instruction that computes each active thread's destination register from that thread alone. -/
def State.laneOp (s : State) (c g : Nat) (w : ThreadWord) (f : Thread → Nat) : State :=
  s.threadIssue c g w fun _ _ act t =>
    (t.setRegs c g (regOf w.d) (act.map fun i => (i, f (t.thread c g i)))).threadIssued c g

/-- A function of R203 of register A. -/
def State.laneFn (s : State) (c g : Nat) (w : ThreadWord) (f : LaneFn) : State :=
  s.laneOp c g w fun t => f.apply (t.reg (regOf w.a))

/-- A lane operation of registers A and B (R202). -/
def State.laneArith (s : State) (c g : Nat) (w : ThreadWord) (f : LaneOp) : State :=
  s.laneOp c g w fun t => f.apply (t.reg (regOf w.a)) (t.reg (regOf w.b))

/-! Loads (R200) -/

/-- The first offset and the number of bytes of element k of a tensor, dimension 0 fastest. -/
def Desc.elemAt (d : Desc) (k : Nat) : Nat × Nat :=
  let b := k % d.e0 * fmtWidth d.fmt
  (d.runOff (k / d.e0) + b / 8, ceilDiv (b % 8 + fmtWidth d.fmt) 8)

/-- The offsets of an element. -/
def Desc.elemOffs (d : Desc) (k : Nat) : List Nat := let p := d.elemAt k; (List.range p.2).map fun i => p.1 + i

/-- The offsets that reading an element uses, its scale byte among them (R91). -/
def Desc.elemReads (d : Desc) (k : Nat) : List Nat := d.elemOffs k ++ d.elemScale (k / d.e0) (k % d.e0)

/-- The unit of the vector engine (R28). -/
def vectorUnit (c : Nat) : Nat := engineId c 1

/-- Read elements of a slot by the index registers of the active threads: a fault faults the context, a wait holds the instruction
back, and otherwise `f` takes the prepared descriptor, its version and each thread's element. -/
def State.withElems (s : State) (c g x : Nat) (k : Work) (slot : Nat) (idx : List (Nat × Nat))
    (f : Desc → VSel → State → State) : State :=
  match s.slotDesc k slot with
  | none => s.descriptorFault c x (vectorUnit c) 0
  | some d =>
    if d.fmt = fmtS8 then s.descriptorFault c x (vectorUnit c) 0
    else if s.descFault k.tenant d then s.descriptorFault c x (vectorUnit c) 0
    else if idx.any fun p => decide (d.count ≤ p.2) then
      s.opFault c x (vectorUnit c) 0 .address (s.globalAddr (offOf d.address)) false
    else
      match s.prepAt k.asker d d.vtag false (vectorUnit c)
          (idx.flatMap fun p => d.elemReads p.2) with
      | .fault e a u => u.opFault c x (vectorUnit c) 0 e a false
      | .wait w t => s.holdGroup t c g w
      | .ready d1 v t => f d1 v ((t.lateLift c x k.tenant [(d1, v)]).threadIssued c g)

/-- The index register of each active thread (R199). -/
def State.indexes (s : State) (c g : Nat) (w : ThreadWord) (act : List Nat) : List (Nat × Nat) :=
  act.map fun i => (i, (s.thread c g i).reg (regOf w.b))

/-- THREAD_LOAD (R200): each active thread's element, scaled, as F32. -/
def execThreadLoad (core group : Nat) (w : ThreadWord) (s : State) : Host.Outcome State Fault Refusal :=
  .next (s.threadIssue core group w fun x k act t =>
    let idx := t.indexes core group w act
    t.withElems core group x k w.a idx fun d v u =>
      let xs := idx.map fun p => readAs d.fmt (u.elemValue k.tenant v d (p.2 / d.e0) (p.2 % d.e0))
      (u.setRegs core group (regOf w.d) ((act.zip xs).map fun p => (p.1, p.2.1))).countRange core xs)

/-- VLD_I (R200): each active thread's integer element, unscaled, as I32 (log entry 28); an element of another format gives a value
the spec does not state (log entry 28). -/
def execVldI (core group : Nat) (w : ThreadWord) (s : State) : Host.Outcome State Fault Refusal :=
  .next (s.threadIssue core group w fun x k act t =>
    let idx := t.indexes core group w act
    t.withElems core group x k w.a idx fun d v u =>
      match intFmt d.fmt with
      | some (n, sg) =>
        u.setRegs core group (regOf w.d) (idx.map fun p =>
          let e := u.rawElem k.tenant v d (p.2 / d.e0) (p.2 % d.e0)
          (p.1, if sg then wrapInt 32 (signedOf n e) else e % 2 ^ n))
      | none =>
        let (vs, u1) := State.drawMany 32 act.length u
        u1.setRegs core group (regOf w.d) (act.zip vs))

/-! Stores (R201) -/

/-- Where several active threads write one element, one of them does; which one the spec leaves open (log entry 27). -/
def State.oneWriter (s : State) : List Nat → List (Nat × Nat) → List (Nat × Nat) × State
  | [], _ => ([], s)
  | k :: ks, ws =>
    let mine := ws.filter fun p => p.1 == k
    let (u, s1) := if mine.length ≤ 1 then (0, s) else s.draw 32
    let (rest, s2) := s1.oneWriter ks ws
    ((k, ((mine[u % mine.length]?).getD (k, 0)).2) :: rest, s2)

/-- Cut a store into a block-scaled tensor into its blocks (R201): each block's elements are written by consecutive active threads;
none where a block is covered only in part. -/
def Desc.blockPieces (d : Desc) (size : Nat) : Nat → List (Nat × Nat) → Option (List (List (Nat × Nat)))
  | _, [] => some []
  | 0, _ :: _ => none
  | fuel + 1, p :: ps =>
    let i := p.1 % d.e0
    let lo := p.1 - i % size
    let n := min size (d.e0 - (i - i % size))
    let piece := (p :: ps).take n
    if piece.length = n ∧ (piece.map (·.1)).Nodup ∧ piece.all (fun q => decide (lo ≤ q.1) && decide (q.1 < lo + n)) then
      match d.blockPieces size fuel ((p :: ps).drop n) with
      | some rest => some (piece :: rest)
      | none => none
    else none

/-- Where bits of elements go: bytes are read, changed and written back; 4-bit and 6-bit elements share bytes (R89). -/
def State.packElems (s : State) (n : Nat) (v : VSel) (d : Desc) (es : List (Nat × Nat)) : List (Nat × Byte) :=
  let w := fmtWidth d.fmt
  let bytes := es.foldl (fun (m : Sparse Byte) p =>
    let at_ := d.elemAt p.1
    let lo := p.1 % d.e0 * w % 8
    let old := fromBytes ((List.range at_.2).map fun i =>
      match m.find? fun q => q.1 = at_.1 + i with
      | some q => q.2
      | none => s.peek n (at_.1 + i) v)
    let new := old / 2 ^ (lo + w) * 2 ^ (lo + w) + p.2 % 2 ^ w * 2 ^ lo + old % 2 ^ lo
    (List.range at_.2).foldl (fun m2 i => Sparse.insert (at_.1 + i) (BitVec.ofNat 8 (new / 256 ^ i)) m2) m) ([] : Sparse Byte)
  bytes

/-- The value of a register as a store reads it (R201). -/
def storeVal (int : Bool) (w : Nat) : Num := if int then Num.ofInt (signedOf 32 w) else ofF32 w

/-- Convert the elements a store writes: their bits, the block scales, and their inputs and classes (R100 to R113, R173). -/
def convertStores (d : Desc) (w : ThreadWord) (int : Bool) (seed next : Nat) (pieces : List (List (Nat × Nat))) :
    List (Nat × Nat) × List (Nat × Byte) × Counts :=
  let size := blockSize d.block
  pieces.foldl (fun acc ps =>
    let one := fun (p : Nat × Nat) => (p.1 % d.e0, storeVal int p.2)
    let r := (match ps with | p :: _ => p.1 | [] => 0) / d.e0
    let rnd := fun i => rndOf w.sr seed 2 d.tensorId r i 0
    let (es, sc) : List Elem × List (Nat × Byte) :=
      if isNarrow d.fmt && d.block != 0 then
        let (sb, es) := convertBlock d.fmt w.ovf rnd (ps.map one)
        (es, [(offOf d.scalePtr + 128 + r * d.blocksPerRun size + (match ps with | p :: _ => p.1 % d.e0 / size | [] => 0),
               BitVec.ofNat 8 sb)])
      else
        let k : Int := if isNarrow d.fmt && d.scalePtr != 0 then 127 - (next : Int) else 0
        (ps.map fun p =>
          let q := one p
          let (b, cl) := convertElem d.fmt (rnd q.1) w.ovf (q.2.scale k)
          ⟨b, q.2, cl⟩, [])
    (acc.1 ++ (ps.zip es).map fun p => (p.1.1, p.2.bits), acc.2.1 ++ sc,
     es.foldl (fun c e => countElem c e.input e.cls) acc.2.2)) ([], [], noCounts)

/-- Store elements of one instruction into a prepared destination (R201, R106 to R108). -/
def State.storeElems (s : State) (k : Work) (d : Desc) (v : VSel) (w : ThreadWord) (int : Bool)
    (pieces : List (List (Nat × Nat))) : Stored :=
  if pieces.isEmpty then .done s noCounts
  else
  let n := k.tenant
  let st := s.recStep n k.stepOf
  let next := s.nextScale n k.stepOf d
  let (es, sc, counts) := convertStores d w int (s.seedOf n k.stepOf) next pieces
  let s1 := if isNarrow d.fmt && d.block == 0 && d.scalePtr != 0 then s.setField n (offOf d.scalePtr + 4) 1 next else s
  match s1.listMax n st d 32 (pieces.flatMap fun ps => ps.map fun p => storeVal int p.2) with
  | none => .full
  | some s2 =>
    let (s3, b1) := s2.pokeAll n .plain sc
    let (s4, b2) := s3.pokeAll n v (s3.packElems n v d es)
    if b1 || b2 then .bad s4 else .done s4 counts

/-- A store to these elements must wait for a lock or a move of them or of the scale record and scale bytes (R155, R326). -/
def State.elemsHeld (s : State) (n : Nat) (d : Desc) (v : VSel) (idx : List Nat) : Bool :=
  idx.any (fun k => let p := d.elemAt k; s.rangeHeld n p.1 (p.1 + p.2 - 1) v) ||
  (!idx.isEmpty && d.scaleSpan.toList.any fun r => s.rangeHeld n r.1 r.2 .plain)

/-- THREAD_STORE (R201): each active thread converts its value into an element; `int` says the value is I32. -/
def execThreadStore (core group : Nat) (int : Bool) (w : ThreadWord) (s : State) : Host.Outcome State Fault Refusal :=
  .next (s.threadIssue core group w fun x k act t =>
    let unit := vectorUnit core
    match t.slotDesc k w.d with
    | none => t.descriptorFault core x unit 0
    | some d =>
      let ws := act.map fun i => ((t.thread core group i).reg (regOf w.b), (t.thread core group i).reg (regOf w.c))
      if d.fmt = fmtS8 ∨ d.fmt = fmtFX32 ∨ d.fmt = fmtFX24 ∨ t.descFault k.tenant d then t.descriptorFault core x unit 0
      else if ws.any fun p => decide (d.count ≤ p.1) then
        t.opFault core x unit 0 .address (t.globalAddr (offOf d.address)) true
      else
        let blocks := isNarrow d.fmt && d.block != 0
        match (if blocks then d.blockPieces (blockSize d.block) ws.length ws else some []) with
        | none => t.descriptorFault core x unit 0
        | some pieces =>
          match t.prepAt k.asker d d.vtag true unit [] with
          | .fault e a u => u.opFault core x unit 0 e a (e != .poison)
          | .wait w u => t.holdGroup u core group w
          | .ready d1 v u =>
            if u.elemsHeld k.tenant d1 v (ws.map (·.1)) then t
            else
              let (single, u1) := if blocks then ([], u) else u.oneWriter (ws.map (·.1)).eraseDups ws
              let all := if blocks then pieces else single.map fun p => [p]
              match u1.storeElems k d1 v w int all with
              | .done u2 c => (u2.threadIssued core group).judgeDesc k d1 unit c
              | other => u1.finishStore core x unit k d1 other)

/-! Arithmetic (R202, R203) -/

/-- VADD (R202): D = A + B. -/
def execVadd (core group : Nat) (w : ThreadWord) (s : State) : Host.Outcome State Fault Refusal :=
  .next (s.laneOp core group w fun t => fAdd (t.reg (regOf w.a)) (t.reg (regOf w.b)))

/-- VMUL (R202): D = A × B. -/
def execVmul (core group : Nat) (w : ThreadWord) (s : State) : Host.Outcome State Fault Refusal :=
  .next (s.laneOp core group w fun t => fMul (t.reg (regOf w.a)) (t.reg (regOf w.b)))

/-- VFMA (R202): D = A × B + C, with one rounding. -/
def execVfma (core group : Nat) (w : ThreadWord) (s : State) : Host.Outcome State Fault Refusal :=
  .next (s.laneOp core group w fun t => fFma (t.reg (regOf w.a)) (t.reg (regOf w.b)) (t.reg (regOf w.c)))

/-- VDIV (R202): D = A / B. -/
def execVdiv (core group : Nat) (w : ThreadWord) (s : State) : Host.Outcome State Fault Refusal :=
  .next (s.laneOp core group w fun t => fDiv (t.reg (regOf w.a)) (t.reg (regOf w.b)))

/-- VSQRT (R202): D = √A. -/
def execVsqrt (core group : Nat) (w : ThreadWord) (s : State) : Host.Outcome State Fault Refusal :=
  .next (s.laneOp core group w fun t => fSqrt (t.reg (regOf w.a)))

/-- VRCP (R203, R204): D = 1 / A. -/
def execVrcp (core group : Nat) (w : ThreadWord) (s : State) : Host.Outcome State Fault Refusal :=
  .next (s.laneFn core group w .rcp)

/-- VRSQ (R203, R204): D = 1 / √A. -/
def execVrsq (core group : Nat) (w : ThreadWord) (s : State) : Host.Outcome State Fault Refusal :=
  .next (s.laneFn core group w .rsq)

/-- VEXP (R203, R204): D = e^A. -/
def execVexp (core group : Nat) (w : ThreadWord) (s : State) : Host.Outcome State Fault Refusal :=
  .next (s.laneFn core group w .exp)

/-- VLOG (R203, R204): D = ln A. -/
def execVlog (core group : Nat) (w : ThreadWord) (s : State) : Host.Outcome State Fault Refusal :=
  .next (s.laneFn core group w .log)

/-- VEXP2 (R203, R204): D = 2^A. -/
def execVexp2 (core group : Nat) (w : ThreadWord) (s : State) : Host.Outcome State Fault Refusal :=
  .next (s.laneFn core group w .exp2)

/-- VLOG2 (R203, R204): D = log2 A. -/
def execVlog2 (core group : Nat) (w : ThreadWord) (s : State) : Host.Outcome State Fault Refusal :=
  .next (s.laneFn core group w .log2)

/-- VSIN (R203, R204): D = sin A. -/
def execVsin (core group : Nat) (w : ThreadWord) (s : State) : Host.Outcome State Fault Refusal :=
  .next (s.laneFn core group w .sin)

/-- VCOS (R203, R204): D = cos A. -/
def execVcos (core group : Nat) (w : ThreadWord) (s : State) : Host.Outcome State Fault Refusal :=
  .next (s.laneFn core group w .cos)

/-- VTANH (R203, R204): D = tanh A. -/
def execVtanh (core group : Nat) (w : ThreadWord) (s : State) : Host.Outcome State Fault Refusal :=
  .next (s.laneFn core group w .tanh)

/-- VSIGM (R203, R204): D = the logistic sigmoid of A. -/
def execVsigm (core group : Nat) (w : ThreadWord) (s : State) : Host.Outcome State Fault Refusal :=
  .next (s.laneFn core group w .sigm)

/-- VERF (R203, R204): D = erf A. -/
def execVerf (core group : Nat) (w : ThreadWord) (s : State) : Host.Outcome State Fault Refusal :=
  .next (s.laneFn core group w .erf)

/-- VGELU (R203, R204): D = A · Φ(A). -/
def execVgelu (core group : Nat) (w : ThreadWord) (s : State) : Host.Outcome State Fault Refusal :=
  .next (s.laneFn core group w .gelu)

/-! Group operations (R205, R206) -/

/-- The registers A of the active threads, in rising thread index. -/
def State.actives (s : State) (c g : Nat) (w : ThreadWord) (act : List Nat) : List Nat :=
  act.map fun i => (s.thread c g i).reg (regOf w.a)

/-- Deliver a value to every active thread's D. -/
def State.spread (s : State) (c g : Nat) (w : ThreadWord) (act : List Nat) (v : Nat) : State :=
  (s.setRegs c g (regOf w.d) (act.map fun i => (i, v))).threadIssued c g

/-- A maximum or minimum over the active threads (R98); over none it is an empty reduction of the context (R206). -/
def State.reduceBy (s : State) (c g : Nat) (w : ThreadWord) (f : Nat → Nat → Nat) : State :=
  s.threadIssue c g w fun x _ act t =>
    match t.actives c g w act with
    | [] => (t.threadIssued c g).emptyReduction c x
    | v :: vs => t.spread c g w act (vs.foldl f v)

/-- VRED_ADD (R205, R176): the sum over the active threads by index_tree. -/
def execVredAdd (core group : Nat) (w : ThreadWord) (s : State) : Host.Outcome State Fault Refusal :=
  .next (s.threadIssue core group w fun _ _ act t => t.spread core group w act (fTree (t.actives core group w act)))

/-- VRED_MAX (R205). -/
def execVredMax (core group : Nat) (w : ThreadWord) (s : State) : Host.Outcome State Fault Refusal :=
  .next (s.reduceBy core group w fMax)

/-- VRED_MIN (R205). -/
def execVredMin (core group : Nat) (w : ThreadWord) (s : State) : Host.Outcome State Fault Refusal :=
  .next (s.reduceBy core group w fMin)

/-- VBCAST (R205): one active thread's register A goes to every active thread; which of them the spec leaves open (log entry 27). -/
def execVbcast (core group : Nat) (w : ThreadWord) (s : State) : Host.Outcome State Fault Refusal :=
  .next (s.threadIssue core group w fun _ _ act t =>
    let (i, t1) := t.draw 6
    match act[i % act.length]? with
    | some j => t1.spread core group w act ((t1.thread core group j).reg (regOf w.a))
    | none => t.threadIssued core group)

/-- VBAR (R195, R205): all active threads of the group run the instruction together, so each has reached it (log entry 29). -/
def execVbar (core group : Nat) (w : ThreadWord) (s : State) : Host.Outcome State Fault Refusal :=
  .next (s.threadIssue core group w fun _ _ _ t => t.threadIssued core group)

/-- A block whose threads have all executed VEXIT ends: its group is free for the context's next block (R197). -/
def State.endBlock (s : State) (c g x : Nat) : State :=
  if (List.range 64).all (fun i => (s.thread c g i).exited) then
    let v := s.core c
    let end_ := fun (k : Kernel) =>
      if k.groups.any (fun p => p.1 == g) then
        { k with ended := k.ended + 1, groups := k.groups.filter fun p => p.1 != g }
      else k
    (s.setCore c { v with kernels := v.kernels.map end_ }).handOut c x
  else s

/-- VEXIT (R197): the active threads have exited; with the last one the block ends. -/
def execVexit (core group : Nat) (w : ThreadWord) (s : State) : Host.Outcome State Fault Refusal :=
  .next (s.threadIssue core group w fun x _ act t =>
    ((act.foldl (fun u i => u.setThread core group i { u.thread core group i with exited := true }) t).threadIssued core
      group).endBlock core group x)

end Sys2Proof.Machine
end

