-- ==== Sys2Proof/Machine/Dispatch.lean ====
section
/-!
DEFINITION. One arm per command of the opcode table, each a direct call of its meaning.
-/

namespace Sys2Proof.Machine

/-- The effect of a command on everything but the queue. -/
def exec (i : Instr) (s : State) : Host.Outcome State Fault Refusal :=
  match i with
  | .powerGood => Sys2Proof.Machine.execPowerGood s
  | .powerLoss => Sys2Proof.Machine.execPowerLoss s
  | .bootStageComplete stage failedUnit failedCores => Sys2Proof.Machine.execBootStageComplete stage failedUnit failedCores s
  | .coreReset sess => Sys2Proof.Machine.execCoreReset sess s
  | .packageReset sess => Sys2Proof.Machine.execPackageReset sess s
  | .drainEnd => Sys2Proof.Machine.execDrainEnd s
  | .firmwareUpdate sess img => Sys2Proof.Machine.execFirmwareUpdate sess img s
  | .flashWriteComplete ok => Sys2Proof.Machine.execFlashWriteComplete ok s
  | .rollbackCommit sess value => Sys2Proof.Machine.execRollbackCommit sess value s
  | .ownerKeyFuse sess hash => Sys2Proof.Machine.execOwnerKeyFuse sess hash s
  | .keySlotWrite sess slot ks => Sys2Proof.Machine.execKeySlotWrite sess slot ks s
  | .attestationNonce sess nonce => Sys2Proof.Machine.execAttestationNonce sess nonce s
  | .supplySample mv maA maB => Sys2Proof.Machine.execSupplySample mv maA maB s
  | .rideThroughEnd => Sys2Proof.Machine.execRideThroughEnd s
  | .supplyStopTimeout limit => Sys2Proof.Machine.execSupplyStopTimeout limit s
  | .bladeImbalance => Sys2Proof.Machine.execBladeImbalance s
  | .coolantInletHigh inlet outlet => Sys2Proof.Machine.execCoolantInletHigh inlet outlet s
  | .governorSample samples => Sys2Proof.Machine.execGovernorSample samples s
  | .telemetryInvalid die => Sys2Proof.Machine.execTelemetryInvalid die s
  | .telemetryValidRestore die => Sys2Proof.Machine.execTelemetryValidRestore die s
  | .thermalThrottle die temp => Sys2Proof.Machine.execThermalThrottle die temp s
  | .throttleStep die => Sys2Proof.Machine.execThrottleStep die s
  | .clockRequestWrite sess die mhz => Sys2Proof.Machine.execClockRequestWrite sess die mhz s
  | .memoryThermalHalve die unit temp => Sys2Proof.Machine.execMemoryThermalHalve die unit temp s
  | .memoryRateRestore die unit temp => Sys2Proof.Machine.execMemoryRateRestore die unit temp s
  | .envelopeCommit sess value => Sys2Proof.Machine.execEnvelopeCommit sess value s
  | .beatFrameReceive f => Sys2Proof.Machine.execBeatFrameReceive f s
  | .cadenceDelayMeasurement m => Sys2Proof.Machine.execCadenceDelayMeasurement m s
  | .cadenceLock => Sys2Proof.Machine.execCadenceLock s
  | .upstreamTimeout upstream => Sys2Proof.Machine.execUpstreamTimeout upstream s
  | .holdoverExpiry => Sys2Proof.Machine.execHoldoverExpiry s
  | .cadenceRoleWrite sess value => Sys2Proof.Machine.execCadenceRoleWrite sess value s
  | .gatePeriodWrite sess value => Sys2Proof.Machine.execGatePeriodWrite sess value s
  | .gatePeriodChange => Sys2Proof.Machine.execGatePeriodChange s
  | .beat => Sys2Proof.Machine.execBeat s
  | .arbiterCommitNow sess => Sys2Proof.Machine.execArbiterCommitNow sess s
  | .arbiterCommitGate sess => Sys2Proof.Machine.execArbiterCommitGate sess s
  | .flitCrcFail link dir => Sys2Proof.Machine.execFlitCrcFail link dir s
  | .mma core ctx w => Sys2Proof.Machine.execMma core ctx w s
  | .matrixInstructionComplete core part => Sys2Proof.Machine.execMatrixInstructionComplete core part s
  | .sharedLogicFault core => Sys2Proof.Machine.execSharedLogicFault core s
  | .mmode core ctx mode => Sys2Proof.Machine.execMmode core ctx mode s
  | .mmodeApply core => Sys2Proof.Machine.execMmodeApply core s
  | .mmaRs core ctx w => Sys2Proof.Machine.execMmaRs core ctx w s
  | .mmaAg core ctx w => Sys2Proof.Machine.execMmaAg core ctx w s
  | .mmaAr core ctx w => Sys2Proof.Machine.execMmaAr core ctx w s
  | .mmaA2a core ctx w => Sys2Proof.Machine.execMmaA2a core ctx w s
  | .mmaSend core ctx w => Sys2Proof.Machine.execMmaSend core ctx w s
  | .partitionSwitch core part => Sys2Proof.Machine.execPartitionSwitch core part s
  | .nop core ctx w => Sys2Proof.Machine.execNop core ctx w s
  | .wait core ctx w => Sys2Proof.Machine.execWait core ctx w s
  | .yield core ctx w => Sys2Proof.Machine.execYield core ctx w s
  | .yieldTimeout core ctx => Sys2Proof.Machine.execYieldTimeout core ctx s
  | .vlaunch core ctx w => Sys2Proof.Machine.execVlaunch core ctx w s
  | .kernelComplete core ctx token => Sys2Proof.Machine.execKernelComplete core ctx token s
  | .endWork core ctx w => Sys2Proof.Machine.execEndWork core ctx w s
  | .workComplete core ctx => Sys2Proof.Machine.execWorkComplete core ctx s
  | .publish core ctx w => Sys2Proof.Machine.execPublish core ctx w s
  | .br core ctx w => Sys2Proof.Machine.execBr core ctx w s
  | .brz core ctx w => Sys2Proof.Machine.execBrz core ctx w s
  | .brnz core ctx w => Sys2Proof.Machine.execBrnz core ctx w s
  | .sadd core ctx w => Sys2Proof.Machine.execSadd core ctx w s
  | .ssub core ctx w => Sys2Proof.Machine.execSsub core ctx w s
  | .smul core ctx w => Sys2Proof.Machine.execSmul core ctx w s
  | .sand core ctx w => Sys2Proof.Machine.execSand core ctx w s
  | .sor core ctx w => Sys2Proof.Machine.execSor core ctx w s
  | .sxor core ctx w => Sys2Proof.Machine.execSxor core ctx w s
  | .sshl core ctx w => Sys2Proof.Machine.execSshl core ctx w s
  | .sshr core ctx w => Sys2Proof.Machine.execSshr core ctx w s
  | .ssra core ctx w => Sys2Proof.Machine.execSsra core ctx w s
  | .sslt core ctx w => Sys2Proof.Machine.execSslt core ctx w s
  | .ssltu core ctx w => Sys2Proof.Machine.execSsltu core ctx w s
  | .reservedOpcode core ctx op inKernel => Sys2Proof.Machine.execReservedOpcode core ctx op inKernel s
  | .threadLoad core group w => Sys2Proof.Machine.execThreadLoad core group w s
  | .vldI core group w => Sys2Proof.Machine.execVldI core group w s
  | .threadStore core group int w => Sys2Proof.Machine.execThreadStore core group int w s
  | .vadd core group w => Sys2Proof.Machine.execVadd core group w s
  | .vmul core group w => Sys2Proof.Machine.execVmul core group w s
  | .vfma core group w => Sys2Proof.Machine.execVfma core group w s
  | .vdiv core group w => Sys2Proof.Machine.execVdiv core group w s
  | .vsqrt core group w => Sys2Proof.Machine.execVsqrt core group w s
  | .vrcp core group w => Sys2Proof.Machine.execVrcp core group w s
  | .vrsq core group w => Sys2Proof.Machine.execVrsq core group w s
  | .vexp core group w => Sys2Proof.Machine.execVexp core group w s
  | .vlog core group w => Sys2Proof.Machine.execVlog core group w s
  | .vexp2 core group w => Sys2Proof.Machine.execVexp2 core group w s
  | .vlog2 core group w => Sys2Proof.Machine.execVlog2 core group w s
  | .vsin core group w => Sys2Proof.Machine.execVsin core group w s
  | .vcos core group w => Sys2Proof.Machine.execVcos core group w s
  | .vtanh core group w => Sys2Proof.Machine.execVtanh core group w s
  | .vsigm core group w => Sys2Proof.Machine.execVsigm core group w s
  | .verf core group w => Sys2Proof.Machine.execVerf core group w s
  | .vgelu core group w => Sys2Proof.Machine.execVgelu core group w s
  | .vredAdd core group w => Sys2Proof.Machine.execVredAdd core group w s
  | .vredMax core group w => Sys2Proof.Machine.execVredMax core group w s
  | .vredMin core group w => Sys2Proof.Machine.execVredMin core group w s
  | .vbcast core group w => Sys2Proof.Machine.execVbcast core group w s
  | .vbar core group w => Sys2Proof.Machine.execVbar core group w s
  | .vexit core group w => Sys2Proof.Machine.execVexit core group w s
  | .rnormF core ctx w => Sys2Proof.Machine.execRnormF core ctx w s
  | .rnormB core ctx w => Sys2Proof.Machine.execRnormB core ctx w s
  | .rnormP core ctx w => Sys2Proof.Machine.execRnormP core ctx w s
  | .rsmaxF core ctx w => Sys2Proof.Machine.execRsmaxF core ctx w s
  | .rsmaxB core ctx w => Sys2Proof.Machine.execRsmaxB core ctx w s
  | .rupdAm core ctx w => Sys2Proof.Machine.execRupdAm core ctx w s
  | .rupdMom core ctx w => Sys2Proof.Machine.execRupdMom core ctx w s
  | .rupdSgn core ctx w => Sys2Proof.Machine.execRupdSgn core ctx w s
  | .rfold core ctx w => Sys2Proof.Machine.execRfold core ctx w s
  | .dmCopy core ctx w => Sys2Proof.Machine.execDmCopy core ctx w s
  | .dmXpose core ctx w => Sys2Proof.Machine.execDmXpose core ctx w s
  | .dmKeep core ctx w => Sys2Proof.Machine.execDmKeep core ctx w s
  | .dmGate core ctx w => Sys2Proof.Machine.execDmGate core ctx w s
  | .aspush core ctx w => Sys2Proof.Machine.execAspush core ctx w s
  | .aspop core ctx w => Sys2Proof.Machine.execAspop core ctx w s
  | .dmFold core ctx w => Sys2Proof.Machine.execDmFold core ctx w s
  | .liftClaim core ctx w => Sys2Proof.Machine.execLiftClaim core ctx w s
  | .liftDrop core ctx w => Sys2Proof.Machine.execLiftDrop core ctx w s
  | .ccAr core ctx w => Sys2Proof.Machine.execCcAr core ctx w s
  | .ccRs core ctx w => Sys2Proof.Machine.execCcRs core ctx w s
  | .ccAg core ctx w => Sys2Proof.Machine.execCcAg core ctx w s
  | .ccA2a core ctx w => Sys2Proof.Machine.execCcA2a core ctx w s
  | .ccBcast core ctx w => Sys2Proof.Machine.execCcBcast core ctx w s
  | .ccRecv core ctx w => Sys2Proof.Machine.execCcRecv core ctx w s
  | .liftMoveStart die => Sys2Proof.Machine.execLiftMoveStart die s
  | .liftMoveCommit move => Sys2Proof.Machine.execLiftMoveCommit move s
  | .liftCommitAck move => Sys2Proof.Machine.execLiftCommitAck move s
  | .backgroundScrubRead alloc line errorBytes => Sys2Proof.Machine.execBackgroundScrubRead alloc line errorBytes s
  | .hbmRecalibration => Sys2Proof.Machine.execHbmRecalibration s
  | .deepSelfRefresh => Sys2Proof.Machine.execDeepSelfRefresh s
  | .tensorMapWrite sess n entries => Sys2Proof.Machine.execTensorMapWrite sess n entries s
  | .versionWriteResume core ctx => Sys2Proof.Machine.execVersionWriteResume core ctx s
  | .tagWaitEnd core ctx => Sys2Proof.Machine.execTagWaitEnd core ctx s
  | .tenantAdmit sess n => Sys2Proof.Machine.execTenantAdmit sess n s
  | .tenantRelease sess n => Sys2Proof.Machine.execTenantRelease sess n s
  | .tenantReset sess n => Sys2Proof.Machine.execTenantReset sess n s
  | .tenantFree n => Sys2Proof.Machine.execTenantFree n s
  | .tenantZeroingDone n => Sys2Proof.Machine.execTenantZeroingDone n s
  | .imageLoad sess n slot image => Sys2Proof.Machine.execImageLoad sess n slot image s
  | .imageClear sess n slot value => Sys2Proof.Machine.execImageClear sess n slot value s
  | .tailDoorbell q tail => Sys2Proof.Machine.execTailDoorbell q tail s
  | .descriptorAccept q => Sys2Proof.Machine.execDescriptorAccept q s
  | .dispatch env q index desc => Sys2Proof.Machine.execDispatch env q index desc s
  | .descriptorPlace q => Sys2Proof.Machine.execDescriptorPlace q s
  | .completionPull sess q => Sys2Proof.Machine.execCompletionPull sess q s
  | .completionHead q sequence => Sys2Proof.Machine.execCompletionHead q sequence s
  | .queueEnable sess q config => Sys2Proof.Machine.execQueueEnable sess q config s
  | .queueDisable sess q => Sys2Proof.Machine.execQueueDisable sess q s
  | .workAbortComplete work => Sys2Proof.Machine.execWorkAbortComplete work s
  | .laneFrameReceive port laser b => Sys2Proof.Machine.execLaneFrameReceive port laser b s
  | .edgeLockUpdate port laser ring monitorError => Sys2Proof.Machine.execEdgeLockUpdate port laser ring monitorError s
  | .heaterRangeLoss port laser => Sys2Proof.Machine.execHeaterRangeLoss port laser s
  | .toneCorrelation port laser tones wordOk => Sys2Proof.Machine.execToneCorrelation port laser tones wordOk s
  | .relockComplete port laser ok => Sys2Proof.Machine.execRelockComplete port laser ok s
  | .alignmentLoss port laser => Sys2Proof.Machine.execAlignmentLoss port laser s
  | .alignmentReturn port laser => Sys2Proof.Machine.execAlignmentReturn port laser s
  | .alignmentLossDrop port laser => Sys2Proof.Machine.execAlignmentLossDrop port laser s
  | .marginWindowEnd port windows => Sys2Proof.Machine.execMarginWindowEnd port windows s
  | .farEndReport port laser ratePpb => Sys2Proof.Machine.execFarEndReport port laser ratePpb s
  | .farEndReportTimeout port laser => Sys2Proof.Machine.execFarEndReportTimeout port laser s
  | .swapConfirm port => Sys2Proof.Machine.execSwapConfirm port s
  | .swapAbandon port => Sys2Proof.Machine.execSwapAbandon port s
  | .spareHoldbackEnd port => Sys2Proof.Machine.execSpareHoldbackEnd port s
  | .spareTakeoverComplete port => Sys2Proof.Machine.execSpareTakeoverComplete port s
  | .waxCalibrationEnd port laser r => Sys2Proof.Machine.execWaxCalibrationEnd port laser r s
  | .laneTrainingEnd port laser rate16Ppb rate4Ppb => Sys2Proof.Machine.execLaneTrainingEnd port laser rate16Ppb rate4Ppb s
  | .laneBringupRetry port laser => Sys2Proof.Machine.execLaneBringupRetry port laser s
  | .identityFrame port laser f => Sys2Proof.Machine.execIdentityFrame port laser f s
  | .portRemapWrite sess remap => Sys2Proof.Machine.execPortRemapWrite sess remap s
  | .chipNumberWrite sess value => Sys2Proof.Machine.execChipNumberWrite sess value s
  | .drawingWrite sess slot d => Sys2Proof.Machine.execDrawingWrite sess slot d s
  | .slalomArm sess => Sys2Proof.Machine.execSlalomArm sess s
  | .packetInject d => Sys2Proof.Machine.execPacketInject d s
  | .packetForward port p => Sys2Proof.Machine.execPacketForward port p s
  | .packetReceive d crc => Sys2Proof.Machine.execPacketReceive d crc s
  | .ackReceive p => Sys2Proof.Machine.execAckReceive p s
  | .nakReceive p => Sys2Proof.Machine.execNakReceive p s
  | .resendTimeout dest channel => Sys2Proof.Machine.execResendTimeout dest channel s
  | .pathAReturn dest channel => Sys2Proof.Machine.execPathAReturn dest channel s
  | .streamRelease dest channel => Sys2Proof.Machine.execStreamRelease dest channel s
  | .heldPacketTimeout source channel sequence => Sys2Proof.Machine.execHeldPacketTimeout source channel sequence s
  | .creditReturn port cls count => Sys2Proof.Machine.execCreditReturn port cls count s
  | .creditReturnTimer port => Sys2Proof.Machine.execCreditReturnTimer port s
  | .departureNotice chip => Sys2Proof.Machine.execDepartureNotice chip s
  | .runSend n plan inst chunk peer => Sys2Proof.Machine.execRunSend n plan inst chunk peer s
  | .runReceive r => Sys2Proof.Machine.execRunReceive r s
  | .bufferPost n plan peer count => Sys2Proof.Machine.execBufferPost n plan peer count s
  | .retryNotice n plan inst chunk x => Sys2Proof.Machine.execRetryNotice n plan inst chunk x s
  | .collectiveTokenDone n plan inst => Sys2Proof.Machine.execCollectiveTokenDone n plan inst s
  | .feedReceive n localBase step offset data => Sys2Proof.Machine.execFeedReceive n localBase step offset data s
  | .collectiveHold sess n => Sys2Proof.Machine.execCollectiveHold sess n s
  | .collectiveHoldEnd sess n => Sys2Proof.Machine.execCollectiveHoldEnd sess n s
  | .holdBeacon n => Sys2Proof.Machine.execHoldBeacon n s
  | .holdBeaconReceive chip epoch plan inst => Sys2Proof.Machine.execHoldBeaconReceive chip epoch plan inst s
  | .holdSuspensionExpiry chip => Sys2Proof.Machine.execHoldSuspensionExpiry chip s
  | .holdLimitExpiry n => Sys2Proof.Machine.execHoldLimitExpiry n s
  | .withdrawalReceive n chip plan inst => Sys2Proof.Machine.execWithdrawalReceive n chip plan inst s
  | .collectiveStall n plan inst => Sys2Proof.Machine.execCollectiveStall n plan inst s
  | .sketchBlockProject engine outputs => Sys2Proof.Machine.execSketchBlockProject engine outputs s
  | .sketchCalibrationEnd engine sigmas gains orthoError => Sys2Proof.Machine.execSketchCalibrationEnd engine sigmas gains orthoError s
  | .stepClose sess n step => Sys2Proof.Machine.execStepClose sess n step s
  | .vote n => Sys2Proof.Machine.execVote n s
  | .voteReceive m => Sys2Proof.Machine.execVoteReceive m s
  | .commitReceive m => Sys2Proof.Machine.execCommitReceive m s
  | .abortReceive m => Sys2Proof.Machine.execAbortReceive m s
  | .ledgerAckReceive m => Sys2Proof.Machine.execLedgerAckReceive m s
  | .ledgerResend n => Sys2Proof.Machine.execLedgerResend n s
  | .stateQueryReceive m => Sys2Proof.Machine.execStateQueryReceive m s
  | .stateReportReceive m => Sys2Proof.Machine.execStateReportReceive m s
  | .abortRequest sess n step => Sys2Proof.Machine.execAbortRequest sess n step s
  | .abortRequestReceive m => Sys2Proof.Machine.execAbortRequestReceive m s
  | .voteTimeout n => Sys2Proof.Machine.execVoteTimeout n s
  | .judgesReport n slot step unit gradient noStep c => Sys2Proof.Machine.execJudgesReport n slot step unit gradient noStep c s
  | .lossWrite sess n step value => Sys2Proof.Machine.execLossWrite sess n step value s
  | .gradWrite sess n step value => Sys2Proof.Machine.execGradWrite sess n step value s
  | .statsReset sess n value => Sys2Proof.Machine.execStatsReset sess n value s
  | .slotCheckFail slot => Sys2Proof.Machine.execSlotCheckFail slot s
  | .ledgerMembersWrite sess n members => Sys2Proof.Machine.execLedgerMembersWrite sess n members s
  | .beaconSend lane => Sys2Proof.Machine.execBeaconSend lane s
  | .beaconReceive lane b => Sys2Proof.Machine.execBeaconReceive lane b s
  | .suspectTimeout lane => Sys2Proof.Machine.execSuspectTimeout lane s
  | .probeSend lane => Sys2Proof.Machine.execProbeSend lane s
  | .probeReceive chip pathB => Sys2Proof.Machine.execProbeReceive chip pathB s
  | .probeAnswerReceive lane => Sys2Proof.Machine.execProbeAnswerReceive lane s
  | .deadVerdict lane => Sys2Proof.Machine.execDeadVerdict lane s
  | .lifeChangeReceive changes => Sys2Proof.Machine.execLifeChangeReceive changes s
  | .memberRejoin sess chip => Sys2Proof.Machine.execMemberRejoin sess chip s
  | .fenceRequest sess chip => Sys2Proof.Machine.execFenceRequest sess chip s
  | .mirrorTableWrite sess n entries => Sys2Proof.Machine.execMirrorTableWrite sess n entries s
  | .mirrorPopulate sess n buddyVersion buddyStepOpen => Sys2Proof.Machine.execMirrorPopulate sess n buddyVersion buddyStepOpen s
  | .mirrorDigestReceive n index c => Sys2Proof.Machine.execMirrorDigestReceive n index c s
  | .mirrorVerify sess n buddyVersion buddyStepOpen => Sys2Proof.Machine.execMirrorVerify sess n buddyVersion buddyStepOpen s
  | .faultReport f => Sys2Proof.Machine.execFaultReport f s
  | .wiringFault w => Sys2Proof.Machine.execWiringFault w s
  | .watchdogExpiry proc => Sys2Proof.Machine.execWatchdogExpiry proc s
  | .testModeWrite sess value => Sys2Proof.Machine.execTestModeWrite sess value s
  | .perturbStop sess value => Sys2Proof.Machine.execPerturbStop sess value s
  | .memoryInject sess address kind => Sys2Proof.Machine.execMemoryInject sess address kind s
  | .read env items => Sys2Proof.Machine.execRead env items s
  | .describe env items => Sys2Proof.Machine.execDescribe env items s
  | .write env items => Sys2Proof.Machine.execWrite env items s
  | .readSeg env obj offset length => Sys2Proof.Machine.execReadSeg env obj offset length s
  | .writeSeg env item => Sys2Proof.Machine.execWriteSeg env item s
  | .clearIf env obj count => Sys2Proof.Machine.execClearIf env obj count s
  | .subscribeAdd env obj => Sys2Proof.Machine.execSubscribeAdd env obj s
  | .subscribeRemove env obj => Sys2Proof.Machine.execSubscribeRemove env obj s
  | .subscribeAcknowledge env sequence => Sys2Proof.Machine.execSubscribeAcknowledge env sequence s
  | .hello net peer keySlot rolePublicKey ephemeral nonce => Sys2Proof.Machine.execHello net peer keySlot rolePublicKey ephemeral nonce s
  | .proof env flags signature => Sys2Proof.Machine.execProof env flags signature s
  | .close env => Sys2Proof.Machine.execClose env s
  | .sessionClose sess value => Sys2Proof.Machine.execSessionClose sess value s
  | .handshakeTimeout session => Sys2Proof.Machine.execHandshakeTimeout session s
  | .sessionIdleTimeout sess => Sys2Proof.Machine.execSessionIdleTimeout sess s
  | .segmentTimeout sess obj => Sys2Proof.Machine.execSegmentTimeout sess obj s
  | .eventResend sess => Sys2Proof.Machine.execEventResend sess s
  | .subscriptionDelivery sess => Sys2Proof.Machine.execSubscriptionDelivery sess s
  | .gdpPortChange => Sys2Proof.Machine.execGdpPortChange s
  | .objectWrite sess obj value => Sys2Proof.Machine.execObjectWrite sess obj value s
  | .ethLinkRetry port ok => Sys2Proof.Machine.execEthLinkRetry port ok s
  | .ethFrameReceive port tag kind => Sys2Proof.Machine.execEthFrameReceive port tag kind s
  | .neighbourTimeout net peer => Sys2Proof.Machine.execNeighbourTimeout net peer s
  | .addressChangeEffect obj => Sys2Proof.Machine.execAddressChangeEffect obj s
  | .pauseReceive port priority quanta => Sys2Proof.Machine.execPauseReceive port priority quanta s
  | .qpTableWrite sess qp spec => Sys2Proof.Machine.execQpTableWrite sess qp spec s
  | .rdmaWrite qp psn rkey address data => Sys2Proof.Machine.execRdmaWrite qp psn rkey address data s
  | .rdmaRead qp psn rkey address length => Sys2Proof.Machine.execRdmaRead qp psn rkey address length s
  | .rdmaSendReceive qp psn => Sys2Proof.Machine.execRdmaSendReceive qp psn s
  | .roceAckReceive qp psn rnr => Sys2Proof.Machine.execRoceAckReceive qp psn rnr s
  | .roceRetryTimeout qp => Sys2Proof.Machine.execRoceRetryTimeout qp s
  | .roceRnrRetry qp => Sys2Proof.Machine.execRoceRnrRetry qp s
  | .cnpReceive qp => Sys2Proof.Machine.execCnpReceive qp s
  | .cnpRateRecovery qp => Sys2Proof.Machine.execCnpRateRecovery qp s
  | .ethernetLinkDown port => Sys2Proof.Machine.execEthernetLinkDown port s
  | .pauseQuantaExpiry port priority => Sys2Proof.Machine.execPauseQuantaExpiry port priority s
  | .completionDelayEnd work => Sys2Proof.Machine.execCompletionDelayEnd work s
  | .cumulativeAckTimer source channel => Sys2Proof.Machine.execCumulativeAckTimer source channel s
  | .chunkLevelFinished n plan inst level chunk => Sys2Proof.Machine.execChunkLevelFinished n plan inst level chunk s

end Sys2Proof.Machine
end

