-- ==== Sys2Proof/Machine/Tick.lean ====
section
/-!
DEFINITION. What a nanosecond brings when no command waits (log entry 1).
-/

namespace Sys2Proof.Machine

/-- One nanosecond of the package's own reference brings cadence time on by as much, or by 10 ppm less or more while an offset is still
to be corrected (R48): a package that runs ahead slows down. It stops short of the beat boundary, which is the command BEAT. -/
def Time.advance (t : Time) : Time :=
  let d : Int := if 0 < t.rest then -1 else if t.rest < 0 then 1 else 0
  let p := ((t.phase : Int) + 100000 + d).toNat
  if t.cad % 1024 = 1023 then t
  else { t with cad := min (t.cad + p / 100000) (t.cad / 1024 * 1024 + 1023), phase := p % 100000, rest := t.rest + d }

/-- The results of instances that were held are written (R155, R326). -/
def State.resumeResults (s : State) : State :=
  s.colls.insts.foldl (fun t i => t.withInst i fun j => if j.whole then t.finishWhole j else t) s

/-- One nanosecond passes: the uptime counter counts while the package is powered (R15, R61), and cadence time counts
within its beat once there is one (R44), every arbiter grants one request (R497), and writes held by a lock or a move that has ended go on (R155, R326, R717). The beat boundary itself is the command BEAT. DESIGN CHOICE, log entry 1. -/
def State.tick (s : State) : State :=
  if s.device = devOff then s
  else
    let s1 := s.setReg Obj.uptime ((s.up + 1) % 2 ^ 64)
    let s2 : State := if s.reg Obj.cadenceState = cadAcquiring then s1 else { s1 with time := s1.time.advance }
    s2.arbitrate.resumeHost.resumeWrites.resumeResults

end Sys2Proof.Machine
end

