-- ==== Sys2Proof/Safety.lean ====
section
/-!
DEFINITION. The terms the statements use: who may write what, what a step may change, and what stays in bounds.
-/

namespace Sys2Proof.Machine

/-- A session is open and has the write right on an object (R643, R648). -/
def MayWrite (s : State) (sess index sub : Nat) : Prop :=
  ∃ x, s.session? sess = some x ∧ s.canWrite x ⟨index, sub⟩ = true

/-- A session is open and lacks the write right on an object (R650). -/
def MayNotWrite (s : State) (sess index sub : Nat) : Prop :=
  ∃ x, s.session? sess = some x ∧ s.canWrite x ⟨index, sub⟩ = false

/-- Between two states only the registers named differ; every other field of State is the same. -/
def OnlyRegs (ks : List Nat) (s t : State) : Prop :=
  (∀ k, k ∉ ks → t.reg k = s.reg k) ∧ { t with regs := s.regs } = s

/-- The registers but those named are the same. -/
def RegsBut (ks : List Nat) (s t : State) : Prop := ∀ k, k ∉ ks → t.reg k = s.reg k

/-! Instructions -/

/-- A context's next instruction issues (R64, R189, R192, R369, R374, R388, R618): the context may issue, and a whole word of its work's code
lies at its pointer. -/
def Issues (s : State) (c x : Nat) (k : Work) : Prop :=
  s.mayIssue c x = true ∧ (∃ w, s.ctxWork c x = some (w, k)) ∧ s.fetchOk k (s.ctx c x).ip = true

/-- Where an issued instruction starts (R374): yielded contexts of the core are ready again, the context runs, and its pointer is at
the next word. -/
def State.started (s : State) (c x : Nat) : State :=
  let u := s.wakeYielded c x
  u.setCtx c x { u.ctx c x with state := 2, waits := .nothing, ip := (u.ctx c x).ip + 16 }

/-- A thread group's next instruction issues (R195, R276, R369): the group runs a block of a kernel of context x whose threads may issue,
it does not wait for a tag, and a whole word of the code lies at the group's offset. -/
def ThreadIssues (s : State) (c g x : Nat) (k : Work) : Prop :=
  ∃ kn ip w, s.kernelOn c g = some (kn, ip) ∧ kn.ctx = x ∧ s.threadsMay c x = true ∧ s.ctxWork c x = some (w, k) ∧
    s.groupWait c g ≠ .tag false ∧ s.fetchOk k ip = true

/-- The operands of an instruction are prepared in order (R219, R272, R350): none faults, none waits, no operand written meets a lock or
a move (R155, R326), and no promotion of an operand holds it back while another context is ready (R189, R192). `ds` are their descriptors
and versions, `t` the state that follows, a late lift counted (R339). -/
def OperandsReady (s : State) (c x unit : Nat) (k : Work) (ops : List OpAsk) (ds : List (Desc × VSel)) (t : State) : Prop :=
  ∃ u, s.prepAll k.asker unit ops = .ready ds u ∧ ((ops.zip ds).any fun p => u.writeHeld k.tenant p.1 p.2.2) = false ∧
    (s.otherReady c x = false ∨ ds.findSome? (s.promotionOf k.tenant) = none) ∧ t = u.lateLift c x k.tenant ds

/-- No mode change is held, and a matrix instruction passes the checks of R143 and R161, with its form's own demands on Y and more. -/
def MatrixSound (s : State) (c x : Nat) (k : Work) (w : MmaWord) (resident : Bool) (yOk : Mma → Desc → Bool) (more : Mma → Bool)
    (m : Mma) (a : AccWin) : Prop :=
  (s.core c).mmodeHeld = [] ∧ s.mmaDescs k w = some m ∧
  a = accWin w m (s.core c).mode (s.ctx c x) (!mmaResident w (mmaM w m) (windowRows m (s.core c).mode w.part (s.ctx c x))) ∧
  mmaOk w m (s.core c).mode (windowRows m (s.core c).mode w.part (s.ctx c x)) resident (yOk m) = true ∧
  (w.acc && (s.core c).tagClash a (mmaM w m)) = false ∧ more m = true

/-- A matrix instruction that passes its checks has rows and columns; its partition serves no other context, and no earlier write of its
context to its operands is still to be made (R142, R156, R190). -/
def MatrixFree (s : State) (c x : Nat) (k : Work) (w : MmaWord) (m : Mma) : Prop :=
  mmaM w m ≠ 0 ∧ mmaN w m ≠ 0 ∧ s.otherServed c x w.part = false ∧ s.writesAhead c x k (m.locked.filterMap Desc.span) = false

/-- A matrix instruction is sound and free to run. -/
def MatrixChecked (s : State) (c x : Nat) (k : Work) (w : MmaWord) (resident : Bool) (yOk : Mma → Desc → Bool) (more : Mma → Bool)
    (m : Mma) (a : AccWin) : Prop := MatrixSound s c x k w resident yOk more m a ∧ MatrixFree s c x k w m

/-- A copy with collective passes the checks of R513 and finds its instance; its operands are prepared, its token is free, and the
destination of its rows is known. `xd` is its source, Y itself for a receive. -/
structure CopyReady (s : State) (c x : Nat) (k : Work) (w : CcWord) (form : CollForm) (xd yd : Desc) (i : Inst)
    (ds : List (Desc × VSel)) (t : State) (route : List Nat) : Prop where
  source : s.slotDesc k (if form = .receive then w.y else w.x) = some xd
  target : s.slotDesc k w.y = some yd
  plan : s.planBad c k w.cp (s.planOf k.tenant w.cp) = false
  formats : collFormats (s.planOf k.tenant w.cp) (if form = .receive then [yd.fmt] else [xd.fmt, yd.fmt]) = true
  apart : (form != .receive && xd.meets yd) = false
  joins : s.instFor c k w.cp (s.planOf k.tenant w.cp)
    (copyAsk form xd yd (s.planSize k.tenant (s.planOf k.tenant w.cp))) = some i
  shape : copyShape form xd yd i.size = true
  fits : s.planFits k (s.planOf k.tenant w.cp) (copyAsk form xd yd (s.planSize k.tenant (s.planOf k.tenant w.cp))) xd.runs i = true
  scale : s.exchFault k (s.planOf k.tenant w.cp) = none
  operands : OperandsReady s c x (agentUnit c) k ((if form = .receive then [] else [askRead xd]) ++ [askWrite yd] ++
    s.planAsks k (s.planOf k.tenant w.cp) form) ds t
  rows : (if form = .allToAll then t.routeOf k (s.planOf k.tenant w.cp) xd.runs i.size else some []) = some route
  token : (t.ctx c x).token i.token = .free

/-- A fused form passes the checks of R161 and R513 and finds its instance; its operands and its plan's are prepared and its token is
free. `t` follows the operands, `u` the plan's tensors, whose descriptors are `ps`. -/
structure FusedReady (s : State) (c x : Nat) (k : Work) (w : MmaWord) (form : CollForm) (y : Desc) (m : Mma) (a : AccWin)
    (o : MmaOps) (i : Inst) (ds ps : List (Desc × VSel)) (t u : State) : Prop where
  target : s.slotDesc k w.y = some y
  checked : MatrixChecked s c x k (if form = .send then { w with out := false } else w) true (fun _ _ => true)
    (s.fusedFits c k w form y) m a
  operands : OperandsReady s c x (engineId c 0) k (m.asks (if form = .send then { w with out := false } else w)) ds t
  named : m.named ds = some o
  joins : t.instFor c k w.cp (s.planOf k.tenant w.cp) (fusedAsk form w m y) = some i
  scale : t.exchFault k (s.planOf k.tenant w.cp) = none
  planOps : OperandsReady t c x (engineId c 0) k ((if form = .allGather then [askWrite m.x] else []) ++
    t.planAsks k (s.planOf k.tenant w.cp) form) ps u
  token : (u.ctx c x).token (s.planOf k.tenant w.cp).token = .free

/-- The state after the passes of a matrix instruction (R125, R130, R144, R162): its tiles are in the planes, its rows are written and
tagged, unless it reduces over nothing with ACC set, and its passes are counted. -/
def afterPasses (s : State) (c x : Nat) (k : Work) (w : MmaWord) (m : Mma) (a : AccWin) (o : MmaOps) (p : Product) : State :=
  let s0 := s.loadPlanes c x k w m o
  (s0.setCore c (if mmaK w m ≠ 0 ∨ w.acc = false then p.core.tagRows a (mmaM w m) (mmaN w m) w.acc else s0.core c)).countPasses c w
    (mmaM w m) (mmaK w m) (mmaN w m) (passDepth m.x.fmt m.w.fmt (a.mode == 2)) p.lost m.intForm

/-! What an instruction leaves -/

/-- A context faults (R144, R189, R394, R613): it is in the faulted state and waits for nothing, its first fault is kept, its kernels have
ended; no other context changes and no byte of memory does; the fault is counted as contained at the die of the block. -/
structure CtxFaulted (s t : State) (c x unit access : Nat) : Prop where
  faulted : (t.ctx c x).state = 4 ∧ (t.ctx c x).waits = .nothing
  first : (t.ctx c x).firstFault = some ((s.ctx c x).firstFault.getD (unit, access))
  kernels : (t.core c).kernels = (s.core c).kernels.filter fun k => k.ctx != x
  others : ∀ d y, ctxKey d y ≠ ctxKey c x → t.ctx d y = s.ctx d y
  cores : ∀ d, d ≠ c → t.core d = s.core d
  memory : t.mem = s.mem ∧ t.entries = s.entries
  counted : t.reg (Obj.containedCount (unitDie unit)) = (s.reg (Obj.containedCount (unitDie unit)) + 1) % 2 ^ 64

/-- What an instruction of a thread group leaves but for the register it writes (R195, R196, R221): no other register of the group, no
predicate, no inactive thread and no thread of another group changes; the group goes on to the next word, the other groups of the core
stay where they are, and one vector issue is counted. -/
structure LaneLeaves (s t : State) (c g r : Nat) (w : ThreadWord) : Prop where
  others : ∀ i q, i < 64 → q ≠ r → (t.thread c g i).reg q = (s.thread c g i).reg q
  preds : ∀ i, i < 64 → (t.thread c g i).preds = (s.thread c g i).preds
  inactive : ∀ i, i < 64 → (s.thread c g i).active w = false → t.thread c g i = s.thread c g i
  groups : ∀ d h i, i < 64 → h < 64 → d ≠ c ∨ h ≠ g → t.thread d h i = s.thread d h i
  next : (t.kernelOn c g).map (·.2) = (s.kernelOn c g).map (·.2 + 16)
  stay : ∀ h, h ≠ g → (t.kernelOn c h).map (·.2) = (s.kernelOn c h).map (·.2)
  counted : t.reg (Obj.vectorIssueCount c) = (s.reg (Obj.vectorIssueCount c) + 1) % 2 ^ 64
  cores : (∀ d, d ≠ c → t.core d = s.core d) ∧ { t.core c with kernels := (s.core c).kernels } = s.core c

/-- Only these places of a tenant's tensor space may hold other bytes. -/
def BytesBut (n : Nat) (ws : List (Nat × VSel)) (s t : State) : Prop :=
  ∀ a o, (∀ w ∈ ws, ∀ p, s.locate n w.1 w.2 = some p → memKey p.1 p.2 ≠ memKey a o) → t.rdByte a o = s.rdByte a o

/-- The places that a conversion into a tensor stores to: its elements, its scale record, and its block scales or chunk exponents (R91,
R95, R119). -/
def Desc.places (d : Desc) (v : VSel) : List (Nat × VSel) :=
  d.offsets.map (·, v) ++ (if d.scalePtr = 0 then [] else (List.range 128).map fun i => (offOf d.scalePtr + i, .plain)) ++
  (if isFx d.fmt || (isNarrow d.fmt && d.block != 0) then
    (List.range (d.runs * d.blocksPerRun (if isFx d.fmt then 256 else blockSize d.block))).map fun i =>
      (offOf d.scalePtr + 128 + i, .plain)
   else [])

/-- An instruction that followed `t` has stored what `u` holds, into these places, and has completed with `v`: memory, and the records
its tenant lists, are those of `u`; outside the places no byte differs; no context, queue or other part of the package changes. What the
cores, the registers and the Judges slots hold is said beside it. -/
structure Stores (t u v : State) (n : Nat) (ws : List (Nat × VSel)) : Prop where
  memory : v.mem = u.mem ∧ v.poison = u.poison ∧ v.entries = u.entries ∧ v.tenants = u.tenants
  bytes : BytesBut n ws t v
  rest : { v with mem := t.mem, poison := t.poison, entries := t.entries, tenants := t.tenants, slots := t.slots, regs := t.regs,
                  cores := t.cores } = t

/-- A work item has ended with a status (R275, R377, R378, R380, R388 to R392, R633). With a completion delay it stays, its completion to
come; without one its completion entry is the last of its queue's ring, under the next sequence number, and its published words are
visible under that number. A slot that was never placed is consumed; a release mark takes the tags of the micro-batch away. No other
work item and no other queue changes; without a release mark, nothing else does but what a push sends. -/
structure WorkEnded (s t : State) (w : Nat) (k : Work) (status detail : Nat) : Prop where
  delayed : s.reg (Obj.completionDelay k.queue) ≠ 0 → t.work? w = some { k with status := status, detail := detail, phase := 3 } ∧
    (t.queue k.queue).ring = (s.queue k.queue).ring ∧ (t.queue k.queue).lastSequence = (s.queue k.queue).lastSequence
  written : s.reg (Obj.completionDelay k.queue) = 0 → t.work? w = none ∧
    (t.queue k.queue).lastSequence = (s.queue k.queue).lastSequence + 1 ∧
    (t.queue k.queue).ring = (s.queue k.queue).ring ++
      [⟨(s.queue k.queue).lastSequence + 1, k.userTag, k.step, status, k.ctx, k.core, detail⟩]
  published : s.reg (Obj.completionDelay k.queue) = 0 → (k.published.map (·.1)).Nodup → ∀ p ∈ k.published,
    Sparse.get 0 p.1 (t.queue k.queue).results = p.2 ∧
    Sparse.get 0 p.1 (t.queue k.queue).generations = (s.queue k.queue).lastSequence + 1
  consumed : (t.queue k.queue).consumed =
    if k.phase = 1 then ((s.queue k.queue).consumed + 1) % 2 ^ 32 else (s.queue k.queue).consumed
  tags : k.rm = true → ∀ g ∈ (t.tenant k.tenant).tags, g.microBatch ≠ k.microBatch
  others : (∀ v, v ≠ w → t.work? v = s.work? v) ∧ ∀ q, q ≠ k.queue → t.queue q = s.queue q
  rest : k.rm = false → { t with works := s.works, queues := s.queues, eth := s.eth, out := s.out } = s

/-- A context whose work has ended is idle (R142, R373, R377, R386, R394): no scalar register, token, thread group or window is left to it;
its kernels, held mode changes and weight tiles are gone; its activation stack stays. -/
structure CtxFreed (s t : State) (c x : Nat) : Prop where
  idle : t.ctx c x = { stackBase := (s.ctx c x).stackBase, stackLimit := (s.ctx c x).stackLimit, stack := (s.ctx c x).stack }
  core : t.core c = { s.core c with
    kernels := (s.core c).kernels.filter fun k => k.ctx != x, mmodeHeld := (s.core c).mmodeHeld.filter fun m => m.1 != x,
    planes := (s.core c).planes.map fun p => (p.1, p.2.leave x) }
  others : ∀ d, d ≠ c → t.core d = s.core d

/-- An instruction that does not issue yet (R143, R155, R156, R190, R326): its context is ready, its pointer stays, and nothing changes but
the yields that end. -/
def NotYet (s t : State) (c x : Nat) : Prop :=
  t.ctx c x = { s.ctx c x with state := 1, waits := .nothing } ∧
  (∀ d y, ctxKey d y ≠ ctxKey c x → t.ctx d y = (s.started c x).ctx d y) ∧ { t with ctxs := s.ctxs } = s

/-- A fault of a matrix instruction (R144, R146, R162): its context is faulted, its instructions end, the regions of the partitions they ran
on are poisoned, and the fault is counted. -/
structure PartFaulted (s t : State) (c x access : Nat) : Prop where
  context : CtxFaulted s t c x (engineId c 0) access
  ended : (t.core c).issued = (s.core c).issued.filter fun i => i.ctx != x
  drained : ∀ i ∈ (s.core c).issued, i.ctx = x → ∀ q ∈ regionKeys (s.core c).mode i.part, Sparse.get 0 q (t.core c).accPoison = 1
  kept : (t.core c).acc = (s.core c).acc ∧ (t.core c).accTag = (s.core c).accTag ∧ (t.core c).planes = (s.core c).planes
  count : t.reg (Obj.partitionFaultCount c) = (s.reg (Obj.partitionFaultCount c) + 1) % 2 ^ 32

/-- The passes of a matrix instruction have run (R125, R126, R130, R144, R162, R187): the entries are those of the product, its rows carry
the form's tag, and with ACC clear lose their poison; an instruction that reduces over nothing with ACC set leaves them. The partition
serves the context, and the last tile loaded is current. Lost bits, stochastic steps, streamed rows and a missed preload are counted. -/
structure PassesRun (t v : State) (c x : Nat) (w : MmaWord) (m : Mma) (a : AccWin) (p : Product) : Prop where
  acc : (v.core c).acc = if mmaK w m ≠ 0 ∨ w.acc = false then p.core.acc else (t.core c).acc
  tag : ∀ q, Sparse.get 0 q (v.core c).accTag = if (mmaK w m ≠ 0 ∨ w.acc = false) ∧ q ∈ a.keys (mmaM w m) then formTag a.int
    else Sparse.get 0 q (t.core c).accTag
  poison : ∀ q, Sparse.get 0 q (v.core c).accPoison = if w.acc = false ∧ q ∈ a.keys (mmaM w m) then 0
    else Sparse.get 0 q (t.core c).accPoison
  bad : ∀ q, Sparse.get 0 q (v.core c).accBad = if w.acc = false ∧ q ∈ a.cells (mmaM w m) (mmaN w m) then 0
    else Sparse.get 0 q (t.core c).accBad
  serves : (Sparse.get {} w.part (v.core c).planes).tag = some x
  planes : ∀ q, q ≠ w.part → Sparse.get {} q (v.core c).planes = Sparse.get {} q (t.core c).planes
  current : (Sparse.get {} w.part (v.core c).planes).current =
    ((Sparse.get {} w.part (t.core c).planes).current + ceilDiv (mmaK w m) (passDepth m.x.fmt m.w.fmt ((t.core c).mode == 2))) % 2 ∨
    mmaK w m = 0
  truncated : v.reg (Obj.windowTruncationCount c) = (t.reg (Obj.windowTruncationCount c) + (p.lost.filter id).length) % 2 ^ 64
  streamed : v.reg (Obj.streamCycles c) = (t.reg (Obj.streamCycles c) +
    ceilDiv (mmaK w m) (passDepth m.x.fmt m.w.fmt (a.mode == 2)) * mmaM w m) % 2 ^ 64
  missed : v.reg (Obj.preloadMissCount c) = if mmaK w m = 0 ∨ (t.core c).issued.any (fun j => j.part == w.part)
    then t.reg (Obj.preloadMissCount c) else (t.reg (Obj.preloadMissCount c) + 1) % 2 ^ 32
  cores : (∀ d, d ≠ c → v.core d = t.core d) ∧ { v.core c with
    acc := (t.core c).acc, accTag := (t.core c).accTag, accPoison := (t.core c).accPoison, accBad := (t.core c).accBad,
    planes := (t.core c).planes, issued := (t.core c).issued } = t.core c

/-- A matrix instruction is the last of those issued on its core (R133, R155, R156, R289): with its partition, its locks, what it writes,
and the report that it sends at its end. -/
def IssuedLast (t v : State) (c x : Nat) (k : Work) (w : MmaWord) (m : Mma) (n : Counts) : Prop :=
  ∃ i : Issued, (v.core c).issued = (t.core c).issued ++ [i] ∧ i.ctx = x ∧ i.part = w.part ∧ i.locks = lockRanges k.tenant m.locked ∧
    i.writes = (m.y.toList ++ m.tout.toList).filterMap Desc.span ∧ i.step = k.stepOf ∧ i.counts = n ∧ i.discarded = false ∧
    (∀ y, m.y = some y → w.out = true → i.gradient = y.g ∧ (y.j = true → t.reg (Obj.slotFirst k.tenant) ≤ y.slot →
      y.slot < t.reg (Obj.slotFirst k.tenant) + t.reg (Obj.slotCount k.tenant) → i.slot = some y.slot) ∧ (y.j = false → i.slot = none))

/-- A contribution has joined an instance that still waits for others (R376, R509, R514, R526): the instance holds it and its locks, its
use is counted, its token is outstanding, and a new instance's exchange record is listed; no byte of memory changes. -/
structure Joined (t v : State) (i : Inst) (p : Contrib) (locks : List (Nat × Nat)) : Prop where
  colls : v.colls = { t.colls with
    insts := if (t.inst? i).isNone then t.colls.insts ++ [{ i with contribs := putContrib p i.contribs, locks := i.locks ++ locks }]
      else t.colls.insts.map fun q => if q.same i then { i with contribs := putContrib p i.contribs, locks := i.locks ++ locks } else q
    uses := t.colls.uses ++ [(i.n, i.plan, i.step, p.core)]
    areas := if (t.inst? i).isNone then Sparse.set 0 (i.n * 1024 + i.plan) i.buffers t.colls.areas else t.colls.areas }
  token : i.token ≠ 0 → (v.ctx p.core p.ctx).token i.token = .outstanding
  tokens : ∀ j, j ≠ i.token → (v.ctx p.core p.ctx).token j = (t.ctx p.core p.ctx).token j
  context : { v.ctx p.core p.ctx with tokens := (t.ctx p.core p.ctx).tokens } = t.ctx p.core p.ctx
  others : ∀ d y, ctxKey d y ≠ ctxKey p.core p.ctx → v.ctx d y = t.ctx d y
  listed : ∀ off, i.record = some off → (t.inst? i).isNone = true → ∀ q ∈ (v.tenant i.n).steps, q.step = i.step → off ∈ q.exchRecs
  rest : RegsBut [Obj.sketchSkipCount] t v ∧ { v with ctxs := t.ctxs, colls := t.colls, tenants := t.tenants, regs := t.regs } = t

/-- An instance that a contribution joins and that still waits for others: no chunk of it is marked or complete, and no run for it has
arrived. -/
def StillOpen (t : State) (i : Inst) (p : Contrib) (locks : List (Nat × Nat)) : Prop :=
  let j : Inst := { i with contribs := putContrib p i.contribs, locks := i.locks ++ locks }
  j.allIn = false ∧ j.marked = [] ∧ ((List.range j.chunkCount).all fun c => j.leftRing.contains c || !j.complete c) = true ∧
  (t.colls.waiting.any j.owns) = false

/-- What an instruction that stores converted values answers: with the store made it is done; with no room in the list of records it is a
descriptor fault (R108), and with a part not stored into a poisoned line a poisoned-operand fault (R350). `t` is the state before the
store. -/
def StoreAnswers (t : State) (c x unit : Nat) (e : Host.Outcome State Fault Refusal) (done : State → Counts → State → Prop) :
    Stored → Prop
  | .done u n => ∃ v, e = .next v ∧ done u n v
  | .full => ∃ v, e = .next v ∧ CtxFaulted t v c x unit 8
  | .bad z => ∃ v, e = .next v ∧ CtxFaulted z v c x unit 1

/-- The places that a thread store of some elements reaches: their bytes, their scale bytes and the scale record (R89, R91, R201). -/
def Desc.elemPlaces (d : Desc) (v : VSel) (idx : List Nat) : List (Nat × VSel) :=
  (idx.flatMap fun i => (d.elemOffs i).map (·, v) ++ (d.elemScale (i / d.e0) (i % d.e0)).map (·, .plain)) ++
  (if d.scalePtr = 0 then [] else (List.range 128).map fun i => (offOf d.scalePtr + i, .plain))

/-- An instruction of the row engine has stored into Y and completed (R207, R221, R288): memory as said, its counts in Y's slot, one row
instruction counted. The core's other state is said beside it. -/
structure RowStored (t u v : State) (c : Nat) (k : Work) (y : Desc) (sel : VSel) (n : Counts) : Prop where
  stored : Stores t u v k.tenant (y.places sel)
  slots : v.slots = (u.judgeDesc k y (rowUnit c) n).slots
  counted : v.reg (Obj.rowInstructionCount c) = (t.reg (Obj.rowInstructionCount c) + 1) % 2 ^ 64
  cores : ∀ d, d ≠ c → v.core d = t.core d

/-- The side entries of rows 0, 1, 2, … are written, and are not poisoned; no other entry and nothing else of the core changes (R208). -/
structure SideSet (t v : State) (c x sbase : Nat) (es : List (Nat × Nat)) : Prop where
  set : ∀ r, r < es.length → Sparse.get 0 ((t.ctx c x).sideBase + sbase + r) (v.core c).side =
    (es.getD r (0, 0)).1 + (es.getD r (0, 0)).2 * 2 ^ 32 ∧
    Sparse.get 0 ((t.ctx c x).sideBase + sbase + r) (v.core c).sidePoison = 0
  others : ∀ q, (∀ r, r < es.length → q ≠ (t.ctx c x).sideBase + sbase + r) →
    Sparse.get 0 q (v.core c).side = Sparse.get 0 q (t.core c).side ∧
    Sparse.get 0 q (v.core c).sidePoison = Sparse.get 0 q (t.core c).sidePoison
  core : { v.core c with side := (t.core c).side, sidePoison := (t.core c).sidePoison } = t.core c

/-- What an instruction that writes raw elements answers: with the elements written it is done; with a part not stored into a poisoned
line it is a poisoned-operand fault (R350). `r` holds the state after the write and whether a part was not stored. -/
def RawAnswers (c x unit : Nat) (e : Host.Outcome State Fault Refusal) (done : State → State → Prop) (r : State × Bool) : Prop :=
  ∃ v, e = .next v ∧ if r.2 then CtxFaulted r.1 v c x unit 1 else done r.1 v

/-- An instruction of the data mover has stored into Y and completed (R226, R288): memory as said, its counts in Y's slot; no core and no
register but those named changes. -/
structure MoverDone (ks : List Nat) (t u v : State) (n : Nat) (ws : List (Nat × VSel)) (slots : Sparse Slot) : Prop where
  stored : Stores t u v n ws
  slots : v.slots = slots
  kept : v.cores = t.cores ∧ RegsBut ks t v

/-- An entry fits on a context's activation stack (R235, R240): the bounds are good, it ends at or below the limit, all its lines may be
written, and none is locked or moving. -/
def PushFits (t : State) (c x : Nat) (k : Work) (len : Nat) : Prop :=
  let top := t.reg (Obj.stackTop c x)
  t.stackBoundsBad k.tenant (t.ctx c x).stackBase (t.ctx c x).stackLimit = false ∧ top + len ≤ (t.ctx c x).stackLimit ∧
  (∀ i, i < len / 64 → t.writable k.tenant (offOf top + 64 * i) .plain = true) ∧
  t.locked k.tenant (offOf top) (offOf top + len - 1) = false ∧ t.movingAt k.tenant (offOf top) (offOf top + len - 1) .plain = false

/-- The state when an entry has been pushed (R235, R236, R253): its bytes stand from stack_top on, the stack holds it, stack_top has gone up
by its length, and the high water mark is the most the stack has held. -/
def State.pushed (t : State) (c x : Nat) (k : Work) (bytes : List Byte) : State :=
  let top := t.reg (Obj.stackTop c x)
  let s1 := (t.pokeRun k.tenant (offOf top) .plain bytes).1
  ((s1.setCtx c x { t.ctx c x with stack := top :: (t.ctx c x).stack }).setReg (Obj.stackTop c x) (top + bytes.length)).setReg
    (Obj.stackHighWater c x) (max (t.reg (Obj.stackHighWater c x)) (top + bytes.length - (t.ctx c x).stackBase))

/-- A stack fault (R239, R240, R253): the context is faulted and the object of that fault is raised by one. -/
def StackFaulted (s t : State) (c x obj : Nat) : Prop :=
  CtxFaulted s t c x (engineId c 3) 8 ∧ t.reg obj = (s.reg obj + 1) % 2 ^ 32

/-- The header of the top entry of a stack that is not empty has been read (R127, R239, R350): `h` is the header, `u` the state that
follows, injected errors met; its line is not poisoned. -/
def HeadRead (t : State) (c x : Nat) (k : Work) (h : List Byte) (u : State) : Prop :=
  ∃ top more, (t.ctx c x).stack = top :: more ∧ t.reg (Obj.stackTop c x) ≠ (t.ctx c x).stackBase ∧
    (let head := (List.range 64).map fun i => offOf top + i
     u = t.meetInjections k.tenant head .plain (moverUnit c) 0 ∧ u.anyBad k.tenant head .plain = false ∧
     h = u.peekBytes k.tenant (offOf top) .plain 64)

/-- The top entry of a stack that is not empty has been read (R239): `e` is its header and its payload, `z` the state that follows;
nothing of it is poisoned. -/
def TopRead (t : State) (c x : Nat) (k : Work) (e : StackEntry) (z : State) : Prop :=
  ∃ u top, HeadRead t c x k e.header u ∧ (t.ctx c x).stack.head? = some top ∧
    (let len := field e.header 0x20 8
     let body := (List.range len).map fun i => offOf top + 64 + i
     z = u.meetInjections k.tenant body .plain (moverUnit c) 0 ∧ z.anyBad k.tenant body .plain = false ∧
     e.payload = z.peekBytes k.tenant (offOf top + 64) .plain len)

/-- The state when a descriptor's work item has been entered (R372, R382, R390): the queue has accepted it and reserved a completion entry,
and it waits to be placed under the next free number. -/
def State.entered (s : State) (n q index : Nat) (bs : List Byte) : State :=
  { s with
    queues := Sparse.set {} q { s.queue q with
      accepted := ((s.queue q).accepted + 1) % 2 ^ 32, reserved := (s.queue q).reserved + 1 } s.queues
    serial := s.serial + 1
    works := Sparse.insert s.serial (readWork n q index bs) s.works }

/-- A descriptor has been accepted (R372, R382, R390, R568): a malformed one completes with status 3 without running. -/
def Accepted (s t : State) (n q index : Nat) (bs : List Byte) : Prop :=
  if s.refuses (readWork n q index bs) bs then WorkEnded (s.entered n q index bs) t s.serial (readWork n q index bs) 3 0
  else t = s.entered n q index bs

/-- A queue of a tenant holds a posted descriptor that it may accept (R382, R390, R401). -/
def Acceptable (s : State) (q n : Nat) : Prop :=
  s.tenantOfQueue q = some n ∧ s.queueActive q = true ∧ (s.queue q).accepted ≠ (s.queue q).posted ∧
  (s.queue q).reserved < (s.queue q).completionDepth

/-- The posted descriptors are accepted in order, at most k of them, until none may be (R382). -/
def AcceptRun (q : Nat) : Nat → State → State → Prop
  | 0, s, t => t = s
  | k + 1, s, t => (∀ n, Acceptable s q n → ∃ u,
      Accepted s u n q (s.queue q).accepted ((s.queue q).slotBytes (s.queue q).accepted) ∧ AcceptRun q k u t) ∧
    ((∀ n, ¬ Acceptable s q n) → t = s)

/-- A context stops at its instruction boundary with a status (R295, R364, R388): it issues nothing more, waits for nothing, and none of its
tokens is outstanding; its kernels start no further instruction; of work that an abort ends, the reports are discarded. -/
structure CtxStopped (s t : State) (c x st : Nat) : Prop where
  stopping : (t.ctx c x).stopping = some st ∧ (t.ctx c x).state = 3 ∧ (t.ctx c x).waits = .nothing
  tokens : (t.ctx c x).tokens = (s.ctx c x).tokens.filter fun p => p.2 != .outstanding
  context : { t.ctx c x with
    stopping := (s.ctx c x).stopping, state := (s.ctx c x).state, waits := (s.ctx c x).waits, tokens := (s.ctx c x).tokens } = s.ctx c x
  contexts : ∀ d y, ctxKey d y ≠ ctxKey c x → t.ctx d y = s.ctx d y
  core : t.core c = { s.core c with
    kernels := (s.core c).kernels.filter fun k => k.ctx != x,
    issued := (s.core c).issued.map fun i => if i.ctx = x then { i with discarded := i.discarded || st == 2 } else i }
  rest : (∀ d, d ≠ c → t.core d = s.core d) ∧ { t with ctxs := s.ctxs, cores := s.cores } = s

/-- The work items of a list that satisfy a test end with a status, one after another (R364, R382, R388): those that wait to be placed
complete at once, and with `stop` those on a context stop there. -/
def WorksEnd (test : Work → Bool) (status : Nat) (stop : Bool) : List (Nat × Work) → State → State → Prop
  | [], s, t => t = s
  | p :: ps, s, t =>
    if test p.2 = true ∧ p.2.phase = 1 then ∃ u, WorkEnded s u p.1 p.2 status 0 ∧ WorksEnd test status stop ps u t
    else if test p.2 = true ∧ p.2.phase = 2 ∧ stop = true then
      ∃ u, CtxStopped s u p.2.core p.2.ctx status ∧ WorksEnd test status stop ps u t
    else WorksEnd test status stop ps s t

/-- A work item's completion entry has been written (R389 to R392): it is the last of its queue's ring, under the next sequence number, and
the published words are visible under that number. Nothing else changes but what a push sends. -/
structure Completed (s t : State) (w : Nat) (k : Work) : Prop where
  gone : t.work? w = none ∧ ∀ v, v ≠ w → t.work? v = s.work? v
  entry : (t.queue k.queue).lastSequence = (s.queue k.queue).lastSequence + 1 ∧
    (t.queue k.queue).ring = (s.queue k.queue).ring ++
      [⟨(s.queue k.queue).lastSequence + 1, k.userTag, k.step, k.status, k.ctx, k.core, k.detail⟩]
  published : (k.published.map (·.1)).Nodup → ∀ p ∈ k.published, Sparse.get 0 p.1 (t.queue k.queue).results = p.2 ∧
    Sparse.get 0 p.1 (t.queue k.queue).generations = (s.queue k.queue).lastSequence + 1
  others : ∀ q, q ≠ k.queue → t.queue q = s.queue q
  rest : { t with works := s.works, queues := s.queues, eth := s.eth, out := s.out } = s

/-- Work is on a context (R366, R373, R386, R387): the context is ready at the entry's offset with its arguments, micro-batch and step, its
windows and no token; the item knows where it runs, its slot is consumed, and the tenant's next core is the one after. -/
structure PlacedOn (s t : State) (w : Nat) (k : Work) (c x : Nat) (gs : List Nat) (ab sb start a b : Nat) : Prop where
  args : (t.ctx c x).sreg 1 = k.arg0 ∧ (t.ctx c x).sreg 2 = k.arg1 ∧ (t.ctx c x).sreg 3 = k.microBatch ∧ (t.ctx c x).sreg 4 = k.step ∧
    ∀ i, 4 < i → (t.ctx c x).sreg i = 0
  context : { t.ctx c x with sregs := (s.ctx c x).sregs } = { s.ctx c x with
    state := 1, waits := .nothing, ip := start, work := some w, groups := gs, accBase := ab, accSize := a * 64, sideBase := sb,
    sideSize := b * 1024, published := [], firstFault := none, stopping := none, tokens := [] }
  contexts : ∀ d y, ctxKey d y ≠ ctxKey c x → t.ctx d y = s.ctx d y
  item : t.work? w = some { k with phase := 2, core := c, ctx := x } ∧ ∀ v, v ≠ w → t.work? v = s.work? v
  queue : t.queue k.queue = { s.queue k.queue with
      consumed := ((s.queue k.queue).consumed + 1) % 2 ^ 32, placed := (s.queue k.queue).placed + 1 } ∧
    ∀ q, q ≠ k.queue → t.queue q = s.queue q
  next : t.tenant k.tenant = { s.tenant k.tenant with rotCore := if k.pc then (s.tenant k.tenant).rotCore else (c + 1) % 512 } ∧
    ∀ n, n ≠ k.tenant → t.tenant n = s.tenant n
  rest : { t with ctxs := s.ctxs, works := s.works, queues := s.queues, tenants := s.tenants } = s

/-- A step of a tenant is open that was not (R112, R235, R254, R301, R558, R567, R585): its seed, service state, watch settings and
samples are fixed, the records that waited for the oldest step join it, its replay slot is sealed, and the device runs. No memory, work
item, queue or core changes. -/
structure StepOpened (s t : State) (n step : Nat) : Prop where
  opened : ∃ p : StepSt, (t.tenant n).steps = (s.tenant n).steps ++ [p] ∧ p.step = step ∧ p.seed = stepSeed (s.reg (Obj.jobSeed n)) step ∧
    p.service = s.serviceFor n step ∧ p.cfg = s.watchCfg n ∧
    p.scaleRecs = (if step = s.oldestStep n then (s.tenant n).waitingRecs else []) ∧ p.voted = false ∧ p.faulted = false ∧
    p.loss = none ∧ p.grad = none ∧ p.updRecs = [] ∧ p.exchRecs = [] ∧
    p.samples = s.reg (Obj.microBatchSamples n) * (s.tenant n).pendingAccum.getD (s.reg (Obj.accumCount n))
  waiting : (t.tenant n).waitingRecs = if step = s.oldestStep n then [] else (s.tenant n).waitingRecs
  accum : (t.tenant n).pendingAccum = none ∧
    t.reg (Obj.accumCount n) = (s.tenant n).pendingAccum.getD (s.reg (Obj.accumCount n))
  sealed : s.reg (Obj.slotBytes n) ≠ 0 → s.reg (Obj.ringSlots n) ≠ 0 →
    (t.tenant n).sealedSlots = (s.tenant n).sealedSlots ||| 2 ^ (step % s.reg (Obj.ringSlots n))
  shown : t.reg (Obj.stepSeed n) = stepSeed (s.reg (Obj.jobSeed n)) step ∧ t.reg (Obj.seedStep n) = step ∧
    t.reg (Obj.serviceState n) = s.serviceFor n step
  runs : s.isUp = true → t.reg Obj.deviceState = devRunning
  tenants : ∀ m, m ≠ n → t.tenant m = s.tenant m
  kept : t.mem = s.mem ∧ t.entries = s.entries ∧ t.works = s.works ∧ t.queues = s.queues ∧ t.cores = s.cores

/-- A token is done with a status (R376, R377): a context that waits for it takes the status and is ready, with the token free. -/
structure TokenDone (s t : State) (c x tk st : Nat) : Prop where
  waited : ∀ sd, tk ≠ 0 → (s.ctx c x).waits = .token tk sd → (s.ctx c x).state = 3 → (t.ctx c x).token tk = .free ∧
    (sd ≠ 0 → (t.ctx c x).sreg sd = st) ∧ (t.ctx c x).state = 1 ∧ (t.ctx c x).waits = .nothing
  done : tk ≠ 0 → (∀ sd, (s.ctx c x).waits ≠ .token tk sd ∨ (s.ctx c x).state ≠ 3) →
    (t.ctx c x).token tk = .done st ∧ { t.ctx c x with tokens := (s.ctx c x).tokens } = s.ctx c x
  none : tk = 0 → t = s
  others : (∀ i, i ≠ tk → (t.ctx c x).token i = (s.ctx c x).token i) ∧ (∀ d y, ctxKey d y ≠ ctxKey c x → t.ctx d y = s.ctx d y) ∧
    { t with ctxs := s.ctxs } = s

/-- A claim is settled with a status (R342): its token, if it has one, is done. -/
def ClaimDone (s t : State) (cl : Claim) (st : Nat) : Prop :=
  match cl.token with
  | some (c, x, tk) => TokenDone s t c x tk st
  | none => t = s

/-- A claim is refused (R338): counted, and settled with the status. -/
def ClaimRefused (s t : State) (cl : Claim) (st : Nat) : Prop :=
  ∃ u, OnlyRegs [Obj.claimRefusedCount cl.tenant] s u ∧
    u.reg (Obj.claimRefusedCount cl.tenant) = (s.reg (Obj.claimRefusedCount cl.tenant) + 1) % 2 ^ 32 ∧ ClaimDone u t cl st

/-- A promotion has started for a claim (R332, R333): the upper copy is allocated on its die and charged to the claimant, and a move to it
is queued at that die's engine with the claim's deadline and token. -/
structure PromotionStarted (s t : State) (key : Nat) (e : Entry) (cl : Claim) : Prop where
  copy : t.allocs = Sparse.insert s.serial
    { tier := cl.tier, die := s.upperDie cl e.bytes, bytes := 64 * e.lines, tenant := cl.tenant, place := cl.place } s.allocs
  queued : t.moves = Sparse.insert (s.serial + 1)
    { entry := key, engine := s.upperDie cl e.bytes, deadline := cl.deadline, order := s.serial + 1, flying := false,
      committed := false, tokens := cl.token.toList,
      dest := some ⟨cl.tier, s.upperDie cl e.bytes, cl.place, s.serial, cl.tenant, cl.cid⟩ } s.moves
  charged : t.reg (chargedObj cl.tier cl.tenant) = (s.reg (chargedObj cl.tier cl.tenant) + 64 * e.lines) % 2 ^ 64
  rest : RegsBut [chargedObj cl.tier cl.tenant] s t ∧ t.serial = s.serial + 2 ∧
    { t with allocs := s.allocs, moves := s.moves, serial := s.serial, regs := s.regs } = s

/-- A packet has left a package (R23, R24, R473, R477, R484, R485, R495, R497): with one more hop, by the lanes of its port; its flits wait at
their die's first link toward the port's die, or are there; they use credits of F0 or F1, and ask the port's scheduler one by one. -/
structure PacketLeft (s t : State) (die port cls : Nat) (p : Packet) : Prop where
  sent : t.out = s.out ++ [.packet port (s.flitLanes port cls p) { p with hops := p.hops + 1 }]
  credit : (t.port port).sent = (if cls = clsF0 then ((s.port port).sent.1 + flitsOf p, (s.port port).sent.2)
    else if cls = clsF1 then ((s.port port).sent.1, (s.port port).sent.2 + flitsOf p) else (s.port port).sent)
  ports : { t.port port with sent := (s.port port).sent } = s.port port ∧ ∀ q, q ≠ port → t.port q = s.port q
  here : diePath die (portDie port) = [] → t.links = s.links
  links : ∀ e path k, diePath die (portDie port) = e :: path → linkKey die e = some k →
    (t.dieLink k).waiting = (s.dieLink k).waiting ++
      (cutFlits (packetWire { p with hops := p.hops + 1 })).map fun x => ⟨cls, 0, x, 0, p.deadline, e :: path, 0, none⟩
  asks : port < 16 → ((t.fabric.asks.filter fun a => a.1 == port).map fun a => (a.2.1, a.2.2.1)) =
    ((s.fabric.asks.filter fun a => a.1 == port).map fun a => (a.2.1, a.2.2.1)) ++
      List.replicate (flitsOf p) (cls, s.askOffset p.deadline)
  rest : { t with out := s.out, ports := s.ports, links := s.links, drawn := s.drawn,
                  fabric := { t.fabric with asks := s.fabric.asks } } = s

/-- A package holds what it must of a packet that it has sent by a port (R482, R487, R489): a packet of a stream is the stream's last and not
yet acknowledged, and takes room of the port's retransmit buffer; a request takes its reply slot, a reply frees its request's buffer. -/
structure SentHeld (s t : State) (p : Packet) (port : Nat) : Prop where
  stream : sequenced p = true → t.txStream p.dest p.channel = { s.txStream p.dest p.channel with
      last := p.sequence, unacked := (s.txStream p.dest p.channel).unacked ++ [(port, p)], released := false } ∧
    t.reg (Obj.retransmitBytes port) = s.reg (Obj.retransmitBytes port) + 64 + p.payload.length
  none : sequenced p = false → t.fabric.tx = s.fabric.tx ∧ t.regs = s.regs
  slots : t.fabric.replySlots = if p.ptype = ptRequest then s.fabric.replySlots ++ [(p.replySlot, p.dest)] else s.fabric.replySlots
  requests : t.fabric.requests = if p.ptype = ptReply then
      s.fabric.requests.filter fun q => !(q.source == p.dest && q.replySlot == p.replySlot)
    else s.fabric.requests
  rest : RegsBut [Obj.retransmitBytes port] s t ∧ { t with
    regs := s.regs
    fabric := { t.fabric with tx := s.fabric.tx, replySlots := s.fabric.replySlots, requests := s.fabric.requests } } = s

/-- Tokens of a collective instance's contributors are done with a status, one after another (R514, R376). -/
def TokensEnd (tk st : Nat) : List Contrib → State → State → Prop
  | [], s, t => t = s
  | p :: ps, s, t => ∃ u, TokenDone s u p.core p.ctx tk st ∧ TokensEnd tk st ps u t

/-- An instance has ended with a status (R514, R523, R543): its contributors' tokens are done; it is open no more and is known as closed;
the runs that waited for it are gone. -/
def InstEnded (s t : State) (i : Inst) (st : Nat) : Prop :=
  ∃ u, TokensEnd i.token st i.contribs s u ∧ t = { u with colls := { u.colls with
    insts := u.colls.insts.filter fun j => !j.same i
    closed := u.colls.closed ++ [(i.n, i.plan, i.step, i.inst)]
    waiting := u.colls.waiting.filter fun r =>
      !(r.tenant == i.n && r.plan == i.plan && r.inst == i.inst && r.step % 64 == i.step % 64) } }

/-- An instance has failed against a peer (R537, R543): it ends with status 16, one failure counted for each token, and with its event. -/
def InstFailed (s t : State) (i : Inst) (peer : Nat) : Prop :=
  ∃ u v, InstEnded s u i 16 ∧ OnlyRegs [Obj.instanceFailCount i.n] u v ∧
    (i.contribs ≠ [] → v.reg (Obj.instanceFailCount i.n) = (u.reg (Obj.instanceFailCount i.n) + i.contribs.length) % 2 ^ 32) ∧
    t = v.collEvent i 5 peer

/-- Instances are withdrawn by a held member, one after another (R537): a last beacon to the ring neighbours, the work area freed, the
event, and the failure. -/
def Withdrawn : List Inst → State → State → Prop
  | [], s, t => t = s
  | i :: is, s, t => ∃ u, InstFailed (State.collEvent { s with
      out := s.out ++ i.neighbours.map fun p => .withdrawal p i.plan i.inst
      colls := { s.colls with areas := Sparse.erase (i.n * 1024 + i.plan) s.colls.areas } } i 6 0xFFFF) u i 0xFFFF ∧ Withdrawn is u t

/-- Instances fail because a member withdrew, one after another (R537). -/
def PeerWithdrew (chip : Nat) : List Inst → State → State → Prop
  | [], s, t => t = s
  | i :: is, s, t => ∃ u, InstFailed (s.collEvent i 6 chip) u i chip ∧ PeerWithdrew chip is u t

/-- Nothing is left to do for an instance (R518, R525, R527): no chunk of it is marked, none leaves the rings now, and it is not whole or its
result is held. -/
def InstSettled (s : State) (i : Inst) : Prop :=
  i.marked = [] ∧ (∀ c, c < i.chunkCount → i.complete c = true → c ∈ i.leftRing) ∧ (i.whole = false ∨ s.resultHeld i = true)

/-- One tenant has changed to what is said; no other, and nothing else (R361). -/
def TenantSet (s t : State) (n : Nat) (v : Tenant) : Prop :=
  t.tenant n = v ∧ (∀ k, k ≠ n → t.tenant k = s.tenant k) ∧ { t with tenants := s.tenants } = s

/-- Ledger messages of a tenant have been sent (R574): each goes out now, and again until its receiver acknowledges it. -/
structure LedgerSent (s t : State) (n : Nat) (ms : List (Nat × LedgerMsg)) : Prop where
  tenant : t.tenant n = { s.tenant n with unacked := (s.tenant n).unacked ++ ms }
  others : ∀ k, k ≠ n → t.tenant k = s.tenant k
  out : t.out = s.out ++ ms.map fun m => .ledger m.1 m.2
  rest : { t with tenants := s.tenants, out := s.out } = s

/-- A ledger message that is new has been taken (R574): it is acknowledged, and remembered beside those of the last steps. -/
structure LedgerTaken (s t : State) (n : Nat) (m : LedgerMsg) : Prop where
  tenant : t.tenant n = { s.tenant n with
    seenMsgs := [msgIdent m] ++ (s.tenant n).seenMsgs.filter fun i => decide (s.reg (Obj.committedStep n) < i.2.1 + 4) }
  others : ∀ k, k ≠ n → t.tenant k = s.tenant k
  out : t.out = s.out ++ [.ledger m.sender { m with kind := 4, sender := s.chip }]
  rest : { t with tenants := s.tenants, out := s.out } = s

/-- A message for every child of this package in the vote tree (R572). -/
def State.toChildren (s : State) (n : Nat) (m : LedgerMsg) : List (Nat × LedgerMsg) :=
  (s.childChips n).map fun c => (c, { m with sender := s.chip })

/-- A commit is scheduled here (R579, R580): the decision is kept, it goes to the children, and at its gate the step commits. -/
def CommitTaken (s t : State) (n : Nat) (m : LedgerMsg) : Prop :=
  ∃ u v, TenantSet s u n { s.tenant n with
      decisions := (s.tenant n).decisions ++ [⟨m.step, m.attempt, true, m.commitGate / 1024, if m.hasProposal then some m.proposal else none⟩] } ∧
    LedgerSent u v n (s.toChildren n m) ∧ t.time.events = v.time.events ++
      [⟨m.commitGate / 1024, .commit n m.step m.attempt (if m.hasProposal then m.proposal + 1 else 0) m.commitApplied⟩] ∧
    { t with time := { t.time with events := v.time.events } } = v

/-- An abort is taken here (R581): the decision is kept, it goes to the children, and every open step from it on ends. -/
def AbortTaken (s t : State) (n : Nat) (m : LedgerMsg) : Prop :=
  ∃ u v, TenantSet s u n { s.tenant n with decisions := (s.tenant n).decisions ++ [⟨m.step, m.attempt, false, 0, none⟩] } ∧
    LedgerSent u v n (s.toChildren n m) ∧ t = v.abortFrom n m.step m.causes

/-- The state of a port as its lanes are (R447, R450): in service with a lane in service; off with its lasers off; degraded when it was in
service; else in quarantine or coming up as its lanes are. -/
def State.portNow (s : State) (p : Nat) : Nat :=
  let has := fun (st : Nat) => (List.range 8).any fun l => s.lane p l == st
  if (List.range 8).any (s.laneUp p) then 2
  else if (List.range 8).all (fun l => s.lane p l == lnOff) then 0
  else if s.reg (Obj.portState p) = 2 ∨ s.reg (Obj.portState p) = 4 then 4
  else if has lnQuarantine then 3 else if has lnUp then 1 else 0

/-- A port's state and rate are those of its lanes (R434, R448, R450): two sixteenths for a lane in service in 16-QAM, one in 4-QAM; a port
that loses its last lane is an uncorrected-contained fault of cause 15 against its receive path. -/
def PortSettled (s t : State) (p : Nat) : Prop :=
  ∃ u, OnlyRegs [Obj.portRate16ths p, Obj.portState p] s u ∧ u.reg (Obj.portState p) = s.portNow p ∧
    u.reg (Obj.portRate16ths p) = (((List.range 8).filter (s.laneUp p)).map fun l =>
      if s.reg (Obj.laneModulation p (s.carrier p l)) = 1 then 1 else 2).sum ∧
    t = if s.portNow p = 4 ∧ s.reg (Obj.portState p) = 2 then
        u.report { blockReport 2 15 (rxPathId p) with injected := (List.range 9).any (s.faded p) } else u

/-- One port has changed to what is said; no other, and nothing else. -/
def PortSet (s t : State) (p : Nat) (v : Port) : Prop :=
  t.port p = v ∧ (∀ q, q ≠ p → t.port q = s.port q) ∧ { t with ports := s.ports } = s

/-- One laser of a port has changed to what is said; no other, and nothing else. -/
def LaserSet (s t : State) (p l : Nat) (v : Laser) : Prop :=
  t.laser p l = v ∧ (∀ q m, laserKey q m ≠ laserKey p l → t.laser q m = s.laser q m) ∧ { t with lasers := s.lasers } = s

/-- A counter of w bits has counted one, and nothing else has changed. -/
def Counted (w k : Nat) (s t : State) : Prop := OnlyRegs [k] s t ∧ t.reg k = (s.reg k + 1) % 2 ^ w

/-- Messages have left the package in this order, and nothing else has changed. -/
def Emitted (ms : List Msg) (s t : State) : Prop := t = { s with out := s.out ++ ms }

/-- What one base lane's watcher knows has changed to what is said; no other, and nothing else. -/
def WatchSet (s t : State) (l : Nat) (w : Watch) : Prop :=
  t.watch l = w ∧ (∀ k, k ≠ l → t.watch k = s.watch k) ∧ { t with watches := s.watches } = s

/-- A sign of life of a chip has been heard on a base lane (R590): a suspicion of the lane is cleared, counted, and raised as event 6. -/
def SignOfLife (s t : State) (l chip : Nat) : Prop :=
  ((s.watch l).suspect = false → t = s) ∧
  ((s.watch l).suspect = true → ∃ u v, WatchSet s u l { s.watch l with suspect := false } ∧ Counted 32 Obj.suspectClearedCount u v ∧
    t = v.memberEvent 6 chip)

/-- A chip's life has changed (R593): the table holds it, the epoch is the sum of all lives, and the packets that were held for a later
epoch are judged again (R475). -/
def LifeChanged (s t : State) (chip v : Nat) : Prop :=
  ∃ u, u.lifeOf chip = v % 2 ^ 16 ∧ (∀ c, c ≠ chip → u.lifeOf c = s.lifeOf c) ∧
    u.reg Obj.membershipEpoch = ((u.life.map (·.2)).sum) % 2 ^ 32 ∧
    OnlyRegs [Obj.membershipEpoch] { s with life := u.life, generations := u.generations } u ∧ t = u.releaseHeld

/-- A change of a life has been made here and sent on every base lane (R594). -/
def LifeSpread (s t : State) (chip v : Nat) : Prop :=
  ∃ u, LifeChanged s u chip v ∧ Emitted (u.baseLanes.map fun i => .lifeChange i chip v) u t

/-- A tenant's live set has lost a chip, if it held it (R566, R595): what waited for the chip's acknowledgement is forgotten, and the job epoch
advances. -/
def MemberLost (s t : State) (n chip : Nat) : Prop :=
  (chip ∉ (s.tenant n).live → t = s) ∧
  (chip ∈ (s.tenant n).live → ∃ u, TenantSet s u n { s.tenant n with
      live := (s.tenant n).live.filter (fun c => c != chip), unacked := (s.tenant n).unacked.filter fun u => u.1 != chip } ∧
    t = u.jobEpochChange n (s.reg Obj.membershipEpoch))

/-- Every tenant of a list has lost a chip, one after another. -/
def MembersLost (chip : Nat) : List Nat → State → State → Prop
  | [], s, t => t = s
  | n :: ns, s, t => ∃ u, MemberLost s u n chip ∧ MembersLost chip ns u t

/-- The collective instances that wait on a chip have failed against it, one after another (R539, R595). -/
def InstsFailed (chip : Nat) : List Inst → State → State → Prop
  | [], s, t => t = s
  | i :: is, s, t => ∃ u, InstFailed s u i chip ∧ InstsFailed chip is u t

/-- This package has become cadence master (R52, R53): under a term one above the highest it has seen, with no upstream neighbour, locked to
its own cadence time, which does not step. -/
structure BecameMaster (s t : State) : Prop where
  role : t.reg Obj.cadenceRole = 1 ∧ t.reg Obj.cadenceMasterChip = s.chip ∧ t.reg Obj.upstreamPort = 0xFF
  state : t.reg Obj.cadenceState = cadLocked
  term : t.reg Obj.cadenceTerm = (s.time.seenTerm + 1) % 2 ^ 32 ∧ t.time.seenTerm = (s.time.seenTerm + 1) % 2 ^ 32
  time : { t.time with seenTerm := s.time.seenTerm, inBand := s.time.inBand, rest := s.time.rest } = s.time
  rest : OnlyRegs [Obj.cadenceRole, Obj.cadenceTerm, Obj.cadenceMasterChip, Obj.upstreamPort, Obj.cadenceState]
    { s with time := t.time } t

/-- A mirror entry of the table has changed to what is said (R600); no other entry, and no other field of any tenant. -/
def MirrorSet (s t : State) (n i : Nat) (m : Mirror) : Prop :=
  t.tenant n = { s.tenant n with mirrors := (s.tenant n).mirrors.set i m } ∧ (∀ k, k ≠ n → t.tenant k = s.tenant k) ∧
  { t with tenants := s.tenants, generations := s.generations } = s

/-- A population of a tenant ends when no entry of its table is populating (R604). -/
def PopulationSettled (s t : State) (n : Nat) : Prop :=
  TenantSet s t n { s.tenant n with populating := (s.tenant n).populating && (s.tenant n).mirrors.any fun m => m.state == 2 }

/-- An entry's bytes have been sent to its buddy again, and counted (R604). -/
def ShardCopied (s t : State) (n i : Nat) (m : Mirror) : Prop :=
  ∃ u v, MirrorSet s u n i m ∧ Emitted [.mirrorCopy m.buddy m.buddyBase (s.shardBytes n m.localBase)] u v ∧
    OnlyRegs [Obj.populateBytes n] v t ∧
    t.reg (Obj.populateBytes n) = (s.reg (Obj.populateBytes n) + (s.shardBytes n m.localBase).length) % 2 ^ 64

/-- The mirror entries of a list that satisfy a test are copied to their buddies, one after another: each is populating (R604). -/
def ShardsCopied (n : Nat) : List (Nat × Mirror) → State → State → Prop
  | [], s, t => t = s
  | p :: ps, s, t =>
    if p.2.role = 1 ∧ p.2.state = 1 then
      ∃ u, ShardCopied s u n p.1 { p.2 with state := 2, retried := false } ∧ ShardsCopied n ps u t
    else ShardsCopied n ps s t

/-- The digests of the live pairs of a list are sent to their buddies, one after another, and each entry is being verified (R605). -/
def DigestsSent (n : Nat) : List (Nat × Mirror) → State → State → Prop
  | [], s, t => t = s
  | p :: ps, s, t =>
    if p.2.role ≤ 2 ∧ p.2.state = 3 then
      ∃ u v, MirrorSet s u n p.1 { p.2 with verifying := true } ∧
        Emitted [.mirrorDigest p.2.buddy p.2.buddyBase (sha256 (s.shardBytes n p.2.localBase))] u v ∧ DigestsSent n ps v t
    else DigestsSent n ps s t

/-- A digest differs from the buddy's (R604, R605, R611): counted, with event 15; an entry that is populating for the first time is copied
once more, any other is broken, with event 16. -/
def DigestDiffers (s t : State) (n i : Nat) (m : Mirror) : Prop :=
  ∃ u, Counted 32 (Obj.digestMismatchCount n) s u ∧
    (m.state = 2 → m.retried = false → ShardCopied (u.mirrorEvent n 15 m.buddy m.localBase) t n i { m with retried := true }) ∧
    (m.state ≠ 2 ∨ m.retried = true → ∃ v, MirrorSet (u.mirrorEvent n 15 m.buddy m.localBase) v n i
        { m with state := 6, verifying := false } ∧ t = v.mirrorEvent n 16 m.buddy m.localBase)

/-- The contexts of a list that run work on a core stop there with a status, one after another. -/
def CtxsStopped (c st : Nat) : List Nat → State → State → Prop
  | [], s, t => t = s
  | x :: xs, s, t =>
    if (s.ctxWork c x).isSome = true then ∃ u, CtxStopped s u c x st ∧ CtxsStopped c st xs u t else CtxsStopped c st xs s t

/-- A core has left service (R618): it is given no placement, and the work that runs on its contexts stops with status 1. -/
def CoreRetired (c : Nat) (s t : State) : Prop :=
  ∃ u, u.core c = { s.core c with outOfService := true } ∧ (∀ d, d ≠ c → u.core d = s.core d) ∧ { u with cores := s.cores } = s ∧
    CtxsStopped c 1 (List.range 4) u t

/-- Cores have left service, one after another (R617, R618). -/
def CoresRetired : List Nat → State → State → Prop
  | [], s, t => t = s
  | c :: cs, s, t => ∃ u, CoreRetired c s u ∧ CoresRetired cs u t

/-- Mirror events of the entries of a fenced buddy, one after another (R606, R608, R611): 12 of an entry that was live; 13 of a mirror entry
whose primary has no live mirror here, its shard lost. -/
def Mourned (n chip : Nat) (all : List Mirror) : List Mirror → State → State → Prop
  | [], s, t => t = s
  | m :: ms, s, t =>
    if m.state = 3 then Mourned n chip all ms (s.mirrorEvent n 12 chip m.localBase) t
    else if m.role = 2 ∧ ∀ k ∈ all, ¬ (k.role = 2 ∧ k.buddy = chip ∧ k.buddyBase = m.buddyBase ∧ k.state = 3) then
      Mourned n chip all ms (s.mirrorEvent n 13 chip m.localBase) t
    else Mourned n chip all ms s t

/-- A tenant's mirror entries paired with a fenced chip are orphaned (R606): state 4 after live, 5 before; a population of them ends. -/
def MirrorsOrphaned (s t : State) (n chip : Nat) : Prop :=
  let hit := (s.tenant n).mirrors.filter fun m => m.buddy == chip && (decide (1 ≤ m.state) && decide (m.state ≤ 3))
  let new := (s.tenant n).mirrors.map fun m =>
    if m.buddy = chip ∧ 1 ≤ m.state ∧ m.state ≤ 3 then { m with state := if m.state = 3 then 4 else 5 } else m
  (hit = [] → t = s) ∧
  (hit ≠ [] → ∃ u, u.tenant n = { s.tenant n with
      mirrors := new, populating := (s.tenant n).populating && new.any fun m => m.state == 2 } ∧
    (∀ k, k ≠ n → u.tenant k = s.tenant k) ∧ { u with tenants := s.tenants, generations := s.generations } = s ∧
    Mourned n chip (s.tenant n).mirrors hit u t)

/-- Every tenant of a list has orphaned its mirrors of a chip, one after another. -/
def AllOrphaned (chip : Nat) : List Nat → State → State → Prop
  | [], s, t => t = s
  | n :: ns, s, t => ∃ u, MirrorsOrphaned s u n chip ∧ AllOrphaned chip ns u t

/-- A chip is in the avoided list (R479): it stands there already, or enters with the epoch of this moment while the list has room. -/
def Avoided (s t : State) (chip : Nat) : Prop :=
  (((∃ e, (chip, e) ∈ s.fabric.avoided) ∨ 256 ≤ s.fabric.avoided.length) → t = s) ∧
  ((∀ e, (chip, e) ∉ s.fabric.avoided) → s.fabric.avoided.length < 256 → t = { s with
    fabric := { s.fabric with avoided := s.fabric.avoided ++ [(chip, s.reg Obj.membershipEpoch)] } })

/-- What a fence of another chip brings about here (R595): it is avoided; every tenant's live set loses it; the collective instances that wait on it
fail; mirrors paired with it are orphaned; and the lowest live package of the base drawing becomes cadence master in its place (R53). -/
def PeerFenced (s t : State) (chip : Nat) : Prop :=
  ∃ a b c d, Avoided s a chip ∧ MembersLost chip (List.range 16) a b ∧
    InstsFailed chip (b.colls.insts.filter fun i => i.members.contains chip) b c ∧ AllOrphaned chip (List.range 16) c d ∧
    ((d.reg Obj.cadenceMasterChip = chip ∧ d.time.seenTerm ≠ 0 ∧ d.lowestLive = some d.chip) → BecameMaster d t) ∧
    (¬ (d.reg Obj.cadenceMasterChip = chip ∧ d.time.seenTerm ≠ 0 ∧ d.lowestLive = some d.chip) → t = d)

/-- This package has found its own life odd (R596): its open steps end, its work completes with status 2, it is FENCED, with event 4. -/
def SelfFenced (s t : State) : Prop :=
  (s.isUp = false → t = s) ∧
  (s.isUp = true → ∃ u v, WorksEnd (fun _ => true) 2 true
      (s.notFree.foldl (fun t n => if (t.tenant n).steps = [] then t else t.abortFrom n (t.oldestStep n) 8) s).works
      (s.notFree.foldl (fun t n => if (t.tenant n).steps = [] then t else t.abortFrom n (t.oldestStep n) 8) s) u ∧
    OnlyRegs [Obj.deviceState] u v ∧ v.reg Obj.deviceState = devFenced ∧ t = v.memberEvent 4 s.chip)

/-- A chip is fenced as a verdict of this package (R593 to R595, R611): an even life becomes odd, the change is sent, the event is raised,
and the fence takes effect here; an odd life changes nothing. -/
def Fenced (s t : State) (chip event : Nat) : Prop :=
  (s.fenced chip = true → t = s) ∧
  (s.fenced chip = false → ∃ u, LifeSpread s u chip (s.lifeOf chip + 1) ∧
    (chip = u.chip → SelfFenced (u.memberEvent event chip) t) ∧
    (chip ≠ u.chip → PeerFenced (u.memberEvent event chip) t chip))

/-- A larger life of a chip has been adopted (R594 to R597, R611): it is kept and sent on; a fence takes effect, with event 1 for another
package; a rejoin is event 5 and the chip is no longer avoided; one that was fenced and rejoined unseen has left every live set. -/
def LifeAdopted (s t : State) (chip v : Nat) : Prop :=
  (v ≤ s.lifeOf chip → t = s) ∧
  (s.lifeOf chip < v → ∃ u, LifeSpread s u chip v ∧
    (v % 2 = 1 → s.fenced chip = true → t = u) ∧
    (v % 2 = 1 → s.fenced chip = false → chip = u.chip → SelfFenced u t) ∧
    (v % 2 = 1 → s.fenced chip = false → chip ≠ u.chip → PeerFenced (u.memberEvent 1 chip) t chip) ∧
    (v % 2 = 0 → ∃ w, w = { u.memberEvent 5 chip with fabric := { (u.memberEvent 5 chip).fabric with
        avoided := (u.memberEvent 5 chip).fabric.avoided.filter fun a => a.1 != chip } } ∧
      (s.fenced chip = true → t = w) ∧ (s.fenced chip = false → MembersLost chip (List.range 16) w t)))

/-- Changes of lives are merged, one after another (R594). -/
def LivesMerged : List (Nat × Nat) → State → State → Prop
  | [], s, t => t = s
  | c :: cs, s, t => ∃ u, LifeAdopted s u c.1 c.2 ∧ LivesMerged cs u t

/-- A fault has been reported (R613, R619 to R622, R626): its block's line is latched in the die's status word and its class in the package's;
the collectors of its cluster, its die and the package take the record; its class is counted at the die; a contained fault of a step's work
vetoes the step. No byte of memory, no context and no core changes. -/
structure Reported (s t : State) (r : FaultRep) : Prop where
  die : t.latch (Obj.dieStatus (unitDie r.reporter) (unitGroup r.reporter)) =
    ⟨(s.latch (Obj.dieStatus (unitDie r.reporter) (unitGroup r.reporter))).word ||| 2 ^ unitUnit r.reporter,
     bumpEvents (s.latch (Obj.dieStatus (unitDie r.reporter) (unitGroup r.reporter))).count⟩
  package : t.latch Obj.packageStatus = ⟨(s.latch Obj.packageStatus).word |||
      2 ^ (unitDie r.reporter + (if r.cls = 1 then 0 else if r.cls = 2 then 16 else 32)), bumpEvents (s.latch Obj.packageStatus).count⟩
  cluster : ∀ k, clusterCaptureOf r.reporter = some k → t.capture k = (s.capture k).take (s.recordOf r)
  captured : t.capture (Obj.dieCapture (unitDie r.reporter)) = (s.capture (Obj.dieCapture (unitDie r.reporter))).take (s.recordOf r) ∧
    t.capture Obj.packageCapture = (s.capture Obj.packageCapture).take (s.recordOf r)
  corrected : r.cls = 1 → t.reg (Obj.correctedCount (unitDie r.reporter)) =
    (s.reg (Obj.correctedCount (unitDie r.reporter)) + 1) % 2 ^ 64 ∧ t.dev.faultLog = s.dev.faultLog
  contained : r.cls = 2 → t.reg (Obj.containedCount (unitDie r.reporter)) = (s.reg (Obj.containedCount (unitDie r.reporter)) + 1) % 2 ^ 64
  fatal : r.cls = 3 → t.reg (Obj.fatalCount (unitDie r.reporter)) = (s.reg (Obj.fatalCount (unitDie r.reporter)) + 1) % 2 ^ 32
  veto : ∀ n x k, r.work = some (n, x, k) → r.cls = 2 → k ≠ 0 →
    TenantSet { s with tenants := s.tenants } { s with tenants := t.tenants } n { s.tenant n with
      steps := (s.tenant n).steps.map fun p => if p.step = k then { p with faulted := true } else p }
  rest : { t with out := s.out, eth := s.eth, sessions := s.sessions, captures := s.captures, latches := s.latches, dev := s.dev,
                  tenants := s.tenants, generations := s.generations, regs := s.regs } = s

/-- A fault has been reported, and a fatal one has brought about an orderly stop with cause 4 (R613). -/
def ReportEnds (s t : State) (r : FaultRep) : Prop :=
  (r.cls ≠ 3 → Reported s t r) ∧ (r.cls = 3 → ∃ u, Reported s u r ∧ t = u.orderlyStop 4)

/-- A mirror entry and its buddy's match (R601): their roles pair, size, versioned flag, version reserve and tensor id are equal, and a mirror
has its home in Deep. -/
def PairSound (s : State) (n : Nat) (m : Mirror) (e : Entry) (a : PairAsk) : Prop :=
  ((m.role = 1 ∧ a.role = 2) ∨ (m.role = 2 ∧ a.role = 1) ∨ (m.role = 3 ∧ a.role = 4) ∨ (m.role = 4 ∧ a.role = 3)) ∧
  a.lines = e.lines ∧ a.versioned = e.versioned ∧ a.reserve = s.reg (Obj.versionReserve n) ∧ a.tensorId = m.tensorId ∧
  (m.role = 2 → e.homeTier = tierDeep) ∧ (a.role = 2 → a.tier = tierDeep)

/-- A session has one more violation, and nothing else has changed (R650); one that is not open changes nothing. -/
def Violated (s t : State) (sess : Nat) : Prop :=
  (s.session? sess = none → t = s) ∧
  ∀ x, s.session? sess = some x → t.session? sess = some { x with violations := x.violations + 1 } ∧
    (∀ j, j ≠ sess → t.session? j = s.session? j) ∧ { t with sessions := s.sessions } = s

/-- One session's record has changed to what is said; no other, and nothing else. -/
def SessionSet (s t : State) (x : Session) : Prop :=
  t.session? x.id = some x ∧ (∀ j, j ≠ x.id → t.session? j = s.session? j) ∧ { t with sessions := s.sessions } = s

/-- A session as it is after a message of a sequence (R663): the highest sequence, those of its window, and where it came from. -/
def Session.heard (x : Session) (e : Envelope) (now : Nat) : Session :=
  { x with highest := max x.highest e.sequence, lastHeard := now, net := e.net, peer := e.peer,
           seen := (e.sequence :: x.seen).filter fun q => decide (max x.highest e.sequence < q + 1024) }

/-- A message of an open session verifies under its key, and its sequence is new in the window (R662, R663): the session is then as
`x`. -/
def Authentic (s : State) (e : Envelope) (message : List Byte) (x : Session) : Prop :=
  s.gdpUp = true ∧ ∃ y, s.session? e.session = some y ∧
    e.tag = hmac y.key (message ++ toBytes 8 e.sequence ++ toBytes 8 0) ∧ y.highest < e.sequence + 1024 ∧ e.sequence ∉ y.seen ∧
    x = y.heard e s.up

/-- A request of GDP version 1 is authentic (R653, R663): its kind, its flags, its item count and its body, under the session's id. -/
def Requested (s : State) (e : Envelope) (kind flags items : Nat) (body : List Byte) (x : Session) : Prop :=
  e.version = 1 ∧ Authentic s e (gdpMessage 1 kind flags 0 e.session e.requestId items body) x

/-- A request has been answered (R652 to R654, R662, R663): the reply leaves by the network of the request, to its sender, under the session's
next sequence and tag, and is kept for the request's sequence among the 64 most recent. A session that has ended meanwhile signs nothing. -/
def Answered (s t : State) (e : Envelope) (kind items status : Nat) (body : List Byte) : Prop :=
  (s.session? e.session = none → t = s.sendControl e.net e.peer (.reply e.session e.requestId kind items status body)) ∧
  ∀ x, s.session? e.session = some x →
    (let m : Msg := .signed x.nextSend (hmac x.key (gdpMessage 1 (kind + 128) 1 status e.session e.requestId items body ++
       toBytes 8 x.nextSend ++ toBytes 8 0)) (.reply e.session e.requestId kind items status body)
     ∃ u, SessionSet s u { x with replies := ((e.sequence, m) :: x.replies).take 64, nextSend := x.nextSend + 1 } ∧
      t = u.sendControl e.net e.peer m)

/-- The items of a request are carried out in order, each on its own, and their results stand in the same order (R654, R665). -/
def ItemsRun {α : Type} (one : State → α → List Byte → State → Prop) : List α → State → List Byte → State → Prop
  | [], s, b, t => b = [] ∧ t = s
  | i :: is, s, b, t => ∃ c d u, one s i c u ∧ ItemsRun one is u d t ∧ b = c ++ d

/-- A request of 1 to 64 items has been carried out and answered (R653, R654, R665, R675): a session that closed itself ends after the
reply. -/
def RequestDone {α : Type} (s t : State) (e : Envelope) (kind : Nat) (one : State → α → List Byte → State → Prop) (items : List α) : Prop :=
  ∃ b u v, ItemsRun one items s b u ∧ Answered u v e kind items.length 0 b ∧
    t = { v with sessions := v.sessions.filter fun x => !x.closing }

/-- One item of a READ (R645, R650, R654, R666): a session with the read right gets the object's value, one without it zeros of the object's
length and a violation; a long object is a form error. -/
def ItemRead (sess : Nat) (s : State) (o : ObjRef) (b : List Byte) (t : State) : Prop :=
  (∀ x r, s.session? sess = some x → objRow o = some r →
    (s.canRead x o = true → t = s ∧ b = (if segmentedOnly r (s.objValue x o).length = true then readResult o 2 r.type []
      else readResult o 0 r.type (s.objValue x o))) ∧
    (s.canRead x o = false → Violated s t sess ∧ b = readResult o 0 r.type (List.replicate r.width 0))) ∧
  (s.session? sess = none ∨ objRow o = none → Violated s t sess ∧ b = readResult o 0 0 [])

/-- One item of a READ with the describe flag (R650, R656): the object's descriptor, or zeros and a violation for a session without any right
to it. -/
def ItemDescribed (sess : Nat) (s : State) (o : ObjRef) (b : List Byte) (t : State) : Prop :=
  (∀ x r, s.session? sess = some x → objRow o = some r →
    (s.canRead x o = true ∨ s.canWrite x o = true → t = s ∧ b = readResult o 0 r.type (toBytes 1 r.type ++ toBytes 1 r.access ++
      toBytes 1 (b2n (s.canRead x o) + 2 * b2n (s.canWrite x o)) ++
      toBytes 1 (b2n (segmentedOnly r (maxLength o r)) + 2 * b2n (decide (r.slo < r.shi) || decide (r.ilo < r.ihi))) ++
      toBytes 4 (min (maxLength o r) 0xFFFFFFFF) ++ toBytes 8 (if r.width ≤ 8 then r.dflt else 0))) ∧
    (s.canRead x o = false → s.canWrite x o = false → Violated s t sess ∧ b = readResult o 0 r.type (List.replicate 16 0))) ∧
  (s.session? sess = none ∨ objRow o = none → Violated s t sess ∧ b = readResult o 0 0 (List.replicate 16 0))

/-- One item of a WRITE (R642, R650, R651, R666): without the right a violation answered with 0; a form error is status 2; else the object's
chapter decides. -/
def ItemWritten (sess : Nat) (s : State) (i : WriteItem) (b : List Byte) (t : State) : Prop :=
  (∀ x r, s.session? sess = some x → objRow i.obj = some r →
    (s.canWrite x i.obj = false → Violated s t sess ∧ b = itemResult i.obj 0) ∧
    (s.canWrite x i.obj = true → segmentedOnly r i.value.length = true ∨ formOk i.obj r i.value = false →
      t = s ∧ b = itemResult i.obj 2) ∧
    (s.canWrite x i.obj = true → segmentedOnly r i.value.length = false → formOk i.obj r i.value = true →
      ∃ st, s.writeObj x i.obj i.value = (t, st) ∧ b = itemResult i.obj st)) ∧
  (s.session? sess = none ∨ objRow i.obj = none → Violated s t sess ∧ b = itemResult i.obj 0)

/-- The item of a READ_SEG (R350, R396, R650, R654, R669 to R671): 1 to 4,096 bytes of the value from the offset on, with the value's length
and its generation; of a tensor window, bytes of the tensor space, and what they meet is counted in the session, fences at the tenant. -/
def SegmentRead (sess off len : Nat) (s : State) (o : ObjRef) (b : List Byte) (t : State) : Prop :=
  (∀ x r, s.session? sess = some x → objRow o = some r →
    (s.canRead x o = false → Violated s t sess ∧ b = readSegResult o 0 0 0 (List.replicate len 0)) ∧
    (s.canRead x o = true → len = 0 ∨ 4096 < len → t = s ∧ b = readSegResult o 2 0 0 []) ∧
    (s.canRead x o = true → 0 < len → len ≤ 4096 → ∀ n, windowOf o = some n → ∃ port u m bs,
      port < 4 ∧ ({ s with drawn := s.drawn + 1 } : State).hostRead n off (min len (2 ^ 50 - off)) (unitId 12 0 port) 7 = (bs, m, u) ∧
      b = readSegResult o 0 (2 ^ 50) 0 bs ∧ t = u.countWindow sess n m) ∧
    (s.canRead x o = true → 0 < len → len ≤ 4096 → windowOf o = none → ∃ g,
      b = readSegResult o 0 (s.objValue x o).length g (((s.objValue x o).drop off).take len) ∧
      (r.seg = false → g = 0 ∧ t = s) ∧
      (r.seg = true → o.index < 0x3030 ∨ 0x303F < o.index → g = Sparse.get 0 (objKey o) s.generations ∧ t = s) ∧
      (r.seg = true → 0x3030 ≤ o.index → o.index ≤ 0x303F → Sparse.get [] (objKey o) s.mapSeen = s.objValue x o →
        g = Sparse.get 0 (objKey o) s.generations ∧ t = s) ∧
      (r.seg = true → 0x3030 ≤ o.index → o.index ≤ 0x303F → Sparse.get [] (objKey o) s.mapSeen ≠ s.objValue x o →
        Sparse.get 0 (objKey o) t.generations = g ∧ Sparse.get [] (objKey o) t.mapSeen = s.objValue x o ∧
        { t with generations := s.generations, mapSeen := s.mapSeen, drawn := s.drawn } = s))) ∧
  (s.session? sess = none ∨ objRow o = none → Violated s t sess ∧ b = readSegResult o 0 0 0 (List.replicate len 0))

/-- The item of a WRITE_SEG outside the tensor windows (R650, R654, R667, R668): why a segment is not staged, and what staging does; the
segment that completes the transfer has it applied whole, and carries the application's status. -/
def SegmentWritten (sess : Nat) (s : State) (i : SegItem) (b : List Byte) (t : State) : Prop :=
  (∀ x r, s.session? sess = some x → objRow i.obj = some r →
    (let k := objKey i.obj
     let mine := match x.transfer k with | some q => q.total | none => 0
     (s.canWrite x i.obj = false → Violated s t sess ∧ b = segResult i.obj 0 i.data.length) ∧
     (s.canWrite x i.obj = true →
       (i.total < i.offset + i.data.length ∨ 4096 < i.data.length → t = s ∧ b = segResult i.obj 2 0) ∧
       (i.offset + i.data.length ≤ i.total → i.data.length ≤ 4096 → i.offset = 0 →
         (s.transferElsewhere sess k = true → t = s ∧ b = segResult i.obj 3 0) ∧
         (s.transferElsewhere sess k = false → maxLength i.obj r < i.total ∨ r.access = 3 → t = s ∧ b = segResult i.obj 2 0) ∧
         (s.transferElsewhere sess k = false → i.total ≤ maxLength i.obj r → r.access ≠ 3 →
           256 * 2 ^ 20 < s.stagedBytes - mine + i.total → t = s ∧ b = segResult i.obj 3 0)) ∧
       (i.offset + i.data.length ≤ i.total → i.data.length ≤ 4096 → i.offset ≠ 0 →
         (∀ q, x.transfer k = some q → q.total ≠ i.total) → t = s ∧ b = segResult i.obj 2 0) ∧
       (∀ q, s.transferFor x r i = .inr q →
         (let bytes := putBytes q.bytes i.offset i.data
          let y := { x with staged := x.staged.filter fun z => z.obj != k }
          (bytes.length ≠ q.total → b = segResult i.obj 0 bytes.length ∧ SessionSet s t
            { y with staged := y.staged ++ [{ q with bytes := bytes, heard := s.up }] }) ∧
          (bytes.length = q.total → ∃ u v, SessionSet s u y ∧
            v = (List.range q.total).map (fun j => BitVec.ofNat 8 (Sparse.get 0 j bytes - 1)) ∧
            (formOk i.obj r v = false → t = u ∧ b = segResult i.obj 2 q.total) ∧
            (formOk i.obj r v = true → ∃ st, u.writeObj y i.obj v = (t, st) ∧ b = segResult i.obj st q.total))))))) ∧
  (s.session? sess = none ∨ objRow i.obj = none → Violated s t sess ∧ b = segResult i.obj 0 i.data.length)

/-- The item of a CLEAR_IF (R626, R627, R643, R650): an object of another kind is a form error; a flag, a status word or a capture record is
cleared when its count is still the one named; the count that then stands is answered. -/
def ItemCleared (sess k : Nat) (s : State) (o : ObjRef) (b : List Byte) (t : State) : Prop :=
  (∀ x r, s.session? sess = some x → objRow o = some r →
    (s.canWrite x o = false → Violated s t sess ∧ b = clearResult o 0 0) ∧
    (s.canWrite x o = true → r.access ≠ 3 → t = s ∧ b = clearResult o 2 0) ∧
    (s.canWrite x o = true → r.access = 3 → ∃ c, s.clearObj o k = (c, t) ∧ b = clearResult o 0 c)) ∧
  (s.session? sess = none ∨ objRow o = none → Violated s t sess ∧ b = clearResult o 0 0)

/-- A message of a session has been sent with its trailer (R662, R663): the Z8's sequence of the session moves on by one. -/
def SessionSent (s t : State) (id net peer : Nat) (m : Msg) : Prop :=
  (s.session? id = none → t = s.sendControl net peer m) ∧
  ∀ x, s.session? id = some x → ∃ u, SessionSet s u { x with nextSend := x.nextSend + 1 } ∧ t = u.sendControl net peer
    (.signed x.nextSend (hmac x.key (msgBytes m ++ toBytes 8 x.nextSend ++ toBytes 8 0)) m)

/-- Notices of a session have been sent to a peer on a network, one after another (R673). -/
def NoticesSent (id net peer : Nat) : List Notice → State → State → Prop
  | [], s, t => t = s
  | n :: ns, s, t => ∃ u, SessionSent s u id net peer (.notice id n.sequence n.obj n.loss n.value) ∧ NoticesSent id net peer ns u t

/-- Notices in flight have been sent again, one after another (R673): one that has waited for 50 ms goes to the other network as well. -/
def NoticesResent (x : Session) (now : Nat) : List Notice → State → State → Prop
  | [], s, t => t = s
  | n :: ns, s, t => ∃ u v, SessionSent s u x.id x.net x.peer (.notice x.id n.sequence n.obj n.loss n.value) ∧
    (now < n.sentAt + 50000000 → v = u) ∧
    (n.sentAt + 50000000 ≤ now → SessionSent u v x.id (1 - x.net) x.peer (.notice x.id n.sequence n.obj n.loss n.value)) ∧
    NoticesResent x now ns v t

/-- A session's record has become `x`, and notices of its queue have gone out while fewer than eight are in flight (R673). -/
def Pumped (s t : State) (x : Session) : Prop :=
  let new := ((x.queue.drop x.inflight).take (8 - x.inflight)).map fun n => { n with sentAt := s.up }
  ∃ u, SessionSet s u { x with
      inflight := x.inflight + new.length
      queue := x.queue.take x.inflight ++ new ++ x.queue.drop (x.inflight + new.length) } ∧
    NoticesSent x.id x.net x.peer new u t

/-- The item of a SUBSCRIBE that adds (R650, R672): without the read right a violation answered with 0; a tensor window is refused; of each
object once, and at most 256; the value that stands is the one changes are told from. -/
def ItemSubscribed (sess : Nat) (s : State) (o : ObjRef) (b : List Byte) (t : State) : Prop :=
  (∀ x, s.session? sess = some x →
    (s.canRead x o = false → Violated s t sess ∧ b = itemResult o 0) ∧
    (s.canRead x o = true → windowOf o ≠ none → t = s ∧ b = itemResult o 2) ∧
    (s.canRead x o = true → windowOf o = none →
      ((∃ v, (objKey o, v) ∈ x.subs) → t = s ∧ b = itemResult o 0) ∧
      ((∀ v, (objKey o, v) ∉ x.subs) → 256 ≤ x.subs.length → t = s ∧ b = itemResult o 1) ∧
      ((∀ v, (objKey o, v) ∉ x.subs) → x.subs.length < 256 → b = itemResult o 0 ∧
        SessionSet s t { x with subs := x.subs ++ [(objKey o, if isEvent o then [] else s.objValue x o)] }))) ∧
  (s.session? sess = none → t = s ∧ b = itemResult o 0)

/-- The item of a SUBSCRIBE that removes (R672). -/
def ItemUnsubscribed (sess : Nat) (s : State) (o : ObjRef) (b : List Byte) (t : State) : Prop :=
  b = itemResult o 0 ∧ (s.session? sess = none → t = s) ∧
  ∀ x, s.session? sess = some x → SessionSet s t { x with subs := x.subs.filter fun q => q.1 != objKey o }

/-- The item of a SUBSCRIBE that acknowledges (R673): the notices in flight up to the sequence leave the queue, and those behind them follow. -/
def ItemAcknowledged (sess : Nat) (s : State) (sequence : Nat) (b : List Byte) (t : State) : Prop :=
  b = itemResult ⟨0, 0⟩ 0 ∧ (s.session? sess = none → t = s) ∧
  ∀ x, s.session? sess = some x →
    (let gone := ((x.queue.take x.inflight).filter fun n => decide (n.sequence ≤ sequence)).length
     Pumped s t { x with queue := x.queue.drop gone, inflight := x.inflight - gone })

/-- A subscription to a value has been served (R649, R672): nothing of an event object, without the read right, or of a value that has not
changed; else the value current now is a notice. -/
def SubServed (sess : Nat) (q : Nat × List Byte) (s t : State) : Prop :=
  let o : ObjRef := ⟨q.1 / 256, q.1 % 256⟩
  (s.session? sess = none → t = s) ∧
  ∀ x, s.session? sess = some x →
    (isEvent o = true ∨ s.canRead x o = false ∨ s.objValue x o = q.2 → t = s) ∧
    (isEvent o = false → s.canRead x o = true → s.objValue x o ≠ q.2 → Pumped s t (Session.push
      { x with subs := x.subs.map fun (p : Nat × List Byte) => if p.1 = q.1 then (p.1, s.objValue x o) else p } q.1 (s.objValue x o)))

/-- Subscriptions have been served, one after another. -/
def SubsServed (sess : Nat) : List (Nat × List Byte) → State → State → Prop
  | [], s, t => t = s
  | q :: qs, s, t => ∃ u, SubServed sess q s u ∧ SubsServed sess qs u t

/-- A message has left by an Ethernet port (R712, R713): it waits while its priority is paused there; else it leaves in a frame with its
network's VLAN id, its priority, its DSCP, and ECT(0) on RoCEv2. -/
def EthSent (s t : State) (m : EthMsg) : Prop :=
  ((m.port, m.prio) ∈ s.eth.paused → t = { s with eth := { s.eth with waiting := s.eth.waiting ++ [m] } }) ∧
  ((m.port, m.prio) ∉ s.eth.paused → Emitted [.frame m.port (s.reg (Obj.vlanId (m.port / 4))) m.prio
    (s.reg (if m.rdma then Obj.dscpRdma (m.port / 4) else Obj.dscpControl (m.port / 4))) m.rdma m.msg] s t)

/-- Messages have left, one after another. -/
def EthAllSent : List EthMsg → State → State → Prop
  | [], s, t => t = s
  | m :: ms, s, t => ∃ u, EthSent s u m ∧ EthAllSent ms u t

/-- An IP packet has been sent by a port to a peer (R710, R712): to a next hop that is resolved at once; else it waits for it, and the first
that waits has three solicitations sent. -/
def IpSent (s t : State) (port : Nat) (rdma : Bool) (peer : Nat) (m : Msg) : Prop :=
  let net := port / 4
  let hop := s.ethHop net port peer
  let e : EthMsg := { net := net, hop := hop, port := port, prio := if rdma then s.reg (Obj.pcpRdma net) else s.reg (Obj.pcpControl net),
                      rdma := rdma, msg := m }
  let ask : EthMsg := { net := net, hop := hop, port := port, prio := s.reg (Obj.pcpControl net), msg := .neighbour net hop false }
  ((net, hop) ∈ s.eth.neighbours → EthSent s t e) ∧
  ((net, hop) ∉ s.eth.neighbours → EthAllSent (if s.eth.held.any (fun h => h.net == net && h.hop == hop) then [] else [ask, ask, ask])
    { s with eth := { s.eth with held := s.eth.held ++ [e] } } t)

/-- A peer is resolved (R710): the cache of its network holds it, and at most 4,096; the packets that waited for it leave. -/
def Learned (s t : State) (net peer : Nat) : Prop :=
  EthAllSent (s.eth.held.filter fun h => h.net == net && h.hop == peer)
    { s with eth := { s.eth with
        neighbours := withNeighbour s.eth.neighbours net peer
        held := s.eth.held.filter fun h => !(h.net == net && h.hop == peer) } } t

/-- A paused priority of a port transmits again (R713): what waited leaves. -/
def Resumed (s t : State) (port prio : Nat) : Prop :=
  EthAllSent (s.eth.waiting.filter fun h => h.port == port && h.prio == prio)
    { s with eth := { s.eth with
        paused := s.eth.paused.filter fun p => !(p.1 == port && p.2 == prio)
        waiting := s.eth.waiting.filter fun h => !(h.port == port && h.prio == prio) } } t

/-- A frame on a priority has left so many bytes in its receive buffer (R713): of a priority of pfc_mask, 2.5 MiB send a pause and count it, and
less than 1.5 MiB release it. -/
def PauseJudged (s t : State) (port prio fill : Nat) : Prop :=
  (bit (s.reg (Obj.pfcMask (port / 4))) prio = false → t = s) ∧
  (bit (s.reg (Obj.pfcMask (port / 4))) prio = true →
    ((port, prio) ∉ s.eth.pausing → fill < 2621440 → t = s) ∧
    ((port, prio) ∉ s.eth.pausing → 2621440 ≤ fill → ∃ u,
      Counted 64 (Obj.pauseSent port) { s with eth := { s.eth with pausing := s.eth.pausing ++ [(port, prio)] } } u ∧
      Emitted [.pause port prio true] u t) ∧
    ((port, prio) ∈ s.eth.pausing → 1572864 ≤ fill → t = s) ∧
    ((port, prio) ∈ s.eth.pausing → fill < 1572864 → Emitted [.pause port prio false]
      { s with eth := { s.eth with pausing := s.eth.pausing.filter fun p => p != (port, prio) } } t))

/-- An echo request has been met (R709): for another address, or beyond 64 in a second of uptime, discarded and counted; else answered. -/
def EchoMet (s t : State) (port target : Nat) : Prop :=
  let sec := s.up / 1000000000
  let used := if (Sparse.get (0, 0) port s.eth.echoes).1 = sec then (Sparse.get (0, 0) port s.eth.echoes).2 else 0
  (target ∉ s.ownAddresses port ∨ 64 ≤ used → Counted 64 (Obj.discardCount port) s t) ∧
  (target ∈ s.ownAddresses port → used < 64 → EthSent
    { s with eth := { s.eth with echoes := Sparse.insert port (sec, used + 1) s.eth.echoes } } t
    { net := port / 4, hop := 0, port := port, prio := s.reg (Obj.pcpControl (port / 4)), msg := .echo port })

/-- A RoCEv2 message of a queue pair has been sent by the port it uses, to its peer (R712). -/
def RdmaSent (s t : State) (q : Nat) (m : Msg) : Prop := IpSent s t (s.qp q).port true (addrNum (s.qp q).spec.remoteAddress) m

/-- One queue pair has changed to what is said; no other, and nothing else. -/
def QpSet (s t : State) (q : Nat) (v : Qp) : Prop :=
  t.qp q = v ∧ (∀ k, k ≠ q → t.qp k = s.qp k) ∧ { t with eth := { t.eth with qps := s.eth.qps } } = s

/-- A queue pair is in error (R716, R718): it waits for no acknowledgement and holds no write. -/
def QpFailed (s t : State) (q : Nat) : Prop :=
  QpSet s t q { s.qp q with spec := { (s.qp q).spec with state := 2 }, outstanding := [], held := [], rnr := false }

/-- A request has been refused with a negative acknowledgement, after which its queue pair is in error (R716). -/
def RdmaRefused (s t : State) (q psn code : Nat) : Prop :=
  ∃ u, RdmaSent s u q (.roceNak (s.qp q).port q psn code) ∧ QpFailed u t q

/-- A key that is not one of the queue pair's tenant has been met (R702, R716): one of an earlier admission is counted at the tenant that now
holds its index. -/
def OldKeyCounted (s t : State) (rkey : Nat) : Prop :=
  (s.eth.oldKeys.find? (fun p => p.2 = rkey) = none → t = s) ∧
  ∀ p, s.eth.oldKeys.find? (fun p => p.2 = rkey) = some p → Counted 64 (Obj.accessViolationCount p.1) s t

/-- Completion pushes have been sent again, oldest first (R718). -/
def PushesSent (q : Nat) : List (Nat × Nat × Completion) → State → State → Prop
  | [], s, t => t = s
  | r :: rs, s, t => ∃ u, RdmaSent s u q (s.pushMsg q r.1 r.2.1 r.2.2) ∧ PushesSent q rs u t

/-- The retries of a queue pair on its port are used up (R718): it moves once to a valid alternate port, counted, and resends what is not
acknowledged; without one, or on it, it is in error. -/
def QpExhausted (s t : State) (q : Nat) : Prop :=
  ((s.qp q).spec.altValid = true → (s.qp q).onAlternate = false → ∃ u v,
    QpSet s u q { s.qp q with onAlternate := true, retries := 0, rnrTries := 0, rnr := false } ∧ Counted 32 Obj.pathMigrationCount u v ∧
    PushesSent q (s.qp q).outstanding v t) ∧
  ((s.qp q).spec.altValid = false ∨ (s.qp q).onAlternate = true → QpFailed s t q)

/-- A PROOF is right (R659, R660, R662): its trailer verifies under the handshake's session key, its signature over H2 under the role key, and the
key slot still opens sessions with that key. -/
def ProofRight (s : State) (e : Envelope) (flags : Nat) (sig : List Byte) (h : Handshake) : Prop :=
  e.tag = hmac h.key (gdpMessage 1 7 (flags / 2 % 128 * 2) 0 e.session e.requestId 1 (toBytes 1 3 ++ sig) ++ toBytes 8 e.sequence ++ toBytes 8 0) ∧
  ecdsaVerify h.roleKey h.transcript sig = true ∧ s.slotOpens h.keySlot h.roleKey = true

/-- The session that a handshake opens (R646, R657, R663): the role its key slot grants, and the tenant for a tenant's. -/
def Handshake.opens (h : Handshake) (k : KeySlot) (now sequence : Nat) : Session where
  id := h.id
  role := k.role
  tenant := if k.role = roleTenant then k.tenant else 0xFF
  keySlot := h.keySlot
  net := h.net
  peer := h.peer
  opened := now
  lastHeard := now
  highest := sequence
  seen := [sequence]
  key := h.key

/-- A claim may be recorded on an entry (R317, R331, R338): its tier is above the home tier, the entry is not pinned and under no
activation stack, and neither the entry's claims nor the package's are full, unless the claimant holds one there. -/
def Claimable (s : State) (e : Entry) (cl : Claim) : Prop :=
  cl.tier < e.homeTier ∧ e.pinned = false ∧ s.onStack e = false ∧
  ((e.held cl.tenant cl.cid).isSome = true ∨ (e.claims.length < 255 ∧ s.claimCount < 131072))

/-- The row instructions that read side entries, each with whether it does and the shape it asks of Y (R208, R211, R214). -/
def rowReaders : List ((Nat → Nat → RowWord → Instr) × (RowWord → Bool) × (Desc → Desc → Bool)) :=
  [(.rnormB, fun _ => true, Desc.sameShape), (.rnormP, fun _ => true, fun x y => y.isVec x.e0), (.rsmaxB, fun w => !w.psrc, Desc.sameShape)]

/-- What RNORM_F, RNORM_B and RNORM_P store, row by row, from their operands (R211): `xs` and `dys` are the rows of the two sources. -/
def normRows (t : State) (c x : Nat) (w : RowWord) (xp gp : Desc) (xs dys : List Nat) (g b : Option (List Nat)) :
    (List (List Nat) × List (Nat × Nat)) × List (List Nat) × List Nat :=
  let fwd := (xp.rowsOf xs).map (normForward w.mode w.imm (vecOr xp.e0 fOne g) (vecOr xp.e0 0 b))
  let hats := ((List.range xp.runs).zip (xp.rowsOf xs)).map fun p => normHat w.mode (t.sideEntry c x w.sbase p.1) p.2
  ((fwd.map (·.1), fwd.map (·.2)),
   ((List.range xp.runs).zip ((xp.rowsOf xs).zip (gp.rowsOf dys))).map fun p =>
     normBackward w.mode (t.sideEntry c x w.sbase p.1) (vecOr xp.e0 fOne g) p.2.1 p.2.2,
   (List.range xp.e0).map fun j =>
     fTree (column (((gp.rowsOf dys).zip hats).map fun p => (p.1.zip p.2).map fun q => fMul q.1 q.2) j))

/-- The update instructions and their kernels (R260, R279). -/
def updTable : List ((Nat → Nat → UpdWord → Instr) × UpdKind) := [(.rupdAm, .am), (.rupdMom, .mom), (.rupdSgn, .sgn)]

/-- The copies with collective and their forms (R512). -/
def copyTable : List ((Nat → Nat → CcWord → Instr) × CollForm) :=
  [(.ccAr, .allReduce), (.ccRs, .reduceScatter), (.ccAg, .allGather), (.ccA2a, .allToAll), (.ccBcast, .broadcast),
   (.ccRecv, .receive)]

/-- At most 16 handshakes and 64 sessions are open (R657, R659). -/
def SessionBounds (s : State) : Prop := s.handshakes.length ≤ 16 ∧ s.sessions.length ≤ 64

/-! Writes of the host (R650, R651) -/

/-- The object a host's write command writes, and the session that sends it: session, index, sub. The commands that carry their
object (OBJECT_WRITE, WRITE, WRITE_SEG, CLEAR_IF, DISPATCH) have no entry. -/
def writeTarget : Instr → Option (Nat × Nat × Nat)
  | .coreReset sess => some (sess, 0x1000, 4)
  | .packageReset sess => some (sess, 0x1000, 4)
  | .firmwareUpdate sess _ => some (sess, 0x1010, 1)
  | .rollbackCommit sess _ => some (sess, 0x1010, 6)
  | .ownerKeyFuse sess _ => some (sess, 0xB000, 4)
  | .keySlotWrite sess slot _ => some (sess, 0xB010, slot + 1)
  | .attestationNonce sess _ => some (sess, 0xB020, 1)
  | .cadenceRoleWrite sess _ => some (sess, 0x2000, 5)
  | .gatePeriodWrite sess _ => some (sess, 0x2001, 1)
  | .clockRequestWrite sess die _ => some (sess, 0x4000 + die, 1)
  | .envelopeCommit sess _ => some (sess, 0x2020, 9)
  | .collectiveHold sess n => some (sess, 0x6700 + n, 4)
  | .collectiveHoldEnd sess n => some (sess, 0x6700 + n, 4)
  | .qpTableWrite sess q _ => some (sess, Obj.qpTable q / 256, Obj.qpTable q % 256)
  | .drawingWrite sess slot _ => some (sess, 0x6010, slot)
  | .slalomArm sess => some (sess, 0x6021, 1)
  | .arbiterCommitNow sess => some (sess, 0x6300, 1)
  | .arbiterCommitGate sess => some (sess, 0x6300, 1)
  | .testModeWrite sess _ => some (sess, 0xC000, 1)
  | .perturbStop sess _ => some (sess, 0xC000, 3)
  | .memoryInject sess _ _ => some (sess, 0xC200, 1)
  | .sessionClose sess _ => some (sess, 0x0010, 8)
  | .lossWrite sess n _ _ => some (sess, Obj.lossWrite n / 256, 1)
  | .gradWrite sess n _ _ => some (sess, Obj.gradWrite n / 256, 6)
  | .statsReset sess n _ => some (sess, Obj.statsReset n / 256, 0x0C)
  | .stepClose sess n _ => some (sess, 0x7010 + n, 6)
  | .abortRequest sess n _ => some (sess, 0x7010 + n, 7)
  | .ledgerMembersWrite sess n _ => some (sess, 0x7010 + n, 3)
  | .tensorMapWrite sess n _ => some (sess, 0x3030 + n, 1)
  | .memberRejoin sess _ => some (sess, 0x7000, 6)
  | .fenceRequest sess _ => some (sess, 0x7000, 5)
  | .mirrorTableWrite sess n _ => some (sess, 0x7050 + n, 1)
  | .mirrorPopulate sess n _ _ => some (sess, 0x7050 + n, 2)
  | .mirrorVerify sess n _ _ => some (sess, 0x7050 + n, 3)
  | .portRemapWrite sess _ => some (sess, 0x5000, 5)
  | .chipNumberWrite sess _ => some (sess, 0x6000, 1)
  | .queueEnable sess q _ => some (sess, Obj.queueConfig q / 256, Obj.queueConfig q % 256)
  | .queueDisable sess q => some (sess, Obj.queueConfig q / 256, Obj.queueConfig q % 256)
  | .imageLoad sess n slot _ => some (sess, 0xA030 + n, slot)
  | .imageClear sess n slot _ => some (sess, 0xA050 + n, slot)
  | .tenantAdmit sess n => some (sess, 0xA010 + n, 2)
  | .tenantRelease sess n => some (sess, 0xA010 + n, 2)
  | .tenantReset sess n => some (sess, 0xA010 + n, 2)
  | _ => none

end Sys2Proof.Machine
end

