-- ==== Sys2Proof/Certificates/Slice0/Obligations.lean ====
section
/-! DEFINITION. The statements for the provers: what each family of commands does to the package's state, by the numbered rules of
spec/, and the rules that hold of the package as a whole. -/

open Sys2Proof Sys2Proof.Machine

/-- The beat frames a package sends at a beat (R45, R52, R56): on every base lane, once it has a term. -/
def beatFrames (s : State) : List Msg :=
  if s.time.seenTerm = 0 then []
  else s.baseLanes.map fun i => .beatFrame
    { term := s.reg Obj.cadenceTerm, master := s.reg Obj.cadenceMasterChip, cad := s.time.cad, period := s.gatePeriod,
      nextPeriod := (s.time.periods.headD (0, 0)).1, nextBeat := (s.time.periods.headD (0, 0)).2, port := basePort i }

/-- The arithmetic of R374 on 64-bit words: each instruction with what it computes of SA and the second operand. -/
def scalarTable : List ((Nat → Nat → ScalarWord → Instr) × (BitVec 64 → BitVec 64 → BitVec 64)) :=
  [(.sadd, fun a b => a + b), (.ssub, fun a b => a - b), (.smul, fun a b => a * b), (.sand, fun a b => a &&& b),
   (.sor, fun a b => a ||| b), (.sxor, fun a b => a ^^^ b), (.sshl, fun a b => a <<< (b.toNat % 64)),
   (.sshr, fun a b => a >>> (b.toNat % 64)), (.ssra, fun a b => a.sshiftRight (b.toNat % 64)),
   (.sslt, fun a b => if a.slt b then 1 else 0), (.ssltu, fun a b => if a.ult b then 1 else 0)]

/-- VLAUNCH has issued its token (R376): its context goes on with the token as said; nothing else of the contexts changes but the yields
that end. -/
def Launches (s t : State) (c x : Nat) (w : ScalarWord) (v : Token) : Prop :=
  (w.token ≠ 0 → (t.ctx c x).token w.token = v) ∧ (∀ i, i ≠ w.token → (t.ctx c x).token i = (s.ctx c x).token i) ∧
  { t.ctx c x with tokens := (s.ctx c x).tokens } = { s.ctx c x with state := 2, waits := .nothing, ip := (s.ctx c x).ip + 16 } ∧
  (∀ d y, ctxKey d y ≠ ctxKey c x → t.ctx d y = (s.started c x).ctx d y)

/-- The mnemonic of each opcode of a stream, with the command that its word spells (R157, R250, R255, R340, R374, R512). -/
def scalarOpcodes : List (Nat × (Nat → Nat → ScalarWord → Instr)) :=
  [(0, .nop), (1, .wait), (2, .yield), (3, .vlaunch), (4, .endWork), (5, .publish), (8, .br), (9, .brz), (10, .brnz), (16, .sadd),
   (17, .ssub), (18, .smul), (19, .sand), (20, .sor), (21, .sxor), (22, .sshl), (23, .sshr), (24, .ssra), (25, .sslt), (26, .ssltu)]

/-- The opcodes of the mover (R250). -/
def moverOpcodes : List (Nat × (Nat → Nat → DmWord → Instr)) :=
  [(0x40, .dmCopy), (0x48, .dmXpose), (0x49, .dmKeep), (0x4A, .dmGate), (0x4B, .aspush), (0x4C, .aspop), (0x4D, .dmFold)]

/-- The opcodes of the fused forms (R157, R510). -/
def fusedOpcodes : List (Nat × (Nat → Nat → MmaWord → Instr)) :=
  [(0x88, .mmaRs), (0x89, .mmaAg), (0x8A, .mmaAr), (0x8B, .mmaA2a), (0x8C, .mmaSend)]

/-- The opcodes of the copies with collective (R512). -/
def copyOpcodes : List (Nat × (Nat → Nat → CcWord → Instr)) :=
  [(0x90, .ccAr), (0x91, .ccRs), (0x92, .ccAg), (0x93, .ccA2a), (0x94, .ccBcast), (0x95, .ccRecv)]

/-- The opcodes of the row engine (R207). -/
def rowOpcodes : List (Nat × (Nat → Nat → RowWord → Instr)) :=
  [(0x200, .rnormF), (0x201, .rnormB), (0x202, .rnormP), (0x203, .rsmaxF), (0x204, .rsmaxB)]

/-- The opcodes of the updates (R255). -/
def updOpcodes : List (Nat × (Nat → Nat → UpdWord → Instr)) := [(0x220, .rupdAm), (0x221, .rupdMom), (0x222, .rupdSgn)]

/-- A bit as a number. -/
def flagNat (b : Bool) : Nat := if b then 1 else 0

/-- The lane instructions of R202 and R203, each with what it computes from a thread's registers A, B and C. -/
def laneTable : List ((Nat → Nat → ThreadWord → Instr) × (Nat → Nat → Nat → Nat)) :=
  [(.vadd, fun a b _ => fAdd a b), (.vmul, fun a b _ => fMul a b), (.vfma, fun a b c => fFma a b c), (.vdiv, fun a b _ => fDiv a b),
   (.vsqrt, fun a _ _ => fSqrt a), (.vrcp, fun a _ _ => LaneFn.rcp.apply a), (.vrsq, fun a _ _ => LaneFn.rsq.apply a),
   (.vexp, fun a _ _ => LaneFn.exp.apply a), (.vlog, fun a _ _ => LaneFn.log.apply a), (.vexp2, fun a _ _ => LaneFn.exp2.apply a),
   (.vlog2, fun a _ _ => LaneFn.log2.apply a), (.vsin, fun a _ _ => LaneFn.sin.apply a), (.vcos, fun a _ _ => LaneFn.cos.apply a),
   (.vtanh, fun a _ _ => LaneFn.tanh.apply a), (.vsigm, fun a _ _ => LaneFn.sigm.apply a), (.verf, fun a _ _ => LaneFn.erf.apply a),
   (.vgelu, fun a _ _ => LaneFn.gelu.apply a)]

/-- A group operation that delivers `v` to D of every active thread, and leaves the rest. -/
def Delivers (s t : State) (c g : Nat) (w : ThreadWord) (v : Nat) : Prop :=
  (∀ i ∈ s.activeOf c g w, (t.thread c g i).reg (w.d % 32) = v % 2 ^ 32) ∧ LaneLeaves s t c g (w.d % 32) w ∧
  (∀ i, i < 64 → (t.thread c g i).exited = (s.thread c g i).exited) ∧ RegsBut [Obj.vectorIssueCount c] s t

/-- The row instructions. -/
def rowForms : List (Nat → Nat → RowWord → Instr) := [.rnormF, .rnormB, .rnormP, .rsmaxF, .rsmaxB]

/-- The new moments and the update of every element (R259, R260): `gs` and `vs` are the gradients and the second moments, `wp`, `hp` and
`mp` the upper parts, the hyperparameters and the first moments. -/
def updOut (t : State) (n : Nat) (w : UpdWord) (kind : UpdKind) (gs vs : List Nat) (wp hp mp : Desc × VSel) : List (Nat × Nat × Nat) :=
  let ws := (t.readF32s n wp.2 wp.1).map (·.1)
  let ms := (t.readF32s n mp.2 mp.1).map (·.1)
  (gs.zip (ws.zip (ms.zip vs))).map fun q =>
    updElem kind w.dw w.nes (hyperOf ((t.readF32s n hp.2 hp.1).map (·.1))) q.1 q.2.1 q.2.2.1 q.2.2.2

/-- An update instruction that followed `t` and has stored its moments, `a`, ends (R263, R264, R289, R350): it stores û × 2^s of every
element in F16 into U, and into the record the maximum and the saturated elements, which update_sat_count counts too; each slot takes one
report. A part of U not stored is a poisoned-operand fault. `ps` are the moments' places. -/
def UpdEnds (t a : State) (c x : Nat) (k : Work) (u : Desc × VSel) (rOff : Nat) (us : List Nat) (ms : List (Desc × Counts))
    (ps : List (Nat × VSel)) (v : State) : Prop :=
  let es := us.map (updStore (signedOf 8 (a.recField k.tenant (rOff + 4) 1)))
  let counts := es.foldl (fun r e => countElem r e.input e.cls) noCounts
  let b := a.storeRaw k.tenant u.1 u.2 (es.map (·.bits))
  let r := b.1.recordUpd k.tenant rOff us counts.saturated
  if b.2 then CtxFaulted r v c x (rowUnit c) 1
  else Stores t r v k.tenant (ps ++ u.1.offsets.map (·, u.2) ++ (List.range 64).map fun i => (rOff + i, .plain)) ∧ v.cores = t.cores ∧
    v.slots = (r.judgeAll k (rowUnit c) (ms ++ [(u.1, counts)])).slots ∧
    v.reg (Obj.rowInstructionCount c) = (t.reg (Obj.rowInstructionCount c) + 1) % 2 ^ 64 ∧
    v.reg (Obj.updateSatCount k.tenant) = (if counts.saturated = 0 then t.reg (Obj.updateSatCount k.tenant)
      else (t.reg (Obj.updateSatCount k.tenant) + counts.saturated) % 2 ^ 64) ∧
    RegsBut [Obj.scaledRangeCount c, Obj.rowInstructionCount c, Obj.updateSatCount k.tenant] t v

/-- What an RFOLD that has stored the upper parts and the extensions leaves beside memory (R221, R267, R289). -/
def FoldKept (t v : State) (c : Nat) : Prop :=
  v.cores = t.cores ∧ v.reg (Obj.rowInstructionCount c) = (t.reg (Obj.rowInstructionCount c) + 1) % 2 ^ 64 ∧
  RegsBut [Obj.rowInstructionCount c] t v

/-- The mover's instructions with a source X and a destination Y. -/
def moverForms : List (Nat → Nat → DmWord → Instr) := [.dmCopy, .dmXpose, .dmKeep, .dmGate, .dmFold]

/-- A context's activation stack has taken its top entry's bytes back into Y (R241). -/
def Restored (t v : State) (c x : Nat) (k : Work) (p : Desc × VSel) (e : StackEntry) : Prop :=
  (v.ctx c x).stack = (t.ctx c x).stack.tail ∧ { v.ctx c x with stack := (t.ctx c x).stack } = t.ctx c x ∧
  (∀ d y, ctxKey d y ≠ ctxKey c x → v.ctx d y = t.ctx d y) ∧
  v.reg (Obj.stackTop c x) = field e.header 0x28 8 ∧ RegsBut [Obj.stackTop c x] t v ∧
  v.mem = (t.restoreEntry c x k p e).mem ∧ BytesBut k.tenant (p.1.offsets.map (·, p.2) ++ p.1.scaleOffs.map (·, .plain) ++
    (if p.1.scaled then [(offOf p.1.scalePtr + 4, .plain)] else [])) t v ∧
  { v with mem := t.mem, poison := t.poison, entries := t.entries, ctxs := t.ctxs, regs := t.regs } = t

/-- The claim that a LIFT.CLAIM word makes on an entry (R330, R341): at the place and with the deadline and token it names. -/
def claimOf (u : State) (c x : Nat) (w : LiftWord) (k : Work) (e : Entry) : Claim :=
  let tier := if w.tier = 1 then 1 else 0
  let place := u.liftPlace c w tier (64 * e.lines) e.homeAt
  { tenant := k.tenant, cid := w.cid, tier := tier, die := place.1, place := place.2, age := u.serial,
    deadline := if w.deadline = 0xFFFFFF then none else some (u.time.cad / 1024 * 1024 + w.deadline),
    token := if w.token = 0 then none else some (c, x, w.token) }

/-- The tensor table's entry of an image (R367). -/
def imageEntry (n slot : Nat) (h : ImageHeader) (die a : Nat) : Entry :=
  { base := imageBase slot, lines := ceilDiv h.bytes 64, tensorId := h.imageId, tenant := n, homeTier := 1, homeDie := die,
    pinned := true, shared := false, versioned := false, place := {}, shareMask := 0, homeAlloc := a, homeAt := die, image := true }

/-- What a tenant holds of a placed image (R365, R366). -/
def imageRecord (b : List Byte) (h : ImageHeader) (key : Nat) : Image :=
  { state := 1, imageId := h.imageId, bytes := h.bytes, codeOffset := h.codeOffset, codeBytes := h.codeBytes,
    tableOffset := h.tableOffset, tableCount := h.tableCount, entries := readEntries b h, map := readMap b h, entry := key }

/-- POWER_GOOD and POWER_LOSS (R61, R68, R77, R679, R688, R691): what a power cycle keeps and what it loses.
BOOT_STAGE_COMPLETE (R682 to R685, R691): each stage in progress ends or fails as its rule says. -/
def Obligations.PowerCycleAndBootStages : Prop :=
  (∀ s : State, s.device = devOff → ∃ t, exec .powerGood s = .next t ∧ t.device = devBoot ∧ t.up = 0 ∧
    t.reg Obj.lastStopCause = s.dev.stopCauseFlash ∧
    (∀ k, k ≠ Obj.deviceState → k ≠ Obj.lastStopCause → t.reg k = if inConfigBlock k then s.reg k else regDefault k) ∧
    { t with regs := [] } =
      { dev := s.dev.persist, pending := s.pending, drawn := s.drawn, serial := s.serial, out := s.out }) ∧
  (∀ s : State, s.device ≠ devOff → exec .powerGood s = .next s) ∧
  (∀ s : State, s.device ≠ devOff → ∃ t, exec .powerLoss s = .next t ∧ t.device = devOff ∧
    t.dev = { s.dev.persist with
      flashGood := s.dev.flashGood && s.dev.writing.isNone,
      stopCauseFlash := if s.device = devHalted then s.dev.stopCauseFlash else 0 } ∧
    (∀ k, k ≠ Obj.deviceState → t.reg k = if inConfigBlock k then s.reg k else regDefault k) ∧
    { t with regs := [], dev := s.dev } =
      { dev := s.dev, pending := s.pending, drawn := s.drawn, serial := s.serial, out := s.out }) ∧
  (∀ s : State, s.device = devOff → exec .powerLoss s = .next s) ∧
  (∀ (s : State) (stage : Nat) (u : Option Nat) (cs : List Nat), s.device ≠ devBoot ∨ s.stageRuns stage = false →
    exec (.bootStageComplete stage u cs) s = .next s) ∧
  (∀ (s : State) (stage : Nat) (cs : List Nat), s.device = devBoot → s.stageRuns stage = true →
    stage ∈ [1, 3, 4, 6, 9] → exec (.bootStageComplete stage none cs) s =
      .next (if (List.range 9).all fun i => (s.dev.stages ++ [stage]).contains (i + 1) then
          ({ s with dev := { s.dev with stages := s.dev.stages ++ [stage] } }.setReg Obj.deviceState devReady).setReg
            Obj.readyUptime s.up
        else { s with dev := { s.dev with stages := s.dev.stages ++ [stage] } })) ∧
  (∀ (s : State) (u : Option Nat) (cs : List Nat), s.device = devBoot → s.stageRuns 5 = true →
    exec (.bootStageComplete 5 u cs) s =
      .next ({ s with dev := { s.dev with stages := s.dev.stages ++ [5] } }.bringUpBase.settleBoot)) ∧
  (∀ (s : State) (u : Nat) (cs : List Nat), s.device = devBoot → s.stageRuns 3 = true →
    ∃ t, exec (.bootStageComplete 3 (some u) cs) s = .next t ∧
      t.reg Obj.bootFailure = 3 + 1 * 256 + u * 65536 ∧ OnlyRegs [Obj.bootFailure] s t) ∧
  (∀ (s : State) (u : Nat) (cs : List Nat), s.device = devBoot → s.stageRuns 4 = true →
    ∃ t, exec (.bootStageComplete 4 (some u) cs) s = .next t ∧
      t.reg Obj.bootFailure = 4 + 2 * 256 + u * 65536 ∧ OnlyRegs [Obj.bootFailure] s t) ∧
  (∀ (s : State) (cs : List Nat), s.device = devBoot → s.stageRuns 2 = true → s.dev.flashGood = true →
    s.dev.checkImage s.dev.flash = 0 → ∃ t, exec (.bootStageComplete 2 none cs) s = .next t ∧
      t.dev = { s.dev with running := some s.dev.flash, stages := s.dev.stages ++ [2] }) ∧
  (∀ (s : State) (cs : List Nat), s.device = devBoot → s.stageRuns 2 = true →
    (s.dev.flashGood = false ∨ s.dev.checkImage s.dev.flash ≠ 0) →
    ∃ t, exec (.bootStageComplete 2 none cs) s = .next t ∧ t.device = devRecovery ∧
      t.reg Obj.bootFailure = 2 + 3 * 256 + 0xC000 * 65536 ∧ OnlyRegs [Obj.bootFailure, Obj.deviceState] s t) ∧
  (∀ (s : State) (u : Option Nat) (cs : List Nat), s.device = devBoot → s.stageRuns 7 = true →
    ∃ t, exec (.bootStageComplete 7 u cs) s = .next t ∧ t.dev.stages = s.dev.stages ++ [7] ∧
      ∀ c ∈ cs, (t.core c).outOfService = true) ∧
  (∀ (s : State) (u : Option Nat) (cs : List Nat), s.device = devBoot → s.stageRuns 8 = true →
    ∃ t, exec (.bootStageComplete 8 u cs) s = .next t ∧ t.dev.stages = s.dev.stages ++ [8] ∧ t.mem = [] ∧ t.poison = [])

/-- CORE_RESET and PACKAGE_RESET (R493, R592, R596, R688, R692 to R694): a core reset restarts HUB and the clusters, ends every session
and frees every tenant, and leaves the link domain (the model's choice of what that is: log entries 18, 100 and 134); a package reset
sends the departure notice, makes the package's own life odd and lets transit drain; either waits for a flash write to end; neither is
applied in another device state, nor a core reset in FENCED.
DRAIN_END (R432, R493, R681, R692): the lasers go off and the package restarts; of the registers it keeps the configuration block,
the uptime and the counters since power-on (log entry 18); its own life stays, and a laser retired until power-on stays retired. -/
def Obligations.ResetsRestartThePackage : Prop :=
  (∀ (s : State) (sess : Nat), MayWrite s sess 0x1000 4 → s.dev.resetWaiting = none → s.dev.writing = none → s.isUp = true →
    ∃ t, exec (.coreReset sess) s = .next t ∧ t.device = devBoot ∧ t.reg Obj.lastResetKind = 2 ∧
      t.reg Obj.coreResetCount = (s.reg Obj.coreResetCount + 1) % 2 ^ 32 ∧
      (∀ k, k ∉ [Obj.deviceState, Obj.lastResetKind, Obj.coreResetCount] →
        t.reg k = if coreKeeps k then s.reg k else regDefault k) ∧
      t.dev.stages = [1, 3, 4, 5, 6, 9] ∧ t.dev.flash = s.dev.flash ∧ t.dev.fuseCount = s.dev.fuseCount ∧
      t.dev.keySlots = s.dev.keySlots ∧ t.dev.running = none ∧
      t.tenants = [] ∧ t.queues = [] ∧ t.works = [] ∧ t.ctxs = [] ∧ t.threads = [] ∧ t.mem = [] ∧ t.entries = [] ∧ t.allocs = [] ∧
      t.moves = [] ∧ t.sessions = [] ∧ t.handshakes = [] ∧ t.captures = [] ∧ t.slots = [] ∧ t.poison = [] ∧
      t.life = s.life ∧ t.watches = s.watches ∧ t.lasers = s.lasers ∧ t.ports = s.ports ∧ t.heaters = s.heaters ∧
      t.links = s.links ∧ t.replays = s.replays ∧ t.time = { s.time with events := [] } ∧
      t.fabric.store = s.fabric.store ∧ t.fabric.inForce = s.fabric.inForce ∧ t.fabric.avoided = s.fabric.avoided ∧
      t.fabric.transit = s.fabric.transit ∧ t.out = s.out ∧ t.pending = s.pending) ∧
  (∀ (s : State) (sess : Nat), MayWrite s sess 0x1000 4 → s.dev.resetWaiting = none → s.dev.writing = none →
    (s.isUp = true ∨ s.device = devFenced) → s.chip < 16384 → s.fabric.held = [] →
    ∃ t, exec (.packageReset sess) s = .next t ∧ t.device = devDraining ∧ t.out = s.out ++ [.departure s.chip] ∧
      t.lifeOf s.chip = (if s.lifeOf s.chip % 2 = 0 then (s.lifeOf s.chip + 1) % 2 ^ 16 else s.lifeOf s.chip) ∧
      (∀ c, c ≠ s.chip → t.lifeOf c = s.lifeOf c) ∧ RegsBut [Obj.deviceState, Obj.membershipEpoch] s t ∧
      { t with regs := s.regs, life := s.life, out := s.out, generations := s.generations } = s) ∧
  (∀ (s : State) (sess : Nat), MayWrite s sess 0x1000 4 → s.dev.resetWaiting = none → s.dev.writing.isSome = true →
    s.isUp = true → exec (.coreReset sess) s = .next { s with dev := { s.dev with resetWaiting := some 1 } } ∧
      exec (.packageReset sess) s = .next { s with dev := { s.dev with resetWaiting := some 2 } }) ∧
  (∀ (s : State) (sess : Nat), MayWrite s sess 0x1000 4 → s.dev.resetWaiting.isSome = true →
    exec (.coreReset sess) s = .next s ∧ exec (.packageReset sess) s = .next s) ∧
  (∀ (s : State) (sess : Nat), MayWrite s sess 0x1000 4 → s.isUp = false →
    exec (.coreReset sess) s = .next s ∧ (s.device ≠ devFenced → exec (.packageReset sess) s = .next s)) ∧
  (∀ s : State, s.device = devDraining → s.chip < 16384 →
    ∃ t, exec .drainEnd s = .next t ∧ t.device = devBoot ∧ t.reg Obj.lastResetKind = 1 ∧ t.out = s.out ++ [.lasersOff] ∧
      (∀ k, inConfigBlock k = true → t.reg k = s.reg k) ∧
      t.up = s.up ∧ t.lifeOf s.chip = s.lifeOf s.chip % 2 ^ 16 ∧ t.dev = s.dev.persist ∧ t.mem = [] ∧ t.tenants = [] ∧
      t.works = [] ∧ t.sessions = [] ∧ t.cores = [] ∧ t.fabric = {} ∧ t.pending = s.pending ∧
      (∀ p l, p < 16 → l < 9 → t.laser p l = { lost := (s.laser p l).lost } ∧ ((s.laser p l).lost = true → t.lane p l = 7))) ∧
  (∀ s : State, s.device ≠ devDraining → exec .drainEnd s = .next s)

/-- FIRMWARE_UPDATE, FLASH_WRITE_COMPLETE and ROLLBACK_COMMIT (R685 to R690, R704): an image is checked before it is written, the
flash write ends well or badly, and the rollback count only rises. After a failed write the validity of the flash image is a free
value (log entry 2).
OWNER_KEY_FUSE, KEY_SLOT_WRITE and ATTESTATION_NONCE (R696 to R699): the owner key is fused once and only beside an image it
signs; a key slot from 1 to 31 takes a record; the sessions opened through a changed slot end; a nonce makes the session's report,
signed by the identity key (the number that ECDSA keeps secret is a free value, log entry 2). -/
def Obligations.FirmwareImagesAndKeys : Prop :=
  (∀ (s : State) (sess : Nat) (img : FwImage), MayWrite s sess 0x1010 1 → (s.device = devReady ∨ s.device = devRecovery) →
    s.dev.writing = none → s.dev.checkImage img = 0 → ∃ t, exec (.firmwareUpdate sess img) s = .next t ∧
      t.reg Obj.updateState = 1 ∧ t.dev = { s.dev with writing := some img } ∧ RegsBut [Obj.updateState] s t ∧
      { t with regs := s.regs, dev := s.dev } = s) ∧
  (∀ (s : State) (sess : Nat) (img : FwImage), MayWrite s sess 0x1010 1 → (s.device = devReady ∨ s.device = devRecovery) →
    s.dev.writing = none → s.dev.checkImage img ≠ 0 → ∃ t, exec (.firmwareUpdate sess img) s = .next t ∧
      t.reg Obj.updateState = s.dev.checkImage img ∧ OnlyRegs [Obj.updateState] s t) ∧
  (∀ (s : State) (sess : Nat) (img : FwImage), MayWrite s sess 0x1010 1 →
    (s.device ≠ devReady ∧ s.device ≠ devRecovery) ∨ s.dev.writing.isSome = true →
    ∃ t, exec (.firmwareUpdate sess img) s = .next t ∧ t.reg Obj.updateState = 5 ∧ OnlyRegs [Obj.updateState] s t) ∧
  (∀ (s : State) (img : FwImage), s.dev.writing = some img → s.dev.resetWaiting = none → s.device ≠ devRecovery →
    ∃ t, exec (.flashWriteComplete true) s = .next t ∧ t.reg Obj.updateState = 2 ∧ RegsBut [Obj.updateState] s t ∧
      t.dev = { s.dev with flash := img, flashGood := true, writing := none } ∧ { t with regs := s.regs, dev := s.dev } = s) ∧
  (∀ (s : State) (img : FwImage), s.dev.writing = some img → s.dev.resetWaiting = none → s.device = devRecovery →
    ∃ t, exec (.flashWriteComplete true) s = .next t ∧ t.reg Obj.updateState = 2 ∧ t.device = devBoot ∧
      RegsBut [Obj.updateState, Obj.deviceState] s t ∧
      t.dev = { s.dev with flash := img, flashGood := true, writing := none, stages := [1] } ∧
      { t with regs := s.regs, dev := s.dev } = s) ∧
  (∀ (s : State) (img : FwImage), s.dev.writing = some img → s.dev.resetWaiting = none →
    ∃ (t : State) (good : Bool), exec (.flashWriteComplete false) s = .next t ∧ t.reg Obj.updateState = 6 ∧
      RegsBut [Obj.updateState] s t ∧ t.dev = { s.dev with flashGood := good, writing := none } ∧
      { t with regs := s.regs, dev := s.dev, drawn := s.drawn } = s) ∧
  (∀ (s : State) (ok : Bool), s.dev.writing = none → exec (.flashWriteComplete ok) s = .next s) ∧
  (∀ (s : State) (sess : Nat) (i : FwImage), MayWrite s sess 0x1010 6 → s.dev.running = some i →
    exec (.rollbackCommit sess 1) s =
      .next { s with dev := { s.dev with fuseCount := max s.dev.fuseCount i.securityVersion } }) ∧
  (∀ (s : State) (sess : Nat) (hash : List Byte) (i : FwImage), MayWrite s sess 0xB000 4 → s.dev.running = some i →
    s.dev.ownerFused = false → exec (.ownerKeyFuse sess hash) s = .next (
      if imgOwnerOk i hash then { s with dev := { s.dev with ownerFused := true, ownerHash := hash },
                                         sessions := s.sessions.filter fun x => x.keySlot != 0 }
      else s)) ∧
  (∀ (s : State) (sess : Nat) (hash : List Byte), MayWrite s sess 0xB000 4 → s.dev.ownerFused = true →
    exec (.ownerKeyFuse sess hash) s = .next s) ∧
  (∀ (i : FwImage) (hash : List Byte), sha256 i.ownerKey ≠ hash → imgOwnerOk i hash = false) ∧
  (∀ s : State, s.dev.ownerFused = true → (s.keySlot 0).hash = s.dev.ownerHash) ∧
  (∀ (s : State) (sess slot : Nat) (ks : KeySlot), MayWrite s sess 0xB010 (slot + 1) → 1 ≤ slot → slot ≤ 31 → slotOk ks = true →
    s.keySlot slot ≠ ks → ∃ t, exec (.keySlotWrite sess slot ks) s = .next t ∧ t.keySlot slot = ks ∧
      (∀ j, j ≠ slot → t.keySlot j = s.keySlot j) ∧ t.sessions = s.sessions.filter (fun x => x.keySlot != slot) ∧
      { t with dev := { t.dev with keySlots := s.dev.keySlots }, sessions := s.sessions } = s) ∧
  (∀ (s : State) (sess slot : Nat), MayWrite s sess 0xB010 (slot + 1) → exec (.keySlotWrite sess slot (s.keySlot slot)) s = .next s) ∧
  (∀ (s : State) (sess slot : Nat) (ks : KeySlot), slot = 0 ∨ 31 < slot ∨ slotOk ks = false →
    MayWrite s sess 0xB010 (slot + 1) → exec (.keySlotWrite sess slot ks) s = .next s) ∧
  (∀ (s : State) (sess : Nat) (nonce : List Byte) (x : Session), s.session? sess = some x →
    s.canWrite x ⟨0xB020, 1⟩ = true → nonce.length = 32 → ∃ k, exec (.attestationNonce sess nonce) s =
      .next ({ s with drawn := s.drawn + 1 }.setSession { x with
        report := s.reportBody nonce ++ ecdsaSign Config.identityKey (1 + k % (ecN - 1)) (sha256 (s.reportBody nonce)) })) ∧
  (∀ (s : State) (sess : Nat) (nonce : List Byte), MayWrite s sess 0xB020 1 → nonce.length ≠ 32 →
    exec (.attestationNonce sess nonce) s = .next s)

/-- SUPPLY_SAMPLE, RIDE_THROUGH_END, SUPPLY_STOP_TIMEOUT, BLADE_IMBALANCE and COOLANT_INLET_HIGH (R63 to R67, R724, R726).
An orderly stop (R66, R67, R629, R678): a package that runs goes to HALTED with the departure notice, its lasers and Ethernet off; the stop's
cause and the package's capture record are written to flash. With the input below 18 V the stop is abrupt: the package is OFF, without
notice or cause (R67, R68). -/
def Obligations.SupplyJudgedAndOrderlyStop : Prop :=
  (∀ (s : State) (mv a b : Nat), s.device = devOff → exec (.supplySample mv a b) s = .next s) ∧
  (∀ (s : State) (mv a b : Nat), s.device ≠ devOff → s.device ≠ devHalted → s.reg Obj.supplyState = 0 →
    30000 ≤ mv → mv ≤ 42000 → ∃ t, exec (.supplySample mv a b) s = .next t ∧ t.reg Obj.inputMv = mv ∧
      t.reg Obj.inputMa = a + b ∧ t.reg Obj.bladeAMa = a ∧ t.reg Obj.bladeBMa = b ∧ t.reg Obj.inputMw = t.supply.avgMw ∧
      t.supply.samples = ((mv * (a + b) / 1000, a, b) :: s.supply.samples).take 16 ∧
      t.supply.prevMv = (if s.supply.samples.isEmpty then none else some (s.reg Obj.inputMv)) ∧
      t.reg Obj.supplyState = 0 ∧ t.device = s.device) ∧
  (∀ (s : State) (mv a b : Nat), s.device ≠ devOff → s.device ≠ devHalted → s.reg Obj.supplyState ≠ 1 →
    s.supply.samples ≠ [] → s.reg Obj.inputMv < 30000 → mv < 30000 →
    exec (.supplySample mv a b) s =
      .next (let u := (s.takeSample mv a b).enterRide
             if u.device = devHalted then u else u.judgePower)) ∧
  (∀ (s : State) (mv a b : Nat), s.device ≠ devOff → s.device ≠ devHalted → s.supply.samples ≠ [] →
    45000 < s.reg Obj.inputMv → 45000 < mv → exec (.supplySample mv a b) s =
      .next (let u := (s.takeSample mv a b).limitStop governorId 2
             if u.device = devHalted then u else u.judgePower)) ∧
  (∀ s : State, s.reg Obj.supplyState ≠ 1 → exec .rideThroughEnd s = .next s) ∧
  (∀ s : State, s.reg Obj.supplyState = 1 → s.supply.prevMv = some (s.reg Obj.inputMv) → 30000 ≤ s.reg Obj.inputMv →
    exec .rideThroughEnd s = .next (
      let u := { s.setReg Obj.supplyState 0 with
        supply := { s.supply with recovering := true, floorNow := 0 }, gov := { s.gov with raising := true } }
      (u.scheduleLocal u.powerStepGate .recoveryStep).endRideHold)) ∧
  (∀ s : State, s.device ≠ devOff → s.device ≠ devHalted → s.reg Obj.supplyState = 1 →
    exec (.supplyStopTimeout .rideTotal) s = .next (s.limitStop governorId 1) ∧
    exec (.supplyStopTimeout .rideLength) s = .next (s.limitStop governorId 1) ∧
    exec (.supplyStopTimeout .over42) s = .next s) ∧
  (∀ s : State, s.device ≠ devOff → s.device ≠ devHalted → s.reg Obj.supplyState = 2 →
    exec (.supplyStopTimeout .over42) s = .next (s.limitStop governorId 2) ∧
    exec (.supplyStopTimeout .rideTotal) s = .next s ∧ exec (.supplyStopTimeout .rideLength) s = .next s) ∧
  (∀ (s : State) (v : Nat), s.device ≠ devOff → s.device ≠ devHalted → s.supply.prevMv = some v → v < 24000 →
    s.reg Obj.inputMv < 24000 → exec (.supplyStopTimeout .under24) s = .next (s.limitStop governorId 1)) ∧
  (∀ s : State, s.device ≠ devOff →
    (s.reg Obj.bladeAMa + s.reg Obj.bladeBMa) * 625 < max (s.reg Obj.bladeAMa) (s.reg Obj.bladeBMa) * 1000 →
    exec .bladeImbalance s = .next (s.report (blockReport 1 16 governorId))) ∧
  (∀ (s : State) (inlet outlet : Int), s.device ≠ devOff → inlet ≤ 4000 →
    ∃ t, exec (.coolantInletHigh inlet outlet) s = .next t ∧ t.reg Obj.coolantInlet = wrapInt 32 inlet ∧
      t.reg Obj.coolantOutlet = wrapInt 32 outlet ∧ OnlyRegs [Obj.coolantInlet, Obj.coolantOutlet] s t) ∧
  (∀ (s : State) (inlet outlet : Int), s.device ≠ devOff → 4000 < inlet →
    exec (.coolantInletHigh inlet outlet) s =
      .next (((s.setReg Obj.coolantInlet (wrapInt 32 inlet)).setReg Obj.coolantOutlet (wrapInt 32 outlet)).report
        (blockReport 1 16 governorId))) ∧
  (∀ (s : State) (cause : Nat), s.device ≠ devOff → s.device ≠ devHalted → s.inputGone = false →
    (s.orderlyStop cause).device = devHalted ∧ (s.orderlyStop cause).dev.stopCauseFlash = cause ∧
    (s.orderlyStop cause).dev.lastFatal = s.capture Obj.packageCapture ∧
    (s.orderlyStop cause).out = s.out ++ [.departure s.chip, .lasersOff] ∧
    (s.orderlyStop cause).reg Obj.supplyState = 3 ∧ (s.orderlyStop cause).lasers = [] ∧
    (∀ p l, p < 16 → l < 9 → (s.orderlyStop cause).reg (Obj.laneState p l) = 0) ∧
    (∀ p, p < 8 → (s.orderlyStop cause).reg (Obj.linkState p) = 0) ∧ (s.orderlyStop cause).eth.qps = [] ∧
    (∀ c x, (s.ctx c x).state = 2 → ((s.orderlyStop cause).ctx c x).state = 3) ∧
    (s.orderlyStop cause).mem = s.mem ∧ (s.orderlyStop cause).pending = s.pending ∧ (s.orderlyStop cause).life = s.life) ∧
  (∀ (s : State) (cause : Nat), s.device ≠ devOff → s.device ≠ devHalted → s.supply.samples ≠ [] → s.reg Obj.inputMv < 18000 →
    (s.orderlyStop cause).device = devOff ∧ (s.orderlyStop cause).dev.stopCauseFlash = 0 ∧ (s.orderlyStop cause).out = s.out)

/-- GOVERNOR_SAMPLE, TELEMETRY_INVALID, TELEMETRY_VALID_RESTORE, THERMAL_THROTTLE and THROTTLE_STEP (R22, R36, R37, R40, R74 to R76). A
throttled die whose clock is already lower keeps it (the model's choice, log entry 132).
CLOCK_REQUEST_WRITE, MEMORY_THERMAL_HALVE, MEMORY_RATE_RESTORE and ENVELOPE_COMMIT (R38, R42, R72, R73, R355). -/
def Obligations.GovernorRequestsAndLimits : Prop :=
  (∀ (s : State) (xs : List DieSample), s.device = devOff ∨ s.device = devHalted → exec (.governorSample xs) s = .next s) ∧
  (∀ (s : State) (xs : List DieSample), s.device ≠ devOff → s.device ≠ devHalted → (xs.map (·.die)).Nodup →
    (∀ x ∈ xs, x.die < 13 ∧ x.temp < 10000 ∧ x.valid = true) → ∃ t, exec (.governorSample xs) s = .next t ∧
      (∀ x ∈ xs, t.reg (Obj.junctionTemp x.die) = wrapInt 32 x.temp ∧ t.reg (Obj.powerMw x.die) = x.powerMw) ∧
      (∀ d, d < 13 → (∀ x ∈ xs, x.die ≠ d) → t.reg (Obj.junctionTemp d) = s.reg (Obj.junctionTemp d)) ∧
      t.device = s.device ∧ t.mem = s.mem ∧ t.tenants = s.tenants ∧ t.pending = s.pending) ∧
  (∀ (s : State) (x : DieSample), s.device ≠ devOff → s.device ≠ devHalted → x.die < 13 → x.valid = true → 11500 ≤ x.temp →
    exec (.governorSample [x]) s = .next ((((List.range 13).filter fun d => x.die != d).foldl (fun t d => t.missTelemetry d)
      (s.takeTelemetry x)).limitStop (regulationId x.die) 3)) ∧
  (∀ (s : State) (die : Nat), die < 8 → 3 ≤ Sparse.get 0 die s.gov.missing → s.reg (Obj.telemetryState die) ≠ 1 →
    ∃ u : State, exec (.telemetryInvalid die) s = .next (u.report (blockReport 1 16 (regulationId die))) ∧
      u.reg (Obj.telemetryState die) = 1 ∧ u.clock die ≤ 600 ∧ (∀ e, e ∈ computeNeighbours die → e < 8 → u.clock e ≤ 960) ∧
      (∀ e, e < 13 → u.clock e ≤ s.clock e) ∧ u.device = s.device ∧ u.mem = s.mem ∧ u.pending = s.pending) ∧
  (∀ (s : State) (die : Nat), 8 ≤ die → die < 13 → 3 ≤ Sparse.get 0 die s.gov.missing → s.reg (Obj.telemetryState die) ≠ 1 →
    ∃ u : State, exec (.telemetryInvalid die) s = .next (u.report (blockReport 1 16 (regulationId die))) ∧
      u.reg (Obj.telemetryState die) = 1 ∧ u.clock die = 600 ∧ (∀ e, e ∈ computeNeighbours die → e < 8 → u.clock e ≤ 960) ∧
      (∀ e, e < 13 → e ≠ die → u.clock e ≤ s.clock e) ∧ u.device = s.device ∧ u.mem = s.mem ∧ u.pending = s.pending) ∧
  (∀ (s : State) (die : Nat), Sparse.get 0 die s.gov.missing < 3 → exec (.telemetryInvalid die) s = .next s) ∧
  (∀ (s : State) (die : Nat), die < 8 → 16 ≤ Sparse.get 0 die s.gov.valid → s.reg (Obj.telemetryState die) = 1 →
    ∃ t, exec (.telemetryValidRestore die) s = .next t ∧ t.reg (Obj.telemetryState die) = 0 ∧
      OnlyRegs [Obj.telemetryState die] s t) ∧
  (∀ (s : State) (die : Nat), 8 ≤ die → 16 ≤ Sparse.get 0 die s.gov.valid → s.reg (Obj.telemetryState die) = 1 →
    ∃ t, exec (.telemetryValidRestore die) s = .next t ∧ t.clock die = 2100 ∧ t.reg (Obj.supplyMv die) = 900 ∧
      OnlyRegs [Obj.telemetryState die, Obj.clockGrantedMhz die, Obj.supplyMv die] s t) ∧
  (∀ (s : State) (die : Nat), Sparse.get 0 die s.gov.valid < 16 → exec (.telemetryValidRestore die) s = .next s) ∧
  (∀ (s : State) (die : Nat) (temp : Int), die < 8 → 10000 ≤ temp → temp < 11500 → s.gov.throttled.contains die = false →
    s.device ≠ devOff → s.device ≠ devHalted → ∃ t, exec (.thermalThrottle die temp) s = .next t ∧
      t.reg (Obj.junctionTemp die) = wrapInt 32 temp ∧ t.gov.throttled = s.gov.throttled ++ [die] ∧
      t.reg Obj.throttleCount = (s.reg Obj.throttleCount + 1) % 2 ^ 32 ∧ t.clock die ≤ s.reg Obj.throttleClockMhz ∧
      (∀ e, e < 13 → t.clock e ≤ s.clock e) ∧ t.device = s.device ∧ t.mem = s.mem ∧ t.pending = s.pending) ∧
  (∀ (s : State) (die : Nat) (temp : Int), die < 8 → 11500 ≤ temp → s.device ≠ devOff → s.device ≠ devHalted →
    exec (.thermalThrottle die temp) s =
      .next ((s.setReg (Obj.junctionTemp die) (wrapInt 32 temp)).limitStop (regulationId die) 3)) ∧
  (∀ (s : State) (die : Nat) (temp : Int), 8 ≤ die ∨ temp < 10000 → exec (.thermalThrottle die temp) s = .next s) ∧
  (∀ (s : State) (die : Nat), die < 8 → s.gov.throttled.contains die = true → 10000 ≤ s.sreg 32 (Obj.junctionTemp die) →
    ∃ t, exec (.throttleStep die) s = .next t ∧ t.clock die ≤ max 600 (s.clock die - 100) ∧ (∀ e, e < 13 → t.clock e ≤ s.clock e) ∧
      t.device = s.device ∧ t.mem = s.mem ∧ t.pending = s.pending) ∧
  (∀ (s : State) (die : Nat), s.gov.throttled.contains die = false → exec (.throttleStep die) s = .next s) ∧
  (∀ (s : State) (sess die mhz : Nat), MayWrite s sess (0x4000 + die) 1 → die < 8 → 0 < s.gatePeriod → s.schedCount < 256 →
    ∃ t, exec (.clockRequestWrite sess die mhz) s = .next t ∧
      t.reg (Obj.clockRequestMhz die) = min 2100 (max 600 (mhz / 20 * 20)) ∧
      t.time.events = s.time.events ++ [⟨s.nextGate, .clockGrant die (min 2100 (max 600 (mhz / 20 * 20)))⟩] ∧
      t.clock die = s.clock die ∧ RegsBut [Obj.clockRequestMhz die] s t ∧ { t with regs := s.regs, time := s.time } = s) ∧
  (∀ (s : State) (sess die mhz : Nat) (x : Session), s.session? sess = some x → 8 ≤ die → die < 13 →
    exec (.clockRequestWrite sess die mhz) s = .next (s.setSession { x with violations := x.violations + 1 })) ∧
  (∀ (s : State) (die unit : Nat) (temp : Int), die < 8 → unit < 5 → s.device ≠ devOff → s.device ≠ devHalted → temp < 9500 →
    exec (.memoryThermalHalve die unit temp) s = .next (s.setReg (memTempObj die unit) (wrapInt 32 temp))) ∧
  (∀ (s : State) (die unit : Nat) (temp : Int), die < 8 → unit < 5 → s.device ≠ devOff → s.device ≠ devHalted → 9500 ≤ temp →
    temp < 10500 → s.reg (memStateObj die unit) ≠ 1 → exec (.memoryThermalHalve die unit temp) s =
      .next (((s.setReg (memTempObj die unit) (wrapInt 32 temp)).setReg (memStateObj die unit) 1).report
        (blockReport 1 16 (unitId die 16 unit)))) ∧
  (∀ (s : State) (die unit : Nat) (temp : Int), die < 8 → unit < 5 → s.device ≠ devOff → s.device ≠ devHalted → 10500 ≤ temp →
    exec (.memoryThermalHalve die unit temp) s =
      .next ((s.setReg (memTempObj die unit) (wrapInt 32 temp)).limitStop (unitId die 16 unit) 3)) ∧
  (∀ (s : State) (die unit : Nat) (temp : Int), die < 8 → unit < 5 → temp < 9000 → s.reg (memStateObj die unit) = 1 →
    ∃ t, exec (.memoryRateRestore die unit temp) s = .next t ∧ t.reg (memStateObj die unit) = 0 ∧
      t.reg (memTempObj die unit) = wrapInt 32 temp ∧ OnlyRegs [memStateObj die unit, memTempObj die unit] s t) ∧
  (∀ (s : State) (sess : Nat), MayWrite s sess 0x2020 9 → 0 < s.reg Obj.staggerGroups → 0 < s.gatePeriod → s.schedCount < 256 →
    ∃ t, exec (.envelopeCommit sess 1) s = .next t ∧ t.supply.committedCeiling = s.reg Obj.powerCeilingW ∧
      t.supply.committedFloor = min (s.reg Obj.powerFloorW) (s.reg Obj.powerCeilingW) ∧
      t.time.events = s.time.events ++ [⟨s.nextGate + s.chip % s.reg Obj.staggerGroups * s.reg Obj.staggerStepGates *
        s.gatePeriod, .powerStep (if s.notFree = [] then 0 else min (s.reg Obj.powerFloorW) (s.reg Obj.powerCeilingW))
          (s.reg Obj.powerCeilingW)⟩] ∧
      (∀ k, t.reg k = s.reg k) ∧ t.supply.floorNow = s.supply.floorNow ∧ t.supply.ceilNow = s.supply.ceilNow) ∧
  (∀ (s : State) (sess value : Nat), MayWrite s sess 0x2020 9 → value ≠ 1 → exec (.envelopeCommit sess value) s = .next s)

/-- No reduction of R37, R38 or R40 raises a compute die's clock: bringing neighbours within the limits only lowers clocks, in a set
of clocks and on the dies. -/
def Obligations.PairLimitsOnlyLowerClocks : Prop :=
  (∀ (t : List Nat) (d : Nat), d < 8 → clockAt (settleSet t) d ≤ clockAt t d) ∧
  (∀ (s : State) (t : List Nat) (own : Nat → Bool) (d : Nat), d < 13 → (s.lowerSet t own).clock d ≤ s.clock d) ∧
  (∀ (s : State) (t : List Nat) (own : Nat → Bool) (d : Nat), d < 8 → (s.lowerSet t own).clock d ≤ clockAt t d)

/-- BEAT_FRAME_RECEIVE, CADENCE_DELAY_MEASUREMENT, CADENCE_LOCK, UPSTREAM_TIMEOUT and HOLDOVER_EXPIRY (R45, R46, R48, R49, R52): how
a package follows a master, locks, loses its upstream and gives up. An acquiring package takes its time from the frame (the model's
choice, log entry 21).
CADENCE_ROLE_WRITE, GATE_PERIOD_WRITE and GATE_PERIOD_CHANGE (R52, R54 to R56): a master starts a term above every one seen;
the gate period is a power of two from 1 to 4,096 and changes at a multiple of 4,096 beats at least 8,192 beats on. -/
def Obligations.CadenceFollowedAndMastered : Prop :=
  (∀ (s : State) (f : BeatFrame) (c : Nat), s.cadenceRuns = true → s.time.seenTerm < f.term → s.heardOn f.port = some c →
    f.term ≠ s.reg Obj.cadenceTerm → ∃ t, exec (.beatFrameReceive f) s = .next t ∧
      t.reg Obj.cadenceTerm = f.term ∧ t.reg Obj.cadenceMasterChip = f.master ∧
      t.reg Obj.cadenceRole = 0 ∧ t.reg Obj.upstreamPort = f.port ∧ t.reg Obj.gatePeriodBeats = f.period ∧
      t.time = { s.time with
        seenTerm := f.term, upstreamChip := c, inBand := 0, heard := [(f.port, (c, s.up))],
        periods := if f.nextBeat = 0 then [] else [(f.nextPeriod, f.nextBeat)],
        cad := if s.reg Obj.cadenceState = cadAcquiring then f.cad else s.time.cad } ∧
      RegsBut [Obj.cadenceTerm, Obj.cadenceMasterChip, Obj.cadenceRole, Obj.upstreamPort, Obj.gatePeriodBeats] s t ∧
      { t with regs := s.regs, time := s.time } = s) ∧
  (∀ (s : State) (f : BeatFrame) (c : Nat), s.cadenceRuns = true → s.reg Obj.cadenceRole = 0 → f.term = s.time.seenTerm →
    f.term = s.reg Obj.cadenceTerm → f.master = s.reg Obj.cadenceMasterChip → s.heardOn f.port = some c →
    s.reg Obj.upstreamPort ≠ f.port → s.betterUpstream c f.master = false →
    exec (.beatFrameReceive f) s = .next (s.noteHeard f.port c)) ∧
  (∀ (s : State) (f : BeatFrame), s.cadenceRuns = true → f.term < s.time.seenTerm → exec (.beatFrameReceive f) s = .next s) ∧
  (∀ (s : State) (f : BeatFrame), s.reg Obj.cadenceRole = 1 → f.term ≤ s.time.seenTerm →
    exec (.beatFrameReceive f) s = .next s) ∧
  (∀ (s : State) (flight back o : Int), s.cadenceRuns = true → s.reg Obj.cadenceRole ≠ 1 → s.reg Obj.upstreamPort ≠ 0xFF →
    o = flight - s.pathDelay flight back → o.natAbs ≤ 5000 →
    ∃ t, exec (.cadenceDelayMeasurement ⟨flight, back⟩) s = .next t ∧
      t.time = { s.time with inBand := min 16 (s.time.inBand + 1), rest := o * 100 } ∧
      t.reg Obj.cadenceOffsetPs = wrapInt 32 o ∧ RegsBut [Obj.cadenceOffsetPs] s t ∧
      { t with regs := s.regs, time := s.time } = s) ∧
  (∀ (s : State) (flight back o : Int), s.cadenceRuns = true → s.reg Obj.cadenceRole ≠ 1 → s.reg Obj.upstreamPort ≠ 0xFF →
    o = flight - s.pathDelay flight back → 500000 < o.natAbs →
    (s.reg Obj.cadenceState = cadLocked ∨ s.reg Obj.cadenceState = cadHoldover) →
    ∃ t, exec (.cadenceDelayMeasurement ⟨flight, back⟩) s = .next t ∧ t.reg Obj.cadenceState = cadUnlocked ∧
      t.reg Obj.cadenceOffsetPs = wrapInt 32 o ∧ t.time = (if s.device = devReady then
        { s.time with inBand := 0, rest := 0, cad := ((s.time.cad : Int) - o / 1000).toNat }
        else { s.time with inBand := 0, rest := o * 100 }) ∧
      RegsBut [Obj.cadenceOffsetPs, Obj.cadenceState] s t ∧ { t with regs := s.regs, time := s.time } = s) ∧
  (∀ (s : State) (flight back : Int), 12 ≤ s.reg Obj.upstreamPort → s.pathDelay flight back = (flight + back) / 2) ∧
  (∀ s : State, s.cadenceRuns = true → s.reg Obj.cadenceRole = 0 → s.time.inBand = 16 →
    ∃ t, exec .cadenceLock s = .next t ∧ t.reg Obj.cadenceState = cadLocked ∧ OnlyRegs [Obj.cadenceState] s t) ∧
  (∀ s : State, s.time.inBand ≠ 16 → exec .cadenceLock s = .next s) ∧
  (∀ (s : State) (port chip : Nat), s.cadenceRuns = true → s.reg Obj.cadenceRole ≠ 1 → s.nextUpstream = some (port, chip) →
    ∃ t, exec (.upstreamTimeout (s.reg Obj.upstreamPort)) s = .next t ∧ t.reg Obj.upstreamPort = port ∧
      t.time = { s.time with
        inBand := 0, upstreamChip := chip, heard := Sparse.erase (s.reg Obj.upstreamPort) s.time.heard } ∧
      RegsBut [Obj.upstreamPort] s t ∧ { t with regs := s.regs, time := s.time } = s) ∧
  (∀ s : State, s.cadenceRuns = true → s.reg Obj.cadenceRole ≠ 1 → s.reg Obj.cadenceState = cadLocked → s.nextUpstream = none →
    ∃ t, exec (.upstreamTimeout (s.reg Obj.upstreamPort)) s = .next t ∧ t.reg Obj.upstreamPort = 0xFF ∧ t.reg Obj.cadenceState = cadHoldover ∧
      t.reg Obj.holdoverCount = (s.reg Obj.holdoverCount + 1) % 2 ^ 32 ∧
      t.time = { s.time with inBand := 0, heard := Sparse.erase (s.reg Obj.upstreamPort) s.time.heard } ∧
      RegsBut [Obj.upstreamPort, Obj.cadenceState, Obj.holdoverCount] s t ∧ { t with regs := s.regs, time := s.time } = s) ∧
  (∀ s : State, s.reg Obj.cadenceState = cadHoldover → ∃ t, exec .holdoverExpiry s = .next t ∧
    t.reg Obj.cadenceState = cadUnlocked ∧ OnlyRegs [Obj.cadenceState] s t) ∧
  (∀ s : State, s.reg Obj.cadenceState ≠ cadHoldover → exec .holdoverExpiry s = .next s) ∧
  (∀ (s : State) (port : Nat), port ≠ s.reg Obj.upstreamPort → exec (.upstreamTimeout port) s = .next s) ∧
  (∀ (s : State) (sess : Nat), MayWrite s sess 0x2000 5 → s.reg Obj.cadenceRole ≠ 1 →
    ∃ t, exec (.cadenceRoleWrite sess 1) s = .next t ∧ t.reg Obj.cadenceRole = 1 ∧
      t.reg Obj.cadenceTerm = (s.time.seenTerm + 1) % 2 ^ 32 ∧
      t.reg Obj.cadenceMasterChip = s.chip ∧ t.reg Obj.cadenceState = cadLocked ∧ t.reg Obj.upstreamPort = 0xFF ∧
      t.time = { s.time with
        seenTerm := (s.time.seenTerm + 1) % 2 ^ 32, inBand := 0, rest := 0,
        cad := if s.time.seenTerm = 0 then 0 else s.time.cad } ∧
      RegsBut [Obj.cadenceRole, Obj.cadenceTerm, Obj.cadenceMasterChip, Obj.cadenceState, Obj.upstreamPort] s t ∧
      { t with regs := s.regs, time := s.time } = s) ∧
  (∀ (s : State) (sess value : Nat), MayWrite s sess 0x2000 5 → value ≠ 1 ∨ s.reg Obj.cadenceRole = 1 →
    exec (.cadenceRoleWrite sess value) s = .next s) ∧
  (∀ (s : State) (sess value : Nat), MayWrite s sess 0x2001 1 → s.reg Obj.cadenceRole = 1 →
    ∃ p b, exec (.gatePeriodWrite sess value) s =
        .next { s with time := { s.time with periods := s.time.periods ++ [(p, b)] } } ∧
      (∃ i, i ≤ 12 ∧ p = 2 ^ i) ∧ (1 ≤ value → value ≤ 4096 → p ≤ value ∧ value < 2 * p) ∧ (4096 < value → p = 4096) ∧
      b % 4096 = 0 ∧ s.beatNo + 8192 ≤ b ∧ b < s.beatNo + 8192 + 4096) ∧
  (∀ (s : State) (sess value : Nat), MayWrite s sess 0x2001 1 → s.reg Obj.cadenceRole ≠ 1 →
    exec (.gatePeriodWrite sess value) s = .next s) ∧
  (∀ (s : State) (p b : Nat) (rest : List (Nat × Nat)), s.time.periods = (p, b) :: rest → b ≤ s.beatNo →
    (∀ q ∈ rest, s.beatNo < q.2) → s.reg Obj.cadenceState ≠ cadAcquiring →
    ∃ t, exec .gatePeriodChange s = .next t ∧ t.gatePeriod = p ∧ t.time = { s.time with periods := rest } ∧
      RegsBut [Obj.gatePeriodBeats] s t ∧ { t with regs := s.regs, time := s.time } = s) ∧
  (∀ s : State, (∀ q ∈ s.time.periods, s.beatNo < q.2) → exec .gatePeriodChange s = .next s)

/-- BEAT (R44, R45, R55, R58 to R60, R496): the package moves to the next beat and sends its frames; at a gate beat it applies the
events that are due, and keeps the others: a gate at which nothing is due and nothing is held does nothing else, and one at which a power
step is due starts it. A package without cadence time only lowers held offsets. A beat takes no time of the uptime (the model's choice,
log entry 1).
An event of the schedule is due at the first gate at or after its own and not before; a commit waits while the package may not
execute coordinated events (R57, R58, R580).
FLIT_CRC_FAIL (R25, R43): a flit is replayed from the sender's buffer, counted and reported; the thousandth within 1 ms before it
makes the link fail. -/
def Obligations.BeatsRunDueEvents : Prop :=
  (∀ s : State, s.cadenceRuns = false ∨ s.reg Obj.cadenceState = cadAcquiring → exec .beat s = .next s.lowerOffsets) ∧
  (∀ (s : State) (site source cls offset : Nat), s.fabric.asks = [(site, source, offset, cls)] →
    s.lowerOffsets.fabric.asks = [(site, source, if offset = 0xFFFFFF then offset else offset - 1024, cls)]) ∧
  (∀ (s u : State), s.cadenceRuns = true → s.reg Obj.cadenceState ≠ cadAcquiring →
    ((s.beatNo + 1) % s.gatePeriod ≠ 0 ∨ s.gatePeriod = 0) →
    u = { s.lowerOffsets with time := { s.time with cad := (s.beatNo + 1) * 1024, phase := 0 } } →
    exec .beat s = .next { u with out := s.out ++ beatFrames u }) ∧
  (∀ (s u : State), s.cadenceRuns = true → s.reg Obj.cadenceState ≠ cadAcquiring → (s.beatNo + 1) % s.gatePeriod = 0 →
    s.gatePeriod ≠ 0 → (∀ e ∈ s.time.events, s.beatNo + 1 < e.gate) → s.gov.held = [] → s.gov.throttled = [] → s.gov.cooled = [] →
    settleSet s.clockSet = s.clockSet → (∀ d, d < 8 → s.reg (Obj.supplyMv d) = curveMv (s.clock d)) → s.litPorts = [] →
    s.sketch.pendingCode = none → s.sketch.pendingPeriod = none →
    u = { s.lowerOffsets with time := { s.time with cad := (s.beatNo + 1) * 1024, phase := 0 } } →
    exec .beat s = .next { u with out := s.out ++ beatFrames u }) ∧
  (∀ (s u : State) (g f c : Nat), s.cadenceRuns = true → s.reg Obj.cadenceState ≠ cadAcquiring → (s.beatNo + 1) % s.gatePeriod = 0 →
    s.gatePeriod ≠ 0 → s.time.events = [⟨g, .powerStep f c⟩] → g ≤ s.beatNo + 1 → s.gov.held = [] → s.gov.throttled = [] →
    s.gov.cooled = [] → settleSet s.clockSet = s.clockSet → (∀ d, d < 8 → s.reg (Obj.supplyMv d) = curveMv (s.clock d)) →
    s.litPorts = [] → s.sketch.pendingCode = none → s.sketch.pendingPeriod = none →
    u = { s.lowerOffsets with time := { s.time with cad := (s.beatNo + 1) * 1024, phase := 0, events := [] } } →
    exec .beat s = .next { u with
      out := s.out ++ beatFrames u, supply := { s.supply with floorTo := f * 1000, ceilTo := c * 1000 } }) ∧
  (∀ s : State, s.cadenceRuns = true → s.reg Obj.cadenceState ≠ cadAcquiring → (s.beatNo + 1) % s.gatePeriod = 0 →
    s.gatePeriod ≠ 0 → exec .beat s = .next s.lowerOffsets.nextBeat.sendBeats.gateBeat) ∧
  (∀ (s : State) (e : Sched), e ∈ s.dueEvents ↔
    e ∈ s.time.events ∧ e.gate ≤ s.beatNo ∧ (e.kind.isCommit = true → s.coordinated = true)) ∧
  (∀ (s : State) (link dir a b : Nat), dieLinks[link]? = some (a, b) → s.device ≠ devOff →
    ∃ u : State, u.replays = Sparse.set [] link (s.up :: (Sparse.get [] link s.replays).filter fun t => decide (s.up < t + 1000000))
        s.replays ∧
      (let p := portToward (if dir = 0 then a else b) (if dir = 0 then b else a)
       let d := if dir = 0 then a else b
       u.reg (Obj.linkReplayCount d p) = (s.reg (Obj.linkReplayCount d p) + 1) % 2 ^ 64 ∧
       RegsBut [Obj.linkReplayCount d p] s u ∧
       exec (.flitCrcFail link dir) s = .next (
         if 1000 ≤ ((Sparse.get [] link s.replays).filter fun t => decide (s.up < t + 1000000)).length then
           (u.report (blockReport 1 11 (linkPortId d p))).report (blockReport 3 12 (linkPortId d p))
         else u.report (blockReport 1 11 (linkPortId d p)))) ∧
      (∀ j, j ≠ 2 * link + dir % 2 → u.dieLink j = s.dieLink j) ∧
      (∀ (g : Flit) (gs : List Flit), (s.dieLink (2 * link + dir % 2)).replay = g :: gs →
        u.dieLink (2 * link + dir % 2) = { s.dieLink (2 * link + dir % 2) with
          beyond := (s.dieLink (2 * link + dir % 2)).beyond.map fun f =>
            if f.cls = g.cls ∧ f.number = g.number then { f with ready := s.up + s.crossingNs (2 * link + dir % 2) } else f }) ∧
      { u with regs := s.regs, replays := s.replays, links := s.links } = s) ∧
  (∀ (s : State) (link dir : Nat), dieLinks[link]? = none → exec (.flitCrcFail link dir) s = .next s)

/-- SADD to SSLTU (R373, R374): SD takes the operation of SA and the second operand modulo 2^64, s0 stays zero, the pointer moves to
the next word, and nothing else changes but the yields that end. -/
def Obligations.ScalarArithmeticWritesSD : Prop :=
  ∀ p ∈ scalarTable, ∀ (s : State) (c x : Nat) (w : ScalarWord) (k : Work) (a b : BitVec 64), Issues s c x k →
    (s.ctx c x).sreg w.sa = a.toNat → (if w.immFlag then w.imm else (s.ctx c x).sreg w.sb) = b.toNat →
    ∃ t, exec (p.1 c x w) s = .next t ∧ (t.ctx c x).sreg w.sd = (if w.sd = 0 then 0 else (p.2 a b).toNat) ∧
      (∀ i, i ≠ w.sd → (t.ctx c x).sreg i = (s.ctx c x).sreg i) ∧
      { t.ctx c x with sregs := (s.ctx c x).sregs } = { s.ctx c x with state := 2, waits := .nothing, ip := (s.ctx c x).ip + 16 } ∧
      (∀ d y, ctxKey d y ≠ ctxKey c x → t.ctx d y = (s.started c x).ctx d y) ∧ { t with ctxs := s.ctxs } = s

/-- NOP, BR, BRZ and BRNZ (R374): where the stream goes on; nothing else changes.
WAIT, YIELD, YIELD_TIMEOUT, END and PUBLISH (R189, R374, R376, R377, R389). -/
def Obligations.ScalarStreamControl : Prop :=
  (∀ (s : State) (c x : Nat) (w : ScalarWord) (k : Work), Issues s c x k → exec (.nop c x w) s = .next (s.started c x)) ∧
  (∀ (s : State) (c x : Nat) (w : ScalarWord) (k : Work), Issues s c x k → exec (.br c x w) s =
    .next ((s.started c x).setCtx c x { s.ctx c x with state := 2, waits := .nothing, ip := w.imm })) ∧
  (∀ (s : State) (c x : Nat) (w : ScalarWord) (k : Work), Issues s c x k → exec (.brz c x w) s =
    .next ((s.started c x).setCtx c x { s.ctx c x with
      state := 2, waits := .nothing, ip := if (s.ctx c x).sreg w.sa = 0 then w.imm else (s.ctx c x).ip + 16 })) ∧
  (∀ (s : State) (c x : Nat) (w : ScalarWord) (k : Work), Issues s c x k → exec (.brnz c x w) s =
    .next ((s.started c x).setCtx c x { s.ctx c x with
      state := 2, waits := .nothing, ip := if (s.ctx c x).sreg w.sa = 0 then (s.ctx c x).ip + 16 else w.imm })) ∧
  (∀ (s : State) (c x : Nat) (w : ScalarWord) (k : Work), Issues s c x k → (s.ctx c x).token w.token = .outstanding →
    exec (.wait c x w) s = .next ((s.started c x).setCtx c x { s.ctx c x with
      state := 3, waits := .token w.token w.sd, ip := (s.ctx c x).ip + 16 })) ∧
  (∀ (s : State) (c x : Nat) (w : ScalarWord) (k : Work) (st : Nat), Issues s c x k → w.token ≠ 0 → st < 256 →
    (s.ctx c x).token w.token = .done st → ∃ t, exec (.wait c x w) s = .next t ∧
      (t.ctx c x).token w.token = .free ∧ (∀ i, i ≠ w.token → (t.ctx c x).token i = (s.ctx c x).token i) ∧
      (t.ctx c x).sreg w.sd = (if w.sd = 0 then 0 else st) ∧ (∀ i, i ≠ w.sd → (t.ctx c x).sreg i = (s.ctx c x).sreg i) ∧
      (t.ctx c x).state = 2 ∧ (t.ctx c x).ip = (s.ctx c x).ip + 16 ∧ { t with ctxs := s.ctxs } = s) ∧
  (∀ (s : State) (c x : Nat) (w : ScalarWord) (k : Work), Issues s c x k → (s.ctx c x).token w.token = .free →
    ∃ t, exec (.wait c x w) s = .next t ∧ (t.ctx c x).sreg w.sd = 0 ∧ (t.ctx c x).tokens = (s.ctx c x).tokens ∧
      (∀ i, i ≠ w.sd → (t.ctx c x).sreg i = (s.ctx c x).sreg i) ∧ (t.ctx c x).state = 2 ∧
      (t.ctx c x).ip = (s.ctx c x).ip + 16 ∧ { t with ctxs := s.ctxs } = s) ∧
  (∀ (s : State) (c x : Nat) (w : ScalarWord) (k : Work), Issues s c x k → exec (.yield c x w) s =
    .next ((s.started c x).setCtx c x { s.ctx c x with state := 3, waits := .yielded, ip := (s.ctx c x).ip + 16 })) ∧
  (∀ (s : State) (c x : Nat), (s.ctx c x).state = 3 → (s.ctx c x).waits = .yielded →
    exec (.yieldTimeout c x) s = .next (s.setCtx c x { s.ctx c x with state := 1, waits := .nothing })) ∧
  (∀ (s : State) (c x : Nat), (s.ctx c x).waits ≠ .yielded → exec (.yieldTimeout c x) s = .next s) ∧
  (∀ (s : State) (c x : Nat) (w : ScalarWord) (k : Work), Issues s c x k → exec (.endWork c x w) s =
    .next ((s.started c x).setCtx c x { s.ctx c x with state := 3, waits := .ending, ip := (s.ctx c x).ip + 16 })) ∧
  (∀ (s : State) (c x : Nat) (w : ScalarWord) (k : Work), Issues s c x k → ∃ t, exec (.publish c x w) s = .next t ∧
    (t.ctx c x).published = ((s.ctx c x).published.filter fun p => p.1 != w.imm % 16) ++ [(w.imm % 16, (s.ctx c x).sreg w.sa)] ∧
    { t.ctx c x with published := (s.ctx c x).published } = { s.ctx c x with state := 2, waits := .nothing, ip := (s.ctx c x).ip + 16 } ∧
    { t with ctxs := s.ctxs } = s)

/-- VLAUNCH, KERNEL_COMPLETE, WORK_COMPLETE and RESERVED_OPCODE (R142, R197, R198, R215, R373 to R377, R388 to R394). A kernel without a
token (token 0) has none to issue and none to complete.
The words of a context's stream (R12, R157, R158, R160, R209, R215, R250, R251, R255, R279, R280, R340 to R343, R374, R375, R512): the
opcode's 10 bits choose the command, the fields of its word stand at the bits its table gives, reserved bits are ignored, and an opcode
that no table lists is an instruction fault. -/
def Obligations.KernelsWorkEndAndStreamWords : Prop :=
  (∀ (s : State) (c x : Nat) (w : ScalarWord) (k : Work), Issues s c x k → w.cnt = 0 →
    w.token = 0 ∨ (s.ctx c x).token w.token = .free → ∃ t, exec (.vlaunch c x w) s = .next t ∧ Launches s t c x w (.done 0) ∧
      { t with ctxs := s.ctxs } = s) ∧
  (∀ (s : State) (c x : Nat) (w : ScalarWord) (k : Work), Issues s c x k → w.cnt ≠ 0 →
    w.token = 0 ∨ (s.ctx c x).token w.token = .free → s.idleGroups c x = [] → ∃ t, exec (.vlaunch c x w) s = .next t ∧
      Launches s t c x w .outstanding ∧ t.core c = { s.core c with kernels := (s.core c).kernels ++
        [{ ctx := x, token := w.token, blocks := w.cnt, start := w.imm, nextBlock := 0, ended := 0, groups := [] }] } ∧
      (∀ d, d ≠ c → t.core d = s.core d) ∧ { t with ctxs := s.ctxs, cores := s.cores } = s) ∧
  (∀ (s : State) (c x g : Nat) (w : ScalarWord) (k : Work), Issues s c x k → w.cnt ≠ 0 → g < 64 →
    w.token = 0 ∨ (s.ctx c x).token w.token = .free → s.idleGroups c x = [g] →
    (∀ kn ∈ (s.core c).kernels, kn.ctx = x → kn.blocks ≤ kn.nextBlock) → ∃ t, exec (.vlaunch c x w) s = .next t ∧
      Launches s t c x w .outstanding ∧ t.core c = { s.core c with kernels := (s.core c).kernels ++
        [{ ctx := x, token := w.token, blocks := w.cnt, start := w.imm, nextBlock := 1, ended := 0, groups := [(g, 0, w.imm)] }] } ∧
      (∀ d, d ≠ c → t.core d = s.core d) ∧
      (∀ i r, i < 64 → (t.thread c g i).reg r = if r = 0 then i else if r = 2 then w.cnt else 0) ∧
      (∀ i, i < 64 → (t.thread c g i).preds = 15 ∧ (t.thread c g i).exited = false) ∧
      (∀ d h i, i < 64 → h < 64 → d ≠ c ∨ h ≠ g → t.thread d h i = s.thread d h i) ∧
      { t with ctxs := s.ctxs, cores := s.cores, threads := s.threads } = s) ∧
  (∀ (s : State) (c x : Nat) (w : ScalarWord) (k : Work), Issues s c x k → w.token ≠ 0 →
    (s.ctx c x).token w.token ≠ .free → ∃ t, exec (.vlaunch c x w) s = .next t ∧
      CtxFaulted (s.started c x) t c x (engineId c 5) 8) ∧
  (∀ (s : State) (c x tk : Nat) (k : Kernel),
    ((s.core c).kernels.find? fun k => k.ctx == x && k.token == tk && k.done) = some k →
    ∃ t, exec (.kernelComplete c x tk) s = .next t ∧ t.core c = { s.core c with kernels := (s.core c).kernels.erase k } ∧
      (∀ d, d ≠ c → t.core d = s.core d) ∧
      (tk = 0 → t.ctx c x = s.ctx c x) ∧
      (∀ sd, tk ≠ 0 → (s.ctx c x).waits = .token tk sd → (s.ctx c x).state = 3 → (t.ctx c x).token tk = .free ∧
        (t.ctx c x).sreg sd = 0 ∧ (t.ctx c x).state = 1 ∧ (t.ctx c x).waits = .nothing) ∧
      (tk ≠ 0 → (∀ sd, (s.ctx c x).waits ≠ .token tk sd) → (t.ctx c x).token tk = .done 0 ∧ (t.ctx c x).state = (s.ctx c x).state ∧
        (t.ctx c x).sregs = (s.ctx c x).sregs) ∧
      (∀ d y, ctxKey d y ≠ ctxKey c x → t.ctx d y = s.ctx d y) ∧ { t with cores := s.cores, ctxs := s.ctxs } = s) ∧
  (∀ (s : State) (c x tk : Nat), ((s.core c).kernels.all fun k => !(k.ctx == x && k.token == tk && k.done)) = true →
    exec (.kernelComplete c x tk) s = .next s) ∧
  (∀ (s : State) (c x w : Nat) (k : Work), s.quiet c x = true → s.ctxWork c x = some (w, k) → (s.ctx c x).state = 3 →
    (s.ctx c x).waits = .ending → ∃ u t, exec (.workComplete c x) s = .next t ∧ CtxFreed s u c x ∧
      { u with cores := s.cores, ctxs := s.ctxs } = s ∧ WorkEnded u t w { k with published := (s.ctx c x).published } 0 0) ∧
  (∀ (s : State) (c x w e a : Nat) (k : Work), s.quiet c x = true → s.ctxWork c x = some (w, k) → (s.ctx c x).state = 4 →
    (s.ctx c x).firstFault = some (e, a) → ∃ u t, exec (.workComplete c x) s = .next t ∧ CtxFreed s u c x ∧
      { u with cores := s.cores, ctxs := s.ctxs } = s ∧
      WorkEnded u t w { k with published := (s.ctx c x).published } 1 (e + a * 2 ^ 16)) ∧
  (∀ (s : State) (c x : Nat), s.quiet c x = false ∨ ((s.ctx c x).state ≠ 4 ∧ ((s.ctx c x).state ≠ 3 ∨ (s.ctx c x).waits ≠ .ending)) →
    exec (.workComplete c x) s = .next s) ∧
  (∀ (s : State) (c x op : Nat) (k : Work), Issues s c x k → listedOpcode op = false → ∃ t,
    exec (.reservedOpcode c x op false) s = .next t ∧ CtxFaulted (s.started c x) t c x (engineId c 5) 8) ∧
  (∀ (s : State) (c x op : Nat), op < 0x100 ∨ 0x1FF < op →
    ((s.core c).kernels.any fun k => k.ctx == x && !k.groups.isEmpty) = true →
    ∃ t, exec (.reservedOpcode c x op true) s = .next t ∧ CtxFaulted s t c x (engineId c 5) 8) ∧
  (∀ (c x w o r : Nat), w = o * 2 ^ 118 + r → r < 2 ^ 118 → o < 2 ^ 10 →
    (∀ p ∈ scalarOpcodes, o = p.1 → decodeStream c x w = p.2 c x (.ofWord w)) ∧
    (∀ p ∈ moverOpcodes, o = p.1 → decodeStream c x w = p.2 c x (.ofWord w)) ∧
    (∀ p ∈ fusedOpcodes, o = p.1 → decodeStream c x w = p.2 c x (.ofWord w true)) ∧
    (∀ p ∈ copyOpcodes, o = p.1 → decodeStream c x w = p.2 c x (.ofWord w)) ∧
    (∀ p ∈ rowOpcodes, o = p.1 → decodeStream c x w = p.2 c x (.ofWord w)) ∧
    (∀ p ∈ updOpcodes, o = p.1 → decodeStream c x w = p.2 c x (.ofWord w)) ∧
    (o = 0x80 → decodeStream c x w = .mma c x (.ofWord w false)) ∧ (o = 0x81 → decodeStream c x w = .mmode c x (w % 4)) ∧
    (o = 0x41 → decodeStream c x w = .liftClaim c x (.ofWord w)) ∧ (o = 0x42 → decodeStream c x w = .liftDrop c x (.ofWord w)) ∧
    (o = 0x230 → decodeStream c x w = .rfold c x (.ofWord w)) ∧
    (o ∉ scalarOpcodes.map (·.1) ++ moverOpcodes.map (·.1) ++ fusedOpcodes.map (·.1) ++ copyOpcodes.map (·.1) ++
        rowOpcodes.map (·.1) ++ updOpcodes.map (·.1) ++ [0x80, 0x81, 0x41, 0x42, 0x230] →
      decodeStream c x w = .reservedOpcode c x o false)) ∧
  (∀ (f : ScalarWord) (o a b : Nat), f.sd < 32 → f.sa < 32 → f.sb < 32 → f.token < 256 → f.cnt < 2 ^ 16 → f.imm < 2 ^ 64 → a < 32 →
    b < 2 ^ 9 → ScalarWord.ofWord (o * 2 ^ 118 + flagNat f.immFlag * 2 ^ 117 + a * 2 ^ 112 + f.sd * 2 ^ 107 + f.sa * 2 ^ 102 +
      f.sb * 2 ^ 97 + b * 2 ^ 88 + f.token * 2 ^ 80 + f.cnt * 2 ^ 64 + f.imm) = f) ∧
  (∀ (f : MmaWord) (o cp r : Nat), f.x < 2 ^ 12 → f.w < 2 ^ 12 → f.y < 2 ^ 12 → f.tout < 2 ^ 12 → f.tx < 2 ^ 12 → f.tw < 2 ^ 12 →
    f.osc < 2 ^ 8 → f.part < 4 → f.abase < 2 ^ 11 → f.lst < 32 → cp < 2 ^ 10 → r < 16 →
    (∀ fused : Bool, MmaWord.ofWord (o * 2 ^ 118 + flagNat f.acc * 2 ^ 117 + flagNat f.out * 2 ^ 116 + flagNat f.wt * 2 ^ 115 +
      flagNat f.xt * 2 ^ 114 + flagNat f.osr * 2 ^ 113 + f.x * 2 ^ 100 + f.w * 2 ^ 88 + f.y * 2 ^ 76 + f.tout * 2 ^ 64 + f.tx * 2 ^ 52 +
      f.tw * 2 ^ 40 + f.osc * 2 ^ 32 + f.part * 2 ^ 30 + f.abase * 2 ^ 19 + f.lst * 2 ^ 14 + cp * 2 ^ 4 + r) fused =
        { f with cp := if fused then cp else 0 })) ∧
  (∀ (f : DmWord) (o a : Nat), f.x < 2 ^ 12 → f.y < 2 ^ 12 → f.g < 2 ^ 12 → f.cnt < 2 ^ 12 → f.imm0 < 2 ^ 32 → f.imm1 < 2 ^ 32 → a < 4 →
    DmWord.ofWord (o * 2 ^ 118 + flagNat f.sr * 2 ^ 117 + flagNat f.ovf * 2 ^ 116 + flagNat f.cond * 2 ^ 115 + flagNat f.mode * 2 ^ 114 +
      a * 2 ^ 112 + f.x * 2 ^ 100 + f.y * 2 ^ 88 + f.g * 2 ^ 76 + f.cnt * 2 ^ 64 + f.imm0 * 2 ^ 32 + f.imm1) = f) ∧
  (∀ (f : RowWord) (o a : Nat), f.x < 2 ^ 12 → f.y < 2 ^ 12 → f.g < 2 ^ 12 → f.b < 2 ^ 12 → f.sbase < 2 ^ 16 → f.imm < 2 ^ 32 →
    f.ofs < 2 ^ 16 → a < 2 →
    RowWord.ofWord (o * 2 ^ 118 + flagNat f.mode * 2 ^ 117 + flagNat f.bmask * 2 ^ 116 + flagNat f.sr * 2 ^ 115 + flagNat f.ovf * 2 ^ 114 +
      flagNat f.psrc * 2 ^ 113 + a * 2 ^ 112 + f.x * 2 ^ 100 + f.y * 2 ^ 88 + f.g * 2 ^ 76 + f.b * 2 ^ 64 + f.sbase * 2 ^ 48 +
      f.imm * 2 ^ 16 + f.ofs) = f)

/-- VADD to VGELU (R195, R196, R199, R202, R203, R221): D of each active thread takes the function of that thread's registers; inactive
threads, other registers, predicates and other groups keep theirs; the group goes on to the next word and one issue is counted. -/
def Obligations.LaneArithmeticPerThread : Prop :=
  ∀ p ∈ laneTable, ∀ (s : State) (c g x : Nat) (w : ThreadWord) (k : Work), ThreadIssues s c g x k → g < 64 →
    ∃ t, exec (p.1 c g w) s = .next t ∧
      (∀ i, i < 64 → (s.thread c g i).active w = true → (t.thread c g i).reg (w.d % 32) =
        p.2 ((s.thread c g i).reg (w.a % 32)) ((s.thread c g i).reg (w.b % 32)) ((s.thread c g i).reg (w.c % 32)) % 2 ^ 32) ∧
      LaneLeaves s t c g (w.d % 32) w ∧ (∀ i, i < 64 → (t.thread c g i).exited = (s.thread c g i).exited) ∧
      RegsBut [Obj.vectorIssueCount c] s t ∧ { t with threads := s.threads, regs := s.regs, cores := s.cores } = s

/-- The functions of R203 at NaN, infinities and zeros (R204): the words they deliver, for each function. -/
def Obligations.LaneFunctionSpecialWords : Prop :=
  (∀ (f : LaneFn) (x : Nat), 0x7F800000 < x % 2 ^ 31 → x < 2 ^ 32 → f.apply x = 0x7FC00000) ∧
  (∀ q ∈ [(LaneFn.exp, 0x7F800000, 0x7F800000), (.exp, 0xFF800000, 0), (.exp2, 0x7F800000, 0x7F800000), (.exp2, 0xFF800000, 0),
      (.log, 0, 0xFF800000), (.log, 0x80000000, 0xFF800000), (.log, 0x7F800000, 0x7F800000), (.log, 0xFF800000, 0x7FC00000),
      (.log2, 0, 0xFF800000), (.log2, 0x80000000, 0xFF800000), (.log2, 0x7F800000, 0x7F800000), (.log2, 0xFF800000, 0x7FC00000),
      (.rcp, 0, 0x7F800000), (.rcp, 0x80000000, 0xFF800000), (.rcp, 0x7F800000, 0), (.rcp, 0xFF800000, 0x80000000),
      (.rsq, 0, 0x7F800000), (.rsq, 0x80000000, 0xFF800000), (.rsq, 0x7F800000, 0), (.rsq, 0xFF800000, 0x7FC00000),
      (.sin, 0x7F800000, 0x7FC00000), (.sin, 0xFF800000, 0x7FC00000), (.cos, 0x7F800000, 0x7FC00000), (.cos, 0xFF800000, 0x7FC00000),
      (.tanh, 0x7F800000, 0x3F800000), (.tanh, 0xFF800000, 0xBF800000), (.sigm, 0x7F800000, 0x3F800000), (.sigm, 0xFF800000, 0),
      (.erf, 0x7F800000, 0x3F800000), (.erf, 0xFF800000, 0xBF800000), (.gelu, 0x7F800000, 0x7F800000), (.gelu, 0xFF800000, 0x80000000)],
    q.1.apply q.2.1 = q.2.2) ∧
  (∀ x : Nat, 0x80000000 < x → x ≤ 0xFF800000 →
    LaneFn.log.apply x = 0x7FC00000 ∧ LaneFn.log2.apply x = 0x7FC00000 ∧ LaneFn.rsq.apply x = 0x7FC00000) ∧
  (∀ f ∈ [LaneFn.exp, LaneFn.exp2], ∀ (x : Nat) (neg : Bool) (m : Nat) (e : Int), ofF32 x = .fin neg m e →
    f.exact neg m e < 2 ^ 363 → f.apply x = 0)

/-- VRED_ADD, VRED_MAX, VRED_MIN, VBCAST, VBAR and VEXIT (R176, R195 to R197, R205, R206, R221): what every active thread receives, the
flag of an empty maximum or minimum, the barrier, and the end of threads, of a block, and the block that follows it. Which active thread
VBCAST reads is a free value (log entry 27). -/
def Obligations.GroupOperationsOfActiveThreads : Prop :=
  (∀ (s : State) (c g x : Nat) (w : ThreadWord) (k : Work), ThreadIssues s c g x k → g < 64 →
    ∃ t, exec (.vredAdd c g w) s = .next t ∧
      Delivers s t c g w (fTree ((s.activeOf c g w).map fun j => (s.thread c g j).reg (w.a % 32))) ∧
      { t with threads := s.threads, regs := s.regs, cores := s.cores } = s) ∧
  (∀ (s : State) (c g x : Nat) (w : ThreadWord) (k : Work) (v : Nat) (vs : List Nat), ThreadIssues s c g x k → g < 64 →
    ((s.activeOf c g w).map fun j => (s.thread c g j).reg (w.a % 32)) = v :: vs →
    (∃ t, exec (.vredMax c g w) s = .next t ∧ Delivers s t c g w (vs.foldl fMax v) ∧
      { t with threads := s.threads, regs := s.regs, cores := s.cores } = s) ∧
    (∃ t, exec (.vredMin c g w) s = .next t ∧ Delivers s t c g w (vs.foldl fMin v) ∧
      { t with threads := s.threads, regs := s.regs, cores := s.cores } = s)) ∧
  (∀ con ∈ ([.vredMax, .vredMin] : List (Nat → Nat → ThreadWord → Instr)), ∀ (s : State) (c g x : Nat) (w : ThreadWord) (k : Work),
    ThreadIssues s c g x k → g < 64 → s.activeOf c g w = [] → ∃ t, exec (con c g w) s = .next t ∧ (∀ r, LaneLeaves s t c g r w) ∧
      t.reg (Obj.emptyReductionFlag c x) = bumpEvents (s.reg (Obj.emptyReductionFlag c x)) ∧
      RegsBut [Obj.vectorIssueCount c, Obj.emptyReductionFlag c x] s t ∧ { t with regs := s.regs, cores := s.cores } = s) ∧
  (∀ (s : State) (c g x : Nat) (w : ThreadWord) (k : Work), ThreadIssues s c g x k → g < 64 → s.activeOf c g w ≠ [] →
    ∃ (t : State) (j : Nat), j ∈ s.activeOf c g w ∧ exec (.vbcast c g w) s = .next t ∧
      Delivers s t c g w ((s.thread c g j).reg (w.a % 32)) ∧
      { t with threads := s.threads, regs := s.regs, cores := s.cores, drawn := s.drawn } = s) ∧
  (∀ (s : State) (c g x : Nat) (w : ThreadWord) (k : Work), ThreadIssues s c g x k → g < 64 → s.activeOf c g w = [] →
    ∃ t, exec (.vbcast c g w) s = .next t ∧ (∀ r, LaneLeaves s t c g r w) ∧ { t with regs := s.regs, cores := s.cores } = s) ∧
  (∀ (s : State) (c g x : Nat) (w : ThreadWord) (k : Work), ThreadIssues s c g x k → g < 64 →
    ∃ t, exec (.vbar c g w) s = .next t ∧ (∀ r, LaneLeaves s t c g r w) ∧ RegsBut [Obj.vectorIssueCount c] s t ∧
      { t with regs := s.regs, cores := s.cores } = s) ∧
  (∀ (s : State) (c g x : Nat) (w : ThreadWord) (k : Work) (j : Nat), ThreadIssues s c g x k → g < 64 → j < 64 →
    (s.thread c g j).exited = false → (s.thread c g j).active w = false → ∃ t, exec (.vexit c g w) s = .next t ∧
      (∀ i, i < 64 → (t.thread c g i).exited = ((s.thread c g i).exited || (s.thread c g i).active w)) ∧
      (∀ r, LaneLeaves s t c g r w) ∧ RegsBut [Obj.vectorIssueCount c] s t ∧
      { t with threads := s.threads, regs := s.regs, cores := s.cores } = s) ∧
  (∀ (s : State) (c g x : Nat) (w : ThreadWord) (k : Work), ThreadIssues s c g x k → g < 64 →
    (∀ i, i < 64 → (s.thread c g i).exited = true ∨ (s.thread c g i).active w = true) →
    (∀ kn ∈ (s.core c).kernels, kn.ctx = x → kn.blocks ≤ kn.nextBlock) → ∃ t, exec (.vexit c g w) s = .next t ∧
      (∀ i, i < 64 → (t.thread c g i).exited = true ∧ ∀ r, (t.thread c g i).reg r = (s.thread c g i).reg r) ∧
      (∀ d h i, i < 64 → h < 64 → d ≠ c ∨ h ≠ g → t.thread d h i = s.thread d h i) ∧
      t.core c = { s.core c with kernels := (s.core c).kernels.map fun kn => { kn with
        ended := if kn.groups.any (fun p => p.1 == g) then kn.ended + 1 else kn.ended,
        groups := kn.groups.filter fun p => p.1 != g, held := kn.held.filter fun p => p.1 != g } } ∧
      (∀ d, d ≠ c → t.core d = s.core d) ∧
      t.reg (Obj.vectorIssueCount c) = (s.reg (Obj.vectorIssueCount c) + 1) % 2 ^ 64 ∧ RegsBut [Obj.vectorIssueCount c] s t ∧
      { t with threads := s.threads, regs := s.regs, cores := s.cores } = s) ∧
  (∀ (s : State) (c g x b ip : Nat) (w : ThreadWord) (k : Work) (kn : Kernel), ThreadIssues s c g x k → g < 64 →
    (∀ i, i < 64 → (s.thread c g i).exited = true ∨ (s.thread c g i).active w = true) →
    (s.core c).kernels = [kn] → kn.groups = [(g, b, ip)] → kn.ctx = x → kn.nextBlock < kn.blocks → (s.ctx c x).groups = [g] →
    ∃ t, exec (.vexit c g w) s = .next t ∧
      (t.core c).kernels = [{ kn with ended := kn.ended + 1, nextBlock := kn.nextBlock + 1, groups := [(g, kn.nextBlock, kn.start)],
                                      held := kn.held.filter fun p => p.1 != g }] ∧
      (∀ i r, i < 64 → (t.thread c g i).reg r = (if r = 0 then i else if r = 1 then kn.nextBlock else if r = 2 then kn.blocks else 0)) ∧
      (∀ i, i < 64 → (t.thread c g i).preds = 15 ∧ (t.thread c g i).exited = false) ∧
      (∀ d h i, i < 64 → h < 64 → d ≠ c ∨ h ≠ g → t.thread d h i = s.thread d h i) ∧
      { t with threads := s.threads, regs := s.regs, cores := s.cores } = s)

/-- MMA (R125, R126, R130 to R133, R138, R143, R144, R147 to R156, R158, R161, R162, R187, R190): a sound instruction that is free to run
enters its product into the accumulator rows and stays issued; with OUT its rows are converted into Y, tile by tile; it waits while a mode
change is held, while its partition serves another context, and while a write or a lock of its operands is ahead; without rows or columns
it completes at once; an unsound one is a descriptor fault, poisoned rows and an integer overflow fault it, and so does a tile that cannot
be raised. An instruction that reduces over nothing leaves its rows with ACC set, and counts an empty product (log entries 142, 143,
145).
The products of a matrix instruction (R124, R125, R130, R138, R163 to R169): each floating entry is its start, or +0 with ACC clear or an
untagged row, with the passes of its row and column added in order; each integer entry is the exact sum in 48 bits, its low 40 in the
first of its two rows; an integer sum that leaves 48 bits gives no product; no other entry changes. Rows are not used in turn here (a
streamed form reuses 128 rows, R131). -/
def Obligations.MatrixProductsIssue : Prop :=
  (∀ (s : State) (c x : Nat) (k : Work) (w : MmaWord) (m : Mma) (a : AccWin) (ds : List (Desc × VSel)) (t : State) (o : MmaOps)
    (p : Product), Issues s c x k → MatrixChecked (s.started c x) c x k w false (yPlain w) (fun _ => true) m a →
    OperandsReady (s.started c x) c x (engineId c 0) k (m.asks w) ds t → m.named ds = some o →
    (w.acc && (t.core c).rowsBad a (mmaM w m) (mmaN w m)) = false →
    (t.loadPlanes c x k w m o).mmaProduct c k w m a o (t.mmaTensorId k w m) = some p → w.out = false →
    ∃ v, exec (.mma c x w) s = .next v ∧ PassesRun t v c x w m a p ∧
      IssuedLast t v c x k w m { noCounts with empty := b2n (mmaK w m == 0) } ∧
      RegsBut [Obj.preloadMissCount c, Obj.windowTruncationCount c, Obj.stochasticStepCount c, Obj.streamCycles c] t v ∧
      { v with regs := t.regs, cores := t.cores } = t) ∧
  (∀ (s : State) (c x : Nat) (k : Work) (w : MmaWord) (m : Mma) (a : AccWin) (ds : List (Desc × VSel)) (t : State) (o : MmaOps)
    (p : Product) (y : Desc × VSel), Issues s c x k → MatrixChecked (s.started c x) c x k w false (yPlain w) (fun _ => true) m a →
    OperandsReady (s.started c x) c x (engineId c 0) k (m.asks w) ds t → m.named ds = some o → o.y = some y →
    (w.acc && (t.core c).rowsBad a (mmaM w m) (mmaN w m)) = false →
    (t.loadPlanes c x k w m o).mmaProduct c k w m a o (t.mmaTensorId k w m) = some p →
    (let s1 := afterPasses t c x k w m a o p
     let rows := s1.convRows k w m p.rows
     let N := match rows with | r :: _ => r.length | [] => 0
     let tiles := tilesOf rows.length N
     let r := tileLoop (s1.outConv k w y.1) w.osc o.tout.isSome a.streams rows (3 * tiles.length) (windowsOf rows.length N) {}
     let s2 := s1.addReg 64 (Obj.tileReplayCount c) r.replays
     let mags := (tileInputs [] w.osc rows).flatten
     (∀ u n, r.faults = 0 →
       s2.storeWith k.tenant k.stepOf y.1 y.2 ⟨w.osr, false, 1⟩ 40 (tileInputs r.scales w.osc rows).flatten mags = .done u n →
       ∃ v, exec (.mma c x w) s = .next v ∧ PassesRun t v c x w m a p ∧
         IssuedLast t v c x k w m { n with
           maxMag := mags.foldl (fun a v => fMax a (magF32 v)) 0, empty := b2n (mmaK w m == 0) } ∧
         v.mem = (u.putTileScales k.tenant w.osc o.tout r.scales tiles).mem ∧ v.tenants = u.tenants ∧
         BytesBut k.tenant (y.1.places y.2 ++ match o.tout with
           | some q => tiles.map fun g => (q.1.runOff g.1 + g.2, q.2)
           | none => []) t v ∧
         v.reg (Obj.tileReplayCount c) = (t.reg (Obj.tileReplayCount c) + r.replays) % 2 ^ 64 ∧ v.ctxs = t.ctxs ∧ v.slots = t.slots) ∧
     (r.faults ≠ 0 → ∃ u v, exec (.mma c x w) s = .next v ∧ PartFaulted u v c x 8 ∧ BytesBut k.tenant (y.1.places y.2 ++ match o.tout with
           | some q => tiles.map fun g => (q.1.runOff g.1 + g.2, q.2)
           | none => []) t v ∧
       v.reg (Obj.numericFaultCount c) = (t.reg (Obj.numericFaultCount c) + r.faults) % 2 ^ 32 ∧
       ∀ q ∈ regionKeys (t.core c).mode w.part, Sparse.get 0 q (v.core c).accPoison = 1) ∧
     (r.faults = 0 →
       s2.storeWith k.tenant k.stepOf y.1 y.2 ⟨w.osr, false, 1⟩ 40 (tileInputs r.scales w.osc rows).flatten mags = .full →
       ∃ v, exec (.mma c x w) s = .next v ∧ PartFaulted s2 v c x 8) ∧
     (∀ u, r.faults = 0 →
       s2.storeWith k.tenant k.stepOf y.1 y.2 ⟨w.osr, false, 1⟩ 40 (tileInputs r.scales w.osc rows).flatten mags = .bad u →
       ∃ v, exec (.mma c x w) s = .next v ∧ PartFaulted u v c x 1))) ∧
  (∀ (s : State) (c x : Nat) (k : Work) (w : MmaWord), Issues s c x k → (s.core c).mmodeHeld ≠ [] →
    ∃ v, exec (.mma c x w) s = .next v ∧ NotYet s v c x) ∧
  (∀ (s : State) (c x : Nat) (k : Work) (w : MmaWord) (m : Mma) (a : AccWin), Issues s c x k →
    MatrixSound (s.started c x) c x k w false (yPlain w) (fun _ => true) m a → mmaM w m ≠ 0 → mmaN w m ≠ 0 →
    (s.started c x).otherServed c x w.part = true ∨ (s.started c x).writesAhead c x k (m.locked.filterMap Desc.span) = true ∨
      (∃ ds u, (s.started c x).prepAll k.asker (engineId c 0) (m.asks w) = .ready ds u ∧
        (((m.asks w).zip ds).any fun p => u.writeHeld k.tenant p.1 p.2.2) = true) →
    ∃ v, exec (.mma c x w) s = .next v ∧ NotYet s v c x) ∧
  (∀ (s : State) (c x : Nat) (k : Work) (w : MmaWord) (m : Mma) (a : AccWin), Issues s c x k →
    MatrixSound (s.started c x) c x k w false (yPlain w) (fun _ => true) m a → mmaM w m = 0 ∨ mmaN w m = 0 →
    ((m.locked.any fun d => (s.started c x).descFault k.tenant d) = false → exec (.mma c x w) s = .next (s.started c x)) ∧
    ((m.locked.any fun d => (s.started c x).descFault k.tenant d) = true → ∃ v, exec (.mma c x w) s = .next v ∧
      PartFaulted (s.started c x) v c x 8)) ∧
  (∀ (s : State) (c x : Nat) (k : Work) (w : MmaWord), Issues s c x k → (s.core c).mmodeHeld = [] →
    w.x = 0 ∨ w.w = 0 ∨ (∃ m, (s.started c x).mmaDescs k w = some m ∧
      (mmaOk w m (s.core c).mode (windowRows m (s.core c).mode w.part (s.ctx c x)) false (yPlain w m) = false ∨
       (w.acc && (s.core c).tagClash (accWin w m (s.core c).mode (s.ctx c x) (!mmaResident w (mmaM w m)
         (windowRows m (s.core c).mode w.part (s.ctx c x)))) (mmaM w m)) = true)) →
    ∃ v, exec (.mma c x w) s = .next v ∧ PartFaulted (s.started c x) v c x 8) ∧
  (∀ (s : State) (c x : Nat) (k : Work) (w : MmaWord) (m : Mma) (a : AccWin) (ds : List (Desc × VSel)) (t : State) (o : MmaOps),
    Issues s c x k → MatrixChecked (s.started c x) c x k w false (yPlain w) (fun _ => true) m a →
    OperandsReady (s.started c x) c x (engineId c 0) k (m.asks w) ds t → m.named ds = some o →
    ((w.acc && (t.core c).rowsBad a (mmaM w m) (mmaN w m)) = true → ∃ v, exec (.mma c x w) s = .next v ∧
      PartFaulted (t.loadPlanes c x k w m o) v c x 0 ∧
      ∀ q ∈ regionKeys (t.core c).mode w.part, Sparse.get 0 q (v.core c).accPoison = 1) ∧
    ((w.acc && (t.core c).rowsBad a (mmaM w m) (mmaN w m)) = false →
      (t.loadPlanes c x k w m o).mmaProduct c k w m a o (t.mmaTensorId k w m) = none → ∃ v, exec (.mma c x w) s = .next v ∧
      PartFaulted (t.loadPlanes c x k w m o) v c x 8 ∧
      ∀ q ∈ regionKeys (t.core c).mode w.part, Sparse.get 0 q (v.core c).accPoison = 1)) ∧
  (∀ (s : State) (c : Nat) (k : Work) (w : MmaWord) (m : Mma) (a : AccWin) (o : MmaOps) (id : Nat) (p : Product), m.intForm = false →
    a.int = false → a.streams = false → (partCols a.mode a.part).1 + mmaN w m ≤ 64 → s.mmaProduct c k w m a o id = some p →
    (let K := mmaK w m
     let col := (partCols a.mode a.part).1
     (∀ i j, i < mmaM w m → j < mmaN w m → Sparse.get 0 ((a.base + i) * 64 + col + j) p.core.acc =
       (floatEntry w.lst (passDepth m.x.fmt m.w.fmt (a.mode == 2)) K (s.seedOf k.tenant k.stepOf) id i j
         (if w.acc then (s.core c).floatAt a i j else 0)
         ((List.range K).map fun q => if w.xt then s.mmaElem k.tenant false o.x o.tx i q else s.mmaElem k.tenant false o.x o.tx q i)
         ((List.range K).map fun q => if w.wt then s.mmaElem k.tenant false o.w o.tw j q
           else s.mmaElem k.tenant false o.w o.tw q j)).1) ∧
     (∀ q, (∀ i j, i < mmaM w m → j < mmaN w m → q ≠ (a.base + i) * 64 + col + j) →
       Sparse.get 0 q p.core.acc = Sparse.get 0 q (s.core c).acc))) ∧
  (∀ (s : State) (c : Nat) (k : Work) (w : MmaWord) (m : Mma) (a : AccWin) (o : MmaOps) (id : Nat), m.intForm = true → a.int = true →
    a.streams = false → (partCols a.mode a.part).1 + mmaN w m ≤ 64 →
    (let K := mmaK w m
     let col := (partCols a.mode a.part).1
     let entry := fun i j => intEntry (passDepth m.x.fmt m.w.fmt (a.mode == 2)) (if w.acc then (s.core c).intAt a i j else 0)
       ((List.range K).map fun q => intOf (if w.xt then s.mmaElem k.tenant true o.x o.tx i q else s.mmaElem k.tenant true o.x o.tx q i))
       ((List.range K).map fun q => intOf (if w.wt then s.mmaElem k.tenant true o.w o.tw j q
         else s.mmaElem k.tenant true o.w o.tw q j))
     ((∃ i j, i < mmaM w m ∧ j < mmaN w m ∧ entry i j = none) → s.mmaProduct c k w m a o id = none) ∧
     ((∀ i j, i < mmaM w m → j < mmaN w m → entry i j ≠ none) → ∃ p, s.mmaProduct c k w m a o id = some p ∧
       (∀ i j e, i < mmaM w m → j < mmaN w m → entry i j = some e →
         Sparse.get 0 ((a.base + 2 * i) * 64 + col + j) p.core.acc = wrapInt 48 e % 2 ^ 40 ∧
         Sparse.get 0 ((a.base + 2 * i + 1) * 64 + col + j) p.core.acc = wrapInt 48 e / 2 ^ 40) ∧
       (∀ q, (∀ i j, i < 2 * mmaM w m → j < mmaN w m → q ≠ (a.base + i) * 64 + col + j) →
         Sparse.get 0 q p.core.acc = Sparse.get 0 q (s.core c).acc)))) ∧
  (∀ (kp : Nat) (start : Int) (xs ws : List Int), xs.length = ws.length → xs.length ≤ kp → 0 < xs.length →
    intEntry kp start xs ws =
      if in48 (start + ((xs.zip ws).map fun e => e.1 * e.2).sum) then some (start + ((xs.zip ws).map fun e => e.1 * e.2).sum) else none) ∧
  (∀ (lst kp K seed id i j start : Nat) (xs ws : List Machine.Num), xs.length = ws.length → xs.length ≤ kp → 0 < xs.length →
    (floatEntry lst kp K seed id i j start xs ws).1 = accCode (rndOf (passStochastic lst kp K 0) seed 0 id i j 0)
      ((accValue start).add (windowSum ((xs.zip ws).map fun e => e.1.mul e.2)).1))

/-- MATRIX_INSTRUCTION_COMPLETE, SHARED_LOGIC_FAULT, MMODE, MMODE_APPLY and PARTITION_SWITCH (R130, R132, R142, R143, R145, R146, R155, R160,
R162, R190). A completion drops the locks, sends the report, and lets held host writes go on. The cycles of a drain are a choice (log
entry 24). -/
def Obligations.MatrixEngineControl : Prop :=
  (∀ (s : State) (c part : Nat) (i : Issued), ((s.core c).issued.find? fun i => i.part == part) = some i →
    ∃ t : State, exec (.matrixInstructionComplete c part) s = .next t.resumeHost ∧ t.core c = { s.core c with issued := (s.core c).issued.erase i } ∧
      (∀ d, d ≠ c → t.core d = s.core d) ∧ { t with cores := s.cores, slots := s.slots } = s ∧
      (i.slot = none ∨ i.discarded = true → t.slots = s.slots) ∧
      (∀ j n, i.slot = some j → i.discarded = false → s.tenantOfCore c = some n → i.step = none →
        (t.slot j).totalSet = (s.slot j).totalSet.add i.counts ∧
        (t.slot j).lastSet = { (({} : CountSet).add i.counts) with tag := engineId c 0, time := s.up }) ∧
      (∀ j n st, i.slot = some j → i.discarded = false → s.tenantOfCore c = some n → i.step = some st →
        (((s.tenant n).step? st).isSome = true → (t.slot j).opens = addOpen st i.gradient i.counts (s.slot j).opens) ∧
        (((s.tenant n).step? st).isSome = false → t.slots = s.slots))) ∧
  (∀ s : State, (s.eth.qps.all fun p => p.2.held.isEmpty) = true → s.eth.windows = [] → s.resumeHost = s) ∧
  (∀ (s : State) (c part : Nat), ((s.core c).issued.all fun i => i.part != part) = true →
    exec (.matrixInstructionComplete c part) s = .next s) ∧
  (∀ (s : State) (c : Nat), c < 512 → s.isUp = true → s.arrayContexts c = [] → ∃ t, exec (.sharedLogicFault c) s = .next t ∧
    (t.core c).issued = [] ∧ (t.core c).acc = (s.core c).acc ∧ (∀ d, d ≠ c → t.core d = s.core d) ∧ t.ctxs = s.ctxs ∧ t.mem = s.mem ∧
    (∀ part, partOk (s.core c).mode part = true → ∀ q ∈ regionKeys (s.core c).mode part, Sparse.get 0 q (t.core c).accPoison = 1) ∧
    t.reg (Obj.sharedFaultCount c) = (s.reg (Obj.sharedFaultCount c) + 1) % 2 ^ 32 ∧
    t.reg (Obj.containedCount (c / 64)) = (s.reg (Obj.containedCount (c / 64)) + 1) % 2 ^ 64 ∧
    (∃ r : Capture, t.capture Obj.packageCapture = (s.capture Obj.packageCapture).take r ∧ r.partition = 7 ∧ r.cause = 10 ∧ r.cls = 2 ∧
      r.reporter = engineId c 0)) ∧
  (∀ (s : State) (c : Nat), c < 512 → s.isUp = true → s.arrayContexts c ≠ [] → ∃ t, exec (.sharedLogicFault c) s = .next t ∧
    (t.core c).issued = [] ∧ (t.core c).acc = (s.core c).acc ∧ (∀ d, d ≠ c → t.core d = s.core d) ∧ t.mem = s.mem ∧
    (∀ part, partOk (s.core c).mode part = true → ∀ q ∈ regionKeys (s.core c).mode part, Sparse.get 0 q (t.core c).accPoison = 1) ∧
    (∀ x ∈ s.arrayContexts c, (t.ctx c x).state = 4 ∧ (t.ctx c x).firstFault = some ((s.ctx c x).firstFault.getD (engineId c 0, 8)) ∧
      ∀ k ∈ (t.core c).kernels, k.ctx ≠ x) ∧
    (∀ x, x < 4 → x ∉ s.arrayContexts c → t.ctx c x = s.ctx c x) ∧
    t.reg (Obj.sharedFaultCount c) = (s.reg (Obj.sharedFaultCount c) + 1) % 2 ^ 32) ∧
  (∀ (s : State) (c : Nat), 512 ≤ c ∨ s.isUp = false → exec (.sharedLogicFault c) s = .next s) ∧
  (∀ (s : State) (c x mode : Nat) (k : Work), Issues s c x k → mode < 3 → ∃ t, exec (.mmode c x mode) s = .next t ∧
    t.core c = { s.core c with mmodeHeld := (s.core c).mmodeHeld ++ [(x, mode)] } ∧ t.ctxs = (s.started c x).ctxs ∧
    (∀ d, d ≠ c → t.core d = s.core d) ∧ { t with cores := s.cores, ctxs := s.ctxs } = s) ∧
  (∀ (s : State) (c x mode : Nat) (k : Work), Issues s c x k → 3 ≤ mode →
    ∃ t, exec (.mmode c x mode) s = .next t ∧ PartFaulted (s.started c x) t c x 8) ∧
  (∀ (s : State) (c x mode : Nat) (ms : List (Nat × Nat)), (s.core c).mmodeHeld = (x, mode) :: ms → (s.core c).issued = [] →
    s.gatherWaits c = false → ∃ t, exec (.mmodeApply c) s = .next t ∧ t.reg (Obj.matrixMode c) = mode ∧
      t.core c = { s.core c with mode := mode, mmodeHeld := ms, planes := [] } ∧ (∀ d, d ≠ c → t.core d = s.core d) ∧
      RegsBut [Obj.matrixMode c] s t ∧ { t with regs := s.regs, cores := s.cores } = s) ∧
  (∀ (s : State) (c : Nat), (s.core c).issued ≠ [] ∨ (s.core c).mmodeHeld = [] ∨ s.gatherWaits c = true →
    exec (.mmodeApply c) s = .next s) ∧
  (∀ (s : State) (c part x y : Nat), (Sparse.get {} part (s.core c).planes).tag = some y → (s.ctx c y).state = 3 →
    partOk (s.core c).mode part = true → s.nextReady c y = some x →
    ∃ t, exec (.partitionSwitch c part) s = .next t ∧ (Sparse.get {} part (t.core c).planes).tag = some x ∧
      (Sparse.get {} part (t.core c).planes).current = 1 - (Sparse.get {} part (s.core c).planes).current ∧
      (let tile := ((Sparse.get {} part (s.core c).planes).tiles.find? fun q => q.1 == x).map (·.2)
       ((Sparse.get {} part (s.core c).planes).current = 1 → (Sparse.get {} part (t.core c).planes).tileA = tile ∧
         (Sparse.get {} part (t.core c).planes).tileB = (Sparse.get {} part (s.core c).planes).tileB) ∧
       ((Sparse.get {} part (s.core c).planes).current ≠ 1 → (Sparse.get {} part (t.core c).planes).tileB = tile ∧
         (Sparse.get {} part (t.core c).planes).tileA = (Sparse.get {} part (s.core c).planes).tileA)) ∧
      (∀ q, q ≠ part → Sparse.get {} q (t.core c).planes = Sparse.get {} q (s.core c).planes) ∧
      t.reg (Obj.contextSwitchCount c) = (s.reg (Obj.contextSwitchCount c) + 1) % 2 ^ 64 ∧
      RegsBut [Obj.contextSwitchCount c, Obj.switchCycles c] s t ∧ (∀ d, d ≠ c → t.core d = s.core d) ∧
      { t.core c with planes := (s.core c).planes } = s.core c ∧ { t with regs := s.regs, cores := s.cores } = s) ∧
  (∀ (s : State) (c part : Nat), (∀ y, (Sparse.get {} part (s.core c).planes).tag = some y → (s.ctx c y).state ≠ 3 ∨
    s.nextReady c y = none) ∨ partOk (s.core c).mode part = false → exec (.partitionSwitch c part) s = .next s)

/-- CC_AR, CC_RS, CC_AG, CC_A2A, CC_BCAST and CC_RECV (R376, R509, R512 to R514): a copy that passes its checks joins its instance with the
source's values, its ranges locked and its token outstanding; where it is the last to contribute, the instance goes on as JOIN's rules
say; one without its tensors is a descriptor fault, and one whose token is not free an instruction fault.
MMA_RS, MMA_AR, MMA_SEND, MMA_A2A and MMA_AG (R376, R509 to R514, R531, R532): the product of a form that passes its checks enters the
accumulator, stays issued and joins its instance; an all-gather joins with its own part of X and runs its product when the input is whole.
A form without Y is a descriptor fault, and waits while a mode change is held. A form that reduces over nothing counts an empty product
(log entry 142). -/
def Obligations.CollectiveInstructionsJoin : Prop :=
  (∀ p ∈ copyTable, (∀ (s : State) (c x : Nat) (k : Work) (w : CcWord) (xd yd : Desc) (i : Inst) (ds : List (Desc × VSel)) (t : State)
      (route : List Nat) (d : Desc) (v : VSel) (rest : List (Desc × VSel)), Issues s c x k →
      CopyReady (s.started c x) c x k w p.2 xd yd i ds t route → ds = (d, v) :: rest →
      (let q : Contrib := { core := c, ctx := x, x := w.x, y := w.y, sr := w.sr, ovf := w.ovf, word := none,
                            vals := if p.2 = .receive then [] else t.exactValues k.tenant v d, route := route }
       let locks := (ds.map (·.1)).filterMap Desc.span
       exec (p.1 c x w) s = .next (t.joinInst i q locks) ∧
       (StillOpen t i q locks → ∃ u, exec (p.1 c x w) s = .next u ∧ Joined t u i q locks))) ∧
    (∀ (s : State) (c x : Nat) (k : Work) (w : CcWord), Issues s c x k → w.y = 0 ∨ (w.x = 0 ∧ p.2 ≠ .receive) → ∃ t,
      exec (p.1 c x w) s = .next t ∧ CtxFaulted (s.started c x) t c x (agentUnit c) 8)) ∧
  (∀ p ∈ ([(.mmaRs, .reduceScatter), (.mmaAr, .allReduce), (.mmaSend, .send), (.mmaA2a, .allToAll)] :
      List ((Nat → Nat → MmaWord → Instr) × CollForm)), ∀ (s : State) (c x : Nat) (k : Work) (w : MmaWord) (y : Desc) (m : Mma)
      (a : AccWin) (o : MmaOps) (i : Inst) (ds ps : List (Desc × VSel)) (t u : State) (route : List Nat) (q : Product)
      (vals : List Machine.Num), Issues s c x k → FusedReady (s.started c x) c x k w p.2 y m a o i ds ps t u →
      (if p.2 = .allToAll then u.routeOf k ((s.started c x).planOf k.tenant w.cp) (mmaM w m) i.size
        else some (List.replicate (mmaM w m) ((i.rank + 1) % i.size))) = some route →
      (w.acc && (u.core c).rowsBad a (mmaM w m) (mmaN w m)) = false →
      (u.loadPlanes c x k w m o).mmaProduct c k w m a o (u.mmaTensorId k w m) = some q →
      (afterPasses u c x k w m a o q).fusedVals k w y i.native ((afterPasses u c x k w m a o q).convRows k w m q.rows) = some vals →
      (let quiet := { w with out := false }
       let part : Contrib := { core := c, ctx := x, x := w.x, y := w.y, sr := w.osr, ovf := false, word := none, vals := vals,
                               route := route }
       let locks := y.span.toList ++ (ps.map (·.1)).filterMap Desc.span
       let n : Counts := { noCounts with empty := b2n (mmaK w m == 0) }
       ∃ v, PassesRun u v c x w m a q ∧ IssuedLast u v c x k quiet m n ∧ { v with regs := u.regs, cores := u.cores } = u ∧
         exec (p.1 c x w) s = .next (v.joinInst i part locks) ∧
         (StillOpen v i part locks → ∃ z, exec (p.1 c x w) s = .next z ∧ Joined v z i part locks))) ∧
  (∀ (s : State) (c x : Nat) (k : Work) (w : MmaWord) (y : Desc) (m : Mma) (a : AccWin) (o : MmaOps) (i : Inst)
      (ds ps : List (Desc × VSel)) (t u : State), Issues s c x k → FusedReady (s.started c x) c x k w .allGather y m a o i ds ps t u →
      (let all := u.exactValues k.tenant o.x.2 o.x.1
       let part : Contrib := { core := c, ctx := x, x := w.x, y := w.y, sr := w.osr, ovf := false, word := some w,
                               vals := (all.drop (i.rank * (all.length / i.size))).take (all.length / i.size), route := [] }
       let locks := m.locked.filterMap Desc.span ++ y.span.toList ++ (ps.map (·.1)).filterMap Desc.span
       exec (.mmaAg c x w) s = .next (u.joinInst i part locks) ∧
       (StillOpen u i part locks → ∃ z, exec (.mmaAg c x w) s = .next z ∧ Joined u z i part locks))) ∧
  (∀ con ∈ ([.mmaRs, .mmaAg, .mmaAr, .mmaA2a, .mmaSend] : List (Nat → Nat → MmaWord → Instr)), ∀ (s : State) (c x : Nat) (k : Work)
      (w : MmaWord), Issues s c x k →
      (w.y = 0 ∨ ((s.core c).mmodeHeld = [] ∧ (w.x = 0 ∨ w.w = 0)) → ∃ v, exec (con c x w) s = .next v ∧
        PartFaulted (s.started c x) v c x 8) ∧
      (w.y ≠ 0 → (s.core c).mmodeHeld ≠ [] → ∃ v, exec (con c x w) s = .next v ∧ NotYet s v c x))

/-- THREAD_LOAD, VLD_I and THREAD_STORE (R89, R91, R106 to R108, R116, R195, R199 to R201, R219, R274, R276, R288): a load delivers to each
active thread its element as F32, or as I32 for VLD.I (an element that is no integer gives a free value, log entry 28); a store converts
the values of the active threads into the elements their index registers name, of several threads that name one element one of them
(log entry 27), and into a block-scaled tensor whole blocks. An index beyond the extents is an address fault; no tensor, S8, and a store
to FX or to a part of a block are descriptor faults. A group that must wait for a version stays at its word. -/
def Obligations.ThreadLoadsAndStores : Prop :=
  (∀ (s : State) (c g x : Nat) (w : ThreadWord) (k : Work) (d d1 : Desc) (v : VSel) (t : State), ThreadIssues s c g x k → g < 64 →
    s.slotDesc k w.a = some d → d.fmt ≠ fmtS8 → s.descFault k.tenant d = false →
    ((s.indexes c g w (s.activeOf c g w)).all fun p => decide (p.2 < d.count)) = true →
    s.prepAt k.asker d d.vtag false (vectorUnit c) ((s.indexes c g w (s.activeOf c g w)).flatMap fun p => d.elemReads p.2) =
      .ready d1 v t →
    (∃ u, exec (.threadLoad c g w) s = .next u ∧ LaneLeaves t u c g (w.d % 32) w ∧
      (∀ i ∈ s.activeOf c g w, (u.thread c g i).reg (w.d % 32) =
        (readAs d1.fmt (t.elemValue k.tenant v d1 ((s.thread c g i).reg (w.b % 32) / d1.e0)
          ((s.thread c g i).reg (w.b % 32) % d1.e0))).1 % 2 ^ 32) ∧
      (∀ i, i < 64 → (u.thread c g i).exited = (t.thread c g i).exited) ∧
      RegsBut [Obj.vectorIssueCount c, Obj.scaledRangeCount c, Obj.lateLiftCount k.tenant] t u ∧
      { u with threads := t.threads, regs := t.regs, cores := t.cores } = t) ∧
    (∀ n sg, intFmt d1.fmt = some (n, sg) → ∃ u, exec (.vldI c g w) s = .next u ∧ LaneLeaves t u c g (w.d % 32) w ∧
      (∀ i ∈ s.activeOf c g w, (u.thread c g i).reg (w.d % 32) =
        (let e := t.rawElem k.tenant v d1 ((s.thread c g i).reg (w.b % 32) / d1.e0) ((s.thread c g i).reg (w.b % 32) % d1.e0)
         if sg then wrapInt 32 (signedOf n e) else e % 2 ^ n) % 2 ^ 32) ∧
      (∀ i, i < 64 → (u.thread c g i).exited = (t.thread c g i).exited) ∧
      RegsBut [Obj.vectorIssueCount c, Obj.lateLiftCount k.tenant] t u ∧
      { u with threads := t.threads, regs := t.regs, cores := t.cores } = t) ∧
    (intFmt d1.fmt = none → ∃ u, exec (.vldI c g w) s = .next u ∧ LaneLeaves t u c g (w.d % 32) w ∧
      (∀ i, i < 64 → (u.thread c g i).exited = (t.thread c g i).exited) ∧
      RegsBut [Obj.vectorIssueCount c, Obj.lateLiftCount k.tenant] t u ∧
      { u with threads := t.threads, regs := t.regs, cores := t.cores, drawn := t.drawn } = t)) ∧
  (∀ con ∈ ([.threadLoad, .vldI] : List (Nat → Nat → ThreadWord → Instr)), ∀ (s : State) (c g x : Nat) (w : ThreadWord) (k : Work),
    ThreadIssues s c g x k →
    (w.a = 0 ∨ (∃ d, s.slotDesc k w.a = some d ∧ (d.fmt = fmtS8 ∨ s.descFault k.tenant d = true)) →
      ∃ t, exec (con c g w) s = .next t ∧ CtxFaulted s t c x (vectorUnit c) 8) ∧
    (∀ d, s.slotDesc k w.a = some d → d.fmt ≠ fmtS8 → s.descFault k.tenant d = false →
      (((s.indexes c g w (s.activeOf c g w)).any fun p => decide (d.count ≤ p.2)) = true →
        ∃ t, exec (con c g w) s = .next t ∧ CtxFaulted s t c x (vectorUnit c) 0) ∧
      (((s.indexes c g w (s.activeOf c g w)).any fun p => decide (d.count ≤ p.2)) = false →
        (∀ e a u, s.prepAt k.asker d d.vtag false (vectorUnit c)
          ((s.indexes c g w (s.activeOf c g w)).flatMap fun p => d.elemReads p.2) = .fault e a u → ∃ t, exec (con c g w) s = .next t ∧
          CtxFaulted u t c x (vectorUnit c) (if e = .address ∨ e = .version ∨ e = .poison then 0 else 8)) ∧
        (∀ wait u, s.prepAt k.asker d d.vtag false (vectorUnit c)
          ((s.indexes c g w (s.activeOf c g w)).flatMap fun p => d.elemReads p.2) = .wait wait u → ∃ t, exec (con c g w) s = .next t ∧
          (t.kernelOn c g).map (·.2) = (s.kernelOn c g).map (·.2) ∧ t.ctxs = (if (s.groupWait c g).goesOn wait then s else u).ctxs ∧
          { t with cores := s.cores } = { (if (s.groupWait c g).goesOn wait then s else u) with cores := s.cores })))) ∧
  (∀ (s : State) (c g x : Nat) (int : Bool) (w : ThreadWord) (k : Work) (d d1 : Desc) (v : VSel) (t : State) (ws : List (Nat × Nat)),
    ThreadIssues s c g x k → g < 64 → s.slotDesc k w.d = some d → d.fmt ≠ fmtS8 → d.fmt ≠ fmtFX32 → d.fmt ≠ fmtFX24 →
    s.descFault k.tenant d = false →
    ws = (s.activeOf c g w).map (fun i => ((s.thread c g i).reg (w.b % 32), (s.thread c g i).reg (w.c % 32))) →
    (ws.all fun p => decide (p.1 < d.count)) = true →
    s.prepAt k.asker d d.vtag true (vectorUnit c) [] = .ready d1 v t →
    (t.elemsHeld k.tenant d1 v (ws.map (·.1)) = true → (isNarrow d.fmt && d.block != 0) = false →
      exec (.threadStore c g int w) s = .next s) ∧
    (t.elemsHeld k.tenant d1 v (ws.map (·.1)) = false → (isNarrow d.fmt && d.block != 0) = false →
      ∃ (es : List (Nat × Nat)) (n : Nat), es.map (·.1) = (ws.map (·.1)).eraseDups ∧ (∀ p ∈ es, p ∈ ws) ∧
        StoreAnswers { t with drawn := n } c x (vectorUnit c) (exec (.threadStore c g int w) s)
          (fun u m z => (∀ r, LaneLeaves t z c g r w) ∧ Stores { t with drawn := n } u z k.tenant (d1.elemPlaces v (ws.map (·.1))) ∧
            z.slots = (u.judgeDesc k d1 (vectorUnit c) m).slots ∧ RegsBut [Obj.vectorIssueCount c] t z)
          (({ t with drawn := n } : State).storeElems k d1 v w int (es.map fun p => [p]))) ∧
    (t.elemsHeld k.tenant d1 v (ws.map (·.1)) = false → (isNarrow d.fmt && d.block != 0) = true →
      ∀ pieces, d.blockPieces (blockSize d.block) ws.length ws = some pieces →
        StoreAnswers t c x (vectorUnit c) (exec (.threadStore c g int w) s)
          (fun u m z => (∀ r, LaneLeaves t z c g r w) ∧ Stores t u z k.tenant (d1.elemPlaces v (ws.map (·.1))) ∧
            z.slots = (u.judgeDesc k d1 (vectorUnit c) m).slots ∧ RegsBut [Obj.vectorIssueCount c] t z)
          (t.storeElems k d1 v w int pieces)) ∧
    ((isNarrow d.fmt && d.block != 0) = true → d.blockPieces (blockSize d.block) ws.length ws = none →
      ∃ z, exec (.threadStore c g int w) s = .next z ∧ CtxFaulted s z c x (vectorUnit c) 8)) ∧
  (∀ (s : State) (c g x : Nat) (int : Bool) (w : ThreadWord) (k : Work), ThreadIssues s c g x k →
    (w.d = 0 ∨ (∃ d, s.slotDesc k w.d = some d ∧
        (d.fmt = fmtS8 ∨ d.fmt = fmtFX32 ∨ d.fmt = fmtFX24 ∨ s.descFault k.tenant d = true)) →
      ∃ t, exec (.threadStore c g int w) s = .next t ∧ CtxFaulted s t c x (vectorUnit c) 8) ∧
    (∀ d, s.slotDesc k w.d = some d → d.fmt ≠ fmtS8 → d.fmt ≠ fmtFX32 → d.fmt ≠ fmtFX24 → s.descFault k.tenant d = false →
      (∃ i ∈ s.activeOf c g w, d.count ≤ (s.thread c g i).reg (w.b % 32)) →
      ∃ t, exec (.threadStore c g int w) s = .next t ∧ CtxFaulted s t c x (vectorUnit c) 1))

/-- RNORM_F, RNORM_B and RNORM_P (R100, R173, R207, R208, R211, R221, R288): with good descriptors, entries and operands, each row's output
and entry follow R211. A tensor missing is a descriptor fault.
RSMAX_F and RSMAX_B (R100, R173, R206 to R208, R212 to R214, R221, R288): the rows and entries of R213 and R214, masked elements left out;
each row whose maximum is empty raises the context's empty-reduction flag. -/
def Obligations.RowInstructions : Prop :=
  (∀ (s : State) (c x : Nat) (w : RowWord) (k : Work) (xd yd xp yp : Desc) (xv yv : VSel) (rest : List (Desc × VSel)) (t : State),
    Issues s c x k → (let u := s.started c x
      let gd := u.slotDesc k w.g
      let bd := u.slotDesc k w.b
      rowSlots [u.slotDesc k w.x, u.slotDesc k w.y] = some [xd, yd] → xd.sameShape yd = true → optVecOk xd.e0 gd = true →
      optVecOk xd.e0 bd = true → u.sideOutside c x w.sbase xd.runs = false →
      OperandsReady u c x (rowUnit c) k ([askRead xd, askWrite yd] ++ optAsk false gd ++ optAsk false bd)
        ((xp, xv) :: (yp, yv) :: rest) t →
      (let (xs, t1) := t.takeF32s c k.tenant xv xp
       let (gs, t2) := t1.takeOpt c k.tenant (if gd.isSome then rest.head? else none)
       let (bs, t3) := t2.takeOpt c k.tenant (if bd.isSome then (if gd.isSome then rest.tail.head? else rest.head?) else none)
       let out := (normRows t c x w xp xp xs [] gs bs).1
       StoreAnswers t3 c x (rowUnit c) (exec (.rnormF c x w) s) (fun z n v => RowStored t z v c k yp yv n ∧
           SideSet t v c x w.sbase out.2 ∧ RegsBut [Obj.scaledRangeCount c, Obj.rowInstructionCount c] t v)
         (t3.storeValues k.tenant k.stepOf yp yv (rowMode w.sr w.ovf) 32 (f32Nums out.1))))) ∧
  (∀ (s : State) (c x : Nat) (w : RowWord) (k : Work) (xd yd gd xp yp gp : Desc) (xv yv gv : VSel) (rest : List (Desc × VSel))
    (t : State), Issues s c x k → (let u := s.started c x
      let bd := u.slotDesc k w.b
      rowSlots [u.slotDesc k w.x, u.slotDesc k w.y, u.slotDesc k w.g] = some [xd, yd, gd] → xd.sameShape yd = true →
      xd.sameShape gd = true → optVecOk xd.e0 bd = true → u.sideOutside c x w.sbase xd.runs = false →
      u.sideBad c x w.sbase xd.runs = false →
      OperandsReady u c x (rowUnit c) k ([askRead xd, askWrite yd, askRead gd] ++ optAsk false bd)
        ((xp, xv) :: (yp, yv) :: (gp, gv) :: rest) t →
      (let (xs, t1) := t.takeF32s c k.tenant xv xp
       let (dys, t2) := t1.takeF32s c k.tenant gv gp
       let (gs, t3) := t2.takeOpt c k.tenant rest.head?
       StoreAnswers t3 c x (rowUnit c) (exec (.rnormB c x w) s) (fun z n v => RowStored t z v c k yp yv n ∧ v.core c = t.core c ∧
           RegsBut [Obj.scaledRangeCount c, Obj.rowInstructionCount c] t v)
         (t3.storeValues k.tenant k.stepOf yp yv (rowMode w.sr w.ovf) 32 (f32Nums (normRows t c x w xp gp xs dys gs none).2.1))))) ∧
  (∀ (s : State) (c x : Nat) (w : RowWord) (k : Work) (xd yd gd xp yp gp : Desc) (xv yv gv : VSel) (t : State), Issues s c x k →
    (w.mode = true ∨ w.b = 0) → (let u := s.started c x
      rowSlots [u.slotDesc k w.x, u.slotDesc k w.y, u.slotDesc k w.g] = some [xd, yd, gd] →
      xd.sameShape gd = true → yd.isVec xd.e0 = true → u.sideOutside c x w.sbase xd.runs = false →
      u.sideBad c x w.sbase xd.runs = false →
      OperandsReady u c x (rowUnit c) k [askRead xd, askWrite yd, askRead gd] [(xp, xv), (yp, yv), (gp, gv)] t →
      (let (xs, t1) := t.takeF32s c k.tenant xv xp
       let (dys, t2) := t1.takeF32s c k.tenant gv gp
       StoreAnswers t2 c x (rowUnit c) (exec (.rnormP c x w) s) (fun z n v => RowStored t z v c k yp yv n ∧ v.core c = t.core c ∧
           RegsBut [Obj.scaledRangeCount c, Obj.rowInstructionCount c] t v)
         (t2.storeValues k.tenant k.stepOf yp yv (rowMode w.sr w.ovf) 32 (f32Nums [(normRows t c x w xp gp xs dys none none).2.2]))))) ∧
  (∀ (s : State) (c x : Nat) (w : RowWord) (k : Work) (xd yd gd bd xp yp gp bp : Desc) (xv yv gv bv : VSel) (t : State), Issues s c x k →
    w.mode = false → (let u := s.started c x
      rowSlots [u.slotDesc k w.x, u.slotDesc k w.y, u.slotDesc k w.g] = some [xd, yd, gd] → u.slotDesc k w.b = some bd →
      xd.sameShape gd = true → yd.isVec xd.e0 = true → optVecOk xd.e0 (some bd) = true → u.sideOutside c x w.sbase xd.runs = false →
      u.sideBad c x w.sbase xd.runs = false →
      OperandsReady u c x (rowUnit c) k [askRead xd, askWrite yd, askRead gd, askAt bd bd.vtag true]
        [(xp, xv), (yp, yv), (gp, gv), (bp, bv)] t →
      (let (xs, t1) := t.takeF32s c k.tenant xv xp
       let (dys, t2) := t1.takeF32s c k.tenant gv gp
       let store := fun (z : State) (d : Desc) (v : VSel) (vals : List Nat) =>
         z.storeValues k.tenant k.stepOf d v (rowMode w.sr w.ovf) 32 (f32Nums [vals])
       let dg := (normRows t c x w xp gp xs dys none none).2.2
       let db := (List.range xp.e0).map fun j => fTree (column (gp.rowsOf dys) j)
       (∀ y n b m, store t2 yp yv dg = .done y n → store y bp bv db = .done b m → ∃ v, exec (.rnormP c x w) s = .next v ∧
         Stores t b v k.tenant (yp.places yv ++ bp.places bv) ∧ v.core c = t.core c ∧
         v.slots = (b.judgeAll k (rowUnit c) [(yp, n), (bp, m)]).slots ∧
         v.reg (Obj.rowInstructionCount c) = (t.reg (Obj.rowInstructionCount c) + 1) % 2 ^ 64 ∧
         RegsBut [Obj.scaledRangeCount c, Obj.rowInstructionCount c] t v) ∧
       (∀ y n, store t2 yp yv dg = .done y n → store y bp bv db = .full → ∃ v, exec (.rnormP c x w) s = .next v ∧
         CtxFaulted t2 v c x (rowUnit c) 8) ∧
       (∀ y n b, store t2 yp yv dg = .done y n → store y bp bv db = .bad b → ∃ v, exec (.rnormP c x w) s = .next v ∧
         CtxFaulted b v c x (rowUnit c) 1)))) ∧
  (∀ con ∈ rowForms, ∀ (s : State) (c x : Nat) (w : RowWord) (k : Work), Issues s c x k → w.x = 0 ∨ w.y = 0 →
    ∃ v, exec (con c x w) s = .next v ∧ CtxFaulted (s.started c x) v c x (rowUnit c) 8) ∧
  (∀ p ∈ rowReaders, ∀ (s : State) (c x : Nat) (w : RowWord) (k : Work) (xd yd gd : Desc), Issues s c x k → p.2.1 w = true →
    rowSlots [(s.started c x).slotDesc k w.x, (s.started c x).slotDesc k w.y, (s.started c x).slotDesc k w.g] = some [xd, yd, gd] →
    (s.started c x).sideOutside c x w.sbase xd.runs = true →
    ∃ v, exec (p.1 c x w) s = .next v ∧ CtxFaulted (s.started c x) v c x (rowUnit c) 8) ∧
  (∀ con ∈ ([.rnormF, .rsmaxF] : List (Nat → Nat → RowWord → Instr)), ∀ (s : State) (c x : Nat) (w : RowWord) (k : Work) (xd yd : Desc),
    Issues s c x k → rowSlots [(s.started c x).slotDesc k w.x, (s.started c x).slotDesc k w.y] = some [xd, yd] →
    (s.started c x).sideOutside c x w.sbase xd.runs = true →
    ∃ v, exec (con c x w) s = .next v ∧ CtxFaulted (s.started c x) v c x (rowUnit c) 8) ∧
  (∀ p ∈ rowReaders, ∀ (s : State) (c x : Nat) (w : RowWord) (k : Work) (xd yd gd : Desc), Issues s c x k → p.2.1 w = true → w.b = 0 →
    w.bmask = false →
    rowSlots [(s.started c x).slotDesc k w.x, (s.started c x).slotDesc k w.y, (s.started c x).slotDesc k w.g] = some [xd, yd, gd] →
    xd.sameShape gd = true → p.2.2 xd yd = true →
    (s.started c x).sideOutside c x w.sbase xd.runs = false → (s.started c x).sideBad c x w.sbase xd.runs = true →
    ∃ v, exec (p.1 c x w) s = .next v ∧ CtxFaulted (s.started c x) v c x (rowUnit c) 0) ∧
  (∀ (s : State) (c x : Nat) (w : RowWord) (k : Work) (xd yd xp yp : Desc) (xv yv : VSel) (rest : List (Desc × VSel)) (t : State),
    Issues s c x k → (let u := s.started c x
      let md := if w.bmask then u.slotDesc k w.b else none
      rowSlots [u.slotDesc k w.x, u.slotDesc k w.y] = some [xd, yd] → xd.sameShape yd = true → maskOk w xd md = true →
      u.sideOutside c x w.sbase xd.runs = false →
      OperandsReady u c x (rowUnit c) k ([askRead xd, askWrite yd] ++ optAsk false md) ((xp, xv) :: (yp, yv) :: rest) t →
      (let (xs, t1) := t.takeF32s c k.tenant xv xp
       let out := ((List.range xp.runs).zip (xp.rowsOf xs)).map fun p =>
         softForward w.imm ((List.range xp.e0).map (t1.unmasked k.tenant w rest.head? p.1)) p.2
       let flag := Obj.emptyReductionFlag c x
       StoreAnswers t1 c x (rowUnit c) (exec (.rsmaxF c x w) s) (fun z n v => RowStored t z v c k yp yv n ∧
           SideSet t v c x w.sbase (out.map (·.2.1)) ∧
           v.reg flag = (out.filter (·.2.2)).foldl (fun a _ => bumpEvents a) (t.reg flag) ∧
           RegsBut [Obj.scaledRangeCount c, Obj.rowInstructionCount c, flag] t v)
         (t1.storeValues k.tenant k.stepOf yp yv (rowMode w.sr w.ovf) 32 (f32Nums (out.map (·.1))))))) ∧
  (∀ (s : State) (c x : Nat) (w : RowWord) (k : Work) (xd yd gd xp yp gp : Desc) (xv yv gv : VSel) (rest : List (Desc × VSel))
    (t : State), Issues s c x k → (let u := s.started c x
      let md := if w.bmask then u.slotDesc k w.b else none
      rowSlots [u.slotDesc k w.x, u.slotDesc k w.y, u.slotDesc k w.g] = some [xd, yd, gd] → xd.sameShape yd = true →
      xd.sameShape gd = true → maskOk w xd md = true →
      (w.psrc = true ∨ (u.sideOutside c x w.sbase xd.runs = false ∧ u.sideBad c x w.sbase xd.runs = false)) →
      OperandsReady u c x (rowUnit c) k ([askRead xd, askWrite yd, askRead gd] ++ optAsk false md)
        ((xp, xv) :: (yp, yv) :: (gp, gv) :: rest) t →
      (let (xs, t1) := t.takeF32s c k.tenant xv xp
       let (dps, t2) := t1.takeF32s c k.tenant gv gp
       let out := ((List.range xp.runs).zip ((xp.rowsOf xs).zip (gp.rowsOf dps))).map fun p =>
         softBackward w.imm w.psrc (t.sideEntry c x w.sbase p.1)
           ((List.range xp.e0).map (t2.unmasked k.tenant w rest.head? p.1)) p.2.1 p.2.2
       StoreAnswers t2 c x (rowUnit c) (exec (.rsmaxB c x w) s) (fun z n v => RowStored t z v c k yp yv n ∧ v.core c = t.core c ∧
           RegsBut [Obj.scaledRangeCount c, Obj.rowInstructionCount c] t v)
         (t2.storeValues k.tenant k.stepOf yp yv (rowMode w.sr w.ovf) 32 (f32Nums out)))))

/-- RUPD_AM, RUPD_MOM and RUPD_SGN (R259 to R264, R279, R281, R288, R289): on good operands, with room for the update record in its step's
list, each element's new moments and update are those of R260; the moments go into their pending versions and the update into U. A slot
missing, a descriptor R281 does not admit, and a full list are descriptor faults.
The kernels of R260 element by element: with no decoupled decay and γ = 1, the momentum kernel's new moment is β1 m + (g + λ w)
and its update −η times it; the sign kernel's update is −η times the sign.
RFOLD (R257, R266, R267, R280, R288, R289): on good operands each master weight takes the exact sum of itself and its update, rounded
once with the random values of stage 3; Y, where it is named, takes the folded values. A slot missing or a descriptor R267 does not admit
is a descriptor fault. -/
def Obligations.UpdateInstructions : Prop :=
  (∀ p ∈ [((.rupdMom : Nat → Nat → UpdWord → Instr), UpdKind.mom), (.rupdSgn, .sgn)], ∀ (s : State) (c x : Nat) (w : UpdWord)
    (k : Work) (o : UpdOps) (asks : List OpAsk) (gp wp xp hp rp mp ud rd md : Desc × VSel) (t t0 : State), Issues s c x k →
    (s.started c x).updOps k w false = some o → o.ok = true →
    (s.started c x).optimAsks k.tenant [(o.g, false), (o.w, false), (o.wx, false), (o.h, false), (o.r, false), (o.m1, false),
      (o.u, true), (o.r, true), (o.m1, true)] = asks →
    OperandsReady (s.started c x) c x (rowUnit c) k asks [gp, wp, xp, hp, rp, mp, ud, rd, md] t →
    t.listUpd k.tenant (t.recStep k.tenant k.stepOf) (offOf o.r.address) = some t0 →
    (let (gs, t1) := t0.takeF32s c k.tenant gp.2 gp.1
     let out := updOut t1 k.tenant w p.2 gs (List.replicate gs.length 0) wp hp mp
     StoreAnswers t1 c x (rowUnit c) (exec (p.1 c x w) s)
       (fun a m v => UpdEnds t a c x k ud (offOf o.r.address) (out.map (·.2.2)) [(md.1, m)] (md.1.places md.2) v)
       (t1.storeValues k.tenant k.stepOf md.1 md.2 (rowMode w.sr w.ovf) 32 (out.map fun q => ofF32 q.1)))) ∧
  (∀ (s : State) (c x : Nat) (w : UpdWord) (k : Work) (o : UpdOps) (m2 : Desc) (asks : List OpAsk)
    (gp wp xp hp rp mp vp ud rd md vd : Desc × VSel) (t t0 : State), Issues s c x k →
    (s.started c x).updOps k w true = some o → o.ok = true → o.m2 = some m2 →
    (s.started c x).optimAsks k.tenant [(o.g, false), (o.w, false), (o.wx, false), (o.h, false), (o.r, false), (o.m1, false),
      (m2, false), (o.u, true), (o.r, true), (o.m1, true), (m2, true)] = asks →
    OperandsReady (s.started c x) c x (rowUnit c) k asks [gp, wp, xp, hp, rp, mp, vp, ud, rd, md, vd] t →
    t.listUpd k.tenant (t.recStep k.tenant k.stepOf) (offOf o.r.address) = some t0 →
    (let (gs, t1) := t0.takeF32s c k.tenant gp.2 gp.1
     let out := updOut t1 k.tenant w .am gs ((t1.readF32s k.tenant vp.2 vp.1).map (·.1)) wp hp mp
     StoreAnswers t1 c x (rowUnit c) (exec (.rupdAm c x w) s)
       (fun a m _ => StoreAnswers a c x (rowUnit c) (exec (.rupdAm c x w) s)
         (fun b n v => UpdEnds t b c x k ud (offOf o.r.address) (out.map (·.2.2)) [(md.1, m), (vd.1, n)]
           (md.1.places md.2 ++ vd.1.places vd.2) v)
         (a.storeValues k.tenant k.stepOf vd.1 vd.2 (rowMode w.sr w.ovf) 32 (out.map fun q => ofF32 q.2.1)))
       (t1.storeValues k.tenant k.stepOf md.1 md.2 (rowMode w.sr w.ovf) 32 (out.map fun q => ofF32 q.1)))) ∧
  (∀ p ∈ updTable, ∀ (s : State) (c x : Nat) (w : UpdWord) (k : Work), Issues s c x k →
    (w.g = 0 ∨ w.w = 0 ∨ w.wx = 0 ∨ w.m1 = 0 ∨ w.u = 0 ∨ w.h = 0 ∨ w.r = 0 ∨ (p.2 = .am ∧ w.m2 = 0) ∨
      ∃ o, (s.started c x).updOps k w (p.2 == .am) = some o ∧ o.ok = false) →
    ∃ v, exec (p.1 c x w) s = .next v ∧ CtxFaulted (s.started c x) v c x (rowUnit c) 8) ∧
  (∀ p ∈ updTable, ∀ (s : State) (c x : Nat) (w : UpdWord) (k : Work) (o : UpdOps) (m2s : List Desc) (ds : List (Desc × VSel))
    (t : State), Issues s c x k → (s.started c x).updOps k w (p.2 == .am) = some o → o.ok = true → m2s = o.m2.toList →
    OperandsReady (s.started c x) c x (rowUnit c) k ((s.started c x).optimAsks k.tenant
      (([o.g, o.w, o.wx, o.h, o.r, o.m1] ++ m2s).map (·, false) ++ ([o.u, o.r, o.m1] ++ m2s).map (·, true))) ds t →
    6 ≤ ds.length → t.listUpd k.tenant (t.recStep k.tenant k.stepOf) (offOf o.r.address) = none →
    ∃ v, exec (p.1 c x w) s = .next v ∧ CtxFaulted t v c x (rowUnit c) 8) ∧
  (∀ (h : Hyper) (g wHi m v : Nat), updElem .mom false false h g wHi m v =
    (let gs := fFma h.lambda wHi (fMul h.gamma g)
     let m1 := fFma h.beta1 m gs
     (m1, v, fNeg (fMul h.eta m1)))) ∧
  (∀ (h : Hyper) (g wHi m v : Nat), updElem .mom true true h g wHi m v =
    (let gs := fMul h.gamma g
     let m1 := fFma h.beta1 m gs
     (m1, v, fNeg (fMul h.eta (fFma h.lambda wHi (fFma h.beta1 m1 gs)))))) ∧
  (∀ (h : Hyper) (g wHi m v : Nat), updElem .sgn true false h g wHi m v =
    (let gs := fMul h.gamma g
     (fFma h.beta2 m (fMul (fSub fOne h.beta2) gs), v,
      fNeg (fMul h.eta (fFma h.lambda wHi (fSign (fFma h.beta1 m (fMul (fSub fOne h.beta1) gs)))))))) ∧
  (∀ (h : Hyper) (g wHi m v : Nat), updElem .am true false h g wHi m v =
    (let gs := fMul h.gamma g
     let m1 := fFma h.beta1 m (fMul (fSub fOne h.beta1) gs)
     let v1 := fFma h.beta2 v (fMul (fSub fOne h.beta2) (fMul gs gs))
     (m1, v1, fNeg (fMul h.eta (fFma h.lambda wHi
       (fDiv (fMul m1 h.bc1) (fAdd (fSqrt (fMul v1 h.bc2)) h.eps))))))) ∧
  (∀ (s : State) (c x : Nat) (w : FoldWord) (k : Work) (o : FoldOps) (asks : List OpAsk) (up wp xp rp wp1 xp1 : Desc × VSel)
    (t : State), Issues s c x k → (s.started c x).foldOps k w = some o → o.ok = true → o.y = none →
    (s.started c x).optimAsks k.tenant [(o.u, false), (o.w, false), (o.wx, false), (o.r, false), (o.w, true), (o.wx, true)] = asks →
    OperandsReady (s.started c x) c x (rowUnit c) k asks [up, wp, xp, rp, wp1, xp1] t →
    (let off := signedOf 8 (t.recField k.tenant (offOf o.r.address + 4) 1)
     let out := foldAll (t.seedOf k.tenant k.stepOf) wp.1.tensorId wp.1.e0 off (t.rawElems k.tenant wp.2 wp.1)
       (t.rawElems k.tenant xp.2 xp.1) (t.rawElems k.tenant up.2 up.1)
     let hi := t.storeRaw k.tenant wp1.1 wp1.2 (out.map (·.2.hi))
     let ext := hi.1.storeRaw k.tenant xp1.1 xp1.2 (out.map (·.2.ext))
     RawAnswers c x (rowUnit c) (exec (.rfold c x w) s) (fun u v =>
       Stores t u v k.tenant (wp1.1.offsets.map (·, wp1.2) ++ xp1.1.offsets.map (·, xp1.2)) ∧
       v.slots = (u.judgeAll k (rowUnit c) [(wp1.1, out.foldl (fun a e => countElem a e.1 e.2.cls) noCounts)]).slots ∧
       FoldKept t v c) (ext.1, hi.2 || ext.2))) ∧
  (∀ (s : State) (c x : Nat) (w : FoldWord) (k : Work) (o : FoldOps) (y : Desc) (asks : List OpAsk)
    (up wp xp rp wp1 xp1 yp : Desc × VSel) (t : State), Issues s c x k → (s.started c x).foldOps k w = some o → o.ok = true →
    o.y = some y → (s.started c x).optimAsks k.tenant [(o.u, false), (o.w, false), (o.wx, false), (o.r, false), (o.w, true),
      (o.wx, true), (y, true)] = asks →
    OperandsReady (s.started c x) c x (rowUnit c) k asks [up, wp, xp, rp, wp1, xp1, yp] t →
    (let off := signedOf 8 (t.recField k.tenant (offOf o.r.address + 4) 1)
     let out := foldAll (t.seedOf k.tenant k.stepOf) wp.1.tensorId wp.1.e0 off (t.rawElems k.tenant wp.2 wp.1)
       (t.rawElems k.tenant xp.2 xp.1) (t.rawElems k.tenant up.2 up.1)
     let hi := t.storeRaw k.tenant wp1.1 wp1.2 (out.map (·.2.hi))
     let ext := hi.1.storeRaw k.tenant xp1.1 xp1.2 (out.map (·.2.ext))
     RawAnswers c x (rowUnit c) (exec (.rfold c x w) s) (fun z _ =>
       StoreAnswers t c x (rowUnit c) (exec (.rfold c x w) s) (fun u n v =>
         Stores t u v k.tenant (wp1.1.offsets.map (·, wp1.2) ++ xp1.1.offsets.map (·, xp1.2) ++ yp.1.places yp.2) ∧
         v.slots = (u.judgeAll k (rowUnit c)
           [(wp1.1, out.foldl (fun a e => countElem a e.1 e.2.cls) noCounts), (yp.1, n)]).slots ∧ FoldKept t v c)
         (z.storeValues k.tenant k.stepOf yp.1 yp.2 (rowMode w.sr w.ovf) 40 (out.map (·.2.value)))) (ext.1, hi.2 || ext.2))) ∧
  (∀ (s : State) (c x : Nat) (w : FoldWord) (k : Work), Issues s c x k →
    (w.u = 0 ∨ w.w = 0 ∨ w.wx = 0 ∨ w.r = 0 ∨ ∃ o, (s.started c x).foldOps k w = some o ∧ o.ok = false) →
    ∃ v, exec (.rfold c x w) s = .next v ∧ CtxFaulted (s.started c x) v c x (rowUnit c) 8)

/-- DM_COPY, DM_XPOSE, DM_KEEP, DM_GATE and DM_FOLD (R179, R226, R231 to R233, R238, R239, R245, R252, R288, R344, R350): on good operands
the destination takes the values each rule gives: copied or converted, transposed, the bit plane, the gated gradient, the fold. Outside
normal service a keep also pushes an implicit entry, and a gate takes it off and checks the plane against it: a mismatch stops at an
element that the spec leaves open (log entry 33). Slots or descriptors not admitted are descriptor faults.
ASPUSH and ASPOP (R228, R235 to R241, R253): a push enters the entry of its source and moves stack_top, if it fits; a pop copies the
top entry's bytes back into Y and takes it off, if its header is the expected one. With COND set in normal service nothing happens. A full
or an empty stack and a wrong header are stack faults, each counted; bad bounds are an address fault. -/
def Obligations.MoverInstructions : Prop :=
  (∀ (s : State) (c x : Nat) (w : DmWord) (k : Work) (xd yd xp yp : Desc) (xv yv : VSel) (t : State), Issues s c x k →
    (s.started c x).slotDesc k w.x = some xd → (s.started c x).slotDesc k w.y = some yd → xd.sameShape yd = true →
    xd.meets yd = false → OperandsReady (s.started c x) c x (moverUnit c) k [askRead xd, askWrite yd] [(xp, xv), (yp, yv)] t →
    (xd.fmt ∉ [fmtS8, fmtFX32, fmtFX24] → yd.fmt ∉ [fmtS8, fmtFX32, fmtFX24] →
      StoreAnswers t c x (moverUnit c) (exec (.dmCopy c x w) s)
        (fun u n v => MoverDone [] t u v k.tenant (yp.places yv) (u.judgeDesc k yp (moverUnit c) n).slots)
        (t.storeValues k.tenant k.stepOf yp yv (rowMode w.sr w.ovf) (fmtWidth xp.fmt) (t.exactValues k.tenant xv xp))) ∧
    (xd.fmt = fmtS8 → yd.fmt = fmtS8 → RawAnswers c x (moverUnit c) (exec (.dmCopy c x w) s)
      (fun u v => MoverDone [] t u v k.tenant (yp.places yv) t.slots) (t.storeRaw k.tenant yp yv (t.rawElems k.tenant xv xp)))) ∧
  (∀ (s : State) (c x : Nat) (w : DmWord) (k : Work) (xd yd xp yp : Desc) (xv yv : VSel) (t : State), Issues s c x k →
    (s.started c x).slotDesc k w.x = some xd → (s.started c x).slotDesc k w.y = some yd → isExchangeFmt xd.fmt = false →
    yd.fmt ≠ fmtS8 → xd.meets yd = false → xd.e0 = yd.e1 → xd.e1 = yd.e0 → xd.e2 = yd.e2 → xd.e3 = yd.e3 →
    OperandsReady (s.started c x) c x (moverUnit c) k [askRead xd, askWrite yd] [(xp, xv), (yp, yv)] t →
    StoreAnswers t c x (moverUnit c) (exec (.dmXpose c x w) s)
      (fun u n v => MoverDone [] t u v k.tenant (yp.places yv) (u.judgeDesc k yp (moverUnit c) n).slots)
      (t.storeValues k.tenant k.stepOf yp yv (rowMode w.sr w.ovf) (fmtWidth xp.fmt) (transposed xp (t.exactValues k.tenant xv xp)))) ∧
  (∀ (s : State) (c x : Nat) (w : DmWord) (k : Work) (xd yd xp yp : Desc) (xv yv : VSel) (t : State), Issues s c x k →
    (s.started c x).slotDesc k w.x = some xd → (s.started c x).slotDesc k w.y = some yd → isExchangeFmt xd.fmt = false →
    planeOk yd xd = true → xd.meets yd = false →
    OperandsReady (s.started c x) c x (moverUnit c) k [askRead xd, askWrite yd] [(xp, xv), (yp, yv)] t →
    (let plane := planeBytes xp ((t.exactValues k.tenant xv xp).map (keepBit w.mode w.imm0 w.imm1))
     let entry := t.stackEntry k xp xv (t.reg (Obj.stackTop c x)) 1 yd.tensorId w.mode (if w.mode then 0 else w.imm0)
       (if w.mode then 0 else w.imm1)
     (t.serviceOf k = 0 → RawAnswers c x (moverUnit c) (exec (.dmKeep c x w) s)
       (fun u v => MoverDone [] t u v k.tenant (yp.places yv) t.slots) (t.storeRaw k.tenant yp yv plane)) ∧
     (t.serviceOf k ≠ 0 → PushFits t c x k entry.length → RawAnswers c x (moverUnit c) (exec (.dmKeep c x w) s)
       (fun u v => MoverDone [] (t.pushed c x k entry) u v k.tenant (yp.places yv) t.slots)
       ((t.pushed c x k entry).storeRaw k.tenant yp yv plane)) ∧
     (t.serviceOf k ≠ 0 → t.stackBoundsBad k.tenant (t.ctx c x).stackBase (t.ctx c x).stackLimit = false →
       (t.ctx c x).stackLimit < t.reg (Obj.stackTop c x) + entry.length →
       ∃ v, exec (.dmKeep c x w) s = .next v ∧ StackFaulted t v c x (Obj.stackOverflowCount c x)) ∧
     (t.serviceOf k ≠ 0 → t.stackBoundsBad k.tenant (t.ctx c x).stackBase (t.ctx c x).stackLimit = true →
       ∃ v, exec (.dmKeep c x w) s = .next v ∧ CtxFaulted t v c x (moverUnit c) 1))) ∧
  (∀ (s : State) (c x : Nat) (w : DmWord) (k : Work) (xd gd yd xp gp yp : Desc) (xv gv yv : VSel) (t : State),
    Issues s c x k → (s.started c x).slotDesc k w.x = some xd → (s.started c x).slotDesc k w.g = some gd →
    (s.started c x).slotDesc k w.y = some yd → isExchangeFmt xd.fmt = false → yd.fmt ≠ fmtS8 → planeOk gd xd = true →
    xd.sameShape yd = true → xd.meets yd = false →
    OperandsReady (s.started c x) c x (moverUnit c) k [askRead xd, askRead gd, askWrite yd] [(xp, xv), (gp, gv), (yp, yv)] t →
    (let gate := fun (z : State) => ((planeBits xp (z.rawElems k.tenant gv gp)).zip (z.takeF32s c k.tenant xv xp).1).map fun p =>
       gateElem w.imm0 w.imm1 p.1 p.2
     (t.serviceOf k = 0 → StoreAnswers (t.takeF32s c k.tenant xv xp).2 c x (moverUnit c) (exec (.dmGate c x w) s)
       (fun u n v => MoverDone [Obj.scaledRangeCount c] t u v k.tenant (yp.places yv) (u.judgeDesc k yp (moverUnit c) n).slots)
       ((t.takeF32s c k.tenant xv xp).2.storeValues k.tenant k.stepOf yp yv (rowMode w.sr w.ovf) 32 (gate t))) ∧
     (t.serviceOf k ≠ 0 → (t.ctx c x).stack = [] ∨ t.reg (Obj.stackTop c x) = (t.ctx c x).stackBase →
       ∃ v, exec (.dmGate c x w) s = .next v ∧ StackFaulted t v c x (Obj.stackUnderflowCount c x)) ∧
     (∀ h z, t.serviceOf k ≠ 0 → HeadRead t c x k h z → orderBad h k gd.tensorId 1 (some xd) = true →
       ∃ v, exec (.dmGate c x w) s = .next v ∧ StackFaulted z v c x (Obj.stackOrderCount c x)) ∧
     (∀ e z, t.serviceOf k ≠ 0 → TopRead t c x k e z → orderBad e.header k gd.tensorId 1 (some xd) = false →
       (e.keepBits = planeBits xp (z.rawElems k.tenant gv gp) →
         StoreAnswers ((z.takeF32s c k.tenant xv xp).2.popped c x e) c x (moverUnit c) (exec (.dmGate c x w) s)
           (fun u n v => MoverDone [Obj.scaledRangeCount c] (z.popped c x e) u v k.tenant (yp.places yv)
             (u.judgeDesc k yp (moverUnit c) n).slots)
           (((z.takeF32s c k.tenant xv xp).2.popped c x e).storeValues k.tenant k.stepOf yp yv (rowMode w.sr w.ovf) 32 (gate z))) ∧
       (e.keepBits ≠ planeBits xp (z.rawElems k.tenant gv gp) → ∃ v, exec (.dmGate c x w) s = .next v ∧ (v.ctx c x).state = 4 ∧
         (v.ctx c x).stack = (z.ctx c x).stack ∧ v.reg (Obj.stackTop c x) = z.reg (Obj.stackTop c x) ∧
         v.reg (Obj.keepMismatchCount c x) = (z.reg (Obj.keepMismatchCount c x) + 1) % 2 ^ 32 ∧
         BytesBut k.tenant (yp.places yv) z v)))) ∧
  (∀ (s : State) (c x : Nat) (w : DmWord) (k : Work) (bufs : List Desc) (yd yp : Desc) (yv : VSel) (b : Desc × VSel)
    (bs : List (Desc × VSel)) (t : State), Issues s c x k → (s.started c x).foldSlots k w.x w.cnt = some bufs →
    (s.started c x).slotDesc k w.y = some yd → foldOk bufs yd = true →
    OperandsReady (s.started c x) c x (moverUnit c) k (askWrite yd :: bufs.map askRead) ((yp, yv) :: b :: bs) t →
    (let sum := foldBuffers b.1.fmt ((b :: bs).map fun p => t.rawElems k.tenant p.2 p.1)
     (yp.fmt = b.1.fmt → RawAnswers c x (moverUnit c) (exec (.dmFold c x w) s)
       (fun u v => MoverDone [] t u v k.tenant (yp.places yv) t.slots) (t.storeRaw k.tenant yp yv sum)) ∧
     (yp.fmt ≠ b.1.fmt → StoreAnswers t c x (moverUnit c) (exec (.dmFold c x w) s)
       (fun u n v => MoverDone [] t u v k.tenant (yp.places yv) (u.judgeDesc k yp (moverUnit c) n).slots)
       (t.storeValues k.tenant k.stepOf yp yv (rowMode w.sr w.ovf) (fmtWidth b.1.fmt) (sum.map (decodeElem b.1.fmt)))))) ∧
  (∀ con ∈ moverForms, ∀ (s : State) (c x : Nat) (w : DmWord) (k : Work), Issues s c x k → w.x = 0 ∨ w.y = 0 →
    ∃ v, exec (con c x w) s = .next v ∧ CtxFaulted (s.started c x) v c x (moverUnit c) 8) ∧
  (∀ (s : State) (c x : Nat) (w : DmWord) (k : Work), Issues s c x k → w.g = 0 →
    ∃ v, exec (.dmGate c x w) s = .next v ∧ CtxFaulted (s.started c x) v c x (moverUnit c) 8) ∧
  (∀ con ∈ ([.dmCopy, .dmXpose, .dmKeep] : List (Nat → Nat → DmWord → Instr)), ∀ (s : State) (c x : Nat) (w : DmWord) (k : Work)
    (xd yd : Desc), Issues s c x k → (s.started c x).slotDesc k w.x = some xd → (s.started c x).slotDesc k w.y = some yd →
    xd.meets yd = true → ∃ v, exec (con c x w) s = .next v ∧ CtxFaulted (s.started c x) v c x (moverUnit c) 8) ∧
  (∀ con ∈ ([.aspush, .aspop] : List (Nat → Nat → DmWord → Instr)), ∀ (s : State) (c x : Nat) (w : DmWord) (k : Work),
    Issues s c x k → w.cond = true → (s.started c x).serviceOf k = 0 → exec (con c x w) s = .next (s.started c x)) ∧
  (∀ (s : State) (c x : Nat) (w : DmWord) (k : Work) (xd xp : Desc) (xv : VSel) (t : State), Issues s c x k →
    w.cond = false ∨ (s.started c x).serviceOf k ≠ 0 → (s.started c x).slotDesc k w.x = some xd → xd.fmt ≠ fmtS8 →
    OperandsReady (s.started c x) c x (moverUnit c) k [askRead xd] [(xp, xv)] t →
    (let entry := t.stackEntry k xp xv (t.reg (Obj.stackTop c x)) 0 xd.tensorId false 0 0
     let bounds := t.stackBoundsBad k.tenant (t.ctx c x).stackBase (t.ctx c x).stackLimit
     (PushFits t c x k entry.length → exec (.aspush c x w) s = .next (t.pushed c x k entry)) ∧
     (bounds = false → (t.ctx c x).stackLimit < t.reg (Obj.stackTop c x) + entry.length →
       ∃ v, exec (.aspush c x w) s = .next v ∧ StackFaulted t v c x (Obj.stackOverflowCount c x)) ∧
     (bounds = true → ∃ v, exec (.aspush c x w) s = .next v ∧ CtxFaulted t v c x (moverUnit c) 1))) ∧
  (∀ (s : State) (c x : Nat) (w : DmWord) (k : Work) (yd : Desc) (yp : Desc × VSel) (t : State), Issues s c x k →
    w.cond = false ∨ (s.started c x).serviceOf k ≠ 0 → (s.started c x).slotDesc k w.y = some yd → yd.fmt ≠ fmtS8 →
    OperandsReady (s.started c x) c x (moverUnit c) k [askWrite yd] [yp] t →
    ((t.ctx c x).stack = [] ∨ t.reg (Obj.stackTop c x) = (t.ctx c x).stackBase →
      ∃ v, exec (.aspop c x w) s = .next v ∧ StackFaulted t v c x (Obj.stackUnderflowCount c x)) ∧
    (∀ h z, HeadRead t c x k h z → orderBad h k yd.tensorId 0 none = true →
      ∃ v, exec (.aspop c x w) s = .next v ∧ StackFaulted z v c x (Obj.stackOrderCount c x)) ∧
    (∀ e z, TopRead t c x k e z → orderBad e.header k yd.tensorId 0 none = false →
      (let same := field e.header 6 1 = yd.fmt + 32 * yd.block ∧ field e.header 0x10 4 = yd.e0 ∧ field e.header 0x14 4 = yd.e1 ∧
         field e.header 0x18 4 = yd.e2 ∧ field e.header 0x1C 4 = yd.e3
       (¬ same → ∃ v, exec (.aspop c x w) s = .next v ∧ CtxFaulted z v c x (moverUnit c) 8) ∧
       (same → (∀ q ∈ yp.1.offsets, z.anyBad k.tenant [q] yp.2 = false) → (∀ q ∈ yp.1.scaleOffs, z.anyBad k.tenant [q] .plain = false) →
         ∃ v, exec (.aspop c x w) s = .next v ∧ Restored z v c x k yp e)))) ∧
  (∀ (s : State) (c x : Nat) (w : DmWord) (k : Work), Issues s c x k → w.cond = false ∨ (s.started c x).serviceOf k ≠ 0 →
    (w.x = 0 ∨ (∃ d, (s.started c x).slotDesc k w.x = some d ∧ d.fmt = fmtS8) →
      ∃ v, exec (.aspush c x w) s = .next v ∧ CtxFaulted (s.started c x) v c x (moverUnit c) 8) ∧
    (w.y = 0 ∨ (∃ d, (s.started c x).slotDesc k w.y = some d ∧ d.fmt = fmtS8) →
      ∃ v, exec (.aspop c x w) s = .next v ∧ CtxFaulted (s.started c x) v c x (moverUnit c) 8))

/-- TAIL_DOORBELL, DESCRIPTOR_ACCEPT and DESCRIPTOR_PLACE (R112, R235, R366, R372, R373, R379, R382, R385 to R387, R390, R401, R567, R618): a
doorbell to a queue that is not an active doorbell queue only counts; an old tail is ignored; a tail within the ring posts its
descriptors, which are accepted in order while a completion entry can be reserved; one beyond it puts the queue in error. The head
descriptor that may be placed goes to a context and opens its step.
DISPATCH (R372, R382 to R384, R650, R663): a Dispatch that does not authenticate is not applied; one without rights is a violation,
answered with status 0 and the index plus one; with rights its status is that of R384: 4 at a queue that takes none, 0
for the next index with room, 3 without room, 1 for an earlier and 2 for a later index; it is accepted with status 0 alone. -/
def Obligations.WorkSubmission : Prop :=
  (∀ (s : State) (q tail : Nat), s.queueActive q = false ∨ (s.queue q).mode = 1 → ∃ t, exec (.tailDoorbell q tail) s = .next t ∧
    t.queue q = { s.queue q with wrongMode := ((s.queue q).wrongMode + 1) % 2 ^ 16 } ∧ (∀ p, p ≠ q → t.queue p = s.queue p) ∧
    { t with queues := s.queues } = s) ∧
  (∀ (s : State) (q tail : Nat), s.queueActive q = true → (s.queue q).mode ≠ 1 →
    (let p := tail % 2 ^ 32
     let d := (p + 2 ^ 32 - (s.queue q).posted) % 2 ^ 32
     let held := (p + 2 ^ 32 - (s.queue q).consumed) % 2 ^ 32
     (d = 0 ∨ 2 ^ 31 ≤ d → exec (.tailDoorbell q tail) s = .next s) ∧
     (0 < d → d < 2 ^ 31 → held ≤ (s.queue q).submitDepth → ∃ t, exec (.tailDoorbell q tail) s = .next t ∧
       AcceptRun q (s.queue q).submitDepth { s with queues := Sparse.set {} q { s.queue q with posted := p } s.queues } t) ∧
     (0 < d → d < 2 ^ 31 → (s.queue q).submitDepth < held → ∃ t, exec (.tailDoorbell q tail) s = .next t ∧
       t.queue q = { s.queue q with error := true, errorCount := ((s.queue q).errorCount + 1) % 2 ^ 16 } ∧
       (∀ r, r ≠ q → t.queue r = s.queue r) ∧ { t with queues := s.queues } = s))) ∧
  (∀ (s : State) (q n : Nat), (s.queue q).mode = 2 → Acceptable s q n → ∃ t, exec (.descriptorAccept q) s = .next t ∧
    Accepted s t n q (s.queue q).accepted ((s.queue q).slotBytes (s.queue q).accepted)) ∧
  (∀ (s : State) (q : Nat), (s.queue q).mode ≠ 2 ∨ (∀ n, ¬ Acceptable s q n) → exec (.descriptorAccept q) s = .next s) ∧
  (∀ (s : State) (q w : Nat) (k : Work) (c x : Nat) (gs : List Nat) (ab sb start i j a b : Nat), s.queueHead q = some (w, k) →
    s.mayPlace k = true → (k.pc && (s.core k.coreField).outOfService) = false → s.placeFor k = some (c, x, gs, ab, sb) →
    s.entryOf k = some (start, i, j, a, b) → k.tenant < 16 → ∃ u t, exec (.descriptorPlace q) s = .next t ∧
      (if k.ns = true ∨ ((s.tenant k.tenant).step? k.step).isSome = true then u = s else StepOpened s u k.tenant k.step) ∧
      PlacedOn u t w k c x gs ab sb start a b) ∧
  (∀ (s : State) (q w : Nat) (k : Work), s.queueHead q = some (w, k) → s.mayPlace k = true → k.pc = true →
    (s.core k.coreField).outOfService = true → ∃ t, exec (.descriptorPlace q) s = .next t ∧ WorkEnded s t w k 3 0) ∧
  (∀ (s : State) (q w : Nat) (k : Work), s.queueHead q = some (w, k) → s.mayPlace k = false ∨
    (s.placeFor k = none ∧ (k.pc && (s.core k.coreField).outOfService) = false) → exec (.descriptorPlace q) s = .next s) ∧
  (∀ (s : State) (q : Nat), s.queueHead q = none → exec (.descriptorPlace q) s = .next s) ∧
  (∀ (s : State) (e : Envelope) (q index : Nat) (d : List Byte), s.gdpUp = true →
    (∀ x, s.session? e.session = some x →
      e.tag ≠ tagOf x.key e.sequence (dispatchHead 1 q index e.session 0 ++ d) ∨ e.sequence + 1024 ≤ x.highest) →
    ∃ t, exec (.dispatch e q index d) s = .next t ∧ OnlyRegs [Obj.authFailCount] s t ∧
      t.reg Obj.authFailCount = (s.reg Obj.authFailCount + 1) % 2 ^ 32) ∧
  (∀ (s : State) (e : Envelope) (q index : Nat) (d : List Byte) (x : Session), s.gdpUp = true → s.session? e.session = some x →
    e.tag = tagOf x.key e.sequence (dispatchHead 1 q index e.session 0 ++ d) → x.highest < e.sequence + 1024 →
    x.seen.contains e.sequence = true → exec (.dispatch e q index d) s = .next (match x.replies.find? fun r => r.1 == e.sequence with
      | some r => s.sendControl e.net e.peer r.2
      | none => s)) ∧
  (∀ (s : State) (e : Envelope) (q index : Nat) (d : List Byte) (t : State) (x : Session),
    s.authenticate e (dispatchHead 1 q index e.session 0 ++ d) = .fresh t x →
    (let answer := fun (u : State) (i st : Nat) => u.answerWith e (.dispatchAck e.session q i st)
     (t.canWrite x ⟨Obj.queueConfig q / 256, Obj.queueConfig q % 256⟩ = false → exec (.dispatch e q index d) s =
       .next (answer (t.violate x.id) ((index + 1) % 2 ^ 32) 0)) ∧
     (t.canWrite x ⟨Obj.queueConfig q / 256, Obj.queueConfig q % 256⟩ = true →
       (let k := (index + 2 ^ 32 - (t.queue q).accepted) % 2 ^ 32
        let room := (((t.queue q).accepted + 2 ^ 32 - (t.queue q).consumed) % 2 ^ 32 < (t.queue q).submitDepth ∧
          (t.queue q).reserved < (t.queue q).completionDepth)
        (∀ n, t.tenantOfQueue q = some n → t.queueActive q = true → (t.queue q).mode ≠ 2 →
          (k = 0 → room → ∃ u, Accepted t u n q index d ∧ exec (.dispatch e q index d) s =
            .next (answer { u with queues := Sparse.set {} q { u.queue q with posted := (u.queue q).accepted } u.queues }
              (u.queue q).accepted 0)) ∧
          (k = 0 → ¬ room → exec (.dispatch e q index d) s = .next (answer t (t.queue q).accepted 3)) ∧
          (2 ^ 31 ≤ k → exec (.dispatch e q index d) s = .next (answer t (t.queue q).accepted 1)) ∧
          (0 < k → k < 2 ^ 31 → exec (.dispatch e q index d) s = .next (answer t (t.queue q).accepted 2))) ∧
        (t.queueActive q = false ∨ (t.queue q).mode = 2 → exec (.dispatch e q index d) s =
          .next (answer { t with queues := Sparse.set {} q { t.queue q with
            wrongMode := ((t.queue q).wrongMode + 1) % 2 ^ 16 } t.queues } (t.queue q).accepted 4))))))

/-- Completions (R377, R388 to R392, R394, R633): WORK_ABORT_COMPLETE and COMPLETION_DELAY_END write a completion once what the work issued
has ended or its delay has; COMPLETION_PULL returns the oldest entry, or one with sequence 0, and consumes nothing.
QUEUE_ENABLE and QUEUE_DISABLE (R379, R382, R391, R400): a good configuration is taken by a queue that holds no work, and a queue that
it turns on starts its sequence numbers anew; a busy queue takes only the change to disabled; a bad record has no effect; disabling
completes the accepted, unplaced descriptors with status 4 and discards the posted ones. -/
def Obligations.CompletionsAndQueueConfig : Prop :=
  (∀ (s : State) (w v : Nat) (k : Work) (st : Nat), s.work? w = some k → s.ctxWork k.core k.ctx = some (v, k) →
    (s.ctx k.core k.ctx).stopping = some st → s.quiet k.core k.ctx = true → k.phase = 2 → ∃ u t,
    exec (.workAbortComplete w) s = .next t ∧ CtxFreed s u k.core k.ctx ∧ { u with cores := s.cores, ctxs := s.ctxs } = s ∧
    WorkEnded u t v { k with published := (s.ctx k.core k.ctx).published } st
      (if st = 1 then (match (s.ctx k.core k.ctx).firstFault with | some f => f.1 + f.2 * 2 ^ 16 | none => 0) else 0)) ∧
  (∀ (s : State) (w : Nat), s.work? w = none → exec (.workAbortComplete w) s = .next s ∧
    exec (.completionDelayEnd w) s = .next s) ∧
  (∀ (s : State) (w : Nat) (k : Work), s.work? w = some k →
    (s.ctx k.core k.ctx).stopping = none ∨ s.quiet k.core k.ctx = false ∨ k.phase ≠ 2 → exec (.workAbortComplete w) s = .next s) ∧
  (∀ (s : State) (w : Nat) (k : Work), s.work? w = some k → k.phase = 3 → ∃ t, exec (.completionDelayEnd w) s = .next t ∧
    Completed s t w k) ∧
  (∀ (s : State) (w : Nat) (k : Work), s.work? w = some k → k.phase ≠ 3 → exec (.completionDelayEnd w) s = .next s) ∧
  (∀ (s : State) (sess q : Nat) (x : Session), s.session? sess = some x →
    (s.canRead x ⟨Obj.completionPull q / 256, Obj.completionPull q % 256⟩ = true → exec (.completionPull sess q) s =
      .next (s.sendSession sess x.net x.peer (.reply sess 0 1 1 0 (match (s.queue q).ring with
        | c :: _ => toBytes 8 c.sequence ++ toBytes 8 c.userTag ++ toBytes 8 c.step ++ toBytes 1 c.status ++ toBytes 1 c.ctx ++
            toBytes 2 c.core ++ toBytes 4 c.detail
        | [] => List.replicate 32 0)))) ∧
    (s.canRead x ⟨Obj.completionPull q / 256, Obj.completionPull q % 256⟩ = false → exec (.completionPull sess q) s =
      .next ((s.violate sess).sendSession sess x.net x.peer (.reply sess 0 1 1 0 (List.replicate 32 0))))) ∧
  (∀ (s : State) (sess q : Nat), s.session? sess = none → exec (.completionPull sess q) s = .next s) ∧
  (∀ (s : State) (sess q : Nat) (bs : List Byte),
    MayWrite s sess (Obj.queueConfig q / 256) (Obj.queueConfig q % 256) → queueConfigOk bs = true → s.queueBusy q = false →
    (let v : Queue := { s.queue q with
        mode := bits (field bs 0 1) 0 2, pull := bit (field bs 0 1) 2, submitDepth := field bs 2 2,
        completionDepth := field bs 4 2, cqAddress := field bs 8 8, cqRkey := field bs 0x10 4, cqQp := field bs 0x14 3 }
     ∃ t, exec (.queueEnable sess q bs) s = .next t ∧ (∀ p, p ≠ q → t.queue p = s.queue p) ∧ { t with queues := s.queues } = s ∧
       t.queue q = (if v.mode = 0 then { v with posted := (s.queue q).accepted, error := false }
         else if (s.queue q).mode = 0 then
           { v with lastSequence := 0, head := 0, ring := [], reserved := 0, error := false }
         else v))) ∧
  (∀ (s : State) (sess q : Nat) (bs : List Byte),
    MayWrite s sess (Obj.queueConfig q / 256) (Obj.queueConfig q % 256) →
    queueConfigOk bs = false ∨ (s.queueBusy q = true ∧ bits (field bs 0 1) 0 2 ≠ 0) →
    exec (.queueEnable sess q bs) s = .next s) ∧
  (∀ (s : State) (sess q : Nat) (bs : List Byte) (e : Instr), MayWrite s sess (Obj.queueConfig q / 256) (Obj.queueConfig q % 256) →
    e = .queueDisable sess q ∨
      (e = .queueEnable sess q bs ∧ queueConfigOk bs = true ∧ s.queueBusy q = true ∧ bits (field bs 0 1) 0 2 = 0) →
    ∃ u t, exec e s = .next t ∧ WorksEnd (fun k => k.queue == q) 4 false s.works s u ∧
      t.queue q = { u.queue q with mode := 0, posted := (u.queue q).accepted, error := false } ∧
      (∀ p, p ≠ q → t.queue p = u.queue p) ∧ { t with queues := u.queues } = u)

/-- LIFT_CLAIM and LIFT_DROP (R219, R272, R273, R330 to R338, R341 to R343): a claim on an entry is settled at once when the entry is high
enough, joins a promotion in flight, starts one when there is room, and else is refused with the status its rule gives, counted. A bad
tier is a descriptor fault, a token in use a token fault, a slot that names no entry an address fault, one whose version is not held a
version fault. A drop removes the claimant's claim.
LIFT_MOVE_START, LIFT_MOVE_COMMIT and LIFT_COMMIT_ACK (R64, R189, R323 to R329, R334, R336, R342, R359): at most eight moves fly per
engine and none starts or commits in ride-through; a commit copies every line, poison included, and the destination becomes the committed
copy; the acknowledgement frees the source and evaluates the claims again. -/
def Obligations.LiftClaimsAndMoves : Prop :=
  (∀ (s : State) (c x : Nat) (w : LiftWord) (k : Work), Issues s c x k →
    w.tier = 0 ∨ w.tier = 3 ∨ w.x = 0 ∨ (w.token ≠ 0 ∧ (s.ctx c x).token w.token ≠ .free) →
    ∃ t, exec (.liftClaim c x w) s = .next t ∧ CtxFaulted (s.started c x) t c x (engineId c 3) 8) ∧
  (∀ (s : State) (c x : Nat) (w : LiftWord) (k : Work) (f : OpFault), Issues s c x k → w.tier = 1 ∨ w.tier = 2 → w.x ≠ 0 →
    w.token = 0 ∨ (s.ctx c x).token w.token = .free →
    (s.started c x).liftEntry k ((s.started c x).descOf k w.x) = .error f →
    ∃ t, exec (.liftClaim c x w) s = .next t ∧ CtxFaulted (s.started c x) t c x (engineId c 3) 4) ∧
  (∀ (s : State) (c x : Nat) (w : LiftWord) (k : Work) (key : Nat) (e : Entry), Issues s c x k → w.tier = 1 ∨ w.tier = 2 → w.x ≠ 0 →
    w.token = 0 ∨ (s.ctx c x).token w.token = .free →
    (s.started c x).liftEntry k ((s.started c x).descOf k w.x) = .ok (key, e) →
    (let u := s.started c x
     ∃ t : State, exec (.liftClaim c x w) s = .next (t.applyClaim key e (claimOf u c x w k e)) ∧ t.serial = s.serial + 1 ∧
      (w.token ≠ 0 → (t.ctx c x).token w.token = .outstanding) ∧ (∀ i, i ≠ w.token → (t.ctx c x).token i = (u.ctx c x).token i) ∧
      { t.ctx c x with tokens := (u.ctx c x).tokens } = u.ctx c x ∧ (∀ d y, ctxKey d y ≠ ctxKey c x → t.ctx d y = u.ctx d y) ∧
      { t with ctxs := s.ctxs, serial := s.serial } = s)) ∧
  (∀ (s : State) (key : Nat) (e : Entry) (cl : Claim),
    (e.homeTier ≤ cl.tier → ClaimDone s (s.applyClaim key e cl) cl 5) ∧
    (cl.tier < e.homeTier → (e.pinned || s.onStack e) = true → ClaimRefused s (s.applyClaim key e cl) cl 3) ∧
    (cl.tier < e.homeTier → e.pinned = false → s.onStack e = false → e.held cl.tenant cl.cid = none →
      255 ≤ e.claims.length ∨ 131072 ≤ s.claimCount → ClaimRefused s (s.applyClaim key e cl) cl 4) ∧
    (Claimable s e cl → s.moveOf key = none → e.tier ≤ cl.tier → e.held cl.tenant cl.cid = none →
      ClaimDone (s.record key e { cl with token := none }) (s.applyClaim key e cl) cl 0) ∧
    (Claimable s e cl → s.moveOf key = none → e.tier ≤ cl.tier → (e.held cl.tenant cl.cid).isSome = true →
      ∃ u, ClaimDone (s.record key e { cl with token := none }) u cl 0 ∧ s.applyClaim key e cl = u.evaluate key) ∧
    (Claimable s e cl → s.moveOf key = none → cl.tier < e.tier → s.borrowed cl.tier cl.tenant = 0 →
      64 * e.lines ≤ s.freeRoom cl.tier cl.tenant → (cl.tier = 0 → s.fits 0 cl.die cl.place (64 * e.lines) = true) →
      s.queuedOn (s.upperDie cl e.bytes) < 1024 →
      PromotionStarted (s.record key e { cl with token := none }) (s.applyClaim key e cl) key e cl) ∧
    (Claimable s e cl → s.moveOf key = none → cl.tier < e.tier →
      s.borrowed cl.tier cl.tenant ≠ 0 ∨ s.freeRoom cl.tier cl.tenant < 64 * e.lines →
      ClaimRefused s (s.applyClaim key e cl) cl 1) ∧
    (Claimable s e cl → s.moveOf key = none → cl.tier < e.tier → s.borrowed cl.tier cl.tenant = 0 →
      64 * e.lines ≤ s.freeRoom cl.tier cl.tenant → cl.tier = 0 → s.fits 0 cl.die cl.place (64 * e.lines) = false →
      ClaimRefused s (s.applyClaim key e cl) cl 2) ∧
    (Claimable s e cl → s.moveOf key = none → cl.tier < e.tier → s.borrowed cl.tier cl.tenant = 0 →
      64 * e.lines ≤ s.freeRoom cl.tier cl.tenant → (cl.tier = 0 → s.fits 0 cl.die cl.place (64 * e.lines) = true) →
      1024 ≤ s.queuedOn (s.upperDie cl e.bytes) → ClaimRefused s (s.applyClaim key e cl) cl 4) ∧
    (∀ m mv u, Claimable s e cl → s.moveOf key = some (m, mv) → mv.committed = false → mv.dest = some u →
      (u.tier < e.tier → u.tier ≤ cl.tier →
        ClaimDone (s.record key e { cl with token := none }) (s.applyClaim key e cl) cl 0) ∧
      (e.tier ≤ u.tier ∨ cl.tier < u.tier → s.applyClaim key e cl = s.record key e cl)) ∧
    (∀ m mv, Claimable s e cl → s.moveOf key = some (m, mv) → mv.committed = false → mv.dest = none →
      s.applyClaim key e cl = s.record key e cl) ∧
    (∀ m mv, Claimable s e cl → s.moveOf key = some (m, mv) → mv.committed = true →
      (e.tier ≤ cl.tier → ClaimDone (s.record key e { cl with token := none }) (s.applyClaim key e cl) cl 0) ∧
      (cl.tier < e.tier → s.applyClaim key e cl = s.record key e cl)) ∧
    (e.held cl.tenant cl.cid = none → s.record key e cl =
      { s with entries := Sparse.insert key { e with claims := e.claims ++ [cl] } s.entries })) ∧
  (∀ (s : State) (c x : Nat) (w : LiftWord) (k : Work), Issues s c x k → w.x = 0 →
    ∃ t, exec (.liftDrop c x w) s = .next t ∧ CtxFaulted (s.started c x) t c x (engineId c 3) 8) ∧
  (∀ (s : State) (c x : Nat) (w : LiftWord) (k : Work) (f : OpFault), Issues s c x k → w.x ≠ 0 →
    (s.started c x).liftEntry k ((s.started c x).descOf k w.x) = .error f →
    ∃ t, exec (.liftDrop c x w) s = .next t ∧ CtxFaulted (s.started c x) t c x (engineId c 3) 4) ∧
  (∀ (s : State) (c x : Nat) (w : LiftWord) (k : Work) (key : Nat) (e e0 : Entry), Issues s c x k → w.x ≠ 0 →
    (s.started c x).liftEntry k ((s.started c x).descOf k w.x) = .ok (key, e0) → s.entry? key = some e →
    (e.held k.tenant w.cid = none → exec (.liftDrop c x w) s = .next (s.started c x)) ∧
    ((e.held k.tenant w.cid).isSome = true → ∃ t f, exec (.liftDrop c x w) s = .next t ∧ t.entry? key = some f ∧
      f.held k.tenant w.cid = none ∧ f.base = e.base ∧ f.lines = e.lines ∧ f.homeAlloc = e.homeAlloc) ∧
    (e.held k.tenant w.cid ≠ none → e.upper = none → s.moveOf key = none → (∀ d ∈ e.claims, d.tenant = k.tenant ∧ d.cid = w.cid) →
      exec (.liftDrop c x w) s = .next { s.started c x with entries := Sparse.insert key { e with claims := [] } s.entries })) ∧
  (∀ (s : State) (die : Nat), 8 ≤ s.flyingOn die ∨ s.reg Obj.supplyState = 1 → exec (.liftMoveStart die) s = .next s) ∧
  (∀ (s : State) (die : Nat), s.flyingOn die < 8 → s.reg Obj.supplyState ≠ 1 → s.nextMove die = none →
    exec (.liftMoveStart die) s = .next s.retryMoves) ∧
  (∀ (s : State) (die m : Nat) (mv : Move) (e : Entry), s.flyingOn die < 8 → s.reg Obj.supplyState ≠ 1 →
    s.nextMove die = some (m, mv) → s.entry? mv.entry = some e → ∃ t : State, exec (.liftMoveStart die) s = .next t.retryMoves ∧
      t.moves = Sparse.insert m { mv with flying := true } s.moves ∧ t.entry? mv.entry = some { e with moving := true } ∧
      (∀ k, k ≠ mv.entry → t.entry? k = s.entry? k) ∧
      t.fabric.asks.map (fun a => (a.1, a.2.1, a.2.2.1)) = s.fabric.asks.map (fun a => (a.1, a.2.1, a.2.2.1)) ++
        ((e.current.sites ++ (mv.dest.getD e.homeCopy).sites).map fun q => (q.1, q.2, s.askOffset (mv.deadline.getD (2 ^ 64 - 1)))) ∧
      { t with moves := s.moves, entries := s.entries, fabric := { t.fabric with asks := s.fabric.asks }, drawn := s.drawn } = s) ∧
  (∀ (s : State) (m : Nat) (mv : Move) (e : Entry), s.moves.find? (fun p => p.1 = m) = some (m, mv) → mv.flying = true →
    mv.committed = false → s.reg Obj.supplyState ≠ 1 → s.entry? mv.entry = some e → mv.engine < 8 → Memory.wf s.mem = true →
    (let dst := match mv.dest with
       | some u => u.alloc
       | none => e.homeAlloc
     ∃ t, exec (.liftMoveCommit m) s = .next t ∧
      (dst ≠ e.committed → (∀ o, o < 2 ^ 32 → t.rdByte dst o = s.rdByte e.committed o) ∧
        (∀ a o, o < 2 ^ 32 → a ≠ dst → t.rdByte a o = s.rdByte a o)) ∧
      t.poison = (s.copyAlloc e.committed dst).poison ∧
      t.entry? mv.entry = some { e with upper := mv.dest, dirty := if mv.dest.isNone then false else e.dirty } ∧
      t.moves = Sparse.insert m { mv with committed := true, order := e.committed, tokens := [] } s.moves ∧
      t.reg (Obj.bytesMoved mv.engine) = (s.reg (Obj.bytesMoved mv.engine) + 64 * e.lines) % 2 ^ 64 ∧
      t.reg (Obj.poisonCopiedCount mv.engine) = (s.reg (Obj.poisonCopiedCount mv.engine) + s.poisonCount e.committed) % 2 ^ 32 ∧
      t.reg (Obj.lateCommitCount mv.engine) = (if (match mv.deadline with | some d => decide (d < s.time.cad) | none => false) then
        (s.reg (Obj.lateCommitCount mv.engine) + 1) % 2 ^ 32 else s.reg (Obj.lateCommitCount mv.engine)) ∧
      (∀ c x, (s.ctx c x).state = 3 → (s.ctx c x).waits = .promotion mv.entry →
        (t.ctx c x).state = 1 ∧ (t.ctx c x).waits = .nothing) ∧
      t.allocs = s.allocs ∧ t.tenants = s.tenants)) ∧
  (∀ (s : State) (m : Nat) (mv : Move), s.moves.find? (fun p => p.1 = m) = some (m, mv) →
    (mv.flying = false ∨ mv.committed = true ∨ s.reg Obj.supplyState = 1 → exec (.liftMoveCommit m) s = .next s) ∧
    (mv.committed = false → exec (.liftCommitAck m) s = .next s)) ∧
  (∀ (s : State) (m : Nat), s.moves.find? (fun p => p.1 = m) = none → exec (.liftMoveCommit m) s = .next s ∧
    exec (.liftCommitAck m) s = .next s) ∧
  (∀ (s : State) (m : Nat) (mv : Move) (e : Entry), s.moves.find? (fun p => p.1 = m) = some (m, mv) → mv.committed = true →
    mv.tokens = [] → s.entry? mv.entry = some e → ∃ u : State, u.moves = Sparse.erase m s.moves ∧
      u.entry? mv.entry = some { e with moving := false } ∧ (∀ k, k ≠ mv.entry → u.entry? k = s.entry? k) ∧
      { u with moves := s.moves, entries := s.entries } = s ∧ exec (.liftCommitAck m) s = .next (
        let v := if mv.order = e.homeAlloc then u else u.freeAlloc mv.order false
        (if e.removeAtCommit then v.removeEntry mv.entry false else v.evaluate mv.entry).resumeHost)) ∧
  (∀ (s : State) (a : Nat) (v : Alloc), s.allocs.find? (fun p => p.1 = a) = some (a, v) → v.tenant < 16 → v.tier < 3 → v.bytes ≤ s.reg (chargedObj v.tier v.tenant) →
    s.loans = [] → ∃ t, s.freeAlloc a false = t ∧ t.allocs = Sparse.erase a s.allocs ∧ (∀ o, o < 2 ^ 32 → t.rdByte a o = 0) ∧
    t.reg (chargedObj v.tier v.tenant) + v.bytes = s.reg (chargedObj v.tier v.tenant))

/-- BACKGROUND_SCRUB_READ, HBM_RECALIBRATION, DEEP_SELF_REFRESH, TENSOR_MAP_WRITE, VERSION_WRITE_RESUME and TAG_WAIT_END (R189, R268, R270,
R274, R276, R315, R318, R346, R348 to R353, R358, R360, R569). A scrub read counts and writes back what the line's code corrects, and
poisons what it detects; beyond that a free value decides, and the bytes decoded are free too (log entry 124). -/
def Obligations.ResidencyEventsAnswer : Prop :=
  (∀ (s : State) (a line n : Nat) (e : Entry) (u : Upper), s.copyIn a = some (e, u) → u.alloc = a → line < e.lines → line < 2 ^ 26 →
    (let r := if u.tier = 0 then 1 else s.reg (Obj.correctionRadius u.die)
     let d := if u.tier = 0 then 2 else 8 - s.reg (Obj.correctionRadius u.die)
     let stack := 64 * line / 256 % 3
     ∃ t, exec (.backgroundScrubRead a line n) s = .next t ∧
      (n = 0 ∨ n ≤ r → t.mem = s.mem ∧ t.poison = s.poison) ∧
      (n = 0 → RegsBut [] s t) ∧
      (n ≠ 0 → n ≤ r → u.tier = 1 → u.die < 8 →
        t.reg (Obj.mainCorrectedCount u.die stack) = (s.reg (Obj.mainCorrectedCount u.die stack) + 1) % 2 ^ 64) ∧
      (n ≠ 0 → r < n → n ≤ d → t.mem = s.mem ∧ t.poisoned a line = true ∧
        (∀ b l, lineKey b l ≠ lineKey a line → t.poisoned b l = s.poisoned b l) ∧
        (u.tier = 1 → u.die < 8 →
          t.reg (Obj.mainUncorrectedCount u.die stack) = (s.reg (Obj.mainUncorrectedCount u.die stack) + 1) % 2 ^ 32)) ∧
      (n ≠ 0 → r < n → d < n →
        (t.mem = s.mem ∧ t.poisoned a line = true) ∨ (t.poison = s.poison ∧
          ∀ b o, (∀ i, i < 64 → memKey b o ≠ memKey a (64 * line + i)) → t.rdByte b o = s.rdByte b o)))) ∧
  (∀ (s : State) (a line n : Nat), s.copyIn a = none ∨ (∃ e u, s.copyIn a = some (e, u) ∧ e.lines ≤ line) →
    exec (.backgroundScrubRead a line n) s = .next s) ∧
  (∀ s : State, exec .hbmRecalibration s = .next s) ∧
  (∀ s : State, s.device = devReady → s.notFree.isEmpty = true → ∃ t, exec .deepSelfRefresh s = .next t ∧
    (∀ i, i < 16 → t.reg (Obj.deepState (i / 2) (i % 2)) = 2) ∧
    OnlyRegs ((List.range 16).map fun i => Obj.deepState (i / 2) (i % 2)) s t) ∧
  (∀ s : State, s.device ≠ devReady ∨ s.notFree.isEmpty = false → exec .deepSelfRefresh s = .next s) ∧
  (∀ (s : State) (sess n : Nat) (es : List MapEntry), MayWrite s sess (0x3030 + n) 1 →
    ((s.tenant n).state ≠ 1 ∨ (s.tenant n).steps.isEmpty = false ∨ s.writeMap n es = none → ∃ t,
      exec (.tensorMapWrite sess n es) s = .next t ∧
      t.reg (Obj.mapRejectCount n) = (s.reg (Obj.mapRejectCount n) + 1) % 2 ^ 32 ∧ OnlyRegs [Obj.mapRejectCount n] s t) ∧
    (∀ u, s.writeMap n es = some u → exec (.tensorMapWrite sess n es) s = .next u)) ∧
  (∀ (s : State) (n : Nat), (s.tenant n).state = 1 → (s.tenant n).steps = [] →
    s.writeMap n [] = some s ∧
    (∀ m : MapEntry, m.base < imageRegionLo → m.sizeLines ≠ 0 → m.versioned = false → s.mapEntryOk n m = true →
      64 * m.sizeLines ≤ s.freeRoom m.homeTier n → s.entries.length < 262144 →
      s.fits m.homeTier m.homeDie ⟨m.placeKind, m.placeCluster, m.placeCore⟩ (64 * m.sizeLines) = true →
      ∃ u key f, s.writeMap n [m] = some u ∧ u.entries = Sparse.insert key f s.entries ∧ f.base = m.base ∧ f.lines = m.sizeLines ∧
        f.tenant = n ∧ f.tensorId = m.tensorId ∧ f.homeTier = m.homeTier ∧ f.homeAt = m.homeDie ∧ f.upper = none ∧ f.claims = [] ∧
        u.reg (chargedObj m.homeTier n) = (s.reg (chargedObj m.homeTier n) + 64 * m.sizeLines) % 2 ^ 64) ∧
    (∀ m : MapEntry, m.base < imageRegionLo → m.sizeLines = 0 →
      (s.entries.all fun p => !(p.2.tenant == n && p.2.base == m.base)) = true → s.writeMap n [m] = none)) ∧
  (∀ (s : State) (c x a key : Nat) (e : Entry), (s.ctx c x).waits = .version a → (s.ctx c x).state = 3 →
    s.entries.find? (fun p => p.2.homeAlloc == a) = some (key, e) → ∃ t, exec (.versionWriteResume c x) s = .next t ∧
    (∀ d y, ctxKey d y ≠ ctxKey c x → t.ctx d y = s.ctx d y) ∧ { t with ctxs := s.ctxs } = s ∧
    t.ctx c x = (if (s.entries.any fun p => p.2.sameTensor e.tenant e.base && (p.2.bufState == .free || p.2.bufState == .pending)) &&
      !s.stepAhead c x then { s.ctx c x with state := 1, waits := .nothing } else s.ctx c x)) ∧
  (∀ (s : State) (c x : Nat), (s.ctx c x).waits = .turn → (s.ctx c x).state = 3 → ∃ t, exec (.versionWriteResume c x) s = .next t ∧
    (∀ d y, ctxKey d y ≠ ctxKey c x → t.ctx d y = s.ctx d y) ∧ { t with ctxs := s.ctxs } = s ∧
    t.ctx c x = (if s.stepAhead c x then s.ctx c x else { s.ctx c x with state := 1, waits := .nothing })) ∧
  (∀ (s : State) (c x : Nat), (s.ctx c x).state ≠ 3 ∨ ((s.ctx c x).waits ≠ .turn ∧ ∀ a, (s.ctx c x).waits ≠ .version a) →
    exec (.versionWriteResume c x) s = .next s) ∧
  (∀ (s : State) (c x w : Nat) (k : Work), s.ctxWork c x = some (w, k) → (s.ctx c x).state = 3 → (s.ctx c x).waits = .tag true →
    (s.tenant k.tenant).tags.length < s.reg (Obj.tagQuota k.tenant) → s.liveTags < 16384 → ∃ t, exec (.tagWaitEnd c x) s = .next t ∧
    t.ctx c x = { s.ctx c x with state := 1, waits := .nothing } ∧ (∀ d y, ctxKey d y ≠ ctxKey c x → t.ctx d y = s.ctx d y) ∧
    { t with ctxs := s.ctxs } = s) ∧
  (∀ (s : State) (c x : Nat), (∀ w k, s.ctxWork c x = some (w, k) → (s.ctx c x).state ≠ 3 ∨ (s.ctx c x).waits ≠ .tag true ∨
    s.reg (Obj.tagQuota k.tenant) ≤ (s.tenant k.tenant).tags.length ∨ 16384 ≤ s.liveTags) → exec (.tagWaitEnd c x) s = .next s)

/-- The versions advance when a step commits and their pending buffers are discarded when it aborts (R269, R270): the pending buffer
becomes current at the next version; the buffer it replaces is kept while a live tag names it and is free otherwise. -/
def Obligations.WeightVersionsAdvance : Prop :=
  (∀ (s : State) (n : Nat), (s.commitVersions n).reg (Obj.currentVersion n) = nextVersion (s.reg (Obj.currentVersion n))) ∧
  (∀ (s : State) (n k : Nat) (e : Entry), s.entry? k = some e → e.tenant = n → e.versioned = true → e.bufState = .pending →
    (s.commitVersions n).entry? k =
      some { e with bufState := .current, versions := [nextVersion (s.reg (Obj.currentVersion n))] } ∧
    (s.abortVersions n).entry? k = some { e with bufState := .free, versions := [] }) ∧
  (∀ (s : State) (n k p : Nat) (e f : Entry), s.entry? k = some e → e.tenant = n → e.versioned = true → e.bufState = .current →
    (p, f) ∈ s.entries → f.sameTensor n e.base = true → f.bufState = .pending →
    (s.commitVersions n).entry? k = some (if (s.tenant n).tagsName e.versions then { e with bufState := .retained }
      else { e with bufState := .free, versions := [] }) ∧ (s.abortVersions n).entry? k = some e) ∧
  (∀ (s : State) (n k : Nat) (e : Entry), s.entry? k = some e → e.tenant = n → e.versioned = true → e.bufState = .current →
    (∀ p ∈ s.entries, p.2.sameTensor n e.base = true → p.2.bufState ≠ .pending) →
    (s.commitVersions n).entry? k = some { e with versions := e.versions ++ [nextVersion (s.reg (Obj.currentVersion n))] }) ∧
  (∀ (s : State) (n k : Nat) (e : Entry), s.entry? k = some e → e.tenant = n → e.versioned = true → e.bufState = .retained →
    (s.commitVersions n).entry? k = some (if (s.tenant n).tagsName e.versions then e
      else { e with bufState := .free, versions := [] }) ∧ (s.abortVersions n).entry? k = some e) ∧
  (∀ (s : State) (n k : Nat) (e : Entry), s.entry? k = some e → e.tenant ≠ n ∨ e.versioned = false →
    (s.commitVersions n).entry? k = some e ∧ (s.abortVersions n).entry? k = some e) ∧
  (∀ v, nextVersion v < 0xFFFE ∧ nextVersion 0xFFFD = 0)

/-- TENANT_ADMIT (R269, R286, R361, R363, R583, R650, R681, R688, R702): only the Owner admits; a tenant that is not free is answered 8; the
first condition of R363 that fails is answered by its number and nothing else changes; with all met the tenant is admitted with its maps
merged, its share clear, its version counter at 0, its ledger before its first step, and keys of free values (log entry 6). A package that
is fenced, writing flash or not up takes none.
R363, the conditions of admission in their order: a core set, a queue range, the reservations beside the others' and the bytes that are
unavailable (R337, R345), the slot shares, the images, their maps, the piste quotas. The code is that of the first that fails. -/
def Obligations.TenantAdmission : Prop :=
  (∀ (s : State) (sess n : Nat) (x : Session), s.session? sess = some x → s.canWrite x ⟨0xA010 + n, 2⟩ = true → x.role ≠ roleOwner →
    exec (.tenantAdmit sess n) s = .next (s.violate sess)) ∧
  (∀ (s : State) (sess n : Nat) (x : Session), s.session? sess = some x → s.canWrite x ⟨0xA010 + n, 2⟩ = true → x.role = roleOwner →
    (s.tenant n).state ≠ 0 → ∃ t, exec (.tenantAdmit sess n) s = .next t ∧ OnlyRegs [Obj.admitResult n] s t ∧
      t.reg (Obj.admitResult n) = 8) ∧
  (∀ (s u : State) (sess n code : Nat) (x : Session), s.session? sess = some x → s.canWrite x ⟨0xA010 + n, 2⟩ = true →
    x.role = roleOwner → (s.tenant n).state = 0 → s.memberState = 0 → s.dev.writing = none → s.isUp = true → code ≠ 0 →
    s.admitCheck n = (code, u) → ∃ t, exec (.tenantAdmit sess n) s = .next t ∧ OnlyRegs [Obj.admitResult n] s t ∧
      t.reg (Obj.admitResult n) = code) ∧
  (∀ (s u : State) (sess n : Nat) (x : Session), s.session? sess = some x → s.canWrite x ⟨0xA010 + n, 2⟩ = true →
    x.role = roleOwner → (s.tenant n).state = 0 → s.memberState = 0 → s.dev.writing = none → s.isUp = true → n < 16 →
    s.admitCheck n = (0, u) → ∃ t, exec (.tenantAdmit sess n) s = .next t ∧
      t.tenant n = { (u.tenant n).settings with images := (u.tenant n).images, state := 1 } ∧
      (∀ m, m ≠ n → t.tenant m = u.tenant m) ∧
      t.reg (Obj.admitResult n) = 0 ∧ t.reg (Obj.currentVersion n) = 0 ∧
      t.reg (Obj.committedStep n) = s.reg (Obj.ledgerFirstStep n) - 1 ∧
      (∀ j, s.reg (Obj.slotFirst n) ≤ j → j < s.reg (Obj.slotFirst n) + s.reg (Obj.slotCount n) → t.slot j = {}) ∧
      t.entries = u.entries ∧ t.mem = u.mem ∧ t.works = u.works ∧ t.queues = u.queues) ∧
  (∀ (s : State) (sess n : Nat) (x : Session), s.session? sess = some x → s.canWrite x ⟨0xA010 + n, 2⟩ = true → x.role = roleOwner →
    (s.tenant n).state = 0 → s.memberState ≠ 0 ∨ s.dev.writing.isSome = true ∨ s.isUp = false →
    exec (.tenantAdmit sess n) s = .next s) ∧
  (∀ (s : State) (n : Nat),
    (let fails : List Prop :=
      [s.reg (Obj.coreSet n) = 0,
       s.reg (Obj.queueCount n) = 0 ∨ 4096 < s.reg (Obj.queueFirst n) + s.reg (Obj.queueCount n),
       (1024 + 2 * s.enabledCores) * 2 ^ 20 < s.reservedSum 0 + s.reg (Obj.nearReserved n) ∨
         Config.mainReservable < s.reservedSum 1 + s.reg (Obj.mainReserved n) ∨
         Config.deepReservable < s.reservedSum 2 + s.reg (Obj.deepReserved n),
       ∃ m ∈ s.notFree, s.reg (Obj.slotFirst n) < s.reg (Obj.slotFirst m) + s.reg (Obj.slotCount m) ∧
         s.reg (Obj.slotFirst m) < s.reg (Obj.slotFirst n) + s.reg (Obj.slotCount n),
       (∀ p ∈ (s.tenant n).images, p.2.state ≠ 1) ∨ ∃ p ∈ (s.tenant n).images, p.2.state ≠ 1,
       (s.setReg (Obj.currentVersion n) 0).addMap n ((s.tenant n).images.flatMap fun p => p.2.map) = none,
       128 < (s.notFree.map fun m => s.reg (Obj.pisteQuota m)).sum + s.reg (Obj.pisteQuota n)]
     (∀ i, i < 7 → fails.getD i False → (∀ j, j < i → ¬ fails.getD j False) → s.admitCheck n = (i + 1, s)) ∧
     ((∀ j, j < 7 → ¬ fails.getD j False) → ∃ u, s.admitCheck n = (0, u) ∧
       (s.setReg (Obj.currentVersion n) 0).addMap n ((s.tenant n).images.flatMap fun p => p.2.map) = some u)))

/-- TENANT_RELEASE, TENANT_RESET, TENANT_FREE and TENANT_ZEROING_DONE (R125, R143, R208, R275, R286, R337, R364, R388, R701): a release lets
placed work end, a reset stops it; the tenant is free once no work of it is left and its cores are idle; what was charged to it is zeroed
before it is available. -/
def Obligations.TenantRelease : Prop :=
  (∀ (s : State) (sess n : Nat), MayWrite s sess (0xA010 + n) 2 → (s.tenant n).state = 1 → ∃ u t,
    exec (.tenantRelease sess n) s = .next t ∧
    WorksEnd (fun k => k.tenant == n) 4 false s.works
      { s with tenants := Sparse.set {} n { s.tenant n with state := 2 } s.tenants } u ∧
    (∀ j, t.slot j = if s.reg (Obj.slotFirst n) ≤ j ∧ j < s.reg (Obj.slotFirst n) + s.reg (Obj.slotCount n) then {} else u.slot j) ∧
    { t with slots := u.slots } = u) ∧
  (∀ (s : State) (sess n : Nat), MayWrite s sess (0xA010 + n) 2 → (s.tenant n).state ≠ 1 →
    exec (.tenantRelease sess n) s = .next s) ∧
  (∀ (s : State) (sess n : Nat), MayWrite s sess (0xA010 + n) 2 → (s.tenant n).state ≠ 0 → ∃ u t,
    exec (.tenantReset sess n) s = .next t ∧
    WorksEnd (fun k => k.tenant == n) 4 true s.works
      { s with tenants := Sparse.set {} n { s.tenant n with state := 2 } s.tenants } u ∧
    (t.tenant n).state = 2 ∧ (t.tenant n).tags = [] ∧ t.works = u.works ∧ t.queues = u.queues ∧ t.mem = u.mem ∧
    (∀ j, t.slot j = if s.reg (Obj.slotFirst n) ≤ j ∧ j < s.reg (Obj.slotFirst n) + s.reg (Obj.slotCount n) then {} else u.slot j)) ∧
  (∀ (s : State) (sess n : Nat), MayWrite s sess (0xA010 + n) 2 → (s.tenant n).state = 0 →
    exec (.tenantReset sess n) s = .next s) ∧
  (∀ (s : State) (n : Nat), (s.tenant n).state ≠ 2 ∨ (s.works.any fun p => p.2.tenant == n) = true →
    exec (.tenantFree n) s = .next s) ∧
  (∀ (s : State) (n : Nat), (s.tenant n).state = 2 → (s.works.any fun p => p.2.tenant == n) = false →
    (s.entries.map (·.1)).Pairwise (· < ·) → ∃ t, exec (.tenantFree n) s = .next t ∧
      t.tenant n = (s.tenant n).settings ∧
      (∀ p ∈ t.entries, p.2.tenant ≠ n ∧ ∀ cl ∈ p.2.claims, cl.tenant ≠ n) ∧
      (∀ c x, c < 512 → bit (s.reg (Obj.coreSet n)) c = true → x < 4 → t.ctx c x = {} ∧ (t.core c).mode = 0 ∧
        (t.core c).acc = [] ∧ (t.core c).accTag = [] ∧ (t.core c).side = [] ∧ (t.core c).kernels = [] ∧ (t.core c).issued = []) ∧
      (∀ j, s.reg (Obj.slotFirst n) ≤ j → j < s.reg (Obj.slotFirst n) + s.reg (Obj.slotCount n) → t.slot j = {}) ∧
      t.works = s.works ∧ t.queues = s.queues) ∧
  (∀ (s : State) (n : Nat), (s.tenant n).state = 0 → ∃ t, exec (.tenantZeroingDone n) s = .next t ∧
    (∀ p ∈ t.allocs, p.2.zeroing = false ∨ p.2.tenant ≠ n) ∧
    (∀ a v, (a, v) ∈ s.allocs → v.zeroing = true → v.tenant = n → ∀ o, o < 2 ^ 32 → t.rdByte a o = 0) ∧
    (∀ a o, o < 2 ^ 32 → (∀ v, (a, v) ∈ s.allocs → v.zeroing = false ∨ v.tenant ≠ n) → t.rdByte a o = s.rdByte a o) ∧
    (∀ c, bit (s.reg (Obj.coreSet n)) c = true → (t.core c).acc = [] ∧ (t.core c).side = [] ∧
      ∀ k, k / 4096 = c → t.threads.find? (fun p => p.1 = k) = none) ∧
    t.entries = s.entries ∧ t.ctxs = s.ctxs ∧ t.works = s.works) ∧
  (∀ (s : State) (n : Nat), (s.tenant n).state ≠ 0 → exec (.tenantZeroingDone n) s = .next s)

/-- IMAGE_LOAD and IMAGE_CLEAR (R365 to R368, R398): images of the same id or in the slot give way; an image whose digest, header or entry
records are wrong leaves the slot's mark with the code of its failure, as does one without room; a good one lies, this package's chip
number in its descriptors, in a pinned Main entry of the tenant on the die with the most room. Only the slots 1 to 16 of a free tenant
take one, and only 0 clears. -/
def Obligations.ImageLoadAndClear : Prop :=
  (∀ (s u : State) (sess n slot : Nat) (b : List Byte), MayWrite s sess (0xA030 + n) slot → (s.tenant n).state = 0 → 1 ≤ slot →
    slot ≤ 16 → u = ((s.tenant n).images.filter fun p => p.2.imageId == (readImageHeader b).imageId || p.1 == slot).foldl
      (fun t p => t.removeImage n p.1) s →
    (let h := readImageHeader b
     let marked := fun (code : Nat) => ∃ t, exec (.imageLoad sess n slot b) s = .next t ∧
       Sparse.get {} slot (t.tenant n).images = { state := code, imageId := h.imageId } ∧
       (∀ i, i ≠ slot → Sparse.get {} i (t.tenant n).images = Sparse.get {} i (u.tenant n).images) ∧
       (∀ m, m ≠ n → t.tenant m = u.tenant m) ∧ { t with tenants := u.tenants } = u
     let digest := sha256 ((b.take h.bytes).drop 0x80) = (b.drop 0x40).take 32
     let entries := (readEntries b h).all (entryOk h)
     let room := 64 * ceilDiv h.bytes 64 ≤ u.freeRoom 1 n ∧ u.entries.length < 262144
     (¬ digest → marked 2) ∧ (digest → h.ok b.length = false → marked 3) ∧
     (digest → h.ok b.length = true → entries = false → marked 5) ∧
     (digest → h.ok b.length = true → entries = true → ¬ room → marked 4) ∧
     (digest → h.ok b.length = true → entries = true → room → ∃ t a key, exec (.imageLoad sess n slot b) s = .next t ∧
       t.entries = Sparse.insert key (imageEntry n slot h (u.emptiest 1) a) u.entries ∧
       (∀ i, i < h.bytes → t.rdByte a i = (relocate s.chip b h).getD i 0) ∧
       (∀ c o, o < 2 ^ 32 → c ≠ a → t.rdByte c o = u.rdByte c o) ∧
       Sparse.get {} slot (t.tenant n).images = imageRecord b h key ∧
       t.reg (Obj.mainCharged n) = (u.reg (Obj.mainCharged n) + 64 * ceilDiv h.bytes 64) % 2 ^ 64))) ∧
  (∀ (s : State) (sess n slot : Nat) (b : List Byte), MayWrite s sess (0xA030 + n) slot →
    (s.tenant n).state ≠ 0 ∨ slot = 0 ∨ 16 < slot → exec (.imageLoad sess n slot b) s = .next s) ∧
  (∀ (s : State) (sess n slot : Nat), MayWrite s sess (0xA050 + n) slot → (s.tenant n).state = 0 → ∃ t,
    exec (.imageClear sess n slot 0) s = .next t ∧ Sparse.get {} slot (t.tenant n).images = {} ∧
    (∀ i, i ≠ slot → Sparse.get {} i (t.tenant n).images = Sparse.get {} i (s.tenant n).images) ∧
    (∀ m, m ≠ n → t.tenant m = s.tenant m) ∧
    (let im := Sparse.get {} slot (s.tenant n).images
     (im.state ≠ 1 → { t with tenants := s.tenants } = s) ∧
     (im.state = 1 → t.entry? im.entry = none ∧ ∀ k, k ≠ im.entry → t.entry? k = s.entry? k))) ∧
  (∀ (s : State) (sess n slot v : Nat), MayWrite s sess (0xA050 + n) slot → v ≠ 0 ∨ (s.tenant n).state ≠ 0 →
    exec (.imageClear sess n slot v) s = .next s)

/-- DRAWING_WRITE and SLALOM_ARM (R466 to R468, R471): a drawing is checked whole, and one that fails is counted and not stored; the
drawing in force stays; every valid slalom step is accepted or none is. -/
def Obligations.DrawingsInForce : Prop :=
  (∀ (s : State) (sess slot : Nat) (d : Drawing), MayWrite s sess 0x6010 slot → s.drawingOk d = false → ∃ t,
    exec (.drawingWrite sess slot d) s = .next t ∧
      t.reg Obj.drawingRejectCount = (s.reg Obj.drawingRejectCount + 1) % 2 ^ 32 ∧ OnlyRegs [Obj.drawingRejectCount] s t) ∧
  (∀ (s : State) (sess slot : Nat) (d : Drawing), MayWrite s sess 0x6010 slot → s.drawingOk d = true →
    s.drawingInForceIs d.drawingId = false → (∀ o, s.stored slot = some o → s.drawingInForceIs o.drawingId = false) →
    ∃ t, exec (.drawingWrite sess slot d) s = .next t ∧ t.stored slot = some d ∧
      (∀ p ∈ t.fabric.store, p.2.drawingId = d.drawingId → p.1 = slot) ∧
      { t with fabric := { t.fabric with store := s.fabric.store }, generations := s.generations } = s) ∧
  (∀ (s : State) (sess slot : Nat) (d : Drawing), MayWrite s sess 0x6010 slot → s.drawingOk d = true →
    s.drawingInForceIs d.drawingId = true ∨ (∃ o, s.stored slot = some o ∧ s.drawingInForceIs o.drawingId = true) →
    exec (.drawingWrite sess slot d) s = .next s) ∧
  (∀ (s : State) (sess : Nat), MayWrite s sess 0x6021 1 → s.slalomSteps = [] → exec (.slalomArm sess) s = .next s) ∧
  (∀ (s : State) (sess : Nat), MayWrite s sess 0x6021 1 → s.slalomSteps ≠ [] →
    gatesRise s.slalomSteps = false ∨ (∃ k ∈ s.slalomSteps, k.2.1 % (1024 * s.gatePeriod) ≠ 0 ∨ s.drawingNamed k.2.2 = none) ∨
    256 < s.schedCount + s.slalomSteps.length → exec (.slalomArm sess) s = .next (s.setReg Obj.slalomState 2)) ∧
  (∀ (s : State) (sess : Nat), MayWrite s sess 0x6021 1 → s.slalomSteps ≠ [] → gatesRise s.slalomSteps = true →
    (∀ k ∈ s.slalomSteps, k.2.1 % (1024 * s.gatePeriod) = 0 ∧ (s.drawingNamed k.2.2).isSome = true) →
    s.schedCount + s.slalomSteps.length ≤ 256 → exec (.slalomArm sess) s =
      .next ((s.slalomSteps.foldl (fun u k =>
        if k.2.1 / 1024 ≤ u.beatNo then u.lateSlalom k.1 else u.schedule ⟨k.2.1 / 1024, .slalom k.1 k.2.2⟩)
        (s.setReg Obj.slalomState 1)).settleSlalom)) ∧
  (∀ (s : State) (sess : Nat), MayWrite s sess 0x6021 1 → s.slalomSteps ≠ [] → gatesRise s.slalomSteps = true →
    (∀ k ∈ s.slalomSteps, k.2.1 % (1024 * s.gatePeriod) = 0 ∧ (s.drawingNamed k.2.2).isSome = true ∧ s.beatNo < k.2.1 / 1024) →
    s.schedCount + s.slalomSteps.length ≤ 256 → ∃ t, exec (.slalomArm sess) s = .next t ∧ t.reg Obj.slalomState = 1 ∧
      t.time.events = s.time.events ++ s.slalomSteps.map (fun k => ⟨k.2.1 / 1024, .slalom k.1 k.2.2⟩) ∧
      OnlyRegs [Obj.slalomState, Obj.slalomNext] { s with time := t.time } t)

/-- PACKET_INJECT, PACKET_FORWARD, PACKET_RECEIVE, ACK_RECEIVE and NAK_RECEIVE (R23, R417, R456, R470, R473 to R477, R482, R484, R485,
R487 to R489, R522, R595): a packet leaves when its lane carries its class and it holds its credits and its retransmit room; one whose
CRC-64 is wrong, or whose sequence is not the next, is answered with the sequence expected. The epoch rule discards an older packet and
one of a fenced chip and holds a newer one. A stream's next packet is delivered and an earlier one only acknowledged. -/
def Obligations.PacketsAccepted : Prop :=
  (∀ (s : State) (die : Nat) (p : Packet), s.isUp = false ∨ p.dest = s.chip → exec (.packetInject ⟨die, p⟩) s = .next s) ∧
  (∀ (s : State) (die : Nat) (p : Packet), s.isUp = true → p.dest ≠ s.chip → s.inFabric p.dest = false →
    p.ptype ≠ ptRequest → p.ptype ≠ ptRun → ∃ t, exec (.packetInject ⟨die, p⟩) s = .next t ∧
      t.reg Obj.unreachableCount = (s.reg Obj.unreachableCount + 1) % 2 ^ 32 ∧
      t.fabric = { s.fabric with unreached := s.fabric.unreached ++ [s.ownPacket p] } ∧
      OnlyRegs [Obj.unreachableCount] { s with fabric := t.fabric } t) ∧
  (∀ (s : State) (die : Nat) (p : Packet), s.isUp = true → p.dest ≠ s.chip → s.inFabric p.dest = false →
    exec (.packetInject ⟨die, p⟩) s = .next (s.abandonPacket (s.ownPacket p))) ∧
  (∀ (s : State) (die : Nat) (p : Packet), s.isUp = true → p.dest ≠ s.chip → s.inFabric p.dest = true →
    (s.nextHop (s.ownPacket p) = none → exec (.packetInject ⟨die, p⟩) s = .next s) ∧
    (∀ port cls, s.nextHop (s.ownPacket p) = some (port, cls) →
      (s.maySend (s.ownPacket p) port cls = false → exec (.packetInject ⟨die, p⟩) s = .next s) ∧
      (s.maySend (s.ownPacket p) port cls = true → ∃ u t, exec (.packetInject ⟨die, p⟩) s = .next t ∧
        PacketLeft s u die port cls (s.ownPacket p) ∧ SentHeld u t (s.ownPacket p) port))) ∧
  (∀ (s : State) (p : Packet), s.ownPacket p = { p with
    source := s.chip, hops := 0, epoch := s.reg Obj.membershipEpoch,
    flags := b2n (s.onPathB p.dest (s.txStream p.dest p.channel)) + 8 * b2n (bit p.flags 3) +
      16 * b2n ((s.txStream p.dest p.channel).released && sequenced p),
    sequence := if sequenced p then (s.txStream p.dest p.channel).last + 1 else 0,
    drawingId := if p.ptype = ptRun then s.reg Obj.drawingInForce else 0 }) ∧
  (∀ (s : State) (port : Nat) (p : Packet), s.linksUp = false ∨ 16 ≤ port ∨ p.dest = s.chip ∨ p.hops = 0 ∨
    (∀ h, (route p.source p.dest (bit p.flags 0) (p.ptype == ptRequest))[p.hops - 1]? = some h → h.dst ≠ s.chip) →
    exec (.packetForward port p) s = .next s) ∧
  (∀ (s : State) (port out cls : Nat) (p : Packet) (h : Hop), s.linksUp = true → port < 16 → p.dest ≠ s.chip → p.hops ≠ 0 →
    (route p.source p.dest (bit p.flags 0) (p.ptype == ptRequest))[p.hops - 1]? = some h → h.dst = s.chip →
    (let u := s.packetWhole port (arrivalCls p) p
     u.nextHop p = some (out, cls) →
     (u.hasCredit out cls (flitsOf p) = false ∨ u.hopBarred out cls = true → exec (.packetForward port p) s =
       .next { u with fabric := { u.fabric with transit := u.fabric.transit ++ [(port, p)] } }) ∧
     (u.hasCredit out cls (flitsOf p) = true → u.hopBarred out cls = false → ∃ v w, PacketLeft u v (portDie port) out cls p ∧
       w.reg (Obj.transitFlits out) = (v.reg (Obj.transitFlits out) + flitsOf p) % 2 ^ 64 ∧ OnlyRegs [Obj.transitFlits out] v w ∧
       exec (.packetForward port p) s = .next (w.freeFlits port (arrivalCls p) (flitsOf p))))) ∧
  (∀ (s : State) (port cls n : Nat), ∃ t, s.freeFlits port cls n = t ∧
    (t.port port).freedAll = raiseCount cls n (s.port port).freedAll ∧
    ((s.port port).freed.1 + (s.port port).freed.2 + n < 64 ∨ 12 ≤ port → t.out = s.out ∧ (t.port port).freed =
      (if cls = clsF0 then ((s.port port).freed.1 + n, (s.port port).freed.2)
       else if cls = clsF1 then ((s.port port).freed.1, (s.port port).freed.2 + n) else (s.port port).freed)) ∧
    (∀ q, q ≠ port → t.port q = s.port q) ∧ { t with ports := s.ports, out := s.out } = s) ∧
  (∀ (s : State) (die crc : Nat) (p : Packet), s.linksUp = false ∨ p.dest ≠ s.chip →
    exec (.packetReceive ⟨die, p⟩ crc) s = .next s ∧ exec (.ackReceive p) s = .next s ∧ exec (.nakReceive p) s = .next s) ∧
  (∀ (s : State) (die crc : Nat) (p : Packet), s.linksUp = true → p.dest = s.chip →
    (let u := s.arrive die p
     (crc ≠ packetCrc p → exec (.packetReceive ⟨die, p⟩ crc) s = .next (if sequenced p then u.sendNak p 0 else u)) ∧
     (crc = packetCrc p → p.ptype ≤ 4 → exec (.packetReceive ⟨die, p⟩ crc) s = .next (u.epochGate p)) ∧
     (crc = packetCrc p → p.ptype = ptManage → p.payload.length = 20 →
       exec (.packetReceive ⟨die, p⟩ crc) s = .next (u.pairWith (pairAskOf p))) ∧
     (crc = packetCrc p → 4 < p.ptype → p.ptype ≠ ptManage ∨ p.payload.length ≠ 20 →
       exec (.packetReceive ⟨die, p⟩ crc) s = .next u))) ∧
  (∀ (s : State) (p : Packet), s.linksUp = true → p.dest = s.chip →
    exec (.ackReceive p) s = .next (if p.ptype = ptAck then s.epochGate p else s) ∧
    exec (.nakReceive p) s = .next (if p.ptype = ptNak then s.epochGate p else s)) ∧
  (∀ (s : State) (p : Packet),
    (s.fenced p.source = true ∨ p.epoch < s.reg Obj.membershipEpoch → ∃ t, s.epochGate p = t ∧ OnlyRegs [Obj.fencedDiscardCount] s t ∧
      t.reg Obj.fencedDiscardCount = (s.reg Obj.fencedDiscardCount + 1) % 2 ^ 64) ∧
    (s.fenced p.source = false → s.reg Obj.membershipEpoch < p.epoch → s.epochGate p =
      { s with fabric := { s.fabric with held := s.fabric.held ++ [p] } }) ∧
    (s.fenced p.source = false → p.epoch = s.reg Obj.membershipEpoch → s.epochGate p =
      (if p.ptype = ptAck then s.takeAck p
       else if p.ptype = ptNak then s.takeNak p
       else if sequenced p then s.takeSequenced p
       else if s.busyFor p then (s.sendNak p 1).count 32 Obj.busyNakCount
       else s.deliver p))) ∧
  (∀ (s : State) (p : Packet),
    s.deliver p = (if p.ptype = ptRequest then { s with fabric := { s.fabric with requests := s.fabric.requests ++ [p] } }
      else if p.ptype = ptReply then { s with fabric := { s.fabric with
        replySlots := s.fabric.replySlots.filter fun r => r != (p.replySlot, p.source) } }
      else s)) ∧
  (∀ (s : State) (p : Packet), p.ptype = ptRun → s.drawingGood p.drawingId = false → ∃ t, s.takeSequenced p = t ∧
    OnlyRegs [Obj.drawingMismatchCount] s t ∧
    t.reg Obj.drawingMismatchCount = (s.reg Obj.drawingMismatchCount + 1) % 2 ^ 64) ∧
  (∀ (s : State) (p : Packet), p.ptype ≠ ptRun ∨ s.drawingGood p.drawingId = true →
    (let v := s.rxStream p.source p.channel
     let again := bit p.flags flagRestart = true ∧ ¬ (bit p.flags 1 = true ∧ v.last = p.sequence)
     let last := if again then p.sequence - 1 else v.last
     let k := (if again then 0 else v.sinceAck) + 1
     (p.sequence ≤ last → s.takeSequenced p = s.sendAck p.source p.channel) ∧
     (last + 1 < p.sequence → s.takeSequenced p = s.sendNak p 0) ∧
     (p.sequence = last + 1 → s.busyFor p = true → s.takeSequenced p = (s.sendNak p 1).count 32 Obj.busyNakCount) ∧
     (p.sequence = last + 1 → s.busyFor p = false → ∃ t, t = State.deliver (State.setRx s p.source p.channel
         { last := p.sequence, sinceAck := k, run := if p.ptype = ptRun then some p.tenant else none }) p ∧
       s.takeSequenced p = if 16 ≤ k then t.sendAck p.source p.channel else t))) ∧
  (∀ (s : State) (chip ch : Nat), s.answersLeave chip = true → (s.rxStream chip ch).run = none → ∃ t, s.sendAck chip ch = t ∧
    t.out = s.out ++ [.ackPacket chip ch (s.rxStream chip ch).last none] ∧
    t.rxStream chip ch = { s.rxStream chip ch with sinceAck := 0 } ∧
    { t with out := s.out, fabric := { t.fabric with rx := s.fabric.rx } } = s) ∧
  (∀ (s : State) (p : Packet) (code : Nat), s.sendNak p code = if s.answersLeave p.source then
      { s with out := s.out ++ [.nakPacket p.source p.channel ((s.rxStream p.source p.channel).last + 1) code] } else s) ∧
  (∀ (s : State) (p : Packet), p.address % 1024 = 0 →
    (∀ q ∈ (s.txStream p.source p.channel).unacked, p.ackSequence < q.2.sequence) → s.takeAck p = s) ∧
  (∀ (s : State) (p : Packet) (port : Nat) (q : Packet) (rest : List (Nat × Packet)), p.address % 1024 = 0 →
    (s.txStream p.source p.channel).unacked = (port, q) :: rest → q.sequence ≤ p.ackSequence →
    (∀ r ∈ rest, p.ackSequence < r.2.sequence) →
    (s.colls.insts.all fun i => !i.packets.contains (q.dest, q.sequence)) = true → ∃ t, s.takeAck p = t ∧
      t.txStream p.source p.channel = { s.txStream p.source p.channel with unacked := rest, timeouts := 0 } ∧
      t.reg (Obj.retransmitBytes port) = s.reg (Obj.retransmitBytes port) - (64 + q.payload.length) ∧
      OnlyRegs [Obj.retransmitBytes port] { s with fabric := { s.fabric with tx := t.fabric.tx } } t) ∧
  (∀ (s : State) (p : Packet), bit p.flags 2 = false → s.takeNak p = s.resendAll p.source p.channel
    ((s.txStream p.source p.channel).unacked.filter fun q => decide (p.ackSequence ≤ q.2.sequence))) ∧
  (∀ (s : State) (p : Packet), bit p.flags 2 = true → s.takeNak p = if (s.txStream p.source p.channel).unacked = [] then s
    else s.setTx p.source p.channel { s.txStream p.source p.channel with busy := true })

/-- RESEND_TIMEOUT, PATH_A_RETURN, STREAM_RELEASE and HELD_PACKET_TIMEOUT (R29, R417, R475, R479, R487, R489 to R491, R536): the oldest packet is sent
again; the second timeout on path A moves the stream to path B, the fourth there abandons it, as does the sixth of a run, but for runs to
a member that is held. Each packet sent again leaves from its port's die with the resend flag and is counted; an abandoned stream has
nothing outstanding.
CREDIT_RETURN, CREDIT_RETURN_TIMER and CUMULATIVE_ACK_TIMER (R476, R484, R485, R488): returned credits let waiting packets try again;
a rack port's freed credits leave; what was delivered since the last acknowledgement is acknowledged. -/
def Obligations.StreamsAndCredits : Prop :=
  (∀ (s : State) (d c : Nat), (s.txStream d c).unacked = [] ∨ s.linksUp = false → exec (.resendTimeout d c) s = .next s) ∧
  (∀ (s : State) (d c : Nat), (s.txStream d c).unacked ≠ [] → s.linksUp = true → (s.txStream d c).busy = true →
    exec (.resendTimeout d c) s = .next ((s.setTx d c { s.txStream d c with busy := false }).resendAll d c
      (s.txStream d c).unacked)) ∧
  (∀ (s : State) (d c : Nat), (s.txStream d c).unacked ≠ [] → s.linksUp = true → (s.txStream d c).busy = false →
    (s.txStream d c).onPiste = true →
    (let u := s.setTx d c { s.txStream d c with timeouts := (s.txStream d c).timeouts + 1 }
     exec (.resendTimeout d c) s = .next (
      if 5 ≤ (s.txStream d c).timeouts ∧ d ∉ s.colls.suspended then u.abandonStream d c
      else u.resendAll d c ((s.txStream d c).unacked.take 1)))) ∧
  (∀ (s : State) (d c : Nat), (s.txStream d c).unacked ≠ [] → s.linksUp = true → (s.txStream d c).busy = false →
    (s.txStream d c).onPiste = false → s.onPathB d (s.txStream d c) = true →
    (let u := s.setTx d c { s.txStream d c with timeouts := (s.txStream d c).timeouts + 1 }
     exec (.resendTimeout d c) s = .next (
      if 3 ≤ (s.txStream d c).timeouts then u.abandonStream d c
      else u.resendAll d c ((s.txStream d c).unacked.take 1)))) ∧
  (∀ (s : State) (d c : Nat), (s.txStream d c).unacked ≠ [] → s.linksUp = true → (s.txStream d c).busy = false →
    (s.txStream d c).onPiste = false → s.onPathB d (s.txStream d c) = false → exec (.resendTimeout d c) s = .next (
      if 1 ≤ (s.txStream d c).timeouts then
        ((s.setTx d c { s.txStream d c with timeouts := 0, pathB := true }).count 32 Obj.routeSwitchCount).resendAll d c
          (s.txStream d c).unacked
      else (s.setTx d c { s.txStream d c with timeouts := (s.txStream d c).timeouts + 1 }).resendAll d c
        ((s.txStream d c).unacked.take 1))) ∧
  (∀ (s : State) (d c : Nat), exec (.pathAReturn d c) s = .next (
    if (s.txStream d c).pathB = true ∧ s.pathAvoided d false = false then
      s.setTx d c { s.txStream d c with pathB := false, timeouts := 0 } else s)) ∧
  (∀ (s : State) (d c : Nat), exec (.streamRelease d c) s = .next (
    if (s.txStream d c).unacked = [] ∧ (s.txStream d c).last ≠ 0 then s.setTx d c { released := true } else s)) ∧
  (∀ (s : State) (p : Packet) (onB : Bool) (port cls : Nat),
    (let q : Packet := { p with flags := p.flags / 4 * 4 + 2 + b2n onB, hops := 0 }
     s.nextHop q = some (port, cls) →
     (s.hopBarred port cls = true → s.resendOne p onB = s) ∧
     (s.hopBarred port cls = false → ∃ u t, PacketLeft s u (portDie port) port cls q ∧ s.resendOne p onB = t ∧
       OnlyRegs [Obj.resendCount] u t ∧ t.reg Obj.resendCount = (s.reg Obj.resendCount + 1) % 2 ^ 64))) ∧
  (∀ (s : State) (d c : Nat) (ps : List (Nat × Packet)),
    s.resendAll d c ps = ps.foldl (fun t p => t.resendOne p.2 (s.onPathB d (s.txStream d c))) s) ∧
  (∀ (s : State) (d c : Nat), (∀ q ∈ (s.txStream d c).unacked, q.1 < 16 ∧ q.2.ptype = ptReply) → ∃ t, s.abandonStream d c = t ∧
    t.txStream d c = { s.txStream d c with unacked := [], timeouts := 0, busy := false } ∧
    t.fabric.unreached = s.fabric.unreached ++ (s.txStream d c).unacked.map (·.2) ∧
    t.reg Obj.unreachableCount = (if (s.txStream d c).unacked = [] then s.reg Obj.unreachableCount
      else (s.reg Obj.unreachableCount + (s.txStream d c).unacked.length) % 2 ^ 32)) ∧
  (∀ (s : State) (src ch q : Nat),
    (let is := fun (p : Packet) => p.source == src && p.channel == ch && p.sequence == q
     let k := (s.fabric.held.filter is).length
     ∃ t, exec (.heldPacketTimeout src ch q) s = .next t ∧ t.fabric = { s.fabric with held := s.fabric.held.filter fun p => !is p } ∧
      (0 < k → t.reg Obj.fencedDiscardCount = (s.reg Obj.fencedDiscardCount + k) % 2 ^ 64) ∧
      OnlyRegs [Obj.fencedDiscardCount] { s with fabric := t.fabric } t)) ∧
  (∀ (s : State) (port cls k : Nat), s.linksUp = true → port < 16 → ∃ u, exec (.creditReturn port cls k) s = .next (State.retryTransit u) ∧
    (u.port port).sent = (if cls = clsF0 then ((s.port port).sent.1 - k, (s.port port).sent.2)
      else if cls = clsF1 then ((s.port port).sent.1, (s.port port).sent.2 - k) else (s.port port).sent) ∧
    { u.port port with sent := (s.port port).sent } = s.port port ∧ (∀ q, q ≠ port → u.port q = s.port q) ∧
    { u with ports := s.ports } = s) ∧
  (∀ (s : State), s.retryTransit = s.fabric.transit.foldl (fun t p => t.forward p.1 p.2)
    { s with fabric := { s.fabric with transit := [] } }) ∧
  (∀ (s : State) (port cls k : Nat), s.linksUp = false ∨ 16 ≤ port → exec (.creditReturn port cls k) s = .next s) ∧
  (∀ (s : State) (port : Nat), s.linksUp = true → port < 12 → ∃ t, exec (.creditReturnTimer port) s = .next t ∧
    (t.port port).freed = (0, 0) ∧ { t.port port with freed := (s.port port).freed } = s.port port ∧
    (∀ q, q ≠ port → t.port q = s.port q) ∧
    t.out = s.out ++ (if (s.port port).freed.1 = 0 then [] else [.credit port clsF0 (s.port port).freed.1]) ++
      (if (s.port port).freed.2 = 0 then [] else [.credit port clsF1 (s.port port).freed.2]) ∧
    { t with ports := s.ports, out := s.out } = s) ∧
  (∀ (s : State) (port : Nat), s.linksUp = false ∨ 12 ≤ port → exec (.creditReturnTimer port) s = .next s) ∧
  (∀ (s : State) (src ch : Nat), s.linksUp = true → (s.rxStream src ch).sinceAck ≠ 0 → s.answersLeave src = true → ∃ t piste,
    exec (.cumulativeAckTimer src ch) s = .next t ∧ t.out = s.out ++ [.ackPacket src ch (s.rxStream src ch).last piste] ∧
    ((s.rxStream src ch).run = none → piste = none) ∧ t.rxStream src ch = { s.rxStream src ch with sinceAck := 0 } ∧
    { t with out := s.out, fabric := { t.fabric with rx := s.fabric.rx } } = s) ∧
  (∀ (s : State) (src ch : Nat), s.linksUp = false ∨ (s.rxStream src ch).sinceAck = 0 →
    exec (.cumulativeAckTimer src ch) s = .next s)

/-- RUN_SEND, RUN_RECEIVE and BUFFER_POST (R470, R473, R475, R483, R518, R520 to R523, R527, R535, R540): a run leaves while the peer has
announced a buffer for it and no hold is in force; its tag is laid out as R520 says. One that arrives is dropped at another epoch or of a
fenced chip (R595), counted under another drawing, or counted as a duplicate of one that waits, is applied, or is of a closed, committed
or aborted step; else it waits for its instance, or is applied to it: kept, or discarded at an older X. A post is announced, with its
cumulative count, while the work area has the buffers.
RETRY_NOTICE, CHUNK_LEVEL_FINISHED, COLLECTIVE_TOKEN_DONE, COLLECTIVE_STALL and FEED_RECEIVE (R155, R326, R350, R514, R516, R518, R527,
R528, R538, R543, R602, R603): a notice at or below a chunk's X is ignored, one above discards the chunk's partial sums, starts it
again at that X with the retry bit and is passed on; a second retry of a chunk, or an X above 0xFE, fails the instance. A level finishes a
chunk in order; an instance ends when what it receives is written and what it sent is acknowledged; an instance stalls once; a feed's
bytes are stored in a live target alone, once nothing holds its range. -/
def Obligations.CollectiveRunsAndInstances : Prop :=
  (∀ (s : State) (n plan inst ch peer : Nat), s.openInst n plan inst = none ∨
    (∃ i, s.openInst n plan inst = some i ∧ i.nextRun ch peer = none) → exec (.runSend n plan inst ch peer) s = .next s) ∧
  (∀ (s : State) (n plan inst ch peer : Nat) (i : Inst) (q : RunKey × Val × Nat), s.openInst n plan inst = some i →
    i.nextRun ch peer = some q →
    (let key := collKey peer n plan
     let sent := Sparse.get 0 key s.colls.sentRuns
     let room := (Sparse.get 0 key s.colls.announced + 2 ^ 32 - sent) % 2 ^ 32
     let p := s.ownPacket (s.runPacket i q)
     (s.agentsRun n = false ∨ room = 0 ∨ 2 ^ 31 ≤ room ∨ s.nextHop p = none ∨
       (∃ port cls, s.nextHop p = some (port, cls) ∧ s.maySend p port cls = false) →
       exec (.runSend n plan inst ch peer) s = .next s) ∧
     (∀ port cls, s.agentsRun n = true → room ≠ 0 → room < 2 ^ 31 → s.nextHop p = some (port, cls) → s.maySend p port cls = true →
       ∃ u v t, exec (.runSend n plan inst ch peer) s = .next t ∧ PacketLeft s u (i.cores.headD 0 / 64) port cls p ∧
         SentHeld u v p port ∧ t = { v with colls := { v.colls with
           insts := v.colls.insts.map fun j => if j.same i then { i with
             sent := i.sent ++ [q.1], packets := i.packets ++ [((s.runPacket i q).dest,
               (v.txStream (s.runPacket i q).dest (s.runPacket i q).channel).last)] } else j
           sentRuns := Sparse.set 0 key ((sent + 1) % 2 ^ 32) v.colls.sentRuns } }))) ∧
  (∀ (s : State) (i : Inst) (q : RunKey × Val × Nat), (s.runPacket i q).ptype = ptRun ∧ (s.runPacket i q).channel = i.plan % 64 ∧
    (s.runPacket i q).dest = i.peerOf q.1 ∧ (s.runPacket i q).tenant = i.n ∧
    (s.runPacket i q).deadline = Sparse.get 0 (q.1.chunk * 4 + q.1.stage) i.readyAt +
      min 16777215 (s.reg (Obj.collectiveSlackNs i.n)) ∧
    (i.xOf q.1.chunk < 256 → q.2.1.2 < 256 → (let a := (s.runPacket i q).address
      bits a 0 10 = i.plan % 1024 ∧ bits a 10 8 = i.inst % 256 ∧ bits a 18 6 = i.step % 64 ∧ bits a 24 17 = q.1.chunk % 2 ^ 17 ∧
      bits a 41 4 = q.1.run % 16 ∧ bits a 45 2 = i.phase q.1 ∧ bit a 47 = (Sparse.get 0 q.1.chunk i.tries != 0) ∧
      bits a 48 8 = q.2.1.2 ∧ bits a 56 8 = i.xOf q.1.chunk))) ∧
  (∀ (s : State) (r : Run), s.isUp = false ∨ r.epoch ≠ s.reg Obj.membershipEpoch ∨ s.fenced r.peer = true →
    exec (.runReceive r) s = .next s) ∧
  (∀ (s : State) (r : Run), s.isUp = true → r.epoch = s.reg Obj.membershipEpoch → s.fenced r.peer = false →
    s.drawingGood r.drawingId = false → ∃ t, exec (.runReceive r) s = .next t ∧
      t.reg Obj.drawingMismatchCount = (s.reg Obj.drawingMismatchCount + 1) % 2 ^ 64 ∧ OnlyRegs [Obj.drawingMismatchCount] s t) ∧
  (∀ (s : State) (r : Run), s.isUp = true → r.epoch = s.reg Obj.membershipEpoch → s.fenced r.peer = false →
    s.drawingGood r.drawingId = true →
    s.stepPast r = true ∨ s.abortedFor r = true ∨ s.closedFor r = true ∨ s.colls.waiting.any (sameTag r) = true →
    ∃ t, exec (.runReceive r) s = .next t ∧ OnlyRegs [Obj.duplicateRunCount r.tenant] s t ∧
      t.reg (Obj.duplicateRunCount r.tenant) = (s.reg (Obj.duplicateRunCount r.tenant) + 1) % 2 ^ 64) ∧
  (∀ (s : State) (r : Run), s.isUp = true → r.epoch = s.reg Obj.membershipEpoch → s.fenced r.peer = false →
    s.drawingGood r.drawingId = true → s.stepPast r = false → s.abortedFor r = false → s.closedFor r = false →
    s.colls.waiting.any (sameTag r) = false →
    (let u := s.countReceived r
     ((∀ i ∈ s.colls.insts, i.owns r = false) ∨ s.held r.tenant = true → exec (.runReceive r) s =
       .next { u with colls := { u.colls with waiting := u.colls.waiting ++ [r] } }) ∧
     (∀ i, s.held r.tenant = false → s.colls.insts.find? (fun i => i.owns r) = some i →
       exec (.runReceive r) s = .next ((u.applyRun i r).settleInst i)))) ∧
  (∀ (s : State) (r : Run), (let key := collKey r.peer r.tenant r.plan
    s.countReceived r = { s with colls := { s.colls with
      received := Sparse.set 0 key ((Sparse.get 0 key s.colls.received + 1) % 2 ^ 32) s.colls.received } })) ∧
  (∀ (s : State) (i : Inst) (r : Run), (let x := if i.isControl r.key.chunk then r.x else i.xOf r.key.chunk
    (i.fromPeer r = false ∨ r.x < x → s.applyRun i r = s) ∧
    (i.fromPeer r = true → x ≤ r.x → (i.got.any fun g => g.key == r.key) = true →
      s.applyRun i r = s.count 64 (Obj.duplicateRunCount i.n)) ∧
    (i.fromPeer r = true → x < r.x → (i.got.any fun g => g.key == r.key) = false →
      s.applyRun i r = { s with colls := { s.colls with waiting := s.colls.waiting ++ [r] } }) ∧
    (i.fromPeer r = true → x = r.x → (i.got.any fun g => g.key == r.key) = false → i.stalled = false →
      i.form ≠ .receive ∨ i.contribs = [] ∨ r.shape = s.rowShape i → ∃ m, s.applyRun i r = { s with colls := { s.colls with
        insts := s.colls.insts.map fun j => if j.same i then { i with got := i.got ++ [r], readyAt := m } else j } } ∧
        (∀ c st, c ≠ r.key.chunk ∨ st ≤ r.key.stage → st < 4 → Sparse.get 0 (c * 4 + st) m = Sparse.get 0 (c * 4 + st) i.readyAt) ∧
        (∀ st, r.key.stage < st → st < 4 → Sparse.get 0 (r.key.chunk * 4 + st) m = s.cadNow)))) ∧
  (∀ (s : State) (i : Inst), s.inst? i = some i → (∀ j ∈ s.colls.insts, j.same i = true → j = i) → InstSettled s i →
    s.settleInst i = s) ∧
  (∀ (s : State) (n plan peer k : Nat), s.isUp = true → 0 < k →
    s.buffersUsed n plan + k ≤ Sparse.get 0 (n * 1024 + plan) s.colls.areas →
    (let v := (Sparse.get 0 (collKey peer n plan) s.colls.posted + k) % 2 ^ 32
     exec (.bufferPost n plan peer k) s = .next { s with
       colls := { s.colls with posted := Sparse.set 0 (collKey peer n plan) v s.colls.posted }
       out := s.out ++ [.bufferCount peer (plan % 64) (s.rxStream peer (plan % 64)).last (plan % 1024 + v * 2 ^ 32)] })) ∧
  (∀ (s : State) (n plan peer k : Nat), s.isUp = false ∨ k = 0 ∨
    Sparse.get 0 (n * 1024 + plan) s.colls.areas < s.buffersUsed n plan + k → exec (.bufferPost n plan peer k) s = .next s) ∧
  (∀ (s : State) (n plan inst ch x : Nat), s.openInst n plan inst = none → exec (.retryNotice n plan inst ch x) s = .next s ∧
    exec (.chunkLevelFinished n plan inst x ch) s = .next s ∧ exec (.collectiveTokenDone n plan inst) s = .next s ∧
    exec (.collectiveStall n plan inst) s = .next s) ∧
  (∀ (s : State) (n plan inst ch x : Nat) (i : Inst), s.openInst n plan inst = some i → i.native = true ∨ x ≤ i.xOf ch →
    exec (.retryNotice n plan inst ch x) s = .next s) ∧
  (∀ (s : State) (n plan inst ch x : Nat) (i : Inst), s.openInst n plan inst = some i → i.native = false → i.xOf ch < x →
    exec (.retryNotice n plan inst ch x) s = .next ((((s.retryChunk i ch x).withInst i fun j =>
      if (s.retryChunk i ch x).held n then s.retryChunk i ch x else (s.retryChunk i ch x).drainRuns j)).settleInst i)) ∧
  (∀ (s : State) (i : Inst) (ch x : Nat), Sparse.get 0 ch i.tries = 0 → x ≤ 0xFE →
    (let j : Inst := { i with
       xs := Sparse.insert ch x i.xs, tries := Sparse.set 0 ch 1 i.tries, levels := i.levels.filter fun l => l.2 != ch,
       got := i.got.filter (fun r => r.key.chunk != ch), sent := i.sent.filter (fun k => k.chunk != ch) }
     j.ready ch = false → ∃ t, s.retryChunk i ch x = t ∧
       t.reg (Obj.rescaleCount i.n) = (s.reg (Obj.rescaleCount i.n) + 1) % 2 ^ 64 ∧
       OnlyRegs [Obj.rescaleCount i.n] { s with
         out := s.out ++ i.followers.map fun p => .retry p i.plan i.inst ch x
         colls := { s.colls with insts := s.colls.insts.map fun q => if q.same i then j else q } } t)) ∧
  (∀ (s : State) (i : Inst) (ch x : Nat), Sparse.get 0 ch i.tries ≠ 0 ∨ 0xFE < x → s.retryChunk i ch x = State.retryFails
    { s with out := s.out ++ i.followers.map fun p => .retry p i.plan i.inst ch x } i) ∧
  (∀ (s : State) (i : Inst) (p : Contrib), i.contribs = [p] → ∃ u, InstFailed s u i 0xFFFF ∧
    ((u.ctxWork p.core p.ctx).isSome = true → CtxFaulted u (s.retryFails i) p.core p.ctx (engineId p.core 4) 8)) ∧
  (∀ (s : State) (n plan inst level ch : Nat) (i : Inst), s.openInst n plan inst = some i →
    i.levelDue level ch = false ∨ s.isUp = false → exec (.chunkLevelFinished n plan inst level ch) s = .next s) ∧
  (∀ (s : State) (n plan inst level ch : Nat) (i : Inst), s.openInst n plan inst = some i → i.levelDue level ch = true →
    s.isUp = true →
    (let j : Inst := { i with levels := i.levels ++ [(level, ch)] }
     let t := (s.setInst j).levelBusy j level
     exec (.chunkLevelFinished n plan inst level ch) s =
      .next ((if level < 2 ∧ j.ready ch = true then t.chunkReady j ch else t).settleInst j))) ∧
  (∀ (s : State) (i : Inst) (level : Nat), (∀ c ∈ i.cores, c < 512) → OnlyRegs ((List.range 512).map Obj.agentBusyCycles) s
    (s.levelBusy i level)) ∧
  (∀ (s : State) (n plan inst : Nat) (i : Inst), s.openInst n plan inst = some i → exec (.collectiveTokenDone n plan inst) s = .next (
    let s0 := s.flushFeeds i
    let s1 := s0.withInst i fun j => if j.whole then s0.finishWhole j else s0
    s1.withInst i fun j =>
      if j.written = true ∧ j.allSent = true ∧ j.feeds = [] ∧ s1.allAcked j = true then (s1.endInst j 0).resumeHost else s1)) ∧
  (∀ (s : State) (n plan inst : Nat) (i : Inst), s.openInst n plan inst = some i → s.inst? i = some i → i.feeds = [] →
    i.written = true → i.allSent = true → (∀ p ∈ i.packets, ∀ q ∈ (s.txStream p.1 (i.plan % 64)).unacked, q.2.sequence ≠ p.2) →
    ∃ u, InstEnded s u i 0 ∧ exec (.collectiveTokenDone n plan inst) s = .next u.resumeHost) ∧
  (∀ (s : State) (n plan inst : Nat) (i : Inst), s.openInst n plan inst = some i → s.inst? i = some i → i.feeds = [] →
    (i.written = true ∧ (i.allSent = false ∨ ∃ p ∈ i.packets, ∃ q ∈ (s.txStream p.1 (i.plan % 64)).unacked, q.2.sequence = p.2)) ∨
      (i.written = false ∧ (i.whole = false ∨ s.resultHeld i = true)) → exec (.collectiveTokenDone n plan inst) s = .next s) ∧
  (∀ s : State, s.eth.qps = [] → s.eth.windows = [] → s.resumeHost = s) ∧
  (∀ (s : State) (n plan inst : Nat) (i : Inst), s.openInst n plan inst = some i → i.stalled = true →
    exec (.collectiveStall n plan inst) s = .next s) ∧
  (∀ (s : State) (n plan inst : Nat) (i : Inst), s.openInst n plan inst = some i → i.stalled = false → ∃ t,
    exec (.collectiveStall n plan inst) s = .next (t.collEvent i 1 0xFFFF) ∧
    t.reg (Obj.stallCount n) = (s.reg (Obj.stallCount n) + 1) % 2 ^ 32 ∧
    OnlyRegs [Obj.stallCount n] { s with colls := { s.colls with
      insts := s.colls.insts.map fun j => if j.same i then { i with stalled := true } else j } } t) ∧
  (∀ (s : State) (i : Inst) (kind peer : Nat), s.collEvent i kind peer = s.raise (Obj.lastCollectiveEvent i.n)
    (toBytes 1 kind ++ toBytes 1 i.inst ++ toBytes 2 i.plan ++ toBytes 8 i.step ++ toBytes 2 peer ++ toBytes 10 0 ++ toBytes 8 s.up)) ∧
  (∀ (s : State) (n b step off : Nat) (d : List Byte), s.isUp = true → (∃ m ∈ (s.tenant n).mirrors, m.role = 4 ∧ m.state = 3 ∧
    m.localBase = b) →
    (let w : HeldWrite := { tenant := n, offset := b + off, bytes := d, feed := some (b, step), unit := agentUnit (s.firstCore n),
                            access := 5 }
     let t := (s.pokeRun n (b + off) .plain d).1
     (d ≠ [] → s.rangeHeld n (b + off) (b + off + d.length - 1) .plain = true →
       exec (.feedReceive n b step off d) s = .next { s with heldWrites := s.heldWrites ++ [w] }) ∧
     (d = [] ∨ s.rangeHeld n (b + off) (b + off + d.length - 1) .plain = false → (s.pokeRun n (b + off) .plain d).2 = false →
       exec (.feedReceive n b step off d) s =
         .next (State.wakeFeeds { t with colls := { t.colls with feeds := t.colls.feeds ++ [(n, b, step, d.length)] } })) ∧
     (d = [] ∨ s.rangeHeld n (b + off) (b + off + d.length - 1) .plain = false → (s.pokeRun n (b + off) .plain d).2 = true →
       ∃ u : State, exec (.feedReceive n b step off d) s =
         .next (State.wakeFeeds { u with colls := { u.colls with feeds := u.colls.feeds ++ [(n, b, step, d.length)] } }) ∧
         u.mem = t.mem ∧ u.reg (Obj.containedCount (unitDie w.unit)) = (t.reg (Obj.containedCount (unitDie w.unit)) + 1) % 2 ^ 64) ∧
     BytesBut n ((List.range d.length).map fun k => (b + off + k, .plain)) s t)) ∧
  (∀ (s : State) (c x : Nat), (let y := s.ctx c x
    s.wakeFeeds.ctx c x = if y.state = 3 ∧ y.waits = .feed then { y with state := 1, waits := .nothing } else y) ∧
    { s.wakeFeeds with ctxs := s.ctxs } = s) ∧
  (∀ (s : State) (n b step off : Nat) (d : List Byte), s.isUp = false ∨
    (∀ m ∈ (s.tenant n).mirrors, m.role ≠ 4 ∨ m.state ≠ 3 ∨ m.localBase ≠ b) → exec (.feedReceive n b step off d) s = .next s)

/-- Holds and withdrawals (R535 to R537, R543): a hold begins and ends with its event, once; a member released sends its streams' runs again
from the oldest not acknowledged. A held member's beacons go to the ring neighbours of its open instances; a beacon of an older epoch
is ignored; a hold that lasts too long, or a withdrawal received, ends the instances with status 16.
SKETCH_BLOCK_PROJECT and SKETCH_CALIBRATION_END (R550, R552, R559, R561): an engine in service adds its oldest block, in F32, to the
vector of the block's tap, and the block's noise to the tap's; one in calibration records the noise it measured and the largest error,
and returns to service when that is at most 2^-10; else it leaves it with a corrected fault, whose cause code is the model's (log entry
46). -/
def Obligations.HoldsAndSketchEngines : Prop :=
  (∀ (s : State) (sess n : Nat), n < 16 → MayWrite s sess (0x6700 + n) 4 → s.reg (Obj.collectiveHold n) = 1 →
    exec (.collectiveHold sess n) s = .next s) ∧
  (∀ (s : State) (sess n : Nat), n < 16 → MayWrite s sess (0x6700 + n) 4 → s.reg (Obj.collectiveHold n) ≠ 1 → ∃ t,
    t.reg (Obj.collectiveHold n) = 1 ∧ OnlyRegs [Obj.collectiveHold n] s t ∧ exec (.collectiveHold sess n) s = .next (
      if s.held n = true then t else t.raise (Obj.lastCollectiveEvent n)
        (toBytes 1 3 ++ toBytes 11 0 ++ toBytes 2 0xFFFF ++ toBytes 10 0 ++ toBytes 8 s.up))) ∧
  (∀ (s : State) (sess n : Nat), n < 16 → MayWrite s sess (0x6700 + n) 4 → s.reg (Obj.collectiveHold n) = 0 →
    exec (.collectiveHoldEnd sess n) s = .next s) ∧
  (∀ (s : State) (sess n : Nat), n < 16 → MayWrite s sess (0x6700 + n) 4 → s.reg (Obj.collectiveHold n) ≠ 0 → ∃ t,
    t.reg (Obj.collectiveHold n) = 0 ∧ OnlyRegs [Obj.collectiveHold n] s t ∧ exec (.collectiveHoldEnd sess n) s = .next (
      if t.held n = true then t else t.endHold n)) ∧
  (∀ (s : State) (n : Nat), (s.colls.insts.all fun i => i.n != n) = true → s.endHold n = s.raise (Obj.lastCollectiveEvent n)
    (toBytes 1 4 ++ toBytes 11 0 ++ toBytes 2 0xFFFF ++ toBytes 10 0 ++ toBytes 8 s.up)) ∧
  (∀ (s : State) (n : Nat), s.endHold n = (let u := s.holdEvent n 4
    (u.colls.insts.filter fun i => i.n == n).foldl (fun t i =>
      let v := i.neighbours.foldl (fun t p => t.resendAll p (i.plan % 64)
        ((t.txStream p (i.plan % 64)).unacked.filter fun q => q.2.ptype == ptRun)) t
      (v.withInst i fun j => v.drainRuns j).settleInst i) u)) ∧
  (∀ (s : State) (n : Nat), s.held n = false ∨ s.linksUp = false → exec (.holdBeacon n) s = .next s) ∧
  (∀ (s : State) (n : Nat), s.held n = true → s.linksUp = true → exec (.holdBeacon n) s =
    .next { s with out := s.out ++ (s.colls.insts.filter fun i => i.n == n).flatMap fun i =>
      i.neighbours.map fun p => .hold p (s.reg Obj.membershipEpoch) i.plan i.inst }) ∧
  (∀ (s : State) (chip epoch plan inst : Nat), s.linksUp = true → s.reg Obj.membershipEpoch ≤ epoch → chip ∉ s.colls.suspended →
    exec (.holdBeaconReceive chip epoch plan inst) s =
      .next { s with colls := { s.colls with suspended := s.colls.suspended ++ [chip] } }) ∧
  (∀ (s : State) (chip epoch plan inst : Nat), s.linksUp = false ∨ epoch < s.reg Obj.membershipEpoch ∨ chip ∈ s.colls.suspended →
    exec (.holdBeaconReceive chip epoch plan inst) s = .next s) ∧
  (∀ (s : State) (chip : Nat), exec (.holdSuspensionExpiry chip) s =
    .next { s with colls := { s.colls with suspended := s.colls.suspended.filter fun c => c != chip } }) ∧
  (∀ (s : State) (n : Nat), s.held n = false → exec (.holdLimitExpiry n) s = .next s) ∧
  (∀ (s : State) (n : Nat), s.held n = true → ∃ t, exec (.holdLimitExpiry n) s = .next t ∧
    Withdrawn (s.colls.insts.filter fun i => i.n == n) s t) ∧
  (∀ (s : State) (n chip plan inst : Nat), ∃ t, exec (.withdrawalReceive n chip plan inst) s = .next t ∧ PeerWithdrew chip
    (s.colls.insts.filter fun i => i.n == n && i.plan == plan && i.inst == inst && i.members.contains chip) s t) ∧
  (∀ (s : State) (e : Nat) (outs : List Nat), 4 ≤ e ∨ s.reg (Obj.engineState e) ≠ 0 ∨ Sparse.get [] e s.sketch.queues = [] →
    exec (.sketchBlockProject e outs) s = .next s) ∧
  (∀ (s : State) (e : Nat) (outs : List Nat) (b : SkBlock) (bs : List SkBlock), e < 4 → s.reg (Obj.engineState e) = 0 →
    Sparse.get [] e s.sketch.queues = b :: bs → ∃ t, exec (.sketchBlockProject e outs) s = .next t ∧
      Sparse.get [] e t.sketch.queues = bs ∧ (∀ f, f ≠ e → Sparse.get [] f t.sketch.queues = Sparse.get [] f s.sketch.queues) ∧
      (let old := Sparse.get [] (b.tap * 4 + e) (s.skGroup b.step b.group).vectors
       let g := s.skGroup b.step b.group
       let h := t.skGroup b.step b.group
       Sparse.get [] (b.tap * 4 + e) h.vectors = (List.range 64).map (fun i =>
        fAdd ((if old = [] then List.replicate 64 0 else old).getD i 0) (fMul (outs.getD i 0) (fPow2 b.e))) ∧
       (∀ k, k ≠ b.tap * 4 + e → Sparse.get [] k h.vectors = Sparse.get [] k g.vectors) ∧
       Sparse.get 0 b.tap h.noise = fAdd (Sparse.get 0 b.tap g.noise)
        (fMul (fMul (fOfNat 64) (fMul (s.reg (Obj.noiseSigma e)) (s.reg (Obj.noiseSigma e)))) (fPow2 (2 * b.e))) ∧
       (∀ k, k ≠ b.tap → Sparse.get 0 k h.noise = Sparse.get 0 k g.noise) ∧
       { h with vectors := g.vectors, noise := g.noise } = { g with engines := g.engines ||| 2 ^ e }) ∧
      (∀ k, k ≠ skKey b.step b.group → Sparse.get {} k t.sketch.groups = Sparse.get {} k s.sketch.groups) ∧
      { t.sketch with queues := s.sketch.queues, groups := s.sketch.groups } = s.sketch ∧
      t.reg (Obj.blocksProjected e) = (s.reg (Obj.blocksProjected e) + 1) % 2 ^ 64 ∧
      OnlyRegs [Obj.blocksProjected e] { s with sketch := t.sketch } t) ∧
  (∀ (s : State) (e oe : Nat) (sgs gs : List Nat), 4 ≤ e ∨ s.reg (Obj.engineState e) ≠ 1 →
    exec (.sketchCalibrationEnd e sgs gs oe) s = .next s) ∧
  (∀ (s : State) (e oe : Nat) (sgs gs : List Nat), e < 4 → s.reg (Obj.engineState e) = 1 → sgs.length = 6 →
    s.reg Obj.sketchIntegration < 6 → ∃ u : State, (∀ i, i < 6 → Sparse.get 0 (e * 8 + i) u.sketch.sigmas = sgs.getD i 0) ∧
    (∀ k, k < e * 8 ∨ e * 8 + 6 ≤ k → Sparse.get 0 k u.sketch.sigmas = Sparse.get 0 k s.sketch.sigmas) ∧
    Sparse.get [] e u.sketch.gains = gs ∧ (∀ k, k ≠ e → Sparse.get [] k u.sketch.gains = Sparse.get [] k s.sketch.gains) ∧
    { u.sketch with sigmas := s.sketch.sigmas, gains := s.sketch.gains } = s.sketch ∧
    u.reg (Obj.noiseSigma e) = sgs.getD (s.reg Obj.sketchIntegration) 0 ∧ u.reg (Obj.orthoError e) = oe ∧
    (fLe oe (fPow2 (-10)) = true → exec (.sketchCalibrationEnd e sgs gs oe) s = .next u ∧ u.reg (Obj.engineState e) = 0 ∧
      u.reg (Obj.calibrationCount e) = (s.reg (Obj.calibrationCount e) + 1) % 2 ^ 32 ∧
      OnlyRegs [Obj.engineState e, Obj.noiseSigma e, Obj.orthoError e, Obj.calibrationCount e] { s with sketch := u.sketch } u) ∧
    (fLe oe (fPow2 (-10)) = false → exec (.sketchCalibrationEnd e sgs gs oe) s = .next (u.report (blockReport 1 0 (sketchUnit e))) ∧
      u.reg (Obj.engineState e) = 2 ∧
      OnlyRegs [Obj.engineState e, Obj.noiseSigma e, Obj.orthoError e] { s with sketch := u.sketch } u))

/-- STEP_CLOSE, VOTE and the messages of the ledger (R568, R570 to R574, R576, R582): a close is kept once, of an uncommitted step; a vote is
cast when every condition of R570 holds, and no sooner, and carries every cause of R571 that holds. A message is acknowledged; a repeat
changes nothing else. A package sends its vote up once it holds its children's; the root decides when the vote carries the whole live set. -/
def Obligations.VotesCastAndCombined : Prop :=
  (∀ (s : State) (sess n step : Nat), MayWrite s sess (0x7010 + n) 6 → (s.tenant n).state = 1 → s.oldestStep n ≤ step →
    (step, s.attemptOf n step) ∉ (s.tenant n).closes → ∃ t, exec (.stepClose sess n step) s = .next t ∧ TenantSet s t n
      { s.tenant n with closes := (s.tenant n).closes ++ [(step, s.attemptOf n step)] }) ∧
  (∀ (s : State) (sess n step : Nat), MayWrite s sess (0x7010 + n) 6 → (s.tenant n).state ≠ 1 ∨ step < s.oldestStep n ∨
    (step, s.attemptOf n step) ∈ (s.tenant n).closes → exec (.stepClose sess n step) s = .next s) ∧
  (∀ (s : State) (n : Nat), s.mayVote n (s.oldestStep n) = false → exec (.vote n) s = .next s) ∧
  (∀ (s : State) (n : Nat), s.mayVote n (s.oldestStep n) = true → (∀ p, (s.tenant n).step? (s.oldestStep n) = some p →
    s.selected n p = 0) → ∃ u : State, exec (.vote n) s = .next (u.voteUp n) ∧ TenantSet s u n { s.tenant n with
      steps := (s.tenant n).steps.map fun p => if p.step = s.oldestStep n then { p with voted := true } else p
      ownVote := some (s.makeVote n (s.oldestStep n)) }) ∧
  (∀ (s : State) (n : Nat) (p : StepSt), s.mayVote n (s.oldestStep n) = true → (s.tenant n).step? (s.oldestStep n) = some p →
    s.selected n p ≠ 0 → ∃ t u : State, t = s.judgeVote n p ∧ exec (.vote n) s = .next (u.voteUp n) ∧ TenantSet t u n { t.tenant n with
      steps := (t.tenant n).steps.map fun q => if q.step = s.oldestStep n then { q with voted := true } else q
      ownVote := some (s.makeVote n (s.oldestStep n)) } ∧ RegsBut [Obj.vetoCount n, Obj.advisoryCount n, Obj.lastAdvisory n] s t ∧
      (n < 16 → t.reg (Obj.vetoCount n) = (s.reg (Obj.vetoCount n) + 1) % 2 ^ 32) ∧
      { t with regs := s.regs, tenants := s.tenants, sessions := s.sessions, eth := s.eth, out := s.out } = s) ∧
  (∀ (s : State) (n step : Nat), s.mayVote n step = true ↔ (s.tenant n).state = 1 ∧ s.isUp = true ∧ (s.tenant n).ownVote = none ∧
    (step, s.attemptOf n step) ∈ (s.tenant n).closes ∧ s.coordinated = true ∧ (s.tenant n).populating = false ∧
    (∀ p ∈ s.works, p.2.tenant = n → (p.2.ns = false → p.2.step ≠ step) ∧
      (p.2.ns = true → p.2.phase = 2 → s.awaitsVersion p.2.core p.2.ctx = false)) ∧
    (match (s.tenant n).step? step with
     | some p => p.cfg.lossExpected = true → p.loss.isSome = true
     | none => s.reg (Obj.lossExpected n) = 0)) ∧
  (∀ (s : State) (n step : Nat), (let v := s.makeVote n step
    let p := (s.tenant n).step? step
    v.kind = 1 ∧ v.step = step ∧ v.attempt = s.attemptOf n step ∧ v.jobEpoch = s.reg (Obj.jobEpoch n) ∧ v.sender = s.chip ∧
    v.voters = 1 ∧ v.mismatch = false ∧ (v.veto = true ↔ v.causes ≠ 0) ∧
    (bit v.causes 0 = true ↔ ∃ q, p = some q ∧ s.selected n q ≠ 0) ∧ (bit v.causes 1 = true ↔ ∃ q, p = some q ∧ q.faulted = true) ∧
    bit v.causes 7 = (s.tenant n).lateVeto ∧ (∀ i, i ≠ 0 → i ≠ 1 → i ≠ 7 → bit v.causes i = false) ∧
    v.agreement = s.agreement n step)) ∧
  (∀ (s : State) (n step : Nat), s.agreement n step = sha256 (toBytes 4 (s.reg (Obj.ledgerJobId n)) ++ toBytes 8 step ++
    toBytes 2 (s.attemptOf n step) ++ toBytes 4 (s.reg (Obj.jobEpoch n)) ++
    toBytes 8 (((s.tenant n).step? step).elim (stepSeed (s.reg (Obj.jobSeed n)) step) fun q => q.seed) ++
    toBytes 2 (s.reg (Obj.accumCount n)) ++ toBytes 2 (s.curVersion n) ++
    toBytes 1 (((s.tenant n).step? step).elim (s.serviceFor n step) fun q => q.service) ++ toBytes 2 (s.liveOf n).length)) ∧
  (∀ (s : State) (m : LedgerMsg) (n : Nat), s.tenantOfJob m.jobId = some n → msgIdent m ∈ (s.tenant n).seenMsgs →
    ∀ con ∈ ([.voteReceive, .commitReceive, .abortReceive, .stateQueryReceive, .stateReportReceive, .abortRequestReceive] :
      List (LedgerMsg → Instr)),
    exec (con m) s = .next { s with out := s.out ++ [.ledger m.sender { m with kind := 4, sender := s.chip }] }) ∧
  (∀ (s : State) (m : LedgerMsg), s.tenantOfJob m.jobId = none →
    ∀ con ∈ ([.voteReceive, .commitReceive, .abortReceive, .stateQueryReceive, .stateReportReceive, .abortRequestReceive,
      .ledgerAckReceive] : List (LedgerMsg → Instr)), exec (con m) s = .next s) ∧
  (∀ (s : State) (m : LedgerMsg) (n : Nat), s.tenantOfJob m.jobId = some n → msgIdent m ∉ (s.tenant n).seenMsgs → ∃ u, LedgerTaken s u n m ∧
    (∃ v : State, TenantSet u v n { u.tenant n with votes := (u.tenant n).votes ++ [m] } ∧ exec (.voteReceive m) s = .next (v.voteUp n)) ∧
    exec (.commitReceive m) s = .next (u.takeCommit n m) ∧ exec (.abortReceive m) s = .next (u.takeAbort n m) ∧
    (∃ v, LedgerSent u v n [(m.sender, u.stateReport n m.step)] ∧ exec (.stateQueryReceive m) s = .next v) ∧
    (∃ v : State, TenantSet u v n { u.tenant n with reports := (u.tenant n).reports ++ [m] } ∧
      exec (.stateReportReceive m) s = .next (v.resolveQuery n)) ∧
    exec (.abortRequestReceive m) s =
      .next (if u.isRoot n = true ∧ m.attempt = u.attemptOf n m.step then u.requestedAbort n m.step else u)) ∧
  (∀ (s : State) (n step : Nat), (let r := s.stateReport n step
    r.kind = 6 ∧ r.step = step ∧ r.voted = (s.tenant n).ownVote.isSome ∧ (r.commitApplied = true ↔ step ≤ s.reg (Obj.committedStep n)) ∧
    (r.commitHeld = true ↔ ∃ d ∈ (s.tenant n).decisions, d.step = step ∧ d.commit = true) ∧
    (∀ d, (s.tenant n).decisions.find? (fun d => d.step == step && d.commit) = some d → r.attempt = d.attempt ∧
      r.commitGate = d.gate * 1024 ∧ r.hasProposal = d.proposal.isSome))) ∧
  (∀ (s : State) (n : Nat), s.combined n = none ∨ (s.tenant n).sentVote = true → s.voteUp n = s) ∧
  (∀ (s : State) (n : Nat) (own v : LedgerMsg), (s.tenant n).ownVote = some own → s.combined n = some v →
    (∀ c ∈ s.childChips n, ∃ m ∈ (s.tenant n).votes, m.sender = c ∧ m.step = own.step ∧ m.attempt = own.attempt ∧
      m.jobEpoch = own.jobEpoch) ∧
    v = ((s.tenant n).votes.filter fun m => (s.childChips n).contains m.sender && m.step == own.step && m.attempt == own.attempt &&
      m.jobEpoch == own.jobEpoch).foldl combineVotes own) ∧
  (∀ a b : LedgerMsg, (let c := combineVotes a b
    c.voters = a.voters + b.voters ∧ c.veto = (a.veto || b.veto) ∧ c.causes = a.causes ||| b.causes ∧
    c.findings = a.findings ||| b.findings ∧ c.nonfinite = (a.nonfinite + b.nonfinite) % 2 ^ 64 ∧ c.loss = fMax a.loss b.loss ∧
    c.gradNorm = fMax a.gradNorm b.gradNorm ∧ c.hasProposal = (a.hasProposal || b.hasProposal) ∧
    (c.mismatch = true ↔ a.mismatch = true ∨ b.mismatch = true ∨ a.agreement ≠ b.agreement ∨
      (a.hasProposal = true ∧ b.hasProposal = true ∧ a.proposal ≠ b.proposal)))) ∧
  (∀ (s : State) (n i : Nat) (v : LedgerMsg), s.combined n = some v → (s.tenant n).sentVote = false → s.isRoot n = false →
    parentOf (s.indexIn n) = some i → ∃ u : State, TenantSet s u n { s.tenant n with sentVote := true } ∧
      LedgerSent u (s.voteUp n) n [((s.liveOf n).getD i 0xFFFF, { v with sender := s.chip })]) ∧
  (∀ (s : State) (n : Nat) (v : LedgerMsg), s.combined n = some v → (s.tenant n).sentVote = false → s.isRoot n = true →
    (v.voters = (s.liveOf n).length → s.decided n v.step v.attempt = false → ∃ u : State, TenantSet s u n { s.tenant n with sentVote := true } ∧
      s.voteUp n = u.decideVote n v) ∧
    (v.voters ≠ (s.liveOf n).length ∨ s.decided n v.step v.attempt = true → s.voteUp n = s))

/-- The vote tree of R572: for every size and index, a child's parent is the package whose child it is, every package but the root has
a parent before it, and each lies in the tree. -/
def Obligations.VoteTreeIsATree : Prop :=
  (∀ size i c : Nat, size ≤ 16384 → i < size → c ∈ childrenOf size i → i < c ∧ c < size ∧ parentOf c = some i) ∧
  (∀ size c : Nat, size ≤ 16384 → 0 < c → c < size → ∃ i, parentOf c = some i ∧ i < c ∧ c ∈ childrenOf size i) ∧
  parentOf 0 = none

/-- Decisions (R565, R566, R574 to R582): a vote without a veto, with equal digests and a quorum commits at the gate of R579, any other
aborts with its causes; a commit or an abort is taken once, for the current attempt, and goes down the tree; messages go out until they are
acknowledged; the root aborts on request or when votes are missing. A new job epoch aborts what was not voted on; a new root asks for what
the members hold. What a new member list does to votes and messages is the model's choice (log entry 15).
What the commit and the abort of a step do to the ledger (R274, R388, R540, R579 to R581): a commit acts on the versions, the records and
Judges, the stacks and a carried proposal in this order, then advances the committed step and keeps nothing of steps up to it; a late one
is counted and makes the next vote a veto. An abort ends the step's work with status 2 and its collective instances, raises the attempt
of the steps it ends, clears their closes and is counted. -/
def Obligations.DecisionsEndSteps : Prop :=
  (∀ (s : State) (n : Nat) (v : LedgerMsg), v.veto = false → v.mismatch = false →
    (s.membersOf n).length < 2 * (s.liveOf n).length →
    s.decideVote n v = s.takeCommit n { s.ledgerMsg n 2 v.step with
      commitGate := gateFrom (s.beatNo + s.reg (Obj.commitLeadBeats n)) s.gatePeriod * 1024, hasProposal := v.hasProposal,
      proposal := v.proposal, voters := v.voters }) ∧
  (∀ (s : State) (n : Nat) (v : LedgerMsg), v.veto = true ∨ v.mismatch = true ∨ 2 * (s.liveOf n).length ≤ (s.membersOf n).length →
    (let quorum : Prop := (s.membersOf n).length < 2 * (s.liveOf n).length
     let t := if v.mismatch = true then s.ledgerEvent n 10 0xFFFF v.step 0 else s
     let u := if quorum then t else t.ledgerEvent n 17 0xFFFF v.step 0
     s.decideVote n v = u.takeAbort n { u.ledgerMsg n 3 v.step with
       causes := (v.causes ||| if v.mismatch = true then 32 else 0) ||| if quorum then 0 else 64 })) ∧
  (∀ (s : State) (n : Nat) (m : LedgerMsg),
    (s.oldestStep n < m.step ∨ (m.step = s.oldestStep n ∧ m.attempt ≠ s.attemptOf n m.step) → s.takeCommit n m = s) ∧
    (m.step < s.oldestStep n ∨ (m.step = s.oldestStep n ∧ m.attempt = s.attemptOf n m.step ∧ s.decided n m.step m.attempt = true) →
      LedgerSent s (s.takeCommit n m) n (s.toChildren n m)) ∧
    (m.step = s.oldestStep n → m.attempt = s.attemptOf n m.step → s.decided n m.step m.attempt = false →
      CommitTaken s (s.takeCommit n m) n m)) ∧
  (∀ (s : State) (n : Nat) (m : LedgerMsg),
    (m.step < s.oldestStep n ∨ s.attemptOf n m.step < m.attempt → s.takeAbort n m = s) ∧
    (s.oldestStep n ≤ m.step → m.attempt < s.attemptOf n m.step ∨
        (m.attempt = s.attemptOf n m.step ∧ s.decided n m.step m.attempt = true) →
      LedgerSent s (s.takeAbort n m) n (s.toChildren n m)) ∧
    (s.oldestStep n ≤ m.step → m.attempt = s.attemptOf n m.step → s.decided n m.step m.attempt = false →
      AbortTaken s (s.takeAbort n m) n m)) ∧
  (∀ (s : State) (m : LedgerMsg) (n : Nat), s.tenantOfJob m.jobId = some n → ∃ t, exec (.ledgerAckReceive m) s = .next t ∧
    TenantSet s t n { s.tenant n with unacked := (s.tenant n).unacked.filter fun u =>
      !(u.1 == m.sender && u.2.step == m.step && u.2.attempt == m.attempt && u.2.jobEpoch == m.jobEpoch) }) ∧
  (∀ (s : State) (n : Nat), exec (.ledgerResend n) s =
    .next { s with out := s.out ++ (s.tenant n).unacked.map fun u => .ledger u.1 u.2 }) ∧
  (∀ (s : State) (sess n step : Nat), MayWrite s sess (0x7010 + n) 7 → (s.tenant n).state ≠ 1 →
    exec (.abortRequest sess n step) s = .next s) ∧
  (∀ (s : State) (sess n step : Nat), MayWrite s sess (0x7010 + n) 7 → (s.tenant n).state = 1 → s.isRoot n = true →
    exec (.abortRequest sess n step) s = .next (s.requestedAbort n step)) ∧
  (∀ (s : State) (sess n step : Nat), MayWrite s sess (0x7010 + n) 7 → (s.tenant n).state = 1 → s.isRoot n = false → ∃ t,
    exec (.abortRequest sess n step) s = .next t ∧
    LedgerSent s t n [((s.liveOf n).headD 0xFFFF, s.ledgerMsg n 7 step)]) ∧
  (∀ (s : State) (n step : Nat),
    (s.oldestStep n ≤ step → step ≤ s.oldestStep n + 1 → s.decided n step (s.attemptOf n step) = false →
      AbortTaken s (s.requestedAbort n step) n { s.ledgerMsg n 3 step with causes := 4 }) ∧
    (step < s.oldestStep n ∨ s.oldestStep n + 1 < step ∨ s.decided n step (s.attemptOf n step) = true →
      s.requestedAbort n step = s)) ∧
  (∀ (s : State) (n : Nat), (let k := s.oldestStep n
    ((s.tenant n).state ≠ 1 ∨ s.isRoot n = false ∨ s.voteSeen n k = false ∨ s.decided n k (s.attemptOf n k) = true →
      exec (.voteTimeout n) s = .next s) ∧
    ((s.tenant n).state = 1 → s.isRoot n = true → s.voteSeen n k = true → s.decided n k (s.attemptOf n k) = false →
      exec (.voteTimeout n) s = .next ((s.ledgerEvent n 9 (s.missingChild n k) k 0).decideAbort n k 16)))) ∧
  (∀ (s : State) (n step causes : Nat), s.decideAbort n step causes = s.takeAbort n { s.ledgerMsg n 3 step with causes := causes }) ∧
  (∀ (s : State) (n epoch : Nat), n < 16 → ∃ u : State,
    u.tenant n = { s.tenant n with
      votes := (s.tenant n).votes.filter fun m => m.jobEpoch == epoch, reports := [], querying := false } ∧
    u.reg (Obj.jobEpoch n) = epoch ∧ u.reg (Obj.liveMembers n) = (s.tenant n).live.length ∧
    u.reg (Obj.ledgerRoot n) = (s.tenant n).live.head?.getD 0xFFFF ∧
    OnlyRegs [Obj.jobEpoch n, Obj.liveMembers n, Obj.ledgerRoot n] { s with tenants := u.tenants } u ∧
    ((s.tenant n).state ≠ 1 → s.jobEpochChange n epoch = u) ∧
    ((s.tenant n).state = 1 → (∀ d ∈ (s.tenant n).decisions, d.step + 1 ≠ u.oldestStep n ∨ d.commit = false) →
      (s.tenant n).ownVote = none → s.jobEpochChange n epoch =
        if u.isRoot n = true then u.decideAbort n (u.oldestStep n) 8
        else if ((s.tenant n).step? (u.oldestStep n)).isSome = true then u.abortFrom n (u.oldestStep n) 8 else u) ∧
    ((s.tenant n).state = 1 → (∀ d ∈ (s.tenant n).decisions, d.step + 1 ≠ u.oldestStep n ∨ d.commit = false) →
      (s.tenant n).ownVote ≠ none → u.isRoot n = false → s.jobEpochChange n epoch = u.abortUnvoted n (u.oldestStep n + 1)) ∧
    ((s.tenant n).state = 1 → (∀ d ∈ (s.tenant n).decisions, d.step + 1 ≠ u.oldestStep n ∨ d.commit = false) →
      (s.tenant n).ownVote ≠ none → u.isRoot n = true → ∃ v, s.jobEpochChange n epoch =
        (v.resolveQuery n).abortUnvoted n (u.oldestStep n + 1) ∧ ∃ w, TenantSet u w n { u.tenant n with querying := true } ∧
        LedgerSent w v n ((u.others n).map fun c => (c, u.ledgerMsg n 5 (u.oldestStep n))))) ∧
  (∀ (s : State) (n : Nat), (let k := s.oldestStep n
    let heard := ∀ c ∈ s.others n, ∃ m ∈ (s.tenant n).reports, m.sender = c ∧ m.step = k
    ((s.tenant n).querying = false ∨ ¬ heard → s.resolveQuery n = s) ∧
    ((s.tenant n).querying = true → heard → ∃ u, TenantSet s u n { s.tenant n with querying := false } ∧
      (∀ d, (s.tenant n).decisions.find? (fun d => d.step == k && d.attempt == s.attemptOf n k && d.commit) = some d →
        s.resolveQuery n = u.resendCommit n d) ∧
      ((∀ d ∈ (s.tenant n).decisions, d.step ≠ k ∨ d.attempt ≠ s.attemptOf n k ∨ d.commit = false) →
        (∀ m ∈ (s.tenant n).reports, m.step ≠ k ∨ (m.commitHeld = false ∧ m.commitApplied = false)) →
        s.resolveQuery n = u.decideAbort n k 8)))) ∧
  (∀ (s : State) (sess n : Nat) (l : List Nat), MayWrite s sess (0x7010 + n) 3 →
    (s.tenant n).steps ≠ [] ∨ s.membersOk l = false → exec (.ledgerMembersWrite sess n l) s = .next s) ∧
  (∀ (s : State) (l : List Nat), s.membersOk l = true ↔ l.Pairwise (· < ·) ∧ l.length ≤ 16384 ∧ (l = [] ∨ s.chip ∈ l)) ∧
  (∀ (s : State) (sess n : Nat) (l : List Nat), MayWrite s sess (0x7010 + n) 3 → (s.tenant n).steps = [] → s.membersOk l = true →
    n < 16 → ∃ t, exec (.ledgerMembersWrite sess n l) s = .next t ∧ t.tenant n = { s.tenant n with
        members := l, live := l, votes := [], ownVote := none, sentVote := false, unacked := [], reports := [], querying := false } ∧
      (∀ k, k ≠ n → t.tenant k = s.tenant k) ∧ t.reg (Obj.jobEpoch n) = s.reg Obj.membershipEpoch ∧
      t.reg (Obj.liveMembers n) = l.length ∧ t.reg (Obj.ledgerRoot n) = l.headD 0xFFFF ∧
      OnlyRegs [Obj.jobEpoch n, Obj.liveMembers n, Obj.ledgerRoot n] { s with tenants := t.tenants, generations := t.generations } t) ∧
  (∀ (s : State) (n step attempt pr gate : Nat) (late : Bool), step ≠ s.oldestStep n ∨ attempt ≠ s.attemptOf n step →
    s.runCommit n step attempt pr gate late = s) ∧
  (∀ (s : State) (n pr gate : Nat) (late : Bool),
    (let step := s.oldestStep n
     let u := s.applyCommit n step (if pr = 0 then none else some (pr - 1))
     (late = false → s.beatNo ≤ gate → TenantSet u (s.runCommit n step (s.attemptOf n step) pr gate late) n
       { u.tenant n with lateVeto := false }) ∧
     (late = true ∨ gate < s.beatNo → n < 16 → ∃ v t, TenantSet u v n { u.tenant n with lateVeto := true } ∧
       OnlyRegs [Obj.commitLateCount n, Obj.lateEventCount] v t ∧
       t.reg (Obj.commitLateCount n) = (u.reg (Obj.commitLateCount n) + 1) % 2 ^ 32 ∧
       t.reg Obj.lateEventCount = (u.reg Obj.lateEventCount + 1) % 2 ^ 32 ∧
       s.runCommit n step (s.attemptOf n step) pr gate late = t.ledgerEvent n 11 0xFFFF step 0))) ∧
  (∀ (s : State) (n step : Nat) (pr : Option Nat), n < 16 →
    (let p := (s.tenant n).step? step
     let u : State := (((s.commitVersions n).commitOpen n step p).emptyStacks n true).applyProposal n pr
     (u.tenant n).pendingRegs = [] → ∃ t, s.applyCommit n step pr = t ∧ t.reg (Obj.committedStep n) = step ∧
      t.reg (Obj.commitCount n) = (u.reg (Obj.commitCount n) + 1) % 2 ^ 64 ∧
      ((t.tenant n).steps.map (·.step)) = (((u.tenant n).steps.filter fun p => p.step != step).map (·.step)) ∧
      (t.tenant n).closes = (u.tenant n).closes.filter (fun c => decide (step < c.1)) ∧
      (t.tenant n).votes = (u.tenant n).votes.filter (fun m => decide (step < m.step)) ∧
      (t.tenant n).decisions = (u.tenant n).decisions.filter (fun d => decide (step ≤ d.step)) ∧
      (t.tenant n).ownVote = none ∧ (t.tenant n).sentVote = false ∧
      t.mem = u.mem ∧ t.entries = u.entries ∧ t.slots = u.slots ∧ t.works = u.works ∧
      RegsBut [Obj.committedStep n, Obj.commitCount n, Obj.stepAttempt n, Obj.deviceState] u t)) ∧
  (∀ (s : State) (n step : Nat) (p : StepSt), s.commitOpen n step (some p) =
    (((s.rollRecords n p).judgesCommit n step (some p)).unseal n step).estimateAll n p ∧
    s.commitOpen n step none = s.judgesCommit n step none) ∧
  (∀ (s : State) (n step causes : Nat), n < 16 → ∃ a b c t, WorksEnd (fun k => k.tenant == n && !k.ns && decide (step ≤ k.step)) 2 true
    s.works s a ∧ b = a.abortInsts n step ((s.tenant n).endedBy step) ∧
    c = (if step ≤ s.oldestStep n then (b.endVersionWaits n).abortVersions n else b) ∧ s.abortFrom n step causes = t ∧
    (∀ p ∈ (t.tenant n).steps, p.step < step) ∧ (∀ c ∈ (t.tenant n).closes, c.1 < step) ∧
    (∀ m ∈ (t.tenant n).votes, m.step < step) ∧
    (step ≤ s.oldestStep n → (t.tenant n).ownVote = none ∧ (t.tenant n).sentVote = false ∧ (t.tenant n).lateVeto = false) ∧
    Sparse.get 0 step (t.tenant n).attempts = Sparse.get 0 step (c.tenant n).attempts + 1 ∧ t.works = c.works)

/-- LOSS_WRITE, GRAD_WRITE, STATS_RESET, JUDGES_REPORT and SLOT_CHECK_FAIL (R289, R293, R295, R298, R301, R306, R309, R311): a value of an
open step that has not been voted on is kept, any other is counted with a late-write advisory; the statistics reset waits for a commit
or an abort; a report adds to the step's open set and replaces the last set; a slot that fails its check is cleared, counted and
reported.
The judgements of a committing step (R292, R296, R297, R300 to R304, R309): a set is silent when a share meets its threshold, in whole
numbers; an armed silent set lengthens the streak and another ends it; a value is non-finite, a spike above μ + k√σ² once the watch is
warm, or neither; a finite value moves mean and variance by the weight. Findings select by the mask; pending settings take effect at a
commit and at an abort, whether or not the step was open here. -/
def Obligations.JudgesCountAndJudge : Prop :=
  (∀ (s : State) (sess n step v : Nat), n < 16 → s.takesValue n step = true →
    (MayWrite s sess (Obj.lossWrite n / 256) 1 → ∃ t, exec (.lossWrite sess n step v) s = .next t ∧ TenantSet s t n { s.tenant n with
      steps := (s.tenant n).steps.map fun p => if p.step = step then { p with loss := some v } else p }) ∧
    (MayWrite s sess (Obj.gradWrite n / 256) 6 → ∃ t, exec (.gradWrite sess n step v) s = .next t ∧ TenantSet s t n { s.tenant n with
      steps := (s.tenant n).steps.map fun p => if p.step = step then { p with grad := some v } else p })) ∧
  (∀ (s : State) (n step : Nat), s.takesValue n step = true ↔ ∃ p, (s.tenant n).step? step = some p ∧ p.voted = false) ∧
  (∀ (s : State) (sess n step v : Nat), n < 16 → s.takesValue n step = false → ∃ t,
    (MayWrite s sess (Obj.lossWrite n / 256) 1 → exec (.lossWrite sess n step v) s =
      .next (t.raise (Obj.lastAdvisory n) (advisoryBytes 7 0 n 0xFFFFFFFF step v 0 s.up))) ∧
    (MayWrite s sess (Obj.gradWrite n / 256) 6 → exec (.gradWrite sess n step v) s =
      .next (t.raise (Obj.lastAdvisory n) (advisoryBytes 7 0 n 0xFFFFFFFF step v 0 s.up))) ∧
    t.reg (Obj.lateWriteCount n) = (s.reg (Obj.lateWriteCount n) + 1) % 2 ^ 32 ∧
    t.reg (Obj.advisoryCount n) = (s.reg (Obj.advisoryCount n) + 1) % 2 ^ 64 ∧
    OnlyRegs [Obj.lateWriteCount n, Obj.advisoryCount n] s t) ∧
  (∀ kind veto n slot step value thr up : Nat, advisoryBytes kind veto n slot step value thr up = toBytes 1 kind ++ toBytes 1 veto ++
    toBytes 1 n ++ toBytes 1 0 ++ toBytes 4 slot ++ toBytes 8 step ++ toBytes 4 value ++ toBytes 4 thr ++ toBytes 8 up) ∧
  (∀ (s : State) (sess n v : Nat), n < 16 → MayWrite s sess (Obj.statsReset n / 256) 0x0C →
    (v ≠ 1 → exec (.statsReset sess n v) s = .next s) ∧
    (v = 1 → ∃ t, exec (.statsReset sess n v) s = .next t ∧ TenantSet s t n { s.tenant n with statsReset := true })) ∧
  (∀ (s : State) (n slot step unit : Nat) (g ns : Bool) (c : Counts), ns = false → (s.tenant n).step? step = none →
    exec (.judgesReport n slot step unit g ns c) s = .next s) ∧
  (∀ (s : State) (n slot step unit : Nat) (g ns : Bool) (c : Counts), ns = true ∨ (s.tenant n).step? step ≠ none → ∃ t,
    exec (.judgesReport n slot step unit g ns c) s = .next t ∧
    t.slot slot = { s.slot slot with
      totalSet := if ns then (s.slot slot).totalSet.add c else (s.slot slot).totalSet
      opens := if ns then (s.slot slot).opens else addOpen step g c (s.slot slot).opens
      lastSet := { (({} : CountSet).add c) with tag := unit, time := s.up } } ∧
    (∀ j, j ≠ slot → t.slot j = s.slot j) ∧ { t with slots := s.slots } = s) ∧
  (∀ (t : CountSet) (c : Counts), (let u := t.add c
    u.total = (t.total + c.total) % 2 ^ 64 ∧ u.zero = (t.zero + c.zero) % 2 ^ 64 ∧ u.underflow = (t.underflow + c.underflow) % 2 ^ 64 ∧
    u.saturated = (t.saturated + c.saturated) % 2 ^ 64 ∧ u.nonfinite = (t.nonfinite + c.nonfinite) % 2 ^ 64 ∧
    u.maxMag = fMax t.maxMag c.maxMag ∧ u.instructions = (t.instructions + 1) % 2 ^ 32 ∧ u.empty = (t.empty + c.empty) % 2 ^ 32)) ∧
  (∀ (s : State) (j : Nat), ∃ t u : State, exec (.slotCheckFail j) s = .next (t.report (blockReport 1 20 0xC044)) ∧
    u.slot j = {} ∧ (∀ i, i ≠ j → u.slot i = s.slot i) ∧ { u with slots := s.slots } = s ∧ OnlyRegs [Obj.slotErrorCount] u t ∧
    t.reg Obj.slotErrorCount = (s.reg Obj.slotErrorCount + 1) % 2 ^ 32) ∧
  (∀ (c : SlotCfg) (t : CountSet), c.silent t = true ↔
    (0 < t.total ∧ c.zeroPpm * t.total ≤ (t.zero + t.underflow) * 1000000) ∨
    (0 < t.total - t.zero - t.nonfinite ∧ c.underflowPpm * (t.total - t.zero - t.nonfinite) ≤ t.underflow * 1000000)) ∧
  (∀ (j : Slot) (c : SlotCfg) (g : Bool) (t : CountSet), c.armed g = true → t.total ≠ 0 →
    j.newStreak c g t = if c.silent t then min (j.streak + 1) 65535 else 0) ∧
  (∀ (j : Slot) (c : SlotCfg) (g : Bool) (t : CountSet), c.armed g = false ∨ t.total = 0 → j.newStreak c g t = j.streak) ∧
  (∀ (c : SlotCfg) (g : Bool), c.armed g = true ↔ c.silentMode = 1 ∨ (c.silentMode = 0 ∧ g = true)) ∧
  (∀ (cfg : WatchCfg) (mean var k x : Nat), fFinite x = false → findingOf cfg mean var k (some x) = 2) ∧
  (∀ (cfg : WatchCfg) (mean var k x : Nat), fFinite x = true → findingOf cfg mean var k (some x) =
    if cfg.warmup ≤ k ∧ fLt (fAdd mean (fMul cfg.spikeK (fSqrt var))) x = true then 1 else 0) ∧
  (∀ (s : State) (n a x : Nat), n < 16 → fFinite x = true → s.reg (Obj.lossSamples n) ≠ 0 →
    (let d := fSub x (s.reg (Obj.lossMean n))
     let t := s.lossUpdate n a (some x)
     t.reg (Obj.lossMean n) = fAdd (s.reg (Obj.lossMean n)) (fMul a d) ∧
     t.reg (Obj.lossVar n) = fMul (fSub fOne a) (fAdd (s.reg (Obj.lossVar n)) (fMul a (fMul d d))) ∧
     t.reg (Obj.lossSamples n) = (s.reg (Obj.lossSamples n) + 1) % 2 ^ 32 ∧ t.reg (Obj.lastLoss n) = x ∧
     OnlyRegs [Obj.lossMean n, Obj.lossVar n, Obj.lossSamples n, Obj.lastLoss n] s t)) ∧
  (∀ (s : State) (n a x : Nat), n < 16 → fFinite x = true → s.reg (Obj.gradSamples n) ≠ 0 →
    (let d := fSub x (s.reg (Obj.gradMean n))
     let t := s.gradUpdate n a (some x)
     t.reg (Obj.gradMean n) = fAdd (s.reg (Obj.gradMean n)) (fMul a d) ∧
     t.reg (Obj.gradVar n) = fMul (fSub fOne a) (fAdd (s.reg (Obj.gradVar n)) (fMul a (fMul d d))) ∧
     t.reg (Obj.gradSamples n) = (s.reg (Obj.gradSamples n) + 1) % 2 ^ 32 ∧ t.reg (Obj.lastGrad n) = x ∧
     OnlyRegs [Obj.gradMean n, Obj.gradVar n, Obj.gradSamples n, Obj.lastGrad n] s t)) ∧
  (∀ (s : State) (n a x : Nat), n < 16 → fFinite x = true → s.reg (Obj.lossSamples n) = 0 → s.reg (Obj.gradSamples n) = 0 →
    (s.lossUpdate n a (some x)).reg (Obj.lossMean n) = x ∧ (s.lossUpdate n a (some x)).reg (Obj.lossVar n) = 0 ∧
    (s.lossUpdate n a (some x)).reg (Obj.lossSamples n) = 1 ∧ (s.gradUpdate n a (some x)).reg (Obj.gradMean n) = x ∧
    (s.gradUpdate n a (some x)).reg (Obj.gradVar n) = 0 ∧ (s.gradUpdate n a (some x)).reg (Obj.gradSamples n) = 1) ∧
  (∀ (s : State) (n a x : Nat), fFinite x = false → s.lossUpdate n a (some x) = s ∧ s.gradUpdate n a (some x) = s) ∧
  (∀ (s : State) (n : Nat) (p : StepSt), (let f := s.findings n p
    let may : Prop := p.cfg.spikeLimit = 0 ∨ Sparse.get 0 p.step (s.tenant n).spikes < p.cfg.spikeLimit
    s.selected n p = f &&& p.cfg.vetoMask ∧ f < 32 ∧ (bit f 0 = true ↔ s.lossFinding n p = 1 ∧ may) ∧
    (bit f 1 = true ↔ s.lossFinding n p = 2) ∧ (bit f 2 = true ↔ s.gradFinding n p = 1 ∧ may) ∧
    (bit f 3 = true ↔ s.gradFinding n p = 2) ∧ (bit f 4 = true ↔ s.vetoSlots n p.step ≠ []))) ∧
  (∀ (s : State) (n step : Nat) (c : WatchCfg), n < 16 → (s.tenant n).pendingCfg = some c → ∃ t, s.settleJudges n step = t ∧
    (t.tenant n).pendingCfg = none ∧ t.reg (Obj.vetoMask n) = c.vetoMask ∧ t.reg (Obj.spikeK n) = c.spikeK ∧
    t.reg (Obj.ewWeight n) = c.ewWeight ∧ t.reg (Obj.warmupSteps n) = c.warmup ∧ t.reg (Obj.spikeVetoLimit n) = c.spikeLimit ∧
    t.reg (Obj.lossExpected n) = b2n c.lossExpected) ∧
  (∀ (s : State) (n step : Nat), s.judgesCommit n step none = (s.resetStats n).settleJudges n step) ∧
  (∀ (s : State) (n j done : Nat) (c : SlotCfg), s.shareHas n j = true → (s.slot j).pendingCfg = some c →
    ((s.settleSlots n done).slot j).cfg = c ∧ ((s.settleSlots n done).slot j).pendingCfg = none) ∧
  (∀ (s : State) (n j step : Nat) (g : Bool) (t : CountSet), (s.slot j).openOf step = some (g, t) →
    (let c := (s.slot j).cfgOf step
     let k := (s.slot j).newStreak c g t
     let fires : Prop := c.armed g = true ∧ t.total ≠ 0 ∧ c.silent t = true ∧ c.silentSteps ≤ k ∧ (s.slot j).raised = false
     ((s.commitSlot n step j).slot j).streak = k ∧
     (((s.commitSlot n step j).slot j).raised = true ↔ k ≠ 0 ∧ ((s.slot j).raised = true ∨ fires)) ∧
     (¬ fires → (s.commitSlot n step j).regs = s.regs)))

/-- Lanes in service (R413, R415 to R418, R420, R421, R423 to R425, R433 to R435, R448, R472, R476, R484): an uncorrected block is counted
and its port's flits are discarded; a good frame brings its flits, its time, a change of modulation and credits. A wrong tone or identity
word, or a heater out of range, is a mislock; a lane relocks, or drops at the third failure; a loss of alignment of 1 ms is a drop. A
dropped lane goes to LS where it is free. The drive and margin of an edge lock update are free values (log entry 2).
Margins and the spare laser (R426 to R434, R437, R441, R559): a window's rate and power are judged drop first, then swap, fallback,
watch and clear; LS is held for the watched lane of the lowest power. A swap or a takeover ends with LS carrying the lane; an abandoned
swap is counted and holds LS back; a calibrated laser returns by its launch power. The feed-forward coefficients a calibration records
and the rate of a window without a bit are free values (log entries 2, 103). -/
def Obligations.LanesInServiceAndMargins : Prop :=
  (∀ (s : State) (p l : Nat) (b : LaneBlock), s.laserOn p l = false → exec (.laneFrameReceive p l b) s = .next s) ∧
  (∀ (s : State) (p l : Nat) (b : LaneBlock), s.laserOn p l = true → b.syndrome = true ∨ headerOk b.bytes = false → ∃ u t,
    exec (.laneFrameReceive p l b) s = .next t ∧ OnlyRegs [Obj.correctedBits p l, Obj.uncorrectedBlocks p l] s u ∧
    u.reg (Obj.correctedBits p l) = (s.reg (Obj.correctedBits p l) + b.correctedBits) % 2 ^ 64 ∧
    u.reg (Obj.uncorrectedBlocks p l) = (s.reg (Obj.uncorrectedBlocks p l) + 1) % 2 ^ 64 ∧
    PortSet u t p { s.port p with inFlits := [] }) ∧
  (∀ bs : List Byte, headerOk bs = true ↔ field bs 0 4 = 0x5A3CC3A5 ∧ field bs 0x74 4 = crc32 (bs.take 0x74)) ∧
  (∀ (s : State) (p l : Nat) (b : LaneBlock), s.laserOn p l = true → b.syndrome = false → headerOk b.bytes = true →
    ∃ u v w x : State, OnlyRegs [Obj.correctedBits p l] s u ∧
      u.reg (Obj.correctedBits p l) = (s.reg (Obj.correctedBits p l) + b.correctedBits) % 2 ^ 64 ∧
      LaserSet u v p l { s.laser p l with lastBlock := field b.bytes 4 4, heardAt := s.cadNow } ∧
      (let marker := field b.bytes 9 1
       let far := if p < 12 ∧ l = s.carrier p (s.port p).baseLane then field b.bytes 0x68 4 else (s.port p).farLoop
       PortSet v w p { s.port p with farLoop := far } ∧
       (bit marker 3 = false → PortSet w x p { w.port p with inFlits := (s.port p).inFlits ++ s.heardFlits p l b.bytes }) ∧
       (bit marker 3 = true → ∃ y z, OnlyRegs [Obj.laneModulation p l] w y ∧
         y.reg (Obj.laneModulation p l) = (if bit marker 4 = true then 0 else 1) ∧
         (bit marker 4 = true → PortSettled y z p) ∧ (bit marker 4 = false → z = w.fallBack p l) ∧
         PortSet z x p { w.port p with inFlits := (s.port p).inFlits ++ z.heardFlits p l b.bytes }) ∧
       exec (.laneFrameReceive p l b) s = .next (if p < 12 then x else
         x.heardCredits p ((List.range 6).map fun i => field b.bytes (0x48 + 2 * i) 2)))) ∧
  (∀ (s : State) (p l : Nat) (bs : List Byte), s.heardFlits p l bs = (
    if field bs 8 1 ≠ 0 ∨ (s.laser p l).rxOut = true then []
    else if inService (s.lane p l) = true then slotFlits bs
    else if s.lane p l = lnQuarantine then (slotFlits bs).filter fun f => f.1 == clsM else [])) ∧
  (∀ (s : State) (p : Nat) (cs : List Nat), cs.length = 6 → ∃ u,
    (let v := s.port p
     let d := fun (c : Nat) => (cs.getD c 0 + 2 ^ 16 - v.heard.getD c 0 % 2 ^ 16) % 2 ^ 16
     PortSet s u p { v with heard := cs, sent := (v.sent.1 - d clsF0, v.sent.2 - d clsF1) }) ∧ s.heardCredits p cs = u.retryTransit) ∧
  (∀ (s : State) (p l r : Nat) (e : Int), s.laserOn p l = true → r ≤ 4 → ∃ (t : State) (v m : Nat), v < 2 ^ 16 ∧ m < 2 ^ 16 ∧
    exec (.edgeLockUpdate p l r e) s = .next t ∧ Sparse.get 0 (laserKey p l * 8 + r) t.heaters = signedOf 16 v ∧
    (∀ k, k ≠ laserKey p l * 8 + r → Sparse.get 0 k t.heaters = Sparse.get 0 k s.heaters) ∧ t.drawn = s.drawn + 2 ∧
    t.reg (Obj.heaterMargin p l) = m ∧ OnlyRegs [Obj.heaterMargin p l] { s with heaters := t.heaters, drawn := t.drawn } t) ∧
  (∀ (s : State) (p l r : Nat) (e : Int), s.laserOn p l = false ∨ 4 < r → exec (.edgeLockUpdate p l r e) s = .next s) ∧
  (∀ (s : State) (p l : Nat),
    (s.laserOn p l = true → inService (s.lane p l) = true →
      exec (.heaterRangeLoss p l) s = .next ((s.laneEvent p l).mislock p l)) ∧
    (s.laserOn p l = false ∨ inService (s.lane p l) = false → exec (.heaterRangeLoss p l) s = .next s)) ∧
  (∀ (s : State) (p l : Nat), s.laneEvent p l = s.report { blockReport 1 14 (laserId p l) with injected := s.faded p l }) ∧
  (∀ (s : State) (p l heard passed : Nat) (word : Bool), (let tone := s.reg (Obj.laneChannel p l) % 4
    (s.laserOn p l = true → heard ≠ tone ∨ passed ≠ tone ∨ word = false →
      exec (.toneCorrelation p l ⟨heard, passed⟩ word) s = .next (s.mislock p l)) ∧
    (s.laserOn p l = false ∨ (heard = tone ∧ passed = tone ∧ word = true) →
      exec (.toneCorrelation p l ⟨heard, passed⟩ word) s = .next s))) ∧
  (∀ (s : State) (p l : Nat), s.laserOn p l = true → inService (s.lane p l) = true → ∃ u v t, s.mislock p l = t ∧
    OnlyRegs [Obj.laneState p l, Obj.mislockCount p l] { s with out := s.out ++ [.marker p l mkRelock] } u ∧ u.lane p l = lnRelock ∧
    u.reg (Obj.mislockCount p l) = (s.reg (Obj.mislockCount p l) + 1) % 2 ^ 32 ∧
    LaserSet u v p l { s.laser p l with relocks := 0 } ∧ PortSettled (v.laneEvent p l) t p) ∧
  (∀ (s : State) (p l : Nat), inService (s.lane p l) = false → s.mislock p l = s) ∧
  (∀ (s : State) (p l : Nat) (ok : Bool), s.lane p l ≠ lnRelock → exec (.relockComplete p l ok) s = .next s) ∧
  (∀ (s : State) (p l : Nat), s.lane p l = lnRelock → ∃ u v t, exec (.relockComplete p l true) s = .next t ∧
    OnlyRegs [Obj.laneState p l] s u ∧ u.lane p l = (if l = spare then lnSpareIn else lnService) ∧
    LaserSet u v p l { s.laser p l with relocks := 0 } ∧ PortSettled (v.laneEvent p l) t p) ∧
  (∀ (s : State) (p l : Nat), s.lane p l = lnRelock → ∃ u, LaserSet s u p l { s.laser p l with relocks := (s.laser p l).relocks + 1 } ∧
    exec (.relockComplete p l false) s = .next (if 3 ≤ (s.laser p l).relocks + 1 then u.dropLane p l else u)) ∧
  (∀ (s : State) (p l : Nat), s.laserOn p l = true →
    (∃ t, exec (.alignmentLoss p l) s = .next t ∧ LaserSet s t p l { s.laser p l with rxOut := true }) ∧
    (∃ t, exec (.alignmentReturn p l) s = .next t ∧ LaserSet s t p l { s.laser p l with rxOut := false })) ∧
  (∀ (s : State) (p l : Nat), s.laserOn p l = false → exec (.alignmentLoss p l) s = .next s ∧ exec (.alignmentReturn p l) s = .next s) ∧
  (∀ (s : State) (p l : Nat),
    ((s.laser p l).rxOut = true → inService (s.lane p l) = true → ∃ u, LaserSet s u p l { s.laser p l with rxOut := false } ∧
      exec (.alignmentLossDrop p l) s = .next (u.dropLane p l)) ∧
    ((s.laser p l).rxOut = false ∨ inService (s.lane p l) = false → exec (.alignmentLossDrop p l) s = .next s)) ∧
  (∀ (s : State) (p l : Nat), p < 16 → l < 8 → (s.port p).waxLaser = none → (s.port p).swapLane ≠ some l → ∃ u, 
    OnlyRegs [Obj.laneState p l, Obj.dropCount p l] s u ∧ u.lane p l = lnRetired ∧
    u.reg (Obj.dropCount p l) = (s.reg (Obj.dropCount p l) + 1) % 2 ^ 32 ∧
    (s.spareFree p = true → ∃ v w, PortSet (u.laneEvent p l) v p { s.port p with takeover := some l } ∧
      OnlyRegs [Obj.spareRole p] v w ∧ w.reg (Obj.spareRole p) = 2 * 16 + l ∧ PortSettled w (s.dropLane p l) p) ∧
    (s.spareFree p = false → PortSettled ((u.laneEvent p l).laneGone p l) (s.dropLane p l) p)) ∧
  (∀ (s : State) (p : Nat), p < 16 → (s.port p).waxLaser = none → ∃ u v,
    OnlyRegs [Obj.laneState p spare, Obj.dropCount p spare] s u ∧ u.lane p spare = lnRetired ∧
    u.reg (Obj.dropCount p spare) = (s.reg (Obj.dropCount p spare) + 1) % 2 ^ 32 ∧ OnlyRegs [Obj.spareRole p] (u.laneEvent p spare) v ∧
    v.reg (Obj.spareRole p) = 5 * 16 ∧
    PortSettled (if s.role p = 3 then v.laneGone p (s.roleLane p) else v) (s.dropLane p spare) p) ∧
  (∀ (s : State) (p l : Nat), s.drawnLane p l = none → isBasePort p = false ∨ (s.port p).baseLane ≠ l → s.laneGone p l = s) ∧
  (∀ (s : State) (p l : Nat) (e : LaneEntry), s.drawnLane p l = some e → l ∉ (s.port p).lostLanes →
    isBasePort p = false ∨ (s.port p).baseLane ≠ l → ∃ u v, PortSet s u p { s.port p with lostLanes := (s.port p).lostLanes ++ [l] } ∧
      OnlyRegs [Obj.pisteEventCount] u v ∧ v.reg Obj.pisteEventCount = (s.reg Obj.pisteEventCount + 1) % 2 ^ 32 ∧
      s.laneGone p l = v.raise Obj.lastPisteEvent (s.pisteBytes 1 p l 0 e.txChip)) ∧
  (∀ (s : State) (p b : Nat), isBasePort p = true → s.drawnLane p (s.port p).baseLane = none → p < 16 → b < 8 →
    b ≠ (s.port p).baseLane → s.laneUp p b = true → (∀ l, b < l → l < 8 → l = (s.port p).baseLane ∨ s.laneUp p l = false) → ∃ u v,
      PortSet s u p { s.port p with baseLane := b, lostLanes := if (s.drawnLane p b).isSome then (s.port p).lostLanes ++ [b]
        else (s.port p).lostLanes } ∧
      (let c := s.carrier p b
       OnlyRegs [Obj.laneChannel p c, Obj.retuneCount p c, Obj.pisteEventCount] { u with out := u.out ++ [.marker p b mkRetune] } v ∧
       v.reg (Obj.laneChannel p c) = baseChannel p ∧ v.reg (Obj.retuneCount p c) = (s.reg (Obj.retuneCount p c) + 1) % 2 ^ 32 ∧
       v.reg Obj.pisteEventCount = (s.reg Obj.pisteEventCount + 1) % 2 ^ 32) ∧
      s.laneGone p (s.port p).baseLane = v.raise Obj.lastPisteEvent (s.pisteBytes 2 p b 0 ((s.drawnLane p b).elim 0 fun e => e.txChip))) ∧
  (∀ (s : State) (p : Nat) (ws : List LaserWindow), 16 ≤ p ∨ s.device = devOff ∨ s.device = devHalted →
    exec (.marginWindowEnd p ws) s = .next s) ∧
  (∀ (s : State) (p : Nat) (ws : List LaserWindow), p < 16 → s.device ≠ devOff → s.device ≠ devHalted →
    exec (.marginWindowEnd p ws) s = .next (
      let u := (ws.filter fun w => s.laserOn p w.laser).foldl (fun t w => (t.measure p w).countWindows p w.laser) s
      ((List.range 8).foldl (fun (t : State × Bool) l => t.1.judgeLane p l t.2) (u, false)).1.holdSpare p)) ∧
  (∀ (s : State) (p : Nat) (w : LaserWindow), p < 16 → w.laser ≤ 8 → ∃ u t, (s.measure p w).countWindows p w.laser = t ∧
    OnlyRegs [Obj.launchPowerCdb p w.laser, Obj.precorrectionRate p w.laser]
      { s with out := s.out ++ [.farEnd p w.laser (windowRate w)] } u ∧
    u.reg (Obj.launchPowerCdb p w.laser) = wrapInt 16 (w.powerCdb + s.sreg 16 (Obj.laneFadeSim p w.laser)) ∧
    (w.receivedBits ≠ 0 → u.reg (Obj.precorrectionRate p w.laser) =
      toF32 ((Num.ofInt w.correctedBits).div (Num.ofInt w.receivedBits))) ∧
    (let v := s.laser p w.laser
     LaserSet u t p w.laser { v with
      highWindows := if 1000000 < v.farRate then min 2 (v.highWindows + 1) else 0
      fallWindows := if 3000000 < v.farRate then min 2 (v.fallWindows + 1) else 0
      clearWindows := if -50 < u.launch p w.laser ∧ v.farRate ≤ 100000 then min 1000 (v.clearWindows + 1) else 0 })) ∧
  (∀ w : LaserWindow, (3 ≤ w.uncorrectedBlocks → windowRate w = 20000001) ∧
    (w.uncorrectedBlocks < 3 → w.receivedBits ≠ 0 → windowRate w = w.correctedBits * 1000000000 / w.receivedBits)) ∧
  (∀ (s : State) (p l : Nat) (sw : Bool),
    (let la := s.carrier p l
     let v := s.laser p la
     let x := s.launch p la
     let st := s.lane p la
     let drop := x ≤ -400 ∨ 20000000 < v.farRate
     let swap := x ≤ -200 ∨ v.highWindows = 2
     let may := la ≠ spare ∧ (s.spareFree p = true ∨ (s.role p = 4 ∧ (s.port p).waxLaser ≠ some spare))
     let still := inService st = true ∧ ¬ drop ∧ st ≠ lnSwapping
     let next := still ∧ (¬ swap ∨ (sw = false ∧ ¬ may))
     (inService st = false ∨ (¬ drop ∧ st = lnSwapping) → s.judgeLane p l sw = (s, sw)) ∧
     (inService st = true → drop → s.judgeLane p l sw = (s.dropLane p la, sw)) ∧
     (still → swap → sw = true → s.judgeLane p l sw = (s, true)) ∧
     (still → swap → sw = false → may → s.judgeLane p l sw = ((s.abandonWax p).startSwap p l, true)) ∧
     (next → v.fallWindows = 2 → s.judgeLane p l sw = (s.sendFallBack p l la, sw)) ∧
     (next → v.fallWindows ≠ 2 → x ≤ -100 → s.judgeLane p l sw = (if st = lnService then s.setLane p la lnWatched else s, sw)) ∧
     (next → v.fallWindows ≠ 2 → -100 < x → v.clearWindows = 1000 →
       s.judgeLane p l sw = (if st = lnWatched then s.setLane p la lnService else s, sw)) ∧
     (next → v.fallWindows ≠ 2 → -100 < x → v.clearWindows ≠ 1000 → s.judgeLane p l sw = (s, sw)))) ∧
  (∀ (s : State) (p l la : Nat), s.reg (Obj.laneModulation p la) = 1 → s.sendFallBack p l la = s) ∧
  (∀ (s : State) (p l la : Nat), s.reg (Obj.laneModulation p la) ≠ 1 → ∃ u,
    OnlyRegs [Obj.laneModulation p la] { s with out := s.out ++ [.marker p l mkModulation] } u ∧ u.reg (Obj.laneModulation p la) = 1 ∧
    PortSettled (u.laneEvent p la) (s.sendFallBack p l la) p) ∧
  (∀ (s : State) (p l : Nat), p < 16 → l < 8 → ∃ u, PortSet s u p { s.port p with swapLane := some l } ∧
    OnlyRegs [Obj.laneState p l, Obj.spareRole p, Obj.laneChannel p spare] u (s.startSwap p l) ∧ (s.startSwap p l).lane p l = lnSwapping ∧
    (s.startSwap p l).reg (Obj.spareRole p) = 2 * 16 + l ∧
    (s.startSwap p l).reg (Obj.laneChannel p spare) = s.reg (Obj.laneChannel p l)) ∧
  (∀ (s : State) (p : Nat), s.spareFree p = false → s.holdSpare p = s) ∧
  (∀ (s : State) (p : Nat), p < 16 → s.spareFree p = true → (∀ l, l < 8 → s.lane p l ≠ lnWatched) → ∃ t, s.holdSpare p = t ∧
    OnlyRegs [Obj.laneState p spare, Obj.spareRole p] s t ∧ t.lane p spare = lnSpareIdle ∧ t.reg (Obj.spareRole p) = 0) ∧
  (∀ (s : State) (p l : Nat), p < 16 → s.spareFree p = true → l < 8 → s.lane p l = lnWatched → (∀ m, m < 8 → s.lane p m = lnWatched →
    s.launch p l < s.launch p m ∨ (s.launch p l = s.launch p m ∧ l ≤ m)) → ∃ t, s.holdSpare p = t ∧
    OnlyRegs [Obj.laneState p spare, Obj.spareRole p, Obj.laneChannel p spare] s t ∧ t.lane p spare = lnSpareReady ∧
    t.reg (Obj.spareRole p) = 16 + l ∧ t.reg (Obj.laneChannel p spare) = s.reg (Obj.laneChannel p l)) ∧
  (∀ (s : State) (p l r : Nat), s.laserOn p l = true →
    (∃ t, exec (.farEndReport p l r) s = .next t ∧ LaserSet s t p l { s.laser p l with farRate := r }) ∧
    (∃ t, exec (.farEndReportTimeout p l) s = .next t ∧ LaserSet s t p l { s.laser p l with farRate := 20000001 })) ∧
  (∀ (s : State) (p l r : Nat), s.laserOn p l = false →
    exec (.farEndReport p l r) s = .next s ∧ exec (.farEndReportTimeout p l) s = .next s) ∧
  (∀ (s : State) (p : Nat), (s.port p).swapLane = none →
    exec (.swapConfirm p) s = .next s ∧ exec (.swapAbandon p) s = .next s) ∧
  (∀ (s : State) (p l : Nat), p < 16 → l < 8 → (s.port p).swapLane = some l → ∃ u v t,
    (let wax := (s.port p).waxLaser = some l
     PortSet s u p { s.port p with swapLane := none } ∧
     OnlyRegs [Obj.laneState p spare, Obj.laneState p l, Obj.spareRole p, Obj.laneModulation p spare, Obj.swapCount p l]
       { u with out := u.out ++ [.marker p l mkSwap] } v ∧
     v.lane p spare = lnSpareIn ∧ v.lane p l = (if wax then lnWax else lnRetired) ∧
     v.reg (Obj.spareRole p) = (if wax then 4 else 3) * 16 + l ∧
     v.reg (Obj.laneModulation p spare) = s.reg (Obj.laneModulation p l) ∧
     v.reg (Obj.swapCount p l) = s.reg (Obj.swapCount p l) / 2 ^ 24 * 2 ^ 24 + (s.reg (Obj.swapCount p l) + 1) % 2 ^ 24 ∧
     PortSettled (if wax then v.laneEvent p l else (v.laneEvent p l).laneEvent p l) t p ∧
     exec (.swapConfirm p) s = .next (t.settleRetune p l))) ∧
  (∀ (s : State) (p l : Nat), p < 16 → l < 8 → (s.port p).swapLane = some l → ∃ u t,
    PortSet s u p { s.port p with
      swapLane := none, holdBack := true, waxLaser := if (s.port p).waxLaser = some l then none else (s.port p).waxLaser } ∧
    OnlyRegs [Obj.laneState p l, Obj.laneState p spare, Obj.spareRole p, Obj.swapCount p l] u t ∧ t.lane p l = lnService ∧
    t.lane p spare = lnSpareIdle ∧ t.reg (Obj.spareRole p) = 0 ∧
    t.reg (Obj.swapCount p l) = (s.reg (Obj.swapCount p l) + 2 ^ 24) % 2 ^ 32 ∧ exec (.swapAbandon p) s = .next (t.settleRetune p l)) ∧
  (∀ (s : State) (p l : Nat), s.drawnLane p l = none ∨ s.baseTaken p l = true → s.settleRetune p l = s) ∧
  (∀ (s : State) (p l : Nat) (e : LaneEntry), s.drawnLane p l = some e → s.baseTaken p l = false →
    s.settleRetune p l = s.drawLane p l e.channel) ∧
  (∀ (s : State) (p : Nat), ((s.port p).holdBack = false → exec (.spareHoldbackEnd p) s = .next s) ∧
    ((s.port p).holdBack = true → ∃ t, exec (.spareHoldbackEnd p) s = .next t ∧ PortSet s t p { s.port p with holdBack := false })) ∧
  (∀ (s : State) (p : Nat), (s.port p).takeover = none → exec (.spareTakeoverComplete p) s = .next s) ∧
  (∀ (s : State) (p l : Nat), p < 16 → l < 8 → (s.port p).takeover = some l → ∃ u v t, exec (.spareTakeoverComplete p) s = .next t ∧
    PortSet s u p { s.port p with takeover := none } ∧
    OnlyRegs [Obj.laneState p spare, Obj.spareRole p, Obj.laneChannel p spare, Obj.laneModulation p spare] u v ∧
    v.lane p spare = lnSpareIn ∧ v.reg (Obj.spareRole p) = 3 * 16 + l ∧ v.reg (Obj.laneChannel p spare) = s.reg (Obj.laneChannel p l) ∧
    v.reg (Obj.laneModulation p spare) = s.reg (Obj.laneModulation p l) ∧ PortSettled v t p) ∧
  (∀ (s : State) (p l : Nat) (r : WaxResult), (s.port p).waxLaser ≠ some l ∨ s.lane p l ≠ lnWax →
    exec (.waxCalibrationEnd p l r) s = .next s) ∧
  (∀ (s : State) (p l : Nat) (r : WaxResult), (s.port p).waxLaser = some l → s.lane p l = lnWax → ∃ u t,
    PortSet s u p { s.port p with waxLaser := none } ∧ PortSettled ((u.recordWax p l r).afterWax p l r) t p ∧
    exec (.waxCalibrationEnd p l r) s = .next (if l = spare ∧ p % 4 = 0 then t.scheduleLocal t.nextGate (.sketchCal (p / 4)) else t)) ∧
  (∀ (s : State) (p l : Nat) (r : WaxResult), p < 16 → l ≤ 8 → ∃ (t : State) (cs : List Nat), s.recordWax p l r = t ∧ cs.length = 10 ∧
    (∀ i, i < 10 → Sparse.get 0 (laserKey p l * 16 + i) t.heaterCoefs = signedOf 16 (cs.getD i 0)) ∧
    t.laser p l = { s.laser p l with loopDelay := r.loopDelayPs } ∧
    (∀ q m, laserKey q m ≠ laserKey p l → t.laser q m = s.laser q m) ∧
    t.reg (Obj.heaterMargin p l) = wrapInt 16 r.heaterMargin ∧ t.reg (Obj.launchPowerCdb p l) = 0 ∧
    OnlyRegs [Obj.heaterMargin p l, Obj.launchPowerCdb p l]
      { s with lasers := t.lasers, heaterCoefs := t.heaterCoefs, drawn := t.drawn } t) ∧
  (∀ (s : State) (p l : Nat) (r : WaxResult), (s.laser p l).waxFrom = lnRetired → r.powerGood = false → ∃ u v, 
    OnlyRegs [Obj.laneState p l] s u ∧ u.lane p l = lnRetired ∧ LaserSet u v p l { s.laser p l with lost := true } ∧
    s.afterWax p l r = if l = spare then (v.laneEvent p l).setRole p 5 0 else v.laneEvent p l) ∧
  (∀ (s : State) (p : Nat) (r : WaxResult), p < 16 → (s.laser p spare).waxFrom ≠ lnRetired ∨ r.powerGood = true → ∃ t,
    s.afterWax p spare r = t ∧ t.lane p spare = lnSpareIdle ∧ t.reg (Obj.spareRole p) = 0 ∧
    OnlyRegs [Obj.laneState p spare, Obj.spareRole p] s t) ∧
  (∀ (s : State) (p l : Nat) (r : WaxResult), p < 16 → l < 8 → (s.laser p l).waxFrom ≠ lnRetired ∨ r.powerGood = true → ∃ u,
    OnlyRegs [Obj.laneState p l, Obj.laneModulation p l] s u ∧ u.lane p l = lnService ∧
    u.reg (Obj.laneModulation p l) = (if r.ratePpb ≤ 100000 then 0 else s.reg (Obj.laneModulation p l)) ∧
    s.afterWax p l r = ((if s.roleLane p = l ∧ (s.role p = 3 ∨ s.role p = 4) then u.swapBack p l else u).regainLane p l)) ∧
  (∀ (s : State) (p l : Nat), p < 16 → l < 8 → ∃ u t, OnlyRegs [Obj.swapCount p l] { s with out := s.out ++ [.marker p l mkSwap] } u ∧
    u.reg (Obj.swapCount p l) = s.reg (Obj.swapCount p l) / 2 ^ 24 * 2 ^ 24 + (s.reg (Obj.swapCount p l) + 1) % 2 ^ 24 ∧
    s.swapBack p l = t ∧ OnlyRegs [Obj.laneState p spare, Obj.spareRole p] (u.laneEvent p l) t ∧ t.lane p spare = lnSpareIdle ∧
    t.reg (Obj.spareRole p) = 0)

/-- Bring-up (R417, R442 to R446, R457, R458, R472, R479): a lane whose rates pass trains and sends its identity; identities that agree
put it in service, others in quarantine, counted; the remap and the chip number are adopted under their rules and let lanes in quarantine
try again. What an identity names where nothing is expected is the model's choice (log entry 148). -/
def Obligations.LaneBringUp : Prop :=
  (∀ (s : State) (p l a b : Nat), s.lane p l ≠ lnUp ∨ (s.laser p l).trained = true ∨ (100000 < a ∧ 3000000 < b) →
    exec (.laneTrainingEnd p l a b) s = .next s) ∧
  (∀ (s : State) (p l a b : Nat), p < 16 → l ≤ 8 → s.lane p l = lnUp → (s.laser p l).trained = false → a ≤ 100000 ∨ b ≤ 3000000 → ∃ u v t,
    exec (.laneTrainingEnd p l a b) s = .next t ∧ OnlyRegs [Obj.laneModulation p l] s u ∧
    u.reg (Obj.laneModulation p l) = (if a ≤ 100000 then 0 else 1) ∧ LaserSet u v p l { s.laser p l with trained := true } ∧
    t = { v with out := v.out ++ [.identity p l (v.identityRecord p l false)] }) ∧
  (∀ (s : State) (p l : Nat) (q : Bool), (let r := s.identityRecord p l q
    let lane := if l = spare then s.roleLane p else l
    r.major = 1 ∧ r.minor = 0 ∧ r.chip = s.chip ∧ r.physicalPort = p ∧ r.logicalPort = s.logicalPort p ∧
    r.lane = lane % 8 + (if l = spare then 8 else 0) ∧ r.channel = s.reg (Obj.laneChannel p l) ∧
    r.expectedChip = (s.expects p lane).getD 0xFFFF ∧ r.expectedPort = s.logicalPort p ∧ r.drawingId = s.reg Obj.drawingInForce ∧
    bit r.flags 0 = q ∧ (bit r.flags 1 = true ↔ s.logicalPort p ≠ p))) ∧
  (∀ (s : State) (p l : Nat), (s.lane p l = lnUp → (s.laser p l).trained = false →
      exec (.laneBringupRetry p l) s = .next (s.bringUp p l (s.reg (Obj.laneChannel p l)))) ∧
    (s.lane p l ≠ lnUp ∨ (s.laser p l).trained = true → exec (.laneBringupRetry p l) s = .next s)) ∧
  (∀ (s : State) (p l ch : Nat), (s.laser p l).lost = true → s.bringUp p l ch = s) ∧
  (∀ (s : State) (p l ch : Nat), p < 16 → l ≤ 8 → (s.laser p l).lost = false → ∃ u v w,
    PortSet s u p { s.port p with remap := if p < 12 then some (s.reg Obj.portRemap / 256 ^ p % 256) else none } ∧
    LaserSet u v p l { s.laser p l with trained := false, relocks := 0 } ∧ OnlyRegs [Obj.laneState p l, Obj.laneChannel p l] v w ∧
    w.lane p l = lnUp ∧ w.reg (Obj.laneChannel p l) = ch ∧ PortSettled w (s.bringUp p l ch) p) ∧
  (∀ (s : State) (p l e : Nat) (r : IdRecord), p < 16 → l ≤ 8 → ∃ u : State,
    OnlyRegs [Obj.peerFound p] { s with fabric := u.fabric } u ∧
    { u.fabric with avoided := s.fabric.avoided } = s.fabric ∧
    u.fabric.avoided = (if s.laserOn p l = true then s.fabric.avoided.filter fun a => a.1 != r.chip || decide (e ≤ a.2)
      else s.fabric.avoided) ∧
    u.reg (Obj.peerFound p) = (if l = s.carrier p 0 ∧ s.laserOn p l = true then fromBytes (idBytes r) else s.reg (Obj.peerFound p)) ∧
    (let ready := (s.lane p l = lnUp ∧ (s.laser p l).trained = true) ∨ s.lane p l = lnQuarantine
     (¬ ready ∨ (s.lane p l = lnQuarantine ∧ u.identityAgrees p l r = false) → exec (.identityFrame p l ⟨e, r⟩) s = .next u) ∧
     (ready → u.identityAgrees p l r = true → ∃ v t, OnlyRegs [Obj.laneState p l, Obj.minorInUse p] u v ∧ v.lane p l = lnService ∧
       v.reg (Obj.minorInUse p) = 0 ∧ PortSettled (v.regainLane p l) t p ∧ exec (.identityFrame p l ⟨e, r⟩) s = .next t.retryTransit) ∧
     (ready → s.lane p l = lnUp → u.identityAgrees p l r = false → ∃ v t, OnlyRegs [Obj.laneState p l, Obj.quarantineCount p] u v ∧
       v.lane p l = lnQuarantine ∧ v.reg (Obj.quarantineCount p) = (s.reg (Obj.quarantineCount p) + 1) % 2 ^ 32 ∧
       exec (.identityFrame p l ⟨e, r⟩) s = .next t ∧ PortSettled ((v.laneEvent p l).sendIdentity p l true) t p))) ∧
  (∀ (s : State) (p l : Nat) (r : IdRecord), s.identityAgrees p l r = true ↔ r.major = 1 ∧ s.chip ≠ 0xFFFF ∧
    s.expects p l = some r.chip ∧ r.logicalPort = s.logicalPort p ∧ r.expectedChip = s.chip ∧
    r.expectedPort = s.logicalPort p) ∧
  (∀ (s : State) (p l : Nat), l ∉ (s.port p).lostLanes → s.regainLane p l = s) ∧
  (∀ (s : State) (p l : Nat), l ∈ (s.port p).lostLanes → ∃ u v, PortSet s u p { s.port p with
      lostLanes := (s.port p).lostLanes.filter fun m => m != l } ∧ OnlyRegs [Obj.pisteEventCount] u v ∧
    v.reg Obj.pisteEventCount = (s.reg Obj.pisteEventCount + 1) % 2 ^ 32 ∧ s.regainLane p l =
      v.raise Obj.lastPisteEvent (s.pisteBytes 4 p l 0 ((s.drawnLane p l).elim 0 fun e => e.txChip))) ∧
  (∀ m : List Nat, isRemap m = true ↔ m.length = 12 ∧ ∀ i, i < 12 → i ∈ m) ∧
  (∀ (s : State) (sess : Nat) (m : List Nat), MayWrite s sess 0x5000 5 →
    (isRemap m = false → exec (.portRemapWrite sess m) s = .next s) ∧
    (isRemap m = true → ∃ u, OnlyRegs [Obj.portRemap] s u ∧
      u.reg Obj.portRemap = fromBytes (m.map (BitVec.ofNat 8)) ∧ exec (.portRemapWrite sess m) s = .next u.retryQuarantine)) ∧
  (∀ (s : State) (sess v : Nat), MayWrite s sess 0x6000 1 →
    (s.device ≠ devReady ∨ s.notFree ≠ [] ∨ (0x3FFF < v ∧ v ≠ 0xFFFF) → exec (.chipNumberWrite sess v) s = .next s) ∧
    (s.device = devReady → s.notFree = [] → v ≤ 0x3FFF ∨ v = 0xFFFF → ∃ u, OnlyRegs [Obj.chipNumber] s u ∧
      u.reg Obj.chipNumber = v ∧ exec (.chipNumberWrite sess v) s = .next u.settleRacks.retryQuarantine)) ∧
  (∀ s : State, s.retryQuarantine = ((List.range 16).flatMap fun p => (List.range 9).map fun l => (p, l)).foldl (fun t q =>
    if t.lane q.1 q.2 = lnQuarantine then t.bringUp q.1 q.2 (t.reg (Obj.laneChannel q.1 q.2)) else t) s) ∧
  (∀ s : State, s.settleRacks = [12, 13, 14, 15].foldl (fun t p =>
    if t.portUsed p = false then (if (List.range 9).all (fun l => t.lane p l == lnOff) then t else t.darken p)
    else if t.lane p 0 = lnOff then (t.bringUp p 0 (baseChannel p)).wakeSpare p else t) s)

/-- Patrol (R588 to R591, R594, R597, R599, R633): beacons leave base lanes in use unless a perturbation drops them; a beacon of the far package
clears a suspicion, says what the package is, and asks for the tables where they differ; a lane that misses beacons is suspect; a suspect
is probed on both paths, fenced by a verdict unless every lane is suspect at once, and cleared by an answer. Which states send beacons is the model's
choice (log entry 16).
Lives and fences (R53, R475, R479, R493, R592 to R598, R612): of two lives of a chip the larger stays, and a change is sent on every base lane;
a fence makes an even life odd once, and each package then avoids the chip, takes it out of its live sets, and fails what waits on it; a
package that finds its own life odd is FENCED; a departure notice is passed on by base neighbours and fences its sender; only the Owner, or
a tenant for its own members, fences or rejoins a chip, and a chip rejoins while its beacons of the last 10 ms say that it is ready. -/
def Obligations.PatrolAndLives : Prop :=
  (∀ s : State, s.beaconStatus = if s.device = devFenced then some 2 else if s.device = devDraining then some 3
    else if s.device = devBoot ∧ s.reg Obj.lastResetKind = 2 then some 1
    else if s.isUp = true then some (if s.fenced s.chip = true then 4 else 0) else none) ∧
  (∀ (s : State) (l st : Nat), s.beaconStatus = some st → l ∈ s.baseLanes → ∃ t, exec (.beaconSend l) s = .next t ∧
    (s.reg (Obj.beaconDrop (l + 1)) = 0 → Emitted [.beacon l
      { chip := s.chip, life := s.lifeOf s.chip, epoch := s.reg Obj.membershipEpoch, digest := s.lifeDigest, status := st }] s t) ∧
    (s.reg (Obj.beaconDrop (l + 1)) = 0xFFFF → t = s) ∧
    (s.reg (Obj.beaconDrop (l + 1)) ≠ 0 → s.reg (Obj.beaconDrop (l + 1)) ≠ 0xFFFF → OnlyRegs [Obj.beaconDrop (l + 1)] s t ∧
      t.reg (Obj.beaconDrop (l + 1)) = s.reg (Obj.beaconDrop (l + 1)) - 1)) ∧
  (∀ s : State, s.lifeDigest = (sha256 ((List.range 16384).flatMap fun c => toBytes 2 (s.lifeOf c))).take 8) ∧
  (∀ (s : State) (l : Nat), s.beaconStatus = none ∨ l ∉ s.baseLanes → exec (.beaconSend l) s = .next s) ∧
  (∀ (s : State) (l : Nat) (b : Beacon), s.patrols = false ∨ s.baseFrom l ≠ some b.chip → exec (.beaconReceive l b) s = .next s) ∧
  (∀ s : State, s.patrols = true ↔ devReady ≤ s.device ∧ s.device ≤ devFenced) ∧
  (∀ (s : State) (l : Nat) (b : Beacon), s.patrols = true → s.baseFrom l = some b.chip → ∃ u v w x t,
    exec (.beaconReceive l b) s = .next t ∧ SignOfLife s u l b.chip ∧ WatchSet u v l { u.watch l with status := b.status } ∧
    w = (if b.status = 1 ∧ (u.watch l).status ≠ 1 then v.memberEvent 7 b.chip else v) ∧
    (b.status ≠ 4 → x = w) ∧
    (b.status = 4 → Sparse.get 0 b.chip x.rejoinHeard = w.up + 1 ∧
      (∀ c, c ≠ b.chip → Sparse.get 0 c x.rejoinHeard = Sparse.get 0 c w.rejoinHeard) ∧ { x with rejoinHeard := w.rejoinHeard } = w) ∧
    (b.epoch = x.reg Obj.membershipEpoch ∧ b.digest = x.lifeDigest → t = x) ∧
    (b.epoch ≠ x.reg Obj.membershipEpoch ∨ b.digest ≠ x.lifeDigest → ∃ y, Emitted [.tableSync l x.life] x y ∧
      Counted 32 Obj.tableSyncCount y t)) ∧
  (∀ (s : State) (l : Nat), s.baseFrom l = none → exec (.suspectTimeout l) s = .next s ∧ exec (.probeSend l) s = .next s ∧
    exec (.probeAnswerReceive l) s = .next s ∧ exec (.deadVerdict l) s = .next s) ∧
  (∀ (s : State) (l c : Nat), s.baseFrom l = some c → (s.patrols = false ∨ (s.watch l).suspect = true →
      exec (.suspectTimeout l) s = .next s) ∧
    (s.patrols = true → (s.watch l).suspect = false → ∃ u t, exec (.suspectTimeout l) s = .next t ∧
      WatchSet s u l { s.watch l with suspect := true } ∧ Counted 32 Obj.suspectCount u t)) ∧
  (∀ (s : State) (l c : Nat), s.baseFrom l = some c → ∃ t, exec (.probeSend l) s = .next t ∧
    Emitted (if s.patrols = true ∧ (s.watch l).suspect = true then [.probe c false, .probe c true] else []) s t) ∧
  (∀ (s : State) (chip : Nat) (b : Bool), ∃ t, exec (.probeReceive chip b) s = .next t ∧
    Emitted (if s.beaconStatus.isSome = true ∧ s.reg Obj.probeDrop = 0 then [.probeAnswer chip b] else []) s t) ∧
  (∀ (s : State) (l c : Nat), s.baseFrom l = some c → ∃ t, exec (.probeAnswerReceive l) s = .next t ∧
    (s.patrols = true → SignOfLife s t l c) ∧ (s.patrols = false → t = s)) ∧
  (∀ (s : State) (l c : Nat), s.baseFrom l = some c → (let out := ∀ k, k < 10 → (s.baseFrom k).isSome = true → (s.watch k).suspect = true
    (s.patrols = false ∨ (s.watch l).suspect = false ∨ out ∨ s.fenced c = true → exec (.deadVerdict l) s = .next s) ∧
    (s.patrols = true → (s.watch l).suspect = true → ¬ out → s.fenced c = false → ∃ u t, exec (.deadVerdict l) s = .next t ∧
      Counted 32 Obj.verdictCount s u ∧ Fenced u t c 1))) ∧
  (∀ (s : State) (cs : List (Nat × Nat)), ∃ t, exec (.lifeChangeReceive cs) s = .next t ∧ (s.linksUp = false → t = s) ∧
    (s.linksUp = true → LivesMerged cs s t)) ∧
  (∀ (s : State) (chip e : Nat), Fenced s (s.fenceChip chip e) chip e) ∧
  (∀ (s : State) (c : Nat), s.lowestLive = some c → c < 64 * 2 ^ s.reg Obj.rackBits ∧ s.fenced c = false ∧
    ∀ d, d < c → s.fenced d = true) ∧
  (∀ (s : State) (chip : Nat), s.linksUp = false ∨ chip = s.chip ∨ s.fenced chip = true → exec (.departureNotice chip) s = .next s) ∧
  (∀ (s : State) (chip : Nat), s.linksUp = true → chip ≠ s.chip → s.fenced chip = false → ∃ u v t,
    exec (.departureNotice chip) s = .next t ∧
    Emitted (if ∃ i, i < 10 ∧ s.baseFrom i = some chip then
      ((((List.range 64).map fun p => chipAt (rackOf s.chip) p) ++ (List.range 4).filterMap s.partner).filter
        fun c => c != s.chip && c != chip).map fun c => .flood c chip else []) s u ∧
    Avoided u v chip ∧ Fenced v t chip 3) ∧
  (∀ (s : State) (sess chip : Nat), MayWrite s sess 0x7000 6 → s.mayName sess chip = true →
    (s.fenced chip = false ∨ s.readyToRejoin chip = false → exec (.memberRejoin sess chip) s = .next s) ∧
    (s.fenced chip = true → s.readyToRejoin chip = true → ∃ t, exec (.memberRejoin sess chip) s = .next t ∧
      LifeAdopted s t chip (s.lifeOf chip + 1))) ∧
  (∀ (s : State) (chip : Nat), s.readyToRejoin chip = true ↔ ∃ h, Sparse.get 0 chip s.rejoinHeard = h + 1 ∧ s.up ≤ h + 10000000) ∧
  (∀ (s : State) (sess chip : Nat), MayWrite s sess 0x7000 5 → s.mayName sess chip = true → ∃ t,
    exec (.fenceRequest sess chip) s = .next t ∧ (chip < 16384 → Fenced s t chip 2) ∧ (16384 ≤ chip → t = s)) ∧
  (∀ (s : State) (sess chip : Nat), s.mayName sess chip = true ↔ ∃ x, s.session? sess = some x ∧
    (x.role = roleOwner ∨ (x.role = roleTenant ∧ chip ∈ (s.tenant x.tenant).members))) ∧
  (∀ (s : State) (sess chip : Nat), s.mayName sess chip = false →
    (MayWrite s sess 0x7000 6 → exec (.memberRejoin sess chip) s = .next (s.violate sess)) ∧
    (MayWrite s sess 0x7000 5 → exec (.fenceRequest sess chip) s = .next (s.violate sess)))

/-- Mirrors (R600, R601, R604 to R606, R611): the table is written whole while no step is open, and each entry asks its buddy to pair; a request
pairs equal entries of matching roles and breaks others; a population copies every unpopulated primary entry, and is refused while a step is open
or versions differ; a mirror stores the copy and answers with its own digest (log entry 153: copy and digest come in one command); equal
digests make a pair live, different ones are counted, copied once more, and then broken. -/
def Obligations.MirrorsPopulateAndVerify : Prop :=
  (∀ (s : State) (sess n : Nat) (es : List MirrorSpec), MayWrite s sess (0x7050 + n) 1 →
    (s.tenant n).steps ≠ [] ∨ 4096 < es.length ∨ (∃ m ∈ es, s.entryAt n m.localBase = none) ∨
      (∃ m ∈ es, m.role = 1 ∧ ∃ k ∈ (s.tenant n).mirrors, k.localBase = m.localBase ∧ k.role = 2 ∧ k.state ≠ 3 ∧ k.state ≠ 4) →
    exec (.mirrorTableWrite sess n es) s = .next s) ∧
  (∀ (s : State) (sess n : Nat) (es : List MirrorSpec), MayWrite s sess (0x7050 + n) 1 → (s.tenant n).steps = [] →
    es.length ≤ 4096 → (∀ m ∈ es, (s.entryAt n m.localBase).isSome = true) →
    (∀ m ∈ es, ∀ k ∈ (s.tenant n).mirrors, ¬ (m.role = 1 ∧ k.localBase = m.localBase ∧ k.role = 2 ∧ k.state ≠ 3 ∧ k.state ≠ 4)) → ∃ t,
    exec (.mirrorTableWrite sess n es) s = .next t ∧ t.tenant n = { s.tenant n with populating := false, mirrors := es.map (fun m =>
      { localBase := m.localBase, buddy := m.buddyChip, buddyBase := m.buddyBase, role := m.role, state := 0,
        tensorId := m.tensorId }) } ∧ (∀ k, k ≠ n → t.tenant k = s.tenant k) ∧
    t.out = s.out ++ es.filterMap (fun m => (s.entryAt n m.localBase).map fun e => Msg.mirrorPair m.buddyChip m.buddyBase m.localBase
      m.role e.versioned false (s.reg (Obj.versionReserve n)) e.homeTier e.lines m.tensorId) ∧
    { t with tenants := s.tenants, out := s.out, generations := s.generations } = s) ∧
  (∀ (s : State) (n : Nat) (a : PairAsk) (m : Mirror),
    (s.entryAt n m.localBase = none → s.pairState n m a = 6) ∧
    (∀ e, s.entryAt n m.localBase = some e → (PairSound s n m e a → s.pairState n m a = if 3 ≤ m.role then 3 else 1) ∧
      (¬ PairSound s n m e a → s.pairState n m a = 6))) ∧
  (∀ (s : State) (n i : Nat) (a : PairAsk) (m : Mirror), m.meets a = false → s.pairOne n a i m = s) ∧
  (∀ (s : State) (n i : Nat) (a : PairAsk) (m : Mirror), m.meets a = true → ∃ u v w, MirrorSet s u n i
      { m with state := s.pairState n m a, retried := false, verifying := false } ∧ PopulationSettled u v n ∧
    (a.answer = true ∨ v.entryAt n m.localBase = none → w = v) ∧
    (∀ e, a.answer = false → v.entryAt n m.localBase = some e → Emitted [.mirrorPair m.buddy m.buddyBase m.localBase m.role e.versioned
      true (v.reg (Obj.versionReserve n)) e.homeTier e.lines m.tensorId] v w) ∧
    s.pairOne n a i m = if s.pairState n m a = 6 then w.mirrorEvent n 16 m.buddy m.localBase else w) ∧
  (∀ (s : State) (sess n v : Nat) (o : Bool), MayWrite s sess (0x7050 + n) 2 →
    s.mayPopulate n v o = false ∨ (s.tenant n).populating = true → exec (.mirrorPopulate sess n v o) s = .next s) ∧
  (∀ (s : State) (n v : Nat) (o : Bool), s.mayPopulate n v o = true ↔ (s.tenant n).state = 1 ∧ (s.tenant n).steps = [] ∧
    o = false ∧ v = s.curVersion n) ∧
  (∀ (s : State) (sess n v : Nat) (o : Bool), n < 16 → MayWrite s sess (0x7050 + n) 2 → s.mayPopulate n v o = true →
    (s.tenant n).populating = false → ∃ u w t, exec (.mirrorPopulate sess n v o) s = .next t ∧ OnlyRegs [Obj.populateBytes n] s u ∧
      u.reg (Obj.populateBytes n) = 0 ∧ TenantSet u w n { s.tenant n with
        populating := (s.tenant n).mirrors.any fun m => m.role == 1 && m.state == 1 } ∧
      ShardsCopied n ((List.range (s.tenant n).mirrors.length).zip (s.tenant n).mirrors) w t) ∧
  (∀ (s : State) (n i : Nat) (c d : List Byte), (∀ m, (s.tenant n).mirrors[i]? = some m → m.state ≠ 2 ∧ m.verifying = false ∧
    (m.role ≠ 2 ∨ m.state ≠ 1)) → exec (.mirrorDigestReceive n i ⟨c, d⟩) s = .next s) ∧
  (∀ (s : State) (n i : Nat) (m : Mirror) (c d : List Byte), n < 16 → (s.tenant n).mirrors[i]? = some m → m.role ≠ 2 →
    m.state = 2 ∨ m.verifying = true → ∃ t, exec (.mirrorDigestReceive n i ⟨c, d⟩) s = .next t ∧
    (sha256 (s.shardBytes n m.localBase) = d → ∃ u, MirrorSet s u n i { m with state := 3, verifying := false } ∧
      PopulationSettled (if m.state = 3 then u else u.mirrorEvent n 14 m.buddy m.localBase) t n) ∧
    (sha256 (s.shardBytes n m.localBase) ≠ d → ∃ u, DigestDiffers s u n i m ∧ PopulationSettled u t n)) ∧
  (∀ (s : State) (n i : Nat) (m : Mirror) (c d : List Byte), n < 16 → (s.tenant n).mirrors[i]? = some m → m.role = 2 →
    m.state = 1 ∨ m.state = 2 ∨ m.verifying = true →
    (let u := if m.verifying = true then s else s.storeCopy n m c
     let own := sha256 (u.shardBytes n m.localBase)
     ∃ v t, exec (.mirrorDigestReceive n i ⟨c, d⟩) s = .next t ∧ Emitted [.mirrorDigest m.buddy m.buddyBase own] u v ∧
      (own = d → ∃ w, MirrorSet v w n i { m with state := 3, verifying := false } ∧
        PopulationSettled (if m.state = 3 then w else w.mirrorEvent n 14 m.buddy m.localBase) t n) ∧
      (own ≠ d → m.state = 1 → ∃ w x y, MirrorSet v w n i { m with retried := true, state := 2 } ∧
        TenantSet w x n { w.tenant n with populating := true } ∧ Counted 32 (Obj.digestMismatchCount n) x y ∧
        t = y.mirrorEvent n 15 m.buddy m.localBase) ∧
      (own ≠ d → m.state ≠ 1 → ∃ w, DigestDiffers v w n i m ∧ PopulationSettled w t n))) ∧
  (∀ (s : State) (n : Nat) (m : Mirror) (c : List Byte) (e : Entry), s.entryAt n m.localBase = some e → m.role = 2 →
    c.length = 64 * e.lines → s.storeCopy n m c = (s.pokeRun n m.localBase .plain c).1) ∧
  (∀ (s : State) (sess n v : Nat) (o : Bool), MayWrite s sess (0x7050 + n) 3 → ∃ t, exec (.mirrorVerify sess n v o) s = .next t ∧
    (s.mayPopulate n v o = false → t = s) ∧
    (s.mayPopulate n v o = true → DigestsSent n ((List.range (s.tenant n).mirrors.length).zip (s.tenant n).mirrors) s t))

/-- Faults and perturbations (R126, R144, R208, R346, R350, R394, R613, R616 to R622, R626, R630 to R633, R638, R639): a report is nobody's while
the package is off or halted; else it counts against its device, poisons what it names, faults the context it reaches, and is latched, captured
and counted, a fatal one stopping the package; a pair of error lines invalid for four cycles takes its core or its cluster out of service;
the second watchdog expiry within 1 s brings a core reset, and one within 10 s of it is fatal; test mode and a stop return every
perturbation to its default; injected lines wait, 16 at most. -/
def Obligations.FaultsAndPerturbations : Prop :=
  (∀ (s : State) (r : FaultRep) (e : ErrSite) (u p : Nat) (ps : List (Bool × Bool)), s.device = devOff ∨ s.device = devHalted →
    exec (.faultReport ⟨r, e⟩) s = .next s ∧ exec (.wiringFault ⟨u, ps⟩) s = .next s ∧ exec (.watchdogExpiry p) s = .next s) ∧
  (∀ (s : State) (r : FaultRep) (e : ErrSite), s.device ≠ devOff → s.device ≠ devHalted → ∃ t, exec (.faultReport ⟨r, e⟩) s = .next t ∧
    ReportEnds ((((s.countInner r).poisonNamed r).poisonSite r e).faultReached r) t (if r.cause = 21 then { r with cls := 3 } else r)) ∧
  (∀ (s : State) (r : FaultRep), r.cls = 1 ∨ r.cls = 2 ∨ r.cls = 3 → ReportEnds s (s.report r) r) ∧
  (∀ (s : State) (r : FaultRep), (let die := unitDie r.reporter
    let k := unitUnit r.reporter
    (8 ≤ die ∨ unitGroup r.reporter ≠ 16 ∨ 5 ≤ k ∨ ¬ ((r.cls = 1 ∧ r.cause = 1) ∨ (r.cls = 2 ∧ r.cause = 2)) → s.countInner r = s) ∧
    (die < 8 → unitGroup r.reporter = 16 → r.cls = 1 → r.cause = 1 → k < 5 → Counted 64
      (if k < 3 then Obj.mainCorrectedCount die k else Obj.deepCorrectedCount die (k - 3)) s (s.countInner r)) ∧
    (die < 8 → unitGroup r.reporter = 16 → r.cls = 2 → r.cause = 2 → k < 5 → Counted 32
      (if k < 3 then Obj.mainUncorrectedCount die k else Obj.deepUncorrectedCount die (k - 3)) s (s.countInner r)))) ∧
  (∀ (s : State) (r : FaultRep), r.cls ≠ 2 ∨ r.cause ≠ 2 ∨ r.address / 2 ^ 50 ≠ s.chip → s.poisonNamed r = s) ∧
  (∀ (s : State) (r : FaultRep) (n x st base : Nat) (e : Entry), r.cls = 2 → r.cause = 2 → r.address / 2 ^ 50 = s.chip →
    r.work = some (n, x, st) → s.findEntry n (r.address % 2 ^ 50) .plain = some (base, e) → s.poisonNamed r = { s with
      poison := Sparse.set 0 (lineKey e.committed ((r.address % 2 ^ 50 - e.base) / 64)) 1 s.poison }) ∧
  (∀ (s : State) (r : FaultRep) (c n x st : Nat), r.work = some (n, x, st) → coreOfUnit r.reporter = some c →
    (r.cls ≠ 2 ∨ s.ctxWork c x = none → s.faultReached r = s) ∧
    (r.cls = 2 → (s.ctxWork c x).isSome = true → ((s.faultReached r).ctx c x).state = 4 ∧
      ((s.faultReached r).ctx c x).firstFault = some ((s.ctx c x).firstFault.getD (r.reporter, r.access)) ∧
      (∀ d y, ctxKey d y ≠ ctxKey c x → (s.faultReached r).ctx d y = s.ctx d y))) ∧
  (∀ (s : State) (r : FaultRep), r.work = none ∨ coreOfUnit r.reporter = none → s.faultReached r = s) ∧
  (∀ (s : State) (r : FaultRep) (e : ErrSite), coreOfUnit r.reporter = none ∨ r.cls ≠ 2 ∨ r.cause ≠ 2 ∨ e = .elsewhere →
    s.poisonSite r e = s) ∧
  (∀ (s : State) (r : FaultRep) (c k : Nat), coreOfUnit r.reporter = some c → r.cls = 2 → r.cause = 2 → r.reporter % 8 = 2 →
    ((s.poisonSite r (.side k)).core c) = { s.core c with sidePoison := Sparse.set 0 k 1 (s.core c).sidePoison }) ∧
  (∀ (s : State) (r : FaultRep) (c p w : Nat), coreOfUnit r.reporter = some c → r.cls = 2 → r.cause = 2 → r.reporter % 8 = 0 →
    partOk (s.core c).mode p = true → (∀ i ∈ (s.core c).issued, i.part ≠ p) → ∃ u, s.poisonSite r (.plane p w) = u ∧
      Counted 32 (Obj.partitionFaultCount c) { s with cores := u.cores } u ∧ u.core c = { s.core c with planes := (u.core c).planes } ∧
      (w = 0 → (Sparse.get {} p (u.core c).planes).badA = true) ∧ (w ≠ 0 → (Sparse.get {} p (u.core c).planes).badB = true) ∧
      ∀ q, q ≠ p → Sparse.get {} q (u.core c).planes = Sparse.get {} q (s.core c).planes) ∧
  (∀ (s : State) (r : FaultRep) (c row col : Nat), coreOfUnit r.reporter = some c → r.cls = 2 → r.cause = 2 → r.reporter % 8 = 7 →
    Sparse.get 0 (row * 64 + col) ((s.poisonSite r (.accumulator row col)).core c).accBad = 1) ∧
  (∀ (s : State) (r : FaultRep) (c p x : Nat), ((((s.core c).issued.filter fun i => i.part == p).map (·.ctx)).eraseDups = [x]) → ∃ u,
    s.partitionErrors c r [p] = u ∧ (u.ctx c x).state = 4 ∧ (u.core c).issued = (s.core c).issued.filter (fun i => i.ctx != x) ∧
    (∀ q ∈ regionKeys (s.core c).mode p, Sparse.get 0 q (u.core c).accPoison = 1) ∧
    u.reg (Obj.partitionFaultCount c) = (s.reg (Obj.partitionFaultCount c) + 1) % 2 ^ 32) ∧
  (∀ (s : State) (u : Nat) (ps : List (Bool × Bool)), wiringBit u = none ∨ heldInvalid ps = false → exec (.wiringFault ⟨u, ps⟩) s = .next s) ∧
  (∀ ps : List (Bool × Bool), heldInvalid ps = true ↔ ∃ i, i + 4 ≤ ps.length ∧ ∀ j, i ≤ j → j < i + 4 → ∃ b, ps[j]? = some (b, b)) ∧
  (∀ (s : State) (u cl b : Nat) (ps : List (Bool × Bool)), s.device ≠ devOff → s.device ≠ devHalted → wiringBit u = some (cl, b) →
    heldInvalid ps = true → (let k := Obj.clusterWiring (unitDie u) cl
     let first := unitDie u * 64 + cl * 8
     ∃ v w t, exec (.wiringFault ⟨u, ps⟩) s = .next t ∧ v.latch k = ⟨(s.latch k).word ||| 2 ^ b, bumpEvents (s.latch k).count⟩ ∧
      (∀ j, j ≠ k → v.latch j = s.latch j) ∧ { v with latches := s.latches } = s ∧
      CoresRetired (if b < 64 then [first + b / 8] else (List.range 8).map fun i => first + i) v w ∧
      ReportEnds w t (blockReport 2 13 u))) ∧
  (∀ (s : State) (p : Nat), s.device = devRecovery → exec (.watchdogExpiry p) s = .next s) ∧
  (∀ (s : State) (p : Nat), s.device ≠ devOff → s.device ≠ devHalted → s.device ≠ devRecovery →
    (let late := ∀ t0, s.dev.watchdogReset = some t0 → t0 + 10000000000 ≤ s.up
     let second := ∃ t0, s.dev.lastWatchdog = some t0 ∧ s.up ≤ t0 + 1000000000
     ∃ u v t, exec (.watchdogExpiry p) s = .next t ∧ Counted 32 Obj.watchdogCount s u ∧
      (¬ late → ReportEnds u t (blockReport 3 18 (0xC000 + p))) ∧
      (late → ¬ second → ReportEnds { u with dev := { u.dev with lastWatchdog := some s.up } } t (blockReport 2 18 (0xC000 + p))) ∧
      (late → second → ReportEnds { u with dev := { u.dev with lastWatchdog := none } } v (blockReport 2 18 (0xC000 + p)) ∧
        (s.isUp = true → t = State.coreReset { v with dev := { v.dev with watchdogReset := some s.up } }) ∧
        (s.isUp = false → t = v)))) ∧
  (∀ (s : State) (sess v : Nat), MayWrite s sess 0xC000 1 → ∃ u t, exec (.testModeWrite sess v) s = .next t ∧
    OnlyRegs [Obj.testMode] s u ∧ u.reg Obj.testMode = (if v = 1 then 1 else 0) ∧
    (v = 1 ∨ s.notFree = [] → t = u) ∧ (v ≠ 1 → s.notFree ≠ [] → t = u.clearPerturb)) ∧
  (∀ (s : State) (sess v : Nat), MayWrite s sess 0xC000 3 → exec (.perturbStop sess v) s = .next (
    if v = 1 then s.clearPerturb else s)) ∧
  (∀ (s : State), s.clearPerturb.perturbActive = 0 ∧ s.clearPerturb.injections = [] ∧
    { s.clearPerturb with regs := s.regs, injections := s.injections } = s) ∧
  (∀ (s : State) (k : Nat), (perturbRow k ≠ none → s.clearPerturb.reg k = regDefault k) ∧
    (perturbRow k = none → s.clearPerturb.reg k = s.reg k)) ∧
  (∀ (s : State) (sess a k : Nat), MayWrite s sess 0xC200 1 → exec (.memoryInject sess a k) s = .next (
    if (s.notFree = [] ∨ s.reg Obj.testMode = 1) ∧ a / 2 ^ 50 = s.chip ∧ (k = 1 ∨ k = 2) ∧ s.injections.length < 16 then
      { s with injections := s.injections ++ [{ address := a % 2 ^ 50, kind := k }] }
    else s))

/-- Rights (R643, R645 to R651): a write without the right is not applied: it adds one to the session's violation count and changes nothing
else, whichever write command carries it. A session that is not open changes nothing. A session without a read right gets zeros. No role
writes an RO object or reads a WO object; an object no chapter assigns is nobody's; an object of tenant m is the Owner's and Tenant(m)'s; an
Observer writes nothing but its session's close and the attestation nonce. -/
def Obligations.RightsOfEveryTouchedObject : Prop :=
  (∀ (i : Instr) (s : State) (sess index sub : Nat), writeTarget i = some (sess, index, sub) → MayNotWrite s sess index sub →
    ∃ t, exec i s = .next t ∧ Violated s t sess) ∧
  (∀ (i : Instr) (s : State) (sess index sub : Nat), writeTarget i = some (sess, index, sub) → s.session? sess = none →
    exec i s = .next s) ∧
  (∀ (s : State) (sess : Nat) (o : ObjRef) (v : List Byte), s.session? sess = none → exec (.objectWrite sess o v) s = .next s) ∧
  (∀ (s : State) (sess : Nat) (o : ObjRef) (v : List Byte) (x : Session), s.session? sess = some x → s.canWrite x o = false →
    ∃ t, exec (.objectWrite sess o v) s = .next t ∧ Violated s t sess) ∧
  (∀ (s : State) (sess : Nat) (o : ObjRef) (v : List Byte) (x : Session) (r : ObjRow), s.session? sess = some x → objRow o = some r →
    s.canWrite x o = true → exec (.objectWrite sess o v) s =
      .next (if r.access ≠ 3 ∧ (if r.width = 0 then v.length ≤ maxLength o r else v.length = r.width) then (s.writeObj x o v).1 else s)) ∧
  (∀ (s : State) (x : Session) (o : ObjRef), objRow o = none → s.canRead x o = false ∧ s.canWrite x o = false) ∧
  (∀ (s : State) (x : Session) (o : ObjRef) (r : ObjRow), objRow o = some r →
    (r.access = 0 → s.canWrite x o = false) ∧ (r.access = 2 → s.canRead x o = false)) ∧
  (∀ (s : State) (x : Session) (o : ObjRef), x.role = 0 → s.canWrite x o = true → o = ⟨0x0010, 8⟩ ∨ o = ⟨0xB020, 1⟩) ∧
  (∀ (s : State) (x : Session) (o : ObjRef) (r : ObjRow) (m : Nat), objRow o = some r → r.belongs ≠ .pkg → s.ownerOf r o = some m →
    s.device ≠ devRecovery →
    (r.access ≠ 2 → o.index ≠ 0x0020 → (s.canRead x o = true ↔ x.role = roleOwner ∨ (x.role = roleTenant ∧ x.tenant = m))) ∧
    (r.access ≠ 0 → ownerOnly o = false → o.index ≠ 0x0010 → o.index ≠ 0xB010 → o.index ≠ 0xB020 →
      (s.canWrite x o = true ↔ x.role = roleOwner ∨ (x.role = roleTenant ∧ x.tenant = m)))) ∧
  (∀ (s : State) (x : Session) (o : ObjRef), s.device = devRecovery → s.canRead x o = true ∨ s.canWrite x o = true →
    o.index = 0x0000 ∨ o.index = 0x0010 ∨ o.index = 0x1000 ∨ o.index = 0x1010 ∨ (0xB000 ≤ o.index ∧ o.index ≤ 0xB0FF)) ∧
  (∀ (s : State) (x : Session) (v : List Byte),
    s.writeObj x ⟨0x9000, 3⟩ v = (s.setReg Obj.correctedEvents (if fromBytes v = 0 then 0 else 1), 0) ∧
    s.writeObj x ⟨0x2020, 2⟩ v = (s.setReg (objKey ⟨0x2020, 2⟩) (max 1500 (min 5200 (fromBytes v))), 0) ∧
    s.writeObj x ⟨0x2030, 1⟩ v = (if fromBytes v % 20 = 0 ∧ 600 ≤ fromBytes v ∧ fromBytes v ≤ 2100 then
      (s.setReg (objKey ⟨0x2030, 1⟩) (fromBytes v), 0) else (s, 1)) ∧
    s.writeObj x ⟨0xC100, 1⟩ v = (if s.perturbAllowed = true ∧ fromBytes v ≤ 0xFFFFFF then
      (s.setReg (objKey ⟨0xC100, 1⟩) (fromBytes v), 0) else (s, 1)))

/-- Authentication (R653, R662, R663): a message of another GDP version is dropped; one of no open session, with a wrong tag, or 1,024 or more
below the highest sequence is dropped and counted; a duplicate gets its reply again, and an older one nothing; in each case nothing else
happens, whatever the request. -/
def Obligations.HandshakesAndAuthentication : Prop :=
  (∀ (s : State) (e : Envelope) (m : List Byte), s.gdpUp = false → s.authenticate e m = .settled s) ∧
  (∀ (s : State) (e : Envelope) (m : List Byte), s.gdpUp = true →
    (s.session? e.session = none ∨ ∃ x, s.session? e.session = some x ∧
      (e.tag ≠ hmac x.key (m ++ toBytes 8 e.sequence ++ toBytes 8 0) ∨ e.sequence + 1024 ≤ x.highest)) → ∃ t,
    s.authenticate e m = .settled t ∧ Counted 32 Obj.authFailCount s t) ∧
  (∀ (s : State) (e : Envelope) (m : List Byte) (x : Session), s.gdpUp = true → s.session? e.session = some x →
    e.tag = hmac x.key (m ++ toBytes 8 e.sequence ++ toBytes 8 0) → x.highest < e.sequence + 1024 → e.sequence ∈ x.seen →
    ((∀ r ∈ x.replies, r.1 ≠ e.sequence) → s.authenticate e m = .settled s) ∧
    (∀ r, x.replies.find? (fun p => p.1 == e.sequence) = some r → s.authenticate e m = .settled (s.sendControl e.net e.peer r.2))) ∧
  (∀ (s : State) (e : Envelope) (m : List Byte) (x : Session), Authentic s e m x → ∃ u, s.authenticate e m = .fresh u x ∧ SessionSet s u x) ∧
  (∀ (s : State) (e : Envelope) (kind flags items : Nat) (body : List Byte),
    (e.version ≠ 1 → s.gdpAuth e kind flags items body = .settled s) ∧
    (e.version = 1 → s.gdpAuth e kind flags items body =
      s.authenticate e (gdpMessage 1 kind flags 0 e.session e.requestId items body))) ∧
  (∀ (s t : State) (e : Envelope),
    (∀ os : List ObjRef, s.gdpAuth e 1 0 os.length (os.flatMap readBytes) = .settled t → exec (.read e os) s = .next t) ∧
    (∀ os : List ObjRef, s.gdpAuth e 1 2 os.length (os.flatMap readBytes) = .settled t → exec (.describe e os) s = .next t) ∧
    (∀ os : List WriteItem, s.gdpAuth e 2 0 os.length (os.flatMap writeBytes) = .settled t → exec (.write e os) s = .next t) ∧
    (∀ (o : ObjRef) (a n : Nat), s.gdpAuth e 3 0 1 (readSegBytes o a n) = .settled t → exec (.readSeg e o a n) s = .next t) ∧
    (∀ i : SegItem, s.gdpAuth e 4 0 1 (writeSegBytes i) = .settled t → exec (.writeSeg e i) s = .next t) ∧
    (∀ (o : ObjRef) (n : Nat), s.gdpAuth e 5 0 1 (clearBytes o n) = .settled t → exec (.clearIf e o n) s = .next t) ∧
    (∀ o : ObjRef, s.gdpAuth e 6 0 1 (subscribeBytes 1 o 0) = .settled t → exec (.subscribeAdd e o) s = .next t) ∧
    (∀ o : ObjRef, s.gdpAuth e 6 0 1 (subscribeBytes 2 o 0) = .settled t → exec (.subscribeRemove e o) s = .next t) ∧
    (∀ n : Nat, s.gdpAuth e 6 0 1 (subscribeBytes 3 ⟨0, 0⟩ n) = .settled t → exec (.subscribeAcknowledge e n) s = .next t) ∧
    (s.gdpAuth e 7 0 1 (toBytes 1 5) = .settled t → exec (.close e) s = .next t)) ∧
  (∀ (version kind flags status session request items : Nat) (body : List Byte),
    gdpMessage version kind flags status session request items body = toBytes 1 version ++ toBytes 1 kind ++ toBytes 1 flags ++
      toBytes 1 status ++ toBytes 4 session ++ toBytes 4 request ++ toBytes 2 items ++ toBytes 2 body.length ++ body)

/-- READ, DESCRIBE and WRITE (R645, R650, R651, R654, R656, R665, R666): a request of 1 to 64 items carries each out in turn and answers
them; one of none is malformed, one of more is refused; a read without the right gives zeros of the object's length and counts a
violation; a long object is read and written by segments only; a write of the wrong form is status 2.
READ_SEG, WRITE_SEG, CLEAR_IF and SEGMENT_TIMEOUT (R155, R326, R350, R396, R585, R626, R627, R654, R667 to R671): a transfer is staged
from offset 0 and applied whole with its last byte; another session's transfer, or a full staging area, is status 3; a tensor window's
segment is applied on its own, after any lock or move it meets; a clear takes effect when the event count is the one named; a transfer
with no segment for 10 s is discarded. By how much a tensor map's generation rises is drawn (log entry 2). -/
def Obligations.ItemsAndSegments : Prop :=
  (∀ (s : State) (e : Envelope) (x : Session) (os : List ObjRef),
    (Requested s e 1 0 os.length (os.flatMap readBytes) x → ∃ u t, SessionSet s u x ∧ exec (.read e os) s = .next t ∧
      (os = [] → Answered u t e 1 0 1 []) ∧ (64 < os.length → Answered u t e 1 0 2 []) ∧
      (os ≠ [] → os.length ≤ 64 → RequestDone u t e 1 (ItemRead e.session) os)) ∧
    (Requested s e 1 2 os.length (os.flatMap readBytes) x → ∃ u t, SessionSet s u x ∧ exec (.describe e os) s = .next t ∧
      (os = [] → Answered u t e 1 0 1 []) ∧ (64 < os.length → Answered u t e 1 0 2 []) ∧
      (os ≠ [] → os.length ≤ 64 → RequestDone u t e 1 (ItemDescribed e.session) os))) ∧
  (∀ (s : State) (e : Envelope) (x : Session) (os : List WriteItem), Requested s e 2 0 os.length (os.flatMap writeBytes) x → ∃ u t,
    SessionSet s u x ∧ exec (.write e os) s = .next t ∧
    (os = [] → Answered u t e 2 0 1 []) ∧ (64 < os.length → Answered u t e 2 0 2 []) ∧
    (os ≠ [] → os.length ≤ 64 → RequestDone u t e 2 (ItemWritten e.session) os)) ∧
  (∀ (r : ObjRow) (n : Nat), segmentedOnly r n = true ↔ r.seg = true ∨ 4096 < n) ∧
  (∀ (o : ObjRef) (st type : Nat) (v : List Byte), readResult o st type v = toBytes 2 o.index ++ toBytes 1 o.sub ++ toBytes 1 st ++
    toBytes 1 type ++ toBytes 2 v.length ++ (v ++ List.replicate ((4 - v.length % 4) % 4) 0)) ∧
  (∀ (o : ObjRef) (st : Nat), itemResult o st = toBytes 2 o.index ++ toBytes 1 o.sub ++ toBytes 1 st ++ toBytes 1 0) ∧
  (∀ (s : State) (e : Envelope) (x : Session) (o : ObjRef) (off len : Nat), Requested s e 3 0 1 (readSegBytes o off len) x → ∃ u t,
    SessionSet s u x ∧ exec (.readSeg e o off len) s = .next t ∧ RequestDone u t e 3 (SegmentRead e.session off len) [o]) ∧
  (∀ (s : State) (e : Envelope) (x : Session) (i : SegItem), Requested s e 4 0 1 (writeSegBytes i) x → ∃ u t,
    SessionSet s u x ∧ exec (.writeSeg e i) s = .next t ∧
    (windowOf i.obj = none → RequestDone u t e 4 (SegmentWritten e.session) [i]) ∧
    (∀ n, windowOf i.obj = some n →
      (u.canWrite x i.obj = false → ∃ v, Violated u v x.id ∧ Answered v t e 4 1 0 (segResult i.obj 0 i.data.length)) ∧
      (u.canWrite x i.obj = true → 4096 < i.data.length ∨ 2 ^ 50 < i.offset + i.data.length →
        Answered u t e 4 1 0 (segResult i.obj 2 0)) ∧
      (u.canWrite x i.obj = true → i.data.length ≤ 4096 → i.offset + i.data.length ≤ 2 ^ 50 →
        (u.hostWaits n i.offset i.data.length = true → t = { u with eth := { u.eth with
          windows := u.eth.windows ++ [{ env := e, n := n, offset := i.offset, data := i.data }] } }) ∧
        (u.hostWaits n i.offset i.data.length = false → ∃ v m, u.hostWrite n i.offset i.data = (m, v) ∧
          Answered (v.countWindow e.session n m) t e 4 1 0 (segResult ⟨0xA060 + n, 1⟩ 0 i.data.length))))) ∧
  (∀ (s : State) (n off len : Nat), s.hostWaits n off len = true ↔ 0 < len ∧
    (s.locked n off (off + len - 1) = true ∨ s.movingAt n off (off + len - 1) .plain = true)) ∧
  (∀ (s : State) (n off len master access : Nat), s.injections = [] → ∃ bs m, s.hostRead n off len master access = (bs, m, s) ∧
    bs.length = len ∧ (∀ i, i < len → bs[i]? = some (if s.fencedAt n (off + i) = true ∨ s.lineBad n (off + i) .plain = true then 0
      else s.peek n (off + i) .plain)) ∧
    (m.unresolved = true ↔ ∃ i, i < len ∧ s.findEntry n (off + i) .plain = none) ∧
    (m.fenced = true ↔ ∃ i, i < len ∧ s.fencedAt n (off + i) = true) ∧
    (m.poisoned = true ↔ ∃ i, i < len ∧ s.fencedAt n (off + i) = false ∧ s.lineBad n (off + i) .plain = true)) ∧
  (∀ (s : State) (n off : Nat) (d : List Byte), ∃ m t, s.hostWrite n off d = (m, t) ∧
    BytesBut n (((List.range d.length).map fun i => (off + i, VSel.plain)).filter fun w =>
      !s.fencedAt n w.1 && s.writable n w.1 .plain) s t ∧
    (m.unresolved = true ↔ ∃ i, i < d.length ∧ s.notOwn n (off + i) = true) ∧
    (m.fenced = true ↔ ∃ i, i < d.length ∧ s.fencedAt n (off + i) = true) ∧
    (m.sealed = true ↔ ∃ i, i < d.length ∧ s.sealedAt n (off + i) = true) ∧
    (m.image = true ↔ ∃ i, i < d.length ∧ s.imageAt n (off + i) = true) ∧
    { t with mem := s.mem, poison := s.poison, entries := s.entries } = s) ∧
  (∀ (s : State) (sess n : Nat) (m : Met), ∃ u t, s.countWindow sess n m = t ∧
    (∀ x, s.session? sess = some x → SessionSet s u { x with
      violations := x.violations + (b2n m.unresolved + b2n m.fenced + b2n m.poisoned) }) ∧ (s.session? sess = none → u = s) ∧
    OnlyRegs [Obj.accessViolationCount n] u t ∧
    t.reg (Obj.accessViolationCount n) = (s.reg (Obj.accessViolationCount n) + (b2n m.fenced + b2n m.sealed + b2n m.image)) % 2 ^ 64) ∧
  (∀ (s : State) (e : Envelope) (x : Session) (o : ObjRef) (k : Nat), Requested s e 5 0 1 (clearBytes o k) x → ∃ u t,
    SessionSet s u x ∧ exec (.clearIf e o k) s = .next t ∧ RequestDone u t e 5 (ItemCleared e.session k) [o]) ∧
  (∀ (s : State) (o : ObjRef) (k : Nat), (o = ⟨0x9000, 1⟩ ∨ (0x9100 ≤ o.index ∧ o.index ≤ 0x910C) ∨ (0x9210 ≤ o.index ∧ o.index ≤ 0x9217)) →
    s.clearObj o k = if (s.latch (objKey o)).count = k then (0, s.setLatch (objKey o) ⟨0, 0⟩) else ((s.latch (objKey o)).count, s)) ∧
  (∀ (s : State) (o : ObjRef) (k : Nat), (o = ⟨0x9000, 2⟩ ∨ (0x9010 ≤ o.index ∧ o.index ≤ 0x901C) ∨ (0x9200 ≤ o.index ∧ o.index ≤ 0x9207)) →
    (let c := s.capture (objKey o)
     s.clearObj o k = if c.events = k then
       (0, s.setCapture (objKey o) { c with valid := false, later := 0, overflow := false, events := 0 }) else (c.events, s))) ∧
  (∀ (s : State) (o : ObjRef) (k : Nat), ((0x41E0 ≤ o.index ∧ o.index ≤ 0x41E7) ∨ (0x8030 ≤ o.index ∧ o.index ≤ 0x803F)) →
    s.clearObj o k = if s.reg (objKey o) = k then (0, s.setReg (objKey o) 0) else (s.reg (objKey o), s)) ∧
  (∀ (s : State) (sess : Nat) (o : ObjRef) (x : Session) (q : Staged), s.session? sess = some x → x.transfer (objKey o) = some q →
    (s.up < q.heard + 10000000000 → exec (.segmentTimeout sess o) s = .next s) ∧
    (q.heard + 10000000000 ≤ s.up → ∃ t, exec (.segmentTimeout sess o) s = .next t ∧
      SessionSet s t { x with staged := x.staged.filter fun z => z.obj != objKey o })) ∧
  (∀ (s : State) (sess : Nat) (o : ObjRef), (∀ x, s.session? sess = some x → x.transfer (objKey o) = none) →
    exec (.segmentTimeout sess o) s = .next s)

/-- Sessions (R657, R659 to R662, R664, R674, R675, R689): a HELLO of a key no slot holds, or beyond 16 handshakes or 64 sessions, is dropped
and counted; else a handshake begins with a challenge that the identity key signs, and with the session key of the two nonces and the shared
point; a PROOF with a right trailer and signature opens its session; CLOSE and a write of 1 to session_close end one; a handshake lasts
1 s. Session ids and secret numbers are drawn (log entries 2 and 6); a PROOF that finds 64 sessions open is refused as a HELLO is (log entry
138, the model's choice).
Subscriptions and notices (R649, R650, R672, R673): a session holds at most 256 subscriptions and one of each object; a removal takes one
off; an acknowledgement takes the notices up to its sequence off the queue; at most 8 are in flight; a full queue drops its oldest not yet
in flight (log entry 118, the model's choice), counts the loss and marks the next; a resend goes to the other network too after 50 ms; a
changed object is delivered once, while its read right stands. -/
def Obligations.SessionsAndNotices : Prop :=
  (∀ (s : State) (net peer k fl : Nat) (key eph nonce sig : List Byte) (e : Envelope), s.gdpUp = false →
    exec (.hello net peer k key eph nonce) s = .next s ∧ exec (.proof e fl sig) s = .next s) ∧
  (∀ (s : State) (net peer k : Nat) (key eph nonce : List Byte), s.gdpUp = true →
    16 ≤ s.handshakes.length ∨ 64 ≤ s.sessions.length → ∃ t,
    exec (.hello net peer k key eph nonce) s = .next t ∧ Counted 32 Obj.handshakeRefusedCount s t) ∧
  (∀ (s : State) (net peer k : Nat) (key eph nonce : List Byte), s.gdpUp = true → s.handshakes.length < 16 →
    s.sessions.length < 64 → s.slotOpens k key = false → ∃ t,
    exec (.hello net peer k key eph nonce) s = .next t ∧ Counted 32 Obj.authFailCount s t) ∧
  (∀ (s : State) (net peer k : Nat) (key eph nonce : List Byte), s.gdpUp = true → s.handshakes.length < 16 →
    s.sessions.length < 64 → s.slotOpens k key = true → ∃ (u t : State) (h : Handshake) (d r : Nat) (own : List Byte),
    exec (.hello net peer k key eph nonce) s = .next t ∧ 0 < d ∧ d < ecN ∧ 0 < r ∧ r < ecN ∧ own.length = 32 ∧
    (let hello := toBytes 1 1 ++ toBytes 1 k ++ key ++ eph ++ nonce
     let challenge := toBytes 1 2 ++ toBytes 4 h.id ++ ecPublic d ++ own
     let h1 := sha256 (hello ++ challenge)
     let sig := ecdsaSign Config.identityKey r h1
     h.id = s.serial ∧ h.keySlot = k ∧ h.roleKey = key ∧ h.started = s.up ∧ h.net = net ∧ h.peer = peer ∧
     h.transcript = sha256 (h1 ++ sig) ∧
     h.key = hmac (ecdhX d eph) ([0x67, 0x64, 0x70, 0x2D, 0x6B, 0x65, 0x79] ++ nonce ++ own ++ toBytes 4 h.id) ∧
     u.handshakes = s.handshakes ++ [h] ∧ u.serial = s.serial + 1 ∧
     { u with handshakes := s.handshakes, serial := s.serial, drawn := s.drawn } = s ∧
     t = u.sendControl net peer (.challenge h.id (ecPublic d) own sig))) ∧
  (∀ (s : State) (k : Nat) (key : List Byte), s.slotOpens k key = true ↔ k < 32 ∧ (s.keySlot k).valid = true ∧
    sha256 key = (s.keySlot k).hash ∧ (s.device = devRecovery → k = 0 ∨ (s.keySlot k).role = roleOwner)) ∧
  (∀ (s : State) (e : Envelope) (fl : Nat) (sig : List Byte), e.version ≠ 1 → exec (.proof e fl sig) s = .next s) ∧
  (∀ (s : State) (e : Envelope) (fl : Nat) (sig : List Byte), s.gdpUp = true → e.version = 1 →
    s.handshakes.find? (fun h => h.id = e.session) = none → ∃ t, exec (.proof e fl sig) s = .next t ∧ Counted 32 Obj.authFailCount s t) ∧
  (∀ (s : State) (e : Envelope) (fl : Nat) (sig : List Byte) (h : Handshake), s.gdpUp = true → e.version = 1 →
    s.handshakes.find? (fun h => h.id = e.session) = some h →
    (¬ ProofRight s e fl sig h → ∃ t, exec (.proof e fl sig) s = .next t ∧ Counted 32 Obj.authFailCount s t) ∧
    (ProofRight s e fl sig h → 64 ≤ s.sessions.length → ∃ t, exec (.proof e fl sig) s = .next t ∧ Counted 32 Obj.handshakeRefusedCount s t) ∧
    (ProofRight s e fl sig h → s.sessions.length < 64 → ∃ u t, exec (.proof e fl sig) s = .next t ∧
      (let x := h.opens (s.keySlot h.keySlot) s.up e.sequence
       u = { s with handshakes := s.handshakes.filter (fun y => y.id != h.id), sessions := s.sessions ++ [x] } ∧
       SessionSent u t h.id h.net h.peer (.accept h.id e.requestId x.role x.tenant)))) ∧
  (∀ (s : State) (e : Envelope) (x : Session), Requested s e 7 0 1 (toBytes 1 5) x → ∃ u t, SessionSet s u x ∧
    exec (.close e) s = .next t ∧ t = { u with sessions := u.sessions.filter fun y => y.id != x.id } ∧ t.session? e.session = none) ∧
  (∀ (s : State) (sess v : Nat), MayWrite s sess 0x0010 8 → ∃ t, exec (.sessionClose sess v) s = .next t ∧ (v ≠ 1 → t = s) ∧
    (v = 1 → t = { s with sessions := s.sessions.filter fun y => y.id != sess } ∧ t.session? sess = none)) ∧
  (∀ (s : State) (id : Nat),
    (∀ h ∈ s.handshakes, h.id ≠ id ∨ s.up < h.started + 1000000000) → exec (.handshakeTimeout id) s = .next s) ∧
  (∀ (s : State) (id : Nat) (h : Handshake), h ∈ s.handshakes → h.id = id → h.started + 1000000000 ≤ s.up → ∃ t,
    exec (.handshakeTimeout id) s = .next t ∧
    Counted 32 Obj.authFailCount { s with handshakes := s.handshakes.filter fun h => h.id != id } t) ∧
  (∀ s : State, ∃ t, exec .gdpPortChange s = .next t ∧ t.inForce Obj.gdpUdpPort = s.reg Obj.gdpUdpPort ∧
    (∀ k, k ≠ Obj.gdpUdpPort → t.inForce k = s.inForce k) ∧ { t with eth := { t.eth with oldAddr := s.eth.oldAddr } } = s) ∧
  (∀ (s : State) (id net peer : Nat) (m : Msg), SessionSent s (s.sendSession id net peer m) id net peer m) ∧
  (∀ (s : State) (net peer : Nat) (m : Msg), IpSent s (s.sendControl net peer m) (s.controlPort net) false peer m) ∧
  (∀ (s : State) (e : Envelope) (x : Session) (o : ObjRef) (q : Nat),
    (Requested s e 6 0 1 (subscribeBytes 1 o 0) x → ∃ u t, SessionSet s u x ∧ exec (.subscribeAdd e o) s = .next t ∧
      RequestDone u t e 6 (ItemSubscribed e.session) [o]) ∧
    (Requested s e 6 0 1 (subscribeBytes 2 o 0) x → ∃ u t, SessionSet s u x ∧ exec (.subscribeRemove e o) s = .next t ∧
      RequestDone u t e 6 (ItemUnsubscribed e.session) [o]) ∧
    (Requested s e 6 0 1 (subscribeBytes 3 ⟨0, 0⟩ q) x → ∃ u t, SessionSet s u x ∧ exec (.subscribeAcknowledge e q) s = .next t ∧
      RequestDone u t e 6 (ItemAcknowledged e.session) [q])) ∧
  (∀ (x : Session) (k : Nat) (v : List Byte), x.queue.length < 256 → x.push k v =
    { x with queue := x.queue ++ [{ sequence := x.nextEvent, obj := k, loss := false, value := v }],
             nextEvent := x.nextEvent + 1 }) ∧
  (∀ (x : Session) (fly : List Notice) (a b : Notice) (q : List Notice) (k : Nat) (v : List Byte), x.queue = fly ++ a :: b :: q →
    fly.length = x.inflight → x.queue.length = 256 → x.push k v =
    { x with queue := fly ++ { b with loss := true } :: q ++ [{ sequence := x.nextEvent, obj := k, loss := false, value := v }],
             nextEvent := x.nextEvent + 1, losses := x.losses + 1 }) ∧
  (∀ (s : State) (x : Session), (s.session? x.id).isSome = true → Pumped s (s.pump x) x) ∧
  (∀ (s : State) (sess : Nat), s.session? sess = none → exec (.eventResend sess) s = .next s ∧
    exec (.subscriptionDelivery sess) s = .next s) ∧
  (∀ (s : State) (sess : Nat) (x : Session), s.session? sess = some x → ∃ t, exec (.eventResend sess) s = .next t ∧
    NoticesResent x s.up (x.queue.take x.inflight) s t) ∧
  (∀ (s : State) (sess : Nat) (x : Session), s.session? sess = some x → ∃ t, exec (.subscriptionDelivery sess) s = .next t ∧
    SubsServed sess x.subs s t) ∧
  (∀ (session sequence obj : Nat) (loss : Bool) (v : List Byte), msgBytes (.notice session sequence obj loss v) =
    gdpMessage 1 8 1 0 session 0 1 (toBytes 8 sequence ++ toBytes 2 (obj / 256) ++ toBytes 1 obj ++ toBytes 1 (if loss then 1 else 0) ++ v))

/-- Ethernet (R706, R708 to R710, R712, R713, R720, R729): a link that is down retries and one that falls is counted; a frame of another VLAN,
or that finds its buffer full, is discarded and counted, an uncorrected codeword counted; a full lossless buffer sends a pause and an emptier
one releases it (log entry 155: the fill comes with the frame); a solicitation for an own address is answered and its sender learnt; at
most 64 echoes a second are answered; what waits for a neighbour leaves when it answers and is dropped when it does not; an address is in
force when its second is over; a paused priority waits until its pause ends. -/
def Obligations.EthernetFramesAndPauses : Prop :=
  (∀ (s : State) (p : Nat) (ok : Bool), ∃ t, exec (.ethLinkRetry p ok) s = .next t ∧
    (s.ethPowered = true → s.ethUp p = false → ok = true → OnlyRegs [Obj.linkState p] s t ∧ t.reg (Obj.linkState p) = 1) ∧
    (s.ethPowered = false ∨ s.ethUp p = true ∨ ok = false → t = s)) ∧
  (∀ (s : State) (p : Nat), p < 8 → ∃ t, exec (.ethernetLinkDown p) s = .next t ∧ (s.ethUp p = false → t = s) ∧
    (s.ethUp p = true → OnlyRegs [Obj.linkState p, Obj.linkDownCount p] s t ∧ t.reg (Obj.linkState p) = 0 ∧
      t.reg (Obj.linkDownCount p) = (s.reg (Obj.linkDownCount p) + 1) % 2 ^ 32)) ∧
  (∀ (s : State) (p vlan prio : Nat) (fill : Option Nat) (k : EthKind), s.ethUp p = false →
    exec (.ethFrameReceive p ⟨vlan, prio, fill⟩ k) s = .next s) ∧
  (∀ (s : State) (p vlan prio : Nat) (fill : Option Nat), s.ethUp p = true →
    exec (.ethFrameReceive p ⟨vlan, prio, fill⟩ .globalPause) s = .next s ∧
    ∃ t, exec (.ethFrameReceive p ⟨vlan, prio, fill⟩ .uncorrected) s = .next t ∧ Counted 64 (Obj.fecUncorrected p) s t) ∧
  (∀ (s : State) (p vlan prio : Nat) (fill : Option Nat) (k : EthKind), s.ethUp p = true → k ≠ .globalPause → k ≠ .uncorrected →
    vlan ≠ s.reg (Obj.vlanId (p / 4)) ∨ fill = none → ∃ t,
    exec (.ethFrameReceive p ⟨vlan, prio, fill⟩ k) s = .next t ∧ Counted 64 (Obj.discardCount p) s t) ∧
  (∀ (s : State) (p prio n : Nat), s.ethUp p = true → ∃ u, PauseJudged s u p prio n ∧
    (let come := fun (k : EthKind) => exec (.ethFrameReceive p ⟨s.reg (Obj.vlanId (p / 4)), prio, some n⟩ k) s
     (∀ peer target, target ∈ u.ownAddresses p → ∃ v t, come (.neighbour true peer target) = .next t ∧ Learned u v (p / 4) peer ∧
       EthSent v t { net := p / 4, hop := peer, port := p, prio := u.reg (Obj.pcpControl (p / 4)), msg := .neighbour (p / 4) peer true }) ∧
     (∀ peer target, target ∉ u.ownAddresses p → come (.neighbour true peer target) = .next u) ∧
     (∀ peer target, ∃ t, come (.neighbour false peer target) = .next t ∧ Learned u t (p / 4) peer) ∧
     (∀ target, ∃ t, come (.echo target) = .next t ∧ EchoMet u t p target) ∧
     (∀ q, q = u.inForce Obj.gdpUdpPort ∨ q = u.reg Obj.dispatchUdpPort → come (.udp q) = .next u) ∧
     (∀ q, q ≠ u.inForce Obj.gdpUdpPort → q ≠ u.reg Obj.dispatchUdpPort → ∃ t, come (.udp q) = .next t ∧
       Counted 64 (Obj.discardCount p) u t) ∧
     (∃ t, come .other = .next t ∧ Counted 64 (Obj.discardCount p) u t))) ∧
  (∀ (l : List (Nat × Nat)) (net peer : Nat), (net, peer) ∈ withNeighbour l net peer ∧
    (∀ q, q ≠ net → (withNeighbour l net peer).filter (fun p => p.1 == q) = l.filter fun p => p.1 == q) ∧
    ((l.filter fun p => p.1 == net).length ≤ 4096 → ((withNeighbour l net peer).filter fun p => p.1 == net).length ≤ 4096)) ∧
  (∀ (s : State) (net peer : Nat), exec (.neighbourTimeout net peer) s =
    .next { s with eth := { s.eth with held := s.eth.held.filter fun h => !(h.net == net && h.hop == peer) } }) ∧
  (∀ (s : State) (o : ObjRef), objKey o ≠ Obj.gdpUdpPort → ∃ t, exec (.addressChangeEffect o) s = .next t ∧
    t.inForce (objKey o) = s.reg (objKey o) ∧ (∀ k, k ≠ objKey o → t.inForce k = s.inForce k) ∧
    { t with eth := { t.eth with oldAddr := s.eth.oldAddr } } = s) ∧
  (∀ (s : State) (o : ObjRef), objKey o = Obj.gdpUdpPort → exec (.addressChangeEffect o) s = .next s) ∧
  (∀ (s : State) (p pr q : Nat), s.ethUp p = false ∨ bit (s.reg (Obj.pfcMask (p / 4))) pr = false →
    exec (.pauseReceive p pr q) s = .next s) ∧
  (∀ (s : State) (p pr q : Nat), s.ethUp p = true → bit (s.reg (Obj.pfcMask (p / 4))) pr = true → ∃ u t,
    exec (.pauseReceive p pr q) s = .next t ∧ Counted 64 (Obj.pauseReceived p) s u ∧ (q = 0 → Resumed u t p pr) ∧
    (q ≠ 0 → (p, pr) ∈ t.eth.paused ∧ (∀ k, k ≠ (p, pr) → (k ∈ t.eth.paused ↔ k ∈ u.eth.paused)) ∧
      { t with eth := { t.eth with paused := u.eth.paused } } = u)) ∧
  (∀ (s : State) (p pr : Nat), ∃ t, exec (.pauseQuantaExpiry p pr) s = .next t ∧ Resumed s t p pr) ∧
  (∀ (s : State) (m : EthMsg), EthSent s (s.transmit m) m)

/-- Queue pairs as responder (R350, R381, R702, R714 to R717, R731): a queue pair that is not ready drops what arrives; a gap is answered with
the sequence expected; a foreign key or a SEND is refused and ends the queue pair; a write that waits holds back those behind it; a
repeat is acknowledged or read again; a read of a queue window is zeros. The reset on a write of state 0 and the codes of refusals are the
model's (log entries 50 and 51).
Queue pairs as requester (R392, R718): an acknowledgement retires what it covers; a request is sent again up to retry_count times
and to a receiver that is not ready seven times; then the queue pair moves to its alternate port once, and fails there or without one. -/
def Obligations.QueuePairs : Prop :=
  (∀ (s : State) (sess q : Nat) (v : QpSpec), MayWrite s sess (Obj.qpTable q / 256) (Obj.qpTable q % 256) →
    (s.qp q).spec.state = 0 → v.state = 2 ∨ 2 < v.state ∨ 7 < v.retryCount ∨
      (v.altValid = true ∧ v.primary / 4 = v.alternate / 4) → exec (.qpTableWrite sess q v) s = .next s) ∧
  (∀ (s : State) (sess q : Nat) (v : QpSpec), MayWrite s sess (Obj.qpTable q / 256) (Obj.qpTable q % 256) →
    (s.qp q).spec.state = 0 → v.state ≤ 1 → v.retryCount ≤ 7 → v.altValid = false ∨ v.primary / 4 ≠ v.alternate / 4 → ∃ u t,
    exec (.qpTableWrite sess q v) s = .next t ∧
    (v.state = 0 → QpSet s t q { spec := v }) ∧
    (v.state = 1 → QpSet s u q { spec := { v with state := 1 }, sendPsn := v.sendPsn, recvPsn := v.receivePsn } ∧
      ((∀ p ∈ s.queues, p.2.pull = true ∨ qpIndex p.2.cqQp ≠ some q) → t = u))) ∧
  (∀ (s : State) (sess q : Nat) (v : QpSpec), MayWrite s sess (Obj.qpTable q / 256) (Obj.qpTable q % 256) →
    (s.qp q).spec.state ≠ 0 → ∃ t, exec (.qpTableWrite sess q v) s = .next t ∧ (v.state ≠ 0 → t = s) ∧
    (v.state = 0 → QpSet s t q { spec := { (s.qp q).spec with state := 0 } })) ∧
  (∀ (s : State) (q psn rkey a len : Nat) (d : List Byte), (s.qp q).spec.state ≠ 1 → exec (.rdmaWrite q psn rkey a d) s = .next s ∧
    exec (.rdmaRead q psn rkey a len) s = .next s ∧ exec (.rdmaSendReceive q psn) s = .next s) ∧
  (∀ (v : Qp) (psn : Nat), v.recvPsn < 2 ^ 24 → psn < 2 ^ 24 → (v.order psn = .next ↔ psn = v.recvPsn) ∧
    (v.order psn = .gap ↔ 0 < (psn + 2 ^ 24 - v.recvPsn) % 2 ^ 24 ∧ (psn + 2 ^ 24 - v.recvPsn) % 2 ^ 24 < 2 ^ 23)) ∧
  (∀ (s : State) (q psn rkey a len : Nat) (d : List Byte), (s.qp q).spec.state = 1 → (s.qp q).order psn = .gap → ∃ t,
    exec (.rdmaWrite q psn rkey a d) s = .next t ∧ exec (.rdmaRead q psn rkey a len) s = .next t ∧
    RdmaSent s t q (.roceNak (s.qp q).port q (s.qp q).recvPsn nakSequence)) ∧
  (∀ (s : State) (q psn rkey a len : Nat) (d : List Byte), (s.qp q).spec.state = 1 →
    s.keyKind (s.qp q).spec.tenant rkey = .foreign →
    ((s.qp q).order psn = .next → ∃ u t, exec (.rdmaWrite q psn rkey a d) s = .next t ∧ OldKeyCounted s u rkey ∧
      RdmaRefused u t q psn nakAccess) ∧
    ((s.qp q).order psn ≠ .gap → ∃ u t, exec (.rdmaRead q psn rkey a len) s = .next t ∧ OldKeyCounted s u rkey ∧
      RdmaRefused u t q psn nakAccess)) ∧
  (∀ (s : State) (q psn rkey a : Nat) (d : List Byte), (s.qp q).spec.state = 1 → (s.qp q).order psn = .next →
    s.keyKind (s.qp q).spec.tenant rkey ≠ .foreign → ∃ u t, exec (.rdmaWrite q psn rkey a d) s = .next t ∧
    QpSet s u q { s.qp q with recvPsn := (psn + max 1 ((d.length + 4095) / 4096)) % 2 ^ 24 } ∧
    ((s.qp q).held ≠ [] ∨ s.rdmaWaits (s.qp q).spec.tenant rkey a d = true →
      QpSet u t q { u.qp q with held := (s.qp q).held ++ [(psn, rkey, a, d)] }) ∧
    ((s.qp q).held = [] → s.rdmaWaits (s.qp q).spec.tenant rkey a d = false → t = u.applyRdma q psn rkey a d)) ∧
  (∀ (s : State) (q psn rkey a : Nat) (d : List Byte), (let n := (s.qp q).spec.tenant
    (s.keyKind n rkey = .tensor → ∃ m u v, s.hostWrite n a d = (m, u) ∧ OnlyRegs [Obj.accessViolationCount n] u v ∧
      v.reg (Obj.accessViolationCount n) = (u.reg (Obj.accessViolationCount n) + m.cases) % 2 ^ 64 ∧
      RdmaSent v (s.applyRdma q psn rkey a d) q (.roceAck (v.qp q).port q psn)) ∧
    (s.keyKind n rkey = .window → a % 0x80000 + d.length ≤ 0x80000 → d ≠ [] → s.tenantOfQueue (a / 0x80000) = some n →
      (let v := s.windowBytes (a / 0x80000) (a % 0x80000) d
       RdmaSent v (s.applyRdma q psn rkey a d) q (.roceAck (v.qp q).port q psn))) ∧
    (s.keyKind n rkey = .window → a % 0x80000 + d.length ≤ 0x80000 → d ≠ [] → s.tenantOfQueue (a / 0x80000) ≠ some n → ∃ v,
      Counted 64 (Obj.accessViolationCount n) s v ∧ RdmaSent v (s.applyRdma q psn rkey a d) q (.roceAck (v.qp q).port q psn)))) ∧
  (∀ (s : State) (q psn rkey a len : Nat), (s.qp q).spec.state = 1 → (s.qp q).order psn ≠ .gap →
    s.keyKind (s.qp q).spec.tenant rkey ≠ .foreign → ∃ u t, exec (.rdmaRead q psn rkey a len) s = .next t ∧
    ((s.qp q).order psn = .again → u = s) ∧
    ((s.qp q).order psn = .next → QpSet s u q { s.qp q with recvPsn := (psn + max 1 ((len + 4095) / 4096)) % 2 ^ 24 }) ∧
    (s.keyKind (s.qp q).spec.tenant rkey = .window → RdmaSent u t q (.roceRead (s.qp q).port q psn (List.replicate len 0))) ∧
    (s.keyKind (s.qp q).spec.tenant rkey = .tensor → ∃ bs m v w,
      u.hostRead (s.qp q).spec.tenant a len (ethUnit (s.qp q).port) 0 = (bs, m, v) ∧
      OnlyRegs [Obj.accessViolationCount (s.qp q).spec.tenant] v w ∧ w.reg (Obj.accessViolationCount (s.qp q).spec.tenant) =
        (v.reg (Obj.accessViolationCount (s.qp q).spec.tenant) + m.cases) % 2 ^ 64 ∧
      RdmaSent w t q (.roceRead (s.qp q).port q psn bs))) ∧
  (∀ (s : State) (q psn rkey a : Nat) (d : List Byte), (s.qp q).spec.state = 1 → (s.qp q).order psn = .again →
    ((∃ h ∈ (s.qp q).held, h.1 = psn) → exec (.rdmaWrite q psn rkey a d) s = .next s) ∧
    ((∀ h ∈ (s.qp q).held, h.1 ≠ psn) → ∃ t, exec (.rdmaWrite q psn rkey a d) s = .next t ∧
      RdmaSent s t q (.roceAck (s.qp q).port q psn))) ∧
  (∀ (s : State) (q psn : Nat), (s.qp q).spec.state = 1 → ∃ t, exec (.rdmaSendReceive q psn) s = .next t ∧
    RdmaRefused s t q psn nakInvalid) ∧
  (∀ (s : State) (n rkey : Nat), ((s.tenant n).state = 0 → s.keyKind n rkey = .foreign) ∧
    ((s.tenant n).state ≠ 0 → rkey = s.reg (Obj.tensorRkey n) → s.keyKind n rkey = .tensor) ∧
    ((s.tenant n).state ≠ 0 → rkey ≠ s.reg (Obj.tensorRkey n) → rkey = s.reg (Obj.queueWindowRkey n) → s.keyKind n rkey = .window) ∧
    (rkey ≠ s.reg (Obj.tensorRkey n) → rkey ≠ s.reg (Obj.queueWindowRkey n) → s.keyKind n rkey = .foreign)) ∧
  (∀ (s : State) (q psn : Nat) (rnr : Bool), (s.qp q).spec.state ≠ 1 → exec (.roceAckReceive q psn rnr) s = .next s ∧
    exec (.roceRetryTimeout q) s = .next s ∧ exec (.roceRnrRetry q) s = .next s) ∧
  (∀ (s : State) (q psn : Nat), (s.qp q).spec.state = 1 → ∃ t, exec (.roceAckReceive q psn true) s = .next t ∧
    QpSet s t q { s.qp q with rnr := true }) ∧
  (∀ (s : State) (q psn : Nat), (s.qp q).spec.state = 1 → ∃ t, exec (.roceAckReceive q psn false) s = .next t ∧
    (let left := (s.qp q).outstanding.filter fun r => r.1 != psn && decide (2 ^ 23 ≤ (psn + 2 ^ 24 - r.1) % 2 ^ 24)
     (left = (s.qp q).outstanding → t = s) ∧
     (left ≠ (s.qp q).outstanding → QpSet s t q { s.qp q with outstanding := left, retries := 0, rnrTries := 0, rnr := false }))) ∧
  (∀ (s : State) (q : Nat), (s.qp q).spec.state = 1 → (s.qp q).outstanding = [] → exec (.roceRetryTimeout q) s = .next s) ∧
  (∀ (s : State) (q : Nat), (s.qp q).spec.state = 1 → (s.qp q).outstanding ≠ [] → ∃ u t, exec (.roceRetryTimeout q) s = .next t ∧
    ((s.qp q).retries < (s.qp q).spec.retryCount → QpSet s u q { s.qp q with retries := (s.qp q).retries + 1 } ∧
      PushesSent q (s.qp q).outstanding u t) ∧
    ((s.qp q).spec.retryCount ≤ (s.qp q).retries → QpExhausted s t q)) ∧
  (∀ (s : State) (q : Nat), (s.qp q).spec.state = 1 → (s.qp q).rnr = false → exec (.roceRnrRetry q) s = .next s) ∧
  (∀ (s : State) (q : Nat), (s.qp q).spec.state = 1 → (s.qp q).rnr = true → ∃ u t, exec (.roceRnrRetry q) s = .next t ∧
    ((s.qp q).rnrTries < 7 → QpSet s u q { s.qp q with rnrTries := (s.qp q).rnrTries + 1, rnr := false } ∧
      PushesSent q (s.qp q).outstanding u t) ∧
    (7 ≤ (s.qp q).rnrTries → QpExhausted s t q)) ∧
  (∀ (s : State) (i psn q : Nat) (c : Completion), s.pushMsg i psn q c = .push (s.qp i).port i psn
    (if (s.queue q).cqAddress = 0 then none
     else some ((s.queue q).cqAddress + (c.sequence - 1) % (s.queue q).completionDepth * 32)) (s.queue q).cqRkey c)

/-- A step takes the command at the front of the queue and is its effect on the state with the queue's rest; on an empty queue the
package's own counters run, which is the model's choice (log entry 1). -/
def Obligations.StepRunsTheFrontCommand : Prop :=
  (∀ (s : State) (c : Instr) (rest : List Instr), s.pending = c :: rest → step s = exec c { s with pending := rest }) ∧
  (∀ s : State, s.pending = [] → step s = .next s.tick) ∧
  (∀ s : State, s.device = devOff → s.tick = s) ∧
  (∀ s : State, s.device ≠ devOff → s.tick.up = (s.up + 1) % 2 ^ 64)

/-- No command is refused and none stops the package's model: every command answers a next state in every state. -/
def Obligations.EveryCommandAnswersNext : Prop :=
  ∀ (i : Instr) (s : State), ∃ t, exec i s = .next t

/-- Every step takes exactly the front of the queue: no command's effect adds to the queue or takes from it. -/
def Obligations.StepTakesExactlyOneCommand : Prop :=
  (∀ (i : Instr) (s t : State), exec i s = .next t → t.pending = s.pending) ∧
  (∀ s t : State, step s = .next t → t.pending = s.pending.tail)

/-- R657 and R659, over every step: while at most 16 handshakes and 64 sessions are open, no step opens one more. -/
def Obligations.SessionsStayBounded : Prop :=
  ∀ s t : State, SessionBounds s → step s = .next t → SessionBounds t

/-- What reset leaves (R678, R679): the package is in BOOT, nothing is listed, no command waits, and the bounds of R657 and R659 hold. -/
def Obligations.ResetStateAsStated : Prop :=
  State.reset.device = devBoot ∧ State.reset.up = 0 ∧ State.reset.pending = [] ∧ SessionBounds State.reset ∧
  Memory.wf State.reset.mem = true ∧ State.reset.mem = [] ∧ State.reset.tenants = [] ∧ State.reset.queues = [] ∧
  State.reset.out = [] ∧ (∀ k, State.reset.reg k = regDefault k) ∧ (∀ c x, State.reset.ctx c x = {}) ∧ (∀ n, State.reset.tenant n = {})

/-- Memory (R350, R701): a byte reads as written, every other byte as before, a byte never written as 0, and every write keeps the
canonical form; a copied allocation reads as its source, a zeroed one as zeros. -/
def Obligations.MemoryReadsBackWrites : Prop :=
  (∀ (s : State) (a o b p : Nat) (v : Byte), o < 2 ^ 32 → p < 2 ^ 32 →
    (s.wrByte a o v).rdByte b p = if a = b ∧ o = p then v else s.rdByte b p) ∧
  (∀ (s : State) (a o : Nat) (v : Byte), Memory.wf s.mem = true → Memory.wf (s.wrByte a o v).mem = true) ∧
  (∀ (s : State) (a o : Nat) (vs : List Byte) (b p : Nat), o + vs.length ≤ 2 ^ 32 → p < 2 ^ 32 →
    (s.wrBytes a o vs).rdByte b p = if a = b ∧ o ≤ p ∧ p < o + vs.length then vs.getD (p - o) 0 else s.rdByte b p) ∧
  (∀ (s : State) (a b p : Nat), p < 2 ^ 32 → (s.zeroAlloc a).rdByte b p = if a = b then 0 else s.rdByte b p) ∧
  (∀ (s : State) (a b : Nat) (p : Nat), p < 2 ^ 32 → a ≠ b → Memory.wf s.mem = true → (s.copyAlloc a b).rdByte b p = s.rdByte a p) ∧
  (∀ (s : State) (a b : Nat), Memory.wf s.mem = true → Memory.wf (s.zeroAlloc a).mem = true ∧
    Memory.wf (s.copyAlloc a b).mem = true)

/-- R498: the settings in force at every arbiter site are those of the last commit; value 1 applies the shadowed ones at once, value 2
enters an event of order 5 for the next gate, and that event applies them. -/
def Obligations.ArbiterSettingsInForce : Prop :=
  (∀ (s : State) (sess : Nat), MayWrite s sess 0x6300 1 → exec (.arbiterCommitNow sess) s = .next s.commitArbiters) ∧
  (∀ s : State, ∃ t, s.commitArbiters = t ∧ { t with fabric := { t.fabric with settings := s.fabric.settings } } = s ∧
    ∀ k ∈ arbiterSites, t.siteSettings k = (s.reg (Obj.requesterOffsets k), s.reg (Obj.classFloors k))) ∧
  (∀ (s : State) (v k site : Nat), k = Obj.requesterOffsets site ∨ k = Obj.classFloors site →
    (s.setReg k v).siteSettings site = s.siteSettings site) ∧
  (∀ (s : State) (sess : Nat), MayWrite s sess 0x6300 1 → 0 < s.gatePeriod → s.schedCount < 256 →
    exec (.arbiterCommitGate sess) s =
      .next { s with time := { s.time with events := s.time.events ++ [⟨s.nextGate, .arbiter⟩] } }) ∧
  (∀ (s : State) (g : Nat), SchedKind.arbiter.order = 5 ∧ s.runEvent ⟨g, .arbiter⟩ = s.commitArbiters)

/-- R393: COMPLETION_HEAD, and a write of the completion-head doorbell, advance the head to a sequence number that was written; one
below the head is ignored, one above the last sequence is counted. -/
def Obligations.CompletionHeadAdvances : Prop :=
  (∀ (s : State) (q v : Nat), exec (.completionHead q v) s = .next (
    if v ≤ (s.queue q).head then s
    else if (s.queue q).lastSequence < v then
      s.setQueue q { s.queue q with errorCount := ((s.queue q).errorCount + 1) % 2 ^ 16 }
    else s.setQueue q { s.queue q with head := v, ring := (s.queue q).ring.filter fun c => decide (v < c.sequence),
                                        reserved := (s.queue q).reserved - (v - (s.queue q).head) })) ∧
  (∀ (s : State) (q : Nat) (data : List Byte), data.length = 8 →
    exec (.completionHead q (field data 0 8)) (s.setQueue q (s.queue q)) = .next (s.windowBytes q 0x40008 data))

/-- R591: a watcher that holds all of its watched packages suspect at once reaches no verdict. -/
def Obligations.CutOffWatcherReachesNoVerdict : Prop :=
  ∀ (s : State) (l : Nat), (∀ i ∈ s.watchedLanes, (s.watch i).suspect = true) → exec (.deadVerdict l) s = .next s

/-- R664: a session with no authenticated message for 60 s ends, and with it its subscriptions and open segmented writes, which the
session's own record holds; every authentic request begins its 60 s again. -/
def Obligations.IdleSessionsEnd : Prop :=
  (∀ (s : State) (sess : Nat) (x : Session), s.session? sess = some x → x.lastHeard + 60000000000 ≤ s.up → ∃ t,
    exec (.sessionIdleTimeout sess) s = .next t ∧ t.session? sess = none ∧ (∀ j, j ≠ sess → t.session? j = s.session? j) ∧
    { t with sessions := s.sessions } = s) ∧
  (∀ (s : State) (sess : Nat) (x : Session), s.session? sess = some x → s.up < x.lastHeard + 60000000000 →
    exec (.sessionIdleTimeout sess) s = .next s) ∧
  (∀ (s : State) (sess : Nat), s.session? sess = none → exec (.sessionIdleTimeout sess) s = .next s) ∧
  (∀ (s : State) (e : Envelope) (m : List Byte) (x : Session), Authentic s e m x → x.lastHeard = s.up ∧ ∃ u,
    s.authenticate e m = .fresh u x ∧ u.session? e.session = some x)

/-- R720: a packet marked CE is answered with a notification, at most one in 50 µs per queue pair; a notification halves the queue
pair's rate, to no less than 1 Gb/s, and the rate rises by 5 % of the line rate after every 55 µs. -/
def Obligations.CongestionControlsRates : Prop :=
  (∀ (s : State) (p prio n q : Nat), s.ethUp p = true → ∃ u, PauseJudged s u p prio n ∧
    (let come := fun (ce : Bool) => exec (.ethFrameReceive p ⟨s.reg (Obj.vlanId (p / 4)), prio, some n⟩ (.roce q ce)) s
     come false = .next u ∧
     ((u.qp q).spec.state ≠ 1 → come true = .next u) ∧
     (∀ t0, (u.qp q).lastCnp = some t0 → u.up < t0 + 50000 → come true = .next u) ∧
     ((u.qp q).spec.state = 1 → (∀ t0, (u.qp q).lastCnp = some t0 → t0 + 50000 ≤ u.up) → ∃ v t, come true = .next t ∧
       QpSet u v q { u.qp q with lastCnp := some u.up } ∧ RdmaSent v t q (.cnp (u.qp q).port q)))) ∧
  (∀ (s : State) (q : Nat), (s.qp q).spec.state = 1 → ∃ t, exec (.cnpReceive q) s = .next t ∧
    QpSet s t q { s.qp q with rate := max 1000 ((s.qp q).rate / 2) }) ∧
  (∀ (s : State) (q : Nat), (s.qp q).spec.state = 1 → ∃ t, exec (.cnpRateRecovery q) s = .next t ∧
    QpSet s t q { s.qp q with rate := min 400000 ((s.qp q).rate + 20000) }) ∧
  (∀ (s : State) (q : Nat), (s.qp q).spec.state ≠ 1 → exec (.cnpReceive q) s = .next s ∧ exec (.cnpRateRecovery q) s = .next s)
end

