-- ==== Sys2Proof/Laws/Sparse.lean ====
section
/-!
SUPPORT. The laws of the sparse stores: a read after a write, and the canonical form that every write keeps.
-/

namespace Sys2Proof.Machine

variable {α : Type}

/-- A read of the number just inserted. -/
@[simp] theorem Sparse.get_insert_same (d : α) (k : Nat) (v : α) (m : Sparse α) :
    Sparse.get d k (Sparse.insert k v m) = v := by
  induction m with
  | nil => simp [Sparse.insert, Sparse.get]
  | cons p m ih =>
    obtain ⟨j, w⟩ := p
    unfold Sparse.insert
    split
    · simp [Sparse.get]
    · split
      · simp [Sparse.get]
      · simp_all [Sparse.get]

/-- An insertion leaves every other number alone. -/
theorem Sparse.get_insert_other (d : α) (k j : Nat) (v : α) (m : Sparse α) (h : j ≠ k) :
    Sparse.get d j (Sparse.insert k v m) = Sparse.get d j m := by
  induction m with
  | nil => simp [Sparse.insert, Sparse.get, Ne.symm h]
  | cons p m ih =>
    obtain ⟨i, w⟩ := p
    unfold Sparse.insert
    split
    · simp [Sparse.get, Ne.symm h]
    · split
      · subst_vars; simp [Sparse.get, Ne.symm h]
      · simp [Sparse.get, ih]

/-- An erased number reads as the default. -/
@[simp] theorem Sparse.get_erase_same (d : α) (k : Nat) (m : Sparse α) : Sparse.get d k (Sparse.erase k m) = d := by
  induction m with
  | nil => rfl
  | cons p m ih =>
    obtain ⟨i, w⟩ := p
    unfold Sparse.erase
    split
    · exact ih
    · simp_all [Sparse.get]

/-- An erasure leaves every other number alone. -/
theorem Sparse.get_erase_other (d : α) (k j : Nat) (m : Sparse α) (h : j ≠ k) :
    Sparse.get d j (Sparse.erase k m) = Sparse.get d j m := by
  induction m with
  | nil => rfl
  | cons p m ih =>
    obtain ⟨i, w⟩ := p
    unfold Sparse.erase
    split
    · subst_vars; rw [ih]; simp [Sparse.get, Ne.symm h]
    · simp [Sparse.get, ih]

/-- A read of the number just written. -/
@[simp] theorem Sparse.get_set_same [DecidableEq α] (d : α) (k : Nat) (v : α) (m : Sparse α) :
    Sparse.get d k (Sparse.set d k v m) = v := by
  unfold Sparse.set
  split
  · simp_all
  · simp

/-- A write leaves every other number alone. -/
theorem Sparse.get_set_other [DecidableEq α] (d e : α) (k j : Nat) (v : α) (m : Sparse α) (h : j ≠ k) :
    Sparse.get d j (Sparse.set e k v m) = Sparse.get d j m := by
  unfold Sparse.set
  split
  · exact Sparse.get_erase_other d k j m h
  · exact Sparse.get_insert_other d k j v m h

/-- A read after a write, both cases at once. -/
theorem Sparse.get_set [DecidableEq α] (d : α) (k j : Nat) (v : α) (m : Sparse α) :
    Sparse.get d j (Sparse.set d k v m) = if j = k then v else Sparse.get d j m := by
  split
  · subst_vars; simp
  · exact Sparse.get_set_other d d k j v m ‹_›

/-- A read through a filter on the numbers. -/
theorem Sparse.get_filter (d : α) (k : Nat) (p : Nat → Bool) (m : Sparse α) :
    Sparse.get d k (m.filter fun q => p q.1) = if p k then Sparse.get d k m else d := by
  induction m with
  | nil => simp [Sparse.get]
  | cons q m ih =>
    obtain ⟨i, w⟩ := q
    by_cases hp : p i <;> by_cases hk : i = k <;> simp_all [Sparse.get]

/-! The canonical form -/

/-- Every number listed is above k. -/
def Sparse.above (k : Nat) (m : Sparse α) : Prop := ∀ p ∈ m, k < p.1

theorem Sparse.rising_cons (j : Nat) (v : α) (m : Sparse α) :
    Sparse.rising ((j, v) :: m) = true ↔ Sparse.above j m ∧ Sparse.rising m = true := by
  induction m generalizing j v with
  | nil => simp [Sparse.rising, Sparse.above]
  | cons q m ih =>
    obtain ⟨i, w⟩ := q
    simp only [Sparse.rising, Bool.and_eq_true, decide_eq_true_eq, Sparse.above, List.mem_cons, forall_eq_or_imp]
    rw [ih]
    simp only [Sparse.above]
    constructor
    · rintro ⟨h1, h2, h3⟩
      exact ⟨⟨h1, fun p hp => Nat.lt_trans h1 (h2 p hp)⟩, h2, h3⟩
    · rintro ⟨⟨h1, -⟩, h2, h3⟩
      exact ⟨h1, h2, h3⟩

theorem Sparse.mem_insert (k : Nat) (v : α) (m : Sparse α) (p : Nat × α) (h : p ∈ Sparse.insert k v m) :
    p = (k, v) ∨ p ∈ m := by
  induction m with
  | nil => simp_all [Sparse.insert]
  | cons q m ih =>
    obtain ⟨i, w⟩ := q
    unfold Sparse.insert at h
    split at h
    · simpa using h
    · split at h
      · simp only [List.mem_cons] at h ⊢
        exact h.imp_right Or.inr
      · simp only [List.mem_cons] at h ⊢
        rcases h with h | h
        · exact .inr (.inl h)
        · exact (ih h).imp_right Or.inr

theorem Sparse.mem_erase (k : Nat) (m : Sparse α) (p : Nat × α) (h : p ∈ Sparse.erase k m) : p ∈ m := by
  induction m with
  | nil => simp_all [Sparse.erase]
  | cons q m ih =>
    obtain ⟨i, w⟩ := q
    unfold Sparse.erase at h
    split at h
    · exact List.mem_cons_of_mem _ (ih h)
    · simp only [List.mem_cons] at h ⊢
      exact h.imp_right ih

theorem Sparse.rising_insert (k : Nat) (v : α) (m : Sparse α) (h : Sparse.rising m = true) :
    Sparse.rising (Sparse.insert k v m) = true := by
  induction m with
  | nil => rfl
  | cons q m ih =>
    obtain ⟨i, w⟩ := q
    have hc := (Sparse.rising_cons i w m).1 h
    unfold Sparse.insert
    split
    · rename_i hk
      refine (Sparse.rising_cons _ _ _).2 ⟨?_, h⟩
      intro p hp
      simp only [List.mem_cons] at hp
      rcases hp with rfl | hp
      · exact hk
      · exact Nat.lt_trans hk (hc.1 p hp)
    · split
      · subst_vars
        exact (Sparse.rising_cons _ _ _).2 hc
      · refine (Sparse.rising_cons _ _ _).2 ⟨?_, ih hc.2⟩
        intro p hp
        rcases Sparse.mem_insert _ _ _ _ hp with rfl | hp
        · show i < k
          omega
        · exact hc.1 p hp

theorem Sparse.rising_erase (k : Nat) (m : Sparse α) (h : Sparse.rising m = true) :
    Sparse.rising (Sparse.erase k m) = true := by
  induction m with
  | nil => rfl
  | cons q m ih =>
    obtain ⟨i, w⟩ := q
    have hc := (Sparse.rising_cons i w m).1 h
    unfold Sparse.erase
    split
    · exact ih hc.2
    · exact (Sparse.rising_cons _ _ _).2 ⟨fun p hp => hc.1 p (Sparse.mem_erase _ _ _ hp), ih hc.2⟩

/-- A write keeps the canonical form. -/
theorem Sparse.wf_set [DecidableEq α] (d : α) (k : Nat) (v : α) (m : Sparse α) (h : Sparse.wf d m = true) :
    Sparse.wf d (Sparse.set d k v m) = true := by
  simp only [Sparse.wf, Bool.and_eq_true, List.all_eq_true, Bool.not_eq_true', decide_eq_false_iff_not] at h ⊢
  unfold Sparse.set
  split
  · exact ⟨Sparse.rising_erase k m h.1, fun p hp => h.2 p (Sparse.mem_erase _ _ _ hp)⟩
  · refine ⟨Sparse.rising_insert k v m h.1, fun p hp => ?_⟩
    rcases Sparse.mem_insert _ _ _ _ hp with rfl | hp
    · assumption
    · exact h.2 p hp

end Sys2Proof.Machine
end

