-- ==== Sys2Proof/Laws/State.lean ====
section
/-!
SUPPORT. What each update of State leaves alone, field by field and accessor by accessor, and what a read after a write gives.
-/

namespace Sys2Proof.Machine

/-- `State.setReg` changes the field regs alone. -/
@[simp] theorem State.setReg_frame (s : State) (k v : Nat) :
    (s.setReg k v).pending = s.pending ∧
    (s.setReg k v).drawn = s.drawn ∧
    (s.setReg k v).serial = s.serial ∧
    (s.setReg k v).out = s.out ∧
    (s.setReg k v).dev = s.dev ∧
    (s.setReg k v).time = s.time ∧
    (s.setReg k v).supply = s.supply ∧
    (s.setReg k v).gov = s.gov ∧
    (s.setReg k v).replays = s.replays ∧
    (s.setReg k v).links = s.links ∧
    (s.setReg k v).cores = s.cores ∧
    (s.setReg k v).ctxs = s.ctxs ∧
    (s.setReg k v).threads = s.threads ∧
    (s.setReg k v).mem = s.mem ∧
    (s.setReg k v).entries = s.entries ∧
    (s.setReg k v).allocs = s.allocs ∧
    (s.setReg k v).moves = s.moves ∧
    (s.setReg k v).loans = s.loans ∧
    (s.setReg k v).heldWrites = s.heldWrites ∧
    (s.setReg k v).poison = s.poison ∧
    (s.setReg k v).injections = s.injections ∧
    (s.setReg k v).tenants = s.tenants ∧
    (s.setReg k v).queues = s.queues ∧
    (s.setReg k v).works = s.works ∧
    (s.setReg k v).slots = s.slots ∧
    (s.setReg k v).lasers = s.lasers ∧
    (s.setReg k v).ports = s.ports ∧
    (s.setReg k v).heaters = s.heaters ∧
    (s.setReg k v).heaterCoefs = s.heaterCoefs ∧
    (s.setReg k v).fabric = s.fabric ∧
    (s.setReg k v).colls = s.colls ∧
    (s.setReg k v).sketch = s.sketch ∧
    (s.setReg k v).life = s.life ∧
    (s.setReg k v).watches = s.watches ∧
    (s.setReg k v).rejoinHeard = s.rejoinHeard ∧
    (s.setReg k v).captures = s.captures ∧
    (s.setReg k v).latches = s.latches ∧
    (s.setReg k v).sessions = s.sessions ∧
    (s.setReg k v).handshakes = s.handshakes ∧
    (s.setReg k v).generations = s.generations ∧
    (s.setReg k v).mapSeen = s.mapSeen ∧
    (s.setReg k v).eth = s.eth ∧
    (∀ (j : Nat), (s.setReg k v).core j = s.core j) ∧
    (∀ (i j : Nat), (s.setReg k v).ctx i j = s.ctx i j) ∧
    (∀ (j : Nat), (s.setReg k v).tenant j = s.tenant j) ∧
    (∀ (j : Nat), (s.setReg k v).queue j = s.queue j) ∧
    (∀ (j : Nat), (s.setReg k v).work? j = s.work? j) ∧
    (∀ (j : Nat), (s.setReg k v).entry? j = s.entry? j) ∧
    (∀ (j : Nat), (s.setReg k v).slot j = s.slot j) ∧
    (∀ (i j : Nat), (s.setReg k v).laser i j = s.laser i j) ∧
    (∀ (j : Nat), (s.setReg k v).port j = s.port j) ∧
    (∀ (j : Nat), (s.setReg k v).lifeOf j = s.lifeOf j) ∧
    (∀ (j : Nat), (s.setReg k v).latch j = s.latch j) ∧
    (∀ (j : Nat), (s.setReg k v).capture j = s.capture j) ∧
    (∀ (j : Nat), (s.setReg k v).session? j = s.session? j) :=
  ⟨rfl, rfl, rfl, rfl, rfl, rfl, rfl, rfl, rfl, rfl, rfl, rfl, rfl, rfl, rfl, rfl, rfl, rfl, rfl, rfl, rfl, rfl,
    rfl, rfl, rfl, rfl, rfl, rfl, rfl, rfl, rfl, rfl, rfl, rfl, rfl, rfl, rfl, rfl, rfl, rfl, rfl, rfl, fun _ =>
    rfl, fun _ _ => rfl, fun _ => rfl, fun _ => rfl, fun _ => rfl, fun _ => rfl, fun _ => rfl, fun _ _ => rfl, fun
    _ => rfl, fun _ => rfl, fun _ => rfl, fun _ => rfl, fun _ => rfl⟩

/-- `State.setCore` changes the field cores alone. -/
@[simp] theorem State.setCore_frame (s : State) (c : Nat) (v : Core) :
    (s.setCore c v).pending = s.pending ∧
    (s.setCore c v).regs = s.regs ∧
    (s.setCore c v).drawn = s.drawn ∧
    (s.setCore c v).serial = s.serial ∧
    (s.setCore c v).out = s.out ∧
    (s.setCore c v).dev = s.dev ∧
    (s.setCore c v).time = s.time ∧
    (s.setCore c v).supply = s.supply ∧
    (s.setCore c v).gov = s.gov ∧
    (s.setCore c v).replays = s.replays ∧
    (s.setCore c v).links = s.links ∧
    (s.setCore c v).ctxs = s.ctxs ∧
    (s.setCore c v).threads = s.threads ∧
    (s.setCore c v).mem = s.mem ∧
    (s.setCore c v).entries = s.entries ∧
    (s.setCore c v).allocs = s.allocs ∧
    (s.setCore c v).moves = s.moves ∧
    (s.setCore c v).loans = s.loans ∧
    (s.setCore c v).heldWrites = s.heldWrites ∧
    (s.setCore c v).poison = s.poison ∧
    (s.setCore c v).injections = s.injections ∧
    (s.setCore c v).tenants = s.tenants ∧
    (s.setCore c v).queues = s.queues ∧
    (s.setCore c v).works = s.works ∧
    (s.setCore c v).slots = s.slots ∧
    (s.setCore c v).lasers = s.lasers ∧
    (s.setCore c v).ports = s.ports ∧
    (s.setCore c v).heaters = s.heaters ∧
    (s.setCore c v).heaterCoefs = s.heaterCoefs ∧
    (s.setCore c v).fabric = s.fabric ∧
    (s.setCore c v).colls = s.colls ∧
    (s.setCore c v).sketch = s.sketch ∧
    (s.setCore c v).life = s.life ∧
    (s.setCore c v).watches = s.watches ∧
    (s.setCore c v).rejoinHeard = s.rejoinHeard ∧
    (s.setCore c v).captures = s.captures ∧
    (s.setCore c v).latches = s.latches ∧
    (s.setCore c v).sessions = s.sessions ∧
    (s.setCore c v).handshakes = s.handshakes ∧
    (s.setCore c v).generations = s.generations ∧
    (s.setCore c v).mapSeen = s.mapSeen ∧
    (s.setCore c v).eth = s.eth ∧
    (∀ (j : Nat), (s.setCore c v).reg j = s.reg j) ∧
    (∀ (i j : Nat), (s.setCore c v).ctx i j = s.ctx i j) ∧
    (∀ (j : Nat), (s.setCore c v).tenant j = s.tenant j) ∧
    (∀ (j : Nat), (s.setCore c v).queue j = s.queue j) ∧
    (∀ (j : Nat), (s.setCore c v).work? j = s.work? j) ∧
    (∀ (j : Nat), (s.setCore c v).entry? j = s.entry? j) ∧
    (∀ (j : Nat), (s.setCore c v).slot j = s.slot j) ∧
    (∀ (i j : Nat), (s.setCore c v).laser i j = s.laser i j) ∧
    (∀ (j : Nat), (s.setCore c v).port j = s.port j) ∧
    (∀ (j : Nat), (s.setCore c v).lifeOf j = s.lifeOf j) ∧
    (∀ (j : Nat), (s.setCore c v).latch j = s.latch j) ∧
    (∀ (j : Nat), (s.setCore c v).capture j = s.capture j) ∧
    (∀ (j : Nat), (s.setCore c v).session? j = s.session? j) :=
  ⟨rfl, rfl, rfl, rfl, rfl, rfl, rfl, rfl, rfl, rfl, rfl, rfl, rfl, rfl, rfl, rfl, rfl, rfl, rfl, rfl, rfl, rfl,
    rfl, rfl, rfl, rfl, rfl, rfl, rfl, rfl, rfl, rfl, rfl, rfl, rfl, rfl, rfl, rfl, rfl, rfl, rfl, rfl, fun _ =>
    rfl, fun _ _ => rfl, fun _ => rfl, fun _ => rfl, fun _ => rfl, fun _ => rfl, fun _ => rfl, fun _ _ => rfl, fun
    _ => rfl, fun _ => rfl, fun _ => rfl, fun _ => rfl, fun _ => rfl⟩

/-- `State.setCtx` changes the field ctxs alone. -/
@[simp] theorem State.setCtx_frame (s : State) (c x : Nat) (v : Ctx) :
    (s.setCtx c x v).pending = s.pending ∧
    (s.setCtx c x v).regs = s.regs ∧
    (s.setCtx c x v).drawn = s.drawn ∧
    (s.setCtx c x v).serial = s.serial ∧
    (s.setCtx c x v).out = s.out ∧
    (s.setCtx c x v).dev = s.dev ∧
    (s.setCtx c x v).time = s.time ∧
    (s.setCtx c x v).supply = s.supply ∧
    (s.setCtx c x v).gov = s.gov ∧
    (s.setCtx c x v).replays = s.replays ∧
    (s.setCtx c x v).links = s.links ∧
    (s.setCtx c x v).cores = s.cores ∧
    (s.setCtx c x v).threads = s.threads ∧
    (s.setCtx c x v).mem = s.mem ∧
    (s.setCtx c x v).entries = s.entries ∧
    (s.setCtx c x v).allocs = s.allocs ∧
    (s.setCtx c x v).moves = s.moves ∧
    (s.setCtx c x v).loans = s.loans ∧
    (s.setCtx c x v).heldWrites = s.heldWrites ∧
    (s.setCtx c x v).poison = s.poison ∧
    (s.setCtx c x v).injections = s.injections ∧
    (s.setCtx c x v).tenants = s.tenants ∧
    (s.setCtx c x v).queues = s.queues ∧
    (s.setCtx c x v).works = s.works ∧
    (s.setCtx c x v).slots = s.slots ∧
    (s.setCtx c x v).lasers = s.lasers ∧
    (s.setCtx c x v).ports = s.ports ∧
    (s.setCtx c x v).heaters = s.heaters ∧
    (s.setCtx c x v).heaterCoefs = s.heaterCoefs ∧
    (s.setCtx c x v).fabric = s.fabric ∧
    (s.setCtx c x v).colls = s.colls ∧
    (s.setCtx c x v).sketch = s.sketch ∧
    (s.setCtx c x v).life = s.life ∧
    (s.setCtx c x v).watches = s.watches ∧
    (s.setCtx c x v).rejoinHeard = s.rejoinHeard ∧
    (s.setCtx c x v).captures = s.captures ∧
    (s.setCtx c x v).latches = s.latches ∧
    (s.setCtx c x v).sessions = s.sessions ∧
    (s.setCtx c x v).handshakes = s.handshakes ∧
    (s.setCtx c x v).generations = s.generations ∧
    (s.setCtx c x v).mapSeen = s.mapSeen ∧
    (s.setCtx c x v).eth = s.eth ∧
    (∀ (j : Nat), (s.setCtx c x v).reg j = s.reg j) ∧
    (∀ (j : Nat), (s.setCtx c x v).core j = s.core j) ∧
    (∀ (j : Nat), (s.setCtx c x v).tenant j = s.tenant j) ∧
    (∀ (j : Nat), (s.setCtx c x v).queue j = s.queue j) ∧
    (∀ (j : Nat), (s.setCtx c x v).work? j = s.work? j) ∧
    (∀ (j : Nat), (s.setCtx c x v).entry? j = s.entry? j) ∧
    (∀ (j : Nat), (s.setCtx c x v).slot j = s.slot j) ∧
    (∀ (i j : Nat), (s.setCtx c x v).laser i j = s.laser i j) ∧
    (∀ (j : Nat), (s.setCtx c x v).port j = s.port j) ∧
    (∀ (j : Nat), (s.setCtx c x v).lifeOf j = s.lifeOf j) ∧
    (∀ (j : Nat), (s.setCtx c x v).latch j = s.latch j) ∧
    (∀ (j : Nat), (s.setCtx c x v).capture j = s.capture j) ∧
    (∀ (j : Nat), (s.setCtx c x v).session? j = s.session? j) :=
  ⟨rfl, rfl, rfl, rfl, rfl, rfl, rfl, rfl, rfl, rfl, rfl, rfl, rfl, rfl, rfl, rfl, rfl, rfl, rfl, rfl, rfl, rfl,
    rfl, rfl, rfl, rfl, rfl, rfl, rfl, rfl, rfl, rfl, rfl, rfl, rfl, rfl, rfl, rfl, rfl, rfl, rfl, rfl, fun _ =>
    rfl, fun _ => rfl, fun _ => rfl, fun _ => rfl, fun _ => rfl, fun _ => rfl, fun _ => rfl, fun _ _ => rfl, fun _
    => rfl, fun _ => rfl, fun _ => rfl, fun _ => rfl, fun _ => rfl⟩

/-- `State.setTenant` changes the field tenants alone. -/
@[simp] theorem State.setTenant_frame (s : State) (n : Nat) (v : Tenant) :
    (s.setTenant n v).pending = s.pending ∧
    (s.setTenant n v).regs = s.regs ∧
    (s.setTenant n v).drawn = s.drawn ∧
    (s.setTenant n v).serial = s.serial ∧
    (s.setTenant n v).out = s.out ∧
    (s.setTenant n v).dev = s.dev ∧
    (s.setTenant n v).time = s.time ∧
    (s.setTenant n v).supply = s.supply ∧
    (s.setTenant n v).gov = s.gov ∧
    (s.setTenant n v).replays = s.replays ∧
    (s.setTenant n v).links = s.links ∧
    (s.setTenant n v).cores = s.cores ∧
    (s.setTenant n v).ctxs = s.ctxs ∧
    (s.setTenant n v).threads = s.threads ∧
    (s.setTenant n v).mem = s.mem ∧
    (s.setTenant n v).entries = s.entries ∧
    (s.setTenant n v).allocs = s.allocs ∧
    (s.setTenant n v).moves = s.moves ∧
    (s.setTenant n v).loans = s.loans ∧
    (s.setTenant n v).heldWrites = s.heldWrites ∧
    (s.setTenant n v).poison = s.poison ∧
    (s.setTenant n v).injections = s.injections ∧
    (s.setTenant n v).queues = s.queues ∧
    (s.setTenant n v).works = s.works ∧
    (s.setTenant n v).slots = s.slots ∧
    (s.setTenant n v).lasers = s.lasers ∧
    (s.setTenant n v).ports = s.ports ∧
    (s.setTenant n v).heaters = s.heaters ∧
    (s.setTenant n v).heaterCoefs = s.heaterCoefs ∧
    (s.setTenant n v).fabric = s.fabric ∧
    (s.setTenant n v).colls = s.colls ∧
    (s.setTenant n v).sketch = s.sketch ∧
    (s.setTenant n v).life = s.life ∧
    (s.setTenant n v).watches = s.watches ∧
    (s.setTenant n v).rejoinHeard = s.rejoinHeard ∧
    (s.setTenant n v).captures = s.captures ∧
    (s.setTenant n v).latches = s.latches ∧
    (s.setTenant n v).sessions = s.sessions ∧
    (s.setTenant n v).handshakes = s.handshakes ∧
    (s.setTenant n v).generations = s.generations ∧
    (s.setTenant n v).mapSeen = s.mapSeen ∧
    (s.setTenant n v).eth = s.eth ∧
    (∀ (j : Nat), (s.setTenant n v).reg j = s.reg j) ∧
    (∀ (j : Nat), (s.setTenant n v).core j = s.core j) ∧
    (∀ (i j : Nat), (s.setTenant n v).ctx i j = s.ctx i j) ∧
    (∀ (j : Nat), (s.setTenant n v).queue j = s.queue j) ∧
    (∀ (j : Nat), (s.setTenant n v).work? j = s.work? j) ∧
    (∀ (j : Nat), (s.setTenant n v).entry? j = s.entry? j) ∧
    (∀ (j : Nat), (s.setTenant n v).slot j = s.slot j) ∧
    (∀ (i j : Nat), (s.setTenant n v).laser i j = s.laser i j) ∧
    (∀ (j : Nat), (s.setTenant n v).port j = s.port j) ∧
    (∀ (j : Nat), (s.setTenant n v).lifeOf j = s.lifeOf j) ∧
    (∀ (j : Nat), (s.setTenant n v).latch j = s.latch j) ∧
    (∀ (j : Nat), (s.setTenant n v).capture j = s.capture j) ∧
    (∀ (j : Nat), (s.setTenant n v).session? j = s.session? j) :=
  ⟨rfl, rfl, rfl, rfl, rfl, rfl, rfl, rfl, rfl, rfl, rfl, rfl, rfl, rfl, rfl, rfl, rfl, rfl, rfl, rfl, rfl, rfl,
    rfl, rfl, rfl, rfl, rfl, rfl, rfl, rfl, rfl, rfl, rfl, rfl, rfl, rfl, rfl, rfl, rfl, rfl, rfl, rfl, fun _ =>
    rfl, fun _ => rfl, fun _ _ => rfl, fun _ => rfl, fun _ => rfl, fun _ => rfl, fun _ => rfl, fun _ _ => rfl, fun
    _ => rfl, fun _ => rfl, fun _ => rfl, fun _ => rfl, fun _ => rfl⟩

/-- `State.setQueue` changes the field queues alone. -/
@[simp] theorem State.setQueue_frame (s : State) (q : Nat) (v : Queue) :
    (s.setQueue q v).pending = s.pending ∧
    (s.setQueue q v).regs = s.regs ∧
    (s.setQueue q v).drawn = s.drawn ∧
    (s.setQueue q v).serial = s.serial ∧
    (s.setQueue q v).out = s.out ∧
    (s.setQueue q v).dev = s.dev ∧
    (s.setQueue q v).time = s.time ∧
    (s.setQueue q v).supply = s.supply ∧
    (s.setQueue q v).gov = s.gov ∧
    (s.setQueue q v).replays = s.replays ∧
    (s.setQueue q v).links = s.links ∧
    (s.setQueue q v).cores = s.cores ∧
    (s.setQueue q v).ctxs = s.ctxs ∧
    (s.setQueue q v).threads = s.threads ∧
    (s.setQueue q v).mem = s.mem ∧
    (s.setQueue q v).entries = s.entries ∧
    (s.setQueue q v).allocs = s.allocs ∧
    (s.setQueue q v).moves = s.moves ∧
    (s.setQueue q v).loans = s.loans ∧
    (s.setQueue q v).heldWrites = s.heldWrites ∧
    (s.setQueue q v).poison = s.poison ∧
    (s.setQueue q v).injections = s.injections ∧
    (s.setQueue q v).tenants = s.tenants ∧
    (s.setQueue q v).works = s.works ∧
    (s.setQueue q v).slots = s.slots ∧
    (s.setQueue q v).lasers = s.lasers ∧
    (s.setQueue q v).ports = s.ports ∧
    (s.setQueue q v).heaters = s.heaters ∧
    (s.setQueue q v).heaterCoefs = s.heaterCoefs ∧
    (s.setQueue q v).fabric = s.fabric ∧
    (s.setQueue q v).colls = s.colls ∧
    (s.setQueue q v).sketch = s.sketch ∧
    (s.setQueue q v).life = s.life ∧
    (s.setQueue q v).watches = s.watches ∧
    (s.setQueue q v).rejoinHeard = s.rejoinHeard ∧
    (s.setQueue q v).captures = s.captures ∧
    (s.setQueue q v).latches = s.latches ∧
    (s.setQueue q v).sessions = s.sessions ∧
    (s.setQueue q v).handshakes = s.handshakes ∧
    (s.setQueue q v).generations = s.generations ∧
    (s.setQueue q v).mapSeen = s.mapSeen ∧
    (s.setQueue q v).eth = s.eth ∧
    (∀ (j : Nat), (s.setQueue q v).reg j = s.reg j) ∧
    (∀ (j : Nat), (s.setQueue q v).core j = s.core j) ∧
    (∀ (i j : Nat), (s.setQueue q v).ctx i j = s.ctx i j) ∧
    (∀ (j : Nat), (s.setQueue q v).tenant j = s.tenant j) ∧
    (∀ (j : Nat), (s.setQueue q v).work? j = s.work? j) ∧
    (∀ (j : Nat), (s.setQueue q v).entry? j = s.entry? j) ∧
    (∀ (j : Nat), (s.setQueue q v).slot j = s.slot j) ∧
    (∀ (i j : Nat), (s.setQueue q v).laser i j = s.laser i j) ∧
    (∀ (j : Nat), (s.setQueue q v).port j = s.port j) ∧
    (∀ (j : Nat), (s.setQueue q v).lifeOf j = s.lifeOf j) ∧
    (∀ (j : Nat), (s.setQueue q v).latch j = s.latch j) ∧
    (∀ (j : Nat), (s.setQueue q v).capture j = s.capture j) ∧
    (∀ (j : Nat), (s.setQueue q v).session? j = s.session? j) :=
  ⟨rfl, rfl, rfl, rfl, rfl, rfl, rfl, rfl, rfl, rfl, rfl, rfl, rfl, rfl, rfl, rfl, rfl, rfl, rfl, rfl, rfl, rfl,
    rfl, rfl, rfl, rfl, rfl, rfl, rfl, rfl, rfl, rfl, rfl, rfl, rfl, rfl, rfl, rfl, rfl, rfl, rfl, rfl, fun _ =>
    rfl, fun _ => rfl, fun _ _ => rfl, fun _ => rfl, fun _ => rfl, fun _ => rfl, fun _ => rfl, fun _ _ => rfl, fun
    _ => rfl, fun _ => rfl, fun _ => rfl, fun _ => rfl, fun _ => rfl⟩

/-- `State.setWork` changes the field works alone. -/
@[simp] theorem State.setWork_frame (s : State) (w : Nat) (v : Work) :
    (s.setWork w v).pending = s.pending ∧
    (s.setWork w v).regs = s.regs ∧
    (s.setWork w v).drawn = s.drawn ∧
    (s.setWork w v).serial = s.serial ∧
    (s.setWork w v).out = s.out ∧
    (s.setWork w v).dev = s.dev ∧
    (s.setWork w v).time = s.time ∧
    (s.setWork w v).supply = s.supply ∧
    (s.setWork w v).gov = s.gov ∧
    (s.setWork w v).replays = s.replays ∧
    (s.setWork w v).links = s.links ∧
    (s.setWork w v).cores = s.cores ∧
    (s.setWork w v).ctxs = s.ctxs ∧
    (s.setWork w v).threads = s.threads ∧
    (s.setWork w v).mem = s.mem ∧
    (s.setWork w v).entries = s.entries ∧
    (s.setWork w v).allocs = s.allocs ∧
    (s.setWork w v).moves = s.moves ∧
    (s.setWork w v).loans = s.loans ∧
    (s.setWork w v).heldWrites = s.heldWrites ∧
    (s.setWork w v).poison = s.poison ∧
    (s.setWork w v).injections = s.injections ∧
    (s.setWork w v).tenants = s.tenants ∧
    (s.setWork w v).queues = s.queues ∧
    (s.setWork w v).slots = s.slots ∧
    (s.setWork w v).lasers = s.lasers ∧
    (s.setWork w v).ports = s.ports ∧
    (s.setWork w v).heaters = s.heaters ∧
    (s.setWork w v).heaterCoefs = s.heaterCoefs ∧
    (s.setWork w v).fabric = s.fabric ∧
    (s.setWork w v).colls = s.colls ∧
    (s.setWork w v).sketch = s.sketch ∧
    (s.setWork w v).life = s.life ∧
    (s.setWork w v).watches = s.watches ∧
    (s.setWork w v).rejoinHeard = s.rejoinHeard ∧
    (s.setWork w v).captures = s.captures ∧
    (s.setWork w v).latches = s.latches ∧
    (s.setWork w v).sessions = s.sessions ∧
    (s.setWork w v).handshakes = s.handshakes ∧
    (s.setWork w v).generations = s.generations ∧
    (s.setWork w v).mapSeen = s.mapSeen ∧
    (s.setWork w v).eth = s.eth ∧
    (∀ (j : Nat), (s.setWork w v).reg j = s.reg j) ∧
    (∀ (j : Nat), (s.setWork w v).core j = s.core j) ∧
    (∀ (i j : Nat), (s.setWork w v).ctx i j = s.ctx i j) ∧
    (∀ (j : Nat), (s.setWork w v).tenant j = s.tenant j) ∧
    (∀ (j : Nat), (s.setWork w v).queue j = s.queue j) ∧
    (∀ (j : Nat), (s.setWork w v).entry? j = s.entry? j) ∧
    (∀ (j : Nat), (s.setWork w v).slot j = s.slot j) ∧
    (∀ (i j : Nat), (s.setWork w v).laser i j = s.laser i j) ∧
    (∀ (j : Nat), (s.setWork w v).port j = s.port j) ∧
    (∀ (j : Nat), (s.setWork w v).lifeOf j = s.lifeOf j) ∧
    (∀ (j : Nat), (s.setWork w v).latch j = s.latch j) ∧
    (∀ (j : Nat), (s.setWork w v).capture j = s.capture j) ∧
    (∀ (j : Nat), (s.setWork w v).session? j = s.session? j) :=
  ⟨rfl, rfl, rfl, rfl, rfl, rfl, rfl, rfl, rfl, rfl, rfl, rfl, rfl, rfl, rfl, rfl, rfl, rfl, rfl, rfl, rfl, rfl,
    rfl, rfl, rfl, rfl, rfl, rfl, rfl, rfl, rfl, rfl, rfl, rfl, rfl, rfl, rfl, rfl, rfl, rfl, rfl, rfl, fun _ =>
    rfl, fun _ => rfl, fun _ _ => rfl, fun _ => rfl, fun _ => rfl, fun _ => rfl, fun _ => rfl, fun _ _ => rfl, fun
    _ => rfl, fun _ => rfl, fun _ => rfl, fun _ => rfl, fun _ => rfl⟩

/-- `State.setEntry` changes the field entries alone. -/
@[simp] theorem State.setEntry_frame (s : State) (e : Nat) (v : Entry) :
    (s.setEntry e v).pending = s.pending ∧
    (s.setEntry e v).regs = s.regs ∧
    (s.setEntry e v).drawn = s.drawn ∧
    (s.setEntry e v).serial = s.serial ∧
    (s.setEntry e v).out = s.out ∧
    (s.setEntry e v).dev = s.dev ∧
    (s.setEntry e v).time = s.time ∧
    (s.setEntry e v).supply = s.supply ∧
    (s.setEntry e v).gov = s.gov ∧
    (s.setEntry e v).replays = s.replays ∧
    (s.setEntry e v).links = s.links ∧
    (s.setEntry e v).cores = s.cores ∧
    (s.setEntry e v).ctxs = s.ctxs ∧
    (s.setEntry e v).threads = s.threads ∧
    (s.setEntry e v).mem = s.mem ∧
    (s.setEntry e v).allocs = s.allocs ∧
    (s.setEntry e v).moves = s.moves ∧
    (s.setEntry e v).loans = s.loans ∧
    (s.setEntry e v).heldWrites = s.heldWrites ∧
    (s.setEntry e v).poison = s.poison ∧
    (s.setEntry e v).injections = s.injections ∧
    (s.setEntry e v).tenants = s.tenants ∧
    (s.setEntry e v).queues = s.queues ∧
    (s.setEntry e v).works = s.works ∧
    (s.setEntry e v).slots = s.slots ∧
    (s.setEntry e v).lasers = s.lasers ∧
    (s.setEntry e v).ports = s.ports ∧
    (s.setEntry e v).heaters = s.heaters ∧
    (s.setEntry e v).heaterCoefs = s.heaterCoefs ∧
    (s.setEntry e v).fabric = s.fabric ∧
    (s.setEntry e v).colls = s.colls ∧
    (s.setEntry e v).sketch = s.sketch ∧
    (s.setEntry e v).life = s.life ∧
    (s.setEntry e v).watches = s.watches ∧
    (s.setEntry e v).rejoinHeard = s.rejoinHeard ∧
    (s.setEntry e v).captures = s.captures ∧
    (s.setEntry e v).latches = s.latches ∧
    (s.setEntry e v).sessions = s.sessions ∧
    (s.setEntry e v).handshakes = s.handshakes ∧
    (s.setEntry e v).generations = s.generations ∧
    (s.setEntry e v).mapSeen = s.mapSeen ∧
    (s.setEntry e v).eth = s.eth ∧
    (∀ (j : Nat), (s.setEntry e v).reg j = s.reg j) ∧
    (∀ (j : Nat), (s.setEntry e v).core j = s.core j) ∧
    (∀ (i j : Nat), (s.setEntry e v).ctx i j = s.ctx i j) ∧
    (∀ (j : Nat), (s.setEntry e v).tenant j = s.tenant j) ∧
    (∀ (j : Nat), (s.setEntry e v).queue j = s.queue j) ∧
    (∀ (j : Nat), (s.setEntry e v).work? j = s.work? j) ∧
    (∀ (j : Nat), (s.setEntry e v).slot j = s.slot j) ∧
    (∀ (i j : Nat), (s.setEntry e v).laser i j = s.laser i j) ∧
    (∀ (j : Nat), (s.setEntry e v).port j = s.port j) ∧
    (∀ (j : Nat), (s.setEntry e v).lifeOf j = s.lifeOf j) ∧
    (∀ (j : Nat), (s.setEntry e v).latch j = s.latch j) ∧
    (∀ (j : Nat), (s.setEntry e v).capture j = s.capture j) ∧
    (∀ (j : Nat), (s.setEntry e v).session? j = s.session? j) :=
  ⟨rfl, rfl, rfl, rfl, rfl, rfl, rfl, rfl, rfl, rfl, rfl, rfl, rfl, rfl, rfl, rfl, rfl, rfl, rfl, rfl, rfl, rfl,
    rfl, rfl, rfl, rfl, rfl, rfl, rfl, rfl, rfl, rfl, rfl, rfl, rfl, rfl, rfl, rfl, rfl, rfl, rfl, rfl, fun _ =>
    rfl, fun _ => rfl, fun _ _ => rfl, fun _ => rfl, fun _ => rfl, fun _ => rfl, fun _ => rfl, fun _ _ => rfl, fun
    _ => rfl, fun _ => rfl, fun _ => rfl, fun _ => rfl, fun _ => rfl⟩

/-- `State.setSlot` changes the field slots alone. -/
@[simp] theorem State.setSlot_frame (s : State) (n : Nat) (v : Slot) :
    (s.setSlot n v).pending = s.pending ∧
    (s.setSlot n v).regs = s.regs ∧
    (s.setSlot n v).drawn = s.drawn ∧
    (s.setSlot n v).serial = s.serial ∧
    (s.setSlot n v).out = s.out ∧
    (s.setSlot n v).dev = s.dev ∧
    (s.setSlot n v).time = s.time ∧
    (s.setSlot n v).supply = s.supply ∧
    (s.setSlot n v).gov = s.gov ∧
    (s.setSlot n v).replays = s.replays ∧
    (s.setSlot n v).links = s.links ∧
    (s.setSlot n v).cores = s.cores ∧
    (s.setSlot n v).ctxs = s.ctxs ∧
    (s.setSlot n v).threads = s.threads ∧
    (s.setSlot n v).mem = s.mem ∧
    (s.setSlot n v).entries = s.entries ∧
    (s.setSlot n v).allocs = s.allocs ∧
    (s.setSlot n v).moves = s.moves ∧
    (s.setSlot n v).loans = s.loans ∧
    (s.setSlot n v).heldWrites = s.heldWrites ∧
    (s.setSlot n v).poison = s.poison ∧
    (s.setSlot n v).injections = s.injections ∧
    (s.setSlot n v).tenants = s.tenants ∧
    (s.setSlot n v).queues = s.queues ∧
    (s.setSlot n v).works = s.works ∧
    (s.setSlot n v).lasers = s.lasers ∧
    (s.setSlot n v).ports = s.ports ∧
    (s.setSlot n v).heaters = s.heaters ∧
    (s.setSlot n v).heaterCoefs = s.heaterCoefs ∧
    (s.setSlot n v).fabric = s.fabric ∧
    (s.setSlot n v).colls = s.colls ∧
    (s.setSlot n v).sketch = s.sketch ∧
    (s.setSlot n v).life = s.life ∧
    (s.setSlot n v).watches = s.watches ∧
    (s.setSlot n v).rejoinHeard = s.rejoinHeard ∧
    (s.setSlot n v).captures = s.captures ∧
    (s.setSlot n v).latches = s.latches ∧
    (s.setSlot n v).sessions = s.sessions ∧
    (s.setSlot n v).handshakes = s.handshakes ∧
    (s.setSlot n v).generations = s.generations ∧
    (s.setSlot n v).mapSeen = s.mapSeen ∧
    (s.setSlot n v).eth = s.eth ∧
    (∀ (j : Nat), (s.setSlot n v).reg j = s.reg j) ∧
    (∀ (j : Nat), (s.setSlot n v).core j = s.core j) ∧
    (∀ (i j : Nat), (s.setSlot n v).ctx i j = s.ctx i j) ∧
    (∀ (j : Nat), (s.setSlot n v).tenant j = s.tenant j) ∧
    (∀ (j : Nat), (s.setSlot n v).queue j = s.queue j) ∧
    (∀ (j : Nat), (s.setSlot n v).work? j = s.work? j) ∧
    (∀ (j : Nat), (s.setSlot n v).entry? j = s.entry? j) ∧
    (∀ (i j : Nat), (s.setSlot n v).laser i j = s.laser i j) ∧
    (∀ (j : Nat), (s.setSlot n v).port j = s.port j) ∧
    (∀ (j : Nat), (s.setSlot n v).lifeOf j = s.lifeOf j) ∧
    (∀ (j : Nat), (s.setSlot n v).latch j = s.latch j) ∧
    (∀ (j : Nat), (s.setSlot n v).capture j = s.capture j) ∧
    (∀ (j : Nat), (s.setSlot n v).session? j = s.session? j) :=
  ⟨rfl, rfl, rfl, rfl, rfl, rfl, rfl, rfl, rfl, rfl, rfl, rfl, rfl, rfl, rfl, rfl, rfl, rfl, rfl, rfl, rfl, rfl,
    rfl, rfl, rfl, rfl, rfl, rfl, rfl, rfl, rfl, rfl, rfl, rfl, rfl, rfl, rfl, rfl, rfl, rfl, rfl, rfl, fun _ =>
    rfl, fun _ => rfl, fun _ _ => rfl, fun _ => rfl, fun _ => rfl, fun _ => rfl, fun _ => rfl, fun _ _ => rfl, fun
    _ => rfl, fun _ => rfl, fun _ => rfl, fun _ => rfl, fun _ => rfl⟩

/-- `State.setLaser` changes the field lasers alone. -/
@[simp] theorem State.setLaser_frame (s : State) (p l : Nat) (v : Laser) :
    (s.setLaser p l v).pending = s.pending ∧
    (s.setLaser p l v).regs = s.regs ∧
    (s.setLaser p l v).drawn = s.drawn ∧
    (s.setLaser p l v).serial = s.serial ∧
    (s.setLaser p l v).out = s.out ∧
    (s.setLaser p l v).dev = s.dev ∧
    (s.setLaser p l v).time = s.time ∧
    (s.setLaser p l v).supply = s.supply ∧
    (s.setLaser p l v).gov = s.gov ∧
    (s.setLaser p l v).replays = s.replays ∧
    (s.setLaser p l v).links = s.links ∧
    (s.setLaser p l v).cores = s.cores ∧
    (s.setLaser p l v).ctxs = s.ctxs ∧
    (s.setLaser p l v).threads = s.threads ∧
    (s.setLaser p l v).mem = s.mem ∧
    (s.setLaser p l v).entries = s.entries ∧
    (s.setLaser p l v).allocs = s.allocs ∧
    (s.setLaser p l v).moves = s.moves ∧
    (s.setLaser p l v).loans = s.loans ∧
    (s.setLaser p l v).heldWrites = s.heldWrites ∧
    (s.setLaser p l v).poison = s.poison ∧
    (s.setLaser p l v).injections = s.injections ∧
    (s.setLaser p l v).tenants = s.tenants ∧
    (s.setLaser p l v).queues = s.queues ∧
    (s.setLaser p l v).works = s.works ∧
    (s.setLaser p l v).slots = s.slots ∧
    (s.setLaser p l v).ports = s.ports ∧
    (s.setLaser p l v).heaters = s.heaters ∧
    (s.setLaser p l v).heaterCoefs = s.heaterCoefs ∧
    (s.setLaser p l v).fabric = s.fabric ∧
    (s.setLaser p l v).colls = s.colls ∧
    (s.setLaser p l v).sketch = s.sketch ∧
    (s.setLaser p l v).life = s.life ∧
    (s.setLaser p l v).watches = s.watches ∧
    (s.setLaser p l v).rejoinHeard = s.rejoinHeard ∧
    (s.setLaser p l v).captures = s.captures ∧
    (s.setLaser p l v).latches = s.latches ∧
    (s.setLaser p l v).sessions = s.sessions ∧
    (s.setLaser p l v).handshakes = s.handshakes ∧
    (s.setLaser p l v).generations = s.generations ∧
    (s.setLaser p l v).mapSeen = s.mapSeen ∧
    (s.setLaser p l v).eth = s.eth ∧
    (∀ (j : Nat), (s.setLaser p l v).reg j = s.reg j) ∧
    (∀ (j : Nat), (s.setLaser p l v).core j = s.core j) ∧
    (∀ (i j : Nat), (s.setLaser p l v).ctx i j = s.ctx i j) ∧
    (∀ (j : Nat), (s.setLaser p l v).tenant j = s.tenant j) ∧
    (∀ (j : Nat), (s.setLaser p l v).queue j = s.queue j) ∧
    (∀ (j : Nat), (s.setLaser p l v).work? j = s.work? j) ∧
    (∀ (j : Nat), (s.setLaser p l v).entry? j = s.entry? j) ∧
    (∀ (j : Nat), (s.setLaser p l v).slot j = s.slot j) ∧
    (∀ (j : Nat), (s.setLaser p l v).port j = s.port j) ∧
    (∀ (j : Nat), (s.setLaser p l v).lifeOf j = s.lifeOf j) ∧
    (∀ (j : Nat), (s.setLaser p l v).latch j = s.latch j) ∧
    (∀ (j : Nat), (s.setLaser p l v).capture j = s.capture j) ∧
    (∀ (j : Nat), (s.setLaser p l v).session? j = s.session? j) :=
  ⟨rfl, rfl, rfl, rfl, rfl, rfl, rfl, rfl, rfl, rfl, rfl, rfl, rfl, rfl, rfl, rfl, rfl, rfl, rfl, rfl, rfl, rfl,
    rfl, rfl, rfl, rfl, rfl, rfl, rfl, rfl, rfl, rfl, rfl, rfl, rfl, rfl, rfl, rfl, rfl, rfl, rfl, rfl, fun _ =>
    rfl, fun _ => rfl, fun _ _ => rfl, fun _ => rfl, fun _ => rfl, fun _ => rfl, fun _ => rfl, fun _ => rfl, fun _
    => rfl, fun _ => rfl, fun _ => rfl, fun _ => rfl, fun _ => rfl⟩

/-- `State.setPort` changes the field ports alone. -/
@[simp] theorem State.setPort_frame (s : State) (p : Nat) (v : Port) :
    (s.setPort p v).pending = s.pending ∧
    (s.setPort p v).regs = s.regs ∧
    (s.setPort p v).drawn = s.drawn ∧
    (s.setPort p v).serial = s.serial ∧
    (s.setPort p v).out = s.out ∧
    (s.setPort p v).dev = s.dev ∧
    (s.setPort p v).time = s.time ∧
    (s.setPort p v).supply = s.supply ∧
    (s.setPort p v).gov = s.gov ∧
    (s.setPort p v).replays = s.replays ∧
    (s.setPort p v).links = s.links ∧
    (s.setPort p v).cores = s.cores ∧
    (s.setPort p v).ctxs = s.ctxs ∧
    (s.setPort p v).threads = s.threads ∧
    (s.setPort p v).mem = s.mem ∧
    (s.setPort p v).entries = s.entries ∧
    (s.setPort p v).allocs = s.allocs ∧
    (s.setPort p v).moves = s.moves ∧
    (s.setPort p v).loans = s.loans ∧
    (s.setPort p v).heldWrites = s.heldWrites ∧
    (s.setPort p v).poison = s.poison ∧
    (s.setPort p v).injections = s.injections ∧
    (s.setPort p v).tenants = s.tenants ∧
    (s.setPort p v).queues = s.queues ∧
    (s.setPort p v).works = s.works ∧
    (s.setPort p v).slots = s.slots ∧
    (s.setPort p v).lasers = s.lasers ∧
    (s.setPort p v).heaters = s.heaters ∧
    (s.setPort p v).heaterCoefs = s.heaterCoefs ∧
    (s.setPort p v).fabric = s.fabric ∧
    (s.setPort p v).colls = s.colls ∧
    (s.setPort p v).sketch = s.sketch ∧
    (s.setPort p v).life = s.life ∧
    (s.setPort p v).watches = s.watches ∧
    (s.setPort p v).rejoinHeard = s.rejoinHeard ∧
    (s.setPort p v).captures = s.captures ∧
    (s.setPort p v).latches = s.latches ∧
    (s.setPort p v).sessions = s.sessions ∧
    (s.setPort p v).handshakes = s.handshakes ∧
    (s.setPort p v).generations = s.generations ∧
    (s.setPort p v).mapSeen = s.mapSeen ∧
    (s.setPort p v).eth = s.eth ∧
    (∀ (j : Nat), (s.setPort p v).reg j = s.reg j) ∧
    (∀ (j : Nat), (s.setPort p v).core j = s.core j) ∧
    (∀ (i j : Nat), (s.setPort p v).ctx i j = s.ctx i j) ∧
    (∀ (j : Nat), (s.setPort p v).tenant j = s.tenant j) ∧
    (∀ (j : Nat), (s.setPort p v).queue j = s.queue j) ∧
    (∀ (j : Nat), (s.setPort p v).work? j = s.work? j) ∧
    (∀ (j : Nat), (s.setPort p v).entry? j = s.entry? j) ∧
    (∀ (j : Nat), (s.setPort p v).slot j = s.slot j) ∧
    (∀ (i j : Nat), (s.setPort p v).laser i j = s.laser i j) ∧
    (∀ (j : Nat), (s.setPort p v).lifeOf j = s.lifeOf j) ∧
    (∀ (j : Nat), (s.setPort p v).latch j = s.latch j) ∧
    (∀ (j : Nat), (s.setPort p v).capture j = s.capture j) ∧
    (∀ (j : Nat), (s.setPort p v).session? j = s.session? j) :=
  ⟨rfl, rfl, rfl, rfl, rfl, rfl, rfl, rfl, rfl, rfl, rfl, rfl, rfl, rfl, rfl, rfl, rfl, rfl, rfl, rfl, rfl, rfl,
    rfl, rfl, rfl, rfl, rfl, rfl, rfl, rfl, rfl, rfl, rfl, rfl, rfl, rfl, rfl, rfl, rfl, rfl, rfl, rfl, fun _ =>
    rfl, fun _ => rfl, fun _ _ => rfl, fun _ => rfl, fun _ => rfl, fun _ => rfl, fun _ => rfl, fun _ => rfl, fun _
    _ => rfl, fun _ => rfl, fun _ => rfl, fun _ => rfl, fun _ => rfl⟩

/-- `State.setLatch` changes the field latches alone. -/
@[simp] theorem State.setLatch_frame (s : State) (k : Nat) (v : Latch) :
    (s.setLatch k v).pending = s.pending ∧
    (s.setLatch k v).regs = s.regs ∧
    (s.setLatch k v).drawn = s.drawn ∧
    (s.setLatch k v).serial = s.serial ∧
    (s.setLatch k v).out = s.out ∧
    (s.setLatch k v).dev = s.dev ∧
    (s.setLatch k v).time = s.time ∧
    (s.setLatch k v).supply = s.supply ∧
    (s.setLatch k v).gov = s.gov ∧
    (s.setLatch k v).replays = s.replays ∧
    (s.setLatch k v).links = s.links ∧
    (s.setLatch k v).cores = s.cores ∧
    (s.setLatch k v).ctxs = s.ctxs ∧
    (s.setLatch k v).threads = s.threads ∧
    (s.setLatch k v).mem = s.mem ∧
    (s.setLatch k v).entries = s.entries ∧
    (s.setLatch k v).allocs = s.allocs ∧
    (s.setLatch k v).moves = s.moves ∧
    (s.setLatch k v).loans = s.loans ∧
    (s.setLatch k v).heldWrites = s.heldWrites ∧
    (s.setLatch k v).poison = s.poison ∧
    (s.setLatch k v).injections = s.injections ∧
    (s.setLatch k v).tenants = s.tenants ∧
    (s.setLatch k v).queues = s.queues ∧
    (s.setLatch k v).works = s.works ∧
    (s.setLatch k v).slots = s.slots ∧
    (s.setLatch k v).lasers = s.lasers ∧
    (s.setLatch k v).ports = s.ports ∧
    (s.setLatch k v).heaters = s.heaters ∧
    (s.setLatch k v).heaterCoefs = s.heaterCoefs ∧
    (s.setLatch k v).fabric = s.fabric ∧
    (s.setLatch k v).colls = s.colls ∧
    (s.setLatch k v).sketch = s.sketch ∧
    (s.setLatch k v).life = s.life ∧
    (s.setLatch k v).watches = s.watches ∧
    (s.setLatch k v).rejoinHeard = s.rejoinHeard ∧
    (s.setLatch k v).captures = s.captures ∧
    (s.setLatch k v).sessions = s.sessions ∧
    (s.setLatch k v).handshakes = s.handshakes ∧
    (s.setLatch k v).generations = s.generations ∧
    (s.setLatch k v).mapSeen = s.mapSeen ∧
    (s.setLatch k v).eth = s.eth ∧
    (∀ (j : Nat), (s.setLatch k v).reg j = s.reg j) ∧
    (∀ (j : Nat), (s.setLatch k v).core j = s.core j) ∧
    (∀ (i j : Nat), (s.setLatch k v).ctx i j = s.ctx i j) ∧
    (∀ (j : Nat), (s.setLatch k v).tenant j = s.tenant j) ∧
    (∀ (j : Nat), (s.setLatch k v).queue j = s.queue j) ∧
    (∀ (j : Nat), (s.setLatch k v).work? j = s.work? j) ∧
    (∀ (j : Nat), (s.setLatch k v).entry? j = s.entry? j) ∧
    (∀ (j : Nat), (s.setLatch k v).slot j = s.slot j) ∧
    (∀ (i j : Nat), (s.setLatch k v).laser i j = s.laser i j) ∧
    (∀ (j : Nat), (s.setLatch k v).port j = s.port j) ∧
    (∀ (j : Nat), (s.setLatch k v).lifeOf j = s.lifeOf j) ∧
    (∀ (j : Nat), (s.setLatch k v).capture j = s.capture j) ∧
    (∀ (j : Nat), (s.setLatch k v).session? j = s.session? j) :=
  ⟨rfl, rfl, rfl, rfl, rfl, rfl, rfl, rfl, rfl, rfl, rfl, rfl, rfl, rfl, rfl, rfl, rfl, rfl, rfl, rfl, rfl, rfl,
    rfl, rfl, rfl, rfl, rfl, rfl, rfl, rfl, rfl, rfl, rfl, rfl, rfl, rfl, rfl, rfl, rfl, rfl, rfl, rfl, fun _ =>
    rfl, fun _ => rfl, fun _ _ => rfl, fun _ => rfl, fun _ => rfl, fun _ => rfl, fun _ => rfl, fun _ => rfl, fun _
    _ => rfl, fun _ => rfl, fun _ => rfl, fun _ => rfl, fun _ => rfl⟩

/-- `State.setCapture` changes the field captures alone. -/
@[simp] theorem State.setCapture_frame (s : State) (k : Nat) (v : Capture) :
    (s.setCapture k v).pending = s.pending ∧
    (s.setCapture k v).regs = s.regs ∧
    (s.setCapture k v).drawn = s.drawn ∧
    (s.setCapture k v).serial = s.serial ∧
    (s.setCapture k v).out = s.out ∧
    (s.setCapture k v).dev = s.dev ∧
    (s.setCapture k v).time = s.time ∧
    (s.setCapture k v).supply = s.supply ∧
    (s.setCapture k v).gov = s.gov ∧
    (s.setCapture k v).replays = s.replays ∧
    (s.setCapture k v).links = s.links ∧
    (s.setCapture k v).cores = s.cores ∧
    (s.setCapture k v).ctxs = s.ctxs ∧
    (s.setCapture k v).threads = s.threads ∧
    (s.setCapture k v).mem = s.mem ∧
    (s.setCapture k v).entries = s.entries ∧
    (s.setCapture k v).allocs = s.allocs ∧
    (s.setCapture k v).moves = s.moves ∧
    (s.setCapture k v).loans = s.loans ∧
    (s.setCapture k v).heldWrites = s.heldWrites ∧
    (s.setCapture k v).poison = s.poison ∧
    (s.setCapture k v).injections = s.injections ∧
    (s.setCapture k v).tenants = s.tenants ∧
    (s.setCapture k v).queues = s.queues ∧
    (s.setCapture k v).works = s.works ∧
    (s.setCapture k v).slots = s.slots ∧
    (s.setCapture k v).lasers = s.lasers ∧
    (s.setCapture k v).ports = s.ports ∧
    (s.setCapture k v).heaters = s.heaters ∧
    (s.setCapture k v).heaterCoefs = s.heaterCoefs ∧
    (s.setCapture k v).fabric = s.fabric ∧
    (s.setCapture k v).colls = s.colls ∧
    (s.setCapture k v).sketch = s.sketch ∧
    (s.setCapture k v).life = s.life ∧
    (s.setCapture k v).watches = s.watches ∧
    (s.setCapture k v).rejoinHeard = s.rejoinHeard ∧
    (s.setCapture k v).latches = s.latches ∧
    (s.setCapture k v).sessions = s.sessions ∧
    (s.setCapture k v).handshakes = s.handshakes ∧
    (s.setCapture k v).generations = s.generations ∧
    (s.setCapture k v).mapSeen = s.mapSeen ∧
    (s.setCapture k v).eth = s.eth ∧
    (∀ (j : Nat), (s.setCapture k v).reg j = s.reg j) ∧
    (∀ (j : Nat), (s.setCapture k v).core j = s.core j) ∧
    (∀ (i j : Nat), (s.setCapture k v).ctx i j = s.ctx i j) ∧
    (∀ (j : Nat), (s.setCapture k v).tenant j = s.tenant j) ∧
    (∀ (j : Nat), (s.setCapture k v).queue j = s.queue j) ∧
    (∀ (j : Nat), (s.setCapture k v).work? j = s.work? j) ∧
    (∀ (j : Nat), (s.setCapture k v).entry? j = s.entry? j) ∧
    (∀ (j : Nat), (s.setCapture k v).slot j = s.slot j) ∧
    (∀ (i j : Nat), (s.setCapture k v).laser i j = s.laser i j) ∧
    (∀ (j : Nat), (s.setCapture k v).port j = s.port j) ∧
    (∀ (j : Nat), (s.setCapture k v).lifeOf j = s.lifeOf j) ∧
    (∀ (j : Nat), (s.setCapture k v).latch j = s.latch j) ∧
    (∀ (j : Nat), (s.setCapture k v).session? j = s.session? j) :=
  ⟨rfl, rfl, rfl, rfl, rfl, rfl, rfl, rfl, rfl, rfl, rfl, rfl, rfl, rfl, rfl, rfl, rfl, rfl, rfl, rfl, rfl, rfl,
    rfl, rfl, rfl, rfl, rfl, rfl, rfl, rfl, rfl, rfl, rfl, rfl, rfl, rfl, rfl, rfl, rfl, rfl, rfl, rfl, fun _ =>
    rfl, fun _ => rfl, fun _ _ => rfl, fun _ => rfl, fun _ => rfl, fun _ => rfl, fun _ => rfl, fun _ => rfl, fun _
    _ => rfl, fun _ => rfl, fun _ => rfl, fun _ => rfl, fun _ => rfl⟩

/-- `State.setSession` changes the field sessions alone. -/
@[simp] theorem State.setSession_frame (s : State) (v : Session) :
    (s.setSession v).pending = s.pending ∧
    (s.setSession v).regs = s.regs ∧
    (s.setSession v).drawn = s.drawn ∧
    (s.setSession v).serial = s.serial ∧
    (s.setSession v).out = s.out ∧
    (s.setSession v).dev = s.dev ∧
    (s.setSession v).time = s.time ∧
    (s.setSession v).supply = s.supply ∧
    (s.setSession v).gov = s.gov ∧
    (s.setSession v).replays = s.replays ∧
    (s.setSession v).links = s.links ∧
    (s.setSession v).cores = s.cores ∧
    (s.setSession v).ctxs = s.ctxs ∧
    (s.setSession v).threads = s.threads ∧
    (s.setSession v).mem = s.mem ∧
    (s.setSession v).entries = s.entries ∧
    (s.setSession v).allocs = s.allocs ∧
    (s.setSession v).moves = s.moves ∧
    (s.setSession v).loans = s.loans ∧
    (s.setSession v).heldWrites = s.heldWrites ∧
    (s.setSession v).poison = s.poison ∧
    (s.setSession v).injections = s.injections ∧
    (s.setSession v).tenants = s.tenants ∧
    (s.setSession v).queues = s.queues ∧
    (s.setSession v).works = s.works ∧
    (s.setSession v).slots = s.slots ∧
    (s.setSession v).lasers = s.lasers ∧
    (s.setSession v).ports = s.ports ∧
    (s.setSession v).heaters = s.heaters ∧
    (s.setSession v).heaterCoefs = s.heaterCoefs ∧
    (s.setSession v).fabric = s.fabric ∧
    (s.setSession v).colls = s.colls ∧
    (s.setSession v).sketch = s.sketch ∧
    (s.setSession v).life = s.life ∧
    (s.setSession v).watches = s.watches ∧
    (s.setSession v).rejoinHeard = s.rejoinHeard ∧
    (s.setSession v).captures = s.captures ∧
    (s.setSession v).latches = s.latches ∧
    (s.setSession v).handshakes = s.handshakes ∧
    (s.setSession v).generations = s.generations ∧
    (s.setSession v).mapSeen = s.mapSeen ∧
    (s.setSession v).eth = s.eth ∧
    (∀ (j : Nat), (s.setSession v).reg j = s.reg j) ∧
    (∀ (j : Nat), (s.setSession v).core j = s.core j) ∧
    (∀ (i j : Nat), (s.setSession v).ctx i j = s.ctx i j) ∧
    (∀ (j : Nat), (s.setSession v).tenant j = s.tenant j) ∧
    (∀ (j : Nat), (s.setSession v).queue j = s.queue j) ∧
    (∀ (j : Nat), (s.setSession v).work? j = s.work? j) ∧
    (∀ (j : Nat), (s.setSession v).entry? j = s.entry? j) ∧
    (∀ (j : Nat), (s.setSession v).slot j = s.slot j) ∧
    (∀ (i j : Nat), (s.setSession v).laser i j = s.laser i j) ∧
    (∀ (j : Nat), (s.setSession v).port j = s.port j) ∧
    (∀ (j : Nat), (s.setSession v).lifeOf j = s.lifeOf j) ∧
    (∀ (j : Nat), (s.setSession v).latch j = s.latch j) ∧
    (∀ (j : Nat), (s.setSession v).capture j = s.capture j) :=
  ⟨rfl, rfl, rfl, rfl, rfl, rfl, rfl, rfl, rfl, rfl, rfl, rfl, rfl, rfl, rfl, rfl, rfl, rfl, rfl, rfl, rfl, rfl,
    rfl, rfl, rfl, rfl, rfl, rfl, rfl, rfl, rfl, rfl, rfl, rfl, rfl, rfl, rfl, rfl, rfl, rfl, rfl, rfl, fun _ =>
    rfl, fun _ => rfl, fun _ _ => rfl, fun _ => rfl, fun _ => rfl, fun _ => rfl, fun _ => rfl, fun _ => rfl, fun _
    _ => rfl, fun _ => rfl, fun _ => rfl, fun _ => rfl, fun _ => rfl⟩

/-- `State.emit` changes the field out alone. -/
@[simp] theorem State.emit_frame (s : State) (m : Msg) :
    (s.emit m).pending = s.pending ∧
    (s.emit m).regs = s.regs ∧
    (s.emit m).drawn = s.drawn ∧
    (s.emit m).serial = s.serial ∧
    (s.emit m).dev = s.dev ∧
    (s.emit m).time = s.time ∧
    (s.emit m).supply = s.supply ∧
    (s.emit m).gov = s.gov ∧
    (s.emit m).replays = s.replays ∧
    (s.emit m).links = s.links ∧
    (s.emit m).cores = s.cores ∧
    (s.emit m).ctxs = s.ctxs ∧
    (s.emit m).threads = s.threads ∧
    (s.emit m).mem = s.mem ∧
    (s.emit m).entries = s.entries ∧
    (s.emit m).allocs = s.allocs ∧
    (s.emit m).moves = s.moves ∧
    (s.emit m).loans = s.loans ∧
    (s.emit m).heldWrites = s.heldWrites ∧
    (s.emit m).poison = s.poison ∧
    (s.emit m).injections = s.injections ∧
    (s.emit m).tenants = s.tenants ∧
    (s.emit m).queues = s.queues ∧
    (s.emit m).works = s.works ∧
    (s.emit m).slots = s.slots ∧
    (s.emit m).lasers = s.lasers ∧
    (s.emit m).ports = s.ports ∧
    (s.emit m).heaters = s.heaters ∧
    (s.emit m).heaterCoefs = s.heaterCoefs ∧
    (s.emit m).fabric = s.fabric ∧
    (s.emit m).colls = s.colls ∧
    (s.emit m).sketch = s.sketch ∧
    (s.emit m).life = s.life ∧
    (s.emit m).watches = s.watches ∧
    (s.emit m).rejoinHeard = s.rejoinHeard ∧
    (s.emit m).captures = s.captures ∧
    (s.emit m).latches = s.latches ∧
    (s.emit m).sessions = s.sessions ∧
    (s.emit m).handshakes = s.handshakes ∧
    (s.emit m).generations = s.generations ∧
    (s.emit m).mapSeen = s.mapSeen ∧
    (s.emit m).eth = s.eth ∧
    (∀ (j : Nat), (s.emit m).reg j = s.reg j) ∧
    (∀ (j : Nat), (s.emit m).core j = s.core j) ∧
    (∀ (i j : Nat), (s.emit m).ctx i j = s.ctx i j) ∧
    (∀ (j : Nat), (s.emit m).tenant j = s.tenant j) ∧
    (∀ (j : Nat), (s.emit m).queue j = s.queue j) ∧
    (∀ (j : Nat), (s.emit m).work? j = s.work? j) ∧
    (∀ (j : Nat), (s.emit m).entry? j = s.entry? j) ∧
    (∀ (j : Nat), (s.emit m).slot j = s.slot j) ∧
    (∀ (i j : Nat), (s.emit m).laser i j = s.laser i j) ∧
    (∀ (j : Nat), (s.emit m).port j = s.port j) ∧
    (∀ (j : Nat), (s.emit m).lifeOf j = s.lifeOf j) ∧
    (∀ (j : Nat), (s.emit m).latch j = s.latch j) ∧
    (∀ (j : Nat), (s.emit m).capture j = s.capture j) ∧
    (∀ (j : Nat), (s.emit m).session? j = s.session? j) :=
  ⟨rfl, rfl, rfl, rfl, rfl, rfl, rfl, rfl, rfl, rfl, rfl, rfl, rfl, rfl, rfl, rfl, rfl, rfl, rfl, rfl, rfl, rfl,
    rfl, rfl, rfl, rfl, rfl, rfl, rfl, rfl, rfl, rfl, rfl, rfl, rfl, rfl, rfl, rfl, rfl, rfl, rfl, rfl, fun _ =>
    rfl, fun _ => rfl, fun _ _ => rfl, fun _ => rfl, fun _ => rfl, fun _ => rfl, fun _ => rfl, fun _ => rfl, fun _
    _ => rfl, fun _ => rfl, fun _ => rfl, fun _ => rfl, fun _ => rfl, fun _ => rfl⟩

/-! Reads after writes -/

/-- A register read after a register write. -/
theorem State.reg_setReg (s : State) (k v j : Nat) : (s.setReg k v).reg j = if j = k then v else s.reg j := by
  unfold State.reg State.setReg
  by_cases h : j = k
  · subst h; simp
  · simp [h, Sparse.get_set_other]

@[simp] theorem State.reg_setReg_same (s : State) (k v : Nat) : (s.setReg k v).reg k = v := by
  simp [State.reg_setReg]

/-- A register write leaves every other register alone. -/
theorem State.reg_setReg_other (s : State) (k v j : Nat) (h : j ≠ k) : (s.setReg k v).reg j = s.reg j := by
  simp [State.reg_setReg, h]

@[simp] theorem State.setReg_regs (s : State) (k v : Nat) (r : Sparse Nat) :
    { s.setReg k v with regs := r } = { s with regs := r } := rfl

/-- A counter adds one to its own register alone. -/
theorem State.reg_count (s : State) (w k j : Nat) :
    (s.count w k).reg j = if j = k then (s.reg k + 1) % 2 ^ w else s.reg j := State.reg_setReg s k _ j

/-- An addition changes its own register alone. -/
theorem State.reg_addReg (s : State) (w k a j : Nat) :
    (s.addReg w k a).reg j = if j = k then (s.reg k + a) % 2 ^ w else s.reg j := State.reg_setReg s k _ j

@[simp] theorem State.core_setCore (s : State) (c : Nat) (v : Core) : (s.setCore c v).core c = v := by
  simp [State.core, State.setCore]

@[simp] theorem State.ctx_setCtx (s : State) (c x : Nat) (v : Ctx) : (s.setCtx c x v).ctx c x = v := by
  simp [State.ctx, State.setCtx]

@[simp] theorem State.tenant_setTenant (s : State) (n : Nat) (v : Tenant) : (s.setTenant n v).tenant n = v := by
  simp [State.tenant, State.setTenant]

@[simp] theorem State.queue_setQueue (s : State) (n : Nat) (v : Queue) : (s.setQueue n v).queue n = v := by
  simp [State.queue, State.setQueue]

@[simp] theorem State.slot_setSlot (s : State) (n : Nat) (v : Slot) : (s.setSlot n v).slot n = v := by
  simp [State.slot, State.setSlot]

@[simp] theorem State.laser_setLaser (s : State) (p l : Nat) (v : Laser) : (s.setLaser p l v).laser p l = v := by
  simp [State.laser, State.setLaser]

@[simp] theorem State.port_setPort (s : State) (n : Nat) (v : Port) : (s.setPort n v).port n = v := by
  simp [State.port, State.setPort]

@[simp] theorem State.latch_setLatch (s : State) (n : Nat) (v : Latch) : (s.setLatch n v).latch n = v := by
  simp [State.latch, State.setLatch]

@[simp] theorem State.capture_setCapture (s : State) (n : Nat) (v : Capture) : (s.setCapture n v).capture n = v := by
  simp [State.capture, State.setCapture]

theorem State.core_setCore_other (s : State) (c d : Nat) (v : Core) (h : d ≠ c) : (s.setCore c v).core d = s.core d := by
  simp [State.core, State.setCore, Sparse.get_set_other, h]

theorem State.tenant_setTenant_other (s : State) (c d : Nat) (v : Tenant) (h : d ≠ c) : (s.setTenant c v).tenant d = s.tenant d := by
  simp [State.tenant, State.setTenant, Sparse.get_set_other, h]

theorem State.queue_setQueue_other (s : State) (c d : Nat) (v : Queue) (h : d ≠ c) : (s.setQueue c v).queue d = s.queue d := by
  simp [State.queue, State.setQueue, Sparse.get_set_other, h]

theorem State.slot_setSlot_other (s : State) (c d : Nat) (v : Slot) (h : d ≠ c) : (s.setSlot c v).slot d = s.slot d := by
  simp [State.slot, State.setSlot, Sparse.get_set_other, h]

theorem State.port_setPort_other (s : State) (c d : Nat) (v : Port) (h : d ≠ c) : (s.setPort c v).port d = s.port d := by
  simp [State.port, State.setPort, Sparse.get_set_other, h]

theorem State.latch_setLatch_other (s : State) (c d : Nat) (v : Latch) (h : d ≠ c) : (s.setLatch c v).latch d = s.latch d := by
  simp [State.latch, State.setLatch, Sparse.get_set_other, h]

theorem State.capture_setCapture_other (s : State) (c d : Nat) (v : Capture) (h : d ≠ c) : (s.setCapture c v).capture d = s.capture d := by
  simp [State.capture, State.setCapture, Sparse.get_set_other, h]

theorem State.ctx_setCtx_other (s : State) (c x d y : Nat) (v : Ctx) (h : ctxKey d y ≠ ctxKey c x) :
    (s.setCtx c x v).ctx d y = s.ctx d y := by
  simp [State.ctx, State.setCtx, Sparse.get_set_other, h]


end Sys2Proof.Machine
end

