-- ==== Sys2Proof/Laws/Memory.lean ====
section
/-!
SUPPORT. The laws of memory: a read after a write, and the canonical form that every memory operation keeps.
-/

namespace Sys2Proof.Machine

/-- A byte read after a byte write of any place. -/
theorem State.rdByte_wrByte (s : State) (a o b p : Nat) (v : Byte) :
    (s.wrByte a o v).rdByte b p = if memKey b p = memKey a o then v else s.rdByte b p := by
  simp [State.rdByte, State.wrByte, Sparse.get_set]

/-- A write of bytes changes memory alone. -/
theorem State.wrBytes_eq (s : State) (a o : Nat) (bs : List Byte) : ∃ m, s.wrBytes a o bs = { s with mem := m } := by
  induction bs generalizing s o with
  | nil => exact ⟨s.mem, rfl⟩
  | cons b bs ih =>
    obtain ⟨m, h⟩ := ih (s.wrByte a o b) (o + 1)
    exact ⟨m, h⟩

/-- The bytes a write of bytes does not reach read as before. -/
theorem State.rdByte_wrBytes_other (s : State) (a o b p : Nat) (bs : List Byte)
    (h : memKey b p < memKey a o ∨ memKey a o + bs.length ≤ memKey b p) :
    (s.wrBytes a o bs).rdByte b p = s.rdByte b p := by
  induction bs generalizing s o with
  | nil => rfl
  | cons v bs ih =>
    simp only [State.wrBytes]
    rw [ih]
    · rw [State.rdByte_wrByte, if_neg]
      simp only [memKey, List.length_cons] at h ⊢
      omega
    · simp only [memKey, List.length_cons] at h ⊢
      omega

/-- The bytes a write of bytes stores read as stored. -/
theorem State.rdByte_wrBytes_same (s : State) (a o : Nat) (bs : List Byte) (i : Nat) (h : i < bs.length) :
    (s.wrBytes a o bs).rdByte a (o + i) = bs[i] := by
  induction bs generalizing s o i with
  | nil => simp at h
  | cons v bs ih =>
    simp only [State.wrBytes]
    cases i with
    | zero =>
      rw [State.rdByte_wrBytes_other]
      · simp [State.rdByte_wrByte]
      · left; simp [memKey]
    | succ i =>
      have := ih (s.wrByte a o v) (o + 1) i (by simpa using h)
      rw [show o + (i + 1) = o + 1 + i by omega, this]
      simp

/-- Storing a byte keeps the canonical form. -/
theorem State.wf_wrByte (s : State) (a o : Nat) (v : Byte) (h : Memory.wf s.mem = true) :
    Memory.wf (s.wrByte a o v).mem = true := Sparse.wf_set 0 _ v s.mem h

/-- Storing bytes keeps the canonical form. -/
theorem State.wf_wrBytes (s : State) (a o : Nat) (bs : List Byte) (h : Memory.wf s.mem = true) :
    Memory.wf (s.wrBytes a o bs).mem = true := by
  induction bs generalizing s o with
  | nil => exact h
  | cons v bs ih => exact ih _ _ (State.wf_wrByte s a o v h)

/-- A filter keeps the numbers rising. -/
theorem Sparse.rising_filter {α : Type} (p : Nat × α → Bool) (m : Sparse α) (h : Sparse.rising m = true) :
    Sparse.rising (m.filter p) = true := by
  induction m with
  | nil => rfl
  | cons q m ih =>
    obtain ⟨i, w⟩ := q
    have hc := (Sparse.rising_cons i w m).1 h
    rw [List.filter_cons]
    split
    · exact (Sparse.rising_cons _ _ _).2 ⟨fun q hq => hc.1 q ((List.mem_filter.1 hq).1), ih hc.2⟩
    · exact ih hc.2

/-- A filter keeps the canonical form. -/
theorem Sparse.wf_filter {α : Type} [DecidableEq α] (d : α) (p : Nat × α → Bool) (m : Sparse α) (h : Sparse.wf d m = true) :
    Sparse.wf d (m.filter p) = true := by
  simp only [Sparse.wf, Bool.and_eq_true, List.all_eq_true] at h ⊢
  exact ⟨Sparse.rising_filter p m h.1, fun q hq => h.2 q ((List.mem_filter.1 hq).1)⟩

/-- Zeroing an allocation keeps the canonical form. -/
theorem State.wf_zeroAlloc (s : State) (a : Nat) (h : Memory.wf s.mem = true) : Memory.wf (s.zeroAlloc a).mem = true :=
  Sparse.wf_filter 0 _ s.mem h

/-- Copying an allocation keeps the canonical form. -/
theorem State.wf_copyAlloc (s : State) (a b : Nat) (h : Memory.wf s.mem = true) :
    Memory.wf (s.copyAlloc a b).mem = true := by
  have key : ∀ (xs : List (Nat × Byte)) (m : List Host.Cell), Memory.wf m = true →
      Memory.wf (xs.foldl (fun m p => Sparse.set (0 : Byte) (memKey b (p.1 % 2 ^ 32)) p.2 m) m) = true := by
    intro xs
    induction xs with
    | nil => exact fun m hm => hm
    | cons x xs ih => exact fun m hm => ih _ (Sparse.wf_set 0 _ _ m hm)
  exact key _ _ (State.wf_zeroAlloc s b h)

/-- A zeroed allocation reads as zero everywhere. -/
theorem State.rdByte_zeroAlloc_same (s : State) (a o : Nat) (h : o < 2 ^ 32) : (s.zeroAlloc a).rdByte a o = 0 := by
  unfold State.rdByte State.zeroAlloc
  rw [Sparse.get_filter (0 : Byte) (memKey a o) (fun k => !decide (k / 2 ^ 32 = a))]
  have : memKey a o / 2 ^ 32 = a := by unfold memKey; omega
  rw [this]; simp

/-- Zeroing an allocation leaves every other one alone. -/
theorem State.rdByte_zeroAlloc_other (s : State) (a b o : Nat) (hb : b ≠ a) (h : o < 2 ^ 32) :
    (s.zeroAlloc a).rdByte b o = s.rdByte b o := by
  unfold State.rdByte State.zeroAlloc
  rw [Sparse.get_filter (0 : Byte) (memKey b o) (fun k => !decide (k / 2 ^ 32 = a))]
  have : memKey b o / 2 ^ 32 = b := by unfold memKey; omega
  rw [this]; simp [hb]

end Sys2Proof.Machine
end

