-- ==== Sys2Proof/Laws/Ops.lean ====
section
/-! SUPPORT. What the shared operations do, once for each. -/

namespace Sys2Proof.Machine

/-- A write that its session may make has its effect (R650). -/
theorem State.guarded_may {s : State} {sess i j : Nat} (f : State → State) (h : MayWrite s sess i j) :
    s.guarded sess i j f = f s := by
  obtain ⟨x, hx, hc⟩ := h
  simp [State.guarded, hx, hc]

/-- A reset that keeps some registers puts the others at their defaults (R692). -/
theorem State.reg_of_filter (s t : State) (p : Nat → Bool) (h : t.regs = s.regs.filter (fun q => p q.1)) (k : Nat) :
    t.reg k = if p k then s.reg k else regDefault k := by
  unfold State.reg; rw [h]; exact Sparse.get_filter _ _ _ _

/-- A local event at a gate to come, with room in the table, is entered (R59, R60). -/
theorem State.scheduleLocal_next (s : State) (k : SchedKind) (h1 : 0 < s.gatePeriod) (h2 : s.schedCount < 256) (g : Nat) (hg :
    s.nextGate ≤ g) :
    s.scheduleLocal g k = { s with time := { s.time with events := s.time.events ++ [⟨g, k⟩] } } := by
  have : s.beatNo < s.nextGate := by
    unfold State.nextGate gateFrom ceilDiv
    rw [if_neg (by omega)]
    have := Nat.div_add_mod (s.beatNo + 1 + s.gatePeriod - 1) s.gatePeriod
    have := Nat.mod_lt (s.beatNo + 1 + s.gatePeriod - 1) h1
    rw [Nat.mul_comm]; omega
  unfold State.scheduleLocal State.schedule
  rw [if_neg (by omega)]; simp [h2]

/-- Reading a context after setting one. -/
theorem State.ctx_setCtx_ite (s : State) (c x d y : Nat) (v : Ctx) :
    (s.setCtx c x v).ctx d y = if ctxKey d y = ctxKey c x then v else s.ctx d y := by
  simp [State.ctx, State.setCtx, Sparse.get_set]

/-- Waking the yielded contexts leaves the one that issues (R374). -/
theorem State.ctx_wakeYielded_same (s : State) (c x : Nat) : (s.wakeYielded c x).ctx c x = s.ctx c x := by
  unfold State.wakeYielded
  have : ∀ (is : List Nat) (t : State), (is.foldl (fun t i =>
    let y := t.ctx c i
    if i ≠ x ∧ y.state = 3 ∧ y.waits = .yielded then t.setCtx c i { y with state := 1, waits := .nothing } else t) t).ctx c x = t.ctx c x := by
    intro is
    induction is with
    | nil => intro t; rfl
    | cons i is ih =>
      intro t
      rw [List.foldl_cons, ih]
      dsimp only
      split
      · rename_i h
        rw [State.ctx_setCtx_ite, if_neg]
        unfold ctxKey; omega
      · rfl
  exact this _ _

/-- Waking the yielded contexts changes contexts alone. -/
theorem State.wakeYielded_eq (s : State) (c x : Nat) : ∃ m, s.wakeYielded c x = { s with ctxs := m } := by
  unfold State.wakeYielded
  generalize List.range 4 = is
  induction is generalizing s with
  | nil => exact ⟨s.ctxs, rfl⟩
  | cons i is ih =>
    rw [List.foldl_cons]
    dsimp only
    split
    · obtain ⟨m, h⟩ := ih (s.setCtx c i { s.ctx c i with state := 1, waits := .nothing }); exact ⟨m, h⟩
    · exact ih s

/-- An instruction that issues has its effect on the state that issuing leaves. -/
theorem State.issue_ok {s : State} {c x : Nat} {k : Work} (h : Issues s c x k) (f : Work → State → State) :
    s.issue c x f = f k (s.started c x) := by
  obtain ⟨h1, ⟨w, h2⟩, h3⟩ := h
  unfold State.issue
  rw [if_pos h1, h2]
  dsimp only
  have e : (s.wakeYielded c x).fetchOk k ((s.wakeYielded c x).ctx c x).ip = true := by
    rw [State.ctx_wakeYielded_same]
    obtain ⟨m, hm⟩ := State.wakeYielded_eq s c x
    rw [hm]; exact h3
  rw [if_pos e]; rfl

/-- Issuing moves the context past its word. -/
@[simp] theorem State.started_ctx (s : State) (c x : Nat) : (s.started c x).ctx c x = { s.ctx c x with state := 2, waits := .nothing, ip :=
    (s.ctx c x).ip + 16 } := by
  simp [State.started, State.ctx_wakeYielded_same]

/-- Issuing changes contexts alone. -/
theorem State.started_eq (s : State) (c x : Nat) : ∃ m, s.started c x = { s with ctxs := m } := by
  obtain ⟨m, hm⟩ := State.wakeYielded_eq s c x
  unfold State.started; rw [hm]; exact ⟨_, rfl⟩

/-- A thread instruction that issues has its effect on the active threads (R195, R196). -/
theorem State.threadIssue_ok {s : State} {c g x : Nat} {k : Work} (h : ThreadIssues s c g x k) (w : ThreadWord) (f :
    Nat → Work → List Nat → State → State) :
    s.threadIssue c g w f = f x k (s.activeOf c g w) s := by
  obtain ⟨kn, ip, wi, h1, rfl, h2, h3, h4⟩ := h
  simp [State.threadIssue, h1, h2, h3, h4]

/-- A write without the right is a violation counted in its session, and nothing else (R650, R651). -/
theorem State.guarded_mayNot {s : State} {sess i j : Nat} (f : State → State) (h : MayNotWrite s sess i j) :
    s.guarded sess i j f = s.violate sess := by
  obtain ⟨x, hx, hc⟩ := h
  simp [State.guarded, hx, hc]

/-- A session that is not open writes nothing (R663). -/
theorem State.guarded_none {s : State} {sess i j : Nat} (f : State → State) (h : s.session? sess = none) :
    s.guarded sess i j f = s := by
  simp [State.guarded, h]

/-- A frame on its way out changes neither registers nor sessions. -/
@[simp] theorem State.transmit_frame (s : State) (m : EthMsg) :
    (s.transmit m).regs = s.regs ∧ (s.transmit m).sessions = s.sessions ∧ (s.transmit m).handshakes = s.handshakes ∧
    (s.transmit m).pending = s.pending := by
  unfold State.transmit
  split <;> simp

/-- Nor does a solicitation. -/
@[simp] theorem State.solicit_frame (s : State) (port hop : Nat) :
    (s.solicit port hop).regs = s.regs ∧ (s.solicit port hop).sessions = s.sessions ∧
    (s.solicit port hop).handshakes = s.handshakes ∧ (s.solicit port hop).pending = s.pending := State.transmit_frame _ _

/-- A message sent over IP changes neither registers nor sessions. -/
theorem State.sendIp_frame (s : State) (port : Nat) (rdma : Bool) (peer : Nat) (m : Msg) :
    (s.sendIp port rdma peer m).regs = s.regs ∧ (s.sendIp port rdma peer m).sessions = s.sessions ∧
    (s.sendIp port rdma peer m).handshakes = s.handshakes ∧ (s.sendIp port rdma peer m).pending = s.pending := by
  simp only [State.sendIp]
  repeat' split
  all_goals simp

end Sys2Proof.Machine
end

