-- ==== Sys2Proof/Laws/Reports.lean ====
section
/-! SUPPORT. What sending, notices and fault reports change, and what a faulted context leaves. -/

namespace Sys2Proof.Machine

/-- Between two states only what has been sent differs: what left the package, the Ethernet ports' queues, the sessions' notices. -/
def Sends (s t : State) : Prop := ∃ o e ss, t = { s with out := o, eth := e, sessions := ss }

theorem Sends.refl (s : State) : Sends s s := ⟨s.out, s.eth, s.sessions, rfl⟩

theorem Sends.trans {s t u : State} : Sends s t → Sends t u → Sends s u := by
  rintro ⟨o, e, ss, rfl⟩ ⟨o1, e1, ss1, rfl⟩; exact ⟨o1, e1, ss1, rfl⟩

/-- A fold of sending steps sends. -/
theorem Sends.foldl {α : Type} (f : State → α → State) (h : ∀ s a, Sends s (f s a)) (l : List α) (s : State) : Sends s (l.foldl f s) := by
  induction l generalizing s with
  | nil => exact Sends.refl s
  | cons a l ih => exact (h s a).trans (ih _)

/-- Sending a frame only sends. -/
theorem State.transmit_sends (s : State) (m : EthMsg) : Sends s (s.transmit m) := by
  unfold State.transmit; split
  · exact ⟨s.out, _, s.sessions, rfl⟩
  · exact ⟨_, s.eth, s.sessions, rfl⟩

/-- A message over IP only sends. -/
theorem State.sendIp_sends (s : State) (port : Nat) (rdma : Bool) (peer : Nat) (m : Msg) : Sends s (s.sendIp port rdma peer m) := by
  simp only [State.sendIp]
  split
  · exact State.transmit_sends _ _
  · split
    · exact ⟨s.out, _, s.sessions, rfl⟩
    · exact ((Sends.trans ⟨s.out, _, s.sessions, rfl⟩ (State.transmit_sends _ _)).trans (State.transmit_sends _ _)).trans
        (State.transmit_sends _ _)

/-- A message of a session only sends. -/
theorem State.sendSession_sends (s : State) (id net peer : Nat) (m : Msg) : Sends s (s.sendSession id net peer m) := by
  unfold State.sendSession; split
  · exact Sends.trans ⟨s.out, s.eth, _, rfl⟩ (State.sendIp_sends _ _ _ _ _)
  · exact State.sendIp_sends _ _ _ _ _

/-- Pumping a session's queue only sends. -/
theorem State.pump_sends (s : State) (x : Session) : Sends s (s.pump x) :=
  Sends.trans ⟨s.out, s.eth, _, rfl⟩ (Sends.foldl _ (fun _ _ => State.sendSession_sends _ _ _ _ _) _ _)

/-- A notice only sends. -/
theorem State.notify_sends (s : State) (k : Nat) (v : List Byte) : Sends s (s.notify k v) := by
  refine Sends.foldl _ (fun t x => ?_) _ _
  split
  · split
    · exact State.pump_sends _ _
    · exact Sends.refl _
  · exact Sends.refl _

/-- What a report of class 1 or 2 may change: the collectors, the status words, the registers, what is sent, the device's log, and the
step it vetoes. -/
def Reports (s t : State) : Prop := ∃ o e ss cs ls d ts gs m, t = { s with
  out := o, eth := e, sessions := ss, captures := cs, latches := ls, dev := d, tenants := ts, generations := gs, regs := m }

theorem Reports.trans {s t u : State} : Reports s t → Reports t u → Reports s u := by
  rintro ⟨o, e, ss, cs, ls, d, ts, gs, m, rfl⟩ ⟨o1, e1, ss1, cs1, ls1, d1, ts1, gs1, m1, rfl⟩
  exact ⟨o1, e1, ss1, cs1, ls1, d1, ts1, gs1, m1, rfl⟩

theorem Sends.reports {s t : State} : Sends s t → Reports s t := by
  rintro ⟨o, e, ss, rfl⟩
  exact ⟨o, e, ss, s.captures, s.latches, s.dev, s.tenants, s.generations, s.regs, rfl⟩

/-- Collecting a report changes the captures alone. -/
theorem State.collect_eq (s : State) (r : FaultRep) : ∃ cs, s.collect r = { s with captures := cs } := by
  unfold State.collect
  simp only [State.setCapture]
  split <;> exact ⟨_, rfl⟩

/-- The status words latch, and nothing else. -/
theorem State.latchStatus_eq (s : State) (r : FaultRep) : ∃ ls, s.latchStatus r = { s with latches := ls } := ⟨_, rfl⟩

/-- Raising an event writes its object and sends. -/
theorem State.raise_spec (s : State) (k : Nat) (v : List Byte) : Reports s (s.raise k v) ∧
    ∀ j, j ≠ k → (s.raise k v).reg j = s.reg j := by
  unfold State.raise
  obtain ⟨o, e, ss, h⟩ := State.notify_sends (s.setReg k (fromBytes v)) k v
  rw [h]
  exact ⟨⟨o, e, ss, s.captures, s.latches, s.dev, s.tenants, s.generations, _, rfl⟩, fun j h1 => State.reg_setReg_other _ _ _ _ h1⟩

/-- The fault event sends, and changes the event object or the count of those dropped. -/
theorem State.faultEvent_spec (s : State) (r : FaultRep) : Reports s (s.faultEvent r) ∧
    ∀ k, k ≠ Obj.lastFaultEvent → k ≠ Obj.eventDropCount → (s.faultEvent r).reg k = s.reg k := by
  unfold State.faultEvent
  split
  · exact ⟨(Sends.refl s).reports, fun _ _ _ => rfl⟩
  · dsimp only
    generalize (if s.dev.secondFaults.1 = s.up / 1000000000 then s.dev.secondFaults.2 else 0) = used
    split
    · refine ⟨Reports.trans ⟨s.out, s.eth, s.sessions, s.captures, s.latches, _, s.tenants, s.generations, s.regs, rfl⟩
        (State.raise_spec _ _ _).1, fun k h1 _ => (State.raise_spec _ _ _).2 k h1⟩
    · refine ⟨⟨s.out, s.eth, s.sessions, s.captures, s.latches, s.dev, s.tenants, s.generations, _, rfl⟩, fun k _ h1 => ?_⟩
      exact State.reg_setReg_other _ _ _ _ h1

/-- The log takes a record, or a counter says it was left out. -/
theorem State.logFault_spec (s : State) (r : FaultRep) : Reports s (s.logFault r) ∧
    ∀ k, k ≠ Obj.logSkipCount → (s.logFault r).reg k = s.reg k := by
  have log : ∀ b : Bool, ∀ d, let t := if b then s.count 32 Obj.logSkipCount else ({ s with dev := d } : State).bump Obj.faultLog
      Reports s t ∧ ∀ k, k ≠ Obj.logSkipCount → t.reg k = s.reg k := by
    intro b d
    cases b
    · exact ⟨⟨s.out, s.eth, s.sessions, s.captures, s.latches, _, s.tenants, _, s.regs, rfl⟩, fun _ _ => rfl⟩
    · refine ⟨⟨s.out, s.eth, s.sessions, s.captures, s.latches, s.dev, s.tenants, s.generations, _, rfl⟩, fun k h1 => ?_⟩
      exact State.reg_setReg_other _ _ _ _ h1
  unfold State.logFault
  split
  · exact ⟨(Sends.refl s).reports, fun _ _ => rfl⟩
  · exact log _ _

/-- A contained report (R613, R638): one more at its die, and nothing but what a report may change. -/
theorem State.report_contained (s : State) (r : FaultRep) (h : r.cls = 2) : Reports s (s.report r) ∧
    (s.report r).reg (Obj.containedCount (unitDie r.reporter)) = (s.reg (Obj.containedCount (unitDie r.reporter)) + 1) % 2 ^ 64 ∧
    ∀ k, k ≠ Obj.lastFaultEvent → k ≠ Obj.eventDropCount → k ≠ Obj.logSkipCount → k ≠ Obj.containedCount (unitDie r.reporter) →
      (s.report r).reg k = s.reg k := by
  have hd : unitDie r.reporter < 16 := by unfold unitDie bits; omega
  generalize hq : Obj.containedCount (unitDie r.reporter) = q
  have hne : q ≠ Obj.lastFaultEvent ∧ q ≠ Obj.eventDropCount ∧ q ≠ Obj.logSkipCount := by
    subst hq; simp only [Obj.containedCount, Obj.lastFaultEvent, Obj.eventDropCount, Obj.logSkipCount, obj]; omega
  unfold State.report
  rw [if_neg (by omega)]
  unfold State.reportOnly
  obtain ⟨cs, h1⟩ := State.collect_eq s r
  obtain ⟨ls, h2⟩ := State.latchStatus_eq (s.collect r) r
  rw [h2, h1]
  have h3 : ({ s with captures := cs, latches := ls } : State).countClass r = ({ s with captures := cs, latches := ls } : State).count 64 q := by
    unfold State.countClass; simp [h, hq]
  show Reports s _ ∧ _
  rw [h3]
  obtain ⟨e1, e2⟩ := State.faultEvent_spec (({ s with captures := cs, latches := ls } : State).count 64 q) r
  obtain ⟨l1, l2⟩ := State.logFault_spec ((({ s with captures := cs, latches := ls } : State).count 64 q).faultEvent r) r
  have base : Reports s (({ s with captures := cs, latches := ls } : State).count 64 q) :=
    ⟨s.out, s.eth, s.sessions, cs, ls, s.dev, s.tenants, s.generations, _, rfl⟩
  have fin : ∀ n st, Reports s (((((({ s with captures := cs, latches := ls } : State).count 64 q).faultEvent r).logFault r)).vetoStep n st) := fun n st =>
    ((base.trans e1).trans l1).trans ⟨_, _, _, _, _, _, _, _, _, rfl⟩
  have same : (((({ s with captures := cs, latches := ls } : State).count 64 q).faultEvent r).logFault r).reg q = (s.reg q + 1) % 2 ^ 64 := by
    rw [l2 q hne.2.2, e2 q hne.1 hne.2.1]; exact State.reg_setReg_same _ _ _
  have other : ∀ k, k ≠ Obj.lastFaultEvent → k ≠ Obj.eventDropCount → k ≠ Obj.logSkipCount → k ≠ q →
      (((({ s with captures := cs, latches := ls } : State).count 64 q).faultEvent r).logFault r).reg k = s.reg k := by
    intro k a b c d
    rw [l2 k c, e2 k a b]; exact State.reg_setReg_other _ _ _ _ d
  split
  · split
    · exact ⟨fin _ _, same, other⟩
    · exact ⟨(base.trans e1).trans l1, same, other⟩
  · exact ⟨(base.trans e1).trans l1, same, other⟩

/-- A context that is stopped by a fault (R189, R394). -/
theorem State.stopFaulted_spec (s : State) (c x unit access : Nat) :
    (∃ ct co, s.stopFaulted c x unit access = { s with ctxs := ct, cores := co }) ∧
    ((s.stopFaulted c x unit access).ctx c x).state = 4 ∧ ((s.stopFaulted c x unit access).ctx c x).waits = .nothing ∧
    ((s.stopFaulted c x unit access).ctx c x).firstFault = some ((s.ctx c x).firstFault.getD (unit, access)) ∧
    ((s.stopFaulted c x unit access).core c).kernels = ((s.core c).kernels.filter fun k => k.ctx != x) ∧
    (∀ d y, ctxKey d y ≠ ctxKey c x → (s.stopFaulted c x unit access).ctx d y = s.ctx d y) ∧
    (∀ d, d ≠ c → (s.stopFaulted c x unit access).core d = s.core d) := by
  unfold State.stopFaulted State.endKernels
  dsimp only
  split
  · rename_i h
    refine ⟨⟨_, s.cores, rfl⟩, ?_, ?_, ?_, ?_, ?_, ?_⟩
    · simp
    · simp
    · simp only [State.ctx_setCtx]; show _ = some (Option.getD (s.ctx c x).firstFault _); cases (s.ctx c x).firstFault <;> rfl
    · show (s.core c).kernels = _
      simp only [List.isEmpty_iff, List.filter_eq_nil_iff] at h
      rw [List.filter_eq_self.2]
      intro k hk; simpa using h k hk
    · intro d y h1; exact State.ctx_setCtx_other _ _ _ _ _ _ h1
    · intro d _; rfl
  · refine ⟨⟨_, _, rfl⟩, ?_, ?_, ?_, ?_, ?_, ?_⟩
    · simp
    · simp
    · simp only [State.ctx_setCtx]; show _ = some (Option.getD (s.ctx c x).firstFault _); cases (s.ctx c x).firstFault <;> rfl
    · show ((State.setCore s c _).core c).kernels = _; rw [State.core_setCore]
    · intro d y h1
      rw [State.ctx_setCtx_ite, if_neg h1, State.ctx_setCtx_ite, if_neg h1]; rfl
    · intro d h1
      show State.core (State.setCore s c _) d = _
      exact State.core_setCore_other _ _ _ _ h1

/-- A fault of a context faults it (R144, R189, R394, R613). -/
theorem State.faultCtx_faulted (s : State) (c x unit cause access addr part : Nat) :
    CtxFaulted s (s.faultCtx c x unit cause access addr part) c x unit access := by
  unfold State.faultCtx
  dsimp only
  obtain ⟨⟨ct, co, h1⟩, h2, h3, h4, h5, h6, h7⟩ := State.stopFaulted_spec s c x unit access
  have hd : unitDie unit < 16 := by unfold unitDie bits; omega
  have key : ∀ t : State, Reports (s.stopFaulted c x unit access) t →
      t.reg (Obj.containedCount (unitDie unit)) = ((s.stopFaulted c x unit access).reg (Obj.containedCount (unitDie unit)) + 1) % 2 ^ 64 →
      CtxFaulted s t c x unit access := by
    rintro t ⟨o, e, ss, cs, ls, d, ts, gs, m, rfl⟩ hr
    rw [h1] at h2 h3 h4 h5 h6 h7 hr ⊢
    exact ⟨⟨h2, h3⟩, h4, h5, h6, h7, ⟨rfl, rfl⟩, hr⟩
  split
  · split
    · rename_i n _ _ _
      have hne : Obj.containedCount (unitDie unit) ≠ Obj.versionFaultCount n := by
        unfold Obj.containedCount Obj.versionFaultCount obj; omega
      have cnt : ∀ (u : State) (q : Nat), Reports u (u.count 32 q) := fun u q =>
        ⟨u.out, u.eth, u.sessions, u.captures, u.latches, u.dev, u.tenants, u.generations, _, rfl⟩
      refine key _ ((cnt _ _).trans (State.report_contained _ _ rfl).1) ?_
      · rw [(State.report_contained _ _ rfl).2.1]
        show ((State.reg (State.setReg _ _ _) _) + 1) % 2 ^ 64 = _
        rw [State.reg_setReg_other _ _ _ _ hne]
    · exact key _ (State.report_contained _ _ rfl).1 (State.report_contained _ _ rfl).2.1
  · exact key _ (State.report_contained _ _ rfl).1 (State.report_contained _ _ rfl).2.1

/-- A fault of an instruction faults its context. -/
theorem State.opFault_faulted (s : State) (c x unit part : Nat) (f : OpFault) (addr : Nat) (write : Bool) :
    CtxFaulted s (s.opFault c x unit part f addr write) c x unit
      (if f = .address ∨ f = .version ∨ f = .poison then b2n write else 8) := by
  unfold State.opFault
  split <;> exact State.faultCtx_faulted _ _ _ _ _ _ _ _

end Sys2Proof.Machine
end

