-- ==== Sys2Proof/Laws/Threads.lean ====
section
/-! SUPPORT. The registers of thread groups, and what an instruction of a group leaves (R195, R196). -/

namespace Sys2Proof.Machine

/-- Reading a thread after setting one. -/
theorem State.thread_setThread (s : State) (c g i d h j : Nat) (v : Thread) (hi : i < 64) (hj : j < 64) (hg : g < 64) (hh : h < 64) :
    (s.setThread c g i v).thread d h j = if d = c ∧ h = g ∧ j = i then v else s.thread d h j := by
  unfold State.thread State.setThread
  rw [Sparse.get_set]
  congr 1
  unfold threadKey; simp; omega

/-- Reading a register after writing one. -/
theorem Thread.reg_setReg (t : Thread) (r v q : Nat) : (t.setReg r v).reg q = if q = r then v % 2 ^ 32 else t.reg q := by
  unfold Thread.setReg Thread.reg; rw [Sparse.get_set]

/-- Writing a register of some threads, each with its value: those threads take theirs, and nothing else changes. -/
theorem State.setRegs_spec (c g r : Nat) (hg : g < 64) (vals : List (Nat × Nat)) : ∀ (s : State), (∀ p ∈ vals, p.1 < 64) →
    (vals.map (·.1)).Nodup →
    (∀ p ∈ vals, ((s.setRegs c g r vals).thread c g p.1).reg r = p.2 % 2 ^ 32) ∧
    (∀ i q, i < 64 → q ≠ r → ((s.setRegs c g r vals).thread c g i).reg q = (s.thread c g i).reg q) ∧
    (∀ i, i < 64 → ((s.setRegs c g r vals).thread c g i).preds = (s.thread c g i).preds ∧
      ((s.setRegs c g r vals).thread c g i).exited = (s.thread c g i).exited) ∧
    (∀ i, i < 64 → i ∉ vals.map (·.1) → (s.setRegs c g r vals).thread c g i = s.thread c g i) ∧
    (∀ d h i, i < 64 → h < 64 → d ≠ c ∨ h ≠ g → (s.setRegs c g r vals).thread d h i = s.thread d h i) ∧
    (∃ m, s.setRegs c g r vals = { s with threads := m }) := by
  induction vals with
  | nil =>
    intro s _ _
    exact ⟨by simp, fun _ _ _ _ => rfl, fun _ _ => ⟨rfl, rfl⟩, fun _ _ _ => rfl, fun _ _ _ _ _ _ => rfl, ⟨s.threads, rfl⟩⟩
  | cons p vals ih =>
    intro s h1 h2
    have hp := h1 p (by simp)
    simp only [List.map_cons, List.nodup_cons] at h2
    obtain ⟨i1, i2, i3, i4, i5, i6⟩ := ih (s.setThread c g p.1 ((s.thread c g p.1).setReg r p.2)) (fun q hq => h1 q (by simp [hq])) h2.2
    have e : s.setRegs c g r (p :: vals) = (s.setThread c g p.1 ((s.thread c g p.1).setReg r p.2)).setRegs c g r vals := rfl
    rw [e]
    refine ⟨?_, ?_, ?_, ?_, ?_, ?_⟩
    · intro q hq
      simp only [List.mem_cons] at hq
      rcases hq with rfl | hq
      · rw [i4 _ hp h2.1, State.thread_setThread _ _ _ _ _ _ _ _ hp hp hg hg]; simp [Thread.reg_setReg]
      · exact i1 q hq
    · intro i q hi hq
      rw [i2 i q hi hq, State.thread_setThread _ _ _ _ _ _ _ _ hp hi hg hg]
      split
      · rename_i h; obtain ⟨-, -, rfl⟩ := h; simp [Thread.reg_setReg, hq]
      · rfl
    · intro i hi
      rw [(i3 i hi).1, (i3 i hi).2, State.thread_setThread _ _ _ _ _ _ _ _ hp hi hg hg]
      split
      · rename_i h; obtain ⟨-, -, rfl⟩ := h; exact ⟨rfl, rfl⟩
      · exact ⟨rfl, rfl⟩
    · intro i hi hn
      simp only [List.map_cons, List.mem_cons, not_or] at hn
      rw [i4 i hi hn.2, State.thread_setThread _ _ _ _ _ _ _ _ hp hi hg hg, if_neg (by simp [hn.1])]
    · intro d h i hi hh hd
      rw [i5 d h i hi hh hd, State.thread_setThread _ _ _ _ _ _ _ _ hp hi hg hh, if_neg (by omega)]
    · obtain ⟨m, hm⟩ := i6; exact ⟨m, hm⟩

/-- The active threads of a group. -/
theorem State.mem_activeOf {s : State} {c g i : Nat} {w : ThreadWord} :
    i ∈ s.activeOf c g w ↔ i < 64 ∧ (s.thread c g i).active w = true := by
  simp [State.activeOf]

/-- Each is named once. -/
theorem State.activeOf_nodup (s : State) (c g : Nat) (w : ThreadWord) : (s.activeOf c g w).Nodup :=
  List.Pairwise.filter _ List.nodup_range

/-- Issuing moves the group to its next word, leaves the others of its core, and is counted. -/
theorem State.threadIssued_spec (s : State) (c g : Nat) :
    ((s.threadIssued c g).kernelOn c g).map (·.2) = (s.kernelOn c g).map (·.2 + 16) ∧
    (∀ h, h ≠ g → ((s.threadIssued c g).kernelOn c h).map (·.2) = (s.kernelOn c h).map (·.2)) ∧
    (s.threadIssued c g).reg (Obj.vectorIssueCount c) = (s.reg (Obj.vectorIssueCount c) + 1) % 2 ^ 64 ∧
    RegsBut [Obj.vectorIssueCount c] s (s.threadIssued c g) ∧
    (∀ d, d ≠ c → (s.threadIssued c g).core d = s.core d) ∧
    { (s.threadIssued c g).core c with kernels := (s.core c).kernels } = s.core c ∧
    { s.threadIssued c g with regs := s.regs, cores := s.cores } = s := by
  have key : ∀ ks : List Kernel, ∀ h, ((ks.map fun (k : Kernel) => ({ k with
      groups := k.groups.map (fun (p : Nat × Nat × Nat) => if p.1 = g then (p.1, p.2.1, p.2.2 + 16) else p),
      held := k.held.filter fun (q : Nat × WaitFor) => q.1 != g } : Kernel)).findSome? fun k =>
        (k.groups.find? fun (p : Nat × Nat × Nat) => p.1 == h).map fun p => (k, p.2.2)).map (·.2) =
      (ks.findSome? fun k => (k.groups.find? fun p => p.1 == h).map fun p => (k, p.2.2)).map fun q => if h = g then q.2 + 16 else q.2 := by
    intro ks h
    have inner : ∀ gs : List (Nat × Nat × Nat),
        ((gs.map fun p => if p.1 = g then (p.1, p.2.1, p.2.2 + 16) else p).find? fun p => p.1 == h) =
        (gs.find? fun p => p.1 == h).map fun p => if p.1 = g then (p.1, p.2.1, p.2.2 + 16) else p := by
      intro gs
      induction gs with
      | nil => rfl
      | cons p gs ih =>
        simp only [List.map_cons, List.find?_cons]
        have : ((if p.1 = g then (p.1, p.2.1, p.2.2 + 16) else p).1 == h) = (p.1 == h) := by split <;> rfl
        rw [this]
        split
        · rfl
        · exact ih
    induction ks with
    | nil => rfl
    | cons k ks ih =>
      simp only [List.map_cons, List.findSome?_cons, inner]
      cases hq : k.groups.find? fun p => p.1 == h with
      | none => simpa using ih
      | some p =>
        have hp := List.find?_some hq
        simp only [beq_iff_eq] at hp
        subst hp
        simp only [Option.map_some]
        refine congrArg some ?_
        split <;> rfl
  refine ⟨?_, ?_, ?_, ?_, ?_, ?_, ?_⟩
  · have := key (s.core c).kernels g
    simp only [if_true] at this
    simp only [State.kernelOn, State.threadIssued, State.addReg, State.setReg_frame, State.core_setCore]
    exact this
  · intro h hh
    have := key (s.core c).kernels h
    simp only [if_neg hh] at this
    simp only [State.kernelOn, State.threadIssued, State.addReg, State.setReg_frame, State.core_setCore]
    exact this
  · exact State.reg_setReg_same _ _ _
  · intro k hk
    exact State.reg_setReg_other _ _ _ _ (by simpa using hk)
  · intro d hd; exact State.core_setCore_other _ _ _ _ hd
  · simp only [State.threadIssued, State.addReg, State.setReg_frame, State.core_setCore]
  · rfl

/-- A group's instruction that writes register r of its active threads leaves the rest (R195, R196). -/
theorem State.setRegs_leaves (s : State) (c g r : Nat) (w : ThreadWord) (f : Nat → Nat) (hg : g < 64) :
    let t := (s.setRegs c g r ((s.activeOf c g w).map fun i => (i, f i))).threadIssued c g
    LaneLeaves s t c g r w ∧ (∀ i, i < 64 → (t.thread c g i).exited = (s.thread c g i).exited) ∧
    (∀ i, i < 64 → (s.thread c g i).active w = true → (t.thread c g i).reg r = f i % 2 ^ 32) ∧
    RegsBut [Obj.vectorIssueCount c] s t ∧ { t with threads := s.threads, regs := s.regs, cores := s.cores } = s := by
  obtain ⟨i1, i2, i3, i4, i5, m, hm⟩ := State.setRegs_spec c g r hg ((s.activeOf c g w).map fun i => (i, f i)) s
    (by intro q hq; simp at hq; obtain ⟨i, hi, rfl⟩ := hq; exact (State.mem_activeOf.1 hi).1)
    (by rw [List.map_map]; simpa [Function.comp_def] using State.activeOf_nodup s c g w)
  rw [hm] at i1 i2 i3 i4 i5
  rw [hm]
  dsimp only
  obtain ⟨t1, t2, t3, t4, t5, t6, t7⟩ := State.threadIssued_spec { s with threads := m } c g
  refine ⟨⟨i2, fun i hi => (i3 i hi).1, fun i hi ha => i4 i hi ?_, i5, t1, t2, t3, t5, t6⟩, fun i hi => (i3 i hi).2, ?_, t4, ?_⟩
  · simp [State.mem_activeOf, ha]
  · intro i hi ha
    exact i1 (i, f i) (List.mem_map.2 ⟨i, State.mem_activeOf.2 ⟨hi, ha⟩, rfl⟩)
  · rfl

end Sys2Proof.Machine
end

