-- ==== Sys2Proof/WellFormed.lean ====
section
/-!
DEFINITION. The commands that can be written: every operand within the width the spec gives its field. A command outside
them cannot come to the block.
-/

namespace Sys2Proof

/-- w is a number of n bits. -/
def fits (n w : Nat) : Bool := decide (w < 2 ^ n)

/-- The MMA word's fields have their widths (R158). -/
def MmaWord.wf (w : MmaWord) : Bool :=
  fits 12 w.x && fits 12 w.w && fits 12 w.y && fits 12 w.tout && fits 12 w.tx && fits 12 w.tw && fits 8 w.osc && fits 2 w.part &&
  fits 11 w.abase && fits 5 w.lst && fits 10 w.cp

/-- The scalar word's fields have their widths (R375). -/
def ScalarWord.wf (w : ScalarWord) : Bool :=
  fits 5 w.sd && fits 5 w.sa && fits 5 w.sb && fits 8 w.token && fits 16 w.cnt && fits 64 w.imm

/-- The thread word's fields have their widths (R199). -/
def ThreadWord.wf (w : ThreadWord) : Bool :=
  fits 2 w.pred && fits 12 w.d && fits 12 w.a && fits 12 w.b && fits 12 w.c && fits 32 w.imm

/-- The row word's fields have their widths (R209). -/
def RowWord.wf (w : RowWord) : Bool :=
  fits 12 w.x && fits 12 w.y && fits 12 w.g && fits 12 w.b && fits 16 w.sbase && fits 32 w.imm && fits 16 w.ofs

/-- The update word's fields have their widths (R279). -/
def UpdWord.wf (w : UpdWord) : Bool :=
  fits 12 w.g && fits 12 w.w && fits 12 w.wx && fits 12 w.m1 && fits 12 w.m2 && fits 12 w.u && fits 12 w.h && fits 12 w.r

/-- The fold word's fields have their widths (R280). -/
def FoldWord.wf (w : FoldWord) : Bool :=
  fits 12 w.u && fits 12 w.w && fits 12 w.wx && fits 12 w.y && fits 12 w.r

/-- The data mover word's fields have their widths (R251). -/
def DmWord.wf (w : DmWord) : Bool :=
  fits 12 w.x && fits 12 w.y && fits 12 w.g && fits 12 w.cnt && fits 32 w.imm0 && fits 32 w.imm1

/-- The Lift word's fields have their widths (R341, R343). -/
def LiftWord.wf (w : LiftWord) : Bool :=
  fits 2 w.tier && fits 2 w.place && fits 12 w.x && fits 3 w.die && fits 3 w.cl && fits 3 w.co && fits 24 w.deadline &&
  fits 16 w.cid && fits 8 w.token

/-- The copy-with-collective word's fields have their widths (R512). -/
def CcWord.wf (w : CcWord) : Bool := fits 12 w.x && fits 12 w.y && fits 10 w.cp

/-- An envelope's fields have their widths (R653, R662). -/
def Envelope.wf (e : Envelope) : Bool :=
  fits 8 e.version && fits 32 e.session && fits 64 e.sequence && e.tag.length == 32 && fits 1 e.net && fits 32 e.requestId

/-- An object's name has its widths (R640). -/
def ObjRef.wf (o : ObjRef) : Bool := fits 16 o.index && fits 8 o.sub

/-- A fault report's fields have their widths and values (R613, R622). -/
def FaultRep.wf (r : FaultRep) : Bool :=
  decide (1 ≤ r.cls) && decide (r.cls ≤ 3) && fits 8 r.cause && fits 16 r.reporter && fits 16 r.master && fits 4 r.access &&
  fits 3 r.partition && fits 64 r.address &&
  (match r.work with | some (n, x, st) => fits 4 n && fits 2 x && fits 64 st | none => true)

/-- The places exist: 2,048 accumulator rows of 64 columns, at most four partitions of two planes, 65,536 side entries (R124, R141, R208). -/
def ErrSite.wf : ErrSite → Bool
  | .elsewhere => true
  | .accumulator r c => decide (r < 2048) && decide (c < 64)
  | .plane p w => decide (p < 4) && decide (w < 2)
  | .side e => decide (e < 65536)

/-- A packet's fields have their widths, its length its bounds (R473). -/
def Packet.wf (p : Packet) : Bool :=
  fits 8 p.ptype && fits 8 p.flags && fits 14 p.dest && fits 14 p.source && fits 6 p.channel && fits 4 p.tenant && fits 64 p.sequence &&
  fits 32 p.epoch && fits 8 p.drawingId && fits 8 p.hops && fits 16 p.replySlot && fits 64 p.deadline && fits 64 p.address &&
  fits 64 p.ackSequence && decide (p.payload.length ≤ if p.ptype = 4 then 65536 else 4096)

/-- A ledger message's fields have their widths (R574). -/
def LedgerMsg.wf (m : LedgerMsg) : Bool :=
  fits 8 m.kind && fits 16 m.attempt && fits 32 m.jobEpoch && fits 64 m.step && fits 32 m.jobId && fits 16 m.sender && fits 16 m.voters &&
  fits 32 m.causes && fits 8 m.findings && fits 16 m.proposal && fits 64 m.commitGate && fits 64 m.nonfinite && fits 32 m.loss &&
  fits 32 m.gradNorm && decide (m.agreement.length = 32)

/-- An axis record's fields have their widths (R464). -/
def AxisRec.wf (a : AxisRec) : Bool :=
  fits 8 a.axisId && fits 8 a.kind && fits 16 a.length && fits 16 a.coordinate && fits 16 a.nextChip && fits 16 a.prevChip &&
  fits 8 a.cut && fits 4 a.tenant

/-- A lane entry's fields have their widths (R465). -/
def LaneEntry.wf (e : LaneEntry) : Bool :=
  fits 4 e.port && fits 3 e.lane && fits 8 e.channel && fits 4 e.axis && fits 4 e.tenant && fits 16 e.txChip && fits 16 e.rxChip

/-- A drawing's fields have their widths; its two counts are bytes (R463). -/
def Drawing.wf (d : Drawing) : Bool :=
  fits 8 d.drawingId && fits 16 d.chip && fits 8 d.axes.length && fits 8 d.lanes.length && d.axes.all AxisRec.wf && d.lanes.all LaneEntry.wf

/-- A map entry's fields have their widths (R316). -/
def MapEntry.wf (e : MapEntry) : Bool :=
  fits 64 e.base && fits 32 e.sizeLines && fits 32 e.tensorId && fits 4 e.tenant && fits 2 e.homeTier && fits 3 e.homeDie &&
  fits 2 e.placeKind && fits 3 e.placeCluster && fits 3 e.placeCore && fits 16 e.shareMask

/-- A mirror entry's fields have their widths (R600). -/
def MirrorSpec.wf (m : MirrorSpec) : Bool :=
  fits 64 m.localBase && fits 16 m.buddyChip && fits 64 m.buddyBase && fits 8 m.role && fits 32 m.tensorId

/-- A beacon's fields have their widths (R588). -/
def Beacon.wf (b : Beacon) : Bool :=
  fits 14 b.chip && fits 16 b.life && fits 32 b.epoch && decide (b.digest.length = 8) && decide (b.status ≤ 4)

/-- An identity record's fields have their widths (R443). -/
def IdRecord.wf (r : IdRecord) : Bool :=
  fits 8 r.major && fits 8 r.minor && fits 64 r.serialDigest && fits 16 r.chip && fits 8 r.physicalPort && fits 8 r.logicalPort &&
  fits 8 r.lane && fits 8 r.channel && fits 16 r.expectedChip && fits 8 r.expectedPort && fits 8 r.drawingId && fits 8 r.flags

/-- A qp_table record's fields have their widths (R731). -/
def QpSpec.wf (v : QpSpec) : Bool :=
  fits 8 v.state && fits 24 v.remoteQpn && fits 3 v.primary && fits 3 v.alternate && fits 128 v.remoteAddress && fits 24 v.sendPsn &&
  fits 24 v.receivePsn && fits 4 v.tenant && fits 8 v.retryCount && fits 32 v.timeoutUs

/-- A laser's window names one of the nine lasers (R426). -/
def LaserWindow.wf (w : LaserWindow) : Bool := decide (w.laser < 9)

/-- Is the command one that can come to the block? -/
def Instr.wf : Instr → Bool
  | .powerGood => true
  | .powerLoss => true
  | .bootStageComplete stage _ failedCores =>
    decide (1 ≤ stage) && decide (stage ≤ 9) && failedCores.all (fun c => decide (c < 512))
  | .coreReset sess => fits 32 sess
  | .packageReset sess => fits 32 sess
  | .drainEnd => true
  | .firmwareUpdate sess _ => fits 32 sess
  | .flashWriteComplete _ => true
  | .rollbackCommit sess value => fits 32 sess && fits 32 value
  | .ownerKeyFuse sess hash => fits 32 sess && decide (hash.length = 32)
  | .keySlotWrite sess slot ks =>
    fits 32 sess && decide (1 ≤ slot) && decide (slot ≤ 31) && decide (ks.hash.length = 32) && fits 4 ks.tenant
  | .attestationNonce sess nonce => fits 32 sess && decide (nonce.length = 32)
  | .supplySample mv maA maB => fits 32 mv && fits 32 maA && fits 32 maB
  | .rideThroughEnd => true
  | .supplyStopTimeout _ => true
  | .bladeImbalance => true
  | .coolantInletHigh _ _ => true
  | .governorSample _ => true
  | .telemetryInvalid die => decide (die < 13)
  | .telemetryValidRestore die => decide (die < 13)
  | .thermalThrottle die _ => decide (die < 13)
  | .throttleStep die => decide (die < 13)
  | .clockRequestWrite sess die mhz => fits 32 sess && decide (die < 13) && fits 16 mhz
  | .memoryThermalHalve die _ _ => decide (die < 13)
  | .memoryRateRestore die _ _ => decide (die < 13)
  | .envelopeCommit sess value => fits 32 sess && fits 32 value
  | .beatFrameReceive _ => true
  | .cadenceDelayMeasurement _ => true
  | .cadenceLock => true
  | .upstreamTimeout upstream => fits 8 upstream
  | .holdoverExpiry => true
  | .cadenceRoleWrite sess value => fits 32 sess && fits 32 value
  | .gatePeriodWrite sess value => fits 32 sess && fits 32 value
  | .gatePeriodChange => true
  | .beat => true
  | .arbiterCommitNow sess => fits 32 sess
  | .arbiterCommitGate sess => fits 32 sess
  | .flitCrcFail _ _ => true
  | .mma core ctx w => decide (core < 512) && fits 2 ctx && w.wf
  | .matrixInstructionComplete core part => decide (core < 512) && fits 2 part
  | .sharedLogicFault core => decide (core < 512)
  | .mmode core ctx mode => decide (core < 512) && fits 2 ctx && fits 2 mode
  | .mmodeApply core => decide (core < 512)
  | .mmaRs core ctx w => decide (core < 512) && fits 2 ctx && w.wf
  | .mmaAg core ctx w => decide (core < 512) && fits 2 ctx && w.wf
  | .mmaAr core ctx w => decide (core < 512) && fits 2 ctx && w.wf
  | .mmaA2a core ctx w => decide (core < 512) && fits 2 ctx && w.wf
  | .mmaSend core ctx w => decide (core < 512) && fits 2 ctx && w.wf
  | .partitionSwitch core part => decide (core < 512) && fits 2 part
  | .nop core ctx w => decide (core < 512) && fits 2 ctx && w.wf
  | .wait core ctx w => decide (core < 512) && fits 2 ctx && w.wf
  | .yield core ctx w => decide (core < 512) && fits 2 ctx && w.wf
  | .yieldTimeout core ctx => decide (core < 512) && fits 2 ctx
  | .vlaunch core ctx w => decide (core < 512) && fits 2 ctx && w.wf
  | .kernelComplete core ctx token => decide (core < 512) && fits 2 ctx && fits 8 token
  | .endWork core ctx w => decide (core < 512) && fits 2 ctx && w.wf
  | .workComplete core ctx => decide (core < 512) && fits 2 ctx
  | .publish core ctx w => decide (core < 512) && fits 2 ctx && w.wf
  | .br core ctx w => decide (core < 512) && fits 2 ctx && w.wf
  | .brz core ctx w => decide (core < 512) && fits 2 ctx && w.wf
  | .brnz core ctx w => decide (core < 512) && fits 2 ctx && w.wf
  | .sadd core ctx w => decide (core < 512) && fits 2 ctx && w.wf
  | .ssub core ctx w => decide (core < 512) && fits 2 ctx && w.wf
  | .smul core ctx w => decide (core < 512) && fits 2 ctx && w.wf
  | .sand core ctx w => decide (core < 512) && fits 2 ctx && w.wf
  | .sor core ctx w => decide (core < 512) && fits 2 ctx && w.wf
  | .sxor core ctx w => decide (core < 512) && fits 2 ctx && w.wf
  | .sshl core ctx w => decide (core < 512) && fits 2 ctx && w.wf
  | .sshr core ctx w => decide (core < 512) && fits 2 ctx && w.wf
  | .ssra core ctx w => decide (core < 512) && fits 2 ctx && w.wf
  | .sslt core ctx w => decide (core < 512) && fits 2 ctx && w.wf
  | .ssltu core ctx w => decide (core < 512) && fits 2 ctx && w.wf
  | .reservedOpcode core ctx op _ => decide (core < 512) && fits 2 ctx && fits 10 op
  | .threadLoad core group w => decide (core < 512) && fits 6 group && w.wf
  | .vldI core group w => decide (core < 512) && fits 6 group && w.wf
  | .threadStore core group _ w => decide (core < 512) && fits 6 group && w.wf
  | .vadd core group w => decide (core < 512) && fits 6 group && w.wf
  | .vmul core group w => decide (core < 512) && fits 6 group && w.wf
  | .vfma core group w => decide (core < 512) && fits 6 group && w.wf
  | .vdiv core group w => decide (core < 512) && fits 6 group && w.wf
  | .vsqrt core group w => decide (core < 512) && fits 6 group && w.wf
  | .vrcp core group w => decide (core < 512) && fits 6 group && w.wf
  | .vrsq core group w => decide (core < 512) && fits 6 group && w.wf
  | .vexp core group w => decide (core < 512) && fits 6 group && w.wf
  | .vlog core group w => decide (core < 512) && fits 6 group && w.wf
  | .vexp2 core group w => decide (core < 512) && fits 6 group && w.wf
  | .vlog2 core group w => decide (core < 512) && fits 6 group && w.wf
  | .vsin core group w => decide (core < 512) && fits 6 group && w.wf
  | .vcos core group w => decide (core < 512) && fits 6 group && w.wf
  | .vtanh core group w => decide (core < 512) && fits 6 group && w.wf
  | .vsigm core group w => decide (core < 512) && fits 6 group && w.wf
  | .verf core group w => decide (core < 512) && fits 6 group && w.wf
  | .vgelu core group w => decide (core < 512) && fits 6 group && w.wf
  | .vredAdd core group w => decide (core < 512) && fits 6 group && w.wf
  | .vredMax core group w => decide (core < 512) && fits 6 group && w.wf
  | .vredMin core group w => decide (core < 512) && fits 6 group && w.wf
  | .vbcast core group w => decide (core < 512) && fits 6 group && w.wf
  | .vbar core group w => decide (core < 512) && fits 6 group && w.wf
  | .vexit core group w => decide (core < 512) && fits 6 group && w.wf
  | .rnormF core ctx w => decide (core < 512) && fits 2 ctx && w.wf
  | .rnormB core ctx w => decide (core < 512) && fits 2 ctx && w.wf
  | .rnormP core ctx w => decide (core < 512) && fits 2 ctx && w.wf
  | .rsmaxF core ctx w => decide (core < 512) && fits 2 ctx && w.wf
  | .rsmaxB core ctx w => decide (core < 512) && fits 2 ctx && w.wf
  | .rupdAm core ctx w => decide (core < 512) && fits 2 ctx && w.wf
  | .rupdMom core ctx w => decide (core < 512) && fits 2 ctx && w.wf
  | .rupdSgn core ctx w => decide (core < 512) && fits 2 ctx && w.wf
  | .rfold core ctx w => decide (core < 512) && fits 2 ctx && w.wf
  | .dmCopy core ctx w => decide (core < 512) && fits 2 ctx && w.wf
  | .dmXpose core ctx w => decide (core < 512) && fits 2 ctx && w.wf
  | .dmKeep core ctx w => decide (core < 512) && fits 2 ctx && w.wf
  | .dmGate core ctx w => decide (core < 512) && fits 2 ctx && w.wf
  | .aspush core ctx w => decide (core < 512) && fits 2 ctx && w.wf
  | .aspop core ctx w => decide (core < 512) && fits 2 ctx && w.wf
  | .dmFold core ctx w => decide (core < 512) && fits 2 ctx && w.wf
  | .liftClaim core ctx w => decide (core < 512) && fits 2 ctx && w.wf
  | .liftDrop core ctx w => decide (core < 512) && fits 2 ctx && w.wf
  | .ccAr core ctx w => decide (core < 512) && fits 2 ctx && w.wf
  | .ccRs core ctx w => decide (core < 512) && fits 2 ctx && w.wf
  | .ccAg core ctx w => decide (core < 512) && fits 2 ctx && w.wf
  | .ccA2a core ctx w => decide (core < 512) && fits 2 ctx && w.wf
  | .ccBcast core ctx w => decide (core < 512) && fits 2 ctx && w.wf
  | .ccRecv core ctx w => decide (core < 512) && fits 2 ctx && w.wf
  | .liftMoveStart die => decide (die < 13)
  | .liftMoveCommit _ => true
  | .liftCommitAck _ => true
  | .backgroundScrubRead _ _ _ => true
  | .hbmRecalibration => true
  | .deepSelfRefresh => true
  | .tensorMapWrite sess n es => fits 32 sess && fits 4 n && es.all MapEntry.wf
  | .versionWriteResume core ctx => decide (core < 512) && fits 2 ctx
  | .tagWaitEnd core ctx => decide (core < 512) && fits 2 ctx
  | .tenantAdmit sess n => fits 32 sess && fits 4 n
  | .tenantRelease sess n => fits 32 sess && fits 4 n
  | .tenantReset sess n => fits 32 sess && fits 4 n
  | .tenantFree n => fits 4 n
  | .tenantZeroingDone n => fits 4 n
  | .imageLoad sess n slot _ => fits 4 n && fits 32 sess && decide (1 ≤ slot) && decide (slot ≤ 16)
  | .imageClear sess n slot value => fits 4 n && fits 32 sess && decide (1 ≤ slot) && decide (slot ≤ 16) && fits 8 value
  | .tailDoorbell q tail => fits 12 q && fits 32 tail
  | .descriptorAccept q => fits 12 q
  | .dispatch env q index _ => env.wf && fits 12 q && fits 32 index
  | .descriptorPlace q => fits 12 q
  | .completionPull sess q => fits 32 sess && fits 12 q
  | .completionHead q sequence => fits 12 q && fits 64 sequence
  | .queueEnable sess q _ => fits 32 sess && fits 12 q
  | .queueDisable sess q => fits 32 sess && fits 12 q
  | .workAbortComplete _ => true
  | .laneFrameReceive port laser _ => fits 4 port && decide (laser < 9)
  | .edgeLockUpdate port laser _ _ => fits 4 port && decide (laser < 9)
  | .heaterRangeLoss port laser => fits 4 port && decide (laser < 9)
  | .toneCorrelation port laser tones _ => fits 4 port && decide (laser < 9) && fits 2 tones.heard && fits 2 tones.passed
  | .relockComplete port laser _ => fits 4 port && decide (laser < 9)
  | .alignmentLoss port laser => fits 4 port && decide (laser < 9)
  | .alignmentReturn port laser => fits 4 port && decide (laser < 9)
  | .alignmentLossDrop port laser => fits 4 port && decide (laser < 9)
  | .marginWindowEnd port ws => fits 4 port && ws.all LaserWindow.wf
  | .farEndReport port laser _ => fits 4 port && decide (laser < 9)
  | .farEndReportTimeout port laser => fits 4 port && decide (laser < 9)
  | .swapConfirm port => fits 4 port
  | .swapAbandon port => fits 4 port
  | .spareHoldbackEnd port => fits 4 port
  | .spareTakeoverComplete port => fits 4 port
  | .waxCalibrationEnd port laser _ => fits 4 port && decide (laser < 9)
  | .laneTrainingEnd port laser _ _ => fits 4 port && decide (laser < 9)
  | .laneBringupRetry port laser => fits 4 port && decide (laser < 9)
  | .identityFrame port laser f => fits 4 port && decide (laser < 9) && fits 32 f.epoch && f.record.wf
  | .portRemapWrite sess _ => fits 32 sess
  | .chipNumberWrite sess value => fits 32 sess && fits 16 value
  | .drawingWrite sess slot d => fits 32 sess && decide (1 ≤ slot) && decide (slot ≤ 8) && d.wf
  | .slalomArm sess => fits 32 sess
  | .packetInject d => decide (d.die < 13) && d.packet.wf
  | .packetForward port p => fits 4 port && p.wf
  | .packetReceive d crc => decide (d.die < 13) && d.packet.wf && fits 64 crc
  | .ackReceive p => p.wf
  | .nakReceive p => p.wf
  | .resendTimeout _ _ => true
  | .pathAReturn _ _ => true
  | .streamRelease _ _ => true
  | .heldPacketTimeout _ _ _ => true
  | .creditReturn port _ _ => fits 4 port
  | .creditReturnTimer port => fits 4 port
  | .departureNotice chip => fits 16 chip
  | .runSend n plan _ _ _ => fits 4 n && fits 10 plan
  | .runReceive r => fits 4 r.tenant && fits 10 r.plan && fits 8 r.inst && fits 17 r.key.chunk && fits 4 r.key.run &&
      fits 2 r.key.stage && fits 2 r.phase && fits 8 r.eBound && fits 8 r.x
  | .bufferPost n plan _ _ => fits 4 n && fits 10 plan
  | .retryNotice n plan _ _ _ => fits 4 n && fits 10 plan
  | .collectiveTokenDone n plan _ => fits 4 n && fits 10 plan
  | .feedReceive n _ step _ _ => fits 4 n && fits 64 step
  | .collectiveHold sess n => fits 32 sess && fits 4 n
  | .collectiveHoldEnd sess n => fits 32 sess && fits 4 n
  | .holdBeacon n => fits 4 n
  | .holdBeaconReceive chip _ plan _ => fits 16 chip && fits 10 plan
  | .holdSuspensionExpiry chip => fits 16 chip
  | .holdLimitExpiry n => fits 4 n
  | .withdrawalReceive n chip plan _ => fits 4 n && fits 16 chip && fits 10 plan
  | .collectiveStall n plan _ => fits 4 n && fits 10 plan
  | .sketchBlockProject engine _ => fits 2 engine
  | .sketchCalibrationEnd engine sigmas gains orthoError =>
    fits 2 engine && sigmas.length == 6 && gains.length == 64 && fits 32 orthoError
  | .stepClose sess n step => fits 32 sess && fits 4 n && fits 64 step
  | .vote n => fits 4 n
  | .voteReceive m => m.wf
  | .commitReceive m => m.wf
  | .abortReceive m => m.wf
  | .ledgerAckReceive m => m.wf
  | .ledgerResend n => fits 4 n
  | .stateQueryReceive m => m.wf
  | .stateReportReceive m => m.wf
  | .abortRequest sess n step => fits 32 sess && fits 4 n && fits 64 step
  | .abortRequestReceive m => m.wf
  | .voteTimeout n => fits 4 n
  | .judgesReport n slot step unit _ _ _ => fits 4 n && fits 16 slot && fits 64 step && fits 16 unit
  | .lossWrite sess n step value => fits 32 sess && fits 4 n && fits 64 step && fits 32 value
  | .gradWrite sess n step value => fits 32 sess && fits 4 n && fits 64 step && fits 32 value
  | .statsReset sess n value => fits 32 sess && fits 4 n && fits 32 value
  | .slotCheckFail slot => fits 16 slot
  | .ledgerMembersWrite sess n _ => fits 32 sess && fits 4 n
  | .beaconSend lane => decide (lane < 10)
  | .beaconReceive lane b => decide (lane < 10) && b.wf
  | .suspectTimeout lane => decide (lane < 10)
  | .probeSend lane => decide (lane < 10)
  | .probeReceive chip _ => fits 16 chip
  | .probeAnswerReceive lane => decide (lane < 10)
  | .deadVerdict lane => decide (lane < 10)
  | .lifeChangeReceive _ => true
  | .memberRejoin sess chip => fits 32 sess && fits 16 chip
  | .fenceRequest sess chip => fits 32 sess && fits 16 chip
  | .mirrorTableWrite sess n es => fits 32 sess && fits 4 n && es.all MirrorSpec.wf
  | .mirrorPopulate sess n _ _ => fits 32 sess && fits 4 n
  | .mirrorDigestReceive n _ c => fits 4 n && c.digest.length == 32
  | .mirrorVerify sess n _ _ => fits 32 sess && fits 4 n
  | .faultReport f => f.rep.wf && f.site.wf
  | .wiringFault w => fits 16 w.unit
  | .watchdogExpiry _ => true
  | .testModeWrite sess value => fits 32 sess && fits 32 value
  | .perturbStop sess value => fits 32 sess && fits 32 value
  | .memoryInject sess address kind => fits 32 sess && fits 64 address && fits 8 kind
  | .read env items => env.wf && items.all ObjRef.wf
  | .describe env items => env.wf && items.all ObjRef.wf
  | .write env items => env.wf && items.all (fun i => i.obj.wf)
  | .readSeg env obj _ _ => env.wf && obj.wf
  | .writeSeg env item => env.wf && item.obj.wf
  | .clearIf env obj _ => env.wf && obj.wf
  | .subscribeAdd env obj => env.wf && obj.wf
  | .subscribeRemove env obj => env.wf && obj.wf
  | .subscribeAcknowledge env _ => env.wf
  | .hello net _ _ _ _ _ => fits 1 net
  | .proof env flags _ => env.wf && fits 8 flags
  | .close env => env.wf
  | .sessionClose sess value => fits 32 sess && fits 32 value
  | .handshakeTimeout _ => true
  | .sessionIdleTimeout sess => fits 32 sess
  | .segmentTimeout sess obj => fits 32 sess && obj.wf
  | .eventResend sess => fits 32 sess
  | .subscriptionDelivery sess => fits 32 sess
  | .gdpPortChange => true
  | .objectWrite sess obj _ => fits 32 sess && obj.wf
  | .ethLinkRetry port _ => fits 3 port
  | .ethFrameReceive port tag _ => fits 3 port && fits 12 tag.vlan && fits 3 tag.priority
  | .neighbourTimeout net _ => fits 1 net
  | .addressChangeEffect obj => obj.wf
  | .pauseReceive port priority _ => fits 3 port && fits 3 priority
  | .qpTableWrite sess qp v => fits 32 sess && fits 10 qp && v.wf
  | .rdmaWrite qp _ _ _ _ => fits 10 qp
  | .rdmaRead qp _ _ _ _ => fits 10 qp
  | .rdmaSendReceive qp _ => fits 10 qp
  | .roceAckReceive qp _ _ => fits 10 qp
  | .roceRetryTimeout qp => fits 10 qp
  | .roceRnrRetry qp => fits 10 qp
  | .cnpReceive qp => fits 10 qp
  | .cnpRateRecovery qp => fits 10 qp
  | .ethernetLinkDown port => fits 3 port
  | .pauseQuantaExpiry port priority => fits 3 port && fits 3 priority
  | .completionDelayEnd _ => true
  | .cumulativeAckTimer _ _ => true
  | .chunkLevelFinished n plan _ _ _ => fits 4 n && fits 10 plan

end Sys2Proof
end

