-- ==== Sys2Proof/Tests/Slice0.lean ====
section
/-! SUPPORT. Small states and operands that meet the hypotheses of every statement, one theorem per group of rules. -/

set_option Elab.async false

namespace Sys2Proof.Tests
open Sys2Proof Sys2Proof.Machine

/-- A session that may write an object. -/
theorem mw {s : State} {sess i j : Nat} (h : ((s.session? sess).map fun x => s.canWrite x ⟨i, j⟩) = some true) :
    MayWrite s sess i j := by
  simpa [MayWrite] using h

theorem mnw {s : State} {sess i j : Nat} (h : ((s.session? sess).map fun x => s.canWrite x ⟨i, j⟩) = some false) :
    MayNotWrite s sess i j := by
  simpa [MayNotWrite] using h

/-- A context whose next instruction issues. -/
theorem iss {s : State} {c x : Nat} {k : Work}
    (h : (s.mayIssue c x && ((s.ctxWork c x).map (·.2) == some k) && s.fetchOk k (s.ctx c x).ip) = true) : Issues s c x k := by
  simp only [Bool.and_eq_true, beq_iff_eq, Option.map_eq_some_iff] at h
  obtain ⟨⟨h1, ⟨w, v⟩, h2, rfl⟩, h3⟩ := h
  exact ⟨h1, ⟨w, h2⟩, h3⟩

/-- Registers set one after the other. -/
def rg (s : State) (l : List (Nat × Nat)) : State := l.foldl (fun t p => t.setReg p.1 p.2) s

/-- The package as reset leaves it, with an Owner's session 1, an Operator's 2 and one, 3, of tenant 0. -/
def boot : State :=
  { State.reset with sessions := [{ id := 1, role := roleOwner, tenant := 0xFF, keySlot := 0 },
      { id := 2, role := roleOperator, tenant := 0xFF, keySlot := 1 }, { id := 3, role := roleTenant, tenant := 0, keySlot := 2 }] }

/-- The same package READY, with chip number 0. -/
def own : State := rg boot [(Obj.deviceState, devReady), (Obj.chipNumber, 0)]

/-- Without power. -/
def off : State := rg boot [(Obj.deviceState, devOff)]

/-- The boot stages that have ended. -/
def staged (l : List Nat) : State := { boot with dev := { boot.dev with stages := l } }

/-- A flash write is in progress. -/
def writing (s : State) : State := { s with dev := { s.dev with writing := some Config.shippedImage } }

/-- A key record. -/
def key : KeySlot := { hash := List.replicate 32 7, role := roleTenant, tenant := 15, valid := true }

/-- The supply has been sampled at a voltage, after another. -/
def sampled (mv : Nat) (prev : Option Nat) : State :=
  rg { own with supply := { own.supply with samples := [(1, 1, 1)], prevMv := prev } } [(Obj.inputMv, mv)]

/-- The master of the cadence, in term 1. -/
def master : State :=
  rg { own with time := { own.time with seenTerm := 1 } } [(Obj.cadenceRole, 1), (Obj.cadenceTerm, 1), (Obj.cadenceState, cadLocked)]

/-- A locked follower, by port 0. -/
def follower : State := rg own [(Obj.cadenceRole, 0), (Obj.cadenceState, cadLocked), (Obj.upstreamPort, 0)]

/-- A package whose link 0 has replayed n flits within the last 1 ms. -/
def replayed (n : Nat) : State := { own with replays := [(0, List.replicate n 0)] }

/-! A context with work -/

/-- A descriptor's 64 bytes (R218). -/
def bytesOf (d : Desc) : List Byte :=
  toBytes 8 d.address ++ toBytes 4 d.e0 ++ toBytes 4 d.e1 ++ toBytes 4 d.e2 ++ toBytes 4 d.e3 ++ toBytes 6 d.s1.toNat ++
    toBytes 6 d.s2.toNat ++ toBytes 6 d.s3.toNat ++ toBytes 8 d.scalePtr ++ toBytes 4 d.tensorId ++ toBytes 2 d.vtag ++
    toBytes 2 d.slot ++ toBytes 1 (d.fmt + 32 * d.block) ++ toBytes 1 (b2n d.j + 2 * b2n d.g + 4 * b2n d.v) ++ toBytes 4 0

/-- A tensor of e0 elements at an address. -/
def vec (a e0 fmt : Nat) (v : Bool := false) : Desc :=
  { address := a, e0 := e0, e1 := 1, e2 := 1, e3 := 1, s1 := 0, s2 := 0, s3 := 0, scalePtr := 0, tensorId := 1, vtag := 0xFFFF,
    slot := 0, fmt := fmt, block := 0, j := false, g := false, v := v }

/-- The tensors the work below binds to slots 1, 2, 3 and so on. -/
def tensors : List Desc :=
  [vec 0 1 fmtF32, vec 64 1 fmtF32, vec 128 1 fmtF32, vec 192 1 fmtBF16, vec 256 1 fmtBF16, vec 320 1 fmtS8, vec 384 1 fmtS8,
   vec 448 1 fmtU8, vec 512 8 fmtF32, vec 576 64 fmtU8, vec 640 1 fmtF16, vec 4096 1 fmtF32 true, vec 4160 1 fmtF16 true,
   vec 4224 1 fmtF32 true, vec 4288 1 fmtF32 true, vec 65536 131072 fmtF32, vec 704 1 fmtBF16]

/-- Work of tenant 0 at its first step. -/
def wk : Work :=
  { tenant := 0, queue := 0, index := 0, step := 1, microBatch := 0, imageId := 9, entryIndex := 0, rm := false, ns := false,
    arg0 := 0, arg1 := 0, pc := false, bar := false, coreField := 0, ctxField := 0, userTag := 0,
    bindings := (List.range tensors.length).map fun i => (i + 1, bytesOf (tensors.getD i (vec 0 0 0))), fences := [], phase := 2,
    core := 0, ctx := 0 }

/-- A region of 64 lines of tenant 0. -/
def region (base : Nat) : Entry :=
  { base := base, lines := 64, tensorId := 1, tenant := 0, homeTier := 1, homeDie := 0, pinned := false, shared := false,
    versioned := false, place := {}, shareMask := 0, bufState := .current, homeAlloc := base + 1, homeAt := 0 }

/-- A buffer of a versioned tensor of tenant 0. -/
def buffer (st : BufState) (vs : List Nat) (al : Nat) : Entry :=
  { region 4096 with versioned := true, bufState := st, versions := vs, homeAlloc := al }

/-- The first step of tenant 0, open. -/
def step1 : StepSt := { step := 1, seed := 0, service := 0, cfg := {} }

/-- Tenant 0 admitted with one image and its first step open. -/
def admittedTenant : Tenant :=
  { state := 1, steps := [step1],
    images := [(1, { state := 1, imageId := 9, codeBytes := 64, entries := [(0, 0, 1, 0, 0)] })] }

/-- RUNNING, with the work on context 0 of core 0; the core as given. -/
def ran (y : Ctx := {}) (v : Core := {}) : State :=
  rg { own with tenants := [(0, admittedTenant)], works := [(7, wk)],
                ctxs := [(0, { y with state := 1, work := some 7, accSize := 2048, sideSize := 4 })], cores := [(0, v)],
                entries := [(1, region 0), (2, buffer .current [0] 9), (3, buffer .pending [] 10), (4, { region 65536 with lines := 8192 })] }
    [(Obj.deviceState, devRunning)]

/-- What preparing operands leaves. -/
def after (s : State) (c x unit : Nat) (k : Work) (ops : List OpAsk) : State :=
  match s.prepAll k.asker unit ops with
  | .ready ds t => t.lateLift c x k.tenant ds
  | _ => s

/-- Operands that are ready. -/
theorem rdy {s : State} {c x unit : Nat} {k : Work} {ops : List OpAsk} {ds : List (Desc × VSel)}
    (h : (match s.prepAll k.asker unit ops with
      | .ready ds' t => decide (ds' = ds) && !((ops.zip ds).any fun p => t.writeHeld k.tenant p.1 p.2.2)
      | _ => false) = true)
    (h2 : (!s.otherReady c x || (ds.findSome? (s.promotionOf k.tenant)).isNone) = true) :
    OperandsReady s c x unit k ops ds (after s c x unit k ops) := by
  unfold OperandsReady after
  split at h
  · rename_i ds' t e
    simp only [Bool.and_eq_true, decide_eq_true_eq, Bool.not_eq_true'] at h
    obtain ⟨rfl, h⟩ := h
    refine ⟨t, e, h, ?_, rfl⟩
    simpa using h2
  · simp at h

/-- A thread group whose next instruction issues. -/
theorem tiss {s : State} {c g x : Nat} {k : Work}
    (h : (match s.kernelOn c g with
      | some (kn, ip) => kn.ctx == x && s.threadsMay c x && ((s.ctxWork c x).map (·.2) == some k) &&
          decide (s.groupWait c g ≠ .tag false) && s.fetchOk k ip
      | none => false) = true) : ThreadIssues s c g x k := by
  split at h
  · rename_i kn ip e
    simp only [Bool.and_eq_true, beq_iff_eq, Option.map_eq_some_iff, decide_eq_true_eq] at h
    obtain ⟨⟨⟨⟨h1, h2⟩, ⟨w, v⟩, h3, rfl⟩, h5⟩, h4⟩ := h
    exact ⟨kn, ip, w, e, h1, h2, h3, h5, h4⟩
  · simp at h

/-- A scalar word. -/
def sw (token cnt : Nat) : ScalarWord := { immFlag := false, sd := 31, sa := 1, sb := 2, token := token, cnt := cnt, imm := 48 }

/-- A thread word. -/
def tw (d a : Nat) : ThreadWord :=
  { pred := 0, pneg := false, sr := false, ovf := false, d := d, a := a, b := 1, c := 2, imm := 0 }

/-- A kernel of context 0 whose group 63 runs. -/
def kern : Kernel := { ctx := 0, token := 1, blocks := 1, start := 48, nextBlock := 1, ended := 0, groups := [(63, 0, 48)] }

/-- The work runs a kernel; thread 0 of group 63 is as given and the other threads have exited. -/
def grp (t : Thread) : State :=
  { ran {} { kernels := [kern] } with
    threads := (threadKey 0 63 0, t) :: (List.range 63).map fun i => (threadKey 0 63 (i + 1), { exited := true }) }

/-- A matrix word: bf16 from slots 4 and 5, with OUT to slot 1. -/
def mw1 (out : Bool) : MmaWord :=
  { acc := false, out := out, wt := false, xt := false, osr := false, x := 4, w := 5, y := if out then 1 else 0, tout := 0, tx := 0,
    tw := 0, osc := 127, part := 0, abase := 0, lst := 31, cp := 1 }

/-- Its descriptors and its window. -/
def mma (out : Bool) : Mma :=
  { x := vec 192 1 fmtBF16, w := vec 256 1 fmtBF16, y := if out then some (vec 0 1 fmtF32) else none, tout := none, tx := none,
    tw := none }
def win : AccWin := { mode := 0, part := 0, int := false, base := 0, streams := false }

/-- An instruction in flight on partition 3. -/
def flying : Issued := { ctx := 0, part := 3, locks := [], slot := none, step := none, gradient := false, counts := noCounts }

/-- A row word from slot x to slot y. -/
def rw (x y : Nat) : RowWord :=
  { mode := true, bmask := false, sr := false, ovf := false, psrc := false, x := x, y := y, g := 3, b := 0, sbase := 3, imm := 0,
    ofs := 0 }

/-- A mover word from slot x to slot y, with the plane in slot 8. -/
def dm (x y : Nat) : DmWord :=
  { sr := false, ovf := false, cond := false, mode := false, x := x, y := y, g := 8, cnt := 0, imm0 := 0, imm1 := 0 }

/-- An update word and a fold word. -/
def upd : UpdWord :=
  { dw := false, nes := false, sr := false, ovf := false, g := 1, w := 12, wx := 13, m1 := 14, m2 := 15, u := 11, h := 9, r := 10 }
def fld : FoldWord := { sr := false, ovf := false, u := 11, w := 12, wx := 13, y := 0, r := 10 }

/-- A matrix instruction that passes its checks. -/
theorem msound {s : State} {c x : Nat} {k : Work} {w : MmaWord} {res : Bool} {yOk : Mma → Desc → Bool} {more : Mma → Bool} {m : Mma}
    {a : AccWin} (h : s.mmaDescs k w = some m)
    (h1 : ((s.core c).mmodeHeld = [] ∧
      a = accWin w m (s.core c).mode (s.ctx c x)
        (!mmaResident w (mmaM w m) (windowRows m (s.core c).mode w.part (s.ctx c x))) ∧
      mmaOk w m (s.core c).mode (windowRows m (s.core c).mode w.part (s.ctx c x)) res (yOk m) = true ∧
      (w.acc && (s.core c).tagClash a (mmaM w m)) = false ∧ more m = true)) :
    MatrixSound s c x k w res yOk more m a :=
  ⟨h1.1, h, h1.2⟩

theorem mfree {s : State} {c x : Nat} {k : Work} {w : MmaWord} {m : Mma}
    (h : mmaM w m ≠ 0 ∧ mmaN w m ≠ 0 ∧ s.otherServed c x w.part = false ∧
      s.writesAhead c x k (m.locked.filterMap Desc.span) = false) : MatrixFree s c x k w m := h

theorem mchk {s : State} {c x : Nat} {k : Work} {w : MmaWord} {res : Bool} {yOk : Mma → Desc → Bool} {more : Mma → Bool} {m : Mma}
    {a : AccWin} (h : MatrixSound s c x k w res yOk more m a) (h1 : MatrixFree s c x k w m) :
    MatrixChecked s c x k w res yOk more m a := ⟨h, h1⟩

/-- The operands of an update. -/
def updOps1 (m2 : Option Desc) : UpdOps :=
  ⟨vec 0 1 fmtF32, vec 4096 1 fmtF32 true, vec 4160 1 fmtF16 true, vec 4224 1 fmtF32 true, m2, vec 640 1 fmtF16, vec 512 8 fmtF32,
    vec 576 64 fmtU8⟩

/-! A collective of one member -/

/-- Plan 1: native exchange, over group table 5, with the work area in slot 16, for cores 0 and 1. -/
def planBytes : List Byte :=
  [2, 0, 1, 0] ++ [2, 0, 0, 0, 0, 0, 0, 0, 5, 0, 0, 0] ++ List.replicate 14 0 ++ [16, 0] ++ List.replicate 32 0 ++ [3] ++
    List.replicate 63 0

/-- The work with plan 1. -/
def planned : State :=
  rg { ran with colls := { ran.colls with groups := [(5, [0])], owners := [(5, 1)] } }
    [(Obj.collectivePlan 1, fromBytes planBytes)]

/-- The work area. -/
def area : Desc := vec 65536 131072 fmtF32

/-- A copy word from slot 1 to slot 2. -/
def cw : CcWord := { sr := false, ovf := false, x := 1, y := 2, cp := 1 }

/-- A state whose entries, cores and instances are those of the work above. -/
structure Quiet (s : State) : Prop where
  entries : s.entries = planned.entries
  moves : s.moves = []
  cores : s.cores = [(0, {})]
  insts : s.colls.insts = []
  chip : s.chip = 0
  slotBytes : s.reg (Obj.slotBytes 0) = 0

theorem Quiet.entry {s : State} (h : Quiet s) (o : Nat) (h1 : 65536 ≤ o) (h2 : o < 589824) :
    s.anyEntry 0 o = some (4, { region 65536 with lines := 8192 }) ∧
      s.findEntry 0 o .plain = some (4, { region 65536 with lines := 8192 }) := by
  have e : planned.entries = [(1, region 0), (2, buffer .current [0] 9), (3, buffer .pending [] 10),
    (4, { region 65536 with lines := 8192 })] := rfl
  have a1 : ¬ o < 4096 := by omega
  have a2 : ¬ o < 8192 := by omega
  constructor
  · simp [State.anyEntry, h.entries, e, List.find?, Entry.covers, region, buffer, a1, a2, h2, h1]
  · simp [State.findEntry, h.entries, e, List.find?, Entry.covers, Entry.selects, region, buffer, a1, a2, h2, h1]

theorem area_offsets : ∀ o ∈ area.offsets, 65536 ≤ o ∧ o < 589824 := by
  intro o ho
  simp only [Desc.offsets, area, vec] at ho
  simp [Desc.runs, Desc.runBytes, Desc.runOff, Desc.runAt, ceilDiv, fmtWidth, fmtF32, offOf] at ho
  obtain ⟨i, hi, rfl⟩ := ho
  omega

theorem Quiet.addr {s : State} (h : Quiet s) : s.addrFault 0 area true = false := by
  simp only [State.addrFault, Bool.or_eq_false_iff]
  refine ⟨⟨by rw [h.chip]; rfl, by decide⟩, ?_⟩
  rw [List.any_eq_false]
  intro o ho
  rw [(h.entry o (area_offsets o ho).1 (area_offsets o ho).2).1]
  simp [region, State.sealedAt, h.slotBytes]

theorem Quiet.off {s : State} (h : Quiet s) : s.versionOff 0 area = 65536 := by
  unfold State.versionOff
  split
  · rename_i o eo
    have hm := List.mem_of_find?_eq_some eo
    have hp := List.find?_some eo
    rw [(h.entry o (area_offsets o hm).1 (area_offsets o hm).2).1] at hp
    simp [region] at hp
  · rfl

theorem Quiet.found {s : State} (h : Quiet s) : (area.offsets.any fun o => (s.findEntry 0 o .plain).isNone) = false := by
  rw [List.any_eq_false]
  intro o ho
  rw [(h.entry o (area_offsets o ho).1 (area_offsets o ho).2).2]
  simp

theorem meets_nothing (s : State) (n master access : Nat) (v : VSel) : s.meetInjections n [] v master access = s := by
  simp only [State.meetInjections, List.find?_nil]
  generalize s.injections = l
  induction l with
  | nil => rfl
  | cons j l ih => exact ih

theorem Quiet.range {s : State} (h : Quiet s) (n lo hi : Nat) (v : VSel) : s.rangeHeld n lo hi v = false := by
  have e : planned.entries = [(1, region 0), (2, buffer .current [0] 9), (3, buffer .pending [] 10),
    (4, { region 65536 with lines := 8192 })] := rfl
  simp [State.rangeHeld, State.locked, State.lockedBut, State.movingAt, h.cores, h.insts, h.entries, e, region, buffer]

theorem Quiet.held {s : State} (h : Quiet s) (o : OpAsk) (v : VSel) : s.writeHeld 0 o v = false := by
  simp only [State.writeHeld]
  cases o.write <;> simp only [Bool.true_and, Bool.false_and]
  split
  · simp only [h.range, Bool.false_or]
    split <;> rfl
  · rfl

theorem Quiet.promo {s : State} (h : Quiet s) (ds : List (Desc × VSel)) (n : Nat) : ds.findSome? (s.promotionOf n) = none := by
  rw [List.findSome?_eq_none_iff]
  intro p _
  simp only [State.promotionOf, h.moves, List.findSome?_nil]
  split <;> rfl

/-- The work area may be written. -/
theorem Quiet.resolved {s : State} (h : Quiet s)
    (h2 : (match s.resolveWrite wk.asker 65536 0xFFFF false with | .ok .plain t => some t | _ => none) = some s) :
    s.resolveAt wk.asker area 0xFFFF true = .ready area .plain s := by
  have h3 : s.resolveWrite wk.asker 65536 0xFFFF area.v = .ok .plain s := by
    change s.resolveWrite wk.asker 65536 0xFFFF false = _
    revert h2
    cases s.resolveWrite wk.asker 65536 0xFFFF false with
    | ok v t => cases v <;> simp
    | fault => simp
    | wait w t => simp
  have h4 : wk.asker.n = 0 := rfl
  have h6 : area.count ≠ 0 := by decide
  simp only [State.resolveAt, h4, h.off, h6, if_true, if_false, h3, h.found]
  rfl

/-- Operands before the work area, and the work area. -/
theorem rdyArea {s : State} {c x unit : Nat} {ops : List OpAsk} {ds : List (Desc × VSel)} (q : Quiet s)
    (hc : (ops.any fun o => s.descFault wk.asker.n o.d) = false)
    (hf : (ops.findSome? fun o => (s.reachFault wk.asker.n o.d o.write).map fun p => (p.1, p.2, o.write)) = none)
    (hr' : (match s.resolveAll wk.asker ops with | .ready d t => some (d, t) | _ => none) = some (ds, s))
    (hm' : (match s.meetAll wk.asker.n unit (ops.zip (ds.map (·.2))) with | .ready d t => some (d, t) | _ => none) = some (ds, s))
    (h1 : s.descFault 0 area = false)
    (h2 : (match s.resolveWrite wk.asker 65536 0xFFFF false with | .ok .plain t => some t | _ => none) = some s) :
    OperandsReady s c x unit wk (ops ++ [askWrite area]) (ds ++ [(area, .plain)]) s := by
  have hr : s.resolveAll wk.asker ops = .ready ds s := by
    revert hr'
    cases s.resolveAll wk.asker ops <;> simp
  have hm : s.meetAll wk.asker.n unit (ops.zip (ds.map (·.2))) = .ready ds s := by
    revert hm'
    cases s.meetAll wk.asker.n unit (ops.zip (ds.map (·.2))) <;> simp
  have hres := q.resolved h2
  have h4 : wk.asker.n = 0 := rfl
  have h5 : s.scaleFault 0 area true = none := rfl
  have h8 : s.reachFault 0 area true = none := by simp only [State.reachFault, h5, q.addr]; rfl
  refine ⟨s, ?_, ?_, .inr (q.promo _ _), ?_⟩
  · have hl : ds.length = ops.length := by
      clear hm hm' hr' hc hf
      revert ds
      have : ∀ (l : List OpAsk) (t u : State) (ds : List (Desc × VSel)), t.resolveAll wk.asker l = .ready ds u → ds.length = l.length := by
        intro l
        induction l with
        | nil => intro t u ds h; simp only [State.resolveAll, Preps.ready.injEq] at h; rw [← h.1]; rfl
        | cons o os ih =>
          intro t u ds h
          simp only [State.resolveAll] at h
          split at h <;> try simp at h
          rename_i d v u1 _
          cases e : u1.resolveAll wk.asker os <;> simp only [e, Preps.ready.injEq, reduceCtorEq] at h
          obtain ⟨rfl, rfl⟩ := h
          simp [ih _ _ _ e]
      intro ds h
      exact this ops s s ds h
    have r : ∀ (l : List OpAsk) (ds : List (Desc × VSel)) (t : State), t.resolveAll wk.asker l = .ready ds s →
        t.resolveAll wk.asker (l ++ [askWrite area]) = .ready (ds ++ [(area, .plain)]) s := by
      intro l
      induction l with
      | nil =>
        intro ds t ht
        simp only [State.resolveAll, Preps.ready.injEq] at ht
        obtain ⟨rfl, rfl⟩ := ht
        have e2 : t.resolveAll wk.asker ([] ++ [askWrite area]) = (match t.resolveAt wk.asker area 0xFFFF true with
          | .fault f x u => .fault f x true u
          | .wait w u => .wait w u
          | .ready d v u => .ready [(d, v)] u) := rfl
        rw [e2, hres]
        rfl
      | cons o os ih =>
        intro ds t ht
        simp only [State.resolveAll, List.cons_append] at ht ⊢
        split at ht <;> try simp at ht
        rename_i d v u1 _
        cases e' : u1.resolveAll wk.asker os <;> simp only [e', Preps.ready.injEq, reduceCtorEq] at ht
        obtain ⟨rfl, rfl⟩ := ht
        rw [ih _ _ e']
        simp
    have m : ∀ (l : List (OpAsk × VSel)) (ds : List (Desc × VSel)) (t : State), t.meetAll 0 unit l = .ready ds s →
        t.meetAll 0 unit (l ++ [(askWrite area, .plain)]) = .ready (ds ++ [(area, .plain)]) s := by
      intro l
      induction l with
      | nil =>
        intro ds t ht
        simp only [State.meetAll, Preps.ready.injEq] at ht
        obtain ⟨rfl, rfl⟩ := ht
        have e : t.meetAt 0 area .plain true unit [] = .ready area .plain t := by
          have h6 : area.count ≠ 0 := by decide
          have h7 : area.scalePtr = 0 := rfl
          simp only [State.meetAt, h6, h7, Bool.not_true, Bool.false_eq_true, if_false, if_true, or_true, meets_nothing]
          simp [State.anyBad]
        have e2 : t.meetAll 0 unit ([] ++ [(askWrite area, .plain)]) = (match t.meetAt 0 area .plain true unit [] with
          | .fault f x u => .fault f x false u
          | .wait w u => .wait w u
          | .ready d v u => .ready [(d, v)] u) := rfl
        rw [e2, e]
        rfl
      | cons o os ih =>
        intro ds t ht
        obtain ⟨o, v⟩ := o
        simp only [State.meetAll, List.cons_append] at ht ⊢
        split at ht <;> try simp at ht
        rename_i d v u1 _
        cases e' : u1.meetAll 0 unit os <;> simp only [e', Preps.ready.injEq, reduceCtorEq] at ht
        obtain ⟨rfl, rfl⟩ := ht
        rw [ih _ _ e']
        simp
    simp only [State.prepAll, h4] at hc hf hm ⊢
    rw [List.any_append, hc, List.findSome?_append, hf, r ops ds s hr]
    have hz : (ops ++ [askWrite area]).zip ((ds ++ [(area, VSel.plain)]).map (·.2)) = ops.zip (ds.map (·.2)) ++ [(askWrite area, .plain)] := by
      rw [List.map_append, List.zip_append (by simp [hl])]
      rfl
    have hd : s.descFault 0 (askWrite area).d = false := h1
    have hw : s.reachFault 0 (askWrite area).d (askWrite area).write = none := h8
    simp only [List.any_cons, List.any_nil, hd, Bool.or_false, Bool.false_eq_true, if_false, List.findSome?_cons, hw, Option.map_none,
      List.findSome?_nil, Option.none_or, hz]
    exact m _ _ _ hm
  · rw [List.any_eq_false]
    intro p _
    have hn : wk.tenant = 0 := rfl
    rw [hn, q.held]
    simp
  · simp only [State.lateLift]
    split
    · rfl
    · split
      · rename_i h
        obtain ⟨p, _, hm⟩ := List.any_eq_true.mp h
        have := q.promo [p] wk.tenant
        simp only [List.findSome?_cons, List.findSome?_nil] at this
        split at hm
        · rename_i e
          rw [e] at this
          simp at this
        · simp at hm
      · rfl

/-- Operands that are ready, with the state they leave. -/
theorem rdyAt {s t : State} {c x unit : Nat} {k : Work} {ops : List OpAsk} {ds : List (Desc × VSel)}
    (h : (match s.prepAll k.asker unit ops with
      | .ready d u => some (d, u.lateLift c x k.tenant d, (ops.zip d).any fun p => u.writeHeld k.tenant p.1 p.2.2)
      | _ => none) = some (ds, t, false)) (h2 : (!s.otherReady c x) = true) : OperandsReady s c x unit k ops ds t := by
  revert h
  unfold OperandsReady
  cases s.prepAll k.asker unit ops with
  | ready d u =>
    simp only [Option.some.injEq, Prod.mk.injEq, Preps.ready.injEq]
    rintro ⟨rfl, rfl, h⟩
    exact ⟨u, ⟨rfl, rfl⟩, h, .inl (by simpa using h2), rfl⟩
  | _ => simp

/-! Queues, claims and tenants -/

/-- Tenant 0 with queues 0 to 3; queue 0 as given. -/
def qd (q : Queue) : State := rg { ran with queues := [(0, q)] } [(Obj.queueCount 0, 4)]

/-- The work waits at queue 0 for a context; core 0 is the tenant's. -/
def waiting (k : Work) (v : Core := {}) : State :=
  rg { ran with works := [(7, { k with phase := 1 })], ctxs := [], cores := [(0, v)] } [(Obj.coreSet 0, 1)]

/-- An envelope of a session, without its tag. -/
def env (sess : Nat) : Envelope := { version := 1, session := sess, sequence := 1, tag := [], net := 0, peer := 0, requestId := 0 }

/-- The same with the tag of its session's key, which is empty here, over a GDP request. -/
def envOf (sess kind items : Nat) (body : List Byte) : Envelope :=
  { env sess with tag := hmac [] (gdpMessage 1 kind 0 0 sess 0 items body ++ toBytes 8 1 ++ toBytes 8 0) }

/-- A queue's configuration record. -/
def queueRecord : List Byte := [1, 0] ++ toBytes 2 8 ++ toBytes 2 4096 ++ List.replicate 18 0

/-- A Lift word for slot x. -/
def lw (tier x token : Nat) : LiftWord :=
  { tier := tier, place := 0, x := x, die := 0, cl := 0, co := 0, deadline := 0xFFFFFF, cid := 0, token := token }

/-- A claim of tenant 0 on a tier. -/
def clm (tier : Nat) : Claim :=
  { tenant := 0, cid := 0, tier := tier, die := 0, place := {}, deadline := none, token := none, age := 0 }

/-- An upper copy on tier 0, and a move of region 0 to it. -/
def up0 : Upper := { tier := 0, die := 0, place := {}, alloc := 6, tenant := 0, cid := 0 }
def mv0 : Move :=
  { entry := 1, engine := 7, dest := some up0, deadline := none, order := 6, flying := false, committed := false, tokens := [] }

/-- Tenant 15 with an image and what admission asks for. -/
def admissible : State :=
  rg { own with tenants := [(15, { images := [(16, { state := 1, imageId := 9, codeBytes := 64 })] })] }
    [(Obj.coreSet 15, 2 ^ 255), (Obj.queueFirst 15, 4095), (Obj.queueCount 15, 1)]

/-! The fabric, collectives, the ledger -/

/-- An empty drawing of this package. -/
def drw (id : Nat) : Drawing := { drawingId := id, chip := 0, axes := [], lanes := [] }

/-- Drawing 255 is stored in slot 1; one slalom step to it. -/
def drawn (gate : Nat) (inForce : Option Drawing) : State :=
  rg { own with fabric := { own.fabric with store := [(1, drw 255)], inForce := inForce } }
    [(Obj.slalomStep 16, gate + 255 * 2 ^ 64 + 2 ^ 72)]

/-- A packet. -/
def pk (ptype source dest hops seq : Nat) : Packet :=
  { ptype := ptype, flags := 0, dest := dest, source := source, channel := 0, tenant := 0, sequence := seq, epoch := 0, drawingId := 0,
    hops := hops, replySlot := 0, deadline := 0, address := 0, ackSequence := 0, payload := [] }

/-- A stream to chip 1 with a packet to acknowledge. -/
def txd (v : TxStream) (p : Packet) : State :=
  { own with fabric := { own.fabric with tx := [(streamKey 1 0, { v with unacked := [(0, p)] })] } }

/-- A native all-reduce on a ring of two packages, with the contributions of one core or two. -/
def inst (cores : List Nat) : Inst :=
  { n := 0, plan := 1, inst := 0, step := 1, form := .allReduce, fused := false, exch := 2, code := 0, token := 1, bidir := false,
    cores := cores, ra := { n := 2, me := 0, next := 1, prev := 1 }, rb := {}, ga := { n := 2, me := 0, next := 1, prev := 1 },
    gb := {}, members := [0, 1], elems := 2, rowLen := 2, fmt := fmtF32, record := none, margin := 1, x0 := 127, buffers := 8,
    countSlot := 0,
    contribs := cores.map fun c =>
      { core := c, ctx := 0, x := 1, y := 2, sr := false, ovf := false, word := none, vals := [.zero, .zero], route := [] } }

/-- The instance is open. -/
def opened (i : Inst) : State := { ran with colls := { ran.colls with insts := [i] } }

/-- A run from chip 1. -/
def run1 (epoch drawing step : Nat) : Run :=
  { peer := 1, epoch := epoch, drawingId := drawing, tenant := 0, plan := 1, inst := 0, step := step, key := ⟨0, 0, 0, false, 0, 0⟩,
    phase := 0, retry := false, eBound := 0, x := 0, elems := [], rows := 0, shape := [] }

/-- A ledger message of step 1. -/
def msg (veto : Bool) (job : Nat) : LedgerMsg :=
  { kind := 1, veto := veto, mismatch := false, hasProposal := false, voted := true, commitHeld := false, commitApplied := false,
    attempt := 0, jobEpoch := 0, step := 1, jobId := job, sender := 0, voters := 1, causes := 0, findings := 0, proposal := 0,
    commitGate := 1024, nonfinite := 0, loss := 0, gradNorm := 0, agreement := [] }

/-- Tenant 0 with its step closed and no work left: it may vote. -/
def closed : State :=
  rg { ran with works := [], tenants := [(0, { admittedTenant with closes := [(1, 0)], ownVote := none })] }
    [(Obj.cadenceState, cadLocked), (Obj.ledgerJobId 0, 77)]

/-- It has voted. -/
def voted : State := { closed with tenants := [(0, { admittedTenant with ownVote := some (msg false 77), seenMsgs := [msgIdent (msg false 77)] })] }

/-- The same with two blocks of 257 elements each: the first goes to chip 1. -/
def big : Inst :=
  let c : Contrib :=
    { core := 0, ctx := 0, x := 1, y := 2, sr := false, ovf := false, word := none, vals := List.replicate 514 .zero, route := [] }
  { inst [0] with elems := 514, rowLen := 514, contribs := [c] }

/-- A block under sketching. -/
def sk : SkBlock := { n := 0, group := 0, step := 1, tap := 0, e := 0, values := [] }

/-! Optical dies, members, mirrors, sessions, Ethernet -/

/-- A laser in a state. -/
def lane (p l v : Nat) : State := rg own [(Obj.laneState p l, v)]

/-- The same with LS idle and a launch power in 0.01 dB below 65,536. -/
def weak (cdb : Nat) : State := rg (lane 15 7 lnService) [(Obj.laneState 15 8, lnSpareIdle), (Obj.launchPowerCdb 15 7, 65536 - cdb)]

/-- Port 15 as given. -/
def porty (v : Port) : State := { own with ports := [(15, v)] }

/-- A received block whose frame reads as zeros. -/
def frame (syndrome : Bool) : LaneBlock := { syndrome := syndrome, bytes := [], correctedBits := 0 }

/-- An identity record heard on the base lane of port 0. -/
def ident (chip : Nat) : IdRecord :=
  { major := 1, minor := 0, serialDigest := 0, chip := chip, physicalPort := 0, logicalPort := 0, lane := 8, channel := 0,
    expectedChip := 0, expectedPort := 0, drawingId := 0, flags := 0 }

/-- Lane 8 of port 0, its base lane, up and trained; chip 63, which it hears, is fenced. -/
def trained : State :=
  { lane 0 8 lnUp with ports := [(0, { baseLane := 8 })], lasers := [(laserKey 0 8, { trained := true })], life := [(63, 1)] }

/-- A wax calibration's result. -/
def waxRes : WaxResult := { ratePpb := 0, powerGood := true, loopDelayPs := 0, heaterMargin := 0 }

/-- A beacon. -/
def beac (chip : Nat) : Beacon := { chip := chip, life := 0, epoch := 0, digest := [], status := 0 }

/-- Tenant 0 between steps, with mirror entry 0 as given and its shard at offset 0. -/
def mirrored (role state : Nat) : State :=
  { ran with tenants := [(0, { admittedTenant with steps := [], mirrors := [⟨0, 1, 0, role, state, 1, false, false⟩] })] }

/-- A fault report. -/
def frep : FaultRep :=
  { cls := 1, cause := 1, reporter := 0, master := 0, access := 0, partition := 0, address := 0, work := none, injected := false }

/-- Session 1 as given. -/
def sessd (x : Session) : State := { own with sessions := [x] }

/-- The Owner's session. -/
def owner : Session := { id := 1, role := roleOwner, tenant := 0xFF, keySlot := 0 }

/-- The row of the mirror tables. -/
def mirrorRow : ObjRow := ⟨0x7050, 0x705F, 1, 1, 13, 0, 1, .tenant, 0, true⟩

/-- One byte for a mirror table of 24. -/
def seg (offset : Nat) : SegItem := { obj := ⟨0x7050, 1⟩, offset := offset, total := 24, data := [1] }

/-- A transfer of that table. -/
def stg : Staged := { obj := objKey ⟨0x7050, 1⟩, total := 24 }

/-- Key slot 31 holds the digest of the empty key. -/
def keyed : State := { own with dev := { own.dev with keySlots := [(31, { key with hash := sha256 [] })] } }

/-- A handshake under that key. -/
def hs : Handshake := { id := 5, keySlot := 31, roleKey := [], started := 0, transcript := [], key := [], net := 0, peer := 0 }

/-- A notice. -/
def nt : Notice := { sequence := 1, obj := 1, loss := false, value := [] }

/-- Ethernet port 7 is up. -/
def eth : State := rg own [(Obj.linkState 7, 1)]

/-- Queue pair 1023 as given, beside an admitted tenant 0. -/
def qpd (v : Qp) : State := { ran with eth := { ran.eth with qps := [(1023, v)] } }

/-- A ready queue pair. -/
def qpOn : QpSpec := { qpDefault with state := 1 }

/-- A push not acknowledged. -/
def cpl : Completion := { sequence := 0, userTag := 0, step := 0, status := 0, ctx := 0, core := 0, detail := 0 }

theorem liftOk {r : Except OpFault (Nat × Entry)} {p : Nat × Entry}
    (h : (match r with | .ok p => some p | .error _ => none) = some p) : r = .ok p := by
  cases r <;> simp_all

theorem liftErr {r : Except OpFault (Nat × Entry)} {f : OpFault}
    (h : (match r with | .ok _ => none | .error f => some f) = some f) : r = .error f := by
  cases r <;> simp_all

/-- The beat before a gate, with events to come. -/
def gated (es : List Sched) : State :=
  rg { master with time := { master.time with cad := 63 * 1024, events := es } }
    ((List.range 8).map fun d => (Obj.supplyMv d, curveMv (master.clock d)))
def scal : ScalarWord := { immFlag := true, sd := 31, sa := 31, sb := 31, token := 255, cnt := 65535, imm := 2 ^ 64 - 1 }
def mmaw : MmaWord := mw1 true
/-- The work's context is faulted. -/
def faulted : State :=
  { ran with ctxs := [(0, { state := 4, work := some 7, firstFault := some (2, 8) })] }

/-- The work with a stream operand of no rows in slot 4. -/
def noRows : List (Nat × List Byte) := wk.bindings ++ [(4, bytesOf { vec 192 1 fmtBF16 with e1 := 0 })]
def empties (_ : Nat) : State := { ran with works := [(7, { wk with bindings := noRows })] }
def noRowsMma : Mma := { mma false with x := { vec 192 1 fmtBF16 with e1 := 0 } }
def taken : State := { ran {} { planes := [(0, { tag := some 1 })] } with ctxs := (1, { state := 3 }) :: ran.ctxs }

/-- The work outside normal service, with the bounds and the top of an activation stack. -/
def served (base limit top : Nat) : State :=
  rg { ran { stackBase := base, stackLimit := limit } with tenants := [(0, { admittedTenant with steps := [{ step1 with service := 1 }] })] }
    [(Obj.stackTop 0 0, top)]

/-- The same with an entry pushed of slot 1's tensor: its tensor id, its kind less 1 (0 for a keep) and its first payload bit. -/
def kept (tid micro bit : Nat) (kind : Nat := 0) : State :=
  let s := served 1024 2048 1024
  s.pushed 0 0 wk (if kind = 0 then
      toBytes 4 tid ++ toBytes 2 micro ++ [11, 1, 1] ++ toBytes 7 0 ++ toBytes 4 1 ++ toBytes 4 1 ++ toBytes 4 1 ++ toBytes 4 1 ++
      toBytes 8 4 ++ toBytes 8 1024 ++ toBytes 16 0 ++ toBytes 4 bit ++ toBytes 60 0
    else s.stackEntry wk (vec 0 1 fmtF32) .plain 1024 0 tid false 0 0)

def headOf (s : State) : List Byte := s.peekBytes 0 1024 .plain 64
def bodyOf (s : State) : List Byte := s.peekBytes 0 1088 .plain 4

theorem headRead {t : State}
    (h : (t.ctx 0 0).stack = [1024] ∧ t.reg (Obj.stackTop 0 0) ≠ (t.ctx 0 0).stackBase)
    (h1 : t.meetInjections 0 ((List.range 64).map fun i => 1024 + i) .plain (moverUnit 0) 0 = t)
    (h2 : t.anyBad 0 ((List.range 64).map fun i => 1024 + i) .plain = false) : HeadRead t 0 0 wk (headOf t) t :=
  ⟨1024, [], h.1, h.2, h1.symm, h2, rfl⟩

theorem topRead {t : State} (h : HeadRead t 0 0 wk (headOf t) t)
    (h1 : (t.ctx 0 0).stack.head? = some 1024 ∧ field (headOf t) 0x20 8 = 4)
    (h2 : t.meetInjections 0 ((List.range 4).map fun i => 1088 + i) .plain (moverUnit 0) 0 = t ∧
      t.anyBad 0 ((List.range 4).map fun i => 1088 + i) .plain = false) : TopRead t 0 0 wk ⟨headOf t, bodyOf t⟩ t := by
  refine ⟨t, 1024, h, h1.1, ?_⟩
  simp only [h1.2]
  exact ⟨h2.1.symm, h2.2, rfl⟩

theorem fits2 {t : State} {n len : Nat} (h : ((List.range (len / 64)).all fun i => t.writable n (1024 + 64 * i) .plain) = true) :
    ∀ i, i < len / 64 → t.writable n (offOf 1024 + 64 * i) .plain = true := by
  intro i hi
  exact List.all_eq_true.mp h i (List.mem_range.mpr hi)

/-- A message under an open session's key, its sequence new. -/
theorem freshOf {s : State} {e : Envelope} {m : List Byte} {y : Session}
    (h : s.gdpUp = true ∧ s.session? e.session = some y ∧ e.tag = tagOf y.key e.sequence m)
    (h2 : y.highest < e.sequence + 1024 ∧ y.seen.contains e.sequence = false) :
    s.authenticate e m = .fresh (s.setSession (y.heard e s.up)) (y.heard e s.up) := by
  have h3 : ¬ e.sequence + 1024 ≤ y.highest := by omega
  simp only [State.authenticate, h.1, h.2.1, h.2.2, h3, h2.2, Session.heard]
  simp

/-- A Dispatch message's envelope of an open session of boot. -/
def envD (sess q index : Nat) : Envelope := { env sess with tag := tagOf [] 1 (dispatchHead 1 q index sess 0) }

/-- Session `sess` of `boot` after that message. -/
def heardD (s : State) (sess q index : Nat) : Session := ((s.session? sess).getD owner).heard (envD sess q index) s.up

/-- Every port has used its credits. -/
def full (s : State) : State := { s with ports := (List.range 16).map fun i => (i, { sent := (8192, 8192) }) }

/-- The work's collective with two blocks, a piste to chip 1 by lane 1 of port 0 and one buffer announced. -/
def pisted (announced : Nat) : State :=
  let d : Drawing :=
    { drw 0 with lanes := [⟨0, 1, 1, 0, false, false, 0, 1, 63⟩] }
  rg { opened big with colls := { (opened big).colls with announced := [(collKey 1 0 1, announced)] },
                       fabric := { (opened big).fabric with inForce := some d } } [(Obj.laneState 0 1, lnService)]

/-- The next run of its first chunk. -/
def run0 : RunKey × Val × Nat := (⟨0, 0, 1, false, 0, 0⟩, (big.nextRun 0 1).elim ([], 0) (·.2.1), 0)

/-- The stream from chip 63 has taken packets up to a sequence. -/
def rxd (v : RxStream) : State := { own with fabric := { own.fabric with rx := [(streamKey 63 0, v)] } }

/-- The base lane of port 0 is in quarantine. -/
def barred (s : State) : State := s.setReg (Obj.laneState 0 0) lnQuarantine

/-- A mirror entry 0 that receives a feed at offset 64. -/
def fed : State := { ran with tenants := [(0, { admittedTenant with mirrors := [⟨64, 1, 0, 4, 3, 1, false, false⟩] })] }

/-- A frame whose header verifies. -/
def goodFrame : LaneBlock :=
  let h := toBytes 4 alignWord ++ List.replicate 0x70 0
  { frame false with bytes := h ++ toBytes 4 (crc32 h) }

/-- Chip 1, with a tenant 0 of the packages 0 and 1. -/
def child (s : State) : State :=
  rg { s with tenants := s.tenants.map fun p => (p.1, { p.2 with members := [0, 1], live := [0, 1] }) } [(Obj.chipNumber, 1)]

/-- Tenant 0's vote with chip 1 still to vote. -/
def parent (s : State) : State := { s with tenants := s.tenants.map fun p => (p.1, { p.2 with members := [0, 1], live := [0, 1] }) }

/-- Lane 7 of port 15 with a launch power in 0.01 dB below 65,536, LS idle and a laser as given. -/
def lit (cdb : Nat) (v : Laser) : State := { weak cdb with lasers := [(laserKey 15 7, v)] }

/-- The drawing in force draws lane 7 of port 15. -/
def inDrawing (s : State) (port lane : Nat) : State :=
  { s with fabric := { s.fabric with inForce := some { drw 0 with lanes := [⟨port, lane, 1, 0, false, false, 0, 1, 63⟩] } } }

/-- A request's envelope of an open session of boot. -/
def envR (sess kind flags items : Nat) (body : List Byte) : Envelope :=
  { env sess with tag := hmac [] (gdpMessage 1 kind flags 0 sess 0 items body ++ toBytes 8 1 ++ toBytes 8 0) }

theorem auths {s : State} {e : Envelope} {m : List Byte} (y : Session)
    (h : s.gdpUp = true ∧ s.session? e.session = some y ∧ e.tag = hmac y.key (m ++ toBytes 8 e.sequence ++ toBytes 8 0))
    (h2 : y.highest < e.sequence + 1024 ∧ e.sequence ∉ y.seen) : Authentic s e m (y.heard e s.up) :=
  ⟨h.1, y, h.2.1, h.2.2, h2.1, h2.2, rfl⟩

theorem reqd {s : State} {e : Envelope} {kind flags items : Nat} {body : List Byte} (y : Session)
    (h : e.version = 1 ∧ s.gdpUp = true ∧ s.session? e.session = some y ∧
      e.tag = hmac y.key (gdpMessage 1 kind flags 0 e.session e.requestId items body ++ toBytes 8 e.sequence ++ toBytes 8 0))
    (h2 : y.highest < e.sequence + 1024 ∧ e.sequence ∉ y.seen) : Requested s e kind flags items body (y.heard e s.up) :=
  ⟨h.1, auths y ⟨h.2.1, h.2.2.1, h.2.2.2⟩ h2⟩

/-- The public key, digest and signature of the published example "sample" for P-256 with SHA-256 (RFC 6979, appendix A.2.5). -/
def rfcKey : List Byte :=
  4 :: beBytes 32 0x60FED4BA255A9D31C961EB74C6356D68C049B8923B61FA6CE669622E60F29FB6 ++
    beBytes 32 0x7903FE1008B8BC99A41AE9E95628BC64F2F1B20C2D7E9F5177A3C294D4462299
def rfcDigest : List Byte := sha256 [0x73, 0x61, 0x6D, 0x70, 0x6C, 0x65]
def rfcSig : List Byte :=
  beBytes 32 0xEFD48B2AACB6A8FD1140DD9CD45E81D69D2C877B56AAF991C34D0EA84EAF3716 ++
    beBytes 32 0xF7CB1C942D657C41D436C7A1B6E29F65F3E900DBB9AFF4064DC4AB2F843ACDA8

/-- It verifies. -/
theorem test_ecdsa_sample : ecdsaVerify rfcKey rfcDigest rfcSig = true := by decide +kernel

/-- Key slot 31 holds that key's digest; its handshake is at PROOF, with some sessions open. -/
def proving (n : Nat) : State :=
  { own with
    dev := { own.dev with keySlots := [(31, { key with hash := sha256 rfcKey })] },
    handshakes := [{ hs with roleKey := rfcKey, transcript := rfcDigest }], sessions := List.replicate n owner }

/-- The PROOF's envelope. -/
def envP : Envelope := envR 5 7 0 1 (toBytes 1 3 ++ rfcSig)

/-- A queue pair of tenant 0, whose queue-window key is 5. -/
def winQp : State := rg (qpd { spec := qpOn }) [(Obj.queueWindowRkey 0, 5), (Obj.queueCount 0, 4)]

/-! Copies with collective and fused forms: the package with plan 1, and core 1 still to contribute -/

theorem quiet_planned : Quiet (planned.started 0 0) :=
  ⟨rfl, rfl, rfl, rfl, by decide +kernel, by decide +kernel⟩

abbrev P1 : CollPlan := (planned.started 0 0).planOf 0 1

theorem planAsks_planned {form : CollForm} (h : form ≠ .allToAll) : (planned.started 0 0).planAsks wk P1 form = [askWrite area] := by
  have e : (planned.started 0 0).slotDesc wk P1.workSlot = some area := by decide +kernel
  simp [State.planAsks, e, h]

theorem copyInst_some : ((planned.started 0 0).instFor 0 wk 1 P1
    (copyAsk .allReduce (vec 0 1 fmtF32) (vec 64 1 fmtF32) ((planned.started 0 0).planSize 0 P1))).isSome = true := by decide +kernel

/-- The instance of a copy. -/
def copyInst : Inst := ((planned.started 0 0).instFor 0 wk 1 P1
  (copyAsk .allReduce (vec 0 1 fmtF32) (vec 64 1 fmtF32) ((planned.started 0 0).planSize 0 P1))).get copyInst_some

theorem copyReady_reduce : CopyReady (planned.started 0 0) 0 0 wk cw .allReduce (vec 0 1 fmtF32) (vec 64 1 fmtF32) copyInst
    [(vec 0 1 fmtF32, .plain), (vec 64 1 fmtF32, .plain), (area, .plain)] (planned.started 0 0) [] where
  source := by decide +kernel
  target := by decide +kernel
  plan := by decide +kernel
  formats := by decide +kernel
  apart := by decide +kernel
  joins := (Option.some_get copyInst_some).symm
  shape := by decide +kernel
  fits := by decide +kernel
  scale := by decide +kernel
  rows := rfl
  token := by decide +kernel
  operands := by
    have e : (planned.started 0 0).planAsks wk ((planned.started 0 0).planOf wk.tenant cw.cp) .allReduce = [askWrite area] :=
      planAsks_planned (by decide)
    rw [e]
    exact rdyArea (ops := [askRead (vec 0 1 fmtF32), askWrite (vec 64 1 fmtF32)])
      (ds := [(vec 0 1 fmtF32, .plain), (vec 64 1 fmtF32, .plain)]) quiet_planned (by decide +kernel) (by decide +kernel)
      (by decide +kernel) (by decide +kernel) (by decide +kernel) (by decide +kernel)

/-- A fused word: bf16 from slots 4 and 5 to slot 17. -/
def fw : MmaWord := { mw1 true with y := 17 }
def fm : Mma := { mma true with y := some (vec 704 1 fmtBF16) }
def fo : MmaOps :=
  ⟨(vec 192 1 fmtBF16, .plain), (vec 256 1 fmtBF16, .plain), some (vec 704 1 fmtBF16, .plain), none, none, none⟩

theorem fusedInst_some : ((planned.started 0 0).instFor 0 wk 1 P1 (fusedAsk .allReduce fw fm (vec 704 1 fmtBF16))).isSome = true := by
  decide +kernel
theorem gatherInst_some : ((planned.started 0 0).instFor 0 wk 1 P1 (fusedAsk .allGather fw fm (vec 704 1 fmtBF16))).isSome = true := by
  decide +kernel

/-- The instances of a fused all-reduce and of a fused all-gather. -/
def fusedInst : Inst := ((planned.started 0 0).instFor 0 wk 1 P1 (fusedAsk .allReduce fw fm (vec 704 1 fmtBF16))).get fusedInst_some
def gatherInst : Inst := ((planned.started 0 0).instFor 0 wk 1 P1 (fusedAsk .allGather fw fm (vec 704 1 fmtBF16))).get gatherInst_some

theorem fusedChecked {form : CollForm} (h : ((planned.started 0 0).fusedFits 0 wk fw form (vec 704 1 fmtBF16)) fm = true) :
    MatrixChecked (planned.started 0 0) 0 0 wk fw true (fun _ _ => true)
      ((planned.started 0 0).fusedFits 0 wk fw form (vec 704 1 fmtBF16)) fm win :=
  mchk (msound rfl ⟨by decide +kernel, by decide +kernel, by decide +kernel, by decide +kernel, h⟩)
    (mfree (by decide +kernel))

theorem fusedReady_reduce : FusedReady (planned.started 0 0) 0 0 wk fw .allReduce (vec 704 1 fmtBF16) fm win fo fusedInst
    [(vec 192 1 fmtBF16, .plain), (vec 256 1 fmtBF16, .plain), (vec 704 1 fmtBF16, .plain)] [(area, .plain)]
    (planned.started 0 0) (planned.started 0 0) where
  target := by decide +kernel
  checked := fusedChecked (by decide +kernel)
  operands := rdyAt (by decide +kernel) (by decide +kernel)
  named := rfl
  joins := (Option.some_get fusedInst_some).symm
  scale := by decide +kernel
  token := by decide +kernel
  planOps := by
    have e : (planned.started 0 0).planAsks wk ((planned.started 0 0).planOf wk.tenant fw.cp) .allReduce = [askWrite area] :=
      planAsks_planned (by decide)
    rw [e]
    exact rdyArea (ops := []) (ds := []) quiet_planned (by decide +kernel) (by decide +kernel) (by decide +kernel)
      (by decide +kernel) (by decide +kernel) (by decide +kernel)

theorem fusedReady_gather : FusedReady (planned.started 0 0) 0 0 wk fw .allGather (vec 704 1 fmtBF16) fm win fo gatherInst
    [(vec 192 1 fmtBF16, .plain), (vec 256 1 fmtBF16, .plain), (vec 704 1 fmtBF16, .plain)]
    [(vec 192 1 fmtBF16, .plain), (area, .plain)] (planned.started 0 0) (planned.started 0 0) where
  target := by decide +kernel
  checked := fusedChecked (by decide +kernel)
  operands := rdyAt (by decide +kernel) (by decide +kernel)
  named := rfl
  joins := (Option.some_get gatherInst_some).symm
  scale := by decide +kernel
  token := by decide +kernel
  planOps := by
    have e : (planned.started 0 0).planAsks wk ((planned.started 0 0).planOf wk.tenant fw.cp) .allGather = [askWrite area] :=
      planAsks_planned (by decide)
    rw [e]
    exact rdyArea (ops := [askWrite fm.x]) (ds := [(vec 192 1 fmtBF16, .plain)]) quiet_planned (by decide +kernel)
      (by decide +kernel) (by decide +kernel) (by decide +kernel) (by decide +kernel) (by decide +kernel)

/-- The planes and the product of the fused all-reduce. -/
abbrev fusedAt : State := (planned.started 0 0).loadPlanes 0 0 wk fw fm fo
theorem fusedProduct_some : (fusedAt.mmaProduct 0 wk fw fm win fo ((planned.started 0 0).mmaTensorId wk fw fm)).isSome = true := by
  decide +kernel
def fusedProduct : Product := (fusedAt.mmaProduct 0 wk fw fm win fo ((planned.started 0 0).mmaTensorId wk fw fm)).get fusedProduct_some
theorem fusedVals_some : ((afterPasses (planned.started 0 0) 0 0 wk fw fm win fo fusedProduct).fusedVals wk fw (vec 704 1 fmtBF16)
    fusedInst.native ((afterPasses (planned.started 0 0) 0 0 wk fw fm win fo fusedProduct).convRows wk fw fm fusedProduct.rows)).isSome =
    true := by decide +kernel

/-- What a store that is done leaves. -/
def doneOf : Stored → State × Counts
  | .done t n => (t, n)
  | _ => (own, noCounts)

theorem storeDone {r : Stored} (h : (match r with | .done _ _ => true | _ => false) = true) : r = .done (doneOf r).1 (doneOf r).2 := by
  cases r <;> simp_all [doneOf]

/-- The operands and the product of a matrix instruction with OUT. -/
def outOps : MmaOps := ⟨(vec 192 1 fmtBF16, .plain), (vec 256 1 fmtBF16, .plain), some (vec 0 1 fmtF32, .plain), none, none, none⟩
theorem outProduct_some : (((ran.started 0 0).loadPlanes 0 0 wk (mw1 true) (mma true) outOps).mmaProduct 0 wk (mw1 true) (mma true) win
    outOps ((ran.started 0 0).mmaTensorId wk (mw1 true) (mma true))).isSome = true := by decide +kernel
def outProduct : Product := (((ran.started 0 0).loadPlanes 0 0 wk (mw1 true) (mma true) outOps).mmaProduct 0 wk (mw1 true) (mma true)
    win outOps ((ran.started 0 0).mmaTensorId wk (mw1 true) (mma true))).get outProduct_some

theorem pairOf {α : Type} {p : Nat × α} {n : Nat} (h : p.1 = n) : p = (n, p.2) := by rw [← h]

/-! One step each; the expected values come from the spec's rules, or, for SHA-256, from its published example -/

/-- What a command leaves of the package. -/
def did (i : Instr) (s : State) : State := nextOf s (exec i s)

/-- The digest the spec names throughout (key slots, images, life tables) is SHA-256: its published example "abc" (FIPS 180-2, appendix B.1). -/
theorem test_sha256_abc : sha256 [0x61, 0x62, 0x63] =
    [0xba, 0x78, 0x16, 0xbf, 0x8f, 0x01, 0xcf, 0xea, 0x41, 0x41, 0x40, 0xde, 0x5d, 0xae, 0x22, 0x23,
     0xb0, 0x03, 0x61, 0xa3, 0x96, 0x17, 0x7a, 0x9c, 0xb4, 0x10, 0xff, 0x61, 0xf2, 0x00, 0x15, 0xad] := by decide +kernel

/-- SADD wraps at 64 bits and moves past its word (R373, R374). -/
theorem test_sadd_wraps :
    let t := did (.sadd 0 0 { immFlag := true, sd := 1, sa := 2, sb := 0, token := 0, cnt := 0, imm := 2 }) (ran { sregs := [(2, 2 ^ 64 - 1)] })
    (t.ctx 0 0).sreg 1 = 1 ∧ (t.ctx 0 0).ip = 16 := by decide +kernel

/-- SSRA keeps the sign (R374): -8 shifted by 1 is -4. -/
theorem test_ssra_sign :
    ((did (.ssra 0 0 { immFlag := true, sd := 1, sa := 2, sb := 0, token := 0, cnt := 0, imm := 1 })
      (ran { sregs := [(2, 2 ^ 64 - 8)] })).ctx 0 0).sreg 1 = 2 ^ 64 - 4 := by decide +kernel

/-- S0 reads as zero and takes no value (R373). -/
theorem test_s0_is_zero :
    ((did (.sadd 0 0 { immFlag := true, sd := 0, sa := 0, sb := 0, token := 0, cnt := 0, imm := 7 }) ran).ctx 0 0).sreg 0 = 0 := by
  decide +kernel

/-- A member that is fenced by request has its life raised to the next odd value (R598). -/
theorem test_fence_raises_life : (did (.fenceRequest 1 16383) { own with life := [(16383, 2)] }).lifeOf 16383 = 3 := by decide +kernel

/-- A tenant's session may not reset the package: its violation counts and the device state stays (R643, R650, R692). -/
theorem test_reset_needs_role :
    let t := did (.coreReset 3) own
    t.device = devReady ∧ (t.session? 3).map (·.violations) = some 1 := by decide +kernel

/-- A message below the replay window is dropped and counted (R662, R663). -/
theorem test_replay_window :
    (did (.close (envR 1 7 0 1 (toBytes 1 5))) (sessd { owner with highest := 1025 })).reg Obj.authFailCount = 1 := by decide +kernel

/-- CLOSE ends its session (R657). -/
theorem test_close_ends : (did (.close (envR 1 7 0 1 (toBytes 1 5))) own).session? 1 = none := by decide +kernel

/-- The route across the dies (the example after R23): F2 on PX0 to F9 on PX2, and PX0 to CD7. -/
theorem test_die_routes : diePath 8 10 = [0, 4, 10] ∧ diePath 8 7 = [1, 2, 3, 7] := by decide +kernel

/-- Identifiers (the example after R28) and the fibres of F9, E4 and E5 (the example after R721). -/
theorem test_identifiers : engineId 239 6 = 0x317E ∧ laserId 9 8 = 0xA048 ∧ fabricFibres 9 = (2, 3, 4) ∧ ethFibres 4 0 = (2, 9, 13) ∧
    ethFibres 5 3 = (2, 20, 24) := by decide +kernel

/-- Sixteen F32 values in one F4 block (the example after R113): the block scale, the codes, and the classes of zeros and underflows. -/
theorem test_f4_block :
    let xs := [0x41500000, 0xBF666666, 0x40A00000, 0xC0E00000, 0, 0x400CCCCD, 0xC1400000, 0x41180000, 0x3F8CCCCD, 0xC0400000,
      0x41C00000, 0x80000000, 0x40800000, 0xC1800000, 0x3F000000, 0x40D33333].map (decodeElem fmtF32)
    let r := convertBlock 0 false (fun _ => .nearest) ((List.range 16).zip xs)
    r.1 = 0x81 ∧ r.2.map (·.bits) = [5, 0, 2, 0xC, 0, 1, 0xD, 4, 1, 0xA, 7, 8, 2, 0xE, 0, 3] ∧
    (r.2.map (·.cls)).countP (· == .zero) = 2 ∧ (r.2.map (·.cls)).countP (· == .underflow) = 2 := by decide +kernel

/-- An FX32 element with X = 0x85 (the example after R120): 0.75 is 0x00C0_0000. -/
theorem test_fx32 : (fxElem fmtFX32 0x85 (decodeElem fmtF32 0x3F400000)).1 = 0x00C00000 := by decide +kernel

/-- The tree of VRED.ADD (the example after R207): 1.0, 2^24, 1.0 and -2^24 give 1.0. -/
theorem test_vred_tree : fTree [0x3F800000, 0x4B800000, 0x3F800000, 0xCB800000] = 0x3F800000 := by decide +kernel

/-- A silent slot (the example after R297): one condition is enough, and the streak goes on to 32. -/
theorem test_silent_slot :
    let t : CountSet := { total := 16777216, zero := 16770100, underflow := 6900 }
    SlotCfg.silent {} t = true ∧ SlotCfg.silent { zeroPpm := 1000000 } t = false := by decide +kernel

/-- A step takes the command at the front of the queue and leaves the rest. -/
theorem test_step_takes_front :
    (nextOf own (step { own with pending := [.handshakeTimeout 0, .beat] })).pending = [.beat] := by decide +kernel

/-- Words of the instruction stream, written from the layouts of R158, R160 and R209: MMA with ACC and OUT, OSC 0x7F, PART 2, ABASE 64 and
LST 31; MMODE 2; RNORM.F with MODE; and a reserved opcode, 0x3FF. -/
theorem test_stream_words :
    decodeStream 5 1 0x20300040050010000000007F8207C000 = .mma 5 1 { mw1 true with acc := true, part := 2, abase := 64, cp := 0 } ∧
    decodeStream 5 1 0x20400000000000000000000000000002 = .mmode 5 1 2 ∧
    decodeStream 5 1 0x802000100200300000043727C5AC0000 =
      .rnormF 5 1 { rw 1 2 with b := 0, sbase := 4, imm := 0x3727C5AC, ofs := 0 } ∧
    decodeStream 5 1 0xFFC00000000000000000000000000000 = .reservedOpcode 5 1 0x3FF false := by decide +kernel

/-! The form of commands (Sys2Proof/WellFormed.lean): one ill-formed command for each check -/

/-- Well-formed words, records and messages. -/
def envZ : Envelope := { env 1 with tag := List.replicate 32 0 }
def thrw : ThreadWord := { pred := 3, pneg := false, sr := false, ovf := false, d := 4095, a := 4095, b := 4095, c := 4095, imm := 0 }
def ledm : LedgerMsg := { msg false 77 with agreement := List.replicate 32 0 }

def mapE : MapEntry :=
  { base := 0, sizeLines := 1, tensorId := 0, tenant := 0, homeTier := 0, homeDie := 0, pinned := false, shared := false,
    versioned := false, placeKind := 0, placeCluster := 0, placeCore := 0, shareMask := 0 }
def lwin : LaserWindow := { laser := 9, powerCdb := 0, correctedBits := 0, receivedBits := 0, uncorrectedBlocks := 0 }

/-- Words. -/
theorem test_wf_words : ([.nop 512 0 scal, .nop 511 4 scal, .nop 511 3 { scal with sd := 32 }, .nop 511 3 { scal with sa := 32 },
    .nop 511 3 { scal with sb := 32 }, .nop 511 3 { scal with token := 256 }, .nop 511 3 { scal with cnt := 65536 },
    .nop 511 3 { scal with imm := 2 ^ 64 }, .vadd 512 0 thrw, .vadd 0 64 thrw, .vadd 0 0 { thrw with pred := 4 },
    .vadd 0 0 { thrw with d := 4096 }, .vadd 0 0 { thrw with a := 4096 }, .vadd 0 0 { thrw with b := 4096 },
    .vadd 0 0 { thrw with c := 4096 }, .vadd 0 0 { thrw with imm := 2 ^ 32 }, .mma 0 0 { mmaw with x := 4096 },
    .mma 0 0 { mmaw with osc := 256 }, .mma 0 0 { mmaw with part := 4 }, .mma 0 0 { mmaw with abase := 2048 },
    .mma 0 0 { mmaw with lst := 32 }, .mma 0 0 { mmaw with cp := 1024 }, .rnormF 0 0 { rw 4 5 with sbase := 65536 },
    .rnormF 0 0 { rw 4 5 with ofs := 65536 }, .rupdAm 0 0 { upd with r := 4096 }, .rfold 0 0 { fld with y := 4096 },
    .dmCopy 0 0 { dm 4 5 with cnt := 4096 }, .liftClaim 0 0 (lw 4 0 0), .liftClaim 0 0 { lw 0 0 0 with deadline := 2 ^ 24 },
    .liftClaim 0 0 (lw 0 0 256), .ccAr 0 0 { sr := false, ovf := false, x := 1, y := 2, cp := 1024 },
    .mmode 0 0 4, .reservedOpcode 0 0 1024 false] : List Instr).all (fun i => !i.wf) = true ∧
    ([.nop 511 3 scal, .vadd 511 63 thrw, .mma 511 3 mmaw, .rnormF 0 0 (rw 4 5), .rupdAm 0 0 upd, .rfold 0 0 fld,
    .dmCopy 0 0 (dm 4 5), .liftClaim 0 0 (lw 3 0 255)] : List Instr).all Instr.wf = true := by decide +kernel

/-- Records, messages and numbers. -/
theorem test_wf_records : ([.bootStageComplete 10 none [], .bootStageComplete 1 none [512], .ownerKeyFuse 1 [7],
    .keySlotWrite 1 32 key, .keySlotWrite 1 0 key, .keySlotWrite 1 1 { key with hash := [] }, .keySlotWrite 1 1 { key with tenant := 16 },
    .attestationNonce 1 [], .supplySample (2 ^ 32) 0 0, .telemetryInvalid 13, .coreReset (2 ^ 32), .tenantFree 16, .imageLoad 1 0 17 [],
    .imageLoad 1 0 0 [], .tailDoorbell 4096 0, .dispatch { envZ with net := 2 } 0 0 [], .dispatch envZ 4096 0 [],
    .laneFrameReceive 16 0 (frame false), .laneFrameReceive 0 9 (frame false), .identityFrame 0 0 ⟨0, ident 65536⟩,
    .drawingWrite 1 9 (drw 1), .drawingWrite 1 0 (drw 1), .drawingWrite 1 1 (drw 256), .packetInject ⟨0, pk 0 0 16384 0 0⟩,
    .packetReceive ⟨0, { pk 0 0 0 0 0 with payload := List.replicate 4097 0 }⟩ 0, .chipNumberWrite 1 65536, .bufferPost 0 1024 0 0,
    .runReceive { run1 0 0 1 with inst := 256 }, .sketchBlockProject 4 [], .stepClose 1 0 (2 ^ 64), .voteReceive (msg false 77),
    .voteReceive { ledm with voters := 65536 }, .beaconSend 10, .beaconReceive 0 (beac 63), .mirrorTableWrite 1 0 [⟨0, 65536, 0, 1, 7⟩],
    .tensorMapWrite 1 0 [{ mapE with tenant := 16 }],
    .faultReport ⟨{ frep with cls := 0 }, .elsewhere⟩, .faultReport ⟨{ frep with cls := 4 }, .elsewhere⟩, .faultReport ⟨{ frep with work := some (16, 0, 0) }, .elsewhere⟩,
    .memoryInject 1 0 256, .read { envZ with session := 2 ^ 32 } [], .read envZ [⟨65536, 0⟩], .clearIf envZ ⟨0, 256⟩ 0,
    .hello 2 0 0 [] [] [], .ethLinkRetry 8 true, .pauseReceive 0 8 0, .qpTableWrite 1 1024 qpOn,
    .qpTableWrite 1 0 { qpOn with primary := 8 }, .marginWindowEnd 0 [lwin], .upstreamTimeout 256, .toneCorrelation 0 0 ⟨4, 0⟩ true,
    .sketchCalibrationEnd 0 (List.replicate 6 0) [] 0, .mirrorDigestReceive 0 0 ⟨[], []⟩, .wiringFault ⟨65536, []⟩, .proof envZ 256 [],
    .ethFrameReceive 0 ⟨4096, 0, none⟩ .other, .ethFrameReceive 0 ⟨0, 8, none⟩ .other] : List Instr).all (fun i => !i.wf) = true ∧
    ([.bootStageComplete 9 none [511], .keySlotWrite 1 31 key, .laneFrameReceive 15 8 (frame false), .identityFrame 0 0 ⟨0, ident 63⟩,
    .drawingWrite 1 8 (drw 255), .packetInject ⟨0, pk 0 0 16383 0 0⟩, .runReceive (run1 0 0 1), .voteReceive ledm,
    .mirrorTableWrite 1 0 [⟨0, 16383, 0, 1, 7⟩], .sketchCalibrationEnd 3 (List.replicate 6 0) (List.replicate 64 0) 0,
    .ethFrameReceive 7 ⟨4095, 7, none⟩ .other, .proof envZ 255 [], .faultReport ⟨frep, .elsewhere⟩, .read envZ [⟨65535, 255⟩], .qpTableWrite 1 1023 qpOn] :
    List Instr).all Instr.wf = true := by decide +kernel

/-! The witnesses: each clause names a state and operands that meet all hypotheses of one clause of a statement together -/

theorem witness_PowerCycle :
  (∃ s : State, s.device = devOff) ∧
  (∃ s : State, s.device ≠ devOff) ∧
  (∃ s : State, s.device ≠ devOff) ∧
  (∃ s : State, s.device = devOff) :=
  ⟨⟨off, by decide⟩,
  ⟨own, by decide⟩,
  ⟨own, by decide⟩,
  ⟨off, by decide⟩⟩

theorem witness_BootStages :
  (∃ (s : State) (stage : Nat), (s.device ≠ devBoot ∨ s.stageRuns stage = false)) ∧
  (∃ (s : State) (stage : Nat), s.device = devBoot ∧ s.stageRuns stage = true ∧ stage ∈ [1, 3, 4, 6, 9]) ∧
  (∃ s : State, s.device = devBoot ∧ s.stageRuns 5 = true) ∧
  (∃ s : State, s.device = devBoot ∧ s.stageRuns 3 = true) ∧
  (∃ s : State, s.device = devBoot ∧ s.stageRuns 4 = true) ∧
  (∃ s : State, s.device = devBoot ∧ s.stageRuns 2 = true ∧ s.dev.flashGood = true ∧ s.dev.checkImage s.dev.flash = 0) ∧
  (∃ s : State, s.device = devBoot ∧ s.stageRuns 2 = true ∧ (s.dev.flashGood = false ∨ s.dev.checkImage s.dev.flash ≠ 0)) ∧
  (∃ s : State, s.device = devBoot ∧ s.stageRuns 7 = true) ∧
  (∃ s : State, s.device = devBoot ∧ s.stageRuns 8 = true) :=
  ⟨⟨boot, 2, by decide⟩,
  ⟨staged [], 1, by decide, by decide, by decide⟩,
  ⟨staged [1, 2], by decide, by decide⟩,
  ⟨staged [1, 2], by decide, by decide⟩,
  ⟨staged [1, 2], by decide, by decide⟩,
  ⟨staged [1], by decide, by decide, by decide, by decide +kernel⟩,
  ⟨let s : State := staged [1]; { s with dev := { s.dev with flashGood := false } }, by decide, by decide, by decide⟩,
  ⟨staged [1, 2, 4], by decide, by decide⟩,
  ⟨staged [1, 2, 3, 4], by decide, by decide⟩⟩

theorem witness_Resets :
  (∃ (s : State) (sess : Nat), MayWrite s sess 0x1000 4 ∧ s.dev.resetWaiting = none ∧ s.dev.writing = none ∧ s.isUp = true) ∧
  (∃ (s : State) (sess : Nat), MayWrite s sess 0x1000 4 ∧ s.dev.resetWaiting = none ∧ s.dev.writing = none ∧ (s.isUp = true ∨
    s.device = devFenced) ∧ s.chip < 16384 ∧ s.fabric.held = []) ∧
  (∃ (s : State) (sess : Nat), MayWrite s sess 0x1000 4 ∧ s.dev.resetWaiting = none ∧ s.dev.writing.isSome = true ∧ s.isUp =
    true) ∧
  (∃ (s : State) (sess : Nat), MayWrite s sess 0x1000 4 ∧ s.dev.resetWaiting.isSome = true) ∧
  (∃ (s : State) (sess : Nat), MayWrite s sess 0x1000 4 ∧ s.isUp = false ∧ s.device ≠ devFenced) ∧
  (∃ (s : State) (sess : Nat), MayWrite s sess 0x1000 4 ∧ s.isUp = false) :=
  ⟨⟨own, 2, mw rfl, by decide, by decide, by decide⟩,
  ⟨rg own [(Obj.deviceState, devFenced), (Obj.chipNumber, 16383)], 2, mw rfl, by decide, by decide, by decide, by decide,
    by decide⟩,
  ⟨writing own, 1, mw rfl, by decide, by decide, by decide⟩,
  ⟨{ own with dev := { own.dev with resetWaiting := some 2 } }, 1, mw rfl, by decide⟩,
  ⟨boot, 2, mw rfl, by decide, by decide⟩,
  ⟨boot, 2, mw rfl, by decide⟩⟩

theorem witness_DrainEnd :
  (∃ s : State, s.device = devDraining ∧ s.chip < 16384) ∧
  (∃ s : State, s.device ≠ devDraining) :=
  ⟨⟨rg own [(Obj.deviceState, devDraining), (Obj.chipNumber, 16383)], by decide, by decide⟩,
  ⟨own, by decide⟩⟩

theorem witness_FirmwareUpdate :
  (∃ (s : State) (sess : Nat) (img : FwImage), MayWrite s sess 0x1010 1 ∧ (s.device = devReady ∨ s.device = devRecovery) ∧
    s.dev.writing = none ∧ s.dev.checkImage img = 0) ∧
  (∃ (s : State) (sess : Nat) (img : FwImage), MayWrite s sess 0x1010 1 ∧ (s.device = devReady ∨ s.device = devRecovery) ∧
    s.dev.writing = none ∧ s.dev.checkImage img ≠ 0) ∧
  (∃ (s : State) (sess : Nat), MayWrite s sess 0x1010 1 ∧ ((s.device ≠ devReady ∧ s.device ≠ devRecovery) ∨ s.dev.writing.isSome
    = true)) ∧
  (∃ (s : State) (img : FwImage), s.dev.writing = some img ∧ s.dev.resetWaiting = none ∧ s.device ≠ devRecovery) ∧
  (∃ (s : State) (img : FwImage), s.dev.writing = some img ∧ s.dev.resetWaiting = none ∧ s.device = devRecovery) ∧
  (∃ (s : State) (img : FwImage), s.dev.writing = some img ∧ s.dev.resetWaiting = none) ∧
  (∃ s : State, s.dev.writing = none) ∧
  (∃ (s : State) (sess : Nat) (i : FwImage), MayWrite s sess 0x1010 6 ∧ s.dev.running = some i) :=
  ⟨⟨rg own [(Obj.deviceState, devRecovery)], 1, Config.shippedImage, mw rfl, by decide, by decide, by decide +kernel⟩,
  ⟨own, 1, { Config.shippedImage with format := 2 }, mw rfl, by decide, by decide, by decide⟩,
  ⟨boot, 1, mw rfl, by decide⟩,
  ⟨writing own, Config.shippedImage, by decide, by decide, by decide⟩,
  ⟨rg (writing own) [(Obj.deviceState, devRecovery)], Config.shippedImage, by decide, by decide, by decide⟩,
  ⟨writing own, Config.shippedImage, by decide, by decide⟩,
  ⟨own, by decide⟩,
  ⟨{ own with dev := { own.dev with running := some Config.shippedImage } }, 1, Config.shippedImage, mw rfl, by decide⟩⟩

theorem witness_Keys :
  (∃ (s : State) (sess : Nat) (i : FwImage), MayWrite s sess 0xB000 4 ∧ s.dev.running = some i ∧ s.dev.ownerFused = false) ∧
  (∃ (s : State) (sess : Nat), MayWrite s sess 0xB000 4 ∧ s.dev.ownerFused = true) ∧
  (∃ (i : FwImage) (hash : List Byte), sha256 i.ownerKey ≠ hash) ∧
  (∃ s : State, s.dev.ownerFused = true) ∧
  (∃ (s : State) (sess slot : Nat) (ks : KeySlot), MayWrite s sess 0xB010 (slot + 1) ∧ 1 ≤ slot ∧ slot ≤ 31 ∧ slotOk ks = true ∧
    s.keySlot slot ≠ ks) ∧
  (∃ (s : State) (sess slot : Nat), MayWrite s sess 0xB010 (slot + 1)) ∧
  (∃ (s : State) (sess slot : Nat) (ks : KeySlot), (slot = 0 ∨ 31 < slot ∨ slotOk ks = false) ∧ MayWrite s sess 0xB010 (slot +
    1)) ∧
  (∃ (s : State) (sess : Nat) (nonce : List Byte) (x : Session), s.session? sess = some x ∧ s.canWrite x ⟨0xB020, 1⟩ = true ∧
    nonce.length = 32) ∧
  (∃ (s : State) (sess : Nat) (nonce : List Byte), MayWrite s sess 0xB020 1 ∧ nonce.length ≠ 32) :=
  ⟨⟨{ own with dev := { own.dev with running := some Config.shippedImage } }, 1, Config.shippedImage, mw rfl, by decide,
    by decide⟩,
  ⟨{ own with dev := { own.dev with ownerFused := true } }, 1, mw rfl, by decide⟩,
  ⟨Config.shippedImage, [], by decide +kernel⟩,
  ⟨{ own with dev := { own.dev with ownerFused := true } }, by decide⟩,
  ⟨own, 1, 31, key, mw rfl, by decide, by decide, by decide, by decide⟩,
  ⟨own, 1, 31, mw rfl⟩,
  ⟨own, 1, 31, { key with hash := [] }, .inr (.inr (by decide)), mw rfl⟩,
  ⟨own, 1, List.replicate 32 1, owner, by decide, by decide, by decide⟩,
  ⟨own, 1, [], mw rfl, by decide⟩⟩

theorem witness_Supply :
  (∃ s : State, s.device = devOff) ∧
  (∃ (s : State) (mv : Nat), s.device ≠ devOff ∧ s.device ≠ devHalted ∧ s.reg Obj.supplyState = 0 ∧ 30000 ≤ mv ∧ mv ≤ 42000) ∧
  (∃ (s : State) (mv : Nat), s.device ≠ devOff ∧ s.device ≠ devHalted ∧ s.reg Obj.supplyState ≠ 1 ∧ s.supply.samples ≠ [] ∧
    s.reg Obj.inputMv < 30000 ∧ mv < 30000) ∧
  (∃ (s : State) (mv : Nat), s.device ≠ devOff ∧ s.device ≠ devHalted ∧ s.supply.samples ≠ [] ∧ 45000 < s.reg Obj.inputMv ∧
    45000 < mv) ∧
  (∃ s : State, s.reg Obj.supplyState ≠ 1) ∧
  (∃ s : State, s.reg Obj.supplyState = 1 ∧ s.supply.prevMv = some (s.reg Obj.inputMv) ∧ 30000 ≤ s.reg Obj.inputMv) ∧
  (∃ s : State, s.device ≠ devOff ∧ s.device ≠ devHalted ∧ s.reg Obj.supplyState = 1) ∧
  (∃ s : State, s.device ≠ devOff ∧ s.device ≠ devHalted ∧ s.reg Obj.supplyState = 2) ∧
  (∃ (s : State) (v : Nat), s.device ≠ devOff ∧ s.device ≠ devHalted ∧ s.supply.prevMv = some v ∧ v < 24000 ∧ s.reg Obj.inputMv
    < 24000) ∧
  (∃ s : State, s.device ≠ devOff ∧ (s.reg Obj.bladeAMa + s.reg Obj.bladeBMa) * 625 < max (s.reg Obj.bladeAMa) (s.reg
    Obj.bladeBMa) * 1000) ∧
  (∃ (s : State) (inlet : Int), s.device ≠ devOff ∧ inlet ≤ 4000) ∧
  (∃ (s : State) (inlet : Int), s.device ≠ devOff ∧ 4000 < inlet) :=
  ⟨⟨off, by decide⟩,
  ⟨own, 42000, by decide, by decide, by decide, by decide, by decide⟩,
  ⟨sampled 29999 none, 29999, by decide, by decide, by decide, by decide, by decide, by decide⟩,
  ⟨sampled 45001 none, 45001, by decide, by decide, by decide, by decide, by decide⟩,
  ⟨own, by decide⟩,
  ⟨rg (sampled 30000 (some 30000)) [(Obj.supplyState, 1)], by decide, by decide, by decide⟩,
  ⟨rg own [(Obj.supplyState, 1)], by decide, by decide, by decide⟩,
  ⟨rg own [(Obj.supplyState, 2)], by decide, by decide, by decide⟩,
  ⟨sampled 23999 (some 23999), 23999, by decide, by decide, by decide, by decide, by decide⟩,
  ⟨rg own [(Obj.bladeAMa, 1000), (Obj.bladeBMa, 599)], by decide, by decide⟩,
  ⟨own, 4000, by decide, by decide⟩,
  ⟨own, 4001, by decide, by decide⟩⟩

theorem witness_OrderlyStop :
  (∃ s : State, s.device ≠ devOff ∧ s.device ≠ devHalted ∧ s.inputGone = false) ∧
  (∃ s : State, s.device ≠ devOff ∧ s.device ≠ devHalted ∧ s.supply.samples ≠ [] ∧ s.reg Obj.inputMv < 18000) :=
  ⟨⟨own, by decide, by decide, by decide⟩,
  ⟨rg { own with supply := { own.supply with samples := [(1, 1, 1)] } } [(Obj.inputMv, 17999)], by decide, by decide, by decide,
    by decide⟩⟩

theorem witness_Governor :
  (∃ s : State, (s.device = devOff ∨ s.device = devHalted)) ∧
  (∃ (s : State) (xs : List DieSample), s.device ≠ devOff ∧ s.device ≠ devHalted ∧ (xs.map (·.die)).Nodup ∧ (∀ x ∈ xs, x.die <
    13 ∧ x.temp < 10000 ∧ x.valid = true)) ∧
  (∃ (s : State) (x : DieSample), s.device ≠ devOff ∧ s.device ≠ devHalted ∧ x.die < 13 ∧ x.valid = true ∧ 11500 ≤ x.temp) ∧
  (∃ (s : State) (die : Nat), die < 8 ∧ 3 ≤ Sparse.get 0 die s.gov.missing ∧ s.reg (Obj.telemetryState die) ≠ 1) ∧
  (∃ (s : State) (die : Nat), 8 ≤ die ∧ die < 13 ∧ 3 ≤ Sparse.get 0 die s.gov.missing ∧ s.reg (Obj.telemetryState die) ≠ 1) ∧
  (∃ (s : State) (die : Nat), Sparse.get 0 die s.gov.missing < 3) ∧
  (∃ (s : State) (die : Nat), die < 8 ∧ 16 ≤ Sparse.get 0 die s.gov.valid ∧ s.reg (Obj.telemetryState die) = 1) ∧
  (∃ (s : State) (die : Nat), 8 ≤ die ∧ 16 ≤ Sparse.get 0 die s.gov.valid ∧ s.reg (Obj.telemetryState die) = 1) ∧
  (∃ (s : State) (die : Nat), Sparse.get 0 die s.gov.valid < 16) ∧
  (∃ (s : State) (die : Nat) (temp : Int), die < 8 ∧ 10000 ≤ temp ∧ temp < 11500 ∧ s.gov.throttled.contains die = false ∧
    s.device ≠ devOff ∧ s.device ≠ devHalted) ∧
  (∃ (s : State) (die : Nat) (temp : Int), die < 8 ∧ 11500 ≤ temp ∧ s.device ≠ devOff ∧ s.device ≠ devHalted) ∧
  (∃ (die : Nat) (temp : Int), (8 ≤ die ∨ temp < 10000)) ∧
  (∃ (s : State) (die : Nat), die < 8 ∧ s.gov.throttled.contains die = true ∧ 10000 ≤ s.sreg 32 (Obj.junctionTemp die)) ∧
  (∃ (s : State) (die : Nat), s.gov.throttled.contains die = false) :=
  ⟨⟨off, by decide⟩,
  ⟨own, [⟨0, 9999, 1, true⟩, ⟨12, -4000, 2, true⟩], by decide, by decide, by decide, by decide⟩,
  ⟨own, ⟨12, 11500, 1, true⟩, by decide, by decide, by decide, by decide, by decide⟩,
  ⟨{ own with gov := { own.gov with missing := [(7, 3)] } }, 7, by decide, by decide, by decide⟩,
  ⟨{ own with gov := { own.gov with missing := [(12, 3)] } }, 12, by decide, by decide, by decide, by decide⟩,
  ⟨{ own with gov := { own.gov with missing := [(12, 2)] } }, 12, by decide⟩,
  ⟨rg { own with gov := { own.gov with valid := [(7, 16)] } } [(Obj.telemetryState 7, 1)], 7, by decide, by decide, by decide⟩,
  ⟨rg { own with gov := { own.gov with valid := [(12, 16)] } } [(Obj.telemetryState 12, 1)], 12, by decide, by decide,
    by decide⟩,
  ⟨{ own with gov := { own.gov with valid := [(12, 15)] } }, 12, by decide⟩,
  ⟨own, 7, 10000, by decide, by decide, by decide, by decide, by decide, by decide⟩,
  ⟨own, 7, 11500, by decide, by decide, by decide, by decide⟩,
  ⟨8, 10000, by decide⟩,
  ⟨rg { own with gov := { own.gov with throttled := [7] } } [(Obj.junctionTemp 7, 10000)], 7, by decide, by decide, by decide⟩,
  ⟨own, 7, by decide⟩⟩

theorem witness_PairsOnlyLower :
  (∃ d : Nat, d < 8) ∧
  (∃ d : Nat, d < 13) ∧
  (∃ d : Nat, d < 8) :=
  ⟨⟨7, by decide⟩,
  ⟨12, by decide⟩,
  ⟨7, by decide⟩⟩

theorem witness_RequestsAndLimits :
  (∃ (s : State) (sess die : Nat), MayWrite s sess (0x4000 + die) 1 ∧ die < 8 ∧ 0 < s.gatePeriod ∧ s.schedCount < 256) ∧
  (∃ (s : State) (sess die : Nat) (x : Session), s.session? sess = some x ∧ 8 ≤ die ∧ die < 13) ∧
  (∃ (s : State) (die unit : Nat) (temp : Int), die < 8 ∧ unit < 5 ∧ s.device ≠ devOff ∧ s.device ≠ devHalted ∧ temp < 9500) ∧
  (∃ (s : State) (die unit : Nat) (temp : Int), die < 8 ∧ unit < 5 ∧ s.device ≠ devOff ∧ s.device ≠ devHalted ∧ 9500 ≤ temp ∧
    temp < 10500 ∧ s.reg (memStateObj die unit) ≠ 1) ∧
  (∃ (s : State) (die unit : Nat) (temp : Int), die < 8 ∧ unit < 5 ∧ s.device ≠ devOff ∧ s.device ≠ devHalted ∧ 10500 ≤ temp) ∧
  (∃ (s : State) (die unit : Nat) (temp : Int), die < 8 ∧ unit < 5 ∧ temp < 9000 ∧ s.reg (memStateObj die unit) = 1) ∧
  (∃ (s : State) (sess : Nat), MayWrite s sess 0x2020 9 ∧ 0 < s.reg Obj.staggerGroups ∧ 0 < s.gatePeriod ∧ s.schedCount < 256) ∧
  (∃ (s : State) (sess value : Nat), MayWrite s sess 0x2020 9 ∧ value ≠ 1) :=
  ⟨⟨own, 2, 7, mw rfl, by decide, by decide, by decide⟩,
  ⟨own, 1, 12, owner, rfl, by decide, by decide⟩,
  ⟨own, 7, 4, 9499, by decide, by decide, by decide, by decide, by decide⟩,
  ⟨own, 7, 4, 10499, by decide, by decide, by decide, by decide, by decide, by decide, by decide⟩,
  ⟨own, 7, 4, 10500, by decide, by decide, by decide, by decide, by decide⟩,
  ⟨rg own [(memStateObj 7 4, 1)], 7, 4, 8999, by decide, by decide, by decide, by decide⟩,
  ⟨own, 2, mw rfl, by decide, by decide, by decide⟩,
  ⟨own, 2, 2, mw rfl, by decide⟩⟩

theorem witness_CadenceFollow :
  (∃ (s : State) (f : BeatFrame) (c : Nat), s.cadenceRuns = true ∧ s.time.seenTerm < f.term ∧ s.heardOn f.port = some c ∧ f.term
    ≠ s.reg Obj.cadenceTerm) ∧
  (∃ (s : State) (f : BeatFrame) (c : Nat), s.cadenceRuns = true ∧ s.reg Obj.cadenceRole = 0 ∧ f.term = s.time.seenTerm ∧ f.term
    = s.reg Obj.cadenceTerm ∧ f.master = s.reg Obj.cadenceMasterChip ∧ s.heardOn f.port = some c ∧ s.reg Obj.upstreamPort ≠
    f.port ∧ s.betterUpstream c f.master = false) ∧
  (∃ (s : State) (f : BeatFrame), s.cadenceRuns = true ∧ f.term < s.time.seenTerm) ∧
  (∃ (s : State) (f : BeatFrame), s.reg Obj.cadenceRole = 1 ∧ f.term ≤ s.time.seenTerm) ∧
  (∃ (s : State) (flight back o : Int), s.cadenceRuns = true ∧ s.reg Obj.cadenceRole ≠ 1 ∧ s.reg Obj.upstreamPort ≠ 0xFF ∧ o =
    flight - s.pathDelay flight back ∧ o.natAbs ≤ 5000) ∧
  (∃ (s : State) (flight back o : Int), s.cadenceRuns = true ∧ s.reg Obj.cadenceRole ≠ 1 ∧ s.reg Obj.upstreamPort ≠ 0xFF ∧ o =
    flight - s.pathDelay flight back ∧ 500000 < o.natAbs ∧ (s.reg Obj.cadenceState = cadLocked ∨ s.reg Obj.cadenceState =
    cadHoldover)) ∧
  (∃ s : State, 12 ≤ s.reg Obj.upstreamPort) ∧
  (∃ s : State, s.cadenceRuns = true ∧ s.reg Obj.cadenceRole = 0 ∧ s.time.inBand = 16) ∧
  (∃ s : State, s.time.inBand ≠ 16) ∧
  (∃ (s : State) (port chip : Nat), s.cadenceRuns = true ∧ s.reg Obj.cadenceRole ≠ 1 ∧ s.nextUpstream = some (port, chip)) ∧
  (∃ s : State, s.cadenceRuns = true ∧ s.reg Obj.cadenceRole ≠ 1 ∧ s.reg Obj.cadenceState = cadLocked ∧ s.nextUpstream = none) ∧
  (∃ s : State, s.reg Obj.cadenceState = cadHoldover) ∧
  (∃ s : State, s.reg Obj.cadenceState ≠ cadHoldover) ∧
  (∃ (s : State) (port : Nat), port ≠ s.reg Obj.upstreamPort) :=
  ⟨⟨follower, ⟨1, 63, 0, 64, 0, 0, 0⟩, _, by decide, by decide, rfl, by decide⟩,
  ⟨rg { follower with time := { follower.time with upstreamChip := 63 } } [(Obj.cadenceMasterChip, 63), (Obj.upstreamPort, 1)],
    ⟨0, 63, 0, 64, 0, 0, 0⟩, _, by decide, by decide, by decide, by decide, by decide, rfl, by decide, by decide +kernel⟩,
  ⟨{ own with time := { own.time with seenTerm := 2 } }, ⟨1, 63, 0, 64, 0, 0, 0⟩, by decide, by decide⟩,
  ⟨master, ⟨1, 63, 0, 64, 0, 0, 0⟩, by decide, by decide⟩,
  ⟨follower, 5000, 0, _, by decide, by decide, by decide, rfl, by decide⟩,
  ⟨rg follower [(Obj.deviceState, devRunning)], -500001, 0, _, by decide, by decide, by decide, rfl, by decide, by decide⟩,
  ⟨rg follower [(Obj.upstreamPort, 12)], by decide⟩,
  ⟨{ follower with time := { follower.time with inBand := 16 } }, by decide, by decide, by decide⟩,
  ⟨follower, by decide⟩,
  ⟨{ follower with time := { follower.time with heard := [(3, (1, 0))] } }, _, _, by decide, by decide, rfl⟩,
  ⟨follower, by decide, by decide, by decide, by decide⟩,
  ⟨rg follower [(Obj.cadenceState, cadHoldover)], by decide⟩,
  ⟨follower, by decide⟩,
  ⟨own, 3, by decide +kernel⟩⟩

theorem witness_CadenceMaster :
  (∃ (s : State) (sess : Nat), MayWrite s sess 0x2000 5 ∧ s.reg Obj.cadenceRole ≠ 1) ∧
  (∃ (s : State) (sess value : Nat), MayWrite s sess 0x2000 5 ∧ (value ≠ 1 ∨ s.reg Obj.cadenceRole = 1)) ∧
  (∃ (s : State) (sess : Nat), MayWrite s sess 0x2001 1 ∧ s.reg Obj.cadenceRole = 1) ∧
  (∃ (s : State) (sess : Nat), MayWrite s sess 0x2001 1 ∧ s.reg Obj.cadenceRole ≠ 1) ∧
  (∃ (s : State) (p b : Nat) (rest : List (Nat × Nat)), s.time.periods = (p, b) :: rest ∧ b ≤ s.beatNo ∧ (∀ q ∈ rest, s.beatNo <
    q.2) ∧ s.reg Obj.cadenceState ≠ cadAcquiring) ∧
  (∃ s : State, (∀ q ∈ s.time.periods, s.beatNo < q.2)) :=
  ⟨⟨own, 2, mw rfl, by decide⟩,
  ⟨master, 2, 1, mw rfl, by decide⟩,
  ⟨master, 2, mw rfl, by decide⟩,
  ⟨follower, 2, mw rfl, by decide⟩,
  ⟨{ master with time := { master.time with periods := [(4096, 8192)], cad := 8192 * 1024 } }, 4096, 8192, [], by decide,
    by decide, by decide, by decide⟩,
  ⟨{ master with time := { master.time with periods := [(4096, 8192)], cad := 8191 * 1024 } }, by decide⟩⟩

theorem witness_Beat :
  (∃ s : State, (s.cadenceRuns = false ∨ s.reg Obj.cadenceState = cadAcquiring)) ∧
  (∃ (s : State) (site source cls offset : Nat), s.fabric.asks = [(site, source, offset, cls)]) ∧
  (∃ s u : State, s.cadenceRuns = true ∧ s.reg Obj.cadenceState ≠ cadAcquiring ∧ ((s.beatNo + 1) % s.gatePeriod ≠ 0 ∨
    s.gatePeriod = 0) ∧ u = { s.lowerOffsets with time := { s.time with cad := (s.beatNo + 1) * 1024, phase := 0 } }) ∧
  (∃ s u : State, s.cadenceRuns = true ∧ s.reg Obj.cadenceState ≠ cadAcquiring ∧ (s.beatNo + 1) % s.gatePeriod = 0 ∧
    s.gatePeriod ≠ 0 ∧ (∀ e ∈ s.time.events, s.beatNo + 1 < e.gate) ∧ s.gov.held = [] ∧ s.gov.throttled = [] ∧ s.gov.cooled =
    [] ∧ settleSet s.clockSet = s.clockSet ∧ (∀ d, d < 8 → s.reg (Obj.supplyMv d) = curveMv (s.clock d)) ∧ s.litPorts = [] ∧
    s.sketch.pendingCode = none ∧ s.sketch.pendingPeriod = none ∧ u =
    { s.lowerOffsets with time := { s.time with cad := (s.beatNo + 1) * 1024, phase := 0 } }) ∧
  (∃ (s u : State) (g f c : Nat), s.cadenceRuns = true ∧ s.reg Obj.cadenceState ≠ cadAcquiring ∧ (s.beatNo + 1) % s.gatePeriod =
    0 ∧ s.gatePeriod ≠ 0 ∧ s.time.events = [⟨g, .powerStep f c⟩] ∧ g ≤ s.beatNo + 1 ∧ s.gov.held = [] ∧ s.gov.throttled = [] ∧
    s.gov.cooled = [] ∧ settleSet s.clockSet = s.clockSet ∧ (∀ d, d < 8 → s.reg (Obj.supplyMv d) = curveMv (s.clock d)) ∧
    s.litPorts = [] ∧ s.sketch.pendingCode = none ∧ s.sketch.pendingPeriod = none ∧ u =
    { s.lowerOffsets with time := { s.time with cad := (s.beatNo + 1) * 1024, phase := 0, events := [] } }) ∧
  (∃ s : State, s.cadenceRuns = true ∧ s.reg Obj.cadenceState ≠ cadAcquiring ∧ (s.beatNo + 1) % s.gatePeriod = 0 ∧ s.gatePeriod
    ≠ 0) :=
  ⟨⟨off, by decide⟩,
  ⟨{ own with fabric := { own.fabric with asks := [(0x4B, 1, 2000, 3)] } }, 0x4B, 1, 3, 2000, by decide⟩,
  ⟨master, _, by decide, by decide, by decide, rfl⟩,
  ⟨gated [], _, by decide, by decide, by decide, by decide, by decide, by decide, by decide, by decide, by decide, by decide,
    by decide, by decide, by decide, rfl⟩,
  ⟨gated [⟨64, .powerStep 2860 5200⟩], _, 64, 2860, 5200, by decide, by decide, by decide, by decide, rfl, by decide, by decide,
    by decide, by decide, by decide, by decide, by decide, by decide, by decide, rfl⟩,
  ⟨{ follower with time := { follower.time with cad := 63 * 1024 } }, by decide, by decide, by decide, by decide⟩⟩

theorem witness_DieLinks :
  (∃ (s : State) (link a b : Nat), dieLinks[link]? = some (a, b) ∧ s.device ≠ devOff) ∧
  (∃ link : Nat, dieLinks[link]? = none) :=
  ⟨⟨own, 29, 11, 12, by decide, by decide⟩,
  ⟨64, by decide⟩⟩

theorem witness_ScalarArithmetic :
  (∃ (s : State) (c x : Nat) (w : ScalarWord) (k : Work) (a b : BitVec 64), Issues s c x k ∧ (s.ctx c x).sreg w.sa = a.toNat ∧
    (if w.immFlag then w.imm else (s.ctx c x).sreg w.sb) = b.toNat) :=
  ⟨ran, 0, 0, sw 0 0, wk, 0, 0, iss rfl, by decide, by decide⟩

theorem witness_Branches :
  (∃ (s : State) (c x : Nat) (k : Work), Issues s c x k) ∧
  (∃ (s : State) (c x : Nat) (k : Work), Issues s c x k) ∧
  (∃ (s : State) (c x : Nat) (k : Work), Issues s c x k) ∧
  (∃ (s : State) (c x : Nat) (k : Work), Issues s c x k) :=
  ⟨⟨ran { ip := 48 }, 0, 0, wk, iss rfl⟩,
  ⟨ran { ip := 48 }, 0, 0, wk, iss rfl⟩,
  ⟨ran { ip := 48 }, 0, 0, wk, iss rfl⟩,
  ⟨ran { ip := 48 }, 0, 0, wk, iss rfl⟩⟩

theorem witness_WaitAndEnd :
  (∃ (s : State) (c x : Nat) (w : ScalarWord) (k : Work), Issues s c x k ∧ (s.ctx c x).token w.token = .outstanding) ∧
  (∃ (s : State) (c x : Nat) (w : ScalarWord) (k : Work) (st : Nat), Issues s c x k ∧ w.token ≠ 0 ∧ st < 256 ∧ (s.ctx c x).token
    w.token = .done st) ∧
  (∃ (s : State) (c x : Nat) (w : ScalarWord) (k : Work), Issues s c x k ∧ (s.ctx c x).token w.token = .free) ∧
  (∃ (s : State) (c x : Nat) (k : Work), Issues s c x k) ∧
  (∃ (s : State) (c x : Nat), (s.ctx c x).state = 3 ∧ (s.ctx c x).waits = .yielded) ∧
  (∃ (s : State) (c x : Nat), (s.ctx c x).waits ≠ .yielded) ∧
  (∃ (s : State) (c x : Nat) (k : Work), Issues s c x k) ∧
  (∃ (s : State) (c x : Nat) (k : Work), Issues s c x k) :=
  ⟨⟨ran { tokens := [(7, .outstanding)] }, 0, 0, sw 7 0, wk, iss rfl, by decide⟩,
  ⟨ran { tokens := [(7, .done 255)] }, 0, 0, sw 7 0, wk, 255, iss rfl, by decide, by decide, by decide⟩,
  ⟨ran, 0, 0, sw 7 0, wk, iss rfl, by decide⟩,
  ⟨ran, 0, 0, wk, iss rfl⟩,
  ⟨{ ran with ctxs := [(0, { state := 3, waits := .yielded })] }, 0, 0, by decide, by decide⟩,
  ⟨ran, 0, 0, by decide⟩,
  ⟨ran, 0, 0, wk, iss rfl⟩,
  ⟨ran, 0, 0, wk, iss rfl⟩⟩

theorem witness_KernelsAndWork :
  (∃ (s : State) (c x : Nat) (w : ScalarWord) (k : Work), Issues s c x k ∧ w.cnt = 0 ∧ (w.token = 0 ∨ (s.ctx c x).token w.token
    = .free)) ∧
  (∃ (s : State) (c x : Nat) (w : ScalarWord) (k : Work), Issues s c x k ∧ w.cnt ≠ 0 ∧ (w.token = 0 ∨ (s.ctx c x).token w.token
    = .free) ∧ s.idleGroups c x = []) ∧
  (∃ (s : State) (c x g : Nat) (w : ScalarWord) (k : Work), Issues s c x k ∧ w.cnt ≠ 0 ∧ g < 64 ∧ (w.token = 0 ∨ (s.ctx c
    x).token w.token = .free) ∧ s.idleGroups c x = [g] ∧ (∀ kn ∈ (s.core c).kernels, kn.ctx = x → kn.blocks ≤ kn.nextBlock)) ∧
  (∃ (s : State) (c x : Nat) (w : ScalarWord) (k : Work), Issues s c x k ∧ w.token ≠ 0 ∧ (s.ctx c x).token w.token ≠ .free) ∧
  (∃ (s : State) (c x tk : Nat) (k : Kernel), ((s.core c).kernels.find? fun k => k.ctx == x && k.token == tk && k.done) = some
    k) ∧
  (∃ (s : State) (c x tk : Nat), ((s.core c).kernels.all fun k => !(k.ctx == x && k.token == tk && k.done)) = true) ∧
  (∃ (s : State) (c x w : Nat) (k : Work), s.quiet c x = true ∧ s.ctxWork c x = some (w, k) ∧ (s.ctx c x).state = 3 ∧ (s.ctx c
    x).waits = .ending) ∧
  (∃ (s : State) (c x w e a : Nat) (k : Work), s.quiet c x = true ∧ s.ctxWork c x = some (w, k) ∧ (s.ctx c x).state = 4 ∧ (s.ctx
    c x).firstFault = some (e, a)) ∧
  (∃ (s : State) (c x : Nat), (s.quiet c x = false ∨ ((s.ctx c x).state ≠ 4 ∧ ((s.ctx c x).state ≠ 3 ∨ (s.ctx c x).waits ≠
    .ending)))) ∧
  (∃ (s : State) (c x op : Nat) (k : Work), Issues s c x k ∧ listedOpcode op = false) ∧
  (∃ (s : State) (c x op : Nat), (op < 0x100 ∨ 0x1FF < op) ∧ ((s.core c).kernels.any fun k => k.ctx == x && !k.groups.isEmpty) =
    true) :=
  ⟨⟨ran, 0, 0, sw 1 0, wk, iss rfl, by decide, by decide⟩,
  ⟨ran, 0, 0, sw 1 1, wk, iss rfl, by decide, by decide, by decide⟩,
  ⟨ran { groups := [63] }, 0, 0, 63, sw 1 1, wk, iss rfl, by decide, by decide, by decide, by decide, by decide⟩,
  ⟨ran { tokens := [(7, .outstanding)] }, 0, 0, sw 7 1, wk, iss rfl, by decide, by decide⟩,
  ⟨ran {} { kernels := [{ kern with ended := 1, groups := [] }] }, 0, 0, 1, { kern with ended := 1, groups := [] }, by decide⟩,
  ⟨ran, 0, 0, 1, by decide⟩,
  ⟨{ ran with ctxs := [(0, { state := 3, work := some 7, waits := .ending })] }, 0, 0, 7, wk, by decide, by decide, by decide,
    by decide⟩,
  ⟨faulted, 0, 0, 7, 2, 8, wk, by decide, by decide, by decide, by decide⟩,
  ⟨ran, 0, 0, by decide⟩,
  ⟨ran, 0, 0, 0x007, wk, iss rfl, by decide⟩,
  ⟨ran {} { kernels := [kern] }, 0, 0, 0x200, by decide, by decide⟩⟩

theorem witness_StreamWords :
  (∃ w o r : Nat, w = o * 2 ^ 118 + r ∧ r < 2 ^ 118 ∧ o < 2 ^ 10 ∧ o = 0x80) ∧
  (∃ w o r : Nat, w = o * 2 ^ 118 + r ∧ r < 2 ^ 118 ∧ o < 2 ^ 10 ∧ o = 0x81) ∧
  (∃ w o r : Nat, w = o * 2 ^ 118 + r ∧ r < 2 ^ 118 ∧ o < 2 ^ 10 ∧ o = 0x41) ∧
  (∃ w o r : Nat, w = o * 2 ^ 118 + r ∧ r < 2 ^ 118 ∧ o < 2 ^ 10 ∧ o = 0x42) ∧
  (∃ w o r : Nat, w = o * 2 ^ 118 + r ∧ r < 2 ^ 118 ∧ o < 2 ^ 10 ∧ o = 0x230) ∧
  (∃ w o r : Nat, w = o * 2 ^ 118 + r ∧ r < 2 ^ 118 ∧ o < 2 ^ 10) ∧
  (∃ (f : ScalarWord) (a b : Nat), f.sd < 32 ∧ f.sa < 32 ∧ f.sb < 32 ∧ f.token < 256 ∧ f.cnt < 2 ^ 16 ∧ f.imm < 2 ^ 64 ∧ a < 32
    ∧ b < 2 ^ 9) ∧
  (∃ (f : MmaWord) (cp r : Nat), f.x < 2 ^ 12 ∧ f.w < 2 ^ 12 ∧ f.y < 2 ^ 12 ∧ f.tout < 2 ^ 12 ∧ f.tx < 2 ^ 12 ∧ f.tw < 2 ^ 12 ∧
    f.osc < 2 ^ 8 ∧ f.part < 4 ∧ f.abase < 2 ^ 11 ∧ f.lst < 32 ∧ cp < 2 ^ 10 ∧ r < 16) ∧
  (∃ (f : DmWord) (a : Nat), f.x < 2 ^ 12 ∧ f.y < 2 ^ 12 ∧ f.g < 2 ^ 12 ∧ f.cnt < 2 ^ 12 ∧ f.imm0 < 2 ^ 32 ∧ f.imm1 < 2 ^ 32 ∧ a
    < 4) ∧
  (∃ (f : RowWord) (a : Nat), f.x < 2 ^ 12 ∧ f.y < 2 ^ 12 ∧ f.g < 2 ^ 12 ∧ f.b < 2 ^ 12 ∧ f.sbase < 2 ^ 16 ∧ f.imm < 2 ^ 32 ∧
    f.ofs < 2 ^ 16 ∧ a < 2) :=
  ⟨⟨0x80 * 2 ^ 118 + 1, 0x80, 1, by decide, by decide, by decide, by decide⟩,
  ⟨0x81 * 2 ^ 118 + 3, 0x81, 3, by decide, by decide, by decide, by decide⟩,
  ⟨0x41 * 2 ^ 118, 0x41, 0, by decide, by decide, by decide, by decide⟩,
  ⟨0x42 * 2 ^ 118, 0x42, 0, by decide, by decide, by decide, by decide⟩,
  ⟨0x230 * 2 ^ 118, 0x230, 0, by decide, by decide, by decide, by decide⟩,
  ⟨0x95 * 2 ^ 118, 0x95, 0, by decide, by decide, by decide⟩,
  ⟨scal, 31, 511, by decide, by decide, by decide, by decide, by decide, by decide, by decide, by decide⟩,
  ⟨mmaw, 1023, 15, by decide, by decide, by decide, by decide, by decide, by decide, by decide, by decide, by decide, by decide,
    by decide, by decide⟩,
  ⟨dm 4095 4095, 3, by decide, by decide, by decide, by decide, by decide, by decide, by decide⟩,
  ⟨rw 4095 4095, 1, by decide, by decide, by decide, by decide, by decide, by decide, by decide, by decide⟩⟩

theorem witness_LaneArithmetic :
  (∃ (s : State) (c g x : Nat) (k : Work), ThreadIssues s c g x k ∧ g < 64) :=
  ⟨grp {}, 0, 63, 0, wk, tiss rfl, by decide⟩

theorem witness_LaneSpecials :
  (∃ x : Nat, 0x7F800000 < x % 2 ^ 31 ∧ x < 2 ^ 32) ∧
  (∃ x : Nat, 0x80000000 < x ∧ x ≤ 0xFF800000) ∧
  (∃ (f : _) (x : Nat) (neg : Bool) (m : Nat) (e : Int), f ∈ [LaneFn.exp, LaneFn.exp2] ∧ ofF32 x = .fin neg m e ∧ f.exact neg m
    e < 2 ^ 363) :=
  ⟨⟨0x7F800001, by decide, by decide⟩,
  ⟨0x80000001, by decide, by decide⟩,
  ⟨.exp2, 0xC3170000, _, _, _, by decide, rfl, by decide +kernel⟩⟩

theorem witness_GroupOperations :
  (∃ (s : State) (c g x : Nat) (k : Work), ThreadIssues s c g x k ∧ g < 64) ∧
  (∃ (s : State) (c g x : Nat) (w : ThreadWord) (k : Work) (v : Nat) (vs : List Nat), ThreadIssues s c g x k ∧ g < 64 ∧
    ((s.activeOf c g w).map fun j => (s.thread c g j).reg (w.a % 32)) = v :: vs) ∧
  (∃ (s : State) (c g x : Nat) (w : ThreadWord) (k : Work), ThreadIssues s c g x k ∧ g < 64 ∧ s.activeOf c g w = []) ∧
  (∃ (s : State) (c g x : Nat) (w : ThreadWord) (k : Work), ThreadIssues s c g x k ∧ g < 64 ∧ s.activeOf c g w ≠ []) ∧
  (∃ (s : State) (c g x : Nat) (w : ThreadWord) (k : Work), ThreadIssues s c g x k ∧ g < 64 ∧ s.activeOf c g w = []) ∧
  (∃ (s : State) (c g x : Nat) (k : Work), ThreadIssues s c g x k ∧ g < 64) ∧
  (∃ (s : State) (c g x : Nat) (w : ThreadWord) (k : Work) (j : Nat), ThreadIssues s c g x k ∧ g < 64 ∧ j < 64 ∧ (s.thread c g
    j).exited = false ∧ (s.thread c g j).active w = false) ∧
  (∃ (s : State) (c g x : Nat) (w : ThreadWord) (k : Work), ThreadIssues s c g x k ∧ g < 64 ∧ (∀ i, i < 64 → (s.thread c g
    i).exited = true ∨ (s.thread c g i).active w = true) ∧ (∀ kn ∈ (s.core c).kernels, kn.ctx = x → kn.blocks ≤ kn.nextBlock)) ∧
  (∃ (s : State) (c g x b ip : Nat) (w : ThreadWord) (k : Work) (kn : Kernel), ThreadIssues s c g x k ∧ g < 64 ∧ (∀ i, i < 64 →
    (s.thread c g i).exited = true ∨ (s.thread c g i).active w = true) ∧ (s.core c).kernels = [kn] ∧ kn.groups = [(g, b, ip)]
    ∧ kn.ctx = x ∧ kn.nextBlock < kn.blocks ∧ (s.ctx c x).groups = [g]) :=
  ⟨⟨grp {}, 0, 63, 0, wk, tiss rfl, by decide⟩,
  ⟨grp {}, 0, 63, 0, tw 0 1, wk, 0, [], tiss rfl, by decide, by decide +kernel⟩,
  ⟨grp { exited := true }, 0, 63, 0, tw 0 0, wk, tiss rfl, by decide, by decide⟩,
  ⟨grp {}, 0, 63, 0, tw 0 0, wk, tiss rfl, by decide, by decide⟩,
  ⟨grp { exited := true }, 0, 63, 0, tw 0 0, wk, tiss rfl, by decide, by decide⟩,
  ⟨grp {}, 0, 63, 0, wk, tiss rfl, by decide⟩,
  ⟨grp { preds := 14 }, 0, 63, 0, tw 0 1, wk, 0, tiss rfl, by decide, by decide, by decide, by decide⟩,
  ⟨grp {}, 0, 63, 0, tw 0 0, wk, tiss rfl, by decide, by decide, by decide⟩,
  ⟨{ ran { groups := [63] } { kernels := [{ kern with blocks := 2, groups := [(63, 0, 48)] }] } with threads := (grp {}).threads },
    0, 63, 0, 0, 48, tw 0 0, wk, _, tiss rfl, by decide, by decide, rfl, rfl, rfl, by decide, rfl⟩⟩

theorem witness_Matrix :
  (∃ (s : State) (c x : Nat) (k : Work) (w : MmaWord) (m : Mma) (a : AccWin) (ds : List (Desc × VSel)) (t : State) (o : MmaOps)
    (p : Product), Issues s c x k ∧ MatrixChecked (s.started c x) c x k w false (yPlain w) (fun _ => true) m a ∧ OperandsReady
    (s.started c x) c x (engineId c 0) k (m.asks w) ds t ∧ m.named ds = some o ∧ (w.acc && (t.core c).rowsBad a (mmaM w m)
    (mmaN w m)) = false ∧ (t.loadPlanes c x k w m o).mmaProduct c k w m a o (t.mmaTensorId k w m) = some p ∧ w.out = false) ∧
  (∃ (s : State) (c x : Nat) (k : Work) (w : MmaWord) (m : Mma) (a : AccWin) (ds : List (Desc × VSel)) (t : State) (o : MmaOps)
      (p : Product) (y : Desc × VSel) (u n : _),
    let s1 := afterPasses t c x k w m a o p
    let rows := s1.convRows k w m p.rows
    let N := match rows with | r :: _ => r.length | [] => 0
    let tiles := tilesOf rows.length N
    let r := tileLoop (s1.outConv k w y.1) w.osc o.tout.isSome a.streams rows (3 * tiles.length) (windowsOf rows.length N) {}
    let s2 := s1.addReg 64 (Obj.tileReplayCount c) r.replays
    let mags := (tileInputs [] w.osc rows).flatten
    Issues s c x k ∧ MatrixChecked (s.started c x) c x k w false (yPlain w) (fun _ => true) m a ∧ OperandsReady (s.started c
      x) c x (engineId c 0) k (m.asks w) ds t ∧ m.named ds = some o ∧ o.y = some y ∧ (w.acc && (t.core c).rowsBad a (mmaM w m)
      (mmaN w m)) = false ∧ (t.loadPlanes c x k w m o).mmaProduct c k w m a o (t.mmaTensorId k w m) = some p ∧ r.faults = 0 ∧
      s2.storeWith k.tenant k.stepOf y.1 y.2 ⟨w.osr, false, 1⟩ 40 (tileInputs r.scales w.osc rows).flatten mags = .done u n) ∧
  (∃ (s : State) (c x : Nat) (k : Work), Issues s c x k ∧ (s.core c).mmodeHeld ≠ []) ∧
  (∃ (s : State) (c x : Nat) (k : Work) (w : MmaWord) (m : Mma) (a : AccWin), Issues s c x k ∧ MatrixSound (s.started c x) c x k
    w false (yPlain w) (fun _ => true) m a ∧ mmaM w m ≠ 0 ∧ mmaN w m ≠ 0 ∧ ((s.started c x).otherServed c x w.part = true ∨
    (s.started c x).writesAhead c x k (m.locked.filterMap Desc.span) = true ∨ (∃ ds u, (s.started c x).prepAll k.asker
    (engineId c 0) (m.asks w) = .ready ds u ∧ (((m.asks w).zip ds).any fun p => u.writeHeld k.tenant p.1 p.2.2) = true))) ∧
  (∃ (s : State) (c x : Nat) (k : Work) (w : MmaWord) (m : Mma) (a : AccWin), Issues s c x k ∧ MatrixSound (s.started c x) c x k
    w false (yPlain w) (fun _ => true) m a ∧ (mmaM w m = 0 ∨ mmaN w m = 0) ∧ (m.locked.any fun d => (s.started c x).descFault
    k.tenant d) = false) ∧
  (∃ (s : State) (c x : Nat) (k : Work) (w : MmaWord), Issues s c x k ∧ (s.core c).mmodeHeld = [] ∧ (w.x = 0 ∨ w.w = 0 ∨ (∃ m,
    (s.started c x).mmaDescs k w = some m ∧ (mmaOk w m (s.core c).mode (windowRows m (s.core c).mode w.part (s.ctx c x)) false
    (yPlain w m) = false ∨ (w.acc && (s.core c).tagClash (accWin w m (s.core c).mode (s.ctx c x) (!mmaResident w (mmaM w m)
    (windowRows m (s.core c).mode w.part (s.ctx c x)))) (mmaM w m)) = true)))) ∧
  (∃ (s : State) (c x : Nat) (k : Work) (w : MmaWord) (m : Mma) (a : AccWin) (ds : List (Desc × VSel)) (t : State) (o : MmaOps),
    Issues s c x k ∧ MatrixChecked (s.started c x) c x k w false (yPlain w) (fun _ => true) m a ∧ OperandsReady (s.started c
    x) c x (engineId c 0) k (m.asks w) ds t ∧ m.named ds = some o ∧ (w.acc && (t.core c).rowsBad a (mmaM w m) (mmaN w m)) =
    true) :=
  ⟨⟨ran, 0, 0, wk, mw1 false, mma false, win, [(vec 192 1 fmtBF16, .plain), (vec 256 1 fmtBF16, .plain)], _, ⟨(vec 192 1
    fmtBF16, .plain), (vec 256 1 fmtBF16, .plain), none, none, none, none⟩, _, iss rfl, mchk (msound rfl (by decide)) (mfree
    (by decide)), rdy (by decide) (by decide), rfl, by decide, rfl, by decide⟩,
  ⟨ran, 0, 0, wk, mw1 true, mma true, win, [(vec 192 1 fmtBF16, .plain), (vec 256 1 fmtBF16, .plain), (vec 0 1 fmtF32, .plain)],
    ran.started 0 0, outOps, outProduct, (vec 0 1 fmtF32, .plain), _, _, iss rfl, mchk (msound rfl (by decide)) (mfree
    (by decide)), rdyAt (by decide +kernel) (by decide), rfl, rfl, by decide, (Option.some_get outProduct_some).symm,
    by decide +kernel, storeDone (by decide +kernel)⟩,
  ⟨ran {} { mmodeHeld := [(0, 2)] }, 0, 0, wk, iss rfl, by decide⟩,
  ⟨taken, 0, 0, wk, mw1 false, mma false, win, iss rfl, msound rfl (by decide), by decide, by decide, .inl (by decide)⟩,
  ⟨empties 0, 0, 0, { wk with bindings := noRows }, mw1 false, noRowsMma, win, iss rfl, msound rfl (by decide), .inl
    (by decide), by decide⟩,
  ⟨ran, 0, 0, wk, { mw1 false with w := 0 }, iss rfl, by decide, .inr (.inl rfl)⟩,
  ⟨ran {} { accTag := [(0, 1)], accPoison := [(0, 1)] }, 0, 0, wk, { mw1 false with acc := true }, mma false, win, [(vec 192 1
    fmtBF16, .plain), (vec 256 1 fmtBF16, .plain)], _, ⟨(vec 192 1 fmtBF16, .plain), (vec 256 1 fmtBF16, .plain), none, none,
    none, none⟩, iss rfl, mchk (msound rfl (by decide)) (mfree (by decide)), rdy (by decide) (by decide), rfl, by decide⟩⟩

theorem witness_MatrixIssued :
  (∃ (s : State) (c : Nat) (k : Work) (w : MmaWord) (m : Mma) (a : AccWin) (o : MmaOps) (id : Nat) (p : Product), m.intForm =
    false ∧ a.int = false ∧ a.streams = false ∧ (partCols a.mode a.part).1 + mmaN w m ≤ 64 ∧ s.mmaProduct c k w m a o id =
    some p) ∧
  (∃ (s : State) (c : Nat) (k : Work) (w : MmaWord) (m : Mma) (a : AccWin) (o : MmaOps),
    let K := mmaK w m
    let entry := fun i j => intEntry (passDepth m.x.fmt m.w.fmt (a.mode == 2)) (if w.acc then (s.core c).intAt a i j else 0)
      ((List.range K).map fun q => intOf (if w.xt then s.mmaElem k.tenant true o.x o.tx i q else s.mmaElem k.tenant true o.x
      o.tx q i)) ((List.range K).map fun q => intOf (if w.wt then s.mmaElem k.tenant true o.w o.tw j q else s.mmaElem k.tenant
      true o.w o.tw q j))
    m.intForm = true ∧ a.int = true ∧ a.streams = false ∧ (partCols a.mode a.part).1 + mmaN w m ≤ 64 ∧ (∀ i j, i < mmaM w m →
      j < mmaN w m → entry i j ≠ none)) ∧
  (∃ (kp : Nat) (xs ws : List Int), xs.length = ws.length ∧ xs.length ≤ kp ∧ 0 < xs.length) ∧
  (∃ (kp : Nat) (xs ws : List Machine.Num), xs.length = ws.length ∧ xs.length ≤ kp ∧ 0 < xs.length) :=
  ⟨⟨ran, 0, wk, mw1 false, mma false, win, ⟨(vec 192 1 fmtBF16, .plain), (vec 256 1 fmtBF16, .plain), none, none, none, none⟩,
    0, _, by decide, by decide, by decide, by decide, rfl⟩,
  ⟨ran, 0, wk, mw1 false, { mma false with x := vec 192 1 fmtU8, w := vec 256 1 fmtU8 }, { win with int := true }, ⟨(vec 192 1
    fmtU8, .plain), (vec 256 1 fmtU8, .plain), none, none, none, none⟩, by decide, by decide, by decide, by decide, fun i j hi
    hj => by have h1 : i = 0 := Nat.lt_one_iff.mp hi; have h2 : j = 0 := Nat.lt_one_iff.mp hj; subst h1; subst h2; decide⟩,
  ⟨128, [1], [1], by decide, by decide, by decide⟩,
  ⟨128, [.zero], [.zero], by decide, by decide, by decide⟩⟩

theorem witness_MatrixControl :
  (∃ (s : State) (c part : Nat) (i : Issued), ((s.core c).issued.find? fun i => i.part == part) = some i) ∧
  (∃ s : State, (s.eth.qps.all fun p => p.2.held.isEmpty) = true ∧ s.eth.windows = []) ∧
  (∃ (s : State) (c part : Nat), ((s.core c).issued.all fun i => i.part != part) = true) ∧
  (∃ (s : State) (c : Nat), c < 512 ∧ s.isUp = true ∧ s.arrayContexts c = []) ∧
  (∃ (s : State) (c : Nat), c < 512 ∧ s.isUp = true ∧ s.arrayContexts c ≠ []) ∧
  (∃ (s : State) (c : Nat), (512 ≤ c ∨ s.isUp = false)) ∧
  (∃ (s : State) (c x mode : Nat) (k : Work), Issues s c x k ∧ mode < 3) ∧
  (∃ (s : State) (c x mode : Nat) (k : Work), Issues s c x k ∧ 3 ≤ mode) ∧
  (∃ (s : State) (c x mode : Nat) (ms : List (Nat × Nat)), (s.core c).mmodeHeld = (x, mode) :: ms ∧ (s.core c).issued = [] ∧
    s.gatherWaits c = false) ∧
  (∃ (s : State) (c : Nat), ((s.core c).issued ≠ [] ∨ (s.core c).mmodeHeld = [] ∨ s.gatherWaits c = true)) ∧
  (∃ (s : State) (c part x y : Nat), (Sparse.get {} part (s.core c).planes).tag = some y ∧ (s.ctx c y).state = 3 ∧ partOk
    (s.core c).mode part = true ∧ s.nextReady c y = some x) ∧
  (∃ (s : State) (c part : Nat), ((∀ y, (Sparse.get {} part (s.core c).planes).tag = some y → (s.ctx c y).state ≠ 3 ∨
    s.nextReady c y = none) ∨ partOk (s.core c).mode part = false)) :=
  ⟨⟨ran {} { issued := [flying] }, 0, 3, flying, by decide⟩,
  ⟨own, by decide, by decide⟩,
  ⟨ran {} { issued := [flying] }, 0, 2, by decide⟩,
  ⟨own, 511, by decide, by decide, by decide⟩,
  ⟨ran {} { issued := [flying] }, 0, by decide, by decide, by decide⟩,
  ⟨own, 512, by decide⟩,
  ⟨ran, 0, 0, 2, wk, iss rfl, by decide⟩,
  ⟨ran, 0, 0, 3, wk, iss rfl, by decide⟩,
  ⟨ran {} { mmodeHeld := [(0, 2)] }, 0, 0, 2, [], by decide, by decide, by decide⟩,
  ⟨ran, 0, by decide⟩,
  ⟨{ own with ctxs := [(0, { state := 3 }), (3, { state := 1 })], cores := [(0, { planes := [(0, { tag := some 0 })] })] }, 0,
    0, 3, 0, by decide, by decide, by decide, by decide⟩,
  ⟨ran, 0, 0, by decide⟩⟩

theorem witness_CopyForms :
  (∃ (p : _) (s : State) (c x : Nat) (k : Work) (w : CcWord) (xd yd : Desc) (i : Inst) (ds : List (Desc × VSel)) (t : State)
      (route : List Nat) (d : Desc) (v : VSel) (rest : List (Desc × VSel)),
    let q : Contrib :=
      { core := c, ctx := x, x := w.x, y := w.y, sr := w.sr, ovf := w.ovf, word := none, vals := if p.2 = .receive then [] else t.exactValues k.tenant v d, route := route }
    let locks := (ds.map (·.1)).filterMap Desc.span
    p ∈ copyTable ∧ Issues s c x k ∧ CopyReady (s.started c x) c x k w p.2 xd yd i ds t route ∧ ds = (d, v) :: rest ∧
      StillOpen t i q locks) ∧
  (∃ (p : _) (s : State) (c x : Nat) (k : Work) (w : CcWord) (xd yd : Desc) (i : Inst) (ds : List (Desc × VSel)) (t : State)
    (route : List Nat) (d : Desc) (v : VSel) (rest : List (Desc × VSel)), p ∈ copyTable ∧ Issues s c x k ∧ CopyReady
    (s.started c x) c x k w p.2 xd yd i ds t route ∧ ds = (d, v) :: rest) ∧
  (∃ (p : _) (s : State) (c x : Nat) (k : Work) (w : CcWord), p ∈ copyTable ∧ Issues s c x k ∧ (w.y = 0 ∨ (w.x = 0 ∧ p.2 ≠
    .receive))) :=
  ⟨⟨(Instr.ccAr, .allReduce), planned, 0, 0, wk, cw, vec 0 1 fmtF32, vec 64 1 fmtF32, copyInst, _, _, [], vec 0 1 fmtF32,
    .plain, [(vec 64 1 fmtF32, .plain), (area, .plain)], by simp [copyTable], iss (by decide +kernel), copyReady_reduce, rfl,
    ⟨by decide +kernel, by decide +kernel, by decide +kernel, by decide +kernel⟩⟩,
  ⟨(Instr.ccAr, .allReduce), planned, 0, 0, wk, cw, vec 0 1 fmtF32, vec 64 1 fmtF32, copyInst, _, _, [], vec 0 1 fmtF32, .plain,
    [(vec 64 1 fmtF32, .plain), (area, .plain)], by simp [copyTable], iss (by decide +kernel), copyReady_reduce, rfl⟩,
  ⟨(Instr.ccAr, .allReduce), ran, 0, 0, wk, { cw with y := 0 }, by simp [copyTable], iss rfl, .inl rfl⟩⟩

theorem witness_FusedForms :
  (∃ (p : _) (s : State) (c x : Nat) (k : Work) (w : MmaWord) (y : Desc) (m : Mma) (a : AccWin) (o : MmaOps) (i : Inst) (ds ps :
    List (Desc × VSel)) (t u : State) (route : List Nat) (q : Product) (vals : List Machine.Num), p ∈ ([(.mmaRs,
    .reduceScatter), (.mmaAr, .allReduce), (.mmaSend, .send), (.mmaA2a, .allToAll)] : List ((Nat → Nat → MmaWord → Instr) ×
    CollForm)) ∧ Issues s c x k ∧ FusedReady (s.started c x) c x k w p.2 y m a o i ds ps t u ∧ (if p.2 = .allToAll then
    u.routeOf k ((s.started c x).planOf k.tenant w.cp) (mmaM w m) i.size else some (List.replicate (mmaM w m) ((i.rank + 1) %
    i.size))) = some route ∧ (w.acc && (u.core c).rowsBad a (mmaM w m) (mmaN w m)) = false ∧ (u.loadPlanes c x k w m
    o).mmaProduct c k w m a o (u.mmaTensorId k w m) = some q ∧ (afterPasses u c x k w m a o q).fusedVals k w y i.native
    ((afterPasses u c x k w m a o q).convRows k w m q.rows) = some vals) ∧
  (∃ (s : State) (c x : Nat) (k : Work) (w : MmaWord) (y : Desc) (m : Mma) (a : AccWin) (o : MmaOps) (i : Inst) (ds ps : List
      (Desc × VSel)) (t u : State),
    let all := u.exactValues k.tenant o.x.2 o.x.1
    let part : Contrib :=
      { core := c, ctx := x, x := w.x, y := w.y, sr := w.osr, ovf := false, word := some w, vals := (all.drop (i.rank * (all.length / i.size))).take (all.length / i.size), route := [] }
    let locks := m.locked.filterMap Desc.span ++ y.span.toList ++ (ps.map (·.1)).filterMap Desc.span
    Issues s c x k ∧ FusedReady (s.started c x) c x k w .allGather y m a o i ds ps t u ∧ StillOpen u i part locks) ∧
  (∃ (s : State) (c x : Nat) (k : Work) (w : MmaWord) (y : Desc) (m : Mma) (a : AccWin) (o : MmaOps) (i : Inst) (ds ps : List
    (Desc × VSel)) (t u : State), Issues s c x k ∧ FusedReady (s.started c x) c x k w .allGather y m a o i ds ps t u) ∧
  (∃ (s : State) (c x : Nat) (k : Work) (w : MmaWord), Issues s c x k ∧ (w.y = 0 ∨ ((s.core c).mmodeHeld = [] ∧ (w.x = 0 ∨ w.w =
    0)))) ∧
  (∃ (s : State) (c x : Nat) (k : Work) (w : MmaWord), Issues s c x k ∧ w.y ≠ 0 ∧ (s.core c).mmodeHeld ≠ []) :=
  ⟨⟨(Instr.mmaAr, .allReduce), planned, 0, 0, wk, fw, vec 704 1 fmtBF16, fm, win, fo, fusedInst, _, _, _, planned.started 0 0,
    _, fusedProduct, _, by simp, iss (by decide +kernel), fusedReady_reduce, rfl, rfl, (Option.some_get
    fusedProduct_some).symm, (Option.some_get fusedVals_some).symm⟩,
  ⟨planned, 0, 0, wk, fw, vec 704 1 fmtBF16, fm, win, fo, gatherInst, _, _, _, _, iss (by decide +kernel), fusedReady_gather,
    ⟨by decide +kernel, by decide +kernel, by decide +kernel, by decide +kernel⟩⟩,
  ⟨planned, 0, 0, wk, fw, vec 704 1 fmtBF16, fm, win, fo, gatherInst, _, _, _, _, iss (by decide +kernel), fusedReady_gather⟩,
  ⟨ran, 0, 0, wk, { mw1 true with y := 0 }, iss rfl, .inl rfl⟩,
  ⟨ran {} { mmodeHeld := [(0, 1)] }, 0, 0, wk, mw1 true, iss rfl, by decide, by decide⟩⟩

theorem witness_ThreadMemory :
  (∃ (s : State) (c g x : Nat) (w : ThreadWord) (k : Work) (d d1 : Desc) (v : VSel) (t : State), ThreadIssues s c g x k ∧ g < 64
    ∧ s.slotDesc k w.a = some d ∧ d.fmt ≠ fmtS8 ∧ s.descFault k.tenant d = false ∧ ((s.indexes c g w (s.activeOf c g w)).all
    fun p => decide (p.2 < d.count)) = true ∧ s.prepAt k.asker d d.vtag false (vectorUnit c) ((s.indexes c g w (s.activeOf c g
    w)).flatMap fun p => d.elemReads p.2) = .ready d1 v t) ∧
  (∃ (s : State) (c g x : Nat) (w : ThreadWord) (k : Work) (d d1 : Desc) (v : VSel) (t : State) (n sg : _), ThreadIssues s c g x
    k ∧ g < 64 ∧ s.slotDesc k w.a = some d ∧ d.fmt ≠ fmtS8 ∧ s.descFault k.tenant d = false ∧ ((s.indexes c g w (s.activeOf c
    g w)).all fun p => decide (p.2 < d.count)) = true ∧ s.prepAt k.asker d d.vtag false (vectorUnit c) ((s.indexes c g w
    (s.activeOf c g w)).flatMap fun p => d.elemReads p.2) = .ready d1 v t ∧ intFmt d1.fmt = some (n, sg)) ∧
  (∃ (s : State) (c g x : Nat) (w : ThreadWord) (k : Work) (d d1 : Desc) (v : VSel) (t : State), ThreadIssues s c g x k ∧ g < 64
    ∧ s.slotDesc k w.a = some d ∧ d.fmt ≠ fmtS8 ∧ s.descFault k.tenant d = false ∧ ((s.indexes c g w (s.activeOf c g w)).all
    fun p => decide (p.2 < d.count)) = true ∧ s.prepAt k.asker d d.vtag false (vectorUnit c) ((s.indexes c g w (s.activeOf c g
    w)).flatMap fun p => d.elemReads p.2) = .ready d1 v t ∧ intFmt d1.fmt = none) ∧
  (∃ (s : State) (c g x : Nat) (w : ThreadWord) (k : Work), ThreadIssues s c g x k ∧ (w.a = 0 ∨ (∃ d, s.slotDesc k w.a = some d
    ∧ (d.fmt = fmtS8 ∨ s.descFault k.tenant d = true)))) ∧
  (∃ (s : State) (c g x : Nat) (w : ThreadWord) (k : Work) (d : _), ThreadIssues s c g x k ∧ s.slotDesc k w.a = some d ∧ d.fmt ≠
    fmtS8 ∧ s.descFault k.tenant d = false ∧ ((s.indexes c g w (s.activeOf c g w)).any fun p => decide (d.count ≤ p.2)) =
    true) ∧
  (∃ (s : State) (c g x : Nat) (w : ThreadWord) (k : Work) (d e a u : _), ThreadIssues s c g x k ∧ s.slotDesc k w.a = some d ∧
    d.fmt ≠ fmtS8 ∧ s.descFault k.tenant d = false ∧ ((s.indexes c g w (s.activeOf c g w)).any fun p => decide (d.count ≤
    p.2)) = false ∧ s.prepAt k.asker d d.vtag false (vectorUnit c) ((s.indexes c g w (s.activeOf c g w)).flatMap fun p =>
    d.elemReads p.2) = .fault e a u) ∧
  (∃ (s : State) (c g x : Nat) (w : ThreadWord) (k : Work) (d d1 : Desc) (v : VSel) (t : State) (ws : List (Nat × Nat)),
    ThreadIssues s c g x k ∧ g < 64 ∧ s.slotDesc k w.d = some d ∧ d.fmt ≠ fmtS8 ∧ d.fmt ≠ fmtFX32 ∧ d.fmt ≠ fmtFX24 ∧
    s.descFault k.tenant d = false ∧ ws = (s.activeOf c g w).map (fun i => ((s.thread c g i).reg (w.b % 32), (s.thread c g
    i).reg (w.c % 32))) ∧ (ws.all fun p => decide (p.1 < d.count)) = true ∧ s.prepAt k.asker d d.vtag true (vectorUnit c) [] =
    .ready d1 v t ∧ t.elemsHeld k.tenant d1 v (ws.map (·.1)) = true ∧ (isNarrow d.fmt && d.block != 0) = false) ∧
  (∃ (s : State) (c g x : Nat) (w : ThreadWord) (k : Work) (d d1 : Desc) (v : VSel) (t : State) (ws : List (Nat × Nat)),
    ThreadIssues s c g x k ∧ g < 64 ∧ s.slotDesc k w.d = some d ∧ d.fmt ≠ fmtS8 ∧ d.fmt ≠ fmtFX32 ∧ d.fmt ≠ fmtFX24 ∧
    s.descFault k.tenant d = false ∧ ws = (s.activeOf c g w).map (fun i => ((s.thread c g i).reg (w.b % 32), (s.thread c g
    i).reg (w.c % 32))) ∧ (ws.all fun p => decide (p.1 < d.count)) = true ∧ s.prepAt k.asker d d.vtag true (vectorUnit c) [] =
    .ready d1 v t ∧ t.elemsHeld k.tenant d1 v (ws.map (·.1)) = false ∧ (isNarrow d.fmt && d.block != 0) = false) ∧
  (∃ (s : State) (c g x : Nat) (w : ThreadWord) (k : Work), ThreadIssues s c g x k ∧ (w.d = 0 ∨ (∃ d, s.slotDesc k w.d = some d
    ∧ (d.fmt = fmtS8 ∨ d.fmt = fmtFX32 ∨ d.fmt = fmtFX24 ∨ s.descFault k.tenant d = true)))) ∧
  (∃ (s : State) (c g x : Nat) (w : ThreadWord) (k : Work) (d : _), ThreadIssues s c g x k ∧ s.slotDesc k w.d = some d ∧ d.fmt ≠
    fmtS8 ∧ d.fmt ≠ fmtFX32 ∧ d.fmt ≠ fmtFX24 ∧ s.descFault k.tenant d = false ∧ (∃ i ∈ s.activeOf c g w, d.count ≤ (s.thread
    c g i).reg (w.b % 32))) :=
  ⟨⟨grp {}, 0, 63, 0, tw 0 1, wk, vec 0 1 fmtF32, vec 0 1 fmtF32, .plain, _, tiss rfl, by decide, by decide, by decide,
    by decide, by decide, rfl⟩,
  ⟨grp {}, 0, 63, 0, tw 0 8, wk, vec 448 1 fmtU8, vec 448 1 fmtU8, .plain, _, 8, false, tiss rfl, by decide, by decide,
    by decide, by decide, by decide, rfl, by decide⟩,
  ⟨grp {}, 0, 63, 0, tw 0 1, wk, vec 0 1 fmtF32, vec 0 1 fmtF32, .plain, _, tiss rfl, by decide, by decide, by decide,
    by decide, by decide, rfl, by decide⟩,
  ⟨grp {}, 0, 63, 0, tw 0 6, wk, tiss rfl, .inr ⟨vec 320 1 fmtS8, by decide, .inl rfl⟩⟩,
  ⟨grp { regs := [(1, 1)] }, 0, 63, 0, tw 0 1, wk, vec 0 1 fmtF32, tiss rfl, by decide, by decide, by decide, by decide⟩,
  ⟨{ grp {} with poison := [(lineKey 1 0, 1)] }, 0, 63, 0, tw 0 1, wk, vec 0 1 fmtF32, .poison, _, _, tiss rfl, by decide,
    by decide, by decide, by decide, rfl⟩,
  ⟨{ grp {} with cores := [(0, { kernels := [kern], issued := [{ flying with locks := [(0, 0, 3)] }] })] }, 0, 63, 0, tw 1 0,
    wk, vec 0 1 fmtF32, vec 0 1 fmtF32, .plain, _, [(0, 0)], tiss rfl, by decide, by decide, by decide, by decide, by decide,
    by decide, by decide +kernel, by decide, rfl, by decide, by decide⟩,
  ⟨grp {}, 0, 63, 0, tw 1 0, wk, vec 0 1 fmtF32, vec 0 1 fmtF32, .plain, _, [(0, 0)], tiss rfl, by decide, by decide, by decide,
    by decide, by decide, by decide, by decide +kernel, by decide, rfl, by decide, by decide⟩,
  ⟨grp {}, 0, 63, 0, tw 0 0, wk, tiss rfl, by decide⟩,
  ⟨grp { regs := [(1, 1)] }, 0, 63, 0, tw 1 0, wk, vec 0 1 fmtF32, tiss rfl, by decide, by decide, by decide, by decide,
    by decide, by decide⟩⟩

theorem witness_RowNorms :
  (∃ (s : State) (c x : Nat) (w : RowWord) (k : Work) (xd yd xp yp : Desc) (xv yv : VSel) (rest : List (Desc × VSel)) (t :
      State),
    let u := s.started c x
    let gd := u.slotDesc k w.g
    let bd := u.slotDesc k w.b
    Issues s c x k ∧ rowSlots [u.slotDesc k w.x, u.slotDesc k w.y] = some [xd, yd] ∧ xd.sameShape yd = true ∧ optVecOk xd.e0
      gd = true ∧ optVecOk xd.e0 bd = true ∧ u.sideOutside c x w.sbase xd.runs = false ∧ OperandsReady u c x (rowUnit c) k
      ([askRead xd, askWrite yd] ++ optAsk false gd ++ optAsk false bd) ((xp, xv) :: (yp, yv) :: rest) t) ∧
  (∃ (s : State) (c x : Nat) (w : RowWord) (k : Work) (xd yd gd xp yp gp : Desc) (xv yv gv : VSel) (rest : List (Desc × VSel))
      (t : State),
    let u := s.started c x
    let bd := u.slotDesc k w.b
    Issues s c x k ∧ rowSlots [u.slotDesc k w.x, u.slotDesc k w.y, u.slotDesc k w.g] = some [xd, yd, gd] ∧ xd.sameShape yd =
      true ∧ xd.sameShape gd = true ∧ optVecOk xd.e0 bd = true ∧ u.sideOutside c x w.sbase xd.runs = false ∧ u.sideBad c x
      w.sbase xd.runs = false ∧ OperandsReady u c x (rowUnit c) k ([askRead xd, askWrite yd, askRead gd] ++ optAsk false bd)
      ((xp, xv) :: (yp, yv) :: (gp, gv) :: rest) t) ∧
  (∃ (s : State) (c x : Nat) (w : RowWord) (k : Work) (xd yd gd xp yp gp : Desc) (xv yv gv : VSel) (t : State),
    let u := s.started c x
    Issues s c x k ∧ (w.mode = true ∨ w.b = 0) ∧ rowSlots [u.slotDesc k w.x, u.slotDesc k w.y, u.slotDesc k w.g] = some [xd,
      yd, gd] ∧ xd.sameShape gd = true ∧ yd.isVec xd.e0 = true ∧ u.sideOutside c x w.sbase xd.runs = false ∧ u.sideBad c x
      w.sbase xd.runs = false ∧ OperandsReady u c x (rowUnit c) k [askRead xd, askWrite yd, askRead gd] [(xp, xv), (yp, yv),
      (gp, gv)] t) ∧
  (∃ (s : State) (c x : Nat) (w : RowWord) (k : Work) (xd yd gd bd xp yp gp bp : Desc) (xv yv gv bv : VSel) (t : State) (y n b m
      : _),
    let u := s.started c x
    let (xs, t1) := t.takeF32s c k.tenant xv xp
    let (dys, t2) := t1.takeF32s c k.tenant gv gp
    let store := fun (z : State) (d : Desc) (v : VSel) (vals : List Nat) => z.storeValues k.tenant k.stepOf d v (rowMode w.sr
      w.ovf) 32 (f32Nums [vals])
    let dg := (normRows t c x w xp gp xs dys none none).2.2
    let db := (List.range xp.e0).map fun j => fTree (column (gp.rowsOf dys) j)
    Issues s c x k ∧ w.mode = false ∧ rowSlots [u.slotDesc k w.x, u.slotDesc k w.y, u.slotDesc k w.g] = some [xd, yd, gd] ∧
      u.slotDesc k w.b = some bd ∧ xd.sameShape gd = true ∧ yd.isVec xd.e0 = true ∧ optVecOk xd.e0 (some bd) = true ∧
      u.sideOutside c x w.sbase xd.runs = false ∧ u.sideBad c x w.sbase xd.runs = false ∧ OperandsReady u c x (rowUnit c) k
      [askRead xd, askWrite yd, askRead gd, askAt bd bd.vtag true] [(xp, xv), (yp, yv), (gp, gv), (bp, bv)] t ∧ store t2 yp yv
      dg = .done y n ∧ store y bp bv db = .done b m) ∧
  (∃ (s : State) (c x : Nat) (w : RowWord) (k : Work), Issues s c x k ∧ (w.x = 0 ∨ w.y = 0)) ∧
  (∃ (p : _) (s : State) (c x : Nat) (w : RowWord) (k : Work) (xd yd gd : Desc), p ∈ rowReaders ∧ Issues s c x k ∧ p.2.1 w =
    true ∧ rowSlots [(s.started c x).slotDesc k w.x, (s.started c x).slotDesc k w.y, (s.started c x).slotDesc k w.g] = some
    [xd, yd, gd] ∧ (s.started c x).sideOutside c x w.sbase xd.runs = true) ∧
  (∃ (s : State) (c x : Nat) (w : RowWord) (k : Work) (xd yd : Desc), Issues s c x k ∧ rowSlots [(s.started c x).slotDesc k w.x,
    (s.started c x).slotDesc k w.y] = some [xd, yd] ∧ (s.started c x).sideOutside c x w.sbase xd.runs = true) ∧
  (∃ (p : _) (s : State) (c x : Nat) (w : RowWord) (k : Work) (xd yd gd : Desc), p ∈ rowReaders ∧ Issues s c x k ∧ p.2.1 w =
    true ∧ w.b = 0 ∧ w.bmask = false ∧ rowSlots [(s.started c x).slotDesc k w.x, (s.started c x).slotDesc k w.y, (s.started c
    x).slotDesc k w.g] = some [xd, yd, gd] ∧ xd.sameShape gd = true ∧ p.2.2 xd yd = true ∧ (s.started c x).sideOutside c x
    w.sbase xd.runs = false ∧ (s.started c x).sideBad c x w.sbase xd.runs = true) :=
  ⟨⟨ran, 0, 0, rw 1 2, wk, vec 0 1 fmtF32, vec 64 1 fmtF32, vec 0 1 fmtF32, vec 64 1 fmtF32, .plain, .plain, [(vec 128 1 fmtF32,
    .plain)], _, iss rfl, by decide, by decide, by decide, by decide, by decide, rdy (by decide) (by decide)⟩,
  ⟨ran, 0, 0, rw 1 2, wk, vec 0 1 fmtF32, vec 64 1 fmtF32, vec 128 1 fmtF32, vec 0 1 fmtF32, vec 64 1 fmtF32, vec 128 1 fmtF32,
    .plain, .plain, .plain, [], _, iss rfl, by decide, by decide, by decide, by decide, by decide, by decide, rdy (by decide)
    (by decide)⟩,
  ⟨ran, 0, 0, rw 1 2, wk, vec 0 1 fmtF32, vec 64 1 fmtF32, vec 128 1 fmtF32, vec 0 1 fmtF32, vec 64 1 fmtF32, vec 128 1 fmtF32,
    .plain, .plain, .plain, _, iss rfl, by decide, by decide, by decide, by decide, by decide, by decide, rdy (by decide)
    (by decide)⟩,
  ⟨ran, 0, 0, { rw 1 2 with mode := false, b := 3 }, wk, vec 0 1 fmtF32, vec 64 1 fmtF32, vec 128 1 fmtF32, vec 128 1 fmtF32,
    vec 0 1 fmtF32, vec 64 1 fmtF32, vec 128 1 fmtF32, vec 128 1 fmtF32, .plain, .plain, .plain, .plain, ran.started 0 0, _,
    _, _, _, iss rfl, by decide, by decide, by decide, by decide, by decide, by decide, by decide, by decide, rdyAt
    (by decide +kernel) (by decide), storeDone (by decide +kernel), storeDone (by decide +kernel)⟩,
  ⟨ran, 0, 0, rw 1 0, wk, iss rfl, by decide⟩,
  ⟨((.rnormB : Nat → Nat → RowWord → Instr), (fun _ => true), Desc.sameShape), ran, 0, 0, { rw 1 2 with sbase := 4 }, wk, vec 0
    1 fmtF32, vec 64 1 fmtF32, vec 128 1 fmtF32, .head _, iss rfl, rfl, by decide, by decide⟩,
  ⟨ran, 0, 0, { rw 1 2 with sbase := 4 }, wk, vec 0 1 fmtF32, vec 64 1 fmtF32, iss rfl, by decide, by decide⟩,
  ⟨((.rnormB : Nat → Nat → RowWord → Instr), (fun _ => true), Desc.sameShape), ran {} { sidePoison := [(3, 1)] }, 0, 0, rw 1 2,
    wk, vec 0 1 fmtF32, vec 64 1 fmtF32, vec 128 1 fmtF32, .head _, iss rfl, rfl, by decide, by decide, by decide, by decide,
    by decide, by decide, by decide⟩⟩

theorem witness_RowSoftmax :
  (∃ (s : State) (c x : Nat) (w : RowWord) (k : Work) (xd yd xp yp : Desc) (xv yv : VSel) (rest : List (Desc × VSel)) (t :
      State),
    let u := s.started c x
    let md := if w.bmask then u.slotDesc k w.b else none
    Issues s c x k ∧ rowSlots [u.slotDesc k w.x, u.slotDesc k w.y] = some [xd, yd] ∧ xd.sameShape yd = true ∧ maskOk w xd md =
      true ∧ u.sideOutside c x w.sbase xd.runs = false ∧ OperandsReady u c x (rowUnit c) k ([askRead xd, askWrite yd] ++
      optAsk false md) ((xp, xv) :: (yp, yv) :: rest) t) ∧
  (∃ (s : State) (c x : Nat) (w : RowWord) (k : Work) (xd yd gd xp yp gp : Desc) (xv yv gv : VSel) (rest : List (Desc × VSel))
      (t : State),
    let u := s.started c x
    let md := if w.bmask then u.slotDesc k w.b else none
    Issues s c x k ∧ rowSlots [u.slotDesc k w.x, u.slotDesc k w.y, u.slotDesc k w.g] = some [xd, yd, gd] ∧ xd.sameShape yd =
      true ∧ xd.sameShape gd = true ∧ maskOk w xd md = true ∧ (w.psrc = true ∨ (u.sideOutside c x w.sbase xd.runs = false ∧
      u.sideBad c x w.sbase xd.runs = false)) ∧ OperandsReady u c x (rowUnit c) k ([askRead xd, askWrite yd, askRead gd] ++
      optAsk false md) ((xp, xv) :: (yp, yv) :: (gp, gv) :: rest) t) :=
  ⟨⟨ran, 0, 0, { rw 1 2 with bmask := true, b := 8 }, wk, vec 0 1 fmtF32, vec 64 1 fmtF32, vec 0 1 fmtF32, vec 64 1 fmtF32,
    .plain, .plain, [(vec 448 1 fmtU8, .plain)], _, iss rfl, by decide, by decide, by decide, by decide, rdy (by decide)
    (by decide)⟩,
  ⟨ran, 0, 0, rw 1 2, wk, vec 0 1 fmtF32, vec 64 1 fmtF32, vec 128 1 fmtF32, vec 0 1 fmtF32, vec 64 1 fmtF32, vec 128 1 fmtF32,
    .plain, .plain, .plain, [], _, iss rfl, by decide, by decide, by decide, by decide, by decide, rdy (by decide)
    (by decide)⟩⟩

theorem witness_Updates :
  (∃ (p : _) (s : State) (c x : Nat) (w : UpdWord) (k : Work) (o : UpdOps) (asks : List OpAsk) (gp wp xp hp rp mp ud rd md :
    Desc × VSel) (t t0 : State), p ∈ [((.rupdMom : Nat → Nat → UpdWord → Instr), UpdKind.mom), (.rupdSgn, .sgn)] ∧ Issues s c
    x k ∧ (s.started c x).updOps k w false = some o ∧ o.ok = true ∧ (s.started c x).optimAsks k.tenant [(o.g, false), (o.w,
    false), (o.wx, false), (o.h, false), (o.r, false), (o.m1, false), (o.u, true), (o.r, true), (o.m1, true)] = asks ∧
    OperandsReady (s.started c x) c x (rowUnit c) k asks [gp, wp, xp, hp, rp, mp, ud, rd, md] t ∧ t.listUpd k.tenant
    (t.recStep k.tenant k.stepOf) (offOf o.r.address) = some t0) ∧
  (∃ (s : State) (c x : Nat) (w : UpdWord) (k : Work) (o : UpdOps) (m2 : Desc) (asks : List OpAsk) (gp wp xp hp rp mp vp ud rd
    md vd : Desc × VSel) (t t0 : State), Issues s c x k ∧ (s.started c x).updOps k w true = some o ∧ o.ok = true ∧ o.m2 = some
    m2 ∧ (s.started c x).optimAsks k.tenant [(o.g, false), (o.w, false), (o.wx, false), (o.h, false), (o.r, false), (o.m1,
    false), (m2, false), (o.u, true), (o.r, true), (o.m1, true), (m2, true)] = asks ∧ OperandsReady (s.started c x) c x
    (rowUnit c) k asks [gp, wp, xp, hp, rp, mp, vp, ud, rd, md, vd] t ∧ t.listUpd k.tenant (t.recStep k.tenant k.stepOf)
    (offOf o.r.address) = some t0) ∧
  (∃ (p : _) (s : State) (c x : Nat) (w : UpdWord) (k : Work), p ∈ updTable ∧ Issues s c x k ∧ (w.g = 0 ∨ w.w = 0 ∨ w.wx = 0 ∨
    w.m1 = 0 ∨ w.u = 0 ∨ w.h = 0 ∨ w.r = 0 ∨ (p.2 = .am ∧ w.m2 = 0) ∨ ∃ o, (s.started c x).updOps k w (p.2 == .am) = some o ∧
    o.ok = false)) :=
  ⟨⟨((.rupdMom : Nat → Nat → UpdWord → Instr), UpdKind.mom), ran, 0, 0, upd, wk, updOps1 none, _, (vec 0 1 fmtF32, .plain), (vec
    4096 1 fmtF32 true, .num 0), (vec 4160 1 fmtF16 true, .num 0), (vec 512 8 fmtF32, .plain), (vec 576 64 fmtU8, .plain),
    (vec 4224 1 fmtF32 true, .num 0), (vec 640 1 fmtF16, .plain), (vec 576 64 fmtU8, .plain), (vec 4224 1 fmtF32 true,
    .pending), _, _, .head _, iss rfl, rfl, by decide, rfl, rdy (by decide +kernel) (by decide), rfl⟩,
  ⟨ran, 0, 0, upd, wk, updOps1 (some (vec 4288 1 fmtF32 true)), vec 4288 1 fmtF32 true, _, (vec 0 1 fmtF32, .plain), (vec 4096 1
    fmtF32 true, .num 0), (vec 4160 1 fmtF16 true, .num 0), (vec 512 8 fmtF32, .plain), (vec 576 64 fmtU8, .plain), (vec 4224
    1 fmtF32 true, .num 0), (vec 4288 1 fmtF32 true, .num 0), (vec 640 1 fmtF16, .plain), (vec 576 64 fmtU8, .plain), (vec
    4224 1 fmtF32 true, .pending), (vec 4288 1 fmtF32 true, .pending), _, _, iss rfl, rfl, by decide, rfl, rfl, rdy
    (by decide +kernel) (by decide), rfl⟩,
  ⟨((.rupdAm : Nat → Nat → UpdWord → Instr), UpdKind.am), ran, 0, 0, { upd with g := 0 }, wk, .head _, iss rfl, .inl rfl⟩⟩

theorem witness_Fold :
  (∃ (s : State) (c x : Nat) (w : FoldWord) (k : Work) (o : FoldOps) (asks : List OpAsk) (up wp xp rp wp1 xp1 : Desc × VSel) (t
    : State), Issues s c x k ∧ (s.started c x).foldOps k w = some o ∧ o.ok = true ∧ o.y = none ∧ (s.started c x).optimAsks
    k.tenant [(o.u, false), (o.w, false), (o.wx, false), (o.r, false), (o.w, true), (o.wx, true)] = asks ∧ OperandsReady
    (s.started c x) c x (rowUnit c) k asks [up, wp, xp, rp, wp1, xp1] t) ∧
  (∃ (s : State) (c x : Nat) (w : FoldWord) (k : Work) (o : FoldOps) (y : Desc) (asks : List OpAsk) (up wp xp rp wp1 xp1 yp :
    Desc × VSel) (t : State), Issues s c x k ∧ (s.started c x).foldOps k w = some o ∧ o.ok = true ∧ o.y = some y ∧ (s.started
    c x).optimAsks k.tenant [(o.u, false), (o.w, false), (o.wx, false), (o.r, false), (o.w, true), (o.wx, true), (y, true)] =
    asks ∧ OperandsReady (s.started c x) c x (rowUnit c) k asks [up, wp, xp, rp, wp1, xp1, yp] t) ∧
  (∃ (s : State) (c x : Nat) (w : FoldWord) (k : Work), Issues s c x k ∧ (w.u = 0 ∨ w.w = 0 ∨ w.wx = 0 ∨ w.r = 0 ∨ ∃ o,
    (s.started c x).foldOps k w = some o ∧ o.ok = false)) :=
  ⟨⟨ran, 0, 0, fld, wk, ⟨vec 640 1 fmtF16, vec 4096 1 fmtF32 true, vec 4160 1 fmtF16 true, none, vec 576 64 fmtU8⟩, _, (vec 640
    1 fmtF16, .plain), (vec 4096 1 fmtF32 true, .num 0), (vec 4160 1 fmtF16 true, .num 0), (vec 576 64 fmtU8, .plain), (vec
    4096 1 fmtF32 true, .pending), (vec 4160 1 fmtF16 true, .pending), _, iss rfl, rfl, by decide, rfl, rfl, rdy
    (by decide +kernel) (by decide)⟩,
  ⟨ran, 0, 0, { fld with y := 14 }, wk, ⟨vec 640 1 fmtF16, vec 4096 1 fmtF32 true, vec 4160 1 fmtF16 true, some (vec 4224 1
    fmtF32 true), vec 576 64 fmtU8⟩, vec 4224 1 fmtF32 true, _, (vec 640 1 fmtF16, .plain), (vec 4096 1 fmtF32 true, .num 0),
    (vec 4160 1 fmtF16 true, .num 0), (vec 576 64 fmtU8, .plain), (vec 4096 1 fmtF32 true, .pending), (vec 4160 1 fmtF16 true,
    .pending), (vec 4224 1 fmtF32 true, .pending), _, iss rfl, rfl, by decide, rfl, rfl, rdy (by decide +kernel) (by decide)⟩,
  ⟨ran, 0, 0, { fld with r := 0 }, wk, iss rfl, .inr (.inr (.inr (.inl rfl)))⟩⟩

theorem witness_Mover :
  (∃ (s : State) (c x : Nat) (w : DmWord) (k : Work) (xd yd xp yp : Desc) (xv yv : VSel) (t : State), Issues s c x k ∧
    (s.started c x).slotDesc k w.x = some xd ∧ (s.started c x).slotDesc k w.y = some yd ∧ xd.sameShape yd = true ∧ xd.meets yd
    = false ∧ OperandsReady (s.started c x) c x (moverUnit c) k [askRead xd, askWrite yd] [(xp, xv), (yp, yv)] t ∧ xd.fmt ∉
    [fmtS8, fmtFX32, fmtFX24] ∧ yd.fmt ∉ [fmtS8, fmtFX32, fmtFX24]) ∧
  (∃ (s : State) (c x : Nat) (w : DmWord) (k : Work) (xd yd xp yp : Desc) (xv yv : VSel) (t : State), Issues s c x k ∧
    (s.started c x).slotDesc k w.x = some xd ∧ (s.started c x).slotDesc k w.y = some yd ∧ xd.sameShape yd = true ∧ xd.meets yd
    = false ∧ OperandsReady (s.started c x) c x (moverUnit c) k [askRead xd, askWrite yd] [(xp, xv), (yp, yv)] t ∧ xd.fmt =
    fmtS8 ∧ yd.fmt = fmtS8) ∧
  (∃ (s : State) (c x : Nat) (w : DmWord) (k : Work) (xd yd xp yp : Desc) (xv yv : VSel) (t : State), Issues s c x k ∧
    (s.started c x).slotDesc k w.x = some xd ∧ (s.started c x).slotDesc k w.y = some yd ∧ isExchangeFmt xd.fmt = false ∧
    yd.fmt ≠ fmtS8 ∧ xd.meets yd = false ∧ xd.e0 = yd.e1 ∧ xd.e1 = yd.e0 ∧ xd.e2 = yd.e2 ∧ xd.e3 = yd.e3 ∧ OperandsReady
    (s.started c x) c x (moverUnit c) k [askRead xd, askWrite yd] [(xp, xv), (yp, yv)] t) ∧
  (∃ (s : State) (c x : Nat) (w : DmWord) (k : Work) (xd yd xp yp : Desc) (xv yv : VSel) (t : State), Issues s c x k ∧
    (s.started c x).slotDesc k w.x = some xd ∧ (s.started c x).slotDesc k w.y = some yd ∧ isExchangeFmt xd.fmt = false ∧
    planeOk yd xd = true ∧ xd.meets yd = false ∧ OperandsReady (s.started c x) c x (moverUnit c) k [askRead xd, askWrite yd]
    [(xp, xv), (yp, yv)] t ∧ t.serviceOf k = 0) ∧
  (∃ (s : State) (c x : Nat) (w : DmWord) (k : Work) (xd yd xp yp : Desc) (xv yv : VSel) (t : State),
    let entry := t.stackEntry k xp xv (t.reg (Obj.stackTop c x)) 1 yd.tensorId w.mode (if w.mode then 0 else w.imm0) (if
      w.mode then 0 else w.imm1)
    Issues s c x k ∧ (s.started c x).slotDesc k w.x = some xd ∧ (s.started c x).slotDesc k w.y = some yd ∧ isExchangeFmt
      xd.fmt = false ∧ planeOk yd xd = true ∧ xd.meets yd = false ∧ OperandsReady (s.started c x) c x (moverUnit c) k [askRead
      xd, askWrite yd] [(xp, xv), (yp, yv)] t ∧ t.serviceOf k ≠ 0 ∧ PushFits t c x k entry.length) ∧
  (∃ (s : State) (c x : Nat) (w : DmWord) (k : Work) (xd yd xp yp : Desc) (xv yv : VSel) (t : State),
    let entry := t.stackEntry k xp xv (t.reg (Obj.stackTop c x)) 1 yd.tensorId w.mode (if w.mode then 0 else w.imm0) (if
      w.mode then 0 else w.imm1)
    Issues s c x k ∧ (s.started c x).slotDesc k w.x = some xd ∧ (s.started c x).slotDesc k w.y = some yd ∧ isExchangeFmt
      xd.fmt = false ∧ planeOk yd xd = true ∧ xd.meets yd = false ∧ OperandsReady (s.started c x) c x (moverUnit c) k [askRead
      xd, askWrite yd] [(xp, xv), (yp, yv)] t ∧ t.serviceOf k ≠ 0 ∧ t.stackBoundsBad k.tenant (t.ctx c x).stackBase (t.ctx c
      x).stackLimit = false ∧ (t.ctx c x).stackLimit < t.reg (Obj.stackTop c x) + entry.length) ∧
  (∃ (s : State) (c x : Nat) (w : DmWord) (k : Work) (xd yd xp yp : Desc) (xv yv : VSel) (t : State), Issues s c x k ∧
    (s.started c x).slotDesc k w.x = some xd ∧ (s.started c x).slotDesc k w.y = some yd ∧ isExchangeFmt xd.fmt = false ∧
    planeOk yd xd = true ∧ xd.meets yd = false ∧ OperandsReady (s.started c x) c x (moverUnit c) k [askRead xd, askWrite yd]
    [(xp, xv), (yp, yv)] t ∧ t.serviceOf k ≠ 0 ∧ t.stackBoundsBad k.tenant (t.ctx c x).stackBase (t.ctx c x).stackLimit =
    true) ∧
  (∃ (s : State) (c x : Nat) (w : DmWord) (k : Work) (xd gd yd xp gp yp : Desc) (xv gv yv : VSel) (t : State), Issues s c x k ∧
    (s.started c x).slotDesc k w.x = some xd ∧ (s.started c x).slotDesc k w.g = some gd ∧ (s.started c x).slotDesc k w.y =
    some yd ∧ isExchangeFmt xd.fmt = false ∧ yd.fmt ≠ fmtS8 ∧ planeOk gd xd = true ∧ xd.sameShape yd = true ∧ xd.meets yd =
    false ∧ OperandsReady (s.started c x) c x (moverUnit c) k [askRead xd, askRead gd, askWrite yd] [(xp, xv), (gp, gv), (yp,
    yv)] t ∧ t.serviceOf k = 0) ∧
  (∃ (s : State) (c x : Nat) (w : DmWord) (k : Work) (xd gd yd xp gp yp : Desc) (xv gv yv : VSel) (t : State), Issues s c x k ∧
    (s.started c x).slotDesc k w.x = some xd ∧ (s.started c x).slotDesc k w.g = some gd ∧ (s.started c x).slotDesc k w.y =
    some yd ∧ isExchangeFmt xd.fmt = false ∧ yd.fmt ≠ fmtS8 ∧ planeOk gd xd = true ∧ xd.sameShape yd = true ∧ xd.meets yd =
    false ∧ OperandsReady (s.started c x) c x (moverUnit c) k [askRead xd, askRead gd, askWrite yd] [(xp, xv), (gp, gv), (yp,
    yv)] t ∧ t.serviceOf k ≠ 0 ∧ ((t.ctx c x).stack = [] ∨ t.reg (Obj.stackTop c x) = (t.ctx c x).stackBase)) ∧
  (∃ (s : State) (c x : Nat) (w : DmWord) (k : Work) (xd gd yd xp gp yp : Desc) (xv gv yv : VSel) (t : State) (h z : _), Issues
    s c x k ∧ (s.started c x).slotDesc k w.x = some xd ∧ (s.started c x).slotDesc k w.g = some gd ∧ (s.started c x).slotDesc k
    w.y = some yd ∧ isExchangeFmt xd.fmt = false ∧ yd.fmt ≠ fmtS8 ∧ planeOk gd xd = true ∧ xd.sameShape yd = true ∧ xd.meets
    yd = false ∧ OperandsReady (s.started c x) c x (moverUnit c) k [askRead xd, askRead gd, askWrite yd] [(xp, xv), (gp, gv),
    (yp, yv)] t ∧ t.serviceOf k ≠ 0 ∧ HeadRead t c x k h z ∧ orderBad h k gd.tensorId 1 (some xd) = true) ∧
  (∃ (s : State) (c x : Nat) (w : DmWord) (k : Work) (xd gd yd xp gp yp : Desc) (xv gv yv : VSel) (t : State) (e z : _), Issues
    s c x k ∧ (s.started c x).slotDesc k w.x = some xd ∧ (s.started c x).slotDesc k w.g = some gd ∧ (s.started c x).slotDesc k
    w.y = some yd ∧ isExchangeFmt xd.fmt = false ∧ yd.fmt ≠ fmtS8 ∧ planeOk gd xd = true ∧ xd.sameShape yd = true ∧ xd.meets
    yd = false ∧ OperandsReady (s.started c x) c x (moverUnit c) k [askRead xd, askRead gd, askWrite yd] [(xp, xv), (gp, gv),
    (yp, yv)] t ∧ t.serviceOf k ≠ 0 ∧ TopRead t c x k e z ∧ orderBad e.header k gd.tensorId 1 (some xd) = false ∧ e.keepBits =
    planeBits xp (z.rawElems k.tenant gv gp)) ∧
  (∃ (s : State) (c x : Nat) (w : DmWord) (k : Work) (xd gd yd xp gp yp : Desc) (xv gv yv : VSel) (t : State) (e z : _), Issues
    s c x k ∧ (s.started c x).slotDesc k w.x = some xd ∧ (s.started c x).slotDesc k w.g = some gd ∧ (s.started c x).slotDesc k
    w.y = some yd ∧ isExchangeFmt xd.fmt = false ∧ yd.fmt ≠ fmtS8 ∧ planeOk gd xd = true ∧ xd.sameShape yd = true ∧ xd.meets
    yd = false ∧ OperandsReady (s.started c x) c x (moverUnit c) k [askRead xd, askRead gd, askWrite yd] [(xp, xv), (gp, gv),
    (yp, yv)] t ∧ t.serviceOf k ≠ 0 ∧ TopRead t c x k e z ∧ orderBad e.header k gd.tensorId 1 (some xd) = false ∧ e.keepBits ≠
    planeBits xp (z.rawElems k.tenant gv gp)) ∧
  (∃ (s : State) (c x : Nat) (w : DmWord) (k : Work) (bufs : List Desc) (yd yp : Desc) (yv : VSel) (b : Desc × VSel) (bs : List
    (Desc × VSel)) (t : State), Issues s c x k ∧ (s.started c x).foldSlots k w.x w.cnt = some bufs ∧ (s.started c x).slotDesc
    k w.y = some yd ∧ foldOk bufs yd = true ∧ OperandsReady (s.started c x) c x (moverUnit c) k (askWrite yd :: bufs.map
    askRead) ((yp, yv) :: b :: bs) t ∧ yp.fmt = b.1.fmt) ∧
  (∃ (s : State) (c x : Nat) (w : DmWord) (k : Work) (bufs : List Desc) (yd yp : Desc) (yv : VSel) (b : Desc × VSel) (bs : List
    (Desc × VSel)) (t : State), Issues s c x k ∧ (s.started c x).foldSlots k w.x w.cnt = some bufs ∧ (s.started c x).slotDesc
    k w.y = some yd ∧ foldOk bufs yd = true ∧ OperandsReady (s.started c x) c x (moverUnit c) k (askWrite yd :: bufs.map
    askRead) ((yp, yv) :: b :: bs) t ∧ yp.fmt ≠ b.1.fmt) ∧
  (∃ (s : State) (c x : Nat) (w : DmWord) (k : Work), Issues s c x k ∧ (w.x = 0 ∨ w.y = 0)) ∧
  (∃ (s : State) (c x : Nat) (w : DmWord) (k : Work), Issues s c x k ∧ w.g = 0) ∧
  (∃ (s : State) (c x : Nat) (w : DmWord) (k : Work) (xd yd : Desc), Issues s c x k ∧ (s.started c x).slotDesc k w.x = some xd ∧
    (s.started c x).slotDesc k w.y = some yd ∧ xd.meets yd = true) :=
  ⟨⟨ran, 0, 0, dm 1 2, wk, vec 0 1 fmtF32, vec 64 1 fmtF32, vec 0 1 fmtF32, vec 64 1 fmtF32, .plain, .plain, _, iss rfl,
    by decide, by decide, by decide, by decide, rdy (by decide) (by decide), by decide, by decide⟩,
  ⟨ran, 0, 0, dm 6 7, wk, vec 320 1 fmtS8, vec 384 1 fmtS8, vec 320 1 fmtS8, vec 384 1 fmtS8, .plain, .plain, _, iss rfl,
    by decide, by decide, by decide, by decide, rdy (by decide) (by decide), by decide, by decide⟩,
  ⟨ran, 0, 0, dm 1 4, wk, vec 0 1 fmtF32, vec 192 1 fmtBF16, vec 0 1 fmtF32, vec 192 1 fmtBF16, .plain, .plain, _, iss rfl,
    by decide, by decide, by decide, by decide, by decide, by decide, by decide, by decide, by decide, rdy (by decide)
    (by decide)⟩,
  ⟨ran, 0, 0, dm 1 8, wk, vec 0 1 fmtF32, vec 448 1 fmtU8, vec 0 1 fmtF32, vec 448 1 fmtU8, .plain, .plain, _, iss rfl,
    by decide, by decide, by decide, by decide, by decide, rdy (by decide) (by decide), by decide⟩,
  ⟨served 1024 2048 1024, 0, 0, dm 1 8, wk, vec 0 1 fmtF32, vec 448 1 fmtU8, vec 0 1 fmtF32, vec 448 1 fmtU8, .plain, .plain,
    (served 1024 2048 1024).started 0 0, iss (by decide +kernel), by decide +kernel, by decide +kernel, by decide +kernel,
    by decide +kernel, by decide +kernel, rdyAt (by decide +kernel) (by decide), by decide +kernel, ⟨by decide +kernel,
    by decide +kernel, fits2 (by decide +kernel), by decide +kernel, by decide +kernel⟩⟩,
  ⟨served 1024 2048 1984, 0, 0, dm 1 8, wk, vec 0 1 fmtF32, vec 448 1 fmtU8, vec 0 1 fmtF32, vec 448 1 fmtU8, .plain, .plain,
    (served 1024 2048 1984).started 0 0, iss (by decide +kernel), by decide +kernel, by decide +kernel, by decide +kernel,
    by decide +kernel, by decide +kernel, rdyAt (by decide +kernel) (by decide), by decide +kernel, by decide +kernel,
    by decide +kernel⟩,
  ⟨served 1025 2048 1024, 0, 0, dm 1 8, wk, vec 0 1 fmtF32, vec 448 1 fmtU8, vec 0 1 fmtF32, vec 448 1 fmtU8, .plain, .plain,
    (served 1025 2048 1024).started 0 0, iss (by decide +kernel), by decide +kernel, by decide +kernel, by decide +kernel,
    by decide +kernel, by decide +kernel, rdyAt (by decide +kernel) (by decide), by decide +kernel, by decide +kernel⟩,
  ⟨ran, 0, 0, dm 1 2, wk, vec 0 1 fmtF32, vec 448 1 fmtU8, vec 64 1 fmtF32, vec 0 1 fmtF32, vec 448 1 fmtU8, vec 64 1 fmtF32,
    .plain, .plain, .plain, _, iss rfl, by decide, by decide, by decide, by decide, by decide, by decide, by decide,
    by decide, rdy (by decide) (by decide), by decide⟩,
  ⟨served 1024 2048 1024, 0, 0, dm 1 2, wk, vec 0 1 fmtF32, vec 448 1 fmtU8, vec 64 1 fmtF32, vec 0 1 fmtF32, vec 448 1 fmtU8,
    vec 64 1 fmtF32, .plain, .plain, .plain, (served 1024 2048 1024).started 0 0, iss (by decide +kernel), by decide +kernel,
    by decide +kernel, by decide +kernel, by decide +kernel, by decide +kernel, by decide +kernel, by decide +kernel,
    by decide +kernel, rdyAt (by decide +kernel) (by decide), by decide +kernel, .inl (by decide)⟩,
  ⟨kept 0 0 0, 0, 0, dm 1 2, wk, vec 0 1 fmtF32, vec 448 1 fmtU8, vec 64 1 fmtF32, vec 0 1 fmtF32, vec 448 1 fmtU8, vec 64 1
    fmtF32, .plain, .plain, .plain, (kept 0 0 0).started 0 0, headOf ((kept 0 0 0).started 0 0), (kept 0 0 0).started 0 0, iss
    (by decide +kernel), by decide +kernel, by decide +kernel, by decide +kernel, by decide +kernel, by decide +kernel,
    by decide +kernel, by decide +kernel, by decide +kernel, rdyAt (by decide +kernel) (by decide +kernel), by decide +kernel,
    headRead (by decide +kernel) (by decide +kernel) (by decide +kernel), by decide +kernel⟩,
  ⟨kept 1 0 0, 0, 0, dm 1 2, wk, vec 0 1 fmtF32, vec 448 1 fmtU8, vec 64 1 fmtF32, vec 0 1 fmtF32, vec 448 1 fmtU8, vec 64 1
    fmtF32, .plain, .plain, .plain, (kept 1 0 0).started 0 0, ⟨headOf ((kept 1 0 0).started 0 0), bodyOf ((kept 1 0 0).started
    0 0)⟩, (kept 1 0 0).started 0 0, iss (by decide +kernel), by decide +kernel, by decide +kernel, by decide +kernel,
    by decide +kernel, by decide +kernel, by decide +kernel, by decide +kernel, by decide +kernel, rdyAt (by decide +kernel)
    (by decide +kernel), by decide +kernel, topRead (headRead (by decide +kernel) (by decide +kernel) (by decide +kernel))
    (by decide +kernel) (by decide +kernel), by decide +kernel, by decide +kernel⟩,
  ⟨kept 1 0 1, 0, 0, dm 1 2, wk, vec 0 1 fmtF32, vec 448 1 fmtU8, vec 64 1 fmtF32, vec 0 1 fmtF32, vec 448 1 fmtU8, vec 64 1
    fmtF32, .plain, .plain, .plain, (kept 1 0 1).started 0 0, ⟨headOf ((kept 1 0 1).started 0 0), bodyOf ((kept 1 0 1).started
    0 0)⟩, (kept 1 0 1).started 0 0, iss (by decide +kernel), by decide +kernel, by decide +kernel, by decide +kernel,
    by decide +kernel, by decide +kernel, by decide +kernel, by decide +kernel, by decide +kernel, rdyAt (by decide +kernel)
    (by decide +kernel), by decide +kernel, topRead (headRead (by decide +kernel) (by decide +kernel) (by decide +kernel))
    (by decide +kernel) (by decide +kernel), by decide +kernel, by decide +kernel⟩,
  ⟨ran, 0, 0, { dm 1 1 with x := 2, cnt := 2 }, wk, [vec 64 1 fmtF32, vec 128 1 fmtF32], vec 0 1 fmtF32, vec 0 1 fmtF32, .plain,
    (vec 64 1 fmtF32, .plain), [(vec 128 1 fmtF32, .plain)], _, iss rfl, by decide, by decide, by decide, rdy (by decide)
    (by decide), by decide⟩,
  ⟨ran, 0, 0, { dm 1 4 with cnt := 3 }, wk, [vec 0 1 fmtF32, vec 64 1 fmtF32, vec 128 1 fmtF32], vec 192 1 fmtBF16, vec 192 1
    fmtBF16, .plain, (vec 0 1 fmtF32, .plain), [(vec 64 1 fmtF32, .plain), (vec 128 1 fmtF32, .plain)], _, iss rfl, by decide,
    by decide, by decide, rdy (by decide) (by decide), by decide⟩,
  ⟨ran, 0, 0, dm 0 2, wk, iss rfl, by decide⟩,
  ⟨ran, 0, 0, { dm 1 2 with g := 0 }, wk, iss rfl, by decide⟩,
  ⟨ran, 0, 0, dm 1 1, wk, vec 0 1 fmtF32, vec 0 1 fmtF32, iss rfl, by decide, by decide, by decide⟩⟩

theorem witness_ActivationStack :
  (∃ (s : State) (c x : Nat) (w : DmWord) (k : Work), Issues s c x k ∧ w.cond = true ∧ (s.started c x).serviceOf k = 0) ∧
  (∃ (s : State) (c x : Nat) (w : DmWord) (k : Work) (xd xp : Desc) (xv : VSel) (t : State),
    let entry := t.stackEntry k xp xv (t.reg (Obj.stackTop c x)) 0 xd.tensorId false 0 0
    Issues s c x k ∧ (w.cond = false ∨ (s.started c x).serviceOf k ≠ 0) ∧ (s.started c x).slotDesc k w.x = some xd ∧ xd.fmt ≠
      fmtS8 ∧ OperandsReady (s.started c x) c x (moverUnit c) k [askRead xd] [(xp, xv)] t ∧ PushFits t c x k entry.length) ∧
  (∃ (s : State) (c x : Nat) (w : DmWord) (k : Work) (xd xp : Desc) (xv : VSel) (t : State),
    let entry := t.stackEntry k xp xv (t.reg (Obj.stackTop c x)) 0 xd.tensorId false 0 0
    let bounds := t.stackBoundsBad k.tenant (t.ctx c x).stackBase (t.ctx c x).stackLimit
    Issues s c x k ∧ (w.cond = false ∨ (s.started c x).serviceOf k ≠ 0) ∧ (s.started c x).slotDesc k w.x = some xd ∧ xd.fmt ≠
      fmtS8 ∧ OperandsReady (s.started c x) c x (moverUnit c) k [askRead xd] [(xp, xv)] t ∧ bounds = false ∧ (t.ctx c
      x).stackLimit < t.reg (Obj.stackTop c x) + entry.length) ∧
  (∃ (s : State) (c x : Nat) (w : DmWord) (k : Work) (xd xp : Desc) (xv : VSel) (t : State),
    let bounds := t.stackBoundsBad k.tenant (t.ctx c x).stackBase (t.ctx c x).stackLimit
    Issues s c x k ∧ (w.cond = false ∨ (s.started c x).serviceOf k ≠ 0) ∧ (s.started c x).slotDesc k w.x = some xd ∧ xd.fmt ≠
      fmtS8 ∧ OperandsReady (s.started c x) c x (moverUnit c) k [askRead xd] [(xp, xv)] t ∧ bounds = true) ∧
  (∃ (s : State) (c x : Nat) (w : DmWord) (k : Work) (yd : Desc) (yp : Desc × VSel) (t : State), Issues s c x k ∧ (w.cond =
    false ∨ (s.started c x).serviceOf k ≠ 0) ∧ (s.started c x).slotDesc k w.y = some yd ∧ yd.fmt ≠ fmtS8 ∧ OperandsReady
    (s.started c x) c x (moverUnit c) k [askWrite yd] [yp] t ∧ ((t.ctx c x).stack = [] ∨ t.reg (Obj.stackTop c x) = (t.ctx c
    x).stackBase)) ∧
  (∃ (s : State) (c x : Nat) (w : DmWord) (k : Work) (yd : Desc) (yp : Desc × VSel) (t : State) (h z : _), Issues s c x k ∧
    (w.cond = false ∨ (s.started c x).serviceOf k ≠ 0) ∧ (s.started c x).slotDesc k w.y = some yd ∧ yd.fmt ≠ fmtS8 ∧
    OperandsReady (s.started c x) c x (moverUnit c) k [askWrite yd] [yp] t ∧ HeadRead t c x k h z ∧ orderBad h k yd.tensorId 0
    none = true) ∧
  (∃ (s : State) (c x : Nat) (w : DmWord) (k : Work) (yd : Desc) (yp : Desc × VSel) (t : State) (e z : _),
    let same := field e.header 6 1 = yd.fmt + 32 * yd.block ∧ field e.header 0x10 4 = yd.e0 ∧ field e.header 0x14 4 = yd.e1 ∧
      field e.header 0x18 4 = yd.e2 ∧ field e.header 0x1C 4 = yd.e3
    Issues s c x k ∧ (w.cond = false ∨ (s.started c x).serviceOf k ≠ 0) ∧ (s.started c x).slotDesc k w.y = some yd ∧ yd.fmt ≠
      fmtS8 ∧ OperandsReady (s.started c x) c x (moverUnit c) k [askWrite yd] [yp] t ∧ TopRead t c x k e z ∧ orderBad e.header
      k yd.tensorId 0 none = false ∧ ¬ same) ∧
  (∃ (s : State) (c x : Nat) (w : DmWord) (k : Work) (yd : Desc) (yp : Desc × VSel) (t : State) (e z : _),
    let same := field e.header 6 1 = yd.fmt + 32 * yd.block ∧ field e.header 0x10 4 = yd.e0 ∧ field e.header 0x14 4 = yd.e1 ∧
      field e.header 0x18 4 = yd.e2 ∧ field e.header 0x1C 4 = yd.e3
    Issues s c x k ∧ (w.cond = false ∨ (s.started c x).serviceOf k ≠ 0) ∧ (s.started c x).slotDesc k w.y = some yd ∧ yd.fmt ≠
      fmtS8 ∧ OperandsReady (s.started c x) c x (moverUnit c) k [askWrite yd] [yp] t ∧ TopRead t c x k e z ∧ orderBad e.header
      k yd.tensorId 0 none = false ∧ same ∧ (∀ q ∈ yp.1.offsets, z.anyBad k.tenant [q] yp.2 = false) ∧ (∀ q ∈ yp.1.scaleOffs,
      z.anyBad k.tenant [q] .plain = false)) ∧
  (∃ (s : State) (c x : Nat) (w : DmWord) (k : Work), Issues s c x k ∧ (w.cond = false ∨ (s.started c x).serviceOf k ≠ 0) ∧ (w.x
    = 0 ∨ (∃ d, (s.started c x).slotDesc k w.x = some d ∧ d.fmt = fmtS8))) ∧
  (∃ (s : State) (c x : Nat) (w : DmWord) (k : Work), Issues s c x k ∧ (w.cond = false ∨ (s.started c x).serviceOf k ≠ 0) ∧ (w.y
    = 0 ∨ (∃ d, (s.started c x).slotDesc k w.y = some d ∧ d.fmt = fmtS8))) :=
  ⟨⟨ran, 0, 0, { dm 1 2 with cond := true }, wk, iss rfl, by decide, by decide⟩,
  ⟨served 1024 2048 1024, 0, 0, dm 1 0, wk, vec 0 1 fmtF32, vec 0 1 fmtF32, .plain, (served 1024 2048 1024).started 0 0, iss
    (by decide +kernel), by decide +kernel, by decide +kernel, by decide +kernel, rdyAt (by decide +kernel) (by decide),
    ⟨by decide +kernel, by decide +kernel, fits2 (by decide +kernel), by decide +kernel, by decide +kernel⟩⟩,
  ⟨served 1024 2048 1984, 0, 0, dm 1 0, wk, vec 0 1 fmtF32, vec 0 1 fmtF32, .plain, (served 1024 2048 1984).started 0 0, iss
    (by decide +kernel), by decide +kernel, by decide +kernel, by decide +kernel, rdyAt (by decide +kernel) (by decide),
    by decide +kernel, by decide +kernel⟩,
  ⟨served 1025 2048 1024, 0, 0, dm 1 0, wk, vec 0 1 fmtF32, vec 0 1 fmtF32, .plain, (served 1025 2048 1024).started 0 0, iss
    (by decide +kernel), by decide +kernel, by decide +kernel, by decide +kernel, rdyAt (by decide +kernel) (by decide),
    by decide +kernel⟩,
  ⟨served 1024 2048 1024, 0, 0, dm 0 1, wk, vec 0 1 fmtF32, (vec 0 1 fmtF32, .plain), (served 1024 2048 1024).started 0 0, iss
    (by decide +kernel), by decide +kernel, by decide +kernel, by decide +kernel, rdyAt (by decide +kernel) (by decide), .inl
    (by decide)⟩,
  ⟨kept 1 0 0, 0, 0, dm 0 1, wk, vec 0 1 fmtF32, (vec 0 1 fmtF32, .plain), (kept 1 0 0).started 0 0, headOf ((kept 1 0
    0).started 0 0), (kept 1 0 0).started 0 0, iss (by decide +kernel), by decide +kernel, by decide +kernel,
    by decide +kernel, rdyAt (by decide +kernel) (by decide +kernel), headRead (by decide +kernel) (by decide +kernel)
    (by decide +kernel), by decide +kernel⟩,
  ⟨kept 1 0 0 1, 0, 0, dm 0 4, wk, vec 192 1 fmtBF16, (vec 192 1 fmtBF16, .plain), (kept 1 0 0 1).started 0 0, ⟨headOf ((kept 1
    0 0 1).started 0 0), bodyOf ((kept 1 0 0 1).started 0 0)⟩, (kept 1 0 0 1).started 0 0, iss (by decide +kernel),
    by decide +kernel, by decide +kernel, by decide +kernel, rdyAt (by decide +kernel) (by decide +kernel), topRead (headRead
    (by decide +kernel) (by decide +kernel) (by decide +kernel)) (by decide +kernel) (by decide +kernel), by decide +kernel,
    by decide +kernel⟩,
  ⟨kept 1 0 0 1, 0, 0, dm 0 2, wk, vec 64 1 fmtF32, (vec 64 1 fmtF32, .plain), (kept 1 0 0 1).started 0 0, ⟨headOf ((kept 1 0 0
    1).started 0 0), bodyOf ((kept 1 0 0 1).started 0 0)⟩, (kept 1 0 0 1).started 0 0, iss (by decide +kernel),
    by decide +kernel, by decide +kernel, by decide +kernel, rdyAt (by decide +kernel) (by decide +kernel), topRead (headRead
    (by decide +kernel) (by decide +kernel) (by decide +kernel)) (by decide +kernel) (by decide +kernel), by decide +kernel,
    by decide +kernel, by decide +kernel, by decide +kernel⟩,
  ⟨ran, 0, 0, dm 0 0, wk, iss rfl, by decide, by decide⟩,
  ⟨ran, 0, 0, dm 0 6, wk, iss rfl, by decide, .inr ⟨vec 320 1 fmtS8, by decide, rfl⟩⟩⟩

theorem witness_Doorbells :
  (∃ (s : State) (q : Nat), (s.queueActive q = false ∨ (s.queue q).mode = 1)) ∧
  (∃ (s : State) (q tail : Nat),
    let p := tail % 2 ^ 32
    let d := (p + 2 ^ 32 - (s.queue q).posted) % 2 ^ 32
    s.queueActive q = true ∧ (s.queue q).mode ≠ 1 ∧ (d = 0 ∨ 2 ^ 31 ≤ d)) ∧
  (∃ (s : State) (q tail : Nat),
    let p := tail % 2 ^ 32
    let d := (p + 2 ^ 32 - (s.queue q).posted) % 2 ^ 32
    let held := (p + 2 ^ 32 - (s.queue q).consumed) % 2 ^ 32
    s.queueActive q = true ∧ (s.queue q).mode ≠ 1 ∧ 0 < d ∧ d < 2 ^ 31 ∧ held ≤ (s.queue q).submitDepth) ∧
  (∃ (s : State) (q tail : Nat),
    let p := tail % 2 ^ 32
    let d := (p + 2 ^ 32 - (s.queue q).posted) % 2 ^ 32
    let held := (p + 2 ^ 32 - (s.queue q).consumed) % 2 ^ 32
    s.queueActive q = true ∧ (s.queue q).mode ≠ 1 ∧ 0 < d ∧ d < 2 ^ 31 ∧ (s.queue q).submitDepth < held) ∧
  (∃ (s : State) (q n : Nat), (s.queue q).mode = 2 ∧ Acceptable s q n) ∧
  (∃ (s : State) (q : Nat), ((s.queue q).mode ≠ 2 ∨ (∀ n, ¬ Acceptable s q n))) ∧
  (∃ (s : State) (q w : Nat) (k : Work) (c x : Nat) (gs : List Nat) (ab sb start i j a b : Nat), s.queueHead q = some (w, k) ∧
    s.mayPlace k = true ∧ (k.pc && (s.core k.coreField).outOfService) = false ∧ s.placeFor k = some (c, x, gs, ab, sb) ∧
    s.entryOf k = some (start, i, j, a, b) ∧ k.tenant < 16) ∧
  (∃ (s : State) (q w : Nat) (k : Work), s.queueHead q = some (w, k) ∧ s.mayPlace k = true ∧ k.pc = true ∧ (s.core
    k.coreField).outOfService = true) ∧
  (∃ (s : State) (q w : Nat) (k : Work), s.queueHead q = some (w, k) ∧ (s.mayPlace k = false ∨ (s.placeFor k = none ∧ (k.pc &&
    (s.core k.coreField).outOfService) = false))) ∧
  (∃ (s : State) (q : Nat), s.queueHead q = none) :=
  ⟨⟨qd { mode := 1 }, 0, by decide⟩,
  ⟨qd { mode := 2 }, 0, 0, by decide, by decide, .inl (by decide)⟩,
  ⟨qd { mode := 2, submitDepth := 8 }, 0, 8, by decide, by decide, by decide, by decide, by decide⟩,
  ⟨qd { mode := 2, submitDepth := 8 }, 0, 9, by decide, by decide, by decide, by decide, by decide⟩,
  ⟨qd { mode := 2, posted := 1, completionDepth := 1 }, 0, 0, by decide, ⟨by decide, by decide, by decide, by decide⟩⟩,
  ⟨qd { mode := 1 }, 0, .inl (by decide)⟩,
  ⟨waiting wk, 0, 7, { wk with phase := 1 }, 0, 0, [0], 0, 0, 0, 0, 1, 0, 0, rfl, by decide, by decide, by decide +kernel,
    by decide +kernel, by decide⟩,
  ⟨waiting { wk with pc := true } { outOfService := true }, 0, 7, _, rfl, by decide, rfl, by decide⟩,
  ⟨{ waiting wk with cores := [(0, { outOfService := true })] }, 0, 7, _, rfl, .inr (by decide +kernel)⟩,
  ⟨own, 0, by decide⟩⟩

theorem witness_Dispatches :
  (∃ (s : State) (e : Envelope) (q index : Nat) (d : List Byte), s.gdpUp = true ∧ (∀ x, s.session? e.session = some x → e.tag ≠
    tagOf x.key e.sequence (dispatchHead 1 q index e.session 0 ++ d) ∨ e.sequence + 1024 ≤ x.highest)) ∧
  (∃ (s : State) (e : Envelope) (q index : Nat) (d : List Byte) (x : Session), s.gdpUp = true ∧ s.session? e.session = some x ∧
    e.tag = tagOf x.key e.sequence (dispatchHead 1 q index e.session 0 ++ d) ∧ x.highest < e.sequence + 1024 ∧ x.seen.contains
    e.sequence = true) ∧
  (∃ (s : State) (e : Envelope) (q index : Nat) (d : List Byte) (t : State) (x : Session), s.authenticate e (dispatchHead 1 q
    index e.session 0 ++ d) = .fresh t x ∧ t.canWrite x ⟨Obj.queueConfig q / 256, Obj.queueConfig q % 256⟩ = false) ∧
  (∃ (s : State) (e : Envelope) (q index : Nat) (d : List Byte) (t : State) (x : Session) (n : _),
    let k := (index + 2 ^ 32 - (t.queue q).accepted) % 2 ^ 32
    let room := (((t.queue q).accepted + 2 ^ 32 - (t.queue q).consumed) % 2 ^ 32 < (t.queue q).submitDepth ∧ (t.queue
      q).reserved < (t.queue q).completionDepth)
    s.authenticate e (dispatchHead 1 q index e.session 0 ++ d) = .fresh t x ∧ t.canWrite x ⟨Obj.queueConfig q / 256,
      Obj.queueConfig q % 256⟩ = true ∧ t.tenantOfQueue q = some n ∧ t.queueActive q = true ∧ (t.queue q).mode ≠ 2 ∧ k = 0 ∧
      room) ∧
  (∃ (s : State) (e : Envelope) (q index : Nat) (d : List Byte) (t : State) (x : Session) (n : _),
    let k := (index + 2 ^ 32 - (t.queue q).accepted) % 2 ^ 32
    let room := (((t.queue q).accepted + 2 ^ 32 - (t.queue q).consumed) % 2 ^ 32 < (t.queue q).submitDepth ∧ (t.queue
      q).reserved < (t.queue q).completionDepth)
    s.authenticate e (dispatchHead 1 q index e.session 0 ++ d) = .fresh t x ∧ t.canWrite x ⟨Obj.queueConfig q / 256,
      Obj.queueConfig q % 256⟩ = true ∧ t.tenantOfQueue q = some n ∧ t.queueActive q = true ∧ (t.queue q).mode ≠ 2 ∧ k = 0 ∧ ¬
      room) ∧
  (∃ (s : State) (e : Envelope) (q index : Nat) (d : List Byte) (t : State) (x : Session) (n : _),
    let k := (index + 2 ^ 32 - (t.queue q).accepted) % 2 ^ 32
    s.authenticate e (dispatchHead 1 q index e.session 0 ++ d) = .fresh t x ∧ t.canWrite x ⟨Obj.queueConfig q / 256,
      Obj.queueConfig q % 256⟩ = true ∧ t.tenantOfQueue q = some n ∧ t.queueActive q = true ∧ (t.queue q).mode ≠ 2 ∧ 2 ^ 31 ≤
      k) ∧
  (∃ (s : State) (e : Envelope) (q index : Nat) (d : List Byte) (t : State) (x : Session) (n : _),
    let k := (index + 2 ^ 32 - (t.queue q).accepted) % 2 ^ 32
    s.authenticate e (dispatchHead 1 q index e.session 0 ++ d) = .fresh t x ∧ t.canWrite x ⟨Obj.queueConfig q / 256,
      Obj.queueConfig q % 256⟩ = true ∧ t.tenantOfQueue q = some n ∧ t.queueActive q = true ∧ (t.queue q).mode ≠ 2 ∧ 0 < k ∧ k
      < 2 ^ 31) ∧
  (∃ (s : State) (e : Envelope) (q index : Nat) (d : List Byte) (t : State) (x : Session), s.authenticate e (dispatchHead 1 q
    index e.session 0 ++ d) = .fresh t x ∧ t.canWrite x ⟨Obj.queueConfig q / 256, Obj.queueConfig q % 256⟩ = true ∧
    (t.queueActive q = false ∨ (t.queue q).mode = 2)) :=
  ⟨⟨own, env 9, 0, 0, [], by decide, by intro x h; rw [show own.session? (env 9).session = none by decide] at h; cases h⟩,
  ⟨{ own with sessions := [{ owner with seen := [1] }] }, envD 1 0 0, 0, 0, [], { owner with seen := [1] }, by decide,
    by decide, by decide +kernel, by decide, by decide⟩,
  ⟨qd { mode := 1 }, envD 2 0 0, 0, 0, [], _, heardD (qd { mode := 1 }) 2 0 0, freshOf ⟨by decide, rfl, rfl⟩ (by decide),
    by decide +kernel⟩,
  ⟨qd { mode := 1, submitDepth := 1, completionDepth := 1 }, envD 1 0 0, 0, 0, [], _, heardD (qd
    { mode := 1, submitDepth := 1, completionDepth := 1 }) 1 0 0, 0, freshOf ⟨by decide, rfl, rfl⟩ (by decide),
    by decide +kernel, by decide +kernel, by decide +kernel, by decide +kernel, by decide +kernel, by decide +kernel⟩,
  ⟨qd { mode := 1, submitDepth := 1, completionDepth := 0 }, envD 1 0 0, 0, 0, [], _, heardD (qd
    { mode := 1, submitDepth := 1, completionDepth := 0 }) 1 0 0, 0, freshOf ⟨by decide, rfl, rfl⟩ (by decide),
    by decide +kernel, by decide +kernel, by decide +kernel, by decide +kernel, by decide +kernel, by decide +kernel⟩,
  ⟨qd { mode := 1, accepted := 1 }, envD 1 0 0, 0, 0, [], _, heardD (qd { mode := 1, accepted := 1 }) 1 0 0, 0, freshOf
    ⟨by decide, rfl, rfl⟩ (by decide), by decide +kernel, by decide +kernel, by decide +kernel, by decide +kernel,
    by decide +kernel⟩,
  ⟨qd { mode := 1 }, envD 1 0 1, 0, 1, [], _, heardD (qd { mode := 1 }) 1 0 1, 0, freshOf ⟨by decide, rfl, rfl⟩ (by decide),
    by decide +kernel, by decide +kernel, by decide +kernel, by decide +kernel, by decide +kernel, by decide +kernel⟩,
  ⟨qd { mode := 2 }, envD 1 0 0, 0, 0, [], _, heardD (qd { mode := 2 }) 1 0 0, freshOf ⟨by decide, rfl, rfl⟩ (by decide),
    by decide +kernel, .inr (by decide +kernel)⟩⟩

theorem witness_Completions :
  (∃ (s : State) (w v : Nat) (k : Work) (st : Nat), s.work? w = some k ∧ s.ctxWork k.core k.ctx = some (v, k) ∧ (s.ctx k.core
    k.ctx).stopping = some st ∧ s.quiet k.core k.ctx = true ∧ k.phase = 2) ∧
  (∃ (s : State) (w : Nat), s.work? w = none) ∧
  (∃ (s : State) (w : Nat) (k : Work), s.work? w = some k ∧ ((s.ctx k.core k.ctx).stopping = none ∨ s.quiet k.core k.ctx = false
    ∨ k.phase ≠ 2)) ∧
  (∃ (s : State) (w : Nat) (k : Work), s.work? w = some k ∧ k.phase = 3) ∧
  (∃ (s : State) (w : Nat) (k : Work), s.work? w = some k ∧ k.phase ≠ 3) ∧
  (∃ (s : State) (sess q : Nat) (x : Session), s.session? sess = some x ∧ s.canRead x ⟨Obj.completionPull q / 256,
    Obj.completionPull q % 256⟩ = true) ∧
  (∃ (s : State) (sess q : Nat) (x : Session), s.session? sess = some x ∧ s.canRead x ⟨Obj.completionPull q / 256,
    Obj.completionPull q % 256⟩ = false) ∧
  (∃ (s : State) (sess : Nat), s.session? sess = none) :=
  ⟨⟨ran { stopping := some 4 }, 7, 7, wk, 4, rfl, rfl, by decide, by decide, rfl⟩,
  ⟨own, 7, by decide⟩,
  ⟨ran, 7, wk, rfl, .inl (by decide)⟩,
  ⟨{ ran with works := [(7, { wk with phase := 3 })] }, 7, { wk with phase := 3 }, by decide, by decide⟩,
  ⟨ran, 7, wk, rfl, by decide⟩,
  ⟨own, 1, 0, _, rfl, by decide⟩,
  ⟨own, 2, 0, _, rfl, by decide⟩,
  ⟨own, 9, by decide⟩⟩

theorem witness_QueueConfig :
  (∃ (s : State) (sess q : Nat) (bs : List Byte), MayWrite s sess (Obj.queueConfig q / 256) (Obj.queueConfig q % 256) ∧
    queueConfigOk bs = true ∧ s.queueBusy q = false) ∧
  (∃ (s : State) (sess q : Nat) (bs : List Byte), MayWrite s sess (Obj.queueConfig q / 256) (Obj.queueConfig q % 256) ∧
    (queueConfigOk bs = false ∨ (s.queueBusy q = true ∧ bits (field bs 0 1) 0 2 ≠ 0))) ∧
  (∃ (s : State) (sess q : Nat) (bs : List Byte) (e : Instr), MayWrite s sess (Obj.queueConfig q / 256) (Obj.queueConfig q %
    256) ∧ (e = .queueDisable sess q ∨ (e = .queueEnable sess q bs ∧ queueConfigOk bs = true ∧ s.queueBusy q = true ∧ bits
    (field bs 0 1) 0 2 = 0))) :=
  ⟨⟨own, 1, 0, queueRecord, mw rfl, by decide, by decide⟩,
  ⟨own, 1, 0, [], mw rfl, by decide⟩,
  ⟨qd { mode := 1 }, 1, 0, List.replicate 24 0, .queueDisable 1 0, mw rfl, .inl rfl⟩⟩

theorem witness_Claims :
  (∃ (s : State) (c x : Nat) (w : LiftWord) (k : Work), Issues s c x k ∧ (w.tier = 0 ∨ w.tier = 3 ∨ w.x = 0 ∨ (w.token ≠ 0 ∧
    (s.ctx c x).token w.token ≠ .free))) ∧
  (∃ (s : State) (c x : Nat) (w : LiftWord) (k : Work) (f : OpFault), Issues s c x k ∧ (w.tier = 1 ∨ w.tier = 2) ∧ w.x ≠ 0 ∧
    (w.token = 0 ∨ (s.ctx c x).token w.token = .free) ∧ (s.started c x).liftEntry k ((s.started c x).descOf k w.x) = .error f) ∧
  (∃ (s : State) (c x : Nat) (w : LiftWord) (k : Work) (key : Nat) (e : Entry), Issues s c x k ∧ (w.tier = 1 ∨ w.tier = 2) ∧ w.x
    ≠ 0 ∧ (w.token = 0 ∨ (s.ctx c x).token w.token = .free) ∧ (s.started c x).liftEntry k ((s.started c x).descOf k w.x) = .ok
    (key, e)) ∧
  (∃ (e : Entry) (cl : Claim), e.homeTier ≤ cl.tier) ∧
  (∃ (s : State) (e : Entry) (cl : Claim), cl.tier < e.homeTier ∧ (e.pinned || s.onStack e) = true) ∧
  (∃ (s : State) (e : Entry) (cl : Claim), cl.tier < e.homeTier ∧ e.pinned = false ∧ s.onStack e = false ∧ e.held cl.tenant
    cl.cid = none ∧ (255 ≤ e.claims.length ∨ 131072 ≤ s.claimCount)) ∧
  (∃ (s : State) (key : Nat) (e : Entry) (cl : Claim), Claimable s e cl ∧ s.moveOf key = none ∧ e.tier ≤ cl.tier ∧ e.held
    cl.tenant cl.cid = none) ∧
  (∃ (s : State) (key : Nat) (e : Entry) (cl : Claim), Claimable s e cl ∧ s.moveOf key = none ∧ e.tier ≤ cl.tier ∧ (e.held
    cl.tenant cl.cid).isSome = true) ∧
  (∃ (s : State) (key : Nat) (e : Entry) (cl : Claim), Claimable s e cl ∧ s.moveOf key = none ∧ cl.tier < e.tier ∧ s.borrowed
    cl.tier cl.tenant = 0 ∧ 64 * e.lines ≤ s.freeRoom cl.tier cl.tenant ∧ (cl.tier = 0 → s.fits 0 cl.die cl.place (64 *
    e.lines) = true) ∧ s.queuedOn (s.upperDie cl e.bytes) < 1024) ∧
  (∃ (s : State) (key : Nat) (e : Entry) (cl : Claim), Claimable s e cl ∧ s.moveOf key = none ∧ cl.tier < e.tier ∧ (s.borrowed
    cl.tier cl.tenant ≠ 0 ∨ s.freeRoom cl.tier cl.tenant < 64 * e.lines)) ∧
  (∃ (s : State) (key : Nat) (e : Entry) (cl : Claim), Claimable s e cl ∧ s.moveOf key = none ∧ cl.tier < e.tier ∧ s.borrowed
    cl.tier cl.tenant = 0 ∧ 64 * e.lines ≤ s.freeRoom cl.tier cl.tenant ∧ cl.tier = 0 ∧ s.fits 0 cl.die cl.place (64 *
    e.lines) = false) ∧
  (∃ (s : State) (key : Nat) (e : Entry) (cl : Claim), Claimable s e cl ∧ s.moveOf key = none ∧ cl.tier < e.tier ∧ s.borrowed
    cl.tier cl.tenant = 0 ∧ 64 * e.lines ≤ s.freeRoom cl.tier cl.tenant ∧ (cl.tier = 0 → s.fits 0 cl.die cl.place (64 *
    e.lines) = true) ∧ 1024 ≤ s.queuedOn (s.upperDie cl e.bytes)) ∧
  (∃ (e : Entry) (cl : Claim), e.held cl.tenant cl.cid = none) ∧
  (∃ (s : State) (c x : Nat) (w : LiftWord) (k : Work), Issues s c x k ∧ w.x = 0) ∧
  (∃ (s : State) (c x : Nat) (w : LiftWord) (k : Work) (f : OpFault), Issues s c x k ∧ w.x ≠ 0 ∧ (s.started c x).liftEntry k
    ((s.started c x).descOf k w.x) = .error f) ∧
  (∃ (s : State) (c x : Nat) (w : LiftWord) (k : Work) (key : Nat) (e e0 : Entry), Issues s c x k ∧ w.x ≠ 0 ∧ (s.started c
    x).liftEntry k ((s.started c x).descOf k w.x) = .ok (key, e0) ∧ s.entry? key = some e ∧ e.held k.tenant w.cid = none) ∧
  (∃ (s : State) (c x : Nat) (w : LiftWord) (k : Work) (key : Nat) (e e0 : Entry), Issues s c x k ∧ w.x ≠ 0 ∧ (s.started c
    x).liftEntry k ((s.started c x).descOf k w.x) = .ok (key, e0) ∧ s.entry? key = some e ∧ (e.held k.tenant w.cid).isSome =
    true) ∧
  (∃ (s : State) (c x : Nat) (w : LiftWord) (k : Work) (key : Nat) (e e0 : Entry), Issues s c x k ∧ w.x ≠ 0 ∧ (s.started c
    x).liftEntry k ((s.started c x).descOf k w.x) = .ok (key, e0) ∧ s.entry? key = some e ∧ e.held k.tenant w.cid ≠ none ∧
    e.upper = none ∧ s.moveOf key = none ∧ (∀ d ∈ e.claims, d.tenant = k.tenant ∧ d.cid = w.cid)) :=
  ⟨⟨ran, 0, 0, lw 3 1 0, wk, iss rfl, .inr (.inl rfl)⟩,
  ⟨{ ran with entries := [] }, 0, 0, lw 1 1 0, wk, .address, iss rfl, by decide, by decide, by decide, liftErr (by decide)⟩,
  ⟨ran, 0, 0, lw 2 1 0, wk, 1, region 0, iss rfl, .inr rfl, by decide, .inl rfl, liftOk (by decide)⟩,
  ⟨region 0, clm 1, by decide⟩,
  ⟨ran, { region 0 with pinned := true }, clm 0, by decide, by decide⟩,
  ⟨ran, { region 0 with claims := List.replicate 255 { clm 0 with tenant := 1 } }, clm 0, by decide, by decide, by decide,
    by decide +kernel, .inl (by decide +kernel)⟩,
  ⟨ran, 1, { region 0 with upper := some up0 }, clm 0, ⟨by decide, by decide, by decide, .inr (by decide)⟩, by decide,
    by decide, by decide⟩,
  ⟨ran, 1, { region 0 with upper := some up0, claims := [clm 0] }, clm 0, ⟨by decide, by decide, by decide, .inl (by decide)⟩,
    by decide, by decide, by decide⟩,
  ⟨rg ran [(Obj.nearReserved 0, 4096)], 1, region 0, clm 0, ⟨by decide, by decide, by decide, .inr (by decide)⟩, by decide,
    by decide, by decide, by decide, by decide, by decide⟩,
  ⟨ran, 1, region 0, clm 0, ⟨by decide, by decide, by decide, .inr (by decide)⟩, by decide, by decide, .inr (by decide)⟩,
  ⟨rg { ran with allocs := [(9, { tier := 0, die := 0, bytes := 8 * 16777216, tenant := 1 })] } [(Obj.nearReserved 0, 4096)], 1,
    region 0, clm 0, ⟨by decide, by decide, by decide, .inr (by decide)⟩, by decide, by decide, by decide, by decide,
    by decide, by decide⟩,
  ⟨rg { ran with moves := List.replicate 1024 (9, { mv0 with entry := 2, engine := 0 }) } [(Obj.nearReserved 0, 4096)], 1,
    region 0, clm 0, ⟨by decide, by decide, by decide, .inr (by decide)⟩, by decide +kernel, by decide, by decide +kernel,
    by decide +kernel, by decide +kernel, by decide +kernel⟩,
  ⟨region 0, clm 0, by decide⟩,
  ⟨ran, 0, 0, lw 2 0 0, wk, iss rfl, by decide⟩,
  ⟨{ ran with entries := [] }, 0, 0, lw 1 1 0, wk, .address, iss rfl, by decide, liftErr (by decide)⟩,
  ⟨ran, 0, 0, lw 0 1 0, wk, 1, region 0, region 0, iss rfl, by decide, liftOk (by decide), rfl, by decide⟩,
  ⟨{ ran with entries := [(1, { region 0 with claims := [clm 0] })] }, 0, 0, lw 0 1 0, wk, 1,
    { region 0 with claims := [clm 0] }, { region 0 with claims := [clm 0] }, iss rfl, by decide, liftOk (by decide), rfl,
    by decide⟩,
  ⟨{ ran with entries := [(1, { region 0 with claims := [clm 0] })] }, 0, 0, lw 0 1 0, wk, 1,
    { region 0 with claims := [clm 0] }, { region 0 with claims := [clm 0] }, iss rfl, by decide, liftOk (by decide), rfl,
    by decide, by decide, by decide, by decide⟩⟩

theorem witness_Moves :
  (∃ (s : State) (die : Nat), (8 ≤ s.flyingOn die ∨ s.reg Obj.supplyState = 1)) ∧
  (∃ (s : State) (die : Nat), s.flyingOn die < 8 ∧ s.reg Obj.supplyState ≠ 1 ∧ s.nextMove die = none) ∧
  (∃ (s : State) (die m : Nat) (mv : Move) (e : Entry), s.flyingOn die < 8 ∧ s.reg Obj.supplyState ≠ 1 ∧ s.nextMove die = some
    (m, mv) ∧ s.entry? mv.entry = some e) ∧
  (∃ (s : State) (m : Nat) (mv : Move) (e : Entry), s.moves.find? (fun p => p.1 = m) = some (m, mv) ∧ mv.flying = true ∧
    mv.committed = false ∧ s.reg Obj.supplyState ≠ 1 ∧ s.entry? mv.entry = some e ∧ mv.engine < 8 ∧ Memory.wf s.mem = true) ∧
  (∃ (s : State) (m : Nat) (mv : Move), s.moves.find? (fun p => p.1 = m) = some (m, mv) ∧ (mv.flying = false ∨ mv.committed =
    true ∨ s.reg Obj.supplyState = 1)) ∧
  (∃ (s : State) (m : Nat) (mv : Move), s.moves.find? (fun p => p.1 = m) = some (m, mv) ∧ mv.committed = false) ∧
  (∃ (s : State) (m : Nat), s.moves.find? (fun p => p.1 = m) = none) ∧
  (∃ (s : State) (m : Nat) (mv : Move) (e : Entry), s.moves.find? (fun p => p.1 = m) = some (m, mv) ∧ mv.committed = true ∧
    mv.tokens = [] ∧ s.entry? mv.entry = some e) ∧
  (∃ (s : State) (a : Nat) (v : Alloc), s.allocs.find? (fun p => p.1 = a) = some (a, v) ∧ v.tenant < 16 ∧ v.tier < 3 ∧ v.bytes ≤
    s.reg (chargedObj v.tier v.tenant) ∧ s.loans = []) :=
  ⟨⟨rg own [(Obj.supplyState, 1)], 0, .inr (by decide)⟩,
  ⟨own, 0, by decide, by decide, by decide⟩,
  ⟨{ ran with moves := [(1, mv0)] }, 7, 1, mv0, region 0, by decide, by decide, by decide, by decide⟩,
  ⟨{ ran with moves := [(1, { mv0 with engine := 0, flying := true })] }, 1, { mv0 with engine := 0, flying := true }, region 0,
    rfl, by decide, by decide, by decide, rfl, by decide, by decide⟩,
  ⟨{ ran with moves := [(1, mv0)] }, 1, mv0, rfl, .inl rfl⟩,
  ⟨{ ran with moves := [(1, mv0)] }, 1, mv0, rfl, by decide⟩,
  ⟨own, 1, by decide⟩,
  ⟨{ ran with moves := [(1, { mv0 with committed := true })] }, 1, { mv0 with committed := true }, region 0, rfl, by decide,
    by decide, rfl⟩,
  ⟨{ ran with allocs := [(1, { tier := 1, die := 0, bytes := 0, tenant := 0 })] }, 1,
    { tier := 1, die := 0, bytes := 0, tenant := 0 }, rfl, by decide, by decide, by decide, by decide⟩⟩

theorem witness_ResidencyEvents :
  (∃ (s : State) (a line : Nat) (e : Entry) (u : Upper), s.copyIn a = some (e, u) ∧ u.alloc = a ∧ line < e.lines ∧ line < 2 ^
    26) ∧
  (∃ (s : State) (a line : Nat), (s.copyIn a = none ∨ (∃ e u, s.copyIn a = some (e, u) ∧ e.lines ≤ line))) ∧
  (∃ s : State, s.device = devReady ∧ s.notFree.isEmpty = true) ∧
  (∃ s : State, (s.device ≠ devReady ∨ s.notFree.isEmpty = false)) ∧
  (∃ (s : State) (sess n : Nat) (es : List MapEntry), MayWrite s sess (0x3030 + n) 1 ∧ ((s.tenant n).state ≠ 1 ∨ (s.tenant
    n).steps.isEmpty = false ∨ s.writeMap n es = none)) ∧
  (∃ (s : State) (sess n : Nat) (es : List MapEntry) (u : _), MayWrite s sess (0x3030 + n) 1 ∧ s.writeMap n es = some u) ∧
  (∃ (s : State) (n : Nat), (s.tenant n).state = 1 ∧ (s.tenant n).steps = []) ∧
  (∃ (s : State) (c x a key : Nat) (e : Entry), (s.ctx c x).waits = .version a ∧ (s.ctx c x).state = 3 ∧ s.entries.find? (fun p
    => p.2.homeAlloc == a) = some (key, e)) ∧
  (∃ (s : State) (c x : Nat), (s.ctx c x).waits = .turn ∧ (s.ctx c x).state = 3) ∧
  (∃ (s : State) (c x : Nat), ((s.ctx c x).state ≠ 3 ∨ ((s.ctx c x).waits ≠ .turn ∧ ∀ a, (s.ctx c x).waits ≠ .version a))) ∧
  (∃ (s : State) (c x w : Nat) (k : Work), s.ctxWork c x = some (w, k) ∧ (s.ctx c x).state = 3 ∧ (s.ctx c x).waits = .tag true ∧
    (s.tenant k.tenant).tags.length < s.reg (Obj.tagQuota k.tenant) ∧ s.liveTags < 16384) ∧
  (∃ (s : State) (c x : Nat), (∀ w k, s.ctxWork c x = some (w, k) → (s.ctx c x).state ≠ 3 ∨ (s.ctx c x).waits ≠ .tag true ∨
    s.reg (Obj.tagQuota k.tenant) ≤ (s.tenant k.tenant).tags.length ∨ 16384 ≤ s.liveTags)) :=
  ⟨⟨ran, 1, 63, region 0, (region 0).homeCopy, by decide, by decide, by decide, by decide⟩,
  ⟨ran, 99, 0, .inl (by decide)⟩,
  ⟨own, by decide, by decide⟩,
  ⟨boot, by decide⟩,
  ⟨own, 1, 0, [], mw rfl, .inl (by decide)⟩,
  ⟨{ ran with tenants := [(0, { admittedTenant with steps := [] })] }, 1, 0, [], _, mw rfl, rfl⟩,
  ⟨{ ran with tenants := [(0, { admittedTenant with steps := [] })] }, 0, by decide, by decide⟩,
  ⟨{ ran with ctxs := [(0, { state := 3, waits := .version 9, work := some 7 })] }, 0, 0, 9, 2, buffer .current [0] 9,
    by decide, by decide, by decide⟩,
  ⟨{ ran with ctxs := [(0, { state := 3, waits := .turn, work := some 7 })] }, 0, 0, by decide, by decide⟩,
  ⟨ran, 0, 0, .inl (by decide)⟩,
  ⟨rg { ran with ctxs := [(0, { state := 3, waits := .tag true, work := some 7 })] } [(Obj.tagQuota 0, 1)], 0, 0, 7, wk, rfl,
    by decide, by decide, by decide, by decide⟩,
  ⟨own, 0, 0, by intro w k h; exact absurd h (by simp [show own.ctxWork 0 0 = none by decide])⟩⟩

theorem witness_Versions :
  (∃ (s : State) (n k : Nat) (e : Entry), s.entry? k = some e ∧ e.tenant = n ∧ e.versioned = true ∧ e.bufState = .pending) ∧
  (∃ (s : State) (n k p : Nat) (e f : Entry), s.entry? k = some e ∧ e.tenant = n ∧ e.versioned = true ∧ e.bufState = .current ∧
    (p, f) ∈ s.entries ∧ f.sameTensor n e.base = true ∧ f.bufState = .pending) ∧
  (∃ (s : State) (n k : Nat) (e : Entry), s.entry? k = some e ∧ e.tenant = n ∧ e.versioned = true ∧ e.bufState = .current ∧ (∀ p
    ∈ s.entries, p.2.sameTensor n e.base = true → p.2.bufState ≠ .pending)) ∧
  (∃ (s : State) (n k : Nat) (e : Entry), s.entry? k = some e ∧ e.tenant = n ∧ e.versioned = true ∧ e.bufState = .retained) ∧
  (∃ (s : State) (n k : Nat) (e : Entry), s.entry? k = some e ∧ (e.tenant ≠ n ∨ e.versioned = false)) :=
  ⟨⟨ran, 0, 3, buffer .pending [] 10, by decide, by decide, by decide, by decide⟩,
  ⟨ran, 0, 2, 3, buffer .current [0] 9, buffer .pending [] 10, by decide, by decide, by decide, by decide, by decide, by decide,
    by decide⟩,
  ⟨{ ran with entries := [(1, buffer .current [0] 9)] }, 0, 1, buffer .current [0] 9, rfl, by decide, by decide, by decide,
    by decide⟩,
  ⟨{ ran with entries := [(1, buffer .retained [0] 9)] }, 0, 1, buffer .retained [0] 9, rfl, by decide, by decide, by decide⟩,
  ⟨ran, 0, 1, region 0, by decide, by decide⟩⟩

theorem witness_TenantAdmit :
  (∃ (s : State) (sess n : Nat) (x : Session), s.session? sess = some x ∧ s.canWrite x ⟨0xA010 + n, 2⟩ = true ∧ x.role ≠
    roleOwner) ∧
  (∃ (s : State) (sess n : Nat) (x : Session), s.session? sess = some x ∧ s.canWrite x ⟨0xA010 + n, 2⟩ = true ∧ x.role =
    roleOwner ∧ (s.tenant n).state ≠ 0) ∧
  (∃ (s u : State) (sess n code : Nat) (x : Session), s.session? sess = some x ∧ s.canWrite x ⟨0xA010 + n, 2⟩ = true ∧ x.role =
    roleOwner ∧ (s.tenant n).state = 0 ∧ s.memberState = 0 ∧ s.dev.writing = none ∧ s.isUp = true ∧ code ≠ 0 ∧ s.admitCheck n
    = (code, u)) ∧
  (∃ (s u : State) (sess n : Nat) (x : Session), s.session? sess = some x ∧ s.canWrite x ⟨0xA010 + n, 2⟩ = true ∧ x.role =
    roleOwner ∧ (s.tenant n).state = 0 ∧ s.memberState = 0 ∧ s.dev.writing = none ∧ s.isUp = true ∧ n < 16 ∧ s.admitCheck n =
    (0, u)) ∧
  (∃ (s : State) (sess n : Nat) (x : Session), s.session? sess = some x ∧ s.canWrite x ⟨0xA010 + n, 2⟩ = true ∧ x.role =
    roleOwner ∧ (s.tenant n).state = 0 ∧ (s.memberState ≠ 0 ∨ s.dev.writing.isSome = true ∨ s.isUp = false)) :=
  ⟨⟨own, 3, 0, _, rfl, by decide, by decide⟩,
  ⟨ran, 1, 0, _, rfl, by decide, by decide, by decide⟩,
  ⟨own, (own.admitCheck 15).2, 1, 15, 1, _, rfl, by decide, by decide, by decide, by decide, by decide, by decide, by decide,
    Prod.ext (by decide +kernel) rfl⟩,
  ⟨admissible, (admissible.admitCheck 15).2, 1, 15, owner, rfl, by decide +kernel, rfl, by decide +kernel, by decide +kernel,
    by decide +kernel, by decide +kernel, by decide, pairOf (by decide +kernel)⟩,
  ⟨writing own, 1, 15, _, rfl, by decide, by decide, by decide, by decide⟩⟩

theorem witness_AdmitConditions :
  (∃ (s : State) (n : Nat),
    let fails : List Prop := [s.reg (Obj.coreSet n) = 0, s.reg (Obj.queueCount n) = 0 ∨ 4096 < s.reg (Obj.queueFirst n) +
      s.reg (Obj.queueCount n), (1024 + 2 * s.enabledCores) * 2 ^ 20 < s.reservedSum 0 + s.reg (Obj.nearReserved n) ∨
      Config.mainReservable < s.reservedSum 1 + s.reg (Obj.mainReserved n) ∨ Config.deepReservable < s.reservedSum 2 + s.reg
      (Obj.deepReserved n), ∃ m ∈ s.notFree, s.reg (Obj.slotFirst n) < s.reg (Obj.slotFirst m) + s.reg (Obj.slotCount m) ∧
      s.reg (Obj.slotFirst m) < s.reg (Obj.slotFirst n) + s.reg (Obj.slotCount n), (∀ p ∈ (s.tenant n).images, p.2.state ≠ 1)
      ∨ ∃ p ∈ (s.tenant n).images, p.2.state ≠ 1, (s.setReg (Obj.currentVersion n) 0).addMap n ((s.tenant n).images.flatMap
      fun p => p.2.map) = none, 128 < (s.notFree.map fun m => s.reg (Obj.pisteQuota m)).sum + s.reg (Obj.pisteQuota n)]
    (∀ j, j < 7 → ¬ fails.getD j False)) :=
  ⟨admissible, 15, by intro F j hj; subst F; rcases (by omega : j = 0 ∨ j = 1 ∨ j = 2 ∨ j = 3 ∨ j = 4 ∨ j = 5 ∨ j = 6) with rfl
    | rfl | rfl | rfl | rfl | rfl | rfl <;> simp only [List.getD_cons_zero, List.getD_cons_succ] <;> decide +kernel⟩

theorem witness_TenantEnd :
  (∃ (s : State) (sess n : Nat), MayWrite s sess (0xA010 + n) 2 ∧ (s.tenant n).state = 1) ∧
  (∃ (s : State) (sess n : Nat), MayWrite s sess (0xA010 + n) 2 ∧ (s.tenant n).state ≠ 1) ∧
  (∃ (s : State) (sess n : Nat), MayWrite s sess (0xA010 + n) 2 ∧ (s.tenant n).state ≠ 0) ∧
  (∃ (s : State) (sess n : Nat), MayWrite s sess (0xA010 + n) 2 ∧ (s.tenant n).state = 0) ∧
  (∃ (s : State) (n : Nat), ((s.tenant n).state ≠ 2 ∨ (s.works.any fun p => p.2.tenant == n) = true)) ∧
  (∃ (s : State) (n : Nat), (s.tenant n).state = 2 ∧ (s.works.any fun p => p.2.tenant == n) = false ∧ (s.entries.map
    (·.1)).Pairwise (· < ·)) ∧
  (∃ (s : State) (n : Nat), (s.tenant n).state = 0) ∧
  (∃ (s : State) (n : Nat), (s.tenant n).state ≠ 0) :=
  ⟨⟨ran, 1, 0, mw rfl, by decide⟩,
  ⟨own, 1, 15, mw rfl, by decide⟩,
  ⟨ran, 1, 0, mw rfl, by decide⟩,
  ⟨own, 1, 15, mw rfl, by decide⟩,
  ⟨own, 15, by decide⟩,
  ⟨{ own with tenants := [(15, { state := 2 })] }, 15, by decide, by decide, by decide⟩,
  ⟨own, 15, by decide⟩,
  ⟨ran, 0, by decide⟩⟩

theorem witness_Images :
  (∃ (s u : State) (sess n slot : Nat) (b : List Byte),
    let h := readImageHeader b
    let digest := sha256 ((b.take h.bytes).drop 0x80) = (b.drop 0x40).take 32
    MayWrite s sess (0xA030 + n) slot ∧ (s.tenant n).state = 0 ∧ 1 ≤ slot ∧ slot ≤ 16 ∧ u = ((s.tenant n).images.filter fun p
      => p.2.imageId == (readImageHeader b).imageId || p.1 == slot).foldl (fun t p => t.removeImage n p.1) s ∧ ¬ digest) ∧
  (∃ (s u : State) (sess n slot : Nat) (b : List Byte),
    let h := readImageHeader b
    let digest := sha256 ((b.take h.bytes).drop 0x80) = (b.drop 0x40).take 32
    MayWrite s sess (0xA030 + n) slot ∧ (s.tenant n).state = 0 ∧ 1 ≤ slot ∧ slot ≤ 16 ∧ u = ((s.tenant n).images.filter fun p
      => p.2.imageId == (readImageHeader b).imageId || p.1 == slot).foldl (fun t p => t.removeImage n p.1) s ∧ digest ∧ h.ok
      b.length = false) ∧
  (∃ (s : State) (sess n slot : Nat), MayWrite s sess (0xA030 + n) slot ∧ ((s.tenant n).state ≠ 0 ∨ slot = 0 ∨ 16 < slot)) ∧
  (∃ (s : State) (sess n slot : Nat), MayWrite s sess (0xA050 + n) slot ∧ (s.tenant n).state = 0) ∧
  (∃ (s : State) (sess n slot v : Nat), MayWrite s sess (0xA050 + n) slot ∧ (v ≠ 0 ∨ (s.tenant n).state ≠ 0)) :=
  ⟨⟨own, own, 1, 15, 16, [], mw rfl, by decide, by decide, by decide, rfl, by decide +kernel⟩,
  ⟨own, own, 1, 15, 16, List.replicate 64 0 ++ sha256 [] ++ List.replicate 32 0, mw rfl, by decide, by decide, by decide,
    by decide +kernel, by decide +kernel, by decide +kernel⟩,
  ⟨ran, 1, 0, 16, mw rfl, by decide⟩,
  ⟨own, 1, 15, 16, mw rfl, by decide⟩,
  ⟨own, 1, 15, 16, 1, mw rfl, by decide⟩⟩

theorem witness_Drawings :
  (∃ (s : State) (sess slot : Nat) (d : Drawing), MayWrite s sess 0x6010 slot ∧ s.drawingOk d = false) ∧
  (∃ (s : State) (sess slot : Nat) (d : Drawing), MayWrite s sess 0x6010 slot ∧ s.drawingOk d = true ∧ s.drawingInForceIs
    d.drawingId = false ∧ (∀ o, s.stored slot = some o → s.drawingInForceIs o.drawingId = false)) ∧
  (∃ (s : State) (sess slot : Nat) (d : Drawing), MayWrite s sess 0x6010 slot ∧ s.drawingOk d = true ∧ (s.drawingInForceIs
    d.drawingId = true ∨ (∃ o, s.stored slot = some o ∧ s.drawingInForceIs o.drawingId = true))) ∧
  (∃ (s : State) (sess : Nat), MayWrite s sess 0x6021 1 ∧ s.slalomSteps = []) ∧
  (∃ (s : State) (sess : Nat), MayWrite s sess 0x6021 1 ∧ s.slalomSteps ≠ [] ∧ (gatesRise s.slalomSteps = false ∨ (∃ k ∈
    s.slalomSteps, k.2.1 % (1024 * s.gatePeriod) ≠ 0 ∨ s.drawingNamed k.2.2 = none) ∨ 256 < s.schedCount +
    s.slalomSteps.length)) ∧
  (∃ (s : State) (sess : Nat), MayWrite s sess 0x6021 1 ∧ s.slalomSteps ≠ [] ∧ gatesRise s.slalomSteps = true ∧ (∀ k ∈
    s.slalomSteps, k.2.1 % (1024 * s.gatePeriod) = 0 ∧ (s.drawingNamed k.2.2).isSome = true) ∧ s.schedCount +
    s.slalomSteps.length ≤ 256) ∧
  (∃ (s : State) (sess : Nat), MayWrite s sess 0x6021 1 ∧ s.slalomSteps ≠ [] ∧ gatesRise s.slalomSteps = true ∧ (∀ k ∈
    s.slalomSteps, k.2.1 % (1024 * s.gatePeriod) = 0 ∧ (s.drawingNamed k.2.2).isSome = true ∧ s.beatNo < k.2.1 / 1024) ∧
    s.schedCount + s.slalomSteps.length ≤ 256) :=
  ⟨⟨own, 1, 1, drw 0, mw rfl, by decide⟩,
  ⟨drawn 0 none, 1, 1, drw 255, mw rfl, by decide, by decide, fun _ _ => rfl⟩,
  ⟨drawn 0 (some (drw 255)), 1, 8, drw 255, mw rfl, by decide, .inl (by decide)⟩,
  ⟨own, 1, mw rfl, by decide⟩,
  ⟨drawn 65537 none, 1, mw rfl, by decide, by decide⟩,
  ⟨drawn 65536 none, 1, mw rfl, by decide, by decide, by decide, by decide⟩,
  ⟨drawn 65536 none, 1, mw rfl, by decide, by decide, by decide, by decide⟩⟩

theorem witness_Packets :
  (∃ (s : State) (p : Packet), (s.isUp = false ∨ p.dest = s.chip)) ∧
  (∃ (s : State) (p : Packet), s.isUp = true ∧ p.dest ≠ s.chip ∧ s.inFabric p.dest = false ∧ p.ptype ≠ ptRequest ∧ p.ptype ≠
    ptRun) ∧
  (∃ (s : State) (p : Packet), s.isUp = true ∧ p.dest ≠ s.chip ∧ s.inFabric p.dest = false) ∧
  (∃ (s : State) (p : Packet), s.isUp = true ∧ p.dest ≠ s.chip ∧ s.inFabric p.dest = true ∧ s.nextHop (s.ownPacket p) = none) ∧
  (∃ (s : State) (p : Packet) (port cls : _), s.isUp = true ∧ p.dest ≠ s.chip ∧ s.inFabric p.dest = true ∧ s.nextHop
    (s.ownPacket p) = some (port, cls) ∧ s.maySend (s.ownPacket p) port cls = false) ∧
  (∃ (s : State) (p : Packet) (port cls : _), s.isUp = true ∧ p.dest ≠ s.chip ∧ s.inFabric p.dest = true ∧ s.nextHop
    (s.ownPacket p) = some (port, cls) ∧ s.maySend (s.ownPacket p) port cls = true) ∧
  (∃ (s : State) (port : Nat) (p : Packet), (s.linksUp = false ∨ 16 ≤ port ∨ p.dest = s.chip ∨ p.hops = 0 ∨ (∀ h, (route
    p.source p.dest (bit p.flags 0) (p.ptype == ptRequest))[p.hops - 1]? = some h → h.dst ≠ s.chip))) ∧
  (∃ (s : State) (port out cls : Nat) (p : Packet) (h : Hop),
    let u := s.packetWhole port (arrivalCls p) p
    s.linksUp = true ∧ port < 16 ∧ p.dest ≠ s.chip ∧ p.hops ≠ 0 ∧ (route p.source p.dest (bit p.flags 0) (p.ptype ==
      ptRequest))[p.hops - 1]? = some h ∧ h.dst = s.chip ∧ u.nextHop p = some (out, cls) ∧ (u.hasCredit out cls (flitsOf p) =
      false ∨ u.hopBarred out cls = true)) ∧
  (∃ (s : State) (port out cls : Nat) (p : Packet) (h : Hop),
    let u := s.packetWhole port (arrivalCls p) p
    s.linksUp = true ∧ port < 16 ∧ p.dest ≠ s.chip ∧ p.hops ≠ 0 ∧ (route p.source p.dest (bit p.flags 0) (p.ptype ==
      ptRequest))[p.hops - 1]? = some h ∧ h.dst = s.chip ∧ u.nextHop p = some (out, cls) ∧ u.hasCredit out cls (flitsOf p) =
      true ∧ u.hopBarred out cls = false) ∧
  (∃ (s : State) (p : Packet), (s.linksUp = false ∨ p.dest ≠ s.chip)) ∧
  (∃ (s : State) (crc : Nat) (p : Packet), s.linksUp = true ∧ p.dest = s.chip ∧ crc ≠ packetCrc p) ∧
  (∃ (s : State) (crc : Nat) (p : Packet), s.linksUp = true ∧ p.dest = s.chip ∧ crc = packetCrc p ∧ p.ptype ≤ 4) ∧
  (∃ (s : State) (crc : Nat) (p : Packet), s.linksUp = true ∧ p.dest = s.chip ∧ crc = packetCrc p ∧ p.ptype = ptManage ∧
    p.payload.length = 20) ∧
  (∃ (s : State) (crc : Nat) (p : Packet), s.linksUp = true ∧ p.dest = s.chip ∧ crc = packetCrc p ∧ 4 < p.ptype ∧ (p.ptype ≠
    ptManage ∨ p.payload.length ≠ 20)) ∧
  (∃ (s : State) (p : Packet), s.linksUp = true ∧ p.dest = s.chip) ∧
  (∃ (s : State) (p : Packet), (s.fenced p.source = true ∨ p.epoch < s.reg Obj.membershipEpoch)) ∧
  (∃ (s : State) (p : Packet), s.fenced p.source = false ∧ s.reg Obj.membershipEpoch < p.epoch) ∧
  (∃ (s : State) (p : Packet), s.fenced p.source = false ∧ p.epoch = s.reg Obj.membershipEpoch) ∧
  (∃ (s : State) (p : Packet), p.ptype = ptRun ∧ s.drawingGood p.drawingId = false) ∧
  (∃ (s : State) (p : Packet),
    let v := s.rxStream p.source p.channel
    let again := bit p.flags flagRestart = true ∧ ¬ (bit p.flags 1 = true ∧ v.last = p.sequence)
    let last := if again then p.sequence - 1 else v.last
    (p.ptype ≠ ptRun ∨ s.drawingGood p.drawingId = true) ∧ p.sequence ≤ last) ∧
  (∃ (s : State) (p : Packet),
    let v := s.rxStream p.source p.channel
    let again := bit p.flags flagRestart = true ∧ ¬ (bit p.flags 1 = true ∧ v.last = p.sequence)
    let last := if again then p.sequence - 1 else v.last
    (p.ptype ≠ ptRun ∨ s.drawingGood p.drawingId = true) ∧ last + 1 < p.sequence) ∧
  (∃ (s : State) (p : Packet),
    let v := s.rxStream p.source p.channel
    let again := bit p.flags flagRestart = true ∧ ¬ (bit p.flags 1 = true ∧ v.last = p.sequence)
    let last := if again then p.sequence - 1 else v.last
    (p.ptype ≠ ptRun ∨ s.drawingGood p.drawingId = true) ∧ p.sequence = last + 1 ∧ s.busyFor p = true) ∧
  (∃ (s : State) (p : Packet),
    let v := s.rxStream p.source p.channel
    let again := bit p.flags flagRestart = true ∧ ¬ (bit p.flags 1 = true ∧ v.last = p.sequence)
    let last := if again then p.sequence - 1 else v.last
    (p.ptype ≠ ptRun ∨ s.drawingGood p.drawingId = true) ∧ p.sequence = last + 1 ∧ s.busyFor p = false) ∧
  (∃ (s : State) (chip ch : Nat), s.answersLeave chip = true ∧ (s.rxStream chip ch).run = none) ∧
  (∃ (s : State) (p : Packet), p.address % 1024 = 0 ∧ (∀ q ∈ (s.txStream p.source p.channel).unacked, p.ackSequence <
    q.2.sequence)) ∧
  (∃ (s : State) (p : Packet) (port : Nat) (q : Packet) (rest : List (Nat × Packet)), p.address % 1024 = 0 ∧ (s.txStream
    p.source p.channel).unacked = (port, q) :: rest ∧ q.sequence ≤ p.ackSequence ∧ (∀ r ∈ rest, p.ackSequence < r.2.sequence)
    ∧ (s.colls.insts.all fun i => !i.packets.contains (q.dest, q.sequence)) = true) ∧
  (∃ p : Packet, bit p.flags 2 = false) ∧
  (∃ p : Packet, bit p.flags 2 = true) :=
  ⟨⟨own, pk 0 0 0 0 1, .inr (by decide)⟩,
  ⟨own, pk 1 0 64 0 1, by decide, by decide, by decide, by decide, by decide⟩,
  ⟨own, pk 0 0 64 0 1, by decide, by decide, by decide⟩,
  ⟨own, pk 4 0 63 0 1, by decide, by decide, by decide, by decide⟩,
  ⟨full own, pk 0 0 3 0 1, 0, 4, by decide, by decide, by decide, by decide, by decide⟩,
  ⟨own, pk 0 0 63 0 1, 0, 4, by decide, by decide, by decide, by decide, by decide⟩,
  ⟨own, 15, pk 0 63 1 0 1, .inr (.inr (.inr (.inl rfl)))⟩,
  ⟨full own, 0, 1, 4, pk 0 63 6 1 1, ⟨0, 4, 0⟩, by decide, by decide, by decide, by decide, by decide +kernel, by decide,
    by decide +kernel, .inl (by decide +kernel)⟩,
  ⟨own, 0, 1, 4, pk 0 63 6 1 1, ⟨0, 4, 0⟩, by decide, by decide, by decide, by decide, by decide +kernel, by decide,
    by decide +kernel, by decide +kernel, by decide +kernel⟩,
  ⟨own, pk 0 63 1 0 1, .inr (by decide)⟩,
  ⟨own, packetCrc (pk 0 63 0 1 1) + 1, pk 0 63 0 1 1, by decide, by decide, by omega⟩,
  ⟨own, packetCrc (pk 4 63 0 1 1), pk 4 63 0 1 1, by decide, by decide, rfl, by decide⟩,
  ⟨own, packetCrc { pk ptManage 63 0 1 1 with payload := List.replicate 20 0 },
    { pk ptManage 63 0 1 1 with payload := List.replicate 20 0 }, by decide, by decide, rfl, by decide, by decide⟩,
  ⟨own, packetCrc (pk ptManage 63 0 1 1), pk ptManage 63 0 1 1, by decide, by decide, rfl, by decide, .inr (by decide)⟩,
  ⟨own, pk 0 63 0 1 1, by decide, by decide⟩,
  ⟨rg own [(Obj.membershipEpoch, 1)], pk 4 63 0 1 1, .inr (by decide)⟩,
  ⟨own, { pk 4 63 0 1 1 with epoch := 1 }, by decide, by decide⟩,
  ⟨own, pk 4 63 0 1 1, by decide, by decide⟩,
  ⟨own, { pk ptRun 63 0 0 1 with drawingId := 1 }, by decide, by decide⟩,
  ⟨own, pk 0 63 0 1 0, .inl (by decide), by decide⟩,
  ⟨own, pk 0 63 0 1 2, .inl (by decide), by decide⟩,
  ⟨rg own [(Obj.deviceState, devBoot), (Obj.lastResetKind, 2)], pk ptRequest 63 0 1 1, .inl (by decide), by decide, by decide⟩,
  ⟨own, pk 0 63 0 1 1, .inl (by decide), by decide, by decide⟩,
  ⟨own, 63, 0, by decide, by decide⟩,
  ⟨own, pk 0 63 0 1 1, by decide, by decide⟩,
  ⟨txd {} (pk 0 0 1 0 1), { pk 0 1 0 0 0 with ackSequence := 1 }, 0, pk 0 0 1 0 1, [], by decide, rfl, by decide, by simp,
    by decide⟩,
  ⟨pk 0 63 0 1 1, by decide⟩,
  ⟨{ pk 0 63 0 1 1 with flags := 4 }, by decide⟩⟩

theorem witness_Streams :
  (∃ (s : State) (d c : Nat), ((s.txStream d c).unacked = [] ∨ s.linksUp = false)) ∧
  (∃ (s : State) (d c : Nat), (s.txStream d c).unacked ≠ [] ∧ s.linksUp = true ∧ (s.txStream d c).busy = true) ∧
  (∃ (s : State) (d c : Nat), (s.txStream d c).unacked ≠ [] ∧ s.linksUp = true ∧ (s.txStream d c).busy = false ∧ (s.txStream d
    c).onPiste = true) ∧
  (∃ (s : State) (d c : Nat), (s.txStream d c).unacked ≠ [] ∧ s.linksUp = true ∧ (s.txStream d c).busy = false ∧ (s.txStream d
    c).onPiste = false ∧ s.onPathB d (s.txStream d c) = true) ∧
  (∃ (s : State) (d c : Nat), (s.txStream d c).unacked ≠ [] ∧ s.linksUp = true ∧ (s.txStream d c).busy = false ∧ (s.txStream d
    c).onPiste = false ∧ s.onPathB d (s.txStream d c) = false) ∧
  (∃ (s : State) (p : Packet) (onB : Bool) (port cls : Nat),
    let q : Packet := { p with flags := p.flags / 4 * 4 + 2 + b2n onB, hops := 0 }
    s.nextHop q = some (port, cls) ∧ s.hopBarred port cls = true) ∧
  (∃ (s : State) (p : Packet) (onB : Bool) (port cls : Nat),
    let q : Packet := { p with flags := p.flags / 4 * 4 + 2 + b2n onB, hops := 0 }
    s.nextHop q = some (port, cls) ∧ s.hopBarred port cls = false) ∧
  (∃ (s : State) (d c : Nat), (∀ q ∈ (s.txStream d c).unacked, q.1 < 16 ∧ q.2.ptype = ptReply)) :=
  ⟨⟨own, 1, 0, by decide⟩,
  ⟨txd { busy := true } (pk 0 0 1 0 1), 1, 0, by decide, by decide, by decide⟩,
  ⟨txd {} (pk ptRun 0 1 0 1), 1, 0, by decide, by decide, by decide, by decide⟩,
  ⟨txd { pathB := true } (pk 0 0 1 0 1), 1, 0, by decide, by decide, by decide, by decide, by decide⟩,
  ⟨txd {} (pk 0 0 1 0 1), 1, 0, by decide, by decide, by decide, by decide, by decide⟩,
  ⟨barred own, pk 0 0 63 0 1, false, 0, 4, by decide, by decide⟩,
  ⟨own, pk 0 0 63 0 1, false, 0, 4, by decide, by decide⟩,
  ⟨txd {} (pk ptReply 0 1 0 1), 1, 0, by decide⟩⟩

theorem witness_Credits :
  (∃ (s : State) (port : Nat), s.linksUp = true ∧ port < 16) ∧
  (∃ (s : State) (port : Nat), (s.linksUp = false ∨ 16 ≤ port)) ∧
  (∃ (s : State) (port : Nat), s.linksUp = true ∧ port < 12) ∧
  (∃ (s : State) (port : Nat), (s.linksUp = false ∨ 12 ≤ port)) ∧
  (∃ (s : State) (src ch : Nat), s.linksUp = true ∧ (s.rxStream src ch).sinceAck ≠ 0 ∧ s.answersLeave src = true) ∧
  (∃ (s : State) (src ch : Nat), (s.linksUp = false ∨ (s.rxStream src ch).sinceAck = 0)) :=
  ⟨⟨own, 0, by decide, by decide⟩,
  ⟨off, 0, .inl (by decide)⟩,
  ⟨own, 11, by decide, by decide⟩,
  ⟨own, 12, .inr (by decide)⟩,
  ⟨rxd { last := 1, sinceAck := 1 }, 63, 0, by decide, by decide, by decide⟩,
  ⟨own, 63, 0, .inr (by decide)⟩⟩

theorem witness_Runs :
  (∃ (s : State) (n plan inst ch peer : Nat), (s.openInst n plan inst = none ∨ (∃ i, s.openInst n plan inst = some i ∧ i.nextRun
    ch peer = none))) ∧
  (∃ (s : State) (n plan inst ch peer : Nat) (i : Inst) (q : RunKey × Val × Nat),
    let key := collKey peer n plan
    let sent := Sparse.get 0 key s.colls.sentRuns
    let room := (Sparse.get 0 key s.colls.announced + 2 ^ 32 - sent) % 2 ^ 32
    let p := s.ownPacket (s.runPacket i q)
    s.openInst n plan inst = some i ∧ i.nextRun ch peer = some q ∧ (s.agentsRun n = false ∨ room = 0 ∨ 2 ^ 31 ≤ room ∨
      s.nextHop p = none ∨ (∃ port cls, s.nextHop p = some (port, cls) ∧ s.maySend p port cls = false))) ∧
  (∃ (s : State) (n plan inst ch peer : Nat) (i : Inst) (q : RunKey × Val × Nat) (port cls : _),
    let key := collKey peer n plan
    let sent := Sparse.get 0 key s.colls.sentRuns
    let room := (Sparse.get 0 key s.colls.announced + 2 ^ 32 - sent) % 2 ^ 32
    let p := s.ownPacket (s.runPacket i q)
    s.openInst n plan inst = some i ∧ i.nextRun ch peer = some q ∧ s.agentsRun n = true ∧ room ≠ 0 ∧ room < 2 ^ 31 ∧ s.nextHop
      p = some (port, cls) ∧ s.maySend p port cls = true) ∧
  (∃ (i : Inst) (q : RunKey × Val × Nat), i.xOf q.1.chunk < 256 ∧ q.2.1.2 < 256) ∧
  (∃ (s : State) (r : Run), (s.isUp = false ∨ r.epoch ≠ s.reg Obj.membershipEpoch ∨ s.fenced r.peer = true)) ∧
  (∃ (s : State) (r : Run), s.isUp = true ∧ r.epoch = s.reg Obj.membershipEpoch ∧ s.fenced r.peer = false ∧ s.drawingGood
    r.drawingId = false) ∧
  (∃ (s : State) (r : Run), s.isUp = true ∧ r.epoch = s.reg Obj.membershipEpoch ∧ s.fenced r.peer = false ∧ s.drawingGood
    r.drawingId = true ∧ (s.stepPast r = true ∨ s.abortedFor r = true ∨ s.closedFor r = true ∨ s.colls.waiting.any (sameTag r)
    = true)) ∧
  (∃ (s : State) (r : Run), s.isUp = true ∧ r.epoch = s.reg Obj.membershipEpoch ∧ s.fenced r.peer = false ∧ s.drawingGood
    r.drawingId = true ∧ s.stepPast r = false ∧ s.abortedFor r = false ∧ s.closedFor r = false ∧ s.colls.waiting.any (sameTag
    r) = false ∧ ((∀ i ∈ s.colls.insts, i.owns r = false) ∨ s.held r.tenant = true)) ∧
  (∃ (s : State) (r : Run) (i : _), s.isUp = true ∧ r.epoch = s.reg Obj.membershipEpoch ∧ s.fenced r.peer = false ∧
    s.drawingGood r.drawingId = true ∧ s.stepPast r = false ∧ s.abortedFor r = false ∧ s.closedFor r = false ∧
    s.colls.waiting.any (sameTag r) = false ∧ s.held r.tenant = false ∧ s.colls.insts.find? (fun i => i.owns r) = some i) ∧
  (∃ (i : Inst) (r : Run),
    let x := if i.isControl r.key.chunk then r.x else i.xOf r.key.chunk
    (i.fromPeer r = false ∨ r.x < x)) ∧
  (∃ (i : Inst) (r : Run),
    let x := if i.isControl r.key.chunk then r.x else i.xOf r.key.chunk
    i.fromPeer r = true ∧ x ≤ r.x ∧ (i.got.any fun g => g.key == r.key) = true) ∧
  (∃ (i : Inst) (r : Run),
    let x := if i.isControl r.key.chunk then r.x else i.xOf r.key.chunk
    i.fromPeer r = true ∧ x < r.x ∧ (i.got.any fun g => g.key == r.key) = false) ∧
  (∃ (s : State) (i : Inst) (r : Run),
    let x := if i.isControl r.key.chunk then r.x else i.xOf r.key.chunk
    i.fromPeer r = true ∧ x = r.x ∧ (i.got.any fun g => g.key == r.key) = false ∧ i.stalled = false ∧ (i.form ≠ .receive ∨
      i.contribs = [] ∨ r.shape = s.rowShape i)) ∧
  (∃ (s : State) (i : Inst), s.inst? i = some i ∧ (∀ j ∈ s.colls.insts, j.same i = true → j = i) ∧ InstSettled s i) ∧
  (∃ (s : State) (n plan k : Nat), s.isUp = true ∧ 0 < k ∧ s.buffersUsed n plan + k ≤ Sparse.get 0 (n * 1024 + plan)
    s.colls.areas) ∧
  (∃ (s : State) (n plan k : Nat), (s.isUp = false ∨ k = 0 ∨ Sparse.get 0 (n * 1024 + plan) s.colls.areas < s.buffersUsed n plan
    + k)) :=
  ⟨⟨own, 0, 1, 0, 0, 1, .inl (by decide)⟩,
  ⟨pisted 0, 0, 1, 0, 0, 1, big, run0, by decide +kernel, by decide +kernel, .inr (.inl (by decide))⟩,
  ⟨pisted 1, 0, 1, 0, 0, 1, big, run0, 0, clsC, by decide +kernel, by decide +kernel, by decide, by decide, by decide,
    by decide +kernel, by decide +kernel⟩,
  ⟨big, run0, by decide +kernel, by decide +kernel⟩,
  ⟨ran, run1 1 0 1, .inr (.inl (by decide))⟩,
  ⟨ran, run1 0 1 1, by decide, by decide, by decide, by decide⟩,
  ⟨ran, run1 0 0 33, by decide, by decide, by decide, by decide, .inl (by decide)⟩,
  ⟨ran, run1 0 0 1, by decide, by decide, by decide, by decide, by decide, by decide, by decide, by decide, .inl (by simp [ran,
    rg, own, boot, State.reset, State.setReg])⟩,
  ⟨opened (inst [0]), run1 0 0 1, inst [0], by decide, by decide, by decide, by decide, by decide, by decide, by decide,
    by decide, by decide, by decide⟩,
  ⟨inst [0], { run1 0 0 1 with peer := 3 }, .inl (by decide)⟩,
  ⟨{ inst [0] with exch := 1, got := [{ run1 0 0 1 with x := 127 }] }, { run1 0 0 1 with x := 127 }, by decide, by decide,
    by decide⟩,
  ⟨{ inst [0] with exch := 1 }, { run1 0 0 1 with x := 128 }, by decide, by decide, by decide⟩,
  ⟨own, { inst [0] with exch := 1 }, { run1 0 0 1 with x := 127 }, by decide, by decide, by decide, by decide, .inl (by decide)⟩,
  ⟨opened (inst [0, 1]), inst [0, 1], by decide +kernel, by decide +kernel, ⟨rfl, by decide +kernel, .inl (by decide +kernel)⟩⟩,
  ⟨{ own with colls := { own.colls with areas := [(1, 8)] } }, 0, 1, 8, by decide, by decide, by decide⟩,
  ⟨own, 0, 1, 0, .inr (.inl rfl)⟩⟩

theorem witness_Instances :
  (∃ (s : State) (n plan inst : Nat), s.openInst n plan inst = none) ∧
  (∃ (s : State) (n plan inst ch x : Nat) (i : Inst), s.openInst n plan inst = some i ∧ (i.native = true ∨ x ≤ i.xOf ch)) ∧
  (∃ (s : State) (n plan inst ch x : Nat) (i : Inst), s.openInst n plan inst = some i ∧ i.native = false ∧ i.xOf ch < x) ∧
  (∃ (i : Inst) (ch x : Nat),
    let j : Inst :=
      { i with xs := Sparse.insert ch x i.xs, tries := Sparse.set 0 ch 1 i.tries, levels := i.levels.filter fun l => l.2 != ch, got := i.got.filter (fun r => r.key.chunk != ch), sent := i.sent.filter (fun k => k.chunk != ch) }
    Sparse.get 0 ch i.tries = 0 ∧ x ≤ 0xFE ∧ j.ready ch = false) ∧
  (∃ (i : Inst) (ch x : Nat), (Sparse.get 0 ch i.tries ≠ 0 ∨ 0xFE < x)) ∧
  (∃ (i : Inst) (p : Contrib), i.contribs = [p]) ∧
  (∃ (s : State) (n plan inst level ch : Nat) (i : Inst), s.openInst n plan inst = some i ∧ (i.levelDue level ch = false ∨
    s.isUp = false)) ∧
  (∃ (s : State) (n plan inst level ch : Nat) (i : Inst), s.openInst n plan inst = some i ∧ i.levelDue level ch = true ∧ s.isUp
    = true) ∧
  (∃ i : Inst, (∀ c ∈ i.cores, c < 512)) ∧
  (∃ (s : State) (n plan inst : Nat) (i : Inst), s.openInst n plan inst = some i) ∧
  (∃ (s : State) (n plan inst : Nat) (i : Inst), s.openInst n plan inst = some i ∧ s.inst? i = some i ∧ i.feeds = [] ∧ i.written
    = true ∧ i.allSent = true ∧ (∀ p ∈ i.packets, ∀ q ∈ (s.txStream p.1 (i.plan % 64)).unacked, q.2.sequence ≠ p.2)) ∧
  (∃ (s : State) (n plan inst : Nat) (i : Inst), s.openInst n plan inst = some i ∧ s.inst? i = some i ∧ i.feeds = [] ∧
    ((i.written = true ∧ (i.allSent = false ∨ ∃ p ∈ i.packets, ∃ q ∈ (s.txStream p.1 (i.plan % 64)).unacked, q.2.sequence =
    p.2)) ∨ (i.written = false ∧ (i.whole = false ∨ s.resultHeld i = true)))) ∧
  (∃ s : State, s.eth.qps = [] ∧ s.eth.windows = []) ∧
  (∃ (s : State) (n plan inst : Nat) (i : Inst), s.openInst n plan inst = some i ∧ i.stalled = true) ∧
  (∃ (s : State) (n plan inst : Nat) (i : Inst), s.openInst n plan inst = some i ∧ i.stalled = false) ∧
  (∃ (s : State) (n b off : Nat) (d : List Byte), s.isUp = true ∧ (∃ m ∈ (s.tenant n).mirrors, m.role = 4 ∧ m.state = 3 ∧
    m.localBase = b) ∧ d ≠ [] ∧ s.rangeHeld n (b + off) (b + off + d.length - 1) .plain = true) ∧
  (∃ (s : State) (n b off : Nat) (d : List Byte), s.isUp = true ∧ (∃ m ∈ (s.tenant n).mirrors, m.role = 4 ∧ m.state = 3 ∧
    m.localBase = b) ∧ (d = [] ∨ s.rangeHeld n (b + off) (b + off + d.length - 1) .plain = false) ∧ (s.pokeRun n (b + off)
    .plain d).2 = false) ∧
  (∃ (s : State) (n b off : Nat) (d : List Byte), s.isUp = true ∧ (∃ m ∈ (s.tenant n).mirrors, m.role = 4 ∧ m.state = 3 ∧
    m.localBase = b) ∧ (d = [] ∨ s.rangeHeld n (b + off) (b + off + d.length - 1) .plain = false) ∧ (s.pokeRun n (b + off)
    .plain d).2 = true) ∧
  (∃ (s : State) (n b : Nat), s.isUp = true ∧ (∃ m ∈ (s.tenant n).mirrors, m.role = 4 ∧ m.state = 3 ∧ m.localBase = b)) ∧
  (∃ (s : State) (n b : Nat), (s.isUp = false ∨ (∀ m ∈ (s.tenant n).mirrors, m.role ≠ 4 ∨ m.state ≠ 3 ∨ m.localBase ≠ b))) :=
  ⟨⟨own, 0, 1, 0, by decide⟩,
  ⟨opened { inst [0] with exch := 1 }, 0, 1, 0, 0, 127, { inst [0] with exch := 1 }, rfl, by decide⟩,
  ⟨opened { inst [0] with exch := 1 }, 0, 1, 0, 0, 128, { inst [0] with exch := 1 }, rfl, by decide, by decide⟩,
  ⟨inst [0, 1], 0, 128, by decide, by decide, by decide +kernel⟩,
  ⟨inst [0], 0, 255, .inr (by decide)⟩,
  ⟨inst [0], ⟨0, 0, 1, 2, false, false, none, [.zero, .zero], []⟩, rfl⟩,
  ⟨opened (inst [0]), 0, 1, 0, 3, 0, inst [0], rfl, by decide⟩,
  ⟨opened (inst [0, 1]), 0, 1, 0, 0, 0, inst [0, 1], rfl, by decide +kernel, by decide⟩,
  ⟨inst [0, 511], by decide⟩,
  ⟨opened (inst [0]), 0, 1, 0, inst [0], rfl⟩,
  ⟨opened { inst [0] with ra := {}, ga := {}, written := true }, 0, 1, 0, { inst [0] with ra := {}, ga := {}, written := true },
    rfl, by decide +kernel, by decide, by decide, by decide +kernel, by simp [inst]⟩,
  ⟨opened (inst [0]), 0, 1, 0, inst [0], rfl, by decide +kernel, by decide, .inr ⟨by decide, .inl (by decide +kernel)⟩⟩,
  ⟨own, by decide, by decide⟩,
  ⟨opened { inst [0] with stalled := true }, 0, 1, 0, { inst [0] with stalled := true }, rfl, by decide⟩,
  ⟨opened (inst [0]), 0, 1, 0, inst [0], rfl, by decide⟩,
  ⟨{ fed with cores := [(0, { issued := [{ flying with locks := [(0, 64, 72)] }] })] }, 0, 64, 0, [7], by decide, by decide,
    by decide, by decide⟩,
  ⟨fed, 0, 64, 0, [7], by decide, by decide, .inr (by decide), by decide⟩,
  ⟨{ fed with poison := [(lineKey 1 1, 1)] }, 0, 64, 0, [7], by decide, by decide, .inr (by decide), by decide⟩,
  ⟨fed, 0, 64, by decide, by decide⟩,
  ⟨ran, 0, 64, by decide⟩⟩

theorem witness_Holds :
  (∃ (s : State) (sess n : Nat), n < 16 ∧ MayWrite s sess (0x6700 + n) 4 ∧ s.reg (Obj.collectiveHold n) = 1) ∧
  (∃ (s : State) (sess n : Nat), n < 16 ∧ MayWrite s sess (0x6700 + n) 4 ∧ s.reg (Obj.collectiveHold n) ≠ 1) ∧
  (∃ (s : State) (sess n : Nat), n < 16 ∧ MayWrite s sess (0x6700 + n) 4 ∧ s.reg (Obj.collectiveHold n) = 0) ∧
  (∃ (s : State) (sess n : Nat), n < 16 ∧ MayWrite s sess (0x6700 + n) 4 ∧ s.reg (Obj.collectiveHold n) ≠ 0) ∧
  (∃ (s : State) (n : Nat), (s.colls.insts.all fun i => i.n != n) = true) ∧
  (∃ (s : State) (n : Nat), (s.held n = false ∨ s.linksUp = false)) ∧
  (∃ (s : State) (n : Nat), s.held n = true ∧ s.linksUp = true) ∧
  (∃ (s : State) (chip epoch : Nat), s.linksUp = true ∧ s.reg Obj.membershipEpoch ≤ epoch ∧ chip ∉ s.colls.suspended) ∧
  (∃ (s : State) (chip epoch : Nat), (s.linksUp = false ∨ epoch < s.reg Obj.membershipEpoch ∨ chip ∈ s.colls.suspended)) ∧
  (∃ (s : State) (n : Nat), s.held n = false) ∧
  (∃ (s : State) (n : Nat), s.held n = true) :=
  ⟨⟨rg own [(Obj.collectiveHold 15, 1)], 1, 15, by decide, mw rfl, by decide⟩,
  ⟨own, 1, 15, by decide, mw rfl, by decide⟩,
  ⟨own, 1, 15, by decide, mw rfl, by decide⟩,
  ⟨rg own [(Obj.collectiveHold 15, 1)], 1, 15, by decide, mw rfl, by decide⟩,
  ⟨own, 15, by decide⟩,
  ⟨own, 15, by decide⟩,
  ⟨rg own [(Obj.collectiveHold 15, 1)], 15, by decide, by decide⟩,
  ⟨own, 1, 0, by decide, by decide, by decide⟩,
  ⟨{ own with colls := { own.colls with suspended := [1] } }, 1, 0, by decide⟩,
  ⟨own, 15, by decide⟩,
  ⟨rg own [(Obj.collectiveHold 15, 1)], 15, by decide⟩⟩

theorem witness_SketchEngines :
  (∃ (s : State) (e : Nat), (4 ≤ e ∨ s.reg (Obj.engineState e) ≠ 0 ∨ Sparse.get [] e s.sketch.queues = [])) ∧
  (∃ (s : State) (e : Nat) (b : SkBlock) (bs : List SkBlock), e < 4 ∧ s.reg (Obj.engineState e) = 0 ∧ Sparse.get [] e
    s.sketch.queues = b :: bs) ∧
  (∃ (s : State) (e : Nat), (4 ≤ e ∨ s.reg (Obj.engineState e) ≠ 1)) ∧
  (∃ (s : State) (e : Nat) (sgs : List Nat), e < 4 ∧ s.reg (Obj.engineState e) = 1 ∧ sgs.length = 6 ∧ s.reg
    Obj.sketchIntegration < 6) :=
  ⟨⟨own, 4, by decide⟩,
  ⟨{ own with sketch := { own.sketch with queues := [(3, [sk])] } }, 3, sk, [], by decide, by decide, by decide⟩,
  ⟨own, 4, .inl (by decide)⟩,
  ⟨rg own [(Obj.engineState 3, 1)], 3, [0, 0, 0, 0, 0, 0], by decide, by decide, by decide, by decide⟩⟩

theorem witness_Votes :
  (∃ (s : State) (sess n step : Nat), MayWrite s sess (0x7010 + n) 6 ∧ (s.tenant n).state = 1 ∧ s.oldestStep n ≤ step ∧ (step,
    s.attemptOf n step) ∉ (s.tenant n).closes) ∧
  (∃ (s : State) (sess n step : Nat), MayWrite s sess (0x7010 + n) 6 ∧ ((s.tenant n).state ≠ 1 ∨ step < s.oldestStep n ∨ (step,
    s.attemptOf n step) ∈ (s.tenant n).closes)) ∧
  (∃ (s : State) (n : Nat), s.mayVote n (s.oldestStep n) = false) ∧
  (∃ (s : State) (n : Nat), s.mayVote n (s.oldestStep n) = true ∧ (∀ p, (s.tenant n).step? (s.oldestStep n) = some p →
    s.selected n p = 0)) ∧
  (∃ (s : State) (n : Nat) (p : StepSt), s.mayVote n (s.oldestStep n) = true ∧ (s.tenant n).step? (s.oldestStep n) = some p ∧
    s.selected n p ≠ 0) ∧
  (∃ (s : State) (m : LedgerMsg) (n : Nat), s.tenantOfJob m.jobId = some n ∧ msgIdent m ∈ (s.tenant n).seenMsgs) ∧
  (∃ (s : State) (m : LedgerMsg), s.tenantOfJob m.jobId = none) ∧
  (∃ (s : State) (m : LedgerMsg) (n : Nat), s.tenantOfJob m.jobId = some n ∧ msgIdent m ∉ (s.tenant n).seenMsgs) ∧
  (∃ (s : State) (n : Nat), (s.combined n = none ∨ (s.tenant n).sentVote = true)) ∧
  (∃ (s : State) (n : Nat) (own v : LedgerMsg), (s.tenant n).ownVote = some own ∧ s.combined n = some v) ∧
  (∃ (s : State) (n i : Nat) (v : LedgerMsg), s.combined n = some v ∧ (s.tenant n).sentVote = false ∧ s.isRoot n = false ∧
    parentOf (s.indexIn n) = some i) ∧
  (∃ (s : State) (n : Nat) (v : LedgerMsg), s.combined n = some v ∧ (s.tenant n).sentVote = false ∧ s.isRoot n = true ∧ v.voters
    = (s.liveOf n).length ∧ s.decided n v.step v.attempt = false) ∧
  (∃ (s : State) (n : Nat) (v : LedgerMsg), s.combined n = some v ∧ (s.tenant n).sentVote = false ∧ s.isRoot n = true ∧
    (v.voters ≠ (s.liveOf n).length ∨ s.decided n v.step v.attempt = true)) :=
  ⟨⟨ran, 1, 0, 1, mw rfl, by decide, by decide, by decide⟩,
  ⟨own, 1, 15, 1, mw rfl, .inl (by decide)⟩,
  ⟨ran, 0, by decide⟩,
  ⟨closed, 0, by decide, by intro p h; rw [← Option.some.inj h]; decide⟩,
  ⟨{ closed with tenants := closed.tenants.map fun p => (p.1, { p.2 with steps := [{ step1 with loss := some 0x7F800000 }] }) },
    0, { step1 with loss := some 0x7F800000 }, by decide, rfl, by decide +kernel⟩,
  ⟨voted, msg false 77, 0, by decide, by decide⟩,
  ⟨own, msg false 77, by decide⟩,
  ⟨closed, msg false 77, 0, by decide, by decide⟩,
  ⟨own, 0, .inl (by decide)⟩,
  ⟨voted, 0, msg false 77, msg false 77, by decide, by decide⟩,
  ⟨child voted, 0, 0, msg false 77, by decide, by decide, by decide, by decide⟩,
  ⟨voted, 0, msg false 77, by decide, by decide, by decide, by decide, by decide⟩,
  ⟨{ voted with tenants := voted.tenants.map fun p => (p.1, { p.2 with decisions := [⟨1, 0, true, 0, none⟩] }) }, 0, msg false
    77, by decide, by decide, by decide, .inr (by decide)⟩⟩

theorem witness_Decisions :
  (∃ (s : State) (n : Nat) (v : LedgerMsg), v.veto = false ∧ v.mismatch = false ∧ (s.membersOf n).length < 2 * (s.liveOf
    n).length) ∧
  (∃ (s : State) (n : Nat) (v : LedgerMsg), (v.veto = true ∨ v.mismatch = true ∨ 2 * (s.liveOf n).length ≤ (s.membersOf
    n).length)) ∧
  (∃ (s : State) (n : Nat) (m : LedgerMsg), (s.oldestStep n < m.step ∨ (m.step = s.oldestStep n ∧ m.attempt ≠ s.attemptOf n
    m.step))) ∧
  (∃ (s : State) (n : Nat) (m : LedgerMsg), (m.step < s.oldestStep n ∨ (m.step = s.oldestStep n ∧ m.attempt = s.attemptOf n
    m.step ∧ s.decided n m.step m.attempt = true))) ∧
  (∃ (s : State) (n : Nat) (m : LedgerMsg), m.step = s.oldestStep n ∧ m.attempt = s.attemptOf n m.step ∧ s.decided n m.step
    m.attempt = false) ∧
  (∃ (s : State) (n : Nat) (m : LedgerMsg), (m.step < s.oldestStep n ∨ s.attemptOf n m.step < m.attempt)) ∧
  (∃ (s : State) (n : Nat) (m : LedgerMsg), s.oldestStep n ≤ m.step ∧ (m.attempt < s.attemptOf n m.step ∨ (m.attempt =
    s.attemptOf n m.step ∧ s.decided n m.step m.attempt = true))) ∧
  (∃ (s : State) (n : Nat) (m : LedgerMsg), s.oldestStep n ≤ m.step ∧ m.attempt = s.attemptOf n m.step ∧ s.decided n m.step
    m.attempt = false) ∧
  (∃ (s : State) (m : LedgerMsg) (n : Nat), s.tenantOfJob m.jobId = some n) ∧
  (∃ (s : State) (sess n : Nat), MayWrite s sess (0x7010 + n) 7 ∧ (s.tenant n).state ≠ 1) ∧
  (∃ (s : State) (sess n : Nat), MayWrite s sess (0x7010 + n) 7 ∧ (s.tenant n).state = 1 ∧ s.isRoot n = true) ∧
  (∃ (s : State) (sess n : Nat), MayWrite s sess (0x7010 + n) 7 ∧ (s.tenant n).state = 1 ∧ s.isRoot n = false) ∧
  (∃ (s : State) (n step : Nat), s.oldestStep n ≤ step ∧ step ≤ s.oldestStep n + 1 ∧ s.decided n step (s.attemptOf n step) =
    false) ∧
  (∃ (s : State) (n step : Nat), (step < s.oldestStep n ∨ s.oldestStep n + 1 < step ∨ s.decided n step (s.attemptOf n step) =
    true)) ∧
  (∃ (s : State) (n : Nat),
    let k := s.oldestStep n
    ((s.tenant n).state ≠ 1 ∨ s.isRoot n = false ∨ s.voteSeen n k = false ∨ s.decided n k (s.attemptOf n k) = true)) ∧
  (∃ (s : State) (n : Nat),
    let k := s.oldestStep n
    (s.tenant n).state = 1 ∧ s.isRoot n = true ∧ s.voteSeen n k = true ∧ s.decided n k (s.attemptOf n k) = false) ∧
  (∃ n : Nat, n < 16) ∧
  (∃ (s : State) (n : Nat),
    let k := s.oldestStep n
    let heard := ∀ c ∈ s.others n, ∃ m ∈ (s.tenant n).reports, m.sender = c ∧ m.step = k
    ((s.tenant n).querying = false ∨ ¬ heard)) ∧
  (∃ (s : State) (n : Nat),
    let k := s.oldestStep n
    let heard := ∀ c ∈ s.others n, ∃ m ∈ (s.tenant n).reports, m.sender = c ∧ m.step = k
    (s.tenant n).querying = true ∧ heard) ∧
  (∃ (s : State) (sess n : Nat) (l : List Nat), MayWrite s sess (0x7010 + n) 3 ∧ ((s.tenant n).steps ≠ [] ∨ s.membersOk l =
    false)) ∧
  (∃ (s : State) (sess n : Nat) (l : List Nat), MayWrite s sess (0x7010 + n) 3 ∧ (s.tenant n).steps = [] ∧ s.membersOk l = true
    ∧ n < 16) :=
  ⟨⟨closed, 0, msg false 77, by decide, by decide, by decide⟩,
  ⟨closed, 0, msg true 77, .inl (by decide)⟩,
  ⟨closed, 0, { msg false 77 with step := 2 }, .inl (by decide)⟩,
  ⟨closed, 0, { msg false 77 with step := 0 }, .inl (by decide)⟩,
  ⟨closed, 0, msg false 77, by decide, by decide, by decide⟩,
  ⟨closed, 0, { msg false 77 with step := 0 }, .inl (by decide)⟩,
  ⟨{ closed with tenants := closed.tenants.map fun p => (p.1, { p.2 with decisions := [⟨1, 0, true, 0, none⟩] }) }, 0, msg false
    77, by decide, .inr (by decide)⟩,
  ⟨closed, 0, { msg false 77 with step := 2 }, by decide, by decide, by decide⟩,
  ⟨closed, msg false 77, 0, by decide⟩,
  ⟨own, 1, 15, mw rfl, by decide⟩,
  ⟨ran, 1, 0, mw rfl, by decide, by decide⟩,
  ⟨child ran, 1, 0, mw rfl, by decide, by decide⟩,
  ⟨ran, 0, 2, by decide, by decide, by decide⟩,
  ⟨closed, 0, 3, by decide⟩,
  ⟨own, 0, .inl (by decide)⟩,
  ⟨voted, 0, by decide, by decide, by decide, by decide⟩,
  ⟨15, by decide⟩,
  ⟨own, 0, .inl (by decide)⟩,
  ⟨{ closed with tenants := closed.tenants.map fun p => (p.1, { p.2 with querying := true }) }, 0, by decide, by decide⟩,
  ⟨ran, 1, 0, [0], mw rfl, by decide⟩,
  ⟨own, 1, 15, [0, 16383], mw rfl, by decide, by decide, by decide⟩⟩

theorem witness_VoteTree :
  (∃ size i c : Nat, size ≤ 16384 ∧ i < size ∧ c ∈ childrenOf size i) ∧
  (∃ size c : Nat, size ≤ 16384 ∧ 0 < c ∧ c < size) :=
  ⟨⟨16384, 0, 8192, by decide, by decide, by decide +kernel⟩,
  ⟨16384, 16383, by decide, by decide, by decide⟩⟩

theorem witness_StepEnds :
  (∃ (s : State) (n step attempt : Nat), (step ≠ s.oldestStep n ∨ attempt ≠ s.attemptOf n step)) ∧
  (∃ (s : State) (gate : Nat) (late : Bool), late = false ∧ s.beatNo ≤ gate) ∧
  (∃ (s : State) (n gate : Nat) (late : Bool), (late = true ∨ gate < s.beatNo) ∧ n < 16) ∧
  (∃ (s : State) (n step : Nat) (pr : Option Nat),
    let p := (s.tenant n).step? step
    let u : State := (((s.commitVersions n).commitOpen n step p).emptyStacks n true).applyProposal n pr
    n < 16 ∧ (u.tenant n).pendingRegs = []) ∧
  (∃ n : Nat, n < 16) :=
  ⟨⟨closed, 0, 2, 0, .inl (by decide)⟩,
  ⟨closed, 0, false, by decide, by decide⟩,
  ⟨closed, 0, 0, true, .inl rfl, by decide⟩,
  ⟨closed, 0, 1, none, by decide, by decide⟩,
  ⟨15, by decide⟩⟩

theorem witness_JudgesInputs :
  (∃ (s : State) (sess n step : Nat), n < 16 ∧ s.takesValue n step = true ∧ MayWrite s sess (Obj.lossWrite n / 256) 1) ∧
  (∃ (s : State) (sess n step : Nat), n < 16 ∧ s.takesValue n step = true ∧ MayWrite s sess (Obj.gradWrite n / 256) 6) ∧
  (∃ (s : State) (n step : Nat), n < 16 ∧ s.takesValue n step = false) ∧
  (∃ (s : State) (sess n v : Nat), n < 16 ∧ MayWrite s sess (Obj.statsReset n / 256) 0x0C ∧ v ≠ 1) ∧
  (∃ (s : State) (sess n v : Nat), n < 16 ∧ MayWrite s sess (Obj.statsReset n / 256) 0x0C ∧ v = 1) ∧
  (∃ (s : State) (n step : Nat) (ns : Bool), ns = false ∧ (s.tenant n).step? step = none) ∧
  (∃ (s : State) (n step : Nat) (ns : Bool), (ns = true ∨ (s.tenant n).step? step ≠ none)) :=
  ⟨⟨ran, 1, 0, 1, by decide, by decide, mw rfl⟩,
  ⟨ran, 1, 0, 1, by decide, by decide, mw rfl⟩,
  ⟨ran, 0, 2, by decide, by decide⟩,
  ⟨ran, 1, 15, 0, by decide, mw rfl, by decide⟩,
  ⟨ran, 1, 15, 1, by decide, mw rfl, by decide⟩,
  ⟨ran, 0, 2, false, by decide, by decide⟩,
  ⟨ran, 0, 1, false, .inr (by decide)⟩⟩

theorem witness_JudgesRules :
  (∃ (c : SlotCfg) (g : Bool) (t : CountSet), c.armed g = true ∧ t.total ≠ 0) ∧
  (∃ (c : SlotCfg) (g : Bool) (t : CountSet), (c.armed g = false ∨ t.total = 0)) ∧
  (∃ x : Nat, fFinite x = false) ∧
  (∃ x : Nat, fFinite x = true) ∧
  (∃ (s : State) (n x : Nat), n < 16 ∧ fFinite x = true ∧ s.reg (Obj.lossSamples n) ≠ 0) ∧
  (∃ (s : State) (n x : Nat), n < 16 ∧ fFinite x = true ∧ s.reg (Obj.gradSamples n) ≠ 0) ∧
  (∃ (s : State) (n x : Nat), n < 16 ∧ fFinite x = true ∧ s.reg (Obj.lossSamples n) = 0 ∧ s.reg (Obj.gradSamples n) = 0) ∧
  (∃ x : Nat, fFinite x = false) ∧
  (∃ (s : State) (n : Nat) (c : WatchCfg), n < 16 ∧ (s.tenant n).pendingCfg = some c) ∧
  (∃ (s : State) (n j : Nat) (c : SlotCfg), s.shareHas n j = true ∧ (s.slot j).pendingCfg = some c) ∧
  (∃ (s : State) (j step : Nat) (g : Bool) (t : CountSet),
    let c := (s.slot j).cfgOf step
    let k := (s.slot j).newStreak c g t
    let fires : Prop := c.armed g = true ∧ t.total ≠ 0 ∧ c.silent t = true ∧ c.silentSteps ≤ k ∧ (s.slot j).raised = false
    (s.slot j).openOf step = some (g, t) ∧ ¬ fires) ∧
  (∃ (s : State) (j step : Nat) (g : Bool) (t : CountSet), (s.slot j).openOf step = some (g, t)) :=
  ⟨⟨{}, true, { total := 1 }, by decide, by decide⟩,
  ⟨{}, true, {}, by decide⟩,
  ⟨0x7F800000, by decide⟩,
  ⟨0x7F7FFFFF, by decide⟩,
  ⟨rg own [(Obj.lossSamples 15, 1)], 15, 0x7F7FFFFF, by decide, by decide, by decide⟩,
  ⟨rg own [(Obj.gradSamples 15, 1)], 15, 0x7F7FFFFF, by decide, by decide, by decide⟩,
  ⟨own, 15, 0x7F7FFFFF, by decide, by decide, by decide, by decide⟩,
  ⟨0x7F800000, by decide⟩,
  ⟨{ own with tenants := [(15, { pendingCfg := some {} })] }, 15, {}, by decide, rfl⟩,
  ⟨rg { own with slots := [(7, { pendingCfg := some {} })] } [(Obj.slotFirst 0, 7), (Obj.slotCount 0, 1)], 0, 7, {}, by decide,
    rfl⟩,
  ⟨{ own with slots := [(7, { opens := [(1, (true, {}))] })] }, 7, 1, true, {}, rfl, fun h => absurd h.2.1 (by decide)⟩,
  ⟨{ own with slots := [(7, { opens := [(1, (true, {}))] })] }, 7, 1, true, {}, rfl⟩⟩

theorem witness_Lanes :
  (∃ (s : State) (p l : Nat), s.laserOn p l = false) ∧
  (∃ (s : State) (p l : Nat) (b : LaneBlock), s.laserOn p l = true ∧ (b.syndrome = true ∨ headerOk b.bytes = false)) ∧
  (∃ (s : State) (p l : Nat) (b : LaneBlock), s.laserOn p l = true ∧ b.syndrome = false ∧ headerOk b.bytes = true) ∧
  (∃ cs : List Nat, cs.length = 6) ∧
  (∃ (s : State) (p l r : Nat), s.laserOn p l = true ∧ r ≤ 4) ∧
  (∃ (s : State) (p l r : Nat), (s.laserOn p l = false ∨ 4 < r)) ∧
  (∃ (s : State) (p l : Nat), s.laserOn p l = true ∧ inService (s.lane p l) = true) ∧
  (∃ (s : State) (p l : Nat), (s.laserOn p l = false ∨ inService (s.lane p l) = false)) ∧
  (∃ (s : State) (p l heard passed : Nat) (word : Bool),
    let tone := s.reg (Obj.laneChannel p l) % 4
    s.laserOn p l = true ∧ (heard ≠ tone ∨ passed ≠ tone ∨ word = false)) ∧
  (∃ (s : State) (p l heard passed : Nat) (word : Bool),
    let tone := s.reg (Obj.laneChannel p l) % 4
    (s.laserOn p l = false ∨ (heard = tone ∧ passed = tone ∧ word = true))) ∧
  (∃ (s : State) (p l : Nat), s.laserOn p l = true ∧ inService (s.lane p l) = true) ∧
  (∃ (s : State) (p l : Nat), inService (s.lane p l) = false) ∧
  (∃ (s : State) (p l : Nat), s.lane p l ≠ lnRelock) ∧
  (∃ (s : State) (p l : Nat), s.lane p l = lnRelock) ∧
  (∃ (s : State) (p l : Nat), s.lane p l = lnRelock) ∧
  (∃ (s : State) (p l : Nat), s.laserOn p l = true) ∧
  (∃ (s : State) (p l : Nat), s.laserOn p l = false) ∧
  (∃ (s : State) (p l : Nat), (s.laser p l).rxOut = true ∧ inService (s.lane p l) = true) ∧
  (∃ (s : State) (p l : Nat), ((s.laser p l).rxOut = false ∨ inService (s.lane p l) = false)) ∧
  (∃ (s : State) (p l : Nat), p < 16 ∧ l < 8 ∧ (s.port p).waxLaser = none ∧ (s.port p).swapLane ≠ some l) ∧
  (∃ (s : State) (p : Nat), p < 16 ∧ (s.port p).waxLaser = none) ∧
  (∃ (s : State) (p l : Nat), s.drawnLane p l = none ∧ (isBasePort p = false ∨ (s.port p).baseLane ≠ l)) ∧
  (∃ (s : State) (p l : Nat) (e : LaneEntry), s.drawnLane p l = some e ∧ l ∉ (s.port p).lostLanes ∧ (isBasePort p = false ∨
    (s.port p).baseLane ≠ l)) ∧
  (∃ (s : State) (p b : Nat), isBasePort p = true ∧ s.drawnLane p (s.port p).baseLane = none ∧ p < 16 ∧ b < 8 ∧ b ≠ (s.port
    p).baseLane ∧ s.laneUp p b = true ∧ (∀ l, b < l → l < 8 → l = (s.port p).baseLane ∨ s.laneUp p l = false)) :=
  ⟨⟨own, 15, 8, by decide⟩,
  ⟨lane 15 8 lnUp, 15, 8, frame true, by decide, .inl rfl⟩,
  ⟨lane 15 8 lnUp, 15, 8, goodFrame, by decide +kernel, by decide +kernel, by decide +kernel⟩,
  ⟨[0, 0, 0, 0, 0, 0], by decide⟩,
  ⟨lane 15 8 lnService, 15, 8, 4, by decide, by decide⟩,
  ⟨lane 15 8 lnService, 15, 8, 5, .inr (by decide)⟩,
  ⟨lane 15 8 lnSpareIn, 15, 8, by decide, by decide⟩,
  ⟨own, 15, 8, .inl (by decide)⟩,
  ⟨lane 15 8 lnService, 15, 8, 0, 0, false, by decide, .inr (.inr rfl)⟩,
  ⟨own, 15, 8, 0, 0, true, .inl (by decide)⟩,
  ⟨lane 15 8 lnSpareIn, 15, 8, by decide, by decide⟩,
  ⟨own, 15, 8, by decide⟩,
  ⟨own, 15, 8, by decide⟩,
  ⟨lane 15 8 lnRelock, 15, 8, by decide⟩,
  ⟨lane 15 8 lnRelock, 15, 8, by decide⟩,
  ⟨lane 15 8 lnUp, 15, 8, by decide⟩,
  ⟨own, 15, 8, by decide⟩,
  ⟨{ lane 15 8 lnService with lasers := [(laserKey 15 8, { rxOut := true })] }, 15, 8, by decide, by decide⟩,
  ⟨own, 15, 8, .inl (by decide)⟩,
  ⟨own, 15, 7, by decide, by decide, by decide, by decide⟩,
  ⟨own, 15, by decide, by decide⟩,
  ⟨own, 7, 0, by decide, .inl (by decide)⟩,
  ⟨inDrawing own 7 0, 7, 0, ⟨7, 0, 1, 0, false, false, 0, 1, 63⟩, by decide, by decide, .inl (by decide)⟩,
  ⟨rg (lane 15 6 lnService) [(Obj.chipNumber, 0)], 15, 6, by decide, by decide, by decide, by decide, by decide, by decide, fun
    l h1 h2 => .inr ((show l = 7 by omega) ▸ (by decide))⟩⟩

theorem witness_Margins :
  (∃ (s : State) (p : Nat), (16 ≤ p ∨ s.device = devOff ∨ s.device = devHalted)) ∧
  (∃ (s : State) (p : Nat), p < 16 ∧ s.device ≠ devOff ∧ s.device ≠ devHalted) ∧
  (∃ (p : Nat) (w : LaserWindow), p < 16 ∧ w.laser ≤ 8) ∧
  (∃ w : LaserWindow, 3 ≤ w.uncorrectedBlocks) ∧
  (∃ w : LaserWindow, w.uncorrectedBlocks < 3 ∧ w.receivedBits ≠ 0) ∧
  (∃ (s : State) (p l : Nat),
    let la := s.carrier p l
    let v := s.laser p la
    let x := s.launch p la
    let st := s.lane p la
    let drop := x ≤ -400 ∨ 20000000 < v.farRate
    (inService st = false ∨ (¬ drop ∧ st = lnSwapping))) ∧
  (∃ (s : State) (p l : Nat),
    let la := s.carrier p l
    let v := s.laser p la
    let x := s.launch p la
    let st := s.lane p la
    let drop := x ≤ -400 ∨ 20000000 < v.farRate
    inService st = true ∧ drop) ∧
  (∃ (s : State) (p l : Nat) (sw : Bool),
    let la := s.carrier p l
    let v := s.laser p la
    let x := s.launch p la
    let st := s.lane p la
    let drop := x ≤ -400 ∨ 20000000 < v.farRate
    let swap := x ≤ -200 ∨ v.highWindows = 2
    let still := inService st = true ∧ ¬ drop ∧ st ≠ lnSwapping
    still ∧ swap ∧ sw = true) ∧
  (∃ (s : State) (p l : Nat) (sw : Bool),
    let la := s.carrier p l
    let v := s.laser p la
    let x := s.launch p la
    let st := s.lane p la
    let drop := x ≤ -400 ∨ 20000000 < v.farRate
    let swap := x ≤ -200 ∨ v.highWindows = 2
    let may := la ≠ spare ∧ (s.spareFree p = true ∨ (s.role p = 4 ∧ (s.port p).waxLaser ≠ some spare))
    let still := inService st = true ∧ ¬ drop ∧ st ≠ lnSwapping
    still ∧ swap ∧ sw = false ∧ may) ∧
  (∃ (s : State) (p l : Nat) (sw : Bool),
    let la := s.carrier p l
    let v := s.laser p la
    let x := s.launch p la
    let st := s.lane p la
    let drop := x ≤ -400 ∨ 20000000 < v.farRate
    let swap := x ≤ -200 ∨ v.highWindows = 2
    let may := la ≠ spare ∧ (s.spareFree p = true ∨ (s.role p = 4 ∧ (s.port p).waxLaser ≠ some spare))
    let still := inService st = true ∧ ¬ drop ∧ st ≠ lnSwapping
    let next := still ∧ (¬ swap ∨ (sw = false ∧ ¬ may))
    next ∧ v.fallWindows = 2) ∧
  (∃ (s : State) (p l : Nat) (sw : Bool),
    let la := s.carrier p l
    let v := s.laser p la
    let x := s.launch p la
    let st := s.lane p la
    let drop := x ≤ -400 ∨ 20000000 < v.farRate
    let swap := x ≤ -200 ∨ v.highWindows = 2
    let may := la ≠ spare ∧ (s.spareFree p = true ∨ (s.role p = 4 ∧ (s.port p).waxLaser ≠ some spare))
    let still := inService st = true ∧ ¬ drop ∧ st ≠ lnSwapping
    let next := still ∧ (¬ swap ∨ (sw = false ∧ ¬ may))
    next ∧ v.fallWindows ≠ 2 ∧ x ≤ -100) ∧
  (∃ (s : State) (p l : Nat) (sw : Bool),
    let la := s.carrier p l
    let v := s.laser p la
    let x := s.launch p la
    let st := s.lane p la
    let drop := x ≤ -400 ∨ 20000000 < v.farRate
    let swap := x ≤ -200 ∨ v.highWindows = 2
    let may := la ≠ spare ∧ (s.spareFree p = true ∨ (s.role p = 4 ∧ (s.port p).waxLaser ≠ some spare))
    let still := inService st = true ∧ ¬ drop ∧ st ≠ lnSwapping
    let next := still ∧ (¬ swap ∨ (sw = false ∧ ¬ may))
    next ∧ v.fallWindows ≠ 2 ∧ -100 < x ∧ v.clearWindows = 1000) ∧
  (∃ (s : State) (p l : Nat) (sw : Bool),
    let la := s.carrier p l
    let v := s.laser p la
    let x := s.launch p la
    let st := s.lane p la
    let drop := x ≤ -400 ∨ 20000000 < v.farRate
    let swap := x ≤ -200 ∨ v.highWindows = 2
    let may := la ≠ spare ∧ (s.spareFree p = true ∨ (s.role p = 4 ∧ (s.port p).waxLaser ≠ some spare))
    let still := inService st = true ∧ ¬ drop ∧ st ≠ lnSwapping
    let next := still ∧ (¬ swap ∨ (sw = false ∧ ¬ may))
    next ∧ v.fallWindows ≠ 2 ∧ -100 < x ∧ v.clearWindows ≠ 1000) ∧
  (∃ (s : State) (p la : Nat), s.reg (Obj.laneModulation p la) = 1) ∧
  (∃ (s : State) (p la : Nat), s.reg (Obj.laneModulation p la) ≠ 1) ∧
  (∃ p l : Nat, p < 16 ∧ l < 8) ∧
  (∃ (s : State) (p : Nat), s.spareFree p = false) ∧
  (∃ (s : State) (p : Nat), p < 16 ∧ s.spareFree p = true ∧ (∀ l, l < 8 → s.lane p l ≠ lnWatched)) ∧
  (∃ (s : State) (p l : Nat), p < 16 ∧ s.spareFree p = true ∧ l < 8 ∧ s.lane p l = lnWatched ∧ (∀ m, m < 8 → s.lane p m =
    lnWatched → s.launch p l < s.launch p m ∨ (s.launch p l = s.launch p m ∧ l ≤ m))) ∧
  (∃ (s : State) (p l : Nat), s.laserOn p l = true) ∧
  (∃ (s : State) (p l : Nat), s.laserOn p l = false) ∧
  (∃ (s : State) (p : Nat), (s.port p).swapLane = none) ∧
  (∃ (s : State) (p l : Nat), p < 16 ∧ l < 8 ∧ (s.port p).swapLane = some l) ∧
  (∃ (s : State) (p l : Nat), p < 16 ∧ l < 8 ∧ (s.port p).swapLane = some l) ∧
  (∃ (s : State) (p l : Nat), (s.drawnLane p l = none ∨ s.baseTaken p l = true)) ∧
  (∃ (s : State) (p l : Nat) (e : LaneEntry), s.drawnLane p l = some e ∧ s.baseTaken p l = false) ∧
  (∃ (s : State) (p : Nat), (s.port p).holdBack = false) ∧
  (∃ (s : State) (p : Nat), (s.port p).holdBack = true) ∧
  (∃ (s : State) (p : Nat), (s.port p).takeover = none) ∧
  (∃ (s : State) (p l : Nat), p < 16 ∧ l < 8 ∧ (s.port p).takeover = some l) ∧
  (∃ (s : State) (p l : Nat), ((s.port p).waxLaser ≠ some l ∨ s.lane p l ≠ lnWax)) ∧
  (∃ (s : State) (p l : Nat), (s.port p).waxLaser = some l ∧ s.lane p l = lnWax) ∧
  (∃ p l : Nat, p < 16 ∧ l ≤ 8) ∧
  (∃ (s : State) (p l : Nat) (r : WaxResult), (s.laser p l).waxFrom = lnRetired ∧ r.powerGood = false) ∧
  (∃ (s : State) (p : Nat) (r : WaxResult), p < 16 ∧ ((s.laser p spare).waxFrom ≠ lnRetired ∨ r.powerGood = true)) ∧
  (∃ (s : State) (p l : Nat) (r : WaxResult), p < 16 ∧ l < 8 ∧ ((s.laser p l).waxFrom ≠ lnRetired ∨ r.powerGood = true)) ∧
  (∃ p l : Nat, p < 16 ∧ l < 8) :=
  ⟨⟨own, 16, by decide⟩,
  ⟨own, 15, by decide, by decide, by decide⟩,
  ⟨15, ⟨8, 0, 0, 0, 0⟩, by decide, by decide⟩,
  ⟨⟨8, 0, 0, 0, 3⟩, by decide⟩,
  ⟨⟨8, 0, 0, 1, 2⟩, by decide, by decide⟩,
  ⟨own, 15, 7, .inl (by decide +kernel)⟩,
  ⟨lit 400 {}, 15, 7, by decide, .inl (by decide +kernel)⟩,
  ⟨lit 200 {}, 15, 7, true, ⟨by decide +kernel, by decide +kernel, by decide +kernel⟩, .inl (by decide +kernel), by decide⟩,
  ⟨lit 399 {}, 15, 7, false, ⟨by decide +kernel, by decide +kernel, by decide +kernel⟩, .inl (by decide +kernel), by decide,
    ⟨by decide +kernel, .inl (by decide +kernel)⟩⟩,
  ⟨lit 1 { fallWindows := 2 }, 15, 7, false, ⟨⟨by decide +kernel, by decide +kernel, by decide +kernel⟩, .inl
    (by decide +kernel)⟩, by decide +kernel⟩,
  ⟨lit 199 {}, 15, 7, false, ⟨⟨by decide +kernel, by decide +kernel, by decide +kernel⟩, .inl (by decide +kernel)⟩,
    by decide +kernel, by decide +kernel⟩,
  ⟨lit 99 { clearWindows := 1000 }, 15, 7, false, ⟨⟨by decide +kernel, by decide +kernel, by decide +kernel⟩, .inl
    (by decide +kernel)⟩, by decide +kernel, by decide +kernel, by decide +kernel⟩,
  ⟨lit 99 {}, 15, 7, false, ⟨⟨by decide +kernel, by decide +kernel, by decide +kernel⟩, .inl (by decide +kernel)⟩,
    by decide +kernel, by decide +kernel, by decide +kernel⟩,
  ⟨rg own [(Obj.laneModulation 15 7, 1)], 15, 7, by decide⟩,
  ⟨own, 15, 7, by decide⟩,
  ⟨15, 7, by decide, by decide⟩,
  ⟨own, 15, by decide⟩,
  ⟨rg own [(Obj.laneState 15 8, lnSpareIdle)], 15, by decide, by decide, by decide⟩,
  ⟨rg (lane 15 7 lnWatched) [(Obj.laneState 15 8, lnSpareIdle)], 15, 7, by decide, by decide, by decide, by decide, by decide⟩,
  ⟨lane 15 8 lnService, 15, 8, by decide⟩,
  ⟨own, 15, 7, by decide⟩,
  ⟨own, 15, by decide⟩,
  ⟨porty { swapLane := some 7 }, 15, 7, by decide, by decide, by decide⟩,
  ⟨porty { swapLane := some 7 }, 15, 7, by decide, by decide, by decide⟩,
  ⟨own, 15, 7, .inl (by decide)⟩,
  ⟨inDrawing own 7 0, 7, 0, ⟨7, 0, 1, 0, false, false, 0, 1, 63⟩, by decide, by decide⟩,
  ⟨own, 15, by decide⟩,
  ⟨porty { holdBack := true }, 15, by decide⟩,
  ⟨own, 15, by decide⟩,
  ⟨porty { takeover := some 7 }, 15, 7, by decide, by decide, by decide⟩,
  ⟨own, 15, 8, by decide⟩,
  ⟨{ lane 15 8 lnWax with ports := [(15, { waxLaser := some 8 })] }, 15, 8, by decide, by decide⟩,
  ⟨15, 8, by decide, by decide⟩,
  ⟨{ own with lasers := [(laserKey 15 7, { waxFrom := lnRetired })] }, 15, 7, { waxRes with powerGood := false }, by decide,
    by decide⟩,
  ⟨own, 15, waxRes, by decide, .inr rfl⟩,
  ⟨own, 15, 7, waxRes, by decide, by decide, .inr rfl⟩,
  ⟨15, 7, by decide, by decide⟩⟩

theorem witness_BringUp :
  (∃ (s : State) (p l a b : Nat), (s.lane p l ≠ lnUp ∨ (s.laser p l).trained = true ∨ (100000 < a ∧ 3000000 < b))) ∧
  (∃ (s : State) (p l a b : Nat), p < 16 ∧ l ≤ 8 ∧ s.lane p l = lnUp ∧ (s.laser p l).trained = false ∧ (a ≤ 100000 ∨ b ≤
    3000000)) ∧
  (∃ (s : State) (p l : Nat), s.lane p l = lnUp ∧ (s.laser p l).trained = false) ∧
  (∃ (s : State) (p l : Nat), (s.lane p l ≠ lnUp ∨ (s.laser p l).trained = true)) ∧
  (∃ (s : State) (p l : Nat), (s.laser p l).lost = true) ∧
  (∃ (s : State) (p l : Nat), p < 16 ∧ l ≤ 8 ∧ (s.laser p l).lost = false) ∧
  (∃ p l : Nat, p < 16 ∧ l ≤ 8) ∧
  (∃ (s : State) (p l : Nat), l ∉ (s.port p).lostLanes) ∧
  (∃ (s : State) (p l : Nat), l ∈ (s.port p).lostLanes) ∧
  (∃ (s : State) (sess : Nat) (m : List Nat), MayWrite s sess 0x5000 5 ∧ isRemap m = false) ∧
  (∃ (s : State) (sess : Nat) (m : List Nat), MayWrite s sess 0x5000 5 ∧ isRemap m = true) ∧
  (∃ (s : State) (sess v : Nat), MayWrite s sess 0x6000 1 ∧ (s.device ≠ devReady ∨ s.notFree ≠ [] ∨ (0x3FFF < v ∧ v ≠ 0xFFFF))) ∧
  (∃ (s : State) (sess v : Nat), MayWrite s sess 0x6000 1 ∧ s.device = devReady ∧ s.notFree = [] ∧ (v ≤ 0x3FFF ∨ v = 0xFFFF)) :=
  ⟨⟨own, 15, 8, 0, 0, by decide⟩,
  ⟨lane 15 8 lnUp, 15, 8, 100000, 4000000, by decide, by decide, by decide, by decide, .inl (by decide)⟩,
  ⟨lane 15 8 lnUp, 15, 8, by decide, by decide⟩,
  ⟨own, 15, 8, .inl (by decide)⟩,
  ⟨{ own with lasers := [(laserKey 15 8, { lost := true })] }, 15, 8, by decide⟩,
  ⟨own, 15, 8, by decide, by decide, by decide⟩,
  ⟨15, 8, by decide, by decide⟩,
  ⟨own, 15, 8, by decide⟩,
  ⟨porty { lostLanes := [7] }, 15, 7, by decide⟩,
  ⟨own, 1, [], mw rfl, by decide⟩,
  ⟨own, 1, List.range 12, mw rfl, by decide⟩,
  ⟨ran, 1, 0, mw rfl, .inl (by decide)⟩,
  ⟨own, 1, 0x3FFF, mw rfl, by decide, by decide, .inl (by decide)⟩⟩

theorem witness_Patrol :
  (∃ (s : State) (l st : Nat), s.beaconStatus = some st ∧ l ∈ s.baseLanes) ∧
  (∃ (s : State) (l : Nat), (s.beaconStatus = none ∨ l ∉ s.baseLanes)) ∧
  (∃ (s : State) (l : Nat) (b : Beacon), (s.patrols = false ∨ s.baseFrom l ≠ some b.chip)) ∧
  (∃ (s : State) (l : Nat) (b : Beacon), s.patrols = true ∧ s.baseFrom l = some b.chip) ∧
  (∃ (s : State) (l : Nat), s.baseFrom l = none) ∧
  (∃ (s : State) (l c : Nat), s.baseFrom l = some c ∧ (s.patrols = false ∨ (s.watch l).suspect = true)) ∧
  (∃ (s : State) (l c : Nat), s.baseFrom l = some c ∧ s.patrols = true ∧ (s.watch l).suspect = false) ∧
  (∃ (s : State) (l c : Nat), s.baseFrom l = some c) ∧
  (∃ (s : State) (l c : Nat), s.baseFrom l = some c) ∧
  (∃ (s : State) (l c : Nat),
    let out := ∀ k, k < 10 → (s.baseFrom k).isSome = true → (s.watch k).suspect = true
    s.baseFrom l = some c ∧ (s.patrols = false ∨ (s.watch l).suspect = false ∨ out ∨ s.fenced c = true)) ∧
  (∃ (s : State) (l c : Nat),
    let out := ∀ k, k < 10 → (s.baseFrom k).isSome = true → (s.watch k).suspect = true
    s.baseFrom l = some c ∧ s.patrols = true ∧ (s.watch l).suspect = true ∧ ¬ out ∧ s.fenced c = false) :=
  ⟨⟨own, 5, _, rfl, by decide⟩,
  ⟨own, 9, by decide⟩,
  ⟨own, 5, beac 63, by decide⟩,
  ⟨own, 5, beac 32, by decide, by decide⟩,
  ⟨own, 9, by decide⟩,
  ⟨rg off [(Obj.chipNumber, 0)], 5, 32, by decide, .inl (by decide)⟩,
  ⟨own, 5, 32, by decide, by decide, by decide⟩,
  ⟨own, 5, 32, by decide⟩,
  ⟨own, 5, 32, by decide⟩,
  ⟨own, 5, 32, by decide, .inr (.inl (by decide))⟩,
  ⟨{ own with watches := [(5, { suspect := true })] }, 5, 32, by decide, by decide, by decide, fun h => absurd (h 4 (by decide)
    (by decide)) (by decide), by decide⟩⟩

theorem witness_Lives :
  (∃ (s : State) (chip : Nat), (s.linksUp = false ∨ chip = s.chip ∨ s.fenced chip = true)) ∧
  (∃ (s : State) (chip : Nat), s.linksUp = true ∧ chip ≠ s.chip ∧ s.fenced chip = false) ∧
  (∃ (s : State) (sess chip : Nat), MayWrite s sess 0x7000 6 ∧ s.mayName sess chip = true ∧ (s.fenced chip = false ∨
    s.readyToRejoin chip = false)) ∧
  (∃ (s : State) (sess chip : Nat), MayWrite s sess 0x7000 6 ∧ s.mayName sess chip = true ∧ s.fenced chip = true ∧
    s.readyToRejoin chip = true) ∧
  (∃ (s : State) (sess chip : Nat), MayWrite s sess 0x7000 5 ∧ s.mayName sess chip = true) ∧
  (∃ (s : State) (sess chip : Nat), s.mayName sess chip = false ∧ MayWrite s sess 0x7000 6) ∧
  (∃ (s : State) (sess chip : Nat), s.mayName sess chip = false ∧ MayWrite s sess 0x7000 5) :=
  ⟨⟨own, 0, .inr (.inl (by decide))⟩,
  ⟨own, 1, by decide, by decide, by decide⟩,
  ⟨own, 1, 16383, mw rfl, by decide, .inl (by decide)⟩,
  ⟨{ own with life := [(63, 1)], rejoinHeard := [(63, 1)] }, 1, 63, mw rfl, by decide, by decide, by decide⟩,
  ⟨own, 1, 16383, mw rfl, by decide⟩,
  ⟨{ own with sessions := own.sessions ++ [{ owner with id := 4, role := roleTenant, tenant := 15 }] }, 4, 16383,
    by decide +kernel, mw rfl⟩,
  ⟨{ own with sessions := own.sessions ++ [{ owner with id := 4, role := roleTenant, tenant := 15 }] }, 4, 16383,
    by decide +kernel, mw rfl⟩⟩

theorem witness_Mirrors :
  (∃ (s : State) (sess n : Nat) (es : List MirrorSpec), MayWrite s sess (0x7050 + n) 1 ∧ ((s.tenant n).steps ≠ [] ∨ 4096 <
    es.length ∨ (∃ m ∈ es, s.entryAt n m.localBase = none) ∨ (∃ m ∈ es, m.role = 1 ∧ ∃ k ∈ (s.tenant n).mirrors, k.localBase =
    m.localBase ∧ k.role = 2 ∧ k.state ≠ 3 ∧ k.state ≠ 4))) ∧
  (∃ (s : State) (sess n : Nat) (es : List MirrorSpec), MayWrite s sess (0x7050 + n) 1 ∧ (s.tenant n).steps = [] ∧ es.length ≤
    4096 ∧ (∀ m ∈ es, (s.entryAt n m.localBase).isSome = true) ∧ (∀ m ∈ es, ∀ k ∈ (s.tenant n).mirrors, ¬ (m.role = 1 ∧
    k.localBase = m.localBase ∧ k.role = 2 ∧ k.state ≠ 3 ∧ k.state ≠ 4))) ∧
  (∃ (s : State) (n : Nat) (m : Mirror), s.entryAt n m.localBase = none) ∧
  (∃ (a : PairAsk) (m : Mirror), m.meets a = false) ∧
  (∃ (a : PairAsk) (m : Mirror), m.meets a = true) ∧
  (∃ (s : State) (sess n v : Nat) (o : Bool), MayWrite s sess (0x7050 + n) 2 ∧ (s.mayPopulate n v o = false ∨ (s.tenant
    n).populating = true)) ∧
  (∃ (s : State) (sess n v : Nat) (o : Bool), n < 16 ∧ MayWrite s sess (0x7050 + n) 2 ∧ s.mayPopulate n v o = true ∧ (s.tenant
    n).populating = false) ∧
  (∃ (s : State) (n i : Nat), (∀ m, (s.tenant n).mirrors[i]? = some m → m.state ≠ 2 ∧ m.verifying = false ∧ (m.role ≠ 2 ∨
    m.state ≠ 1))) ∧
  (∃ (s : State) (n i : Nat) (m : Mirror), n < 16 ∧ (s.tenant n).mirrors[i]? = some m ∧ m.role ≠ 2 ∧ (m.state = 2 ∨ m.verifying
    = true)) ∧
  (∃ (s : State) (n i : Nat) (m : Mirror), n < 16 ∧ (s.tenant n).mirrors[i]? = some m ∧ m.role = 2 ∧ (m.state = 1 ∨ m.state = 2
    ∨ m.verifying = true)) ∧
  (∃ (s : State) (n : Nat) (m : Mirror) (c : List Byte) (e : Entry), s.entryAt n m.localBase = some e ∧ m.role = 2 ∧ c.length =
    64 * e.lines) ∧
  (∃ (s : State) (sess n : Nat), MayWrite s sess (0x7050 + n) 3) :=
  ⟨⟨ran, 1, 0, [], mw rfl, .inl (by decide)⟩,
  ⟨mirrored 2 3, 1, 0, [⟨0, 16383, 0, 1, 7⟩], mw rfl, by decide, by decide, by decide, by decide⟩,
  ⟨own, 15, ⟨0, 1, 0, 1, 2, 1, false, false⟩, by decide⟩,
  ⟨⟨1, 0, 0, 1, false, false, 0, 1, 1, 7⟩, ⟨0, 2, 0, 1, 2, 1, false, false⟩, by decide⟩,
  ⟨⟨1, 0, 0, 1, false, false, 0, 1, 1, 7⟩, ⟨0, 1, 0, 1, 0, 1, false, false⟩, by decide⟩,
  ⟨own, 1, 15, 0, false, mw rfl, by decide⟩,
  ⟨mirrored 1 3, 1, 0, 0, false, by decide, mw rfl, by decide, by decide⟩,
  ⟨own, 15, 0, by intro m h; exact absurd h (by simp [show (own.tenant 15).mirrors = [] by decide])⟩,
  ⟨mirrored 1 2, 0, 0, ⟨0, 1, 0, 1, 2, 1, false, false⟩, by decide, rfl, by decide, .inl rfl⟩,
  ⟨mirrored 2 2, 0, 0, ⟨0, 1, 0, 2, 2, 1, false, false⟩, by decide, rfl, by decide, .inr (.inl rfl)⟩,
  ⟨ran, 0, ⟨0, 1, 0, 2, 2, 1, false, false⟩, List.replicate 4096 0, region 0, rfl, by decide, by decide +kernel⟩,
  ⟨own, 1, 15, mw rfl⟩⟩

theorem witness_Faults :
  (∃ s : State, (s.device = devOff ∨ s.device = devHalted)) ∧
  (∃ s : State, s.device ≠ devOff ∧ s.device ≠ devHalted) ∧
  (∃ r : FaultRep, (r.cls = 1 ∨ r.cls = 2 ∨ r.cls = 3)) ∧
  (∃ r : FaultRep,
    let die := unitDie r.reporter
    let k := unitUnit r.reporter
    (8 ≤ die ∨ unitGroup r.reporter ≠ 16 ∨ 5 ≤ k ∨ ¬ ((r.cls = 1 ∧ r.cause = 1) ∨ (r.cls = 2 ∧ r.cause = 2)))) ∧
  (∃ r : FaultRep,
    let die := unitDie r.reporter
    let k := unitUnit r.reporter
    die < 8 ∧ unitGroup r.reporter = 16 ∧ r.cls = 1 ∧ r.cause = 1 ∧ k < 5) ∧
  (∃ r : FaultRep,
    let die := unitDie r.reporter
    let k := unitUnit r.reporter
    die < 8 ∧ unitGroup r.reporter = 16 ∧ r.cls = 2 ∧ r.cause = 2 ∧ k < 5) ∧
  (∃ (s : State) (r : FaultRep), (r.cls ≠ 2 ∨ r.cause ≠ 2 ∨ r.address / 2 ^ 50 ≠ s.chip)) ∧
  (∃ (s : State) (r : FaultRep) (n x st base : Nat) (e : Entry), r.cls = 2 ∧ r.cause = 2 ∧ r.address / 2 ^ 50 = s.chip ∧ r.work
    = some (n, x, st) ∧ s.findEntry n (r.address % 2 ^ 50) .plain = some (base, e)) ∧
  (∃ (s : State) (r : FaultRep) (c n x st : Nat), r.work = some (n, x, st) ∧ coreOfUnit r.reporter = some c ∧ (r.cls ≠ 2 ∨
    s.ctxWork c x = none)) ∧
  (∃ (s : State) (r : FaultRep) (c n x st : Nat), r.work = some (n, x, st) ∧ coreOfUnit r.reporter = some c ∧ r.cls = 2 ∧
    (s.ctxWork c x).isSome = true) ∧
  (∃ r : FaultRep, (r.work = none ∨ coreOfUnit r.reporter = none)) ∧
  (∃ (r : FaultRep) (e : ErrSite), (coreOfUnit r.reporter = none ∨ r.cls ≠ 2 ∨ r.cause ≠ 2 ∨ e = .elsewhere)) ∧
  (∃ (r : FaultRep) (c : Nat), coreOfUnit r.reporter = some c ∧ r.cls = 2 ∧ r.cause = 2 ∧ r.reporter % 8 = 2) ∧
  (∃ (s : State) (r : FaultRep) (c p : Nat), coreOfUnit r.reporter = some c ∧ r.cls = 2 ∧ r.cause = 2 ∧ r.reporter % 8 = 0 ∧
    partOk (s.core c).mode p = true ∧ (∀ i ∈ (s.core c).issued, i.part ≠ p)) ∧
  (∃ (r : FaultRep) (c : Nat), coreOfUnit r.reporter = some c ∧ r.cls = 2 ∧ r.cause = 2 ∧ r.reporter % 8 = 7) ∧
  (∃ (s : State) (c p x : Nat), ((((s.core c).issued.filter fun i => i.part == p).map (·.ctx)).eraseDups = [x])) ∧
  (∃ (u : Nat) (ps : List (Bool × Bool)), (wiringBit u = none ∨ heldInvalid ps = false)) ∧
  (∃ (s : State) (u cl b : Nat) (ps : List (Bool × Bool)), s.device ≠ devOff ∧ s.device ≠ devHalted ∧ wiringBit u = some (cl, b)
    ∧ heldInvalid ps = true) ∧
  (∃ s : State, s.device = devRecovery) ∧
  (∃ s : State, s.device ≠ devOff ∧ s.device ≠ devHalted ∧ s.device ≠ devRecovery) ∧
  (∃ (s : State) (sess : Nat), MayWrite s sess 0xC000 1) ∧
  (∃ (s : State) (sess : Nat), MayWrite s sess 0xC000 3) ∧
  (∃ k : Nat, perturbRow k ≠ none) ∧
  (∃ k : Nat, perturbRow k = none) ∧
  (∃ (s : State) (sess : Nat), MayWrite s sess 0xC200 1) :=
  ⟨⟨off, .inl (by decide)⟩,
  ⟨own, by decide, by decide⟩,
  ⟨frep, .inl rfl⟩,
  ⟨frep, .inr (.inl (by decide))⟩,
  ⟨{ frep with reporter := unitId 7 16 4 }, by decide, by decide, by decide, by decide, by decide⟩,
  ⟨{ frep with reporter := unitId 7 16 4, cls := 2, cause := 2 }, by decide, by decide, by decide, by decide, by decide⟩,
  ⟨own, frep, .inl (by decide)⟩,
  ⟨ran, { frep with cls := 2, cause := 2, work := some (0, 0, 1) }, 0, 0, 1, 1, region 0, by decide, by decide, by decide, rfl,
    by decide⟩,
  ⟨ran, { frep with work := some (0, 0, 1) }, 0, 0, 0, 1, rfl, by decide, .inl (by decide)⟩,
  ⟨ran, { frep with cls := 2, work := some (0, 0, 1) }, 0, 0, 0, 1, rfl, by decide, by decide, by decide⟩,
  ⟨frep, .inl rfl⟩,
  ⟨frep, .side 0, .inr (.inl (by decide))⟩,
  ⟨{ frep with cls := 2, cause := 2, reporter := unitId 7 7 58 }, 511, by decide, by decide, by decide, by decide⟩,
  ⟨own, { frep with cls := 2, cause := 2, reporter := unitId 7 7 56 }, 511, 0, by decide, by decide, by decide, by decide,
    by decide, by simp [show (own.core 511).issued = [] by decide]⟩,
  ⟨{ frep with cls := 2, cause := 2, reporter := unitId 7 7 63 }, 511, by decide, by decide, by decide, by decide⟩,
  ⟨ran {} { issued := [flying] }, 0, 3, 0, by decide⟩,
  ⟨0, [], .inr rfl⟩,
  ⟨own, unitId 7 15 3, 7, 67, List.replicate 4 (true, true), by decide, by decide, by decide, by decide⟩,
  ⟨rg own [(Obj.deviceState, devRecovery)], by decide⟩,
  ⟨own, by decide, by decide, by decide⟩,
  ⟨own, 1, mw rfl⟩,
  ⟨own, 1, mw rfl⟩,
  ⟨obj 0xC1FF 0, by decide⟩,
  ⟨obj 0xC200 0, by decide⟩,
  ⟨own, 1, mw rfl⟩⟩

theorem witness_Rights :
  (∃ (i : Instr) (s : State) (sess index sub : Nat), writeTarget i = some (sess, index, sub) ∧ MayNotWrite s sess index sub) ∧
  (∃ (i : Instr) (s : State) (sess index sub : Nat), writeTarget i = some (sess, index, sub) ∧ s.session? sess = none) ∧
  (∃ (s : State) (sess : Nat), s.session? sess = none) ∧
  (∃ (s : State) (sess : Nat) (o : ObjRef) (x : Session), s.session? sess = some x ∧ s.canWrite x o = false) ∧
  (∃ (s : State) (sess : Nat) (o : ObjRef) (x : Session) (r : ObjRow), s.session? sess = some x ∧ objRow o = some r ∧ s.canWrite
    x o = true) ∧
  (∃ o : ObjRef, objRow o = none) ∧
  (∃ (o : ObjRef) (r : ObjRow), objRow o = some r ∧ r.access = 0) ∧
  (∃ (o : ObjRef) (r : ObjRow), objRow o = some r ∧ r.access = 2) ∧
  (∃ (s : State) (x : Session) (o : ObjRef), x.role = 0 ∧ s.canWrite x o = true) ∧
  (∃ (s : State) (o : ObjRef) (r : ObjRow) (m : Nat), objRow o = some r ∧ r.belongs ≠ .pkg ∧ s.ownerOf r o = some m ∧ s.device ≠
    devRecovery ∧ r.access ≠ 2 ∧ o.index ≠ 0x0020) ∧
  (∃ (s : State) (o : ObjRef) (r : ObjRow) (m : Nat), objRow o = some r ∧ r.belongs ≠ .pkg ∧ s.ownerOf r o = some m ∧ s.device ≠
    devRecovery ∧ r.access ≠ 0 ∧ ownerOnly o = false ∧ o.index ≠ 0x0010 ∧ o.index ≠ 0xB010 ∧ o.index ≠ 0xB020) ∧
  (∃ (s : State) (x : Session) (o : ObjRef), s.device = devRecovery ∧ (s.canRead x o = true ∨ s.canWrite x o = true)) :=
  ⟨⟨.coreReset 3, own, 3, 0x1000, 4, rfl, mnw rfl⟩,
  ⟨.coreReset 4, own, 4, 0x1000, 4, rfl, by decide⟩,
  ⟨own, 9, by decide⟩,
  ⟨own, 3, ⟨0x1000, 4⟩, _, rfl, by decide⟩,
  ⟨own, 1, ⟨0x1000, 4⟩, _, _, rfl, (Option.some_get (by decide +kernel)).symm, by decide⟩,
  ⟨⟨0, 255⟩, by decide⟩,
  ⟨⟨0, 1⟩, (objRow ⟨0, 1⟩).get (by decide +kernel), (Option.some_get _).symm, by decide +kernel⟩,
  ⟨⟨0x1000, 4⟩, (objRow ⟨0x1000, 4⟩).get (by decide +kernel), (Option.some_get _).symm, by decide +kernel⟩,
  ⟨own, { owner with role := 0 }, ⟨0xB020, 1⟩, by decide, by decide +kernel⟩,
  ⟨own, ⟨0x7050, 1⟩, mirrorRow, 0, by decide +kernel, by decide, by decide, by decide, by decide, by decide⟩,
  ⟨own, ⟨0x7050, 1⟩, mirrorRow, 0, by decide +kernel, by decide, by decide, by decide, by decide, by decide, by decide,
    by decide, by decide⟩,
  ⟨rg own [(Obj.deviceState, devRecovery)], owner, ⟨0x1000, 4⟩, by decide, .inr (by decide +kernel)⟩⟩

theorem witness_Authentication :
  (∃ s : State, s.gdpUp = false) ∧
  (∃ (s : State) (e : Envelope) (m : List Byte), s.gdpUp = true ∧ (s.session? e.session = none ∨ ∃ x, s.session? e.session =
    some x ∧ (e.tag ≠ hmac x.key (m ++ toBytes 8 e.sequence ++ toBytes 8 0) ∨ e.sequence + 1024 ≤ x.highest))) ∧
  (∃ (s : State) (e : Envelope) (m : List Byte) (x : Session), s.gdpUp = true ∧ s.session? e.session = some x ∧ e.tag = hmac
    x.key (m ++ toBytes 8 e.sequence ++ toBytes 8 0) ∧ x.highest < e.sequence + 1024 ∧ e.sequence ∈ x.seen ∧ (∀ r ∈ x.replies,
    r.1 ≠ e.sequence)) ∧
  (∃ (s : State) (e : Envelope) (m : List Byte) (x : Session), s.gdpUp = true ∧ s.session? e.session = some x ∧ e.tag = hmac
    x.key (m ++ toBytes 8 e.sequence ++ toBytes 8 0) ∧ x.highest < e.sequence + 1024 ∧ e.sequence ∈ x.seen) ∧
  (∃ (s : State) (e : Envelope) (m : List Byte) (x : Session), Authentic s e m x) ∧
  (∃ e : Envelope, e.version ≠ 1) ∧
  (∃ e : Envelope, e.version = 1) ∧
  (∃ (s t : State) (e : Envelope) (os : List ObjRef), s.gdpAuth e 1 0 os.length (os.flatMap readBytes) = .settled t) ∧
  (∃ (s t : State) (e : Envelope) (os : List ObjRef), s.gdpAuth e 1 2 os.length (os.flatMap readBytes) = .settled t) ∧
  (∃ (s t : State) (e : Envelope) (os : List WriteItem), s.gdpAuth e 2 0 os.length (os.flatMap writeBytes) = .settled t) ∧
  (∃ (s t : State) (e : Envelope) (o : ObjRef) (a n : Nat), s.gdpAuth e 3 0 1 (readSegBytes o a n) = .settled t) ∧
  (∃ (s t : State) (e : Envelope) (i : SegItem), s.gdpAuth e 4 0 1 (writeSegBytes i) = .settled t) ∧
  (∃ (s t : State) (e : Envelope) (o : ObjRef) (n : Nat), s.gdpAuth e 5 0 1 (clearBytes o n) = .settled t) ∧
  (∃ (s t : State) (e : Envelope) (o : ObjRef), s.gdpAuth e 6 0 1 (subscribeBytes 1 o 0) = .settled t) ∧
  (∃ (s t : State) (e : Envelope) (o : ObjRef), s.gdpAuth e 6 0 1 (subscribeBytes 2 o 0) = .settled t) ∧
  (∃ (s t : State) (e : Envelope) (n : Nat), s.gdpAuth e 6 0 1 (subscribeBytes 3 ⟨0, 0⟩ n) = .settled t) ∧
  (∃ (s t : State) (e : Envelope), s.gdpAuth e 7 0 1 (toBytes 1 5) = .settled t) :=
  ⟨⟨off, by decide⟩,
  ⟨own, env 9, [], by decide, .inl (by decide)⟩,
  ⟨sessd { owner with seen := [1] }, { env 1 with tag := hmac [] (toBytes 8 1 ++ toBytes 8 0) }, [], { owner with seen := [1] },
    by decide, by decide, by rfl, by decide, by decide, by simp [owner]⟩,
  ⟨sessd { owner with highest := 1024, seen := [1], replies := [(1, .reply 1 0 1 0 0 [])] },
    { env 1 with tag := hmac [] (toBytes 8 1 ++ toBytes 8 0) }, [],
    { owner with highest := 1024, seen := [1], replies := [(1, .reply 1 0 1 0 0 [])] }, by decide, rfl, by rfl, by decide,
    by decide⟩,
  ⟨sessd { owner with highest := 1024 }, { env 1 with tag := hmac [] (toBytes 8 1 ++ toBytes 8 0) }, [], _, auths
    { owner with highest := 1024 } ⟨by decide, by decide, by rfl⟩ (by decide)⟩,
  ⟨{ env 1 with version := 2 }, by decide⟩,
  ⟨env 1, by decide⟩,
  ⟨own, own, { env 1 with version := 2 }, [], rfl⟩,
  ⟨own, own, { env 1 with version := 2 }, [], rfl⟩,
  ⟨own, own, { env 1 with version := 2 }, [], rfl⟩,
  ⟨own, own, { env 1 with version := 2 }, ⟨0, 1⟩, 0, 0, rfl⟩,
  ⟨own, own, { env 1 with version := 2 }, seg 0, rfl⟩,
  ⟨own, own, { env 1 with version := 2 }, ⟨0, 1⟩, 0, rfl⟩,
  ⟨own, own, { env 1 with version := 2 }, ⟨0, 1⟩, rfl⟩,
  ⟨own, own, { env 1 with version := 2 }, ⟨0, 1⟩, rfl⟩,
  ⟨own, own, { env 1 with version := 2 }, 0, rfl⟩,
  ⟨own, own, { env 1 with version := 2 }, rfl⟩⟩

theorem witness_Items :
  (∃ (s : State) (e : Envelope) (x : Session) (os : List ObjRef), Requested s e 1 0 os.length (os.flatMap readBytes) x) ∧
  (∃ (s : State) (e : Envelope) (x : Session) (os : List ObjRef), Requested s e 1 2 os.length (os.flatMap readBytes) x) ∧
  (∃ (s : State) (e : Envelope) (x : Session) (os : List WriteItem), Requested s e 2 0 os.length (os.flatMap writeBytes) x) :=
  ⟨⟨own, envR 1 1 0 1 (readBytes ⟨0, 1⟩), _, [⟨0, 1⟩], reqd { owner with role := roleOwner } (by decide +kernel) (by decide)⟩,
  ⟨own, envR 3 1 2 1 (readBytes ⟨0x3011, 1⟩), _, [⟨0x3011, 1⟩], reqd { id := 3, role := roleTenant, tenant := 0, keySlot := 2 }
    (by decide +kernel) (by decide)⟩,
  ⟨own, envR 1 2 0 1 (writeBytes ⟨⟨0, 1⟩, [5]⟩), _, [⟨⟨0, 1⟩, [5]⟩], reqd owner ⟨rfl, by decide, rfl, rfl⟩ (by decide)⟩⟩

theorem witness_Segments :
  (∃ (s : State) (e : Envelope) (x : Session) (o : ObjRef) (off len : Nat), Requested s e 3 0 1 (readSegBytes o off len) x) ∧
  (∃ (s : State) (e : Envelope) (x : Session) (i : SegItem), Requested s e 4 0 1 (writeSegBytes i) x) ∧
  (∃ s : State, s.injections = []) ∧
  (∃ (s : State) (e : Envelope) (x : Session) (o : ObjRef) (k : Nat), Requested s e 5 0 1 (clearBytes o k) x) ∧
  (∃ o : ObjRef, (o = ⟨0x9000, 1⟩ ∨ (0x9100 ≤ o.index ∧ o.index ≤ 0x910C) ∨ (0x9210 ≤ o.index ∧ o.index ≤ 0x9217))) ∧
  (∃ o : ObjRef, (o = ⟨0x9000, 2⟩ ∨ (0x9010 ≤ o.index ∧ o.index ≤ 0x901C) ∨ (0x9200 ≤ o.index ∧ o.index ≤ 0x9207))) ∧
  (∃ o : ObjRef, ((0x41E0 ≤ o.index ∧ o.index ≤ 0x41E7) ∨ (0x8030 ≤ o.index ∧ o.index ≤ 0x803F))) ∧
  (∃ (s : State) (sess : Nat) (o : ObjRef) (x : Session) (q : Staged), s.session? sess = some x ∧ x.transfer (objKey o) = some q
    ∧ s.up < q.heard + 10000000000) ∧
  (∃ (s : State) (sess : Nat) (o : ObjRef) (x : Session) (q : Staged), s.session? sess = some x ∧ x.transfer (objKey o) = some q
    ∧ q.heard + 10000000000 ≤ s.up) ∧
  (∃ (s : State) (sess : Nat) (o : ObjRef), (∀ x, s.session? sess = some x → x.transfer (objKey o) = none)) :=
  ⟨⟨own, envR 1 3 0 1 (readSegBytes ⟨0, 1⟩ 0 0), _, ⟨0, 1⟩, 0, 0, reqd owner ⟨rfl, by decide, rfl, rfl⟩ (by decide)⟩,
  ⟨own, envR 1 4 0 1 (writeSegBytes (seg 23)), _, seg 23, reqd owner ⟨rfl, by decide, rfl, rfl⟩ (by decide)⟩,
  ⟨own, by decide⟩,
  ⟨own, envR 1 5 0 1 (clearBytes ⟨0x9000, 2⟩ 0), _, ⟨0x9000, 2⟩, 0, reqd owner ⟨rfl, by decide, rfl, rfl⟩ (by decide)⟩,
  ⟨⟨0x9217, 1⟩, .inr (.inr (by decide))⟩,
  ⟨⟨0x9207, 1⟩, .inr (.inr (by decide))⟩,
  ⟨⟨0x803F, 1⟩, .inr (by decide)⟩,
  ⟨sessd { owner with staged := [stg] }, 1, ⟨0x7050, 1⟩, { owner with staged := [stg] }, stg, rfl, rfl, by decide⟩,
  ⟨{ sessd { owner with staged := [stg] } with regs := [(Obj.uptime, 10000000000)] }, 1, ⟨0x7050, 1⟩,
    { owner with staged := [stg] }, stg, rfl, rfl, by decide⟩,
  ⟨own, 9, ⟨0, 1⟩, by intro x h; rw [show own.session? 9 = none by decide] at h; cases h⟩⟩

theorem witness_Sessions :
  (∃ s : State, s.gdpUp = false) ∧
  (∃ s : State, s.gdpUp = true ∧ (16 ≤ s.handshakes.length ∨ 64 ≤ s.sessions.length)) ∧
  (∃ (s : State) (k : Nat) (key : List Byte), s.gdpUp = true ∧ s.handshakes.length < 16 ∧ s.sessions.length < 64 ∧ s.slotOpens k
    key = false) ∧
  (∃ (s : State) (k : Nat) (key : List Byte), s.gdpUp = true ∧ s.handshakes.length < 16 ∧ s.sessions.length < 64 ∧ s.slotOpens k
    key = true) ∧
  (∃ s : State, s.device = devRecovery) ∧
  (∃ e : Envelope, e.version ≠ 1) ∧
  (∃ (s : State) (e : Envelope), s.gdpUp = true ∧ e.version = 1 ∧ s.handshakes.find? (fun h => h.id = e.session) = none) ∧
  (∃ (s : State) (e : Envelope) (fl : Nat) (sig : List Byte) (h : Handshake), s.gdpUp = true ∧ e.version = 1 ∧
    s.handshakes.find? (fun h => h.id = e.session) = some h ∧ ¬ ProofRight s e fl sig h) ∧
  (∃ (s : State) (e : Envelope) (fl : Nat) (sig : List Byte) (h : Handshake), s.gdpUp = true ∧ e.version = 1 ∧
    s.handshakes.find? (fun h => h.id = e.session) = some h ∧ ProofRight s e fl sig h ∧ 64 ≤ s.sessions.length) ∧
  (∃ (s : State) (e : Envelope) (fl : Nat) (sig : List Byte) (h : Handshake), s.gdpUp = true ∧ e.version = 1 ∧
    s.handshakes.find? (fun h => h.id = e.session) = some h ∧ ProofRight s e fl sig h ∧ s.sessions.length < 64) ∧
  (∃ (s : State) (e : Envelope) (x : Session), Requested s e 7 0 1 (toBytes 1 5) x) ∧
  (∃ (s : State) (sess : Nat), MayWrite s sess 0x0010 8) ∧
  (∃ (s : State) (id : Nat), (∀ h ∈ s.handshakes, h.id ≠ id ∨ s.up < h.started + 1000000000)) ∧
  (∃ (s : State) (id : Nat) (h : Handshake), h ∈ s.handshakes ∧ h.id = id ∧ h.started + 1000000000 ≤ s.up) :=
  ⟨⟨off, by decide⟩,
  ⟨{ own with handshakes := List.replicate 16 hs }, by decide, by decide⟩,
  ⟨own, 31, [], by decide, by decide, by decide, by decide⟩,
  ⟨keyed, 31, [], by decide, by decide, by decide, by decide +kernel⟩,
  ⟨rg own [(Obj.deviceState, devRecovery)], by decide⟩,
  ⟨{ env 1 with version := 2 }, by decide⟩,
  ⟨own, env 5, by decide, by decide, by decide⟩,
  ⟨{ keyed with handshakes := [hs] }, env 5, 0, [], hs, by decide, by decide, rfl, fun h => absurd h.2.1 (by decide +kernel)⟩,
  ⟨proving 64, envP, 0, rfcSig, { hs with roleKey := rfcKey, transcript := rfcDigest }, by decide, by decide, rfl,
    ⟨by decide +kernel, test_ecdsa_sample, by decide +kernel⟩, by decide +kernel⟩,
  ⟨proving 63, envP, 0, rfcSig, { hs with roleKey := rfcKey, transcript := rfcDigest }, by decide, by decide, rfl,
    ⟨by decide +kernel, test_ecdsa_sample, by decide +kernel⟩, by decide +kernel⟩,
  ⟨own, envR 1 7 0 1 (toBytes 1 5), _, reqd owner ⟨rfl, by decide, rfl, rfl⟩ (by decide)⟩,
  ⟨own, 3, mw rfl⟩,
  ⟨own, 5, by intro h hh; exact absurd hh (by simp [show own.handshakes = [] by decide])⟩,
  ⟨{ rg own [(Obj.uptime, 1000000000)] with handshakes := [hs] }, 5, hs, by simp, by decide, by decide⟩⟩

theorem witness_Notices :
  (∃ (s : State) (e : Envelope) (x : Session) (o : ObjRef), Requested s e 6 0 1 (subscribeBytes 1 o 0) x) ∧
  (∃ (s : State) (e : Envelope) (x : Session) (o : ObjRef), Requested s e 6 0 1 (subscribeBytes 2 o 0) x) ∧
  (∃ (s : State) (e : Envelope) (x : Session) (q : Nat), Requested s e 6 0 1 (subscribeBytes 3 ⟨0, 0⟩ q) x) ∧
  (∃ x : Session, x.queue.length < 256) ∧
  (∃ (x : Session) (fly : List Notice) (a b : Notice) (q : List Notice), x.queue = fly ++ a :: b :: q ∧ fly.length = x.inflight
    ∧ x.queue.length = 256) ∧
  (∃ (s : State) (x : Session), (s.session? x.id).isSome = true) ∧
  (∃ (s : State) (sess : Nat), s.session? sess = none) ∧
  (∃ (s : State) (sess : Nat) (x : Session), s.session? sess = some x) ∧
  (∃ (s : State) (sess : Nat) (x : Session), s.session? sess = some x) :=
  ⟨⟨own, envR 1 6 0 1 (subscribeBytes 1 ⟨0, 1⟩ 0), _, ⟨0, 1⟩, reqd owner ⟨rfl, by decide, rfl, rfl⟩ (by decide)⟩,
  ⟨own, envR 1 6 0 1 (subscribeBytes 2 ⟨0, 1⟩ 0), _, ⟨0, 1⟩, reqd owner ⟨rfl, by decide, rfl, rfl⟩ (by decide)⟩,
  ⟨own, envR 1 6 0 1 (subscribeBytes 3 ⟨0, 0⟩ 1), _, 1, reqd owner ⟨rfl, by decide, rfl, rfl⟩ (by decide)⟩,
  ⟨{ owner with queue := List.replicate 255 nt }, by decide +kernel⟩,
  ⟨{ owner with queue := nt :: nt :: nt :: List.replicate 253 nt, inflight := 1 }, [nt], nt, nt, List.replicate 253 nt, rfl,
    rfl, by decide +kernel⟩,
  ⟨own, owner, by decide⟩,
  ⟨own, 4, by decide⟩,
  ⟨own, 3, _, rfl⟩,
  ⟨own, 3, _, rfl⟩⟩

theorem witness_Ethernet :
  (∃ p : Nat, p < 8) ∧
  (∃ (s : State) (p : Nat), s.ethUp p = false) ∧
  (∃ (s : State) (p : Nat), s.ethUp p = true) ∧
  (∃ (s : State) (p vlan : Nat) (fill : Option Nat) (k : EthKind), s.ethUp p = true ∧ k ≠ .globalPause ∧ k ≠ .uncorrected ∧
    (vlan ≠ s.reg (Obj.vlanId (p / 4)) ∨ fill = none)) ∧
  (∃ (s : State) (p : Nat), s.ethUp p = true) ∧
  (∃ (l : List (Nat × Nat)) (net : Nat), (l.filter fun p => p.1 == net).length ≤ 4096) ∧
  (∃ o : ObjRef, objKey o ≠ Obj.gdpUdpPort) ∧
  (∃ o : ObjRef, objKey o = Obj.gdpUdpPort) ∧
  (∃ (s : State) (p pr : Nat), (s.ethUp p = false ∨ bit (s.reg (Obj.pfcMask (p / 4))) pr = false)) ∧
  (∃ (s : State) (p pr : Nat), s.ethUp p = true ∧ bit (s.reg (Obj.pfcMask (p / 4))) pr = true) :=
  ⟨⟨7, by decide⟩,
  ⟨own, 7, by decide⟩,
  ⟨eth, 7, by decide⟩,
  ⟨eth, 7, 0, none, .other, by decide, by decide, by decide, .inr rfl⟩,
  ⟨eth, 7, by decide⟩,
  ⟨[], 0, by decide⟩,
  ⟨⟨0, 1⟩, by decide⟩,
  ⟨⟨0, 10⟩, by decide⟩,
  ⟨own, 7, 3, by decide⟩,
  ⟨eth, 7, 3, by decide, by decide⟩⟩

theorem witness_RdmaResponder :
  (∃ (s : State) (sess q : Nat) (v : QpSpec), MayWrite s sess (Obj.qpTable q / 256) (Obj.qpTable q % 256) ∧ (s.qp q).spec.state
    = 0 ∧ (v.state = 2 ∨ 2 < v.state ∨ 7 < v.retryCount ∨ (v.altValid = true ∧ v.primary / 4 = v.alternate / 4))) ∧
  (∃ (s : State) (sess q : Nat) (v : QpSpec), MayWrite s sess (Obj.qpTable q / 256) (Obj.qpTable q % 256) ∧ (s.qp q).spec.state
    = 0 ∧ v.state ≤ 1 ∧ v.retryCount ≤ 7 ∧ (v.altValid = false ∨ v.primary / 4 ≠ v.alternate / 4)) ∧
  (∃ (s : State) (sess q : Nat), MayWrite s sess (Obj.qpTable q / 256) (Obj.qpTable q % 256) ∧ (s.qp q).spec.state ≠ 0) ∧
  (∃ (s : State) (q : Nat), (s.qp q).spec.state ≠ 1) ∧
  (∃ (v : Qp) (psn : Nat), v.recvPsn < 2 ^ 24 ∧ psn < 2 ^ 24) ∧
  (∃ (s : State) (q psn : Nat), (s.qp q).spec.state = 1 ∧ (s.qp q).order psn = .gap) ∧
  (∃ (s : State) (q psn rkey : Nat), (s.qp q).spec.state = 1 ∧ s.keyKind (s.qp q).spec.tenant rkey = .foreign ∧ (s.qp q).order
    psn = .next) ∧
  (∃ (s : State) (q psn rkey : Nat), (s.qp q).spec.state = 1 ∧ s.keyKind (s.qp q).spec.tenant rkey = .foreign ∧ (s.qp q).order
    psn ≠ .gap) ∧
  (∃ (s : State) (q psn rkey : Nat), (s.qp q).spec.state = 1 ∧ (s.qp q).order psn = .next ∧ s.keyKind (s.qp q).spec.tenant rkey
    ≠ .foreign) ∧
  (∃ (s : State) (q rkey : Nat),
    let n := (s.qp q).spec.tenant
    s.keyKind n rkey = .tensor) ∧
  (∃ (s : State) (q rkey a : Nat) (d : List Byte),
    let n := (s.qp q).spec.tenant
    s.keyKind n rkey = .window ∧ a % 0x80000 + d.length ≤ 0x80000 ∧ d ≠ [] ∧ s.tenantOfQueue (a / 0x80000) = some n) ∧
  (∃ (s : State) (q rkey a : Nat) (d : List Byte),
    let n := (s.qp q).spec.tenant
    s.keyKind n rkey = .window ∧ a % 0x80000 + d.length ≤ 0x80000 ∧ d ≠ [] ∧ s.tenantOfQueue (a / 0x80000) ≠ some n) ∧
  (∃ (s : State) (q psn rkey : Nat), (s.qp q).spec.state = 1 ∧ (s.qp q).order psn ≠ .gap ∧ s.keyKind (s.qp q).spec.tenant rkey ≠
    .foreign) ∧
  (∃ (s : State) (q psn : Nat), (s.qp q).spec.state = 1 ∧ (s.qp q).order psn = .again ∧ (∃ h ∈ (s.qp q).held, h.1 = psn)) ∧
  (∃ (s : State) (q psn : Nat), (s.qp q).spec.state = 1 ∧ (s.qp q).order psn = .again ∧ (∀ h ∈ (s.qp q).held, h.1 ≠ psn)) ∧
  (∃ (s : State) (q : Nat), (s.qp q).spec.state = 1) ∧
  (∃ (s : State) (n : Nat), (s.tenant n).state = 0) ∧
  (∃ (s : State) (n rkey : Nat), (s.tenant n).state ≠ 0 ∧ rkey = s.reg (Obj.tensorRkey n)) ∧
  (∃ (s : State) (n rkey : Nat), (s.tenant n).state ≠ 0 ∧ rkey ≠ s.reg (Obj.tensorRkey n) ∧ rkey = s.reg (Obj.queueWindowRkey
    n)) ∧
  (∃ (s : State) (n rkey : Nat), rkey ≠ s.reg (Obj.tensorRkey n) ∧ rkey ≠ s.reg (Obj.queueWindowRkey n)) :=
  ⟨⟨own, 1, 1023, { qpOn with state := 3 }, mw rfl, by decide, by decide⟩,
  ⟨own, 1, 1023, { qpOn with altValid := true, alternate := 4 }, mw rfl, by decide, by decide, by decide, by decide⟩,
  ⟨qpd { spec := qpOn }, 1, 1023, mw rfl, by decide⟩,
  ⟨own, 1023, by decide⟩,
  ⟨{}, 2 ^ 24 - 1, by decide, by decide⟩,
  ⟨qpd { spec := qpOn }, 1023, 1, by decide, by decide⟩,
  ⟨qpd { spec := { qpOn with tenant := 15 } }, 1023, 0, 0, by decide, by decide, by decide⟩,
  ⟨qpd { spec := { qpOn with tenant := 15 } }, 1023, 0, 0, by decide, by decide, by decide⟩,
  ⟨qpd { spec := qpOn }, 1023, 0, 0, by decide, by decide, by decide⟩,
  ⟨qpd { spec := qpOn }, 1023, 0, by decide⟩,
  ⟨winQp, 1023, 5, 0x7FFFF, [1], by decide, by decide, by decide, by decide⟩,
  ⟨winQp, 1023, 5, 4 * 0x80000, [1], by decide, by decide, by decide, by decide⟩,
  ⟨qpd { spec := qpOn }, 1023, 0, 0, by decide, by decide, by decide⟩,
  ⟨qpd { spec := qpOn, recvPsn := 1, held := [(0, 0, 0, [])] }, 1023, 0, by decide, by decide, by simp [qpd, State.qp,
    Sparse.get]⟩,
  ⟨qpd { spec := qpOn }, 1023, 2 ^ 23, by decide, by decide, by decide⟩,
  ⟨qpd { spec := qpOn }, 1023, by decide⟩,
  ⟨own, 15, by decide⟩,
  ⟨ran, 0, 0, by decide, by decide⟩,
  ⟨winQp, 0, 5, by decide, by decide, by decide⟩,
  ⟨winQp, 0, 6, by decide, by decide⟩⟩

theorem witness_RdmaRequester :
  (∃ (s : State) (q : Nat), (s.qp q).spec.state ≠ 1) ∧
  (∃ (s : State) (q : Nat), (s.qp q).spec.state = 1) ∧
  (∃ (s : State) (q : Nat), (s.qp q).spec.state = 1) ∧
  (∃ (s : State) (q : Nat), (s.qp q).spec.state = 1 ∧ (s.qp q).outstanding = []) ∧
  (∃ (s : State) (q : Nat), (s.qp q).spec.state = 1 ∧ (s.qp q).outstanding ≠ []) ∧
  (∃ (s : State) (q : Nat), (s.qp q).spec.state = 1 ∧ (s.qp q).rnr = false) ∧
  (∃ (s : State) (q : Nat), (s.qp q).spec.state = 1 ∧ (s.qp q).rnr = true) :=
  ⟨⟨own, 1023, by decide⟩,
  ⟨qpd { spec := qpOn }, 1023, by decide⟩,
  ⟨qpd { spec := qpOn }, 1023, by decide⟩,
  ⟨qpd { spec := qpOn }, 1023, by decide, by decide⟩,
  ⟨qpd { spec := qpOn, outstanding := [(0, 0, cpl)] }, 1023, by decide, by decide⟩,
  ⟨qpd { spec := qpOn }, 1023, by decide, by decide⟩,
  ⟨qpd { spec := qpOn, rnr := true }, 1023, by decide, by decide⟩⟩

theorem witness_StepRunsFront :
  (∃ (s : State) (c : Instr) (rest : List Instr), s.pending = c :: rest) ∧
  (∃ s : State, s.pending = []) ∧
  (∃ s : State, s.device = devOff) ∧
  (∃ s : State, s.device ≠ devOff) :=
  ⟨⟨{ own with pending := [.handshakeTimeout 0] }, .handshakeTimeout 0, [], rfl⟩,
  ⟨own, rfl⟩,
  ⟨off, by decide⟩,
  ⟨own, by decide⟩⟩

theorem witness_StepTakesOne :
  (∃ (i : Instr) (s t : State), exec i s = .next t) ∧
  (∃ s t : State, step s = .next t) :=
  ⟨⟨.handshakeTimeout 0, own, _, rfl⟩,
  ⟨{ own with pending := [.handshakeTimeout 0] }, _, rfl⟩⟩

theorem witness_SessionsStayBounded :
  (∃ s t : State, SessionBounds s ∧ step s = .next t) :=
  ⟨{ own with pending := [.handshakeTimeout 0] }, _, ⟨by decide, by decide⟩, rfl⟩

theorem witness_MemoryCells :
  (∃ o p : Nat, o < 2 ^ 32 ∧ p < 2 ^ 32) ∧
  (∃ s : State, Memory.wf s.mem = true) ∧
  (∃ (o : Nat) (vs : List Byte) (p : Nat), o + vs.length ≤ 2 ^ 32 ∧ p < 2 ^ 32) ∧
  (∃ p : Nat, p < 2 ^ 32) ∧
  (∃ (s : State) (a b p : Nat), p < 2 ^ 32 ∧ a ≠ b ∧ Memory.wf s.mem = true) ∧
  (∃ s : State, Memory.wf s.mem = true) :=
  ⟨⟨2 ^ 32 - 1, 2 ^ 32 - 1, by decide, by decide⟩,
  ⟨own, by decide⟩,
  ⟨2 ^ 32 - 1, [1], 2 ^ 32 - 1, by decide, by decide⟩,
  ⟨2 ^ 32 - 1, by decide⟩,
  ⟨own, 0, 1, 2 ^ 32 - 1, by decide, by decide, by decide⟩,
  ⟨own, by decide⟩⟩

theorem witness_ArbiterSettings :
  (∃ (s : State) (sess : Nat), MayWrite s sess 0x6300 1) ∧
  (∃ k site : Nat, (k = Obj.requesterOffsets site ∨ k = Obj.classFloors site)) ∧
  (∃ (s : State) (sess : Nat), MayWrite s sess 0x6300 1 ∧ 0 < s.gatePeriod ∧ s.schedCount < 256) :=
  ⟨⟨own, 1, mw rfl⟩,
  ⟨Obj.classFloors 0, 0, .inr rfl⟩,
  ⟨own, 1, mw rfl, by decide, by decide⟩⟩

theorem witness_CompletionHead :
  (∃ data : List Byte, data.length = 8) :=
  ⟨List.replicate 8 0, by decide⟩

theorem witness_CutOff :
  (∃ s : State, (∀ i ∈ s.watchedLanes, (s.watch i).suspect = true)) :=
  ⟨{ own with watches := (List.range 6).map fun i => (i, { suspect := true }) }, by decide⟩

theorem witness_IdleSessions :
  (∃ (s : State) (sess : Nat) (x : Session), s.session? sess = some x ∧ x.lastHeard + 60000000000 ≤ s.up) ∧
  (∃ (s : State) (sess : Nat) (x : Session), s.session? sess = some x ∧ s.up < x.lastHeard + 60000000000) ∧
  (∃ (s : State) (sess : Nat), s.session? sess = none) ∧
  (∃ (s : State) (e : Envelope) (m : List Byte) (x : Session), Authentic s e m x) :=
  ⟨⟨rg own [(Obj.uptime, 60000000000)], 3, _, rfl, by decide⟩,
  ⟨rg own [(Obj.uptime, 59999999999)], 3, _, rfl, by decide⟩,
  ⟨own, 4, by decide⟩,
  ⟨own, { env 1 with tag := hmac [] (toBytes 8 1 ++ toBytes 8 0) }, [], _, auths owner ⟨by decide, by decide, by rfl⟩
    (by decide)⟩⟩

theorem witness_Congestion :
  (∃ (s : State) (p : Nat), s.ethUp p = true) ∧
  (∃ (s : State) (q : Nat), (s.qp q).spec.state = 1) ∧
  (∃ (s : State) (q : Nat), (s.qp q).spec.state = 1) ∧
  (∃ (s : State) (q : Nat), (s.qp q).spec.state ≠ 1) :=
  ⟨⟨eth, 7, by decide⟩,
  ⟨qpd { spec := qpOn }, 1023, by decide⟩,
  ⟨qpd { spec := qpOn }, 1023, by decide⟩,
  ⟨own, 1023, by decide⟩⟩

end Sys2Proof.Tests
end

section
/-! The registers of the dies and what the governor may change between two states (R36 to R42). -/

namespace Sys2Proof.Machine

/-- The objects of a compute die that a change of its clock writes (R42): clock_granted_mhz, supply_mv, protective_step_count. -/
def GovernorObj (k : Nat) : Prop :=
  0x4000 ≤ k / 256 ∧ k / 256 < 0x4008 ∧ (k % 256 = 2 ∨ k % 256 = 3 ∨ k % 256 = 7)

theorem governorObj_of_compute {d : Nat} (h : d < 8) :
    GovernorObj (Obj.clockGrantedMhz d) ∧ GovernorObj (Obj.supplyMv d) ∧ GovernorObj (Obj.protectiveStepCount d) := by
  simp only [GovernorObj, Obj.clockGrantedMhz, Obj.supplyMv, Obj.protectiveStepCount, obj]
  omega

/-- No other object this family of commands speaks of is among them. -/
@[simp] theorem not_governorObj (d : Nat) :
    ¬ GovernorObj (Obj.junctionTemp d) ∧ ¬ GovernorObj (Obj.powerMw d) ∧ ¬ GovernorObj (Obj.telemetryState d) ∧
    ¬ GovernorObj Obj.throttleCount ∧ ¬ GovernorObj Obj.deviceState := by
  simp only [GovernorObj, Obj.junctionTemp, Obj.powerMw, Obj.telemetryState, Obj.throttleCount, Obj.deviceState, obj]
  omega

/-- Nor is the clock of a photonic die or of HUB. -/
theorem not_governorObj_clock {d : Nat} (h : 8 ≤ d) (h' : d < 13) : ¬ GovernorObj (Obj.clockGrantedMhz d) := by
  simp only [GovernorObj, Obj.clockGrantedMhz, obj]
  omega

/-- A register write leaves the clocks it does not name alone. -/
theorem State.clock_setReg_other {s : State} {k v d : Nat} (h : Obj.clockGrantedMhz d ≠ k) :
    (s.setReg k v).clock d = s.clock d := State.reg_setReg_other _ _ _ _ h

/-- Writing a die's clock sets that clock and leaves those of the other dies. -/
theorem State.clock_setReg_granted (s : State) (e v d : Nat) :
    (s.setReg (Obj.clockGrantedMhz e) v).clock d = if d = e then v else s.clock d := by
  have key : Obj.clockGrantedMhz d = Obj.clockGrantedMhz e ↔ d = e := by
    simp only [Obj.clockGrantedMhz, obj]; omega
  simp [State.clock, State.reg_setReg, key]

/-- A supply is no clock, and neither is any other object of a die. -/
@[simp] theorem State.clock_setReg_die (s : State) (e v d : Nat) :
    (s.setReg (Obj.supplyMv e) v).clock d = s.clock d ∧ (s.setReg (Obj.telemetryState e) v).clock d = s.clock d ∧
    (s.setReg (Obj.junctionTemp e) v).clock d = s.clock d ∧ (s.setReg (Obj.clockRequestMhz e) v).clock d = s.clock d := by
  refine ⟨?_, ?_, ?_, ?_⟩ <;> refine State.clock_setReg_other ?_ <;>
    simp only [Obj.clockGrantedMhz, Obj.supplyMv, Obj.telemetryState, Obj.junctionTemp, Obj.clockRequestMhz, obj] <;> omega

/-- Nor is a count of protective steps. -/
@[simp] theorem State.clock_count_step (s : State) (w e d : Nat) :
    (s.count w (Obj.protectiveStepCount e)).clock d = s.clock d :=
  State.clock_setReg_other (by simp only [Obj.clockGrantedMhz, Obj.protectiveStepCount, obj]; omega)

/-- Nor the count of throttles. -/
@[simp] theorem State.clock_count_throttle (s : State) (w d : Nat) : (s.count w Obj.throttleCount).clock d = s.clock d :=
  State.clock_setReg_other (by simp only [Obj.clockGrantedMhz, Obj.throttleCount, obj]; omega)

/-! What the governor may change -/

/-- Between two states only registers, the governor's own record and the heaters' feed-forward differ. -/
def GovernorFrame (s t : State) : Prop := ∃ m g h, t = { s with regs := m, gov := g, heaters := h }

theorem GovernorFrame.refl (s : State) : GovernorFrame s s := ⟨s.regs, s.gov, s.heaters, rfl⟩

theorem GovernorFrame.trans {s t u : State} : GovernorFrame s t → GovernorFrame t u → GovernorFrame s u := by
  rintro ⟨m, g, h, rfl⟩ ⟨m', g', h', rfl⟩
  exact ⟨m', g', h', rfl⟩

theorem GovernorFrame.kept {s t : State} (h : GovernorFrame s t) : t.mem = s.mem ∧ t.tenants = s.tenants ∧ t.pending = s.pending := by
  obtain ⟨m, g, h, rfl⟩ := h
  exact ⟨rfl, rfl, rfl⟩

/-- The governor has moved clocks: it wrote the objects of `GovernorObj` alone, and throttles the same dies. -/
def MovesClocks (s t : State) : Prop :=
  GovernorFrame s t ∧ (∀ k, ¬ GovernorObj k → t.reg k = s.reg k) ∧ t.gov.throttled = s.gov.throttled

theorem MovesClocks.refl (s : State) : MovesClocks s s := ⟨.refl s, fun _ _ => rfl, rfl⟩

theorem MovesClocks.trans {s t u : State} : MovesClocks s t → MovesClocks t u → MovesClocks s u := by
  rintro ⟨hf, hr, ht⟩ ⟨hf', hr', ht'⟩
  exact ⟨hf.trans hf', fun k hk => (hr' k hk).trans (hr k hk), ht'.trans ht⟩

/-- A fold of steps that move clocks moves clocks. -/
theorem MovesClocks.foldl {α : Type} {f : State → α → State} {l : List α} {s t : State} (hs : MovesClocks s t)
    (h : ∀ u, ∀ a ∈ l, MovesClocks u (f u a)) : MovesClocks s (l.foldl f t) :=
  List.foldlRecOn l f hs fun u hu a ha => hu.trans (h u a ha)

theorem MovesClocks.setReg (s : State) {k : Nat} (v : Nat) (hk : GovernorObj k) : MovesClocks s (s.setReg k v) :=
  ⟨⟨_, s.gov, s.heaters, rfl⟩, fun _ hj => State.reg_setReg_other _ _ _ _ fun e => hj (e ▸ hk), rfl⟩

/-- A record of the governor with the same dies throttled. -/
theorem MovesClocks.setGov (s : State) {g : Gov} (hg : g.throttled = s.gov.throttled) : MovesClocks s { s with gov := g } :=
  ⟨⟨s.regs, g, s.heaters, rfl⟩, fun _ _ => rfl, hg⟩

theorem MovesClocks.device {s t : State} (h : MovesClocks s t) : t.device = s.device := h.2.1 _ (not_governorObj 0).2.2.2.2

/-- The clocks of the photonic dies and of HUB stand. -/
theorem MovesClocks.clock_fixed {s t : State} (h : MovesClocks s t) {d : Nat} (hd : 8 ≤ d) (hd' : d < 13) : t.clock d = s.clock d :=
  h.2.1 _ (not_governorObj_clock hd hd')

end Sys2Proof.Machine
end

section
/-! A set of eight clocks, and the dies after it is applied (R36, R37). -/

namespace Sys2Proof.Machine

/-- A die's clock in a set that is given die by die. -/
theorem clockAt_map_range (f : Nat → Nat) {d : Nat} (h : d < 8) : clockAt ((List.range 8).map f) d = f d := by
  simp [clockAt, h]

/-- Changing one clock of a set. -/
theorem clockAt_set_same {t : List Nat} {d : Nat} (h : d < t.length) (v : Nat) : clockAt (t.set d v) d = v := by
  simp [clockAt, h]

/-- Every round of R37 lowers clocks or leaves them, so all rounds together do. -/
theorem clockAt_settleSet_le (t : List Nat) {d : Nat} (h : d < 8) : clockAt (settleSet t) d ≤ clockAt t d := by
  unfold settleSet
  refine List.foldlRecOn (motive := fun u => clockAt u d ≤ clockAt t d) _ _ (Nat.le_refl _) fun u hu _ _ => ?_
  rw [clockAt_map_range _ h]
  exact Nat.le_trans (Nat.min_le_left _ _) hu

theorem mem_insertBy {key : Nat → Nat} {x y : Nat} {l : List Nat} : y ∈ insertBy key x l ↔ y = x ∨ y ∈ l := by
  induction l with
  | nil => simp [insertBy]
  | cons z l ih =>
    unfold insertBy
    split
    · simp
    · simp only [List.mem_cons, ih]
      exact or_left_comm

/-- The order of a key lists the eight compute dies. -/
theorem mem_diesBy {key : Nat → Nat} {d : Nat} : d ∈ diesBy key ↔ d < 8 := by
  have fold : ∀ xs l : List Nat, d ∈ xs.foldl (fun l e => insertBy key e l) l ↔ d ∈ xs ∨ d ∈ l := by
    intro xs
    induction xs with
    | nil => simp
    | cons x xs ih =>
      intro l
      rw [List.foldl_cons, ih, mem_insertBy, List.mem_cons]
      exact or_left_comm.trans or_assoc.symm
  simp [diesBy, fold]

/-- A fold whose step at a die changes the clock of that die alone, to a value where the step rests: every die listed has taken
its step, and no other clock has moved. -/
theorem State.clock_foldl {f : State → Nat → State} {op : Nat → Nat → Nat} (d : Nat)
    (hf : ∀ u e, (f u e).clock d = if d = e then op d (u.clock d) else u.clock d)
    (rest : ∀ c, op d (op d c) = op d c) (l : List Nat) (s : State) :
    (l.foldl f s).clock d = if d ∈ l then op d (s.clock d) else s.clock d := by
  induction l generalizing s with
  | nil => simp
  | cons e l ih =>
    rw [List.foldl_cons, ih, hf]
    by_cases hd : d = e
    · subst hd; simp [rest]
    · simp [hd]

/-- A step that writes a die's clock where a condition holds, to the clock of a set. -/
theorem State.clock_ite_setReg (u : State) (t : List Nat) (e d : Nat) (p : Prop) [Decidable p] :
    (if p then u.setReg (Obj.clockGrantedMhz e) (clockAt t e) else u).clock d =
      if d = e ∧ p then clockAt t e else u.clock d := by
  by_cases hp : p <;> simp [hp, State.clock_setReg_granted]

/-- After a set is applied every compute die runs at its clock of the set (R36). -/
theorem State.clock_applySet (s : State) (t : List Nat) {d : Nat} (h : d < 8) : (s.applySet t).clock d = clockAt t d := by
  have supply : ∀ (p : State → Nat → Prop) [∀ u e, Decidable (p u e)] (v : Nat → Nat) (l : List Nat) (u : State),
      (l.foldl (fun u e => if p u e then u.setReg (Obj.supplyMv e) (v e) else u) u).clock d = u.clock d := by
    intro p _ v l u
    refine List.foldlRecOn (motive := fun w => State.clock w d = u.clock d) _ _ rfl fun w hw e _ => ?_
    split
    · rw [(State.clock_setReg_die _ _ _ _).1, hw]
    · exact hw
  unfold State.applySet
  rw [State.clock_foldl d (op := fun e c => max c (clockAt t e)), if_pos (mem_diesBy.2 h), supply, supply,
    State.clock_foldl d (op := fun e c => min c (clockAt t e)), if_pos (List.mem_reverse.2 (mem_diesBy.2 h))]
  · omega
  · intro u e
    rw [State.clock_ite_setReg]
    grind
  · intro c; omega
  · intro u e
    rw [State.clock_ite_setReg]
    grind
  · intro c; omega

/-- Applying a set moves clocks and supplies of the compute dies, and nothing else. -/
theorem State.applySet_moves (s : State) (t : List Nat) : MovesClocks s (s.applySet t) := by
  have step : ∀ (u : State) (p : Prop) [Decidable p] (k v : Nat), GovernorObj k → MovesClocks u (if p then u.setReg k v else u) := by
    intro u p _ k v hk
    split
    · exact .setReg u v hk
    · exact .refl u
  refine .foldl (.foldl (.foldl (.foldl (.refl s) fun u e he => ?_) fun u e he => ?_) fun u e he => ?_) fun u e he => ?_
  · exact step _ _ _ _ (governorObj_of_compute (mem_diesBy.1 (List.mem_reverse.1 he))).1
  · exact step _ _ _ _ (governorObj_of_compute (List.mem_range.1 he)).2.1
  · exact step _ _ _ _ (governorObj_of_compute (List.mem_range.1 he)).2.1
  · exact step _ _ _ _ (governorObj_of_compute (mem_diesBy.1 he)).1

/-- Counting a protective step moves no clock (R38). -/
theorem State.clock_noteStep (s : State) (e d : Nat) : (s.noteStep e).clock d = s.clock d := by
  have counted : (s.count 32 (Obj.protectiveStepCount e)).clock d = s.clock d := by simp
  unfold State.noteStep
  dsimp only
  split <;> exact counted

theorem State.noteStep_moves (s : State) {d : Nat} (h : d < 8) : MovesClocks s (s.noteStep d) := by
  have counted : MovesClocks s (s.count 32 (Obj.protectiveStepCount d)) := .setReg s _ (governorObj_of_compute h).2.2
  unfold State.noteStep
  dsimp only
  split
  · exact counted
  · exact counted.trans (.setGov _ rfl)

/-- Lowering toward a set moves clocks, supplies and step counts of the compute dies, and nothing else (R39). -/
theorem State.lowerSet_moves (s : State) (t : List Nat) (own : Nat → Bool) : MovesClocks s (s.lowerSet t own) :=
  .trans (.foldl (.refl s) fun _ _ hd => State.noteStep_moves _ (List.mem_range.1 (List.mem_filter.1 hd).1))
    (State.applySet_moves _ _)

/-- A compute die ends at the settled minimum of its clock and the set's (R37). -/
theorem State.clock_lowerSet (s : State) (t : List Nat) (own : Nat → Bool) {d : Nat} (h : d < 8) :
    (s.lowerSet t own).clock d = clockAt (settleSet ((List.range 8).map fun e => min (s.clock e) (clockAt t e))) d :=
  State.clock_applySet _ _ h

theorem State.clock_lowerSet_le_min (s : State) (t : List Nat) (own : Nat → Bool) {d : Nat} (h : d < 8) :
    (s.lowerSet t own).clock d ≤ min (s.clock d) (clockAt t d) :=
  calc (s.lowerSet t own).clock d
      = clockAt (settleSet ((List.range 8).map fun e => min (s.clock e) (clockAt t e))) d := s.clock_lowerSet t own h
    _ ≤ clockAt ((List.range 8).map fun e => min (s.clock e) (clockAt t e)) d := clockAt_settleSet_le _ h
    _ = min (s.clock d) (clockAt t d) := clockAt_map_range _ h

/-- No die's clock rises (R39). -/
theorem State.clock_lowerSet_le (s : State) (t : List Nat) (own : Nat → Bool) {d : Nat} (h : d < 13) :
    (s.lowerSet t own).clock d ≤ s.clock d := by
  rcases Nat.lt_or_ge d 8 with hd | hd
  · exact Nat.le_trans (s.clock_lowerSet_le_min t own hd) (Nat.min_le_left _ _)
  · exact Nat.le_of_eq ((s.lowerSet_moves t own).clock_fixed hd h)

/-- A compute die runs no faster than the set says. -/
theorem State.clock_lowerSet_le_clockAt (s : State) (t : List Nat) (own : Nat → Bool) {d : Nat} (h : d < 8) :
    (s.lowerSet t own).clock d ≤ clockAt t d :=
  Nat.le_trans (s.clock_lowerSet_le_min t own h) (Nat.min_le_right _ _)

/-- Settles O6: settling takes minima, and a set that is applied puts each compute die exactly at its clock in the settled set. -/
theorem pairLimitsOnlyLowerClocks : Obligations.PairLimitsOnlyLowerClocks :=
  ⟨fun t _ hd => clockAt_settleSet_le t hd, fun s t own _ hd => s.clock_lowerSet_le t own hd,
    fun s t own _ hd => s.clock_lowerSet_le_clockAt t own hd⟩

end Sys2Proof.Machine
end

section
/-! The governor's sample: telemetry taken and missed, and the moves it leads to (R36, R40, R69, R70, R75, R76). -/

namespace Sys2Proof.Machine

/-- The registers after a die's telemetry is taken (R36). -/
theorem State.reg_takeTelemetry (s : State) (x : DieSample) (k : Nat) :
    (s.takeTelemetry x).reg k =
      if k = Obj.powerMw x.die then x.powerMw else if k = Obj.junctionTemp x.die then wrapInt 32 x.temp else s.reg k := by
  show ((s.setReg (Obj.junctionTemp x.die) (wrapInt 32 x.temp)).setReg (Obj.powerMw x.die) x.powerMw).reg k = _
  simp only [State.reg_setReg]

/-- Telemetry of several dies leaves a register alone that none of them writes. -/
theorem State.reg_foldl_takeTelemetry_other {k : Nat} {xs : List DieSample}
    (h : ∀ x ∈ xs, k ≠ Obj.powerMw x.die ∧ k ≠ Obj.junctionTemp x.die) (s : State) :
    (xs.foldl (fun t x => t.takeTelemetry x) s).reg k = s.reg k :=
  List.foldlRecOn (motive := fun t => State.reg t k = s.reg k) xs _ rfl fun t ht x hx => by
    rw [State.reg_takeTelemetry, if_neg (h x hx).1, if_neg (h x hx).2, ht]

/-- The temperature and the power of one die stand apart from those of another. -/
theorem telemetryObj_ne {d e : Nat} (h : d ≠ e) :
    (Obj.junctionTemp d ≠ Obj.powerMw e ∧ Obj.junctionTemp d ≠ Obj.junctionTemp e) ∧
    Obj.powerMw d ≠ Obj.powerMw e ∧ Obj.powerMw d ≠ Obj.junctionTemp e := by
  simp only [Obj.junctionTemp, Obj.powerMw, obj]
  omega

/-- Each die named once has its temperature and its power of the sample. -/
theorem State.reg_foldl_takeTelemetry {xs : List DieSample} (hn : (xs.map (·.die)).Nodup) (s : State) {x : DieSample} (hx : x ∈ xs) :
    (xs.foldl (fun t x => t.takeTelemetry x) s).reg (Obj.junctionTemp x.die) = wrapInt 32 x.temp ∧
    (xs.foldl (fun t x => t.takeTelemetry x) s).reg (Obj.powerMw x.die) = x.powerMw := by
  induction xs generalizing s with
  | nil => simp at hx
  | cons y ys ih =>
    obtain ⟨hy, hn⟩ := List.nodup_cons.1 hn
    rw [List.foldl_cons]
    rcases List.mem_cons.1 hx with rfl | hx
    · have apart : ∀ z ∈ ys, x.die ≠ z.die := fun z hz e => hy (List.mem_map.2 ⟨z, hz, e.symm⟩)
      have own : Obj.junctionTemp x.die ≠ Obj.powerMw x.die := by simp only [Obj.junctionTemp, Obj.powerMw, obj]; omega
      rw [State.reg_foldl_takeTelemetry_other fun z hz => (telemetryObj_ne (apart z hz)).1,
        State.reg_foldl_takeTelemetry_other fun z hz => (telemetryObj_ne (apart z hz)).2]
      simp [State.reg_takeTelemetry, own]
    · exact ih hn _ hx

/-- The state in which the governor has taken a sample: its dies' telemetry, and a miss for every other die (R40). -/
def State.sampled (s : State) (xs : List DieSample) : State :=
  ((List.range 13).filter fun d => !(xs.any fun x => x.die == d)).foldl (fun t d => t.missTelemetry d)
    (xs.foldl (fun t x => t.takeTelemetry x) s)

/-- A miss is noted in the governor's record. -/
theorem State.missTelemetry_moves (s : State) (d : Nat) : MovesClocks s (s.missTelemetry d) := .setGov s rfl

/-- The misses write no register. -/
theorem State.sampled_moves (s : State) (xs : List DieSample) : MovesClocks (xs.foldl (fun t x => t.takeTelemetry x) s) (s.sampled xs) :=
  .foldl (.refl _) fun t d _ => t.missTelemetry_moves d

theorem State.foldl_takeTelemetry_frame (s : State) (xs : List DieSample) :
    GovernorFrame s (xs.foldl (fun t x => t.takeTelemetry x) s) :=
  List.foldlRecOn (motive := GovernorFrame s) xs _ (.refl s) fun _ ht _ _ => ht.trans ⟨_, _, _, rfl⟩

/-- The feed-forward of the photonic dies turns heaters and nothing else (R419). -/
theorem State.feedForward_moves (s old : State) : MovesClocks s (s.feedForward old) :=
  .foldl (.refl s) fun t _ _ => ⟨⟨t.regs, t.gov, _, rfl⟩, fun _ _ => rfl, rfl⟩

theorem State.followPower_moves (s : State) : MovesClocks s s.followPower := by
  unfold State.followPower
  split
  · exact (State.lowerSet_moves _ _ _).trans (.setGov _ rfl)
  · split
    · exact (State.applySet_moves _ _).trans (.setGov _ rfl)
    · exact .refl s

/-- What the governor does after a sample moves clocks alone (R37, R40, R69, R70, R419). -/
theorem State.governed_moves (s old : State) : MovesClocks s ((s.watchPairs.coolPairs.followPower).feedForward old) :=
  have watched : MovesClocks s s.watchPairs := .setGov s rfl
  ((watched.trans (State.lowerSet_moves _ _ _)).trans (State.followPower_moves _)).trans (State.feedForward_moves _ _)

section
variable {s : State} {xs : List DieSample}

/-- A sample of valid telemetry that reaches 115 °C stops the package (R76). -/
theorem execGovernorSample_stops (hoff : s.device ≠ devOff) (hhalt : s.device ≠ devHalted)
    (hxs : ∀ x ∈ xs, x.die < 13 ∧ x.valid = true) {x : DieSample} (hx : xs.find? (fun x => decide (11500 ≤ x.temp)) = some x) :
    exec (.governorSample xs) s = .next ((s.sampled xs).limitStop (regulationId x.die) 3) := by
  have all : (xs.filter fun x => decide (x.die < 13) && x.valid) = xs := List.filter_eq_self.2 fun x hx => by simp [hxs x hx]
  show execGovernorSample xs s = _
  unfold execGovernorSample
  rw [if_neg (not_or.2 ⟨hoff, hhalt⟩)]
  simp only [all, hx, State.sampled]

/-- A sample of valid telemetry in which every die is below 100 °C moves clocks alone. -/
theorem execGovernorSample_governs (hoff : s.device ≠ devOff) (hhalt : s.device ≠ devHalted)
    (hxs : ∀ x ∈ xs, x.die < 13 ∧ x.temp < 10000 ∧ x.valid = true) :
    exec (.governorSample xs) s = .next (((s.sampled xs).watchPairs.coolPairs.followPower).feedForward s) := by
  have all : (xs.filter fun x => decide (x.die < 13) && x.valid) = xs :=
    List.filter_eq_self.2 fun x hx => by simp [hxs x hx]
  have cool : xs.find? (fun x => decide (11500 ≤ x.temp)) = none :=
    List.find?_eq_none.2 fun x hx hot => by
      have below := (hxs x hx).2.1
      have above := of_decide_eq_true hot
      omega
  have none_over : ∀ t : State, xs.foldl (fun t x => State.overtemp s t x) t = t := fun t =>
    List.foldlRecOn (motive := fun u => u = t) xs _ rfl fun u hu x hx => by
      have := (hxs x hx).2.1
      rw [State.overtemp, if_neg (by omega), hu]
  show execGovernorSample xs s = _
  unfold execGovernorSample
  rw [if_neg (not_or.2 ⟨hoff, hhalt⟩)]
  simp only [all, cool, none_over, State.sampled]

/-- GOVERNOR_SAMPLE of dies named once, all below 100 °C (R36). -/
theorem governorSample_effect (hoff : s.device ≠ devOff) (hhalt : s.device ≠ devHalted) (hn : (xs.map (·.die)).Nodup)
    (hxs : ∀ x ∈ xs, x.die < 13 ∧ x.temp < 10000 ∧ x.valid = true) : ∃ t, exec (.governorSample xs) s = .next t ∧
      (∀ x ∈ xs, t.reg (Obj.junctionTemp x.die) = wrapInt 32 x.temp ∧ t.reg (Obj.powerMw x.die) = x.powerMw) ∧
      (∀ d, d < 13 → (∀ x ∈ xs, x.die ≠ d) → t.reg (Obj.junctionTemp d) = s.reg (Obj.junctionTemp d)) ∧
      t.device = s.device ∧ t.mem = s.mem ∧ t.tenants = s.tenants ∧ t.pending = s.pending := by
  have moves := (s.sampled_moves xs).trans ((s.sampled xs).governed_moves s)
  obtain ⟨moved, same, -⟩ := moves
  refine ⟨_, execGovernorSample_governs hoff hhalt hxs, fun x hx => ?_, fun d _ hd => ?_, ?_,
    ((s.foldl_takeTelemetry_frame xs).trans moved).kept⟩
  · rw [same _ (not_governorObj _).1, same _ (not_governorObj _).2.1]
    exact State.reg_foldl_takeTelemetry hn s hx
  · rw [same _ (not_governorObj _).1]
    exact State.reg_foldl_takeTelemetry_other (fun x hx => (telemetryObj_ne (hd x hx).symm).1) s
  · refine (same _ (not_governorObj 0).2.2.2.2).trans (State.reg_foldl_takeTelemetry_other (fun x _ => ?_) s)
    simp only [Obj.deviceState, Obj.powerMw, Obj.junctionTemp, obj]
    omega

end

/-- GOVERNOR_SAMPLE of one die at 115 °C or above (R76). -/
theorem governorSample_hot {s : State} {x : DieSample} (hoff : s.device ≠ devOff) (hhalt : s.device ≠ devHalted) (hd : x.die < 13)
    (hv : x.valid = true) (ht : 11500 ≤ x.temp) :
    exec (.governorSample [x]) s = .next ((((List.range 13).filter fun d => x.die != d).foldl (fun t d => t.missTelemetry d)
      (s.takeTelemetry x)).limitStop (regulationId x.die) 3) := by
  have hot := execGovernorSample_stops hoff hhalt (xs := [x]) (by simp [hd, hv]) (x := x) (by simp [ht])
  simpa [State.sampled, bne] using hot

end Sys2Proof.Machine
end

section
/-! Telemetry lost and restored (R40, R22). -/

namespace Sys2Proof.Machine

/-- A neighbour of a die whose telemetry is invalid is allowed 960 MHz at most. -/
theorem State.telemetryCap_le_of_neighbour {s : State} {d e : Nat} (hd : d < 13) (hs : s.reg (Obj.telemetryState d) = 1)
    (he : e ∈ computeNeighbours d) : s.telemetryCap e ≤ 960 := by
  have lost : ((List.range 13).any fun e' => s.reg (Obj.telemetryState e') == 1 && (computeNeighbours e').contains e) = true :=
    List.any_eq_true.2 ⟨d, List.mem_range.2 hd, by simp [hs, he]⟩
  unfold State.telemetryCap
  rw [if_pos lost]
  split <;> omega

/-- Lowering to what telemetry allows brings every compute die to its cap. -/
theorem State.clock_underTelemetry_le (s : State) (t : List Nat) (own : Nat → Bool) {d : Nat} (h : d < 8) :
    (s.lowerSet (s.underTelemetry t) own).clock d ≤ s.telemetryCap d :=
  calc (s.lowerSet (s.underTelemetry t) own).clock d
      ≤ clockAt (s.underTelemetry t) d := s.clock_lowerSet_le_clockAt _ own h
    _ = min (clockAt t d) (s.telemetryCap d) := clockAt_map_range _ h
    _ ≤ s.telemetryCap d := Nat.min_le_right _ _

/-- The state in which a die's telemetry is marked invalid, a photonic die or HUB at 600 MHz (R40). -/
def State.markInvalid (s : State) (die : Nat) : State :=
  let s1 := s.setReg (Obj.telemetryState die) 1
  if die < 8 then s1 else (s1.setClock die 600).count 32 (Obj.protectiveStepCount die)

/-- The state in which the clocks follow the loss of a die's telemetry. -/
def State.dropTelemetry (s : State) (die : Nat) : State :=
  (s.markInvalid die).lowerSet ((s.markInvalid die).underTelemetry (s.markInvalid die).clockSet) fun _ => false

theorem State.dropTelemetry_moves (s : State) (die : Nat) : MovesClocks (s.markInvalid die) (s.dropTelemetry die) :=
  State.lowerSet_moves _ _ _

/-- A compute die runs no faster than its telemetry and its neighbours' allow. -/
theorem State.clock_dropTelemetry_le (s : State) (die : Nat) {e : Nat} (h : e < 8) :
    (s.dropTelemetry die).clock e ≤ (s.markInvalid die).telemetryCap e := State.clock_underTelemetry_le _ _ _ h

/-- Setting a die's clock and supply at once changes no other clock. -/
theorem State.clock_setClock (s : State) (e mhz d : Nat) : (s.setClock e mhz).clock d = if d = e then mhz else s.clock d := by
  rw [State.setClock, (State.clock_setReg_die _ _ _ _).1, State.clock_setReg_granted]

theorem State.clock_markInvalid_compute {s : State} {die : Nat} (h : die < 8) (e : Nat) : (s.markInvalid die).clock e = s.clock e := by
  simp [State.markInvalid, h]

theorem State.clock_markInvalid_fixed {s : State} {die : Nat} (h : 8 ≤ die) (e : Nat) :
    (s.markInvalid die).clock e = if e = die then 600 else s.clock e := by
  simp [State.markInvalid, Nat.not_lt.2 h, State.clock_setClock]

theorem State.markInvalid_state (s : State) (die : Nat) : (s.markInvalid die).reg (Obj.telemetryState die) = 1 := by
  have other : Obj.telemetryState die ≠ Obj.protectiveStepCount die ∧ Obj.telemetryState die ≠ Obj.supplyMv die ∧
      Obj.telemetryState die ≠ Obj.clockGrantedMhz die := by
    simp only [Obj.telemetryState, Obj.protectiveStepCount, Obj.supplyMv, Obj.clockGrantedMhz, obj]; omega
  unfold State.markInvalid
  dsimp only
  split
  · exact State.reg_setReg_same _ _ _
  · simp [State.reg_count, State.setClock, State.reg_setReg, other]

theorem State.markInvalid_kept (s : State) (die : Nat) : (s.markInvalid die).device = s.device ∧
    (s.markInvalid die).mem = s.mem ∧ (s.markInvalid die).pending = s.pending := by
  have other : Obj.deviceState ≠ Obj.telemetryState die ∧ Obj.deviceState ≠ Obj.protectiveStepCount die ∧
      Obj.deviceState ≠ Obj.supplyMv die ∧ Obj.deviceState ≠ Obj.clockGrantedMhz die := by
    simp only [Obj.deviceState, Obj.telemetryState, Obj.protectiveStepCount, Obj.supplyMv, Obj.clockGrantedMhz, obj]; omega
  unfold State.markInvalid
  dsimp only
  split
  · exact ⟨State.reg_setReg_other _ _ _ _ other.1, rfl, rfl⟩
  · refine ⟨?_, rfl, rfl⟩
    simp [State.device, State.reg_count, State.setClock, State.reg_setReg, other]

section
variable {s : State} {die : Nat}

theorem execTelemetryInvalid_lost (hd : die < 13) (hm : 3 ≤ Sparse.get 0 die s.gov.missing)
    (hs : s.reg (Obj.telemetryState die) ≠ 1) :
    exec (.telemetryInvalid die) s = .next ((s.dropTelemetry die).report (blockReport 1 16 (regulationId die))) := by
  show execTelemetryInvalid die s = _
  unfold execTelemetryInvalid
  rw [if_neg (by omega)]
  rfl

/-- What the loss of a die's telemetry leaves, of a compute die and of another alike. -/
theorem dropTelemetry_effect (s : State) (hd : die < 13) :
    (s.dropTelemetry die).reg (Obj.telemetryState die) = 1 ∧
    (∀ e, e ∈ computeNeighbours die → e < 8 → (s.dropTelemetry die).clock e ≤ 960) ∧
    (∀ e, e < 13 → (s.dropTelemetry die).clock e ≤ (s.markInvalid die).clock e) ∧
    (s.dropTelemetry die).device = s.device ∧ (s.dropTelemetry die).mem = s.mem ∧ (s.dropTelemetry die).pending = s.pending := by
  have moves := s.dropTelemetry_moves die
  obtain ⟨hmem, -, hpend⟩ := moves.1.kept
  obtain ⟨kdev, kmem, kpend⟩ := s.markInvalid_kept die
  refine ⟨(moves.2.1 _ (not_governorObj die).2.2.1).trans (s.markInvalid_state die), fun e he h8 => ?_,
    fun e he => State.clock_lowerSet_le _ _ _ he, moves.device.trans kdev, hmem.trans kmem, hpend.trans kpend⟩
  exact Nat.le_trans (s.clock_dropTelemetry_le die h8)
    (State.telemetryCap_le_of_neighbour hd (s.markInvalid_state die) he)

/-- TELEMETRY_INVALID of a compute die (R40). -/
theorem telemetryInvalid_compute (hd : die < 8) (hm : 3 ≤ Sparse.get 0 die s.gov.missing) (hs : s.reg (Obj.telemetryState die) ≠ 1) :
    ∃ u : State, exec (.telemetryInvalid die) s = .next (u.report (blockReport 1 16 (regulationId die))) ∧
      u.reg (Obj.telemetryState die) = 1 ∧ u.clock die ≤ 600 ∧ (∀ e, e ∈ computeNeighbours die → e < 8 → u.clock e ≤ 960) ∧
      (∀ e, e < 13 → u.clock e ≤ s.clock e) ∧ u.device = s.device ∧ u.mem = s.mem ∧ u.pending = s.pending := by
  obtain ⟨state, near, lower, kept⟩ := dropTelemetry_effect s (die := die) (by omega)
  have cap : (s.markInvalid die).telemetryCap die = 600 := by rw [State.telemetryCap, if_pos (s.markInvalid_state die)]
  exact ⟨_, execTelemetryInvalid_lost (by omega) hm hs, state, Nat.le_trans (s.clock_dropTelemetry_le die hd) (Nat.le_of_eq cap),
    near, fun e he => Nat.le_trans (lower e he) (Nat.le_of_eq (State.clock_markInvalid_compute hd e)), kept⟩

/-- TELEMETRY_INVALID of a photonic die or of HUB (R40). -/
theorem telemetryInvalid_fixed (h8 : 8 ≤ die) (hd : die < 13) (hm : 3 ≤ Sparse.get 0 die s.gov.missing)
    (hs : s.reg (Obj.telemetryState die) ≠ 1) :
    ∃ u : State, exec (.telemetryInvalid die) s = .next (u.report (blockReport 1 16 (regulationId die))) ∧
      u.reg (Obj.telemetryState die) = 1 ∧ u.clock die = 600 ∧ (∀ e, e ∈ computeNeighbours die → e < 8 → u.clock e ≤ 960) ∧
      (∀ e, e < 13 → e ≠ die → u.clock e ≤ s.clock e) ∧ u.device = s.device ∧ u.mem = s.mem ∧ u.pending = s.pending := by
  obtain ⟨state, near, lower, kept⟩ := dropTelemetry_effect s hd
  refine ⟨_, execTelemetryInvalid_lost hd hm hs, state, ?_, near, fun e he hne => ?_, kept⟩
  · rw [(s.dropTelemetry_moves die).clock_fixed h8 hd, State.clock_markInvalid_fixed h8, if_pos rfl]
  · have := lower e he
    rwa [State.clock_markInvalid_fixed h8, if_neg hne] at this

/-- TELEMETRY_VALID_RESTORE of a compute die (R40). -/
theorem telemetryValidRestore_compute (hd : die < 8) (hv : 16 ≤ Sparse.get 0 die s.gov.valid)
    (hs : s.reg (Obj.telemetryState die) = 1) : ∃ t, exec (.telemetryValidRestore die) s = .next t ∧
      t.reg (Obj.telemetryState die) = 0 ∧ OnlyRegs [Obj.telemetryState die] s t := by
  refine ⟨s.setReg (Obj.telemetryState die) 0, ?_, State.reg_setReg_same _ _ _,
    fun k hk => State.reg_setReg_other _ _ _ _ (by simpa using hk), rfl⟩
  show execTelemetryValidRestore die s = _
  rw [execTelemetryValidRestore, if_neg (by omega)]
  exact congrArg Host.Outcome.next (if_pos hd)

/-- TELEMETRY_VALID_RESTORE of a photonic die or of HUB, which goes back to its fixed clock (R22). -/
theorem telemetryValidRestore_fixed (hd : 8 ≤ die) (hv : 16 ≤ Sparse.get 0 die s.gov.valid)
    (hs : s.reg (Obj.telemetryState die) = 1) : ∃ t, exec (.telemetryValidRestore die) s = .next t ∧
      t.clock die = 2100 ∧ t.reg (Obj.supplyMv die) = 900 ∧
      OnlyRegs [Obj.telemetryState die, Obj.clockGrantedMhz die, Obj.supplyMv die] s t := by
  refine ⟨(s.setReg (Obj.telemetryState die) 0).setClock die 2100, ?_, ?_, State.reg_setReg_same _ _ _, fun k hk => ?_, rfl⟩
  · show execTelemetryValidRestore die s = _
    rw [execTelemetryValidRestore, if_neg (by omega)]
    exact congrArg Host.Outcome.next (if_neg (by omega))
  · rw [State.clock_setClock, if_pos rfl]
  · simp only [List.mem_cons, List.not_mem_nil, or_false, not_or] at hk
    simp [State.setClock, State.reg_setReg, hk]

end

end Sys2Proof.Machine
end

section
/-! Thermal throttling (R74, R76). -/

namespace Sys2Proof.Machine

section
variable {s : State} {die : Nat}

/-- Lowering one compute die lowers it to the clock asked, raises none, and leaves the rest of the package. -/
theorem State.lowerSet_set_effect (s : State) {v : Nat} (own : Nat → Bool) (hd : die < 8) :
    (s.lowerSet (s.clockSet.set die v) own).clock die ≤ v ∧
    (∀ e, e < 13 → (s.lowerSet (s.clockSet.set die v) own).clock e ≤ s.clock e) ∧
    MovesClocks s (s.lowerSet (s.clockSet.set die v) own) := by
  refine ⟨?_, fun e he => s.clock_lowerSet_le _ own he, s.lowerSet_moves _ own⟩
  have := s.clock_lowerSet_le_clockAt (s.clockSet.set die v) own hd
  rwa [clockAt_set_same (by simpa [State.clockSet] using hd)] at this

/-- The state in which a compute die is listed as throttled, with its temperature, and counted (R74). -/
def State.beginThrottle (s : State) (die : Nat) (temp : Int) : State :=
  let s1 := (s.setReg (Obj.junctionTemp die) (wrapInt 32 temp)).count 32 Obj.throttleCount
  { s1 with gov := { s1.gov with
      throttled := s1.gov.throttled.filter (fun d => d != die) ++ [die], cooled := s1.gov.cooled.filter fun d => d != die } }

/-- A register after a throttle begins. -/
theorem State.reg_beginThrottle (s : State) (die : Nat) (temp : Int) (k : Nat) : (s.beginThrottle die temp).reg k =
    if k = Obj.throttleCount then (s.reg Obj.throttleCount + 1) % 2 ^ 32
    else if k = Obj.junctionTemp die then wrapInt 32 temp else s.reg k := by
  have ne : Obj.throttleCount ≠ Obj.junctionTemp die := by simp only [Obj.throttleCount, Obj.junctionTemp, obj]; omega
  show ((s.setReg (Obj.junctionTemp die) (wrapInt 32 temp)).count 32 Obj.throttleCount).reg k = _
  rw [State.reg_count, State.reg_setReg_other _ _ _ _ ne, State.reg_setReg]

theorem State.clock_beginThrottle (s : State) (die : Nat) (temp : Int) (e : Nat) : (s.beginThrottle die temp).clock e = s.clock e := by
  show ((s.setReg (Obj.junctionTemp die) (wrapInt 32 temp)).count 32 Obj.throttleCount).clock e = _
  simp

/-- A die that was not throttled is listed last. -/
theorem State.throttled_beginThrottle (hn : s.gov.throttled.contains die = false) (temp : Int) :
    (s.beginThrottle die temp).gov.throttled = s.gov.throttled ++ [die] := by
  have absent : s.gov.throttled.filter (fun d => d != die) = s.gov.throttled := by
    simp only [List.contains_eq_mem, decide_eq_false_iff_not] at hn
    refine List.filter_eq_self.2 fun d hm => ?_
    rw [bne_iff_ne]
    rintro rfl
    exact hn hm
  exact congrArg (· ++ [die]) absent

/-- The state in which a compute die has gone to throttle_clock_mhz (R74). -/
def State.throttle (s : State) (die : Nat) (temp : Int) : State :=
  (s.beginThrottle die temp).lowerSet ((s.beginThrottle die temp).clockSet.set die
    (min ((s.beginThrottle die temp).clock die) ((s.beginThrottle die temp).reg Obj.throttleClockMhz))) (· == die)

theorem State.throttle_moves (s : State) (die : Nat) (temp : Int) : MovesClocks (s.beginThrottle die temp) (s.throttle die temp) :=
  State.lowerSet_moves _ _ _

/-- It raises no clock. -/
theorem State.clock_throttle_le (s : State) (die : Nat) (temp : Int) {e : Nat} (he : e < 13) :
    (s.throttle die temp).clock e ≤ s.clock e :=
  Nat.le_trans (State.clock_lowerSet_le _ _ _ he) (Nat.le_of_eq (s.clock_beginThrottle die temp e))

/-- The die itself runs no faster than throttle_clock_mhz. -/
theorem State.clock_throttle_self_le (s : State) (hd : die < 8) (temp : Int) :
    (s.throttle die temp).clock die ≤ s.reg Obj.throttleClockMhz := by
  have kept : (s.beginThrottle die temp).reg Obj.throttleClockMhz = s.reg Obj.throttleClockMhz := by
    have ne : Obj.throttleClockMhz ≠ Obj.throttleCount ∧ Obj.throttleClockMhz ≠ Obj.junctionTemp die := by
      simp only [Obj.throttleCount, Obj.throttleClockMhz, Obj.junctionTemp, obj]; omega
    rw [State.reg_beginThrottle, if_neg ne.1, if_neg ne.2]
  rw [← kept]
  exact Nat.le_trans (State.lowerSet_set_effect _ _ hd).1 (Nat.min_le_right _ _)

theorem execThermalThrottle_begins {temp : Int} (hd : die < 8) (hlo : 10000 ≤ temp) (hhi : temp < 11500)
    (hn : s.gov.throttled.contains die = false) (hoff : s.device ≠ devOff) (hhalt : s.device ≠ devHalted) :
    exec (.thermalThrottle die temp) s = .next (s.throttle die temp) := by
  show execThermalThrottle die temp s = _
  rw [execThermalThrottle, if_neg (by omega), if_neg (by omega),
    if_neg fun h => Bool.false_ne_true (hn.symm.trans h.1)]
  rfl

/-- THERMAL_THROTTLE of a compute die that is not throttled (R74). -/
theorem thermalThrottle_begins {temp : Int} (hd : die < 8) (hlo : 10000 ≤ temp) (hhi : temp < 11500)
    (hn : s.gov.throttled.contains die = false) (hoff : s.device ≠ devOff) (hhalt : s.device ≠ devHalted) :
    ∃ t, exec (.thermalThrottle die temp) s = .next t ∧
      t.reg (Obj.junctionTemp die) = wrapInt 32 temp ∧ t.gov.throttled = s.gov.throttled ++ [die] ∧
      t.reg Obj.throttleCount = (s.reg Obj.throttleCount + 1) % 2 ^ 32 ∧ t.clock die ≤ s.reg Obj.throttleClockMhz ∧
      (∀ e, e < 13 → t.clock e ≤ s.clock e) ∧ t.device = s.device ∧ t.mem = s.mem ∧ t.pending = s.pending := by
  have junction_ne : Obj.junctionTemp die ≠ Obj.throttleCount := by
    simp only [Obj.junctionTemp, Obj.throttleCount, obj]; omega
  have device_ne : Obj.deviceState ≠ Obj.throttleCount ∧ Obj.deviceState ≠ Obj.junctionTemp die := by
    simp only [Obj.deviceState, Obj.throttleCount, Obj.junctionTemp, obj]; omega
  obtain ⟨frame, same, throttled⟩ := s.throttle_moves die temp
  obtain ⟨hmem, -, hpend⟩ := frame.kept
  refine ⟨_, execThermalThrottle_begins hd hlo hhi hn hoff hhalt, ?_, throttled.trans (State.throttled_beginThrottle hn temp), ?_,
    s.clock_throttle_self_le hd temp, fun e he => s.clock_throttle_le die temp he, ?_, hmem, hpend⟩
  · rw [same _ (not_governorObj _).1, State.reg_beginThrottle, if_neg junction_ne, if_pos rfl]
  · rw [same _ (not_governorObj 0).2.2.2.1, State.reg_beginThrottle, if_pos rfl]
  · rw [State.device, same _ (not_governorObj 0).2.2.2.2, State.reg_beginThrottle, if_neg device_ne.1, if_neg device_ne.2]
    rfl

/-- THERMAL_THROTTLE at 115 °C (R76). -/
theorem thermalThrottle_stops {temp : Int} (hd : die < 8) (ht : 11500 ≤ temp) (hoff : s.device ≠ devOff)
    (hhalt : s.device ≠ devHalted) : exec (.thermalThrottle die temp) s =
      .next ((s.setReg (Obj.junctionTemp die) (wrapInt 32 temp)).limitStop (regulationId die) 3) := by
  show execThermalThrottle die temp s = _
  rw [execThermalThrottle, if_neg (by omega), if_pos ht]

/-- THROTTLE_STEP of a throttled die still at 100 °C (R74). -/
theorem throttleStep_lowers (hd : die < 8) (hc : s.gov.throttled.contains die = true)
    (ht : 10000 ≤ s.sreg 32 (Obj.junctionTemp die)) : ∃ t, exec (.throttleStep die) s = .next t ∧
      t.clock die ≤ max 600 (s.clock die - 100) ∧ (∀ e, e < 13 → t.clock e ≤ s.clock e) ∧
      t.device = s.device ∧ t.mem = s.mem ∧ t.pending = s.pending := by
  obtain ⟨own, lower, moves⟩ := s.lowerSet_set_effect (v := max 600 (s.clock die - 100)) (· == die) hd
  obtain ⟨hmem, -, hpend⟩ := moves.1.kept
  refine ⟨_, ?_, own, lower, moves.device, hmem, hpend⟩
  show execThrottleStep die s = _
  rw [execThrottleStep, if_neg (by rw [hc]; simpa using ht)]

end

end Sys2Proof.Machine
end

section
/-! Clock requests, memory temperatures and envelope commits (R38, R42, R72, R73, R355). -/

namespace Sys2Proof.Machine

/-- A register write that is not the gate period's leaves the gates and the table of events as they were. -/
theorem State.scheduleLocal_setReg {s : State} {k : Nat} (v : Nat) (e : SchedKind) (hk : k ≠ Obj.gatePeriodBeats)
    (hp : 0 < s.gatePeriod) (hc : s.schedCount < 256) : (s.setReg k v).scheduleLocal s.nextGate e =
      { s.setReg k v with time := { s.time with events := s.time.events ++ [⟨s.nextGate, e⟩] } } := by
  have period : (s.setReg k v).gatePeriod = s.gatePeriod := State.reg_setReg_other _ _ _ _ hk.symm
  have gate : (s.setReg k v).nextGate = s.nextGate := by rw [State.nextGate, period]; rfl
  have period_pos : 0 < (s.setReg k v).gatePeriod := by rwa [period]
  exact State.scheduleLocal_next (s.setReg k v) e period_pos hc _ (Nat.le_of_eq gate)

/-- CLOCK_REQUEST_WRITE of a compute die (R38, R42, R59). -/
theorem clockRequestWrite_scheduled {s : State} {sess die mhz : Nat} (hw : MayWrite s sess (0x4000 + die) 1) (hd : die < 8)
    (hp : 0 < s.gatePeriod) (hc : s.schedCount < 256) : ∃ t, exec (.clockRequestWrite sess die mhz) s = .next t ∧
      t.reg (Obj.clockRequestMhz die) = min 2100 (max 600 (mhz / 20 * 20)) ∧
      t.time.events = s.time.events ++ [⟨s.nextGate, .clockGrant die (min 2100 (max 600 (mhz / 20 * 20)))⟩] ∧
      t.clock die = s.clock die ∧ RegsBut [Obj.clockRequestMhz die] s t ∧ { t with regs := s.regs, time := s.time } = s := by
  have notPeriod : Obj.clockRequestMhz die ≠ Obj.gatePeriodBeats := by
    simp only [Obj.clockRequestMhz, Obj.gatePeriodBeats, obj]; omega
  refine ⟨{ s.setReg (Obj.clockRequestMhz die) (min 2100 (max 600 (mhz / 20 * 20))) with
      time := { s.time with events := s.time.events ++ [⟨s.nextGate, .clockGrant die (min 2100 (max 600 (mhz / 20 * 20)))⟩] } },
    ?_, State.reg_setReg_same s _ _, rfl, (s.clock_setReg_die die _ die).2.2.2,
    fun k hk => State.reg_setReg_other _ _ _ _ (by simpa using hk), rfl⟩
  show execClockRequestWrite sess die mhz s = _
  rw [execClockRequestWrite, State.guarded_may _ hw, if_neg (by omega)]
  exact congrArg _ (State.scheduleLocal_setReg _ _ notPeriod hp hc)

/-- clock_request_mhz of a photonic die and of HUB is read-only (R42). -/
theorem State.canWrite_clockRequest_fixed (s : State) (x : Session) {die : Nat} (h8 : 8 ≤ die) (hd : die < 13) :
    s.canWrite x ⟨0x4000 + die, 1⟩ = false := by
  have readOnly : ∀ d < 13, 8 ≤ d → (objRow ⟨0x4000 + d, 1⟩).map (·.access) = some 0 := by decide
  obtain ⟨r, hr, ha⟩ := Option.map_eq_some_iff.1 (readOnly die hd h8)
  simp [State.canWrite, hr, ha]

/-- CLOCK_REQUEST_WRITE of a photonic die or of HUB is a violation (R42, R650). -/
theorem clockRequestWrite_fixed {s : State} {sess die mhz : Nat} {x : Session} (hx : s.session? sess = some x) (h8 : 8 ≤ die)
    (hd : die < 13) :
    exec (.clockRequestWrite sess die mhz) s = .next (s.setSession { x with violations := x.violations + 1 }) := by
  show execClockRequestWrite sess die mhz s = _
  rw [execClockRequestWrite, State.guarded_mayNot _ ⟨x, hx, s.canWrite_clockRequest_fixed x h8 hd⟩, State.violate, hx]

section
variable {s : State} {die unit : Nat} {temp : Int}

/-- MEMORY_THERMAL_HALVE of a memory unit of a package that runs, by temperature (R355). -/
theorem execMemoryThermalHalve_on (hd : die < 8) (hu : unit < 5) (hoff : s.device ≠ devOff) (hhalt : s.device ≠ devHalted) :
    exec (.memoryThermalHalve die unit temp) s =
      if 10500 ≤ temp then .next ((s.setReg (memTempObj die unit) (wrapInt 32 temp)).limitStop (unitId die 16 unit) 3)
      else if 9500 ≤ temp ∧ s.reg (memStateObj die unit) ≠ 1 then
        .next (((s.setReg (memTempObj die unit) (wrapInt 32 temp)).setReg (memStateObj die unit) 1).report
          (blockReport 1 16 (unitId die 16 unit)))
      else .next (s.setReg (memTempObj die unit) (wrapInt 32 temp)) := by
  show execMemoryThermalHalve die unit temp s = _
  rw [execMemoryThermalHalve, if_neg (by omega)]

/-- MEMORY_RATE_RESTORE below 90 °C of a unit at half rate (R355). -/
theorem memoryRateRestore_effect (hd : die < 8) (hu : unit < 5) (ht : temp < 9000) (hs : s.reg (memStateObj die unit) = 1) :
    ∃ t, exec (.memoryRateRestore die unit temp) s = .next t ∧ t.reg (memStateObj die unit) = 0 ∧
      t.reg (memTempObj die unit) = wrapInt 32 temp ∧ OnlyRegs [memStateObj die unit, memTempObj die unit] s t := by
  have ne : memTempObj die unit ≠ memStateObj die unit := by
    unfold memTempObj memStateObj
    split <;> simp only [Obj.mainTemp, Obj.mainState, Obj.deepTemp, Obj.deepState, obj] <;> omega
  refine ⟨(s.setReg (memTempObj die unit) (wrapInt 32 temp)).setReg (memStateObj die unit) 0, ?_, State.reg_setReg_same _ _ _, ?_,
    fun k hk => ?_, rfl⟩
  · show execMemoryRateRestore die unit temp s = _
    rw [execMemoryRateRestore, if_neg (by omega)]
  · rw [State.reg_setReg_other _ _ _ _ ne, State.reg_setReg_same]
  · simp only [List.mem_cons, List.not_mem_nil, or_false, not_or] at hk
    rw [State.reg_setReg_other _ _ _ _ hk.1, State.reg_setReg_other _ _ _ _ hk.2]

end

/-- The state with the shadowed floor and ceiling committed (R73). -/
def State.commitEnvelope (s : State) : State :=
  { s with supply := { s.supply with
      committedFloor := min (s.reg Obj.powerFloorW) (s.reg Obj.powerCeilingW), committedCeiling := s.reg Obj.powerCeilingW } }

/-- A commit's power step is entered at its staggered gate (R72). -/
theorem State.requestPowerStep_commitEnvelope {s : State} (floor ceiling : Nat) (hp : 0 < s.gatePeriod) (hc : s.schedCount < 256) :
    s.commitEnvelope.requestPowerStep floor ceiling = { s.commitEnvelope with
      time := { s.time with events := s.time.events ++ [⟨s.powerStepGate, .powerStep floor ceiling⟩] } } :=
  State.scheduleLocal_next s.commitEnvelope _ hp hc _ (Nat.le_add_right _ _)

/-- ENVELOPE_COMMIT of 1 (R72, R73). -/
theorem envelopeCommit_requested {s : State} {sess : Nat} (hw : MayWrite s sess 0x2020 9) (hp : 0 < s.gatePeriod)
    (hc : s.schedCount < 256) : ∃ t, exec (.envelopeCommit sess 1) s = .next t ∧ t.supply.committedCeiling = s.reg Obj.powerCeilingW ∧
      t.supply.committedFloor = min (s.reg Obj.powerFloorW) (s.reg Obj.powerCeilingW) ∧
      t.time.events = s.time.events ++ [⟨s.nextGate + s.chip % s.reg Obj.staggerGroups * s.reg Obj.staggerStepGates *
        s.gatePeriod, .powerStep (if s.notFree = [] then 0 else min (s.reg Obj.powerFloorW) (s.reg Obj.powerCeilingW))
          (s.reg Obj.powerCeilingW)⟩] ∧
      (∀ k, t.reg k = s.reg k) ∧ t.supply.floorNow = s.supply.floorNow ∧ t.supply.ceilNow = s.supply.ceilNow := by
  refine ⟨{ s.commitEnvelope with time := { s.time with events := s.time.events ++ [⟨s.powerStepGate, .powerStep
      (if s.notFree = [] then 0 else min (s.reg Obj.powerFloorW) (s.reg Obj.powerCeilingW)) (s.reg Obj.powerCeilingW)⟩] } },
    ?_, rfl, rfl, rfl, fun _ => rfl, rfl, rfl⟩
  show execEnvelopeCommit sess 1 s = _
  simp only [execEnvelopeCommit, State.guarded_may _ hw, List.isEmpty_iff]
  exact congrArg Host.Outcome.next (State.requestPowerStep_commitEnvelope _ _ hp hc)

/-- Settles O5, command by command: the governor's sample, telemetry, throttling, requests, memory temperatures, the envelope. -/
theorem governorRequestsAndLimits : Obligations.GovernorRequestsAndLimits := by
  refine ⟨fun _ _ h => if_pos h, fun _ _ => governorSample_effect, fun _ _ => governorSample_hot,
    fun _ _ => telemetryInvalid_compute, fun _ _ => telemetryInvalid_fixed, fun _ _ hm => if_pos (.inl hm),
    fun _ _ => telemetryValidRestore_compute, fun _ _ => telemetryValidRestore_fixed, fun _ _ hv => if_pos (.inl hv),
    fun _ _ _ => thermalThrottle_begins, fun _ _ _ => thermalThrottle_stops, fun _ _ _ h => if_pos (h.imp_right .inl),
    fun _ _ => throttleStep_lowers, fun _ _ hc => if_pos (by rw [hc]; rfl), fun _ _ _ _ => clockRequestWrite_scheduled,
    fun _ _ _ _ _ => clockRequestWrite_fixed, ?_, ?_, ?_, fun _ _ _ _ => memoryRateRestore_effect,
    fun _ _ hw _ => envelopeCommit_requested hw, ?_⟩
  · intro s die unit temp hd hu hoff hhalt ht
    rw [execMemoryThermalHalve_on hd hu hoff hhalt, if_neg (by omega), if_neg (by omega)]
  · intro s die unit temp hd hu hoff hhalt hlo hhi hs
    rw [execMemoryThermalHalve_on hd hu hoff hhalt, if_neg (by omega), if_pos ⟨hlo, hs⟩]
  · intro s die unit temp hd hu hoff hhalt ht
    rw [execMemoryThermalHalve_on hd hu hoff hhalt, if_pos ht]
  · intro s sess value hw hv
    exact congrArg Host.Outcome.next ((State.guarded_may _ hw).trans (if_pos hv))

end Sys2Proof.Machine
end

section
/-! A tensor table out of order: the statement of the row engine asks nothing of the order of the entries. The first byte stored into an
upper copy marks its entry dirty (R336) under its number; where the table's numbers do not rise, a second listing of the entry comes
first, and the bytes that follow find it (R314) where they would have found another entry. -/

namespace Sys2Proof.Machine

/-- Storing a tensor has changed the byte at o of allocation a. -/
def Stored.changes (t : State) (a o : Nat) : Stored → Bool
  | .done u _ => u.rdByte a o != t.rdByte a o
  | _ => false

/-- The byte at o of allocation a is one of those a conversion into the tensor stores to. -/
def State.placesReach (t : State) (n : Nat) (y : Desc) (sel : VSel) (a o : Nat) : Bool :=
  (y.places sel).any fun w => (t.locate n w.1 w.2).any fun p => memKey p.1 p.2 == memKey a o

/-- A row instruction changes no byte outside the places of its destination. -/
theorem RowStored.rdByte_outside {t u v : State} {c : Nat} {k : Work} {y : Desc} {sel : VSel} {n : Counts} {a o : Nat}
    (h : RowStored t u v c k y sel n) (ho : t.placesReach k.tenant y sel a o = false) : u.rdByte a o = t.rdByte a o := by
  calc u.rdByte a o = v.rdByte a o := congrArg (Sparse.get 0 (memKey a o)) h.stored.memory.1.symm
    _ = t.rdByte a o := h.stored.bytes a o fun w hw p hp => by
      have missed := List.any_eq_false.1 ho w hw
      rw [hp, Option.any_some, beq_iff_eq] at missed
      exact missed

/-- So a store that changes such a byte is not what a row instruction may answer. -/
theorem not_storeAnswers_of_changes {t t1 : State} {c x unit : Nat} {e : Host.Outcome State Fault Refusal}
    {done : State → Counts → State → Prop} {k : Work} {y : Desc} {sel : VSel} {r : Stored} {a o : Nat}
    (stored : ∀ u n v, done u n v → RowStored t u v c k y sel n) (changed : r.changes t a o = true)
    (ho : t.placesReach k.tenant y sel a o = false) : ¬ StoreAnswers t1 c x unit e done r := by
  intro answer
  cases r with
  | done u n =>
    obtain ⟨v, -, hv⟩ := answer
    have kept := (stored u n v hv).rdByte_outside ho
    simp [Stored.changes, kept] at changed
  | full => simp [Stored.changes] at changed
  | bad z => simp [Stored.changes] at changed

namespace OutOfOrder

/-- Two F32 elements side by side. -/
def pair (address : Nat) : Desc :=
  { address := address, e0 := 2, e1 := 1, e2 := 1, e3 := 1, s1 := 0, s2 := 0, s3 := 0, scalePtr := 0, tensorId := 0, vtag := 0,
    slot := 0, fmt := fmtF32, block := 0, j := false, g := false, v := false }

/-- Their descriptor's 64 bytes (R218). -/
def pairBytes (address : Nat) : List Byte :=
  toBytes 8 address ++ toBytes 4 2 ++ toBytes 4 1 ++ toBytes 4 1 ++ toBytes 4 1 ++ List.replicate 34 0 ++ toBytes 1 fmtF32 ++
    List.replicate 5 0

/-- Work of tenant 0 with its source in slot 1 and its destination in slot 2: one element before offset 128, one from there on. -/
def work : Work :=
  { tenant := 0, queue := 0, index := 0, step := 0, microBatch := 0, imageId := 9, entryIndex := 0, rm := false, ns := true,
    arg0 := 0, arg1 := 0, pc := false, bar := false, coreField := 0, ctxField := 0, userTag := 0,
    bindings := [(1, pairBytes 0), (2, pairBytes 124)], fences := [], phase := 2 }

/-- An entry of tenant 0 in Main. -/
def entry (base lines homeAlloc : Nat) (upper : Option Upper) : Entry :=
  { base := base, lines := lines, tensorId := 0, tenant := 0, homeTier := 1, homeDie := 0, pinned := false, shared := false,
    versioned := false, place := {}, shareMask := 0, homeAlloc := homeAlloc, homeAt := 0, upper := upper }

/-- The package RUNNING with the work on context 0 of core 0. Entry 5, listed first, covers offset 128 on; entry 3, listed after it,
covers 0 to 255, with a clean upper copy in allocation 3. That copy's byte 128 is no byte of the destination, which lies in entry 5
there. -/
def package : State :=
  { State.reset with
    regs := [(Obj.deviceState, devRunning), (Obj.chipNumber, 0)]
    tenants := [(0, { images := [(1, { state := 1, imageId := 9, codeBytes := 16 })] })]
    works := [(7, work)]
    ctxs := [(0, { state := 1, work := some 7, sideSize := 1 })]
    mem := [(memKey 3 128, 1)]
    entries := [(5, entry 128 1 1 none), (3, entry 0 4 2 (some ⟨0, 0, {}, 3, 0, 0⟩))] }

/-- A soft-maximum whose causal mask leaves every element out (R212): its output is zeros. -/
def word : RowWord :=
  { mode := true, bmask := false, sr := false, ovf := false, psrc := false, x := 1, y := 2, g := 0, b := 0, sbase := 0, imm := 0,
    ofs := 0xFFFF }

/-- The soft-maximum issues. -/
theorem issues : Issues package 0 0 work := ⟨by decide, ⟨7, rfl⟩, by decide⟩

/-- Its slots name the two tensors. -/
theorem slots : rowSlots [(package.started 0 0).slotDesc work 1, (package.started 0 0).slotDesc work 2] =
    some [pair 0, pair 124] := by decide

/-- They are prepared, and nothing of the package changes by it. -/
theorem operandsReady : OperandsReady (package.started 0 0) 0 0 (rowUnit 0) work [askRead (pair 0), askWrite (pair 124)]
    [(pair 0, .plain), (pair 124, .plain)] (package.started 0 0) :=
  ⟨package.started 0 0, rfl, by decide, .inl (by decide), rfl⟩

/-- Byte 128 of allocation 3 is no place of the destination. -/
theorem not_placesReach : (package.started 0 0).placesReach 0 (pair 124) .plain 3 128 = false := by decide

end OutOfOrder

open OutOfOrder in
/-- Refutes O19, by its RSMAX_F clause: of a tensor table whose numbers do not rise the statement says too much. The element stored at
offset 124 marks entry 3 dirty, which lists it again ahead of entry 5; the element stored at offset 128 then clears byte 128 of entry 3's
upper copy, which is no place of the destination. -/
theorem not_rowInstructions : ¬ Obligations.RowInstructions := by
  intro h
  obtain ⟨-, -, -, -, -, -, -, -, softForward, -⟩ := h
  have answer := softForward package 0 0 word work (pair 0) (pair 124) (pair 0) (pair 124) .plain .plain [] (package.started 0 0)
    issues slots (by decide) (by decide) (by decide) operandsReady
  refine not_storeAnswers_of_changes (a := 3) (o := 128) (fun _ _ _ done => done.1) ?_ not_placesReach answer
  decide +kernel

end Sys2Proof.Machine
end

section
/-! What a contained fault leaves of a core, of the registers and of the package capture (R144, R613, R622), beside Laws/Reports. -/

namespace Sys2Proof.Machine

/-- The registers that a contained report of a block may change (R628, R629, R638). -/
def ReportObj (unit k : Nat) : Prop :=
  k = Obj.lastFaultEvent ∨ k = Obj.eventDropCount ∨ k = Obj.logSkipCount ∨ k = Obj.containedCount (unitDie unit)

/-- They are objects of the faults' chapter. -/
theorem not_reportObj_of_lt {unit k : Nat} (h : k < obj 0x9000 0) : ¬ ReportObj unit k := by
  simp only [ReportObj, Obj.lastFaultEvent, Obj.eventDropCount, Obj.logSkipCount, Obj.containedCount, obj] at h ⊢
  omega

/-- A contained report leaves every other register. -/
theorem State.reg_report_other {s : State} {r : FaultRep} {k : Nat} (h : r.cls = 2) (hk : ¬ ReportObj r.reporter k) :
    (s.report r).reg k = s.reg k := by
  obtain ⟨event, drop, skip, count⟩ : _ ∧ _ ∧ _ ∧ _ := by simpa only [ReportObj, not_or] using hk
  exact (State.report_contained s r h).2.2 k event drop skip count

/-- A report changes no context, core or memory. -/
theorem Reports.kept {s t : State} (h : Reports s t) : t.ctxs = s.ctxs ∧ t.cores = s.cores ∧ t.mem = s.mem := by
  obtain ⟨o, e, ss, cs, ls, d, ts, gs, m, rfl⟩ := h
  exact ⟨rfl, rfl, rfl⟩

theorem Reports.core {s t : State} (h : Reports s t) (c : Nat) : t.core c = s.core c := by
  rw [State.core, h.kept.2.1, State.core]

/-- Raising an event leaves the capture records. -/
theorem State.raise_captures (s : State) (k : Nat) (v : List Byte) : (s.raise k v).captures = s.captures := by
  obtain ⟨o, e, ss, sent⟩ := State.notify_sends (s.setReg k (fromBytes v)) k v
  rw [State.raise, sent, State.setReg]

/-- So does the fault event. -/
theorem State.faultEvent_captures (s : State) (r : FaultRep) : (s.faultEvent r).captures = s.captures := by
  unfold State.faultEvent
  split
  · rfl
  · dsimp only
    generalize (if s.dev.secondFaults.1 = s.up / 1000000000 then s.dev.secondFaults.2 else 0) = used
    split
    · exact State.raise_captures _ _ _
    · rfl

/-- So does the log. -/
theorem State.logFault_captures (s : State) (r : FaultRep) : (s.logFault r).captures = s.captures := by
  have log : ∀ (recent : Bool) (d : Dev), (if recent then s.count 32 Obj.logSkipCount
      else ({ s with dev := d } : State).bump Obj.faultLog).captures = s.captures := by
    intro recent d
    cases recent <;> rfl
  unfold State.logFault
  split
  · rfl
  · exact log _ _

/-- The package capture takes the record of a contained report (R622, R625). -/
theorem State.report_packageCapture (s : State) (r : FaultRep) (h : r.cls = 2) :
    (s.report r).capture Obj.packageCapture = (s.capture Obj.packageCapture).take (s.recordOf r) := by
  have collected : (s.collect r).capture Obj.packageCapture = (s.capture Obj.packageCapture).take (s.recordOf r) := by
    have die : Obj.packageCapture ≠ Obj.dieCapture (unitDie r.reporter) := by
      simp only [Obj.packageCapture, Obj.dieCapture, obj]; omega
    have cluster : ∀ k, clusterCaptureOf r.reporter = some k → Obj.packageCapture ≠ k := by
      intro k hk
      unfold clusterCaptureOf at hk
      split at hk
      · simp only [Option.some.injEq, Obj.clusterCapture, obj] at hk
        simp only [Obj.packageCapture, obj]; omega
      · cases hk
    unfold State.collect
    dsimp only
    rw [State.capture_setCapture, State.capture_setCapture_other _ _ _ _ die]
    split
    · rename_i k hk
      rw [State.capture_setCapture_other _ _ _ _ (cluster k hk)]
    · rfl
  have kept : (s.report r).captures = (s.collect r).captures := by
    unfold State.report
    rw [if_neg (by omega)]
    unfold State.reportOnly
    have counted : (((s.collect r).latchStatus r).countClass r).captures = (s.collect r).captures := by
      unfold State.countClass
      dsimp only
      repeat' split
      all_goals rfl
    dsimp only
    repeat' split
    all_goals exact (State.logFault_captures _ _).trans ((State.faultEvent_captures _ _).trans counted)
  rw [State.capture, kept]
  exact collected

/-- A context stopped by a fault loses its kernels, and its core nothing else (R144). -/
theorem State.core_stopFaulted (s : State) (c x unit access : Nat) :
    (s.stopFaulted c x unit access).core c = { s.core c with kernels := (s.core c).kernels.filter fun k => k.ctx != x } := by
  obtain ⟨-, -, -, -, kernels, -⟩ := State.stopFaulted_spec s c x unit access
  rw [← kernels]
  unfold State.stopFaulted State.endKernels
  dsimp only
  split
  · rfl
  · simp only [State.core, State.setCtx, State.setCore, Sparse.get_set_same]

/-- A fault that is no version fault stops its context and is reported. -/
theorem State.faultCtx_report (s : State) {c x unit cause access addr part : Nat} (h : cause ≠ 7) : ∃ r : FaultRep,
    r.cls = 2 ∧ r.reporter = unit ∧ s.faultCtx c x unit cause access addr part = (s.stopFaulted c x unit access).report r := by
  unfold State.faultCtx
  simp only [if_neg h]
  exact ⟨_, rfl, rfl, rfl⟩

/-- So it leaves of the core all but the context's kernels … -/
theorem State.core_faultCtx (s : State) {c x unit cause access addr part : Nat} (h : cause ≠ 7) :
    (s.faultCtx c x unit cause access addr part).core c =
      { s.core c with kernels := (s.core c).kernels.filter fun k => k.ctx != x } := by
  obtain ⟨r, cls, -, e⟩ := s.faultCtx_report (c := c) (x := x) (unit := unit) (access := access) (addr := addr) (part := part) h
  rw [e, ← State.core_stopFaulted s c x unit access]
  exact (State.report_contained _ r cls).1.core c

/-- … and of the registers all but those of a report. -/
theorem State.reg_faultCtx_other (s : State) {c x unit cause access addr part k : Nat} (h : cause ≠ 7) (hk : ¬ ReportObj unit k) :
    (s.faultCtx c x unit cause access addr part).reg k = s.reg k := by
  obtain ⟨r, cls, rfl, e⟩ := s.faultCtx_report (c := c) (x := x) (unit := unit) (access := access) (addr := addr) (part := part) h
  obtain ⟨⟨ct, co, stopped⟩, -⟩ := State.stopFaulted_spec s c x r.reporter access
  rw [e, State.reg_report_other cls hk, stopped]
  rfl

/-- Some contexts of a core are faulted by one error (R145): each as by a fault of its own, and no other context of the core. -/
structure AllFaulted (s t : State) (c unit access : Nat) (xs : List Nat) : Prop where
  core : t.core c = { s.core c with kernels := (s.core c).kernels.filter fun k => !xs.contains k.ctx }
  cores : ∀ d, d ≠ c → t.core d = s.core d
  faulted : ∀ x ∈ xs, (t.ctx c x).state = 4 ∧ (t.ctx c x).firstFault = some ((s.ctx c x).firstFault.getD (unit, access))
  others : ∀ y, y ∉ xs → t.ctx c y = s.ctx c y
  memory : t.mem = s.mem
  regs : ∀ k, ¬ ReportObj unit k → t.reg k = s.reg k

theorem AllFaulted.nil (s : State) (c unit access : Nat) : AllFaulted s s c unit access [] where
  core := by
    have all : ((s.core c).kernels.filter fun k => !([] : List Nat).contains k.ctx) = (s.core c).kernels :=
      List.filter_eq_self.2 fun _ _ => rfl
    rw [all]
  cores _ _ := rfl
  faulted _ h := absurd h List.not_mem_nil
  others _ _ := rfl
  memory := rfl
  regs _ _ := rfl

/-- One more context faulted first. -/
theorem AllFaulted.cons {s t : State} {c unit cause access addr part x : Nat} {xs : List Nat} (hc : cause ≠ 7) (hx : x ∉ xs)
    (h : AllFaulted (s.faultCtx c x unit cause access addr part) t c unit access xs) : AllFaulted s t c unit access (x :: xs) := by
  have first := State.faultCtx_faulted s c x unit cause access addr part
  have apart : ∀ y, y ≠ x → (s.faultCtx c x unit cause access addr part).ctx c y = s.ctx c y := fun y hy =>
    first.others c y (by unfold ctxKey; omega)
  refine ⟨?_, fun d hd => (h.cores d hd).trans (first.cores d hd), ?_, ?_, h.memory.trans first.memory.1,
    fun k hk => (h.regs k hk).trans (State.reg_faultCtx_other s hc hk)⟩
  · rw [h.core, State.core_faultCtx s hc]
    simp [List.filter_filter, bne, Bool.and_comm, Bool.beq_eq_decide_eq]
  · intro y hy
    rcases List.mem_cons.1 hy with rfl | hy
    · rw [h.others _ hx]
      exact ⟨first.faulted.1, first.first⟩
    · rw [← apart y (fun e => hx (e ▸ hy))]
      exact h.faulted y hy
  · intro y hy
    have kept : y ∉ xs := fun hm => hy (List.mem_cons_of_mem x hm)
    exact (h.others y kept).trans (apart y fun e => hy (e ▸ List.mem_cons_self))

/-- Faulting each of a list of contexts faults them all. -/
theorem State.foldl_faultCtx_allFaulted {c unit cause access addr part : Nat} (hc : cause ≠ 7) {xs : List Nat} (distinct : xs.Nodup) :
    ∀ s : State, AllFaulted s (xs.foldl (fun t x => t.faultCtx c x unit cause access addr part) s) c unit access xs := by
  induction xs with
  | nil => exact fun s => .nil s c unit access
  | cons x xs ih =>
    obtain ⟨hx, distinct⟩ := List.nodup_cons.1 distinct
    exact fun s => .cons hc hx (ih distinct _)

end Sys2Proof.Machine
end

section
/-! The matrix engine's own operations: poisoned regions and drained contexts (R144, R146), the report of an instruction that ends (R289),
host writes that wait for nothing (R155). -/

namespace Sys2Proof.Machine

/-- Some numbers set to 1. -/
theorem Sparse.get_foldl_set_one (ks : List Nat) (m : Sparse Nat) (q : Nat) :
    Sparse.get 0 q (ks.foldl (fun m k => Sparse.set 0 k 1 m) m) = if q ∈ ks then 1 else Sparse.get 0 q m := by
  induction ks generalizing m with
  | nil => simp
  | cons k ks ih =>
    rw [List.foldl_cons, ih, Sparse.get_set]
    by_cases hk : q = k <;> by_cases hks : q ∈ ks <;> simp [hk, hks]

/-- Poisoning the regions of some partitions changes a core's poison alone, and poisons every row half of theirs (R144). -/
theorem Core.foldl_poisonRegion (parts : List Nat) (v : Core) : ∃ m, parts.foldl (fun u p => u.poisonRegion p) v = { v with accPoison := m } ∧
    (∀ q, Sparse.get 0 q v.accPoison = 1 → Sparse.get 0 q m = 1) ∧
    ∀ part ∈ parts, ∀ q ∈ regionKeys v.mode part, Sparse.get 0 q m = 1 := by
  induction parts generalizing v with
  | nil => exact ⟨v.accPoison, rfl, fun _ h => h, fun _ h => absurd h List.not_mem_nil⟩
  | cons p parts ih =>
    obtain ⟨m, rest, stays, poisoned⟩ := ih (v.poisonRegion p)
    have region : ∀ q, Sparse.get 0 q (v.poisonRegion p).accPoison = if q ∈ regionKeys v.mode p then 1 else Sparse.get 0 q v.accPoison :=
      Sparse.get_foldl_set_one (regionKeys v.mode p) v.accPoison
    refine ⟨m, rest, fun q hq => stays q ?_, fun part hp q hq => ?_⟩
    · rw [region, hq, ite_self]
    · rcases List.mem_cons.1 hp with rfl | hp
      · exact stays q (by rw [region, if_pos hq])
      · exact poisoned part hp q hq

/-- Draining a context ends its instructions on the core and poisons the regions of the partitions named (R144). -/
theorem Core.drain_eq (v : Core) (x : Nat) (parts : List Nat) : ∃ m,
    v.drain x parts = { v with issued := v.issued.filter fun i => i.ctx != x, accPoison := m } ∧
    ∀ part ∈ parts, ∀ q ∈ regionKeys v.mode part, Sparse.get 0 q m = 1 := by
  obtain ⟨m, drained, -, poisoned⟩ := Core.foldl_poisonRegion parts { v with issued := v.issued.filter fun i => i.ctx != x }
  exact ⟨m, drained, poisoned⟩

/-- The partition of a context's instruction is among those that run one of it. -/
theorem Core.mem_running {v : Core} {x : Nat} {i : Issued} (hi : i ∈ v.issued) (hx : i.ctx = x) : i.part ∈ v.running x := by
  simp only [Core.running, List.mem_eraseDups, List.mem_map, List.mem_filter, beq_iff_eq]
  exact ⟨i, ⟨hi, hx⟩, rfl⟩

/-- A fault of an instruction but one of a version is one of its context with another cause than a version's. -/
theorem State.opFault_eq (s : State) {f : OpFault} (hf : f ≠ .version) (c x unit part addr : Nat) (write : Bool) :
    ∃ cause access a, cause ≠ 7 ∧ access = (if f = .address ∨ f = .version ∨ f = .poison then b2n write else 8) ∧
      s.opFault c x unit part f addr write = s.faultCtx c x unit cause access a part := by
  have cause : f.cause ≠ 7 := by
    cases f
    case version => exact absurd rfl hf
    all_goals decide
  unfold State.opFault
  split
  · exact ⟨_, _, _, cause, rfl, rfl⟩
  · exact ⟨_, _, _, cause, rfl, rfl⟩

/-- A fault of a matrix instruction, but one of a version (R144, R146, R162). -/
theorem State.partitionFault_partFaulted (s : State) {c : Nat} (hc : c < 512) {f : OpFault} (hf : f ≠ .version) (x part addr : Nat)
    (write : Bool) : PartFaulted s (s.partitionFault c x part f addr write) c x
      (if f = .address ∨ f = .version ∨ f = .poison then b2n write else 8) := by
  have low : Obj.partitionFaultCount c < obj 0x9000 0 := by simp only [Obj.partitionFaultCount, obj]; omega
  have apart : Obj.containedCount (unitDie (engineId c 0)) ≠ Obj.partitionFaultCount c := fun e =>
    not_reportObj_of_lt low (.inr (.inr (.inr e.symm)))
  unfold State.partitionFault
  rw [if_neg hf]
  dsimp only
  generalize (if (s.core c).mode = 0 then 0 else part) = p
  have named : ∀ i ∈ (s.core c).issued, i.ctx = x →
      i.part ∈ (if f = .poison ∨ f = .numeric then (p :: (s.core c).running x).eraseDups else (s.core c).running x) := by
    intro i hi hx
    have running := Core.mem_running hi hx
    split
    · exact List.mem_eraseDups.2 (List.mem_cons_of_mem _ running)
    · exact running
  generalize (if f = .poison ∨ f = .numeric then (p :: (s.core c).running x).eraseDups else (s.core c).running x) = parts at named ⊢
  obtain ⟨m, drained, poisoned⟩ := Core.drain_eq (s.core c) x parts
  rw [drained]
  generalize hu : (s.setCore c { s.core c with issued := (s.core c).issued.filter fun i => i.ctx != x, accPoison := m }).count 32
    (Obj.partitionFaultCount c) = u
  have core : u.core c = { s.core c with issued := (s.core c).issued.filter fun i => i.ctx != x, accPoison := m } := by
    subst hu; exact State.core_setCore s c _
  have counted : u.reg (Obj.partitionFaultCount c) = (s.reg (Obj.partitionFaultCount c) + 1) % 2 ^ 32 := by
    subst hu; exact State.reg_setReg_same _ _ _
  obtain ⟨cause, access, a, hcause, rfl, e⟩ := u.opFault_eq hf c x (engineId c 0) p addr write
  have fault := u.opFault_faulted c x (engineId c 0) p f addr write
  have after := State.core_faultCtx u (c := c) (x := x) (unit := engineId c 0)
    (access := if f = .address ∨ f = .version ∨ f = .poison then b2n write else 8) (addr := a) (part := p) hcause
  rw [← e, core] at after
  refine ⟨⟨fault.faulted, ?_, ?_, ?_, ?_, ?_, ?_⟩, ?_, ?_, ?_, ?_⟩
  · rw [fault.first]; subst hu; rfl
  · rw [after]
  · intro d y hd; rw [fault.others d y hd]; subst hu; rfl
  · intro d hd; rw [fault.cores d hd]; subst hu; exact State.core_setCore_other _ _ _ _ hd
  · rw [fault.memory.1, fault.memory.2]; subst hu; exact ⟨rfl, rfl⟩
  · rw [fault.counted]; subst hu
    rw [State.reg_count, if_neg apart]; rfl
  · rw [after]
  · rw [after]
    exact fun i hi hx => poisoned _ (named i hi hx)
  · rw [after]; exact ⟨rfl, rfl, rfl⟩
  · rw [e, State.reg_faultCtx_other u hcause (not_reportObj_of_lt low), counted]

/-- A report to a Judges slot changes the slots alone. -/
theorem State.judge_eq (s : State) (n j : Nat) (step : Option Nat) (unit : Nat) (gradient : Bool) (c : Counts) :
    ∃ m, s.judge n j step unit gradient c = { s with slots := m } := by
  unfold State.judge
  dsimp only
  repeat' split
  all_goals exact ⟨_, rfl⟩

/-- So does the report of an instruction that ends. -/
theorem State.reportIssued_eq (s : State) (c : Nat) (i : Issued) : ∃ m, s.reportIssued c i = { s with slots := m } := by
  unfold State.reportIssued
  split
  · split
    · exact ⟨_, rfl⟩
    · exact State.judge_eq _ _ _ _ _ _ _
  · exact ⟨_, rfl⟩

/-- An instruction without a slot, or whose report is discarded, sends none (R289, R295). -/
theorem State.reportIssued_silent {s : State} {c : Nat} {i : Issued} (h : i.slot = none ∨ i.discarded = true) : s.reportIssued c i = s := by
  unfold State.reportIssued
  split
  · rename_i slot _
    rcases h with h | h
    · rw [h] at slot; cases slot
    · rw [if_pos h]
  · rfl

/-- Another sends its own to its slot, for the tenant of its core (R289, R362). -/
theorem State.reportIssued_sends {s : State} {c j n : Nat} {i : Issued} (slot : i.slot = some j) (kept : i.discarded = false)
    (owner : s.tenantOfCore c = some n) : s.reportIssued c i = s.judge n j i.step (engineId c 0) i.gradient i.counts := by
  simp [State.reportIssued, slot, owner, kept]

/-- Queue pairs that hold no write leave the state (R717). -/
theorem foldl_resumeQp_of_empty {qps : List (Nat × Qp)} (h : (qps.all fun p => p.2.held.isEmpty) = true) (s : State) :
    qps.foldl (fun t p => State.resumeQp p.1 p.2.held.length t) s = s := by
  induction qps with
  | nil => rfl
  | cons p qps ih =>
    simp only [List.all_cons, Bool.and_eq_true, List.isEmpty_iff] at h
    rw [List.foldl_cons, h.1]
    exact ih h.2

/-- With no host write held, none goes on. -/
theorem State.resumeHost_of_none_held {s : State} (qps : (s.eth.qps.all fun p => p.2.held.isEmpty) = true) (windows : s.eth.windows = []) :
    s.resumeHost = s := by
  rw [State.resumeHost, foldl_resumeQp_of_empty qps, State.resumeWindows, windows]
  rfl

end Sys2Proof.Machine
end

section
/-! The control commands of the matrix engine: completion, shared-logic faults, mode changes, partition switches (R130 to R190). -/

namespace Sys2Proof.Machine

/-- The oldest instruction of a partition completes: it is issued no longer, its report reaches its slot, and held host writes go on
(R132, R155, R289). -/
theorem matrixInstructionComplete_ends {s : State} {c part : Nat} {i : Issued} (oldest : ((s.core c).issued.find? fun i => i.part == part) = some i) :
    ∃ t : State, exec (.matrixInstructionComplete c part) s = .next t.resumeHost ∧
      t.core c = { s.core c with issued := (s.core c).issued.erase i } ∧
      (∀ d, d ≠ c → t.core d = s.core d) ∧ { t with cores := s.cores, slots := s.slots } = s ∧
      (i.slot = none ∨ i.discarded = true → t.slots = s.slots) ∧
      (∀ j n, i.slot = some j → i.discarded = false → s.tenantOfCore c = some n → i.step = none →
        (t.slot j).totalSet = (s.slot j).totalSet.add i.counts ∧
        (t.slot j).lastSet = { (({} : CountSet).add i.counts) with tag := engineId c 0, time := s.up }) ∧
      (∀ j n st, i.slot = some j → i.discarded = false → s.tenantOfCore c = some n → i.step = some st →
        (((s.tenant n).step? st).isSome = true → (t.slot j).opens = addOpen st i.gradient i.counts (s.slot j).opens) ∧
        (((s.tenant n).step? st).isSome = false → t.slots = s.slots)) := by
  let u := s.modCore c fun v => { v with issued := v.issued.erase i }
  have run : exec (.matrixInstructionComplete c part) s = .next (u.reportIssued c i).resumeHost := by
    show execMatrixInstructionComplete c part s = _
    rw [execMatrixInstructionComplete, oldest]
  obtain ⟨m, reported⟩ := u.reportIssued_eq c i
  refine ⟨u.reportIssued c i, run, ?_, fun d hd => ?_, ?_, fun silent => ?_, fun j n slot kept owner step => ?_,
    fun j n st slot kept owner step => ⟨fun opened => ?_, fun closed => ?_⟩⟩
  · rw [reported]; exact State.core_setCore s c _
  · rw [reported]; exact State.core_setCore_other s c d _ hd
  · rw [reported]; rfl
  · rw [State.reportIssued_silent silent]; rfl
  · rw [State.reportIssued_sends (s := u) slot kept owner, step]
    simp only [State.judge, State.slot_setSlot]
    exact ⟨rfl, rfl⟩
  · rw [State.reportIssued_sends (s := u) slot kept owner, step]
    have opened : ((u.tenant n).step? st).isSome = true := opened
    simp only [State.judge, opened, if_true, State.slot_setSlot]
    rfl
  · rw [State.reportIssued_sends (s := u) slot kept owner, step]
    have closed : ((u.tenant n).step? st).isSome = false := closed
    simp only [State.judge, closed, Bool.false_eq_true, if_false]
    rfl

/-- A partition with nothing issued completes nothing. -/
theorem matrixInstructionComplete_none {s : State} {c part : Nat} (h : ((s.core c).issued.all fun i => i.part != part) = true) :
    exec (.matrixInstructionComplete c part) s = .next s := by
  have none : ((s.core c).issued.find? fun i => i.part == part) = none := by
    simpa [List.find?_eq_none] using h
  show execMatrixInstructionComplete c part s = _
  rw [execMatrixInstructionComplete, none]

/-- The partitions of a mode (R141). -/
def modeParts (mode : Nat) : List Nat := if mode = 0 then [0] else if mode = 1 then [0, 1] else [0, 1, 2, 3]

theorem mem_modeParts {mode part : Nat} (h : partOk mode part = true) : part ∈ modeParts mode := by
  by_cases whole : mode = 0
  · simpa [partOk, modeParts, whole] using h
  · by_cases halves : mode = 1
    · have : part < 2 := by simpa [partOk, halves] using h
      rw [halves]
      show part ∈ [0, 1]
      rw [List.mem_cons, List.mem_singleton]
      omega
    · have : part < 4 := by simpa [partOk, whole, halves] using h
      rw [modeParts, if_neg whole, if_neg halves, List.mem_cons, List.mem_cons, List.mem_cons, List.mem_singleton]
      omega

/-- The state when a fault of the shared logic has ended what the core's array ran, and is counted (R145, R146, R162). -/
def State.sharedDrained (s : State) (c : Nat) : State :=
  (s.setCore c ((modeParts (s.core c).mode).foldl (fun u p => u.poisonRegion p) { s.core c with issued := [] })).count 32
    (Obj.sharedFaultCount c)

/-- Nothing is issued on the core any longer, and every partition's region is poisoned. -/
theorem State.core_sharedDrained (s : State) (c : Nat) : ∃ m, (s.sharedDrained c).core c = { s.core c with issued := [], accPoison := m } ∧
    ∀ part, partOk (s.core c).mode part = true → ∀ q ∈ regionKeys (s.core c).mode part, Sparse.get 0 q m = 1 := by
  obtain ⟨m, drained, -, poisoned⟩ := Core.foldl_poisonRegion (modeParts (s.core c).mode) { s.core c with issued := [] }
  exact ⟨m, (State.core_setCore s c _).trans drained, fun part ok => poisoned part (mem_modeParts ok)⟩

theorem State.core_sharedDrained_other (s : State) {c d : Nat} (h : d ≠ c) : (s.sharedDrained c).core d = s.core d :=
  State.core_setCore_other s c d _ h

theorem State.reg_sharedDrained (s : State) (c k : Nat) : (s.sharedDrained c).reg k =
    if k = Obj.sharedFaultCount c then (s.reg (Obj.sharedFaultCount c) + 1) % 2 ^ 32 else s.reg k :=
  State.reg_count _ _ _ _

/-- The count of shared faults is no register of a report. -/
theorem not_reportObj_sharedFaultCount {c : Nat} (h : c < 512) (unit : Nat) : ¬ ReportObj unit (Obj.sharedFaultCount c) :=
  not_reportObj_of_lt (by simp only [Obj.sharedFaultCount, obj]; omega)

/-- The die of a core's engine (R16, R28). -/
theorem unitDie_engineId {c : Nat} (h : c < 512) : unitDie (engineId c 0) = c / 64 := by
  have : (c / 64 * 4096 + c / 8 % 8 * 64 + (c % 8 * 8 + 0)) / 4096 = c / 64 := by omega
  simp only [unitDie, engineId, unitId, bits, Nat.shiftRight_eq_div_pow]
  omega

/-- A fault of the shared logic drains the array and faults the contexts on it; without one it is reported by itself. -/
theorem execSharedLogicFault_up {s : State} {c : Nat} (hc : c < 512) (up : s.isUp = true) : execSharedLogicFault c s =
    .next (if (s.arrayContexts c).isEmpty then (s.sharedDrained c).report { blockReport 2 10 (engineId c 0) with partition := 7 }
      else (s.arrayContexts c).foldl (fun t x => t.faultCtx c x (engineId c 0) 10 8 0 7) (s.sharedDrained c)) := by
  have on : ¬ (512 ≤ c ∨ (!s.isUp) = true) := by simp [up]; omega
  unfold execSharedLogicFault
  rw [if_neg on]
  rfl

/-- A fault of the shared logic with no context on the array (R145, R146, R162, R622). -/
theorem sharedLogicFault_idle {s : State} {c : Nat} (hc : c < 512) (up : s.isUp = true) (idle : s.arrayContexts c = []) :
    ∃ t, exec (.sharedLogicFault c) s = .next t ∧
    (t.core c).issued = [] ∧ (t.core c).acc = (s.core c).acc ∧ (∀ d, d ≠ c → t.core d = s.core d) ∧ t.ctxs = s.ctxs ∧ t.mem = s.mem ∧
    (∀ part, partOk (s.core c).mode part = true → ∀ q ∈ regionKeys (s.core c).mode part, Sparse.get 0 q (t.core c).accPoison = 1) ∧
    t.reg (Obj.sharedFaultCount c) = (s.reg (Obj.sharedFaultCount c) + 1) % 2 ^ 32 ∧
    t.reg (Obj.containedCount (c / 64)) = (s.reg (Obj.containedCount (c / 64)) + 1) % 2 ^ 64 ∧
    (∃ r : Capture, t.capture Obj.packageCapture = (s.capture Obj.packageCapture).take r ∧ r.partition = 7 ∧ r.cause = 10 ∧ r.cls = 2 ∧
      r.reporter = engineId c 0) := by
  let u := s.sharedDrained c
  let r : FaultRep := { blockReport 2 10 (engineId c 0) with partition := 7 }
  have run : exec (.sharedLogicFault c) s = .next (u.report r) := by
    show execSharedLogicFault c s = _
    rw [execSharedLogicFault_up hc up, idle]
    rfl
  obtain ⟨reports, counted, -⟩ := State.report_contained u r rfl
  obtain ⟨ctxs, -, mem⟩ := reports.kept
  have core := reports.core
  obtain ⟨m, drained, poisoned⟩ := s.core_sharedDrained c
  have apart : Obj.containedCount (c / 64) ≠ Obj.sharedFaultCount c := by
    simp only [Obj.containedCount, Obj.sharedFaultCount, obj]; omega
  refine ⟨u.report r, run, ?_, ?_, fun d hd => (core d).trans (s.core_sharedDrained_other hd), ctxs, mem, ?_, ?_, ?_,
    u.recordOf r, State.report_packageCapture u r rfl, rfl, rfl, rfl, rfl⟩
  · rw [core, drained]
  · rw [core, drained]
  · rw [core, drained]; exact poisoned
  · rw [State.reg_report_other (s := u) (r := r) rfl (not_reportObj_sharedFaultCount hc _), s.reg_sharedDrained, if_pos rfl]
  · rw [show unitDie r.reporter = c / 64 from unitDie_engineId hc, s.reg_sharedDrained, if_neg apart] at counted
    exact counted

/-- The contexts on an array are four at most, each named once. -/
theorem State.arrayContexts_nodup (s : State) (c : Nat) : (s.arrayContexts c).Nodup := List.Pairwise.filter _ List.nodup_range

/-- A fault of the shared logic with contexts on the array (R145, R146, R162). -/
theorem sharedLogicFault_busy {s : State} {c : Nat} (hc : c < 512) (up : s.isUp = true) (busy : s.arrayContexts c ≠ []) :
    ∃ t, exec (.sharedLogicFault c) s = .next t ∧
    (t.core c).issued = [] ∧ (t.core c).acc = (s.core c).acc ∧ (∀ d, d ≠ c → t.core d = s.core d) ∧ t.mem = s.mem ∧
    (∀ part, partOk (s.core c).mode part = true → ∀ q ∈ regionKeys (s.core c).mode part, Sparse.get 0 q (t.core c).accPoison = 1) ∧
    (∀ x ∈ s.arrayContexts c, (t.ctx c x).state = 4 ∧ (t.ctx c x).firstFault = some ((s.ctx c x).firstFault.getD (engineId c 0, 8)) ∧
      ∀ k ∈ (t.core c).kernels, k.ctx ≠ x) ∧
    (∀ x, x < 4 → x ∉ s.arrayContexts c → t.ctx c x = s.ctx c x) ∧
    t.reg (Obj.sharedFaultCount c) = (s.reg (Obj.sharedFaultCount c) + 1) % 2 ^ 32 := by
  let u := s.sharedDrained c
  have run : exec (.sharedLogicFault c) s =
      .next ((s.arrayContexts c).foldl (fun t x => t.faultCtx c x (engineId c 0) 10 8 0 7) u) := by
    show execSharedLogicFault c s = _
    rw [execSharedLogicFault_up hc up, if_neg (by simpa using busy)]
  have all := State.foldl_faultCtx_allFaulted (c := c) (unit := engineId c 0) (cause := 10) (access := 8) (addr := 0) (part := 7)
    (by decide) (s.arrayContexts_nodup c) u
  generalize (s.arrayContexts c).foldl (fun t x => t.faultCtx c x (engineId c 0) 10 8 0 7) u = t at run all
  obtain ⟨m, drained, poisoned⟩ := s.core_sharedDrained c
  have core := all.core
  rw [show u.core c = _ from drained] at core
  refine ⟨t, run, ?_, ?_, fun d hd => (all.cores d hd).trans (s.core_sharedDrained_other hd), all.memory, ?_, fun x hx => ?_,
    fun x _ hx => all.others x hx, ?_⟩
  · rw [core]
  · rw [core]
  · rw [core]; exact poisoned
  · refine ⟨(all.faulted x hx).1, (all.faulted x hx).2, fun k hk same => ?_⟩
    rw [core] at hk
    have off := (List.mem_filter.1 hk).2
    rw [same] at off
    simp [hx] at off
  · rw [all.regs _ (not_reportObj_sharedFaultCount hc _), s.reg_sharedDrained, if_pos rfl]

/-- No core there, or a package that is not up, has no such fault. -/
theorem sharedLogicFault_off {s : State} {c : Nat} (h : 512 ≤ c ∨ s.isUp = false) : exec (.sharedLogicFault c) s = .next s :=
  if_pos (by simpa using h)

/-- MMODE is held (R143, R160). -/
theorem mmode_held {s : State} {c x mode : Nat} {k : Work} (issues : Issues s c x k) (hm : mode < 3) :
    ∃ t, exec (.mmode c x mode) s = .next t ∧
    t.core c = { s.core c with mmodeHeld := (s.core c).mmodeHeld ++ [(x, mode)] } ∧ t.ctxs = (s.started c x).ctxs ∧
    (∀ d, d ≠ c → t.core d = s.core d) ∧ { t with cores := s.cores, ctxs := s.ctxs } = s := by
  let u := s.started c x
  have run : exec (.mmode c x mode) s = .next (u.modCore c fun v => { v with mmodeHeld := v.mmodeHeld ++ [(x, mode)] }) := by
    show Host.Outcome.next (s.issue c x _) = _
    rw [State.issue_ok issues, if_neg (by omega)]
  obtain ⟨m, started⟩ := s.started_eq c x
  refine ⟨_, run, ?_, rfl, fun d hd => ?_, ?_⟩
  · rw [State.modCore, State.core_setCore, show u = _ from started]; rfl
  · rw [State.modCore, State.core_setCore_other _ _ _ _ hd, show u = _ from started]; rfl
  · rw [State.modCore, show u = _ from started]; rfl

/-- Code 3 of MMODE is a descriptor fault (R143, R160). -/
theorem mmode_faults {s : State} {c x mode : Nat} {k : Work} (issues : Issues s c x k) (hm : 3 ≤ mode) :
    ∃ t, exec (.mmode c x mode) s = .next t ∧ PartFaulted (s.started c x) t c x 8 := by
  have hc : c < 512 := by
    have may := issues.1
    simp only [State.mayIssue, Bool.and_eq_true, decide_eq_true_eq] at may
    obtain ⟨⟨⟨⟨⟨⟨⟨⟨hc, -⟩, -⟩, -⟩, -⟩, -⟩, -⟩, -⟩, -⟩ := may
    exact hc
  have run : exec (.mmode c x mode) s = .next ((s.started c x).partitionFault c x 0 .descriptor 0 false) := by
    show Host.Outcome.next (s.issue c x _) = _
    rw [State.issue_ok issues, if_pos hm]
  exact ⟨_, run, State.partitionFault_partFaulted _ hc (f := .descriptor) (by decide) x 0 0 false⟩

/-- A held mode change applies once nothing is issued (R143). -/
theorem mmodeApply_applies {s : State} {c x mode : Nat} {ms : List (Nat × Nat)} (held : (s.core c).mmodeHeld = (x, mode) :: ms)
    (issued : (s.core c).issued = []) (gather : s.gatherWaits c = false) :
    ∃ t, exec (.mmodeApply c) s = .next t ∧ t.reg (Obj.matrixMode c) = mode ∧
      t.core c = { s.core c with mode := mode, mmodeHeld := ms, planes := [] } ∧ (∀ d, d ≠ c → t.core d = s.core d) ∧
      RegsBut [Obj.matrixMode c] s t ∧ { t with regs := s.regs, cores := s.cores } = s := by
  have run : exec (.mmodeApply c) s =
      .next ((s.setCore c { s.core c with mode := mode, mmodeHeld := ms, planes := [] }).setReg (Obj.matrixMode c) mode) := by
    show execMmodeApply c s = _
    simp [execMmodeApply, held, issued, gather]
  exact ⟨_, run, State.reg_setReg_same _ _ _, State.core_setCore s c _, fun d hd => State.core_setCore_other s c d _ hd,
    fun k hk => State.reg_setReg_other _ _ _ _ (by simpa using hk), rfl⟩

/-- Until then it stays held (R143, R510). -/
theorem mmodeApply_waits {s : State} {c : Nat} (h : (s.core c).issued ≠ [] ∨ (s.core c).mmodeHeld = [] ∨ s.gatherWaits c = true) :
    exec (.mmodeApply c) s = .next s := by
  show execMmodeApply c s = _
  unfold execMmodeApply
  dsimp only
  split
  · rfl
  · rename_i held
    refine if_neg ?_
    rcases h with h | h | h
    · simp [h]
    · rw [h] at held; cases held
    · simp [h]

/-- A partition's planes when context x takes it: its tile is in the plane that was not current, which is current now (R130, R190). -/
def Plane.switchedTo (p : Plane) (x : Nat) : Plane :=
  let tile := (p.tiles.find? fun q => q.1 == x).map (·.2)
  { p with
    tag := some x, current := 1 - p.current, tileA := if p.current = 1 then tile else p.tileA,
    tileB := if p.current = 1 then p.tileB else tile, badA := p.current != 1 && p.badA, badB := p.current == 1 && p.badB }

/-- The state when context x has taken a partition of core c (R190, R221). -/
def State.switchedTo (s : State) (c part x : Nat) : State :=
  ((s.setCore c { s.core c with
      planes := Sparse.set {} part ((Sparse.get {} part (s.core c).planes).switchedTo x) (s.core c).planes }).count 64
    (Obj.contextSwitchCount c)).addReg 64 (Obj.switchCycles c) 16

theorem State.core_switchedTo (s : State) (c part x : Nat) : (s.switchedTo c part x).core c = { s.core c with
    planes := Sparse.set {} part ((Sparse.get {} part (s.core c).planes).switchedTo x) (s.core c).planes } :=
  State.core_setCore s c _

theorem State.switchedTo_frame (s : State) (c part x : Nat) : { s.switchedTo c part x with regs := s.regs, cores := s.cores } = s := by
  simp only [State.switchedTo, State.addReg, State.count, State.setReg, State.setCore]

/-- A switch is counted, with its cycles, and no other register changes. -/
theorem State.reg_switchedTo (s : State) (c part x : Nat) :
    (s.switchedTo c part x).reg (Obj.contextSwitchCount c) = (s.reg (Obj.contextSwitchCount c) + 1) % 2 ^ 64 ∧
    RegsBut [Obj.contextSwitchCount c, Obj.switchCycles c] s (s.switchedTo c part x) := by
  have apart : Obj.contextSwitchCount c ≠ Obj.switchCycles c := by
    simp only [Obj.contextSwitchCount, Obj.switchCycles, obj]; omega
  refine ⟨?_, fun k hk => ?_⟩
  · rw [State.switchedTo, State.reg_addReg, if_neg apart, State.reg_count, if_pos rfl]; rfl
  · simp only [List.mem_cons, List.not_mem_nil, or_false, not_or] at hk
    rw [State.switchedTo, State.reg_addReg, if_neg hk.2, State.reg_count, if_neg hk.1]; rfl

/-- A partition whose context waits goes to the next ready one (R130, R142, R190, R221). -/
theorem partitionSwitch_switches {s : State} {c part x y : Nat} (serves : (Sparse.get {} part (s.core c).planes).tag = some y)
    (waits : (s.ctx c y).state = 3) (ok : partOk (s.core c).mode part = true) (next : s.nextReady c y = some x) :
    ∃ t, exec (.partitionSwitch c part) s = .next t ∧ (Sparse.get {} part (t.core c).planes).tag = some x ∧
      (Sparse.get {} part (t.core c).planes).current = 1 - (Sparse.get {} part (s.core c).planes).current ∧
      (let tile := ((Sparse.get {} part (s.core c).planes).tiles.find? fun q => q.1 == x).map (·.2)
       ((Sparse.get {} part (s.core c).planes).current = 1 → (Sparse.get {} part (t.core c).planes).tileA = tile ∧
         (Sparse.get {} part (t.core c).planes).tileB = (Sparse.get {} part (s.core c).planes).tileB) ∧
       ((Sparse.get {} part (s.core c).planes).current ≠ 1 → (Sparse.get {} part (t.core c).planes).tileB = tile ∧
         (Sparse.get {} part (t.core c).planes).tileA = (Sparse.get {} part (s.core c).planes).tileA)) ∧
      (∀ q, q ≠ part → Sparse.get {} q (t.core c).planes = Sparse.get {} q (s.core c).planes) ∧
      t.reg (Obj.contextSwitchCount c) = (s.reg (Obj.contextSwitchCount c) + 1) % 2 ^ 64 ∧
      RegsBut [Obj.contextSwitchCount c, Obj.switchCycles c] s t ∧ (∀ d, d ≠ c → t.core d = s.core d) ∧
      { t.core c with planes := (s.core c).planes } = s.core c ∧ { t with regs := s.regs, cores := s.cores } = s := by
  have stays : ¬ ((s.ctx c y).state ≠ 3 ∨ (!partOk (s.core c).mode part) = true) := by simp [waits, ok]
  have run : exec (.partitionSwitch c part) s = .next (s.switchedTo c part x) := by
    show execPartitionSwitch c part s = _
    simp only [execPartitionSwitch, serves, if_neg stays, next]
    rfl
  have core := s.core_switchedTo c part x
  obtain ⟨counted, regs⟩ := s.reg_switchedTo c part x
  have cores : ∀ d, d ≠ c → (s.switchedTo c part x).core d = s.core d := fun d hd => State.core_setCore_other s c d _ hd
  have frame := s.switchedTo_frame c part x
  generalize s.switchedTo c part x = t at run core counted regs cores frame
  have plane : Sparse.get {} part (t.core c).planes = (Sparse.get {} part (s.core c).planes).switchedTo x := by
    rw [core, Sparse.get_set_same]
  refine ⟨t, run, ?_, ?_, ⟨fun first => ?_, fun second => ?_⟩, fun q hq => ?_, counted, regs, cores, ?_, frame⟩
  · rw [plane]; rfl
  · rw [plane]; rfl
  · rw [plane]; exact ⟨if_pos first, if_pos first⟩
  · rw [plane]; exact ⟨if_neg second, if_neg second⟩
  · rw [core, Sparse.get_set_other _ _ _ _ _ _ hq]
  · rw [core]

/-- A partition that serves no waiting context, or has no ready one to go to, stays as it is. -/
theorem partitionSwitch_stays {s : State} {c part : Nat} (h : (∀ y, (Sparse.get {} part (s.core c).planes).tag = some y →
    (s.ctx c y).state ≠ 3 ∨ s.nextReady c y = none) ∨ partOk (s.core c).mode part = false) :
    exec (.partitionSwitch c part) s = .next s := by
  show execPartitionSwitch c part s = _
  unfold execPartitionSwitch
  dsimp only
  split
  · rfl
  · rename_i y serves
    split
    · rfl
    · rename_i stays
      obtain ⟨waits, ok⟩ : (s.ctx c y).state = 3 ∧ partOk (s.core c).mode part = true := by simpa using stays
      have none : s.nextReady c y = none := by
        rcases h with h | h
        · exact (h y serves).resolve_left (· waits)
        · rw [ok] at h; cases h
      rw [none]

/-- Settles O16, command by command. -/
theorem matrixEngineControl : Obligations.MatrixEngineControl :=
  ⟨fun _ _ _ _ => matrixInstructionComplete_ends, fun _ => State.resumeHost_of_none_held, fun _ _ _ => matrixInstructionComplete_none,
    fun _ _ => sharedLogicFault_idle, fun _ _ => sharedLogicFault_busy, fun _ _ => sharedLogicFault_off,
    fun _ _ _ _ _ => mmode_held, fun _ _ _ _ _ => mmode_faults, fun _ _ _ _ _ => mmodeApply_applies, fun _ _ => mmodeApply_waits,
    fun _ _ _ _ _ => partitionSwitch_switches, fun _ _ _ => partitionSwitch_stays⟩

end Sys2Proof.Machine
end

section
/-! The end of a tenancy (R337, R364). Freed memory lowers what is charged to its tenant (R357) before the tenant's cores are looked up in its
core set (R364), and both are registers under the numbers of their objects (R641). The statement takes any state, one whose allocations are
charged to a number that is no tenant's included; such a charge can be the object of a core set. -/

namespace Sys2Proof.Machine

/-- A tenant whose core set is empty has no core to free. -/
theorem State.freeCores_of_coreSet_zero {s : State} {n : Nat} (h : s.reg (Obj.coreSet n) = 0) : s.freeCores n = s := by
  have none : ∀ c, bit 0 c = false := fun c => by simp [bit, bits]
  have empty : ((List.range 512).filter fun c => bit 0 c) = [] :=
    List.filter_eq_nil_iff.2 fun c _ => by rw [none]; exact Bool.false_ne_true
  unfold State.freeCores
  rw [h]
  dsimp only
  rw [empty, List.foldl_nil]

/-- The moves between READY, ADMITTED and RUNNING change no context. -/
@[simp] theorem State.settleDevice_ctxs (s : State) : s.settleDevice.ctxs = s.ctxs := by
  simp only [State.settleDevice, State.enter]
  repeat' split
  all_goals rfl

/-- A requested power step changes no context. -/
@[simp] theorem State.requestPowerStep_ctxs (s : State) (floor ceiling : Nat) :
    (s.requestPowerStep floor ceiling).ctxs = s.ctxs := by
  simp only [State.requestPowerStep, State.scheduleLocal, State.schedule]
  repeat' split
  all_goals rfl

/-- TENANT_FREE leaves the contexts as the removal of the tenant's entries and claims and the freeing of its cores leave them. -/
theorem tenantFree_ctxs {s : State} {n : Nat} (releasing : (s.tenant n).state = 2) (done : (s.works.any fun p => p.2.tenant == n) = false) :
    (nextOf s (exec (.tenantFree n) s)).ctxs = (((s.removeHoldings n).clearInsts n).freeCores n).ctxs := by
  have guard : ¬ ((s.tenant n).state ≠ 2 ∨ (s.works.any fun p => p.2.tenant == n) = true) := by simp [releasing, done]
  show (nextOf s (execTenantFree n s)).ctxs = _
  unfold execTenantFree
  rw [if_neg guard]
  simp only [nextOf, State.settleDevice_ctxs]
  generalize ((s.removeHoldings n).clearInsts n).freeCores n = u
  split
  · rw [State.requestPowerStep_ctxs]; rfl
  · rfl

/-- near_charged of the number n + 0x7000 (R357) and core_set of tenant n (R397) are one object. -/
theorem nearCharged_eq_coreSet (n : Nat) : Obj.nearCharged (n + 0x7000) = Obj.coreSet n := by
  simp only [Obj.nearCharged, Obj.coreSet, obj]
  omega

namespace ChargedToNoTenant

/-- A line of tenant 0 in Near; its home copy is allocation 7. -/
def line : Entry :=
  { base := 0, lines := 1, tensorId := 0, tenant := 0, homeTier := 0, homeDie := 0, pinned := false, shared := false,
    versioned := false, place := {}, shareMask := 0, homeAlloc := 7, homeAt := 0 }

/-- Tenant 0 is releasing and no work is left to it. Its line's 64 bytes are charged to the number 0x7000, and nothing else is charged to
that. The charge reads as tenant 0's core set: core 6, whose context 0 is ready. -/
def package : State :=
  { State.reset with
    regs := [(Obj.nearCharged 0x7000, 64)]
    tenants := [(0, { state := 2 })]
    ctxs := [(ctxKey 6 0, { state := 1 })]
    entries := [(3, line)]
    allocs := [(7, { tier := 0, die := 0, bytes := 64, tenant := 0x7000 })] }

/-- Core 6 is in tenant 0's core set. -/
theorem core_in_coreSet : bit (package.reg (Obj.coreSet 0)) 6 = true := by
  rw [← nearCharged_eq_coreSet 0]
  decide

/-- When the line has been removed, no core is. -/
theorem coreSet_after_removal : (package.removeHoldings 0).reg (Obj.coreSet 0) = 0 := by
  rw [← nearCharged_eq_coreSet 0]
  decide

/-- So TENANT_FREE leaves the context ready. -/
theorem ctx_after_tenantFree : (nextOf package (exec (.tenantFree 0) package)).ctx 6 0 = { state := 1 } := by
  have kept : ((package.removeHoldings 0).clearInsts 0).freeCores 0 = (package.removeHoldings 0).clearInsts 0 :=
    State.freeCores_of_coreSet_zero coreSet_after_removal
  rw [State.ctx, tenantFree_ctxs (by decide) (by decide), kept]
  decide

end ChargedToNoTenant

open ChargedToNoTenant in
/-- Refutes O28, by its TENANT_FREE clause: a context of a core in the tenant's core set need not be idle afterwards. -/
theorem not_tenantRelease : ¬ Obligations.TenantRelease := by
  intro h
  obtain ⟨-, -, -, -, -, free, -⟩ := h
  obtain ⟨t, ht, -, -, cores, -⟩ := free package 0 (by decide) (by decide) (by decide)
  have idle : t.ctx 6 0 = {} := (cores 6 0 (by decide) core_in_coreSet (by decide)).1
  have stays := ctx_after_tenantFree
  rw [ht] at stays
  exact absurd (stays.symm.trans idle) (by decide)

end Sys2Proof.Machine
end

section
/-! What an instruction of a thread group does to its group: one value for all active threads (R205), an issue that writes no register
(R195, R221), an empty maximum or minimum (R206). -/

namespace Sys2Proof.Machine

/-- One value goes to D of every active thread, and nothing else changes but the issue. -/
theorem State.spread_delivers (s : State) {c g : Nat} (w : ThreadWord) (v : Nat) (hg : g < 64) :
    Delivers s (s.spread c g w (s.activeOf c g w) v) c g w v ∧
    { s.spread c g w (s.activeOf c g w) v with threads := s.threads, regs := s.regs, cores := s.cores } = s := by
  obtain ⟨leaves, exited, value, regs, frame⟩ := s.setRegs_leaves c g (w.d % 32) w (fun _ => v) hg
  refine ⟨⟨fun i hi => ?_, leaves, exited, regs⟩, frame⟩
  obtain ⟨hi, active⟩ := State.mem_activeOf.1 hi
  exact value i hi active

/-- An issue that writes no register leaves every thread as it is. -/
theorem State.threadIssued_leaves (s : State) (c g r : Nat) (w : ThreadWord) : LaneLeaves s (s.threadIssued c g) c g r w := by
  obtain ⟨next, stay, counted, -, cores, core, -⟩ := s.threadIssued_spec c g
  exact ⟨fun _ _ _ _ => rfl, fun _ _ => rfl, fun _ _ _ => rfl, fun _ _ _ _ _ _ => rfl, next, stay, counted, cores, core⟩

/-- An object set afterwards is no part of it, unless it is the count of issues. -/
theorem LaneLeaves.setReg {s t : State} {c g r o : Nat} {w : ThreadWord} (h : LaneLeaves s t c g r w) (v : Nat)
    (ho : Obj.vectorIssueCount c ≠ o) : LaneLeaves s (t.setReg o v) c g r w :=
  ⟨h.others, h.preds, h.inactive, h.groups, h.next, h.stay, (State.reg_setReg_other t o v _ ho).trans h.counted, h.cores⟩

/-- A free value drawn beforehand is no part of what is left. -/
theorem Delivers.of_drawn {s t : State} {c g n v : Nat} {w : ThreadWord} (h : Delivers { s with drawn := n } t c g w v) :
    Delivers s t c g w v := by
  obtain ⟨value, leaves, exited, regs⟩ := h
  exact ⟨value, ⟨leaves.others, leaves.preds, leaves.inactive, leaves.groups, leaves.next, leaves.stay, leaves.counted, leaves.cores⟩,
    exited, regs⟩

/-- The flag of a context's empty reductions and the count of a core's issues are two objects (R641). -/
theorem vectorIssueCount_ne_emptyReductionFlag (c x : Nat) : Obj.vectorIssueCount c ≠ Obj.emptyReductionFlag c x := by
  simp only [Obj.vectorIssueCount, Obj.emptyReductionFlag, obj]
  omega

section
variable {s : State} {c g x : Nat} {w : ThreadWord} {k : Work}

/-- VRED_ADD (R176, R205). -/
theorem vredAdd_delivers (issues : ThreadIssues s c g x k) (hg : g < 64) : ∃ t, exec (.vredAdd c g w) s = .next t ∧
    Delivers s t c g w (fTree ((s.activeOf c g w).map fun j => (s.thread c g j).reg (w.a % 32))) ∧
    { t with threads := s.threads, regs := s.regs, cores := s.cores } = s :=
  ⟨_, congrArg Host.Outcome.next (State.threadIssue_ok issues w _), s.spread_delivers w _ hg⟩

/-- A maximum or minimum over some active threads folds their values (R98, R205). -/
theorem State.reduceBy_delivers {v : Nat} {vs : List Nat} (f : Nat → Nat → Nat) (issues : ThreadIssues s c g x k) (hg : g < 64)
    (values : ((s.activeOf c g w).map fun j => (s.thread c g j).reg (w.a % 32)) = v :: vs) :
    Delivers s (s.reduceBy c g w f) c g w (vs.foldl f v) ∧
    { s.reduceBy c g w f with threads := s.threads, regs := s.regs, cores := s.cores } = s := by
  have reduced : s.reduceBy c g w f = s.spread c g w (s.activeOf c g w) (vs.foldl f v) := by
    have actives : s.actives c g w (s.activeOf c g w) = v :: vs := values
    rw [State.reduceBy, State.threadIssue_ok issues, actives]
  rw [reduced]
  exact s.spread_delivers w _ hg

/-- Over no active thread it issues and raises the flag (R206). -/
theorem State.reduceBy_of_none_active (f : Nat → Nat → Nat) (issues : ThreadIssues s c g x k) (noneActive : s.activeOf c g w = []) :
    s.reduceBy c g w f = (s.threadIssued c g).emptyReduction c x := by
  have actives : s.actives c g w (s.activeOf c g w) = [] := by rw [noneActive]; rfl
  rw [State.reduceBy, State.threadIssue_ok issues, actives]

/-- The flag of an empty maximum or minimum takes one event, and the issue is counted. -/
theorem State.emptyReduction_threadIssued_leaves (s : State) (c g x : Nat) (w : ThreadWord) :
    (∀ r, LaneLeaves s ((s.threadIssued c g).emptyReduction c x) c g r w) ∧
    ((s.threadIssued c g).emptyReduction c x).reg (Obj.emptyReductionFlag c x) = bumpEvents (s.reg (Obj.emptyReductionFlag c x)) ∧
    RegsBut [Obj.vectorIssueCount c, Obj.emptyReductionFlag c x] s ((s.threadIssued c g).emptyReduction c x) ∧
    { (s.threadIssued c g).emptyReduction c x with regs := s.regs, cores := s.cores } = s := by
  obtain ⟨-, -, -, regs, -, -, frame⟩ := s.threadIssued_spec c g
  have apart := vectorIssueCount_ne_emptyReductionFlag c x
  refine ⟨fun r => (s.threadIssued_leaves c g r w).setReg _ apart, ?_, fun q hq => ?_, frame⟩
  · rw [State.emptyReduction, regs _ (by simpa using apart.symm)]
    exact State.reg_setReg_same _ _ _
  · simp only [List.mem_cons, List.not_mem_nil, or_false, not_or] at hq
    obtain ⟨count, flag⟩ := hq
    exact (State.reg_setReg_other _ _ _ _ flag).trans (regs q (by simpa using count))

/-- VBCAST to some active threads gives them one of their values (R205). -/
theorem vbcast_delivers (issues : ThreadIssues s c g x k) (hg : g < 64) (active : s.activeOf c g w ≠ []) :
    ∃ (t : State) (j : Nat), j ∈ s.activeOf c g w ∧ exec (.vbcast c g w) s = .next t ∧
      Delivers s t c g w ((s.thread c g j).reg (w.a % 32)) ∧
      { t with threads := s.threads, regs := s.regs, cores := s.cores, drawn := s.drawn } = s := by
  let u : State := (s.draw 6).2
  have bound : (s.draw 6).1 % (s.activeOf c g w).length < (s.activeOf c g w).length :=
    Nat.mod_lt _ (List.length_pos_iff.2 active)
  let j := (s.activeOf c g w)[(s.draw 6).1 % (s.activeOf c g w).length]
  have run : exec (.vbcast c g w) s = .next (u.spread c g w (s.activeOf c g w) ((s.thread c g j).reg (w.a % 32))) := by
    refine congrArg Host.Outcome.next ((State.threadIssue_ok issues w _).trans ?_)
    dsimp only
    rw [List.getElem?_eq_getElem bound]
    rfl
  obtain ⟨delivers, frame⟩ := u.spread_delivers (c := c) w ((s.thread c g j).reg (w.a % 32)) hg
  exact ⟨_, j, List.getElem_mem bound, run, Delivers.of_drawn delivers, congrArg (fun z : State => { z with drawn := s.drawn }) frame⟩

/-- VBCAST to no active thread issues, and writes nothing. -/
theorem vbcast_of_none_active (issues : ThreadIssues s c g x k) (noneActive : s.activeOf c g w = []) :
    exec (.vbcast c g w) s = .next (s.threadIssued c g) := by
  refine congrArg Host.Outcome.next ((State.threadIssue_ok issues w _).trans ?_)
  rw [noneActive]
  rfl

/-- VBAR holds nothing back (R195, log entry 29). -/
theorem vbar_issues (issues : ThreadIssues s c g x k) : exec (.vbar c g w) s = .next (s.threadIssued c g) :=
  congrArg Host.Outcome.next (State.threadIssue_ok issues w _)

end

end Sys2Proof.Machine
end

section
/-! Blocks and the threads that run them: the end of threads and of a block (R197), the blocks handed out, and the registers a block starts
with (R198). -/

namespace Sys2Proof.Machine

/-- A store in which some numbers, no two alike, have been set. -/
theorem Sparse.get_foldl_set {α : Type} [DecidableEq α] (d : α) {key : Nat → Nat} (apart : ∀ i j, key i = key j → i = j)
    (f : Nat → α) (is : List Nat) (m : Sparse α) (i : Nat) :
    Sparse.get d (key i) (is.foldl (fun m j => Sparse.set d (key j) (f j) m) m) =
      if i ∈ is then f i else Sparse.get d (key i) m := by
  induction is generalizing m with
  | nil => simp
  | cons j is ih =>
    rw [List.foldl_cons, ih, Sparse.get_set]
    by_cases hj : i = j
    · subst hj; simp
    · have ne : key i ≠ key j := fun e => hj (apart _ _ e)
      simp [hj, ne]

/-- The other numbers of that store. -/
theorem Sparse.get_foldl_set_other {α : Type} [DecidableEq α] (d : α) {key : Nat → Nat} {q : Nat} {is : List Nat}
    (other : ∀ i ∈ is, q ≠ key i) (f : Nat → α) (m : Sparse α) :
    Sparse.get d q (is.foldl (fun m j => Sparse.set d (key j) (f j) m) m) = Sparse.get d q m :=
  List.foldlRecOn (motive := fun u => Sparse.get d q u = Sparse.get d q m) is _ rfl fun u hu i hi => by
    rw [Sparse.get_set_other _ _ _ _ _ _ (other i hi), hu]

/-- Thread i at the start of a block (R198). -/
def startThread (i block total : Nat) : Thread :=
  { regs := [(0, i), (1, block), (2, total)].foldl (fun r p => Sparse.set 0 p.1 p.2 r) [] }

theorem startThread_reg (i block total r : Nat) :
    (startThread i block total).reg r = if r = 0 then i else if r = 1 then block else if r = 2 then total else 0 := by
  simp only [startThread, Thread.reg, List.foldl_cons, List.foldl_nil, Sparse.get_set, Sparse.get]
  grind

/-- A block's start sets the threads of its group. -/
theorem State.thread_startBlock (s : State) (c g block total : Nat) {i : Nat} (hi : i < 64) :
    (s.startBlock c g block total).thread c g i = startThread i block total := by
  have apart : ∀ i j, threadKey c g i = threadKey c g j → i = j := fun i j e => by unfold threadKey at e; omega
  exact (Sparse.get_foldl_set {} apart (startThread · block total) _ _ i).trans (if_pos (List.mem_range.2 hi))

/-- … and those alone. -/
theorem State.thread_startBlock_other (s : State) (c g block total : Nat) {d h i : Nat} (hi : i < 64) (hg : g < 64) (hh : h < 64)
    (other : d ≠ c ∨ h ≠ g) : (s.startBlock c g block total).thread d h i = s.thread d h i := by
  refine Sparse.get_foldl_set_other (key := threadKey c g) {} (fun j hj => ?_) (startThread · block total) s.threads
  have := List.mem_range.1 hj
  unfold threadKey
  omega

/-- Some threads of a group have executed VEXIT. -/
def State.withExited (s : State) (c g : Nat) (act : List Nat) : State :=
  act.foldl (fun u i => u.setThread c g i { u.thread c g i with exited := true }) s

/-- They have exited, and nothing else of any thread changes. -/
theorem State.thread_withExited {c g : Nat} {act : List Nat} (hg : g < 64) (hact : ∀ i ∈ act, i < 64) (s : State) {d h i : Nat}
    (hh : h < 64) (hi : i < 64) : (s.withExited c g act).thread d h i =
      if d = c ∧ h = g ∧ i ∈ act then { s.thread d h i with exited := true } else s.thread d h i := by
  induction act generalizing s with
  | nil => simp [State.withExited]
  | cons j act ih =>
    have hj := hact j List.mem_cons_self
    have step : s.withExited c g (j :: act) = (s.setThread c g j { s.thread c g j with exited := true }).withExited c g act := rfl
    rw [step, ih fun i hi => hact i (List.mem_cons_of_mem j hi), State.thread_setThread _ _ _ _ _ _ _ _ hj hi hg hh]
    by_cases same : d = c ∧ h = g
    · obtain ⟨rfl, rfl⟩ := same
      by_cases hij : i = j
      · subst hij; simp
      · simp [hij]
    · simp only [← and_assoc, same, false_and, if_false]

theorem State.withExited_threads (s : State) (c g : Nat) (act : List Nat) : ∃ m, s.withExited c g act = { s with threads := m } :=
  List.foldlRecOn (motive := fun u => ∃ m, u = ({ s with threads := m } : State)) act _ ⟨s.threads, rfl⟩ fun _ ⟨_, hu⟩ _ _ => by
    rw [hu]; exact ⟨_, rfl⟩

/-- VEXIT has issued: the active threads have exited. -/
def State.vexited (s : State) (c g : Nat) (w : ThreadWord) : State := (s.withExited c g (s.activeOf c g w)).threadIssued c g

/-- VEXIT ends the active threads, then looks whether the block has ended (R197). -/
theorem vexit_run {s : State} {c g x : Nat} {k : Work} (issues : ThreadIssues s c g x k) (w : ThreadWord) :
    exec (.vexit c g w) s = .next ((s.vexited c g w).endBlock c g x) :=
  congrArg Host.Outcome.next (State.threadIssue_ok issues w _)

section
variable (s : State) (c : Nat) {g : Nat} (w : ThreadWord)

/-- The threads after VEXIT. -/
theorem State.thread_vexited (hg : g < 64) {d h i : Nat} (hh : h < 64) (hi : i < 64) : (s.vexited c g w).thread d h i =
    if d = c ∧ h = g ∧ (s.thread c g i).active w = true then { s.thread d h i with exited := true } else s.thread d h i := by
  refine (State.thread_withExited hg (fun i hi => (State.mem_activeOf.1 hi).1) s hh hi).trans ?_
  simp only [State.mem_activeOf, hi, true_and]

theorem State.thread_vexited_same (hg : g < 64) {i : Nat} (hi : i < 64) : (s.vexited c g w).thread c g i =
    { s.thread c g i with exited := (s.thread c g i).exited || (s.thread c g i).active w } := by
  rw [s.thread_vexited c w hg hg hi]
  cases active : (s.thread c g i).active w <;> simp

theorem State.thread_vexited_other (hg : g < 64) {d h i : Nat} (hi : i < 64) (hh : h < 64) (other : d ≠ c ∨ h ≠ g) :
    (s.vexited c g w).thread d h i = s.thread d h i := by
  rw [s.thread_vexited c w hg hh hi, if_neg (by omega)]

/-- What VEXIT leaves. -/
theorem State.vexited_leaves (hg : g < 64) : (∀ r, LaneLeaves s (s.vexited c g w) c g r w) ∧
    RegsBut [Obj.vectorIssueCount c] s (s.vexited c g w) ∧
    { s.vexited c g w with threads := s.threads, regs := s.regs, cores := s.cores } = s := by
  have same := fun i hi => s.thread_vexited_same c w hg (i := i) hi
  have other := fun d h i hi hh => s.thread_vexited_other c w hg (d := d) (h := h) (i := i) hi hh
  obtain ⟨m, exited⟩ := s.withExited_threads c g (s.activeOf c g w)
  have issued : s.vexited c g w = ({ s with threads := m } : State).threadIssued c g := congrArg (State.threadIssued · c g) exited
  obtain ⟨next, stay, counted, regs, cores, core, -⟩ := State.threadIssued_spec { s with threads := m } c g
  rw [← issued] at next stay counted regs cores core
  refine ⟨fun r => ⟨fun i q hi _ => ?_, fun i hi => ?_, fun i hi inactive => ?_, other, next, stay, counted, cores, core⟩, regs, ?_⟩
  · rw [same i hi]; rfl
  · rw [same i hi]
  · rw [same i hi, inactive, Bool.or_false]
  · rw [issued]; rfl

/-- The block ends with VEXIT when every thread has exited before or is active. -/
theorem State.all_exited_vexited (hg : g < 64) : ((List.range 64).all fun i => ((s.vexited c g w).thread c g i).exited) = true ↔
    ∀ i, i < 64 → (s.thread c g i).exited = true ∨ (s.thread c g i).active w = true := by
  simp only [List.all_eq_true, List.mem_range]
  refine forall₂_congr fun i hi => ?_
  rw [s.thread_vexited_same c w hg hi, Bool.or_eq_true]

end

/-- A kernel when the block that group g runs has ended: the group is free, and one more block has ended (R197). -/
def Kernel.afterBlock (g : Nat) (kn : Kernel) : Kernel :=
  { kn with
    ended := if kn.groups.any (fun p => p.1 == g) then kn.ended + 1 else kn.ended,
    groups := kn.groups.filter fun p => p.1 != g, held := kn.held.filter fun p => p.1 != g }

/-- VEXIT has issued, and its group's block has ended. -/
def State.blockEnded (s : State) (c g : Nat) (w : ThreadWord) : State :=
  (s.vexited c g w).setCore c { s.core c with kernels := (s.core c).kernels.map (Kernel.afterBlock g) }

/-- A kernel when the word of group g has issued (R195). -/
def Kernel.issued (g : Nat) (kn : Kernel) : Kernel :=
  { kn with
    groups := kn.groups.map fun p => if p.1 = g then (p.1, p.2.1, p.2.2 + 16) else p, held := kn.held.filter fun h => h.1 != g }

/-- The end of the block leaves nothing of the group's advance to the next word. -/
theorem Kernel.issued_ends (g : Nat) (kn : Kernel) :
    (if (kn.issued g).groups.any (fun p => p.1 == g) then
      { kn.issued g with ended := (kn.issued g).ended + 1, groups := (kn.issued g).groups.filter fun p => p.1 != g }
    else kn.issued g) = kn.afterBlock g := by
  have number : ∀ p : Nat × Nat × Nat, (if p.1 = g then (p.1, p.2.1, p.2.2 + 16) else p).1 = p.1 := fun p => by split <;> rfl
  have runs : (kn.issued g).groups.any (fun p => p.1 == g) = kn.groups.any fun p => p.1 == g := by
    simp only [Kernel.issued, List.any_map, Function.comp_def, number]
  have others : (kn.issued g).groups.filter (fun p => p.1 != g) = kn.groups.filter fun p => p.1 != g := by
    simp only [Kernel.issued, List.filter_map, Function.comp_def, number]
    refine (List.map_congr_left fun p hp => if_neg ?_).trans (List.map_id _)
    simpa using (List.mem_filter.1 hp).2
  rw [runs, others, Kernel.afterBlock]
  split
  · rfl
  · rename_i runs_none
    have all : (kn.issued g).groups.filter (fun p => p.1 != g) = (kn.issued g).groups :=
      List.filter_eq_self.2 fun p hp => by
        rw [← runs] at runs_none
        simpa using fun e : p.1 = g => runs_none (List.any_eq_true.2 ⟨p, hp, beq_iff_eq.2 e⟩)
    rw [← others, all]
    rfl

theorem State.core_vexited (s : State) (c g : Nat) (w : ThreadWord) :
    (s.vexited c g w).core c = { s.core c with kernels := (s.core c).kernels.map (Kernel.issued g) } := by
  obtain ⟨m, exited⟩ := s.withExited_threads c g (s.activeOf c g w)
  rw [State.vexited, exited]
  exact State.core_setCore _ c _

/-- With the last thread the block ends, and the context's next block is handed out (R197). -/
theorem State.endBlock_vexited {s : State} {c g : Nat} {w : ThreadWord} (hg : g < 64)
    (last : ∀ i, i < 64 → (s.thread c g i).exited = true ∨ (s.thread c g i).active w = true) (x : Nat) :
    (s.vexited c g w).endBlock c g x = (s.blockEnded c g w).handOut c x := by
  rw [State.endBlock, if_pos ((s.all_exited_vexited c w hg).2 last), State.core_vexited]
  simp only [List.map_map, Function.comp_def, Kernel.issued_ends]
  rfl

/-- What the end of a block leaves beside its threads. -/
theorem State.blockEnded_leaves (s : State) (c : Nat) {g : Nat} (w : ThreadWord) (hg : g < 64) :
    (s.blockEnded c g w).core c = { s.core c with kernels := (s.core c).kernels.map (Kernel.afterBlock g) } ∧
    (∀ d, d ≠ c → (s.blockEnded c g w).core d = s.core d) ∧
    (s.blockEnded c g w).reg (Obj.vectorIssueCount c) = (s.reg (Obj.vectorIssueCount c) + 1) % 2 ^ 64 ∧
    RegsBut [Obj.vectorIssueCount c] s (s.blockEnded c g w) ∧
    { s.blockEnded c g w with threads := s.threads, regs := s.regs, cores := s.cores } = s := by
  obtain ⟨leaves, regs, frame⟩ := s.vexited_leaves c w hg
  obtain ⟨-, -, -, -, -, -, counted, cores, -⟩ := leaves 0
  exact ⟨State.core_setCore _ c _, fun d hd => (State.core_setCore_other _ c d _ hd).trans (cores d hd), counted, regs, frame⟩

/-- No block of the context is left to hand out. -/
theorem State.handOut_of_none_left {s : State} {c x : Nat}
    (noneLeft : ∀ kn ∈ (s.core c).kernels, kn.ctx = x → kn.blocks ≤ kn.nextBlock) : s.handOut c x = s := by
  have found : ((s.core c).kernels.find? fun kn => kn.ctx == x && decide (kn.nextBlock < kn.blocks)) = none :=
    List.find?_eq_none.2 fun kn hkn waiting => by
      simp only [Bool.and_eq_true, beq_iff_eq, decide_eq_true_eq] at waiting
      exact absurd (noneLeft kn hkn waiting.1) (Nat.not_le.2 waiting.2)
  unfold State.handOut
  refine List.foldlRecOn (motive := fun u => u = s) _ _ rfl fun u hu g _ => ?_
  rw [hu]
  dsimp only
  rw [found]

/-- The core's one kernel starts its next block on the context's one free group. -/
theorem State.handOut_one {s : State} {c x g : Nat} {kn : Kernel} (one : (s.core c).kernels = [kn]) (hx : kn.ctx = x)
    (left : kn.nextBlock < kn.blocks) (idle : s.idleGroups c x = [g]) :
    s.handOut c x = (s.setCore c { s.core c with
      kernels := [{ kn with groups := kn.groups ++ [(g, kn.nextBlock, kn.start)], nextBlock := kn.nextBlock + 1 }] }).startBlock c g
        kn.nextBlock kn.blocks := by
  simp [State.handOut, idle, one, hx, left]

section
variable {s : State} {c g x : Nat} {w : ThreadWord} {k : Work}

/-- VEXIT of some threads, while another goes on (R197). -/
theorem vexit_goes_on {j : Nat} (issues : ThreadIssues s c g x k) (hg : g < 64) (hj : j < 64)
    (alive : (s.thread c g j).exited = false) (inactive : (s.thread c g j).active w = false) : ∃ t, exec (.vexit c g w) s = .next t ∧
      (∀ i, i < 64 → (t.thread c g i).exited = ((s.thread c g i).exited || (s.thread c g i).active w)) ∧
      (∀ r, LaneLeaves s t c g r w) ∧ RegsBut [Obj.vectorIssueCount c] s t ∧
      { t with threads := s.threads, regs := s.regs, cores := s.cores } = s := by
  have goes_on : (s.vexited c g w).endBlock c g x = s.vexited c g w := by
    refine if_neg fun all => ?_
    have := (s.all_exited_vexited c w hg).1 all j hj
    simp [alive, inactive] at this
  refine ⟨s.vexited c g w, (vexit_run issues w).trans (congrArg Host.Outcome.next goes_on), fun i hi => ?_, s.vexited_leaves c w hg⟩
  rw [s.thread_vexited_same c w hg hi]

/-- VEXIT of the last threads of a block of a context that has no block left to start (R197). -/
theorem vexit_ends (issues : ThreadIssues s c g x k) (hg : g < 64)
    (last : ∀ i, i < 64 → (s.thread c g i).exited = true ∨ (s.thread c g i).active w = true)
    (noneLeft : ∀ kn ∈ (s.core c).kernels, kn.ctx = x → kn.blocks ≤ kn.nextBlock) : ∃ t, exec (.vexit c g w) s = .next t ∧
      (∀ i, i < 64 → (t.thread c g i).exited = true ∧ ∀ r, (t.thread c g i).reg r = (s.thread c g i).reg r) ∧
      (∀ d h i, i < 64 → h < 64 → d ≠ c ∨ h ≠ g → t.thread d h i = s.thread d h i) ∧
      t.core c = { s.core c with kernels := (s.core c).kernels.map (Kernel.afterBlock g) } ∧
      (∀ d, d ≠ c → t.core d = s.core d) ∧
      t.reg (Obj.vectorIssueCount c) = (s.reg (Obj.vectorIssueCount c) + 1) % 2 ^ 64 ∧ RegsBut [Obj.vectorIssueCount c] s t ∧
      { t with threads := s.threads, regs := s.regs, cores := s.cores } = s := by
  have leaves := s.blockEnded_leaves c w hg
  have rest : (s.blockEnded c g w).handOut c x = s.blockEnded c g w := by
    refine State.handOut_of_none_left fun kn hkn => ?_
    rw [leaves.1] at hkn
    obtain ⟨before, hbefore, rfl⟩ := List.mem_map.1 hkn
    exact noneLeft before hbefore
  have ends := (State.endBlock_vexited hg last x).trans rest
  refine ⟨s.blockEnded c g w, (vexit_run issues w).trans (congrArg Host.Outcome.next ends), fun i hi => ?_,
    fun d h i hi hh => s.thread_vexited_other c w hg hi hh, leaves⟩
  have thread : (s.blockEnded c g w).thread c g i = _ := s.thread_vexited_same c w hg hi
  rw [thread]
  exact ⟨Bool.or_eq_true_iff.2 (last i hi), fun _ => rfl⟩

/-- VEXIT of the last threads of the core's one block, whose kernel has a further one: it follows on the same group (R197, R198). -/
theorem vexit_starts_next {b ip : Nat} {kn : Kernel} (issues : ThreadIssues s c g x k) (hg : g < 64)
    (last : ∀ i, i < 64 → (s.thread c g i).exited = true ∨ (s.thread c g i).active w = true)
    (one : (s.core c).kernels = [kn]) (runs : kn.groups = [(g, b, ip)]) (hx : kn.ctx = x) (left : kn.nextBlock < kn.blocks)
    (own : (s.ctx c x).groups = [g]) : ∃ t, exec (.vexit c g w) s = .next t ∧
      (t.core c).kernels = [{ kn with ended := kn.ended + 1, nextBlock := kn.nextBlock + 1, groups := [(g, kn.nextBlock, kn.start)],
                                      held := kn.held.filter fun p => p.1 != g }] ∧
      (∀ i r, i < 64 → (t.thread c g i).reg r = (if r = 0 then i else if r = 1 then kn.nextBlock else if r = 2 then kn.blocks else 0)) ∧
      (∀ i, i < 64 → (t.thread c g i).preds = 15 ∧ (t.thread c g i).exited = false) ∧
      (∀ d h i, i < 64 → h < 64 → d ≠ c ∨ h ≠ g → t.thread d h i = s.thread d h i) ∧
      { t with threads := s.threads, regs := s.regs, cores := s.cores } = s := by
  obtain ⟨core, -, -, -, frame⟩ := s.blockEnded_leaves c w hg
  have ended : kn.afterBlock g = { kn with ended := kn.ended + 1, groups := [], held := kn.held.filter fun p => p.1 != g } := by
    simp [Kernel.afterBlock, runs]
  have kernels : ((s.blockEnded c g w).core c).kernels = [kn.afterBlock g] := by rw [core, one]; rfl
  have idle : (s.blockEnded c g w).idleGroups c x = [g] := by
    have ctxs : (s.blockEnded c g w).ctxs = s.ctxs := (congrArg State.ctxs frame :)
    have groups : ((s.blockEnded c g w).ctx c x).groups = [g] := by rw [State.ctx, ctxs]; exact own
    simp [State.idleGroups, groups, kernels, ended]
  have next := State.handOut_one kernels (x := x) (by rw [ended]; exact hx) (by rw [ended]; exact left) idle
  rw [ended] at next
  refine ⟨_, (vexit_run issues w).trans (congrArg Host.Outcome.next ((State.endBlock_vexited hg last x).trans next)), ?_,
    fun i r hi => ?_, fun i hi => ?_, fun d h i hi hh other => ?_, ?_⟩
  · exact congrArg Core.kernels (State.core_setCore _ c _)
  · rw [State.thread_startBlock _ _ _ _ _ hi, startThread_reg]
  · rw [State.thread_startBlock _ _ _ _ _ hi]
    exact ⟨rfl, rfl⟩
  · rw [State.thread_startBlock_other _ _ _ _ _ hi hg hh other]
    exact s.thread_vexited_other c w hg hi hh other
  · exact frame

end

/-- Settles O14, instruction by instruction. -/
theorem groupOperationsOfActiveThreads : Obligations.GroupOperationsOfActiveThreads := by
  refine ⟨fun _ _ _ _ _ _ => vredAdd_delivers, fun s c g x w k v vs issues hg values => ?_, fun con hcon s c g x w k issues _ noneActive => ?_,
    fun _ _ _ _ _ _ => vbcast_delivers, fun s c g x w k issues hg noneActive => ?_, fun s c g x w k issues hg => ?_,
    fun _ _ _ _ _ _ _ => vexit_goes_on, fun _ _ _ _ _ _ => vexit_ends, fun _ _ _ _ _ _ _ _ _ => vexit_starts_next⟩
  · exact ⟨⟨_, rfl, State.reduceBy_delivers fMax issues hg values⟩, ⟨_, rfl, State.reduceBy_delivers fMin issues hg values⟩⟩
  · have run : exec (con c g w) s = .next ((s.threadIssued c g).emptyReduction c x) := by
      simp only [List.mem_cons, List.not_mem_nil, or_false] at hcon
      rcases hcon with rfl | rfl
      · exact congrArg Host.Outcome.next (State.reduceBy_of_none_active fMax issues noneActive)
      · exact congrArg Host.Outcome.next (State.reduceBy_of_none_active fMin issues noneActive)
    exact ⟨_, run, s.emptyReduction_threadIssued_leaves c g x w⟩
  · exact ⟨_, vbcast_of_none_active issues noneActive, fun r => s.threadIssued_leaves c g r w, rfl⟩
  · obtain ⟨-, -, -, regs, -⟩ := s.threadIssued_spec c g
    exact ⟨_, vbar_issues issues, fun r => s.threadIssued_leaves c g r w, regs, rfl⟩

end Sys2Proof.Machine
end

section
/-! The lane arithmetic of thread groups (R199, R202, R203): each active thread's D from that thread's own registers. -/

namespace Sys2Proof.Machine

/-- Every lane instruction is one lane operation, with its function of the registers A, B and C (R202, R203). -/
theorem exec_of_mem_laneTable {p : (Nat → Nat → ThreadWord → Instr) × (Nat → Nat → Nat → Nat)} (hp : p ∈ laneTable) (c g : Nat)
    (w : ThreadWord) (s : State) : exec (p.1 c g w) s =
      .next (s.laneOp c g w fun y => p.2 (y.reg (w.a % 32)) (y.reg (w.b % 32)) (y.reg (w.c % 32))) := by
  simp only [laneTable, List.mem_cons, List.not_mem_nil, or_false] at hp
  rcases hp with rfl | rfl | rfl | rfl | rfl | rfl | rfl | rfl | rfl | rfl | rfl | rfl | rfl | rfl | rfl | rfl | rfl <;> rfl

/-- A lane operation that issues gives D of every active thread the function of that thread, and leaves the rest (R195, R196, R221). -/
theorem State.laneOp_leaves {s : State} {c g x : Nat} {k : Work} (issues : ThreadIssues s c g x k) (hg : g < 64) (w : ThreadWord)
    (f : Thread → Nat) :
    (∀ i, i < 64 → (s.thread c g i).active w = true →
      ((s.laneOp c g w f).thread c g i).reg (w.d % 32) = f (s.thread c g i) % 2 ^ 32) ∧
    LaneLeaves s (s.laneOp c g w f) c g (w.d % 32) w ∧
    (∀ i, i < 64 → ((s.laneOp c g w f).thread c g i).exited = (s.thread c g i).exited) ∧
    RegsBut [Obj.vectorIssueCount c] s (s.laneOp c g w f) ∧
    { s.laneOp c g w f with threads := s.threads, regs := s.regs, cores := s.cores } = s := by
  have run : s.laneOp c g w f =
      (s.setRegs c g (w.d % 32) ((s.activeOf c g w).map fun i => (i, f (s.thread c g i)))).threadIssued c g :=
    State.threadIssue_ok issues w _
  rw [run]
  obtain ⟨leaves, exited, values, regs, frame⟩ := s.setRegs_leaves c g (w.d % 32) w (fun i => f (s.thread c g i)) hg
  exact ⟨values, leaves, exited, regs, frame⟩

/-- Settles O12: each lane instruction is a lane operation that issues. -/
theorem laneArithmeticPerThread : Obligations.LaneArithmeticPerThread := by
  intro p hp s c g x w k issues hg
  exact ⟨_, exec_of_mem_laneTable hp c g w s, State.laneOp_leaves issues hg w _⟩

end Sys2Proof.Machine
end

section
/-! Weight versions (R269, R270): what the commit and the abort of a step make of each entry of the tensor table. -/

namespace Sys2Proof.Machine

/-- The version counter stays below the numbers that name no version (R269). -/
theorem nextVersion_lt (v : Nat) : nextVersion v < 0xFFFE := by
  unfold nextVersion
  split <;> omega

/-- A change of every entry is a change of each. -/
theorem State.entry?_mapEntries (s : State) (f : Entry → Entry) (k : Nat) : (s.mapEntries f).entry? k = (s.entry? k).map f := by
  simp only [State.entry?, State.mapEntries, List.find?_map, Function.comp_def, Option.map_map]

/-- Some buffer of the tenant's tensor at the base is pending. -/
def State.written (s : State) (n base : Nat) : Bool := s.entries.any fun p => p.2.sameTensor n base && p.2.bufState == .pending

/-- An entry when the versions advance (R269): the pending buffer becomes current, and the buffer it replaces is retained or free. -/
def State.advanced (s : State) (n : Nat) (e : Entry) : Entry :=
  if e.tenant ≠ n ∨ !e.versioned then e
  else
    match e.bufState with
    | .pending => { e with bufState := .current, versions := [nextVersion (s.curVersion n)] }
    | .current =>
      if s.written n e.base then
        if (s.tenant n).tagsName e.versions then { e with bufState := .retained } else { e with bufState := .free, versions := [] }
      else { e with versions := e.versions ++ [nextVersion (s.curVersion n)] }
    | _ => e

/-- An entry when the retained buffers that no live tag names are free (R270). -/
def State.unretained (s : State) (n : Nat) (e : Entry) : Entry :=
  if e.tenant = n ∧ e.versioned ∧ e.bufState = .retained ∧ !(s.tenant n).tagsName e.versions then
    { e with bufState := .free, versions := [] }
  else e

/-- An entry when the pending buffers are discarded (R270). -/
def Entry.aborted (n : Nat) (e : Entry) : Entry :=
  if e.tenant = n ∧ e.versioned ∧ e.bufState = .pending then { e with bufState := .free, versions := [] } else e

/-- A commit advances each entry, then frees it if it is retained in vain. -/
theorem State.entry?_commitVersions (s : State) (n k : Nat) :
    (s.commitVersions n).entry? k = (s.entry? k).map fun e => s.unretained n (s.advanced n e) := by
  have run : (s.commitVersions n).entry? k = ((s.mapEntries (s.advanced n)).mapEntries (s.unretained n)).entry? k := rfl
  rw [run, State.entry?_mapEntries, State.entry?_mapEntries, Option.map_map]
  rfl

/-- An abort discards what is pending. -/
theorem State.entry?_abortVersions (s : State) (n k : Nat) : (s.abortVersions n).entry? k = (s.entry? k).map (Entry.aborted n) :=
  s.entry?_mapEntries (Entry.aborted n) k

/-- What is not retained stays. -/
theorem State.unretained_of_not_retained (s : State) (n : Nat) {e : Entry} (h : e.bufState ≠ .retained) : s.unretained n e = e :=
  if_neg fun ⟨_, _, retained, _⟩ => h retained

/-- What is not pending stays at an abort. -/
theorem Entry.aborted_of_not_pending (n : Nat) {e : Entry} (h : e.bufState ≠ .pending) : Entry.aborted n e = e :=
  if_neg fun ⟨_, _, pending⟩ => h pending

section
variable {s : State} {n k : Nat} {e : Entry} (entry : s.entry? k = some e)
include entry

/-- Entries of other tenants, and entries without versions, stay. -/
theorem State.versions_of_foreign (foreign : e.tenant ≠ n ∨ e.versioned = false) :
    (s.commitVersions n).entry? k = some e ∧ (s.abortVersions n).entry? k = some e := by
  have advanced : s.advanced n e = e := if_pos (by simpa using foreign)
  have unretained : s.unretained n e = e := if_neg fun ⟨ten, versioned, _⟩ => by simp [ten, versioned] at foreign
  have aborted : Entry.aborted n e = e := if_neg fun ⟨ten, versioned, _⟩ => by simp [ten, versioned] at foreign
  rw [s.entry?_commitVersions, s.entry?_abortVersions, entry, Option.map_some, Option.map_some, advanced, unretained, aborted]
  exact ⟨rfl, rfl⟩

variable (own : e.tenant = n) (versioned : e.versioned = true)
include own versioned

/-- The pending buffer becomes current at the next version, or is discarded. -/
theorem State.versions_of_pending (pending : e.bufState = .pending) :
    (s.commitVersions n).entry? k = some { e with bufState := .current, versions := [nextVersion (s.reg (Obj.currentVersion n))] } ∧
    (s.abortVersions n).entry? k = some { e with bufState := .free, versions := [] } := by
  have advanced : s.advanced n e = { e with bufState := .current, versions := [nextVersion (s.curVersion n)] } := by
    simp [State.advanced, own, versioned, pending]
  have aborted : Entry.aborted n e = { e with bufState := .free, versions := [] } := if_pos ⟨own, versioned, pending⟩
  rw [s.entry?_commitVersions, s.entry?_abortVersions, entry, Option.map_some, Option.map_some, advanced,
    s.unretained_of_not_retained n (by simp), aborted]
  exact ⟨rfl, rfl⟩

/-- The current buffer of a tensor that has been written is retained while a live tag names it. -/
theorem State.versions_of_replaced (current : e.bufState = .current) (written : s.written n e.base = true) :
    (s.commitVersions n).entry? k = some (if (s.tenant n).tagsName e.versions then { e with bufState := .retained }
      else { e with bufState := .free, versions := [] }) ∧ (s.abortVersions n).entry? k = some e := by
  have advanced : s.advanced n e = if (s.tenant n).tagsName e.versions then { e with bufState := .retained }
      else { e with bufState := .free, versions := [] } := by simp [State.advanced, own, versioned, current, written]
  have unretained : s.unretained n (s.advanced n e) = s.advanced n e := by
    rw [advanced]
    split
    · exact if_neg fun ⟨_, _, _, untagged⟩ => by simp_all
    · exact s.unretained_of_not_retained n (by simp)
  rw [s.entry?_commitVersions, s.entry?_abortVersions, entry, Option.map_some, Option.map_some, unretained, advanced,
    Entry.aborted_of_not_pending n (by simp [current])]
  exact ⟨rfl, rfl⟩

/-- The current buffer of a tensor that has not been written serves the next version too. -/
theorem State.versions_of_unwritten (current : e.bufState = .current) (unwritten : s.written n e.base = false) :
    (s.commitVersions n).entry? k = some { e with versions := e.versions ++ [nextVersion (s.reg (Obj.currentVersion n))] } := by
  have advanced : s.advanced n e = { e with versions := e.versions ++ [nextVersion (s.curVersion n)] } := by
    simp [State.advanced, own, versioned, current, unwritten]
  rw [s.entry?_commitVersions, entry, Option.map_some, advanced, s.unretained_of_not_retained n (by simp [current])]
  rfl

/-- A retained buffer is free once no live tag names it. -/
theorem State.versions_of_retained (retained : e.bufState = .retained) :
    (s.commitVersions n).entry? k = some (if (s.tenant n).tagsName e.versions then e else { e with bufState := .free, versions := [] }) ∧
    (s.abortVersions n).entry? k = some e := by
  have advanced : s.advanced n e = e := by simp [State.advanced, retained]
  have unretained : s.unretained n e = if (s.tenant n).tagsName e.versions then e else { e with bufState := .free, versions := [] } := by
    cases tagged : (s.tenant n).tagsName e.versions <;> simp [State.unretained, own, versioned, retained, tagged]
  rw [s.entry?_commitVersions, s.entry?_abortVersions, entry, Option.map_some, Option.map_some, advanced, unretained,
    Entry.aborted_of_not_pending n (by simp [retained])]
  exact ⟨rfl, rfl⟩

end

/-- Settles O26, by the state of the entry's buffer. -/
theorem weightVersionsAdvance : Obligations.WeightVersionsAdvance := by
  refine ⟨fun _ _ => State.reg_setReg_same _ _ _, fun _ _ _ _ => State.versions_of_pending, ?_, ?_,
    fun _ _ _ _ => State.versions_of_retained, fun _ _ _ _ => State.versions_of_foreign, fun v => ⟨nextVersion_lt v, rfl⟩⟩
  · intro s n k p e f entry own versioned current mem same pending
    exact State.versions_of_replaced entry own versioned current (List.any_eq_true.2 ⟨(p, f), mem, by simp [same, pending]⟩)
  · intro s n k e entry own versioned current unwritten
    refine State.versions_of_unwritten entry own versioned current (List.any_eq_false.2 fun p mem written => ?_)
    simp only [Bool.and_eq_true, beq_iff_eq] at written
    exact unwritten p mem written.1 written.2

end Sys2Proof.Machine
end

section
/-! The admission of a tenant (R363): its conditions in their order, and what is left when all are met. -/

namespace Sys2Proof.Machine

/-- Of a list of conditions: A i when the first that holds is number i, and L when none does. -/
inductive FirstOf : (Nat → Prop) → Prop → List Prop → Prop
  | head {A : Nat → Prop} {L p : Prop} {ps : List Prop} (now : p) (answer : A 0) : FirstOf A L (p :: ps)
  | tail {A : Nat → Prop} {L p : Prop} {ps : List Prop} (not_now : ¬ p) (later : FirstOf (fun i => A (i + 1)) L ps) : FirstOf A L (p :: ps)
  | nil {A : Nat → Prop} {L : Prop} (last : L) : FirstOf A L []

section
variable {A : Nat → Prop} {L p q : Prop} {ps : List Prop}

theorem FirstOf.at_first (h : FirstOf A L ps) (i : Nat) (now : ps.getD i False)
    (before : ∀ j, j < i → ¬ ps.getD j False) : A i := by
  induction h generalizing i with
  | head first answer =>
    cases i with
    | zero => exact answer
    | succ i => exact absurd first (before 0 i.succ_pos)
  | tail not_first _ ih =>
    cases i with
    | zero => exact absurd now not_first
    | succ i => exact ih i now fun j hj => before (j + 1) (Nat.succ_lt_succ hj)
  | nil => exact now.elim

theorem FirstOf.at_none (h : FirstOf A L ps)
    (never : ∀ j, j < ps.length → ¬ ps.getD j False) : L := by
  induction h with
  | head first _ => exact absurd first (never 0 (Nat.succ_pos _))
  | tail _ _ ih => exact ih fun j hj => never (j + 1) (Nat.succ_lt_succ hj)
  | nil last => exact last

theorem FirstOf.last_or (h : FirstOf A L ps) : L ∨ ∃ i, A i := by
  induction h with
  | head _ answer => exact .inr ⟨0, answer⟩
  | tail _ _ ih => exact ih.imp_right fun ⟨i, hi⟩ => ⟨i + 1, hi⟩
  | nil last => exact .inl last

/-- A branch on a condition is its place in the list. -/
theorem FirstOf.of_ite {α : Type} [Decidable q] {v x y : α} (same : q ↔ p)
    (run : v = if q then x else y) (yes : v = x → A 0) (no : v = y → FirstOf (fun i => A (i + 1)) L ps) : FirstOf A L (p :: ps) := by
  by_cases holds : q
  · exact .head (same.1 holds) (yes (run.trans (if_pos holds)))
  · exact .tail (mt same.2 holds) (no (run.trans (if_neg holds)))

end

/-- The maps of a tenant's images merge into its tensor map, with its version counter at 0 (R269, R363). -/
def State.mergeMaps (s : State) (n : Nat) : Option State :=
  (s.setReg (Obj.currentVersion n) 0).addMap n ((s.tenant n).images.flatMap fun p => p.2.map)

/-- What R363 lets an admission fail by, in its order. -/
def State.admitFails (s : State) (n : Nat) : List Prop :=
  [s.reg (Obj.coreSet n) = 0,
   s.reg (Obj.queueCount n) = 0 ∨ 4096 < s.reg (Obj.queueFirst n) + s.reg (Obj.queueCount n),
   (1024 + 2 * s.enabledCores) * 2 ^ 20 < s.reservedSum 0 + s.reg (Obj.nearReserved n) ∨
     Config.mainReservable < s.reservedSum 1 + s.reg (Obj.mainReserved n) ∨
     Config.deepReservable < s.reservedSum 2 + s.reg (Obj.deepReserved n),
   ∃ m ∈ s.notFree, s.reg (Obj.slotFirst n) < s.reg (Obj.slotFirst m) + s.reg (Obj.slotCount m) ∧
     s.reg (Obj.slotFirst m) < s.reg (Obj.slotFirst n) + s.reg (Obj.slotCount n),
   (∀ p ∈ (s.tenant n).images, p.2.state ≠ 1) ∨ ∃ p ∈ (s.tenant n).images, p.2.state ≠ 1,
   s.mergeMaps n = none,
   128 < (s.notFree.map fun m => s.reg (Obj.pisteQuota m)).sum + s.reg (Obj.pisteQuota n)]

/-- Some other tenant's share of slots meets the one asked for. -/
theorem State.any_sharesMeet_iff (s : State) (n : Nat) :
    (s.notFree.any fun m => sharesMeet (s.reg (Obj.slotFirst n)) (s.reg (Obj.slotCount n)) (s.reg (Obj.slotFirst m))
      (s.reg (Obj.slotCount m))) = true ↔ ∃ m ∈ s.notFree, s.reg (Obj.slotFirst n) < s.reg (Obj.slotFirst m) + s.reg (Obj.slotCount m) ∧
        s.reg (Obj.slotFirst m) < s.reg (Obj.slotFirst n) + s.reg (Obj.slotCount n) := by
  simp only [List.any_eq_true, sharesMeet, Bool.and_eq_true, decide_eq_true_eq]

/-- A tenant has no valid image, or one that is not valid. -/
theorem images_unfit_iff (images : Sparse Image) :
    (!(images.any fun p => p.2.state == 1) || (images.any fun p => p.2.state != 1)) = true ↔
      (∀ p ∈ images, p.2.state ≠ 1) ∨ ∃ p ∈ images, p.2.state ≠ 1 := by
  simp only [Bool.or_eq_true, Bool.not_eq_true', List.any_eq_false, List.any_eq_true, beq_iff_eq, bne_iff_ne]

/-- The check answers the number of the first condition that fails, or the state with the maps merged (R363). -/
theorem State.admitCheck_firstOf (s : State) (n : Nat) :
    FirstOf (fun i => s.admitCheck n = (i + 1, s)) (∃ u, s.admitCheck n = (0, u) ∧ s.mergeMaps n = some u) (s.admitFails n) := by
  generalize answer : s.admitCheck n = v
  unfold State.admitCheck at answer
  dsimp only at answer
  refine .of_ite .rfl answer.symm id fun run => .of_ite .rfl run id fun run => .of_ite .rfl run id fun run =>
    .of_ite (s.any_sharesMeet_iff n) run id fun run => .of_ite (images_unfit_iff _) run id fun run => ?_
  split at run
  next noRoom => exact .head noRoom run
  next u merged =>
    exact .tail (by rw [State.mergeMaps, merged]; exact Option.some_ne_none u)
      (.of_ite .rfl run id fun run => .nil ⟨u, run, merged⟩)

/-- An admission that passes has merged the maps. -/
theorem State.mergeMaps_of_admitCheck {s u : State} {n : Nat} (passes : s.admitCheck n = (0, u)) : s.mergeMaps n = some u := by
  rcases (s.admitCheck_firstOf n).last_or with ⟨v, check, merged⟩ | ⟨i, fails⟩
  · rw [merged, (Prod.mk.inj (check.symm.trans passes)).2]
  · exact absurd (Prod.mk.inj (fails.symm.trans passes)).1 i.succ_ne_zero

end Sys2Proof.Machine
end

section
/-! What the merge of maps changes among the registers: charges of its tenant, and the count of spills (R318, R321, R357). -/

namespace Sys2Proof.Machine

/-- What holds before a chain of steps that may fail, and is kept by each, holds after it. -/
theorem foldl_bind_preserves {α β : Type} {P : β → Prop} {f : β → α → Option β} (keeps : ∀ b a c, f b a = some c → P b → P c)
    {as : List α} {b c : β} (run : as.foldl (fun t a => t.bind fun u => f u a) (some b) = some c) (hb : P b) : P c := by
  refine List.foldlRecOn (motive := fun t => ∀ c, t = some c → P c) as _ (fun c hc => Option.some.inj hc ▸ hb) ?_ c run
  intro t ht a _ c hc
  obtain ⟨u, rfl, step⟩ := Option.bind_eq_some_iff.1 hc
  exact keeps u a c step (ht u rfl)

/-- The registers a merge of the tenant's maps may change. -/
def mapObjs (n : Nat) : List Nat := [Obj.spillCount, Obj.nearCharged n, Obj.mainCharged n, Obj.deepCharged n]

theorem chargedObj_mem_mapObjs (tier n : Nat) : chargedObj tier n ∈ mapObjs n := by
  unfold chargedObj
  split
  · simp only [mapObjs, List.mem_cons, true_or, or_true]
  · split
    · simp only [mapObjs, List.mem_cons, true_or, or_true]
    · simp only [mapObjs, List.mem_cons, true_or, or_true]

theorem RegsBut.trans {ks : List Nat} {s t u : State} (h : RegsBut ks s t) (h' : RegsBut ks t u) : RegsBut ks s u :=
  fun k hk => (h' k hk).trans (h k hk)

/-- Counting and charging change one register each. -/
theorem RegsBut.addReg {ks : List Nat} (s : State) (w : Nat) {k : Nat} (a : Nat) (hk : k ∈ ks) : RegsBut ks s (s.addReg w k a) :=
  fun j hj => (s.reg_addReg w k a j).trans (if_neg fun e : j = k => hj (e ▸ hk))

theorem State.addBuffer_regs {s u : State} {n i : Nat} {m : MapEntry} (run : s.addBuffer n m i = some u) : RegsBut (mapObjs n) s u := by
  unfold State.addBuffer at run
  dsimp only at run
  split at run
  · exact absurd run (by simp)
  split at run
  · exact absurd run (by simp)
  obtain rfl := Option.some.inj run
  refine RegsBut.trans (t := if _ then s.count 32 Obj.spillCount else s) ?_ (RegsBut.addReg _ 64 _ (chargedObj_mem_mapObjs _ n))
  split
  · exact RegsBut.addReg s 32 1 (by simp [mapObjs])
  · exact fun _ _ => rfl

theorem State.addMapEntry_regs {s u : State} {n : Nat} {m : MapEntry} (run : s.addMapEntry n m = some u) : RegsBut (mapObjs n) s u := by
  unfold State.addMapEntry at run
  split at run
  · exact absurd run (by simp)
  · exact foldl_bind_preserves (P := RegsBut (mapObjs n) s) (fun _ _ _ step kept => kept.trans (addBuffer_regs step)) run fun _ _ => rfl

/-- A merge of the tenant's maps leaves every register but the tenant's charges, the count of spills and the version counter. -/
theorem State.mergeMaps_regs {s u : State} {n : Nat} (merged : s.mergeMaps n = some u) :
    RegsBut (Obj.currentVersion n :: mapObjs n) s u := fun k hk => by
  obtain ⟨version, rest⟩ := not_or.1 (mt List.mem_cons.2 hk)
  exact (foldl_bind_preserves (P := RegsBut (mapObjs n) _) (fun _ _ _ step kept => kept.trans (addMapEntry_regs step)) merged
    (fun _ _ => rfl) k rest).trans (State.reg_setReg_other _ _ _ _ version)

end Sys2Proof.Machine
end

section
/-! The tenant that is admitted (R269, R286, R363, R583, R632, R702). -/

namespace Sys2Proof.Machine

/-- Objects in which an admission puts what its tenant starts with: its version counter (R269), its ledger (R583), its result and keys
(R361, R702). -/
abbrev TenancyObj (k : Nat) : Prop :=
  (0x4500 ≤ regIndex k ∧ regIndex k < 0x4510) ∨ (0x7010 ≤ regIndex k ∧ regIndex k < 0x7020) ∨
    (0xA010 ≤ regIndex k ∧ regIndex k < 0xA020)

/-- Between two states only registers that are not such objects, scheduled events and injections differ. -/
def KeepsTenancies (s t : State) : Prop :=
  (∀ k, TenancyObj k → t.reg k = s.reg k) ∧ ∃ r e i, t = { s with regs := r, time := e, injections := i }

theorem KeepsTenancies.refl (s : State) : KeepsTenancies s s := ⟨fun _ _ => rfl, s.regs, s.time, s.injections, rfl⟩

theorem KeepsTenancies.trans {s t u : State} : KeepsTenancies s t → KeepsTenancies t u → KeepsTenancies s u := by
  rintro ⟨regs, _, _, _, rfl⟩ ⟨regs', r, e, i, rfl⟩
  exact ⟨fun k hk => (regs' k hk).trans (regs k hk), r, e, i, rfl⟩

theorem KeepsTenancies.holdings {s t : State} (h : KeepsTenancies s t) : t.tenants = s.tenants ∧ t.slots = s.slots ∧
    t.entries = s.entries ∧ t.mem = s.mem ∧ t.works = s.works ∧ t.queues = s.queues := by
  obtain ⟨-, _, _, _, rfl⟩ := h
  exact ⟨rfl, rfl, rfl, rfl, rfl, rfl⟩

theorem KeepsTenancies.setReg (s : State) {k : Nat} (v : Nat) (hk : ¬ TenancyObj k) : KeepsTenancies s (s.setReg k v) :=
  ⟨fun _ hj => State.reg_setReg_other _ _ _ _ fun e => hk (e ▸ hj), _, s.time, s.injections, rfl⟩

theorem KeepsTenancies.ite {s t u : State} (p : Prop) [Decidable p] (h : KeepsTenancies s t) (h' : KeepsTenancies s u) :
    KeepsTenancies s (if p then t else u) := by
  split
  · exact h
  · exact h'

/-- Entering an event in the schedule, or refusing it (R59). -/
theorem KeepsTenancies.schedule (s : State) (e : Sched) : KeepsTenancies s (s.schedule e) := by
  unfold State.schedule
  split
  · exact ⟨fun _ _ => rfl, s.regs, _, s.injections, rfl⟩
  · exact .setReg s _ (by decide)

/-- A requested power step (R60, R72). -/
theorem KeepsTenancies.requestPowerStep (s : State) (floor ceiling : Nat) : KeepsTenancies s (s.requestPowerStep floor ceiling) := by
  unfold State.requestPowerStep State.scheduleLocal
  split
  · exact (KeepsTenancies.schedule s _).trans (.setReg _ _ (by decide))
  · exact .schedule s _

/-- The move between READY, ADMITTED and RUNNING (R679). -/
theorem KeepsTenancies.settleDevice (s : State) : KeepsTenancies s s.settleDevice := by
  have enter : ∀ d, KeepsTenancies s (s.enter d) := fun d => .setReg s d (by decide)
  exact .ite _ (.ite _ (enter _) (.ite _ (enter _) (enter _))) (.refl s)

theorem perturbRow_of_tenancyObj {k : Nat} (hk : TenancyObj k) : perturbRow k = none := by
  unfold TenancyObj at hk
  unfold perturbRow
  dsimp only
  repeat rw [if_neg (by omega)]

/-- The perturbations return to their defaults (R632). -/
theorem KeepsTenancies.clearPerturb (s : State) : KeepsTenancies s s.clearPerturb := by
  refine ⟨fun k hk => ?_, _, s.time, [], rfl⟩
  rw [State.reg_of_filter s s.clearPerturb (fun j => (perturbRow j).isNone) rfl, perturbRow_of_tenancyObj hk]
  rfl

/-- The Deep devices leave self-refresh (R353). -/
theorem KeepsTenancies.wakeDeep (s : State) (v : State → Nat → Nat) :
    KeepsTenancies s ((List.range 16).foldl (fun u i => u.setReg (Obj.deepState (i / 2) (i % 2)) (v u i)) s) := by
  refine List.foldlRecOn (motive := KeepsTenancies s) _ _ (.refl s) fun u kept i hi => kept.trans (.setReg u _ ?_)
  have := List.mem_range.1 hi
  simp only [TenancyObj, regIndex, Obj.deepState, obj]
  omega

/-- A tenant as it is admitted: its settings and its images (R301, R363). -/
def Tenant.admitted (t : Tenant) : Tenant := { t.settings with images := t.images, state := 1 }

/-- The value of the tenant's table of mirrors changes when its mirrors are dropped (R669). -/
def State.dropMirrorTable (s : State) (n : Nat) : State := if (s.tenant n).mirrors.isEmpty then s else s.bump (Obj.mirrorTable n)

/-- The tenant with its share clear and its version counter at 0 (R269, R286). -/
def State.enterTenant (s : State) (n : Nat) : State :=
  (((s.dropMirrorTable n).clearShare n).setReg (Obj.currentVersion n) 0).setTenant n (s.tenant n).admitted

/-- Its keys of R702 are drawn; those of before are old. -/
def State.renewKeys (s : State) (n : Nat) (old : List (Nat × Nat)) : State :=
  let s1 : State := { s with eth := { s.eth with oldKeys := s.eth.oldKeys ++ old } }
  let key1 := s1.draw 32
  let key2 := key1.2.draw 32
  (key2.2.setReg (Obj.queueWindowRkey n) key1.1).setReg (Obj.tensorRkey n) key2.1

/-- An admission up to the tenant's ledger, which is before its first step (R583). -/
def State.beginTenancy (s : State) (n : Nat) : State :=
  ((s.enterTenant n).renewKeys n (([s.reg (Obj.queueWindowRkey n), s.reg (Obj.tensorRkey n)].filter fun k => k != 0).map fun k =>
    (n, k))).setReg (Obj.committedStep n) (s.reg (Obj.ledgerFirstStep n) - 1)

/-- The rest of an admission: the Deep devices wake, outside test mode the perturbations go, for the first tenant the floor's power step is
requested, and the result is 0 (R72, R353, R363, R632). -/
def State.endAdmission (s : State) (n : Nat) (first : Bool) : State :=
  let s5 := (List.range 16).foldl (fun u i => u.setReg (Obj.deepState (i / 2) (i % 2))
    (if u.reg (Obj.deepState (i / 2) (i % 2)) = 2 then 0 else u.reg (Obj.deepState (i / 2) (i % 2)))) s
  let s6 := if s5.reg Obj.testMode = 0 then s5.clearPerturb else s5
  let s7 := if first then s6.requestPowerStep s6.supply.committedFloor s6.supply.committedCeiling else s6
  (s7.setReg (Obj.admitResult n) 0).settleDevice

theorem State.admitTenant_eq (s : State) (n : Nat) : s.admitTenant n = (s.beginTenancy n).endAdmission n s.notFree.isEmpty := by
  unfold State.admitTenant State.endAdmission State.beginTenancy State.renewKeys State.enterTenant State.dropMirrorTable Tenant.admitted
  simp only [State.draw]

/-- The rest of an admission says its result and keeps the tenancy. -/
theorem State.endAdmission_keeps (s : State) (n : Nat) (first : Bool) :
    ∃ r, KeepsTenancies s r ∧ KeepsTenancies (r.setReg (Obj.admitResult n) 0) (s.endAdmission n first) := by
  have awake := KeepsTenancies.wakeDeep s fun u i =>
    if u.reg (Obj.deepState (i / 2) (i % 2)) = 2 then 0 else u.reg (Obj.deepState (i / 2) (i % 2))
  have cleared := fun testMode => KeepsTenancies.ite (testMode = 0) (awake.trans (.clearPerturb _)) awake
  exact ⟨_, .ite (first = true) ((cleared _).trans (.requestPowerStep _ _ _)) (cleared _), .settleDevice _⟩

theorem State.dropMirrorTable_eq (s : State) (n : Nat) : ∃ g, s.dropMirrorTable n = { s with generations := g } := by
  unfold State.dropMirrorTable
  split
  · exact ⟨s.generations, rfl⟩
  · exact ⟨_, rfl⟩

/-- The tenant, the slots and what a package holds, as a tenancy begins. -/
theorem State.beginTenancy_holdings (s : State) (n : Nat) :
    (s.beginTenancy n).tenants = (s.setTenant n (s.tenant n).admitted).tenants ∧
    (s.beginTenancy n).slots = (s.clearShare n).slots ∧ (s.beginTenancy n).entries = s.entries ∧ (s.beginTenancy n).mem = s.mem ∧
    (s.beginTenancy n).works = s.works ∧ (s.beginTenancy n).queues = s.queues := by
  obtain ⟨g, hg⟩ := s.dropMirrorTable_eq n
  unfold State.beginTenancy State.enterTenant
  rw [hg]
  exact ⟨rfl, rfl, rfl, rfl, rfl, rfl⟩

theorem State.beginTenancy_currentVersion (s : State) (n : Nat) : (s.beginTenancy n).reg (Obj.currentVersion n) = 0 := by
  have apart : Obj.currentVersion n ≠ Obj.committedStep n ∧ Obj.currentVersion n ≠ Obj.tensorRkey n ∧
      Obj.currentVersion n ≠ Obj.queueWindowRkey n := by
    simp only [Obj.currentVersion, Obj.committedStep, Obj.tensorRkey, Obj.queueWindowRkey, obj]
    omega
  obtain ⟨step, tensorKey, queueKey⟩ := apart
  rw [State.beginTenancy, State.reg_setReg_other _ _ _ _ step, State.renewKeys, State.reg_setReg_other _ _ _ _ tensorKey,
    State.reg_setReg_other _ _ _ _ queueKey]
  exact State.reg_setReg_same _ _ _

theorem State.beginTenancy_committedStep (s : State) (n : Nat) :
    (s.beginTenancy n).reg (Obj.committedStep n) = s.reg (Obj.ledgerFirstStep n) - 1 := State.reg_setReg_same _ _ _

/-- The slots of a share that has been cleared are empty (R286). -/
theorem State.slot_clearShare {s : State} {n j : Nat} (lo : s.reg (Obj.slotFirst n) ≤ j)
    (hi : j < s.reg (Obj.slotFirst n) + s.reg (Obj.slotCount n)) : (s.clearShare n).slot j = {} :=
  (Sparse.get_filter ({} : Slot) j (fun j => !s.shareHas n j) s.slots).trans (if_neg (by simp [State.shareHas, lo, hi]))

theorem tenancyObj_of_lt {n : Nat} (hn : n < 16) :
    TenancyObj (Obj.admitResult n) ∧ TenancyObj (Obj.currentVersion n) ∧ TenancyObj (Obj.committedStep n) := by
  simp only [TenancyObj, regIndex, Obj.admitResult, Obj.currentVersion, Obj.committedStep, obj]
  omega

/-- The tenant's admission (R269, R286, R363, R583). -/
theorem State.admitTenant_admits (s : State) {n : Nat} (hn : n < 16) :
    (s.admitTenant n).tenant n = (s.tenant n).admitted ∧
    (∀ m, m ≠ n → (s.admitTenant n).tenant m = s.tenant m) ∧
    (s.admitTenant n).reg (Obj.admitResult n) = 0 ∧ (s.admitTenant n).reg (Obj.currentVersion n) = 0 ∧
    (s.admitTenant n).reg (Obj.committedStep n) = s.reg (Obj.ledgerFirstStep n) - 1 ∧
    (∀ j, s.reg (Obj.slotFirst n) ≤ j → j < s.reg (Obj.slotFirst n) + s.reg (Obj.slotCount n) → (s.admitTenant n).slot j = {}) ∧
    (s.admitTenant n).entries = s.entries ∧ (s.admitTenant n).mem = s.mem ∧ (s.admitTenant n).works = s.works ∧
    (s.admitTenant n).queues = s.queues := by
  obtain ⟨objResult, objVersion, objStep⟩ := tenancyObj_of_lt hn
  obtain ⟨u, begun, ended⟩ := (s.beginTenancy n).endAdmission_keeps n s.notFree.isEmpty
  rw [← State.admitTenant_eq] at ended
  have kept : ∀ k, TenancyObj k → k ≠ Obj.admitResult n → (s.admitTenant n).reg k = (s.beginTenancy n).reg k := fun k hk other =>
    ((ended.1 k hk).trans (State.reg_setReg_other _ _ _ _ other)).trans (begun.1 k hk)
  have version := kept _ objVersion (by simp only [Obj.currentVersion, Obj.admitResult, obj]; omega)
  have step := kept _ objStep (by simp only [Obj.committedStep, Obj.admitResult, obj]; omega)
  have result := (ended.1 _ objResult).trans (State.reg_setReg_same _ _ _)
  obtain ⟨tenants, slots, entries, mem, works, queues⟩ := s.beginTenancy_holdings n
  obtain ⟨tenants', slots', entries', mem', works', queues'⟩ := begun.holdings
  obtain ⟨tenants'', slots'', entries'', mem'', works'', queues''⟩ := ended.holdings
  have tenant : ∀ m, (s.admitTenant n).tenant m = (s.setTenant n (s.tenant n).admitted).tenant m := fun m =>
    congrArg (Sparse.get ({} : Tenant) m) (tenants''.trans (tenants'.trans tenants))
  have slot : ∀ j, (s.admitTenant n).slot j = (s.clearShare n).slot j := fun j =>
    congrArg (Sparse.get ({} : Slot) j) (slots''.trans (slots'.trans slots))
  exact ⟨(tenant n).trans (s.tenant_setTenant n _), fun m other => (tenant m).trans (s.tenant_setTenant_other n m _ other), result,
    version.trans (s.beginTenancy_currentVersion n), step.trans (s.beginTenancy_committedStep n),
    fun j lo hi => (slot j).trans (State.slot_clearShare lo hi), entries''.trans (entries'.trans entries),
    mem''.trans (mem'.trans mem), works''.trans (works'.trans works), queues''.trans (queues'.trans queues)⟩

end Sys2Proof.Machine
end

section
/-! TENANT_ADMIT (R363, R681, R688): who may, when, and what it answers. -/

namespace Sys2Proof.Machine

/-- The objects that an admission's clearing and ledger read are none that the merge of maps changes. -/
theorem share_and_ledger_not_mergeObj (n : Nat) : ∀ k ∈ [Obj.slotFirst n, Obj.slotCount n, Obj.ledgerFirstStep n],
    k ∉ Obj.currentVersion n :: mapObjs n := by
  simp only [mapObjs, List.mem_cons, List.not_mem_nil, or_false, Obj.slotFirst, Obj.slotCount, Obj.ledgerFirstStep, Obj.currentVersion,
    Obj.spillCount, Obj.nearCharged, Obj.mainCharged, Obj.deepCharged, obj]
  omega

section
variable {s : State} {sess n : Nat} {x : Session} (session : s.session? sess = some x) (right : s.canWrite x ⟨0xA010 + n, 2⟩ = true)
include session right

/-- Only the Owner admits. -/
theorem tenantAdmit_not_owner (other : x.role ≠ roleOwner) : exec (.tenantAdmit sess n) s = .next (s.violate sess) := by
  show execTenantAdmit sess n s = _
  rw [execTenantAdmit, State.guarded_may _ ⟨x, session, right⟩, session]
  exact congrArg Host.Outcome.next (if_pos other)

variable (owner : x.role = roleOwner)
include owner

/-- What the Owner's command does to a tenant: nothing but an answer when it is not free, nothing while the package takes none, and
otherwise what the conditions of admission say. -/
theorem tenantAdmit_owner : exec (.tenantAdmit sess n) s = .next (
    if (s.tenant n).state ≠ 0 then s.setReg (Obj.admitResult n) 8
    else if s.memberState ≠ 0 ∨ s.dev.writing.isSome ∨ !s.isUp then s
    else if (s.admitCheck n).1 = 0 then (s.admitCheck n).2.admitTenant n
    else s.setReg (Obj.admitResult n) (s.admitCheck n).1) := by
  show execTenantAdmit sess n s = _
  rw [execTenantAdmit, State.guarded_may _ ⟨x, session, right⟩, session]
  dsimp only
  rw [if_neg fun other => other owner]
  generalize s.admitCheck n = answer
  obtain ⟨code, u⟩ := answer
  cases code with
  | zero => simp
  | succ => simp

variable (free : (s.tenant n).state = 0)
include free

/-- A package that is fenced, writing flash or not up takes none (R681, R688). -/
theorem tenantAdmit_not_now (busy : s.memberState ≠ 0 ∨ s.dev.writing.isSome = true ∨ s.isUp = false) :
    exec (.tenantAdmit sess n) s = .next s := by
  rw [tenantAdmit_owner session right owner, if_neg fun admitted => admitted free, if_pos (by simpa using busy)]

variable (member : s.memberState = 0) (settled : s.dev.writing = none) (up : s.isUp = true)
include member settled up

/-- Any other answers as the conditions of admission do. -/
theorem tenantAdmit_checked : exec (.tenantAdmit sess n) s = .next (
    if (s.admitCheck n).1 = 0 then (s.admitCheck n).2.admitTenant n else s.setReg (Obj.admitResult n) (s.admitCheck n).1) := by
  rw [tenantAdmit_owner session right owner, if_neg fun admitted => admitted free, if_neg (by simp [member, settled, up])]

end

/-- A register is set, and nothing else changes. -/
theorem State.onlyRegs_setReg (s : State) (k v : Nat) : OnlyRegs [k] s (s.setReg k v) :=
  ⟨fun _ hj => State.reg_setReg_other _ _ _ _ (List.ne_of_not_mem_cons hj), rfl⟩

/-- Settles O27: the conditions by their list, the admission by its begin and its end. -/
theorem tenantAdmission : Obligations.TenantAdmission := by
  refine ⟨fun _ _ _ _ => tenantAdmit_not_owner, fun s sess n x session right owner busy => ?_, ?_, ?_,
    fun _ _ _ _ => tenantAdmit_not_now, fun s n => ⟨fun i _ => (s.admitCheck_firstOf n).at_first i, (s.admitCheck_firstOf n).at_none⟩⟩
  · exact ⟨_, (tenantAdmit_owner session right owner).trans (by rw [if_pos busy]), s.onlyRegs_setReg _ 8, State.reg_setReg_same _ _ _⟩
  · intro s u sess n code x session right owner free member settled up failed check
    refine ⟨_, (tenantAdmit_checked session right owner free member settled up).trans ?_, s.onlyRegs_setReg _ code,
      State.reg_setReg_same _ _ _⟩
    rw [check, if_neg failed]
  · intro s u sess n x session right owner free member settled up hn passes
    have run := tenantAdmit_checked session right owner free member settled up
    rw [passes, if_pos rfl] at run
    have same := fun k hk => State.mergeMaps_regs (State.mergeMaps_of_admitCheck passes) k (share_and_ledger_not_mergeObj n k hk)
    have admitted := u.admitTenant_admits hn
    rw [same (Obj.ledgerFirstStep n) (by simp), same (Obj.slotFirst n) (by simp), same (Obj.slotCount n) (by simp)] at admitted
    exact ⟨_, run, admitted⟩

end Sys2Proof.Machine
end

section
/-! Memory (R350, R701): a read after any write of bytes, and the copy of an allocation (R323, R327). -/

namespace Sys2Proof.Machine

/-- No two bytes of allocations have one number (R315). -/
theorem memKey_inj {a b o p : Nat} (ho : o < 2 ^ 32) (hp : p < 2 ^ 32) : memKey b p = memKey a o ↔ a = b ∧ o = p := by
  unfold memKey; omega

/-- A number below all that are listed holds the default. -/
theorem Sparse.get_of_above {α : Type} (d : α) {k : Nat} {m : Sparse α} (h : Sparse.above k m) : Sparse.get d k m = d := by
  induction m with
  | nil => rfl
  | cons p m ih =>
    have below : k < p.1 := h p List.mem_cons_self
    rw [Sparse.get, if_neg (Nat.ne_of_gt below), ih fun q hq => h q (List.mem_cons_of_mem _ hq)]

/-- The pairs of a rising list are stored under new numbers that tell them apart: a new number then holds the pair's value, and what the
store held before where the list has none. -/
theorem Sparse.get_foldl_set_pairs {α : Type} [DecidableEq α] (d : α) {key : Nat → Nat} {k : Nat} {xs : Sparse α}
    (apart : ∀ x ∈ xs, key k = key x.1 → x.1 = k) (rising : Sparse.rising xs = true) (m : Sparse α) :
    Sparse.get d (key k) (xs.foldl (fun m x => Sparse.set d (key x.1) x.2 m) m) = Sparse.get (Sparse.get d (key k) m) k xs := by
  induction xs generalizing m with
  | nil => rfl
  | cons x xs ih =>
    obtain ⟨above, rising⟩ := (Sparse.rising_cons x.1 x.2 xs).1 rising
    rw [List.foldl_cons, ih (fun y hy => apart y (List.mem_cons_of_mem _ hy)) rising, Sparse.get_set, Sparse.get]
    by_cases here : x.1 = k
    · subst here
      rw [if_pos rfl, if_pos rfl, Sparse.get_of_above _ above]
    · have other : key k ≠ key x.1 := fun same => here (apart x List.mem_cons_self same)
      rw [if_neg other, if_neg here]

/-- A byte read after a run of bytes has been written. -/
theorem State.rdByte_wrBytes (s : State) {a o : Nat} {vs : List Byte} {b p : Nat} (fits : o + vs.length ≤ 2 ^ 32) (hp : p < 2 ^ 32) :
    (s.wrBytes a o vs).rdByte b p = if a = b ∧ o ≤ p ∧ p < o + vs.length then vs.getD (p - o) 0 else s.rdByte b p := by
  split
  case isTrue written =>
    obtain ⟨rfl, from_o, to_end⟩ := written
    have inside : p - o < vs.length := by omega
    calc (s.wrBytes a o vs).rdByte a p = (s.wrBytes a o vs).rdByte a (o + (p - o)) := by rw [Nat.add_sub_cancel' from_o]
      _ = vs[p - o] := s.rdByte_wrBytes_same a o vs (p - o) inside
      _ = vs.getD (p - o) 0 := List.getElem_eq_getD 0
  case isFalse apart =>
    refine s.rdByte_wrBytes_other a o b p vs ?_
    unfold memKey
    omega

/-- A byte read after an allocation has been zeroed. -/
theorem State.rdByte_zeroAlloc (s : State) (a b : Nat) {p : Nat} (hp : p < 2 ^ 32) :
    (s.zeroAlloc a).rdByte b p = if a = b then 0 else s.rdByte b p := by
  split
  case isTrue same => exact same ▸ s.rdByte_zeroAlloc_same a p hp
  case isFalse other => exact s.rdByte_zeroAlloc_other a b p (Ne.symm other) hp

/-- The bytes listed of one allocation. -/
def State.bytesOf (s : State) (a : Nat) : Sparse Byte := s.mem.filter fun q => q.1 / 2 ^ 32 = a

theorem State.get_bytesOf (s : State) (a : Nat) {p : Nat} (hp : p < 2 ^ 32) : Sparse.get 0 (memKey a p) (s.bytesOf a) = s.rdByte a p := by
  have mine : memKey a p / 2 ^ 32 = a := by unfold memKey; omega
  exact (Sparse.get_filter 0 (memKey a p) (fun k => k / 2 ^ 32 = a) s.mem).trans (if_pos (decide_eq_true mine))

/-- A copied allocation reads as its source (R323, R327): each byte listed of the source is stored at its place in the target, which was
zeroed before. -/
theorem State.rdByte_copyAlloc (s : State) (a b : Nat) {p : Nat} (hp : p < 2 ^ 32) (wf : Memory.wf s.mem = true) :
    (s.copyAlloc a b).rdByte b p = s.rdByte a p := by
  have place : memKey a p % 2 ^ 32 = p := by unfold memKey; omega
  have apart : ∀ x ∈ s.bytesOf a, memKey b (memKey a p % 2 ^ 32) = memKey b (x.1 % 2 ^ 32) → x.1 = memKey a p := by
    intro x hx same
    have mine : x.1 / 2 ^ 32 = a := of_decide_eq_true (List.mem_filter.1 hx).2
    unfold memKey at same ⊢
    omega
  have rising : Sparse.rising (s.bytesOf a) = true := Sparse.rising_filter _ _ (Bool.and_eq_true_iff.1 wf).1
  have stored := Sparse.get_foldl_set_pairs (0 : Byte) (key := fun k => memKey b (k % 2 ^ 32)) apart rising (s.zeroAlloc b).mem
  rw [place] at stored
  calc (s.copyAlloc a b).rdByte b p = Sparse.get ((s.zeroAlloc b).rdByte b p) (memKey a p) (s.bytesOf a) := stored
    _ = s.rdByte a p := by rw [s.rdByte_zeroAlloc_same b p hp, s.get_bytesOf a hp]

/-- Settles O55: a byte by its number, a run byte by byte, a copy by the pairs it stores. -/
theorem memoryReadsBackWrites : Obligations.MemoryReadsBackWrites :=
  ⟨fun s a o b p v ho hp => by simp only [s.rdByte_wrByte, memKey_inj ho hp],
    State.wf_wrByte,
    fun s _ _ _ _ _ fits hp => s.rdByte_wrBytes fits hp,
    fun s a b _ hp => s.rdByte_zeroAlloc a b hp,
    fun s a b _ hp _ wf => s.rdByte_copyAlloc a b hp wf,
    fun s a b wf => ⟨s.wf_zeroAlloc a wf, s.wf_copyAlloc a b wf⟩⟩

end Sys2Proof.Machine
end

section
/-! Messages on their way out (R710, R712, R713): what a state is after a message has been sent, resolved or not, paused or not. -/

namespace Sys2Proof.Machine

theorem State.transmit_ethSent (s : State) (m : EthMsg) : EthSent s (s.transmit m) m := by
  unfold EthSent State.transmit
  by_cases paused : (m.port, m.prio) ∈ s.eth.paused
  · exact ⟨fun _ => if_pos (List.contains_iff_mem.2 paused), fun running => absurd paused running⟩
  · exact ⟨fun held => absurd held paused, fun _ => if_neg fun held => paused (List.contains_iff_mem.1 held)⟩

/-- A solicitation for a next hop (R710), at the priority of the port's control frames. -/
def State.solicitation (s : State) (port hop : Nat) : EthMsg :=
  { net := port / 4, hop := hop, port := port, prio := s.reg (Obj.pcpControl (port / 4)), msg := .neighbour (port / 4) hop false }

theorem State.solicit_ethSent {s u : State} (same : u.regs = s.regs) (port hop : Nat) :
    EthSent u (u.solicit port hop) (s.solicitation port hop) := by
  have prio : u.solicitation port hop = s.solicitation port hop := by
    unfold State.solicitation State.reg
    rw [same]
  exact prio ▸ u.transmit_ethSent _

theorem State.solicit_three {s u : State} (same : u.regs = s.regs) (port hop : Nat) : EthAllSent (List.replicate 3 (s.solicitation port hop)) u
    (((u.solicit port hop).solicit port hop).solicit port hop) := by
  have once := (u.solicit_frame port hop).1.trans same
  have twice := ((u.solicit port hop).solicit_frame port hop).1.trans once
  exact ⟨_, State.solicit_ethSent same port hop, _, State.solicit_ethSent once port hop, _, State.solicit_ethSent twice port hop, rfl⟩

theorem State.sendIp_ipSent (s : State) (port : Nat) (rdma : Bool) (peer : Nat) (m : Msg) :
    IpSent s (s.sendIp port rdma peer m) port rdma peer m := by
  unfold IpSent State.sendIp
  dsimp only
  refine ⟨fun resolved => ?_, fun unresolved => ?_⟩
  · rw [if_pos (List.contains_iff_mem.2 resolved)]
    exact s.transmit_ethSent _
  · rw [if_neg fun resolved => unresolved (List.contains_iff_mem.1 resolved)]
    split
    case isTrue asked => rfl
    case isFalse first => exact State.solicit_three rfl port _

end Sys2Proof.Machine
end

section
/-! Queue pairs (R714 to R719): the update of one, what is sent on it, its errors, and its pushes. -/

namespace Sys2Proof.Machine

@[simp] theorem State.qp_setQp (s : State) (q : Nat) (v : Qp) : (s.setQp q v).qp q = v := Sparse.get_set_same _ _ _ _

theorem State.setQp_qpSet (s : State) (q : Nat) (v : Qp) : QpSet s (s.setQp q v) q v :=
  ⟨s.qp_setQp q v, fun _ other => Sparse.get_set_other _ _ _ _ _ _ other, rfl⟩

/-- A register counts, and nothing else. -/
theorem State.count_counted (s : State) (w k : Nat) : Counted w k s (s.count w k) :=
  ⟨s.onlyRegs_setReg k _, State.reg_setReg_same _ _ _⟩

theorem State.sendRdma_rdmaSent (s : State) (q : Nat) (m : Msg) : RdmaSent s (s.sendRdma q m) q m := s.sendIp_ipSent _ _ _ _

theorem State.qpFail_qpFailed (s : State) (q : Nat) : QpFailed s (s.qpFail q) q := s.setQp_qpSet q _

theorem State.refuseRdma_refused (s : State) (q psn code : Nat) : RdmaRefused s (s.refuseRdma q psn code) q psn code :=
  ⟨_, s.sendRdma_rdmaSent q _, State.qpFail_qpFailed _ q⟩

theorem State.countOldKey_counted (s : State) (rkey : Nat) : OldKeyCounted s (s.countOldKey rkey) rkey := by
  unfold OldKeyCounted State.countOldKey
  split
  case h_1 p found =>
    rw [found]
    refine ⟨nofun, fun p' same => ?_⟩
    cases same
    exact s.count_counted 64 _
  case h_2 absent => exact ⟨fun _ => rfl, fun p found => nomatch absent.symm.trans found⟩

theorem State.resendPushes_sent (s : State) (q : Nat) (rs : List (Nat × Nat × Completion)) : PushesSent q rs s (s.resendPushes q rs) := by
  induction rs generalizing s with
  | nil => rfl
  | cons r rs ih => exact ⟨_, s.sendRdma_rdmaSent q _, ih _⟩

/-- The retries on a port are used up (R718): the move to the alternate port, or the error. -/
theorem State.qpExhausted_exhausted (s : State) (q : Nat) : QpExhausted s (s.qpExhausted q) q := by
  constructor
  · intro valid primary
    have moves : ((s.qp q).spec.altValid && !(s.qp q).onAlternate) = true := by rw [valid, primary]; rfl
    rw [State.qpExhausted, if_pos moves]
    exact ⟨_, _, s.setQp_qpSet q _, State.count_counted _ _ _, State.resendPushes_sent _ _ _⟩
  · intro last
    have stays : ¬((s.qp q).spec.altValid && !(s.qp q).onAlternate) = true := by
      rcases last with invalid | used
      · rw [invalid]; exact nofun
      · rw [used, Bool.not_true, Bool.and_false]; exact nofun
    rw [State.qpExhausted, if_neg stays]
    exact s.qpFail_qpFailed q

end Sys2Proof.Machine
end

section
/-! The table of queue pairs and the responder (R381, R702, R714 to R717, R731). -/

namespace Sys2Proof.Machine

section
variable {s : State} {sess q : Nat} {v : QpSpec} (may : MayWrite s sess (Obj.qpTable q / 256) (Obj.qpTable q % 256))
include may

theorem qpTableWrite_run : exec (.qpTableWrite sess q v) s = .next (s.putQp q v).1 :=
  congrArg Host.Outcome.next (State.guarded_may (fun t => (t.putQp q v).1) may)

theorem qpTableWrite_refused (reset : (s.qp q).spec.state = qpReset)
    (bad : v.state = qpError ∨ 2 < v.state ∨ 7 < v.retryCount ∨ (v.altValid = true ∧ v.primary / 4 = v.alternate / 4)) :
    exec (.qpTableWrite sess q v) s = .next s := by
  rw [qpTableWrite_run may, State.putQp, if_neg (not_not_intro reset), if_pos bad]

theorem qpTableWrite_taken (reset : (s.qp q).spec.state = qpReset) (state : v.state ≤ 1) (retries : v.retryCount ≤ 7)
    (alternate : v.altValid = false ∨ v.primary / 4 ≠ v.alternate / 4) :
    exec (.qpTableWrite sess q v) s = .next (if v.state = 1 then s.qpStart q v else s.setQp q { spec := v }) := by
  have good : ¬(v.state = qpError ∨ 2 < v.state ∨ 7 < v.retryCount ∨ (v.altValid = true ∧ v.primary / 4 = v.alternate / 4)) := by
    rintro (h | h | h | ⟨valid, near⟩)
    · exact absurd (h ▸ state : qpError ≤ 1) (by decide)
    · omega
    · omega
    · exact alternate.elim (fun invalid => Bool.noConfusion (invalid.symm.trans valid)) fun far => far near
  rw [qpTableWrite_run may, State.putQp, if_neg (not_not_intro reset), if_neg good]
  exact congrArg Host.Outcome.next (apply_ite Prod.fst _ _ _)

/-- Out of ready or error only the return to reset is applied (R715, log entry 50). -/
theorem qpTableWrite_live (live : (s.qp q).spec.state ≠ qpReset) : exec (.qpTableWrite sess q v) s =
    .next (if v.state = qpReset then s.setQp q { spec := { (s.qp q).spec with state := qpReset } } else s) := by
  rw [qpTableWrite_run may, State.putQp, if_pos live, State.applyIf]
  simp only [apply_ite Prod.fst, beq_iff_eq]

end

/-- A queue pair that no queue pushes on starts with nothing to push (R715, R719). -/
theorem State.qpStart_of_no_pushes {s : State} {q : Nat} (v : QpSpec)
    (unused : ∀ p ∈ s.queues, p.2.pull = true ∨ qpIndex p.2.cqQp ≠ some q) : s.qpStart q v =
      s.setQp q { spec := { v with state := 1 }, sendPsn := v.sendPsn, recvPsn := v.receivePsn } := by
  have pushes : (s.queues.filter fun p => !p.2.pull && qpIndex p.2.cqQp == some q) = [] := by
    refine List.filter_eq_nil_iff.2 fun p hp pushing => ?_
    obtain ⟨push, here⟩ := Bool.and_eq_true_iff.1 pushing
    rcases unused p hp with pull | other
    · rw [pull] at push; exact nomatch push
    · exact other (beq_iff_eq.1 here)
  unfold State.qpStart
  exact (congrArg (List.foldl _ _) pushes).trans rfl

theorem Qp.order_next_iff (v : Qp) (psn : Nat) : v.order psn = .next ↔ psnAhead v.recvPsn psn = 0 := by
  unfold Qp.order
  dsimp only
  split
  case isTrue zero => exact iff_of_true rfl zero
  case isFalse ahead =>
    refine iff_of_false ?_ ahead
    split
    case isTrue far => exact nofun
    case isFalse near => exact nofun

theorem Qp.order_gap_iff (v : Qp) (psn : Nat) :
    v.order psn = .gap ↔ 0 < psnAhead v.recvPsn psn ∧ psnAhead v.recvPsn psn < 2 ^ 23 := by
  unfold Qp.order
  dsimp only
  split
  case isTrue zero => exact iff_of_false nofun (by omega)
  case isFalse ahead =>
    split
    case isTrue far => exact iff_of_false nofun (by omega)
    case isFalse near => exact iff_of_true rfl (by omega)

/-- Of the 24-bit sequences only the one expected is no step ahead of it. -/
theorem psnAhead_eq_zero_iff {a b : Nat} (ha : a < 2 ^ 24) (hb : b < 2 ^ 24) : psnAhead a b = 0 ↔ b = a := by
  unfold psnAhead psnMod
  omega

theorem psnsOf_eq (len : Nat) : psnsOf len = max 1 ((len + 4095) / 4096) := by
  rw [psnsOf, ceilDiv, if_neg (by decide), Nat.add_sub_assoc (by decide)]

theorem State.expect_qpSet (s : State) (q psn len : Nat) :
    QpSet s (s.expect q psn len) q { s.qp q with recvPsn := (psn + max 1 ((len + 4095) / 4096)) % 2 ^ 24 } := by
  rw [← psnsOf_eq]
  exact s.setQp_qpSet q _

/-- What a READ that is not behind a gap makes of the sequence expected: a repeat leaves it. -/
def State.expectRead (s : State) (q psn len : Nat) : State := if (s.qp q).order psn = .next then s.expect q psn len else s

theorem State.expectRead_spec (s : State) (q psn len : Nat) : ((s.expectRead q psn len).qp q).spec = (s.qp q).spec := by
  rw [State.expectRead]
  split
  · rw [State.expect, State.qp_setQp]
  · rfl

theorem State.expectRead_port (s : State) (q psn len : Nat) : ((s.expectRead q psn len).qp q).port = (s.qp q).port := by
  rw [State.expectRead]
  split
  · rw [State.expect, State.qp_setQp]
    rfl
  · rfl

theorem State.expectRead_keyKind (s : State) (q psn len n rkey : Nat) : (s.expectRead q psn len).keyKind n rkey = s.keyKind n rkey := by
  rw [State.expectRead]
  split <;> rfl

section
variable {s : State} {q psn rkey a len : Nat} {d : List Byte} (ready : (s.qp q).spec.state = qpReady)
include ready

theorem rdmaWrite_gap (gap : (s.qp q).order psn = .gap) : exec (.rdmaWrite q psn rkey a d) s =
    .next (s.sendRdma q (.roceNak (s.qp q).port q (s.qp q).recvPsn nakSequence)) := by
  show execRdmaWrite q psn rkey a d s = _
  rw [execRdmaWrite, if_neg (not_not_intro ready), gap]

/-- A repeat is acknowledged, unless the WRITE it repeats still waits (R717). -/
theorem rdmaWrite_again (again : (s.qp q).order psn = .again) : exec (.rdmaWrite q psn rkey a d) s =
    .next (if ∃ h ∈ (s.qp q).held, h.1 = psn then s else s.sendRdma q (.roceAck (s.qp q).port q psn)) := by
  show execRdmaWrite q psn rkey a d s = _
  rw [execRdmaWrite, if_neg (not_not_intro ready), again]
  simp only [List.any_eq_true, beq_iff_eq]

theorem rdmaWrite_foreign (next : (s.qp q).order psn = .next) (foreign : s.keyKind (s.qp q).spec.tenant rkey = .foreign) :
    exec (.rdmaWrite q psn rkey a d) s = .next (s.refuseKey q psn rkey) := by
  show execRdmaWrite q psn rkey a d s = _
  rw [execRdmaWrite, if_neg (not_not_intro ready), next]
  exact congrArg Host.Outcome.next (if_pos foreign)

/-- A WRITE that waits, or follows one that waits, is held (R717). -/
theorem rdmaWrite_taken (next : (s.qp q).order psn = .next) (own : s.keyKind (s.qp q).spec.tenant rkey ≠ .foreign) :
    exec (.rdmaWrite q psn rkey a d) s = .next (
      let u := s.expect q psn d.length
      if (s.qp q).held ≠ [] ∨ s.rdmaWaits (s.qp q).spec.tenant rkey a d = true then
        u.setQp q { u.qp q with held := (s.qp q).held ++ [(psn, rkey, a, d)] }
      else u.applyRdma q psn rkey a d) := by
  show execRdmaWrite q psn rkey a d s = _
  rw [execRdmaWrite, if_neg (not_not_intro ready), next]
  refine congrArg Host.Outcome.next ((if_neg own).trans ?_)
  simp

theorem rdmaRead_gap (gap : (s.qp q).order psn = .gap) : exec (.rdmaRead q psn rkey a len) s =
    .next (s.sendRdma q (.roceNak (s.qp q).port q (s.qp q).recvPsn nakSequence)) := by
  show execRdmaRead q psn rkey a len s = _
  rw [execRdmaRead, if_neg (not_not_intro ready), gap]

theorem rdmaRead_foreign (known : (s.qp q).order psn ≠ .gap) (foreign : s.keyKind (s.qp q).spec.tenant rkey = .foreign) :
    exec (.rdmaRead q psn rkey a len) s = .next (s.refuseKey q psn rkey) := by
  show execRdmaRead q psn rkey a len s = _
  rw [execRdmaRead, if_neg (not_not_intro ready)]
  refine congrArg Host.Outcome.next ?_
  split
  case h_1 gap => exact absurd gap known
  case h_2 again => exact if_pos foreign
  case h_3 next => exact if_pos foreign

/-- A READ is answered whether or not WRITEs of its queue pair wait (log entry 49). -/
theorem rdmaRead_taken (known : (s.qp q).order psn ≠ .gap) (own : s.keyKind (s.qp q).spec.tenant rkey ≠ .foreign) :
    exec (.rdmaRead q psn rkey a len) s = .next ((s.expectRead q psn len).answerRdmaRead q psn rkey a len) := by
  show execRdmaRead q psn rkey a len s = _
  rw [execRdmaRead, if_neg (not_not_intro ready)]
  refine congrArg Host.Outcome.next ?_
  unfold State.expectRead
  split
  case h_1 gap => exact absurd gap known
  case h_2 again => rw [if_neg own, again, if_neg nofun]
  case h_3 next => rw [if_neg own, next, if_pos rfl]

end

/-- A refused key (R702, R716): counted when it is of an earlier admission, then a negative acknowledgement and the error. -/
theorem State.refuseKey_refused (s : State) (q psn rkey : Nat) :
    ∃ u, OldKeyCounted s u rkey ∧ RdmaRefused u (s.refuseKey q psn rkey) q psn nakAccess :=
  ⟨_, s.countOldKey_counted rkey, State.refuseRdma_refused _ q psn nakAccess⟩

/-- A write into one queue window (R381) meets that window alone. -/
theorem State.windowWrite_within {n a : Nat} {d : List Byte} (fits : a % 0x80000 + d.length ≤ 0x80000) (nonempty : d ≠ [])
    (k : Nat) (s : State) :
    State.windowWrite n (k + 2) a d s =
      if s.tenantOfQueue (a / 0x80000) = some n then s.windowBytes (a / 0x80000) (a % 0x80000) d else s.accessViolation n := by
  have whole : d.length ≤ 0x80000 - a % 0x80000 := by omega
  have written : ¬d.isEmpty = true := fun e => nonempty (List.isEmpty_iff.1 e)
  rw [State.windowWrite, if_neg written]
  dsimp only
  rw [List.take_of_length_le whole, List.drop_of_length_le whole]
  rfl

section
variable {s : State} {q rkey : Nat} (psn a : Nat) (d : List Byte)

theorem State.applyRdma_tensor (tensor : s.keyKind (s.qp q).spec.tenant rkey = .tensor) :
    ∃ m u v, s.hostWrite (s.qp q).spec.tenant a d = (m, u) ∧ OnlyRegs [Obj.accessViolationCount (s.qp q).spec.tenant] u v ∧
      v.reg (Obj.accessViolationCount (s.qp q).spec.tenant) =
        (u.reg (Obj.accessViolationCount (s.qp q).spec.tenant) + m.cases) % 2 ^ 64 ∧
      RdmaSent v (s.applyRdma q psn rkey a d) q (.roceAck (v.qp q).port q psn) := by
  refine ⟨_, _, _, rfl, State.onlyRegs_setReg _ _ _, State.reg_setReg_same _ _ _, ?_⟩
  rw [State.applyRdma, tensor]
  exact State.sendRdma_rdmaSent _ q _

theorem State.applyRdma_window (window : s.keyKind (s.qp q).spec.tenant rkey = .window) (fits : a % 0x80000 + d.length ≤ 0x80000)
    (nonempty : d ≠ []) :
    let v := if s.tenantOfQueue (a / 0x80000) = some (s.qp q).spec.tenant then s.windowBytes (a / 0x80000) (a % 0x80000) d
      else s.accessViolation (s.qp q).spec.tenant
    RdmaSent v (s.applyRdma q psn rkey a d) q (.roceAck (v.qp q).port q psn) := by
  rw [← State.windowWrite_within fits nonempty (d.length / 0x80000), State.applyRdma, window]
  exact State.sendRdma_rdmaSent _ q _

end

section
variable {s : State} {q rkey : Nat} (psn a len : Nat)

theorem State.answerRdmaRead_window (window : s.keyKind (s.qp q).spec.tenant rkey = .window) :
    RdmaSent s (s.answerRdmaRead q psn rkey a len) q (.roceRead (s.qp q).port q psn (List.replicate len 0)) := by
  have other : ¬s.keyKind (s.qp q).spec.tenant rkey = .tensor := window ▸ nofun
  rw [State.answerRdmaRead, if_neg other]
  exact s.sendRdma_rdmaSent q _

theorem State.answerRdmaRead_tensor (tensor : s.keyKind (s.qp q).spec.tenant rkey = .tensor) : ∃ bs m v w,
    s.hostRead (s.qp q).spec.tenant a len (ethUnit (s.qp q).port) 0 = (bs, m, v) ∧
      OnlyRegs [Obj.accessViolationCount (s.qp q).spec.tenant] v w ∧ w.reg (Obj.accessViolationCount (s.qp q).spec.tenant) =
        (v.reg (Obj.accessViolationCount (s.qp q).spec.tenant) + m.cases) % 2 ^ 64 ∧
      RdmaSent w (s.answerRdmaRead q psn rkey a len) q (.roceRead (s.qp q).port q psn bs) := by
  refine ⟨_, _, _, _, rfl, State.onlyRegs_setReg _ _ _, State.reg_setReg_same _ _ _, ?_⟩
  rw [State.answerRdmaRead, if_pos tensor]
  exact State.sendRdma_rdmaSent _ q _

end

end Sys2Proof.Machine
end

section
/-! The requester (R392, R718) and the statement of queue pairs. -/

namespace Sys2Proof.Machine

/-- A queue pair that is not ready drops the answers to its requests, and tries none again (R714, R718). -/
theorem requester_not_ready {s : State} {q : Nat} (psn : Nat) (rnr : Bool) (idle : (s.qp q).spec.state ≠ qpReady) :
    exec (.roceAckReceive q psn rnr) s = .next s ∧ exec (.roceRetryTimeout q) s = .next s ∧ exec (.roceRnrRetry q) s = .next s :=
  ⟨congrArg Host.Outcome.next (if_pos idle), congrArg Host.Outcome.next (if_pos (.inl idle)),
    congrArg Host.Outcome.next (if_pos (.inl idle))⟩

/-- A queue pair that is not ready drops the requests of its peer (R714). -/
theorem responder_not_ready {s : State} {q : Nat} (psn rkey a len : Nat) (d : List Byte) (idle : (s.qp q).spec.state ≠ qpReady) :
    exec (.rdmaWrite q psn rkey a d) s = .next s ∧ exec (.rdmaRead q psn rkey a len) s = .next s ∧
      exec (.rdmaSendReceive q psn) s = .next s :=
  ⟨congrArg Host.Outcome.next (if_pos idle), congrArg Host.Outcome.next (if_pos idle), congrArg Host.Outcome.next (if_neg idle)⟩

/-- The requests that an acknowledgement of a sequence leaves (R718): those after it. -/
def Qp.afterAck (v : Qp) (psn : Nat) : List (Nat × Nat × Completion) :=
  v.outstanding.filter fun r => r.1 != psn && decide (2 ^ 23 ≤ (psn + 2 ^ 24 - r.1) % 2 ^ 24)

section
variable {s : State} {q : Nat} (ready : (s.qp q).spec.state = qpReady)
include ready

theorem roceAckReceive_notReady (psn : Nat) : exec (.roceAckReceive q psn true) s = .next (s.setQp q { s.qp q with rnr := true }) := by
  show execRoceAckReceive q psn true s = _
  rw [execRoceAckReceive, if_neg (not_not_intro ready), if_pos rfl]

theorem roceAckReceive_retires (psn : Nat) : exec (.roceAckReceive q psn false) s = .next (
    if (s.qp q).afterAck psn = (s.qp q).outstanding then s
    else s.setQp q { s.qp q with outstanding := (s.qp q).afterAck psn, retries := 0, rnrTries := 0, rnr := false }) := by
  show execRoceAckReceive q psn false s = _
  rw [execRoceAckReceive, if_neg (not_not_intro ready), if_neg nofun]
  rfl

theorem roceRetryTimeout_waiting (waiting : (s.qp q).outstanding ≠ []) : exec (.roceRetryTimeout q) s = .next (
    if (s.qp q).retries < (s.qp q).spec.retryCount then
      (s.setQp q { s.qp q with retries := (s.qp q).retries + 1 }).resendPushes q (s.qp q).outstanding
    else s.qpExhausted q) := by
  have acts : ¬((s.qp q).spec.state ≠ qpReady ∨ (s.qp q).outstanding.isEmpty = true) :=
    not_or.2 ⟨not_not_intro ready, fun empty => waiting (List.isEmpty_iff.1 empty)⟩
  show execRoceRetryTimeout q s = _
  rw [execRoceRetryTimeout, if_neg acts]

theorem roceRnrRetry_waiting (waiting : (s.qp q).rnr = true) : exec (.roceRnrRetry q) s = .next (
    if (s.qp q).rnrTries < 7 then
      (s.setQp q { s.qp q with rnrTries := (s.qp q).rnrTries + 1, rnr := false }).resendPushes q (s.qp q).outstanding
    else s.qpExhausted q) := by
  have acts : ¬((s.qp q).spec.state ≠ qpReady ∨ (!(s.qp q).rnr) = true) :=
    not_or.2 ⟨not_not_intro ready, by rw [waiting]; exact nofun⟩
  show execRoceRnrRetry q s = _
  rw [execRoceRnrRetry, if_neg acts]
  rfl

end

/-- A retry below a limit is one more and resends (R718); at the limit the retries on the port are used up. -/
theorem State.retry_or_exhausted (s : State) (q : Nat) (v : Qp) (below : Prop) [Decidable below] : ∃ u t,
    (if below then (s.setQp q v).resendPushes q (s.qp q).outstanding else s.qpExhausted q) = t ∧
    (below → QpSet s u q v ∧ PushesSent q (s.qp q).outstanding u t) ∧ (¬below → QpExhausted s t q) := by
  refine ⟨s.setQp q v, _, rfl, fun retry => ?_, fun spent => ?_⟩
  · rw [if_pos retry]
    exact ⟨s.setQp_qpSet q v, State.resendPushes_sent _ _ _⟩
  · rw [if_neg spent]
    exact s.qpExhausted_exhausted q

/-- What an RDMA key names (R397, R702, R716). -/
theorem State.keyKind_cases (s : State) (n rkey : Nat) : ((s.tenant n).state = 0 → s.keyKind n rkey = .foreign) ∧
    ((s.tenant n).state ≠ 0 → rkey = s.reg (Obj.tensorRkey n) → s.keyKind n rkey = .tensor) ∧
    ((s.tenant n).state ≠ 0 → rkey ≠ s.reg (Obj.tensorRkey n) → rkey = s.reg (Obj.queueWindowRkey n) → s.keyKind n rkey = .window) ∧
    (rkey ≠ s.reg (Obj.tensorRkey n) → rkey ≠ s.reg (Obj.queueWindowRkey n) → s.keyKind n rkey = .foreign) := by
  unfold State.keyKind
  refine ⟨fun free => if_pos free, fun held tensor => ?_, fun held other window => ?_, fun other other' => ?_⟩
  · rw [if_neg held, if_pos tensor]
  · rw [if_neg held, if_neg other, if_pos window]
  · rw [if_neg other, if_neg other', ite_self]

/-- Settles O49: the table write, the responder and the requester by their cases. -/
theorem queuePairs : Obligations.QueuePairs := by
  unfold Obligations.QueuePairs
  refine ⟨fun _ _ _ _ may reset bad => qpTableWrite_refused may reset bad, ?tableTaken, ?tableLive,
    fun _ _ _ _ _ _ d idle => responder_not_ready _ _ _ _ d idle, ?order, ?gap, ?foreign, ?writeTaken, ?applied, ?readTaken, ?writeAgain,
    ?send, State.keyKind_cases, fun _ _ psn rnr idle => requester_not_ready psn rnr idle,
    fun _ _ psn ready => ⟨_, roceAckReceive_notReady ready psn, State.setQp_qpSet _ _ _⟩, ?acknowledged,
    fun _ _ _ retired => congrArg Host.Outcome.next (if_pos (.inr (List.isEmpty_iff.2 retired))), ?timeout,
    fun _ _ _ answered => congrArg Host.Outcome.next (if_pos (.inr (by rw [answered]; rfl))), ?rnrRetry, fun _ _ _ _ _ => rfl⟩
  case tableTaken =>
    intro s sess q v may reset state retries alternate
    refine ⟨s.setQp q _, _, qpTableWrite_taken may reset state retries alternate, fun zero => ?_, fun one =>
      ⟨s.setQp_qpSet q _, fun unused => ?_⟩⟩
    · rw [if_neg (zero ▸ nofun)]
      exact s.setQp_qpSet q _
    · rw [if_pos one]
      exact State.qpStart_of_no_pushes v unused
  case tableLive =>
    intro s sess q v may live
    refine ⟨_, qpTableWrite_live may live, fun other => if_neg other, fun (zero : v.state = qpReset) => ?_⟩
    rw [if_pos zero]
    exact s.setQp_qpSet q _
  case order =>
    exact fun v psn expected hpsn => ⟨(v.order_next_iff psn).trans (psnAhead_eq_zero_iff expected hpsn), v.order_gap_iff psn⟩
  case gap =>
    exact fun s q _ _ _ _ _ ready gap => ⟨_, rdmaWrite_gap ready gap, rdmaRead_gap ready gap, s.sendRdma_rdmaSent q _⟩
  case foreign =>
    intro s q psn rkey a len d ready foreign
    obtain ⟨u, counted, refused⟩ := s.refuseKey_refused q psn rkey
    exact ⟨fun next => ⟨u, _, rdmaWrite_foreign ready next foreign, counted, refused⟩,
      fun known => ⟨u, _, rdmaRead_foreign ready known foreign, counted, refused⟩⟩
  case writeTaken =>
    intro s q psn rkey a d ready next own
    refine ⟨s.expect q psn d.length, _, rdmaWrite_taken ready next own, s.expect_qpSet q psn _, fun waits => ?_, fun empty goes => ?_⟩
    · rw [if_pos waits]
      exact State.setQp_qpSet _ q _
    · exact if_neg (not_or.2 ⟨not_not_intro empty, Bool.eq_false_iff.1 goes⟩)
  case applied =>
    intro s q psn rkey a d
    refine ⟨fun tensor => s.applyRdma_tensor psn a d tensor, fun window fits nonempty mine => ?_, fun window fits nonempty other => ?_⟩
    · have applied := s.applyRdma_window psn a d window fits nonempty
      rwa [if_pos mine] at applied
    · have applied := s.applyRdma_window psn a d window fits nonempty
      rw [if_neg other] at applied
      exact ⟨_, s.count_counted 64 _, applied⟩
  case readTaken =>
    intro s q psn rkey a len ready known own
    have spec := s.expectRead_spec q psn len
    have port := s.expectRead_port q psn len
    have kind := s.expectRead_keyKind q psn len (s.qp q).spec.tenant rkey
    refine ⟨s.expectRead q psn len, _, rdmaRead_taken ready known own, fun again => if_neg (again ▸ nofun), fun next => ?_,
      fun window => ?_, fun tensor => ?_⟩
    · rw [State.expectRead, if_pos next]
      exact s.expect_qpSet q psn len
    · exact port ▸ State.answerRdmaRead_window psn a len (spec ▸ kind.trans window)
    · exact port ▸ spec ▸ State.answerRdmaRead_tensor psn a len (spec ▸ kind.trans tensor)
  case writeAgain =>
    intro s q psn rkey a d ready again
    refine ⟨fun held => ?_, fun free => ⟨_, rdmaWrite_again ready again, ?_⟩⟩
    · rw [rdmaWrite_again ready again, if_pos held]
    · rw [if_neg fun ⟨h, waits, same⟩ => free h waits same]
      exact s.sendRdma_rdmaSent q _
  case send =>
    exact fun s q psn ready => ⟨_, congrArg Host.Outcome.next (if_pos ready), s.refuseRdma_refused q psn nakInvalid⟩
  case acknowledged =>
    intro s q psn ready
    refine ⟨_, roceAckReceive_retires ready psn, fun all => if_pos all, fun (retires : (s.qp q).afterAck psn ≠ _) => ?_⟩
    rw [if_neg retires]
    exact s.setQp_qpSet q _
  case timeout =>
    intro s q ready waiting
    obtain ⟨u, t, run, retry, spent⟩ := s.retry_or_exhausted q { s.qp q with retries := (s.qp q).retries + 1 }
      ((s.qp q).retries < (s.qp q).spec.retryCount)
    exact ⟨u, t, (roceRetryTimeout_waiting ready waiting).trans (congrArg _ run), retry, fun limit => spent (Nat.not_lt.2 limit)⟩
  case rnrRetry =>
    intro s q ready waiting
    obtain ⟨u, t, run, retry, spent⟩ := s.retry_or_exhausted q { s.qp q with rnrTries := (s.qp q).rnrTries + 1, rnr := false }
      ((s.qp q).rnrTries < 7)
    exact ⟨u, t, (roceRnrRetry_waiting ready waiting).trans (congrArg _ run), retry, fun limit => spent (Nat.not_lt.2 limit)⟩

end Sys2Proof.Machine
end

section
/-! The scalar instructions (R373 to R376): their arithmetic on 64-bit words, and what one that issues leaves of its context. -/

namespace Sys2Proof.Machine

/-! The arithmetic of R374 on 64-bit words -/

theorem opAdd_toNat (a b : BitVec 64) : opAdd a.toNat b.toNat = (a + b).toNat := rfl

theorem opSub_toNat (a b : BitVec 64) : opSub a.toNat b.toNat = (a - b).toNat := by
  rw [opSub, Nat.mod_eq_of_lt b.isLt, Nat.add_comm, BitVec.toNat_sub]

theorem opMul_toNat (a b : BitVec 64) : opMul a.toNat b.toNat = (a * b).toNat := rfl

theorem opShl_toNat (a b : BitVec 64) : opShl a.toNat b.toNat = (a <<< (b.toNat % 64)).toNat := by
  rw [opShl, BitVec.toNat_shiftLeft, Nat.shiftLeft_eq]

theorem opShr_toNat (a b : BitVec 64) : opShr a.toNat b.toNat = (a >>> (b.toNat % 64)).toNat := by
  rw [opShr, BitVec.toNat_ushiftRight, Nat.shiftRight_eq_div_pow]

theorem signedOf_toNat {n : Nat} (a : BitVec n) : signedOf n a.toNat = a.toInt := by
  simp only [signedOf, Nat.mod_eq_of_lt a.isLt, BitVec.toInt_eq_toNat_cond]
  push_cast
  rfl

theorem opSra_toNat (a b : BitVec 64) : opSra a.toNat b.toNat = (a.sshiftRight (b.toNat % 64)).toNat := by
  have shifted : signedOf 64 a.toNat / (2 ^ (b.toNat % 64) : Int) = (a.sshiftRight (b.toNat % 64)).toInt := by
    rw [signedOf_toNat, BitVec.toInt_sshiftRight, Int.shiftRight_eq_div_pow]
    push_cast
    rfl
  have wrapped (v : BitVec 64) : wrapInt 64 v.toInt = v.toNat := by
    conv => rhs; rw [← BitVec.ofInt_toInt (x := v), BitVec.toNat_ofInt]
    rfl
  rw [opSra, shifted, wrapped]

theorem toNat_ite_one (c : Bool) : (if c then 1 else 0 : BitVec 64).toNat = b2n c := by
  cases c <;> rfl

theorem opSlt_toNat (a b : BitVec 64) : opSlt a.toNat b.toNat = (if a.slt b then 1 else 0 : BitVec 64).toNat := by
  rw [toNat_ite_one, opSlt, signedOf_toNat, signedOf_toNat, BitVec.slt]

theorem opSltu_toNat (a b : BitVec 64) : opSltu a.toNat b.toNat = (if a.ult b then 1 else 0 : BitVec 64).toNat :=
  (toNat_ite_one (a.ult b)).symm

/-- Every arithmetic instruction issues an operation of natural numbers that is its operation of 64-bit words (R374). -/
theorem exec_of_mem_scalarTable {p : (Nat → Nat → ScalarWord → Instr) × (BitVec 64 → BitVec 64 → BitVec 64)} (hp : p ∈ scalarTable)
    (c x : Nat) (w : ScalarWord) (s : State) : ∃ f, exec (p.1 c x w) s = .next (s.issueArith c x w f) ∧
      ∀ a b : BitVec 64, f a.toNat b.toNat = (p.2 a b).toNat := by
  simp only [scalarTable, List.mem_cons, List.not_mem_nil, or_false] at hp
  rcases hp with rfl | rfl | rfl | rfl | rfl | rfl | rfl | rfl | rfl | rfl | rfl
  · exact ⟨opAdd, rfl, opAdd_toNat⟩
  · exact ⟨opSub, rfl, opSub_toNat⟩
  · exact ⟨opMul, rfl, opMul_toNat⟩
  · exact ⟨(· &&& ·), rfl, fun a b => (BitVec.toNat_and a b).symm⟩
  · exact ⟨(· ||| ·), rfl, fun a b => (BitVec.toNat_or a b).symm⟩
  · exact ⟨(· ^^^ ·), rfl, fun a b => (BitVec.toNat_xor a b).symm⟩
  · exact ⟨opShl, rfl, opShl_toNat⟩
  · exact ⟨opShr, rfl, opShr_toNat⟩
  · exact ⟨opSra, rfl, opSra_toNat⟩
  · exact ⟨opSlt, rfl, opSlt_toNat⟩
  · exact ⟨opSltu, rfl, opSltu_toNat⟩

/-! Scalar registers and tokens of a context (R373, R376) -/

/-- A scalar register after a write: s0 stays zero, values wrap at 64 bits (R373). -/
theorem Ctx.sreg_setSreg_same (y : Ctx) (i v : Nat) : (y.setSreg i v).sreg i = if i = 0 then 0 else v % 2 ^ 64 := by
  unfold Ctx.sreg Ctx.setSreg
  by_cases h : i = 0
  · rw [if_pos h, if_pos h]
  · rw [if_neg h, if_neg h, if_neg h, Sparse.get_set_same]

theorem Ctx.sreg_setSreg_other (y : Ctx) {i j : Nat} (v : Nat) (h : j ≠ i) : (y.setSreg i v).sreg j = y.sreg j := by
  unfold Ctx.sreg Ctx.setSreg
  split
  case isTrue => rfl
  case isFalse =>
    split
    case isTrue => rfl
    case isFalse => exact Sparse.get_set_other _ _ _ _ _ _ h

/-- A write of a scalar register changes nothing else of its context. -/
theorem Ctx.setSreg_eq (y : Ctx) (i v : Nat) : ∃ m, y.setSreg i v = { y with sregs := m } := by
  unfold Ctx.setSreg
  split
  · exact ⟨y.sregs, rfl⟩
  · exact ⟨_, rfl⟩

theorem Ctx.token_setToken_same (y : Ctx) {t : Nat} (v : Token) (h : t ≠ 0) : (y.setToken t v).token t = v := by
  rw [Ctx.setToken, if_neg h, Ctx.token, Sparse.get_set_same]

theorem Ctx.token_setToken_other (y : Ctx) {t i : Nat} (v : Token) (h : i ≠ t) : (y.setToken t v).token i = y.token i := by
  unfold Ctx.setToken
  split
  · rfl
  · exact Sparse.get_set_other _ _ _ _ _ _ h

/-- A change of a token changes nothing else of its context. -/
theorem Ctx.setToken_eq (y : Ctx) (t : Nat) (v : Token) : ∃ m, y.setToken t v = { y with tokens := m } := by
  unfold Ctx.setToken
  split
  · exact ⟨y.tokens, rfl⟩
  · exact ⟨_, rfl⟩

/-! An instruction that issues and changes its own context alone -/

/-- Beside its own context an instruction changes nothing but the yields that end. -/
theorem State.started_setCtx_frame (s : State) (c x : Nat) (v : Ctx) :
    (∀ d y, ctxKey d y ≠ ctxKey c x → ((s.started c x).setCtx c x v).ctx d y = (s.started c x).ctx d y) ∧
    { (s.started c x).setCtx c x v with ctxs := s.ctxs } = s := by
  obtain ⟨m, started⟩ := s.started_eq c x
  refine ⟨fun d y other => State.ctx_setCtx_other _ _ _ _ _ _ other, ?_⟩
  rw [started]
  rfl

/-- An arithmetic instruction that issues writes SD (R373, R374). -/
theorem State.issueArith_issues {s : State} {c x : Nat} {k : Work} (issues : Issues s c x k) (w : ScalarWord) (f : Nat → Nat → Nat) :
    s.issueArith c x w f = (s.started c x).setCtx c x (((s.started c x).ctx c x).setSreg w.sd
      (f ((s.ctx c x).sreg w.sa) (if w.immFlag then w.imm else (s.ctx c x).sreg w.sb))) := by
  rw [State.issueArith, State.issue_ok issues, State.arith, operandTwo, State.started_ctx]
  rfl

/-- Settles O9: each instruction issues its operation of 64-bit words, whose result SD takes. -/
theorem scalarArithmeticWritesSD : Obligations.ScalarArithmeticWritesSD := by
  intro p hp s c x w k a b issues sa second
  obtain ⟨f, run, computes⟩ := exec_of_mem_scalarTable hp c x w s
  rw [State.issueArith_issues issues, sa, second, computes, State.started_ctx] at run
  obtain ⟨others, frame⟩ := s.started_setCtx_frame c x
    (Ctx.setSreg { s.ctx c x with state := 2, waits := .nothing, ip := (s.ctx c x).ip + 16 } w.sd (p.2 a b).toNat)
  refine ⟨_, run, ?_, fun i hi => ?_, ?_, others, frame⟩
  · rw [State.ctx_setCtx, Ctx.sreg_setSreg_same, Nat.mod_eq_of_lt (p.2 a b).isLt]
  · rw [State.ctx_setCtx]
    exact Ctx.sreg_setSreg_other _ _ hi
  · rw [State.ctx_setCtx]
    obtain ⟨m, written⟩ := Ctx.setSreg_eq { s.ctx c x with state := 2, waits := .nothing, ip := (s.ctx c x).ip + 16 } w.sd (p.2 a b).toNat
    rw [written]

end Sys2Proof.Machine
end

section
/-! The control of a context's stream (R189, R374, R376, R377, R389). -/

namespace Sys2Proof.Machine

/-- A second insertion of the same pair changes nothing. -/
theorem Sparse.insert_insert_same {α : Type} (k : Nat) (v : α) (m : Sparse α) :
    Sparse.insert k v (Sparse.insert k v m) = Sparse.insert k v m := by
  induction m with
  | nil => simp [Sparse.insert]
  | cons p m ih =>
    obtain ⟨j, w⟩ := p
    by_cases before : k < j
    · simp [Sparse.insert, before]
    · by_cases here : j = k
      · simp [Sparse.insert, here]
      · simp [Sparse.insert, before, here, ih]

/-- A context set again to what it was just set to. -/
theorem State.setCtx_setCtx_same (s : State) (c x : Nat) {v : Ctx} (h : v ≠ {}) : (s.setCtx c x v).setCtx c x v = s.setCtx c x v := by
  simp only [State.setCtx, Sparse.set, if_neg h, Sparse.insert_insert_same]

/-- Starting sets the context last. -/
theorem State.started_setCtx_started (s : State) (c x : Nat) :
    (s.started c x).setCtx c x { s.ctx c x with state := 2, waits := .nothing, ip := (s.ctx c x).ip + 16 } = s.started c x := by
  have running : { s.ctx c x with state := 2, waits := .nothing, ip := (s.ctx c x).ip + 16 } ≠ ({} : Ctx) := fun e =>
    absurd (congrArg Ctx.state e) (by decide : (2 : Nat) ≠ 0)
  unfold State.started
  simp only [State.ctx_wakeYielded_same]
  exact State.setCtx_setCtx_same _ c x running

/-- A branch that is taken goes on at IMM, one that is not at the next word (R374). -/
theorem State.started_branch (s : State) (c x target : Nat) (taken : Prop) [Decidable taken] :
    (if taken then (s.started c x).jump c x target else s.started c x) = (s.started c x).setCtx c x { s.ctx c x with
      state := 2, waits := .nothing, ip := if taken then target else (s.ctx c x).ip + 16 } := by
  split
  · rw [State.jump, State.started_ctx]
  · exact (s.started_setCtx_started c x).symm

/-- A context that begins to wait after its instruction (R189, R376, R377). -/
theorem State.started_waitCtx (s : State) (c x : Nat) (v : WaitFor) : (s.started c x).waitCtx c x v =
    (s.started c x).setCtx c x { s.ctx c x with state := 3, waits := v, ip := (s.ctx c x).ip + 16 } := by
  rw [State.waitCtx, State.started_ctx]

section

variable {s : State} {c x : Nat} {k : Work} {w : ScalarWord}

/-- WAIT on a done token takes its status and frees it (R376). -/
theorem wait_done {st : Nat} (issues : Issues s c x k) (named : w.token ≠ 0) (byte : st < 256)
    (done : (s.ctx c x).token w.token = .done st) : ∃ t, exec (.wait c x w) s = .next t ∧
      (t.ctx c x).token w.token = .free ∧ (∀ i, i ≠ w.token → (t.ctx c x).token i = (s.ctx c x).token i) ∧
      (t.ctx c x).sreg w.sd = (if w.sd = 0 then 0 else st) ∧ (∀ i, i ≠ w.sd → (t.ctx c x).sreg i = (s.ctx c x).sreg i) ∧
      (t.ctx c x).state = 2 ∧ (t.ctx c x).ip = (s.ctx c x).ip + 16 ∧ { t with ctxs := s.ctxs } = s := by
  let y : Ctx := { s.ctx c x with state := 2, waits := .nothing, ip := (s.ctx c x).ip + 16 }
  have done' : y.token w.token = .done st := done
  have run : exec (.wait c x w) s = .next ((s.started c x).setCtx c x ((y.setToken w.token .free).setSreg w.sd st)) := by
    show Host.Outcome.next (s.issue c x _) = _
    rw [State.issue_ok issues, State.started_ctx]
    dsimp only
    rw [done']
  obtain ⟨m, freed⟩ := y.setToken_eq w.token .free
  obtain ⟨r, written⟩ := (y.setToken w.token .free).setSreg_eq w.sd st
  refine ⟨_, run, ?_, fun i hi => ?_, ?_, fun i hi => ?_, ?_, ?_, (s.started_setCtx_frame c x _).2⟩
  all_goals rw [State.ctx_setCtx]
  · rw [written]
    exact y.token_setToken_same .free named
  · rw [written]
    exact y.token_setToken_other .free hi
  · rw [Ctx.sreg_setSreg_same, Nat.mod_eq_of_lt (by omega)]
  · rw [Ctx.sreg_setSreg_other _ _ hi, freed]
    rfl
  · rw [written, freed]
  · rw [written, freed]

/-- WAIT on a free token gives the status 0 at once (R376). -/
theorem wait_free (issues : Issues s c x k) (free : (s.ctx c x).token w.token = .free) : ∃ t, exec (.wait c x w) s = .next t ∧
    (t.ctx c x).sreg w.sd = 0 ∧ (t.ctx c x).tokens = (s.ctx c x).tokens ∧
    (∀ i, i ≠ w.sd → (t.ctx c x).sreg i = (s.ctx c x).sreg i) ∧ (t.ctx c x).state = 2 ∧
    (t.ctx c x).ip = (s.ctx c x).ip + 16 ∧ { t with ctxs := s.ctxs } = s := by
  let y : Ctx := { s.ctx c x with state := 2, waits := .nothing, ip := (s.ctx c x).ip + 16 }
  have free' : y.token w.token = .free := free
  have run : exec (.wait c x w) s = .next ((s.started c x).setCtx c x (y.setSreg w.sd 0)) := by
    show Host.Outcome.next (s.issue c x _) = _
    rw [State.issue_ok issues, State.started_ctx]
    dsimp only
    rw [free']
  obtain ⟨r, written⟩ := y.setSreg_eq w.sd 0
  refine ⟨_, run, ?_, ?_, fun i hi => ?_, ?_, ?_, (s.started_setCtx_frame c x _).2⟩
  all_goals rw [State.ctx_setCtx]
  · rw [Ctx.sreg_setSreg_same, Nat.zero_mod, ite_self]
  · rw [written]
  · exact y.sreg_setSreg_other 0 hi
  · rw [written]
  · rw [written]

/-- PUBLISH keeps SA for a result word of its queue (R374, R389). -/
theorem publish_keeps (issues : Issues s c x k) : ∃ t, exec (.publish c x w) s = .next t ∧
    (t.ctx c x).published = ((s.ctx c x).published.filter fun p => p.1 != w.imm % 16) ++ [(w.imm % 16, (s.ctx c x).sreg w.sa)] ∧
    { t.ctx c x with published := (s.ctx c x).published } = { s.ctx c x with state := 2, waits := .nothing, ip := (s.ctx c x).ip + 16 } ∧
    { t with ctxs := s.ctxs } = s := by
  have run : exec (.publish c x w) s = .next ((s.started c x).setCtx c x { s.ctx c x with
      state := 2, waits := .nothing, ip := (s.ctx c x).ip + 16,
      published := ((s.ctx c x).published.filter fun p => p.1 != w.imm % 16) ++ [(w.imm % 16, (s.ctx c x).sreg w.sa)] }) := by
    show Host.Outcome.next (s.issue c x _) = _
    rw [State.issue_ok issues, State.started_ctx]
    rfl
  refine ⟨_, run, ?_, ?_, (s.started_setCtx_frame c x _).2⟩
  all_goals rw [State.ctx_setCtx]

end

/-- Settles O10: each instruction issues, and branches, waits or keeps a value. -/
theorem scalarStreamControl : Obligations.ScalarStreamControl := by
  have issued {s : State} {c x : Nat} {k : Work} (issues : Issues s c x k) {f : Work → State → State} {t : State}
      (effect : f k (s.started c x) = t) : Host.Outcome.next (s.issue c x f) = (.next t : Host.Outcome State Fault Refusal) := by
    rw [State.issue_ok issues, effect]
  refine ⟨?nop, ?br, ?brz, ?brnz, ?waits, fun s c x w k st => wait_done, fun s c x w k => wait_free, ?yields, ?timeout, ?noTimeout, ?ends,
    fun s c x w k => publish_keeps⟩
  case nop => exact fun s c x w k issues => issued issues rfl
  case br =>
    exact fun s c x w k issues => issued issues (s.started_branch c x w.imm True)
  case brz =>
    intro s c x w k issues
    refine issued issues (Eq.trans ?_ (s.started_branch c x w.imm ((s.ctx c x).sreg w.sa = 0)))
    rw [State.started_ctx]
    rfl
  case brnz =>
    intro s c x w k issues
    have same : (s.ctx c x).sreg w.sa = ((s.started c x).ctx c x).sreg w.sa := by rw [State.started_ctx]; rfl
    have branch := s.started_branch c x w.imm (¬(s.ctx c x).sreg w.sa = 0)
    rw [ite_not, ite_not, same] at branch
    rw [same]
    exact issued issues branch
  case waits =>
    intro s c x w k issues outstanding
    refine issued issues (Eq.trans ?_ (s.started_waitCtx c x (.token w.token w.sd)))
    have outstanding' : ((s.started c x).ctx c x).token w.token = .outstanding := by rw [State.started_ctx]; exact outstanding
    dsimp only
    rw [outstanding']
  case yields => exact fun s c x w k issues => issued issues (s.started_waitCtx c x .yielded)
  case ends => exact fun s c x w k issues => issued issues (s.started_waitCtx c x .ending)
  case timeout => exact fun s c x waiting yielded => congrArg Host.Outcome.next (if_pos ⟨waiting, yielded⟩)
  case noTimeout => exact fun s c x other => congrArg Host.Outcome.next (if_neg fun h => other h.2)

end Sys2Proof.Machine
end

section
/-! The completion head (R393). -/

namespace Sys2Proof.Machine

/-- A write of the completion-head doorbell alone reaches no slot byte of the window and no tail (R381). -/
theorem State.windowBytes_head (s : State) (q : Nat) {data : List Byte} (whole : data.length = 8) :
    s.windowBytes q 0x40008 data = (s.setQueue q (s.queue q)).advanceHead q (field data 0 8) := by
  have noSlotByte : (((List.range data.length).zip data).filter fun p => decide (0x40008 + p.1 < 0x40000)) = [] :=
    List.filter_eq_nil_iff.2 fun p _ below => absurd (of_decide_eq_true below) (by omega)
  have head : 0x40008 ≤ 0x40008 ∧ 0x40010 ≤ 0x40008 + data.length := by omega
  unfold State.windowBytes
  dsimp only
  rw [noSlotByte, if_pos head, if_neg fun tail => absurd tail.1 (by decide)]
  rfl

/-- Settles O57: the head advances by the rule's cases, and the doorbell is that command. -/
theorem completionHeadAdvances : Obligations.CompletionHeadAdvances :=
  ⟨fun _ _ _ => rfl, fun s q _ whole => congrArg Host.Outcome.next (s.windowBytes_head q whole).symm⟩

end Sys2Proof.Machine
end

section
/-! The sparse stores under `find?`, as work items and tensor table entries are looked up, beside Laws/Sparse. -/

namespace Sys2Proof.Machine

theorem Sparse.find?_insert {α : Type} (k j : Nat) (v : α) (m : Sparse α) :
    ((Sparse.insert k v m).find? fun p => decide (p.1 = j)) = if j = k then some (k, v) else m.find? fun p => decide (p.1 = j) := by
  induction m with
  | nil =>
    by_cases same : j = k
    · simp [Sparse.insert, same]
    · simp [Sparse.insert, same, Ne.symm same]
  | cons p m ih =>
    obtain ⟨i, w⟩ := p
    unfold Sparse.insert
    by_cases before : k < i
    · rw [if_pos before, List.find?_cons]
      by_cases same : j = k
      · simp [same]
      · simp [same, Ne.symm same]
    · rw [if_neg before]
      by_cases here : i = k
      · rw [if_pos here, List.find?_cons, List.find?_cons]
        by_cases same : j = k
        · simp [same]
        · simp [same, Ne.symm same, here]
      · rw [if_neg here, List.find?_cons, List.find?_cons, ih]
        by_cases same : j = k
        · simp [same, here]
        · simp [same]

theorem Sparse.find?_erase {α : Type} (k j : Nat) (m : Sparse α) :
    ((Sparse.erase k m).find? fun p => decide (p.1 = j)) = if j = k then none else m.find? fun p => decide (p.1 = j) := by
  induction m with
  | nil => simp [Sparse.erase]
  | cons p m ih =>
    obtain ⟨i, w⟩ := p
    unfold Sparse.erase
    by_cases here : i = k
    · rw [if_pos here, ih, List.find?_cons]
      by_cases same : j = k
      · simp [same]
      · simp [same, Ne.symm same, here]
    · rw [if_neg here, List.find?_cons, List.find?_cons, ih]
      by_cases same : j = k
      · simp [same, here]
      · simp [same]

/-- A work item after one has been replaced. -/
theorem State.work?_setWork (s : State) (w v : Nat) (k : Work) : (s.setWork w k).work? v = if v = w then some k else s.work? v := by
  rw [State.work?, State.setWork, Sparse.find?_insert]
  split <;> rfl

/-- A work item after one has been taken out. -/
theorem State.work?_erase {s t : State} {w : Nat} (h : t.works = Sparse.erase w s.works) (v : Nat) :
    t.work? v = if v = w then none else s.work? v := by
  rw [State.work?, h, Sparse.find?_erase]
  split <;> rfl

/-- An entry after one has been replaced. -/
theorem State.entry?_insert {s t : State} {key : Nat} {e : Entry} (h : t.entries = Sparse.insert key e s.entries) (k : Nat) :
    t.entry? k = if k = key then some e else s.entry? k := by
  rw [State.entry?, h, Sparse.find?_insert]
  split <;> rfl

/-- An entry after one has been taken out. -/
theorem State.entry?_erase {s t : State} {key : Nat} (h : t.entries = Sparse.erase key s.entries) (k : Nat) :
    t.entry? k = if k = key then none else s.entry? k := by
  rw [State.entry?, h, Sparse.find?_erase]
  split <;> rfl

end Sys2Proof.Machine
end

section
/-! Completions (R388 to R392, R633): the entry written, the words published, and a work item's end. -/

namespace Sys2Proof.Machine

/-- What sends and leaves the sessions changes what left the package and the Ethernet ports' queues alone. -/
theorem Sends.of_sessions {s t : State} (sends : Sends s t) (same : t.sessions = s.sessions) :
    ∃ o e, t = { s with out := o, eth := e } := by
  obtain ⟨o, e, ss, rfl⟩ := sends
  exact ⟨o, e, by rw [← same]⟩

/-- A push only sends (R392). -/
theorem State.pushCompletion_eq (s : State) (q : Nat) (c : Completion) : ∃ o e, s.pushCompletion q c = { s with out := o, eth := e } := by
  unfold State.pushCompletion
  split
  case h_1 => exact ⟨s.out, s.eth, rfl⟩
  case h_2 i _ =>
    dsimp only
    split
    case isFalse => exact ⟨s.out, s.eth, rfl⟩
    case isTrue =>
      generalize { s.qp i with
        sendPsn := ((s.qp i).sendPsn + 1) % psnMod, outstanding := (s.qp i).outstanding ++ [((s.qp i).sendPsn, q, c)] } = v
      obtain ⟨o, e, sent⟩ := (State.sendIp_sends (s.setQp i v) ((s.setQp i v).qp i).port true
        (addrNum ((s.setQp i v).qp i).spec.remoteAddress) ((s.setQp i v).pushMsg i (s.qp i).sendPsn q c)).of_sessions
        (State.sendIp_frame _ _ _ _ _).2.1
      exact ⟨o, e, sent⟩

/-- Publishing changes the result words and their generations alone. -/
theorem publishWords_eq (q : Queue) (seq : Nat) (ws : List (Nat × Nat)) :
    ∃ r g, publishWords q seq ws = { q with results := r, generations := g } := by
  induction ws generalizing q with
  | nil => exact ⟨q.results, q.generations, rfl⟩
  | cons p ws ih =>
    obtain ⟨r, g, rest⟩ := ih { q with results := Sparse.set 0 p.1 p.2 q.results, generations := Sparse.set 0 p.1 seq q.generations }
    exact ⟨r, g, rest⟩

/-- A word that is not published stays. -/
theorem publishWords_other {seq i : Nat} {ws : List (Nat × Nat)} (absent : i ∉ ws.map (·.1)) (q : Queue) :
    Sparse.get 0 i (publishWords q seq ws).results = Sparse.get 0 i q.results ∧
    Sparse.get 0 i (publishWords q seq ws).generations = Sparse.get 0 i q.generations := by
  induction ws generalizing q with
  | nil => exact ⟨rfl, rfl⟩
  | cons p ws ih =>
    obtain ⟨here, later⟩ := not_or.1 (fun h => absent (List.mem_cons.2 h))
    obtain ⟨results, generations⟩ := ih later
      { q with results := Sparse.set 0 p.1 p.2 q.results, generations := Sparse.set 0 p.1 seq q.generations }
    exact ⟨results.trans (Sparse.get_set_other _ _ _ _ _ _ here), generations.trans (Sparse.get_set_other _ _ _ _ _ _ here)⟩

/-- Words published once each are visible with their generation (R389). -/
theorem publishWords_visible {seq : Nat} {ws : List (Nat × Nat)} (once : (ws.map (·.1)).Nodup) (q : Queue) :
    ∀ p ∈ ws, Sparse.get 0 p.1 (publishWords q seq ws).results = p.2 ∧ Sparse.get 0 p.1 (publishWords q seq ws).generations = seq := by
  induction ws generalizing q with
  | nil => exact fun _ h => absurd h List.not_mem_nil
  | cons p ws ih =>
    obtain ⟨absent, once⟩ := List.nodup_cons.1 once
    intro v hv
    rcases List.mem_cons.1 hv with rfl | hv
    · obtain ⟨results, generations⟩ := publishWords_other (seq := seq) absent
        { q with results := Sparse.set 0 v.1 v.2 q.results, generations := Sparse.set 0 v.1 seq q.generations }
      exact ⟨results.trans (Sparse.get_set_same _ _ _ _), generations.trans (Sparse.get_set_same _ _ _ _)⟩
    · exact ih once _ v hv

/-- A queue when a work item's completion has been written (R389 to R391). -/
def Queue.withCompletion (v : Queue) (k : Work) : Queue :=
  let p := publishWords v (v.lastSequence + 1) k.published
  { p with lastSequence := v.lastSequence + 1, ring := p.ring ++ [completionOf k (v.lastSequence + 1)],
           placed := p.placed - (if k.core = 0xFFFF then 0 else 1) }

theorem Queue.withCompletion_kept (v : Queue) (k : Work) : (v.withCompletion k).consumed = v.consumed ∧
    (v.withCompletion k).ring = v.ring ++ [completionOf k (v.lastSequence + 1)] := by
  obtain ⟨r, g, published⟩ := publishWords_eq v (v.lastSequence + 1) k.published
  unfold Queue.withCompletion
  rw [published]
  exact ⟨rfl, rfl⟩

/-- Writing a completion changes its queue and takes the work item out; a push sends (R389 to R392). -/
theorem State.writeCompletion_eq (s : State) (w : Nat) (k : Work) : ∃ o e, s.writeCompletion w k =
    { s.setQueue k.queue ((s.queue k.queue).withCompletion k) with works := Sparse.erase w s.works, out := o, eth := e } := by
  unfold State.writeCompletion
  dsimp only
  split
  case isTrue => exact ⟨s.out, s.eth, rfl⟩
  case isFalse =>
    obtain ⟨o, e, pushed⟩ := State.pushCompletion_eq
      { s.setQueue k.queue ((s.queue k.queue).withCompletion k) with works := Sparse.erase w s.works } k.queue
      (completionOf k ((s.queue k.queue).lastSequence + 1))
    exact ⟨o, e, pushed⟩

/-- A completion written is one (R389 to R392). -/
theorem State.writeCompletion_completed (s : State) (w : Nat) (k : Work) : Completed s (s.writeCompletion w k) w k := by
  obtain ⟨o, e, written⟩ := s.writeCompletion_eq w k
  rw [written]
  have own : State.queue
      { s.setQueue k.queue ((s.queue k.queue).withCompletion k) with works := Sparse.erase w s.works, out := o, eth := e } k.queue = (s.queue k.queue).withCompletion k := s.queue_setQueue k.queue _
  refine ⟨⟨?_, fun v hv => ?_⟩, ?_, fun once => ?_, fun q hq => s.queue_setQueue_other _ _ _ hq, rfl⟩
  · rw [State.work?_erase (s := s) rfl, if_pos rfl]
  · rw [State.work?_erase (s := s) rfl, if_neg hv]
  · rw [own]
    exact ⟨rfl, ((s.queue k.queue).withCompletion_kept k).2⟩
  · rw [own]
    exact publishWords_visible once (s.queue k.queue)

/-- Releasing tags changes the contexts and groups that wait for one, the tenant, and the entries that no tag names any longer (R275 to
R277). -/
theorem State.releaseTags_eq (s : State) (n : Nat) (p : Tag → Bool) : ∃ cs co es, s.releaseTags n p =
    { s.setTenant n { s.tenant n with tags := (s.tenant n).tags.filter fun g => !p g } with ctxs := cs, cores := co, entries := es } := by
  unfold State.releaseTags
  dsimp only
  split
  · exact ⟨_, _, _, rfl⟩
  · exact ⟨s.ctxs, s.cores, _, rfl⟩

/-- A work item that ends has its tag released when it carries the mark, and its slot freed when it was never placed (R275, R378, R380). -/
def State.released (s : State) (k : Work) : State :=
  let u := if k.rm then s.releaseTags k.tenant fun g => g.microBatch == k.microBatch else s
  if k.phase = 1 then u.setQueue k.queue { u.queue k.queue with consumed := ((u.queue k.queue).consumed + 1) % 2 ^ 32 } else u

theorem State.endWork_eq (s : State) (w : Nat) (k : Work) (status detail : Nat) : s.endWork w k status detail =
    if (s.released k).reg (Obj.completionDelay k.queue) = 0 then
      (s.released k).writeCompletion w { k with status := status, detail := detail }
    else (s.released k).setWork w { k with status := status, detail := detail, phase := 3 } := rfl

/-- What that leaves. -/
structure Released (s t : State) (k : Work) : Prop where
  consumed : (t.queue k.queue).consumed =
    if k.phase = 1 then ((s.queue k.queue).consumed + 1) % 2 ^ 32 else (s.queue k.queue).consumed
  queue : { t.queue k.queue with consumed := (s.queue k.queue).consumed } = s.queue k.queue
  queues : ∀ q, q ≠ k.queue → t.queue q = s.queue q
  works : t.works = s.works
  regs : t.regs = s.regs
  tags : k.rm = true → ∀ g ∈ (t.tenant k.tenant).tags, g.microBatch ≠ k.microBatch
  rest : k.rm = false → { t with queues := s.queues } = s

theorem State.released_spec (s : State) (k : Work) : Released s (s.released k) k := by
  obtain ⟨u, hu⟩ : ∃ u, u = if k.rm then s.releaseTags k.tenant fun g => g.microBatch == k.microBatch else s := ⟨_, rfl⟩
  have kept : u.queues = s.queues ∧ u.works = s.works ∧ u.regs = s.regs := by
    obtain ⟨cs, co, es, tags⟩ := s.releaseTags_eq k.tenant fun g => g.microBatch == k.microBatch
    rw [hu, tags]
    split
    · exact ⟨rfl, rfl, rfl⟩
    · exact ⟨rfl, rfl, rfl⟩
  have gone : k.rm = true → ∀ g ∈ (u.tenant k.tenant).tags, g.microBatch ≠ k.microBatch := by
    intro rm g hg
    obtain ⟨cs, co, es, tags⟩ := s.releaseTags_eq k.tenant fun g => g.microBatch == k.microBatch
    rw [hu, if_pos rm, tags] at hg
    have mem : g ∈ ((s.setTenant k.tenant { s.tenant k.tenant with
        tags := (s.tenant k.tenant).tags.filter fun g => !(g.microBatch == k.microBatch) }).tenant k.tenant).tags := hg
    rw [State.tenant_setTenant] at mem
    simpa using (List.mem_filter.1 mem).2
  have unmarked : k.rm = false → u = s := fun rm => by rw [hu, rm]; rfl
  have queue : ∀ q, u.queue q = s.queue q := fun q => by rw [State.queue, kept.1, State.queue]
  unfold State.released
  rw [← hu]
  dsimp only
  split
  case isTrue first =>
    refine ⟨?_, ?_, fun q hq => ?_, kept.2.1, kept.2.2, gone, fun rm => by rw [unmarked rm]; rfl⟩
    · rw [State.queue_setQueue, queue, if_pos first]
    · rw [State.queue_setQueue, queue]
    · rw [State.queue_setQueue_other _ _ _ _ hq, queue]
  case isFalse placed =>
    refine ⟨?_, ?_, fun q _ => queue q, kept.2.1, kept.2.2, gone, fun rm => by rw [unmarked rm]⟩
    · rw [queue, if_neg placed]
    · rw [queue]

/-- A work item that ends has ended (R275, R377, R380, R388 to R392, R633). -/
theorem State.endWork_ended (s : State) (w : Nat) (k : Work) (status detail : Nat) :
    WorkEnded s (s.endWork w k status detail) w k status detail := by
  have released := s.released_spec k
  have delay : (s.released k).reg (Obj.completionDelay k.queue) = s.reg (Obj.completionDelay k.queue) := by
    rw [State.reg, released.regs, State.reg]
  have sequence : ((s.released k).queue k.queue).lastSequence = (s.queue k.queue).lastSequence :=
    (congrArg Queue.lastSequence released.queue :)
  have ring : ((s.released k).queue k.queue).ring = (s.queue k.queue).ring := (congrArg Queue.ring released.queue :)
  have work (v : Nat) : (s.released k).work? v = s.work? v := by rw [State.work?, released.works, State.work?]
  rw [State.endWork_eq, delay]
  by_cases now : s.reg (Obj.completionDelay k.queue) = 0
  · rw [if_pos now]
    let k1 : Work := { k with status := status, detail := detail }
    have done := (s.released k).writeCompletion_completed w k1
    obtain ⟨o, e, written⟩ := (s.released k).writeCompletion_eq w k1
    refine ⟨fun later => absurd now later, fun _ => ⟨done.gone.1, ?_, ?_⟩, fun _ once => ?_, ?_, fun rm => ?_,
      ⟨fun v hv => ?_, fun q hq => ?_⟩, fun rm => ?_⟩
    · rw [← sequence]
      exact done.entry.1
    · rw [← sequence, ← ring]
      exact done.entry.2
    · rw [← sequence]
      exact done.published once
    · rw [written, ← released.consumed, ← (((s.released k).queue k.queue).withCompletion_kept k1).1]
      exact congrArg Queue.consumed ((s.released k).queue_setQueue k.queue _)
    · rw [written]
      exact released.tags rm
    · exact (done.gone.2 v hv).trans (work v)
    · exact (done.others q hq).trans (released.queues q hq)
    · have rest := released.rest rm
      rw [written]
      calc _ = { { (s.released k) with queues := s.queues } with works := s.works, eth := s.eth, out := s.out } := rfl
        _ = s := by rw [rest]
  · rw [if_neg now]
    refine ⟨fun _ => ⟨?_, ring, sequence⟩, fun atOnce => absurd atOnce now, fun atOnce => absurd atOnce now, released.consumed,
      released.tags, ⟨fun v hv => ?_, released.queues⟩, fun rm => ?_⟩
    · rw [State.work?_setWork, if_pos rfl]
    · rw [State.work?_setWork, if_neg hv, work]
    · have rest := released.rest rm
      calc _ = { { (s.released k) with queues := s.queues } with works := s.works, eth := s.eth, out := s.out } := rfl
        _ = s := by rw [rest]

end Sys2Proof.Machine
end

section
/-! The statement of completions and of the queues' configuration (R377, R379, R382, R388 to R392, R394, R400, R633). -/

namespace Sys2Proof.Machine

/-- The context of ended work is freed (R142, R377, R394). -/
theorem State.idleCtx_freed (s : State) (c x : Nat) :
    CtxFreed s (s.idleCtx c x) c x ∧ { s.idleCtx c x with cores := s.cores, ctxs := s.ctxs } = s :=
  ⟨⟨State.ctx_setCtx _ _ _ _, State.core_setCore _ _ _, fun _ hd => State.core_setCore_other _ _ _ _ hd⟩, rfl⟩

/-- Stopped work whose instructions have all ended completes (R388). -/
theorem workAbortComplete_ends {s : State} {w v : Nat} {k : Work} {st : Nat} (work : s.work? w = some k)
    (on : s.ctxWork k.core k.ctx = some (v, k)) (stopping : (s.ctx k.core k.ctx).stopping = some st)
    (quiet : s.quiet k.core k.ctx = true) (running : k.phase = 2) : exec (.workAbortComplete w) s = .next
      ((s.idleCtx k.core k.ctx).endWork v { k with published := (s.ctx k.core k.ctx).published } st
        (if st = 1 then (match (s.ctx k.core k.ctx).firstFault with | some f => f.1 + f.2 * 2 ^ 16 | none => 0) else 0)) := by
  show execWorkAbortComplete w s = _
  unfold execWorkAbortComplete
  rw [work]
  dsimp only
  rw [stopping]
  dsimp only
  rewrite [if_pos ⟨quiet, running⟩, State.endOnCtx, on]
  rfl

theorem workAbortComplete_waits {s : State} {w : Nat} {k : Work} (work : s.work? w = some k)
    (waits : (s.ctx k.core k.ctx).stopping = none ∨ s.quiet k.core k.ctx = false ∨ k.phase ≠ 2) :
    exec (.workAbortComplete w) s = .next s := by
  show execWorkAbortComplete w s = _
  unfold execWorkAbortComplete
  rw [work]
  dsimp only
  split
  case h_2 => rfl
  case h_1 st stopping =>
    refine if_neg fun ends => ?_
    rcases waits with none | busy | phase
    · exact nomatch none.symm.trans stopping
    · exact nomatch busy.symm.trans ends.1
    · exact phase ends.2

/-- Ending the unplaced items of a test ends them one after another (R364, R382). -/
theorem worksEnd_unplaced {test p : Work → Bool} (agree : ∀ k, p k = (test k && k.phase == 1)) (status : Nat) :
    ∀ (ws : List (Nat × Work)) (s : State), WorksEnd test status false ws s (ws.foldl (fun t q =>
      if !p q.2 then t
      else if q.2.phase = 1 then t.endWork q.1 q.2 status 0
      else if q.2.phase = 2 ∧ (false : Bool) then t.stopCtx q.2.core q.2.ctx status
      else t) s) := by
  intro ws
  induction ws with
  | nil => exact fun s => rfl
  | cons q ws ih =>
    intro s
    rw [List.foldl_cons, WorksEnd]
    by_cases first : test q.2 = true ∧ q.2.phase = 1
    · have named : p q.2 = true := by rw [agree, first.1, first.2]; rfl
      rw [if_pos first, named, if_neg (by decide), if_pos first.2]
      exact ⟨_, s.endWork_ended q.1 q.2 status 0, ih _⟩
    · have left : p q.2 = false := by simpa [agree] using first
      rw [if_neg first, if_neg (fun h => nomatch h.2.2), left]
      exact ih s

/-- With no item of the test none ends. -/
theorem State.endWorks_of_none {s : State} {p : Work → Bool} (none : ∀ q ∈ s.works, p q.2 = false) (status : Nat) (stop : Bool) :
    s.endWorks p status stop = s := by
  have all : ∀ ws : List (Nat × Work), (∀ q ∈ ws, p q.2 = false) → ∀ t : State, ws.foldl (fun t q =>
      if !p q.2 then t
      else if q.2.phase = 1 then t.endWork q.1 q.2 status 0
      else if q.2.phase = 2 ∧ stop then t.stopCtx q.2.core q.2.ctx status
      else t) t = t := by
    intro ws
    induction ws with
    | nil => exact fun _ _ => rfl
    | cons q ws ih =>
      intro none t
      rw [List.foldl_cons, none q List.mem_cons_self]
      exact ih (fun r hr => none r (List.mem_cons_of_mem q hr)) t
  exact all s.works none s

/-- A queue that is disabled (R382). -/
theorem State.disableQueue_spec (s : State) (q : Nat) : ∃ u, WorksEnd (fun k => k.queue == q) 4 false s.works s u ∧
    s.disableQueue q = u.setQueue q { u.queue q with mode := 0, posted := (u.queue q).accepted, error := false } :=
  ⟨_, worksEnd_unplaced (p := fun k => k.queue == q && k.phase == 1) (fun _ => rfl) 4 s.works s, rfl⟩

/-- A queue that holds no work is disabled at once. -/
theorem State.disableQueue_idle {s : State} {q : Nat} (idle : s.queueBusy q = false) :
    s.disableQueue q = s.setQueue q { s.queue q with mode := 0, posted := (s.queue q).accepted, error := false } := by
  have none : ∀ r ∈ s.works, (r.2.queue == q && r.2.phase == 1) = false := fun r hr => by
    have other := List.any_eq_false.1 idle r hr
    simp only [Bool.not_eq_true] at other
    rw [other, Bool.false_and]
  rw [State.disableQueue, State.endWorks_of_none none]

section

variable {s : State} {sess q : Nat} {bs : List Byte}
  (may : MayWrite s sess (Obj.queueConfig q / 256) (Obj.queueConfig q % 256))
include may

/-- A good configuration is taken by a queue that holds no work (R379, R391, R400). -/
theorem queueEnable_taken (good : queueConfigOk bs = true) (idle : s.queueBusy q = false) :
    (let v : Queue := { s.queue q with
        mode := bits (field bs 0 1) 0 2, pull := bit (field bs 0 1) 2, submitDepth := field bs 2 2,
        completionDepth := field bs 4 2, cqAddress := field bs 8 8, cqRkey := field bs 0x10 4, cqQp := field bs 0x14 3 }
     ∃ t, exec (.queueEnable sess q bs) s = .next t ∧ (∀ p, p ≠ q → t.queue p = s.queue p) ∧ { t with queues := s.queues } = s ∧
       t.queue q = (if v.mode = 0 then { v with posted := (s.queue q).accepted, error := false }
         else if (s.queue q).mode = 0 then
           { v with lastSequence := 0, head := 0, ring := [], reserved := 0, error := false }
         else v)) := by
  intro v
  have run : exec (.queueEnable sess q bs) s = .next (s.writeQueueConfig q bs) := congrArg Host.Outcome.next (State.guarded_may _ may)
  have notBad : ¬ (!queueConfigOk bs) = true := by rw [good]; exact nofun
  have notBusy : ¬ s.queueBusy q = true := by rw [idle]; exact nofun
  unfold State.writeQueueConfig at run
  rw [if_neg notBad] at run
  dsimp only at run
  rw [if_neg notBusy] at run
  by_cases off : bits (field bs 0 1) 0 2 = 0
  · rw [if_pos off, State.disableQueue_idle idle, State.queue_setQueue, if_neg (fun h => h.2 off)] at run
    refine ⟨_, run, fun p hp => ?_, rfl, ?_⟩
    · rw [State.queue_setQueue_other _ _ _ _ hp, State.queue_setQueue_other _ _ _ _ hp]
    · rw [State.queue_setQueue, if_pos off]
  · rw [if_neg off] at run
    by_cases new : (s.queue q).mode = 0
    · rw [if_pos ⟨new, off⟩] at run
      refine ⟨_, run, fun p hp => State.queue_setQueue_other _ _ _ _ hp, rfl, ?_⟩
      rw [State.queue_setQueue, if_neg off, if_pos new]
    · rw [if_neg (fun h => new h.1)] at run
      refine ⟨_, run, fun p hp => State.queue_setQueue_other _ _ _ _ hp, rfl, ?_⟩
      rw [State.queue_setQueue, if_neg off, if_neg new]

/-- A bad record has no effect, and a busy queue is only disabled (R400). -/
theorem queueEnable_ignored (ignored : queueConfigOk bs = false ∨ (s.queueBusy q = true ∧ bits (field bs 0 1) 0 2 ≠ 0)) :
    exec (.queueEnable sess q bs) s = .next s := by
  have run : exec (.queueEnable sess q bs) s = .next (s.writeQueueConfig q bs) := congrArg Host.Outcome.next (State.guarded_may _ may)
  rw [run, State.writeQueueConfig]
  by_cases bad : queueConfigOk bs = false
  · rw [if_pos (by rw [bad]; rfl)]
  · obtain ⟨busy, on⟩ := ignored.resolve_left bad
    rw [if_neg (by simpa using bad)]
    dsimp only
    rw [if_pos busy, if_neg on]

/-- QUEUE_DISABLE, and a busy queue's change to disabled, disable the queue (R382, R400). -/
theorem queue_disabled {e : Instr} (disables : e = .queueDisable sess q ∨
    (e = .queueEnable sess q bs ∧ queueConfigOk bs = true ∧ s.queueBusy q = true ∧ bits (field bs 0 1) 0 2 = 0)) :
    exec e s = .next (s.disableQueue q) := by
  rcases disables with rfl | ⟨rfl, good, busy, off⟩
  · exact congrArg Host.Outcome.next (State.guarded_may _ may)
  · have run : exec (.queueEnable sess q bs) s = .next (s.writeQueueConfig q bs) := congrArg Host.Outcome.next (State.guarded_may _ may)
    rw [run, State.writeQueueConfig, if_neg (by rw [good]; exact nofun)]
    dsimp only
    rw [if_pos busy, if_pos off]

end

/-- COMPLETION_PULL answers the oldest entry where the session may read it, and counts a violation where it may not (R392, R650). -/
theorem completionPull_answers {s : State} {sess : Nat} {x : Session} (q : Nat) (session : s.session? sess = some x) :
    exec (.completionPull sess q) s = if s.canRead x ⟨Obj.completionPull q / 256, Obj.completionPull q % 256⟩ = true then
      .next (s.sendSession sess x.net x.peer (.reply sess 0 1 1 0 (s.queue q).pullBytes))
    else .next ((s.violate sess).sendSession sess x.net x.peer (.reply sess 0 1 1 0 (List.replicate 32 0))) := by
  show execCompletionPull sess q s = _
  rw [execCompletionPull, session]

/-- Settles O23: completions are written by `writeCompletion`, now or after the delay, and a disabled queue ends its unplaced items. -/
theorem completionsAndQueueConfig : Obligations.CompletionsAndQueueConfig := by
  refine ⟨?aborted, ?noWork, fun s w k => workAbortComplete_waits, ?delayed, ?notDelayed, ?pull, ?noSession,
    fun s sess q bs => queueEnable_taken, fun s sess q bs => queueEnable_ignored, ?disabled⟩
  case aborted =>
    intro s w v k st work on stopping quiet running
    obtain ⟨freed, frame⟩ := s.idleCtx_freed k.core k.ctx
    exact ⟨_, _, workAbortComplete_ends work on stopping quiet running, freed, frame, State.endWork_ended _ _ _ _ _⟩
  case noWork =>
    intro s w none
    constructor
    · show execWorkAbortComplete w s = _
      rw [execWorkAbortComplete, none]
    · show execCompletionDelayEnd w s = _
      rw [execCompletionDelayEnd, none]
  case delayed =>
    intro s w k work waiting
    refine ⟨s.writeCompletion w k, ?_, s.writeCompletion_completed w k⟩
    show execCompletionDelayEnd w s = _
    rw [execCompletionDelayEnd, work]
    exact if_pos waiting
  case notDelayed =>
    intro s w k work other
    show execCompletionDelayEnd w s = _
    rw [execCompletionDelayEnd, work]
    exact if_neg other
  case pull =>
    intro s sess q x session
    refine ⟨fun may => ?_, fun mayNot => ?_⟩
    · rewrite [completionPull_answers q session, if_pos may, Queue.pullBytes]
      rfl
    · rw [completionPull_answers q session, if_neg (by rw [mayNot]; exact nofun)]
  case noSession =>
    intro s sess q none
    show execCompletionPull sess q s = _
    rw [execCompletionPull, none]
  case disabled =>
    intro s sess q bs e may disables
    obtain ⟨u, ended, disabled⟩ := s.disableQueue_spec q
    rw [queue_disabled may disables, disabled]
    exact ⟨u, _, rfl, ended, u.queue_setQueue q _, fun p hp => u.queue_setQueue_other _ _ _ hp, rfl⟩

end Sys2Proof.Machine
end

section
/-! Entries removed (R318, R328, R335, R337): what the freeing of memory and the end of moves leave of a state. -/

namespace Sys2Proof.Machine

/-- Between two states memory has been freed for an entry that goes: no tenant, no other entry and not the chip number has changed. -/
structure FreesEntry (key : Nat) (s t : State) : Prop where
  tenants : t.tenants = s.tenants
  chip : t.chip = s.chip
  entries : ∀ k, k ≠ key → t.entry? k = s.entry? k

theorem FreesEntry.refl (key : Nat) (s : State) : FreesEntry key s s := ⟨rfl, rfl, fun _ _ => rfl⟩

theorem FreesEntry.trans {key : Nat} {s t u : State} (h : FreesEntry key s t) (h' : FreesEntry key t u) : FreesEntry key s u :=
  ⟨h'.tenants.trans h.tenants, h'.chip.trans h.chip, fun k hk => (h'.entries k hk).trans (h.entries k hk)⟩

theorem FreesEntry.foldl {key : Nat} {α : Type} {f : State → α → State} (step : ∀ t a, FreesEntry key t (f t a)) (l : List α) (s : State) :
    FreesEntry key s (l.foldl f s) := by
  induction l generalizing s with
  | nil => exact .refl key s
  | cons a l ih => exact (step s a).trans (ih _)

theorem FreesEntry.of_kept {key : Nat} {s t : State} (tenants : t.tenants = s.tenants) (regs : t.regs = s.regs)
    (entries : t.entries = s.entries) : FreesEntry key s t :=
  ⟨tenants, by rw [State.chip, State.reg, regs]; rfl, fun k _ => by rw [State.entry?, entries]; rfl⟩

theorem FreesEntry.setReg {key : Nat} {s t : State} (h : FreesEntry key s t) {k : Nat} (v : Nat) (other : Obj.chipNumber ≠ k) :
    FreesEntry key s (t.setReg k v) :=
  h.trans ⟨rfl, t.reg_setReg_other k v _ other, fun _ _ => rfl⟩

theorem FreesEntry.setEntry {key : Nat} {s t : State} (h : FreesEntry key s t) (e : Entry) : FreesEntry key s (t.setEntry key e) :=
  h.trans ⟨rfl, rfl, fun k hk => by rw [State.entry?_insert (s := t) rfl, if_neg hk]⟩

/-- What is charged to a tenant, and what it lent or borrowed, are other objects than the chip number (R357, R499). -/
theorem chipNumber_ne_charges (tier n : Nat) : Obj.chipNumber ≠ chargedObj tier n ∧ Obj.chipNumber ≠ Obj.nearLent n ∧
    Obj.chipNumber ≠ Obj.mainLent n ∧ Obj.chipNumber ≠ Obj.nearBorrowed n ∧ Obj.chipNumber ≠ Obj.mainBorrowed n := by
  refine ⟨?_, ?_⟩
  · unfold chargedObj
    repeat' split
    all_goals
      simp only [Obj.chipNumber, Obj.nearCharged, Obj.mainCharged, Obj.deepCharged, obj]
      omega
  · simp only [Obj.chipNumber, Obj.nearLent, Obj.mainLent, Obj.nearBorrowed, Obj.mainBorrowed, obj]
    omega

theorem State.publishLoans_frees (s : State) (key : Nat) : FreesEntry key s s.publishLoans :=
  .foldl (fun t n => by
    obtain ⟨-, nearLent, mainLent, nearBorrowed, mainBorrowed⟩ := chipNumber_ne_charges 0 n
    exact ((((FreesEntry.refl key t).setReg _ nearLent).setReg _ mainLent).setReg _ nearBorrowed).setReg _ mainBorrowed) _ s

theorem State.settleLoans_frees (s : State) (key tier n fallen : Nat) : FreesEntry key s (s.settleLoans tier n fallen) := by
  unfold State.settleLoans
  split
  · exact .refl key s
  · have repaid : FreesEntry key s { s with loans := repay tier n (min fallen (loansTo tier n s.loans)) s.loans } := .of_kept rfl rfl rfl
    exact repaid.trans (State.publishLoans_frees _ key)

theorem State.freeAlloc_frees (s : State) (key a : Nat) (later : Bool) : FreesEntry key s (s.freeAlloc a later) := by
  unfold State.freeAlloc
  split
  case h_1 => exact .refl key s
  case h_2 v _ =>
    have loans : FreesEntry key s ((s.setReg (chargedObj v.tier v.tenant) (s.reg (chargedObj v.tier v.tenant) - v.bytes)).settleLoans
        v.tier v.tenant v.bytes) :=
      ((FreesEntry.refl key s).setReg _ (chipNumber_ne_charges v.tier v.tenant).1).trans (State.settleLoans_frees _ key _ _ _)
    dsimp only
    split
    · exact loans.trans (.of_kept rfl rfl rfl)
    · exact loans.trans (.of_kept rfl rfl rfl)

/-- A token that is done changes its context alone (R376). -/
theorem State.finishToken_eq (s : State) (c x t status : Nat) : ∃ m, s.finishToken c x t status = { s with ctxs := m } := by
  unfold State.finishToken
  dsimp only
  repeat' split
  all_goals exact ⟨_, rfl⟩

theorem State.endTokens_frees (s : State) (key : Nat) (ts : List (Nat × Nat × Nat)) : FreesEntry key s (s.endTokens ts) :=
  .foldl (fun t k => by
    obtain ⟨m, done⟩ := State.finishToken_eq (t.draw 8).2 k.1 k.2.1 k.2.2 (t.draw 8).1
    show FreesEntry key t ((t.draw 8).2.finishToken k.1 k.2.1 k.2.2 (t.draw 8).1)
    rw [done]
    exact .of_kept rfl rfl rfl) ts s

/-- A move of an entry that ends without a commit (R328). -/
theorem State.cancelMove_frees (s : State) (k : Nat) (m : Move) (later : Bool) : FreesEntry m.entry s (s.cancelMove k m later) := by
  have erased : FreesEntry m.entry s { s with moves := Sparse.erase k s.moves } := .of_kept rfl rfl rfl
  have ended : FreesEntry m.entry s ((({ s with moves := Sparse.erase k s.moves } : State).endTokens m.tokens).wakePromotion m.entry) :=
    (erased.trans (State.endTokens_frees _ _ _)).trans (.of_kept rfl rfl rfl)
  unfold State.cancelMove
  dsimp only
  split
  case h_1 => exact ended
  case h_2 e _ =>
    have set := ended.setEntry { e with moving := false }
    split
    · split
      · exact set
      · exact set.trans (State.freeAlloc_frees _ _ _ _)
    · split
      · exact set.trans (State.freeAlloc_frees _ _ _ _)
      · exact set

/-- The move looked up for an entry is the entry's. -/
theorem State.entry_of_moveOf {s : State} {key k : Nat} {m : Move} (move : s.moveOf key = some (k, m)) : m.entry = key := by
  simpa using List.find?_some move

/-- An entry that is removed is taken out of the table last (R318, R337). -/
theorem State.removeEntry_eq {s : State} {key : Nat} {e : Entry} (entry : s.entry? key = some e) (later : Bool) :
    ∃ t, FreesEntry key s t ∧ s.removeEntry key later = { t with entries := Sparse.erase key t.entries } := by
  unfold State.removeEntry
  rw [entry]
  refine ⟨_, ?_, rfl⟩
  refine .trans (.trans ?_ (State.freeAlloc_frees _ key e.homeAlloc later)) (State.endTokens_frees _ key _)
  have moved (k : Nat) (m : Move) (move : s.moveOf key = some (k, m)) : FreesEntry key s (s.cancelMove k m later) :=
    State.entry_of_moveOf move ▸ s.cancelMove_frees k m later
  split
  · refine .trans ?_ (State.freeAlloc_frees _ _ _ _)
    split
    case h_1 k m move => exact moved k m move
    case h_2 => exact .refl key s
  · split
    case h_1 k m move => exact moved k m move
    case h_2 => exact .refl key s

/-- It is gone, and no other is. -/
theorem State.removeEntry_removes (s : State) (key : Nat) (later : Bool) :
    FreesEntry key s (s.removeEntry key later) ∧ (s.removeEntry key later).entry? key = none := by
  cases entry : s.entry? key with
  | none =>
    have same : s.removeEntry key later = s := by
      unfold State.removeEntry
      rw [entry]
    rw [same]
    exact ⟨.refl key s, entry⟩
  | some e =>
    obtain ⟨t, freed, removed⟩ := State.removeEntry_eq entry later
    rw [removed]
    refine ⟨⟨freed.tenants, freed.chip, fun k hk => ?_⟩, ?_⟩
    · rw [State.entry?_erase (s := t) rfl, if_neg hk]
      exact freed.entries k hk
    · rw [State.entry?_erase (s := t) rfl, if_pos rfl]

end Sys2Proof.Machine
end

section
/-! Program images (R365 to R368, R398): removed, marked as failed, and placed. -/

namespace Sys2Proof.Machine

/-- An image removed leaves this package its chip number. -/
theorem State.removeImage_chip (s : State) (n slot : Nat) : (s.removeImage n slot).chip = s.chip := by
  unfold State.removeImage
  dsimp only
  split
  · exact (s.removeEntry_removes _ false).1.chip
  · rfl

/-- So do several. -/
theorem State.foldl_removeImage_chip {α : Type} (n : Nat) (f : α → Nat) (l : List α) (s : State) :
    (l.foldl (fun t p => t.removeImage n (f p)) s).chip = s.chip := by
  induction l generalizing s with
  | nil => rfl
  | cons p l ih => exact (ih _).trans (s.removeImage_chip n (f p))

/-- A removed image leaves its slot empty, and with it its entry goes (R368). -/
theorem State.removeImage_removes (s : State) (n slot : Nat) (im : Image) (held : im = Sparse.get {} slot (s.tenant n).images) :
    Sparse.get {} slot ((s.removeImage n slot).tenant n).images = {} ∧
    (∀ i, i ≠ slot → Sparse.get {} i ((s.removeImage n slot).tenant n).images = Sparse.get {} i (s.tenant n).images) ∧
    (∀ m, m ≠ n → (s.removeImage n slot).tenant m = s.tenant m) ∧
    (im.state ≠ 1 → { s.removeImage n slot with tenants := s.tenants } = s) ∧
    (im.state = 1 → (s.removeImage n slot).entry? im.entry = none ∧ ∀ k, k ≠ im.entry → (s.removeImage n slot).entry? k = s.entry? k) := by
  obtain ⟨u, hu⟩ : ∃ u, u = if im.state = 1 then s.removeEntry im.entry false else s := ⟨_, rfl⟩
  have run : s.removeImage n slot = u.setTenant n { u.tenant n with images := Sparse.erase slot (u.tenant n).images } := by
    rw [hu, held]
    rfl
  have tenants : u.tenants = s.tenants := by
    rw [hu]
    split
    · exact (s.removeEntry_removes im.entry false).1.tenants
    · rfl
  have tenant (m : Nat) : u.tenant m = s.tenant m := by rw [State.tenant, tenants, State.tenant]
  rw [run]
  refine ⟨?_, fun i hi => ?_, fun m hm => ?_, fun marked => ?_, fun good => ?_⟩
  · rw [State.tenant_setTenant]
    exact Sparse.get_erase_same _ _ _
  · rw [State.tenant_setTenant, tenant]
    exact Sparse.get_erase_other _ _ _ _ hi
  · rw [State.tenant_setTenant_other _ _ _ _ hm, tenant]
  · rw [hu, if_neg marked]
    rfl
  · obtain ⟨freed, gone⟩ := s.removeEntry_removes im.entry false
    rw [hu, if_pos good]
    exact ⟨gone, freed.entries⟩

/-- A failed image leaves its mark in the slot, and nothing else (R368). -/
theorem State.markImage_marks (s : State) (n slot id code : Nat) :
    Sparse.get {} slot ((s.markImage n slot id code).tenant n).images = { state := code, imageId := id } ∧
    (∀ i, i ≠ slot → Sparse.get {} i ((s.markImage n slot id code).tenant n).images = Sparse.get {} i (s.tenant n).images) ∧
    (∀ m, m ≠ n → (s.markImage n slot id code).tenant m = s.tenant m) ∧ { s.markImage n slot id code with tenants := s.tenants } = s := by
  unfold State.markImage
  refine ⟨?_, fun i hi => ?_, fun m hm => s.tenant_setTenant_other _ _ _ hm, rfl⟩
  · rw [State.tenant_setTenant]
    exact Sparse.get_set_same _ _ _ _
  · rw [State.tenant_setTenant]
    exact Sparse.get_set_other _ _ _ _ _ _ hi

/-! The relocated image (R367) is no shorter than the image -/

theorem toBytes_length (n v : Nat) : (toBytes n v).length = n := by
  induction n generalizing v with
  | zero => rfl
  | succ n ih => rw [toBytes, List.length_cons, ih]

theorem length_le_putField (b : List Byte) (pos len v : Nat) : b.length ≤ (putField b pos len v).length := by
  simp only [putField, List.length_append, List.length_take, List.length_drop, toBytes_length]
  omega

theorem length_le_relocateDesc (chip : Nat) (d : List Byte) : d.length ≤ (relocateDesc chip d).length := by
  have first := length_le_putField d 0 8 (withChip chip (field d 0 8))
  unfold relocateDesc
  dsimp only
  split
  · exact first
  · exact Nat.le_trans first (length_le_putField _ _ _ _)

theorem length_le_relocateDescs (chip k : Nat) (b : List Byte) : b.length ≤ (relocateDescs chip k b).length := by
  induction k generalizing b with
  | zero => exact Nat.le_refl _
  | succ k ih =>
    have first := length_le_relocateDesc chip (b.take 64)
    have rest := ih (b.drop 64)
    simp only [List.length_take, List.length_drop] at first rest
    rw [relocateDescs, List.length_append]
    omega

theorem length_le_relocate (chip : Nat) (b : List Byte) (h : ImageHeader) : b.length ≤ (relocate chip b h).length := by
  have tables := length_le_relocateDescs chip (4096 * h.tableCount) (b.drop h.tableOffset)
  rw [List.length_drop] at tables
  rw [relocate, List.length_append, List.length_take]
  omega

/-- An image with a good header is whole, and no larger than 64 MiB (R365). -/
theorem ImageHeader.bytes_of_ok {h : ImageHeader} {len : Nat} (ok : h.ok len = true) : h.bytes ≤ 64 * 2 ^ 20 ∧ h.bytes ≤ len := by
  simp only [ImageHeader.ok, Bool.and_eq_true, decide_eq_true_eq] at ok
  omega

/-- There is room for an image (R333, R367). -/
def State.imageRoom (s : State) (n : Nat) (h : ImageHeader) : Prop :=
  64 * ceilDiv h.bytes 64 ≤ s.freeRoom 1 n ∧ s.entries.length < 262144

/-- A state when an image's allocation is made and its entry stands in the tensor table (R367). -/
def State.imageEntered (s : State) (n slot : Nat) (h : ImageHeader) : State :=
  let u := (s.allocate 1 (s.emptiest 1) {} (ceilDiv h.bytes 64 * 64) n).2
  { u with serial := s.serial + 2, entries := Sparse.insert (s.serial + 1) (imageEntry n slot h (s.emptiest 1) s.serial) s.entries }

theorem State.placeImage_full {s : State} {n : Nat} {h : ImageHeader} (full : ¬ s.imageRoom n h) (slot : Nat) (b : List Byte) :
    s.placeImage n slot b h = s.markImage n slot h.imageId 4 := by
  unfold State.imageRoom at full
  exact if_pos (by omega)

theorem State.placeImage_room {s : State} {n : Nat} {h : ImageHeader} (room : s.imageRoom n h) (slot : Nat) (b : List Byte) :
    s.placeImage n slot b h = ((s.imageEntered n slot h).wrBytes s.serial 0 ((relocate s.chip b h).take h.bytes)).setTenant n
      { s.tenant n with images := Sparse.set {} slot (imageRecord b h (s.serial + 1)) (s.tenant n).images } := by
  unfold State.imageRoom at room
  unfold State.placeImage
  dsimp only
  rw [if_neg (by omega)]
  have tenant : ((s.imageEntered n slot h).wrBytes s.serial 0 ((relocate s.chip b h).take h.bytes)).tenant n = s.tenant n := by
    obtain ⟨m, written⟩ := (s.imageEntered n slot h).wrBytes_eq s.serial 0 ((relocate s.chip b h).take h.bytes)
    rw [written]
    rfl
  rw [← tenant]
  rfl

/-- A good image with room lies in a pinned Main entry, relocated (R365 to R367). -/
theorem State.placeImage_places {s : State} {n : Nat} {b : List Byte} {h : ImageHeader} (ok : h.ok b.length = true)
    (room : s.imageRoom n h) (slot : Nat) : ∃ a key,
    (s.placeImage n slot b h).entries = Sparse.insert key (imageEntry n slot h (s.emptiest 1) a) s.entries ∧
    (∀ i, i < h.bytes → (s.placeImage n slot b h).rdByte a i = (relocate s.chip b h).getD i 0) ∧
    (∀ c o, o < 2 ^ 32 → c ≠ a → (s.placeImage n slot b h).rdByte c o = s.rdByte c o) ∧
    Sparse.get {} slot ((s.placeImage n slot b h).tenant n).images = imageRecord b h key ∧
    (s.placeImage n slot b h).reg (Obj.mainCharged n) = (s.reg (Obj.mainCharged n) + 64 * ceilDiv h.bytes 64) % 2 ^ 64 := by
  obtain ⟨small, whole⟩ := ImageHeader.bytes_of_ok ok
  have long := length_le_relocate s.chip b h
  have length : ((relocate s.chip b h).take h.bytes).length = h.bytes := by
    rw [List.length_take]
    omega
  have bytes (c : Nat) {p : Nat} (hp : p < 2 ^ 32) : (s.placeImage n slot b h).rdByte c p =
      if s.serial = c ∧ 0 ≤ p ∧ p < 0 + ((relocate s.chip b h).take h.bytes).length then ((relocate s.chip b h).take h.bytes).getD (p - 0) 0
      else s.rdByte c p := by
    rw [State.placeImage_room room]
    exact (s.imageEntered n slot h).rdByte_wrBytes (by omega) hp
  refine ⟨s.serial, s.serial + 1, ?_, fun i hi => ?_, fun c o ho other => ?_, ?_, ?_⟩
  · rw [State.placeImage_room room]
    obtain ⟨m, written⟩ := (s.imageEntered n slot h).wrBytes_eq s.serial 0 ((relocate s.chip b h).take h.bytes)
    rw [written]
    rfl
  · rw [bytes s.serial (by omega), if_pos (by omega)]
    simp only [List.getD_eq_getElem?_getD, Nat.sub_zero, List.getElem?_take, if_pos hi]
  · rw [bytes c ho, if_neg fun e => other e.1.symm]
  · rw [State.placeImage_room room, State.tenant_setTenant]
    exact Sparse.get_set_same ({} : Image) slot (imageRecord b h (s.serial + 1)) (s.tenant n).images
  · rw [State.placeImage_room room]
    obtain ⟨m, written⟩ := (s.imageEntered n slot h).wrBytes_eq s.serial 0 ((relocate s.chip b h).take h.bytes)
    rw [written, Nat.mul_comm 64]
    exact State.reg_setReg_same _ _ _

/-- An image loaded in place of those that give way (R367): the first of its faults decides. -/
theorem State.loadImage_eq {s u : State} {n slot : Nat} {b : List Byte} (gave : u = ((s.tenant n).images.filter fun p =>
      p.2.imageId == (readImageHeader b).imageId || p.1 == slot).foldl (fun t p => t.removeImage n p.1) s) :
    s.loadImage n slot b =
      if sha256 ((b.take (readImageHeader b).bytes).drop 0x80) ≠ (b.drop 0x40).take 32 then u.markImage n slot (readImageHeader b).imageId 2
      else if !(readImageHeader b).ok b.length then u.markImage n slot (readImageHeader b).imageId 3
      else if !(readEntries b (readImageHeader b)).all (entryOk (readImageHeader b)) then u.markImage n slot (readImageHeader b).imageId 5
      else u.placeImage n slot b (readImageHeader b) := by
  unfold State.loadImage
  dsimp only
  rw [List.foldl_map, ← gave]

section

variable {s : State} {sess n slot : Nat}

theorem imageLoad_run (b : List Byte) (may : MayWrite s sess (0xA030 + n) slot) : exec (.imageLoad sess n slot b) s =
    .next (if (s.tenant n).state = 0 ∧ 1 ≤ slot ∧ slot ≤ 16 then s.loadImage n slot b else s) :=
  congrArg Host.Outcome.next (State.guarded_may _ may)

theorem imageClear_run (v : Nat) (may : MayWrite s sess (0xA050 + n) slot) : exec (.imageClear sess n slot v) s =
    .next (if v = 0 ∧ (s.tenant n).state = 0 then s.removeImage n slot else s) :=
  congrArg Host.Outcome.next (State.guarded_may _ may)

end

/-- Settles O29: the images that give way are removed, and then the first fault marks the slot or the image is placed. -/
theorem imageLoadAndClear : Obligations.ImageLoadAndClear := by
  refine ⟨?load, ?notNow, ?clear, ?ignored⟩
  case load =>
    intro s u sess n slot b may free first last gave
    have chip : u.chip = s.chip := gave ▸ State.foldl_removeImage_chip n Prod.fst _ s
    have run := imageLoad_run b may
    rw [if_pos ⟨free, first, last⟩, State.loadImage_eq gave] at run
    intro h marked digest entries room
    have passes {c : Bool} (holds : c = true) : ¬(!c) = true := by
      rw [holds]
      exact nofun
    have fails {c : Bool} (not : c = false) : (!c) = true := by
      rw [not]
      rfl
    have mark {code : Nat} (t : exec (.imageLoad sess n slot b) s = .next (u.markImage n slot h.imageId code)) : marked code :=
      ⟨_, t, u.markImage_marks n slot h.imageId code⟩
    refine ⟨fun bad => mark ?_, fun good bad => mark ?_, fun good ok bad => mark ?_, fun good ok all none => mark ?_,
      fun good ok all fits => ?_⟩
    · rw [run, if_pos bad]
    · rw [run, if_neg (not_not_intro good), if_pos (fails bad)]
    · rw [run, if_neg (not_not_intro good), if_neg (passes ok), if_pos (fails bad)]
    all_goals rw [if_neg (not_not_intro good), if_neg (passes ok), if_neg (passes all)] at run
    · rw [run, State.placeImage_full none]
    · obtain ⟨a, key, placed⟩ := State.placeImage_places ok fits slot
      rw [chip] at placed
      exact ⟨_, a, key, run, placed⟩
  case notNow =>
    intro s sess n slot b may not
    rw [imageLoad_run b may, if_neg (by omega)]
  case clear =>
    intro s sess n slot may free
    refine ⟨s.removeImage n slot, ?_, s.removeImage_removes n slot _ rfl⟩
    rw [imageClear_run 0 may, if_pos ⟨rfl, free⟩]
  case ignored =>
    intro s sess n slot v may not
    rw [imageClear_run v may, if_neg (by omega)]

end Sys2Proof.Machine
end

section
/-! Open collectives that a contribution joins (R509, R514, R526). -/

namespace Sys2Proof.Machine

theorem Inst.same_self (i : Inst) : i.same i = true := by simp [Inst.same]

/-- A collective with one more contribution and the locks it brings. -/
def Inst.joined (i : Inst) (p : Contrib) (locks : List (Nat × Nat)) : Inst :=
  { i with contribs := putContrib p i.contribs, locks := i.locks ++ locks }

/-! A collective that still waits for others goes on by nothing -/

section

variable {s : State} {i : Inst}

theorem State.withInst_of_open {j : Inst} (isOpen : s.inst? i = some j) (f : Inst → State) : s.withInst i f = f j := by
  rw [State.withInst, isOpen]

/-- A collective without a marked chunk retries nothing (R527). -/
theorem State.retryMarked_of_none (isOpen : s.inst? i = some i) (none : i.marked = []) : s.retryMarked i = s := by
  rw [State.retryMarked, State.withInst_of_open isOpen, none]
  rfl

/-- A collective set to what it is. -/
theorem State.setInst_same (only : ∀ q ∈ s.colls.insts, q.same i = true → q = i) : s.setInst i = s := by
  have same : s.colls.insts.map (fun q => if q.same i then i else q) = s.colls.insts :=
    (List.map_congr_left fun q hq => by
      split
      · exact (only q hq ‹_›).symm
      · rfl).trans (List.map_id _)
  rw [State.setInst, State.mapInsts, same]

/-- A collective of which no further chunk is complete has none that leaves the rings (R518). -/
theorem State.leaveRings_of_none (isOpen : s.inst? i = some i) (only : ∀ q ∈ s.colls.insts, q.same i = true → q = i)
    (none : ((List.range i.chunkCount).all fun c => i.leftRing.contains c || !i.complete c) = true) : s.leaveRings i = s := by
  have noNew : ((List.range i.chunkCount).filter fun c => !i.leftRing.contains c && i.complete c) = [] :=
    List.filter_eq_nil_iff.2 fun c hc new => by
      have old := List.all_eq_true.1 none c hc
      revert old new
      cases i.leftRing.contains c <;> cases i.complete c <;> decide
  rw [State.leaveRings, State.withInst_of_open isOpen]
  dsimp only
  rw [noNew, List.append_nil]
  exact State.setInst_same only

/-- A collective that waits for a contribution is not whole. -/
theorem State.finishWhole_of_waiting (isOpen : s.inst? i = some i) (waits : i.allIn = false) : s.finishWhole i = s := by
  rw [State.finishWhole, State.withInst_of_open isOpen, Inst.whole, waits]
  rfl

/-- With no run that waits for the collective none is applied (R522). -/
theorem State.drainRuns_of_none (none : s.colls.waiting.any i.owns = false) : s.drainRuns i = s := by
  have owned (r : Run) (hr : r ∈ s.colls.waiting) : i.owns r = false := by simpa using List.any_eq_false.1 none r hr
  have mine : s.colls.waiting.filter i.owns = [] := List.filter_eq_nil_iff.2 fun r hr => by rw [owned r hr]; decide
  have others : (s.colls.waiting.filter fun r => !i.owns r) = s.colls.waiting :=
    List.filter_eq_self.2 fun r hr => by rw [owned r hr]; rfl
  rw [State.drainRuns]
  dsimp only
  rw [mine, others]
  rfl

/-- So a collective that waits is settled as it stands. -/
theorem State.settleInst_of_waiting (isOpen : s.inst? i = some i) (only : ∀ q ∈ s.colls.insts, q.same i = true → q = i)
    (waits : i.allIn = false) (unmarked : i.marked = [])
    (inRings : ((List.range i.chunkCount).all fun c => i.leftRing.contains c || !i.complete c) = true) : s.settleInst i = s := by
  rw [State.settleInst, State.retryMarked_of_none isOpen unmarked, State.retryMarked_of_none isOpen unmarked,
    State.leaveRings_of_none isOpen only inRings, State.finishWhole_of_waiting isOpen waits]

end

/-! The join itself -/

/-- A state with the contribution's token outstanding, the collective as joined, and the plan's use counted (R376, R509). -/
def State.withJoined (s : State) (i : Inst) (p : Contrib) (locks : List (Nat × Nat)) : State :=
  { s.setCtx p.core p.ctx ((s.ctx p.core p.ctx).setToken i.token .outstanding) with
    colls := { s.colls with
      insts := if (s.inst? i).isNone then s.colls.insts ++ [i.joined p locks]
        else s.colls.insts.map fun q => if q.same i then i.joined p locks else q
      uses := s.colls.uses ++ [(i.n, i.plan, i.step, p.core)]
      areas := if (s.inst? i).isNone then Sparse.set 0 (i.n * 1024 + i.plan) i.buffers s.colls.areas else s.colls.areas } }

/-- The exchange record of a new collective is listed for its step (R526). -/
def State.listRecord (s : State) (i : Inst) : State :=
  match i.record with
  | some off => s.setTenant i.n ((s.tenant i.n).modStep i.step fun q =>
      if q.exchRecs.contains off then q else { q with exchRecs := q.exchRecs ++ [off] })
  | none => s

/-- A new collective is also counted where its form is no all-reduce and its plan is watched (R551). -/
def State.newListed (s : State) (i : Inst) : State :=
  if i.form != .allReduce && ((s.listRecord i).watchGroup i.n i.plan).isSome then (s.listRecord i).count 32 Obj.sketchSkipCount
  else s.listRecord i

/-- A state that a contribution has joined, before anything goes on. -/
def State.joinEntered (s : State) (i : Inst) (p : Contrib) (locks : List (Nat × Nat)) : State :=
  if (s.inst? i).isNone then (s.withJoined i p locks).newListed i else s.withJoined i p locks

theorem State.joinInst_eq (s : State) (i : Inst) (p : Contrib) (locks : List (Nat × Nat)) : ∃ u v : State,
    u = s.joinEntered i p locks ∧
    v = u.withInst (i.joined p locks) (fun q => if q.allIn then u.readyNow q else u) ∧
    s.joinInst i p locks = (if v.held i.n then v else v.drainRuns (i.joined p locks)).settleInst (i.joined p locks) :=
  ⟨_, _, rfl, rfl, rfl⟩

/-- Listing a record changes the open steps of the collective's tenant alone. -/
theorem State.listRecord_spec (s : State) (i : Inst) :
    (∀ off, i.record = some off → ∀ q ∈ ((s.listRecord i).tenant i.n).steps, q.step = i.step → off ∈ q.exchRecs) ∧
    ∃ m, s.listRecord i = { s with tenants := m } := by
  unfold State.listRecord
  split
  case h_1 off record =>
    refine ⟨fun a named q hq step => ?_, _, rfl⟩
    obtain rfl : off = a := Option.some.inj (record.symm.trans named)
    rw [State.tenant_setTenant] at hq
    obtain ⟨old, -, rfl⟩ := List.mem_map.1 hq
    by_cases here : old.step = i.step
    · rw [if_pos here]
      dsimp only
      split
      · exact List.contains_iff_mem.1 ‹_›
      · exact List.mem_append_right _ (List.mem_singleton.2 rfl)
    · rw [if_neg here] at step
      exact absurd step here
  case h_2 none => exact ⟨fun off named => absurd (none.symm.trans named) nofun, s.tenants, rfl⟩

theorem State.newListed_spec (s : State) (i : Inst) :
    (∀ off, i.record = some off → ∀ q ∈ ((s.newListed i).tenant i.n).steps, q.step = i.step → off ∈ q.exchRecs) ∧
    RegsBut [Obj.sketchSkipCount] s (s.newListed i) ∧
    ∃ m r, s.newListed i = { s with tenants := m, regs := r } := by
  obtain ⟨listed, m, frame⟩ := s.listRecord_spec i
  have regs : RegsBut [Obj.sketchSkipCount] s (s.listRecord i) := fun k _ => by rw [frame]; rfl
  unfold State.newListed
  split
  · refine ⟨listed, regs.trans (RegsBut.addReg _ 32 1 (List.mem_singleton.2 rfl)), m,
      ((s.listRecord i).count 32 Obj.sketchSkipCount).regs, ?_⟩
    rw [State.count, State.addReg, State.setReg, frame]
  · exact ⟨listed, regs, m, s.regs, frame⟩

/-- What joining leaves before anything goes on. -/
theorem State.joinEntered_joined (s : State) (i : Inst) (p : Contrib) (locks : List (Nat × Nat)) :
    Joined s (s.joinEntered i p locks) i p locks := by
  obtain ⟨m, token⟩ := (s.ctx p.core p.ctx).setToken_eq i.token .outstanding
  obtain ⟨listed, regs, tenants, r, frame⟩ := (s.withJoined i p locks).newListed_spec i
  obtain ⟨tn, rg, entered⟩ : ∃ tn rg, s.joinEntered i p locks = { s.withJoined i p locks with tenants := tn, regs := rg } := by
    unfold State.joinEntered
    split
    · exact ⟨_, _, frame⟩
    · exact ⟨s.tenants, s.regs, rfl⟩
  have ctx (d y : Nat) : (s.joinEntered i p locks).ctx d y =
      (s.setCtx p.core p.ctx ((s.ctx p.core p.ctx).setToken i.token .outstanding)).ctx d y := by
    rw [entered]
    rfl
  have own : (s.joinEntered i p locks).ctx p.core p.ctx = (s.ctx p.core p.ctx).setToken i.token .outstanding :=
    (ctx _ _).trans (State.ctx_setCtx _ _ _ _)
  refine ⟨?_, fun named => ?_, fun j other => ?_, ?_, fun d y other => ?_, fun off record new q hq => ?_, ?_, ?_⟩
  · rw [entered]
    rfl
  · rw [own]
    exact Ctx.token_setToken_same _ _ named
  · rw [own]
    exact Ctx.token_setToken_other _ _ other
  · rw [own, token]
  · exact (ctx d y).trans (State.ctx_setCtx_other _ _ _ _ _ _ other)
  · rw [State.joinEntered, if_pos new] at hq
    exact listed off record q hq
  · unfold State.joinEntered
    split
    · exact regs
    · exact fun _ _ => rfl
  · rw [entered]
    rfl

/-- The collective as joined is the one of its number that is open. -/
theorem State.inst?_joinEntered (s : State) (i : Inst) (p : Contrib) (locks : List (Nat × Nat)) :
    (∀ q ∈ (s.joinEntered i p locks).colls.insts, q.same (i.joined p locks) = true → q = i.joined p locks) ∧
    (s.joinEntered i p locks).inst? (i.joined p locks) = some (i.joined p locks) := by
  have insts : (s.joinEntered i p locks).colls.insts = if (s.inst? i).isNone then s.colls.insts ++ [i.joined p locks]
      else s.colls.insts.map fun q => if q.same i then i.joined p locks else q :=
    congrArg Colls.insts (s.joinEntered_joined i p locks).colls
  have only : ∀ q ∈ (s.joinEntered i p locks).colls.insts, q.same (i.joined p locks) = true → q = i.joined p locks := by
    intro q hq same
    rw [insts] at hq
    split at hq
    case isTrue new =>
      rcases List.mem_append.1 hq with old | hq
      · exact absurd same (List.find?_eq_none.1 (Option.isNone_iff_eq_none.1 new) q old)
      · exact List.mem_singleton.1 hq
    case isFalse =>
      obtain ⟨old, -, rfl⟩ := List.mem_map.1 hq
      by_cases here : old.same i = true
      · rw [if_pos here]
      · rw [if_neg here] at same
        exact absurd same here
  have present : i.joined p locks ∈ (s.joinEntered i p locks).colls.insts := by
    rw [insts]
    split
    case isTrue => exact List.mem_append_right _ (List.mem_singleton.2 rfl)
    case isFalse known =>
      obtain ⟨q, found⟩ := Option.ne_none_iff_exists'.1 (mt Option.isNone_iff_eq_none.2 known)
      exact List.mem_map.2 ⟨q, List.mem_of_find?_eq_some found, if_pos (List.find?_some found)⟩
  refine ⟨only, ?_⟩
  obtain ⟨q, found⟩ := Option.isSome_iff_exists.1 (List.find?_isSome (p := fun q => q.same (i.joined p locks)) |>.2
    ⟨_, present, Inst.same_self _⟩)
  have same : q.same (i.joined p locks) = true := List.find?_some (p := fun q : Inst => q.same (i.joined p locks)) found
  rw [State.inst?, found, only q (List.mem_of_find?_eq_some found) same]

/-- A contribution that is not the last leaves its collective joined, and nothing goes on. -/
theorem State.joinInst_joined {s : State} {i : Inst} {p : Contrib} {locks : List (Nat × Nat)} (waits : StillOpen s i p locks) :
    Joined s (s.joinInst i p locks) i p locks := by
  obtain ⟨notAll, unmarked, inRings, noRun⟩ := waits
  obtain ⟨u, v, entered, ready, run⟩ := s.joinInst_eq i p locks
  obtain ⟨only, isOpen⟩ := s.inst?_joinEntered i p locks
  have joined := s.joinEntered_joined i p locks
  rw [← entered] at only isOpen joined
  have same : v = u := by
    rw [ready, State.withInst_of_open isOpen]
    exact if_neg (by rw [show (i.joined p locks).allIn = false from notAll]; decide)
  have waiting : u.colls.waiting = s.colls.waiting := by rw [joined.colls]
  have drained : u.drainRuns (i.joined p locks) = u := State.drainRuns_of_none (by rw [waiting]; exact noRun)
  rw [run, same, drained, ite_self, State.settleInst_of_waiting isOpen only notAll unmarked inRings]
  exact joined

end Sys2Proof.Machine
end

section
/-! The copies with collective (R376, R509, R512 to R514). -/

namespace Sys2Proof.Machine

/-- An instruction whose operands are prepared runs on them. -/
theorem State.withOpsElse_ready {s t : State} {c x unit : Nat} {k : Work} {ops : List OpAsk} {ds : List (Desc × VSel)}
    (ready : OperandsReady s c x unit k ops ds t) (bad : OpFault → Nat → Bool → State → State)
    (f : List (Desc × VSel) → State → State) : s.withOpsElse c x unit k ops bad f = f ds t := by
  obtain ⟨u, prepared, free, unpromoted, rfl⟩ := ready
  have none : (if s.otherReady c x then ds.findSome? (s.promotionOf k.tenant) else none) = none := by
    rcases unpromoted with alone | none
    · rw [alone]; rfl
    · rw [none, ite_self]
  unfold State.withOpsElse
  rw [prepared]
  dsimp only
  rw [free, none]
  rfl

theorem State.slotDesc_zero (s : State) (k : Work) : s.slotDesc k 0 = none := rfl

/-- The contribution of a copy (R509, R512). -/
def copyPart (t : State) (c x : Nat) (k : Work) (w : CcWord) (form : CollForm) (d : Desc) (v : VSel) (route : List Nat) : Contrib :=
  { core := c, ctx := x, x := w.x, y := w.y, sr := w.sr, ovf := w.ovf, word := none,
    vals := if form = .receive then [] else t.exactValues k.tenant v d, route := route }

/-- A copy that passes its checks joins its collective. -/
theorem State.startCopy_ready {s t : State} {c x : Nat} {k : Work} {w : CcWord} {form : CollForm} {xd yd d : Desc} {i : Inst} {v : VSel}
    {rest : List (Desc × VSel)} {route : List Nat} (ready : CopyReady s c x k w form xd yd i ((d, v) :: rest) t route) :
    s.startCopy c x k w form = t.joinInst i (copyPart t c x k w form d v route) ((((d, v) :: rest).map (·.1)).filterMap Desc.span) := by
  have sound : (s.planBad c k w.cp (s.planOf k.tenant w.cp) ||
      !collFormats (s.planOf k.tenant w.cp) (if form = .receive then [yd.fmt] else [xd.fmt, yd.fmt]) ||
      (form != .receive && xd.meets yd)) = false := by rw [ready.plan, ready.formats, ready.apart]; rfl
  have fits : (!copyShape form xd yd i.size || !s.planFits k (s.planOf k.tenant w.cp)
      (copyAsk form xd yd (s.planSize k.tenant (s.planOf k.tenant w.cp))) xd.runs i) = false := by rw [ready.shape, ready.fits]; rfl
  unfold State.startCopy
  dsimp only
  rw [ready.source, ready.target]
  dsimp only
  rw [sound, if_neg Bool.false_ne_true, ready.joins]
  dsimp only
  rw [fits, if_neg Bool.false_ne_true, ready.scale]
  dsimp only
  rw [State.withOps, State.withOpsElse_ready ready.operands]
  dsimp only
  rw [ready.rows]
  dsimp only
  rw [if_neg (not_not_intro ready.token)]
  rfl

/-- A copy without one of its tensors is a descriptor fault (R215, R513). -/
theorem State.startCopy_missing (s : State) (c x : Nat) (k : Work) {w : CcWord} {form : CollForm}
    (missing : w.y = 0 ∨ (w.x = 0 ∧ form ≠ .receive)) : s.startCopy c x k w form = s.descriptorFault c x (agentUnit c) 0 := by
  unfold State.startCopy
  dsimp only
  rcases missing with noY | ⟨noX, sends⟩
  · rw [noY, s.slotDesc_zero]
    split
    case h_1 target => cases target
    case h_2 => rfl
  · rw [if_neg sends, noX, s.slotDesc_zero]

/-- Each copy issues its form. -/
theorem exec_of_mem_copyTable {p : (Nat → Nat → CcWord → Instr) × CollForm} (hp : p ∈ copyTable) {s : State} {c x : Nat} {k : Work}
    (issues : Issues s c x k) (w : CcWord) : exec (p.1 c x w) s = .next ((s.started c x).startCopy c x k w p.2) := by
  have issued (form : CollForm) : Host.Outcome.next (s.issue c x fun k t => t.startCopy c x k w form) =
      (.next ((s.started c x).startCopy c x k w form) : Host.Outcome State Fault Refusal) := congrArg _ (State.issue_ok issues _)
  simp only [copyTable, List.mem_cons, List.not_mem_nil, or_false] at hp
  rcases hp with rfl | rfl | rfl | rfl | rfl | rfl
  all_goals exact issued _

end Sys2Proof.Machine
end

section
/-! The fused matrix forms (R376, R509 to R514, R531, R532): the passes of their products. -/

namespace Sys2Proof.Machine

/-! What passes leave of a core -/

/-- Setting entries changes the accumulator alone. -/
theorem Core.putFloat_eq (v : Core) (a : AccWin) (i n e : Nat) : ∃ m, v.putFloat a i n e = { v with acc := m } := by
  unfold Core.putFloat
  dsimp only
  split
  · exact ⟨_, rfl⟩
  · exact ⟨v.acc, rfl⟩

theorem Core.putInt_eq (v : Core) (a : AccWin) (i n : Nat) (e : Int) : ∃ m, v.putInt a i n e = { v with acc := m } := by
  unfold Core.putInt
  dsimp only
  split
  · exact ⟨_, rfl⟩
  · exact ⟨v.acc, rfl⟩

/-- So does setting several. -/
theorem Core.foldl_acc_eq {α : Type} {f : Core → α → Core} (step : ∀ (v : Core) (b : α), ∃ m, f v b = { v with acc := m }) (l : List α)
    (v : Core) : ∃ m, l.foldl f v = { v with acc := m } := by
  induction l generalizing v with
  | nil => exact ⟨v.acc, rfl⟩
  | cons b l ih =>
    obtain ⟨m, first⟩ := step v b
    obtain ⟨m', rest⟩ := ih (f v b)
    refine ⟨m', rest.trans ?_⟩
    rw [first]

/-- The passes of a product change the accumulator alone (R125, R130). -/
theorem floatProduct_core (v : Core) (w : MmaWord) (a : AccWin) (seed id kp K : Nat) (xs ws : List (List Num)) :
    ∃ acc, (floatProduct v w a seed id kp K xs ws).core = { v with acc := acc } :=
  Core.foldl_acc_eq (fun v _ => Core.foldl_acc_eq (fun v _ => v.putFloat_eq a _ _ _) _ v) _ v

theorem intProduct_core {v : Core} {w : MmaWord} {a : AccWin} {kp : Nat} {xs ws : List (List Num)} {q : Product}
    (product : intProduct v w a kp xs ws = some q) : ∃ acc, q.core = { v with acc := acc } := by
  obtain ⟨-, product⟩ := Option.ite_none_left_eq_some.1 product
  obtain rfl := Option.some.inj product
  exact Core.foldl_acc_eq (fun v _ => Core.foldl_acc_eq (fun v _ => v.putInt_eq a _ _ _) _ v) _ v

theorem State.mmaProduct_core {s : State} {c id : Nat} {k : Work} {w : MmaWord} {m : Mma} {a : AccWin} {o : MmaOps} {q : Product}
    (product : s.mmaProduct c k w m a o id = some q) : ∃ acc, q.core = { s.core c with acc := acc } := by
  unfold State.mmaProduct at product
  dsimp only at product
  split at product
  case isTrue => exact intProduct_core product
  case isFalse =>
    obtain rfl := Option.some.inj product
    exact floatProduct_core _ _ _ _ _ _ _ _ _

/-- Numbers erased read as the default. -/
theorem Sparse.get_foldl_erase (ks : List Nat) (m : Sparse Nat) (q : Nat) :
    Sparse.get 0 q (ks.foldl (fun m k => Sparse.erase k m) m) = if q ∈ ks then 0 else Sparse.get 0 q m := by
  induction ks generalizing m with
  | nil => simp
  | cons k ks ih =>
    rw [List.foldl_cons, ih]
    by_cases here : q = k
    · rw [here, Sparse.get_erase_same]
      simp
    · rw [Sparse.get_erase_other _ _ _ _ here]
      simp [here]

section

variable (v : Core) (a : AccWin) (M N : Nat) (acc : Bool)

/-- The rows written carry the form's tag (R125). -/
theorem Core.tagRows_tag (q : Nat) : Sparse.get 0 q (v.tagRows a M N acc).accTag =
    if q ∈ a.keys M then formTag a.int else Sparse.get 0 q v.accTag :=
  Sparse.get_foldl_set 0 (key := id) (fun _ _ e => e) (fun _ => formTag a.int) (a.keys M) v.accTag q

/-- With ACC clear they lose their poison (R126, R144) … -/
theorem Core.tagRows_poison (q : Nat) : Sparse.get 0 q (v.tagRows a M N acc).accPoison =
    if acc = false ∧ q ∈ a.keys M then 0 else Sparse.get 0 q v.accPoison := by
  cases acc
  · exact (Sparse.get_foldl_erase (a.keys M) v.accPoison q).trans (by simp)
  · exact (if_neg (by simp)).symm

/-- … and so do their entries. -/
theorem Core.tagRows_bad (q : Nat) : Sparse.get 0 q (v.tagRows a M N acc).accBad =
    if acc = false ∧ q ∈ a.cells M N then 0 else Sparse.get 0 q v.accBad := by
  unfold Core.tagRows
  dsimp only
  cases acc
  · cases bad : v.accBad with
    | nil => exact (ite_self 0).symm
    | cons p l => exact (Sparse.get_foldl_erase (a.cells M N) (p :: l) q).trans (by simp)
  · exact (if_neg (by simp)).symm

end

theorem passDepth_pos (fx fw : Nat) (quarters : Bool) : 0 < passDepth fx fw quarters := by
  have depth : ∀ k, 64 ≤ k → 0 < if quarters then k / 2 else k := fun k hk => by
    split <;> omega
  refine depth _ ?_
  split
  · decide
  · split <;> decide

theorem ceilDiv_eq_zero {a b : Nat} (hb : 0 < b) : ceilDiv a b = 0 ↔ a = 0 := by
  rw [ceilDiv, if_neg (Nat.ne_of_gt hb), Nat.div_eq_zero_iff]
  omega

/-- After its passes a plane serves the context, and the last tile loaded is current (R130). -/
theorem Plane.after_serves (p : Plane) (x passes : Nat) (tile : Nat → Tile) : (p.after x passes tile).tag = some x := by
  unfold Plane.after
  split <;> rfl

theorem Plane.after_current (p : Plane) (x : Nat) {passes : Nat} (some : passes ≠ 0) (tile : Nat → Tile) :
    (p.after x passes tile).current = (p.current + passes) % 2 := by
  rw [Plane.after, if_neg some]

end Sys2Proof.Machine
end

section
/-! The fused matrix forms (R376, R509 to R514, R531, R532): their issue, their product, and their join. -/

namespace Sys2Proof.Machine

/-! Tiles loaded and passes counted -/

/-- What loading tiles leaves: of the core all but the partition's planes, of the registers all but the count of missed preloads. -/
theorem State.loadPlanes_spec (s : State) (c x : Nat) (k : Work) (w : MmaWord) (m : Mma) (o : MmaOps) :
    (s.loadPlanes c x k w m o).core c = { s.core c with planes := Sparse.set {} w.part ((Sparse.get {} w.part (s.core c).planes).after x
      (ceilDiv (mmaK w m) (passDepth m.x.fmt m.w.fmt ((s.core c).mode == 2))) (s.weightTile k.tenant x w.wt o.w (mmaN w m) (mmaK w m)
      (passDepth m.x.fmt m.w.fmt ((s.core c).mode == 2)))) (s.core c).planes } ∧
    (∀ d, d ≠ c → (s.loadPlanes c x k w m o).core d = s.core d) ∧
    (s.loadPlanes c x k w m o).reg (Obj.preloadMissCount c) = (if mmaK w m = 0 ∨ (s.core c).issued.any (fun j => j.part == w.part)
      then s.reg (Obj.preloadMissCount c) else (s.reg (Obj.preloadMissCount c) + 1) % 2 ^ 32) ∧
    RegsBut [Obj.preloadMissCount c] s (s.loadPlanes c x k w m o) := by
  have miss := ceilDiv_eq_zero (a := mmaK w m) (passDepth_pos m.x.fmt m.w.fmt ((s.core c).mode == 2))
  unfold State.loadPlanes State.countMiss
  dsimp only
  simp only [miss]
  split
  case isTrue =>
    exact ⟨State.core_setCore _ _ _, fun d hd => State.core_setCore_other _ _ _ _ hd, rfl, fun _ _ => rfl⟩
  case isFalse =>
    exact ⟨State.core_setCore _ _ _, fun d hd => State.core_setCore_other _ _ _ _ hd, State.reg_setReg_same _ _ _,
      RegsBut.addReg s 32 1 (List.mem_singleton.2 rfl)⟩

/-- Beside registers and cores it changes nothing. -/
theorem State.loadPlanes_eq (s : State) (c x : Nat) (k : Work) (w : MmaWord) (m : Mma) (o : MmaOps) :
    ∃ r cs, s.loadPlanes c x k w m o = { s with regs := r, cores := cs } := by
  unfold State.loadPlanes State.countMiss
  dsimp only
  split
  · exact ⟨s.regs, _, rfl⟩
  · exact ⟨_, _, rfl⟩

/-- What counting passes leaves: the registers but its three counts, and all else. -/
theorem State.countPasses_spec (s : State) (c : Nat) (w : MmaWord) (M K N kp : Nat) (lost : List Bool) (int : Bool) :
    (s.countPasses c w M K N kp lost int).reg (Obj.windowTruncationCount c) =
      (s.reg (Obj.windowTruncationCount c) + (lost.filter id).length) % 2 ^ 64 ∧
    (s.countPasses c w M K N kp lost int).reg (Obj.streamCycles c) = (s.reg (Obj.streamCycles c) + ceilDiv K kp * M) % 2 ^ 64 ∧
    (s.countPasses c w M K N kp lost int).reg (Obj.preloadMissCount c) = s.reg (Obj.preloadMissCount c) ∧
    { s.countPasses c w M K N kp lost int with regs := s.regs } = s := by
  have apart : Obj.windowTruncationCount c ≠ Obj.stochasticStepCount c ∧ Obj.windowTruncationCount c ≠ Obj.streamCycles c ∧
      Obj.stochasticStepCount c ≠ Obj.streamCycles c ∧ Obj.preloadMissCount c ≠ Obj.windowTruncationCount c ∧
      Obj.preloadMissCount c ≠ Obj.stochasticStepCount c ∧ Obj.preloadMissCount c ≠ Obj.streamCycles c := by
    simp only [Obj.windowTruncationCount, Obj.stochasticStepCount, Obj.streamCycles, Obj.preloadMissCount, obj]
    omega
  obtain ⟨truncStoch, truncStream, stochStream, missTrunc, missStoch, missStream⟩ := apart
  refine ⟨?_, ?_, ?_, rfl⟩
  · simp [State.countPasses, State.reg_addReg, truncStream, truncStoch]
  · simp [State.countPasses, State.reg_addReg, stochStream.symm, truncStream.symm]
  · simp [State.countPasses, State.reg_addReg, missStream, missStoch, missTrunc]

theorem State.countPasses_core (s : State) (c d : Nat) (w : MmaWord) (M K N kp : Nat) (lost : List Bool) (int : Bool) :
    (s.countPasses c w M K N kp lost int).core d = s.core d := rfl

/-- An instruction that stays issued changes its core alone. -/
theorem State.issueMatrix_reg (s : State) (c x : Nat) (k : Work) (w : MmaWord) (m : Mma) (ds : List Desc) (n : Counts) (r : Nat) :
    (s.issueMatrix c x k w m ds n).reg r = s.reg r := rfl

theorem State.issueMatrix_core_other (s : State) (c x : Nat) (k : Work) (w : MmaWord) (m : Mma) (ds : List Desc) (n : Counts) {d : Nat}
    (h : d ≠ c) : (s.issueMatrix c x k w m ds n).core d = s.core d := State.core_setCore_other _ _ _ _ h

/-! The passes of a product, run and issued -/

section

variable {s : State} {c x : Nat} {k : Work} {w : MmaWord} {m : Mma} {a : AccWin} {o : MmaOps} {q : Product}

/-- The core after the passes. -/
theorem afterPasses_core (s : State) (c x : Nat) (k : Work) (w : MmaWord) (m : Mma) (a : AccWin) (o : MmaOps) (q : Product) :
    (afterPasses s c x k w m a o q).core c = if mmaK w m ≠ 0 ∨ w.acc = false then q.core.tagRows a (mmaM w m) (mmaN w m) w.acc
      else (s.loadPlanes c x k w m o).core c := by
  rw [afterPasses, State.countPasses_core, State.core_setCore]

/-- It is the core before them, but for the accumulator and its marks, and the partition's planes. -/
theorem afterPasses_core_spec (product : ∃ acc, q.core = { (s.loadPlanes c x k w m o).core c with acc := acc }) :
    ((afterPasses s c x k w m a o q).core c).acc = (if mmaK w m ≠ 0 ∨ w.acc = false then q.core.acc else (s.core c).acc) ∧
    (∀ r, Sparse.get 0 r ((afterPasses s c x k w m a o q).core c).accTag =
      if (mmaK w m ≠ 0 ∨ w.acc = false) ∧ r ∈ a.keys (mmaM w m) then formTag a.int else Sparse.get 0 r (s.core c).accTag) ∧
    (∀ r, Sparse.get 0 r ((afterPasses s c x k w m a o q).core c).accPoison =
      if w.acc = false ∧ r ∈ a.keys (mmaM w m) then 0 else Sparse.get 0 r (s.core c).accPoison) ∧
    (∀ r, Sparse.get 0 r ((afterPasses s c x k w m a o q).core c).accBad =
      if w.acc = false ∧ r ∈ a.cells (mmaM w m) (mmaN w m) then 0 else Sparse.get 0 r (s.core c).accBad) ∧
    ((afterPasses s c x k w m a o q).core c).planes = ((s.loadPlanes c x k w m o).core c).planes ∧
    { (afterPasses s c x k w m a o q).core c with
      acc := (s.core c).acc, accTag := (s.core c).accTag, accPoison := (s.core c).accPoison, accBad := (s.core c).accBad,
      planes := (s.core c).planes } = s.core c := by
  obtain ⟨acc, entries⟩ := product
  obtain ⟨loaded, -⟩ := s.loadPlanes_spec c x k w m o
  rw [afterPasses_core]
  by_cases touched : mmaK w m ≠ 0 ∨ w.acc = false
  · rw [if_pos touched, if_pos touched]
    refine ⟨rfl, fun r => ?_, fun r => ?_, fun r => ?_, ?_, ?_⟩
    · rw [Core.tagRows_tag, ite_congr (propext (and_iff_right touched)) (fun _ => rfl) fun _ => rfl, entries, loaded]
    · rw [Core.tagRows_poison, entries, loaded]
    · rw [Core.tagRows_bad, entries, loaded]
    · rw [entries]
      rfl
    · rw [entries, loaded]
      rfl
  · have kept : w.acc ≠ false := fun e => touched (.inr e)
    rw [if_neg touched, if_neg touched, loaded]
    exact ⟨rfl, fun r => (if_neg fun e => touched e.1).symm, fun r => (if_neg fun e => kept e.1).symm,
      fun r => (if_neg fun e => kept e.1).symm, rfl, rfl⟩

/-- The passes of a product have run when its instruction is issued. -/
theorem afterPasses_passesRun (product : ∃ acc, q.core = { (s.loadPlanes c x k w m o).core c with acc := acc }) (ww : MmaWord)
    (ds : List Desc) (n : Counts) : PassesRun s ((afterPasses s c x k w m a o q).issueMatrix c x k ww m ds n) c x w m a q := by
  obtain ⟨acc, tag, poison, bad, planes, rest⟩ := afterPasses_core_spec (a := a) product
  obtain ⟨loaded, others, missed, regs⟩ := s.loadPlanes_spec c x k w m o
  obtain ⟨u, passed, v, set⟩ : ∃ u : State, afterPasses s c x k w m a o q = u.countPasses c w (mmaM w m) (mmaK w m) (mmaN w m)
      (passDepth m.x.fmt m.w.fmt (a.mode == 2)) q.lost m.intForm ∧ ∃ v, u = (s.loadPlanes c x k w m o).setCore c v := ⟨_, rfl, _, rfl⟩
  have reg (r : Nat) : u.reg r = (s.loadPlanes c x k w m o).reg r := by rw [set]; rfl
  obtain ⟨truncated, streamed, unmissed, -⟩ := u.countPasses_spec c w (mmaM w m) (mmaK w m) (mmaN w m)
    (passDepth m.x.fmt m.w.fmt (a.mode == 2)) q.lost m.intForm
  have trunc : Obj.windowTruncationCount c ∉ [Obj.preloadMissCount c] := by
    simp only [List.mem_singleton, Obj.windowTruncationCount, Obj.preloadMissCount, obj]
    omega
  have stream : Obj.streamCycles c ∉ [Obj.preloadMissCount c] := by
    simp only [List.mem_singleton, Obj.streamCycles, Obj.preloadMissCount, obj]
    omega
  obtain ⟨i, core⟩ : ∃ i, ((afterPasses s c x k w m a o q).issueMatrix c x k ww m ds n).core c =
      { (afterPasses s c x k w m a o q).core c with issued := ((afterPasses s c x k w m a o q).core c).issued ++ [i] } :=
    ⟨_, State.core_setCore _ _ _⟩
  have own : Sparse.get {} w.part ((s.loadPlanes c x k w m o).core c).planes = (Sparse.get {} w.part (s.core c).planes).after x
      (ceilDiv (mmaK w m) (passDepth m.x.fmt m.w.fmt ((s.core c).mode == 2))) (s.weightTile k.tenant x w.wt o.w (mmaN w m) (mmaK w m)
      (passDepth m.x.fmt m.w.fmt ((s.core c).mode == 2))) := by
    rw [loaded]
    exact Sparse.get_set_same _ _ _ _
  refine ⟨?_, fun r => ?_, fun r => ?_, fun r => ?_, ?_, fun r other => ?_, ?_, ?_, ?_, ?_, fun d hd => ?_, ?_⟩
  · rw [core]
    exact acc
  · rw [core]
    exact tag r
  · rw [core]
    exact poison r
  · rw [core]
    exact bad r
  · rw [core]
    dsimp only
    rw [planes, own]
    exact Plane.after_serves _ _ _ _
  · rw [core]
    dsimp only
    rw [planes, loaded]
    exact Sparse.get_set_other _ _ _ _ _ _ other
  · rw [core]
    dsimp only
    rw [planes, own]
    by_cases none : mmaK w m = 0
    · exact .inr none
    · exact .inl (Plane.after_current _ _ (mt (ceilDiv_eq_zero (passDepth_pos _ _ _)).1 none) _)
  · rw [State.issueMatrix_reg, passed, truncated, reg, regs _ trunc]
  · rw [State.issueMatrix_reg, passed, streamed, reg, regs _ stream]
  · rw [State.issueMatrix_reg, passed, unmissed, reg, missed]
  · rw [State.issueMatrix_core_other _ _ _ _ _ _ _ _ hd, passed, State.countPasses_core, set, State.core_setCore_other _ _ _ _ hd,
      others d hd]
  · rw [core]
    exact congrArg (fun v : Core => { v with issued := (s.core c).issued }) rest

/-- With OUT clear it is the last of those issued on its core, with the report that it sends at its end. -/
theorem afterPasses_issuedLast (product : ∃ acc, q.core = { (s.loadPlanes c x k w m o).core c with acc := acc }) (n : Counts) :
    IssuedLast s ((afterPasses s c x k w m a o q).issueMatrix c x k { w with out := false } m m.locked n) c x k { w with out := false }
      m n := by
  obtain ⟨-, -, -, -, -, rest⟩ := afterPasses_core_spec (a := a) product
  have issued : ((afterPasses s c x k w m a o q).core c).issued = (s.core c).issued := (congrArg Core.issued rest :)
  refine ⟨?i, ?last, ?fields⟩
  case last => rw [State.issueMatrix, State.modCore, State.core_setCore, issued]
  case fields => exact ⟨rfl, rfl, rfl, rfl, rfl, rfl, rfl, fun _ _ out => absurd out Bool.false_ne_true⟩

/-- Beside registers and cores nothing has changed. -/
theorem afterPasses_frame (ww : MmaWord) (ds : List Desc) (n : Counts) :
    { (afterPasses s c x k w m a o q).issueMatrix c x k ww m ds n with regs := s.regs, cores := s.cores } = s := by
  obtain ⟨r, cs, loaded⟩ := s.loadPlanes_eq c x k w m o
  obtain ⟨r', cs', passed⟩ : ∃ r cs, afterPasses s c x k w m a o q = { s with regs := r, cores := cs } := by
    rw [afterPasses, loaded]
    exact ⟨_, _, rfl⟩
  rw [passed]
  rfl

end

end Sys2Proof.Machine
end

section
/-! The fused matrix forms issue (R510 to R514): what their checks let through, and what they answer. -/

namespace Sys2Proof.Machine

/-- A matrix instruction that passes its checks runs on its operands. -/
theorem State.startMatrix_checked {s t : State} {c x : Nat} {k : Work} {w : MmaWord} {resident : Bool} {yOk : Mma → Desc → Bool}
    {more : Mma → Bool} {m : Mma} {a : AccWin} {o : MmaOps} {ds : List (Desc × VSel)}
    (checked : MatrixChecked s c x k w resident yOk more m a) (ready : OperandsReady s c x (engineId c 0) k (m.asks w) ds t)
    (named : m.named ds = some o) (run : Mma → AccWin → MmaOps → State → State) :
    s.startMatrix c x k w resident yOk more run = run m a o t := by
  obtain ⟨⟨unheld, descs, window, ok, untagged, fits⟩, rows, cols, unserved, written⟩ := checked
  unfold State.startMatrix
  dsimp only
  rw [unheld, descs, if_neg (by decide)]
  dsimp only
  rw [← window, ok, untagged, fits, if_neg (by decide), if_neg (not_or.2 ⟨rows, cols⟩), unserved, written, if_neg (by decide),
    State.withOpsElse_ready ready, named]

/-- A fused form whose plan's tensors are prepared and whose token is free goes on. -/
theorem State.withPlan_ready {s t : State} {c x : Nat} {k : Work} {w : MmaWord} {pl : CollPlan} {form : CollForm} {extra : List OpAsk}
    {ps : List (Desc × VSel)} (scale : s.exchFault k pl = none)
    (ready : OperandsReady s c x (engineId c 0) k (extra ++ s.planAsks k pl form) ps t) (free : (t.ctx c x).token pl.token = .free)
    (go : List (Nat × Nat) → State → State) :
    s.withPlan c x k w pl form extra go = go ((ps.map (·.1)).filterMap Desc.span) t := by
  unfold State.withPlan
  rw [scale]
  dsimp only
  rw [State.withOpsElse_ready ready, if_neg (not_not_intro free)]

/-- A product that meets no poison and no overflow is finished after its passes. -/
theorem State.runProduct_run {s : State} {c x : Nat} {k : Work} {w : MmaWord} {m : Mma} {a : AccWin} {o : MmaOps} {q : Product}
    (sound : (w.acc && (s.core c).rowsBad a (mmaM w m) (mmaN w m)) = false)
    (product : (s.loadPlanes c x k w m o).mmaProduct c k w m a o (s.mmaTensorId k w m) = some q) (finish : Product → State → State) :
    s.runProduct c x k w m a o finish = finish q (afterPasses s c x k w m a o q) := by
  obtain ⟨loaded, -⟩ := s.loadPlanes_spec c x k w m o
  obtain ⟨r, cs, frame⟩ := s.loadPlanes_eq c x k w m o
  have rowsBad : ((s.loadPlanes c x k w m o).core c).rowsBad a (mmaM w m) (mmaN w m) =
      (s.core c).rowsBad a (mmaM w m) (mmaN w m) := by rw [loaded]; rfl
  have tensorId : (s.loadPlanes c x k w m o).mmaTensorId k w m = s.mmaTensorId k w m := by rw [frame]; rfl
  have touched : (decide (mmaK w m ≠ 0) || !w.acc) = true ↔ mmaK w m ≠ 0 ∨ w.acc = false := by simp
  unfold State.runProduct
  dsimp only
  rw [rowsBad, sound, if_neg Bool.false_ne_true, tensorId, product]
  dsimp only
  rw [ite_congr (propext touched) (fun _ => rfl) fun _ => rfl]
  rfl

/-- The contribution of a fused form that multiplies first (R510, R511). -/
def fusedPart (c x : Nat) (w : MmaWord) (vals : List Num) (route : List Nat) : Contrib :=
  { core := c, ctx := x, x := w.x, y := w.y, sr := w.osr, ovf := false, word := none, vals := vals, route := route }

/-- The contribution of a fused all-gather: its own part of X (R510). -/
def gatherPart (u : State) (c x : Nat) (k : Work) (w : MmaWord) (o : MmaOps) (i : Inst) : Contrib :=
  { core := c, ctx := x, x := w.x, y := w.y, sr := w.osr, ovf := false, word := some w,
    vals := ((u.exactValues k.tenant o.x.2 o.x.1).drop (i.rank * ((u.exactValues k.tenant o.x.2 o.x.1).length / i.size))).take
      ((u.exactValues k.tenant o.x.2 o.x.1).length / i.size), route := [] }

section

variable {s t u : State} {c x : Nat} {k : Work} {w : MmaWord} {form : CollForm} {y : Desc} {m : Mma} {a : AccWin} {o : MmaOps} {i : Inst}
  {ds ps : List (Desc × VSel)}

/-- A fused all-gather that passes its checks joins with its own part. -/
theorem State.startFused_gathers (gathers : form = .allGather) (ready : FusedReady s c x k w form y m a o i ds ps t u) :
    s.startFused c x k w form = u.joinInst i (gatherPart u c x k w o i)
      (m.locked.filterMap Desc.span ++ y.span.toList ++ (ps.map (·.1)).filterMap Desc.span) := by
  unfold State.startFused
  dsimp only
  rw [ready.target]
  dsimp only
  rw [State.startMatrix_checked ready.checked ready.operands ready.named, ready.joins]
  dsimp only
  rw [State.withPlan_ready ready.scale ready.planOps ready.token, if_pos gathers, if_pos gathers]
  rfl

/-- Another form runs its product, which stays issued and joins. -/
theorem State.startFused_multiplies (multiplies : form ≠ .allGather) (ready : FusedReady s c x k w form y m a o i ds ps t u)
    {route : List Nat} {q : Product} {vals : List Num}
    (routed : (if form = .allToAll then u.routeOf k (s.planOf k.tenant w.cp) (mmaM w m) i.size
      else some (List.replicate (mmaM w m) ((i.rank + 1) % i.size))) = some route)
    (sound : (w.acc && (u.core c).rowsBad a (mmaM w m) (mmaN w m)) = false)
    (product : (u.loadPlanes c x k w m o).mmaProduct c k w m a o (u.mmaTensorId k w m) = some q)
    (values : (afterPasses u c x k w m a o q).fusedVals k w y i.native ((afterPasses u c x k w m a o q).convRows k w m q.rows) =
      some vals) :
    s.startFused c x k w form = ((afterPasses u c x k w m a o q).issueMatrix c x k { w with out := false } m m.locked
      { noCounts with empty := b2n (mmaK w m == 0) }).joinInst i (fusedPart c x w vals route)
      (y.span.toList ++ (ps.map (·.1)).filterMap Desc.span) := by
  unfold State.startFused
  dsimp only
  rw [ready.target]
  dsimp only
  rw [State.startMatrix_checked ready.checked ready.operands ready.named, ready.joins]
  dsimp only
  rw [State.withPlan_ready ready.scale ready.planOps ready.token, if_neg multiplies, if_neg multiplies, routed]
  dsimp only
  rw [State.runProduct_run sound product, values, List.nil_append]
  rfl

end

/-- A matrix instruction without X or W is a descriptor fault once no mode change is held (R161). -/
theorem State.startMatrix_unnamed {s : State} {c x : Nat} {k : Work} {w : MmaWord} (unheld : (s.core c).mmodeHeld = [])
    (unnamed : w.x = 0 ∨ w.w = 0) (resident : Bool) (yOk : Mma → Desc → Bool) (more : Mma → Bool)
    (run : Mma → AccWin → MmaOps → State → State) :
    s.startMatrix c x k w resident yOk more run = s.partitionFault c x w.part .descriptor 0 false := by
  have noDescs : s.mmaDescs k w = none := by
    unfold State.mmaDescs
    rcases unnamed with noX | noW
    · rw [noX, s.slotDesc_zero]
    · rw [noW, s.slotDesc_zero]
      split
      case h_1 weights => cases weights
      case h_2 => rfl
  unfold State.startMatrix
  dsimp only
  rw [unheld, noDescs, if_neg (by decide)]

/-- It does not issue yet while one is held (R143). -/
theorem State.startMatrix_held {s : State} {c : Nat} (held : (s.core c).mmodeHeld ≠ []) (x : Nat) (k : Work) (w : MmaWord)
    (resident : Bool) (yOk : Mma → Desc → Bool) (more : Mma → Bool) (run : Mma → AccWin → MmaOps → State → State) :
    s.startMatrix c x k w resident yOk more run = s.notYet c x :=
  if_pos (by simpa using held)

/-- Without Y, or with no mode change held without X or W, a fused form is a descriptor fault (R161, R513). -/
theorem State.startFused_missing {s : State} {c x : Nat} {k : Work} {w : MmaWord}
    (missing : w.y = 0 ∨ ((s.core c).mmodeHeld = [] ∧ (w.x = 0 ∨ w.w = 0))) (form : CollForm) :
    s.startFused c x k w form = s.partitionFault c x w.part .descriptor 0 false := by
  obtain ⟨out, word⟩ : ∃ out, (if form = .send then { w with out := false } else w) = { w with out := out } := by
    split
    · exact ⟨false, rfl⟩
    · exact ⟨w.out, rfl⟩
  unfold State.startFused
  dsimp only
  split
  case h_1 => rfl
  case h_2 y target =>
    obtain ⟨unheld, unnamed⟩ := missing.resolve_left fun noY => by rw [noY, s.slotDesc_zero] at target; cases target
    rw [word]
    exact State.startMatrix_unnamed (w := { w with out := out }) unheld unnamed _ _ _ _

/-- With Y it does not issue yet while a mode change is held (R143). -/
theorem State.startFused_held {s : State} {c x : Nat} {k : Work} {w : MmaWord} (named : w.y ≠ 0) (held : (s.core c).mmodeHeld ≠ [])
    (form : CollForm) : s.startFused c x k w form = s.notYet c x := by
  unfold State.startFused
  dsimp only
  rw [State.slotDesc, if_neg named]
  exact State.startMatrix_held held _ _ _ _ _ _ _

/-- An instruction held back as it issues. -/
theorem State.started_notYet (s : State) (c x : Nat) : NotYet s ((s.started c x).notYet c x) c x := by
  obtain ⟨others, frame⟩ := s.started_setCtx_frame c x { (s.started c x).ctx c x with state := 1, ip := ((s.started c x).ctx c x).ip - 16 }
  refine ⟨?_, others, frame⟩
  rw [State.notYet, State.ctx_setCtx, State.started_ctx]
  exact congrArg (fun ip => { s.ctx c x with state := 1, waits := .nothing, ip := ip }) (Nat.add_sub_cancel (s.ctx c x).ip 16)

/-- A context that may issue is on a core of the package. -/
theorem Issues.core_lt {s : State} {c x : Nat} {k : Work} (issues : Issues s c x k) : c < 512 := by
  have may := issues.1
  simp only [State.mayIssue, Bool.and_eq_true, decide_eq_true_eq] at may
  obtain ⟨⟨⟨⟨⟨⟨⟨⟨hc, -⟩, -⟩, -⟩, -⟩, -⟩, -⟩, -⟩, -⟩ := may
  exact hc

section

variable {s : State} {c x : Nat} {k : Work}

theorem fused_issues (issues : Issues s c x k) (w : MmaWord) (form : CollForm) :
    Host.Outcome.next (s.issue c x fun k t => t.startFused c x k w form) =
      (.next ((s.started c x).startFused c x k w form) : Host.Outcome State Fault Refusal) := congrArg _ (State.issue_ok issues _)

/-- Each fused form that multiplies first issues its collective. -/
theorem exec_of_mem_productForms {p : (Nat → Nat → MmaWord → Instr) × CollForm}
    (hp : p ∈ ([(.mmaRs, .reduceScatter), (.mmaAr, .allReduce), (.mmaSend, .send), (.mmaA2a, .allToAll)] :
      List ((Nat → Nat → MmaWord → Instr) × CollForm))) (issues : Issues s c x k) (w : MmaWord) :
    exec (p.1 c x w) s = .next ((s.started c x).startFused c x k w p.2) ∧ p.2 ≠ .allGather := by
  simp only [List.mem_cons, List.not_mem_nil, or_false] at hp
  rcases hp with rfl | rfl | rfl | rfl
  all_goals exact ⟨fused_issues issues w _, nofun⟩

/-- So does every fused form. -/
theorem exec_of_mem_fusedForms {con : Nat → Nat → MmaWord → Instr}
    (hcon : con ∈ ([.mmaRs, .mmaAg, .mmaAr, .mmaA2a, .mmaSend] : List (Nat → Nat → MmaWord → Instr))) (issues : Issues s c x k)
    (w : MmaWord) : ∃ form, exec (con c x w) s = .next ((s.started c x).startFused c x k w form) := by
  simp only [List.mem_cons, List.not_mem_nil, or_false] at hcon
  rcases hcon with rfl | rfl | rfl | rfl | rfl
  all_goals exact ⟨_, fused_issues issues w _⟩

end

/-- Settles O17: each form passes its checks, and then joins; the others fault or wait. -/
theorem collectiveInstructionsJoin : Obligations.CollectiveInstructionsJoin := by
  have joins {s t : State} {instr : Instr} {i : Inst} {p : Contrib} {locks : List (Nat × Nat)}
      (run : exec instr s = .next (t.joinInst i p locks)) : exec instr s = .next (t.joinInst i p locks) ∧
      (StillOpen t i p locks → ∃ u, exec instr s = .next u ∧ Joined t u i p locks) :=
    ⟨run, fun waits => ⟨_, run, State.joinInst_joined waits⟩⟩
  refine ⟨fun p hp => ⟨?copies, ?copyFaults⟩, ?products, ?gather, ?formFaults⟩
  case copies =>
    intro s c x k w xd yd i ds t route d v rest issues ready operands
    subst operands
    exact joins ((exec_of_mem_copyTable hp issues w).trans (congrArg _ (State.startCopy_ready ready)))
  case copyFaults =>
    intro s c x k w issues missing
    refine ⟨_, (exec_of_mem_copyTable hp issues w).trans (congrArg _ (State.startCopy_missing _ c x k missing)), ?_⟩
    exact State.opFault_faulted _ c x (agentUnit c) 0 .descriptor 0 false
  case products =>
    intro p hp s c x k w y m a o i ds ps t u route q vals issues ready routed sound product values
    obtain ⟨run, multiplies⟩ := exec_of_mem_productForms hp issues w
    rw [State.startFused_multiplies multiplies ready routed sound product values] at run
    refine ⟨_, afterPasses_passesRun (State.mmaProduct_core product) _ _ _, ?_, ?_, joins run⟩
    · exact afterPasses_issuedLast (State.mmaProduct_core product) _
    · exact afterPasses_frame _ _ _
  case gather =>
    intro s c x k w y m a o i ds ps t u issues ready
    exact joins ((fused_issues issues w .allGather).trans (congrArg _ (State.startFused_gathers rfl ready)))
  case formFaults =>
    intro con hcon s c x k w issues
    obtain ⟨form, run⟩ := exec_of_mem_fusedForms hcon issues w
    obtain ⟨ctxs, started⟩ := s.started_eq c x
    have core : (s.started c x).core c = s.core c := by rw [started]; rfl
    refine ⟨fun missing => ?_, fun named held => ?_⟩
    · rw [← core] at missing
      rw [State.startFused_missing missing] at run
      exact ⟨_, run, State.partitionFault_partFaulted _ issues.core_lt (f := .descriptor) (by decide) x w.part 0 false⟩
    · rw [← core] at held
      rw [State.startFused_held named held] at run
      exact ⟨_, run, s.started_notYet c x⟩

end Sys2Proof.Machine
end

section
/-! What the lanes, the lasers and the port of a bring-up are after each of its writes (R442, R445, R447, R450). -/

namespace Sys2Proof.Machine

theorem OnlyRegs.refl (ks : List Nat) (s : State) : OnlyRegs ks s s := ⟨fun _ _ => rfl, rfl⟩

/-- One more write of a register that is named changes only those named. -/
theorem OnlyRegs.setReg {ks : List Nat} {s t : State} (h : OnlyRegs ks s t) {k : Nat} (named : k ∈ ks) (v : Nat) :
    OnlyRegs ks s (t.setReg k v) := by
  obtain ⟨regs, frame⟩ := h
  refine ⟨fun j hj => ?_, (State.setReg_regs t k v s.regs).trans frame⟩
  exact (State.reg_setReg_other t k v j fun e => hj (e ▸ named)).trans (regs j hj)

theorem State.portSet_setPort (s : State) (p : Nat) (v : Port) : PortSet s (s.setPort p v) p v :=
  ⟨State.port_setPort s p v, fun q hq => State.port_setPort_other s p q v hq, rfl⟩

theorem State.laserSet_setLaser (s : State) (p l : Nat) (v : Laser) : LaserSet s (s.setLaser p l v) p l v :=
  ⟨State.laser_setLaser s p l v, fun _ _ other => Sparse.get_set_other _ _ _ _ _ _ other, rfl⟩

/-! The objects of a lane and of its port are different ones -/

theorem Obj.laneState_ne_laneChannel (p l : Nat) : Obj.laneState p l ≠ Obj.laneChannel p l := by
  simp only [Obj.laneState, Obj.laneChannel, obj]; omega

theorem Obj.laneState_ne_minorInUse {p l : Nat} (hl : l ≤ 8) : Obj.laneState p l ≠ Obj.minorInUse p := by
  simp only [Obj.laneState, Obj.minorInUse, obj]; omega

theorem Obj.quarantineCount_ne_laneState {p l : Nat} (hl : l ≤ 8) : Obj.quarantineCount p ≠ Obj.laneState p l := by
  simp only [Obj.laneState, Obj.quarantineCount, obj]; omega

theorem Obj.quarantineCount_ne_peerFound (p : Nat) : Obj.quarantineCount p ≠ Obj.peerFound p := by
  simp only [Obj.peerFound, Obj.quarantineCount, obj]; omega

theorem Obj.portRate16ths_ne_portState (p : Nat) : Obj.portRate16ths p ≠ Obj.portState p := by
  simp only [Obj.portRate16ths, Obj.portState, obj]; omega

theorem Obj.laneFadeSim_ne_port (p l : Nat) :
    Obj.laneFadeSim p l ≠ Obj.portRate16ths p ∧ Obj.laneFadeSim p l ≠ Obj.portState p := by
  simp only [Obj.laneFadeSim, Obj.portRate16ths, Obj.portState, obj]; omega

/-! A port follows its lanes -/

/-- The lanes of a port that are in service. -/
def State.lanesUp (s : State) (p : Nat) : List Nat := (List.range 8).filter fun l => s.laneUp p l

/-- A port's rate in sixteenths (R450): what each of its lanes in service gives. -/
def State.rateNow (s : State) (p : Nat) : Nat :=
  ((s.lanesUp p).map fun l => if s.reg (Obj.laneModulation p (s.carrier p l)) = 1 then 1 else 2).sum

/-- A port with a lane in service has a list of such lanes that is not empty. -/
theorem State.lanesUp_isEmpty (s : State) (p : Nat) : (!(s.lanesUp p).isEmpty) = (List.range 8).any (s.laneUp p) := by
  rw [Bool.eq_iff_iff]
  simp [State.lanesUp]

/-- The port's registers hold the state and the rate that its lanes give it. -/
def State.portWritten (s : State) (p : Nat) : State :=
  (s.setReg (Obj.portRate16ths p) (s.rateNow p)).setReg (Obj.portState p) (s.portNow p)

/-- Its lasers fade as before. -/
theorem State.portWritten_faded (s : State) (p : Nat) :
    (List.range 9).any ((s.portWritten p).faded p) = (List.range 9).any (s.faded p) := by
  refine List.any_congr rfl fun l => ?_
  obtain ⟨rate, state⟩ := Obj.laneFadeSim_ne_port p l
  rw [State.faded, State.portWritten, State.reg_setReg_other _ _ _ _ state, State.reg_setReg_other _ _ _ _ rate, State.faded]

/-- The model settles a port at the state that its lanes give it (R450). -/
theorem State.settlePort_eq (s : State) (p : Nat) : s.settlePort p =
    if s.portNow p = 4 ∧ s.reg (Obj.portState p) = 2 then
      (s.portWritten p).report { blockReport 2 15 (rxPathId p) with injected := (List.range 9).any (s.faded p) }
    else s.portWritten p := by
  rw [← State.portWritten_faded, State.portWritten, State.portNow, ← State.lanesUp_isEmpty]
  rfl

theorem State.settlePort_portSettled (s : State) (p : Nat) : PortSettled s (s.settlePort p) p := by
  refine ⟨s.portWritten p, ?_, State.reg_setReg_same _ _ _, ?_, s.settlePort_eq p⟩
  · exact ((OnlyRegs.refl _ s).setReg (by simp) _).setReg (by simp) _
  · exact (State.reg_setReg_other _ _ _ _ (Obj.portRate16ths_ne_portState p)).trans (State.reg_setReg_same _ _ _)

end Sys2Proof.Machine
end

section
/-! Training, and what a laser says of itself (R442, R443, R445). -/

namespace Sys2Proof.Machine

/-- A lane that is not coming up, has trained already, or is above both rates, stays as it is. -/
theorem laneTrainingEnd_stays {s : State} {p l a b : Nat}
    (h : s.lane p l ≠ lnUp ∨ (s.laser p l).trained = true ∨ (100000 < a ∧ 3000000 < b)) :
    exec (.laneTrainingEnd p l a b) s = .next s := by
  change execLaneTrainingEnd p l a b s = .next s
  unfold execLaneTrainingEnd
  by_cases idle : s.lane p l ≠ lnUp ∨ (s.laser p l).trained = true
  · rw [if_pos idle]
  · rw [if_neg idle]
    exact if_pos ((or_assoc.2 h).resolve_left idle)

/-- A lane whose rates pass has trained: its modulation follows the rate in 16-QAM, and its identity leaves. -/
theorem laneTrainingEnd_trains {s : State} {p l a b : Nat} (up : s.lane p l = lnUp) (untrained : (s.laser p l).trained = false)
    (passes : a ≤ 100000 ∨ b ≤ 3000000) :
    exec (.laneTrainingEnd p l a b) s = .next (((s.setReg (Obj.laneModulation p l) (if a ≤ 100000 then 0 else 1)).setLaser p l
      { s.laser p l with trained := true }).sendIdentity p l false) := by
  change execLaneTrainingEnd p l a b s = _
  have idle : ¬ (s.lane p l ≠ lnUp ∨ (s.laser p l).trained = true) := by simp [up, untrained]
  have above : ¬ (rateClearPpb < a ∧ rateFallPpb < b) := by simp only [rateClearPpb, rateFallPpb]; omega
  unfold execLaneTrainingEnd
  rw [if_neg idle, if_neg above]
  rfl

/-- Each of two flags packed into one field reads back. -/
theorem bit_b2n_pair (a b : Bool) : bit (b2n a + 2 * b2n b) 0 = a ∧ bit (b2n a + 2 * b2n b) 1 = b := by
  revert a b; decide

/-- The lane that an identity names (R443) sets bit 3 for LS alone. -/
theorem b2n_spare (l : Nat) : 8 * b2n (l == spare) = if l = spare then 8 else 0 := by
  by_cases h : l = spare <;> simp [b2n, h]

theorem laneBringupRetry_again {s : State} {p l : Nat} (up : s.lane p l = lnUp) (untrained : (s.laser p l).trained = false) :
    exec (.laneBringupRetry p l) s = .next (s.bringUp p l (s.reg (Obj.laneChannel p l))) :=
  if_pos ⟨up, by rw [untrained]; rfl⟩

theorem laneBringupRetry_stays {s : State} {p l : Nat} (h : s.lane p l ≠ lnUp ∨ (s.laser p l).trained = true) :
    exec (.laneBringupRetry p l) s = .next s := by
  refine if_neg fun ⟨up, untrained⟩ => ?_
  rw [h.resolve_left fun down => down up] at untrained
  exact absurd untrained (by decide)

/-! The bring-up itself -/

/-- The port of a bring-up (R445): a rack port adopts its byte of the remap, an inter-rack port has none. -/
def State.remapped (s : State) (p : Nat) : Port :=
  { s.port p with remap := if p < 12 then some (s.reg Obj.portRemap / 256 ^ p % 256) else none }

/-- A laser that is not lost until power-on starts over on its channel, and its port follows. -/
theorem State.bringUp_eq {s : State} {p l : Nat} (kept : (s.laser p l).lost = false) (ch : Nat) : s.bringUp p l ch =
    ((((s.setPort p (s.remapped p)).setLaser p l { s.laser p l with trained := false, relocks := 0 }).setLane p l lnUp).setReg
      (Obj.laneChannel p l) ch).settlePort p := by
  unfold State.bringUp State.remapped
  rw [kept]
  by_cases rack : p < 12
  · simp only [rack, if_true]; rfl
  · simp only [rack, if_false]; rfl

theorem State.bringUp_lost {s : State} {p l : Nat} (lost : (s.laser p l).lost = true) (ch : Nat) : s.bringUp p l ch = s := if_pos lost

theorem State.bringUp_brings {s : State} {p l : Nat} (kept : (s.laser p l).lost = false) (ch : Nat) : ∃ u v w,
    PortSet s u p (s.remapped p) ∧ LaserSet u v p l { s.laser p l with trained := false, relocks := 0 } ∧
    OnlyRegs [Obj.laneState p l, Obj.laneChannel p l] v w ∧ w.lane p l = lnUp ∧ w.reg (Obj.laneChannel p l) = ch ∧
    PortSettled w (s.bringUp p l ch) p := by
  refine ⟨_, _, _, s.portSet_setPort p _, State.laserSet_setLaser _ p l _,
    ((OnlyRegs.refl _ _).setReg (k := Obj.laneState p l) (by simp) lnUp).setReg (k := Obj.laneChannel p l) (by simp) ch,
    ?_, State.reg_setReg_same _ _ _, ?_⟩
  · exact (State.reg_setReg_other _ _ _ _ (Obj.laneState_ne_laneChannel p l)).trans (State.reg_setReg_same _ _ _)
  · rw [State.bringUp_eq kept]
    exact State.settlePort_portSettled _ p

end Sys2Proof.Machine
end

section
/-! The identity that is heard (R443, R444, R446, R479), and a lane of the drawing that is in service again (R472). -/

namespace Sys2Proof.Machine

/-- The avoided list once a laser that is on has seen a chip under the epoch `e` (R479): the chip stays only if it entered no earlier. -/
def State.avoidedAfter (s : State) (p l e chip : Nat) : List (Nat × Nat) :=
  if s.laserOn p l = true then s.fabric.avoided.filter fun a => a.1 != chip || decide (e ≤ a.2) else s.fabric.avoided

/-- The package has heard the identity `r` under the epoch `e` (R443, R479): the carrier of lane 0 shows what it has found. -/
def State.heardIdentity (s : State) (p l e : Nat) (r : IdRecord) : State :=
  let u : State := { s with fabric := { s.fabric with avoided := s.avoidedAfter p l e r.chip } }
  if l = s.carrier p 0 ∧ s.laserOn p l = true then u.setReg (Obj.peerFound p) (fromBytes (idBytes r)) else u

/-- A lane whose identity is judged (R444, R446): it has trained, or it is in quarantine. -/
def State.identityReady (s : State) (p l : Nat) : Prop :=
  (s.lane p l = lnUp ∧ (s.laser p l).trained = true) ∨ s.lane p l = lnQuarantine

/-- The lane enters service (R444): the minor version in use is 0. -/
def State.identityAccepted (u : State) (p l : Nat) : State := (u.setLane p l lnService).setReg (Obj.minorInUse p) 0

/-- The lane enters quarantine, counted (R446). -/
def State.identityRefused (u : State) (p l : Nat) : State := (u.setLane p l lnQuarantine).count 32 (Obj.quarantineCount p)

section
variable (s : State) (p l e : Nat) (r : IdRecord)

/-- Hearing an identity writes one register beside the avoided list. -/
theorem State.heardIdentity_frame :
    OnlyRegs [Obj.peerFound p] { s with fabric := (s.heardIdentity p l e r).fabric } (s.heardIdentity p l e r) ∧
    (s.heardIdentity p l e r).fabric = { s.fabric with avoided := s.avoidedAfter p l e r.chip } := by
  by_cases shown : l = s.carrier p 0 ∧ s.laserOn p l = true
  · rw [State.heardIdentity, if_pos shown]
    exact ⟨State.onlyRegs_setReg _ _ _, rfl⟩
  · rw [State.heardIdentity, if_neg shown]
    exact ⟨OnlyRegs.refl _ _, rfl⟩

theorem State.heardIdentity_peerFound : (s.heardIdentity p l e r).reg (Obj.peerFound p) =
    if l = s.carrier p 0 ∧ s.laserOn p l = true then fromBytes (idBytes r) else s.reg (Obj.peerFound p) := by
  by_cases shown : l = s.carrier p 0 ∧ s.laserOn p l = true
  · rw [State.heardIdentity, if_pos shown, if_pos shown]
    exact State.reg_setReg_same _ _ _
  · rw [State.heardIdentity, if_neg shown, if_neg shown]
    rfl

theorem State.heardIdentity_reg {k : Nat} (other : k ≠ Obj.peerFound p) : (s.heardIdentity p l e r).reg k = s.reg k := by
  obtain ⟨⟨regs, -⟩, -⟩ := s.heardIdentity_frame p l e r
  exact regs k (by simpa using other)

variable {s p l e r}

/-- What the model hears of an identity, before it judges it. -/
theorem State.heardIdentity_eq : s.heardIdentity p l e r =
    (let s0 := if s.laserOn p l then s.seenUnder r.chip e else s
     if l = s.carrier p 0 ∧ s.laserOn p l then s0.setReg (Obj.peerFound p) (fromBytes (idBytes r)) else s0) := by
  by_cases on : s.laserOn p l = true
  · rw [State.heardIdentity, State.avoidedAfter, if_pos on, if_pos on]
    rfl
  · rw [State.heardIdentity, State.avoidedAfter, if_neg on, if_neg on]

/-- An identity is heard; where it is judged, it ends in one of three ways. -/
theorem exec_identityFrame_eq : exec (.identityFrame p l ⟨e, r⟩) s =
    (let u := s.heardIdentity p l e r
     if !((s.lane p l == lnUp && (s.laser p l).trained) || s.lane p l == lnQuarantine) then .next u
     else if u.identityAgrees p l r = true then .next (((u.identityAccepted p l).regainLane p l).settlePort p).retryTransit
     else if s.lane p l = lnQuarantine then .next u
     else .next ((((u.identityRefused p l).laneEvent p l).sendIdentity p l true).settlePort p)) := by
  rw [State.heardIdentity_eq]
  rfl

theorem State.identityReady_iff :
    ((s.lane p l == lnUp && (s.laser p l).trained) || s.lane p l == lnQuarantine) = true ↔ s.identityReady p l := by
  simp [State.identityReady]

/-- An identity that is not judged, or that still differs in quarantine, is heard and no more. -/
theorem identityFrame_heard (h : ¬ s.identityReady p l ∨
    (s.lane p l = lnQuarantine ∧ (s.heardIdentity p l e r).identityAgrees p l r = false)) :
    exec (.identityFrame p l ⟨e, r⟩) s = .next (s.heardIdentity p l e r) := by
  rw [exec_identityFrame_eq]
  rcases h with unready | ⟨held, differs⟩
  · rw [← State.identityReady_iff, Bool.not_eq_true] at unready
    simp [unready]
  · simp [differs, held]

/-- An identity that agrees puts its lane in service, and what waited for it goes on. -/
theorem identityFrame_accepts (hl : l ≤ 8) (ready : s.identityReady p l)
    (agrees : (s.heardIdentity p l e r).identityAgrees p l r = true) : ∃ v t,
    OnlyRegs [Obj.laneState p l, Obj.minorInUse p] (s.heardIdentity p l e r) v ∧ v.lane p l = lnService ∧
    v.reg (Obj.minorInUse p) = 0 ∧ PortSettled (v.regainLane p l) t p ∧
    exec (.identityFrame p l ⟨e, r⟩) s = .next t.retryTransit := by
  refine ⟨(s.heardIdentity p l e r).identityAccepted p l, _, ?_, ?_, State.reg_setReg_same _ _ _,
    State.settlePort_portSettled _ p, ?_⟩
  · exact ((OnlyRegs.refl _ _).setReg (by simp) _).setReg (by simp) _
  · exact (State.reg_setReg_other _ _ _ _ (Obj.laneState_ne_minorInUse hl)).trans (State.reg_setReg_same _ _ _)
  · rw [exec_identityFrame_eq, State.identityReady_iff.2 ready]
    simp [agrees]

/-- An identity that differs puts a trained lane in quarantine, counted; the lane answers with its own. -/
theorem identityFrame_refuses (hl : l ≤ 8) (ready : s.identityReady p l) (up : s.lane p l = lnUp)
    (differs : (s.heardIdentity p l e r).identityAgrees p l r = false) : ∃ v t,
    OnlyRegs [Obj.laneState p l, Obj.quarantineCount p] (s.heardIdentity p l e r) v ∧ v.lane p l = lnQuarantine ∧
    v.reg (Obj.quarantineCount p) = (s.reg (Obj.quarantineCount p) + 1) % 2 ^ 32 ∧
    exec (.identityFrame p l ⟨e, r⟩) s = .next t ∧ PortSettled ((v.laneEvent p l).sendIdentity p l true) t p := by
  have apart := Obj.quarantineCount_ne_laneState (p := p) hl
  refine ⟨(s.heardIdentity p l e r).identityRefused p l, _, ?_, ?_, ?_, ?_, State.settlePort_portSettled _ p⟩
  · exact ((OnlyRegs.refl _ _).setReg (by simp) _).setReg (by simp) _
  · exact (State.reg_setReg_other _ _ _ _ apart.symm).trans (State.reg_setReg_same _ _ _)
  · rw [State.identityRefused, State.reg_count, if_pos rfl, State.setLane, State.reg_setReg_other _ _ _ _ apart,
      State.heardIdentity_reg s p l e r (Obj.quarantineCount_ne_peerFound p)]
  · rw [exec_identityFrame_eq, State.identityReady_iff.2 ready]
    simp [differs, up, lnUp, lnQuarantine]

end

theorem State.identityAgrees_iff (s : State) (p l : Nat) (r : IdRecord) : s.identityAgrees p l r = true ↔ r.major = 1 ∧
    s.chip ≠ 0xFFFF ∧ s.expects p l = some r.chip ∧ r.logicalPort = s.logicalPort p ∧ r.expectedChip = s.chip ∧
    r.expectedPort = s.logicalPort p := by
  simp only [State.identityAgrees, Bool.and_eq_true, beq_iff_eq, bne_iff_ne, and_assoc]

theorem State.regainLane_kept {s : State} {p l : Nat} (kept : l ∉ (s.port p).lostLanes) : s.regainLane p l = s :=
  if_neg (by simpa using kept)

/-- A lane of the drawing that was lost and is in service again raises event 4 (R472). -/
theorem State.regainLane_lost {s : State} {p l : Nat} (lost : l ∈ (s.port p).lostLanes) : ∃ u v,
    PortSet s u p { s.port p with lostLanes := (s.port p).lostLanes.filter fun m => m != l } ∧ OnlyRegs [Obj.pisteEventCount] u v ∧
    v.reg Obj.pisteEventCount = (s.reg Obj.pisteEventCount + 1) % 2 ^ 32 ∧
    s.regainLane p l = v.raise Obj.lastPisteEvent (s.pisteBytes 4 p l 0 ((s.drawnLane p l).elim 0 fun e => e.txChip)) := by
  obtain ⟨regs, counted⟩ := State.count_counted (s.setPort p _) 32 Obj.pisteEventCount
  refine ⟨_, _, s.portSet_setPort p _, regs, counted, (if_pos (by simpa using lost)).trans ?_⟩
  cases s.drawnLane p l <;> rfl

end Sys2Proof.Machine
end

section
/-! The remap and the chip number, with what follows them (R445, R446, R457, R458), and the statement of bring-up. -/

namespace Sys2Proof.Machine

theorem isRemap_iff (m : List Nat) : isRemap m = true ↔ m.length = 12 ∧ ∀ i, i < 12 → i ∈ m := by
  simp [isRemap]

/-- A session that may write it has a permutation of the ports adopted, and anything else ignored. -/
theorem portRemapWrite_run {s : State} {sess : Nat} (may : MayWrite s sess 0x5000 5) (m : List Nat) :
    exec (.portRemapWrite sess m) s = .next (
      if isRemap m = true then (s.setReg Obj.portRemap (fromBytes (m.map (BitVec.ofNat 8)))).retryQuarantine else s) :=
  congrArg Host.Outcome.next (State.guarded_may _ may)

/-- A session that may write it has a chip number adopted in READY, while no tenant is admitted. -/
theorem chipNumberWrite_run {s : State} {sess : Nat} (may : MayWrite s sess 0x6000 1) (v : Nat) :
    exec (.chipNumberWrite sess v) s = .next (
      if s.device = devReady ∧ s.notFree.isEmpty = true ∧ (v ≤ 0x3FFF ∨ v = 0xFFFF) then
        (s.setReg Obj.chipNumber v).settleRacks.retryQuarantine else s) :=
  congrArg Host.Outcome.next (State.guarded_may _ may)

theorem chipNumberWrite_ignored {s : State} {sess v : Nat} (may : MayWrite s sess 0x6000 1)
    (h : s.device ≠ devReady ∨ s.notFree ≠ [] ∨ (0x3FFF < v ∧ v ≠ 0xFFFF)) : exec (.chipNumberWrite sess v) s = .next s := by
  rw [chipNumberWrite_run may, if_neg]
  rintro ⟨ready, free, number⟩
  rcases h with unready | busy | ⟨large, set⟩
  · exact unready ready
  · exact busy (List.isEmpty_iff.1 free)
  · exact number.elim (fun small => absurd small (by omega)) set

/-- Every laser of every port, in the order of their numbers (R451). -/
theorem allLasers_eq : ((List.range 16).flatMap fun p => (List.range 9).map fun l => (p, l)) =
    (List.range 144).map fun i => (i / 9, i % 9) := by
  rfl

theorem State.retryQuarantine_eq (s : State) : s.retryQuarantine =
    ((List.range 16).flatMap fun p => (List.range 9).map fun l => (p, l)).foldl (fun t q =>
      if t.lane q.1 q.2 = lnQuarantine then t.bringUp q.1 q.2 (t.reg (Obj.laneChannel q.1 q.2)) else t) s := by
  rw [allLasers_eq, List.foldl_map]
  rfl

theorem State.settleRacks_eq (s : State) : s.settleRacks = [12, 13, 14, 15].foldl (fun t p =>
    if t.portUsed p = false then (if (List.range 9).all (fun l => t.lane p l == lnOff) then t else t.darken p)
    else if t.lane p 0 = lnOff then (t.bringUp p 0 (baseChannel p)).wakeSpare p else t) s := by
  rw [show [12, 13, 14, 15] = (List.range 4).map (12 + ·) from rfl, List.foldl_map]
  simp only [State.settleRacks, Bool.not_eq_true']

/-- Settles O40: a lane trains, is identified, and tries again when the remap or the chip number changes. -/
theorem laneBringUp : Obligations.LaneBringUp := by
  refine ⟨fun _ _ _ _ _ => laneTrainingEnd_stays, ?trains, ?record,
    fun _ _ _ => ⟨laneBringupRetry_again, laneBringupRetry_stays⟩, fun _ _ _ ch lost => State.bringUp_lost lost ch,
    fun _ _ _ ch _ _ kept => State.bringUp_brings kept ch, ?identity, State.identityAgrees_iff,
    fun _ _ _ => State.regainLane_kept, fun _ _ _ => State.regainLane_lost, isRemap_iff, ?remap, ?chipNumber,
    State.retryQuarantine_eq, State.settleRacks_eq⟩
  case trains =>
    intro s p l a b _ _ up untrained passes
    exact ⟨_, _, _, laneTrainingEnd_trains up untrained passes, s.onlyRegs_setReg _ _, State.reg_setReg_same _ _ _,
      State.laserSet_setLaser _ p l _, rfl⟩
  case record =>
    intro s p l q
    obtain ⟨quarantine, remapped⟩ := bit_b2n_pair q (s.logicalPort p != p)
    refine ⟨rfl, rfl, rfl, rfl, rfl, congrArg _ (b2n_spare l), rfl, rfl, rfl, rfl, quarantine, ?_⟩
    exact (Bool.eq_iff_iff.1 remapped).trans bne_iff_ne
  case identity =>
    intro s p l e r _ hl
    obtain ⟨frame, fabric⟩ := s.heardIdentity_frame p l e r
    exact ⟨s.heardIdentity p l e r, frame, by rw [fabric], congrArg Fabric.avoided fabric, s.heardIdentity_peerFound p l e r,
      identityFrame_heard, identityFrame_accepts hl, identityFrame_refuses hl⟩
  case remap =>
    intro s sess m may
    refine ⟨fun other => ?_, fun remap => ⟨_, s.onlyRegs_setReg _ _, State.reg_setReg_same _ _ _, ?_⟩⟩
    · rw [portRemapWrite_run may, other]; rfl
    · rw [portRemapWrite_run may, if_pos remap]
  case chipNumber =>
    intro s sess v may
    refine ⟨chipNumberWrite_ignored may, fun ready free number => ⟨_, s.onlyRegs_setReg _ _, State.reg_setReg_same _ _ _, ?_⟩⟩
    rw [chipNumberWrite_run may, if_pos ⟨ready, List.isEmpty_iff.2 free, number⟩]

end Sys2Proof.Machine
end

section
/-! The settings in force at the arbiters' sites (R495, R498): those of the last commit. -/

namespace Sys2Proof.Machine

/-- The shadowed settings of a site: what its two objects hold (R498, R502). -/
def State.shadowed (s : State) (site : Nat) : Nat × Nat := (s.reg (Obj.requesterOffsets site), s.reg (Obj.classFloors site))

/-- A lookup in the list of those values, each under its number, that differ from their defaults. -/
theorem find?_filterMap_nondefault {α : Type} [DecidableEq α] (value dflt : Nat → α) (ks : List Nat) (k : Nat) :
    ((ks.filterMap fun j => if value j = dflt j then none else some (j, value j)).find? fun p => decide (p.1 = k)) =
      if k ∈ ks ∧ value k ≠ dflt k then some (k, value k) else none := by
  induction ks with
  | nil => simp
  | cons j ks ih =>
    rw [List.filterMap_cons]
    by_cases unset : value j = dflt j
    · rw [if_pos unset]
      dsimp only
      rw [ih]
      by_cases same : k = j
      · subst same; simp [unset]
      · simp [same]
    · rw [if_neg unset]
      dsimp only
      rw [List.find?_cons, ih]
      by_cases same : k = j
      · subst same; simp [unset]
      · simp [same, Ne.symm same]

/-- A commit changes the settings in force alone. -/
theorem State.commitArbiters_frame (s : State) :
    { s.commitArbiters with fabric := { s.commitArbiters.fabric with settings := s.fabric.settings } } = s := rfl

/-- After a commit each site's shadowed settings are in force. -/
theorem State.siteSettings_commitArbiters (s : State) {k : Nat} (site : k ∈ arbiterSites) :
    s.commitArbiters.siteSettings k = s.shadowed k := by
  have listed := find?_filterMap_nondefault s.shadowed
    (fun j => (regDefault (Obj.requesterOffsets j), regDefault (Obj.classFloors j))) arbiterSites k
  have committed : (s.commitArbiters.fabric.settings.find? fun p => decide (p.1 = k)) = _ := listed
  unfold State.siteSettings
  rw [committed]
  by_cases dflt : s.shadowed k = (regDefault (Obj.requesterOffsets k), regDefault (Obj.classFloors k))
  · rw [if_neg fun h => h.2 dflt, dflt]
  · rw [if_pos ⟨site, dflt⟩]

theorem arbiterCommitNow_commits {s : State} {sess : Nat} (may : MayWrite s sess 0x6300 1) :
    exec (.arbiterCommitNow sess) s = .next s.commitArbiters :=
  congrArg Host.Outcome.next (State.guarded_may _ may)

theorem arbiterCommitGate_schedules {s : State} {sess : Nat} (may : MayWrite s sess 0x6300 1) (period : 0 < s.gatePeriod)
    (room : s.schedCount < 256) : exec (.arbiterCommitGate sess) s =
      .next { s with time := { s.time with events := s.time.events ++ [⟨s.nextGate, .arbiter⟩] } } :=
  congrArg Host.Outcome.next
    ((State.guarded_may _ may).trans (State.scheduleLocal_next s .arbiter period room s.nextGate (Nat.le_refl _)))

/-- Settles O56: a write of the shadow objects alone leaves what is in force; a commit, at once or at its gate, applies them. -/
theorem arbiterSettingsInForce : Obligations.ArbiterSettingsInForce :=
  ⟨fun _ _ => arbiterCommitNow_commits,
    fun s => ⟨_, rfl, s.commitArbiters_frame, fun _ => s.siteSettings_commitArbiters⟩,
    fun _ _ _ _ _ => rfl,
    fun _ _ => arbiterCommitGate_schedules,
    fun _ _ => ⟨rfl, rfl⟩⟩

end Sys2Proof.Machine
end

section
/-! Drawings stored and refused (R466, R467), and the slalom that is armed whole or not at all (R468, R471). -/

namespace Sys2Proof.Machine

/-! Drawings -/

theorem drawingWrite_run {s : State} {sess slot : Nat} {d : Drawing} (may : MayWrite s sess 0x6010 slot) :
    exec (.drawingWrite sess slot d) s =
      .next (if s.drawingOk d then s.storeDrawing slot d else s.count 32 Obj.drawingRejectCount) :=
  congrArg Host.Outcome.next (State.guarded_may _ may)

/-- Values that change raise their generations alone (R669). -/
theorem State.foldl_bump_eq {α : Type} (key : α → Nat) (l : List α) (s : State) :
    ∃ g, l.foldl (fun t a => t.bump (key a)) s = { s with generations := g } := by
  induction l generalizing s with
  | nil => exact ⟨s.generations, rfl⟩
  | cons a l ih => exact ih (s.bump (key a))

/-- A drawing in force is neither replaced nor removed (R467). -/
theorem State.storeDrawing_inForce {s : State} {slot : Nat} {d : Drawing}
    (h : s.drawingInForceIs d.drawingId = true ∨ ∃ o, s.stored slot = some o ∧ s.drawingInForceIs o.drawingId = true) :
    s.storeDrawing slot d = s := by
  unfold State.storeDrawing
  refine if_pos ?_
  rcases h with same | ⟨o, stored, there⟩
  · rw [same, Bool.or_true]
  · rw [stored]
    dsimp only
    rw [there, Bool.true_or]

/-- Any other takes its slot, and a stored drawing of its id gives way (R467). -/
theorem State.storeDrawing_stores {s : State} {slot : Nat} {d : Drawing} (other : s.drawingInForceIs d.drawingId = false)
    (free : ∀ o, s.stored slot = some o → s.drawingInForceIs o.drawingId = false) :
    ∃ g, s.storeDrawing slot d = { s with
      generations := g
      fabric := { s.fabric with
        store := Sparse.insert slot d (s.fabric.store.filter fun p => p.2.drawingId != d.drawingId) } } := by
  unfold State.storeDrawing
  dsimp only
  rw [if_neg]
  · obtain ⟨g, h⟩ := State.foldl_bump_eq (fun p : Nat × Drawing => Obj.drawingStore p.1)
      (s.fabric.store.filter fun p => p.2.drawingId == d.drawingId && p.1 != slot)
      (if s.stored slot = some d then s else s.bump (Obj.drawingStore slot))
    rw [h]
    split
    · exact ⟨g, rfl⟩
    · exact ⟨g, rfl⟩
  · rw [other, Bool.or_false]
    split
    · next o stored => rw [free o stored]; exact Bool.false_ne_true
    · exact Bool.false_ne_true

/-! The slalom -/

theorem slalomArm_run {s : State} {sess : Nat} (may : MayWrite s sess 0x6021 1) : exec (.slalomArm sess) s = .next (
    if s.slalomSteps.isEmpty then s
    else if !(gatesRise s.slalomSteps &&
        (s.slalomSteps.all fun k => k.2.1 % (1024 * s.gatePeriod) == 0 && (s.drawingNamed k.2.2).isSome) &&
        decide (s.schedCount + s.slalomSteps.length ≤ 256)) then s.setReg Obj.slalomState 2
    else (s.slalomSteps.foldl (fun u k =>
        if k.2.1 / 1024 ≤ u.beatNo then u.lateSlalom k.1 else u.schedule ⟨k.2.1 / 1024, .slalom k.1 k.2.2⟩)
        (s.setReg Obj.slalomState 1)).settleSlalom) :=
  congrArg Host.Outcome.next (State.guarded_may _ may)

theorem slalomArm_empty {s : State} {sess : Nat} (may : MayWrite s sess 0x6021 1) (none_valid : s.slalomSteps = []) :
    exec (.slalomArm sess) s = .next s := by
  rw [slalomArm_run may, if_pos (List.isEmpty_iff.2 none_valid)]

/-- One valid step that may not be armed refuses them all (R468). -/
theorem slalomArm_refuses {s : State} {sess : Nat} (may : MayWrite s sess 0x6021 1) (some_valid : s.slalomSteps ≠ [])
    (bad : gatesRise s.slalomSteps = false ∨
      (∃ k ∈ s.slalomSteps, k.2.1 % (1024 * s.gatePeriod) ≠ 0 ∨ s.drawingNamed k.2.2 = none) ∨
      256 < s.schedCount + s.slalomSteps.length) :
    exec (.slalomArm sess) s = .next (s.setReg Obj.slalomState 2) := by
  rw [slalomArm_run may, if_neg (mt List.isEmpty_iff.1 some_valid), if_pos]
  rw [Bool.not_eq_true', ← Bool.not_eq_true]
  simp only [Bool.and_eq_true, List.all_eq_true, beq_iff_eq, decide_eq_true_eq]
  rintro ⟨⟨rise, steps⟩, room⟩
  rcases bad with flat | ⟨k, hk, offGate | unnamed⟩ | full
  · exact Bool.false_ne_true (flat.symm.trans rise)
  · exact offGate (steps k hk).1
  · exact Option.isSome_iff_ne_none.1 (steps k hk).2 unnamed
  · omega

/-- Steps that may all be armed are entered one after the other (R468, R471). -/
theorem slalomArm_arms {s : State} {sess : Nat} (may : MayWrite s sess 0x6021 1) (some_valid : s.slalomSteps ≠ [])
    (rise : gatesRise s.slalomSteps = true)
    (steps : ∀ k ∈ s.slalomSteps, k.2.1 % (1024 * s.gatePeriod) = 0 ∧ (s.drawingNamed k.2.2).isSome = true)
    (room : s.schedCount + s.slalomSteps.length ≤ 256) : exec (.slalomArm sess) s =
      .next ((s.slalomSteps.foldl (fun u k =>
        if k.2.1 / 1024 ≤ u.beatNo then u.lateSlalom k.1 else u.schedule ⟨k.2.1 / 1024, .slalom k.1 k.2.2⟩)
        (s.setReg Obj.slalomState 1)).settleSlalom) := by
  rw [slalomArm_run may, if_neg (mt List.isEmpty_iff.1 some_valid), if_neg]
  simp only [rise, Bool.true_and, Bool.not_eq_true, Bool.not_eq_false', Bool.and_eq_true, List.all_eq_true, beq_iff_eq,
    decide_eq_true_eq]
  exact ⟨steps, room⟩

/-- The event of a slalom step (R469). -/
def slalomEvent (k : Nat × Nat × Nat) : Sched := ⟨k.2.1 / 1024, .slalom k.1 k.2.2⟩

/-- With room in the table, a slalom step's event is entered at its end, and one entry fewer is left (R59). -/
theorem State.schedule_slalomEvent {s : State} (room : s.schedCount < 256) (k : Nat × Nat × Nat) :
    s.schedule (slalomEvent k) = { s with time := { s.time with events := s.time.events ++ [slalomEvent k] } } ∧
    (s.schedule (slalomEvent k)).schedCount = s.schedCount + 1 := by
  have entered : s.schedule (slalomEvent k) = { s with time := { s.time with events := s.time.events ++ [slalomEvent k] } } :=
    if_pos (by rw [decide_eq_true room, Bool.or_true])
  refine ⟨entered, ?_⟩
  rw [entered]
  simp [State.schedCount, slalomEvent, SchedKind.isCommit]

/-- Slalom steps that are all still to come, with room for them all, are all entered in their order. -/
theorem State.foldl_schedule_slalom (ks : List (Nat × Nat × Nat)) {s : State} (toCome : ∀ k ∈ ks, s.beatNo < k.2.1 / 1024)
    (room : s.schedCount + ks.length ≤ 256) :
    ks.foldl (fun u k => if k.2.1 / 1024 ≤ u.beatNo then u.lateSlalom k.1 else u.schedule (slalomEvent k)) s =
      { s with time := { s.time with events := s.time.events ++ ks.map slalomEvent } } := by
  induction ks generalizing s with
  | nil => rw [List.map_nil, List.append_nil]; rfl
  | cons k ks ih =>
    rw [List.length_cons] at room
    obtain ⟨entered, count⟩ := State.schedule_slalomEvent (s := s) (by omega) k
    have beat : (s.schedule (slalomEvent k)).beatNo = s.beatNo := by rw [entered]; rfl
    rw [List.foldl_cons, if_neg (Nat.not_le.2 (toCome k List.mem_cons_self)),
      ih (fun j hj => beat ▸ toCome j (List.mem_cons_of_mem k hj)) (by omega), entered]
    simp only [List.append_assoc, List.map_cons, List.singleton_append]

/-- While a slalom step waits, the slalom's state stays and its next step is named (R500). -/
theorem State.settleSlalom_waiting {s : State} {k : Nat × Nat × Nat} (waits : slalomEvent k ∈ s.time.events) :
    ∃ n, s.settleSlalom = s.setReg Obj.slalomNext n := by
  unfold State.settleSlalom
  dsimp only
  split
  · next none_waits =>
    have := List.filterMap_eq_nil_iff.1 none_waits _ waits
    exact absurd this (Option.some_ne_none _)
  · exact ⟨_, rfl⟩

/-- Steps that are all still to come are all entered, and nothing else but the slalom's registers changes. -/
theorem slalomArm_entersAll {s : State} {sess : Nat} (may : MayWrite s sess 0x6021 1) (some_valid : s.slalomSteps ≠ [])
    (rise : gatesRise s.slalomSteps = true)
    (steps : ∀ k ∈ s.slalomSteps,
      k.2.1 % (1024 * s.gatePeriod) = 0 ∧ (s.drawingNamed k.2.2).isSome = true ∧ s.beatNo < k.2.1 / 1024)
    (room : s.schedCount + s.slalomSteps.length ≤ 256) :
    ∃ t, exec (.slalomArm sess) s = .next t ∧ t.reg Obj.slalomState = 1 ∧
      t.time.events = s.time.events ++ s.slalomSteps.map slalomEvent ∧
      OnlyRegs [Obj.slalomState, Obj.slalomNext] { s with time := t.time } t := by
  have entered := State.foldl_schedule_slalom s.slalomSteps (s := s.setReg Obj.slalomState 1)
    (fun k hk => (steps k hk).2.2) room
  obtain ⟨k, ks, first⟩ := List.exists_cons_of_ne_nil some_valid
  obtain ⟨n, settled⟩ := State.settleSlalom_waiting (k := k) (s := { s.setReg Obj.slalomState 1 with
    time := { s.time with events := s.time.events ++ s.slalomSteps.map slalomEvent } }) (by
      rw [first]; exact List.mem_append_right _ List.mem_cons_self)
  refine ⟨_, slalomArm_arms may some_valid rise (fun k hk => ⟨(steps k hk).1, (steps k hk).2.1⟩) room, ?_⟩
  have reached : (s.slalomSteps.foldl (fun u k =>
      if k.2.1 / 1024 ≤ u.beatNo then u.lateSlalom k.1 else u.schedule ⟨k.2.1 / 1024, .slalom k.1 k.2.2⟩)
      (s.setReg Obj.slalomState 1)).settleSlalom = _ := (congrArg State.settleSlalom entered).trans settled
  rw [reached]
  refine ⟨?_, rfl, ?_⟩
  · exact (State.reg_setReg_other _ _ _ _ (by decide)).trans (State.reg_setReg_same s Obj.slalomState 1)
  · exact ((OnlyRegs.refl _ { s with time := { s.time with events := s.time.events ++ s.slalomSteps.map slalomEvent } }).setReg
      List.mem_cons_self 1).setReg (List.mem_cons_of_mem _ List.mem_cons_self) n

/-- Settles O30: a drawing is stored or counted as refused, and the slalom is armed whole or refused whole. -/
theorem drawingsInForce : Obligations.DrawingsInForce := by
  refine ⟨?refused, ?stored, ?inForce, fun _ _ => slalomArm_empty, fun _ _ => slalomArm_refuses, fun _ _ => slalomArm_arms,
    fun _ _ => slalomArm_entersAll⟩
  case refused =>
    intro s sess slot d may bad
    rw [drawingWrite_run may, bad]
    exact ⟨_, rfl, State.reg_setReg_same _ _ _, s.onlyRegs_setReg _ _⟩
  case stored =>
    intro s sess slot d may ok other free
    obtain ⟨g, run⟩ := State.storeDrawing_stores other free
    refine ⟨s.storeDrawing slot d, by rw [drawingWrite_run may, if_pos ok], ?_⟩
    rw [run]
    refine ⟨?_, fun p hp same => ?_, rfl⟩
    · rw [State.stored, Sparse.find?_insert, if_pos rfl]
      rfl
    · rcases Sparse.mem_insert _ _ _ _ hp with rfl | kept
      · rfl
      · exact absurd same (bne_iff_ne.1 (List.mem_filter.1 kept).2)
  case inForce =>
    intro s sess slot d may ok there
    rw [drawingWrite_run may, if_pos ok, State.storeDrawing_inForce there]

end Sys2Proof.Machine
end

section
/-! The life of a package, and the lasers that stay retired, over a reset (R432, R593, R681). -/

namespace Sys2Proof.Machine

/-- With no packet held, an advance of the epoch lets none take effect (R475). -/
theorem State.releaseHeld_of_none {s : State} (none_held : s.fabric.held = []) : s.releaseHeld = s := by
  have same : { s with fabric := { s.fabric with held := [] } } = s := by rw [← none_held]
  unfold State.releaseHeld
  rw [none_held]
  exact same

/-- With no packet held, a life is written and the membership epoch with it, and nothing else but generations changes (R593). -/
theorem State.setLife_eq {s : State} (none_held : s.fabric.held = []) (chip v : Nat) : ∃ g e, s.setLife chip v =
    { s with life := Sparse.set 0 chip (v % 2 ^ 16) s.life, generations := g }.setReg Obj.membershipEpoch e := by
  unfold State.setLife
  dsimp only
  split
  · exact ⟨s.generations, _, State.releaseHeld_of_none none_held⟩
  · exact ⟨_, _, State.releaseHeld_of_none none_held⟩

theorem laserKey_div_mod {p l : Nat} (hl : l < 9) : laserKey p l / 9 = p ∧ laserKey p l % 9 = l := by
  unfold laserKey; omega

theorem laserKey_lt {p l : Nat} (hp : p < 16) (hl : l < 9) : laserKey p l < 144 := by
  unfold laserKey; omega

/-- Laser i of the package's 144 is retired until the next power-on (R432). -/
def State.retireLaser (s : State) (i : Nat) : State :=
  (s.setLaser (i / 9) (i % 9) { lost := true }).setReg (Obj.laneState (i / 9) (i % 9)) 7

/-- The lasers that are retired until the next power-on. -/
def State.retired (s : State) : List Nat := (List.range 144).filter fun i => (s.laser (i / 9) (i % 9)).lost

theorem State.keepRetired_eq (s old : State) : s.keepRetired old = old.retired.foldl State.retireLaser s := rfl

/-- Retiring lasers changes lasers and registers alone. -/
theorem State.foldl_retireLaser_frame (is : List Nat) (s : State) :
    ∃ ls m, is.foldl State.retireLaser s = { s with lasers := ls, regs := m } := by
  induction is generalizing s with
  | nil => exact ⟨s.lasers, s.regs, rfl⟩
  | cons i is ih => exact ih (s.retireLaser i)

/-- A register after lasers have been retired: that of a retired laser's state reads 7. -/
theorem State.reg_foldl_retireLaser (is : List Nat) (s : State) (k : Nat) : (is.foldl State.retireLaser s).reg k =
    if k ∈ is.map fun i => Obj.laneState (i / 9) (i % 9) then 7 else s.reg k := by
  induction is generalizing s with
  | nil => simp
  | cons i is ih =>
    have here : (s.retireLaser i).reg k = if k = Obj.laneState (i / 9) (i % 9) then 7 else s.reg k := State.reg_setReg _ _ _ _
    rw [List.foldl_cons, ih, here, List.map_cons]
    by_cases same : k = Obj.laneState (i / 9) (i % 9)
    · simp [same]
    · simp only [List.mem_cons, same, false_or, if_false]

theorem State.laser_setLaser_ite (s : State) (p l q m : Nat) (v : Laser) :
    (s.setLaser p l v).laser q m = if laserKey q m = laserKey p l then v else s.laser q m := Sparse.get_set _ _ _ _ _

/-- A laser after lasers have been retired. -/
theorem State.laser_foldl_retireLaser (is : List Nat) (s : State) (p l : Nat) : (is.foldl State.retireLaser s).laser p l =
    if laserKey p l ∈ is then { lost := true } else s.laser p l := by
  induction is generalizing s with
  | nil => simp
  | cons i is ih =>
    have number : laserKey (i / 9) (i % 9) = i := by unfold laserKey; omega
    have here : (s.retireLaser i).laser p l = if laserKey p l = i then { lost := true } else s.laser p l :=
      (State.laser_setLaser_ite s (i / 9) (i % 9) p l { lost := true }).trans (by rw [number])
    rw [List.foldl_cons, ih, here]
    by_cases same : laserKey p l = i
    · simp [same]
    · simp only [List.mem_cons, same, false_or, if_false]

/-- A laser of a fabric port is among the retired ones when it was lost. -/
theorem State.laserKey_mem_retired {s : State} {p l : Nat} (hp : p < 16) (hl : l < 9) :
    laserKey p l ∈ s.retired ↔ (s.laser p l).lost = true := by
  obtain ⟨port, laser⟩ := laserKey_div_mod (p := p) hl
  rw [State.retired, List.mem_filter, List.mem_range, port, laser, and_iff_right (laserKey_lt hp hl)]

/-- The states of the lasers lie in 0x5100 to 0x5103 (R451). -/
theorem Obj.laneState_block {i : Nat} (small : i < 144) :
    0x5100 ≤ Obj.laneState (i / 9) (i % 9) / 256 ∧ Obj.laneState (i / 9) (i % 9) / 256 ≤ 0x5103 := by
  simp only [Obj.laneState, obj]; omega

/-- No laser's state is an object of the configuration block, the uptime or one that a reset writes. -/
theorem Obj.laneState_apart {i k : Nat} (small : i < 144) (h : inConfigBlock k = true ∨
    k ∈ [Obj.uptime, Obj.deviceState, Obj.lastResetKind, Obj.membershipEpoch]) : k ≠ Obj.laneState (i / 9) (i % 9) := by
  have block := Obj.laneState_block small
  simp only [inConfigBlock, Bool.or_eq_true, Bool.and_eq_true, beq_iff_eq, decide_eq_true_eq, List.mem_cons, List.not_mem_nil,
    or_false, Obj.chipNumber, Obj.rackBits, Obj.portRemap, Obj.gdpUdpPort, Obj.dispatchUdpPort, Obj.uptime, Obj.deviceState,
    Obj.lastResetKind, Obj.membershipEpoch, obj] at h
  omega

end Sys2Proof.Machine
end

section
/-! CORE_RESET, PACKAGE_RESET and DRAIN_END (R493, R592, R692 to R694). -/

namespace Sys2Proof.Machine

/-! Requests -/

theorem coreReset_run {s : State} {sess : Nat} (may : MayWrite s sess 0x1000 4) :
    exec (.coreReset sess) s = .next (s.requestReset 1) := congrArg Host.Outcome.next (State.guarded_may _ may)

theorem packageReset_run {s : State} {sess : Nat} (may : MayWrite s sess 0x1000 4) :
    exec (.packageReset sess) s = .next (s.requestReset 2) := congrArg Host.Outcome.next (State.guarded_may _ may)

/-- No reset is requested while one waits (R693). -/
theorem State.requestReset_waiting {s : State} (waits : s.dev.resetWaiting.isSome = true) (kind : Nat) :
    s.requestReset kind = s := if_pos waits

/-- The device states in which a reset of a kind is applied (R693): a core reset is not in FENCED. -/
def State.mayReset (s : State) (kind : Nat) : Prop := s.isUp = true ∨ (kind ≠ 1 ∧ s.device = devFenced)

theorem State.requestReset_notApplied {s : State} {kind : Nat} (h : ¬ s.mayReset kind) : s.requestReset kind = s := by
  unfold State.requestReset
  split
  · rfl
  · refine if_pos ?_
    simpa [State.mayReset, Decidable.or_iff_not_imp_left] using h

theorem State.requestReset_applied {s : State} {kind : Nat} (idle : s.dev.resetWaiting = none) (h : s.mayReset kind) :
    s.requestReset kind =
      if s.dev.writing.isSome then { s with dev := { s.dev with resetWaiting := some kind } } else s.runReset kind := by
  unfold State.requestReset
  rw [idle, if_neg (by simp), if_neg]
  simpa [State.mayReset, Decidable.or_iff_not_imp_left] using h

/-! The core reset (R694) -/

/-- The registers after a core reset: those kept of the state before, then the three that it writes. -/
theorem State.reg_coreRestarted {s t : State} (regs : t.regs = s.regs.filter fun q => coreKeeps q.1) (k : Nat) :
    (((t.setReg Obj.lastResetKind 2).count 32 Obj.coreResetCount).enter devBoot).reg k =
    if k = Obj.deviceState then devBoot
    else if k = Obj.coreResetCount then (s.reg Obj.coreResetCount + 1) % 2 ^ 32
    else if k = Obj.lastResetKind then 2
    else if coreKeeps k then s.reg k else regDefault k := by
  have kept : coreKeeps Obj.coreResetCount = true := by decide
  have count_ne_kind : Obj.coreResetCount ≠ Obj.lastResetKind := by decide
  simp only [State.enter, State.reg_setReg, State.reg_count, if_neg count_ne_kind,
    State.reg_of_filter s t coreKeeps regs, if_pos kept]

/-! The package reset (R493, R592, R692) -/

/-- What a package reset does with no packet held: its own life becomes odd, the departure notice leaves, and transit drains. -/
theorem State.packageReset_eq {s : State} (small : s.chip < 16384) (none_held : s.fabric.held = []) : ∃ u,
    s.packageReset = (u.emit (.departure s.chip)).enter devDraining ∧ RegsBut [Obj.membershipEpoch] s u ∧
    u.lifeOf s.chip = (if s.lifeOf s.chip % 2 = 0 then (s.lifeOf s.chip + 1) % 2 ^ 16 else s.lifeOf s.chip) ∧
    (∀ c, c ≠ s.chip → u.lifeOf c = s.lifeOf c) ∧
    { u with regs := s.regs, life := s.life, generations := s.generations } = s := by
  refine ⟨_, rfl, ?_⟩
  by_cases even : s.lifeOf s.chip % 2 = 0
  · rw [if_pos ⟨even, small⟩, if_pos even]
    obtain ⟨g, e, written⟩ := State.setLife_eq none_held s.chip (s.lifeOf s.chip + 1)
    rw [written]
    exact ⟨fun k hk => State.reg_setReg_other _ _ _ _ (List.ne_of_not_mem_cons hk), Sparse.get_set_same _ _ _ _,
      fun c other => Sparse.get_set_other _ _ _ _ _ _ other, rfl⟩
  · rw [if_neg fun h => even h.1, if_neg even]
    exact ⟨fun _ _ => rfl, rfl, fun _ _ => rfl, rfl⟩

/-! The end of the drain (R432, R493, R692) -/

/-- The package restarted, before its life is written: what is kept of it, with the lasers that stay retired. -/
def State.drained (s : State) : State := ((s.emit .lasersOff).reborn packageKeeps s.dev.persist).keepRetired s

theorem drainEnd_run {s : State} (draining : s.device = devDraining) : exec .drainEnd s =
    .next (((s.drained.setLife s.chip (s.lifeOf s.chip)).setReg Obj.lastResetKind 1).enter devBoot) :=
  if_neg (not_not_intro draining)

theorem drainEnd_ignored {s : State} (h : s.device ≠ devDraining) : exec .drainEnd s = .next s := if_pos h

theorem State.drained_frame (s : State) :
    ∃ ls m, s.drained = { (s.emit .lasersOff).reborn packageKeeps s.dev.persist with lasers := ls, regs := m } :=
  State.foldl_retireLaser_frame _ _

/-- A kept object that is no laser's state reads as before the drain. -/
theorem State.reg_drained_kept (s : State) {k : Nat} (kept : packageKeeps k = true) (apart : ∀ i < 144,
    k ≠ Obj.laneState (i / 9) (i % 9)) : s.drained.reg k = s.reg k := by
  rw [State.drained, State.keepRetired_eq, State.reg_foldl_retireLaser, if_neg]
  · exact (State.reg_of_filter s _ packageKeeps rfl k).trans (if_pos kept)
  · intro named
    obtain ⟨i, hi, rfl⟩ := List.mem_map.1 named
    exact apart i (List.mem_range.1 (List.mem_filter.1 hi).1) rfl

theorem State.laser_drained (s : State) {p l : Nat} (hp : p < 16) (hl : l < 9) :
    s.drained.laser p l = { lost := (s.laser p l).lost } := by
  rw [State.drained, State.keepRetired_eq, State.laser_foldl_retireLaser]
  split
  · next kept => rw [(State.laserKey_mem_retired hp hl).1 kept]
  · next gone =>
    rw [Bool.eq_false_of_not_eq_true (mt (State.laserKey_mem_retired hp hl).2 gone)]
    rfl

theorem State.lane_drained {s : State} {p l : Nat} (hp : p < 16) (hl : l < 9) (lost : (s.laser p l).lost = true) :
    s.drained.lane p l = 7 := by
  obtain ⟨port, laser⟩ := laserKey_div_mod (p := p) hl
  rw [State.lane, State.drained, State.keepRetired_eq, State.reg_foldl_retireLaser, if_pos]
  exact List.mem_map.2 ⟨laserKey p l, (State.laserKey_mem_retired hp hl).2 lost, by rw [port, laser]⟩

/-- The drain ends with a restart: beside the package's life, its generations, its retired lasers and its registers, what a restart
leaves of it. -/
theorem drainEnd_restarts {s : State} (draining : s.device = devDraining) : ∃ t, exec .drainEnd s = .next t ∧
    t.device = devBoot ∧ t.reg Obj.lastResetKind = 1 ∧ t.lifeOf s.chip = s.lifeOf s.chip % 2 ^ 16 ∧
    t.lasers = s.drained.lasers ∧ RegsBut [Obj.deviceState, Obj.lastResetKind, Obj.membershipEpoch] s.drained t ∧
    { t with regs := [], life := [], generations := [], lasers := [] } =
      { pending := s.pending, drawn := s.drawn, serial := s.serial, out := s.out ++ [.lasersOff], dev := s.dev.persist } := by
  obtain ⟨ls, m, frame⟩ := s.drained_frame
  obtain ⟨g, e, written⟩ := State.setLife_eq (s := s.drained) (by rw [frame]; rfl) s.chip (s.lifeOf s.chip)
  refine ⟨_, drainEnd_run draining, State.reg_setReg_same _ _ _, ?_, ?_, ?_, fun k hk => ?_, ?_⟩
  · exact (State.reg_setReg_other _ _ _ _ (by decide)).trans (State.reg_setReg_same _ _ _)
  · rw [written]
    exact Sparse.get_set_same _ _ _ _
  · rw [written]
    rfl
  · simp only [List.mem_cons, List.not_mem_nil, or_false, not_or] at hk
    obtain ⟨notState, notKind, notEpoch⟩ := hk
    rw [State.enter, State.reg_setReg_other _ _ _ _ notState, State.reg_setReg_other _ _ _ _ notKind, written,
      State.reg_setReg_other _ _ _ _ notEpoch]
    rfl
  · rw [written, frame]
    rfl

/-- The objects that a restart writes are neither the uptime nor in the configuration block. -/
theorem not_mem_restart_objects {k : Nat} (h : inConfigBlock k = true ∨ k = Obj.uptime) :
    k ∉ [Obj.deviceState, Obj.lastResetKind, Obj.membershipEpoch] := by
  intro written
  rcases h with config | rfl
  · simp only [List.mem_cons, List.not_mem_nil, or_false] at written
    rcases written with rfl | rfl | rfl
    · exact absurd config (by decide)
    · exact absurd config (by decide)
    · exact absurd config (by decide)
  · exact absurd written (by decide)

/-- Settles O2: each reset is applied, waits or is ignored, and each clause says what it keeps. -/
theorem resetsRestartThePackage : Obligations.ResetsRestartThePackage := by
  refine ⟨?core, ?package, ?waits, ?refused, ?notApplied, ?drain, fun _ => drainEnd_ignored⟩
  case core =>
    intro s sess may idle quiet up
    have run : exec (.coreReset sess) s = .next s.coreReset := by
      rw [coreReset_run may, State.requestReset_applied idle (.inl up), quiet]
      exact congrArg Host.Outcome.next (if_pos up)
    have written : ∀ k, s.coreReset.reg k = _ := State.reg_coreRestarted (s := s) rfl
    have regs : ∀ k, k ∉ [Obj.deviceState, Obj.lastResetKind, Obj.coreResetCount] →
        s.coreReset.reg k = if coreKeeps k then s.reg k else regDefault k := by
      intro k hk
      simp only [List.mem_cons, List.not_mem_nil, or_false, not_or] at hk
      obtain ⟨notState, notKind, notCount⟩ := hk
      rw [written, if_neg notState, if_neg notCount, if_neg notKind]
    exact ⟨s.coreReset, run, written _, written _, written _, regs, rfl, rfl, rfl, rfl, rfl, rfl, rfl, rfl,
      rfl, rfl, rfl, rfl, rfl, rfl, rfl, rfl, rfl, rfl, rfl, rfl, rfl, rfl, rfl, rfl, rfl, rfl, rfl, rfl, rfl, rfl, rfl, rfl, rfl⟩
  case package =>
    intro s sess may idle quiet device small none_held
    obtain ⟨u, eq, regs, own, others, frame⟩ := State.packageReset_eq small none_held
    have applied : s.mayReset 2 := device.imp_right fun fenced => ⟨by decide, fenced⟩
    have run : exec (.packageReset sess) s = .next s.packageReset := by
      rw [packageReset_run may, State.requestReset_applied idle applied, quiet]
      exact congrArg Host.Outcome.next (if_pos device)
    have out : u.out = s.out := by rw [← frame]
    refine ⟨s.packageReset, run, ?_⟩
    rw [eq]
    refine ⟨State.reg_setReg_same _ _ _, congrArg (· ++ [Msg.departure s.chip]) out, own, others, fun k hk => ?_, ?_⟩
    · simp only [List.mem_cons, List.not_mem_nil, or_false, not_or] at hk
      obtain ⟨notState, notEpoch⟩ := hk
      exact (State.reg_setReg_other _ _ _ _ notState).trans (regs k (by simpa using notEpoch))
    · exact congrArg (fun v : State => { v with out := s.out }) frame
  case waits =>
    intro s sess may idle writing up
    rw [coreReset_run may, packageReset_run may, State.requestReset_applied idle (.inl up),
      State.requestReset_applied idle (.inl up), if_pos writing, if_pos writing]
    exact ⟨rfl, rfl⟩
  case refused =>
    intro s sess may waits
    rw [coreReset_run may, packageReset_run may, State.requestReset_waiting waits, State.requestReset_waiting waits]
    exact ⟨rfl, rfl⟩
  case notApplied =>
    intro s sess may down
    have notUp : ¬ s.isUp = true := Bool.eq_false_iff.1 down
    refine ⟨?_, fun notFenced => ?_⟩
    · rw [coreReset_run may, State.requestReset_notApplied]
      rintro (up | ⟨core, -⟩)
      · exact notUp up
      · exact core rfl
    · rw [packageReset_run may, State.requestReset_notApplied]
      rintro (up | ⟨-, fenced⟩)
      · exact notUp up
      · exact notFenced fenced
  case drain =>
    intro s draining _
    obtain ⟨t, run, device, kind, life, lasers, regs, frame⟩ := drainEnd_restarts draining
    have kept : ∀ {k}, packageKeeps k = true → inConfigBlock k = true ∨ k = Obj.uptime → t.reg k = s.reg k := by
      intro k keeps which
      have apart : ∀ i < 144, k ≠ Obj.laneState (i / 9) (i % 9) := fun i hi =>
        Obj.laneState_apart hi (which.imp_right fun e => List.mem_cons.2 (.inl e))
      exact (regs k (not_mem_restart_objects which)).trans (s.reg_drained_kept keeps apart)
    refine ⟨t, run, device, kind, congrArg State.out frame, fun k config => kept (by simp [packageKeeps, config]) (.inl config),
      kept (by decide) (.inr rfl), life, congrArg State.dev frame, congrArg State.mem frame, congrArg State.tenants frame,
      congrArg State.works frame, congrArg State.sessions frame, congrArg State.cores frame, congrArg State.fabric frame,
      (congrArg State.pending frame :), fun p l hp hl => ⟨?_, fun lost => ?_⟩⟩
    · rw [State.laser, lasers]
      exact s.laser_drained hp hl
    · obtain ⟨port, laser⟩ := laserKey_div_mod (p := p) hl
      have apart := fun k hk => Obj.laneState_apart (k := k) (laserKey_lt hp hl) (.inr hk)
      rw [port, laser] at apart
      exact (regs _ fun hk => apart _ (List.mem_cons_of_mem _ hk) rfl).trans (State.lane_drained hp hl lost)

end Sys2Proof.Machine
end

section
/-! The vote tree (R572): indices as odd multiples of powers of two. -/

namespace Sys2Proof.Machine

theorem bit_eq_testBit (w i : Nat) : bit w i = w.testBit i := by
  have small := Nat.mod_lt (w >>> i) (by decide : 0 < 2)
  rw [Bool.eq_iff_iff, Nat.testBit_eq_decide_div_mod_eq, decide_eq_true_iff, ← Nat.shiftRight_eq_div_pow]
  simp [bit, bits]

/-- Bit j of an odd multiple of 2^k is clear below k and set at k. -/
theorem bit_odd_mul (k q : Nat) : bit (2 ^ k * (2 * q + 1)) k = true ∧ ∀ j < k, bit (2 ^ k * (2 * q + 1)) j = false := by
  simp only [bit_eq_testBit, Nat.testBit_two_pow_mul]
  refine ⟨by simp, fun j below => by simp; omega⟩

theorem lowBit_odd_mul {k : Nat} (small : k < 16) (q : Nat) : lowBit (2 ^ k * (2 * q + 1)) = 2 ^ k := by
  obtain ⟨set, clear⟩ := bit_odd_mul k q
  have first : ((List.range 16).find? fun j => bit (2 ^ k * (2 * q + 1)) j) = some k := by
    rw [List.find?_range_eq_some]
    exact ⟨set, List.mem_range.2 small, fun j below => by simp [clear j below]⟩
  rw [lowBit, first]
  rfl

/-- Every index of the vote tree but the root's is an odd multiple of a power of two below 2^16. -/
theorem exists_odd_mul {i : Nat} (pos : 0 < i) (small : i ≤ 16384) : ∃ k q, k < 16 ∧ i = 2 ^ k * (2 * q + 1) := by
  obtain ⟨k, m, ⟨q, rfl⟩, eq⟩ := Nat.exists_eq_two_pow_mul_odd pos.ne'
  refine ⟨k, q, ?_, eq⟩
  have le : 2 ^ k ≤ i := by rw [eq]; exact Nat.le_mul_of_pos_right _ (by omega)
  exact (Nat.pow_lt_pow_iff_right (by decide : 1 < 2)).1 (show 2 ^ k < 2 ^ 16 by omega)

theorem parentOf_odd_mul {k : Nat} (small : k < 16) (q : Nat) : parentOf (2 ^ k * (2 * q + 1)) = some (2 ^ k * (2 * q)) := by
  have pos : 0 < 2 ^ k := Nat.two_pow_pos k
  rw [parentOf, if_neg (by positivity), lowBit_odd_mul small]
  congr 1
  rw [Nat.mul_add, Nat.mul_one, Nat.add_sub_cancel]

/-- A child of index i lies a power of two beyond it, one that is smaller than every power in i. -/
theorem mem_childrenOf {size i c : Nat} : c ∈ childrenOf size i ↔
    ∃ k < 16, 2 ^ k < (if i = 0 then size else lowBit i) ∧ c = i + 2 ^ k ∧ c < size := by
  simp only [childrenOf, List.mem_map, List.mem_filter, List.mem_range, Bool.and_eq_true, decide_eq_true_eq]
  exact ⟨fun ⟨k, ⟨small, below, inside⟩, eq⟩ => ⟨k, small, below, eq.symm, eq ▸ inside⟩,
    fun ⟨k, small, below, eq, inside⟩ => ⟨k, ⟨small, below, eq ▸ inside⟩, eq.symm⟩⟩

/-- A power of two smaller than every power in i, put beside i, is the lowest of the sum. -/
theorem add_pow_odd_mul {size i k : Nat} (small : i ≤ 16384) (below : 2 ^ k < if i = 0 then size else lowBit i) :
    ∃ q, i + 2 ^ k = 2 ^ k * (2 * q + 1) := by
  rcases Nat.eq_zero_or_pos i with rfl | pos
  · exact ⟨0, by simp⟩
  obtain ⟨a, q, ha, rfl⟩ := exists_odd_mul pos small
  rw [if_neg pos.ne', lowBit_odd_mul ha, Nat.pow_lt_pow_iff_right (by decide)] at below
  obtain ⟨d, rfl⟩ := Nat.exists_eq_add_of_lt below
  exact ⟨2 ^ d * (2 * q + 1), by ring⟩

theorem mem_childrenOf_of_odd_mul {size k q : Nat} (le : size ≤ 16384) (small : k < 16) (inside : 2 ^ k * (2 * q + 1) < size) :
    2 ^ k * (2 * q + 1) ∈ childrenOf size (2 ^ k * (2 * q)) := by
  have sum : 2 ^ k * (2 * q + 1) = 2 ^ k * (2 * q) + 2 ^ k := by ring
  refine mem_childrenOf.2 ⟨k, small, ?_, sum, inside⟩
  rcases Nat.eq_zero_or_pos q with rfl | pos
  · rw [if_pos (by simp)]; omega
  have positive : 0 < 2 ^ k * (2 * q) := by positivity
  have bound : 2 ^ k * (2 * q) ≤ 16384 := (Nat.le_add_right _ (2 ^ k)).trans (sum ▸ inside.le.trans le)
  obtain ⟨b, r, hb, eq⟩ := exists_odd_mul pos ((Nat.le_mul_of_pos_left q (by positivity : 0 < 2 ^ k * 2)).trans (by rwa [Nat.mul_assoc]))
  have higher : 2 ^ k * (2 * q) = 2 ^ (k + 1 + b) * (2 * r + 1) := by rw [eq]; ring
  have inTree : k + 1 + b < 16 := by
    refine (Nat.pow_lt_pow_iff_right (by decide : 1 < 2)).1 (show 2 ^ (k + 1 + b) < 2 ^ 16 from ?_)
    have le_index := Nat.le_mul_of_pos_right (2 ^ (k + 1 + b)) (by omega : 0 < 2 * r + 1)
    rw [← higher] at le_index
    omega
  rw [if_neg positive.ne', higher, lowBit_odd_mul inTree]
  exact (Nat.pow_lt_pow_iff_right (by decide)).2 (by omega)

/-- Settles O36: the lowest power of two in an index is what it lies beyond its parent. -/
theorem voteTreeIsATree : Obligations.VoteTreeIsATree := by
  refine ⟨fun size i c le inside child => ?_, fun size c le pos inside => ?_, rfl⟩
  · obtain ⟨k, small, below, rfl, bounded⟩ := mem_childrenOf.1 child
    obtain ⟨q, eq⟩ := add_pow_odd_mul (by omega) below
    refine ⟨Nat.lt_add_of_pos_right (Nat.two_pow_pos k), bounded, ?_⟩
    rw [eq, parentOf_odd_mul small]
    congr 1
    linarith
  · obtain ⟨k, q, small, rfl⟩ := exists_odd_mul pos (by omega)
    exact ⟨2 ^ k * (2 * q), parentOf_odd_mul small q, Nat.mul_lt_mul_of_pos_left (by omega) (Nat.two_pow_pos k),
      mem_childrenOf_of_odd_mul le small inside⟩

end Sys2Proof.Machine
end

section
/-! A watcher that is cut off (R591), and the state after reset (R678, R679). -/

namespace Sys2Proof.Machine

theorem State.cutOff_iff (s : State) : s.cutOff = true ↔ ∀ i ∈ s.watchedLanes, (s.watch i).suspect = true := List.all_eq_true

/-- A verdict of a lane without a watched package changes nothing. -/
theorem deadVerdict_unwatched {s : State} {l : Nat} (unwatched : s.baseFrom l = none) : exec (.deadVerdict l) s = .next s := by
  show execDeadVerdict l s = _
  rw [execDeadVerdict, unwatched]

theorem deadVerdict_none {s : State} {l c : Nat} (far : s.baseFrom l = some c)
    (h : s.patrols = false ∨ (s.watch l).suspect = false ∨ s.cutOff = true ∨ s.fenced c = true) :
    exec (.deadVerdict l) s = .next s := by
  show execDeadVerdict l s = _
  rw [execDeadVerdict, far]
  dsimp only
  rw [if_pos]
  rcases h with h | h | h | h <;> simp [h]

/-- Settles O58: a watcher that is cut off judges no package, and a lane without one has nothing to judge. -/
theorem cutOffWatcherReachesNoVerdict : Obligations.CutOffWatcherReachesNoVerdict := by
  intro s l suspects
  cases far : s.baseFrom l with
  | none => exact deadVerdict_unwatched far
  | some c => exact deadVerdict_none far (.inr (.inr (.inl (s.cutOff_iff.2 suspects))))

/-- Settles O54: every list of the reset state is empty, and every number of its stores reads as their default. -/
theorem resetStateAsStated : Obligations.ResetStateAsStated := by
  refine ⟨?_, ?_, rfl, ⟨Nat.zero_le _, Nat.zero_le _⟩, rfl, rfl, rfl, rfl, rfl, fun _ => rfl, fun _ _ => rfl, fun _ => rfl⟩
  · show regDefault Obj.deviceState = devBoot
    decide
  · show regDefault Obj.uptime = 0
    decide

end Sys2Proof.Machine
end

section
/-! Sessions, and which messages of theirs are authentic (R653, R657, R662 to R664). -/

namespace Sys2Proof.Machine

theorem State.session?_id {s : State} {id : Nat} {x : Session} (h : s.session? id = some x) : x.id = id := by
  simpa using List.find?_some h

/-- A session's record is found under its id after it has been replaced, and no other session's is another. -/
theorem State.session?_setSession (s : State) (v : Session) (id : Nat) : (s.setSession v).session? id =
    if id = v.id then (s.session? id).map fun _ => v else s.session? id := by
  simp only [State.session?, State.setSession, List.find?_map]
  have same : (fun x : Session => decide (x.id = id)) ∘ (fun x => if x.id = v.id then v else x) = fun x => decide (x.id = id) := by
    funext x
    simp only [Function.comp_apply]
    split <;> simp [*]
  rw [same]
  cases found : s.sessions.find? fun x => decide (x.id = id) with
  | none => simp
  | some x =>
    have : x.id = id := by simpa using List.find?_some found
    by_cases own : id = v.id <;> simp [this, own]

theorem State.setSession_sessionSet {s : State} {x y : Session} (h : s.session? y.id = some x) :
    SessionSet s (s.setSession y) y := by
  refine ⟨?_, fun j other => ?_, rfl⟩
  · rw [State.session?_setSession, if_pos rfl, h]
    rfl
  · rw [State.session?_setSession, if_neg other]

theorem State.session?_endSession (s : State) (id j : Nat) : (s.endSession id).session? j =
    if j = id then none else s.session? j := by
  simp only [State.session?, State.endSession, List.find?_filter]
  by_cases own : j = id
  · rw [if_pos own, List.find?_eq_none]
    intro x _
    simp [own]
  · rw [if_neg own]
    congr 1
    funext x
    simp only [bne_iff_ne, ne_eq]
    by_cases eq : x.id = j <;> simp [eq, own]

/-! Authentication (R653, R662, R663): the cases of a message, in the order in which it is judged. -/

section
variable {s : State} {e : Envelope} {m : List Byte} {x : Session}

theorem authenticate_down (down : s.gdpUp = false) : s.authenticate e m = .settled s := by
  simp [State.authenticate, down]

/-- A message of no open session is dropped and counted. -/
theorem authenticate_unknown (up : s.gdpUp = true) (unknown : s.session? e.session = none) :
    s.authenticate e m = .settled s.authFail := by
  simp [State.authenticate, up, unknown]

/-- A message with a wrong tag, or too far below the highest sequence, is dropped and counted. -/
theorem authenticate_wrong (up : s.gdpUp = true) (known : s.session? e.session = some x)
    (wrong : e.tag ≠ tagOf x.key e.sequence m ∨ e.sequence + 1024 ≤ x.highest) : s.authenticate e m = .settled s.authFail := by
  simp [State.authenticate, up, known, wrong]

/-- A repeat is answered with the reply that is kept for its sequence. -/
theorem authenticate_repeat (up : s.gdpUp = true) (known : s.session? e.session = some x)
    (tag : e.tag = tagOf x.key e.sequence m) (window : x.highest < e.sequence + 1024) (seen : e.sequence ∈ x.seen) :
    s.authenticate e m = .settled ((x.replies.find? fun r => r.1 == e.sequence).elim s fun r => s.sendControl e.net e.peer r.2) := by
  rw [State.authenticate, known]
  simp only [up, Bool.not_true, Bool.false_eq_true, if_false, tag, ne_eq, not_true_eq_false, false_or, not_le.2 window,
    List.contains_iff_mem.2 seen, if_true]
  cases x.replies.find? fun r => r.1 == e.sequence <;> rfl

/-- A new message of an open session is taken, and the session has heard it. -/
theorem authenticate_fresh (h : Authentic s e m x) :
    ∃ y, s.session? e.session = some y ∧ x = y.heard e s.up ∧ s.authenticate e m = .fresh (s.setSession x) x := by
  obtain ⟨up, y, known, tag, window, unseen, rfl⟩ := h
  refine ⟨y, known, rfl, ?_⟩
  rw [State.authenticate, known]
  simp only [up, tagOf, tag, Bool.not_true, Bool.false_eq_true, if_false, ne_eq, not_true_eq_false, false_or, not_le.2 window,
    List.contains_eq_mem, unseen, decide_false]
  rfl

/-- The session that a new message leaves is the one whose id it carries. -/
theorem Authentic.id_eq (h : Authentic s e m x) : x.id = e.session := by
  obtain ⟨-, y, known, -, -, -, rfl⟩ := h
  exact (State.session?_id known : y.id = e.session)

theorem Authentic.sessionSet (h : Authentic s e m x) : SessionSet s (s.setSession x) x := by
  obtain ⟨y, known, -⟩ := authenticate_fresh h
  exact State.setSession_sessionSet (h.id_eq ▸ known)

theorem State.gdpAuth_otherVersion {kind flags items : Nat} {body : List Byte} (other : e.version ≠ 1) :
    s.gdpAuth e kind flags items body = .settled s := if_pos other

theorem State.gdpAuth_version {kind flags items : Nat} {body : List Byte} (one : e.version = 1) :
    s.gdpAuth e kind flags items body = s.authenticate e (gdpMessage 1 kind flags 0 e.session e.requestId items body) := by
  rw [State.gdpAuth, if_neg (not_not.2 one), one]

/-- A request that is not taken leaves what its authentication leaves, whatever its items would do (R653, R663). -/
theorem State.answerItems_settled {α : Type} {t : State} {kind flags : Nat} {bytes : α → List Byte} {items : List α}
    {f : State → α → List Byte × State} (settled : s.gdpAuth e kind flags items.length (items.flatMap bytes) = .settled t) :
    s.answerItems e kind flags bytes items f = t := by
  rw [State.answerItems, settled]

/-- A request of one item is authenticated over that item's bytes. -/
theorem State.answerItems_one_settled {α : Type} {t : State} {kind flags : Nat} {bytes : α → List Byte} {item : α}
    {f : State → α → List Byte × State} (settled : s.gdpAuth e kind flags 1 (bytes item) = .settled t) :
    s.answerItems e kind flags bytes [item] f = t := by
  refine State.answerItems_settled ?_
  rwa [List.flatMap_singleton]

/-- A segment of a tensor window is authenticated like any other. -/
theorem writeSeg_settled {t : State} {i : SegItem} (settled : s.gdpAuth e 4 0 1 (writeSegBytes i) = .settled t) :
    exec (.writeSeg e i) s = .next t := by
  show execWriteSeg e i s = _
  rw [execWriteSeg]
  cases windowOf i.obj with
  | none => exact congrArg Host.Outcome.next (State.answerItems_one_settled settled)
  | some n =>
    show Host.Outcome.next (s.writeWindow e n i) = _
    rw [State.writeWindow, settled]

theorem close_settled {t : State} (settled : s.gdpAuth e 7 0 1 (toBytes 1 5) = .settled t) : exec (.close e) s = .next t := by
  show execClose e s = _
  rw [execClose, settled]

end

/-- Settles O45, by the cases of a message and, for each request, by what its authentication leaves. -/
theorem handshakesAndAuthentication : Obligations.HandshakesAndAuthentication := by
  refine ⟨fun s e m down => authenticate_down down, ?refused, ?repeated, ?fresh, ?version, ?requests, fun _ _ _ _ _ _ _ _ => rfl⟩
  case refused =>
    rintro s e m up (unknown | ⟨x, known, wrong⟩)
    · exact ⟨_, authenticate_unknown up unknown, s.count_counted 32 Obj.authFailCount⟩
    · exact ⟨_, authenticate_wrong up known wrong, s.count_counted 32 Obj.authFailCount⟩
  case repeated =>
    intro s e m x up known tag window seen
    rw [authenticate_repeat up known tag window seen]
    refine ⟨fun unanswered => ?_, fun r kept => ?_⟩
    · rw [List.find?_eq_none.2 fun r kept => by simpa using unanswered r kept]
      rfl
    · rw [kept]
      rfl
  case fresh =>
    intro s e m x authentic
    obtain ⟨-, -, -, eq⟩ := authenticate_fresh authentic
    exact ⟨_, eq, authentic.sessionSet⟩
  case version =>
    exact fun s e kind flags items body => ⟨State.gdpAuth_otherVersion, State.gdpAuth_version⟩
  case requests =>
    intro s t e
    exact ⟨fun _ h => congrArg Host.Outcome.next (State.answerItems_settled h), fun _ h => congrArg Host.Outcome.next (State.answerItems_settled h),
      fun _ h => congrArg Host.Outcome.next (State.answerItems_settled h), fun _ _ _ h => congrArg Host.Outcome.next (State.answerItems_one_settled h),
      fun _ => writeSeg_settled, fun _ _ h => congrArg Host.Outcome.next (State.answerItems_one_settled h),
      fun _ h => congrArg Host.Outcome.next (State.answerItems_one_settled h), fun _ h => congrArg Host.Outcome.next (State.answerItems_one_settled h),
      fun _ h => congrArg Host.Outcome.next (State.answerItems_one_settled h), close_settled⟩

/-- Settles O59: the session that has been idle is filtered out, and a request that is heard sets the time again. -/
theorem idleSessionsEnd : Obligations.IdleSessionsEnd := by
  refine ⟨fun s sess x known idle => ⟨s.endSession sess, ?_, ?_, fun j other => ?_, rfl⟩, fun s sess x known heard => ?_,
    fun s sess unknown => ?_, fun s e m x authentic => ?_⟩
  · show execSessionIdleTimeout sess s = _
    rw [execSessionIdleTimeout, known]
    exact congrArg Host.Outcome.next (if_pos idle)
  · rw [State.session?_endSession, if_pos rfl]
  · rw [State.session?_endSession, if_neg other]
  · show execSessionIdleTimeout sess s = _
    rw [execSessionIdleTimeout, known]
    exact congrArg Host.Outcome.next (if_neg (Nat.not_le.2 heard))
  · show execSessionIdleTimeout sess s = _
    rw [execSessionIdleTimeout, unknown]
  · obtain ⟨y, -, rfl, eq⟩ := authenticate_fresh authentic
    exact ⟨rfl, _, eq, authentic.id_eq ▸ authentic.sessionSet.1⟩

end Sys2Proof.Machine
end

section
/-! What no step may do: add to the queue of commands or take from it, or open a handshake or a session beyond the bounds of R657 and R659.
A state keeps another's queue and bounds, and each operation of the model leads from states that do to states that do. -/

namespace Sys2Proof.Machine

/-- State `t` has the queue of `s`, and at most 16 handshakes and 64 sessions, or no more than `s` has (R657, R659). -/
structure Keeps (s t : State) : Prop where
  pending : t.pending = s.pending
  handshakes : t.handshakes.length ≤ max 16 s.handshakes.length
  sessions : t.sessions.length ≤ max 64 s.sessions.length

/-- A command answers a next state that keeps the queue and the bounds of `s`. -/
def Steps (s : State) (o : Host.Outcome State Fault Refusal) : Prop := ∃ t, o = .next t ∧ Keeps s t

variable {s t u : State}

theorem Keeps.refl (s : State) : Keeps s s := ⟨rfl, le_max_right _ _, le_max_right _ _⟩

/-- A change of other fields keeps the queue and the bounds. -/
theorem Keeps.same (h : Keeps s t) (pending : u.pending = t.pending := by rfl) (handshakes : u.handshakes = t.handshakes := by rfl)
    (sessions : u.sessions = t.sessions := by rfl) : Keeps s u :=
  ⟨pending.trans h.pending, handshakes ▸ h.handshakes, sessions ▸ h.sessions⟩

/-- So does a change of the sessions that opens none, and of the handshakes that begins none. -/
theorem Keeps.fewer (h : Keeps s t) (pending : u.pending = t.pending) (handshakes : u.handshakes.length ≤ t.handshakes.length)
    (sessions : u.sessions.length ≤ t.sessions.length) : Keeps s u :=
  ⟨pending.trans h.pending, handshakes.trans h.handshakes, sessions.trans h.sessions⟩

theorem Keeps.ite {c : Prop} {_ : Decidable c} (ht : Keeps s t) (hu : Keeps s u) : Keeps s (if c then t else u) := by
  split
  · exact ht
  · exact hu

theorem Keeps.foldl {α : Type} {f : State → α → State} {l : List α} (h : Keeps s t)
    (hf : ∀ u a, Keeps s u → Keeps s (f u a)) : Keeps s (l.foldl f t) := by
  induction l generalizing t with
  | nil => exact h
  | cons a l ih => exact ih (hf t a h)

theorem Keeps.next (h : Keeps s t) : Steps s (.next t) := ⟨t, rfl, h⟩

theorem Steps.ite {c : Prop} {_ : Decidable c} {a b : Host.Outcome State Fault Refusal} (ha : Steps s a) (hb : Steps s b) :
    Steps s (if c then a else b) := by
  split
  · exact ha
  · exact hb

theorem Keeps.ite_fst {α : Type} {c : Prop} {_ : Decidable c} {p q : State × α} (hp : Keeps s p.1) (hq : Keeps s q.1) :
    Keeps s (if c then p else q).1 := by
  split
  · exact hp
  · exact hq

theorem Keeps.ite_snd {α : Type} {c : Prop} {_ : Decidable c} {p q : α × State} (hp : Keeps s p.2) (hq : Keeps s q.2) :
    Keeps s (if c then p else q).2 := by
  split
  · exact hp
  · exact hq

theorem Keeps.foldl_fst {α β : Type} {f : State × β → α → State × β} {l : List α} {p : State × β} (h : Keeps s p.1)
    (hf : ∀ p a, Keeps s p.1 → Keeps s (f p a).1) : Keeps s (l.foldl f p).1 := by
  induction l generalizing p with
  | nil => exact h
  | cons a l ih => exact ih (hf p a h)

/-- A command's answer as a state, where another operation carries the command out. -/
theorem Steps.nextOf {o : Host.Outcome State Fault Refusal} (h : Steps s o) : Keeps s (nextOf t o) := by
  obtain ⟨u, rfl, hu⟩ := h
  exact hu

/-! States inside the answers of operations -/

/-- The state that an operation gives, if it gives one, keeps the queue and the bounds of `s`. -/
def Gives (s : State) (o : Option State) : Prop := ∀ ⦃u⦄, o = some u → Keeps s u

/-- The same of a state that comes with a status. -/
def Puts (s : State) (o : Option (State × Nat)) : Prop := ∀ ⦃p⦄, o = some p → Keeps s p.1

/-- The same of a state that comes behind a version. -/
def Tags (s : State) (o : Option (Nat × State)) : Prop := ∀ ⦃p⦄, o = some p → Keeps s p.2

theorem Gives.none : Gives s none := fun _ h => nomatch h

theorem Gives.some (h : Keeps s t) : Gives s (some t) := by
  rintro _ ⟨⟩
  exact h

theorem Gives.ite {c : Prop} {_ : Decidable c} {a b : Option State} (ha : Gives s a) (hb : Gives s b) : Gives s (if c then a else b) := by
  split
  · exact ha
  · exact hb

theorem Gives.foldl {α : Type} {f : State → α → Option State} {l : List α} {o : Option State} (h : Gives s o)
    (hf : ∀ u a, Keeps s u → Gives s (f u a)) : Gives s (l.foldl (fun o a => o.bind fun u => f u a) o) := by
  induction l generalizing o with
  | nil => exact h
  | cons a l ih =>
    refine ih ?_
    cases o with
    | none => exact Gives.none
    | some u => exact hf u a (h rfl)

theorem Puts.none : Puts s none := fun _ h => nomatch h

theorem Puts.some {p : State × Nat} (h : Keeps s p.1) : Puts s (some p) := by
  rintro _ ⟨⟩
  exact h

theorem Puts.ite {c : Prop} {_ : Decidable c} {a b : Option (State × Nat)} (ha : Puts s a) (hb : Puts s b) :
    Puts s (if c then a else b) := by
  split
  · exact ha
  · exact hb

theorem Puts.orElse {a b : Option (State × Nat)} (ha : Puts s a) (hb : Puts s b) : Puts s (a.orElse fun _ => b) := by
  cases a with
  | none => exact hb
  | some p => exact ha

theorem Tags.none : Tags s none := fun _ h => nomatch h

theorem Tags.some {p : Nat × State} (h : Keeps s p.2) : Tags s (some p) := by
  rintro _ ⟨⟩
  exact h

theorem Tags.ite {c : Prop} {_ : Decidable c} {a b : Option (Nat × State)} (ha : Tags s a) (hb : Tags s b) :
    Tags s (if c then a else b) := by
  split
  · exact ha
  · exact hb

/-- The state in a resolved version (R272). -/
def VRes.Kept (s : State) : VRes → Prop
  | .ok _ u => Keeps s u
  | .wait _ u => Keeps s u
  | .fault => True

/-- The state in a prepared operand (R219, R272). -/
def Prep.Kept (s : State) : Prep → Prop
  | .ready _ _ u => Keeps s u
  | .fault _ _ u => Keeps s u
  | .wait _ u => Keeps s u

/-- The state in prepared operands. -/
def Preps.Kept (s : State) : Preps → Prop
  | .ready _ u => Keeps s u
  | .fault _ _ _ u => Keeps s u
  | .wait _ u => Keeps s u

/-- The state in the answer of a store (R91, R350). -/
def Stored.Kept (s : State) : Stored → Prop
  | .done u _ => Keeps s u
  | .full => True
  | .bad u => Keeps s u

/-- The state in the answer of an authentication (R662, R663). -/
def AuthRes.Kept (s : State) : AuthRes → Prop
  | .fresh u _ => Keeps s u
  | .settled u => Keeps s u

theorem VRes.Kept.of {a b : VRes} (h : a.Kept s) (eq : a = b) : b.Kept s := eq ▸ h

theorem Prep.Kept.of {a b : Prep} (h : a.Kept s) (eq : a = b) : b.Kept s := eq ▸ h

theorem Preps.Kept.of {a b : Preps} (h : a.Kept s) (eq : a = b) : b.Kept s := eq ▸ h

theorem Stored.Kept.of {a b : Stored} (h : a.Kept s) (eq : a = b) : b.Kept s := eq ▸ h

theorem AuthRes.Kept.of {a b : AuthRes} (h : a.Kept s) (eq : a = b) : b.Kept s := eq ▸ h

/-- A handshake begins where fewer than 16 are open (R659). -/
theorem Keeps.begin (h : Keeps s t) (room : t.handshakes.length < 16) {v : Handshake} :
    Keeps s { t with handshakes := t.handshakes ++ [v] } := by
  refine ⟨h.pending, le_max_of_le_left ?_, h.sessions⟩
  rw [List.length_append]
  exact room

/-- A session opens where fewer than 64 are open (R657). -/
theorem Keeps.openOne (h : Keeps s t) (room : t.sessions.length < 64) {x : Session} :
    Keeps s { t with sessions := t.sessions ++ [x] } := by
  refine ⟨h.pending, h.handshakes, le_max_of_le_left ?_⟩
  rw [List.length_append]
  exact room

theorem VRes.Kept.ite {c : Prop} {_ : Decidable c} {a b : VRes} (ha : a.Kept s) (hb : b.Kept s) : (if c then a else b).Kept s := by
  split
  · exact ha
  · exact hb

theorem Prep.Kept.ite {c : Prop} {_ : Decidable c} {a b : Prep} (ha : a.Kept s) (hb : b.Kept s) : (if c then a else b).Kept s := by
  split
  · exact ha
  · exact hb

end Sys2Proof.Machine
end

section
/-! The queue and the bounds are kept. The numbers of the dictionary objects (R640, R641). -/

namespace Sys2Proof.Machine

set_option Elab.async false

variable {s t : State}

theorem Keeps.setReg (h : Keeps s t) {k v : Nat} : Keeps s (t.setReg k v) := h.same

theorem Keeps.addReg (h : Keeps s t) {w k a : Nat} : Keeps s (t.addReg w k a) := h.setReg

theorem Keeps.count (h : Keeps s t) {w k : Nat} : Keeps s (t.count w k) := h.addReg

end Sys2Proof.Machine
end

section
/-! The queue and the bounds are kept. The named operations every family shares. -/

namespace Sys2Proof.Machine

set_option Elab.async false

variable {s t : State}

theorem Keeps.setCore (h : Keeps s t) {c : Nat} {v : Core} : Keeps s (t.setCore c v) := h.same

theorem Keeps.setCtx (h : Keeps s t) {c x : Nat} {v : Ctx} : Keeps s (t.setCtx c x v) := h.same

theorem Keeps.setTenant (h : Keeps s t) {n : Nat} {v : Tenant} : Keeps s (t.setTenant n v) := h.same

theorem Keeps.setQueue (h : Keeps s t) {q : Nat} {v : Queue} : Keeps s (t.setQueue q v) := h.same

theorem Keeps.setWork (h : Keeps s t) {w : Nat} {v : Work} : Keeps s (t.setWork w v) := h.same

theorem Keeps.setEntry (h : Keeps s t) {e : Nat} {v : Entry} : Keeps s (t.setEntry e v) := h.same

theorem Keeps.bump (h : Keeps s t) {k : Nat} : Keeps s (t.bump k) := h.same

theorem Keeps.setSlot (h : Keeps s t) {j : Nat} {v : Slot} : Keeps s (t.setSlot j v) := h.same

theorem Keeps.setLaser (h : Keeps s t) {port laser : Nat} {v : Laser} : Keeps s (t.setLaser port laser v) := h.same

theorem Keeps.setPort (h : Keeps s t) {p : Nat} {v : Port} : Keeps s (t.setPort p v) := h.same

theorem Keeps.setLatch (h : Keeps s t) {k : Nat} {v : Latch} : Keeps s (t.setLatch k v) := h.same

theorem Keeps.setCapture (h : Keeps s t) {k : Nat} {v : Capture} : Keeps s (t.setCapture k v) := h.same

theorem Keeps.setSession (h : Keeps s t) {v : Session} : Keeps s (t.setSession v) := h.fewer rfl le_rfl (List.length_map _).le

theorem Keeps.emit (h : Keeps s t) {m : Msg} : Keeps s (t.emit m) := h.same

theorem Keeps.draw (h : Keeps s t) {w : Nat} : Keeps s (t.draw w).2 := h.same

theorem Keeps.drawMany (h : Keeps s t) {w n : Nat} : Keeps s (State.drawMany w n t).2 := by
  induction n generalizing t with
  | zero => exact h
  | succ n ih => exact ih (h.draw (w := w))

theorem Keeps.fresh (h : Keeps s t) : Keeps s (t.fresh).2 := h.same

theorem Keeps.setLater (h : Keeps s t) {k v : Nat} : Keeps s (t.setLater k v) := (Keeps.ite h h.same).setReg

theorem Keeps.transmit (h : Keeps s t) {m : EthMsg} : Keeps s (t.transmit m) := Keeps.ite h.same h.emit

theorem Keeps.solicit (h : Keeps s t) {port hop : Nat} : Keeps s (t.solicit port hop) := h.transmit

theorem Keeps.sendIp (h : Keeps s t) {port : Nat} {rdma : Bool} {peer : Nat} {m : Msg} : Keeps s (t.sendIp port rdma peer m) :=
  Keeps.ite h.transmit (Keeps.ite h.same h.same.solicit.solicit.solicit)

theorem Keeps.sendControl (h : Keeps s t) {net peer : Nat} {m : Msg} : Keeps s (t.sendControl net peer m) := h.sendIp

theorem Keeps.sendSession (h : Keeps s t) {id net peer : Nat} {m : Msg} : Keeps s (t.sendSession id net peer m) := by
  unfold State.sendSession
  split
  · exact h.setSession.sendControl
  · exact h.sendControl

theorem Keeps.enter (h : Keeps s t) {d : Nat} : Keeps s (t.enter d) := h.setReg

theorem Keeps.settleDevice (h : Keeps s t) : Keeps s (t.settleDevice) :=
  Keeps.ite (Keeps.ite h.enter (Keeps.ite h.enter h.enter)) h

theorem Keeps.violate (h : Keeps s t) {sess : Nat} : Keeps s (t.violate sess) := by
  unfold State.violate
  split
  · exact h.setSession
  · exact h

theorem Keeps.guarded (h : Keeps s t) {sess index sub : Nat} {effect : State → State}
    (heffect : ∀ u, Keeps s u → Keeps s (effect u)) : Keeps s (t.guarded sess index sub effect) := by
  unfold State.guarded
  split
  · exact h
  · exact Keeps.ite (heffect _ h) h.violate

theorem Keeps.pump (h : Keeps s t) {x : Session} : Keeps s (t.pump x) := h.setSession.foldl fun _ _ k => k.sendSession

theorem Keeps.notify (h : Keeps s t) {k : Nat} {value : List Byte} : Keeps s (t.notify k value) := by
  unfold State.notify
  refine Keeps.foldl h (fun _ _ k2 => ?_)
  split
  · exact Keeps.ite k2.pump k2
  · exact k2

theorem Keeps.raise (h : Keeps s t) {k : Nat} {value : List Byte} : Keeps s (t.raise k value) := h.setReg.notify

theorem Keeps.vetoStep (h : Keeps s t) {n step : Nat} : Keeps s (t.vetoStep n step) := h.setTenant

theorem Keeps.collect (h : Keeps s t) {r : FaultRep} : Keeps s (t.collect r) := by
  unfold State.collect
  dsimp only
  refine Keeps.setCapture ?_
  refine Keeps.setCapture ?_
  split
  · exact h.setCapture
  · exact h

theorem Keeps.latchStatus (h : Keeps s t) {r : FaultRep} : Keeps s (t.latchStatus r) := h.setLatch.setLatch

theorem Keeps.countClass (h : Keeps s t) {r : FaultRep} : Keeps s (t.countClass r) :=
  Keeps.ite h.count (Keeps.ite h.count h.count)

theorem Keeps.faultEvent (h : Keeps s t) {r : FaultRep} : Keeps s (t.faultEvent r) :=
  Keeps.ite h (Keeps.ite h.same.raise h.count)

theorem Keeps.logFault (h : Keeps s t) {r : FaultRep} : Keeps s (t.logFault r) := Keeps.ite h (Keeps.ite h.count h.same.bump)

theorem Keeps.reborn (h : Keeps s t) {keep : Nat → Bool} {dev : Dev} : Keeps s (t.reborn keep dev) :=
  h.fewer rfl (Nat.zero_le _) (Nat.zero_le _)

theorem Keeps.powerOff (h : Keeps s t) : Keeps s (t.powerOff) := h.reborn.enter

theorem Keeps.orderlyStop (h : Keeps s t) {cause : Nat} : Keeps s (t.orderlyStop cause) :=
  Keeps.ite h (Keeps.ite h.powerOff ((((h.same.emit.emit.setReg.foldl fun _ _ k => k.setReg).foldl fun _ _ k1 =>
    k1.setReg.setReg.setReg).foldl fun _ _ k2 => k2.setReg).enter))

theorem Keeps.reportOnly (h : Keeps s t) {r : FaultRep} : Keeps s (t.reportOnly r) := by
  unfold State.reportOnly
  dsimp only
  split
  · exact Keeps.ite h.collect.latchStatus.countClass.faultEvent.logFault.vetoStep
      h.collect.latchStatus.countClass.faultEvent.logFault
  · exact h.collect.latchStatus.countClass.faultEvent.logFault

theorem Keeps.report (h : Keeps s t) {r : FaultRep} : Keeps s (t.report r) := Keeps.ite h.reportOnly.orderlyStop h.reportOnly

theorem Keeps.schedule (h : Keeps s t) {e : Sched} : Keeps s (t.schedule e) := Keeps.ite h.same h.count

theorem Keeps.scheduleLocal (h : Keeps s t) {gate : Nat} {k : SchedKind} : Keeps s (t.scheduleLocal gate k) :=
  Keeps.ite h.schedule.count h.schedule

theorem Keeps.requestPowerStep (h : Keeps s t) {floor ceiling : Nat} : Keeps s (t.requestPowerStep floor ceiling) :=
  h.scheduleLocal

end Sys2Proof.Machine
end

section
/-! The queue and the bounds are kept. Memory. -/

namespace Sys2Proof.Machine

set_option Elab.async false

variable {s t : State}

theorem Keeps.wrByte (h : Keeps s t) {alloc off : Nat} {b : Byte} : Keeps s (t.wrByte alloc off b) := h.same

theorem Keeps.wrBytes (h : Keeps s t) {alloc off : Nat} {bs : List Byte} : Keeps s (t.wrBytes alloc off bs) := by
  obtain ⟨m, eq⟩ := t.wrBytes_eq alloc off bs
  rw [eq]
  exact h.same

theorem Keeps.zeroAlloc (h : Keeps s t) {alloc : Nat} : Keeps s (t.zeroAlloc alloc) := h.same

theorem Keeps.setPoison (h : Keeps s t) {alloc line : Nat} {v : Bool} : Keeps s (t.setPoison alloc line v) := h.same

theorem Keeps.injectPoison (h : Keeps s t) {alloc line : Nat} : Keeps s (t.injectPoison alloc line) := h.same

theorem Keeps.publishLoans (h : Keeps s t) : Keeps s (t.publishLoans) := h.foldl fun _ _ k => k.setReg.setReg.setReg.setReg

theorem Keeps.settleLoans (h : Keeps s t) {tier n fallen : Nat} : Keeps s (t.settleLoans tier n fallen) :=
  Keeps.ite h h.same.publishLoans

theorem Keeps.freeAlloc (h : Keeps s t) {a : Nat} {zeroLater : Bool} : Keeps s (t.freeAlloc a zeroLater) := by
  unfold State.freeAlloc
  dsimp only
  split
  · exact h
  · exact Keeps.ite h.setReg.settleLoans.same h.setReg.settleLoans.same.zeroAlloc

theorem Keeps.countDevice (h : Keeps s t) {die unit : Nat} {corrected : Bool} : Keeps s (t.countDevice die unit corrected) :=
  Keeps.ite (Keeps.ite h.count h.count) (Keeps.ite (Keeps.ite h.count h.count) h)

theorem Keeps.countLine (h : Keeps s t) {u' : Upper} {off : Nat} {corrected : Bool} : Keeps s (t.countLine u' off corrected) :=
  Keeps.ite h.countDevice (Keeps.ite h.countDevice h)

theorem Keeps.copyError (h : Keeps s t) {e : Entry} {u' : Upper} {off master access : Nat} {corrected injected : Bool} :
    Keeps s (t.copyError e u' off master access corrected injected) :=
  (Keeps.ite h.countLine (Keeps.ite h.countLine.injectPoison h.countLine.setPoison)).report

theorem Keeps.lineError (h : Keeps s t) {e : Entry} {off master access : Nat} {corrected injected : Bool} :
    Keeps s (t.lineError e off master access corrected injected) :=
  h.copyError

theorem Keeps.meetInjections (h : Keeps s t) {n : Nat} {offs : List Nat} {v : VSel} {master access : Nat} :
    Keeps s (t.meetInjections n offs v master access) := by
  unfold State.meetInjections
  refine Keeps.foldl h (fun _ _ k2 => ?_)
  split
  · exact k2
  · split
    · exact k2
    · exact k2.same.lineError

theorem Keeps.poke (h : Keeps s t) {n off : Nat} {v : VSel} {b : Byte} : Keeps s (t.poke n off v b) := by
  unfold State.poke
  dsimp only
  split
  · exact h
  · exact Keeps.ite h.wrByte.setEntry h.wrByte

theorem Keeps.pokeAll (h : Keeps s t) {n : Nat} {v : VSel} {ws : List (Nat × Byte)} : Keeps s (t.pokeAll n v ws).1 := by
  unfold State.pokeAll
  refine Keeps.foldl_fst h fun p w k => ?_
  split
  · exact k
  · split
    · split
      · exact k
      · exact k.setPoison.poke
    · exact k.poke

theorem Keeps.pokeRun (h : Keeps s t) {n off : Nat} {v : VSel} {bs : List Byte} : Keeps s (t.pokeRun n off v bs).1 := h.pokeAll

theorem Keeps.accessViolation (h : Keeps s t) {n : Nat} : Keeps s (t.accessViolation n) := h.count

theorem Keeps.hostStore (h : Keeps s t) {n off : Nat} {bs : List Byte} : Keeps s (t.hostStore n off bs).1 := h.pokeAll

theorem Keeps.wakeFeeds (h : Keeps s t) : Keeps s (t.wakeFeeds) := h.same

theorem Keeps.storeHeld (h : Keeps s t) {w : HeldWrite} : Keeps s (t.storeHeld w) := by
  unfold State.storeHeld
  dsimp only
  split
  · exact ((Keeps.ite h.pokeRun.report h.pokeRun).same).wakeFeeds
  · exact Keeps.ite h.pokeRun.report h.pokeRun

theorem Keeps.engineWrite (h : Keeps s t) {w : HeldWrite} : Keeps s (t.engineWrite w) := Keeps.ite h.same h.storeHeld

theorem Keeps.resumeWrites (h : Keeps s t) : Keeps s (t.resumeWrites) := h.foldl fun _ _ k => Keeps.ite k k.same.storeHeld

end Sys2Proof.Machine
end

section
/-! The queue and the bounds are kept. Weight versions (R268 to R278). -/

namespace Sys2Proof.Machine

set_option Elab.async false

variable {s t : State}

theorem Keeps.mapEntries (h : Keeps s t) {f : Entry → Entry} : Keeps s (t.mapEntries f) := h.same

theorem Keeps.openPending (h : Keeps s t) {n base : Nat} : Gives s (t.openPending n base) := by
  unfold State.openPending
  split
  · exact Gives.none
  · exact Gives.some h.setEntry

theorem Keeps.tagFor (h : Keeps s t) {a : Asker} : Tags s (t.tagFor a) := by
  unfold State.tagFor
  dsimp only
  split
  · exact Tags.some (Keeps.ite h.setTenant h)
  · exact Tags.ite (Tags.some h.setTenant) Tags.none

theorem Keeps.resolveRead (h : Keeps s t) {a : Asker} {off vtag : Nat} {flagV : Bool} :
    (t.resolveRead a off vtag flagV).Kept s := by
  unfold State.resolveRead
  split
  · exact h
  · refine .ite h (.ite h (.ite trivial ?_))
    split <;> rename_i eq
    · exact h.count
    · exact .ite (h.tagFor eq) trivial

theorem Keeps.resolveWrite (h : Keeps s t) {a : Asker} {off vtag : Nat} {flagV : Bool} :
    (t.resolveWrite a off vtag flagV).Kept s := by
  unfold State.resolveWrite
  split
  · exact h
  · refine .ite h (.ite trivial (.ite trivial (.ite h (.ite trivial (.ite h ?_)))))
    split <;> rename_i eq
    · exact h.openPending eq
    · exact h.count

theorem Keeps.freeRetained (h : Keeps s t) {n : Nat} : Keeps s (t.freeRetained n) := by
  unfold State.freeRetained
  dsimp only
  exact h.mapEntries

theorem Keeps.tagReleased (h : Keeps s t) {n : Nat} : Keeps s (t.tagReleased n) := h.same

theorem Keeps.releaseTags (h : Keeps s t) {n : Nat} {p : Tag → Bool} : Keeps s (t.releaseTags n p) :=
  ((Keeps.ite h.tagReleased h).setTenant).freeRetained

theorem Keeps.commitVersions (h : Keeps s t) {n : Nat} : Keeps s (t.commitVersions n) := h.mapEntries.freeRetained.setReg

theorem Keeps.abortVersions (h : Keeps s t) {n : Nat} : Keeps s (t.abortVersions n) := h.mapEntries

end Sys2Proof.Machine
end

section
/-! The queue and the bounds are kept. Operands. -/

namespace Sys2Proof.Machine

set_option Elab.async false

variable {s t : State}

theorem Keeps.resolveAt (h : Keeps s t) {a : Asker} {d : Desc} {tag : Nat} {write : Bool} :
    (t.resolveAt a d tag write).Kept s := by
  have resolved : (if write then t.resolveWrite a (t.versionOff a.n d) tag d.v else t.resolveRead a (t.versionOff a.n d) tag
    d.v).Kept s :=
    .ite h.resolveWrite h.resolveRead
  unfold State.resolveAt
  refine .ite h ?_
  dsimp only
  split <;> rename_i eq
  · exact h
  · exact resolved.of eq
  · exact .ite h (resolved.of eq)

theorem Keeps.meetAt (h : Keeps s t) {n : Nat} {d : Desc} {v : VSel} {write : Bool} {master : Nat} {offs : List Nat} :
    (t.meetAt n d v write master offs).Kept s := by
  unfold State.meetAt
  extract_lets met u
  have hu : Keeps s u := h.meetInjections
  exact .ite hu hu

theorem Keeps.prepAt (h : Keeps s t) {a : Asker} {d : Desc} {tag : Nat} {write : Bool} {master : Nat} {offs : List Nat} :
    (t.prepAt a d tag write master offs).Kept s := by
  unfold State.prepAt
  split
  · exact h
  · split
    · exact h
    · split <;> rename_i eq
      · exact (h.resolveAt.of eq : Keeps s _).meetAt
      · exact h.resolveAt

theorem Keeps.endKernels (h : Keeps s t) {c x : Nat} : Keeps s (t.endKernels c x) := Keeps.ite h h.setCore.setCtx

theorem Keeps.stopFaulted (h : Keeps s t) {c x unit access : Nat} : Keeps s (t.stopFaulted c x unit access) :=
  h.endKernels.setCtx

theorem Keeps.faultCtx (h : Keeps s t) {c x unit cause access addr part : Nat} :
    Keeps s (t.faultCtx c x unit cause access addr part) := by
  unfold State.faultCtx
  dsimp only
  refine Keeps.report ?_
  split
  · split
    · exact h.stopFaulted.count
    · exact h.stopFaulted
  · exact h.stopFaulted

theorem Keeps.waitCtx (h : Keeps s t) {c x : Nat} {w : WaitFor} : Keeps s (t.waitCtx c x w) := h.setCtx

theorem Keeps.wakeYielded (h : Keeps s t) {c x : Nat} : Keeps s (t.wakeYielded c x) :=
  h.foldl fun _ _ k => Keeps.ite k.setCtx k

theorem Keeps.issue (h : Keeps s t) {c x : Nat} {effect : Work → State → State}
    (heffect : ∀ a u, Keeps s u → Keeps s (effect a u)) : Keeps s (t.issue c x effect) := by
  unfold State.issue
  dsimp only
  split
  · split
    · exact h
    · exact Keeps.ite (heffect _ _ h.wakeYielded.setCtx) h.wakeYielded.faultCtx
  · exact h

theorem Keeps.holdBack (h : Keeps s t) {c x : Nat} {w : WaitFor} : Keeps s (t.holdBack c x w) := h.setCtx

theorem Keeps.notYet (h : Keeps s t) {c x : Nat} : Keeps s (t.notYet c x) := h.setCtx

theorem Keeps.finishToken (h : Keeps s t) {c x t' status : Nat} : Keeps s (t.finishToken c x t' status) := by
  unfold State.finishToken
  dsimp only
  split
  · exact h
  · split
    · exact Keeps.ite h.setCtx h.setCtx
    · exact h.setCtx

end Sys2Proof.Machine
end

section
/-! The queue and the bounds are kept. Lanes and lasers. -/

namespace Sys2Proof.Machine

set_option Elab.async false

variable {s t : State}

theorem Keeps.setLane (h : Keeps s t) {port laser v : Nat} : Keeps s (t.setLane port laser v) := h.setReg

theorem Keeps.setRole (h : Keeps s t) {port role lane : Nat} : Keeps s (t.setRole port role lane) := h.setReg

theorem Keeps.laneEvent (h : Keeps s t) {port laser : Nat} : Keeps s (t.laneEvent port laser) := h.report

theorem Keeps.settlePort (h : Keeps s t) {port : Nat} : Keeps s (t.settlePort port) :=
  Keeps.ite h.setReg.setReg.report h.setReg.setReg

theorem Keeps.pisteEvent (h : Keeps s t) {kind port lane step chip : Nat} : Keeps s (t.pisteEvent kind port lane step chip) :=
  h.count.raise

theorem Keeps.loseLane (h : Keeps s t) {port lane : Nat} : Keeps s (t.loseLane port lane) := by
  unfold State.loseLane
  dsimp only
  split
  · exact h
  · exact Keeps.ite h h.setPort.pisteEvent

theorem Keeps.regainLane (h : Keeps s t) {port lane : Nat} : Keeps s (t.regainLane port lane) :=
  Keeps.ite h.setPort.pisteEvent h

theorem Keeps.moveBase (h : Keeps s t) {port : Nat} : Keeps s (t.moveBase port) := by
  unfold State.moveBase
  dsimp only
  split
  · exact h
  · exact h.setPort.emit.setReg.count.pisteEvent

theorem Keeps.laneGone (h : Keeps s t) {port lane : Nat} : Keeps s (t.laneGone port lane) :=
  Keeps.ite h.loseLane.moveBase h.loseLane

theorem Keeps.freeSpare (h : Keeps s t) {port : Nat} : Keeps s (t.freeSpare port) := h.setLane.setRole

theorem Keeps.countSwap (h : Keeps s t) {port laser : Nat} : Keeps s (t.countSwap port laser) := h.setReg.laneEvent

theorem Keeps.swapBack (h : Keeps s t) {port laser : Nat} : Keeps s (t.swapBack port laser) := h.emit.countSwap.freeSpare

theorem Keeps.abandonWax (h : Keeps s t) {port : Nat} : Keeps s (t.abandonWax port) := by
  unfold State.abandonWax
  dsimp only
  split
  · exact h
  · exact Keeps.ite h h.setPort.setLane.swapBack

theorem Keeps.dropLane (h : Keeps s t) {port laser : Nat} : Keeps s (t.dropLane port laser) :=
  Keeps.ite ((Keeps.ite h.abandonWax.setLane.count.laneEvent.setRole.laneGone
    h.abandonWax.setLane.count.laneEvent.setRole).settlePort)
    (Keeps.ite ((((Keeps.ite h.abandonWax.setLane.count.laneEvent.setPort.freeSpare
    h.abandonWax.setLane.count.laneEvent).setPort).setRole).settlePort)
    (((Keeps.ite h.abandonWax.setLane.count.laneEvent.setPort.freeSpare
    h.abandonWax.setLane.count.laneEvent).laneGone).settlePort))

theorem Keeps.mislock (h : Keeps s t) {port laser : Nat} : Keeps s (t.mislock port laser) :=
  Keeps.ite h h.emit.setLane.setLaser.count.laneEvent.settlePort

theorem Keeps.fallBack (h : Keeps s t) {port laser : Nat} : Keeps s (t.fallBack port laser) :=
  Keeps.ite h h.setReg.laneEvent.settlePort

theorem Keeps.startSwap (h : Keeps s t) {port lane : Nat} : Keeps s (t.startSwap port lane) := h.setPort.setLane.setRole.setReg

theorem Keeps.bringUp (h : Keeps s t) {port laser channel : Nat} : Keeps s (t.bringUp port laser channel) :=
  Keeps.ite h (((((Keeps.ite h.setPort h.setPort).setLaser).setLane).setReg).settlePort)

theorem Keeps.wakeSpare (h : Keeps s t) {port : Nat} : Keeps s (t.wakeSpare port) := Keeps.ite h.setLane h

theorem Keeps.bringUpBase (h : Keeps s t) : Keeps s (t.bringUpBase) := h.foldl fun _ _ k => k.bringUp.wakeSpare

theorem Keeps.darken (h : Keeps s t) {port : Nat} : Keeps s (t.darken port) :=
  ((h.foldl fun _ _ k => k.setLane).setRole).settlePort

theorem Keeps.settleRacks (h : Keeps s t) : Keeps s (t.settleRacks) :=
  h.foldl fun _ _ k => Keeps.ite (Keeps.ite k k.darken) (Keeps.ite k.bringUp.wakeSpare k)

theorem Keeps.retryQuarantine (h : Keeps s t) : Keeps s (t.retryQuarantine) := h.foldl fun _ _ k => Keeps.ite k.bringUp k

end Sys2Proof.Machine
end

section
/-! The queue and the bounds are kept. The deadline arbiters (R495 to R498). -/

namespace Sys2Proof.Machine

set_option Elab.async false

variable {s t : State}

theorem Keeps.drawJitter (h : Keeps s t) {site : Nat} : Keeps s (t.drawJitter site).2 := Keeps.ite_snd h (h.draw (w := 24))

theorem Keeps.ask (h : Keeps s t) {site requester deadline : Nat} : Keeps s (t.ask site requester deadline) :=
  h.drawJitter.same

theorem Keeps.askTimes (h : Keeps s t) {k site requester deadline : Nat} : Keeps s (t.askTimes k site requester deadline) :=
  h.foldl fun _ _ k => k.ask

end Sys2Proof.Machine
end

section
/-! The queue and the bounds are kept. The flags and counts an instruction makes. -/

namespace Sys2Proof.Machine

set_option Elab.async false

variable {s t : State}

theorem Keeps.judge (h : Keeps s t) {n slot : Nat} {step : Option Nat} {unit : Nat} {gradient : Bool} {c : Counts} :
    Keeps s (t.judge n slot step unit gradient c) := by
  unfold State.judge
  dsimp only
  split
  · exact h.setSlot
  · exact Keeps.ite h.setSlot h

theorem Keeps.judgeDesc (h : Keeps s t) {k : Work} {d : Desc} {unit : Nat} {c : Counts} : Keeps s (t.judgeDesc k d unit c) :=
  Keeps.ite h.judge h

theorem Keeps.judgeAll (h : Keeps s t) {k : Work} {unit : Nat} {ds : List (Desc × Counts)} : Keeps s (t.judgeAll k unit ds) :=
  h.foldl fun _ _ k => k.judge

theorem Keeps.emptyReduction (h : Keeps s t) {c x : Nat} : Keeps s (t.emptyReduction c x) := h.setReg

end Sys2Proof.Machine
end

section
/-! The queue and the bounds are kept. Conversions into tensors (R91 to R113). -/

namespace Sys2Proof.Machine

set_option Elab.async false

variable {s t : State}

theorem Keeps.setField (h : Keeps s t) {n off len v : Nat} : Keeps s (t.setField n off len v) := h.pokeRun

theorem Keeps.listRec (h : Keeps s t) {n step off : Nat} : Gives s (t.listRec n step off) := by
  unfold State.listRec
  dsimp only
  split
  · exact Gives.ite (Gives.some h) (Gives.ite (Gives.some h.setTenant) Gives.none)
  · exact Gives.ite (Gives.some h) (Gives.ite (Gives.some h.setTenant) Gives.none)

theorem Keeps.recordMax (h : Keeps s t) {n step off fmt mag : Nat} : Keeps s (t.recordMax n step off fmt mag) :=
  Keeps.ite h.setField.setField h.setField

theorem Keeps.rollScale (h : Keeps s t) {n step off : Nat} : Keeps s (t.rollScale n step off) := by
  unfold State.rollScale
  extract_lets u head cnt s1 s2 s3
  have hu : Keeps s u := h.meetInjections
  have h1 : Keeps s s1 := .ite hu hu.setField.setField.setField
  have h2 : Keeps s s2 := h1.setField
  have h3 : Keeps s s3 := by
    refine .ite ?_ h2
    split
    · exact h2.setField
    · exact h2
  exact .ite hu.report h3.setField

theorem Keeps.clearScale (h : Keeps s t) {n step off : Nat} : Keeps s (t.clearScale n step off) := h.setField

theorem Keeps.listMax (h : Keeps s t) {n st : Nat} {d : Desc} {srcBits : Nat} {mags : List Num} :
    Gives s (t.listMax n st d srcBits mags) := by
  unfold State.listMax
  split
  · intro u eq
    obtain ⟨v, listed, rfl⟩ := Option.map_eq_some_iff.1 eq
    exact (h.listRec listed).recordMax
  · exact Gives.some h

theorem Keeps.storeWith (h : Keeps s t) {n : Nat} {step : Option Nat} {d : Desc} {v : VSel} {m : ConvMode} {srcBits : Nat}
    {vals mags : List Num} : (t.storeWith n step d v m srcBits vals mags).Kept s := by
  unfold State.storeWith
  dsimp only
  split
  · exact h
  · split
    · exact trivial
    · rename_i eq
      split
      · exact ((((Keeps.ite h.setField h).listMax eq)).pokeAll).pokeAll
      · exact ((((Keeps.ite h.setField h).listMax eq)).pokeAll).pokeAll

theorem Keeps.storePart (h : Keeps s t) {n : Nat} {step : Option Nat} {d : Desc} {v : VSel} {m : ConvMode} {vals : List Num}
    {keep : Nat → Nat → Bool} : Keeps s (t.storePart n step d v m vals keep) :=
  Keeps.ite h (((Keeps.ite h.setField h).pokeAll).pokeAll)

theorem Keeps.storeValues (h : Keeps s t) {n : Nat} {step : Option Nat} {d : Desc} {v : VSel} {m : ConvMode} {srcBits : Nat}
    {vals : List Num} : (t.storeValues n step d v m srcBits vals).Kept s :=
  h.storeWith

theorem Keeps.storeRaw (h : Keeps s t) {n : Nat} {d : Desc} {v : VSel} {es : List Nat} : Keeps s (t.storeRaw n d v es).1 :=
  h.pokeAll

end Sys2Proof.Machine
end

section
/-! The queue and the bounds are kept. Judges (spec/09). -/

namespace Sys2Proof.Machine

set_option Elab.async false

variable {s t : State}

theorem Keeps.clearShare (h : Keeps s t) {n : Nat} : Keeps s (t.clearShare n) := h.same

theorem Keeps.advise (h : Keeps s t) {n kind veto slot step value threshold : Nat} :
    Keeps s (t.advise n kind veto slot step value threshold) :=
  h.count.raise

theorem Keeps.settleSlots (h : Keeps s t) {n done : Nat} : Keeps s (t.settleSlots n done) := h.same

theorem Keeps.commitSlot (h : Keeps s t) {n step j : Nat} : Keeps s (t.commitSlot n step j) := by
  unfold State.commitSlot
  dsimp only
  split
  · exact h
  · exact Keeps.ite h.setSlot.setReg.advise h.setSlot

theorem Keeps.adviseWatches (h : Keeps s t) {n : Nat} {p : StepSt} {sel : Nat} {onlyVeto : Bool} :
    Keeps s (t.adviseWatches n p sel onlyVeto) :=
  Keeps.ite (Keeps.ite h h.advise) ((Keeps.ite h h.advise).advise)

theorem Keeps.adviseSlots (h : Keeps s t) {n : Nat} {p : StepSt} {veto : Nat} : Keeps s (t.adviseSlots n p veto) :=
  h.foldl fun _ _ k => k.advise

theorem Keeps.judgeVote (h : Keeps s t) {n : Nat} {p : StepSt} : Keeps s (t.judgeVote n p) :=
  Keeps.ite h (Keeps.ite ((((Keeps.ite h.adviseSlots h).adviseWatches).count).setTenant)
    (((Keeps.ite h.adviseSlots h).adviseWatches).count))

theorem Keeps.resetStats (h : Keeps s t) {n : Nat} : Keeps s (t.resetStats n) :=
  Keeps.ite h.setTenant.setReg.setReg.setReg.setReg.setReg.setReg h

theorem Keeps.lossUpdate (h : Keeps s t) {n a : Nat} {x : Option Nat} : Keeps s (t.lossUpdate n a x) := by
  unfold State.lossUpdate
  split
  · exact h
  · exact Keeps.ite h h.setReg.setReg.setReg.setReg

theorem Keeps.gradUpdate (h : Keeps s t) {n a : Nat} {x : Option Nat} : Keeps s (t.gradUpdate n a x) := by
  unfold State.gradUpdate
  split
  · exact h
  · exact Keeps.ite h h.setReg.setReg.setReg.setReg

theorem Keeps.applyWatchCfg (h : Keeps s t) {n : Nat} : Keeps s (t.applyWatchCfg n) := by
  unfold State.applyWatchCfg
  dsimp only
  split
  · exact h
  · exact h.setTenant.setReg.setReg.setReg.setReg.setReg.setReg

theorem Keeps.settleJudges (h : Keeps s t) {n step : Nat} : Keeps s (t.settleJudges n step) := h.applyWatchCfg.settleSlots

theorem Keeps.judgesCommit (h : Keeps s t) {n step : Nat} {open_ : Option StepSt} : Keeps s (t.judgesCommit n step open_) := by
  unfold State.judgesCommit
  dsimp only
  split
  · exact h.resetStats.settleJudges
  · exact (((((h.adviseSlots.foldl fun _ _ k => k.commitSlot).adviseWatches).resetStats).lossUpdate).gradUpdate).settleJudges

theorem Keeps.dropOpens (h : Keeps s t) {n step : Nat} : Keeps s (t.dropOpens n step) := h.same

theorem Keeps.judgesAbort (h : Keeps s t) {n : Nat} {ended : List Nat} : Keeps s (t.judgesAbort n ended) :=
  (((h.foldl fun _ _ k => k.dropOpens).resetStats).applyWatchCfg).foldl fun _ _ k1 => k1.settleSlots

theorem Keeps.execJudgesReport (h : Keeps s t) {n slot step unit : Nat} {gradient noStep : Bool} {c : Counts} :
    Steps s (execJudgesReport n slot step unit gradient noStep c t) :=
  h.judge.next

theorem Keeps.lateWrite (h : Keeps s t) {n step value : Nat} : Keeps s (t.lateWrite n step value) := h.count.advise

theorem Keeps.execLossWrite (h : Keeps s t) {sess n step value : Nat} : Steps s (execLossWrite sess n step value t) :=
  (h.guarded (fun _ k => Keeps.ite k.setTenant k.lateWrite)).next

theorem Keeps.execGradWrite (h : Keeps s t) {sess n step value : Nat} : Steps s (execGradWrite sess n step value t) :=
  (h.guarded (fun _ k => Keeps.ite k.setTenant k.lateWrite)).next

theorem Keeps.execStatsReset (h : Keeps s t) {sess n value : Nat} : Steps s (execStatsReset sess n value t) :=
  (h.guarded (fun _ k => Keeps.ite k.setTenant k)).next

theorem Keeps.execSlotCheckFail (h : Keeps s t) {slot : Nat} : Steps s (execSlotCheckFail slot t) :=
  h.setSlot.count.report.next

end Sys2Proof.Machine
end

section
/-! The queue and the bounds are kept. How collective instances end. -/

namespace Sys2Proof.Machine

set_option Elab.async false

variable {s t : State}

theorem Keeps.mapInsts (h : Keeps s t) {p : Inst → Bool} {f : Inst → Inst} : Keeps s (t.mapInsts p f) := h.same

theorem Keeps.setInst (h : Keeps s t) {i : Inst} : Keeps s (t.setInst i) := h.mapInsts

theorem Keeps.collEvent (h : Keeps s t) {i : Inst} {kind peer : Nat} : Keeps s (t.collEvent i kind peer) := h.raise

theorem Keeps.progress (h : Keeps s t) {i : Inst} : Keeps s (t.progress i) := Keeps.ite h.setInst.collEvent h

theorem Keeps.endInst (h : Keeps s t) {i : Inst} {status : Nat} : Keeps s (t.endInst i status) :=
  (h.foldl fun _ _ k => k.finishToken).same

theorem Keeps.endFailed (h : Keeps s t) {i : Inst} {peer : Nat} : Keeps s (t.endFailed i peer) := h.endInst.addReg.collEvent

theorem Keeps.failInst (h : Keeps s t) {i : Inst} {peer : Nat} : Keeps s (t.failInst i peer) :=
  h.endFailed.foldl fun _ _ k => k.faultCtx

theorem Keeps.failPeer (h : Keeps s t) {chip : Nat} : Keeps s (t.failPeer chip) := h.foldl fun _ _ k => k.failInst

theorem Keeps.forgetUses (h : Keeps s t) {n : Nat} {p : Nat → Bool} : Keeps s (t.forgetUses n p) := h.same

theorem Keeps.abortInsts (h : Keeps s t) {n step : Nat} {ended : List Nat} : Keeps s (t.abortInsts n step ended) :=
  (h.foldl fun _ _ k => k.endInst).same

theorem Keeps.clearInsts (h : Keeps s t) {n : Nat} : Keeps s (t.clearInsts n) := h.same

end Sys2Proof.Machine
end

section
/-! The queue and the bounds are kept. The die links. -/

namespace Sys2Proof.Machine

set_option Elab.async false

variable {s t : State}

theorem Keeps.setDieLink (h : Keeps s t) {k : Nat} {v : DieLink} : Keeps s (t.setDieLink k v) := h.same

theorem Keeps.queueFlit (h : Keeps s t) {die : Nat} {f : Flit} : Keeps s (t.queueFlit die f) := by
  unfold State.queueFlit
  dsimp only
  split
  · exact h
  · split
    · exact h
    · exact h.setDieLink.ask

theorem Keeps.settleLink (h : Keeps s t) {k : Nat} : Keeps s (t.settleLink k) := h.setDieLink.foldl fun _ _ k => k.queueFlit

theorem Keeps.crossFlit (h : Keeps s t) {k cls : Nat} : Keeps s (t.crossFlit k cls) := by
  unfold State.crossFlit
  dsimp only
  split
  · exact h
  · exact h.setDieLink.settleLink

theorem Keeps.replayFlit (h : Keeps s t) {k : Nat} : Keeps s (t.replayFlit k) := by
  unfold State.replayFlit
  dsimp only
  split
  · exact h
  · exact h.setDieLink

theorem Keeps.crossDies (h : Keeps s t) {a b cls deadline : Nat} {data : List Byte} :
    Keeps s (t.crossDies a b cls deadline data) :=
  h.foldl fun _ _ k => k.queueFlit

theorem Keeps.grant (h : Keeps s t) {site : Nat} : Keeps s (t.grant site) := by
  unfold State.grant
  dsimp only
  split
  · exact h
  · exact Keeps.ite ((Keeps.ite h.same.setReg h.same).crossFlit) (Keeps.ite h.same.setReg h.same)

theorem Keeps.lowerOffsets (h : Keeps s t) : Keeps s (t.lowerOffsets) := h.same

theorem Keeps.commitArbiters (h : Keeps s t) : Keeps s (t.commitArbiters) := h.same

end Sys2Proof.Machine
end

section
/-! The queue and the bounds are kept. Packets and streams (R473 to R491). -/

namespace Sys2Proof.Machine

set_option Elab.async false

variable {s t : State}

theorem Keeps.setTx (h : Keeps s t) {chip channel : Nat} {v : TxStream} : Keeps s (t.setTx chip channel v) := h.same

theorem Keeps.setRx (h : Keeps s t) {chip channel : Nat} {v : RxStream} : Keeps s (t.setRx chip channel v) := h.same

theorem Keeps.useCredit (h : Keeps s t) {port cls n : Nat} : Keeps s (t.useCredit port cls n) :=
  Keeps.ite h.setPort (Keeps.ite h.setPort h)

theorem Keeps.giveCredit (h : Keeps s t) {port cls n : Nat} : Keeps s (t.giveCredit port cls n) :=
  Keeps.ite h.setPort (Keeps.ite h.setPort h)

theorem Keeps.sendCredits (h : Keeps s t) {port : Nat} : Keeps s (t.sendCredits port) :=
  (Keeps.ite (Keeps.ite h h.emit) ((Keeps.ite h h.emit).emit)).setPort

theorem Keeps.freeFlits (h : Keeps s t) {port cls n : Nat} : Keeps s (t.freeFlits port cls n) :=
  Keeps.ite ((Keeps.ite h.setPort.setPort (Keeps.ite h.setPort.setPort h.setPort)).sendCredits)
    (Keeps.ite h.setPort.setPort (Keeps.ite h.setPort.setPort h.setPort))

theorem Keeps.arbitrate (h : Keeps s t) : Keeps s (t.arbitrate) :=
  ((h.foldl fun _ _ k => k.settleLink).foldl fun _ _ k1 => k1.grant).foldl fun _ _ k2 => k2.count

theorem Keeps.leave (h : Keeps s t) {die port cls : Nat} {p : Packet} : Keeps s (t.leave die port cls p) :=
  h.crossDies.useCredit.askTimes.emit

theorem Keeps.resendOne (h : Keeps s t) {p : Packet} {onB : Bool} : Keeps s (t.resendOne p onB) := by
  unfold State.resendOne
  dsimp only
  split
  · exact h
  · exact Keeps.ite h h.leave.count

theorem Keeps.resendAll (h : Keeps s t) {dest channel : Nat} {ps : List (Nat × Packet)} :
    Keeps s (t.resendAll dest channel ps) :=
  h.foldl fun _ _ k => k.resendOne

theorem Keeps.freeRetransmit (h : Keeps s t) {ps : List (Nat × Packet)} : Keeps s (t.freeRetransmit ps) :=
  h.foldl fun _ _ k => k.setReg

theorem Keeps.failSender (h : Keeps s t) {p : Packet} : Keeps s (t.failSender p) := h.foldl fun _ _ k => k.failInst

theorem Keeps.abandonPacket (h : Keeps s t) {p : Packet} : Keeps s (t.abandonPacket p) :=
  Keeps.ite h.same.failSender (Keeps.ite h.same.count.failPeer h.same.count)

theorem Keeps.abandonStream (h : Keeps s t) {dest channel : Nat} : Keeps s (t.abandonStream dest channel) :=
  h.freeRetransmit.setTx.foldl fun _ _ k => k.abandonPacket

theorem Keeps.holdSent (h : Keeps s t) {p : Packet} {port : Nat} : Keeps s (t.holdSent p port) :=
  Keeps.ite ((Keeps.ite h.setTx.setReg h).same) (Keeps.ite ((Keeps.ite h.setTx.setReg h).same) (Keeps.ite h.setTx.setReg h))

theorem Keeps.sendAck (h : Keeps s t) {chip channel : Nat} : Keeps s (t.sendAck chip channel) := Keeps.ite h.setRx.emit h.setRx

theorem Keeps.sendNak (h : Keeps s t) {p : Packet} {code : Nat} : Keeps s (t.sendNak p code) := Keeps.ite h.emit h

theorem Keeps.deliver (h : Keeps s t) {p : Packet} : Keeps s (t.deliver p) := Keeps.ite h.same (Keeps.ite h.same h)

theorem Keeps.takeSequenced (h : Keeps s t) {p : Packet} : Keeps s (t.takeSequenced p) :=
  Keeps.ite h.count (Keeps.ite h.sendAck (Keeps.ite h.sendNak
    (Keeps.ite h.sendNak.count (Keeps.ite h.setRx.deliver.sendAck h.setRx.deliver))))

theorem Keeps.takePosts (h : Keeps s t) {p : Packet} : Keeps s (t.takePosts p) := Keeps.ite h h.same

theorem Keeps.runAcked (h : Keeps s t) {p : Packet} : Keeps s (t.runAcked p) := by
  unfold State.runAcked
  split
  · exact h.progress
  · exact h

theorem Keeps.takeAck (h : Keeps s t) {p : Packet} : Keeps s (t.takeAck p) :=
  Keeps.ite h.takePosts (h.takePosts.freeRetransmit.setTx.foldl fun _ _ k => k.runAcked)

theorem Keeps.takeNak (h : Keeps s t) {p : Packet} : Keeps s (t.takeNak p) := Keeps.ite (Keeps.ite h h.setTx) h.resendAll

theorem Keeps.takePacket (h : Keeps s t) {p : Packet} : Keeps s (t.takePacket p) :=
  Keeps.ite h.takeAck (Keeps.ite h.takeNak (Keeps.ite h.takeSequenced (Keeps.ite h.sendNak.count h.deliver)))

theorem Keeps.epochGate (h : Keeps s t) {p : Packet} : Keeps s (t.epochGate p) :=
  Keeps.ite h.count (Keeps.ite h.same h.takePacket)

theorem Keeps.releaseHeld (h : Keeps s t) : Keeps s (t.releaseHeld) := h.same.foldl fun _ _ k => k.epochGate

theorem Keeps.forward (h : Keeps s t) {ingress : Nat} {p : Packet} : Keeps s (t.forward ingress p) := by
  unfold State.forward
  dsimp only
  split
  · exact h
  · exact Keeps.ite h.leave.addReg.freeFlits h.same

theorem Keeps.retryTransit (h : Keeps s t) : Keeps s (t.retryTransit) := h.same.foldl fun _ _ k => k.forward

theorem Keeps.heardCredits (h : Keeps s t) {port : Nat} {credits : List Nat} : Keeps s (t.heardCredits port credits) :=
  Keeps.ite h h.setPort.giveCredit.giveCredit.retryTransit

theorem Keeps.takeSlots (h : Keeps s t) {port : Nat} {fs : List (Nat × List Byte)} : Keeps s (t.takeSlots port fs) := h.setPort

theorem Keeps.packetWhole (h : Keeps s t) {port cls : Nat} {p : Packet} : Keeps s (t.packetWhole port cls p) := h.setPort

theorem Keeps.storeDrawing (h : Keeps s t) {slot : Nat} {d : Drawing} : Keeps s (t.storeDrawing slot d) :=
  Keeps.ite h (((Keeps.ite h h.bump).foldl fun _ _ k => k.bump).same)

theorem Keeps.lateSlalom (h : Keeps s t) {step : Nat} : Keeps s (t.lateSlalom step) := h.count.count.pisteEvent

theorem Keeps.retune (h : Keeps s t) {port lane channel : Nat} : Keeps s (t.retune port lane channel) :=
  h.emit.count.setReg.setReg

theorem Keeps.drawLane (h : Keeps s t) {port lane channel : Nat} : Keeps s (t.drawLane port lane channel) :=
  Keeps.ite h (Keeps.ite (Keeps.ite h h.retune) (Keeps.ite (Keeps.ite h h.bringUp.wakeSpare) h.setReg))

theorem Keeps.undrawLane (h : Keeps s t) {port lane : Nat} : Keeps s (t.undrawLane port lane) :=
  (Keeps.ite (Keeps.ite h.setPort.freeSpare h.setPort) ((Keeps.ite h.setPort.freeSpare h.setPort).setLane)).settlePort

theorem Keeps.slalomLane (h : Keeps s t) {old new : Option Drawing} {port lane : Nat} :
    Keeps s (t.slalomLane old new port lane) := by
  unfold State.slalomLane
  split
  · exact h
  · split
    · exact h
    · exact h.drawLane
    · exact h.undrawLane

theorem Keeps.putInForce (h : Keeps s t) {id : Nat} : Keeps s (t.putInForce id) := by
  unfold State.putInForce
  dsimp only
  split
  · exact h
  · split
    · exact h
    · exact (h.same.setReg.foldl fun _ _ k => k.slalomLane).retryQuarantine

theorem Keeps.settleSlalom (h : Keeps s t) : Keeps s (t.settleSlalom) := by
  unfold State.settleSlalom
  dsimp only
  split
  · exact h.setReg.setReg
  · exact h.setReg

end Sys2Proof.Machine
end

section
/-! The queue and the bounds are kept. RoCEv2 as requester and what queue pairs share (R714, R715, R718 to R720). -/

namespace Sys2Proof.Machine

set_option Elab.async false

variable {s t : State}

theorem Keeps.setQp (h : Keeps s t) {i : Nat} {v : Qp} : Keeps s (t.setQp i v) := h.same

theorem Keeps.sendRdma (h : Keeps s t) {i : Nat} {m : Msg} : Keeps s (t.sendRdma i m) := h.sendIp

theorem Keeps.pushCompletion (h : Keeps s t) {q : Nat} {c : Completion} : Keeps s (t.pushCompletion q c) := by
  unfold State.pushCompletion
  dsimp only
  split
  · exact h
  · exact Keeps.ite h.setQp.sendRdma h

theorem Keeps.resendPushes (h : Keeps s t) {i : Nat} {rs : List (Nat × Nat × Completion)} : Keeps s (t.resendPushes i rs) :=
  h.foldl fun _ _ k => k.sendRdma

theorem Keeps.qpFail (h : Keeps s t) {i : Nat} : Keeps s (t.qpFail i) := h.setQp

theorem Keeps.qpExhausted (h : Keeps s t) {i : Nat} : Keeps s (t.qpExhausted i) :=
  Keeps.ite h.setQp.count.resendPushes h.qpFail

theorem Keeps.qpStart (h : Keeps s t) {i : Nat} {spec : QpSpec} : Keeps s (t.qpStart i spec) :=
  h.setQp.foldl fun _ _ k => k.foldl fun _ _ k1 => k1.pushCompletion

end Sys2Proof.Machine
end

section
/-! The queue and the bounds are kept. Work items. -/

namespace Sys2Proof.Machine

set_option Elab.async false

variable {s t : State}

theorem Keeps.writeCompletion (h : Keeps s t) {w : Nat} {k : Work} : Keeps s (t.writeCompletion w k) :=
  Keeps.ite h.same h.same.pushCompletion

theorem Keeps.endWork (h : Keeps s t) {w : Nat} {k : Work} {status detail : Nat} : Keeps s (t.endWork w k status detail) :=
  Keeps.ite ((Keeps.ite ((Keeps.ite h.releaseTags h).setQueue) (Keeps.ite h.releaseTags h)).writeCompletion)
    ((Keeps.ite ((Keeps.ite h.releaseTags h).setQueue) (Keeps.ite h.releaseTags h)).setWork)

theorem Keeps.idleCtx (h : Keeps s t) {c x : Nat} : Keeps s (t.idleCtx c x) := h.setCore.setCtx

theorem Keeps.endOnCtx (h : Keeps s t) {c x status : Nat} : Keeps s (t.endOnCtx c x status) := by
  unfold State.endOnCtx
  dsimp only
  split
  · exact h
  · exact h.idleCtx.endWork

theorem Keeps.stopCtx (h : Keeps s t) {c x status : Nat} : Keeps s (t.stopCtx c x status) := h.setCore.setCtx

theorem Keeps.endWorks (h : Keeps s t) {p : Work → Bool} {status : Nat} {stopRunning : Bool} :
    Keeps s (t.endWorks p status stopRunning) :=
  h.foldl fun _ _ k => Keeps.ite k (Keeps.ite k.endWork (Keeps.ite k.stopCtx k))

theorem Keeps.takeBounds (h : Keeps s t) {n : Nat} : Keeps s (t.takeBounds n) :=
  h.foldl fun _ _ k => k.foldl fun _ _ k1 => Keeps.ite k1 k1.setCtx.setReg

theorem Keeps.openStep (h : Keeps s t) {n step : Nat} : Keeps s (t.openStep n step) :=
  h.same.setTenant.setReg.setReg.setReg.setReg.setReg.takeBounds.settleDevice

theorem Keeps.ensureStep (h : Keeps s t) {n step : Nat} : Keeps s (t.ensureStep n step) := Keeps.ite h h.openStep

theorem Keeps.putOn (h : Keeps s t) {w : Nat} {k : Work} {c x : Nat} {gs : List Nat} {ab sb : Nat} :
    Keeps s (t.putOn w k c x gs ab sb) := by
  unfold State.putOn
  dsimp only
  split
  · exact h
  · exact h.setCtx.setWork.setQueue.setTenant

theorem Keeps.placeHead (h : Keeps s t) {q : Nat} : Keeps s (t.placeHead q) := by
  unfold State.placeHead
  dsimp only
  split
  · exact h
  · split
    · exact h
    · split
      · exact h.endWork
      · split
        · exact h
        · exact (Keeps.ite h h.ensureStep).putOn

end Sys2Proof.Machine
end

section
/-! The queue and the bounds are kept. The sketch engine's arithmetic (R549 to R557). -/

namespace Sys2Proof.Machine

set_option Elab.async false

variable {s t : State}

theorem Keeps.setSkGroup (h : Keeps s t) {step group : Nat} {g : SkGroup} : Keeps s (t.setSkGroup step group g) := h.same

theorem Keeps.moveMeans (h : Keeps s t) {g a true_ trace : Nat} : Keeps s (t.moveMeans g a true_ trace) := h.same

theorem Keeps.estimate (h : Keeps s t) {p : StepSt} {group : Nat} {g : SkGroup} : Keeps s (t.estimate p group g) :=
  Keeps.ite h.count.raise (Keeps.ite h.count.raise (Keeps.ite h.moveMeans.count.raise h.count.raise))

theorem Keeps.estimateAll (h : Keeps s t) {n : Nat} {p : StepSt} : Keeps s (t.estimateAll n p) :=
  (h.foldl fun _ _ k => k.estimate).same

theorem Keeps.dropSketches (h : Keeps s t) {n step : Nat} : Keeps s (t.dropSketches n step) := h.same

theorem Keeps.applyProposal (h : Keeps s t) {n : Nat} {x : Option Nat} : Keeps s (t.applyProposal n x) := by
  unfold State.applyProposal
  dsimp only
  split
  · exact h.setTenant
  · exact Keeps.ite h.setTenant.setReg.count h.setTenant.setReg.count.engineWrite

theorem Keeps.showSigma (h : Keeps s t) {engine : Nat} : Keeps s (t.showSigma engine) := h.setReg

theorem Keeps.applySketchSettings (h : Keeps s t) : Keeps s t.applySketchSettings := by
  have coded : Keeps s (match t.sketch.pendingCode with | some v => t.setReg Obj.sampleCode v | none => t) := by
    cases t.sketch.pendingCode with
    | none => exact h
    | some v => exact h.setReg
  refine .ite h (Keeps.same (t := match t.sketch.pendingPeriod with
    | some v => (List.range 4).foldl State.showSigma
      ((match t.sketch.pendingCode with | some v => t.setReg Obj.sampleCode v | none => t).setReg Obj.sketchIntegration v)
    | none => match t.sketch.pendingCode with | some v => t.setReg Obj.sampleCode v | none => t) ?_)
  split
  · exact coded.setReg.foldl fun _ _ k => k.showSigma
  · exact coded

end Sys2Proof.Machine
end

section
/-! The queue and the bounds are kept. What a step's commit and abort do on this package (R579 to R581, R264, R242). -/

namespace Sys2Proof.Machine

set_option Elab.async false

variable {s t : State}

theorem Keeps.ledgerEvent (h : Keeps s t) {n kind chip step detail : Nat} : Keeps s (t.ledgerEvent n kind chip step detail) :=
  h.raise

theorem Keeps.mirrorEvent (h : Keeps s t) {n kind chip base : Nat} : Keeps s (t.mirrorEvent n kind chip base) := h.raise

theorem Keeps.memberEvent (h : Keeps s t) {kind chip : Nat} : Keeps s (t.memberEvent kind chip) := h.raise

theorem Keeps.rollUpdate (h : Keeps s t) {n step off : Nat} : Keeps s (t.rollUpdate n step off) :=
  Keeps.ite h.meetInjections.report (((Keeps.ite ((Keeps.ite h.meetInjections h.meetInjections.setField).setField)
    (Keeps.ite h.meetInjections h.meetInjections.setField)).setField).setField)

theorem Keeps.clearUpdate (h : Keeps s t) {n off : Nat} : Keeps s (t.clearUpdate n off) := h.setField

theorem Keeps.emptyStacks (h : Keeps s t) {n : Nat} {commit : Bool} : Keeps s (t.emptyStacks n commit) :=
  h.foldl fun _ _ k => Keeps.ite k.setCtx.setReg.count k.setCtx.setReg

theorem Keeps.unseal (h : Keeps s t) {n step : Nat} : Keeps s (t.unseal n step) := h.setTenant

theorem Keeps.applyPendingRegs (h : Keeps s t) {n : Nat} : Keeps s (t.applyPendingRegs n) :=
  h.setTenant.foldl fun _ _ k => k.setReg

theorem Keeps.showAttempt (h : Keeps s t) {n : Nat} : Keeps s (t.showAttempt n) := h.setReg

theorem Keeps.rollRecords (h : Keeps s t) {n : Nat} {p : StepSt} : Keeps s (t.rollRecords n p) :=
  ((h.foldl fun _ _ k => k.rollScale).foldl fun _ _ k1 => k1.rollUpdate).foldl fun _ _ k2 => k2.rollScale

theorem Keeps.commitOpen (h : Keeps s t) {n step : Nat} {x : Option StepSt} : Keeps s (t.commitOpen n step x) := by
  unfold State.commitOpen
  split
  · exact h.rollRecords.judgesCommit.unseal.estimateAll
  · exact h.judgesCommit

theorem Keeps.joinWaiting (h : Keeps s t) {n : Nat} : Keeps s (t.joinWaiting n) := by
  unfold State.joinWaiting
  dsimp only
  split
  · exact h
  · exact h.setTenant

theorem Keeps.applyCommit (h : Keeps s t) {n step : Nat} {proposal : Option Nat} : Keeps s (t.applyCommit n step proposal) :=
  h.commitVersions.commitOpen.emptyStacks.applyProposal.setTenant.setReg.forgetUses.count.applyPendingRegs.joinWaiting.setTenant.showAttempt.settleDevice

theorem Keeps.abortOpen (h : Keeps s t) {n : Nat} {p : StepSt} : Keeps s (t.abortOpen n p) :=
  ((h.foldl fun _ _ k => k.clearScale).foldl fun _ _ k1 => k1.clearUpdate).unseal

theorem Keeps.endVersionWaits (h : Keeps s t) {n : Nat} : Keeps s (t.endVersionWaits n) := h.same

theorem Keeps.abortFrom (h : Keeps s t) {n step causes : Nat} : Keeps s (t.abortFrom n step causes) :=
  (((((((((((Keeps.ite h.endWorks.abortInsts.endVersionWaits.abortVersions h.endWorks.abortInsts).releaseTags).foldl fun _ _ k
    => k.abortOpen).judgesAbort).dropSketches).emptyStacks).setTenant).count).applyPendingRegs).foldl fun _ _ k1 =>
    k1.ledgerEvent).showAttempt).settleDevice

end Sys2Proof.Machine
end

section
/-! The queue and the bounds are kept. The step ledger's shared operations (R565 to R582). -/

namespace Sys2Proof.Machine

set_option Elab.async false

variable {s t : State}

theorem Keeps.sendLedger (h : Keeps s t) {n dest : Nat} {m : LedgerMsg} : Keeps s (t.sendLedger n dest m) := h.setTenant.emit

theorem Keeps.sendDown (h : Keeps s t) {n : Nat} {m : LedgerMsg} : Keeps s (t.sendDown n m) :=
  h.foldl fun _ _ k => k.sendLedger

theorem Keeps.takeLedger (h : Keeps s t) {m : LedgerMsg} {f : Nat → State → State} (hf : ∀ a u, Keeps s u → Keeps s (f a u)) :
    Keeps s (t.takeLedger m f) := by
  unfold State.takeLedger
  dsimp only
  split
  · exact h
  · exact Keeps.ite h.emit (hf _ _ h.emit.setTenant)

theorem Keeps.keepDecision (h : Keeps s t) {n : Nat} {d : Decision} : Keeps s (t.keepDecision n d) := h.setTenant

theorem Keeps.takeCommit (h : Keeps s t) {n : Nat} {m : LedgerMsg} : Keeps s (t.takeCommit n m) :=
  Keeps.ite h.sendDown (Keeps.ite h (Keeps.ite h.sendDown h.keepDecision.sendDown.schedule))

theorem Keeps.takeAbort (h : Keeps s t) {n : Nat} {m : LedgerMsg} : Keeps s (t.takeAbort n m) :=
  Keeps.ite h (Keeps.ite h.sendDown h.keepDecision.sendDown.abortFrom)

theorem Keeps.decideAbort (h : Keeps s t) {n step causes : Nat} : Keeps s (t.decideAbort n step causes) := h.takeAbort

theorem Keeps.decideVote (h : Keeps s t) {n : Nat} {v : LedgerMsg} : Keeps s (t.decideVote n v) :=
  Keeps.ite ((Keeps.ite (Keeps.ite h.ledgerEvent h) ((Keeps.ite h.ledgerEvent h).ledgerEvent)).decideAbort) h.takeCommit

theorem Keeps.voteUp (h : Keeps s t) {n : Nat} : Keeps s (t.voteUp n) := by
  unfold State.voteUp
  dsimp only
  split
  · exact h
  · split
    · exact h
    · split
      · exact Keeps.ite h.setTenant.decideVote h
      · split
        · exact h
        · exact h.setTenant.sendLedger

theorem Keeps.runCommit (h : Keeps s t) {n step attempt proposal gate : Nat} {late : Bool} :
    Keeps s (t.runCommit n step attempt proposal gate late) :=
  Keeps.ite h (Keeps.ite h.applyCommit.setTenant.count.count.ledgerEvent h.applyCommit.setTenant)

theorem Keeps.resendCommit (h : Keeps s t) {n : Nat} {d : Decision} : Keeps s (t.resendCommit n d) := h.takeCommit

theorem Keeps.resolveQuery (h : Keeps s t) {n : Nat} : Keeps s (t.resolveQuery n) := by
  unfold State.resolveQuery
  dsimp only
  split
  · exact h
  · split
    · exact h.setTenant.resendCommit
    · split
      · exact h.setTenant.resendCommit
      · exact h.setTenant.decideAbort

theorem Keeps.abortUnvoted (h : Keeps s t) {n step : Nat} : Keeps s (t.abortUnvoted n step) :=
  Keeps.ite h (Keeps.ite h.decideAbort h.abortFrom)

theorem Keeps.jobEpochChange (h : Keeps s t) {n epoch : Nat} : Keeps s (t.jobEpochChange n epoch) := by
  unfold State.jobEpochChange
  extract_lets x s1 k s2 q _ s3
  have h1 : Keeps s s1 := h.setTenant.setReg.setReg.setReg
  have h2 : Keeps s s2 := by
    unfold s2
    split
    · exact .ite h1.resendCommit h1
    · exact h1
  have h3 : Keeps s s3 := .ite (h2.setTenant.foldl fun _ _ k => k.sendLedger).resolveQuery h2
  exact .ite h1 (.ite h3.abortUnvoted (.ite h2.decideAbort h2.abortUnvoted))

end Sys2Proof.Machine
end

section
/-! The queue and the bounds are kept. The membership epoch and fencing (R593 to R598). -/

namespace Sys2Proof.Machine

set_option Elab.async false

variable {s t : State}

theorem Keeps.orphanMirrors (h : Keeps s t) {n chip : Nat} : Keeps s (t.orphanMirrors n chip) :=
  Keeps.ite h (h.bump.setTenant.foldl fun _ _ k => Keeps.ite k.mirrorEvent (Keeps.ite k.mirrorEvent k))

theorem Keeps.becomeMaster (h : Keeps s t) : Keeps s (t.becomeMaster) := h.same.setReg.setReg.setReg.setReg.setReg

theorem Keeps.cadenceTakeover (h : Keeps s t) {chip : Nat} : Keeps s (t.cadenceTakeover chip) := Keeps.ite h.becomeMaster h

theorem Keeps.setLife (h : Keeps s t) {chip v : Nat} : Keeps s (t.setLife chip v) :=
  (((Keeps.ite h h.bump).same).setReg).releaseHeld

theorem Keeps.sendLife (h : Keeps s t) {chip v : Nat} : Keeps s (t.sendLife chip v) := h.foldl fun _ _ k => k.emit

theorem Keeps.avoid (h : Keeps s t) {chip : Nat} : Keeps s (t.avoid chip) := Keeps.ite h h.same

theorem Keeps.unavoid (h : Keeps s t) {chip : Nat} : Keeps s (t.unavoid chip) := h.same

theorem Keeps.seenUnder (h : Keeps s t) {chip epoch : Nat} : Keeps s (t.seenUnder chip epoch) := h.same

theorem Keeps.enterFenced (h : Keeps s t) : Keeps s (t.enterFenced) :=
  Keeps.ite h ((((h.foldl fun _ _ k => Keeps.ite k k.abortFrom).endWorks).enter).memberEvent)

theorem Keeps.loseMember (h : Keeps s t) {n chip : Nat} : Keeps s (t.loseMember n chip) :=
  Keeps.ite h.setTenant.jobEpochChange h

theorem Keeps.fenceApply (h : Keeps s t) {chip : Nat} : Keeps s (t.fenceApply chip) :=
  Keeps.ite h.enterFenced ((((h.avoid.foldl fun _ _ k => k.loseMember).failPeer).foldl fun _ _ k1 =>
    k1.orphanMirrors).cadenceTakeover)

theorem Keeps.fenceChip (h : Keeps s t) {chip event : Nat} : Keeps s (t.fenceChip chip event) :=
  Keeps.ite h h.setLife.sendLife.memberEvent.fenceApply

theorem Keeps.loseAll (h : Keeps s t) {chip : Nat} : Keeps s (t.loseAll chip) := h.foldl fun _ _ k => k.loseMember

theorem Keeps.adoptLife (h : Keeps s t) {chip v : Nat} : Keeps s (t.adoptLife chip v) :=
  Keeps.ite h (Keeps.ite (Keeps.ite h.setLife.sendLife ((Keeps.ite h.setLife.sendLife
    h.setLife.sendLife.memberEvent).fenceApply)) (Keeps.ite h.setLife.sendLife.memberEvent.unavoid.loseAll
    h.setLife.sendLife.memberEvent.unavoid))

end Sys2Proof.Machine
end

section
/-! The queue and the bounds are kept. The cadence (R44 to R56). -/

namespace Sys2Proof.Machine

set_option Elab.async false

variable {s t : State}

theorem Keeps.followTerm (h : Keeps s t) {f : BeatFrame} : Keeps s (t.followTerm f) := Keeps.ite h h.same.setReg

theorem Keeps.noteHeard (h : Keeps s t) {port chip : Nat} : Keeps s (t.noteHeard port chip) := h.same

theorem Keeps.takeFrame (h : Keeps s t) {f : BeatFrame} {chip : Nat} : Keeps s (t.takeFrame f chip) := by
  unfold State.takeFrame
  extract_lets _ _ s1
  have h1 : Keeps s s1 := .ite h.same h
  exact .ite h1 h1.same

theorem Keeps.execBeatFrameReceive (h : Keeps s t) {f : BeatFrame} : Steps s (execBeatFrameReceive f t) := by
  unfold Machine.execBeatFrameReceive
  dsimp only
  split
  · exact h.next
  · split
    · exact h.next
    · exact h.same.followTerm.noteHeard.takeFrame.next

theorem Keeps.offsetLost (h : Keeps s t) {offsetPs : ℤ} : Keeps s (t.offsetLost offsetPs) :=
  Keeps.ite ((Keeps.ite h.setReg h).same) (Keeps.ite h.setReg h)

theorem Keeps.execCadenceDelayMeasurement (h : Keeps s t) {m : Flight} : Steps s (execCadenceDelayMeasurement m t) :=
  Steps.ite h.next ((Keeps.ite h.same.offsetLost h.same).next)

theorem Keeps.execCadenceLock (h : Keeps s t) : Steps s (execCadenceLock t) := (Keeps.ite h.setReg h).next

theorem Keeps.execUpstreamTimeout (h : Keeps s t) {upstream : Nat} : Steps s (execUpstreamTimeout upstream t) := by
  unfold Machine.execUpstreamTimeout
  dsimp only
  split
  · exact h.next
  · split
    · exact h.same.next
    · exact (Keeps.ite h.same.setReg.setReg.count h.same.setReg).next

theorem Keeps.execHoldoverExpiry (h : Keeps s t) : Steps s (execHoldoverExpiry t) := (Keeps.ite h.setReg h).next

theorem Keeps.execCadenceRoleWrite (h : Keeps s t) {sess value : Nat} : Steps s (execCadenceRoleWrite sess value t) :=
  (h.guarded (fun _ k => Keeps.ite ((Keeps.ite k.same k).becomeMaster) k)).next

theorem Keeps.execGatePeriodWrite (h : Keeps s t) {sess value : Nat} : Steps s (execGatePeriodWrite sess value t) :=
  (h.guarded (fun _ k => Keeps.ite k.same k)).next

theorem Keeps.execGatePeriodChange (h : Keeps s t) : Steps s (execGatePeriodChange t) :=
  Steps.ite h.next ((h.same.foldl fun _ _ k => k.setReg).next)

end Sys2Proof.Machine
end

section
/-! The queue and the bounds are kept. Shard mirrors (R600 to R609). -/

namespace Sys2Proof.Machine

set_option Elab.async false

variable {s t : State}

theorem Keeps.setMirror (h : Keeps s t) {n i : Nat} {m : Mirror} : Keeps s (t.setMirror n i m) :=
  (Keeps.ite h.bump h).setTenant

theorem Keeps.askPair (h : Keeps s t) {n : Nat} {answer : Bool} {m : Mirror} : Keeps s (t.askPair n answer m) := by
  unfold State.askPair
  split
  · exact h
  · exact h.emit

theorem Keeps.execMirrorTableWrite (h : Keeps s t) {sess n : Nat} {entries : List MirrorSpec} :
    Steps s (execMirrorTableWrite sess n entries t) :=
  (h.guarded (fun _ k => Keeps.ite k (((Keeps.ite k k.bump).setTenant).foldl fun _ _ k1 => k1.askPair))).next

theorem Keeps.settlePopulation (h : Keeps s t) {n : Nat} : Keeps s (t.settlePopulation n) := h.setTenant

theorem Keeps.pairOne (h : Keeps s t) {n : Nat} {a : PairAsk} {i : Nat} {m : Mirror} : Keeps s (t.pairOne n a i m) :=
  Keeps.ite (Keeps.ite ((Keeps.ite h.setMirror.settlePopulation h.setMirror.settlePopulation.askPair).mirrorEvent)
    (Keeps.ite h.setMirror.settlePopulation h.setMirror.settlePopulation.askPair)) h

theorem Keeps.pairWith (h : Keeps s t) {a : PairAsk} : Keeps s (t.pairWith a) :=
  h.foldl fun _ _ k => k.foldl fun _ _ k1 => k1.pairOne

theorem Keeps.copyShard (h : Keeps s t) {n i : Nat} {m : Mirror} : Keeps s (t.copyShard n i m) := h.setMirror.emit.addReg

theorem Keeps.execMirrorPopulate (h : Keeps s t) {sess n buddyVersion : Nat} {buddyStepOpen : Bool} :
    Steps s (execMirrorPopulate sess n buddyVersion buddyStepOpen t) :=
  (h.guarded (fun _ k => Keeps.ite k (k.setReg.setTenant.foldl fun _ _ k1 => Keeps.ite k1.copyShard k1))).next

theorem Keeps.digestDiffers (h : Keeps s t) {n i : Nat} {m : Mirror} : Keeps s (t.digestDiffers n i m) :=
  Keeps.ite h.count.mirrorEvent.copyShard h.count.mirrorEvent.setMirror.mirrorEvent

theorem Keeps.digestSame (h : Keeps s t) {n i : Nat} {m : Mirror} : Keeps s (t.digestSame n i m) :=
  Keeps.ite h.setMirror h.setMirror.mirrorEvent

theorem Keeps.storeCopy (h : Keeps s t) {n : Nat} {m : Mirror} {copied : List Byte} : Keeps s (t.storeCopy n m copied) := by
  unfold State.storeCopy
  split
  · exact Keeps.ite h.pokeRun h
  · exact h

theorem Keeps.execMirrorDigestReceive (h : Keeps s t) {n index : Nat} {c : BuddyCopy} :
    Steps s (execMirrorDigestReceive n index c t) := by
  unfold Machine.execMirrorDigestReceive
  dsimp only
  split
  · exact h.next
  · exact Steps.ite h.next (Steps.ite ((((Keeps.ite ((Keeps.ite h h.storeCopy).emit)
      (Keeps.ite h h.storeCopy)).digestSame).settlePopulation).next)
      (Steps.ite ((((((Keeps.ite ((Keeps.ite h h.storeCopy).emit)
      (Keeps.ite h h.storeCopy)).setMirror).setTenant).count).mirrorEvent).next)
      ((((Keeps.ite ((Keeps.ite h h.storeCopy).emit) (Keeps.ite h h.storeCopy)).digestDiffers).settlePopulation).next)))

theorem Keeps.execMirrorVerify (h : Keeps s t) {sess n buddyVersion : Nat} {buddyStepOpen : Bool} :
    Steps s (execMirrorVerify sess n buddyVersion buddyStepOpen t) :=
  (h.guarded (fun _ k => Keeps.ite k (k.foldl fun _ _ k1 => Keeps.ite k1.setMirror.emit k1))).next

end Sys2Proof.Machine
end

section
/-! The queue and the bounds are kept. The commands of the fabric (R466 to R491, R498). -/

namespace Sys2Proof.Machine

set_option Elab.async false

variable {s t : State}

theorem Keeps.execDrawingWrite (h : Keeps s t) {sess slot : Nat} {d : Drawing} : Steps s (execDrawingWrite sess slot d t) :=
  (h.guarded (fun _ k => Keeps.ite k.storeDrawing k.count)).next

theorem Keeps.execSlalomArm (h : Keeps s t) {sess : Nat} : Steps s (execSlalomArm sess t) :=
  (h.guarded (fun _ k => Keeps.ite k (Keeps.ite k.setReg ((k.setReg.foldl fun _ _ k1 => Keeps.ite k1.lateSlalom
    k1.schedule).settleSlalom)))).next

theorem Keeps.execPacketInject (h : Keeps s t) {d : DiePacket} : Steps s (execPacketInject d t) := by
  unfold Machine.execPacketInject
  dsimp only
  split
  · exact h.next
  · split
    · exact h.abandonPacket.next
    · split
      · exact h.next
      · exact Steps.ite h.leave.holdSent.next h.next

theorem Keeps.execPacketForward (h : Keeps s t) {port : Nat} {p : Packet} : Steps s (execPacketForward port p t) :=
  Steps.ite h.next h.packetWhole.forward.next

theorem Keeps.arrive (h : Keeps s t) {die : Nat} {p : Packet} : Keeps s (t.arrive die p) := by
  unfold State.arrive
  split
  · exact h
  · exact h.packetWhole.freeFlits.crossDies

theorem Keeps.execPacketReceive (h : Keeps s t) {d : DiePacket} {crc : Nat} : Steps s (execPacketReceive d crc t) :=
  Steps.ite h.next (Steps.ite ((Keeps.ite h.arrive.sendNak h.arrive).next)
    (Steps.ite h.arrive.epochGate.next (Steps.ite h.arrive.pairWith.next h.arrive.next)))

theorem Keeps.execAckReceive (h : Keeps s t) {p : Packet} : Steps s (execAckReceive p t) := Steps.ite h.next h.epochGate.next

theorem Keeps.execNakReceive (h : Keeps s t) {p : Packet} : Steps s (execNakReceive p t) := Steps.ite h.next h.epochGate.next

theorem Keeps.execResendTimeout (h : Keeps s t) {dest channel : Nat} : Steps s (execResendTimeout dest channel t) :=
  Steps.ite h.next (Steps.ite h.setTx.resendAll.next (Steps.ite ((Keeps.ite h.setTx.abandonStream h.setTx.resendAll).next)
    (Steps.ite ((Keeps.ite h.setTx.abandonStream h.setTx.resendAll).next)
    (Steps.ite h.setTx.count.resendAll.next h.setTx.resendAll.next))))

theorem Keeps.execPathAReturn (h : Keeps s t) {dest channel : Nat} : Steps s (execPathAReturn dest channel t) :=
  (Keeps.ite h.setTx h).next

theorem Keeps.execStreamRelease (h : Keeps s t) {dest channel : Nat} : Steps s (execStreamRelease dest channel t) :=
  (Keeps.ite h.setTx h).next

theorem Keeps.execHeldPacketTimeout (h : Keeps s t) {source channel sequence : Nat} :
    Steps s (execHeldPacketTimeout source channel sequence t) :=
  Steps.ite h.same.addReg.next h.next

theorem Keeps.execCreditReturn (h : Keeps s t) {port cls count : Nat} : Steps s (execCreditReturn port cls count t) :=
  (Keeps.ite h.giveCredit.retryTransit h).next

theorem Keeps.execCreditReturnTimer (h : Keeps s t) {port : Nat} : Steps s (execCreditReturnTimer port t) :=
  (Keeps.ite h.sendCredits h).next

theorem Keeps.execCumulativeAckTimer (h : Keeps s t) {source channel : Nat} :
    Steps s (execCumulativeAckTimer source channel t) :=
  (Keeps.ite h.sendAck h).next

theorem Keeps.execArbiterCommitNow (h : Keeps s t) {sess : Nat} : Steps s (execArbiterCommitNow sess t) :=
  (h.guarded (fun _ k => k.commitArbiters)).next

theorem Keeps.execArbiterCommitGate (h : Keeps s t) {sess : Nat} : Steps s (execArbiterCommitGate sess t) :=
  (h.guarded (fun _ k => k.scheduleLocal)).next

end Sys2Proof.Machine
end

section
/-! The queue and the bounds are kept. The commands of the optical ports (R412 to R449). -/

namespace Sys2Proof.Machine

set_option Elab.async false

variable {s t : State}

theorem Keeps.takeFrameFields (h : Keeps s t) {port laser : Nat} {bs : List Byte} : Keeps s (t.takeFrameFields port laser bs) :=
  Keeps.ite (((Keeps.ite (Keeps.ite (((Keeps.ite h.setLaser.setPort h.setLaser).setReg).settlePort)
    ((Keeps.ite h.setLaser.setPort h.setLaser).fallBack)) (Keeps.ite h.setLaser.setPort h.setLaser)).takeSlots).heardCredits)
    ((Keeps.ite (Keeps.ite (((Keeps.ite h.setLaser.setPort h.setLaser).setReg).settlePort)
    ((Keeps.ite h.setLaser.setPort h.setLaser).fallBack)) (Keeps.ite h.setLaser.setPort h.setLaser)).takeSlots)

theorem Keeps.execLaneFrameReceive (h : Keeps s t) {port laser : Nat} {b : LaneBlock} :
    Steps s (execLaneFrameReceive port laser b t) :=
  Steps.ite h.next (Steps.ite h.addReg.count.setPort.next h.addReg.takeFrameFields.next)

theorem Keeps.execEdgeLockUpdate (h : Keeps s t) {port laser ring : Nat} {_monitorError : ℤ} :
    Steps s (execEdgeLockUpdate port laser ring _monitorError t) :=
  Steps.ite h.next h.same.setReg.next

theorem Keeps.execHeaterRangeLoss (h : Keeps s t) {port laser : Nat} : Steps s (execHeaterRangeLoss port laser t) :=
  Steps.ite h.laneEvent.mislock.next h.next

theorem Keeps.execToneCorrelation (h : Keeps s t) {port laser : Nat} {tones : Tones} {wordOk : Bool} :
    Steps s (execToneCorrelation port laser tones wordOk t) :=
  (Keeps.ite h.mislock h).next

theorem Keeps.execRelockComplete (h : Keeps s t) {port laser : Nat} {ok : Bool} :
    Steps s (execRelockComplete port laser ok t) :=
  Steps.ite h.next (Steps.ite h.setLane.setLaser.laneEvent.settlePort.next ((Keeps.ite h.setLaser.dropLane h.setLaser).next))

theorem Keeps.execAlignmentLoss (h : Keeps s t) {port laser : Nat} : Steps s (execAlignmentLoss port laser t) :=
  (Keeps.ite h.setLaser h).next

theorem Keeps.execAlignmentReturn (h : Keeps s t) {port laser : Nat} : Steps s (execAlignmentReturn port laser t) :=
  (Keeps.ite h.setLaser h).next

theorem Keeps.execAlignmentLossDrop (h : Keeps s t) {port laser : Nat} : Steps s (execAlignmentLossDrop port laser t) :=
  (Keeps.ite h.setLaser.dropLane h).next

theorem Keeps.measure (h : Keeps s t) {port : Nat} {w : LaserWindow} : Keeps s (t.measure port w) := h.setReg.setReg.emit

theorem Keeps.countWindows (h : Keeps s t) {port laser : Nat} : Keeps s (t.countWindows port laser) := h.setLaser

theorem Keeps.holdSpare (h : Keeps s t) {port : Nat} : Keeps s (t.holdSpare port) := by
  unfold State.holdSpare
  dsimp only
  split
  · exact h
  · split
    · exact h.freeSpare
    · exact h.setLane.setRole.setReg

theorem Keeps.sendFallBack (h : Keeps s t) {port lane laser : Nat} : Keeps s (t.sendFallBack port lane laser) :=
  Keeps.ite h h.emit.fallBack

theorem Keeps.judgeLane (h : Keeps s t) {port lane : Nat} {swapped : Bool} : Keeps s (t.judgeLane port lane swapped).1 :=
  Keeps.ite_fst h (Keeps.ite_fst h.dropLane (Keeps.ite_fst h
    (Keeps.ite_fst h (Keeps.ite_fst h.abandonWax.startSwap
    (Keeps.ite_fst h.sendFallBack (Keeps.ite_fst (Keeps.ite h.setLane h) (Keeps.ite_fst (Keeps.ite h.setLane h) h)))))))

theorem Keeps.execMarginWindowEnd (h : Keeps s t) {port : Nat} {windows : List LaserWindow} :
    Steps s (execMarginWindowEnd port windows t) := by
  unfold Machine.execMarginWindowEnd
  refine Steps.ite h.next (Keeps.next ?_)
  exact (Keeps.foldl_fst (h.foldl fun _ _ k => k.measure.countWindows) fun _ _ k => k.judgeLane).holdSpare

theorem Keeps.execFarEndReport (h : Keeps s t) {port laser ratePpb : Nat} : Steps s (execFarEndReport port laser ratePpb t) :=
  (Keeps.ite h.setLaser h).next

theorem Keeps.execFarEndReportTimeout (h : Keeps s t) {port laser : Nat} : Steps s (execFarEndReportTimeout port laser t) :=
  (Keeps.ite h.setLaser h).next

theorem Keeps.settleRetune (h : Keeps s t) {port lane : Nat} : Keeps s (t.settleRetune port lane) := by
  unfold State.settleRetune
  split
  · exact Keeps.ite h h.drawLane
  · exact h

theorem Keeps.execSwapConfirm (h : Keeps s t) {port : Nat} : Steps s (execSwapConfirm port t) := by
  unfold Machine.execSwapConfirm
  dsimp only
  split
  · exact h.next
  · exact (((Keeps.ite h.setPort.emit.setLane.setLane.setRole.setReg.countSwap
      h.setPort.emit.setLane.setLane.setRole.setReg.countSwap.laneEvent).settlePort).settleRetune).next

theorem Keeps.execSwapAbandon (h : Keeps s t) {port : Nat} : Steps s (execSwapAbandon port t) := by
  unfold Machine.execSwapAbandon
  dsimp only
  split
  · exact h.next
  · exact h.setPort.setLane.freeSpare.setReg.settleRetune.next

theorem Keeps.execSpareHoldbackEnd (h : Keeps s t) {port : Nat} : Steps s (execSpareHoldbackEnd port t) :=
  (Keeps.ite h.setPort h).next

theorem Keeps.execSpareTakeoverComplete (h : Keeps s t) {port : Nat} : Steps s (execSpareTakeoverComplete port t) := by
  unfold Machine.execSpareTakeoverComplete
  dsimp only
  split
  · exact h.next
  · exact h.setPort.setLane.setRole.setReg.setReg.settlePort.next

theorem Keeps.recordWax (h : Keeps s t) {port laser : Nat} {r : WaxResult} : Keeps s (t.recordWax port laser r) :=
  h.same.setLaser.setReg.setReg

theorem Keeps.afterWax (h : Keeps s t) {port laser : Nat} {r : WaxResult} : Keeps s (t.afterWax port laser r) :=
  Keeps.ite (Keeps.ite h.setLane.setLaser.laneEvent.setRole h.setLane.setLaser.laneEvent)
    (Keeps.ite h.freeSpare ((Keeps.ite ((Keeps.ite h.setLane.setReg h.setLane).swapBack)
    (Keeps.ite h.setLane.setReg h.setLane)).regainLane))

theorem Keeps.waxedSpare (h : Keeps s t) {port : Nat} : Keeps s (t.waxedSpare port) := Keeps.ite h.scheduleLocal h

theorem Keeps.execWaxCalibrationEnd (h : Keeps s t) {port laser : Nat} {r : WaxResult} :
    Steps s (execWaxCalibrationEnd port laser r t) :=
  Steps.ite h.next ((Keeps.ite h.setPort.recordWax.afterWax.settlePort.waxedSpare h.setPort.recordWax.afterWax.settlePort).next)

theorem Keeps.sendIdentity (h : Keeps s t) {port laser : Nat} {quarantine : Bool} :
    Keeps s (t.sendIdentity port laser quarantine) :=
  h.emit

theorem Keeps.execLaneTrainingEnd (h : Keeps s t) {port laser rate16Ppb rate4Ppb : Nat} :
    Steps s (execLaneTrainingEnd port laser rate16Ppb rate4Ppb t) :=
  Steps.ite h.next (Steps.ite h.next h.setReg.setLaser.sendIdentity.next)

theorem Keeps.execLaneBringupRetry (h : Keeps s t) {port laser : Nat} : Steps s (execLaneBringupRetry port laser t) :=
  Steps.ite h.bringUp.next h.next

theorem Keeps.execIdentityFrame (h : Keeps s t) {port laser : Nat} {f : IdFrame} : Steps s (execIdentityFrame port laser f t) :=
  Steps.ite ((Keeps.ite ((Keeps.ite h.seenUnder h).setReg) (Keeps.ite h.seenUnder h)).next)
    (Steps.ite (((((((Keeps.ite ((Keeps.ite h.seenUnder h).setReg)
    (Keeps.ite h.seenUnder h)).setLane).setReg).regainLane).settlePort).retryTransit).next)
    (Steps.ite ((Keeps.ite ((Keeps.ite h.seenUnder h).setReg) (Keeps.ite h.seenUnder h)).next)
    (((((((Keeps.ite ((Keeps.ite h.seenUnder h).setReg) (Keeps.ite h.seenUnder
    h)).setLane).count).laneEvent).sendIdentity).settlePort).next)))

theorem Keeps.execPortRemapWrite (h : Keeps s t) {sess : Nat} {remap : List Nat} : Steps s (execPortRemapWrite sess remap t) :=
  (h.guarded (fun _ k => Keeps.ite k.setReg.retryQuarantine k)).next

theorem Keeps.execChipNumberWrite (h : Keeps s t) {sess value : Nat} : Steps s (execChipNumberWrite sess value t) :=
  (h.guarded (fun _ k => Keeps.ite k.setReg.settleRacks.retryQuarantine k)).next

end Sys2Proof.Machine
end

section
/-! The queue and the bounds are kept. Residency (R323 to R338). -/

namespace Sys2Proof.Machine

set_option Elab.async false

variable {s t : State}

theorem Keeps.settleTokens (h : Keeps s t) {ts : List (Nat × Nat × Nat)} {status : Nat} : Keeps s (t.settleTokens ts status) :=
  h.foldl fun _ _ k => k.finishToken

theorem Keeps.endTokens (h : Keeps s t) {ts : List (Nat × Nat × Nat)} : Keeps s (t.endTokens ts) :=
  h.foldl fun _ _ k => (k.draw (w := 8)).finishToken

theorem Keeps.settleClaim (h : Keeps s t) {c : Claim} {status : Nat} : Keeps s (t.settleClaim c status) := by
  unfold State.settleClaim
  split
  · exact h.finishToken
  · exact h

theorem Keeps.refuseClaim (h : Keeps s t) {c : Claim} {status : Nat} : Keeps s (t.refuseClaim c status) := h.count.settleClaim

theorem Keeps.promote (h : Keeps s t) {key : Nat} {e : Entry} {c : Claim} : Keeps s (t.promote key e c) := h.same

theorem Keeps.returnClean (h : Keeps s t) {key : Nat} {e : Entry} : Keeps s (t.returnClean key e) := by
  unfold State.returnClean
  split
  · exact h
  · exact h.setEntry.count.freeAlloc

theorem Keeps.writeBack (h : Keeps s t) {key : Nat} {e : Entry} : Keeps s (t.writeBack key e) := h.same.count

theorem Keeps.joinClaims (h : Keeps s t) {key tier : Nat} : Keeps s (t.joinClaims key tier) := by
  unfold State.joinClaims
  dsimp only
  split
  · exact h
  · exact h.setEntry.settleTokens

theorem Keeps.promoteWaiting (h : Keeps s t) {key fuel : Nat} : Keeps s (State.promoteWaiting key fuel t) := by
  induction fuel generalizing t with
  | zero => exact h
  | succ fuel ih =>
    unfold State.promoteWaiting
    split
    · exact h
    · split
      · split
        · exact h
        · split
          · exact h.setEntry.promote.joinClaims
          · exact ih h.setEntry.refuseClaim
      · exact h

theorem Keeps.demote (h : Keeps s t) {key : Nat} {e : Entry} {u' : Upper} : Keeps s (t.demote key e u') := by
  unfold State.demote
  split
  · exact Keeps.ite h h.promote
  · exact Keeps.ite (Keeps.ite h h.writeBack) h.returnClean.promoteWaiting

theorem Keeps.evaluate (h : Keeps s t) {key : Nat} : Keeps s (t.evaluate key) := by
  unfold State.evaluate
  dsimp only
  split
  · exact h
  · split
    · exact h
    · split
      · exact h.joinClaims
      · split
        · exact h.joinClaims.promoteWaiting
        · split
          · exact h.joinClaims.promoteWaiting
          · split
            · exact h.joinClaims.promoteWaiting
            · exact Keeps.ite h.joinClaims.promoteWaiting h.joinClaims.promoteWaiting.demote

theorem Keeps.retryMoves (h : Keeps s t) : Keeps s (t.retryMoves) := h.foldl fun _ _ k => Keeps.ite k.evaluate k

theorem Keeps.wakePromotion (h : Keeps s t) {key : Nat} : Keeps s (t.wakePromotion key) := h.same

theorem Keeps.passCharge (h : Keeps s t) {u' : Upper} {heir : Claim} : Keeps s (t.passCharge u' heir) := by
  unfold State.passCharge
  dsimp only
  split
  · exact h
  · exact Keeps.ite h h.same.publishLoans.settleLoans

theorem Keeps.reAnchor (h : Keeps s t) {key tenant cid : Nat} : Keeps s (t.reAnchor key tenant cid) := by
  unfold State.reAnchor
  split
  · exact h
  · extract_lets s1
    have h1 : Keeps s s1 := by
      unfold s1
      split
      · refine .ite ?_ h
        split
        · exact h.passCharge.setEntry
        · exact h
      · exact h
    split
    · split
      · refine .ite ?_ h1
        split
        · exact Keeps.same h1.passCharge
        · exact h1
      · exact h1
    · exact h1

theorem Keeps.handToken (h : Keeps s t) {key : Nat} {c : Claim} : Keeps s (t.handToken key c) := by
  unfold State.handToken
  split
  · exact h.same
  · exact h

theorem Keeps.record (h : Keeps s t) {key : Nat} {e : Entry} {c : Claim} : Keeps s (t.record key e c) := by
  unfold State.record
  dsimp only
  split
  · exact h.setEntry
  · exact Keeps.ite h.handToken.setEntry h.handToken.setEntry.reAnchor

theorem Keeps.applyClaim (h : Keeps s t) {key : Nat} {e : Entry} {c : Claim} : Keeps s (t.applyClaim key e c) := by
  unfold State.applyClaim
  dsimp only
  split
  · exact h.settleClaim
  · split
    · exact h.refuseClaim
    · split
      · exact h.refuseClaim
      · split
        · exact Keeps.ite h.record.settleClaim h.record
        · split
          · exact Keeps.ite h.record.settleClaim.evaluate h.record.settleClaim
          · split
            · exact h.refuseClaim
            · exact h.record.promote

theorem Keeps.dropClaim (h : Keeps s t) {key tenant cid : Nat} : Keeps s (t.dropClaim key tenant cid) := by
  unfold State.dropClaim
  split
  · exact h
  · split
    · exact h.handToken.setEntry.reAnchor.evaluate
    · exact h

theorem Keeps.cancelMove (h : Keeps s t) {k : Nat} {m : Move} {zeroLater : Bool} : Keeps s (t.cancelMove k m zeroLater) := by
  unfold State.cancelMove
  dsimp only
  split
  · exact h.same.endTokens.wakePromotion
  · split
    · exact Keeps.ite h.same.endTokens.wakePromotion.setEntry h.same.endTokens.wakePromotion.setEntry.freeAlloc
    · split
      · exact h.same.endTokens.wakePromotion.setEntry.freeAlloc
      · exact h.same.endTokens.wakePromotion.setEntry

theorem Keeps.removeEntry (h : Keeps s t) {key : Nat} {zeroLater : Bool} : Keeps s (t.removeEntry key zeroLater) := by
  unfold State.removeEntry
  split
  · exact h
  · extract_lets s1 s2 s3
    have h1 : Keeps s s1 := by
      unfold s1
      split
      · exact h.cancelMove
      · exact h
    have h2 : Keeps s s2 := by
      unfold s2
      split
      · exact h1.freeAlloc
      · exact h1
    exact (h2.freeAlloc.endTokens : Keeps s s3).same

end Sys2Proof.Machine
end

section
/-! The queue and the bounds are kept. Issuing an instruction that names operands. -/

namespace Sys2Proof.Machine

set_option Elab.async false

variable {s t : State}

theorem Keeps.resolveAll (h : Keeps s t) {a : Asker} {ops : List OpAsk} : (t.resolveAll a ops).Kept s := by
  induction ops generalizing t with
  | nil => exact h
  | cons o os ih =>
    unfold State.resolveAll
    split <;> rename_i at'
    · exact h.resolveAt.of at'
    · exact h.resolveAt.of at'
    · have rest := ih (h.resolveAt.of at')
      split <;> rename_i eq
      · exact (rest.of eq : Keeps s _)
      · exact rest

theorem Keeps.meetAll (h : Keeps s t) {n unit : Nat} {ops : List (OpAsk × VSel)} : (t.meetAll n unit ops).Kept s := by
  induction ops generalizing t with
  | nil => exact h
  | cons o os ih =>
    unfold State.meetAll
    split <;> rename_i at'
    · exact h.meetAt.of at'
    · exact h.meetAt.of at'
    · have rest := ih (h.meetAt.of at')
      split <;> rename_i eq
      · exact (rest.of eq : Keeps s _)
      · exact rest

theorem Keeps.prepAll (h : Keeps s t) {a : Asker} {unit : Nat} {ops : List OpAsk} : (t.prepAll a unit ops).Kept s := by
  unfold State.prepAll
  split
  · exact h
  · split
    · exact h
    · split <;> rename_i eq
      · exact (h.resolveAll.of eq : Keeps s _).meetAll
      · exact h.resolveAll

theorem Keeps.opFault (h : Keeps s t) {c x unit part : Nat} {f : OpFault} {addr : Nat} {write : Bool} :
    Keeps s (t.opFault c x unit part f addr write) :=
  Keeps.ite h.faultCtx h.faultCtx

theorem Keeps.afterFault (h : Keeps s t) {e : OpFault} {u : State} (hu : Keeps s u) : Keeps s (t.afterFault e u) :=
  Keeps.ite (hu.same) h

theorem Keeps.lateLift (h : Keeps s t) {c x n : Nat} {ds : List (Desc × VSel)} : Keeps s (t.lateLift c x n ds) :=
  Keeps.ite h (Keeps.ite h.count h)

theorem Keeps.withOpsElse (h : Keeps s t) {c x unit : Nat} {k : Work} {ops : List OpAsk}
    {bad : OpFault → Nat → Bool → State → State} {f : List (Desc × VSel) → State → State}
    (hbad : ∀ a b c u, Keeps s u → Keeps s (bad a b c u)) (hf : ∀ a u, Keeps s u → Keeps s (f a u)) : Keeps s
    (t.withOpsElse c x unit k ops bad f) := by
  unfold State.withOpsElse
  split
  · rename_i eq
    exact hbad _ _ _ _ (h.afterFault ((h.prepAll.of eq)))
  · rename_i eq1
    exact ((h.prepAll.of eq1)).holdBack
  · rename_i eq2
    split
    · exact h.notYet
    · split
      · exact h.holdBack
      · exact hf _ _ (((h.prepAll.of eq2)).lateLift)

theorem Keeps.withOps (h : Keeps s t) {c x unit part : Nat} {k : Work} {ops : List OpAsk}
    {f : List (Desc × VSel) → State → State} (hf : ∀ a u, Keeps s u → Keeps s (f a u)) : Keeps s
    (t.withOps c x unit part k ops f) :=
  h.withOpsElse (fun _ _ _ _ k => k.opFault) (fun _ _ k1 => hf _ _ k1)

theorem Keeps.descriptorFault (h : Keeps s t) {c x unit part : Nat} : Keeps s (t.descriptorFault c x unit part) := h.opFault

theorem Keeps.finishStore (h : Keeps s t) {c x unit : Nat} {k : Work} {d : Desc} {r : Stored} (hr : r.Kept s) :
    Keeps s (t.finishStore c x unit k d r) := by
  cases r with
  | done u n => exact Keeps.judgeDesc hr
  | full => exact h.descriptorFault
  | bad u => exact Keeps.opFault hr

theorem Keeps.countRange (h : Keeps s t) {c : Nat} {xs : List (Nat × Bool)} : Keeps s (t.countRange c xs) :=
  Keeps.ite h h.addReg

theorem Keeps.takeF32s (h : Keeps s t) {c n : Nat} {v : VSel} {d : Desc} : Keeps s (t.takeF32s c n v d).2 := h.countRange

end Sys2Proof.Machine
end

section
/-! The queue and the bounds are kept. The row engine's normalisations and soft-maximum (R207 to R214). -/

namespace Sys2Proof.Machine

set_option Elab.async false

variable {s t : State}

theorem Keeps.putSide (h : Keeps s t) {c x sbase : Nat} {es : List (Nat × Nat)} : Keeps s (t.putSide c x sbase es) := h.setCore

theorem Keeps.rowDone (h : Keeps s t) {c : Nat} : Keeps s (t.rowDone c) := h.addReg

theorem Keeps.storeRows (h : Keeps s t) {c x : Nat} {k : Work} {d : Desc} {v : VSel} {m : ConvMode} {rows : List (List Nat)}
    {after : State → State} (hafter : ∀ u, Keeps s u → Keeps s (after u)) : Keeps s (t.storeRows c x k d v m rows after) := by
  have stored : (t.storeValues k.tenant k.stepOf d v m 32 (f32Nums rows)).Kept s := h.storeValues
  unfold State.storeRows
  split <;> rename_i eq
  · exact (hafter _ (stored.of eq : Keeps s _).judgeDesc).rowDone
  · exact h.finishStore stored

theorem Keeps.takeOpt (h : Keeps s t) {c n : Nat} {x : Option (Desc × VSel)} : Keeps s (t.takeOpt c n x).2 := by
  unfold State.takeOpt
  split
  · exact h.takeF32s
  · exact h

theorem Keeps.execRnormF (h : Keeps s t) {core ctx : Nat} {w : RowWord} : Steps s (execRnormF core ctx w t) := by
  unfold Machine.execRnormF
  dsimp only
  refine Keeps.next ?_
  refine Keeps.issue h (fun _ _ k3 => ?_)
  split
  · split
    · exact k3.descriptorFault
    · refine Keeps.withOps k3 (fun _ _ k7 => ?_)
      split
      · exact k7.takeF32s.takeOpt.takeOpt.storeRows (fun _ k8 => k8.putSide)
      · exact k7
  · exact k3.descriptorFault

theorem Keeps.sidePoisonFault (h : Keeps s t) {c x : Nat} : Keeps s (t.sidePoisonFault c x) := h.opFault

theorem Keeps.execRnormB (h : Keeps s t) {core ctx : Nat} {w : RowWord} : Steps s (execRnormB core ctx w t) := by
  unfold Machine.execRnormB
  dsimp only
  refine Keeps.next ?_
  refine Keeps.issue h (fun _ _ k3 => ?_)
  split
  · split
    · exact k3.descriptorFault
    · split
      · exact k3.sidePoisonFault
      · refine Keeps.withOps k3 (fun _ _ k8 => ?_)
        split
        · exact k8.takeF32s.takeF32s.takeOpt.storeRows (fun _ k9 => k9)
        · exact k8
  · exact k3.descriptorFault

theorem Keeps.execRnormP (h : Keeps s t) {core ctx : Nat} {w : RowWord} : Steps s (execRnormP core ctx w t) := by
  refine (h.issue fun k v hv => ?_).next
  dsimp only
  split
  · refine .ite hv.descriptorFault (.ite hv.sidePoisonFault (hv.withOps fun ds z hz => ?_))
    split
    · split
      · exact hz.takeF32s.takeF32s.storeRows fun _ k => k
      · split <;> rename_i eq
        · have first : Keeps s _ := hz.takeF32s.takeF32s.storeValues.of eq
          split <;> rename_i eq2
          · exact (first.storeValues.of eq2 : Keeps s _).judgeAll.rowDone
          · exact hz.takeF32s.takeF32s.descriptorFault
          · exact first.finishStore first.storeValues
        · exact hz.takeF32s.takeF32s.finishStore hz.takeF32s.takeF32s.storeValues
    · exact hz
  · exact hv.descriptorFault

theorem Keeps.execRsmaxF (h : Keeps s t) {core ctx : Nat} {w : RowWord} : Steps s (execRsmaxF core ctx w t) := by
  refine (h.issue fun k v hv => ?_).next
  dsimp only
  split
  · refine .ite hv.descriptorFault (hv.withOps fun ds z hz => ?_)
    split
    · exact hz.takeF32s.storeRows fun _ k => k.putSide.foldl fun _ _ k => k.emptyReduction
    · exact hz
  · exact hv.descriptorFault

theorem Keeps.execRsmaxB (h : Keeps s t) {core ctx : Nat} {w : RowWord} : Steps s (execRsmaxB core ctx w t) := by
  refine (h.issue fun k v hv => ?_).next
  dsimp only
  split
  · refine .ite hv.descriptorFault (.ite hv.sidePoisonFault (hv.withOps fun ds z hz => ?_))
    split
    · exact hz.takeF32s.takeF32s.storeRows fun _ k => k
    · exact hz
  · exact hv.descriptorFault

end Sys2Proof.Machine
end

section
/-! The queue and the bounds are kept. The data mover (R226, R231 to R252, R344). -/

namespace Sys2Proof.Machine

set_option Elab.async false

variable {s t : State}

theorem Keeps.moverFault (h : Keeps s t) {c x : Nat} : Keeps s (t.moverFault c x) := h.descriptorFault

theorem Keeps.moverStore (h : Keeps s t) {c x : Nat} {k : Work} {p : Desc × VSel} {sr ovf : Bool} {srcBits : Nat}
    {vals : List Num} : Keeps s (t.moverStore c x k p sr ovf srcBits vals) :=
  h.finishStore h.storeValues

theorem Keeps.moverRaw (h : Keeps s t) {c x : Nat} {k : Work} {p : Desc × VSel} {es : List Nat} {next : State → State}
    (hnext : ∀ u, Keeps s u → Keeps s (next u)) : Keeps s (t.moverRaw c x k p es next) :=
  Keeps.ite h.storeRaw.opFault (hnext _ h.storeRaw)

theorem Keeps.execDmCopy (h : Keeps s t) {core ctx : Nat} {w : DmWord} : Steps s (execDmCopy core ctx w t) := by
  unfold Machine.execDmCopy
  refine Keeps.next ?_
  refine Keeps.issue h (fun _ _ k3 => ?_)
  split
  · split
    · exact k3.moverFault
    · refine Keeps.withOps k3 (fun _ _ k7 => ?_)
      split
      · exact Keeps.ite (k7.moverRaw (fun _ k8 => k8)) k7.moverStore
      · exact k7
  · exact k3.moverFault

theorem Keeps.execDmXpose (h : Keeps s t) {core ctx : Nat} {w : DmWord} : Steps s (execDmXpose core ctx w t) := by
  unfold Machine.execDmXpose
  refine Keeps.next ?_
  refine Keeps.issue h (fun _ _ k3 => ?_)
  split
  · split
    · exact k3.moverFault
    · refine Keeps.withOps k3 (fun _ _ k7 => ?_)
      split
      · exact k7.moverStore
      · exact k7
  · exact k3.moverFault

theorem Keeps.stackFault (h : Keeps s t) {c x obj : Nat} : Keeps s (t.stackFault c x obj) := h.count.opFault

theorem Keeps.pushEntry (h : Keeps s t) {c x : Nat} {k : Work} {bytes : List Byte} {next : State → State}
    (hnext : ∀ u, Keeps s u → Keeps s (next u)) : Keeps s (t.pushEntry c x k bytes next) :=
  Keeps.ite h.opFault (Keeps.ite h.stackFault (Keeps.ite h.opFault
    (Keeps.ite h.notYet (hnext _ h.pokeRun.setCtx.setReg.setReg))))

theorem Keeps.readRun (h : Keeps s t) {c x n off len : Nat} {next : List Byte → State → State}
    (hnext : ∀ a u, Keeps s u → Keeps s (next a u)) : Keeps s (t.readRun c x n off len next) :=
  Keeps.ite h.meetInjections.opFault (hnext _ _ h.meetInjections)

theorem Keeps.withTop (h : Keeps s t) {c x : Nat} {k : Work} {tid kind : Nat} {shape : Option Desc}
    {next : StackEntry → State → State} (hnext : ∀ a u, Keeps s u → Keeps s (next a u)) : Keeps s
    (t.withTop c x k tid kind shape next) := by
  unfold State.withTop
  dsimp only
  split
  · exact Keeps.ite h.stackFault (h.readRun (fun _ _ k => Keeps.ite k.stackFault (k.readRun (fun _ _ k1 => hnext _ _ k1))))
  · exact h.stackFault

theorem Keeps.popped (h : Keeps s t) {c x : Nat} {e : StackEntry} : Keeps s (t.popped c x e) := h.setCtx.setReg

theorem Keeps.execDmKeep (h : Keeps s t) {core ctx : Nat} {w : DmWord} : Steps s (execDmKeep core ctx w t) := by
  unfold Machine.execDmKeep
  dsimp only
  refine Keeps.next ?_
  refine Keeps.issue h (fun _ _ k3 => ?_)
  split
  · split
    · exact k3.moverFault
    · refine Keeps.withOps k3 (fun _ _ k7 => ?_)
      split
      · exact Keeps.ite (k7.moverRaw (fun _ k8 => k8)) (k7.pushEntry (fun _ k9 => k9.moverRaw (fun _ k10 => k10)))
      · exact k7
  · exact k3.moverFault

theorem Keeps.undoTail (h : Keeps s t) {before : State} {n : Nat} {p : Desc × VSel} {v : Nat} :
    Keeps s (t.undoTail before n p v) :=
  h.pokeAll

theorem Keeps.execDmGate (h : Keeps s t) {core ctx : Nat} {w : DmWord} : Steps s (execDmGate core ctx w t) := by
  unfold Machine.execDmGate
  refine (h.issue fun _ _ k => ?_).next
  split
  · split
    · exact k.moverFault
    · refine k.withOps fun _ _ k1 => ?_
      dsimp only
      split
      · split
        · exact k1.takeF32s.moverStore
        · refine k1.withTop fun _ _ k2 => ?_
          split
          · exact k2.takeF32s.popped.moverStore
          · exact k2.takeF32s.draw.moverStore.undoTail.stackFault
      · exact k1
  · exact k.moverFault

theorem Keeps.execAspush (h : Keeps s t) {core ctx : Nat} {w : DmWord} : Steps s (execAspush core ctx w t) := by
  unfold Machine.execAspush
  refine Keeps.next ?_
  refine Keeps.issue h (fun _ _ k3 => ?_)
  split
  · exact k3
  · split
    · split
      · exact k3.moverFault
      · refine Keeps.withOps k3 (fun _ _ k7 => ?_)
        split
        · exact k7.pushEntry (fun _ k8 => k8)
        · exact k7
    · exact k3.moverFault

theorem Keeps.restoreEntry (h : Keeps s t) {c x : Nat} {k : Work} {p : Desc × VSel} {e : StackEntry} :
    Keeps s (t.restoreEntry c x k p e) :=
  Keeps.ite (((Keeps.ite h.pokeAll.pokeAll.setField h.pokeAll.pokeAll).popped).opFault)
    ((Keeps.ite h.pokeAll.pokeAll.setField h.pokeAll.pokeAll).popped)

theorem Keeps.execAspop (h : Keeps s t) {core ctx : Nat} {w : DmWord} : Steps s (execAspop core ctx w t) := by
  unfold Machine.execAspop
  dsimp only
  refine Keeps.next ?_
  refine Keeps.issue h (fun _ _ k3 => ?_)
  split
  · exact k3
  · split
    · split
      · exact k3.moverFault
      · refine Keeps.withOps k3 (fun _ _ k7 => ?_)
        split
        · exact k7.withTop (fun _ _ k8 => Keeps.ite k8.moverFault k8.restoreEntry)
        · exact k7
    · exact k3.moverFault

theorem Keeps.execDmFold (h : Keeps s t) {core ctx : Nat} {w : DmWord} : Steps s (execDmFold core ctx w t) := by
  unfold Machine.execDmFold
  dsimp only
  refine Keeps.next ?_
  refine Keeps.issue h (fun _ _ k3 => ?_)
  split
  · split
    · exact k3.moverFault
    · refine Keeps.withOps k3 (fun _ _ k7 => ?_)
      split
      · exact Keeps.ite (k7.moverRaw (fun _ k8 => k8)) k7.moverStore
      · exact k7
  · exact k3.moverFault

end Sys2Proof.Machine
end

section
/-! The queue and the bounds are kept. The collective agents' shared operations. -/

namespace Sys2Proof.Machine

set_option Elab.async false

variable {s t : State}

theorem Keeps.skipBlock (h : Keeps s t) {i : Inst} {group : Nat} {engine : Option Nat} :
    Keeps s (t.skipBlock i group engine) := by
  unfold State.skipBlock
  dsimp only
  split
  · exact h.setSkGroup.count
  · exact h.setSkGroup

theorem Keeps.tapBlock (h : Keeps s t) {i : Inst} {group tap c j : Nat} {xs : List Num} :
    Keeps s (t.tapBlock i group tap c j xs) := by
  unfold State.tapBlock
  dsimp only
  refine .ite h ?_
  split
  · exact h.skipBlock
  · refine .ite h.skipBlock ?_
    split
    · exact .ite h.setSkGroup (.ite h.skipBlock h.same)
    · exact h.setSkGroup

theorem Keeps.tapChunk (h : Keeps s t) {i : Inst} {tap c : Nat} {val : RunKey → Option Val} :
    Keeps s (t.tapChunk i tap c val) := by
  unfold State.tapChunk
  dsimp only
  split
  · exact h
  · split
    · exact h
    · exact h.setSkGroup.foldl fun _ _ k => k.foldl fun _ _ k1 => k1.tapBlock

theorem Keeps.withInst (h : Keeps s t) {i : Inst} {f : Inst → State} (hf : ∀ a, Keeps s (f a)) : Keeps s (t.withInst i f) := by
  unfold State.withInst
  split
  · exact hf _
  · exact h

theorem Keeps.chunkReady (h : Keeps s t) {i : Inst} {c : Nat} : Keeps s (t.chunkReady i c) :=
  Keeps.ite h.setInst.tapChunk h.setInst

theorem Keeps.readyNow (h : Keeps s t) {i : Inst} : Keeps s (t.readyNow i) :=
  h.foldl fun _ _ k => k.withInst (fun _ => Keeps.ite k.chunkReady k)

theorem Keeps.retryFails (h : Keeps s t) {i : Inst} : Keeps s (t.retryFails i) := h.endFailed.foldl fun _ _ k => k.opFault

theorem Keeps.retryChunk (h : Keeps s t) {i : Inst} {c x : Nat} : Keeps s (t.retryChunk i c x) :=
  Keeps.ite ((h.foldl fun _ _ k => k.emit).retryFails) (Keeps.ite ((((h.foldl fun _ _ k1 => k1.emit).setInst).count).chunkReady)
    (((h.foldl fun _ _ k2 => k2.emit).setInst).count))

theorem Keeps.retryMarked (h : Keeps s t) {i : Inst} : Keeps s (t.retryMarked i) :=
  h.withInst (fun _ => h.foldl fun _ _ k1 => k1.withInst (fun _ => k1.retryChunk))

theorem Keeps.sendNow (h : Keeps s t) {die : Nat} {p : Packet} : Keeps s (t.sendNow die p).1 := by
  unfold State.sendNow
  dsimp only
  split
  · exact h
  · exact Keeps.ite_fst h.leave.holdSent h

theorem Keeps.agentWrite (h : Keeps s t) {i : Inst} {p : Contrib} {slot : Nat} {vals : List Num} :
    Keeps s (t.agentWrite i p slot vals) := by
  unfold State.agentWrite
  dsimp only
  split
  · exact h
  · split
    · rename_i eq
      exact ((h.prepAt.of eq)).finishStore (((h.prepAt.of eq)).storeValues)
    · rename_i eq1
      exact ((h.prepAt.of eq1)).opFault
    · rename_i eq2
      exact h

theorem Keeps.writeRows (h : Keeps s t) {i : Inst} {p : Contrib} : Keeps s (t.writeRows i p) := by
  unfold State.writeRows
  dsimp only
  split
  · exact h
  · exact Keeps.ite h.agentWrite.pokeAll.opFault (Keeps.ite h.agentWrite.pokeAll.opFault h.agentWrite.pokeAll)

theorem Keeps.writeFor (h : Keeps s t) {i : Inst} {p : Contrib} : Keeps s (t.writeFor i p) := by
  unfold State.writeFor
  split
  · exact h
  · exact h.writeRows
  · exact h.agentWrite
  · exact h.agentWrite
  · exact h.agentWrite

theorem Keeps.recordBound (h : Keeps s t) {i : Inst} : Keeps s (t.recordBound i) := by
  unfold State.recordBound
  dsimp only
  split
  · exact Keeps.ite h (Keeps.ite (h.pokeRun.foldl fun _ _ k => k.opFault) h.pokeRun)
  · exact h

theorem Keeps.flushFeeds (h : Keeps s t) {i : Inst} : Keeps s (t.flushFeeds i) :=
  h.foldl fun _ _ k => Keeps.ite (k.sendNow.withInst (fun _ => k.sendNow.setInst)) k.sendNow

theorem Keeps.forwardFeed (h : Keeps s t) {i : Inst} {p : Contrib} : Keeps s (t.forwardFeed i p) := by
  unfold State.forwardFeed
  dsimp only
  split
  · exact h
  · exact (h.withInst (fun _ => h.setInst)).withInst (fun _ => (h.withInst (fun _ => h.setInst)).flushFeeds)

theorem Keeps.busy (h : Keeps s t) {core bytes : Nat} : Keeps s (t.busy core bytes) := h.addReg

theorem Keeps.writeResult (h : Keeps s t) {i : Inst} : Keeps s (t.writeResult i) :=
  (h.setInst.foldl fun _ _ k => k.writeFor.busy.forwardFeed).recordBound

theorem Keeps.leaveRings (h : Keeps s t) {i : Inst} : Keeps s (t.leaveRings i) :=
  h.withInst (fun _ => h.setInst.foldl fun _ _ k1 => k1.tapChunk)

theorem Keeps.shapeFails (h : Keeps s t) {i : Inst} : Keeps s (t.shapeFails i) :=
  h.endFailed.foldl fun _ _ k => k.descriptorFault

theorem Keeps.waitRun (h : Keeps s t) {r : Run} : Keeps s (t.waitRun r) := h.same

theorem Keeps.applyRun (h : Keeps s t) {i : Inst} {r : Run} : Keeps s (t.applyRun i r) :=
  Keeps.ite h (Keeps.ite h (Keeps.ite h.count (Keeps.ite h.waitRun (Keeps.ite h.shapeFails h.setInst.progress))))

theorem Keeps.drainRuns (h : Keeps s t) {i : Inst} : Keeps s (t.drainRuns i) :=
  h.same.foldl fun _ _ k => k.withInst (fun _ => k.applyRun)

end Sys2Proof.Machine
end

section
/-! The queue and the bounds are kept. Running a matrix product on a partition (R130 to R154). -/

namespace Sys2Proof.Machine

set_option Elab.async false

variable {s t : State}

theorem Keeps.modCore (h : Keeps s t) {c : Nat} {f : Core → Core} : Keeps s (t.modCore c f) := h.setCore

theorem Keeps.partitionFault (h : Keeps s t) {c x part : Nat} {f : OpFault} {addr : Nat} {write : Bool} :
    Keeps s (t.partitionFault c x part f addr write) :=
  Keeps.ite h.opFault h.setCore.count.opFault

theorem Keeps.numericFault (h : Keeps s t) {c x part k : Nat} : Keeps s (t.numericFault c x part k) := h.addReg.partitionFault

theorem Keeps.countPasses (h : Keeps s t) {c : Nat} {w : MmaWord} {M K N kp : Nat} {lost : List Bool} {int : Bool} :
    Keeps s (t.countPasses c w M K N kp lost int) :=
  h.addReg.addReg.addReg

theorem Keeps.countMiss (h : Keeps s t) {c part passes : Nat} : Keeps s (t.countMiss c part passes) := Keeps.ite h h.count

theorem Keeps.issueMatrix (h : Keeps s t) {c x : Nat} {k : Work} {w : MmaWord} {m : Mma} {ds : List Desc} {counts : Counts} :
    Keeps s (t.issueMatrix c x k w m ds counts) := by
  unfold State.issueMatrix
  dsimp only
  exact h.modCore

theorem Keeps.putTileScales (h : Keeps s t) {n osc : Nat} {tout : Option (Desc × VSel)} {scales : Sparse Nat}
    {tiles : List (Nat × Nat)} : Keeps s (t.putTileScales n osc tout scales tiles) := by
  unfold State.putTileScales
  split
  · exact h
  · exact h.pokeAll

theorem Keeps.convertOut (h : Keeps s t) {c x : Nat} {k : Work} {w : MmaWord} {streams : Bool} {o : MmaOps} {y : Desc × VSel}
    {rows : List (List Num)} {empty : Bool} {after : Counts → State → State} (hafter : ∀ a u, Keeps s u → Keeps s (after a u)) :
    Keeps s (t.convertOut c x k w streams o y rows empty after) := by
  unfold State.convertOut
  extract_lets N tiles r s1 vals mode mags
  have h1 : Keeps s s1 := h.addReg
  have stored : (s1.storeWith k.tenant k.stepOf y.1 y.2 mode 40 vals mags).Kept s := h1.storeWith
  refine .ite h1.storePart.putTileScales.numericFault ?_
  split <;> rename_i eq
  · exact hafter _ _ (stored.of eq : Keeps s _).putTileScales
  · exact h1.partitionFault
  · exact (stored.of eq : Keeps s _).partitionFault

theorem Keeps.loadPlanes (h : Keeps s t) {c x : Nat} {k : Work} {w : MmaWord} {m : Mma} {o : MmaOps} :
    Keeps s (t.loadPlanes c x k w m o) := by
  unfold State.loadPlanes
  dsimp only
  exact h.countMiss.modCore

theorem Keeps.runProduct (h : Keeps s t) {c x : Nat} {k : Work} {w : MmaWord} {m : Mma} {a : AccWin} {o : MmaOps}
    {finish : Product → State → State} (hfinish : ∀ a u, Keeps s u → Keeps s (finish a u)) : Keeps s
    (t.runProduct c x k w m a o finish) := by
  unfold State.runProduct
  dsimp only
  split
  · exact h.loadPlanes.partitionFault
  · split
    · exact h.loadPlanes.partitionFault
    · exact hfinish _ _ h.loadPlanes.setCore.countPasses

theorem Keeps.startMatrix (h : Keeps s t) {c x : Nat} {k : Work} {w : MmaWord} {resident : Bool} {yOk : Mma → Desc → Bool}
    {more : Mma → Bool} {run : Mma →
  AccWin → MmaOps → State → State} (hrun : ∀ a b c u, Keeps s u → Keeps s (run a b c u)) : Keeps s
    (t.startMatrix c x k w resident yOk more run) := by
  unfold State.startMatrix
  dsimp only
  split
  · exact h.notYet
  · split
    · exact h.partitionFault
    · split
      · exact h.partitionFault
      · split
        · exact Keeps.ite h.partitionFault h
        · split
          · exact h.notYet
          · refine Keeps.withOpsElse h (fun _ _ _ _ k8 => k8.partitionFault) (fun _ _ k10 => ?_)
            split
            · exact hrun _ _ _ _ k10
            · exact k10

end Sys2Proof.Machine
end

section
/-! The queue and the bounds are kept. The scalar and control instructions (R373 to R377). -/

namespace Sys2Proof.Machine

set_option Elab.async false

variable {s t : State}

theorem Keeps.instrFault (h : Keeps s t) {c x : Nat} : Keeps s (t.instrFault c x) := h.faultCtx

theorem Keeps.arith (h : Keeps s t) {c x : Nat} {w : ScalarWord} {f : Nat → Nat → Nat} : Keeps s (t.arith c x w f) := h.setCtx

theorem Keeps.issueArith (h : Keeps s t) {c x : Nat} {w : ScalarWord} {f : Nat → Nat → Nat} : Keeps s (t.issueArith c x w f) :=
  h.issue (fun _ _ k => k.arith)

theorem Keeps.jump (h : Keeps s t) {c x target : Nat} : Keeps s (t.jump c x target) := h.setCtx

theorem Keeps.execNop (h : Keeps s t) {core ctx : Nat} {_w : ScalarWord} : Steps s (execNop core ctx _w t) :=
  (h.issue (fun _ _ k => k)).next

theorem Keeps.execWait (h : Keeps s t) {core ctx : Nat} {w : ScalarWord} : Steps s (execWait core ctx w t) := by
  unfold Machine.execWait
  dsimp only
  refine Keeps.next ?_
  refine Keeps.issue h (fun _ _ k3 => ?_)
  split
  · exact k3.waitCtx
  · exact k3.setCtx
  · exact k3.setCtx

theorem Keeps.execYield (h : Keeps s t) {core ctx : Nat} {_w : ScalarWord} : Steps s (execYield core ctx _w t) :=
  (h.issue (fun _ _ k => k.waitCtx)).next

theorem Keeps.execYieldTimeout (h : Keeps s t) {core ctx : Nat} : Steps s (execYieldTimeout core ctx t) :=
  (Keeps.ite h.setCtx h).next

theorem Keeps.issueToken (h : Keeps s t) {c x t' : Nat} : Gives s (t.issueToken c x t') :=
  Gives.ite (Gives.some h) (Gives.ite (Gives.some h.setCtx) Gives.none)

theorem Keeps.startBlock (h : Keeps s t) {c g block total : Nat} : Keeps s (t.startBlock c g block total) := h.same

theorem Keeps.handOut (h : Keeps s t) {c x : Nat} : Keeps s (t.handOut c x) := by
  unfold State.handOut
  dsimp only
  refine Keeps.foldl h (fun _ _ k2 => ?_)
  split
  · exact k2
  · exact k2.setCore.startBlock

theorem Keeps.execVlaunch (h : Keeps s t) {core ctx : Nat} {w : ScalarWord} : Steps s (execVlaunch core ctx w t) := by
  unfold Machine.execVlaunch
  dsimp only
  refine Keeps.next ?_
  refine Keeps.issue h (fun _ _ k3 => ?_)
  split
  · exact k3.instrFault
  · rename_i eq4
    exact Keeps.ite (((k3.issueToken eq4)).finishToken) ((((k3.issueToken eq4)).setCore).handOut)

theorem Keeps.execKernelComplete (h : Keeps s t) {core ctx token : Nat} : Steps s (execKernelComplete core ctx token t) := by
  unfold Machine.execKernelComplete
  dsimp only
  split
  · exact h.next
  · exact h.setCore.finishToken.next

theorem Keeps.execEndWork (h : Keeps s t) {core ctx : Nat} {_w : ScalarWord} : Steps s (execEndWork core ctx _w t) :=
  (h.issue (fun _ _ k => k.waitCtx)).next

theorem Keeps.execPublish (h : Keeps s t) {core ctx : Nat} {w : ScalarWord} : Steps s (execPublish core ctx w t) :=
  (h.issue (fun _ _ k => k.setCtx)).next

theorem Keeps.execBr (h : Keeps s t) {core ctx : Nat} {w : ScalarWord} : Steps s (execBr core ctx w t) :=
  (h.issue (fun _ _ k => k.jump)).next

theorem Keeps.execBrz (h : Keeps s t) {core ctx : Nat} {w : ScalarWord} : Steps s (execBrz core ctx w t) :=
  (h.issue (fun _ _ k => Keeps.ite k.jump k)).next

theorem Keeps.execBrnz (h : Keeps s t) {core ctx : Nat} {w : ScalarWord} : Steps s (execBrnz core ctx w t) :=
  (h.issue (fun _ _ k => Keeps.ite k k.jump)).next

theorem Keeps.execSadd (h : Keeps s t) {core ctx : Nat} {w : ScalarWord} : Steps s (execSadd core ctx w t) := h.issueArith.next

theorem Keeps.execSsub (h : Keeps s t) {core ctx : Nat} {w : ScalarWord} : Steps s (execSsub core ctx w t) := h.issueArith.next

theorem Keeps.execSmul (h : Keeps s t) {core ctx : Nat} {w : ScalarWord} : Steps s (execSmul core ctx w t) := h.issueArith.next

theorem Keeps.execSand (h : Keeps s t) {core ctx : Nat} {w : ScalarWord} : Steps s (execSand core ctx w t) := h.issueArith.next

theorem Keeps.execSor (h : Keeps s t) {core ctx : Nat} {w : ScalarWord} : Steps s (execSor core ctx w t) := h.issueArith.next

theorem Keeps.execSxor (h : Keeps s t) {core ctx : Nat} {w : ScalarWord} : Steps s (execSxor core ctx w t) := h.issueArith.next

theorem Keeps.execSshl (h : Keeps s t) {core ctx : Nat} {w : ScalarWord} : Steps s (execSshl core ctx w t) := h.issueArith.next

theorem Keeps.execSshr (h : Keeps s t) {core ctx : Nat} {w : ScalarWord} : Steps s (execSshr core ctx w t) := h.issueArith.next

theorem Keeps.execSsra (h : Keeps s t) {core ctx : Nat} {w : ScalarWord} : Steps s (execSsra core ctx w t) := h.issueArith.next

theorem Keeps.execSslt (h : Keeps s t) {core ctx : Nat} {w : ScalarWord} : Steps s (execSslt core ctx w t) := h.issueArith.next

theorem Keeps.execSsltu (h : Keeps s t) {core ctx : Nat} {w : ScalarWord} : Steps s (execSsltu core ctx w t) :=
  h.issueArith.next

theorem Keeps.execReservedOpcode (h : Keeps s t) {core ctx op : Nat} {inKernel : Bool} :
    Steps s (execReservedOpcode core ctx op inKernel t) :=
  Steps.ite (Steps.ite h.next (Steps.ite h.instrFault.next h.next))
    (Steps.ite h.next ((h.issue (fun _ _ k => k.instrFault)).next))

end Sys2Proof.Machine
end

section
/-! The queue and the bounds are kept. The instructions that start collectives. -/

namespace Sys2Proof.Machine

set_option Elab.async false

variable {s t : State}

theorem Keeps.runGathered (h : Keeps s t) {p : Contrib} : Keeps s (t.runGathered p) := by
  unfold State.runGathered
  dsimp only
  split
  · split
    · exact h
    · split
      · rename_i eq
        split
        · refine Keeps.runProduct ((h.prepAll.of eq)) (fun _ _ k3 => ?_)
          split
          · exact k3
          · exact k3.convertOut (fun _ _ k4 => k4.issueMatrix)
        · exact (h.prepAll.of eq)
      · rename_i eq5
        exact (h.afterFault ((h.prepAll.of eq5))).partitionFault
      · rename_i eq6
        exact (h.prepAll.of eq6)
  · exact h

theorem Keeps.finishWhole (h : Keeps s t) {i : Inst} : Keeps s (t.finishWhole i) :=
  h.withInst (fun _ => Keeps.ite (Keeps.ite (h.writeResult.foldl fun _ _ k1 => k1.runGathered) h.writeResult) h)

theorem Keeps.settleInst (h : Keeps s t) {i : Inst} : Keeps s (t.settleInst i) :=
  h.retryMarked.retryMarked.leaveRings.finishWhole

theorem Keeps.joinInst (h : Keeps s t) {i : Inst} {p : Contrib} {locks : List (Nat × Nat)} :
    Keeps s (t.joinInst i p locks) := by
  unfold State.joinInst
  extract_lets j new y s0 c s1 a s2 s3 s4
  have h1 : Keeps s s1 := h.same
  have ha : Keeps s a := by
    unfold a
    split
    · exact h1.setTenant
    · exact h1
  have h2 : Keeps s s2 := .ite (.ite ha.count ha) h1
  have h3 : Keeps s s3 := h2.withInst fun q => .ite h2.readyNow h2
  have h4 : Keeps s s4 := .ite h3 h3.drainRuns
  exact h4.settleInst

theorem Keeps.startCopy (h : Keeps s t) {c x : Nat} {k : Work} {w : CcWord} {form : CollForm} :
    Keeps s (t.startCopy c x k w form) := by
  unfold State.startCopy
  extract_lets _ _ bad
  have hbad : Keeps s bad := h.descriptorFault
  split
  · refine .ite hbad ?_
    split
    · exact hbad
    · refine .ite hbad ?_
      split
      · exact h.opFault
      · refine h.withOps fun _ _ k => ?_
        dsimp only
        generalize (if form = .allToAll then _ else _ : Option _) = route
        cases route with
        | none => exact k.opFault
        | some r => exact .ite k.instrFault k.joinInst
  · exact hbad

theorem Keeps.execCcAr (h : Keeps s t) {core ctx : Nat} {w : CcWord} : Steps s (execCcAr core ctx w t) :=
  (h.issue (fun _ _ k => k.startCopy)).next

theorem Keeps.execCcRs (h : Keeps s t) {core ctx : Nat} {w : CcWord} : Steps s (execCcRs core ctx w t) :=
  (h.issue (fun _ _ k => k.startCopy)).next

theorem Keeps.execCcAg (h : Keeps s t) {core ctx : Nat} {w : CcWord} : Steps s (execCcAg core ctx w t) :=
  (h.issue (fun _ _ k => k.startCopy)).next

theorem Keeps.execCcA2a (h : Keeps s t) {core ctx : Nat} {w : CcWord} : Steps s (execCcA2a core ctx w t) :=
  (h.issue (fun _ _ k => k.startCopy)).next

theorem Keeps.execCcBcast (h : Keeps s t) {core ctx : Nat} {w : CcWord} : Steps s (execCcBcast core ctx w t) :=
  (h.issue (fun _ _ k => k.startCopy)).next

theorem Keeps.execCcRecv (h : Keeps s t) {core ctx : Nat} {w : CcWord} : Steps s (execCcRecv core ctx w t) :=
  (h.issue (fun _ _ k => k.startCopy)).next

theorem Keeps.withPlan (h : Keeps s t) {c x : Nat} {k : Work} {w : MmaWord} {pl : CollPlan} {form : CollForm}
    {extra : List OpAsk} {go : List (Nat × Nat) → State → State} (hgo : ∀ a u, Keeps s u → Keeps s (go a u)) : Keeps s
    (t.withPlan c x k w pl form extra go) := by
  unfold State.withPlan
  split
  · exact h.partitionFault
  · exact h.withOpsElse (fun _ _ _ _ k => k.partitionFault) (fun _ _ k1 => Keeps.ite k1.instrFault (hgo _ _ k1))

theorem Keeps.startFused (h : Keeps s t) {c x : Nat} {k : Work} {w : MmaWord} {form : CollForm} :
    Keeps s (t.startFused c x k w form) := by
  unfold State.startFused
  dsimp only
  split
  · exact h.partitionFault
  · refine Keeps.startMatrix h (fun _ _ _ _ k2 => ?_)
    split
    · exact k2
    · refine Keeps.withPlan k2 (fun _ _ k5 => ?_)
      split
      · exact k5.joinInst
      · split
        · exact k5.partitionFault
        · refine Keeps.runProduct k5 (fun _ _ k8 => ?_)
          split
          · exact k8.numericFault
          · exact k8.issueMatrix.joinInst

theorem Keeps.execMmaRs (h : Keeps s t) {core ctx : Nat} {w : MmaWord} : Steps s (execMmaRs core ctx w t) :=
  (h.issue (fun _ _ k => k.startFused)).next

theorem Keeps.execMmaAg (h : Keeps s t) {core ctx : Nat} {w : MmaWord} : Steps s (execMmaAg core ctx w t) :=
  (h.issue (fun _ _ k => k.startFused)).next

theorem Keeps.execMmaAr (h : Keeps s t) {core ctx : Nat} {w : MmaWord} : Steps s (execMmaAr core ctx w t) :=
  (h.issue (fun _ _ k => k.startFused)).next

theorem Keeps.execMmaA2a (h : Keeps s t) {core ctx : Nat} {w : MmaWord} : Steps s (execMmaA2a core ctx w t) :=
  (h.issue (fun _ _ k => k.startFused)).next

theorem Keeps.execMmaSend (h : Keeps s t) {core ctx : Nat} {w : MmaWord} : Steps s (execMmaSend core ctx w t) :=
  (h.issue (fun _ _ k => k.startFused)).next

end Sys2Proof.Machine
end

section
/-! The queue and the bounds are kept. The authentication of messages of open sessions (R662, R663) and the replies sent again (R663). -/

namespace Sys2Proof.Machine

set_option Elab.async false

variable {s t : State}

theorem Keeps.authFail (h : Keeps s t) : Keeps s (t.authFail) := h.count

theorem Keeps.authenticate (h : Keeps s t) {e : Envelope} {message : List Byte} : (t.authenticate e message).Kept s := by
  unfold State.authenticate
  dsimp only
  split
  · exact h
  · split
    · exact h.authFail
    · split
      · exact h.authFail
      · split
        · split
          · exact h.sendControl
          · exact h
        · exact h.setSession

theorem Keeps.gdpAuth (h : Keeps s t) {e : Envelope} {kind flags items : Nat} {body : List Byte} :
    (t.gdpAuth e kind flags items body).Kept s := by
  unfold State.gdpAuth
  split
  · exact h
  · exact h.authenticate

theorem Keeps.answerWith (h : Keeps s t) {e : Envelope} {m : Msg} : Keeps s (t.answerWith e m) := by
  unfold State.answerWith
  split
  · exact h.sendControl
  · exact h.setSession.sendControl

theorem Keeps.answer (h : Keeps s t) {e : Envelope} {kind items status : Nat} {body : List Byte} :
    Keeps s (t.answer e kind items status body) :=
  h.answerWith

theorem Keeps.endSession (h : Keeps s t) {id : Nat} : Keeps s (t.endSession id) :=
  h.fewer rfl le_rfl (List.length_filter_le _ _)

end Sys2Proof.Machine
end

section
/-! The queue and the bounds are kept. Work queues (R379 to R393, R399 to R401). -/

namespace Sys2Proof.Machine

set_option Elab.async false

variable {s t : State}

theorem Keeps.wrongMode (h : Keeps s t) {q : Nat} : Keeps s (t.wrongMode q) := h.setQueue

theorem Keeps.queueError (h : Keeps s t) {q : Nat} : Keeps s (t.queueError q) := h.setQueue

theorem Keeps.accept (h : Keeps s t) {n q index : Nat} {bs : List Byte} : Keeps s (t.accept n q index bs) :=
  Keeps.ite h.setQueue.fresh.setWork.endWork h.setQueue.fresh.setWork

theorem Keeps.acceptNext (h : Keeps s t) {q : Nat} : Keeps s (t.acceptNext q) := by
  unfold State.acceptNext
  dsimp only
  split
  · exact h
  · exact Keeps.ite h.accept h

theorem Keeps.acceptMany (h : Keeps s t) {q k : Nat} : Keeps s (State.acceptMany q k t) := by
  induction k generalizing t with
  | zero => exact h
  | succ k ih => exact ih h.acceptNext

theorem Keeps.execTailDoorbell (h : Keeps s t) {q tail : Nat} : Steps s (execTailDoorbell q tail t) :=
  Steps.ite h.wrongMode.next (Steps.ite h.next (Steps.ite h.setQueue.acceptMany.next h.setQueue.queueError.next))

theorem Keeps.execDescriptorAccept (h : Keeps s t) {q : Nat} : Steps s (execDescriptorAccept q t) :=
  (Keeps.ite h.acceptNext h).next

theorem Keeps.dispatchAck (h : Keeps s t) {e : Envelope} {q index status : Nat} : Keeps s (t.dispatchAck e q index status) :=
  h.answerWith

theorem Keeps.execDispatch (h : Keeps s t) {e : Envelope} {q index : Nat} {desc : List Byte} :
    Steps s (execDispatch e q index desc t) := by
  unfold Machine.execDispatch
  dsimp only
  split
  · rename_i eq
    exact ((h.authenticate.of eq)).next
  · rename_i eq1
    split
    · exact ((((h.authenticate.of eq1)).violate).dispatchAck).next
    · split
      · split
        · exact (((((h.authenticate.of eq1)).accept).setQueue).dispatchAck).next
        · exact ((h.authenticate.of eq1)).next
      · exact Steps.ite (((((h.authenticate.of eq1)).wrongMode).dispatchAck).next)
          ((((h.authenticate.of eq1)).dispatchAck).next)

theorem Keeps.execDescriptorPlace (h : Keeps s t) {q : Nat} : Steps s (execDescriptorPlace q t) := h.placeHead.next

theorem Keeps.execCompletionPull (h : Keeps s t) {sess q : Nat} : Steps s (execCompletionPull sess q t) := by
  unfold Machine.execCompletionPull
  split
  · exact h.next
  · exact Steps.ite h.sendSession.next h.violate.sendSession.next

theorem Keeps.advanceHead (h : Keeps s t) {q v : Nat} : Keeps s (t.advanceHead q v) :=
  Keeps.ite h (Keeps.ite h.queueError h.setQueue)

theorem Keeps.execCompletionHead (h : Keeps s t) {q sequence : Nat} : Steps s (execCompletionHead q sequence t) :=
  h.advanceHead.next

theorem Keeps.disableQueue (h : Keeps s t) {q : Nat} : Keeps s (t.disableQueue q) := h.endWorks.setQueue

theorem Keeps.writeQueueConfig (h : Keeps s t) {q : Nat} {bs : List Byte} : Keeps s (t.writeQueueConfig q bs) :=
  Keeps.ite h (Keeps.ite (Keeps.ite h.disableQueue h) (Keeps.ite ((Keeps.ite h.disableQueue h).setQueue)
    ((Keeps.ite h.disableQueue h).setQueue)))

theorem Keeps.execQueueEnable (h : Keeps s t) {sess q : Nat} {config : List Byte} : Steps s (execQueueEnable sess q config t) :=
  (h.guarded (fun _ k => k.writeQueueConfig)).next

theorem Keeps.execQueueDisable (h : Keeps s t) {sess q : Nat} : Steps s (execQueueDisable sess q t) :=
  (h.guarded (fun _ k => k.disableQueue)).next

theorem Keeps.execWorkComplete (h : Keeps s t) {core ctx : Nat} : Steps s (execWorkComplete core ctx t) :=
  Steps.ite h.next (Steps.ite h.endOnCtx.next (Steps.ite h.endOnCtx.next h.next))

theorem Keeps.execWorkAbortComplete (h : Keeps s t) {work : Nat} : Steps s (execWorkAbortComplete work t) := by
  unfold Machine.execWorkAbortComplete
  split
  · exact h.next
  · split
    · exact Steps.ite h.endOnCtx.next h.next
    · exact h.next

theorem Keeps.execCompletionDelayEnd (h : Keeps s t) {work : Nat} : Steps s (execCompletionDelayEnd work t) := by
  unfold Machine.execCompletionDelayEnd
  split
  · exact Steps.ite h.writeCompletion.next h.next
  · exact h.next

end Sys2Proof.Machine
end

section
/-! The queue and the bounds are kept. Host accesses to memory (R381, R395, R396, R671, R716, R717). -/

namespace Sys2Proof.Machine

set_option Elab.async false

variable {s t : State}

theorem Keeps.hostRead (h : Keeps s t) {n off len master access : Nat} : Keeps s (t.hostRead n off len master access).2.2 :=
  h.meetInjections

theorem Keeps.hostWrite (h : Keeps s t) {n off : Nat} {data : List Byte} : Keeps s (t.hostWrite n off data).2 := h.hostStore

theorem Keeps.countOldKey (h : Keeps s t) {rkey : Nat} : Keeps s (t.countOldKey rkey) := by
  unfold State.countOldKey
  split
  · exact h.accessViolation
  · exact h

theorem Keeps.refuseRdma (h : Keeps s t) {i psn code : Nat} : Keeps s (t.refuseRdma i psn code) := h.sendRdma.qpFail

theorem Keeps.ringTail (h : Keeps s t) {q tail : Nat} : Keeps s (t.ringTail q tail) := by
  obtain ⟨u, eq, k⟩ := h.execTailDoorbell (q := q) (tail := tail)
  unfold State.ringTail
  rw [eq]
  exact k

theorem Keeps.windowBytes (h : Keeps s t) {q off : Nat} {data : List Byte} : Keeps s (t.windowBytes q off data) :=
  Keeps.ite ((Keeps.ite h.setQueue.ringTail h.setQueue).advanceHead) (Keeps.ite h.setQueue.ringTail h.setQueue)

theorem Keeps.windowWrite (h : Keeps s t) {n k at_ : Nat} {data : List Byte} : Keeps s (State.windowWrite n k at_ data t) := by
  induction k generalizing t at_ data with
  | zero => exact h
  | succ k ih =>
    unfold State.windowWrite
    split
    · exact h
    · exact ih (Keeps.ite h.windowBytes h.accessViolation)

theorem Keeps.applyRdma (h : Keeps s t) {i psn rkey address : Nat} {data : List Byte} :
    Keeps s (t.applyRdma i psn rkey address data) := by
  unfold State.applyRdma
  dsimp only
  refine Keeps.sendRdma ?_
  split
  · exact h.hostWrite.addReg
  · exact h.windowWrite
  · exact h

theorem Keeps.resumeQp (h : Keeps s t) {i k : Nat} : Keeps s (State.resumeQp i k t) := by
  induction k generalizing t with
  | zero => exact h
  | succ k ih =>
    unfold State.resumeQp
    dsimp only
    split
    · exact h
    · split
      · exact h
      · exact ih h.setQp.applyRdma

theorem Keeps.countWindow (h : Keeps s t) {sess n : Nat} {m : Met} : Keeps s (t.countWindow sess n m) := by
  unfold State.countWindow
  dsimp only
  refine Keeps.addReg ?_
  split
  · exact h.setSession
  · exact h

theorem Keeps.applyWindow (h : Keeps s t) {w : WinWrite} : Keeps s (t.applyWindow w) := h.hostWrite.countWindow.answer

theorem Keeps.resumeWindows (h : Keeps s t) : Keeps s (t.resumeWindows) := h.foldl fun _ _ k => Keeps.ite k k.same.applyWindow

theorem Keeps.resumeHost (h : Keeps s t) : Keeps s (t.resumeHost) := (h.foldl fun _ _ k => k.resumeQp).resumeWindows

end Sys2Proof.Machine
end

section
/-! The queue and the bounds are kept. The commands of the collective agents (R518 to R544). -/

namespace Sys2Proof.Machine

set_option Elab.async false

variable {s t : State}

theorem Keeps.execRunSend (h : Keeps s t) {n plan inst chunk peer : Nat} : Steps s (execRunSend n plan inst chunk peer t) := by
  unfold Machine.execRunSend
  dsimp only
  split
  · exact h.next
  · split
    · exact h.next
    · exact Steps.ite h.next (Steps.ite h.sendNow.same.next h.next)

theorem Keeps.countReceived (h : Keeps s t) {r : Run} : Keeps s (t.countReceived r) := h.same

theorem Keeps.execRunReceive (h : Keeps s t) {r : Run} : Steps s (execRunReceive r t) := by
  unfold Machine.execRunReceive
  split
  · exact h.next
  · split
    · exact h.count.next
    · split
      · exact h.count.next
      · split
        · exact h.countReceived.waitRun.next
        · exact Steps.ite h.countReceived.waitRun.next h.countReceived.applyRun.settleInst.next

theorem Keeps.execBufferPost (h : Keeps s t) {n plan peer count : Nat} : Steps s (execBufferPost n plan peer count t) :=
  Steps.ite h.same.emit.next h.next

theorem Keeps.execRetryNotice (h : Keeps s t) {n plan inst chunk x : Nat} :
    Steps s (execRetryNotice n plan inst chunk x t) := by
  unfold Machine.execRetryNotice
  dsimp only
  split
  · exact h.next
  · exact Steps.ite h.next (((h.retryChunk.withInst (fun _ => Keeps.ite h.retryChunk h.retryChunk.drainRuns)).settleInst).next)

theorem Keeps.levelBusy (h : Keeps s t) {i : Inst} {level : Nat} : Keeps s (t.levelBusy i level) := by
  unfold State.levelBusy
  dsimp only
  split
  · exact h.foldl fun _ _ k1 => k1.busy
  · split
    · exact h.busy
    · exact h

theorem Keeps.execChunkLevelFinished (h : Keeps s t) {n plan inst level chunk : Nat} :
    Steps s (execChunkLevelFinished n plan inst level chunk t) := by
  unfold Machine.execChunkLevelFinished
  dsimp only
  split
  · exact h.next
  · exact Steps.ite h.next (((Keeps.ite h.setInst.levelBusy.chunkReady h.setInst.levelBusy).settleInst).next)

theorem Keeps.execCollectiveTokenDone (h : Keeps s t) {n plan inst : Nat} :
    Steps s (execCollectiveTokenDone n plan inst t) := by
  unfold Machine.execCollectiveTokenDone
  dsimp only
  split
  · exact h.next
  · exact ((h.flushFeeds.withInst (fun _ => Keeps.ite h.flushFeeds.finishWhole h.flushFeeds)).withInst
      (fun _ => Keeps.ite (((h.flushFeeds.withInst (fun _ => Keeps.ite h.flushFeeds.finishWhole
      h.flushFeeds)).endInst).resumeHost) (h.flushFeeds.withInst
      (fun _ => Keeps.ite h.flushFeeds.finishWhole h.flushFeeds)))).next

theorem Keeps.execCollectiveStall (h : Keeps s t) {n plan inst : Nat} : Steps s (execCollectiveStall n plan inst t) := by
  unfold Machine.execCollectiveStall
  split
  · exact h.next
  · exact Steps.ite h.next h.setInst.count.collEvent.next

theorem Keeps.execFeedReceive (h : Keeps s t) {n localBase step offset : Nat} {data : List Byte} :
    Steps s (execFeedReceive n localBase step offset data t) :=
  Steps.ite h.engineWrite.next h.next

theorem Keeps.holdEvent (h : Keeps s t) {n kind : Nat} : Keeps s (t.holdEvent n kind) := h.raise

theorem Keeps.beginHold (h : Keeps s t) {n : Nat} : Keeps s (t.beginHold n) := h.holdEvent

theorem Keeps.endHold (h : Keeps s t) {n : Nat} : Keeps s (t.endHold n) :=
  h.holdEvent.foldl fun _ _ k => ((k.foldl fun _ _ k1 => k1.resendAll).withInst
    (fun _ => (k.foldl fun _ _ k3 => k3.resendAll).drainRuns)).settleInst

theorem Keeps.beginRideHold (h : Keeps s t) : Keeps s (t.beginRideHold) := h.foldl fun _ _ k => k.beginHold

theorem Keeps.endRideHold (h : Keeps s t) : Keeps s (t.endRideHold) := h.foldl fun _ _ k => k.endHold

theorem Keeps.execCollectiveHold (h : Keeps s t) {sess n : Nat} : Steps s (execCollectiveHold sess n t) :=
  (h.guarded (fun _ k => Keeps.ite k (Keeps.ite k.setReg k.setReg.beginHold))).next

theorem Keeps.execCollectiveHoldEnd (h : Keeps s t) {sess n : Nat} : Steps s (execCollectiveHoldEnd sess n t) :=
  (h.guarded (fun _ k => Keeps.ite k (Keeps.ite k.setReg k.setReg.endHold))).next

theorem Keeps.execHoldBeacon (h : Keeps s t) {n : Nat} : Steps s (execHoldBeacon n t) :=
  Steps.ite ((h.foldl fun _ _ k => k.foldl fun _ _ k1 => k1.emit).next) h.next

theorem Keeps.execHoldBeaconReceive (h : Keeps s t) {chip epoch _plan _inst : Nat} :
    Steps s (execHoldBeaconReceive chip epoch _plan _inst t) :=
  Steps.ite h.same.next h.next

theorem Keeps.execHoldSuspensionExpiry (h : Keeps s t) {chip : Nat} : Steps s (execHoldSuspensionExpiry chip t) := h.same.next

theorem Keeps.execHoldLimitExpiry (h : Keeps s t) {n : Nat} : Steps s (execHoldLimitExpiry n t) :=
  Steps.ite h.next ((h.foldl fun _ _ k => (((k.foldl fun _ _ k1 => k1.emit).same).collEvent).endFailed).next)

theorem Keeps.execWithdrawalReceive (h : Keeps s t) {n chip plan inst : Nat} :
    Steps s (execWithdrawalReceive n chip plan inst t) :=
  (h.foldl fun _ _ k => k.collEvent.endFailed).next

end Sys2Proof.Machine
end

section
/-! The queue and the bounds are kept. The supply, the power envelope, the governor and the thermal limits (R21 to R43, R63 to R76, R355, R724, R726). -/

namespace Sys2Proof.Machine

set_option Elab.async false

variable {s t : State}

theorem Keeps.execFlitCrcFail (h : Keeps s t) {link dir : Nat} : Steps s (execFlitCrcFail link dir t) := by
  unfold Machine.execFlitCrcFail
  dsimp only
  split
  · exact h.next
  · exact Steps.ite h.next ((Keeps.ite h.same.replayFlit.count.report.report h.same.replayFlit.count.report).next)

theorem Keeps.setClock (h : Keeps s t) {d mhz : Nat} : Keeps s (t.setClock d mhz) := h.setReg.setReg

theorem Keeps.applySet (h : Keeps s t) {t' : List Nat} : Keeps s (t.applySet t') :=
  (((h.foldl fun _ _ k => Keeps.ite k.setReg k).foldl fun _ _ k1 => Keeps.ite k1.setReg k1).foldl fun _ _ k2 => Keeps.ite
    k2.setReg k2).foldl fun _ _ k3 => Keeps.ite k3.setReg k3

theorem Keeps.hold (h : Keeps s t) {d mhz : Nat} : Keeps s (t.hold d mhz) := h.same

theorem Keeps.noteStep (h : Keeps s t) {d : Nat} : Keeps s (t.noteStep d) := by
  unfold State.noteStep
  dsimp only
  split
  · exact h.count
  · exact h.count.hold

theorem Keeps.lowerSet (h : Keeps s t) {t' : List Nat} {own : Nat → Bool} : Keeps s (t.lowerSet t' own) :=
  (h.foldl fun _ _ k => k.noteStep).applySet

theorem Keeps.putGrant (h : Keeps s t) {d g : Nat} : Keeps s (t.putGrant d g) := h.same

theorem Keeps.riseThrottled (h : Keeps s t) : Keeps s (t.riseThrottled) := h.applySet.same

theorem Keeps.gateClocks (h : Keeps s t) {firsts : List Nat} : Keeps s (t.gateClocks firsts) := by
  unfold State.gateClocks
  dsimp only
  exact ((((h.foldl fun _ _ k => k.count).foldl fun _ _ k1 => k1.noteStep).foldl fun _ _ k2 =>
    k2.putGrant).applySet).riseThrottled

theorem Keeps.execClockRequestWrite (h : Keeps s t) {sess die mhz : Nat} : Steps s (execClockRequestWrite sess die mhz t) :=
  (h.guarded (fun _ k => Keeps.ite k k.setReg.scheduleLocal)).next

theorem Keeps.startPowerStep (h : Keeps s t) {floor ceiling : Nat} : Keeps s (t.startPowerStep floor ceiling) := h.same

theorem Keeps.startRecovery (h : Keeps s t) : Keeps s (t.startRecovery) := h.same

theorem Keeps.execEnvelopeCommit (h : Keeps s t) {sess value : Nat} : Steps s (execEnvelopeCommit sess value t) :=
  (h.guarded (fun _ k => Keeps.ite k k.same.requestPowerStep)).next

theorem Keeps.limitStop (h : Keeps s t) {unit cause : Nat} : Keeps s (t.limitStop unit cause) := h.reportOnly.orderlyStop

theorem Keeps.takeSample (h : Keeps s t) {mv a b : Nat} : Keeps s (t.takeSample mv a b) :=
  h.same.setReg.setReg.setReg.setReg.setReg

theorem Keeps.enterRide (h : Keeps s t) : Keeps s (t.enterRide) := h.setReg.count.applySet.beginRideHold

theorem Keeps.judgeVoltage (h : Keeps s t) : Keeps s (t.judgeVoltage) :=
  Keeps.ite h.limitStop (Keeps.ite h.enterRide (Keeps.ite h.setReg (Keeps.ite h.setReg h)))

theorem Keeps.judgeFloor (h : Keeps s t) : Keeps s (t.judgeFloor) := Keeps.ite h.same h.same

theorem Keeps.judgePower (h : Keeps s t) : Keeps s (t.judgePower) := h.same.setReg.setReg.judgeFloor

theorem Keeps.execSupplySample (h : Keeps s t) {mv maA maB : Nat} : Steps s (execSupplySample mv maA maB t) :=
  Steps.ite h.next (Steps.ite h.takeSample.next ((Keeps.ite h.takeSample.judgeVoltage
    h.takeSample.judgeVoltage.judgePower).next))

theorem Keeps.execRideThroughEnd (h : Keeps s t) : Steps s (execRideThroughEnd t) :=
  Steps.ite h.next h.same.scheduleLocal.endRideHold.next

theorem Keeps.execSupplyStopTimeout (h : Keeps s t) {limit : StopLimit} : Steps s (execSupplyStopTimeout limit t) := by
  unfold Machine.execSupplyStopTimeout
  dsimp only
  split
  · exact h.next
  · split
    · exact (Keeps.ite h.limitStop h).next
    · exact (Keeps.ite h.limitStop h).next
    · exact (Keeps.ite h.limitStop h).next
    · exact (Keeps.ite h.limitStop h).next

theorem Keeps.execBladeImbalance (h : Keeps s t) : Steps s (execBladeImbalance t) := Steps.ite h.next h.report.next

theorem Keeps.execCoolantInletHigh (h : Keeps s t) {inlet outlet : ℤ} : Steps s (execCoolantInletHigh inlet outlet t) :=
  Steps.ite h.next ((Keeps.ite h.setReg.setReg.report h.setReg.setReg).next)

theorem Keeps.takeTelemetry (h : Keeps s t) {x : DieSample} : Keeps s (t.takeTelemetry x) := h.same

theorem Keeps.missTelemetry (h : Keeps s t) {d : Nat} : Keeps s (t.missTelemetry d) := h.same

theorem Keeps.overtemp (h : Keeps s t) {before : State} {x : DieSample} : Keeps s (before.overtemp t x) := Keeps.ite h.report h

theorem Keeps.watchPairs (h : Keeps s t) : Keeps s (t.watchPairs) := h.same

theorem Keeps.coolPairs (h : Keeps s t) : Keeps s (t.coolPairs) := h.lowerSet

theorem Keeps.followPower (h : Keeps s t) : Keeps s t.followPower := by
  have lowered {u : State} (k : Keeps s u) : Keeps s { u with gov := { u.gov with raising := true } } := k.same
  have raised {u : State} {b : Bool} (k : Keeps s u) : Keeps s { u with gov := { u.gov with raising := b } } := k.same
  exact .ite (lowered h.lowerSet) (.ite (raised h.applySet) h)

theorem Keeps.feedForward (h : Keeps s t) {old : State} : Keeps s (t.feedForward old) := h.foldl fun _ _ k => k.same

theorem Keeps.execGovernorSample (h : Keeps s t) {samples : List DieSample} : Steps s (execGovernorSample samples t) := by
  unfold Machine.execGovernorSample
  dsimp only
  split
  · exact h.next
  · split
    · exact (((h.foldl fun _ _ k => k.takeTelemetry).foldl fun _ _ k1 => k1.missTelemetry).limitStop).next
    · exact (((((((h.foldl fun _ _ k2 => k2.takeTelemetry).foldl fun _ _ k3 => k3.missTelemetry).foldl fun _ _ k4 =>
        k4.overtemp).watchPairs).coolPairs).followPower).feedForward).next

theorem Keeps.execTelemetryInvalid (h : Keeps s t) {die : Nat} : Steps s (execTelemetryInvalid die t) :=
  Steps.ite h.next ((((Keeps.ite h.setReg h.setReg.setClock.count).lowerSet).report).next)

theorem Keeps.execTelemetryValidRestore (h : Keeps s t) {die : Nat} : Steps s (execTelemetryValidRestore die t) :=
  Steps.ite h.next ((Keeps.ite h.setReg h.setReg.setClock).next)

theorem Keeps.execThermalThrottle (h : Keeps s t) {die : Nat} {temp : ℤ} : Steps s (execThermalThrottle die temp t) :=
  Steps.ite h.next (Steps.ite h.setReg.limitStop.next (Steps.ite h.next h.same.lowerSet.next))

theorem Keeps.execThrottleStep (h : Keeps s t) {die : Nat} : Steps s (execThrottleStep die t) :=
  Steps.ite h.next h.lowerSet.next

theorem Keeps.execMemoryThermalHalve (h : Keeps s t) {die unit : Nat} {temp : ℤ} :
    Steps s (execMemoryThermalHalve die unit temp t) :=
  Steps.ite h.next (Steps.ite h.setReg.limitStop.next (Steps.ite h.setReg.setReg.report.next h.setReg.next))

theorem Keeps.execMemoryRateRestore (h : Keeps s t) {die unit : Nat} {temp : ℤ} :
    Steps s (execMemoryRateRestore die unit temp t) :=
  Steps.ite h.next h.setReg.setReg.next

end Sys2Proof.Machine
end

section
/-! The queue and the bounds are kept. The beat (R44). -/

namespace Sys2Proof.Machine

set_option Elab.async false

variable {s t : State}

theorem Keeps.startWax (h : Keeps s t) {port l : Nat} : Keeps s (t.startWax port l) :=
  Keeps.ite h.count (Keeps.ite (Keeps.ite h.setPort.setLaser.setLane.setRole h.setPort.setLaser.setLane)
    (Keeps.ite h.setPort.setLaser.startSwap (Keeps.ite (Keeps.ite
    (((Keeps.ite h.setPort.setLaser.setLane.setRole h.setPort.setLaser.setLane).emit).settlePort) h.count) h)))

theorem Keeps.gateWax (h : Keeps s t) {port : Nat} : Keeps s (t.gateWax port) :=
  Keeps.ite (Keeps.ite h h.setPort) h.setPort.startWax

theorem Keeps.runEvent (h : Keeps s t) {e : Sched} : Keeps s (t.runEvent e) := by
  unfold State.runEvent
  split
  · exact h.runCommit
  · exact (Keeps.ite h.lateSlalom h.putInForce).settleSlalom
  · exact h.startPowerStep
  · exact h.startRecovery
  · exact h.hold
  · exact h.commitArbiters
  · exact Keeps.ite h h.setReg

theorem Keeps.gateBeat (h : Keeps s t) : Keeps s (t.gateBeat) := by
  unfold State.gateBeat
  dsimp only
  exact ((((h.same.foldl fun _ _ k => k.runEvent).gateClocks).foldl fun _ _ k1 => k1.runEvent).foldl fun _ _ k2 =>
    k2.gateWax).applySketchSettings

theorem Keeps.sendBeats (h : Keeps s t) : Keeps s (t.sendBeats) := Keeps.ite h (h.foldl fun _ _ k => k.emit)

theorem Keeps.nextBeat (h : Keeps s t) : Keeps s (t.nextBeat) := h.same

theorem Keeps.execBeat (h : Keeps s t) : Steps s (execBeat t) :=
  Steps.ite h.lowerOffsets.next ((Keeps.ite h.lowerOffsets.nextBeat.sendBeats.gateBeat h.lowerOffsets.nextBeat.sendBeats).next)

end Sys2Proof.Machine
end

section
/-! The queue and the bounds are kept. The commands of the step ledger (R565 to R583). -/

namespace Sys2Proof.Machine

set_option Elab.async false

variable {s t : State}

theorem Keeps.execStepClose (h : Keeps s t) {sess n step : Nat} : Steps s (execStepClose sess n step t) :=
  (h.guarded (fun _ k => Keeps.ite k k.setTenant)).next

theorem Keeps.castVote (h : Keeps s t) {n step : Nat} : Keeps s (t.castVote n step) := by
  unfold State.castVote
  dsimp only
  refine Keeps.setTenant ?_
  split
  · exact h.judgeVote
  · exact h

theorem Keeps.execVote (h : Keeps s t) {n : Nat} : Steps s (execVote n t) := (Keeps.ite h.castVote.voteUp h).next

theorem Keeps.execVoteReceive (h : Keeps s t) {m : LedgerMsg} : Steps s (execVoteReceive m t) :=
  (h.takeLedger (fun _ _ k => k.setTenant.voteUp)).next

theorem Keeps.execCommitReceive (h : Keeps s t) {m : LedgerMsg} : Steps s (execCommitReceive m t) :=
  (h.takeLedger (fun _ _ k => k.takeCommit)).next

theorem Keeps.execAbortReceive (h : Keeps s t) {m : LedgerMsg} : Steps s (execAbortReceive m t) :=
  (h.takeLedger (fun _ _ k => k.takeAbort)).next

theorem Keeps.execLedgerAckReceive (h : Keeps s t) {m : LedgerMsg} : Steps s (execLedgerAckReceive m t) := by
  unfold Machine.execLedgerAckReceive
  dsimp only
  split
  · exact h.next
  · exact h.setTenant.next

theorem Keeps.execLedgerResend (h : Keeps s t) {n : Nat} : Steps s (execLedgerResend n t) := (h.foldl fun _ _ k => k.emit).next

theorem Keeps.execStateQueryReceive (h : Keeps s t) {m : LedgerMsg} : Steps s (execStateQueryReceive m t) :=
  (h.takeLedger (fun _ _ k => k.sendLedger)).next

theorem Keeps.execStateReportReceive (h : Keeps s t) {m : LedgerMsg} : Steps s (execStateReportReceive m t) :=
  (h.takeLedger (fun _ _ k => k.setTenant.resolveQuery)).next

theorem Keeps.requestedAbort (h : Keeps s t) {n step : Nat} : Keeps s (t.requestedAbort n step) := Keeps.ite h h.decideAbort

theorem Keeps.execAbortRequest (h : Keeps s t) {sess n step : Nat} : Steps s (execAbortRequest sess n step t) :=
  (h.guarded (fun _ k => Keeps.ite k (Keeps.ite k.requestedAbort k.sendLedger))).next

theorem Keeps.execAbortRequestReceive (h : Keeps s t) {m : LedgerMsg} : Steps s (execAbortRequestReceive m t) :=
  (h.takeLedger (fun _ _ k => Keeps.ite k.requestedAbort k)).next

theorem Keeps.execVoteTimeout (h : Keeps s t) {n : Nat} : Steps s (execVoteTimeout n t) :=
  Steps.ite h.ledgerEvent.decideAbort.next h.next

theorem Keeps.execLedgerMembersWrite (h : Keeps s t) {sess n : Nat} {members : List Nat} :
    Steps s (execLedgerMembersWrite sess n members t) :=
  (h.guarded (fun _ k => Keeps.ite k (((((Keeps.ite k k.bump).setTenant).setReg).setReg).setReg))).next

end Sys2Proof.Machine
end

section
/-! The queue and the bounds are kept. Lift's instructions and events, the memory controllers' events and the tensor map (spec/10). -/

namespace Sys2Proof.Machine

set_option Elab.async false

variable {s t : State}

theorem Keeps.execLiftClaim (h : Keeps s t) {core ctx : Nat} {w : LiftWord} : Steps s (execLiftClaim core ctx w t) := by
  unfold Machine.execLiftClaim
  dsimp only
  refine Keeps.next ?_
  refine Keeps.issue h (fun _ _ k3 => ?_)
  split
  · exact k3.faultCtx
  · split
    · exact k3.faultCtx
    · split
      · exact k3.faultCtx
      · exact k3.setCtx.fresh.applyClaim

theorem Keeps.execLiftDrop (h : Keeps s t) {core ctx : Nat} {w : LiftWord} : Steps s (execLiftDrop core ctx w t) := by
  unfold Machine.execLiftDrop
  dsimp only
  refine Keeps.next ?_
  refine Keeps.issue h (fun _ _ k3 => ?_)
  split
  · exact k3.faultCtx
  · split
    · exact k3.faultCtx
    · exact k3.dropClaim

theorem Keeps.askMove (h : Keeps s t) {e : Entry} {m : Move} : Keeps s (t.askMove e m) := h.foldl fun _ _ k => k.ask

theorem Keeps.execLiftMoveStart (h : Keeps s t) {die : Nat} : Steps s (execLiftMoveStart die t) := by
  unfold Machine.execLiftMoveStart
  split
  · exact h.next
  · split
    · exact h.retryMoves.next
    · split
      · exact h.next
      · exact h.same.setEntry.askMove.retryMoves.next

theorem Keeps.execLiftMoveCommit (h : Keeps s t) {move : Nat} : Steps s (execLiftMoveCommit move t) := by
  unfold Machine.execLiftMoveCommit
  dsimp only
  split
  · exact h.next
  · split
    · exact h.next
    · split
      · exact h.next
      · refine Keeps.next ?_
        refine Keeps.wakePromotion ?_
        refine Keeps.settleTokens ?_
        split
        · exact Keeps.ite h.same.setEntry.addReg.addReg.count h.same.setEntry.addReg.addReg
        · exact h.same.setEntry.addReg.addReg

theorem Keeps.execLiftCommitAck (h : Keeps s t) {move : Nat} : Steps s (execLiftCommitAck move t) := by
  unfold Machine.execLiftCommitAck
  dsimp only
  split
  · exact h.next
  · split
    · exact h.next
    · split
      · exact h.same.settleTokens.next
      · exact Steps.ite ((((Keeps.ite h.same.settleTokens.setEntry
          h.same.settleTokens.setEntry.freeAlloc).removeEntry).resumeHost).next)
          ((((Keeps.ite h.same.settleTokens.setEntry h.same.settleTokens.setEntry.freeAlloc).evaluate).resumeHost).next)

theorem Keeps.garbleLine (h : Keeps s t) {v : Upper} {line : Nat} : Keeps s (t.garbleLine v line) :=
  Keeps.wrBytes (t := (State.drawMany 8 64 t).2) h.drawMany

theorem Keeps.askScrub (h : Keeps s t) {u' : Upper} {off : Nat} : Keeps s (t.askScrub u' off) :=
  Keeps.ite h.ask (Keeps.ite h.ask h)

theorem Keeps.execBackgroundScrubRead (h : Keeps s t) {alloc line errors : Nat} :
    Steps s (execBackgroundScrubRead alloc line errors t) := by
  unfold Machine.execBackgroundScrubRead
  dsimp only
  split
  · exact h.next
  · split
    · exact h.next
    · split
      · exact h.askScrub.next
      · split
        · exact h.askScrub.copyError.next
        · split
          · exact h.askScrub.copyError.next
          · split
            · exact h.askScrub.draw.copyError.next
            · exact h.askScrub.draw.garbleLine.copyError.next

theorem Keeps.execHbmRecalibration (h : Keeps s t) : Steps s (execHbmRecalibration t) := h.next

theorem Keeps.execDeepSelfRefresh (h : Keeps s t) : Steps s (execDeepSelfRefresh t) :=
  Steps.ite ((h.foldl fun _ _ k => k.setReg).next) h.next

theorem Keeps.addBuffer (h : Keeps s t) {n : Nat} {m : MapEntry} {i : Nat} : Gives s (t.addBuffer n m i) :=
  Gives.ite Gives.none (Gives.ite Gives.none (Gives.some ((Keeps.ite h.count h).same)))

theorem Keeps.addMapEntry (h : Keeps s t) {n : Nat} {m : MapEntry} : Gives s (t.addMapEntry n m) :=
  Gives.ite Gives.none (Gives.foldl (Gives.some h) fun _ _ k => k.addBuffer)

theorem Keeps.addMap (h : Keeps s t) {n : Nat} {ms : List MapEntry} : Gives s (t.addMap n ms) :=
  Gives.foldl (Gives.some h) fun _ _ k => k.addMapEntry

theorem Keeps.removeBase (h : Keeps s t) {n base : Nat} : Gives s (t.removeBase n base) :=
  Gives.ite Gives.none (Gives.some (h.foldl fun _ _ k => Keeps.ite k.setEntry k.removeEntry))

theorem Keeps.writeMap (h : Keeps s t) {n : Nat} {ms : List MapEntry} : Gives s (t.writeMap n ms) :=
  Gives.ite Gives.none (Gives.foldl (Gives.some h) fun _ _ k => Gives.ite Gives.none (Gives.ite k.removeBase k.addMapEntry))

theorem Keeps.execTensorMapWrite (h : Keeps s t) {sess n : Nat} {entries : List MapEntry} :
    Steps s (execTensorMapWrite sess n entries t) := by
  unfold Machine.execTensorMapWrite
  refine Keeps.next ?_
  refine Keeps.guarded h (fun _ k3 => ?_)
  split
  · rename_i eq4
    exact (k3.writeMap eq4)
  · exact k3.count

theorem Keeps.execVersionWriteResume (h : Keeps s t) {core ctx : Nat} : Steps s (execVersionWriteResume core ctx t) :=
  (Keeps.ite h.setCtx h).next

theorem Keeps.execTagWaitEnd (h : Keeps s t) {core ctx : Nat} : Steps s (execTagWaitEnd core ctx t) := by
  unfold Machine.execTagWaitEnd
  dsimp only
  split
  · exact h.next
  · exact Steps.ite h.setCtx.next h.next

end Sys2Proof.Machine
end

section
/-! The queue and the bounds are kept. The perturbation objects (R631 to R633). -/

namespace Sys2Proof.Machine

set_option Elab.async false

variable {s t : State}

theorem Keeps.clearPerturb (h : Keeps s t) : Keeps s (t.clearPerturb) := h.same

end Sys2Proof.Machine
end

section
/-! The queue and the bounds are kept. Start-up, resets, the firmware image and the keys (R678 to R699). -/

namespace Sys2Proof.Machine

set_option Elab.async false

variable {s t : State}

theorem Keeps.execPowerGood (h : Keeps s t) : Steps s (execPowerGood t) := Steps.ite h.next h.reborn.setReg.enter.next

theorem Keeps.execPowerLoss (h : Keeps s t) : Steps s (execPowerLoss t) := Steps.ite h.next h.powerOff.next

theorem Keeps.bootFailed (h : Keeps s t) {stage reason unit : Nat} : Keeps s (t.bootFailed stage reason unit) := h.setReg

theorem Keeps.settleBoot (h : Keeps s t) : Keeps s (t.settleBoot) := Keeps.ite h.enter.setReg h

theorem Keeps.endStage (h : Keeps s t) {k : Nat} : Keeps s (t.endStage k) := (Keeps.ite h.same.bringUpBase h.same).settleBoot

theorem Keeps.dropConfig (h : Keeps s t) {unit : Nat} : Keeps s (t.dropConfig unit) := h.same.bootFailed

theorem Keeps.endImageStage (h : Keeps s t) {configUnit : Option Nat} : Keeps s (t.endImageStage configUnit) := by
  unfold State.endImageStage
  extract_lets s1
  have h1 : Keeps s s1 := by
    cases configUnit with
    | none => exact h
    | some u => exact h.dropConfig
  exact .ite h1.same.endStage h1.bootFailed.enter

theorem Keeps.failCores (h : Keeps s t) {cs : List Nat} : Keeps s (t.failCores cs) := h.foldl fun _ _ k => k.setCore.setReg

theorem Keeps.execBootStageComplete (h : Keeps s t) {stage : Nat} {failedUnit : Option Nat} {failedCores : List Nat} :
    Steps s (execBootStageComplete stage failedUnit failedCores t) := by
  unfold Machine.execBootStageComplete
  split
  · exact h.next
  · split
    · exact h.endImageStage.next
    · split
      · exact h.failCores.endStage.next
      · split
        · exact h.same.endStage.next
        · split
          · exact (Keeps.ite h.bootFailed (Keeps.ite h.bootFailed h.endStage)).next
          · exact h.endStage.next

theorem Keeps.coreReset (h : Keeps s t) : Keeps s t.coreReset := h.fewer rfl (Nat.zero_le _) (Nat.zero_le _)

theorem Keeps.packageReset (h : Keeps s t) : Keeps s (t.packageReset) := ((Keeps.ite h.setLife h).emit).enter

theorem Keeps.runReset (h : Keeps s t) {kind : Nat} : Keeps s (t.runReset kind) :=
  Keeps.ite (Keeps.ite h.coreReset h) (Keeps.ite h.packageReset h)

theorem Keeps.requestReset (h : Keeps s t) {kind : Nat} : Keeps s (t.requestReset kind) :=
  Keeps.ite h (Keeps.ite h (Keeps.ite h.same h.runReset))

theorem Keeps.execCoreReset (h : Keeps s t) {sess : Nat} : Steps s (execCoreReset sess t) :=
  (h.guarded (fun _ k => k.requestReset)).next

theorem Keeps.execPackageReset (h : Keeps s t) {sess : Nat} : Steps s (execPackageReset sess t) :=
  (h.guarded (fun _ k => k.requestReset)).next

theorem Keeps.keepRetired (h : Keeps s t) {old : State} : Keeps s (t.keepRetired old) := h.foldl fun _ _ k => k.setLaser.setReg

theorem Keeps.execDrainEnd (h : Keeps s t) : Steps s (execDrainEnd t) :=
  Steps.ite h.next h.emit.reborn.keepRetired.setLife.setReg.enter.next

theorem Keeps.execFirmwareUpdate (h : Keeps s t) {sess : Nat} {img : FwImage} : Steps s (execFirmwareUpdate sess img t) :=
  (h.guarded (fun _ k => Keeps.ite k.setReg (Keeps.ite k.same.setReg k.setReg))).next

theorem Keeps.resumeReset (h : Keeps s t) : Keeps s (t.resumeReset) := by
  unfold State.resumeReset
  dsimp only
  split
  · exact h
  · exact h.same.runReset

theorem Keeps.execFlashWriteComplete (h : Keeps s t) {ok : Bool} : Steps s (execFlashWriteComplete ok t) := by
  unfold Machine.execFlashWriteComplete
  dsimp only
  split
  · exact h.next
  · exact Steps.ite (((Keeps.ite h.same.enter h.same.setReg).resumeReset).next) h.same.setReg.resumeReset.next

theorem Keeps.execRollbackCommit (h : Keeps s t) {sess value : Nat} : Steps s (execRollbackCommit sess value t) := by
  unfold Machine.execRollbackCommit
  dsimp only
  refine Keeps.next ?_
  refine Keeps.guarded h (fun _ k3 => ?_)
  split
  · exact Keeps.ite k3.same k3
  · exact k3

theorem Keeps.endSlotSessions (h : Keeps s t) {slot : Nat} : Keeps s (t.endSlotSessions slot) :=
  h.fewer rfl le_rfl (List.length_filter_le _ _)

theorem Keeps.execOwnerKeyFuse (h : Keeps s t) {sess : Nat} {hash : List Byte} : Steps s (execOwnerKeyFuse sess hash t) := by
  unfold Machine.execOwnerKeyFuse
  dsimp only
  refine Keeps.next ?_
  refine Keeps.guarded h (fun _ k3 => ?_)
  split
  · exact Keeps.ite k3.same.endSlotSessions k3
  · exact k3

theorem Keeps.execKeySlotWrite (h : Keeps s t) {sess slot : Nat} {ks : KeySlot} : Steps s (execKeySlotWrite sess slot ks t) :=
  (h.guarded (fun _ k => Keeps.ite k k.same.endSlotSessions)).next

theorem Keeps.execAttestationNonce (h : Keeps s t) {sess : Nat} {nonce : List Byte} :
    Steps s (execAttestationNonce sess nonce t) := by
  refine (h.guarded fun u k => .ite k ?_).next
  dsimp only
  split
  · exact (k.draw (w := 256)).setSession
  · exact k

end Sys2Proof.Machine
end

section
/-! The queue and the bounds are kept. Faults from outside the other families (R613 to R630) and the perturbation commands (R631 to R635). -/

namespace Sys2Proof.Machine

set_option Elab.async false

variable {s t : State}

theorem Keeps.faultReached (h : Keeps s t) {r : FaultRep} : Keeps s (t.faultReached r) := by
  unfold State.faultReached
  split
  · exact Keeps.ite h.stopFaulted h
  · exact h

theorem Keeps.poisonNamed (h : Keeps s t) {r : FaultRep} : Keeps s (t.poisonNamed r) := by
  unfold State.poisonNamed
  dsimp only
  split
  · split
    · exact h.setPoison
    · exact h
  · exact h

theorem Keeps.countInner (h : Keeps s t) {r : FaultRep} : Keeps s (t.countInner r) := Keeps.ite h.countDevice h

theorem Keeps.partitionErrors (h : Keeps s t) {c : Nat} {r : FaultRep} {parts : List Nat} :
    Keeps s (t.partitionErrors c r parts) :=
  h.foldl fun _ _ k => k.count.foldl fun _ _ k1 => k1.modCore.stopFaulted

theorem Keeps.poisonSite (h : Keeps s t) {r : FaultRep} {site : ErrSite} : Keeps s (t.poisonSite r site) := by
  unfold State.poisonSite
  dsimp only
  split
  · exact h
  · split
    · exact h
    · split
      · exact Keeps.ite h h.setCore.partitionErrors
      · exact Keeps.ite h h.setCore.partitionErrors
      · exact Keeps.ite h h.setCore
      · exact h

theorem Keeps.execFaultReport (h : Keeps s t) {f : SiteFault} : Steps s (execFaultReport f t) :=
  Steps.ite h.next h.countInner.poisonNamed.poisonSite.faultReached.report.next

theorem Keeps.retireCore (h : Keeps s t) {c : Nat} : Keeps s (t.retireCore c) :=
  h.setCore.foldl fun _ _ k => Keeps.ite k.stopCtx k

theorem Keeps.execWiringFault (h : Keeps s t) {w : PairCycles} : Steps s (execWiringFault w t) := by
  unfold Machine.execWiringFault
  dsimp only
  split
  · exact h.next
  · exact Steps.ite h.next (((h.setLatch.foldl fun _ _ k => k.retireCore).report).next)

theorem Keeps.execWatchdogExpiry (h : Keeps s t) {proc : Nat} : Steps s (execWatchdogExpiry proc t) := by
  unfold Machine.execWatchdogExpiry
  extract_lets s1 unit second _ s2
  have h2 : Keeps s s2 := Keeps.report h.same
  exact Steps.ite h.next (Steps.ite (Keeps.report h.count).next (Steps.ite (Keeps.coreReset h2.same).next h2.next))

theorem Keeps.execTestModeWrite (h : Keeps s t) {sess value : Nat} : Steps s (execTestModeWrite sess value t) :=
  (h.guarded (fun _ k => Keeps.ite k.setReg (Keeps.ite k.setReg k.setReg.clearPerturb))).next

theorem Keeps.execPerturbStop (h : Keeps s t) {sess value : Nat} : Steps s (execPerturbStop sess value t) :=
  (h.guarded (fun _ k => Keeps.ite k.clearPerturb k)).next

theorem Keeps.execMemoryInject (h : Keeps s t) {sess address kind : Nat} : Steps s (execMemoryInject sess address kind t) :=
  (h.guarded (fun _ k => Keeps.ite k.same k)).next

end Sys2Proof.Machine
end

section
/-! The queue and the bounds are kept. Patrol and membership. -/

namespace Sys2Proof.Machine

set_option Elab.async false

variable {s t : State}

theorem Keeps.setWatch (h : Keeps s t) {lane : Nat} {w : Watch} : Keeps s (t.setWatch lane w) := h.same

theorem Keeps.execBeaconSend (h : Keeps s t) {lane : Nat} : Steps s (execBeaconSend lane t) := by
  unfold Machine.execBeaconSend
  dsimp only
  split
  · exact h.next
  · exact Steps.ite h.next (Steps.ite h.emit.next (Steps.ite h.next h.setReg.next))

theorem Keeps.clearSuspicion (h : Keeps s t) {lane chip : Nat} : Keeps s (t.clearSuspicion lane chip) :=
  Keeps.ite h.setWatch.count.memberEvent h

theorem Keeps.noteStatus (h : Keeps s t) {lane chip status : Nat} : Keeps s (t.noteStatus lane chip status) :=
  Keeps.ite ((Keeps.ite h.setWatch.memberEvent h.setWatch).same) (Keeps.ite h.setWatch.memberEvent h.setWatch)

theorem Keeps.execBeaconReceive (h : Keeps s t) {lane : Nat} {b : Beacon} : Steps s (execBeaconReceive lane b t) :=
  Steps.ite h.next (Steps.ite h.clearSuspicion.noteStatus.emit.count.next h.clearSuspicion.noteStatus.next)

theorem Keeps.execSuspectTimeout (h : Keeps s t) {lane : Nat} : Steps s (execSuspectTimeout lane t) := by
  unfold Machine.execSuspectTimeout
  dsimp only
  split
  · exact h.next
  · exact Steps.ite h.next h.setWatch.count.next

theorem Keeps.execProbeSend (h : Keeps s t) {lane : Nat} : Steps s (execProbeSend lane t) := by
  unfold Machine.execProbeSend
  split
  · exact h.next
  · exact Steps.ite h.emit.emit.next h.next

theorem Keeps.execProbeReceive (h : Keeps s t) {chip : Nat} {pathB : Bool} : Steps s (execProbeReceive chip pathB t) :=
  Steps.ite h.emit.next h.next

theorem Keeps.execProbeAnswerReceive (h : Keeps s t) {lane : Nat} : Steps s (execProbeAnswerReceive lane t) := by
  unfold Machine.execProbeAnswerReceive
  split
  · exact h.next
  · exact Steps.ite h.clearSuspicion.next h.next

theorem Keeps.execDeadVerdict (h : Keeps s t) {lane : Nat} : Steps s (execDeadVerdict lane t) := by
  unfold Machine.execDeadVerdict
  dsimp only
  split
  · exact h.next
  · exact Steps.ite h.next h.count.fenceChip.next

theorem Keeps.execLifeChangeReceive (h : Keeps s t) {changes : List (Nat × Nat)} : Steps s (execLifeChangeReceive changes t) :=
  Steps.ite h.next ((h.foldl fun _ _ k => k.adoptLife).next)

theorem Keeps.floodDeparture (h : Keeps s t) {chip : Nat} : Keeps s (t.floodDeparture chip) :=
  Keeps.ite (h.foldl fun _ _ k => k.emit) h

theorem Keeps.execDepartureNotice (h : Keeps s t) {chip : Nat} : Steps s (execDepartureNotice chip t) :=
  Steps.ite h.next h.floodDeparture.avoid.fenceChip.next

theorem Keeps.guardedChip (h : Keeps s t) {sess sub chip : Nat} {effect : State → State}
    (heffect : ∀ u, Keeps s u → Keeps s (effect u)) : Keeps s (t.guardedChip sess sub chip effect) :=
  h.guarded (fun _ k => Keeps.ite (heffect _ k) k.violate)

theorem Keeps.execMemberRejoin (h : Keeps s t) {sess chip : Nat} : Steps s (execMemberRejoin sess chip t) :=
  (h.guardedChip (fun _ k => Keeps.ite k.adoptLife k)).next

theorem Keeps.execFenceRequest (h : Keeps s t) {sess chip : Nat} : Steps s (execFenceRequest sess chip t) :=
  (h.guardedChip (fun _ k => Keeps.ite k.fenceChip k)).next

end Sys2Proof.Machine
end

section
/-! The queue and the bounds are kept. Tenants and their program images (R361 to R369, R701, R702). -/

namespace Sys2Proof.Machine

set_option Elab.async false

variable {s t : State}

theorem Keeps.removeImage (h : Keeps s t) {n slot : Nat} : Keeps s (t.removeImage n slot) :=
  (Keeps.ite h.removeEntry h).setTenant

theorem Keeps.markImage (h : Keeps s t) {n slot id code : Nat} : Keeps s (t.markImage n slot id code) := h.setTenant

theorem Keeps.placeImage (h : Keeps s t) {n slot : Nat} {b : List Byte} {h' : ImageHeader} :
    Keeps s (t.placeImage n slot b h') :=
  Keeps.ite h.markImage h.same.wrBytes.setTenant

theorem Keeps.loadImage (h : Keeps s t) {n slot : Nat} {b : List Byte} : Keeps s (t.loadImage n slot b) :=
  Keeps.ite ((h.foldl fun _ _ k => k.removeImage).markImage)
    (Keeps.ite ((h.foldl fun _ _ k1 => k1.removeImage).markImage)
    (Keeps.ite ((h.foldl fun _ _ k2 => k2.removeImage).markImage) ((h.foldl fun _ _ k3 => k3.removeImage).placeImage)))

theorem Keeps.execImageLoad (h : Keeps s t) {sess n slot : Nat} {image : List Byte} :
    Steps s (execImageLoad sess n slot image t) :=
  (h.guarded (fun _ k => Keeps.ite k.loadImage k)).next

theorem Keeps.execImageClear (h : Keeps s t) {sess n slot value : Nat} : Steps s (execImageClear sess n slot value t) :=
  (h.guarded (fun _ k => Keeps.ite k.removeImage k)).next

theorem Keeps.admitCheck (h : Keeps s t) {n : Nat} : Keeps s (t.admitCheck n).2 := by
  unfold State.admitCheck
  dsimp only
  split
  · exact h
  · split
    · exact h
    · split
      · exact h
      · split
        · exact h
        · split
          · exact h
          · split
            · exact h
            · rename_i eq
              exact Keeps.ite_snd h ((h.setReg.addMap eq))

theorem Keeps.admitTenant (h : Keeps s t) {n : Nat} : Keeps s (t.admitTenant n) := by
  unfold State.admitTenant
  dsimp only
  have bumped : Keeps s (if (t.tenant n).mirrors.isEmpty then t else t.bump (Obj.mirrorTable n)) := .ite h h.bump
  refine Keeps.settleDevice (Keeps.setReg (.ite (Keeps.requestPowerStep ?_) ?_))
  all_goals refine Keeps.ite (Keeps.clearPerturb (Keeps.foldl ?_ fun _ _ k => k.setReg)) (Keeps.foldl ?_ fun _ _ k => k.setReg)
  all_goals
    refine Keeps.setReg (Keeps.setReg (Keeps.setReg (Keeps.draw (Keeps.draw ?_))))
    exact bumped.same

theorem Keeps.execTenantAdmit (h : Keeps s t) {sess n : Nat} : Steps s (execTenantAdmit sess n t) := by
  refine (h.guarded fun u k => ?_).next
  split
  · exact k
  · refine .ite k.violate (.ite k.setReg (.ite k ?_))
    split
    next v eq =>
      have checked := k.admitCheck (n := n)
      rw [eq] at checked
      exact checked.admitTenant
    next => exact k.setReg

theorem Keeps.beginRelease (h : Keeps s t) {n : Nat} {reset : Bool} : Keeps s (t.beginRelease n reset) :=
  (Keeps.ite h.setTenant.endWorks.releaseTags h.setTenant.endWorks).clearShare

theorem Keeps.execTenantRelease (h : Keeps s t) {sess n : Nat} : Steps s (execTenantRelease sess n t) :=
  (h.guarded (fun _ k => Keeps.ite k.beginRelease k)).next

theorem Keeps.execTenantReset (h : Keeps s t) {sess n : Nat} : Steps s (execTenantReset sess n t) :=
  (h.guarded (fun _ k => Keeps.ite k k.beginRelease)).next

theorem Keeps.removeHoldings (h : Keeps s t) {n : Nat} : Keeps s (t.removeHoldings n) :=
  (h.foldl fun _ _ k => k.dropClaim).foldl fun _ _ k1 => k1.removeEntry

theorem Keeps.freeCores (h : Keeps s t) {n : Nat} : Keeps s (t.freeCores n) :=
  h.foldl fun _ _ k => Keeps.ite (k.foldl fun _ _ k1 => Keeps.ite k1 k1.setCtx)
    (((k.foldl fun _ _ k2 => Keeps.ite k2 k2.setCtx).setCore).setReg)

theorem Keeps.execTenantFree (h : Keeps s t) {n : Nat} : Steps s (execTenantFree n t) :=
  Steps.ite h.next (((Keeps.ite h.removeHoldings.clearInsts.freeCores.clearShare.setTenant.requestPowerStep
    h.removeHoldings.clearInsts.freeCores.clearShare.setTenant).settleDevice).next)

theorem Keeps.execTenantZeroingDone (h : Keeps s t) {n : Nat} : Steps s (execTenantZeroingDone n t) := by
  unfold Machine.execTenantZeroingDone
  extract_lets gone s1 mine
  have h1 : Keeps s s1 := h.foldl fun _ _ k => Keeps.zeroAlloc k.same
  exact Steps.ite h.next (Keeps.next h1.same)

end Sys2Proof.Machine
end

section
/-! The queue and the bounds are kept. What a write does to each object (R651 item 3 and the object tables of the chapters). -/

namespace Sys2Proof.Machine

set_option Elab.async false

variable {s t : State}

theorem Keeps.applyIf (h : Keeps s t) {u : State} (hu : Keeps s u) {c : Bool} : Keeps s (t.applyIf c u).1 := Keeps.ite_fst hu h

theorem Keeps.storeClamped (h : Keeps s t) {k lo hi v : Nat} : Keeps s (t.storeClamped k lo hi v).1 := h.setReg

theorem Keeps.storeWithin (h : Keeps s t) {k lo hi v : Nat} : Keeps s (t.storeWithin k lo hi v).1 := h.applyIf h.setReg

theorem Keeps.storeBool (h : Keeps s t) {k v : Nat} : Keeps s (t.storeBool k v).1 := h.setReg

theorem Keeps.ownNaming (h : Keeps s t) {r : State × Nat} (hr : Keeps s r.1) {x : Session} {n : Nat} :
    Keeps s (t.ownNaming x n r).1 :=
  Keeps.ite_fst h.violate hr

theorem Keeps.putIdentity (h : Keeps s t) {x : Session} {o : ObjRef} {v : List Byte} : Puts s (t.putIdentity x o v) := by
  unfold State.putIdentity
  dsimp only
  split
  · exact Puts.some h.setLater
  · refine Puts.some ?_
    split
    · exact h.setSession
    · exact h
  · refine Puts.some ?_
    split
    · exact h.applyIf (h.execCoreReset.nextOf (t := t))
    · split
      · exact h.applyIf (h.execPackageReset.nextOf (t := t))
      · exact h
  · exact Puts.some (h.execFirmwareUpdate.nextOf (t := t))
  · refine Puts.some ?_
    split
    · exact h.applyIf (h.execRollbackCommit.nextOf (t := t))
    · exact h
  · exact Puts.some (h.applyIf (h.execOwnerKeyFuse.nextOf (t := t)))
  · exact Puts.some (h.applyIf (h.execKeySlotWrite.nextOf (t := t)))
  · exact Puts.some (h.execAttestationNonce.nextOf (t := t))
  · exact Puts.none

theorem Keeps.putSupply (h : Keeps s t) {x : Session} {o : ObjRef} {v : List Byte} : Puts s (t.putSupply x o v) := by
  unfold State.putSupply
  dsimp only
  split
  · refine Puts.some ?_
    split
    · exact (h.execCadenceRoleWrite.nextOf (t := t))
    · exact h.applyIf h
  · split
    · exact Puts.some (h.applyIf (h.execGatePeriodWrite.nextOf (t := t)))
    · split
      · split
        · exact Puts.some h.storeClamped
        · exact Puts.some h.storeClamped
        · exact Puts.some h.storeClamped
        · exact Puts.some h.storeClamped
        · exact Puts.some h.storeClamped
        · exact Puts.some (h.execEnvelopeCommit.nextOf (t := t))
      · split
        · exact Puts.some (h.applyIf h.setReg)
        · split
          · exact Puts.some (h.applyIf h.setReg)
          · split
            · split
              · exact Puts.some h
              · exact Puts.some (h.execTensorMapWrite.nextOf (t := t))
            · split
              · exact Puts.some h.setReg
              · exact Puts.none

theorem Keeps.putCompute (h : Keeps s t) {x : Session} {o : ObjRef} {v : List Byte} : Puts s (t.putCompute x o v) := by
  unfold State.putCompute
  dsimp only
  split
  · exact Puts.some (h.applyIf h.execClockRequestWrite.nextOf)
  · split
    · split
      · exact Puts.some h.setReg
      · exact Puts.some h.storeBool
      · exact Puts.none
    · exact Puts.ite (Puts.ite (Puts.some (h.applyIf h.setReg)) (Puts.some (h.applyIf h.setReg))) Puts.none

theorem Keeps.putWatch (h : Keeps s t) {x : Session} {o : ObjRef} {w : Nat} : Keeps s (t.putWatch x o w).1 :=
  Keeps.ite_fst (h.ownNaming (h.applyIf h.setReg)) h.setReg

theorem Keeps.putSteering (h : Keeps s t) {o : ObjRef} {w : Nat} : Keeps s (t.putSteering o w).1 := by
  unfold State.putSteering
  dsimp only
  split
  · exact h.setTenant
  · exact Keeps.ite_fst h.setTenant h
  · exact h.setTenant
  · split
    · exact h.setTenant
    · exact h
  · exact h.setTenant
  · exact h.setTenant

theorem Keeps.putOptical (h : Keeps s t) {x : Session} {o : ObjRef} {v : List Byte} : Puts s (t.putOptical x o v) := by
  unfold State.putOptical
  dsimp only
  split
  · split
    · exact Puts.some h.storeClamped
    · exact Puts.some h.storeBool
    · exact Puts.some (h.applyIf h.execPortRemapWrite.nextOf)
  · split
    · exact Puts.ite (Puts.some h.same) (Puts.some h.same)
    · split
      · exact Puts.some h.putWatch
      · split
        · exact Puts.some h.putSteering
        · split
          · exact Puts.some h.setLater
          · split
            · exact Puts.some h.storeWithin
            · split
              · exact Puts.some h.storeWithin
              · split
                · exact Puts.some h.storeClamped
                · split
                  · split
                    · exact Puts.some h.setLater
                    · exact Puts.some h.setLater
                    · exact Puts.some h.setReg
                    · exact Puts.some h.storeWithin
                    · exact Puts.some h.storeWithin
                    · exact Puts.some h.storeWithin
                    · exact Puts.some h.storeWithin
                    · exact Puts.none
                  · exact Puts.none

theorem Keeps.putDrawing (h : Keeps s t) {x : Session} {slot : Nat} {v : List Byte} : Keeps s (t.putDrawing x slot v).1 := by
  unfold State.putDrawing
  extract_lets kept s1 _ d
  have h1 : Keeps s s1 := .ite h.bump h
  exact Keeps.ite_fst (h.applyIf h1.same) (Keeps.ite_fst h.count (h.execDrawingWrite.nextOf (t := t)))

theorem Keeps.putGroup (h : Keeps s t) {x : Session} {g : Nat} {v : List Byte} : Keeps s (t.putGroup x g v).1 :=
  Keeps.ite_fst h (Keeps.ite_fst ((Keeps.ite h h.bump).same) (h.ownNaming (h.applyIf ((Keeps.ite h h.bump).same))))

theorem Keeps.putPlan (h : Keeps s t) {o : ObjRef} {v : List Byte} : Keeps s (t.putPlan o v).1 :=
  Keeps.ite_fst h (h.applyIf h.setReg)

theorem Keeps.putFabric (h : Keeps s t) {x : Session} {o : ObjRef} {v : List Byte} : Puts s (t.putFabric x o v) := by
  unfold State.putFabric
  dsimp only
  split
  · split
    · exact Puts.some (h.applyIf (h.execChipNumberWrite.nextOf (t := t)))
    · exact Puts.some (h.applyIf h.setReg.settleRacks)
  · split
    · exact Puts.some h.putDrawing
    · split
      · exact Puts.some h.setReg
      · split
        · refine Puts.some ?_
          split
          · exact (h.execSlalomArm.nextOf (t := t))
          · exact h
        · split
          · refine Puts.some ?_
            split
            · exact (h.execArbiterCommitNow.nextOf (t := t))
            · split
              · exact (h.execArbiterCommitGate.nextOf (t := t))
              · exact h
          · split
            · split
              · split
                · exact Puts.some h
                · exact Puts.none
              · exact Puts.some h.setReg
            · split
              · exact Puts.some h.putGroup
              · split
                · exact Puts.some h.putPlan
                · split
                  · split
                    · exact Puts.some h.storeWithin
                    · exact Puts.some h.storeWithin
                    · exact Puts.some h.storeClamped
                    · refine Puts.some ?_
                      split
                      · exact (h.execCollectiveHold.nextOf (t := t))
                      · exact h.applyIf (h.execCollectiveHoldEnd.nextOf (t := t))
                  · exact Puts.none

theorem Keeps.putRing (h : Keeps s t) {n sub w : Nat} : Keeps s (t.putRing n sub w).1 :=
  h.applyIf h.setReg.setReg.setReg.setReg

theorem Keeps.putLedger (h : Keeps s t) {x : Session} {n : Nat} {o : ObjRef} {v : List Byte} :
    Keeps s (t.putLedger x n o v).1 := by
  unfold State.putLedger
  dsimp only
  split
  · exact h.applyIf h.setReg
  · exact h.applyIf h.setReg.setReg
  · exact h.applyIf h.execLedgerMembersWrite.nextOf
  · exact h.applyIf h.execStepClose.nextOf
  · exact h.applyIf h.execAbortRequest.nextOf
  · exact h.storeClamped
  · exact h.storeClamped

theorem Keeps.putMirrors (h : Keeps s t) {x : Session} {n : Nat} {o : ObjRef} {v : List Byte} :
    Keeps s (t.putMirrors x n o v).1 := by
  unfold State.putMirrors
  dsimp only
  split
  · exact Keeps.ite_fst h (h.applyIf h.execMirrorTableWrite.nextOf)
  · exact Keeps.ite_fst (h.draw.draw.applyIf h.draw.draw.execMirrorPopulate.nextOf) h
  · exact Keeps.ite_fst (h.draw.draw.applyIf h.draw.draw.execMirrorVerify.nextOf) h

theorem Keeps.putContinuity (h : Keeps s t) {x : Session} {o : ObjRef} {v : List Byte} : Puts s (t.putContinuity x o v) :=
  Puts.ite (Puts.ite (Puts.some h.violate) (Puts.ite (Puts.some (h.applyIf h.execFenceRequest.nextOf))
    (Puts.some (h.applyIf h.execMemberRejoin.nextOf)))) (Puts.ite (Puts.some h.putLedger)
    (Puts.ite (Puts.some h.putRing) (Puts.ite (Puts.some h.putMirrors) Puts.none)))

theorem Keeps.putWatchCfg (h : Keeps s t) {n sub w : Nat} : Keeps s (t.putWatchCfg n sub w).1 := by
  unfold State.putWatchCfg
  dsimp only
  split
  · exact h.setTenant
  · exact h.setTenant
  · split
    · exact h.setTenant
    · exact h
  · exact h.setTenant
  · exact h.setTenant
  · exact h.setTenant

theorem Keeps.putJudges (h : Keeps s t) {x : Session} {o : ObjRef} {v : List Byte} : Puts s (t.putJudges x o v) := by
  unfold State.putJudges
  dsimp only
  split
  · split
    · exact Puts.some (h.applyIf h.setReg)
    · exact Puts.some h.putWatchCfg
  · split
    · split
      · exact Puts.some (h.execLossWrite.nextOf (t := t))
      · exact Puts.some (h.execGradWrite.nextOf (t := t))
      · exact Puts.some (h.execStatsReset.nextOf (t := t))
    · split
      · exact Puts.some h.setSlot
      · exact Puts.none

theorem Keeps.putControl (h : Keeps s t) {x : Session} {n w : Nat} : Keeps s (t.putControl x n w).1 := by
  unfold State.putControl
  dsimp only
  split
  · exact (h.execTenantAdmit.nextOf (t := t))
  · split
    · exact (h.execTenantRelease.nextOf (t := t))
    · split
      · exact (h.execTenantReset.nextOf (t := t))
      · exact h

theorem Keeps.putTenant (h : Keeps s t) {x : Session} {o : ObjRef} {w : Nat} : Keeps s (t.putTenant x o w).1 := by
  unfold State.putTenant
  dsimp only
  split
  · exact h.putControl
  · exact h.applyIf h.setReg
  · exact h.applyIf h.setReg
  · exact h.applyIf h.setReg
  · exact h.storeWithin

theorem Keeps.putQp (h : Keeps s t) {i : Nat} {v : QpSpec} : Keeps s (t.putQp i v).1 :=
  Keeps.ite_fst (h.applyIf h.setQp) (Keeps.ite_fst h (Keeps.ite_fst h.qpStart h.setQp))

theorem Keeps.putQueues (h : Keeps s t) {x : Session} {o : ObjRef} {v : List Byte} : Puts s (t.putQueues x o v) :=
  Puts.ite (Puts.some h.putTenant) (Puts.ite (Puts.some (h.applyIf h.execImageLoad.nextOf))
    (Puts.ite (Puts.some (h.applyIf h.execImageClear.nextOf))
    (Puts.ite (Puts.some h.hostWrite.countWindow) (Puts.ite (Puts.some (h.applyIf h.writeQueueConfig))
    (Puts.ite (Puts.some h.advanceHead) (Puts.ite (Puts.some h.putQp) Puts.none))))))

theorem Keeps.putPerturb (h : Keeps s t) {x : Session} {o : ObjRef} {v : List Byte} : Puts s (t.putPerturb x o v) :=
  Puts.ite (Puts.some (Keeps.ite h.execTestModeWrite.nextOf h.execPerturbStop.nextOf))
    (Puts.ite (Puts.some (h.applyIf h.setReg)) (Puts.ite (Puts.some (h.applyIf h.execMemoryInject.nextOf))
    (Puts.ite (Puts.some (h.applyIf h.setReg)) (Puts.ite (Puts.some (h.applyIf h.setReg))
    (Puts.ite (Puts.some (h.applyIf h.setReg)) (Puts.ite (Puts.some (h.applyIf h.setReg)) Puts.none))))))

theorem Keeps.writeObj (h : Keeps s t) {x : Session} {o : ObjRef} {v : List Byte} : Keeps s (t.writeObj x o v).1 := by
  unfold State.writeObj
  dsimp only
  split <;> rename_i eq
  · exact (h.putIdentity.orElse (h.putSupply.orElse (h.putCompute.orElse (h.putOptical.orElse (h.putFabric.orElse
      (h.putContinuity.orElse (h.putJudges.orElse (h.putQueues.orElse h.putPerturb)))))))) eq
  · split
    · exact Keeps.ite_fst h.storeBool h.setReg
    · exact h

theorem Keeps.execObjectWrite (h : Keeps s t) {sess : Nat} {obj : ObjRef} {value : List Byte} :
    Steps s (execObjectWrite sess obj value t) := by
  unfold Machine.execObjectWrite
  refine Keeps.next ?_
  split
  · exact Keeps.ite h.violate (Keeps.ite h.writeObj h)
  · exact h.violate
  · exact h

end Sys2Proof.Machine
end

section
/-! The queue and the bounds are kept. The commands of the Ethernet ports and of RoCEv2 (R706 to R720, R729 to R731). -/

namespace Sys2Proof.Machine

set_option Elab.async false

variable {s t : State}

theorem Keeps.execEthLinkRetry (h : Keeps s t) {port : Nat} {ok : Bool} : Steps s (execEthLinkRetry port ok t) :=
  (Keeps.ite h.setReg h).next

theorem Keeps.execEthernetLinkDown (h : Keeps s t) {port : Nat} : Steps s (execEthernetLinkDown port t) :=
  (Keeps.ite h.setReg.count h).next

theorem Keeps.transmitAll (h : Keeps s t) {ms : List EthMsg} : Keeps s (t.transmitAll ms) := h.foldl fun _ _ k => k.transmit

theorem Keeps.learn (h : Keeps s t) {net peer : Nat} : Keeps s (t.learn net peer) := h.same.transmitAll

theorem Keeps.discard (h : Keeps s t) {port : Nat} : Keeps s (t.discard port) := h.count

theorem Keeps.answerEcho (h : Keeps s t) {port target : Nat} : Keeps s (t.answerEcho port target) :=
  Keeps.ite h.discard h.same.transmit

theorem Keeps.congested (h : Keeps s t) {i : Nat} : Keeps s (t.congested i) := Keeps.ite h h.setQp.sendRdma

theorem Keeps.pauseFor (h : Keeps s t) {port priority fill : Nat} : Keeps s (t.pauseFor port priority fill) :=
  Keeps.ite h (Keeps.ite h.same.count.emit (Keeps.ite h.same.emit h))

theorem Keeps.takeEth (h : Keeps s t) {port : Nat} {x : EthKind} : Keeps s (t.takeEth port x) := by
  unfold State.takeEth
  split
  · exact Keeps.ite h.learn.transmit h
  · exact h.learn
  · exact h.answerEcho
  · exact Keeps.ite h h.discard
  · exact Keeps.ite h.congested h
  · exact h
  · exact h
  · exact h.discard

theorem Keeps.execEthFrameReceive (h : Keeps s t) {port : Nat} {tag : EthTag} {kind : EthKind} :
    Steps s (execEthFrameReceive port tag kind t) := by
  unfold Machine.execEthFrameReceive
  refine Keeps.next ?_
  split
  · exact h
  · split
    · exact h.count
    · split
      · exact h
      · split
        · exact h.discard
        · split
          · exact h.discard
          · exact h.pauseFor.takeEth

theorem Keeps.execNeighbourTimeout (h : Keeps s t) {net peer : Nat} : Steps s (execNeighbourTimeout net peer t) := h.same.next

theorem Keeps.execAddressChangeEffect (h : Keeps s t) {obj : ObjRef} : Steps s (execAddressChangeEffect obj t) := h.same.next

theorem Keeps.resume (h : Keeps s t) {port priority : Nat} : Keeps s (t.resume port priority) := h.same.transmitAll

theorem Keeps.execPauseReceive (h : Keeps s t) {port priority quanta : Nat} :
    Steps s (execPauseReceive port priority quanta t) :=
  (Keeps.ite h (Keeps.ite h.count.resume (Keeps.ite h.count h.same))).next

theorem Keeps.execPauseQuantaExpiry (h : Keeps s t) {port priority : Nat} : Steps s (execPauseQuantaExpiry port priority t) :=
  h.resume.next

theorem Keeps.execQpTableWrite (h : Keeps s t) {sess qp : Nat} {spec : QpSpec} : Steps s (execQpTableWrite sess qp spec t) :=
  (h.guarded (fun _ k => k.putQp)).next

theorem Keeps.expect (h : Keeps s t) {i psn len : Nat} : Keeps s (t.expect i psn len) := h.setQp

theorem Keeps.refuseKey (h : Keeps s t) {i psn rkey : Nat} : Keeps s (t.refuseKey i psn rkey) := h.countOldKey.refuseRdma

theorem Keeps.execRdmaWrite (h : Keeps s t) {qp psn rkey address : Nat} {data : List Byte} :
    Steps s (execRdmaWrite qp psn rkey address data t) := by
  refine Keeps.next (.ite h ?_)
  cases (t.qp qp).order psn with
  | gap => exact h.sendRdma
  | again => exact .ite h h.sendRdma
  | next => exact .ite h.refuseKey (.ite h.expect.setQp h.expect.applyRdma)

theorem Keeps.answerRdmaRead (h : Keeps s t) {i psn rkey address length : Nat} :
    Keeps s (t.answerRdmaRead i psn rkey address length) := by
  unfold State.answerRdmaRead
  dsimp only
  split
  · exact h.hostRead.addReg.sendRdma
  · exact h.sendRdma

theorem Keeps.execRdmaRead (h : Keeps s t) {qp psn rkey address length : Nat} :
    Steps s (execRdmaRead qp psn rkey address length t) := by
  unfold Machine.execRdmaRead
  dsimp only
  refine Keeps.next ?_
  split
  · exact h
  · split
    · exact h.sendRdma
    · exact Keeps.ite h.refuseKey h.answerRdmaRead
    · exact Keeps.ite h.refuseKey h.expect.answerRdmaRead

theorem Keeps.execRdmaSendReceive (h : Keeps s t) {qp psn : Nat} : Steps s (execRdmaSendReceive qp psn t) :=
  (Keeps.ite h.refuseRdma h).next

theorem Keeps.execRoceAckReceive (h : Keeps s t) {qp psn : Nat} {rnr : Bool} : Steps s (execRoceAckReceive qp psn rnr t) :=
  (Keeps.ite h (Keeps.ite h.setQp (Keeps.ite h h.setQp))).next

theorem Keeps.execRoceRetryTimeout (h : Keeps s t) {qp : Nat} : Steps s (execRoceRetryTimeout qp t) :=
  (Keeps.ite h (Keeps.ite h.setQp.resendPushes h.qpExhausted)).next

theorem Keeps.execRoceRnrRetry (h : Keeps s t) {qp : Nat} : Steps s (execRoceRnrRetry qp t) :=
  (Keeps.ite h (Keeps.ite h.setQp.resendPushes h.qpExhausted)).next

theorem Keeps.execCnpReceive (h : Keeps s t) {qp : Nat} : Steps s (execCnpReceive qp t) := (Keeps.ite h.setQp h).next

theorem Keeps.execCnpRateRecovery (h : Keeps s t) {qp : Nat} : Steps s (execCnpRateRecovery qp t) := (Keeps.ite h.setQp h).next

end Sys2Proof.Machine
end

section
/-! The queue and the bounds are kept. The Gagon dictionary protocol (R646 to R677). -/

namespace Sys2Proof.Machine

set_option Elab.async false

variable {s t : State}

theorem Keeps.eachItem {α : Type} (h : Keeps s t) {f : State → α → List Byte × State} {is : List α}
    (hf : ∀ u a, Keeps s u → Keeps s (f u a).2) : Keeps s (State.eachItem f is t).2 := by
  induction is generalizing t with
  | nil => exact h
  | cons i is ih => exact ih (hf t i h)

theorem Keeps.endClosing (h : Keeps s t) : Keeps s t.endClosing := h.fewer rfl le_rfl (List.length_filter_le _ _)

theorem Keeps.answerItems (h : Keeps s t) {α : Type} {e : Envelope} {kind flags : Nat} {bytes : α → List Byte} {items : List α}
    {f : State → α → List Byte × State} (hf : ∀ u a, Keeps s u → Keeps s (f u a).2) : Keeps s
    (t.answerItems e kind flags bytes items f) := by
  unfold State.answerItems
  split
  · rename_i eq
    exact (h.gdpAuth.of eq)
  · rename_i eq1
    exact Keeps.ite (((h.gdpAuth.of eq1)).answer) (Keeps.ite (((h.gdpAuth.of eq1)).answer)
      (((((h.gdpAuth.of eq1)).eachItem (fun _ _ k2 => hf _ _ k2)).answer).endClosing))

theorem Keeps.readItem (h : Keeps s t) {sess : Nat} {o : ObjRef} : Keeps s (State.readItem sess t o).2 := by
  unfold State.readItem
  dsimp only
  split
  · exact Keeps.ite_snd h.violate (Keeps.ite_snd h h)
  · exact h.violate

theorem Keeps.execRead (h : Keeps s t) {env : Envelope} {items : List ObjRef} : Steps s (execRead env items t) :=
  (h.answerItems (fun _ _ k => k.readItem)).next

theorem Keeps.describeItem (h : Keeps s t) {sess : Nat} {o : ObjRef} : Keeps s (State.describeItem sess t o).2 := by
  unfold State.describeItem
  split
  · exact Keeps.ite_snd h h.violate
  · exact h.violate

theorem Keeps.execDescribe (h : Keeps s t) {env : Envelope} {items : List ObjRef} : Steps s (execDescribe env items t) :=
  (h.answerItems (fun _ _ k => k.describeItem)).next

theorem Keeps.writeItem (h : Keeps s t) {sess : Nat} {i : WriteItem} : Keeps s (State.writeItem sess t i).2 := by
  unfold State.writeItem
  split
  · exact Keeps.ite_snd h.violate (Keeps.ite_snd h h.writeObj)
  · exact h.violate

theorem Keeps.execWrite (h : Keeps s t) {env : Envelope} {items : List WriteItem} : Steps s (execWrite env items t) :=
  (h.answerItems (fun _ _ k => k.writeItem)).next

theorem Keeps.generation (h : Keeps s t) {o : ObjRef} {v : List Byte} : Keeps s (t.generation o v).2 :=
  Keeps.ite_snd h (Keeps.ite_snd h h.same)

theorem Keeps.readWindow (h : Keeps s t) {sess n : Nat} {o : ObjRef} {offset length : Nat} :
    Keeps s (t.readWindow sess n o offset length).2 :=
  Keeps.countWindow (Keeps.hostRead (h.draw (w := 2)))

theorem Keeps.readSegItem (h : Keeps s t) {sess offset length : Nat} {o : ObjRef} :
    Keeps s (State.readSegItem sess offset length t o).2 := by
  unfold State.readSegItem
  dsimp only
  split
  · split
    · exact h.violate
    · split
      · exact h
      · split
        · exact h.readWindow
        · exact Keeps.ite_snd h.generation h
  · exact h.violate

theorem Keeps.execReadSeg (h : Keeps s t) {env : Envelope} {obj : ObjRef} {offset length : Nat} :
    Steps s (execReadSeg env obj offset length t) :=
  (h.answerItems (fun _ _ k => k.readSegItem)).next

theorem Keeps.stage (h : Keeps s t) {x : Session} {r : ObjRow} {i : SegItem} : Keeps s (t.stage x r i).2 := by
  unfold State.stage
  dsimp only
  split
  · exact h
  · exact Keeps.ite_snd (Keeps.ite_fst h.setSession.writeObj h.setSession) h.setSession

theorem Keeps.writeSegItem (h : Keeps s t) {sess : Nat} {i : SegItem} : Keeps s (State.writeSegItem sess t i).2 := by
  unfold State.writeSegItem
  split
  · exact Keeps.ite_snd h.stage h.violate
  · exact h.violate

theorem Keeps.writeWindow (h : Keeps s t) {e : Envelope} {n : Nat} {i : SegItem} : Keeps s (t.writeWindow e n i) := by
  unfold State.writeWindow
  dsimp only
  split
  · rename_i eq
    exact (h.gdpAuth.of eq)
  · rename_i eq1
    exact Keeps.ite ((((h.gdpAuth.of eq1)).violate).answer)
      (Keeps.ite (((h.gdpAuth.of eq1)).answer) (Keeps.ite (((h.gdpAuth.of eq1)).same) (((h.gdpAuth.of eq1)).applyWindow)))

theorem Keeps.execWriteSeg (h : Keeps s t) {env : Envelope} {item : SegItem} : Steps s (execWriteSeg env item t) := by
  unfold Machine.execWriteSeg
  split
  · exact h.writeWindow.next
  · exact (h.answerItems (fun _ _ k => k.writeSegItem)).next

theorem Keeps.clearObj (h : Keeps s t) {o : ObjRef} {count : Nat} : Keeps s (t.clearObj o count).2 :=
  Keeps.ite_snd (Keeps.ite_snd h.setReg h) (Keeps.ite_snd (Keeps.ite_snd h.setLatch h) (Keeps.ite_snd h.setCapture h))

theorem Keeps.clearItem (h : Keeps s t) {sess count : Nat} {o : ObjRef} : Keeps s (State.clearItem sess count t o).2 := by
  unfold State.clearItem
  split
  · exact Keeps.ite_snd h.clearObj (Keeps.ite_snd h h.violate)
  · exact h.violate

theorem Keeps.execClearIf (h : Keeps s t) {env : Envelope} {obj : ObjRef} {count : Nat} :
    Steps s (execClearIf env obj count t) :=
  (h.answerItems (fun _ _ k => k.clearItem)).next

theorem Keeps.subscribe (h : Keeps s t) {sess : Nat} {o : ObjRef} : Keeps s (State.subscribe sess t o).2 := by
  unfold State.subscribe
  split
  · exact h
  · exact Keeps.ite_snd h.violate (Keeps.ite_snd h (Keeps.ite_snd h (Keeps.ite_snd h h.setSession)))

theorem Keeps.execSubscribeAdd (h : Keeps s t) {env : Envelope} {obj : ObjRef} : Steps s (execSubscribeAdd env obj t) :=
  (h.answerItems (fun _ _ k => k.subscribe)).next

theorem Keeps.unsubscribe (h : Keeps s t) {sess : Nat} {o : ObjRef} : Keeps s (State.unsubscribe sess t o).2 := by
  unfold State.unsubscribe
  split
  · exact h
  · exact h.setSession

theorem Keeps.execSubscribeRemove (h : Keeps s t) {env : Envelope} {obj : ObjRef} : Steps s (execSubscribeRemove env obj t) :=
  (h.answerItems (fun _ _ k => k.unsubscribe)).next

theorem Keeps.acknowledge (h : Keeps s t) {sess sequence : Nat} : Keeps s (State.acknowledge sess t sequence).2 := by
  unfold State.acknowledge
  dsimp only
  split
  · exact h
  · exact h.pump

theorem Keeps.execSubscribeAcknowledge (h : Keeps s t) {env : Envelope} {sequence : Nat} :
    Steps s (execSubscribeAcknowledge env sequence t) :=
  (h.answerItems (fun _ _ k => k.acknowledge)).next

theorem Keeps.execEventResend (h : Keeps s t) {sess : Nat} : Steps s (execEventResend sess t) := by
  unfold Machine.execEventResend
  dsimp only
  split
  · exact h.next
  · exact (h.foldl fun _ _ k => Keeps.ite k.sendSession.sendSession k.sendSession).next

theorem Keeps.deliverSub (h : Keeps s t) {sess : Nat} {q : Nat × List Byte} : Keeps s (t.deliverSub sess q) := by
  unfold State.deliverSub
  dsimp only
  split
  · exact h
  · exact Keeps.ite h (Keeps.ite h h.pump)

theorem Keeps.execSubscriptionDelivery (h : Keeps s t) {sess : Nat} : Steps s (execSubscriptionDelivery sess t) := by
  unfold Machine.execSubscriptionDelivery
  split
  · exact h.next
  · exact (h.foldl fun _ _ k => k.deliverSub).next

theorem Keeps.execHello (h : Keeps s t) {net peer keySlot : Nat} {rolePublicKey ephemeral nonce : List Byte} :
    Steps s (execHello net peer keySlot rolePublicKey ephemeral nonce t) := by
  unfold Machine.execHello
  refine Steps.ite h.next ?_
  split
  · exact h.count.next
  · rename_i full
    have room : t.handshakes.length < 16 := Nat.not_le.1 fun many => full (Or.inl many)
    have drawn : Keeps s (((t.fresh.2.draw 256).2.draw 256).2.draw 256).2 := h.same
    exact Steps.ite h.authFail.next (drawn.begin room).sendControl.next

/-- A session opens where fewer than 64 are open (R657). -/
theorem Keeps.openSession (h : Keeps s t) (room : t.sessions.length < 64) {v : Handshake} {sequence request : Nat} :
    Keeps s (t.openSession v sequence request) := by
  have fewer : Keeps s { t with handshakes := t.handshakes.filter fun y => y.id != v.id } :=
    h.fewer rfl (List.length_filter_le _ _) le_rfl
  exact (fewer.openOne room).sendSession

theorem Keeps.execProof (h : Keeps s t) {env : Envelope} {flags : Nat} {signature : List Byte} :
    Steps s (execProof env flags signature t) := by
  unfold Machine.execProof
  split
  · exact h.next
  · split
    · exact h.authFail.next
    · dsimp only
      split
      · exact h.authFail.next
      · split
        · exact h.count.next
        · rename_i room
          exact (h.openSession (Nat.lt_of_not_le room)).next

theorem Keeps.execClose (h : Keeps s t) {env : Envelope} : Steps s (execClose env t) := by
  unfold Machine.execClose
  split
  · rename_i eq
    exact ((h.gdpAuth.of eq)).next
  · rename_i eq1
    exact (((h.gdpAuth.of eq1)).endSession).next

theorem Keeps.execSessionClose (h : Keeps s t) {sess value : Nat} : Steps s (execSessionClose sess value t) :=
  (h.guarded (fun _ k => Keeps.ite k.endSession k)).next

theorem Keeps.execHandshakeTimeout (h : Keeps s t) {session : Nat} : Steps s (execHandshakeTimeout session t) := by
  have fewer : Keeps s { t with handshakes := t.handshakes.filter fun v => v.id != session } :=
    h.fewer rfl (List.length_filter_le _ _) le_rfl
  exact Steps.ite fewer.authFail.next h.next

theorem Keeps.execSessionIdleTimeout (h : Keeps s t) {sess : Nat} : Steps s (execSessionIdleTimeout sess t) := by
  unfold Machine.execSessionIdleTimeout
  split
  · exact h.next
  · exact (Keeps.ite h.endSession h).next

theorem Keeps.execSegmentTimeout (h : Keeps s t) {sess : Nat} {obj : ObjRef} : Steps s (execSegmentTimeout sess obj t) := by
  unfold Machine.execSegmentTimeout
  split
  · exact h.next
  · split
    · exact h.next
    · exact (Keeps.ite h.setSession h).next

theorem Keeps.execGdpPortChange (h : Keeps s t) : Steps s (execGdpPortChange t) := h.same.next

end Sys2Proof.Machine
end

section
/-! The queue and the bounds are kept. The commands of the matrix engine (R130, R143 to R145, R155, R160, R190). -/

namespace Sys2Proof.Machine

set_option Elab.async false

variable {s t : State}

theorem Keeps.mmaFinish (h : Keeps s t) {c x : Nat} {k : Work} {w : MmaWord} {m : Mma} {streams : Bool} {o : MmaOps}
    {p : Product} : Keeps s (t.mmaFinish c x k w m streams o p) := by
  unfold State.mmaFinish
  dsimp only
  split
  · exact h.issueMatrix
  · exact h.convertOut (fun _ _ k => k.issueMatrix)

theorem Keeps.execMma (h : Keeps s t) {core ctx : Nat} {w : MmaWord} : Steps s (execMma core ctx w t) :=
  (h.issue (fun _ _ k => k.startMatrix (fun _ _ _ _ k1 => k1.runProduct (fun _ _ k2 => k2.mmaFinish)))).next

theorem Keeps.reportIssued (h : Keeps s t) {core : Nat} {i : Issued} : Keeps s (t.reportIssued core i) := by
  unfold State.reportIssued
  split
  · exact Keeps.ite h h.judge
  · exact h

theorem Keeps.execMatrixInstructionComplete (h : Keeps s t) {core part : Nat} :
    Steps s (execMatrixInstructionComplete core part t) := by
  unfold Machine.execMatrixInstructionComplete
  split
  · exact h.next
  · exact h.modCore.reportIssued.resumeHost.next

theorem Keeps.execSharedLogicFault (h : Keeps s t) {core : Nat} : Steps s (execSharedLogicFault core t) :=
  Steps.ite h.next ((Keeps.ite h.setCore.count.report (h.setCore.count.foldl fun _ _ k => k.faultCtx)).next)

theorem Keeps.execMmode (h : Keeps s t) {core ctx mode : Nat} : Steps s (execMmode core ctx mode t) :=
  (h.issue (fun _ _ k => Keeps.ite k.partitionFault k.modCore)).next

theorem Keeps.execMmodeApply (h : Keeps s t) {core : Nat} : Steps s (execMmodeApply core t) := by
  unfold Machine.execMmodeApply
  dsimp only
  split
  · exact h.next
  · exact Steps.ite h.setCore.setReg.next h.next

theorem Keeps.execPartitionSwitch (h : Keeps s t) {core part : Nat} : Steps s (execPartitionSwitch core part t) := by
  unfold Machine.execPartitionSwitch
  dsimp only
  split
  · exact h.next
  · split
    · exact h.next
    · split
      · exact h.next
      · exact h.setCore.count.addReg.next

end Sys2Proof.Machine
end

section
/-! The queue and the bounds are kept. The optimiser kernels of the row engine (R255 to R267, R279 to R281). -/

namespace Sys2Proof.Machine

set_option Elab.async false

variable {s t : State}

theorem Keeps.withOptim (h : Keeps s t) {c x : Nat} {k : Work} {ops : List (Desc × Bool)}
    {f : List (Desc × VSel) → State → State} (hf : ∀ a u, Keeps s u → Keeps s (f a u)) : Keeps s (t.withOptim c x k ops f) :=
  h.withOps (fun _ _ k => hf _ _ k)

theorem Keeps.listUpd (h : Keeps s t) {n step off : Nat} : Gives s (t.listUpd n step off) := by
  unfold State.listUpd
  dsimp only
  split
  · exact Gives.some h
  · exact Gives.ite (Gives.some h) (Gives.ite (Gives.some h.setTenant) Gives.none)

theorem Keeps.recordUpd (h : Keeps s t) {n off : Nat} {us : List Nat} {sat : Nat} : Keeps s (t.recordUpd n off us sat) :=
  Keeps.ite (Keeps.ite h h.setField) (((Keeps.ite h h.setField).setField).addReg)

theorem Keeps.storeMoment (h : Keeps s t) {c x : Nat} {k : Work} {w : UpdWord} {p : Desc × VSel} {ms : List Nat}
    {next : Desc × Counts → State → State} (hnext : ∀ a u, Keeps s u → Keeps s (next a u)) :
    Keeps s (t.storeMoment c x k w p ms next) := by
  have stored : (t.storeValues k.tenant k.stepOf p.1 p.2 (rowMode w.sr w.ovf) 32 (ms.map ofF32)).Kept s := h.storeValues
  unfold State.storeMoment
  split <;> rename_i eq
  · exact hnext _ _ (stored.of eq)
  · exact h.finishStore stored

theorem Keeps.finishUpd (h : Keeps s t) {c x : Nat} {k : Work} {u' : Desc × VSel} {rOff : Nat} {us : List Nat}
    {ms : List (Desc × Counts)} : Keeps s (t.finishUpd c x k u' rOff us ms) :=
  Keeps.ite h.storeRaw.recordUpd.opFault h.storeRaw.recordUpd.judgeAll.rowDone

theorem Keeps.runUpd (h : Keeps s t) {c x : Nat} {w : UpdWord} {kind : UpdKind} : Keeps s (t.runUpd c x w kind) := by
  unfold State.runUpd
  dsimp only
  refine Keeps.issue h (fun _ _ k2 => ?_)
  split
  · exact k2.descriptorFault
  · split
    · exact k2.descriptorFault
    · refine Keeps.withOptim k2 (fun _ _ k6 => ?_)
      split
      · split
        · exact k6.descriptorFault
        · rename_i eq7
          split
          · refine Keeps.storeMoment (((k6.listUpd eq7)).takeF32s) (fun _ _ k10 => ?_)
            split
            · exact k10.storeMoment (fun _ _ k11 => k11.finishUpd)
            · exact k10.finishUpd
          · exact ((k6.listUpd eq7)).takeF32s
      · exact k6

theorem Keeps.execRupdAm (h : Keeps s t) {core ctx : Nat} {w : UpdWord} : Steps s (execRupdAm core ctx w t) := h.runUpd.next

theorem Keeps.execRupdMom (h : Keeps s t) {core ctx : Nat} {w : UpdWord} : Steps s (execRupdMom core ctx w t) := h.runUpd.next

theorem Keeps.execRupdSgn (h : Keeps s t) {core ctx : Nat} {w : UpdWord} : Steps s (execRupdSgn core ctx w t) := h.runUpd.next

theorem Keeps.execRfold (h : Keeps s t) {core ctx : Nat} {w : FoldWord} : Steps s (execRfold core ctx w t) := by
  refine (h.issue fun k v hv => ?_).next
  split
  · exact hv.descriptorFault
  · refine .ite hv.descriptorFault (hv.withOptim fun ds z hz => ?_)
    dsimp only
    split
    · refine .ite hz.storeRaw.storeRaw.opFault ?_
      split
      · exact hz.storeRaw.storeRaw.judgeAll.rowDone
      · split <;> rename_i eq
        · exact (hz.storeRaw.storeRaw.storeValues.of eq : Keeps s _).judgeAll.rowDone
        · exact hz.descriptorFault
        · exact hz.storeRaw.storeRaw.finishStore hz.storeRaw.storeRaw.storeValues
    · exact hz

end Sys2Proof.Machine
end

section
/-! The queue and the bounds are kept. The commands of the sketch engines (R545, R550, R552, R559). -/

namespace Sys2Proof.Machine

set_option Elab.async false

variable {s t : State}

theorem Keeps.execSketchBlockProject (h : Keeps s t) {engine : Nat} {outputs : List Nat} :
    Steps s (execSketchBlockProject engine outputs t) := by
  unfold Machine.execSketchBlockProject
  dsimp only
  split
  · exact h.next
  · split
    · exact h.next
    · exact h.same.setSkGroup.count.next

theorem Keeps.execSketchCalibrationEnd (h : Keeps s t) {engine : Nat} {sigmas gains : List Nat} {orthoError : Nat} :
    Steps s (execSketchCalibrationEnd engine sigmas gains orthoError t) :=
  Steps.ite h.next ((Keeps.ite h.same.showSigma.setReg.setReg.count h.same.showSigma.setReg.setReg.report).next)

end Sys2Proof.Machine
end

section
/-! The queue and the bounds are kept. The thread instructions of the vector engine (R194 to R206). -/

namespace Sys2Proof.Machine

set_option Elab.async false

variable {s t : State}

theorem Keeps.setThread (h : Keeps s t) {c g i : Nat} {v : Thread} : Keeps s (t.setThread c g i v) := h.same

theorem Keeps.setRegs (h : Keeps s t) {c g r : Nat} {vals : List (Nat × Nat)} : Keeps s (t.setRegs c g r vals) :=
  h.foldl fun _ _ k => k.setThread

theorem Keeps.threadIssued (h : Keeps s t) {c g : Nat} : Keeps s (t.threadIssued c g) := h.setCore.addReg

theorem Keeps.setGroupWait (h : Keeps s t) {c g : Nat} {w : WaitFor} : Keeps s (t.setGroupWait c g w) := h.setCore

theorem Keeps.holdGroup (h : Keeps s t) {u : State} (hu : Keeps s u) {c g : Nat} {w : WaitFor} :
    Keeps s (t.holdGroup u c g w) :=
  (Keeps.ite h hu).setGroupWait

theorem Keeps.threadIssue (h : Keeps s t) {c g : Nat} {w : ThreadWord} {effect : Nat → Work → List Nat → State → State}
    (heffect : ∀ a b c u, Keeps s u → Keeps s (effect a b c u)) : Keeps s (t.threadIssue c g w effect) := by
  unfold State.threadIssue
  split
  · exact h
  · split
    · exact h
    · split
      · exact h
      · exact Keeps.ite h (Keeps.ite (heffect _ _ _ _ h) h.faultCtx)

theorem Keeps.laneOp (h : Keeps s t) {c g : Nat} {w : ThreadWord} {f : Thread → Nat} : Keeps s (t.laneOp c g w f) :=
  h.threadIssue (fun _ _ _ _ k => k.setRegs.threadIssued)

theorem Keeps.laneFn (h : Keeps s t) {c g : Nat} {w : ThreadWord} {f : LaneFn} : Keeps s (t.laneFn c g w f) := h.laneOp

theorem Keeps.withElems (h : Keeps s t) {c g x : Nat} {k : Work} {slot : Nat} {idx : List (Nat × Nat)}
    {f : Desc → VSel → State → State} (hf : ∀ a b u, Keeps s u → Keeps s (f a b u)) : Keeps s (t.withElems c g x k slot idx f)
    := by
  unfold State.withElems
  split
  · exact h.descriptorFault
  · split
    · exact h.descriptorFault
    · split
      · exact h.descriptorFault
      · split
        · exact h.opFault
        · split
          · rename_i eq
            exact ((h.prepAt.of eq)).opFault
          · rename_i eq1
            exact h.holdGroup ((h.prepAt.of eq1))
          · rename_i eq2
            exact hf _ _ _ ((((h.prepAt.of eq2)).lateLift).threadIssued)

theorem Keeps.execThreadLoad (h : Keeps s t) {core group : Nat} {w : ThreadWord} : Steps s (execThreadLoad core group w t) :=
  (h.threadIssue (fun _ _ _ _ k => k.withElems (fun _ _ _ k1 => k1.setRegs.countRange))).next

theorem Keeps.execVldI (h : Keeps s t) {core group : Nat} {w : ThreadWord} : Steps s (execVldI core group w t) := by
  unfold Machine.execVldI
  dsimp only
  refine Keeps.next ?_
  refine Keeps.threadIssue h (fun _ _ _ _ k6 => ?_)
  refine Keeps.withElems k6 (fun _ _ _ k9 => ?_)
  split
  · exact k9.setRegs
  · exact k9.drawMany.setRegs

theorem Keeps.oneWriter (h : Keeps s t) {ks : List Nat} {ws : List (Nat × Nat)} : Keeps s (t.oneWriter ks ws).2 := by
  induction ks generalizing t with
  | nil => exact h
  | cons k ks ih => exact ih (Keeps.ite_snd h h.draw)

theorem Keeps.storeElems (h : Keeps s t) {k : Work} {d : Desc} {v : VSel} {w : ThreadWord} {int : Bool}
    {pieces : List (List (Nat × Nat))} : (t.storeElems k d v w int pieces).Kept s := by
  unfold State.storeElems
  dsimp only
  split
  · exact h
  · split
    · exact trivial
    · rename_i eq
      split
      · exact ((((Keeps.ite h.setField h).listMax eq)).pokeAll).pokeAll
      · exact ((((Keeps.ite h.setField h).listMax eq)).pokeAll).pokeAll

theorem Keeps.execThreadStore (h : Keeps s t) {core group : Nat} {int : Bool} {w : ThreadWord} :
    Steps s (execThreadStore core group int w t) := by
  refine (h.threadIssue fun x k act v hv => ?_).next
  dsimp only
  split
  · exact hv.descriptorFault
  · refine .ite hv.descriptorFault (.ite hv.opFault ?_)
    generalize (if (isNarrow _ && _) = true then _ else _ : Option (List (List (Nat × Nat)))) = pieces
    cases pieces with
    | none => exact hv.descriptorFault
    | some pieces =>
      dsimp only
      split <;> rename_i prepped
      · exact (hv.prepAt.of prepped : Keeps s _).opFault
      · exact hv.holdGroup (hv.prepAt.of prepped)
      · refine .ite hv ?_
        have ready : Keeps s _ := hv.prepAt.of prepped
        split <;> rename_i stored
        · exact ((Keeps.ite_snd ready ready.oneWriter).storeElems.of stored : Keeps s _).threadIssued.judgeDesc
        · exact (Keeps.ite_snd ready ready.oneWriter).finishStore (Keeps.ite_snd ready ready.oneWriter).storeElems

theorem Keeps.execVadd (h : Keeps s t) {core group : Nat} {w : ThreadWord} : Steps s (execVadd core group w t) := h.laneOp.next

theorem Keeps.execVmul (h : Keeps s t) {core group : Nat} {w : ThreadWord} : Steps s (execVmul core group w t) := h.laneOp.next

theorem Keeps.execVfma (h : Keeps s t) {core group : Nat} {w : ThreadWord} : Steps s (execVfma core group w t) := h.laneOp.next

theorem Keeps.execVdiv (h : Keeps s t) {core group : Nat} {w : ThreadWord} : Steps s (execVdiv core group w t) := h.laneOp.next

theorem Keeps.execVsqrt (h : Keeps s t) {core group : Nat} {w : ThreadWord} : Steps s (execVsqrt core group w t) :=
  h.laneOp.next

theorem Keeps.execVrcp (h : Keeps s t) {core group : Nat} {w : ThreadWord} : Steps s (execVrcp core group w t) := h.laneFn.next

theorem Keeps.execVrsq (h : Keeps s t) {core group : Nat} {w : ThreadWord} : Steps s (execVrsq core group w t) := h.laneFn.next

theorem Keeps.execVexp (h : Keeps s t) {core group : Nat} {w : ThreadWord} : Steps s (execVexp core group w t) := h.laneFn.next

theorem Keeps.execVlog (h : Keeps s t) {core group : Nat} {w : ThreadWord} : Steps s (execVlog core group w t) := h.laneFn.next

theorem Keeps.execVexp2 (h : Keeps s t) {core group : Nat} {w : ThreadWord} : Steps s (execVexp2 core group w t) :=
  h.laneFn.next

theorem Keeps.execVlog2 (h : Keeps s t) {core group : Nat} {w : ThreadWord} : Steps s (execVlog2 core group w t) :=
  h.laneFn.next

theorem Keeps.execVsin (h : Keeps s t) {core group : Nat} {w : ThreadWord} : Steps s (execVsin core group w t) := h.laneFn.next

theorem Keeps.execVcos (h : Keeps s t) {core group : Nat} {w : ThreadWord} : Steps s (execVcos core group w t) := h.laneFn.next

theorem Keeps.execVtanh (h : Keeps s t) {core group : Nat} {w : ThreadWord} : Steps s (execVtanh core group w t) :=
  h.laneFn.next

theorem Keeps.execVsigm (h : Keeps s t) {core group : Nat} {w : ThreadWord} : Steps s (execVsigm core group w t) :=
  h.laneFn.next

theorem Keeps.execVerf (h : Keeps s t) {core group : Nat} {w : ThreadWord} : Steps s (execVerf core group w t) := h.laneFn.next

theorem Keeps.execVgelu (h : Keeps s t) {core group : Nat} {w : ThreadWord} : Steps s (execVgelu core group w t) :=
  h.laneFn.next

theorem Keeps.spread (h : Keeps s t) {c g : Nat} {w : ThreadWord} {act : List Nat} {v : Nat} : Keeps s (t.spread c g w act v) :=
  h.setRegs.threadIssued

theorem Keeps.reduceBy (h : Keeps s t) {c g : Nat} {w : ThreadWord} {f : Nat → Nat → Nat} : Keeps s (t.reduceBy c g w f) := by
  unfold State.reduceBy
  refine Keeps.threadIssue h (fun _ _ _ _ k2 => ?_)
  split
  · exact k2.threadIssued.emptyReduction
  · exact k2.spread

theorem Keeps.execVredAdd (h : Keeps s t) {core group : Nat} {w : ThreadWord} : Steps s (execVredAdd core group w t) :=
  (h.threadIssue (fun _ _ _ _ k => k.spread)).next

theorem Keeps.execVredMax (h : Keeps s t) {core group : Nat} {w : ThreadWord} : Steps s (execVredMax core group w t) :=
  h.reduceBy.next

theorem Keeps.execVredMin (h : Keeps s t) {core group : Nat} {w : ThreadWord} : Steps s (execVredMin core group w t) :=
  h.reduceBy.next

theorem Keeps.execVbcast (h : Keeps s t) {core group : Nat} {w : ThreadWord} : Steps s (execVbcast core group w t) := by
  refine (h.threadIssue fun _ _ _ u k => ?_).next
  dsimp only
  split
  · exact (k.draw (w := 6)).spread
  · exact k.threadIssued

theorem Keeps.execVbar (h : Keeps s t) {core group : Nat} {w : ThreadWord} : Steps s (execVbar core group w t) :=
  (h.threadIssue (fun _ _ _ _ k => k.threadIssued)).next

theorem Keeps.endBlock (h : Keeps s t) {c g x : Nat} : Keeps s (t.endBlock c g x) := Keeps.ite h.setCore.handOut h

theorem Keeps.execVexit (h : Keeps s t) {core group : Nat} {w : ThreadWord} : Steps s (execVexit core group w t) :=
  (h.threadIssue (fun _ _ _ _ k => ((k.foldl fun _ _ k1 => k1.setThread).threadIssued).endBlock)).next

end Sys2Proof.Machine
end

section
/-! The queue and the bounds are kept. One arm per command of the opcode table, each a direct call of its meaning. -/

namespace Sys2Proof.Machine

set_option Elab.async false

variable {s t : State}

theorem Keeps.exec (h : Keeps s t) {i : Instr} : Steps s (exec i t) := by
  unfold Machine.exec
  split
  · exact h.execPowerGood
  · exact h.execPowerLoss
  · exact h.execBootStageComplete
  · exact h.execCoreReset
  · exact h.execPackageReset
  · exact h.execDrainEnd
  · exact h.execFirmwareUpdate
  · exact h.execFlashWriteComplete
  · exact h.execRollbackCommit
  · exact h.execOwnerKeyFuse
  · exact h.execKeySlotWrite
  · exact h.execAttestationNonce
  · exact h.execSupplySample
  · exact h.execRideThroughEnd
  · exact h.execSupplyStopTimeout
  · exact h.execBladeImbalance
  · exact h.execCoolantInletHigh
  · exact h.execGovernorSample
  · exact h.execTelemetryInvalid
  · exact h.execTelemetryValidRestore
  · exact h.execThermalThrottle
  · exact h.execThrottleStep
  · exact h.execClockRequestWrite
  · exact h.execMemoryThermalHalve
  · exact h.execMemoryRateRestore
  · exact h.execEnvelopeCommit
  · exact h.execBeatFrameReceive
  · exact h.execCadenceDelayMeasurement
  · exact h.execCadenceLock
  · exact h.execUpstreamTimeout
  · exact h.execHoldoverExpiry
  · exact h.execCadenceRoleWrite
  · exact h.execGatePeriodWrite
  · exact h.execGatePeriodChange
  · exact h.execBeat
  · exact h.execArbiterCommitNow
  · exact h.execArbiterCommitGate
  · exact h.execFlitCrcFail
  · exact h.execMma
  · exact h.execMatrixInstructionComplete
  · exact h.execSharedLogicFault
  · exact h.execMmode
  · exact h.execMmodeApply
  · exact h.execMmaRs
  · exact h.execMmaAg
  · exact h.execMmaAr
  · exact h.execMmaA2a
  · exact h.execMmaSend
  · exact h.execPartitionSwitch
  · exact h.execNop
  · exact h.execWait
  · exact h.execYield
  · exact h.execYieldTimeout
  · exact h.execVlaunch
  · exact h.execKernelComplete
  · exact h.execEndWork
  · exact h.execWorkComplete
  · exact h.execPublish
  · exact h.execBr
  · exact h.execBrz
  · exact h.execBrnz
  · exact h.execSadd
  · exact h.execSsub
  · exact h.execSmul
  · exact h.execSand
  · exact h.execSor
  · exact h.execSxor
  · exact h.execSshl
  · exact h.execSshr
  · exact h.execSsra
  · exact h.execSslt
  · exact h.execSsltu
  · exact h.execReservedOpcode
  · exact h.execThreadLoad
  · exact h.execVldI
  · exact h.execThreadStore
  · exact h.execVadd
  · exact h.execVmul
  · exact h.execVfma
  · exact h.execVdiv
  · exact h.execVsqrt
  · exact h.execVrcp
  · exact h.execVrsq
  · exact h.execVexp
  · exact h.execVlog
  · exact h.execVexp2
  · exact h.execVlog2
  · exact h.execVsin
  · exact h.execVcos
  · exact h.execVtanh
  · exact h.execVsigm
  · exact h.execVerf
  · exact h.execVgelu
  · exact h.execVredAdd
  · exact h.execVredMax
  · exact h.execVredMin
  · exact h.execVbcast
  · exact h.execVbar
  · exact h.execVexit
  · exact h.execRnormF
  · exact h.execRnormB
  · exact h.execRnormP
  · exact h.execRsmaxF
  · exact h.execRsmaxB
  · exact h.execRupdAm
  · exact h.execRupdMom
  · exact h.execRupdSgn
  · exact h.execRfold
  · exact h.execDmCopy
  · exact h.execDmXpose
  · exact h.execDmKeep
  · exact h.execDmGate
  · exact h.execAspush
  · exact h.execAspop
  · exact h.execDmFold
  · exact h.execLiftClaim
  · exact h.execLiftDrop
  · exact h.execCcAr
  · exact h.execCcRs
  · exact h.execCcAg
  · exact h.execCcA2a
  · exact h.execCcBcast
  · exact h.execCcRecv
  · exact h.execLiftMoveStart
  · exact h.execLiftMoveCommit
  · exact h.execLiftCommitAck
  · exact h.execBackgroundScrubRead
  · exact h.execHbmRecalibration
  · exact h.execDeepSelfRefresh
  · exact h.execTensorMapWrite
  · exact h.execVersionWriteResume
  · exact h.execTagWaitEnd
  · exact h.execTenantAdmit
  · exact h.execTenantRelease
  · exact h.execTenantReset
  · exact h.execTenantFree
  · exact h.execTenantZeroingDone
  · exact h.execImageLoad
  · exact h.execImageClear
  · exact h.execTailDoorbell
  · exact h.execDescriptorAccept
  · exact h.execDispatch
  · exact h.execDescriptorPlace
  · exact h.execCompletionPull
  · exact h.execCompletionHead
  · exact h.execQueueEnable
  · exact h.execQueueDisable
  · exact h.execWorkAbortComplete
  · exact h.execLaneFrameReceive
  · exact h.execEdgeLockUpdate
  · exact h.execHeaterRangeLoss
  · exact h.execToneCorrelation
  · exact h.execRelockComplete
  · exact h.execAlignmentLoss
  · exact h.execAlignmentReturn
  · exact h.execAlignmentLossDrop
  · exact h.execMarginWindowEnd
  · exact h.execFarEndReport
  · exact h.execFarEndReportTimeout
  · exact h.execSwapConfirm
  · exact h.execSwapAbandon
  · exact h.execSpareHoldbackEnd
  · exact h.execSpareTakeoverComplete
  · exact h.execWaxCalibrationEnd
  · exact h.execLaneTrainingEnd
  · exact h.execLaneBringupRetry
  · exact h.execIdentityFrame
  · exact h.execPortRemapWrite
  · exact h.execChipNumberWrite
  · exact h.execDrawingWrite
  · exact h.execSlalomArm
  · exact h.execPacketInject
  · exact h.execPacketForward
  · exact h.execPacketReceive
  · exact h.execAckReceive
  · exact h.execNakReceive
  · exact h.execResendTimeout
  · exact h.execPathAReturn
  · exact h.execStreamRelease
  · exact h.execHeldPacketTimeout
  · exact h.execCreditReturn
  · exact h.execCreditReturnTimer
  · exact h.execDepartureNotice
  · exact h.execRunSend
  · exact h.execRunReceive
  · exact h.execBufferPost
  · exact h.execRetryNotice
  · exact h.execCollectiveTokenDone
  · exact h.execFeedReceive
  · exact h.execCollectiveHold
  · exact h.execCollectiveHoldEnd
  · exact h.execHoldBeacon
  · exact h.execHoldBeaconReceive
  · exact h.execHoldSuspensionExpiry
  · exact h.execHoldLimitExpiry
  · exact h.execWithdrawalReceive
  · exact h.execCollectiveStall
  · exact h.execSketchBlockProject
  · exact h.execSketchCalibrationEnd
  · exact h.execStepClose
  · exact h.execVote
  · exact h.execVoteReceive
  · exact h.execCommitReceive
  · exact h.execAbortReceive
  · exact h.execLedgerAckReceive
  · exact h.execLedgerResend
  · exact h.execStateQueryReceive
  · exact h.execStateReportReceive
  · exact h.execAbortRequest
  · exact h.execAbortRequestReceive
  · exact h.execVoteTimeout
  · exact h.execJudgesReport
  · exact h.execLossWrite
  · exact h.execGradWrite
  · exact h.execStatsReset
  · exact h.execSlotCheckFail
  · exact h.execLedgerMembersWrite
  · exact h.execBeaconSend
  · exact h.execBeaconReceive
  · exact h.execSuspectTimeout
  · exact h.execProbeSend
  · exact h.execProbeReceive
  · exact h.execProbeAnswerReceive
  · exact h.execDeadVerdict
  · exact h.execLifeChangeReceive
  · exact h.execMemberRejoin
  · exact h.execFenceRequest
  · exact h.execMirrorTableWrite
  · exact h.execMirrorPopulate
  · exact h.execMirrorDigestReceive
  · exact h.execMirrorVerify
  · exact h.execFaultReport
  · exact h.execWiringFault
  · exact h.execWatchdogExpiry
  · exact h.execTestModeWrite
  · exact h.execPerturbStop
  · exact h.execMemoryInject
  · exact h.execRead
  · exact h.execDescribe
  · exact h.execWrite
  · exact h.execReadSeg
  · exact h.execWriteSeg
  · exact h.execClearIf
  · exact h.execSubscribeAdd
  · exact h.execSubscribeRemove
  · exact h.execSubscribeAcknowledge
  · exact h.execHello
  · exact h.execProof
  · exact h.execClose
  · exact h.execSessionClose
  · exact h.execHandshakeTimeout
  · exact h.execSessionIdleTimeout
  · exact h.execSegmentTimeout
  · exact h.execEventResend
  · exact h.execSubscriptionDelivery
  · exact h.execGdpPortChange
  · exact h.execObjectWrite
  · exact h.execEthLinkRetry
  · exact h.execEthFrameReceive
  · exact h.execNeighbourTimeout
  · exact h.execAddressChangeEffect
  · exact h.execPauseReceive
  · exact h.execQpTableWrite
  · exact h.execRdmaWrite
  · exact h.execRdmaRead
  · exact h.execRdmaSendReceive
  · exact h.execRoceAckReceive
  · exact h.execRoceRetryTimeout
  · exact h.execRoceRnrRetry
  · exact h.execCnpReceive
  · exact h.execCnpRateRecovery
  · exact h.execEthernetLinkDown
  · exact h.execPauseQuantaExpiry
  · exact h.execCompletionDelayEnd
  · exact h.execCumulativeAckTimer
  · exact h.execChunkLevelFinished

end Sys2Proof.Machine
end

section
/-! The queue and the bounds are kept. What a nanosecond brings when no command waits (log entry 1). -/

namespace Sys2Proof.Machine

set_option Elab.async false

variable {s t : State}

theorem Keeps.resumeResults (h : Keeps s t) : Keeps s (t.resumeResults) :=
  h.foldl fun _ _ k => k.withInst (fun _ => Keeps.ite k.finishWhole k)

theorem Keeps.tick (h : Keeps s t) : Keeps s (t.tick) :=
  Keeps.ite h (((((Keeps.ite h.setReg h.same).arbitrate).resumeHost).resumeWrites).resumeResults)

end Sys2Proof.Machine
end

section
/-! What every command and every step keeps of the queue and of the bounds of R657 and R659. -/

namespace Sys2Proof.Machine

/-- A step's next state keeps the bounds of a state with the same open handshakes and sessions. -/
theorem Keeps.bounds {s t : State} (h : Keeps s t) (bounds : SessionBounds s) : SessionBounds t :=
  ⟨h.handshakes.trans (max_le le_rfl bounds.1), h.sessions.trans (max_le le_rfl bounds.2)⟩

/-- What a step leads to keeps the state that its command is carried out on: the state with the rest of the queue. -/
theorem step_keeps {s t : State} (h : step s = .next t) : Keeps { s with pending := s.pending.tail } t := by
  unfold step at h
  split at h
  next empty =>
    cases h
    have rest : s.pending = s.pending.tail := by rw [empty, List.tail_nil]
    exact Keeps.tick ⟨rest, le_max_right _ _, le_max_right _ _⟩
  next i rest queue =>
    obtain ⟨u, eq, hu⟩ := (Keeps.refl { s with pending := rest }).exec (i := i)
    cases eq.symm.trans h
    rw [queue]
    exact hu

/-- Settles O53: every step keeps the bounds, for a handshake begins and a session opens only where fewer are open. -/
theorem sessionsStayBounded : Obligations.SessionsStayBounded :=
  fun _ _ bounds h => (step_keeps h).bounds bounds

/-- Settles O52: no operation of the model writes the queue, and a step runs its command on the queue's rest. -/
theorem stepTakesExactlyOneCommand : Obligations.StepTakesExactlyOneCommand := by
  refine ⟨fun i s t h => ?_, fun s t h => (step_keeps h).pending⟩
  obtain ⟨u, eq, hu⟩ := (Keeps.refl s).exec (i := i)
  cases eq.symm.trans h
  exact hu.pending

/-- Settles O51: each command's answer is a next state. -/
theorem everyCommandAnswersNext : Obligations.EveryCommandAnswersNext := by
  intro i s
  obtain ⟨t, eq, -⟩ := (Keeps.refl s).exec (i := i)
  exact ⟨t, eq⟩

end Sys2Proof.Machine
end

section
/-! Firmware images, key slots and attestation (R685 to R699). -/

namespace Sys2Proof.Machine

theorem RegsBut.setReg {ks : List Nat} {s t : State} (h : RegsBut ks s t) {k : Nat} (named : k ∈ ks) (v : Nat) :
    RegsBut ks s (t.setReg k v) :=
  fun j hj => (State.reg_setReg_other _ _ _ _ fun same : j = k => hj (same ▸ named)).trans (h j hj)

/-- A firmware update of the right is the update that its guard holds back. -/
theorem execFirmwareUpdate_may {s : State} {sess : Nat} {img : FwImage} (may : MayWrite s sess 0x1010 1) :
    exec (.firmwareUpdate sess img) s = .next (
      if (s.device ≠ devReady ∧ s.device ≠ devRecovery) ∨ s.dev.writing.isSome then s.setReg Obj.updateState 5
      else if s.dev.checkImage img = 0 then ({ s with dev := { s.dev with writing := some img } }).setReg Obj.updateState 1
      else s.setReg Obj.updateState (s.dev.checkImage img)) :=
  congrArg Host.Outcome.next (State.guarded_may _ may)

/-- No update is refused for its time in READY or RECOVERY while no write runs. -/
theorem State.updates {s : State} (device : s.device = devReady ∨ s.device = devRecovery) (idle : s.dev.writing = none) :
    ¬((s.device ≠ devReady ∧ s.device ≠ devRecovery) ∨ s.dev.writing.isSome = true) := by
  rintro (⟨notReady, notRecovery⟩ | writing)
  · exact device.elim notReady notRecovery
  · rw [idle] at writing
    exact absurd writing (by decide)

theorem State.resumeReset_none {s : State} (none : s.dev.resetWaiting = none) : s.resumeReset = s := by
  rw [State.resumeReset, none]

theorem State.keySlot_zero_fused {s : State} (fused : s.dev.ownerFused = true) : (s.keySlot 0).hash = s.dev.ownerHash :=
  if_pos fused

theorem State.keySlot_set {s : State} {slot j : Nat} {ks : KeySlot} (other : slot ≠ 0) :
    ({ s with dev := { s.dev with keySlots := Sparse.set emptySlot slot ks s.dev.keySlots } } : State).keySlot j =
      if j = slot then ks else s.keySlot j := by
  unfold State.keySlot
  by_cases zero : j = 0
  · subst zero
    exact (if_neg other.symm).symm
  · rw [if_neg zero, if_neg zero, Sparse.get_set]

/-- A hash of another key proves no owner signature. -/
theorem imgOwnerOk_other {i : FwImage} {hash : List Byte} (other : sha256 i.ownerKey ≠ hash) : imgOwnerOk i hash = false := by
  rw [imgOwnerOk, beq_false_of_ne other, Bool.false_and]

/-- A finished flash write takes its image; in RECOVERY the package starts it at stage 2 (R687, R689). -/
theorem execFlashWriteComplete_good {s : State} {img : FwImage} (writing : s.dev.writing = some img)
    (steady : s.dev.resetWaiting = none) :
    let s1 := ({ s with dev := { s.dev with flash := img, flashGood := true, writing := none } }).setReg Obj.updateState 2
    exec (.flashWriteComplete true) s =
      .next (if s1.device = devRecovery then ({ s1 with dev := { s1.dev with stages := [1] } }).enter devBoot else s1) := by
  have waits {u : State} (same : u.dev.resetWaiting = s.dev.resetWaiting) : u.resumeReset = u :=
    State.resumeReset_none (same.trans steady)
  intro s1
  change execFlashWriteComplete true s = _
  rw [execFlashWriteComplete, writing]
  refine congrArg Host.Outcome.next (waits ?_)
  split <;> rfl

theorem execFlashWriteComplete_failed {s : State} {img : FwImage} (writing : s.dev.writing = some img)
    (steady : s.dev.resetWaiting = none) :
    exec (.flashWriteComplete false) s = .next (({ s with
      drawn := s.drawn + 1, dev := { s.dev with flashGood := (s.draw 1).1 == 1, writing := none } }).setReg Obj.updateState 6) := by
  change execFlashWriteComplete false s = _
  rw [execFlashWriteComplete, writing]
  exact congrArg Host.Outcome.next (State.resumeReset_none steady)

theorem execRollbackCommit_may {s : State} {sess : Nat} {i : FwImage} (may : MayWrite s sess 0x1010 6)
    (running : s.dev.running = some i) : exec (.rollbackCommit sess 1) s =
      .next { s with dev := { s.dev with fuseCount := max s.dev.fuseCount i.securityVersion } } := by
  refine congrArg Host.Outcome.next ((State.guarded_may _ may).trans ?_)
  rw [running]
  by_cases rises : s.dev.fuseCount < i.securityVersion
  · rw [Nat.max_eq_right rises.le]
    exact if_pos ⟨rfl, rises⟩
  · rw [Nat.max_eq_left (Nat.le_of_not_lt rises)]
    exact if_neg fun h => rises h.2

theorem execOwnerKeyFuse_may {s : State} {sess : Nat} {hash : List Byte} (may : MayWrite s sess 0xB000 4) :
    exec (.ownerKeyFuse sess hash) s = .next (match s.dev.running with
      | some i => if !s.dev.ownerFused && imgOwnerOk i hash then
          ({ s with dev := { s.dev with ownerFused := true, ownerHash := hash } }).endSlotSessions 0 else s
      | none => s) :=
  congrArg Host.Outcome.next (State.guarded_may _ may)

theorem execKeySlotWrite_may {s : State} {sess slot : Nat} {ks : KeySlot} (may : MayWrite s sess 0xB010 (slot + 1)) :
    exec (.keySlotWrite sess slot ks) s = .next (if slot = 0 ∨ 31 < slot ∨ !slotOk ks ∨ s.keySlot slot = ks then s
      else ({ s with dev := { s.dev with keySlots := Sparse.set emptySlot slot ks s.dev.keySlots } }).endSlotSessions slot) :=
  congrArg Host.Outcome.next (State.guarded_may _ may)

/-- Settles O3: each command is its guard's effect, and a flash write's end resumes no reset that does not wait. -/
theorem firmwareImagesAndKeys : Obligations.FirmwareImagesAndKeys := by
  refine ⟨?_, ?_, ?_, ?_, ?_, ?_, ?_, ?_, ?_, ?_, fun _ _ => imgOwnerOk_other, fun _ => State.keySlot_zero_fused, ?_, ?_, ?_, ?_, ?_⟩
  case refine_1 =>
    intro s sess img may device idle passes
    rw [execFirmwareUpdate_may may, if_neg (State.updates device idle), if_pos passes]
    exact ⟨_, rfl, State.reg_setReg_same _ _ _, rfl, RegsBut.setReg (fun _ _ => rfl) (List.mem_singleton_self _) _, rfl⟩
  case refine_2 =>
    intro s sess img may device idle fails
    rw [execFirmwareUpdate_may may, if_neg (State.updates device idle), if_neg fails]
    exact ⟨_, rfl, State.reg_setReg_same _ _ _, (OnlyRegs.refl _ s).setReg (List.mem_singleton_self _) _⟩
  case refine_3 =>
    intro s sess img may refused
    rw [execFirmwareUpdate_may may, if_pos refused]
    exact ⟨_, rfl, State.reg_setReg_same _ _ _, (OnlyRegs.refl _ s).setReg (List.mem_singleton_self _) _⟩
  case refine_4 =>
    intro s img writing steady device
    rw [execFlashWriteComplete_good writing steady, if_neg]
    · exact ⟨_, rfl, State.reg_setReg_same _ _ _, RegsBut.setReg (fun _ _ => rfl) (List.mem_singleton_self _) _, rfl, rfl⟩
    · exact fun h => device ((State.reg_setReg_other _ _ _ _ (by decide)).symm.trans h)
  case refine_5 =>
    intro s img writing steady device
    rw [execFlashWriteComplete_good writing steady, if_pos]
    · have other : Obj.updateState ≠ Obj.deviceState := by decide
      refine ⟨_, rfl, ?_, State.reg_setReg_same _ _ _, ?_, rfl, rfl⟩
      · exact (State.reg_setReg_other _ _ _ _ other).trans (State.reg_setReg_same s Obj.updateState 2)
      · have updated : RegsBut [Obj.updateState, Obj.deviceState] s (s.setReg Obj.updateState 2) :=
          RegsBut.setReg (fun _ _ => rfl) (List.mem_cons_self ..) _
        exact RegsBut.setReg updated (List.mem_cons_of_mem _ (List.mem_singleton_self _)) _
    · exact (State.reg_setReg_other _ _ _ _ (by decide)).trans device
  case refine_6 =>
    intro s img writing steady
    exact ⟨_, _, execFlashWriteComplete_failed writing steady, State.reg_setReg_same _ _ _,
      RegsBut.setReg (fun _ _ => rfl) (List.mem_singleton_self _) _, rfl, rfl⟩
  case refine_7 =>
    intro s ok idle
    change execFlashWriteComplete ok s = _
    rw [execFlashWriteComplete, idle]
  case refine_8 => exact fun s sess i may running => execRollbackCommit_may may running
  case refine_9 =>
    intro s sess hash i may running unfused
    rw [execOwnerKeyFuse_may may, running, unfused]
    rfl
  case refine_10 =>
    intro s sess hash may fused
    rw [execOwnerKeyFuse_may may, fused]
    cases s.dev.running <;> rfl
  case refine_11 =>
    intro s sess slot ks may low high good changed
    have sound : ¬(slot = 0 ∨ 31 < slot ∨ (!slotOk ks) = true ∨ s.keySlot slot = ks) := by
      rw [good]
      rintro (h | h | h | h)
      exacts [absurd low (by omega), absurd high (by omega), absurd h (by decide), changed h]
    rw [execKeySlotWrite_may may, if_neg sound]
    refine ⟨_, rfl, (State.keySlot_set (by omega)).trans (if_pos rfl), fun j other => ?_, rfl, rfl⟩
    exact (State.keySlot_set (by omega)).trans (if_neg other)
  case refine_12 =>
    intro s sess slot may
    rw [execKeySlotWrite_may may, if_pos (Or.inr (Or.inr (Or.inr rfl)))]
  case refine_13 =>
    intro s sess slot ks unsound may
    rw [execKeySlotWrite_may may, if_pos]
    rcases unsound with h | h | h
    exacts [Or.inl h, Or.inr (Or.inl h), Or.inr (Or.inr (Or.inl (by rw [h]; rfl)))]
  case refine_14 =>
    intro s sess nonce x session right length
    refine ⟨(s.draw 256).1, congrArg Host.Outcome.next ((State.guarded_may _ ⟨x, session, right⟩).trans ?_)⟩
    rw [if_neg (not_not.2 length)]
    have kept : (s.draw 256).2.session? sess = some x := session
    change (match (s.draw 256).2.session? sess with | some x => _ | none => _) = _
    rw [kept]
    rfl
  case refine_15 =>
    intro s sess nonce may length
    exact congrArg Host.Outcome.next ((State.guarded_may _ may).trans (if_pos length))

end Sys2Proof.Machine
end

section
/-! Ethernet frames, neighbours, echoes and pauses (R706 to R713, R720, R729). -/

namespace Sys2Proof.Machine

theorem State.transmitAll_sent (s : State) (ms : List EthMsg) : EthAllSent ms s (s.transmitAll ms) := by
  induction ms generalizing s with
  | nil => rfl
  | cons m ms ih => exact ⟨_, s.transmit_ethSent m, ih _⟩

theorem State.learn_learned (s : State) (net peer : Nat) : Learned s (s.learn net peer) net peer := State.transmitAll_sent _ _

theorem State.resume_resumed (s : State) (port prio : Nat) : Resumed s (s.resume port prio) port prio := State.transmitAll_sent _ _

theorem State.discard_counted (s : State) (port : Nat) : Counted 64 (Obj.discardCount port) s (s.discard port) := s.count_counted 64 _

theorem State.answerEcho_met (s : State) (port target : Nat) : EchoMet s (s.answerEcho port target) port target := by
  unfold EchoMet State.answerEcho
  dsimp only
  generalize (if (Sparse.get (0, 0) port s.eth.echoes).1 = s.up / 1000000000 then (Sparse.get (0, 0) port s.eth.echoes).2 else 0) = used
  simp only [Bool.or_eq_true, Bool.not_eq_true', decide_eq_true_eq, ← Bool.not_eq_true, List.contains_iff_mem]
  refine ⟨fun refused => ?_, fun own room => ?_⟩
  · rw [if_pos (show _ ∨ echoesPerSecond ≤ used from refused)]
    exact s.discard_counted port
  · rw [if_neg (show ¬(_ ∨ echoesPerSecond ≤ used) from not_or.2 ⟨not_not.2 own, Nat.not_le.2 room⟩)]
    exact State.transmit_ethSent _ _

/-- A frame pauses its sender where the buffer fills, and lets it go where the buffer empties (R713). -/
theorem State.pauseFor_judged (s : State) (port prio fill : Nat) : PauseJudged s (s.pauseFor port prio fill) port prio fill := by
  unfold PauseJudged State.pauseFor
  rw [State.lossless]
  dsimp only
  cases bit (s.reg (Obj.pfcMask (port / 4))) prio with
  | false => exact ⟨fun _ => rfl, nofun⟩
  | true =>
    refine ⟨nofun, fun _ => ?_⟩
    by_cases on : (port, prio) ∈ s.eth.pausing
    · simp only [List.contains_iff_mem.2 on, Bool.not_true, Bool.false_and, Bool.true_and, Bool.false_eq_true, if_false, decide_eq_true_eq]
      exact ⟨absurd on, absurd on, fun _ full => if_neg (Nat.not_lt.2 full), fun _ low => if_pos low⟩
    · have off : s.eth.pausing.contains (port, prio) = false := Bool.not_eq_true _ ▸ fun h => on (List.contains_iff_mem.1 h)
      simp only [off, Bool.not_true, Bool.not_false, Bool.false_and, Bool.true_and, Bool.false_eq_true, if_false, decide_eq_true_eq]
      exact ⟨fun _ low => if_neg (Nat.not_le.2 low), fun _ full => ⟨_, State.count_counted _ 64 _, if_pos full⟩, fun h => absurd h on,
        fun h => absurd h on⟩

/-! Frames that a port takes -/

section
variable {s : State} {p : Nat} (up : s.ethUp p = true)
include up

/-- A frame of a port that is up is taken by its kind. -/
theorem ethFrameReceive_up (tag : EthTag) (k : EthKind) : exec (.ethFrameReceive p tag k) s = .next (
    if k = .uncorrected then s.count 64 (Obj.fecUncorrected p)
    else if k = .globalPause then s
    else if tag.vlan ≠ s.reg (Obj.vlanId (p / 4)) then s.discard p
    else match tag.fill with
      | none => s.discard p
      | some n => (s.pauseFor p tag.priority n).takeEth p k) := by
  change execEthFrameReceive p tag k s = _
  rw [execEthFrameReceive, up]
  rfl

theorem ethFrameReceive_taken (prio n : Nat) {k : EthKind} (pause : k ≠ .globalPause) (whole : k ≠ .uncorrected) :
    exec (.ethFrameReceive p ⟨s.reg (Obj.vlanId (p / 4)), prio, some n⟩ k) s = .next ((s.pauseFor p prio n).takeEth p k) := by
  rw [ethFrameReceive_up up, if_neg whole, if_neg pause, if_neg (not_not.2 rfl)]

theorem ethFrameReceive_discarded {tag : EthTag} {k : EthKind} (pause : k ≠ .globalPause) (whole : k ≠ .uncorrected)
    (foreign : tag.vlan ≠ s.reg (Obj.vlanId (p / 4)) ∨ tag.fill = none) :
    exec (.ethFrameReceive p tag k) s = .next (s.discard p) := by
  rw [ethFrameReceive_up up, if_neg whole, if_neg pause]
  by_cases vlan : tag.vlan = s.reg (Obj.vlanId (p / 4))
  · rw [if_neg (not_not.2 vlan), foreign.resolve_left (not_not.2 vlan)]
  · rw [if_pos vlan]

end

/-! The neighbour cache (R710) -/

theorem withNeighbour_mem (l : List (Nat × Nat)) (net peer : Nat) : (net, peer) ∈ withNeighbour l net peer :=
  List.mem_append_right _ (List.mem_singleton_self _)

/-- Taking an entry out of a list leaves what a filter that drops it keeps. -/
theorem List.filter_erase_of_dropped {α : Type} [BEq α] [LawfulBEq α] {l : List α} {a : α} {f : α → Bool} (dropped : f a = false) :
    (l.erase a).filter f = l.filter f := by
  induction l with
  | nil => rfl
  | cons b l ih =>
    by_cases same : b = a
    · subst same
      rw [List.erase_cons_head, List.filter_cons_of_neg (by rw [dropped]; decide)]
    · rw [List.erase_cons_tail fun eq => same (eq_of_beq eq), List.filter_cons, List.filter_cons, ih]

/-- Taking an entry that a filter keeps out of a list takes one off what the filter keeps. -/
theorem List.length_filter_erase_of_kept {α : Type} [BEq α] [LawfulBEq α] {l : List α} {a : α} {f : α → Bool} (held : a ∈ l) (kept : f a = true) :
    ((l.erase a).filter f).length + 1 = (l.filter f).length := by
  have perm := (List.perm_cons_erase held).filter f
  rw [perm.length_eq, List.filter_cons_of_pos kept, List.length_cons]

theorem withNeighbour_other (l : List (Nat × Nat)) {net q : Nat} (peer : Nat) (other : q ≠ net) :
    (withNeighbour l net peer).filter (fun p => p.1 == q) = l.filter fun p => p.1 == q := by
  have rest : (l.filter fun p => !(p.1 == net && p.2 == peer)).filter (fun p => p.1 == q) = l.filter fun p => p.1 == q := by
    rw [List.filter_filter]
    refine List.filter_congr fun p _ => ?_
    by_cases here : p.1 = q
    · rw [here, beq_false_of_ne other, Bool.false_and, Bool.not_false, Bool.and_true]
    · rw [beq_false_of_ne here, Bool.false_and]
  unfold withNeighbour
  dsimp only
  rw [List.filter_append, List.filter_cons_of_neg (by simpa using Ne.symm other), List.filter_nil, List.append_nil]
  split
  · split
    case h_1 p found =>
      have mine : p.1 = net := by simpa using List.find?_some found
      exact (List.filter_erase_of_dropped (f := fun p : Nat × Nat => p.1 == q) (beq_false_of_ne (mine ▸ other.symm))).trans rest
    case h_2 => exact rest
  · exact rest

/-- A network's entries stay within the room of its cache. -/
theorem withNeighbour_room {l : List (Nat × Nat)} {net : Nat} (peer : Nat) (room : (l.filter fun p => p.1 == net).length ≤ 4096) :
    ((withNeighbour l net peer).filter fun p => p.1 == net).length ≤ 4096 := by
  have rest : ((l.filter fun p => !(p.1 == net && p.2 == peer)).filter fun p => p.1 == net).length ≤ 4096 := by
    rw [List.filter_comm]
    exact (List.length_filter_le _ _).trans room
  unfold withNeighbour
  dsimp only
  rw [List.filter_append, List.length_append, List.filter_cons_of_pos (by simp), List.filter_nil, List.length_singleton]
  split
  case isTrue full =>
    rw [decide_eq_true_eq, neighbourRoom] at full
    split
    case h_1 p found =>
      have one := List.length_filter_erase_of_kept (f := fun p => p.1 == net) (List.mem_of_find?_eq_some found)
        (by simpa using List.find?_some found)
      omega
    case h_2 absent =>
      have empty := List.filter_eq_nil_iff.2 (List.find?_eq_none.1 absent)
      rw [empty] at full
      exact absurd full (by decide)
  case isFalse room =>
    rw [decide_eq_true_eq, neighbourRoom] at room
    omega

/-! Addresses and links -/

theorem addressChangeEffect_other {s : State} {o : ObjRef} (other : objKey o ≠ Obj.gdpUdpPort) :
    exec (.addressChangeEffect o) s =
      .next { s with eth := { s.eth with oldAddr := s.eth.oldAddr.filter fun p => p.1 != objKey o } } := by
  refine congrArg Host.Outcome.next ?_
  have same : (s.eth.oldAddr.filter fun p => p.1 != objKey o || p.1 == Obj.gdpUdpPort) = s.eth.oldAddr.filter fun p => p.1 != objKey o := by
    refine List.filter_congr fun p _ => ?_
    by_cases here : p.1 = objKey o
    · rw [here, beq_false_of_ne other, Bool.or_false]
    · rw [bne_iff_ne.2 here, Bool.true_or]
  rw [same]

theorem addressChangeEffect_port {s : State} {o : ObjRef} (port : objKey o = Obj.gdpUdpPort) :
    exec (.addressChangeEffect o) s = .next s := by
  have same : (s.eth.oldAddr.filter fun p => p.1 != objKey o || p.1 == Obj.gdpUdpPort) = s.eth.oldAddr := by
    refine List.filter_eq_self.2 fun p _ => ?_
    rw [port]
    cases h : p.1 == Obj.gdpUdpPort with
    | true => exact Bool.or_true _
    | false => rw [bne, h]; rfl
  change Host.Outcome.next _ = _
  rw [same]

/-- An address is in force as written once no old one is kept for it. -/
theorem State.inForce_dropped (s : State) (a k : Nat) :
    ({ s with eth := { s.eth with oldAddr := s.eth.oldAddr.filter fun p => p.1 != a } } : State).inForce k =
      if k = a then s.reg k else s.inForce k := by
  have found : ((s.eth.oldAddr.filter fun p => p.1 != a).find? fun p => p.1 = k) =
      if k = a then none else s.eth.oldAddr.find? fun p => p.1 = k := by
    split
    next same =>
      refine List.find?_eq_none.2 fun p hp => ?_
      rw [decide_eq_true_eq, same]
      exact bne_iff_ne.1 (List.mem_filter.1 hp).2
    next other =>
      rw [List.find?_filter]
      refine congrArg (fun f => List.find? f s.eth.oldAddr) (funext fun p => decide_eq_decide.2 ?_)
      rw [decide_eq_true_eq, and_iff_right_iff_imp]
      exact fun here => bne_iff_ne.2 (here ▸ other)
  unfold State.inForce
  by_cases same : k = a
  · rw [found, if_pos same, if_pos same]
    rfl
  · rw [found, if_neg same, if_neg same]
    rfl

theorem ethernetLinkDown_counts {s : State} {p : Nat} (up : s.ethUp p = true) :
    exec (.ethernetLinkDown p) s = .next ((s.setReg (Obj.linkState p) 0).count 32 (Obj.linkDownCount p)) :=
  congrArg Host.Outcome.next (if_pos up)

theorem Obj.linkState_ne_linkDownCount (p : Nat) : Obj.linkState p ≠ Obj.linkDownCount p := by
  simp only [Obj.linkState, Obj.linkDownCount, obj]; omega

/-- A pause of a lossless priority of a port that is up is counted, and begins, goes on or ends. -/
theorem pauseReceive_lossless {s : State} {p pr q : Nat} (up : s.ethUp p = true) (lossless : bit (s.reg (Obj.pfcMask (p / 4))) pr = true) :
    let u := s.count 64 (Obj.pauseReceived p)
    exec (.pauseReceive p pr q) s = .next (if q = 0 then u.resume p pr else if u.eth.paused.contains (p, pr) then u
      else { u with eth := { u.eth with paused := u.eth.paused ++ [(p, pr)] } }) := by
  change execPauseReceive p pr q s = _
  rw [execPauseReceive, up, lossless]
  rfl

theorem pauseReceive_ignored {s : State} {p pr : Nat} (q : Nat) (lossy : s.ethUp p = false ∨ bit (s.reg (Obj.pfcMask (p / 4))) pr = false) :
    exec (.pauseReceive p pr q) s = .next s := by
  refine congrArg Host.Outcome.next (if_pos ?_)
  rcases lossy with h | h
  · rw [h]; rfl
  · rw [h, Bool.not_false, Bool.or_true]

/-- Settles O48: each kind of frame meets its operation, and the neighbour cache gives up its oldest entry when it is full. -/
theorem ethernetFramesAndPauses : Obligations.EthernetFramesAndPauses := by
  refine ⟨?_, ?_, ?_, ?_, ?_, ?_, fun l net peer => ⟨withNeighbour_mem l net peer, fun q => withNeighbour_other l peer,
    withNeighbour_room peer⟩, fun _ _ _ => rfl, ?_, fun _ _ => addressChangeEffect_port, fun _ _ _ => pauseReceive_ignored, ?_,
    fun s p pr => ⟨_, rfl, s.resume_resumed p pr⟩, State.transmit_ethSent⟩
  case refine_1 =>
    intro s p ok
    refine ⟨_, rfl, fun powered down retried => ?_, fun stays => if_neg ?_⟩
    · rw [powered, down, retried]
      exact ⟨s.onlyRegs_setReg _ 1, State.reg_setReg_same _ _ _⟩
    · rcases stays with h | h | h
      · rw [h]; exact nofun
      · rw [h, Bool.not_true, Bool.and_false]; exact nofun
      · rw [h, Bool.and_false]; exact nofun
  case refine_2 =>
    intro s p _
    cases up : s.ethUp p with
    | false =>
      refine ⟨s, congrArg Host.Outcome.next (if_neg ?_), fun _ => rfl, nofun⟩
      rw [up]; exact nofun
    | true =>
      have other := Obj.linkState_ne_linkDownCount p
      refine ⟨_, ethernetLinkDown_counts up, nofun, fun _ => ⟨?_, ?_, ?_⟩⟩
      · exact ((OnlyRegs.refl _ s).setReg (List.mem_cons_self ..) 0).setReg (List.mem_cons_of_mem _ (List.mem_singleton_self _)) _
      · exact (State.reg_setReg_other _ _ _ _ other).trans (State.reg_setReg_same _ _ _)
      · exact (State.reg_setReg_same _ _ _).trans
          (congrArg (fun n => (n + 1) % 2 ^ 32) (State.reg_setReg_other _ _ _ _ other.symm))
  case refine_3 =>
    intro s p vlan prio fill k down
    refine congrArg Host.Outcome.next (if_pos ?_)
    rw [down]; rfl
  case refine_4 =>
    intro s p vlan prio fill up
    exact ⟨ethFrameReceive_up up _ _, _, ethFrameReceive_up up _ _, s.count_counted 64 _⟩
  case refine_5 =>
    intro s p vlan prio fill k up pause whole foreign
    exact ⟨_, ethFrameReceive_discarded up pause whole foreign, s.discard_counted p⟩
  case refine_6 =>
    intro s p prio n up
    have taken (k : EthKind) (pause : k ≠ .globalPause) (whole : k ≠ .uncorrected) := ethFrameReceive_taken up prio n pause whole
    refine ⟨_, s.pauseFor_judged p prio n, fun peer target own => ?_, fun peer target foreign => ?_, fun peer target => ?_,
      fun target => ?_, fun q served => ?_, fun q gdp dispatch => ?_, ?_⟩
    · exact ⟨_, _, (taken (.neighbour true peer target) nofun nofun).trans (congrArg Host.Outcome.next (if_pos (List.contains_iff_mem.2 own))),
        State.learn_learned _ _ peer, State.transmit_ethSent _ _⟩
    · exact (taken (.neighbour true peer target) nofun nofun).trans (congrArg Host.Outcome.next (if_neg fun h => foreign (List.contains_iff_mem.1 h)))
    · exact ⟨_, taken (.neighbour false peer target) nofun nofun, State.learn_learned _ _ peer⟩
    · exact ⟨_, taken (.echo target) nofun nofun, State.answerEcho_met _ p target⟩
    · exact (taken (.udp q) nofun nofun).trans (congrArg Host.Outcome.next (if_pos served))
    · exact ⟨_, (taken (.udp q) nofun nofun).trans (congrArg Host.Outcome.next (if_neg (not_or.2 ⟨gdp, dispatch⟩))), State.discard_counted _ p⟩
    · exact ⟨_, taken .other nofun nofun, State.discard_counted _ p⟩
  case refine_7 =>
    intro s o other
    refine ⟨_, addressChangeEffect_other other, (s.inForce_dropped _ _).trans (if_pos rfl), fun k hk => ?_, rfl⟩
    exact (s.inForce_dropped _ k).trans (if_neg hk)
  case refine_8 =>
    intro s p pr q up lossless
    refine ⟨s.count 64 (Obj.pauseReceived p), _, pauseReceive_lossless up lossless, s.count_counted 64 _, fun ends => ?_, fun begins => ?_⟩
    · rw [if_pos ends]
      exact State.resume_resumed _ p pr
    · rw [if_neg begins]
      split
      next paused => exact ⟨List.contains_iff_mem.1 paused, fun _ _ => Iff.rfl, rfl⟩
      next =>
        refine ⟨List.mem_append_right _ (List.mem_singleton_self _), fun k other => ?_, rfl⟩
        rw [List.mem_append, List.mem_singleton]
        exact or_iff_left other

end Sys2Proof.Machine
end

section
/-! Congestion (R720). -/

namespace Sys2Proof.Machine

theorem State.congested_idle {s : State} {q : Nat} (idle : (s.qp q).spec.state ≠ 1) : s.congested q = s := if_pos (Or.inl idle)

theorem State.congested_recent {s : State} {q t0 : Nat} (last : (s.qp q).lastCnp = some t0) (recent : s.up < t0 + 50000) :
    s.congested q = s := by
  refine if_pos (Or.inr ?_)
  rw [last]
  exact decide_eq_true recent

theorem State.congested_notifies {s : State} {q : Nat} (ready : (s.qp q).spec.state = 1)
    (due : ∀ t0, (s.qp q).lastCnp = some t0 → t0 + 50000 ≤ s.up) :
    s.congested q = (s.setQp q { s.qp q with lastCnp := some s.up }).sendRdma q (.cnp (s.qp q).port q) := by
  refine if_neg (not_or.2 ⟨not_not.2 ready, ?_⟩)
  cases last : (s.qp q).lastCnp with
  | none => exact nofun
  | some t0 => exact fun recent => absurd (of_decide_eq_true recent) (Nat.not_lt.2 (due t0 last))

/-- Settles O60: a CE mark brings a notification where none went out in 50 µs, and a notification and a recovery set the rate. -/
theorem congestionControlsRates : Obligations.CongestionControlsRates := by
  refine ⟨?_,
    fun s q ready => ⟨_, congrArg Host.Outcome.next (if_pos ready), s.setQp_qpSet q _⟩,
    fun s q ready => ⟨_, congrArg Host.Outcome.next (if_pos ready), s.setQp_qpSet q _⟩,
    fun s q idle => ⟨congrArg Host.Outcome.next (if_neg idle), congrArg Host.Outcome.next (if_neg idle)⟩⟩
  intro s p prio n q up
  have taken (ce : Bool) := ethFrameReceive_taken up prio n (k := .roce q ce) nofun nofun
  refine ⟨_, s.pauseFor_judged p prio n, taken false, fun idle => ?_, fun t0 last recent => ?_, fun ready due => ?_⟩
  · exact (taken true).trans (congrArg Host.Outcome.next (State.congested_idle idle))
  · exact (taken true).trans (congrArg Host.Outcome.next (State.congested_recent last recent))
  · refine ⟨_, _, (taken true).trans (congrArg Host.Outcome.next (State.congested_notifies ready due)), State.setQp_qpSet _ q _, ?_⟩
    exact State.sendRdma_rdmaSent _ q _

end Sys2Proof.Machine
end

section
/-! Shard mirrors (R600 to R606): the table, pairing, population and verification. -/

namespace Sys2Proof.Machine

theorem State.setTenant_tenantSet (s : State) (n : Nat) (v : Tenant) : TenantSet s (s.setTenant n v) n v :=
  ⟨Sparse.get_set_same _ _ _ _, fun _ other => Sparse.get_set_other _ _ _ _ _ _ other, rfl⟩

theorem State.settlePopulation_settled (s : State) (n : Nat) : PopulationSettled s (s.settlePopulation n) n := s.setTenant_tenantSet n _

/-- A table's generation rises or not. -/
theorem State.bump_or_same (s : State) (b : Bool) (k : Nat) :
    (if b then s.bump k else s) = { s with generations := (if b then s.bump k else s).generations } := by
  cases b <;> rfl

/-- A mirror entry changes, with the table's generation where its state is another. -/
theorem State.setMirror_eq (s : State) (n i : Nat) (m : Mirror) : ∃ g, s.setMirror n i m =
    ({ s with generations := g }).setTenant n { s.tenant n with mirrors := (s.tenant n).mirrors.set i m } :=
  ⟨_, congrArg (fun t : State => t.setTenant n _) (s.bump_or_same _ _)⟩

theorem State.setMirror_mirrorSet (s : State) (n i : Nat) (m : Mirror) : MirrorSet s (s.setMirror n i m) n i m := by
  obtain ⟨g, eq⟩ := s.setMirror_eq n i m
  rw [eq]
  exact ⟨Sparse.get_set_same _ _ _ _, fun k other => State.tenant_setTenant_other s n k _ other, rfl⟩

/-- The message with which an entry asks its buddy to pair, or answers (R601). -/
def State.pairMsg (s : State) (n : Nat) (answer : Bool) (m : Mirror) (e : Entry) : Msg :=
  .mirrorPair m.buddy m.buddyBase m.localBase m.role e.versioned answer (s.reg (Obj.versionReserve n)) e.homeTier e.lines m.tensorId

theorem State.askPair_some {s : State} {n : Nat} {m : Mirror} {e : Entry} (answer : Bool) (entry : s.entryAt n m.localBase = some e) :
    s.askPair n answer m = s.emit (s.pairMsg n answer m e) := by
  rw [State.askPair, entry]
  rfl

theorem State.askPair_none {s : State} {n : Nat} {m : Mirror} (answer : Bool) (entry : s.entryAt n m.localBase = none) :
    s.askPair n answer m = s := by
  rw [State.askPair, entry]

/-- The entries of a table ask their buddies in turn. -/
theorem State.askPairs (s : State) (n : Nat) (ms : List Mirror) :
    ms.foldl (fun v m => v.askPair n false m) s =
      { s with out := s.out ++ ms.filterMap fun m => (s.entryAt n m.localBase).map (s.pairMsg n false m) } := by
  induction ms generalizing s with
  | nil => rw [List.filterMap_nil, List.append_nil]; rfl
  | cons m ms ih =>
    rw [List.foldl_cons]
    cases entry : s.entryAt n m.localBase with
    | none =>
      rw [State.askPair_none false entry, ih, List.filterMap_cons, entry]
      rfl
    | some e =>
      rw [State.askPair_some false entry, ih, List.filterMap_cons, entry]
      exact congrArg (fun o => { s with out := o }) (List.append_assoc ..)

section
variable {s : State} {sess n : Nat}

theorem mirrorTableWrite_refused {es : List MirrorSpec} (may : MayWrite s sess (0x7050 + n) 1)
    (bad : (s.tenant n).steps ≠ [] ∨ 4096 < es.length ∨ (∃ m ∈ es, s.entryAt n m.localBase = none) ∨
      (∃ m ∈ es, m.role = 1 ∧ ∃ k ∈ (s.tenant n).mirrors, k.localBase = m.localBase ∧ k.role = 2 ∧ k.state ≠ 3 ∧ k.state ≠ 4)) :
    exec (.mirrorTableWrite sess n es) s = .next s := by
  refine congrArg Host.Outcome.next ((State.guarded_may _ may).trans (if_pos ?_))
  simp only [Bool.or_eq_true, Bool.not_eq_true', List.isEmpty_eq_false_iff, decide_eq_true_eq, List.any_eq_true,
    Option.isNone_iff_eq_none, Tenant.badPromotion, Bool.and_eq_true, beq_iff_eq, bne_iff_ne, and_assoc, or_assoc]
  exact bad

theorem mirrorTableWrite_taken {es : List MirrorSpec} (may : MayWrite s sess (0x7050 + n) 1) (closed : (s.tenant n).steps = [])
    (room : es.length ≤ 4096) (known : ∀ m ∈ es, (s.entryAt n m.localBase).isSome = true)
    (sound : ∀ m ∈ es, ∀ k ∈ (s.tenant n).mirrors, ¬ (m.role = 1 ∧ k.localBase = m.localBase ∧ k.role = 2 ∧ k.state ≠ 3 ∧ k.state ≠ 4)) :
    exec (.mirrorTableWrite sess n es) s = .next ((es.map MirrorSpec.toMirror).foldl (fun v m => v.askPair n false m)
      ((if es.map MirrorSpec.toMirror = (s.tenant n).mirrors then s else s.bump (Obj.mirrorTable n)).setTenant n
        { s.tenant n with mirrors := es.map MirrorSpec.toMirror, populating := false })) := by
  refine congrArg Host.Outcome.next ((State.guarded_may _ may).trans (if_neg ?_))
  simp only [Bool.or_eq_true, Bool.not_eq_true', List.isEmpty_eq_false_iff, decide_eq_true_eq, List.any_eq_true,
    Option.isNone_iff_eq_none, Tenant.badPromotion, Bool.and_eq_true, beq_iff_eq, bne_iff_ne, and_assoc, or_assoc]
  rintro (h | h | ⟨m, hm, h⟩ | ⟨m, hm, role, k, hk, h⟩)
  · exact h closed
  · omega
  · exact absurd (known m hm) (by rw [h]; decide)
  · exact sound m hm k hk ⟨role, h⟩

end

theorem rolesPair_iff (a b : Nat) : rolesPair a b = true ↔
    (a = 1 ∧ b = 2) ∨ (a = 2 ∧ b = 1) ∨ (a = 3 ∧ b = 4) ∨ (a = 4 ∧ b = 3) := by
  simp only [rolesPair, Bool.or_eq_true, Bool.and_eq_true, beq_iff_eq, or_assoc]

theorem State.pairState_none {s : State} {n : Nat} {m : Mirror} {a : PairAsk} (entry : s.entryAt n m.localBase = none) :
    s.pairState n m a = 6 := by
  rw [State.pairState, entry]

theorem State.pairState_some {s : State} {n : Nat} {m : Mirror} {a : PairAsk} {e : Entry} (entry : s.entryAt n m.localBase = some e) :
    (PairSound s n m e a → s.pairState n m a = if 3 ≤ m.role then 3 else 1) ∧ (¬ PairSound s n m e a → s.pairState n m a = 6) := by
  have sound : PairSound s n m e a ↔
      (rolesPair m.role a.role && a.lines == e.lines && a.versioned == e.versioned && a.reserve == s.reg (Obj.versionReserve n) &&
        a.tensorId == m.tensorId && ((m.role != 2 || e.homeTier == tierDeep) && (a.role != 2 || a.tier == tierDeep))) = true := by
    simp only [PairSound, Bool.and_eq_true, Bool.or_eq_true, bne_iff_ne, beq_iff_eq, rolesPair_iff, and_assoc, imp_iff_not_or, ne_eq]
  rw [State.pairState, entry]
  exact ⟨fun h => if_pos (sound.1 h), fun h => if_neg fun all => h (sound.2 all)⟩

/-- An entry that a buddy's message meets takes its state, a request is answered, and a break is told (R601). -/
theorem State.pairOne_meets {s : State} {n i : Nat} {a : PairAsk} {m : Mirror} (meets : m.meets a = true) :
    let v := (s.setMirror n i { m with state := s.pairState n m a, retried := false, verifying := false }).settlePopulation n
    let w := if a.answer then v else v.askPair n true m
    s.pairOne n a i m = if s.pairState n m a = 6 then w.mirrorEvent n 16 m.buddy m.localBase else w := if_pos meets

theorem State.mayPopulate_iff (s : State) (n v : Nat) (o : Bool) : s.mayPopulate n v o = true ↔
    (s.tenant n).state = 1 ∧ (s.tenant n).steps = [] ∧ o = false ∧ v = s.curVersion n := by
  simp only [State.mayPopulate, Bool.and_eq_true, beq_iff_eq, List.isEmpty_iff, Bool.not_eq_true', and_assoc]

theorem State.copyShard_copied (s : State) (n i : Nat) (m : Mirror) : ShardCopied s (s.copyShard n i m) n i m := by
  have set := s.setMirror_mirrorSet n i m
  have regs := congrArg State.regs set.2.2
  refine ⟨_, _, set, rfl, State.onlyRegs_setReg _ _ _, (State.reg_setReg_same _ _ _).trans ?_⟩
  have reg : ((s.setMirror n i m).emit (.mirrorCopy m.buddy m.buddyBase (s.shardBytes n m.localBase))).reg (Obj.populateBytes n) =
      s.reg (Obj.populateBytes n) := congrArg (Sparse.get _ _) regs
  rw [reg]

/-- Every primary entry that waits for its population is copied in turn. -/
theorem State.copyShards_copied (s : State) (n : Nat) (ps : List (Nat × Mirror)) : ShardsCopied n ps s (ps.foldl (fun u p =>
    if p.2.role = 1 ∧ p.2.state = 1 then u.copyShard n p.1 { p.2 with state := 2, retried := false } else u) s) := by
  induction ps generalizing s with
  | nil => rfl
  | cons p ps ih =>
    rw [ShardsCopied, List.foldl_cons]
    by_cases waits : p.2.role = 1 ∧ p.2.state = 1
    · rw [if_pos waits, if_pos waits]
      exact ⟨_, s.copyShard_copied n p.1 _, ih _⟩
    · rw [if_neg waits, if_neg waits]
      exact ih s

/-- Every live pair's digest is sent in turn. -/
theorem State.sendDigests_sent (s : State) (n : Nat) (ps : List (Nat × Mirror)) : DigestsSent n ps s (ps.foldl (fun u p =>
    if p.2.role ≤ 2 ∧ p.2.state = 3 then (u.setMirror n p.1 { p.2 with verifying := true }).emit
      (.mirrorDigest p.2.buddy p.2.buddyBase (sha256 (u.shardBytes n p.2.localBase))) else u) s) := by
  induction ps generalizing s with
  | nil => rfl
  | cons p ps ih =>
    rw [DigestsSent, List.foldl_cons]
    by_cases live : p.2.role ≤ 2 ∧ p.2.state = 3
    · rw [if_pos live, if_pos live]
      exact ⟨_, _, s.setMirror_mirrorSet n p.1 _, rfl, ih _⟩
    · rw [if_neg live, if_neg live]
      exact ih s

theorem State.digestSame_live (s : State) (n i : Nat) (m : Mirror) : ∃ u, MirrorSet s u n i { m with state := 3, verifying := false } ∧
    s.digestSame n i m = if m.state = 3 then u else u.mirrorEvent n 14 m.buddy m.localBase :=
  ⟨_, s.setMirror_mirrorSet n i _, rfl⟩

theorem State.digestDiffers_differs (s : State) (n i : Nat) (m : Mirror) : DigestDiffers s (s.digestDiffers n i m) n i m := by
  refine ⟨_, s.count_counted 32 _, fun populating first => ?_, fun again => ?_⟩
  · rw [State.digestDiffers, if_pos ⟨populating, by rw [first]; rfl⟩]
    exact State.copyShard_copied _ n i _
  · rw [State.digestDiffers, if_neg]
    · exact ⟨_, State.setMirror_mirrorSet _ n i _, rfl⟩
    · rintro ⟨populating, first⟩
      rcases again with h | h
      · exact h populating
      · rw [h] at first
        exact absurd first (by decide)

theorem State.storeCopy_primary {s : State} {n : Nat} {m : Mirror} (c : List Byte) (primary : m.role ≠ 2) : s.storeCopy n m c = s := by
  unfold State.storeCopy
  split
  · exact if_neg fun h => primary h.1
  · rfl

section
variable {s : State} {n i : Nat} {m : Mirror} (entry : (s.tenant n).mirrors[i]? = some m) {c d : List Byte}
include entry

/-- A digest meets an entry that waits for one. -/
theorem mirrorDigestReceive_waits (waits : m.state = 2 ∨ m.verifying = true ∨ m.role = 2 ∧ m.state = 1) {u v : State} {own : List Byte}
    (stored : (if m.verifying then s else s.storeCopy n m c) = u) (digest : sha256 (u.shardBytes n m.localBase) = own)
    (answered : (if m.role = 2 then u.emit (.mirrorDigest m.buddy m.buddyBase own) else u) = v) :
    exec (.mirrorDigestReceive n i ⟨c, d⟩) s = (
      if own = d then .next ((v.digestSame n i m).settlePopulation n)
      else if m.role = 2 ∧ m.state = 1 then
        .next ((((v.setMirror n i { m with retried := true, state := 2 }).setTenant n
          { (v.setMirror n i { m with retried := true, state := 2 }).tenant n with populating := true }).count 32
            (Obj.digestMismatchCount n)).mirrorEvent n 15 m.buddy m.localBase)
      else .next ((v.digestDiffers n i m).settlePopulation n)) := by
  subst stored digest answered
  have waiting : (m.state == 2 || m.verifying || (m.role == 2 && m.state == 1)) = true := by
    simpa only [Bool.or_eq_true, Bool.and_eq_true, beq_iff_eq, or_assoc] using waits
  change execMirrorDigestReceive n i ⟨c, d⟩ s = _
  unfold execMirrorDigestReceive
  rw [entry]
  dsimp only
  rw [waiting]
  rfl

theorem mirrorDigestReceive_idle (idle : m.state ≠ 2 ∧ m.verifying = false ∧ (m.role ≠ 2 ∨ m.state ≠ 1)) :
    exec (.mirrorDigestReceive n i ⟨c, d⟩) s = .next s := by
  obtain ⟨populated, checked, mirror⟩ := idle
  have waiting : (m.state == 2 || m.verifying || (m.role == 2 && m.state == 1)) = false := by
    simp only [Bool.or_eq_false_iff, Bool.and_eq_false_iff, beq_eq_false_iff_ne]
    exact ⟨⟨populated, checked⟩, mirror⟩
  change execMirrorDigestReceive n i ⟨c, d⟩ s = _
  unfold execMirrorDigestReceive
  rw [entry]
  dsimp only
  rw [waiting]
  rfl

end

/-- Settles O42: each command folds one operation per entry, and each operation changes one entry and says what it sends. -/
theorem mirrorsPopulateAndVerify : Obligations.MirrorsPopulateAndVerify := by
  refine ⟨fun _ _ _ _ => mirrorTableWrite_refused, ?_, fun s n a m => ⟨State.pairState_none, fun e => State.pairState_some⟩,
    ?_, ?_, ?_, State.mayPopulate_iff, ?_, ?_, ?_, ?_, ?_, ?_⟩
  case refine_1 =>
    intro s sess n es may closed room known sound
    refine ⟨_, (mirrorTableWrite_taken may closed room known sound).trans (congrArg Host.Outcome.next (State.askPairs _ n _)), ?_⟩
    have eq := s.bump_or_same (decide (es.map MirrorSpec.toMirror ≠ (s.tenant n).mirrors)) (Obj.mirrorTable n)
    simp only [decide_eq_true_eq, ne_eq, ite_not] at eq
    rw [eq, List.filterMap_map]
    exact ⟨State.tenant_setTenant s n _, fun k other => State.tenant_setTenant_other s n k _ other, rfl, rfl⟩
  case refine_2 =>
    intro s n i a m misses
    exact if_neg (by rw [misses]; decide)
  case refine_3 =>
    intro s n i a m meets
    refine ⟨_, _, _, s.setMirror_mirrorSet n i _, State.settlePopulation_settled _ n, ?_, ?_, State.pairOne_meets meets⟩
    · rintro (answer | absent)
      · exact if_pos answer
      · split
        · rfl
        · exact State.askPair_none true absent
    · intro e asks entry
      rw [asks]
      exact State.askPair_some true entry
  case refine_4 =>
    intro s sess n v o may refused
    refine congrArg Host.Outcome.next ((State.guarded_may _ may).trans (if_pos ?_))
    rcases refused with h | h
    · rw [h]; rfl
    · rw [h, Bool.or_true]
  case refine_5 =>
    intro s sess n v o _ may allowed idle
    refine ⟨_, _, _, congrArg Host.Outcome.next ((State.guarded_may _ may).trans (if_neg ?_)), s.onlyRegs_setReg _ 0,
      State.reg_setReg_same _ _ _, State.setTenant_tenantSet _ n _, State.copyShards_copied _ n _⟩
    rw [allowed, idle]
    decide
  case refine_6 =>
    intro s n i c d idle
    cases entry : (s.tenant n).mirrors[i]? with
    | some m => exact mirrorDigestReceive_idle entry (idle m entry)
    | none =>
      change execMirrorDigestReceive n i ⟨c, d⟩ s = _
      rw [execMirrorDigestReceive, entry]
  case refine_7 =>
    intro s n i m c d _ entry primary waits
    have copied : (if m.verifying = true then s else s.storeCopy n m c) = s := by
      rw [State.storeCopy_primary c primary, ite_self]
    have run := mirrorDigestReceive_waits entry (d := d) (waits.imp_right Or.inl) copied rfl (if_neg primary)
    rw [if_neg fun h : m.role = 2 ∧ m.state = 1 => primary h.1] at run
    by_cases same : sha256 (s.shardBytes n m.localBase) = d
    · rw [if_pos same] at run
      obtain ⟨u, set, live⟩ := s.digestSame_live n i m
      exact ⟨_, run, fun _ => ⟨u, set, live ▸ State.settlePopulation_settled _ n⟩, fun differs => absurd same differs⟩
    · rw [if_neg same] at run
      exact ⟨_, run, fun h => absurd h same, fun _ => ⟨_, s.digestDiffers_differs n i m, State.settlePopulation_settled _ n⟩⟩
  case refine_8 =>
    intro s n i m c d _ entry mirror waits u own
    have run := mirrorDigestReceive_waits entry (d := d) (u := u) (own := own) (by tauto) rfl rfl (if_pos mirror)
    obtain ⟨x, set, live⟩ := (u.emit (.mirrorDigest m.buddy m.buddyBase own)).digestSame_live n i m
    by_cases same : own = d
    · rw [if_pos same, live] at run
      exact ⟨_, _, run, rfl, fun _ => ⟨x, set, State.settlePopulation_settled _ n⟩, fun h => absurd same h, fun h => absurd same h⟩
    · rw [if_neg same] at run
      by_cases fresh : m.state = 1
      · rw [if_pos ⟨mirror, fresh⟩] at run
        exact ⟨_, _, run, rfl, fun h => absurd h same, fun _ _ => ⟨_, _, _, State.setMirror_mirrorSet _ n i _,
          State.setTenant_tenantSet _ n _, State.count_counted _ 32 _, rfl⟩, fun _ h => absurd fresh h⟩
      · rw [if_neg fun h : m.role = 2 ∧ m.state = 1 => fresh h.2] at run
        exact ⟨_, _, run, rfl, fun h => absurd h same, fun _ h => absurd h fresh, fun _ _ => ⟨_, State.digestDiffers_differs _ n i m,
          State.settlePopulation_settled _ n⟩⟩
  case refine_9 =>
    intro s n m c e entry mirror whole
    rw [State.storeCopy, entry]
    exact if_pos ⟨mirror, whole⟩
  case refine_10 =>
    intro s sess n v o may
    refine ⟨_, congrArg Host.Outcome.next (State.guarded_may _ may), fun refused => if_pos (by rw [refused]; rfl), fun allowed => ?_⟩
    rw [if_neg (by rw [allowed]; decide)]
    exact s.sendDigests_sent n _

end Sys2Proof.Machine
end

section
/-! The step ledger: closes, votes, and the messages of R574. -/

namespace Sys2Proof.Machine

/-! Advisories (R306) -/

/-- Between two states only a tenant's advisory objects and what has been sent differ. -/
structure Advised (n : Nat) (s t : State) : Prop where
  regs : RegsBut [Obj.advisoryCount n, Obj.lastAdvisory n] s t
  rest : { t with regs := s.regs, sessions := s.sessions, eth := s.eth, out := s.out } = s

theorem Advised.refl (n : Nat) (s : State) : Advised n s s := ⟨fun _ _ => rfl, rfl⟩

theorem Advised.trans {n : Nat} {s t u : State} (h : Advised n s t) (h' : Advised n t u) : Advised n s u := by
  refine ⟨h.regs.trans h'.regs, ?_⟩
  have rest := congrArg (fun v : State => { v with regs := s.regs, sessions := s.sessions, eth := s.eth, out := s.out }) h'.rest
  exact rest.trans h.rest

theorem Advised.foldl {α : Type} {n : Nat} {f : State → α → State} (hf : ∀ s a, Advised n s (f s a)) (l : List α) (s : State) :
    Advised n s (l.foldl f s) := by
  induction l generalizing s with
  | nil => exact Advised.refl n s
  | cons a l ih => exact (hf s a).trans (ih _)

theorem State.count_advised (s : State) (n : Nat) : Advised n s (s.count 64 (Obj.advisoryCount n)) :=
  ⟨RegsBut.addReg s 64 1 (List.mem_cons_self ..), rfl⟩

theorem State.raise_advised (s : State) (n : Nat) (value : List Byte) : Advised n s (s.raise (Obj.lastAdvisory n) value) := by
  obtain ⟨o, e, ss, eq⟩ := State.notify_sends (s.setReg (Obj.lastAdvisory n) (fromBytes value)) (Obj.lastAdvisory n) value
  rw [State.raise, eq]
  have same : RegsBut [Obj.advisoryCount n, Obj.lastAdvisory n] s s := fun _ _ => rfl
  exact ⟨same.setReg (List.mem_cons_of_mem _ (List.mem_singleton_self _)) _, rfl⟩

theorem State.advise_advised (s : State) (n kind veto slot step value threshold : Nat) :
    Advised n s (s.advise n kind veto slot step value threshold) :=
  (s.count_advised n).trans ((s.count 64 (Obj.advisoryCount n)).raise_advised n _)

theorem State.adviseSlots_advised (s : State) (n : Nat) (p : StepSt) (veto : Nat) : Advised n s (s.adviseSlots n p veto) :=
  Advised.foldl (fun t _ => t.advise_advised ..) _ s

theorem State.adviseWatches_advised (s : State) (n : Nat) (p : StepSt) (sel : Nat) (veto : Bool) :
    Advised n s (s.adviseWatches n p sel veto) := by
  have loss (c : Prop) [Decidable c] (a b d e f g : Nat) : Advised n s (if c then s else s.advise n a b d e f g) := by
    split
    · exact Advised.refl n s
    · exact s.advise_advised ..
  unfold State.adviseWatches
  extract_lets lf gf thr s1
  have first : Advised n s s1 := loss _ _ _ _ _ _ _
  split
  · exact first
  · exact first.trans (s1.advise_advised ..)

/-- A vote with findings counts one veto, and raises advisories (R302, R304). -/
theorem State.judgeVote_counts {s : State} {n : Nat} {p : StepSt} (found : s.selected n p ≠ 0) :
    RegsBut [Obj.vetoCount n, Obj.advisoryCount n, Obj.lastAdvisory n] s (s.judgeVote n p) ∧
    (s.judgeVote n p).reg (Obj.vetoCount n) = (s.reg (Obj.vetoCount n) + 1) % 2 ^ 32 ∧
    { s.judgeVote n p with regs := s.regs, tenants := s.tenants, sessions := s.sessions, eth := s.eth, out := s.out } = s := by
  generalize judged : s.judgeVote n p = u
  unfold State.judgeVote at judged
  extract_lets sel s1 s2 t at judged
  rw [if_neg found] at judged
  have advised : Advised n s (s1.adviseWatches n p sel true) := by
    refine Advised.trans (t := s1) ?_ (s1.adviseWatches_advised ..)
    unfold s1
    split
    · exact s.adviseSlots_advised ..
    · exact Advised.refl n s
  obtain ⟨regs, rest⟩ := advised
  have others : RegsBut [Obj.vetoCount n, Obj.advisoryCount n, Obj.lastAdvisory n] s s2 :=
    RegsBut.trans (fun k hk => regs k fun h => hk (List.mem_cons_of_mem _ h)) (RegsBut.addReg _ 32 1 (List.mem_cons_self ..))
  have veto : s2.reg (Obj.vetoCount n) = (s.reg (Obj.vetoCount n) + 1) % 2 ^ 32 := by
    refine (State.reg_setReg_same _ _ _).trans (congrArg (fun v => (v + 1) % 2 ^ 32) (regs _ ?_))
    simp [Obj.vetoCount, Obj.advisoryCount, Obj.lastAdvisory, obj]
  have kept : { s2 with regs := s.regs, tenants := s.tenants, sessions := s.sessions, eth := s.eth, out := s.out } = s :=
    congrArg (fun v : State => { v with tenants := s.tenants }) rest
  split at judged <;> subst judged
  · exact ⟨others, veto, kept⟩
  · exact ⟨others, veto, kept⟩

/-! Closes and votes (R568, R570, R571) -/

theorem stepClose_may {s : State} {sess n step : Nat} (may : MayWrite s sess (0x7010 + n) 6) : exec (.stepClose sess n step) s = .next (
    if (s.tenant n).state ≠ 1 ∨ step < s.oldestStep n ∨ (s.tenant n).closes.contains (step, s.attemptOf n step) then s
    else s.setTenant n { s.tenant n with closes := (s.tenant n).closes ++ [(step, s.attemptOf n step)] }) :=
  congrArg Host.Outcome.next (State.guarded_may _ may)

/-- A tenant whose open step has been voted on. -/
def Tenant.castOn (t : Tenant) (step : Nat) (v : LedgerMsg) : Tenant :=
  { t with steps := t.steps.map fun p => if p.step = step then { p with voted := true } else p, ownVote := some v }

theorem vote_casts {s : State} {n : Nat} (may : s.mayVote n (s.oldestStep n) = true) {t : State}
    (judged : (match (s.tenant n).step? (s.oldestStep n) with | some p => s.judgeVote n p | none => s) = t) :
    exec (.vote n) s = .next ((t.setTenant n ((t.tenant n).castOn (s.oldestStep n) (s.makeVote n (s.oldestStep n)))).voteUp n) := by
  subst judged
  exact congrArg Host.Outcome.next (if_pos may)

theorem vote_waits {s : State} {n : Nat} (waits : s.mayVote n (s.oldestStep n) = false) : exec (.vote n) s = .next s :=
  congrArg Host.Outcome.next (if_neg (by rw [waits]; decide))

theorem State.stepQuiet_iff (s : State) (n step : Nat) : s.stepQuiet n step = true ↔
    ∀ p ∈ s.works, p.2.tenant = n → (p.2.ns = false → p.2.step ≠ step) ∧
      (p.2.ns = true → p.2.phase = 2 → s.awaitsVersion p.2.core p.2.ctx = false) := by
  rw [State.stepQuiet, Bool.not_eq_true', List.any_eq_false]
  refine forall₂_congr fun p _ => ?_
  cases p.2.ns <;> simp

theorem State.mayVote_iff (s : State) (n step : Nat) : s.mayVote n step = true ↔
    (s.tenant n).state = 1 ∧ s.isUp = true ∧ (s.tenant n).ownVote = none ∧
    (step, s.attemptOf n step) ∈ (s.tenant n).closes ∧ s.coordinated = true ∧ (s.tenant n).populating = false ∧
    (∀ p ∈ s.works, p.2.tenant = n → (p.2.ns = false → p.2.step ≠ step) ∧
      (p.2.ns = true → p.2.phase = 2 → s.awaitsVersion p.2.core p.2.ctx = false)) ∧
    (match (s.tenant n).step? step with
     | some p => p.cfg.lossExpected = true → p.loss.isSome = true
     | none => s.reg (Obj.lossExpected n) = 0) := by
  rw [← s.stepQuiet_iff]
  simp only [State.mayVote]
  cases (s.tenant n).step? step with
  | none =>
    simp only [Bool.and_eq_true, beq_iff_eq, Option.isNone_iff_eq_none, List.contains_iff_mem, Bool.not_eq_true']
    tauto
  | some p =>
    have loss : (!p.cfg.lossExpected || p.loss.isSome) = true ↔ (p.cfg.lossExpected = true → p.loss.isSome = true) := by
      cases p.cfg.lossExpected <;> simp
    simp only [Bool.and_eq_true, beq_iff_eq, Option.isNone_iff_eq_none, List.contains_iff_mem, Bool.not_eq_true', loss]
    tauto

/-- The causes of a vote, as bits (R571). -/
def voteCauses (found faulted late : Bool) : Nat := b2n found + 2 * b2n faulted + 128 * b2n late

theorem bit_voteCauses (a b c : Bool) : bit (voteCauses a b c) 0 = a ∧ bit (voteCauses a b c) 1 = b ∧ bit (voteCauses a b c) 7 = c ∧
    ∀ i, i ≠ 0 → i ≠ 1 → i ≠ 7 → bit (voteCauses a b c) i = false := by
  refine ⟨by decide +revert, by decide +revert, by decide +revert, fun i h0 h1 h7 => ?_⟩
  by_cases low : i < 8
  · have others : ∀ a b c : Bool, ∀ j < 8, j ≠ 0 → j ≠ 1 → j ≠ 7 → bit (voteCauses a b c) j = false := by decide
    exact others a b c i low h0 h1 h7
  · have big : 2 ^ 8 ≤ 2 ^ i := Nat.pow_le_pow_right (by decide) (by omega)
    have small : voteCauses a b c < 2 ^ 8 := by decide +revert
    have zero : voteCauses a b c / 2 ^ i = 0 := Nat.div_eq_of_lt (by omega)
    simp [bit, bits, Nat.shiftRight_eq_div_pow, zero]

/-! Messages (R574) -/

theorem State.takeLedger_none {s : State} {m : LedgerMsg} (none : s.tenantOfJob m.jobId = none) (f : Nat → State → State) :
    s.takeLedger m f = s := by
  rw [State.takeLedger, none]

theorem State.takeLedger_seen {s : State} {m : LedgerMsg} {n : Nat} (job : s.tenantOfJob m.jobId = some n)
    (seen : msgIdent m ∈ (s.tenant n).seenMsgs) (f : Nat → State → State) :
    s.takeLedger m f = { s with out := s.out ++ [.ledger m.sender { m with kind := 4, sender := s.chip }] } := by
  rw [State.takeLedger, job]
  exact if_pos (List.contains_iff_mem.2 seen)

/-- The state in which a new message has been acknowledged and remembered. -/
def State.ledgerTaken (s : State) (n : Nat) (m : LedgerMsg) : State :=
  (s.emit (.ledger m.sender { m with kind := 4, sender := s.chip })).setTenant n { s.tenant n with
    seenMsgs := [msgIdent m] ++ (s.tenant n).seenMsgs.filter fun i => decide (s.reg (Obj.committedStep n) < i.2.1 + 4) }

theorem State.ledgerTaken_taken (s : State) (n : Nat) (m : LedgerMsg) : LedgerTaken s (s.ledgerTaken n m) n m :=
  ⟨State.tenant_setTenant _ n _, fun k other => State.tenant_setTenant_other _ n k _ other, rfl, rfl⟩

theorem State.takeLedger_new {s : State} {m : LedgerMsg} {n : Nat} (job : s.tenantOfJob m.jobId = some n)
    (new : msgIdent m ∉ (s.tenant n).seenMsgs) (f : Nat → State → State) : s.takeLedger m f = f n (s.ledgerTaken n m) := by
  rw [State.takeLedger, job]
  exact if_neg fun h => new (List.contains_iff_mem.1 h)

theorem State.sendLedger_sent (s : State) (n dest : Nat) (m : LedgerMsg) : LedgerSent s (s.sendLedger n dest m) n [(dest, m)] :=
  ⟨State.tenant_setTenant s n _, fun k other => State.tenant_setTenant_other s n k _ other, rfl, rfl⟩

/-- Each message of the ledger but an acknowledgement is taken by its operation. -/
theorem ledgerReceive_run (s : State) (m : LedgerMsg) :
    ∀ con ∈ ([.voteReceive, .commitReceive, .abortReceive, .stateQueryReceive, .stateReportReceive, .abortRequestReceive] :
      List (LedgerMsg → Instr)), ∃ f, exec (con m) s = .next (s.takeLedger m f) := by
  simp only [List.forall_mem_cons]
  exact ⟨⟨_, rfl⟩, ⟨_, rfl⟩, ⟨_, rfl⟩, ⟨_, rfl⟩, ⟨_, rfl⟩, ⟨_, rfl⟩, List.forall_mem_nil _⟩

theorem ledgerAckReceive_none {s : State} {m : LedgerMsg} (none : s.tenantOfJob m.jobId = none) : exec (.ledgerAckReceive m) s = .next s := by
  change execLedgerAckReceive m s = _
  rw [execLedgerAckReceive, none]

/-! Votes that go up (R572, R573, R576) -/

theorem State.missingVotes_isEmpty_iff (s : State) (n : Nat) (own : LedgerMsg) : (s.missingVotes n own).isEmpty = true ↔
    ∀ c ∈ s.childChips n, ∃ m ∈ (s.tenant n).votes, m.sender = c ∧ m.step = own.step ∧ m.attempt = own.attempt ∧
      m.jobEpoch = own.jobEpoch := by
  simp only [State.missingVotes, List.isEmpty_iff, List.filter_eq_nil_iff, Bool.not_eq_true', List.any_eq_true,
    Bool.and_eq_true, beq_iff_eq, and_assoc, Bool.not_eq_false]

theorem State.combined_some {s : State} {n : Nat} {own v : LedgerMsg} (cast : (s.tenant n).ownVote = some own)
    (combined : s.combined n = some v) : (s.missingVotes n own).isEmpty = true ∧
    v = ((s.tenant n).votes.filter fun m => (s.childChips n).contains m.sender && m.step == own.step && m.attempt == own.attempt &&
      m.jobEpoch == own.jobEpoch).foldl combineVotes own := by
  unfold State.combined at combined
  rw [cast] at combined
  dsimp only at combined
  split at combined
  next complete => exact ⟨complete, (Option.some.inj combined).symm⟩
  next => exact nomatch combined

theorem combineVotes_mismatch (a b : LedgerMsg) : (combineVotes a b).mismatch = true ↔ a.mismatch = true ∨ b.mismatch = true ∨
    a.agreement ≠ b.agreement ∨ (a.hasProposal = true ∧ b.hasProposal = true ∧ a.proposal ≠ b.proposal) := by
  simp only [combineVotes, Bool.or_eq_true, Bool.and_eq_true, bne_iff_ne, or_assoc, and_assoc]

section
variable {s : State} {n : Nat} {v : LedgerMsg} (combined : s.combined n = some v) (unsent : (s.tenant n).sentVote = false)
include combined unsent

theorem State.voteUp_member {i : Nat} (member : s.isRoot n = false) (parent : parentOf (s.indexIn n) = some i) :
    s.voteUp n = (s.setTenant n { s.tenant n with sentVote := true }).sendLedger n ((s.liveOf n).getD i 0xFFFF)
      { v with sender := s.chip } := by
  rw [State.voteUp, combined, unsent, member, parent]
  rfl

theorem State.voteUp_root (root : s.isRoot n = true) : s.voteUp n =
    if v.voters = (s.liveOf n).length ∧ !s.decided n v.step v.attempt then
      (s.setTenant n { s.tenant n with sentVote := true }).decideVote n v else s := by
  rw [State.voteUp, combined, unsent, root]
  rfl

end

theorem State.voteUp_idle {s : State} {n : Nat} (idle : s.combined n = none ∨ (s.tenant n).sentVote = true) : s.voteUp n = s := by
  unfold State.voteUp
  split
  · rfl
  · next v combined =>
    rcases idle with none | sent
    · exact nomatch none.symm.trans combined
    · exact if_pos sent

/-- What a vote says of its step (R571). -/
theorem State.makeVote_spec (s : State) (n step : Nat) : (let v := s.makeVote n step
    let p := (s.tenant n).step? step
    v.kind = 1 ∧ v.step = step ∧ v.attempt = s.attemptOf n step ∧ v.jobEpoch = s.reg (Obj.jobEpoch n) ∧ v.sender = s.chip ∧
    v.voters = 1 ∧ v.mismatch = false ∧ (v.veto = true ↔ v.causes ≠ 0) ∧
    (bit v.causes 0 = true ↔ ∃ q, p = some q ∧ s.selected n q ≠ 0) ∧ (bit v.causes 1 = true ↔ ∃ q, p = some q ∧ q.faulted = true) ∧
    bit v.causes 7 = (s.tenant n).lateVeto ∧ (∀ i, i ≠ 0 → i ≠ 1 → i ≠ 7 → bit v.causes i = false) ∧
    v.agreement = s.agreement n step) := by
  have causes (found faulted late : Bool) := bit_voteCauses found faulted late
  refine ⟨rfl, rfl, rfl, rfl, rfl, rfl, rfl, bne_iff_ne, ?_, ?_, (causes _ _ _).2.2.1, (causes _ _ _).2.2.2, rfl⟩
  · refine (Bool.eq_iff_iff.1 (causes _ _ _).1).trans ?_
    cases (s.tenant n).step? step <;> simp
  · refine (Bool.eq_iff_iff.1 (causes _ _ _).2.1).trans ?_
    cases (s.tenant n).step? step <;> simp

/-- A state report gives the decision this package holds on its step (R582). -/
theorem State.stateReport_decided {s : State} {n step : Nat} {d : Decision}
    (found : (s.tenant n).decisions.find? (fun d => d.step == step && d.commit) = some d) :
    (s.stateReport n step).attempt = d.attempt ∧ (s.stateReport n step).hasProposal = d.proposal.isSome := by
  simp only [State.stateReport, found, and_self]

theorem State.stateReport_commitGate {s : State} {n step : Nat} {d : Decision}
    (found : (s.tenant n).decisions.find? (fun d => d.step == step && d.commit) = some d) :
    (s.stateReport n step).commitGate = d.gate * 1024 := by
  unfold State.stateReport
  dsimp only
  rw [found]

theorem State.stateReport_commitHeld (s : State) (n step : Nat) : (s.stateReport n step).commitHeld = true ↔
    ∃ d ∈ (s.tenant n).decisions, d.step = step ∧ d.commit = true := by
  simp only [State.stateReport, List.find?_isSome, Bool.and_eq_true, beq_iff_eq]

theorem State.stateReport_commitApplied (s : State) (n step : Nat) : (s.stateReport n step).commitApplied = true ↔
    step ≤ s.reg (Obj.committedStep n) := by
  simp only [State.stateReport, decide_eq_true_eq]

/-- Settles O35: each command is one operation of the ledger, and each operation's conditions are those the rules name. -/
theorem votesCastAndCombined : Obligations.VotesCastAndCombined := by
  refine ⟨?_, ?_, fun _ _ => vote_waits, ?_, ?_, State.mayVote_iff, ?_, ?_, ?_, ?_, ?_, ?_, fun _ _ => State.voteUp_idle, ?_,
    fun a b => ⟨rfl, rfl, rfl, rfl, rfl, rfl, rfl, rfl, combineVotes_mismatch a b⟩, ?_, ?_⟩
  case refine_1 =>
    intro s sess n step may admitted open' new
    refine ⟨_, (stepClose_may may).trans (congrArg Host.Outcome.next (if_neg ?_)), s.setTenant_tenantSet n _⟩
    rintro (h | h | h)
    exacts [h admitted, absurd open' (by omega), new (List.contains_iff_mem.1 h)]
  case refine_2 =>
    intro s sess n step may refused
    refine (stepClose_may may).trans (congrArg Host.Outcome.next (if_pos ?_))
    exact refused.imp_right (Or.imp_right List.contains_iff_mem.2)
  case refine_3 =>
    intro s n may clear
    refine ⟨_, vote_casts may ?_, s.setTenant_tenantSet n _⟩
    cases found : (s.tenant n).step? (s.oldestStep n) with
    | none => rfl
    | some p => exact if_pos (clear p found)
  case refine_4 =>
    intro s n p may found selected
    obtain ⟨regs, veto, rest⟩ := State.judgeVote_counts selected
    exact ⟨_, _, rfl, vote_casts may (by rw [found]), State.setTenant_tenantSet _ n _, regs, fun _ => veto, rest⟩
  case refine_5 => exact fun s n step => s.makeVote_spec n step
  case refine_6 =>
    intro s n step
    unfold State.agreement
    dsimp only
    cases (s.tenant n).step? step with
    | none => rw [Option.elim, Option.elim]
    | some p => rw [Option.elim, Option.elim]
  case refine_7 =>
    intro s m n job seen con hcon
    obtain ⟨f, run⟩ := ledgerReceive_run s m con hcon
    exact run.trans (congrArg Host.Outcome.next (State.takeLedger_seen job seen f))
  case refine_8 =>
    intro s m none con hcon
    rcases List.mem_append.1 (show con ∈ [.voteReceive, .commitReceive, .abortReceive, .stateQueryReceive, .stateReportReceive,
      .abortRequestReceive] ++ [.ledgerAckReceive] from hcon) with message | ack
    · obtain ⟨f, run⟩ := ledgerReceive_run s m con message
      exact run.trans (congrArg Host.Outcome.next (State.takeLedger_none none f))
    · rw [List.mem_singleton.1 ack]
      exact ledgerAckReceive_none none
  case refine_9 =>
    intro s m n job new
    have taken (f : Nat → State → State) : (.next (s.takeLedger m f) : Host.Outcome State Fault Refusal) = .next (f n (s.ledgerTaken n m)) :=
      congrArg Host.Outcome.next (State.takeLedger_new job new f)
    refine ⟨_, s.ledgerTaken_taken n m, ⟨_, State.setTenant_tenantSet _ n _, taken _⟩, taken _, taken _,
      ⟨_, State.sendLedger_sent _ n _ _, taken _⟩, ⟨_, State.setTenant_tenantSet _ n _, taken _⟩, (taken _).trans ?_⟩
    simp only [Bool.and_eq_true, beq_iff_eq]
  case refine_10 => exact fun s n step => ⟨rfl, rfl, rfl, s.stateReport_commitApplied n step, s.stateReport_commitHeld n step,
    fun _ found => ⟨(State.stateReport_decided found).1, State.stateReport_commitGate found, (State.stateReport_decided found).2⟩⟩
  case refine_11 =>
    intro s n own v cast combined
    obtain ⟨complete, sum⟩ := State.combined_some cast combined
    exact ⟨(s.missingVotes_isEmpty_iff n own).1 complete, sum⟩
  case refine_12 =>
    intro s n i v combined unsent member parent
    refine ⟨_, s.setTenant_tenantSet n _, ?_⟩
    rw [State.voteUp_member combined unsent member parent]
    exact State.sendLedger_sent _ n _ _
  case refine_13 =>
    intro s n v combined unsent root
    rw [State.voteUp_root combined unsent root]
    refine ⟨fun complete open' => ⟨_, s.setTenant_tenantSet n _, if_pos ⟨complete, by rw [open']; rfl⟩⟩, fun waits => if_neg ?_⟩
    rintro ⟨complete, open'⟩
    rcases waits with h | h
    · exact h complete
    · rw [h] at open'
      exact absurd open' (by decide)

end Sys2Proof.Machine
end

section
/-! How collective instances end (R514, R537): tokens, endings, failures. -/

namespace Sys2Proof.Machine

theorem Ctx.setToken_tokens (y : Ctx) (t : Nat) (v : Token) : { y.setToken t v with tokens := y.tokens } = y := by
  obtain ⟨m, eq⟩ := y.setToken_eq t v
  rw [eq]

theorem Ctx.setSreg_tokens (y : Ctx) (i v : Nat) : (y.setSreg i v).tokens = y.tokens := by
  obtain ⟨m, eq⟩ := y.setSreg_eq i v
  rw [eq]

/-- The context that waited for a token takes its status. -/
def Ctx.tookToken (y : Ctx) (t sd st : Nat) : Ctx := { (y.setToken t .free).setSreg sd st with state := 1, waits := .nothing }

theorem State.finishToken_waited {s : State} {c x t sd : Nat} (st : Nat) (named : t ≠ 0) (waits : (s.ctx c x).waits = .token t sd)
    (waiting : (s.ctx c x).state = 3) : s.finishToken c x t st = s.setCtx c x ((s.ctx c x).tookToken t sd st) := by
  rw [State.finishToken, if_neg named]
  simp only [waits, waiting, and_self, if_true]
  rfl

theorem State.finishToken_done {s : State} {c x t : Nat} (st : Nat) (named : t ≠ 0)
    (free : ∀ sd, (s.ctx c x).waits ≠ .token t sd ∨ (s.ctx c x).state ≠ 3) :
    s.finishToken c x t st = s.setCtx c x ((s.ctx c x).setToken t (.done st)) := by
  rw [State.finishToken, if_neg named]
  dsimp only
  split
  next tk sd waits =>
    refine if_neg ?_
    rintro ⟨rfl, waiting⟩
    exact (free sd).elim (absurd waits) (absurd waiting)
  next => rfl

theorem State.finishToken_none (s : State) (c x st : Nat) : s.finishToken c x 0 st = s := if_pos rfl

theorem State.finishToken_tokenDone (s : State) (c x t : Nat) {st : Nat} (fits : st < 2 ^ 64) : TokenDone s (s.finishToken c x t st) c x t st := by
  by_cases named : t = 0
  · subst named
    rw [State.finishToken_none]
    exact ⟨fun _ h => absurd rfl h, fun h => absurd rfl h, fun _ => rfl, fun _ _ => rfl, fun _ _ _ => rfl, rfl⟩
  by_cases waited : ∃ sd, (s.ctx c x).waits = .token t sd ∧ (s.ctx c x).state = 3
  · obtain ⟨sd, waits, waiting⟩ := waited
    have tokens (i : Nat) : ((s.ctx c x).tookToken t sd st).token i = ((s.ctx c x).setToken t .free).token i :=
      congrArg (Sparse.get Token.free i) (Ctx.setSreg_tokens ((s.ctx c x).setToken t .free) sd st)
    rw [State.finishToken_waited st named waits waiting]
    refine ⟨fun sd' _ waits' _ => ?_, fun _ free => ?_, fun h => absurd h named, fun i other => ?_, fun d y => State.ctx_setCtx_other s c x d y _, rfl⟩
    · obtain rfl : sd = sd' := by
        rw [waits] at waits'
        exact (WaitFor.token.inj waits').2
      rw [State.ctx_setCtx]
      refine ⟨(tokens t).trans (Ctx.token_setToken_same _ _ named), fun dest => ?_, rfl, rfl⟩
      exact (Ctx.sreg_setSreg_same _ sd st).trans ((if_neg dest).trans (Nat.mod_eq_of_lt fits))
    · exact (free sd).elim (absurd waits) (absurd waiting)
    · rw [State.ctx_setCtx]
      exact (tokens i).trans (Ctx.token_setToken_other _ _ other)
  · have free (sd : Nat) : (s.ctx c x).waits ≠ .token t sd ∨ (s.ctx c x).state ≠ 3 := by
      by_contra h
      exact waited ⟨sd, not_not.1 fun w => h (.inl w), not_not.1 fun w => h (.inr w)⟩
    rw [State.finishToken_done st named free]
    refine ⟨fun sd _ waits waiting => absurd ⟨sd, waits, waiting⟩ waited, fun _ _ => ?_, fun h => absurd h named, fun i other => ?_,
      fun d y => State.ctx_setCtx_other s c x d y _, rfl⟩
    · rw [State.ctx_setCtx]
      exact ⟨Ctx.token_setToken_same _ _ named, Ctx.setToken_tokens _ _ _⟩
    · rw [State.ctx_setCtx]
      exact Ctx.token_setToken_other _ _ other

theorem tokensEnd_foldl (tk : Nat) {st : Nat} (fits : st < 2 ^ 64) (ps : List Contrib) (s : State) :
    TokensEnd tk st ps s (ps.foldl (fun t p => t.finishToken p.core p.ctx tk st) s) := by
  induction ps generalizing s with
  | nil => rfl
  | cons p ps ih => exact ⟨_, s.finishToken_tokenDone p.core p.ctx tk fits, ih _⟩

theorem State.endInst_instEnded (s : State) (i : Inst) {st : Nat} (fits : st < 2 ^ 64) : InstEnded s (s.endInst i st) i st :=
  ⟨_, tokensEnd_foldl i.token fits i.contribs s, rfl⟩

theorem State.endFailed_instFailed (s : State) (i : Inst) (peer : Nat) : InstFailed s (s.endFailed i peer) i peer :=
  ⟨_, _, s.endInst_instEnded i (by decide), State.onlyRegs_setReg _ _ _, fun _ => State.reg_setReg_same _ _ _, rfl⟩

end Sys2Proof.Machine
end

section
/-! Holds and withdrawals of collectives (R535 to R537), and the sketch engines (R550 to R561). -/

namespace Sys2Proof.Machine

/-! Holds -/

theorem State.raise_colls (s : State) (k : Nat) (v : List Byte) : (s.raise k v).colls = s.colls := by
  obtain ⟨o, e, ss, c, l, d, ts, g, r, eq⟩ := (s.raise_spec k v).1
  rw [eq]

theorem State.up_setReg (s : State) {k : Nat} (other : Obj.uptime ≠ k) (v : Nat) : (s.setReg k v).up = s.up :=
  State.reg_setReg_other _ _ _ _ other

/-- The event with which a hold begins, once its object is written (R543). -/
theorem State.beginHold_setReg (s : State) {n : Nat} (other : Obj.uptime ≠ Obj.collectiveHold n) :
    (s.setReg (Obj.collectiveHold n) 1).beginHold n = (s.setReg (Obj.collectiveHold n) 1).raise (Obj.lastCollectiveEvent n)
      (toBytes 1 3 ++ toBytes 11 0 ++ toBytes 2 0xFFFF ++ toBytes 10 0 ++ toBytes 8 s.up) := by
  rw [State.beginHold, State.holdEvent, s.up_setReg other]

/-- The end of a hold of a tenant that runs no collective is its event. -/
theorem State.endHold_idle {s : State} {n : Nat} (idle : (s.colls.insts.all fun i => i.n != n) = true) : s.endHold n = s.holdEvent n 4 := by
  have mine : ((s.holdEvent n 4).colls.insts.filter fun i => i.n == n) = [] := by
    rw [State.holdEvent, State.raise_colls, List.filter_eq_nil_iff]
    intro i listed same
    exact absurd (beq_iff_eq.1 same) (bne_iff_ne.1 (List.all_eq_true.1 idle i listed))
  unfold State.endHold
  dsimp only
  rw [mine, List.foldl_nil]

section
variable {s : State} {sess n : Nat} (may : MayWrite s sess (0x6700 + n) 4)
include may

theorem collectiveHold_may : exec (.collectiveHold sess n) s = .next (
    if s.reg (Obj.collectiveHold n) = 1 then s
    else if s.held n = true then s.setReg (Obj.collectiveHold n) 1 else (s.setReg (Obj.collectiveHold n) 1).beginHold n) :=
  congrArg Host.Outcome.next (State.guarded_may _ may)

theorem collectiveHoldEnd_may : exec (.collectiveHoldEnd sess n) s = .next (
    if s.reg (Obj.collectiveHold n) = 0 then s
    else if (s.setReg (Obj.collectiveHold n) 0).held n = true then s.setReg (Obj.collectiveHold n) 0
    else (s.setReg (Obj.collectiveHold n) 0).endHold n) :=
  congrArg Host.Outcome.next (State.guarded_may _ may)

end

/-- Messages sent one after another. -/
theorem State.foldl_emit {α : Type} (f : α → Msg) (l : List α) (s : State) :
    l.foldl (fun t a => t.emit (f a)) s = { s with out := s.out ++ l.map f } := by
  induction l generalizing s with
  | nil => rw [List.map_nil, List.append_nil]; rfl
  | cons a l ih =>
    rw [List.foldl_cons, ih]
    exact congrArg (fun o => { s with out := o }) (List.append_assoc ..)

theorem State.foldl_foldl_emit {α β : Type} (g : α → List β) (f : α → β → Msg) (l : List α) (s : State) :
    l.foldl (fun t a => (g a).foldl (fun u b => u.emit (f a b)) t) s = { s with out := s.out ++ l.flatMap fun a => (g a).map (f a) } := by
  induction l generalizing s with
  | nil => rw [List.flatMap_nil, List.append_nil]; rfl
  | cons a l ih =>
    rw [List.foldl_cons, ih, State.foldl_emit]
    exact congrArg (fun o => { s with out := o }) (List.append_assoc ..)

theorem holdBeacon_run (s : State) (n : Nat) : exec (.holdBeacon n) s = .next (if s.held n && s.linksUp then
    { s with out := s.out ++ (s.colls.insts.filter fun i => i.n == n).flatMap fun i =>
      i.neighbours.map fun p => .hold p (s.reg Obj.membershipEpoch) i.plan i.inst } else s) := by
  rw [← State.foldl_foldl_emit]
  exact (apply_ite Host.Outcome.next _ _ _).symm

theorem holdBeaconReceive_run (s : State) (chip epoch plan inst : Nat) : exec (.holdBeaconReceive chip epoch plan inst) s = .next (
    if s.linksUp = true ∧ s.reg Obj.membershipEpoch ≤ epoch ∧ chip ∉ s.colls.suspended then
      { s with colls := { s.colls with suspended := s.colls.suspended ++ [chip] } } else s) := by
  change (if _ then _ else _) = _
  rw [← apply_ite Host.Outcome.next]
  refine congrArg Host.Outcome.next (if_congr ?_ rfl rfl)
  rw [Bool.and_eq_true, Bool.and_eq_true, decide_eq_true_iff, Bool.not_eq_true', ← Bool.not_eq_true, List.contains_iff_mem, and_assoc]

/-! Withdrawals -/

theorem withdrawn_foldl (is : List Inst) (s : State) : Withdrawn is s (is.foldl (fun t i =>
    let t1 := i.neighbours.foldl (fun u p => u.emit (.withdrawal p i.plan i.inst)) t
    let t2 := { t1 with colls := { t1.colls with areas := Sparse.erase (i.n * 1024 + i.plan) t1.colls.areas } }
    (t2.collEvent i 6 0xFFFF).endFailed i 0xFFFF) s) := by
  induction is generalizing s with
  | nil => rfl
  | cons i is ih =>
    rw [List.foldl_cons]
    dsimp only
    rw [State.foldl_emit]
    exact ⟨_, State.endFailed_instFailed _ i _, ih _⟩

theorem peerWithdrew_foldl (chip : Nat) (is : List Inst) (s : State) :
    PeerWithdrew chip is s (is.foldl (fun t i => (t.collEvent i 6 chip).endFailed i chip) s) := by
  induction is generalizing s with
  | nil => rfl
  | cons i is ih => exact ⟨_, State.endFailed_instFailed _ i _, ih _⟩

/-! Sketch engines -/

/-- A block is added to its tap's vector, which is 0 before its first block (R550). -/
theorem SkGroup.addBlock_vectors (g : SkGroup) (e : Nat) (b : SkBlock) (outs : List Nat) (sigma : Nat) :
    (g.addBlock e b outs sigma).vectors = Sparse.set [] (b.tap * 4 + e) ((List.range 64).map fun i =>
      fAdd ((if Sparse.get [] (b.tap * 4 + e) g.vectors = [] then List.replicate 64 0
        else Sparse.get [] (b.tap * 4 + e) g.vectors).getD i 0) (fMul (outs.getD i 0) (fPow2 b.e))) g.vectors := by
  unfold SkGroup.addBlock
  dsimp only
  cases Sparse.get [] (b.tap * 4 + e) g.vectors <;> rfl

theorem State.skGroup_setSkGroup (s : State) (step group : Nat) (g : SkGroup) : (s.setSkGroup step group g).skGroup step group = g :=
  Sparse.get_set_same _ _ _ _

theorem State.skGroup_count (s : State) (w k step group : Nat) : (s.count w k).skGroup step group = s.skGroup step group := rfl

theorem sketchBlockProject_idle {s : State} {e : Nat} {outs : List Nat}
    (idle : 4 ≤ e ∨ s.reg (Obj.engineState e) ≠ 0 ∨ Sparse.get [] e s.sketch.queues = []) :
    exec (.sketchBlockProject e outs) s = .next s := by
  change execSketchBlockProject e outs s = _
  unfold execSketchBlockProject
  rcases or_assoc.2 idle with off | empty
  · exact if_pos off
  · rw [empty]
    exact ite_self _

theorem sketchBlockProject_block {s : State} {e : Nat} {outs : List Nat} {b : SkBlock} {bs : List SkBlock} (engine : e < 4)
    (serves : s.reg (Obj.engineState e) = 0) (block : Sparse.get [] e s.sketch.queues = b :: bs) :
    exec (.sketchBlockProject e outs) s = .next ((({ s with sketch := { s.sketch with queues := Sparse.set [] e bs s.sketch.queues } } :
      State).setSkGroup b.step b.group ((s.skGroup b.step b.group).addBlock e b outs (s.reg (Obj.noiseSigma e)))).count 64
      (Obj.blocksProjected e)) := by
  change execSketchBlockProject e outs s = _
  unfold execSketchBlockProject
  rw [if_neg (by omega), block]
  rfl

/-- What a calibration of an engine records (R559). -/
def State.calibrated (s : State) (e : Nat) (sgs gs : List Nat) : State := { s with sketch := { s.sketch with
  sigmas := ((List.range 6).zip sgs).foldl (fun m p => Sparse.set 0 (e * 8 + p.1) p.2 m) s.sketch.sigmas
  gains := Sparse.set [] e gs s.sketch.gains } }

/-- What it shows: the noise at the code in force, and the largest error. -/
def State.calibrationShown (s : State) (e oe : Nat) : State := (s.showSigma e).setReg (Obj.orthoError e) oe

theorem sketchCalibrationEnd_run {s : State} {e : Nat} (sgs gs : List Nat) (oe : Nat) (engine : e < 4) (calibrates : s.reg (Obj.engineState e) = 1) :
    exec (.sketchCalibrationEnd e sgs gs oe) s = .next (if fLe oe (fPow2 (-10)) = true
      then (((s.calibrated e sgs gs).calibrationShown e oe).setReg (Obj.engineState e) 0).count 32 (Obj.calibrationCount e)
      else (((s.calibrated e sgs gs).calibrationShown e oe).setReg (Obj.engineState e) 2).report (blockReport 1 0 (sketchUnit e))) :=
  if_neg (by omega)

theorem calibrated_sigmas (s : State) {e : Nat} {sgs : List Nat} (gs : List Nat) (six : sgs.length = 6) :
    (s.calibrated e sgs gs).sketch.sigmas =
      (List.range 6).foldl (fun m i => Sparse.set 0 (e * 8 + i) (sgs.getD i 0) m) s.sketch.sigmas := by
  have pairs : (List.range 6).zip sgs = (List.range 6).map fun i => (i, sgs.getD i 0) := by
    refine List.ext_getElem (by simp [six]) fun i h h' => ?_
    have listed : i < sgs.length := by simp at h'; omega
    simp [List.getElem?_eq_getElem listed]
  unfold State.calibrated
  rw [pairs, List.foldl_map]

theorem get_calibrated_sigma (s : State) {e i : Nat} {sgs : List Nat} (gs : List Nat) (six : sgs.length = 6) (low : i < 6) :
    Sparse.get 0 (e * 8 + i) (s.calibrated e sgs gs).sketch.sigmas = sgs.getD i 0 := by
  rw [calibrated_sigmas s gs six]
  exact (Sparse.get_foldl_set 0 (key := fun i => e * 8 + i) (fun i j h => Nat.add_left_cancel h) _ _ _ i).trans (if_pos (List.mem_range.2 low))

theorem get_calibrated_sigma_other (s : State) {e k : Nat} {sgs : List Nat} (gs : List Nat) (six : sgs.length = 6) (other : k < e * 8 ∨ e * 8 + 6 ≤ k) :
    Sparse.get 0 k (s.calibrated e sgs gs).sketch.sigmas = Sparse.get 0 k s.sketch.sigmas := by
  rw [calibrated_sigmas s gs six]
  refine Sparse.get_foldl_set_other 0 (fun i listed => ?_) _ _
  have low := List.mem_range.1 listed
  omega

/-- The objects of an engine are four, and none is the integration code. -/
theorem engineObjects_apart (e : Nat) : Obj.noiseSigma e ≠ Obj.orthoError e ∧ Obj.noiseSigma e ≠ Obj.engineState e ∧
    Obj.noiseSigma e ≠ Obj.calibrationCount e ∧ Obj.orthoError e ≠ Obj.engineState e ∧ Obj.orthoError e ≠ Obj.calibrationCount e ∧
    Obj.engineState e ≠ Obj.calibrationCount e := by
  simp only [Obj.noiseSigma, Obj.orthoError, Obj.engineState, Obj.calibrationCount, obj]
  omega

section
variable (s : State) (e oe v : Nat)

theorem State.reg_calibrationShown_noise : (s.calibrationShown e oe).reg (Obj.noiseSigma e) =
    Sparse.get 0 (e * 8 + s.reg Obj.sketchIntegration) s.sketch.sigmas :=
  (State.reg_setReg_other _ _ _ _ (engineObjects_apart e).1).trans (State.reg_setReg_same _ _ _)

theorem State.calibrationShown_regs : OnlyRegs [Obj.engineState e, Obj.noiseSigma e, Obj.orthoError e] s
    ((s.calibrationShown e oe).setReg (Obj.engineState e) v) :=
  (((OnlyRegs.refl _ s).setReg (by simp) _).setReg (by simp) _).setReg (by simp) _

end

/-- The objects of a calibrated engine, when its state is v. -/
theorem reg_calibration (s : State) (e oe v : Nat) (sgs gs : List Nat) (six : sgs.length = 6) (code : s.reg Obj.sketchIntegration < 6)
    {u : State} (done : u = ((s.calibrated e sgs gs).calibrationShown e oe).setReg (Obj.engineState e) v) :
    u.reg (Obj.noiseSigma e) = sgs.getD (s.reg Obj.sketchIntegration) 0 ∧ u.reg (Obj.orthoError e) = oe ∧ u.reg (Obj.engineState e) = v ∧
    u.reg (Obj.calibrationCount e) = s.reg (Obj.calibrationCount e) := by
  obtain ⟨_, sigmaState, sigmaCount, orthoState, orthoCount, stateCount⟩ := engineObjects_apart e
  subst done
  refine ⟨?_, ?_, State.reg_setReg_same _ _ _, ?_⟩
  · rw [State.reg_setReg_other _ _ _ _ sigmaState, State.reg_calibrationShown_noise]
    exact get_calibrated_sigma s gs six code
  · rw [State.reg_setReg_other _ _ _ _ orthoState]
    exact State.reg_setReg_same _ _ _
  · exact (((s.calibrated e sgs gs).calibrationShown_regs e oe v).1 _
      (by simp [stateCount.symm, sigmaCount.symm, orthoCount.symm]))

theorem sketchCalibrationEnd_ends {s : State} {e oe : Nat} {sgs gs : List Nat} (engine : e < 4) (calibrates : s.reg (Obj.engineState e) = 1)
    (six : sgs.length = 6) (code : s.reg Obj.sketchIntegration < 6) : ∃ u : State,
    u.sketch = (s.calibrated e sgs gs).sketch ∧
    u.reg (Obj.noiseSigma e) = sgs.getD (s.reg Obj.sketchIntegration) 0 ∧ u.reg (Obj.orthoError e) = oe ∧
    (fLe oe (fPow2 (-10)) = true → exec (.sketchCalibrationEnd e sgs gs oe) s = .next u ∧ u.reg (Obj.engineState e) = 0 ∧
      u.reg (Obj.calibrationCount e) = (s.reg (Obj.calibrationCount e) + 1) % 2 ^ 32 ∧
      OnlyRegs [Obj.engineState e, Obj.noiseSigma e, Obj.orthoError e, Obj.calibrationCount e] { s with sketch := u.sketch } u) ∧
    (fLe oe (fPow2 (-10)) = false → exec (.sketchCalibrationEnd e sgs gs oe) s = .next (u.report (blockReport 1 0 (sketchUnit e))) ∧
      u.reg (Obj.engineState e) = 2 ∧
      OnlyRegs [Obj.engineState e, Obj.noiseSigma e, Obj.orthoError e] { s with sketch := u.sketch } u) := by
  have run := sketchCalibrationEnd_run sgs gs oe engine calibrates
  by_cases good : fLe oe (fPow2 (-10)) = true
  · rw [if_pos good] at run
    obtain ⟨_, _, sigmaCount, _, orthoCount, stateCount⟩ := engineObjects_apart e
    generalize shown : ((s.calibrated e sgs gs).calibrationShown e oe).setReg (Obj.engineState e) 0 = v at run
    obtain ⟨sigma, ortho, service, count⟩ := reg_calibration s e oe 0 sgs gs six code shown.symm
    obtain ⟨others, rest⟩ := (s.calibrated e sgs gs).calibrationShown_regs e oe 0
    rw [shown] at others rest
    have sketch : v.sketch = (s.calibrated e sgs gs).sketch := by rw [← shown]; rfl
    have apart (k : Nat) (other : k ≠ Obj.calibrationCount e) : (v.count 32 (Obj.calibrationCount e)).reg k = v.reg k :=
      State.reg_setReg_other _ _ _ _ other
    refine ⟨v.count 32 (Obj.calibrationCount e), sketch, (apart _ sigmaCount).trans sigma, (apart _ orthoCount).trans ortho,
      fun _ => ⟨run, (apart _ stateCount).trans service, ?_, ?_⟩, fun bad => (Bool.false_ne_true (bad.symm.trans good)).elim⟩
    · exact (State.reg_setReg_same _ _ _).trans (congrArg (fun c => (c + 1) % 2 ^ 32) count)
    · have base : OnlyRegs [Obj.engineState e, Obj.noiseSigma e, Obj.orthoError e, Obj.calibrationCount e] { s with sketch := v.sketch } v := by
        rw [sketch]
        exact ⟨fun k other => others k fun h => other (List.mem_append_left [Obj.calibrationCount e] h), rest⟩
      exact base.setReg (by simp) _
  · have bad := Bool.eq_false_of_not_eq_true good
    rw [if_neg good] at run
    obtain ⟨sigma, ortho, out, _⟩ := reg_calibration s e oe 2 sgs gs six code
      (u := ((s.calibrated e sgs gs).calibrationShown e oe).setReg (Obj.engineState e) 2) rfl
    exact ⟨((s.calibrated e sgs gs).calibrationShown e oe).setReg (Obj.engineState e) 2, rfl, sigma, ortho, fun h => absurd h good, fun _ => ⟨run, out, (s.calibrated e sgs gs).calibrationShown_regs e oe 2⟩⟩

/-- Settles O34: holds and withdrawals by the folds over the tenant's open instances, the engines by what one block and one calibration set. -/
theorem holdsAndSketchEngines : Obligations.HoldsAndSketchEngines := by
  refine ⟨?_, ?_, ?_, ?_, fun _ _ => State.endHold_idle, fun _ _ => rfl, ?_, ?_, ?_, ?_, fun _ _ => rfl, ?_, ?_, ?_,
    fun _ _ _ => sketchBlockProject_idle, ?_, ?_, ?_⟩
  case refine_1 => exact fun s sess n _ may held => (collectiveHold_may may).trans (congrArg Host.Outcome.next (if_pos held))
  case refine_2 =>
    intro s sess n low may free
    have other : Obj.uptime ≠ Obj.collectiveHold n := by simp only [Obj.uptime, Obj.collectiveHold, obj]; omega
    refine ⟨s.setReg (Obj.collectiveHold n) 1, State.reg_setReg_same _ _ _, s.onlyRegs_setReg _ 1, ?_⟩
    rw [collectiveHold_may may, if_neg free, s.beginHold_setReg other]
  case refine_3 => exact fun s sess n _ may free => (collectiveHoldEnd_may may).trans (congrArg Host.Outcome.next (if_pos free))
  case refine_4 =>
    intro s sess n _ may held
    refine ⟨s.setReg (Obj.collectiveHold n) 0, State.reg_setReg_same _ _ _, s.onlyRegs_setReg _ 0, ?_⟩
    rw [collectiveHoldEnd_may may, if_neg held]
  case refine_5 =>
    intro s n idle
    refine (holdBeacon_run s n).trans (congrArg Host.Outcome.next (if_neg ?_))
    rcases idle with h | h <;> simp [h]
  case refine_6 =>
    intro s n held up
    exact (holdBeacon_run s n).trans (congrArg Host.Outcome.next (if_pos (by rw [held, up]; rfl)))
  case refine_7 =>
    intro s chip epoch plan inst up current new
    exact (holdBeaconReceive_run s chip epoch plan inst).trans (congrArg Host.Outcome.next (if_pos ⟨up, current, new⟩))
  case refine_8 =>
    intro s chip epoch plan inst ignored
    refine (holdBeaconReceive_run s chip epoch plan inst).trans (congrArg Host.Outcome.next (if_neg ?_))
    rintro ⟨up, current, new⟩
    rcases ignored with h | h | h
    exacts [absurd (up.symm.trans h) (by decide), absurd current (by omega), new h]
  case refine_9 =>
    intro s n free
    exact if_pos (by rw [free]; rfl)
  case refine_10 =>
    intro s n held
    exact ⟨_, if_neg (by rw [held]; decide), withdrawn_foldl _ s⟩
  case refine_11 => exact fun s n chip plan inst => ⟨_, rfl, peerWithdrew_foldl chip _ s⟩
  case refine_12 =>
    intro s e outs b bs engine serves block
    refine ⟨_, sketchBlockProject_block engine serves block, Sparse.get_set_same _ _ _ _,
      fun f other => Sparse.get_set_other _ _ _ _ _ _ other, ?_, fun k other => Sparse.get_set_other _ _ _ _ _ _ other, rfl,
      State.reg_setReg_same _ _ _, State.onlyRegs_setReg _ _ _⟩
    rw [State.skGroup_count, State.skGroup_setSkGroup]
    dsimp only
    rw [SkGroup.addBlock_vectors]
    exact ⟨Sparse.get_set_same _ _ _ _, fun k other => Sparse.get_set_other _ _ _ _ _ _ other,
      Sparse.get_set_same _ _ _ _, fun k other => Sparse.get_set_other _ _ _ _ _ _ other, rfl⟩
  case refine_13 =>
    intro s e oe sgs gs off
    exact if_pos off
  case refine_14 =>
    intro s e oe sgs gs engine calibrates six code
    obtain ⟨u, sketch, ends⟩ := sketchCalibrationEnd_ends (gs := gs) (oe := oe) engine calibrates six code
    refine ⟨u, ?_, ?_, ?_, ?_, ?_, ends⟩
    all_goals rw [sketch]
    · exact fun i low => get_calibrated_sigma s gs six low
    · exact fun k other => get_calibrated_sigma_other s gs six other
    · exact Sparse.get_set_same _ _ _ _
    · exact fun k other => Sparse.get_set_other _ _ _ _ _ _ other
    · rfl

end Sys2Proof.Machine
end

section
/-! What no command of a tick may do (R15, R61): change the uptime counter, which counts the tick itself. -/

namespace Sys2Proof.Machine

/-- State `t` shows the uptime of `s`. -/
def Clocked (s t : State) : Prop := t.up = s.up

/-- A command answers a next state that shows the uptime of `s`. -/
def ClockedNext (s : State) (o : Host.Outcome State Fault Refusal) : Prop := ∃ t, o = .next t ∧ Clocked s t

variable {s t u : State}

/-- A change of other fields leaves the uptime. -/
theorem Clocked.same (h : Clocked s t) (regs : u.regs = t.regs := by rfl) : Clocked s u :=
  (congrArg (Sparse.get (regDefault Obj.uptime) Obj.uptime) regs).trans h

/-- So does a write of another object. -/
theorem Clocked.setReg (h : Clocked s t) {k v : Nat} (other : Obj.uptime ≠ k := by
      simp only [Obj.uptime, Obj.accessViolationCount, Obj.creditWaitCycles, Obj.agentBusyCycles, Obj.tileReplayCount, Obj.fatalCount, Obj.containedCount, Obj.correctedCount, Obj.deepCorrectedCount, Obj.deepUncorrectedCount, Obj.mainCorrectedCount, Obj.mainUncorrectedCount, Obj.preloadMissCount, Obj.windowTruncationCount, Obj.stochasticStepCount, Obj.versionFaultCount, Obj.eventDropCount, Obj.lastFaultEvent, Obj.retransmitBytes, Obj.logSkipCount, Obj.numericFaultCount, Obj.partitionFaultCount, Obj.missedDeadlineCounts, Obj.tagWaitCount, Obj.versionWaitCount, Obj.streamCycles, obj]; omega) : Clocked s (t.setReg k v) :=
  (State.reg_setReg_other _ _ _ _ other).trans h

theorem Clocked.addReg (h : Clocked s t) {w k a : Nat} (other : Obj.uptime ≠ k := by
      simp only [Obj.uptime, Obj.accessViolationCount, Obj.creditWaitCycles, Obj.agentBusyCycles, Obj.tileReplayCount, Obj.fatalCount, Obj.containedCount, Obj.correctedCount, Obj.deepCorrectedCount, Obj.deepUncorrectedCount, Obj.mainCorrectedCount, Obj.mainUncorrectedCount, Obj.preloadMissCount, Obj.windowTruncationCount, Obj.stochasticStepCount, Obj.versionFaultCount, Obj.eventDropCount, Obj.lastFaultEvent, Obj.retransmitBytes, Obj.logSkipCount, Obj.numericFaultCount, Obj.partitionFaultCount, Obj.missedDeadlineCounts, Obj.tagWaitCount, Obj.versionWaitCount, Obj.streamCycles, obj]; omega) : Clocked s (t.addReg w k a) :=
  h.setReg other

theorem Clocked.count (h : Clocked s t) {w k : Nat} (other : Obj.uptime ≠ k := by
      simp only [Obj.uptime, Obj.accessViolationCount, Obj.creditWaitCycles, Obj.agentBusyCycles, Obj.tileReplayCount, Obj.fatalCount, Obj.containedCount, Obj.correctedCount, Obj.deepCorrectedCount, Obj.deepUncorrectedCount, Obj.mainCorrectedCount, Obj.mainUncorrectedCount, Obj.preloadMissCount, Obj.windowTruncationCount, Obj.stochasticStepCount, Obj.versionFaultCount, Obj.eventDropCount, Obj.lastFaultEvent, Obj.retransmitBytes, Obj.logSkipCount, Obj.numericFaultCount, Obj.partitionFaultCount, Obj.missedDeadlineCounts, Obj.tagWaitCount, Obj.versionWaitCount, Obj.streamCycles, obj]; omega) : Clocked s (t.count w k) :=
  h.addReg other

theorem Clocked.ite {c : Prop} {_ : Decidable c} (ht : Clocked s t) (hu : Clocked s u) : Clocked s (if c then t else u) := by
  split
  · exact ht
  · exact hu

theorem Clocked.foldl {α : Type} {f : State → α → State} {l : List α} (h : Clocked s t)
    (hf : ∀ u a, Clocked s u → Clocked s (f u a)) : Clocked s (l.foldl f t) := by
  induction l generalizing t with
  | nil => exact h
  | cons a l ih => exact ih (hf t a h)

theorem Clocked.next (h : Clocked s t) : ClockedNext s (.next t) := ⟨t, rfl, h⟩

theorem ClockedNext.ite {c : Prop} {_ : Decidable c} {a b : Host.Outcome State Fault Refusal} (ha : ClockedNext s a) (hb : ClockedNext s b) :
    ClockedNext s (if c then a else b) := by
  split
  · exact ha
  · exact hb

theorem Clocked.ite_fst {α : Type} {c : Prop} {_ : Decidable c} {p q : State × α} (hp : Clocked s p.1) (hq : Clocked s q.1) :
    Clocked s (if c then p else q).1 := by
  split
  · exact hp
  · exact hq

theorem Clocked.ite_snd {α : Type} {c : Prop} {_ : Decidable c} {p q : α × State} (hp : Clocked s p.2) (hq : Clocked s q.2) :
    Clocked s (if c then p else q).2 := by
  split
  · exact hp
  · exact hq

theorem Clocked.foldl_fst {α β : Type} {f : State × β → α → State × β} {l : List α} {p : State × β} (h : Clocked s p.1)
    (hf : ∀ p a, Clocked s p.1 → Clocked s (f p a).1) : Clocked s (l.foldl f p).1 := by
  induction l generalizing p with
  | nil => exact h
  | cons a l ih => exact ih (hf p a h)

/-! States inside the answers of operations -/

/-- The state that an operation gives, if it gives one, shows the uptime of `s`. -/
def ClockedOpt (s : State) (o : Option State) : Prop := ∀ ⦃u⦄, o = some u → Clocked s u

/-- The same of a state that comes behind a version. -/
def ClockedSnd (s : State) (o : Option (Nat × State)) : Prop := ∀ ⦃p⦄, o = some p → Clocked s p.2

theorem ClockedOpt.none : ClockedOpt s none := fun _ h => nomatch h

theorem ClockedOpt.some (h : Clocked s t) : ClockedOpt s (some t) := by
  rintro _ ⟨⟩
  exact h

theorem ClockedOpt.ite {c : Prop} {_ : Decidable c} {a b : Option State} (ha : ClockedOpt s a) (hb : ClockedOpt s b) : ClockedOpt s (if c then a else b) := by
  split
  · exact ha
  · exact hb

theorem ClockedSnd.none : ClockedSnd s none := fun _ h => nomatch h

theorem ClockedSnd.some {p : Nat × State} (h : Clocked s p.2) : ClockedSnd s (some p) := by
  rintro _ ⟨⟩
  exact h

theorem ClockedSnd.ite {c : Prop} {_ : Decidable c} {a b : Option (Nat × State)} (ha : ClockedSnd s a) (hb : ClockedSnd s b) :
    ClockedSnd s (if c then a else b) := by
  split
  · exact ha
  · exact hb

/-- The state in a resolved version (R272). -/
def VRes.Shows (s : State) : VRes → Prop
  | .ok _ u => Clocked s u
  | .wait _ u => Clocked s u
  | .fault => True

/-- The state in a prepared operand (R219, R272). -/
def Prep.Shows (s : State) : Prep → Prop
  | .ready _ _ u => Clocked s u
  | .fault _ _ u => Clocked s u
  | .wait _ u => Clocked s u

/-- The state in prepared operands. -/
def Preps.Shows (s : State) : Preps → Prop
  | .ready _ u => Clocked s u
  | .fault _ _ _ u => Clocked s u
  | .wait _ u => Clocked s u

/-- The state in the answer of a store (R91, R350). -/
def Stored.Shows (s : State) : Stored → Prop
  | .done u _ => Clocked s u
  | .full => True
  | .bad u => Clocked s u

theorem VRes.Shows.of {a b : VRes} (h : a.Shows s) (eq : a = b) : b.Shows s := eq ▸ h

theorem Prep.Shows.of {a b : Prep} (h : a.Shows s) (eq : a = b) : b.Shows s := eq ▸ h

theorem Preps.Shows.of {a b : Preps} (h : a.Shows s) (eq : a = b) : b.Shows s := eq ▸ h

theorem Stored.Shows.of {a b : Stored} (h : a.Shows s) (eq : a = b) : b.Shows s := eq ▸ h

theorem VRes.Shows.ite {c : Prop} {_ : Decidable c} {a b : VRes} (ha : a.Shows s) (hb : b.Shows s) : (if c then a else b).Shows s := by
  split
  · exact ha
  · exact hb

theorem Prep.Shows.ite {c : Prop} {_ : Decidable c} {a b : Prep} (ha : a.Shows s) (hb : b.Shows s) : (if c then a else b).Shows s := by
  split
  · exact ha
  · exact hb

end Sys2Proof.Machine
end

section
/-! The uptime is left alone. The named operations every family shares. -/

namespace Sys2Proof.Machine

set_option Elab.async false

variable {s t : State}

theorem Clocked.setCore (h : Clocked s t) {c : Nat} {v : Core} : Clocked s (t.setCore c v) := h.same

theorem Clocked.setCtx (h : Clocked s t) {c x : Nat} {v : Ctx} : Clocked s (t.setCtx c x v) := h.same

theorem Clocked.setTenant (h : Clocked s t) {n : Nat} {v : Tenant} : Clocked s (t.setTenant n v) := h.same

theorem Clocked.setQueue (h : Clocked s t) {q : Nat} {v : Queue} : Clocked s (t.setQueue q v) := h.same

theorem Clocked.setWork (h : Clocked s t) {w : Nat} {v : Work} : Clocked s (t.setWork w v) := h.same

theorem Clocked.setEntry (h : Clocked s t) {e : Nat} {v : Entry} : Clocked s (t.setEntry e v) := h.same

theorem Clocked.bump (h : Clocked s t) {k : Nat} : Clocked s (t.bump k) := h.same

theorem Clocked.setSlot (h : Clocked s t) {j : Nat} {v : Slot} : Clocked s (t.setSlot j v) := h.same

theorem Clocked.setPort (h : Clocked s t) {p : Nat} {v : Port} : Clocked s (t.setPort p v) := h.same

theorem Clocked.setLatch (h : Clocked s t) {k : Nat} {v : Latch} : Clocked s (t.setLatch k v) := h.same

theorem Clocked.setCapture (h : Clocked s t) {k : Nat} {v : Capture} : Clocked s (t.setCapture k v) := h.same

theorem Clocked.setSession (h : Clocked s t) {v : Session} : Clocked s (t.setSession v) := h.same

theorem Clocked.emit (h : Clocked s t) {m : Msg} : Clocked s (t.emit m) := h.same

theorem Clocked.draw (h : Clocked s t) {w : Nat} : Clocked s (t.draw w).2 := h.same

theorem Clocked.fresh (h : Clocked s t) : Clocked s (t.fresh).2 := h.same

theorem Clocked.transmit (h : Clocked s t) {m : EthMsg} : Clocked s (t.transmit m) := Clocked.ite h.same h.emit

theorem Clocked.solicit (h : Clocked s t) {port hop : Nat} : Clocked s (t.solicit port hop) := h.transmit

theorem Clocked.sendIp (h : Clocked s t) {port : Nat} {rdma : Bool} {peer : Nat} {m : Msg} :
    Clocked s (t.sendIp port rdma peer m) :=
  Clocked.ite h.transmit (Clocked.ite h.same h.same.solicit.solicit.solicit)

theorem Clocked.sendControl (h : Clocked s t) {net peer : Nat} {m : Msg} : Clocked s (t.sendControl net peer m) := h.sendIp

theorem Clocked.sendSession (h : Clocked s t) {id net peer : Nat} {m : Msg} : Clocked s (t.sendSession id net peer m) := by
  unfold State.sendSession
  split
  · exact h.setSession.sendControl
  · exact h.sendControl

theorem Clocked.pump (h : Clocked s t) {x : Session} : Clocked s (t.pump x) := h.setSession.foldl fun _ _ k => k.sendSession

theorem Clocked.notify (h : Clocked s t) {k : Nat} {value : List Byte} : Clocked s (t.notify k value) := by
  unfold State.notify
  refine Clocked.foldl h (fun _ _ k2 => ?_)
  split
  · exact Clocked.ite k2.pump k2
  · exact k2

theorem Clocked.raise (h : Clocked s t) {k : Nat} {value : List Byte} (other : Obj.uptime ≠ k) : Clocked s (t.raise k value) :=
  (h.setReg other).notify

theorem Clocked.vetoStep (h : Clocked s t) {n step : Nat} : Clocked s (t.vetoStep n step) := h.setTenant

theorem Clocked.collect (h : Clocked s t) {r : FaultRep} : Clocked s (t.collect r) := by
  unfold State.collect
  dsimp only
  refine Clocked.setCapture ?_
  refine Clocked.setCapture ?_
  split
  · exact h.setCapture
  · exact h

theorem Clocked.latchStatus (h : Clocked s t) {r : FaultRep} : Clocked s (t.latchStatus r) := h.setLatch.setLatch

theorem Clocked.countClass (h : Clocked s t) {r : FaultRep} : Clocked s (t.countClass r) :=
  Clocked.ite h.count (Clocked.ite h.count h.count)

theorem Clocked.faultEvent (h : Clocked s t) {r : FaultRep} : Clocked s (t.faultEvent r) := by
  have other : Obj.uptime ≠ Obj.lastFaultEvent := by decide
  exact .ite h (.ite (Clocked.raise h.same other) h.count)

theorem Clocked.logFault (h : Clocked s t) {r : FaultRep} : Clocked s (t.logFault r) :=
  Clocked.ite h (Clocked.ite h.count h.same.bump)

theorem Clocked.reportOnly (h : Clocked s t) {r : FaultRep} : Clocked s (t.reportOnly r) := by
  unfold State.reportOnly
  dsimp only
  split
  · exact Clocked.ite h.collect.latchStatus.countClass.faultEvent.logFault.vetoStep
      h.collect.latchStatus.countClass.faultEvent.logFault
  · exact h.collect.latchStatus.countClass.faultEvent.logFault

/-- A report stops the package only if it is fatal (R613). -/
theorem Clocked.report (h : Clocked s t) {r : FaultRep} (contained : r.cls ≠ 3) : Clocked s (t.report r) := by
  rw [State.report, if_neg contained]
  exact h.reportOnly

end Sys2Proof.Machine
end

section
/-! The uptime is left alone. Memory. -/

namespace Sys2Proof.Machine

set_option Elab.async false

variable {s t : State}

theorem Clocked.wrByte (h : Clocked s t) {alloc off : Nat} {b : Byte} : Clocked s (t.wrByte alloc off b) := h.same

theorem Clocked.setPoison (h : Clocked s t) {alloc line : Nat} {v : Bool} : Clocked s (t.setPoison alloc line v) := h.same

theorem Clocked.injectPoison (h : Clocked s t) {alloc line : Nat} : Clocked s (t.injectPoison alloc line) := h.same

theorem Clocked.countDevice (h : Clocked s t) {die unit : Nat} {corrected : Bool} :
    Clocked s (t.countDevice die unit corrected) :=
  Clocked.ite (Clocked.ite h.count h.count) (Clocked.ite (Clocked.ite h.count h.count) h)

theorem Clocked.countLine (h : Clocked s t) {u' : Upper} {off : Nat} {corrected : Bool} :
    Clocked s (t.countLine u' off corrected) :=
  Clocked.ite h.countDevice (Clocked.ite h.countDevice h)

theorem Clocked.copyError (h : Clocked s t) {e : Entry} {u' : Upper} {off master access : Nat} {corrected injected : Bool} :
    Clocked s (t.copyError e u' off master access corrected injected) := by
  refine Clocked.report (.ite h.countLine (.ite h.countLine.injectPoison h.countLine.setPoison)) ?_
  cases corrected <;> exact fun fatal => nomatch fatal

theorem Clocked.lineError (h : Clocked s t) {e : Entry} {off master access : Nat} {corrected injected : Bool} :
    Clocked s (t.lineError e off master access corrected injected) :=
  h.copyError

theorem Clocked.meetInjections (h : Clocked s t) {n : Nat} {offs : List Nat} {v : VSel} {master access : Nat} :
    Clocked s (t.meetInjections n offs v master access) := by
  unfold State.meetInjections
  refine Clocked.foldl h (fun _ _ k2 => ?_)
  split
  · exact k2
  · split
    · exact k2
    · exact k2.same.lineError

theorem Clocked.poke (h : Clocked s t) {n off : Nat} {v : VSel} {b : Byte} : Clocked s (t.poke n off v b) := by
  unfold State.poke
  dsimp only
  split
  · exact h
  · exact Clocked.ite h.wrByte.setEntry h.wrByte

theorem Clocked.pokeAll (h : Clocked s t) {n : Nat} {v : VSel} {ws : List (Nat × Byte)} : Clocked s (t.pokeAll n v ws).1 := by
  unfold State.pokeAll
  refine Clocked.foldl_fst h fun p w k => ?_
  split
  · exact k
  · split
    · split
      · exact k
      · exact k.setPoison.poke
    · exact k.poke

theorem Clocked.pokeRun (h : Clocked s t) {n off : Nat} {v : VSel} {bs : List Byte} : Clocked s (t.pokeRun n off v bs).1 :=
  h.pokeAll

theorem Clocked.accessViolation (h : Clocked s t) {n : Nat} : Clocked s (t.accessViolation n) := h.count

theorem Clocked.hostStore (h : Clocked s t) {n off : Nat} {bs : List Byte} : Clocked s (t.hostStore n off bs).1 := h.pokeAll

theorem Clocked.wakeFeeds (h : Clocked s t) : Clocked s (t.wakeFeeds) := h.same

theorem Clocked.storeHeld (h : Clocked s t) {w : HeldWrite} : Clocked s (t.storeHeld w) := by
  have stored : Clocked s (t.pokeRun w.tenant w.offset .plain w.bytes).1 := h.pokeRun
  unfold State.storeHeld
  split
  rename_i u bad run
  rw [run] at stored
  extract_lets t1
  have reported : Clocked s t1 := .ite (Clocked.report stored (fun fatal => nomatch fatal)) stored
  split
  · exact (reported.same).wakeFeeds
  · exact reported

theorem Clocked.resumeWrites (h : Clocked s t) : Clocked s (t.resumeWrites) :=
  h.foldl fun _ _ k => Clocked.ite k k.same.storeHeld

end Sys2Proof.Machine
end

section
/-! The uptime is left alone. Weight versions (R268 to R278). -/

namespace Sys2Proof.Machine

set_option Elab.async false

variable {s t : State}

theorem Clocked.mapEntries (h : Clocked s t) {f : Entry → Entry} : Clocked s (t.mapEntries f) := h.same

theorem Clocked.openPending (h : Clocked s t) {n base : Nat} : ClockedOpt s (t.openPending n base) := by
  unfold State.openPending
  split
  · exact ClockedOpt.none
  · exact ClockedOpt.some h.setEntry

theorem Clocked.tagFor (h : Clocked s t) {a : Asker} : ClockedSnd s (t.tagFor a) := by
  unfold State.tagFor
  dsimp only
  split
  · exact ClockedSnd.some (Clocked.ite h.setTenant h)
  · exact ClockedSnd.ite (ClockedSnd.some h.setTenant) ClockedSnd.none

theorem Clocked.resolveRead (h : Clocked s t) {a : Asker} {off vtag : Nat} {flagV : Bool} :
    (t.resolveRead a off vtag flagV).Shows s := by
  unfold State.resolveRead
  split
  · exact h
  · refine .ite h (.ite h (.ite trivial ?_))
    split <;> rename_i eq
    · exact h.count
    · exact .ite (h.tagFor eq) trivial

theorem Clocked.resolveWrite (h : Clocked s t) {a : Asker} {off vtag : Nat} {flagV : Bool} :
    (t.resolveWrite a off vtag flagV).Shows s := by
  unfold State.resolveWrite
  split
  · exact h
  · refine .ite h (.ite trivial (.ite trivial (.ite h (.ite trivial (.ite h ?_)))))
    split <;> rename_i eq
    · exact h.openPending eq
    · exact h.count

theorem Clocked.freeRetained (h : Clocked s t) {n : Nat} : Clocked s (t.freeRetained n) := h.mapEntries

theorem Clocked.tagReleased (h : Clocked s t) {n : Nat} : Clocked s (t.tagReleased n) := h.same

theorem Clocked.releaseTags (h : Clocked s t) {n : Nat} {p : Tag → Bool} : Clocked s (t.releaseTags n p) :=
  ((Clocked.ite h.tagReleased h).setTenant).freeRetained

end Sys2Proof.Machine
end

section
/-! The uptime is left alone. Operands. -/

namespace Sys2Proof.Machine

set_option Elab.async false

variable {s t : State}

theorem Clocked.resolveAt (h : Clocked s t) {a : Asker} {d : Desc} {tag : Nat} {write : Bool} :
    (t.resolveAt a d tag write).Shows s := by
  have resolved : (if write then t.resolveWrite a (t.versionOff a.n d) tag d.v else t.resolveRead a (t.versionOff a.n d) tag
    d.v).Shows s :=
    .ite h.resolveWrite h.resolveRead
  unfold State.resolveAt
  refine .ite h ?_
  dsimp only
  split <;> rename_i eq
  · exact h
  · exact resolved.of eq
  · exact .ite h (resolved.of eq)

theorem Clocked.meetAt (h : Clocked s t) {n : Nat} {d : Desc} {v : VSel} {write : Bool} {master : Nat} {offs : List Nat} :
    (t.meetAt n d v write master offs).Shows s := by
  unfold State.meetAt
  extract_lets met u
  have hu : Clocked s u := h.meetInjections
  exact .ite hu hu

theorem Clocked.prepAt (h : Clocked s t) {a : Asker} {d : Desc} {tag : Nat} {write : Bool} {master : Nat} {offs : List Nat} :
    (t.prepAt a d tag write master offs).Shows s := by
  unfold State.prepAt
  split
  · exact h
  · split
    · exact h
    · split <;> rename_i eq
      · exact (h.resolveAt.of eq : Clocked s _).meetAt
      · exact h.resolveAt

theorem Clocked.endKernels (h : Clocked s t) {c x : Nat} : Clocked s (t.endKernels c x) := Clocked.ite h h.setCore.setCtx

theorem Clocked.stopFaulted (h : Clocked s t) {c x unit access : Nat} : Clocked s (t.stopFaulted c x unit access) :=
  h.endKernels.setCtx

theorem Clocked.faultCtx (h : Clocked s t) {c x unit cause access addr part : Nat} :
    Clocked s (t.faultCtx c x unit cause access addr part) := by
  unfold State.faultCtx
  extract_lets w s1 s2
  have stopped : Clocked s s1 := h.stopFaulted
  have counted : Clocked s s2 := by
    refine .ite ?_ stopped
    cases w with
    | none => exact stopped
    | some p => exact stopped.count
  exact counted.report (fun fatal => nomatch fatal)

end Sys2Proof.Machine
end

section
/-! The uptime is left alone. The deadline arbiters (R495 to R498). -/

namespace Sys2Proof.Machine

set_option Elab.async false

variable {s t : State}

theorem Clocked.drawJitter (h : Clocked s t) {site : Nat} : Clocked s (t.drawJitter site).2 :=
  Clocked.ite_snd h (h.draw (w := 24))

theorem Clocked.ask (h : Clocked s t) {site requester deadline : Nat} : Clocked s (t.ask site requester deadline) :=
  h.drawJitter.same

theorem Clocked.askTimes (h : Clocked s t) {k site requester deadline : Nat} :
    Clocked s (t.askTimes k site requester deadline) :=
  h.foldl fun _ _ k => k.ask

end Sys2Proof.Machine
end

section
/-! The uptime is left alone. The flags and counts an instruction makes. -/

namespace Sys2Proof.Machine

set_option Elab.async false

variable {s t : State}

theorem Clocked.judge (h : Clocked s t) {n slot : Nat} {step : Option Nat} {unit : Nat} {gradient : Bool} {c : Counts} :
    Clocked s (t.judge n slot step unit gradient c) := by
  unfold State.judge
  dsimp only
  split
  · exact h.setSlot
  · exact Clocked.ite h.setSlot h

theorem Clocked.judgeDesc (h : Clocked s t) {k : Work} {d : Desc} {unit : Nat} {c : Counts} :
    Clocked s (t.judgeDesc k d unit c) :=
  Clocked.ite h.judge h

end Sys2Proof.Machine
end

section
/-! The uptime is left alone. Conversions into tensors (R91 to R113). -/

namespace Sys2Proof.Machine

set_option Elab.async false

variable {s t : State}

theorem Clocked.setField (h : Clocked s t) {n off len v : Nat} : Clocked s (t.setField n off len v) := h.pokeRun

theorem Clocked.listRec (h : Clocked s t) {n step off : Nat} : ClockedOpt s (t.listRec n step off) := by
  unfold State.listRec
  dsimp only
  split
  · exact ClockedOpt.ite (ClockedOpt.some h) (ClockedOpt.ite (ClockedOpt.some h.setTenant) ClockedOpt.none)
  · exact ClockedOpt.ite (ClockedOpt.some h) (ClockedOpt.ite (ClockedOpt.some h.setTenant) ClockedOpt.none)

theorem Clocked.recordMax (h : Clocked s t) {n step off fmt mag : Nat} : Clocked s (t.recordMax n step off fmt mag) :=
  Clocked.ite h.setField.setField h.setField

theorem Clocked.listMax (h : Clocked s t) {n st : Nat} {d : Desc} {srcBits : Nat} {mags : List Num} :
    ClockedOpt s (t.listMax n st d srcBits mags) := by
  unfold State.listMax
  split
  · intro u eq
    obtain ⟨v, listed, rfl⟩ := Option.map_eq_some_iff.1 eq
    exact (h.listRec listed).recordMax
  · exact ClockedOpt.some h

theorem Clocked.storeWith (h : Clocked s t) {n : Nat} {step : Option Nat} {d : Desc} {v : VSel} {m : ConvMode} {srcBits : Nat}
    {vals mags : List Num} : (t.storeWith n step d v m srcBits vals mags).Shows s := by
  unfold State.storeWith
  dsimp only
  split
  · exact h
  · split
    · exact trivial
    · rename_i eq
      split
      · exact ((((Clocked.ite h.setField h).listMax eq)).pokeAll).pokeAll
      · exact ((((Clocked.ite h.setField h).listMax eq)).pokeAll).pokeAll

theorem Clocked.storePart (h : Clocked s t) {n : Nat} {step : Option Nat} {d : Desc} {v : VSel} {m : ConvMode} {vals : List Num}
    {keep : Nat → Nat → Bool} : Clocked s (t.storePart n step d v m vals keep) :=
  Clocked.ite h (((Clocked.ite h.setField h).pokeAll).pokeAll)

theorem Clocked.storeValues (h : Clocked s t) {n : Nat} {step : Option Nat} {d : Desc} {v : VSel} {m : ConvMode} {srcBits : Nat}
    {vals : List Num} : (t.storeValues n step d v m srcBits vals).Shows s :=
  h.storeWith

end Sys2Proof.Machine
end

section
/-! The uptime is left alone. How collective instances end. -/

namespace Sys2Proof.Machine

set_option Elab.async false

variable {s t : State}

theorem Clocked.mapInsts (h : Clocked s t) {p : Inst → Bool} {f : Inst → Inst} : Clocked s (t.mapInsts p f) := h.same

theorem Clocked.setInst (h : Clocked s t) {i : Inst} : Clocked s (t.setInst i) := h.mapInsts

end Sys2Proof.Machine
end

section
/-! The uptime is left alone. The die links. -/

namespace Sys2Proof.Machine

set_option Elab.async false

variable {s t : State}

theorem Clocked.setDieLink (h : Clocked s t) {k : Nat} {v : DieLink} : Clocked s (t.setDieLink k v) := h.same

theorem Clocked.queueFlit (h : Clocked s t) {die : Nat} {f : Flit} : Clocked s (t.queueFlit die f) := by
  unfold State.queueFlit
  dsimp only
  split
  · exact h
  · split
    · exact h
    · exact h.setDieLink.ask

theorem Clocked.settleLink (h : Clocked s t) {k : Nat} : Clocked s (t.settleLink k) :=
  h.setDieLink.foldl fun _ _ k => k.queueFlit

theorem Clocked.crossFlit (h : Clocked s t) {k cls : Nat} : Clocked s (t.crossFlit k cls) := by
  unfold State.crossFlit
  dsimp only
  split
  · exact h
  · exact h.setDieLink.settleLink

theorem Clocked.crossDies (h : Clocked s t) {a b cls deadline : Nat} {data : List Byte} :
    Clocked s (t.crossDies a b cls deadline data) :=
  h.foldl fun _ _ k => k.queueFlit

theorem Clocked.grant (h : Clocked s t) {site : Nat} : Clocked s (t.grant site) := by
  unfold State.grant
  split
  · exact h
  · refine .ite (Clocked.crossFlit ?_) ?_
    · exact .ite (Clocked.setReg (k := Obj.missedDeadlineCounts site) h.same) h.same
    · exact .ite (Clocked.setReg (k := Obj.missedDeadlineCounts site) h.same) h.same

end Sys2Proof.Machine
end

section
/-! The uptime is left alone. Packets and streams (R473 to R491). -/

namespace Sys2Proof.Machine

set_option Elab.async false

variable {s t : State}

theorem Clocked.setTx (h : Clocked s t) {chip channel : Nat} {v : TxStream} : Clocked s (t.setTx chip channel v) := h.same

theorem Clocked.useCredit (h : Clocked s t) {port cls n : Nat} : Clocked s (t.useCredit port cls n) :=
  Clocked.ite h.setPort (Clocked.ite h.setPort h)

theorem Clocked.arbitrate (h : Clocked s t) : Clocked s (t.arbitrate) :=
  ((h.foldl fun _ _ k => k.settleLink).foldl fun _ _ k1 => k1.grant).foldl fun _ _ k2 => k2.count

theorem Clocked.leave (h : Clocked s t) {die port cls : Nat} {p : Packet} : Clocked s (t.leave die port cls p) :=
  h.crossDies.useCredit.askTimes.emit

theorem Clocked.holdSent (h : Clocked s t) {p : Packet} {port : Nat} : Clocked s (t.holdSent p port) := by
  unfold State.holdSent
  extract_lets v s1
  have held : Clocked s s1 := .ite (h.setTx.setReg (k := Obj.retransmitBytes port)) h
  exact .ite held.same (.ite held.same held)

end Sys2Proof.Machine
end

section
/-! The uptime is left alone. RoCEv2 as requester and what queue pairs share (R714, R715, R718 to R720). -/

namespace Sys2Proof.Machine

set_option Elab.async false

variable {s t : State}

theorem Clocked.setQp (h : Clocked s t) {i : Nat} {v : Qp} : Clocked s (t.setQp i v) := h.same

theorem Clocked.sendRdma (h : Clocked s t) {i : Nat} {m : Msg} : Clocked s (t.sendRdma i m) := h.sendIp

theorem Clocked.pushCompletion (h : Clocked s t) {q : Nat} {c : Completion} : Clocked s (t.pushCompletion q c) := by
  unfold State.pushCompletion
  dsimp only
  split
  · exact h
  · exact Clocked.ite h.setQp.sendRdma h

end Sys2Proof.Machine
end

section
/-! The uptime is left alone. Work items. -/

namespace Sys2Proof.Machine

set_option Elab.async false

variable {s t : State}

theorem Clocked.writeCompletion (h : Clocked s t) {w : Nat} {k : Work} : Clocked s (t.writeCompletion w k) :=
  Clocked.ite h.same h.same.pushCompletion

theorem Clocked.endWork (h : Clocked s t) {w : Nat} {k : Work} {status detail : Nat} :
    Clocked s (t.endWork w k status detail) :=
  Clocked.ite ((Clocked.ite ((Clocked.ite h.releaseTags h).setQueue) (Clocked.ite h.releaseTags h)).writeCompletion)
    ((Clocked.ite ((Clocked.ite h.releaseTags h).setQueue) (Clocked.ite h.releaseTags h)).setWork)

end Sys2Proof.Machine
end

section
/-! The uptime is left alone. Issuing an instruction that names operands. -/

namespace Sys2Proof.Machine

set_option Elab.async false

variable {s t : State}

theorem Clocked.resolveAll (h : Clocked s t) {a : Asker} {ops : List OpAsk} : (t.resolveAll a ops).Shows s := by
  induction ops generalizing t with
  | nil => exact h
  | cons o os ih =>
    unfold State.resolveAll
    split <;> rename_i at'
    · exact h.resolveAt.of at'
    · exact h.resolveAt.of at'
    · have rest := ih (h.resolveAt.of at')
      split <;> rename_i eq
      · exact (rest.of eq : Clocked s _)
      · exact rest

theorem Clocked.meetAll (h : Clocked s t) {n unit : Nat} {ops : List (OpAsk × VSel)} : (t.meetAll n unit ops).Shows s := by
  induction ops generalizing t with
  | nil => exact h
  | cons o os ih =>
    unfold State.meetAll
    split <;> rename_i at'
    · exact h.meetAt.of at'
    · exact h.meetAt.of at'
    · have rest := ih (h.meetAt.of at')
      split <;> rename_i eq
      · exact (rest.of eq : Clocked s _)
      · exact rest

theorem Clocked.prepAll (h : Clocked s t) {a : Asker} {unit : Nat} {ops : List OpAsk} : (t.prepAll a unit ops).Shows s := by
  unfold State.prepAll
  split
  · exact h
  · split
    · exact h
    · split <;> rename_i eq
      · exact (h.resolveAll.of eq : Clocked s _).meetAll
      · exact h.resolveAll

theorem Clocked.opFault (h : Clocked s t) {c x unit part : Nat} {f : OpFault} {addr : Nat} {write : Bool} :
    Clocked s (t.opFault c x unit part f addr write) :=
  Clocked.ite h.faultCtx h.faultCtx

theorem Clocked.afterFault (h : Clocked s t) {e : OpFault} {u : State} (hu : Clocked s u) : Clocked s (t.afterFault e u) :=
  Clocked.ite (hu.same) h

theorem Clocked.descriptorFault (h : Clocked s t) {c x unit part : Nat} : Clocked s (t.descriptorFault c x unit part) :=
  h.opFault

theorem Clocked.finishStore (h : Clocked s t) {c x unit : Nat} {k : Work} {d : Desc} {r : Stored} (hr : r.Shows s) :
    Clocked s (t.finishStore c x unit k d r) := by
  cases r with
  | done u n => exact Clocked.judgeDesc hr
  | full => exact h.descriptorFault
  | bad u => exact Clocked.opFault hr

end Sys2Proof.Machine
end

section
/-! The uptime is left alone. The collective agents' shared operations. -/

namespace Sys2Proof.Machine

set_option Elab.async false

variable {s t : State}

theorem Clocked.withInst (h : Clocked s t) {i : Inst} {f : Inst → State} (hf : ∀ a, Clocked s (f a)) :
    Clocked s (t.withInst i f) := by
  unfold State.withInst
  split
  · exact hf _
  · exact h

theorem Clocked.sendNow (h : Clocked s t) {die : Nat} {p : Packet} : Clocked s (t.sendNow die p).1 := by
  unfold State.sendNow
  dsimp only
  split
  · exact h
  · exact Clocked.ite_fst h.leave.holdSent h

theorem Clocked.agentWrite (h : Clocked s t) {i : Inst} {p : Contrib} {slot : Nat} {vals : List Num} :
    Clocked s (t.agentWrite i p slot vals) := by
  unfold State.agentWrite
  dsimp only
  split
  · exact h
  · split
    · rename_i eq
      exact ((h.prepAt.of eq)).finishStore (((h.prepAt.of eq)).storeValues)
    · rename_i eq1
      exact ((h.prepAt.of eq1)).opFault
    · rename_i eq2
      exact h

theorem Clocked.writeRows (h : Clocked s t) {i : Inst} {p : Contrib} : Clocked s (t.writeRows i p) := by
  unfold State.writeRows
  dsimp only
  split
  · exact h
  · exact Clocked.ite h.agentWrite.pokeAll.opFault (Clocked.ite h.agentWrite.pokeAll.opFault h.agentWrite.pokeAll)

theorem Clocked.writeFor (h : Clocked s t) {i : Inst} {p : Contrib} : Clocked s (t.writeFor i p) := by
  unfold State.writeFor
  split
  · exact h
  · exact h.writeRows
  · exact h.agentWrite
  · exact h.agentWrite
  · exact h.agentWrite

theorem Clocked.recordBound (h : Clocked s t) {i : Inst} : Clocked s (t.recordBound i) := by
  unfold State.recordBound
  dsimp only
  split
  · exact Clocked.ite h (Clocked.ite (h.pokeRun.foldl fun _ _ k => k.opFault) h.pokeRun)
  · exact h

theorem Clocked.flushFeeds (h : Clocked s t) {i : Inst} : Clocked s (t.flushFeeds i) :=
  h.foldl fun _ _ k => Clocked.ite (k.sendNow.withInst (fun _ => k.sendNow.setInst)) k.sendNow

theorem Clocked.forwardFeed (h : Clocked s t) {i : Inst} {p : Contrib} : Clocked s (t.forwardFeed i p) := by
  unfold State.forwardFeed
  dsimp only
  split
  · exact h
  · exact (h.withInst (fun _ => h.setInst)).withInst (fun _ => (h.withInst (fun _ => h.setInst)).flushFeeds)

theorem Clocked.busy (h : Clocked s t) {core bytes : Nat} : Clocked s (t.busy core bytes) := h.addReg

theorem Clocked.writeResult (h : Clocked s t) {i : Inst} : Clocked s (t.writeResult i) :=
  (h.setInst.foldl fun _ _ k => k.writeFor.busy.forwardFeed).recordBound

end Sys2Proof.Machine
end

section
/-! The uptime is left alone. Running a matrix product on a partition (R130 to R154). -/

namespace Sys2Proof.Machine

set_option Elab.async false

variable {s t : State}

theorem Clocked.modCore (h : Clocked s t) {c : Nat} {f : Core → Core} : Clocked s (t.modCore c f) := h.setCore

theorem Clocked.partitionFault (h : Clocked s t) {c x part : Nat} {f : OpFault} {addr : Nat} {write : Bool} :
    Clocked s (t.partitionFault c x part f addr write) :=
  Clocked.ite h.opFault h.setCore.count.opFault

theorem Clocked.numericFault (h : Clocked s t) {c x part k : Nat} : Clocked s (t.numericFault c x part k) :=
  h.addReg.partitionFault

theorem Clocked.countPasses (h : Clocked s t) {c : Nat} {w : MmaWord} {M K N kp : Nat} {lost : List Bool} {int : Bool} :
    Clocked s (t.countPasses c w M K N kp lost int) :=
  h.addReg.addReg.addReg

theorem Clocked.countMiss (h : Clocked s t) {c part passes : Nat} : Clocked s (t.countMiss c part passes) :=
  Clocked.ite h h.count

theorem Clocked.issueMatrix (h : Clocked s t) {c x : Nat} {k : Work} {w : MmaWord} {m : Mma} {ds : List Desc} {counts : Counts}
    : Clocked s (t.issueMatrix c x k w m ds counts) :=
  h.modCore

theorem Clocked.putTileScales (h : Clocked s t) {n osc : Nat} {tout : Option (Desc × VSel)} {scales : Sparse Nat}
    {tiles : List (Nat × Nat)} : Clocked s (t.putTileScales n osc tout scales tiles) := by
  unfold State.putTileScales
  split
  · exact h
  · exact h.pokeAll

theorem Clocked.convertOut (h : Clocked s t) {c x : Nat} {k : Work} {w : MmaWord} {streams : Bool} {o : MmaOps}
    {y : Desc × VSel}
    {rows : List (List Num)} {empty : Bool} {after : Counts → State → State}
    (hafter : ∀ a u, Clocked s u → Clocked s (after a u)) :
    Clocked s (t.convertOut c x k w streams o y rows empty after) := by
  unfold State.convertOut
  extract_lets N tiles r s1 vals mode mags
  have h1 : Clocked s s1 := h.addReg
  have stored : (s1.storeWith k.tenant k.stepOf y.1 y.2 mode 40 vals mags).Shows s := h1.storeWith
  refine .ite h1.storePart.putTileScales.numericFault ?_
  split <;> rename_i eq
  · exact hafter _ _ (stored.of eq : Clocked s _).putTileScales
  · exact h1.partitionFault
  · exact (stored.of eq : Clocked s _).partitionFault

theorem Clocked.loadPlanes (h : Clocked s t) {c x : Nat} {k : Work} {w : MmaWord} {m : Mma} {o : MmaOps} :
    Clocked s (t.loadPlanes c x k w m o) :=
  h.countMiss.modCore

theorem Clocked.runProduct (h : Clocked s t) {c x : Nat} {k : Work} {w : MmaWord} {m : Mma} {a : AccWin} {o : MmaOps}
    {finish : Product → State → State} (hfinish : ∀ a u, Clocked s u → Clocked s (finish a u)) : Clocked s
    (t.runProduct c x k w m a o finish) := by
  unfold State.runProduct
  dsimp only
  split
  · exact h.loadPlanes.partitionFault
  · split
    · exact h.loadPlanes.partitionFault
    · exact hfinish _ _ h.loadPlanes.setCore.countPasses

end Sys2Proof.Machine
end

section
/-! The uptime is left alone. The instructions that start collectives. -/

namespace Sys2Proof.Machine

set_option Elab.async false

variable {s t : State}

theorem Clocked.runGathered (h : Clocked s t) {p : Contrib} : Clocked s (t.runGathered p) := by
  unfold State.runGathered
  dsimp only
  split
  · split
    · exact h
    · split
      · rename_i eq
        split
        · refine Clocked.runProduct ((h.prepAll.of eq)) (fun _ _ k3 => ?_)
          split
          · exact k3
          · exact k3.convertOut (fun _ _ k4 => k4.issueMatrix)
        · exact (h.prepAll.of eq)
      · rename_i eq5
        exact (h.afterFault ((h.prepAll.of eq5))).partitionFault
      · rename_i eq6
        exact (h.prepAll.of eq6)
  · exact h

theorem Clocked.finishWhole (h : Clocked s t) {i : Inst} : Clocked s (t.finishWhole i) :=
  h.withInst (fun _ => Clocked.ite (Clocked.ite (h.writeResult.foldl fun _ _ k1 => k1.runGathered) h.writeResult) h)

end Sys2Proof.Machine
end

section
/-! The uptime is left alone. The authentication of messages of open sessions (R662, R663) and the replies sent again (R663). -/

namespace Sys2Proof.Machine

set_option Elab.async false

variable {s t : State}

theorem Clocked.answerWith (h : Clocked s t) {e : Envelope} {m : Msg} : Clocked s (t.answerWith e m) := by
  unfold State.answerWith
  split
  · exact h.sendControl
  · exact h.setSession.sendControl

theorem Clocked.answer (h : Clocked s t) {e : Envelope} {kind items status : Nat} {body : List Byte} :
    Clocked s (t.answer e kind items status body) :=
  h.answerWith

end Sys2Proof.Machine
end

section
/-! The uptime is left alone. Work queues (R379 to R393, R399 to R401). -/

namespace Sys2Proof.Machine

set_option Elab.async false

variable {s t : State}

theorem Clocked.wrongMode (h : Clocked s t) {q : Nat} : Clocked s (t.wrongMode q) := h.setQueue

theorem Clocked.queueError (h : Clocked s t) {q : Nat} : Clocked s (t.queueError q) := h.setQueue

theorem Clocked.accept (h : Clocked s t) {n q index : Nat} {bs : List Byte} : Clocked s (t.accept n q index bs) :=
  Clocked.ite h.setQueue.fresh.setWork.endWork h.setQueue.fresh.setWork

theorem Clocked.acceptNext (h : Clocked s t) {q : Nat} : Clocked s (t.acceptNext q) := by
  unfold State.acceptNext
  dsimp only
  split
  · exact h
  · exact Clocked.ite h.accept h

theorem Clocked.acceptMany (h : Clocked s t) {q k : Nat} : Clocked s (State.acceptMany q k t) := by
  induction k generalizing t with
  | zero => exact h
  | succ k ih => exact ih h.acceptNext

theorem Clocked.execTailDoorbell (h : Clocked s t) {q tail : Nat} : ClockedNext s (execTailDoorbell q tail t) :=
  ClockedNext.ite h.wrongMode.next (ClockedNext.ite h.next
    (ClockedNext.ite h.setQueue.acceptMany.next h.setQueue.queueError.next))

theorem Clocked.advanceHead (h : Clocked s t) {q v : Nat} : Clocked s (t.advanceHead q v) :=
  Clocked.ite h (Clocked.ite h.queueError h.setQueue)

end Sys2Proof.Machine
end

section
/-! The uptime is left alone. Host accesses to memory (R381, R395, R396, R671, R716, R717). -/

namespace Sys2Proof.Machine

set_option Elab.async false

variable {s t : State}

theorem Clocked.hostWrite (h : Clocked s t) {n off : Nat} {data : List Byte} : Clocked s (t.hostWrite n off data).2 :=
  h.hostStore

theorem Clocked.ringTail (h : Clocked s t) {q tail : Nat} : Clocked s (t.ringTail q tail) := by
  obtain ⟨u, eq, k⟩ := h.execTailDoorbell (q := q) (tail := tail)
  unfold State.ringTail
  rw [eq]
  exact k

theorem Clocked.windowBytes (h : Clocked s t) {q off : Nat} {data : List Byte} : Clocked s (t.windowBytes q off data) :=
  Clocked.ite ((Clocked.ite h.setQueue.ringTail h.setQueue).advanceHead) (Clocked.ite h.setQueue.ringTail h.setQueue)

theorem Clocked.windowWrite (h : Clocked s t) {n k at_ : Nat} {data : List Byte} :
    Clocked s (State.windowWrite n k at_ data t) := by
  induction k generalizing t at_ data with
  | zero => exact h
  | succ k ih =>
    unfold State.windowWrite
    split
    · exact h
    · exact ih (Clocked.ite h.windowBytes h.accessViolation)

theorem Clocked.applyRdma (h : Clocked s t) {i psn rkey address : Nat} {data : List Byte} :
    Clocked s (t.applyRdma i psn rkey address data) := by
  unfold State.applyRdma
  dsimp only
  refine Clocked.sendRdma ?_
  split
  · exact h.hostWrite.addReg
  · exact h.windowWrite
  · exact h

theorem Clocked.resumeQp (h : Clocked s t) {i k : Nat} : Clocked s (State.resumeQp i k t) := by
  induction k generalizing t with
  | zero => exact h
  | succ k ih =>
    unfold State.resumeQp
    dsimp only
    split
    · exact h
    · split
      · exact h
      · exact ih h.setQp.applyRdma

theorem Clocked.countWindow (h : Clocked s t) {sess n : Nat} {m : Met} : Clocked s (t.countWindow sess n m) := by
  unfold State.countWindow
  dsimp only
  refine Clocked.addReg ?_
  split
  · exact h.setSession
  · exact h

theorem Clocked.applyWindow (h : Clocked s t) {w : WinWrite} : Clocked s (t.applyWindow w) := h.hostWrite.countWindow.answer

theorem Clocked.resumeWindows (h : Clocked s t) : Clocked s (t.resumeWindows) :=
  h.foldl fun _ _ k => Clocked.ite k k.same.applyWindow

theorem Clocked.resumeHost (h : Clocked s t) : Clocked s (t.resumeHost) := (h.foldl fun _ _ k => k.resumeQp).resumeWindows

end Sys2Proof.Machine
end

section
/-! The uptime is left alone. What a nanosecond brings when no command waits (log entry 1). -/

namespace Sys2Proof.Machine

set_option Elab.async false

variable {s t : State}

theorem Clocked.resumeResults (h : Clocked s t) : Clocked s (t.resumeResults) :=
  h.foldl fun _ _ k => k.withInst (fun _ => Clocked.ite k.finishWhole k)

end Sys2Proof.Machine
end

section
/-! A tick counts one nanosecond of uptime (R15, R61). -/

namespace Sys2Proof.Machine

set_option Elab.async false

theorem State.tick_off {s : State} (off : s.device = devOff) : s.tick = s := if_pos off

theorem State.tick_up {s : State} (powered : s.device ≠ devOff) : s.tick.up = (s.up + 1) % 2 ^ 64 := by
  rw [State.tick, if_neg powered]
  extract_lets s1 s2
  have counted : s2.up = (s.up + 1) % 2 ^ 64 := by
    have written : s1.up = (s.up + 1) % 2 ^ 64 := State.reg_setReg_same _ _ _
    unfold s2
    split
    · exact written
    · exact written
  have arbitrated : Clocked s2 s2.arbitrate := Clocked.arbitrate rfl
  exact (arbitrated.resumeHost.resumeWrites.resumeResults).trans counted

/-- Settles O50: a step by its definition, and a tick by what its commands leave of the uptime. -/
theorem stepRunsTheFrontCommand : Obligations.StepRunsTheFrontCommand := by
  refine ⟨fun s c rest front => ?_, fun s idle => ?_, fun _ => State.tick_off, fun _ => State.tick_up⟩
  · rw [step, front]
  · rw [step, idle]

end Sys2Proof.Machine
end

section
/-! What a report of class 1 or 2 leaves unchanged (R613). -/

namespace Sys2Proof.Machine

set_option Elab.async false

/-- The objects a report may write: the event, the counters of events dropped and records left out, and its class's at its die. -/
def reportObjs (r : FaultRep) : List Nat := [Obj.lastFaultEvent, Obj.eventDropCount, Obj.logSkipCount, Obj.correctedCount (unitDie r.reporter),
  Obj.containedCount (unitDie r.reporter), Obj.fatalCount (unitDie r.reporter)]

theorem unitDie_lt (u : Nat) : unitDie u < 16 := by unfold unitDie bits; omega

theorem State.countClass_eq (s : State) (r : FaultRep) : ∃ w, ∃ k ∈ reportObjs r, s.countClass r = s.count w k := by
  unfold State.countClass
  dsimp only
  split
  · exact ⟨64, _, by simp [reportObjs], rfl⟩
  · split
    · exact ⟨64, _, by simp [reportObjs], rfl⟩
    · exact ⟨32, _, by simp [reportObjs], rfl⟩

theorem State.reportOnly_spec (s : State) (r : FaultRep) : Reports s (s.reportOnly r) ∧ RegsBut (reportObjs r) s (s.reportOnly r) := by
  unfold State.reportOnly
  obtain ⟨cs, collected⟩ := s.collect_eq r
  obtain ⟨ls, latched⟩ := (s.collect r).latchStatus_eq r
  obtain ⟨w, k, named, counted⟩ := ((s.collect r).latchStatus r).countClass_eq r
  rw [counted]
  obtain ⟨eventSends, eventRegs⟩ := State.faultEvent_spec (((s.collect r).latchStatus r).count w k) r
  obtain ⟨logSends, logRegs⟩ := State.logFault_spec ((((s.collect r).latchStatus r).count w k).faultEvent r) r
  have base : Reports s (((s.collect r).latchStatus r).count w k) := by
    rw [latched, collected]
    exact ⟨s.out, s.eth, s.sessions, cs, ls, s.dev, s.tenants, s.generations, _, rfl⟩
  have regs : RegsBut (reportObjs r) s (((((s.collect r).latchStatus r).count w k).faultEvent r).logFault r) := by
    intro j other
    have apart (i : Nat) (named : i ∈ reportObjs r) : j ≠ i := fun same => other (same ▸ named)
    rw [logRegs j (apart _ (by simp [reportObjs])), eventRegs j (apart _ (by simp [reportObjs])) (apart _ (by simp [reportObjs]))]
    refine (State.reg_setReg_other _ _ _ _ (apart _ named)).trans ?_
    rw [latched, collected]
    rfl
  have logged := (base.trans eventSends).trans logSends
  split
  · split
    · exact ⟨logged.trans ⟨_, _, _, _, _, _, _, _, _, rfl⟩, regs⟩
    · exact ⟨logged, regs⟩
  · exact ⟨logged, regs⟩

section
variable {r : FaultRep} (survivable : r.cls ≠ 3)
include survivable

theorem State.report_reports (s : State) : Reports s (s.report r) := by
  rw [State.report, if_neg survivable]
  exact (s.reportOnly_spec r).1

theorem State.report_regs (s : State) : RegsBut (reportObjs r) s (s.report r) := by
  rw [State.report, if_neg survivable]
  exact (s.reportOnly_spec r).2

theorem State.report_mem (s : State) : (s.report r).mem = s.mem ∧ (s.report r).poison = s.poison := by
  obtain ⟨o, e, ss, cs, ls, d, ts, gs, m, eq⟩ := s.report_reports survivable
  rw [eq]
  exact ⟨rfl, rfl⟩

end

end Sys2Proof.Machine
end

section
/-! Scrub reads, self refresh, tensor map writes, and waits for versions and tags (R268 to R276, R346 to R360). -/

namespace Sys2Proof.Machine

set_option Elab.async false

/-! Scrub reads (R346 to R351) -/

theorem State.ask_eq (s : State) (site requester deadline : Nat) : ∃ f d, s.ask site requester deadline = { s with fabric := f, drawn := d } := by
  unfold State.ask State.drawJitter
  dsimp only
  split <;> exact ⟨_, _, rfl⟩

theorem State.askScrub_eq (s : State) (u : Upper) (off : Nat) : ∃ f d, s.askScrub u off = { s with fabric := f, drawn := d } := by
  unfold State.askScrub
  split
  · exact s.ask_eq ..
  · split
    · exact s.ask_eq ..
    · exact ⟨s.fabric, s.drawn, rfl⟩

theorem State.countDevice_eq (s : State) (die unit : Nat) (corrected : Bool) : ∃ m, s.countDevice die unit corrected = { s with regs := m } := by
  unfold State.countDevice
  repeat' split
  all_goals exact ⟨_, rfl⟩

theorem State.countLine_eq (s : State) (u : Upper) (off : Nat) (corrected : Bool) : ∃ m, s.countLine u off corrected = { s with regs := m } := by
  unfold State.countLine
  split
  · exact s.countDevice_eq ..
  · split
    · exact s.countDevice_eq ..
    · exact ⟨s.regs, rfl⟩

theorem State.countLine_main {u : Upper} (main : u.tier = 1) (s : State) (off : Nat) (corrected : Bool) : s.countLine u off corrected =
    if corrected then s.count 64 (Obj.mainCorrectedCount u.die (off / 256 % 3)) else s.count 32 (Obj.mainUncorrectedCount u.die (off / 256 % 3)) := by
  rw [State.countLine, if_pos main, State.countDevice, if_pos (Nat.mod_lt _ (by decide))]

/-- The error counters of a Main stack are not written by a report. -/
theorem mainCounts_apart {die stack : Nat} (low : die < 8) (three : stack < 3) (r : FaultRep) :
    Obj.mainCorrectedCount die stack ∉ reportObjs r ∧ Obj.mainUncorrectedCount die stack ∉ reportObjs r := by
  have := unitDie_lt r.reporter
  simp only [reportObjs, List.mem_cons, List.not_mem_nil, or_false, Obj.mainCorrectedCount, Obj.mainUncorrectedCount, Obj.lastFaultEvent,
    Obj.eventDropCount, Obj.logSkipCount, Obj.correctedCount, Obj.containedCount, Obj.fatalCount, obj]
  omega

/-- The report of an error that a read of a line has met (R350): corrected, or uncorrected and contained. -/
def State.lineReport (s : State) (e : Entry) (u : Upper) (off master access : Nat) (corrected : Bool) : FaultRep :=
  { cls := if corrected then 1 else 2, cause := if corrected then 1 else 2, reporter := u.controller (off - e.base), master := master,
    access := access, partition := 0, address := s.globalAddr (off / 64 * 64), work := none, injected := false }

/-- A corrected error of a line is counted and reported (R346, R350). -/
theorem State.copyError_corrected (s : State) (e : Entry) (u : Upper) (off m a : Nat) : ∃ r : FaultRep, r.cls = 1 ∧
    s.copyError e u (e.base + off) m a true false = (s.countLine u off true).report r := by
  refine ⟨s.lineReport e u (e.base + off) m a true, rfl, ?_⟩
  unfold State.copyError State.lineReport
  rw [Nat.add_sub_cancel_left]
  rfl

/-- One that is only detected poisons its line (R350). -/
theorem State.copyError_poisons (s : State) (e : Entry) (u : Upper) (line m a : Nat) : ∃ r : FaultRep, r.cls = 2 ∧
    s.copyError e u (e.base + 64 * line) m a false false = ((s.countLine u (64 * line) false).setPoison u.alloc line true).report r := by
  refine ⟨s.lineReport e u (e.base + 64 * line) m a false, rfl, ?_⟩
  unfold State.copyError State.lineReport
  rw [Nat.add_sub_cancel_left, Nat.mul_div_cancel_left line (by decide)]
  rfl

theorem State.copyError_corrected_leaves (s : State) (e : Entry) (u : Upper) (off m a : Nat) :
    (s.copyError e u (e.base + off) m a true false).mem = s.mem ∧ (s.copyError e u (e.base + off) m a true false).poison = s.poison := by
  obtain ⟨r, cls, eq⟩ := s.copyError_corrected e u off m a
  obtain ⟨regs, counted⟩ := s.countLine_eq u off true
  rw [eq, (State.report_mem (by omega) _).1, (State.report_mem (by omega) _).2, counted]
  exact ⟨rfl, rfl⟩

theorem State.copyError_corrected_counts (s : State) (e : Entry) {u : Upper} (off m a : Nat) (main : u.tier = 1) (low : u.die < 8) :
    (s.copyError e u (e.base + off) m a true false).reg (Obj.mainCorrectedCount u.die (off / 256 % 3)) =
      (s.reg (Obj.mainCorrectedCount u.die (off / 256 % 3)) + 1) % 2 ^ 64 := by
  obtain ⟨r, cls, eq⟩ := s.copyError_corrected e u off m a
  rw [eq, State.report_regs (by omega) _ _ (mainCounts_apart low (Nat.mod_lt _ (by decide)) r).1, State.countLine_main main, if_pos rfl]
  exact State.reg_setReg_same _ _ _

theorem State.copyError_poisons_line (s : State) (e : Entry) (u : Upper) (line m a : Nat) :
    (s.copyError e u (e.base + 64 * line) m a false false).mem = s.mem ∧
    (s.copyError e u (e.base + 64 * line) m a false false).poisoned u.alloc line = true ∧
    ∀ b l, lineKey b l ≠ lineKey u.alloc line → (s.copyError e u (e.base + 64 * line) m a false false).poisoned b l = s.poisoned b l := by
  obtain ⟨r, cls, eq⟩ := s.copyError_poisons e u line m a
  obtain ⟨regs, counted⟩ := s.countLine_eq u (64 * line) false
  unfold State.poisoned
  rw [eq, (State.report_mem (by omega) _).1, (State.report_mem (by omega) _).2, counted]
  refine ⟨rfl, ?_, fun b l other => congrArg (· != 0) (Sparse.get_set_other 0 0 _ _ 1 s.poison other)⟩
  exact congrArg (· != 0) (Sparse.get_set_same 0 _ 1 s.poison)

theorem State.copyError_poisons_counts (s : State) (e : Entry) {u : Upper} (line m a : Nat) (main : u.tier = 1) (low : u.die < 8) :
    (s.copyError e u (e.base + 64 * line) m a false false).reg (Obj.mainUncorrectedCount u.die (64 * line / 256 % 3)) =
      (s.reg (Obj.mainUncorrectedCount u.die (64 * line / 256 % 3)) + 1) % 2 ^ 32 := by
  obtain ⟨r, cls, eq⟩ := s.copyError_poisons e u line m a
  rw [eq, State.report_regs (by omega) _ _ (mainCounts_apart low (Nat.mod_lt _ (by decide)) r).2, State.countLine_main main]
  exact State.reg_setReg_same _ _ _

theorem State.drawMany_spec (w n : Nat) (s : State) : (State.drawMany w n s).1.length = n ∧
    ∃ d, (State.drawMany w n s).2 = { s with drawn := d } := by
  induction n generalizing s with
  | zero => exact ⟨rfl, s.drawn, rfl⟩
  | succ n ih =>
    obtain ⟨len, d, eq⟩ := ih (s.draw w).2
    exact ⟨congrArg (· + 1) len, d, eq⟩

/-- A line decoded wrongly changes in its own 64 bytes alone. -/
theorem State.garbleLine_spec (s : State) (u : Upper) (line : Nat) : (s.garbleLine u line).poison = s.poison ∧
    ∀ b o, (∀ i, i < 64 → memKey b o ≠ memKey u.alloc (64 * line + i)) → (s.garbleLine u line).rdByte b o = s.rdByte b o := by
  obtain ⟨len, d, drawn⟩ := State.drawMany_spec 8 64 s
  have garbled : s.garbleLine u line =
      (State.drawMany 8 64 s).2.wrBytes u.alloc (64 * line) ((State.drawMany 8 64 s).1.map fun v => BitVec.ofNat 8 v) := rfl
  rw [garbled, drawn]
  refine ⟨?_, fun b o apart => ?_⟩
  · obtain ⟨m, eq⟩ := State.wrBytes_eq { s with drawn := d } u.alloc (64 * line) ((State.drawMany 8 64 s).1.map fun v => BitVec.ofNat 8 v)
    rw [eq]
  · refine (State.rdByte_wrBytes_other _ _ _ _ _ _ ?_).trans rfl
    rw [List.length_map, len]
    by_contra within
    exact apart (memKey b o - memKey u.alloc (64 * line)) (by omega) (by unfold memKey at within ⊢; omega)

/-- A scrub read of a line of a copy (R348 to R351). -/
theorem backgroundScrubRead_run {s : State} {a line : Nat} (n : Nat) {e : Entry} {u : Upper} (copy : s.copyIn a = some (e, u)) (within : line < e.lines) :
    exec (.backgroundScrubRead a line n) s = .next (
      if n = 0 then s.askScrub u (64 * line)
      else if n ≤ s.radiusOf u then (s.askScrub u (64 * line)).copyError e u (e.base + 64 * line) (u.controller (64 * line)) 0 true false
      else if n ≤ s.detects u then (s.askScrub u (64 * line)).copyError e u (e.base + 64 * line) (u.controller (64 * line)) 0 false false
      else if ((s.askScrub u (64 * line)).draw 1).1 = 0 then
        ((s.askScrub u (64 * line)).draw 1).2.copyError e u (e.base + 64 * line) (u.controller (64 * line)) 0 false false
      else (((s.askScrub u (64 * line)).draw 1).2.garbleLine u line).copyError e u (e.base + 64 * line) (u.controller (64 * line)) 0 true false) := by
  change execBackgroundScrubRead a line n s = _
  rw [execBackgroundScrubRead, copy]
  dsimp only
  rw [if_neg (by omega)]
  simp only [apply_ite (Host.Outcome.next (σ := State) (φ := Fault) (ρ := Refusal))]

theorem backgroundScrubRead_none {s : State} {a line n : Nat} (none : s.copyIn a = none ∨ ∃ e u, s.copyIn a = some (e, u) ∧ e.lines ≤ line) :
    exec (.backgroundScrubRead a line n) s = .next s := by
  change execBackgroundScrubRead a line n s = _
  rcases none with none | ⟨e, u, copy, beyond⟩
  · rw [execBackgroundScrubRead, none]
  · rw [execBackgroundScrubRead, copy]
    exact if_pos beyond

/-! Self refresh (R353) -/

theorem State.foldl_setReg_regs (f : Nat → Nat) (v : Nat) (is : List Nat) (s : State) :
    OnlyRegs (is.map f) s (is.foldl (fun t i => t.setReg (f i) v) s) ∧ ∀ i ∈ is, (is.foldl (fun t i => t.setReg (f i) v) s).reg (f i) = v := by
  induction is generalizing s with
  | nil => exact ⟨OnlyRegs.refl _ s, fun _ h => nomatch h⟩
  | cons j js ih =>
    obtain ⟨⟨others, rest⟩, written⟩ := ih (s.setReg (f j) v)
    refine ⟨⟨fun k other => ?_, ?_⟩, fun i listed => ?_⟩
    · obtain ⟨apart, other⟩ := not_or.1 (mt List.mem_cons.2 other)
      exact (others k other).trans (State.reg_setReg_other _ _ _ _ apart)
    · exact congrArg (fun u : State => { u with regs := s.regs }) rest
    · by_cases later : f i ∈ js.map f
      · obtain ⟨k, listed, same⟩ := List.mem_map.1 later
        rw [← same]
        exact written k listed
      · obtain rfl | listed := List.mem_cons.1 listed
        · exact (others _ later).trans (State.reg_setReg_same _ _ _)
        · exact written i listed

/-! The tensor map (R358) -/

theorem tensorMapWrite_may {s : State} {sess n : Nat} (es : List MapEntry) (may : MayWrite s sess (0x3030 + n) 1) :
    exec (.tensorMapWrite sess n es) s = .next (match s.writeMap n es with | some u => u | none => s.count 32 (Obj.mapRejectCount n)) :=
  (congrArg Host.Outcome.next (State.guarded_may _ may)).trans (by rfl)

theorem State.writeMap_refused {s : State} {n : Nat} (es : List MapEntry)
    (refused : (s.tenant n).state ≠ 1 ∨ (s.tenant n).steps.isEmpty = false) : s.writeMap n es = none :=
  if_pos (refused.imp_right fun busy => by rw [busy]; rfl)

section
variable {s : State} {n : Nat} (active : (s.tenant n).state = 1) (idle : (s.tenant n).steps = [])
include active idle

theorem State.writeMap_of_idle (es : List MapEntry) : s.writeMap n es = es.foldl (fun t m => t.bind fun u =>
    if imageRegionLo ≤ m.base then none
    else if m.sizeLines = 0 then u.removeBase n m.base else u.addMapEntry n m) (some s) := by
  refine if_neg ?_
  rintro (off | busy)
  · exact off active
  · rw [idle] at busy
    exact absurd busy (by decide)

theorem State.writeMap_adds {m : MapEntry} (low : m.base < imageRegionLo) (sized : m.sizeLines ≠ 0) : s.writeMap n [m] = s.addMapEntry n m := by
  rw [State.writeMap_of_idle active idle]
  exact (if_neg (Nat.not_le.2 low)).trans (if_neg sized)

theorem State.writeMap_removes {m : MapEntry} (low : m.base < imageRegionLo) (empty : m.sizeLines = 0) :
    s.writeMap n [m] = s.removeBase n m.base := by
  rw [State.writeMap_of_idle active idle]
  exact (if_neg (Nat.not_le.2 low)).trans (if_pos empty)

end

theorem State.removeBase_none {s : State} {n base : Nat} (absent : (s.entries.all fun p => !(p.2.tenant == n && p.2.base == base)) = true) :
    s.removeBase n base = none := by
  have empty : (s.entries.filter fun p => p.2.tenant == n && p.2.base == base) = [] :=
    List.filter_eq_nil_iff.2 fun p listed here => by
      have kept := List.all_eq_true.1 absent p listed
      rw [here] at kept
      exact absurd kept (by decide)
  unfold State.removeBase
  dsimp only
  rw [empty]
  rfl

/-- The entry of a buffer of a plain tensor, at home where the map wants it. -/
def plainEntry (m : MapEntry) (n a : Nat) : Entry :=
  { base := m.base, lines := m.sizeLines, tensorId := m.tensorId, tenant := n, homeTier := m.homeTier, homeDie := m.homeDie, pinned := m.pinned,
    shared := m.shared, versioned := m.versioned, place := ⟨m.placeKind, m.placeCluster, m.placeCore⟩, shareMask := m.shareMask,
    bufIndex := 0, bufState := .free, versions := [], homeAlloc := a, homeAt := m.homeDie }

/-- A plain buffer that fits at its die is made there and charged (R318, R321, R332). -/
theorem State.addBuffer_plain {s : State} {n : Nat} {m : MapEntry} (plain : m.versioned = false) (room : 64 * m.sizeLines ≤ s.freeRoom m.homeTier n)
    (short : s.entries.length < 262144)
    (fit : s.fits m.homeTier m.homeDie ⟨m.placeKind, m.placeCluster, m.placeCore⟩ (64 * m.sizeLines) = true) :
    ∃ u key a, s.addBuffer n m 0 = some u ∧ u.entries = Sparse.insert key (plainEntry m n a) s.entries ∧
      u.reg (chargedObj m.homeTier n) = (s.reg (chargedObj m.homeTier n) + 64 * m.sizeLines) % 2 ^ 64 := by
  have die : s.homeDieFor m.homeTier m.homeDie (64 * m.sizeLines) ⟨m.placeKind, m.placeCluster, m.placeCore⟩ = m.homeDie := if_pos (.inr fit)
  have fits : ¬ (m.homeTier = 0 ∧ (!s.fits 0 m.homeDie ⟨m.placeKind, m.placeCluster, m.placeCore⟩ (64 * m.sizeLines)) = true) := by
    rintro ⟨near, unfit⟩
    rw [near] at fit
    rw [fit] at unfit
    exact absurd unfit (by decide)
  unfold State.addBuffer
  dsimp only
  rw [if_neg (by omega), if_neg fits, die, if_neg (not_not_intro rfl), plain]
  refine ⟨_, s.serial + 1, s.serial, rfl, ?_, State.reg_setReg_same _ _ _⟩
  unfold plainEntry
  rw [plain]
  rfl

theorem State.addMapEntry_plain {s : State} {n : Nat} {m : MapEntry} (ok : s.mapEntryOk n m = true) (plain : m.versioned = false) :
    s.addMapEntry n m = s.addBuffer n m 0 := by
  rw [State.addMapEntry, ok, plain]
  rfl

/-! Waits for versions and tags (R274, R276, R569) -/

/-- A context that waits is ready again. -/
def Ctx.woken (y : Ctx) : Ctx := { y with state := 1, waits := .nothing }

theorem State.wakes (s : State) (c x : Nat) (b : Bool) :
    let t := if b = true then s.setCtx c x (s.ctx c x).woken else s
    (∀ d y, ctxKey d y ≠ ctxKey c x → t.ctx d y = s.ctx d y) ∧ { t with ctxs := s.ctxs } = s ∧
    t.ctx c x = if b = true then (s.ctx c x).woken else s.ctx c x := by
  cases b
  · exact ⟨fun _ _ _ => rfl, rfl, rfl⟩
  · exact ⟨fun d y other => State.ctx_setCtx_other s c x d y _ other, rfl, State.ctx_setCtx _ _ _ _⟩

/-- A context that waits to write a version may go on (R274, R569). -/
def State.mayWake (s : State) (c x : Nat) : Bool := match (s.ctx c x).waits with
  | .version a =>
    (match s.entries.find? fun p => p.2.homeAlloc == a with
    | some (_, v) => s.entries.any fun p => p.2.sameTensor v.tenant v.base && (p.2.bufState == .free || p.2.bufState == .pending)
    | none => true) && !s.stepAhead c x
  | .turn => !s.stepAhead c x
  | _ => false

theorem versionWriteResume_run (s : State) (c x : Nat) : exec (.versionWriteResume c x) s =
    .next (if (s.ctx c x).state = 3 ∧ s.mayWake c x = true then s.setCtx c x (s.ctx c x).woken else s) := rfl

theorem versionWriteResume_waiting {s : State} {c x : Nat} (waiting : (s.ctx c x).state = 3) : exec (.versionWriteResume c x) s =
    .next (if s.mayWake c x = true then s.setCtx c x (s.ctx c x).woken else s) :=
  (versionWriteResume_run s c x).trans (congrArg Host.Outcome.next (if_congr (and_iff_right waiting) rfl rfl))

theorem tagWaitEnd_run (s : State) (c x : Nat) : exec (.tagWaitEnd c x) s = .next (match s.ctxWork c x with
    | none => s
    | some (_, k) => if (s.ctx c x).state = 3 ∧ (s.ctx c x).waits = .tag true ∧
        (s.tenant k.tenant).tags.length < s.reg (Obj.tagQuota k.tenant) ∧ s.liveTags < 16384
      then s.setCtx c x (s.ctx c x).woken else s) := by
  change execTagWaitEnd c x s = _
  unfold execTagWaitEnd
  cases s.ctxWork c x with
  | none => rfl
  | some p => exact (apply_ite Host.Outcome.next _ _ _).symm

/-- Settles O25: scrub reads by what an error of a line leaves, the map by its fold, waits by what wakes a context. -/
theorem residencyEventsAnswer : Obligations.ResidencyEventsAnswer := by
  refine ⟨?_, fun _ _ _ _ => backgroundScrubRead_none, fun _ => rfl, ?_, ?_, ?_, ?_, ?_, ?_, ?_, ?_, ?_⟩
  case refine_1 =>
    intro s a line n e u copy here within _
    subst here
    extract_lets r d stack
    obtain ⟨f, dr, asked⟩ := s.askScrub_eq u (64 * line)
    refine ⟨_, backgroundScrubRead_run n copy within, ?_⟩
    have radius : s.radiusOf u = r := rfl
    have detects : s.detects u = d := rfl
    rw [asked, radius, detects]
    split
    next zero => exact ⟨fun _ => ⟨rfl, rfl⟩, fun _ _ _ => rfl, fun h => absurd zero h, fun h => absurd zero h, fun h => absurd zero h⟩
    next some =>
    split
    next corrects =>
      exact ⟨fun _ => State.copyError_corrected_leaves _ e u _ _ _, fun h => absurd h some,
        fun _ _ main low => State.copyError_corrected_counts _ e _ _ _ main low, fun _ h => absurd corrects (by omega),
        fun _ h => absurd corrects (by omega)⟩
    next beyond =>
    split
    next detected =>
      obtain ⟨mem, poisoned, others⟩ := State.copyError_poisons_line { s with fabric := f, drawn := dr } e u line (u.controller (64 * line)) 0
      exact ⟨fun h => absurd h (by omega), fun h => absurd h some, fun _ h => absurd h beyond,
        fun _ _ _ => ⟨mem, poisoned, others, fun main low => State.copyError_poisons_counts _ e _ _ _ main low⟩,
        fun _ _ h => absurd detected (by omega)⟩
    next undetected =>
      refine ⟨fun h => absurd h (by omega), fun h => absurd h some, fun _ h => absurd h beyond, fun _ _ h => absurd h undetected, fun _ _ _ => ?_⟩
      split
      · obtain ⟨mem, poisoned, _⟩ := State.copyError_poisons_line ({ s with fabric := f, drawn := dr }.draw 1).2 e u line (u.controller (64 * line)) 0
        exact .inl ⟨mem, poisoned⟩
      · obtain ⟨poison, bytes⟩ := State.garbleLine_spec ({ s with fabric := f, drawn := dr }.draw 1).2 u line
        obtain ⟨mem, kept⟩ := State.copyError_corrected_leaves (({ s with fabric := f, drawn := dr }.draw 1).2.garbleLine u line) e u (64 * line)
          (u.controller (64 * line)) 0
        exact .inr ⟨kept.trans poison, fun b o apart => (congrArg (Sparse.get 0 (memKey b o)) mem).trans (bytes b o apart)⟩
  case refine_2 =>
    intro s ready free
    obtain ⟨regs, written⟩ := State.foldl_setReg_regs (fun i => Obj.deepState (i / 2) (i % 2)) 2 (List.range 16) s
    exact ⟨_, if_pos ⟨ready, free⟩, fun i low => written i (List.mem_range.2 low), regs⟩
  case refine_3 =>
    intro s busy
    refine if_neg ?_
    rintro ⟨ready, free⟩
    exact busy.elim (absurd ready) fun h => absurd (free.symm.trans h) (by decide)
  case refine_4 =>
    intro s sess n es may
    refine ⟨fun refused => ⟨_, ?_, State.reg_setReg_same _ _ _, s.onlyRegs_setReg _ _⟩, fun u written => ?_⟩
    · have none : s.writeMap n es = none := by
        rcases refused with h | h | h
        exacts [State.writeMap_refused es (.inl h), State.writeMap_refused es (.inr h), h]
      rw [tensorMapWrite_may es may, none]
      rfl
    · rw [tensorMapWrite_may es may, written]
  case refine_5 =>
    intro s n active idle
    refine ⟨State.writeMap_of_idle active idle [], fun m low sized plain ok room short fit => ?_, fun m low empty absent => ?_⟩
    · obtain ⟨u, key, a, added, entries, charged⟩ := State.addBuffer_plain plain room short fit
      refine ⟨u, key, plainEntry m n a, ?_, entries, rfl, rfl, rfl, rfl, rfl, rfl, rfl, rfl, charged⟩
      rw [State.writeMap_adds active idle low sized, State.addMapEntry_plain ok plain, added]
    · rw [State.writeMap_removes active idle low empty, State.removeBase_none absent]
  case refine_6 =>
    intro s c x a key e waits waiting found
    obtain ⟨others, rest, same⟩ := s.wakes c x (s.mayWake c x)
    refine ⟨_, versionWriteResume_waiting waiting, others, rest, same.trans ?_⟩
    simp only [State.mayWake, waits, found]
    rfl
  case refine_7 =>
    intro s c x waits waiting
    obtain ⟨others, rest, same⟩ := s.wakes c x (s.mayWake c x)
    refine ⟨_, versionWriteResume_waiting waiting, others, rest, same.trans ?_⟩
    rw [State.mayWake, waits]
    dsimp only
    cases s.stepAhead c x <;> rfl
  case refine_8 =>
    intro s c x other
    refine (versionWriteResume_run s c x).trans (congrArg Host.Outcome.next (if_neg ?_))
    rintro ⟨waiting, may⟩
    rcases other with h | ⟨turn, version⟩
    · exact h waiting
    · unfold State.mayWake at may
      split at may
      next a waits => exact version a waits
      next waits => exact turn waits
      next => exact absurd may (by decide)
  case refine_9 =>
    intro s c x w k work waiting waits room live
    refine ⟨s.setCtx c x (s.ctx c x).woken, ?_, State.ctx_setCtx _ _ _ _, fun d y other => State.ctx_setCtx_other s c x d y _ other, rfl⟩
    rw [tagWaitEnd_run, work]
    exact congrArg Host.Outcome.next (if_pos ⟨waiting, waits, room, live⟩)
  case refine_10 =>
    intro s c x blocked
    rw [tagWaitEnd_run]
    cases work : s.ctxWork c x with
    | none => rfl
    | some p =>
      refine congrArg Host.Outcome.next (if_neg ?_)
      rintro ⟨waiting, waits, room, live⟩
      rcases blocked p.1 p.2 work with h | h | h | h
      exacts [h waiting, h waits, absurd h (by omega), absurd h (by omega)]

end Sys2Proof.Machine
end

section
/-! Doorbells, acceptance, placement and DISPATCH (R366 to R390, R567, R618). -/

namespace Sys2Proof.Machine

set_option Elab.async false

/-! Acceptance (R372, R382, R390) -/

theorem State.accept_accepted (s : State) (n q index : Nat) (bs : List Byte) : Accepted s (s.accept n q index bs) n q index bs := by
  have entered : s.accept n q index bs = if (s.entered n q index bs).refuses (readWork n q index bs) bs
      then (s.entered n q index bs).endWork s.serial (readWork n q index bs) 3 0 else s.entered n q index bs := rfl
  have refuses : (s.entered n q index bs).refuses (readWork n q index bs) bs = s.refuses (readWork n q index bs) bs := rfl
  rw [Accepted, entered, refuses]
  split
  · exact State.endWork_ended _ _ _ _ _
  · rfl

theorem State.acceptNext_accepted {s : State} {q n : Nat} (may : Acceptable s q n) :
    Accepted s (s.acceptNext q) n q (s.queue q).accepted ((s.queue q).slotBytes (s.queue q).accepted) := by
  obtain ⟨tenant, active, posted, room⟩ := may
  have next : s.acceptNext q = s.accept n q (s.queue q).accepted ((s.queue q).slotBytes (s.queue q).accepted) := by
    unfold State.acceptNext
    rw [tenant]
    exact if_pos (by rw [active, bne_iff_ne.2 posted, decide_eq_true room]; rfl)
  rw [next]
  exact s.accept_accepted ..

theorem State.acceptNext_none {s : State} {q : Nat} (none : ∀ n, ¬ Acceptable s q n) : s.acceptNext q = s := by
  unfold State.acceptNext
  dsimp only
  split
  · rfl
  next n tenant =>
    refine if_neg fun may => none n ?_
    rw [Bool.and_eq_true, Bool.and_eq_true, bne_iff_ne, decide_eq_true_iff] at may
    exact ⟨tenant, may.1.1, may.1.2, may.2⟩

theorem State.acceptMany_none {s : State} {q : Nat} (none : ∀ n, ¬ Acceptable s q n) (k : Nat) : State.acceptMany q k s = s := by
  induction k with
  | zero => rfl
  | succ k ih => rw [State.acceptMany, State.acceptNext_none none, ih]

theorem State.acceptMany_run (q k : Nat) (s : State) : AcceptRun q k s (State.acceptMany q k s) := by
  induction k generalizing s with
  | zero => rfl
  | succ k ih =>
    exact ⟨fun n may => ⟨_, State.acceptNext_accepted may, ih _⟩, fun none => State.acceptMany_none none _⟩

/-! Doorbells (R379, R382) -/

section
variable {s : State} {q tail : Nat}

theorem tailDoorbell_wrongMode (wrong : s.queueActive q = false ∨ (s.queue q).mode = 1) : exec (.tailDoorbell q tail) s = .next (s.wrongMode q) := by
  refine if_pos ?_
  rcases wrong with h | h <;> simp [h]

variable (active : s.queueActive q = true) (doorbell : (s.queue q).mode ≠ 1)
include active doorbell

theorem tailDoorbell_run : exec (.tailDoorbell q tail) s =
    if (tail % 2 ^ 32 + 2 ^ 32 - (s.queue q).posted) % 2 ^ 32 = 0 ∨ 2 ^ 31 ≤ (tail % 2 ^ 32 + 2 ^ 32 - (s.queue q).posted) % 2 ^ 32 then .next s
    else if (tail % 2 ^ 32 + 2 ^ 32 - (s.queue q).consumed) % 2 ^ 32 ≤ (s.queue q).submitDepth then
      .next (State.acceptMany q (s.queue q).submitDepth (s.setQueue q { s.queue q with posted := tail % 2 ^ 32 }))
    else .next ((s.setQueue q { s.queue q with error := true }).queueError q) := by
  refine if_neg ?_
  simp [active, doorbell]

end

/-! Placement (R366, R385 to R387, R567) -/

theorem State.ensureStep_open {s : State} {n step : Nat} (isOpen : ((s.tenant n).step? step).isSome = true) : s.ensureStep n step = s :=
  if_pos isOpen

/-- The registers that a change of the contexts' stack bounds may write. -/
def stackTops (k : Nat) : Prop := ∃ c < 512, ∃ x < 4, k = Obj.stackTop c x

/-- Contexts have taken stack bounds. -/
def BoundsTaken (s t : State) : Prop := (∀ k, ¬ stackTops k → t.reg k = s.reg k) ∧ { t with ctxs := s.ctxs, regs := s.regs } = s

theorem BoundsTaken.refl (s : State) : BoundsTaken s s := ⟨fun _ _ => rfl, rfl⟩

theorem BoundsTaken.trans {s t u : State} (h : BoundsTaken s t) (h' : BoundsTaken t u) : BoundsTaken s u := by
  obtain ⟨regs, rest⟩ := h
  refine ⟨fun k hk => (h'.1 k hk).trans (regs k hk), ?_⟩
  have later := congrArg (fun v : State => { v with ctxs := s.ctxs, regs := s.regs }) h'.2
  exact later.trans rest

theorem BoundsTaken.kept {s t : State} (h : BoundsTaken s t) : t.tenants = s.tenants ∧ t.mem = s.mem ∧ t.entries = s.entries ∧
    t.works = s.works ∧ t.queues = s.queues ∧ t.cores = s.cores :=
  ⟨(congrArg State.tenants h.2 :), (congrArg State.mem h.2 :), (congrArg State.entries h.2 :), (congrArg State.works h.2 :), (congrArg State.queues h.2 :),
    (congrArg State.cores h.2 :)⟩

theorem State.takeBounds_taken (s : State) (n : Nat) : BoundsTaken s (s.takeBounds n) := by
  refine List.foldlRecOn _ _ (BoundsTaken.refl s) fun t ht c hc => ?_
  have core : c < 512 := List.mem_range.1 (List.mem_filter.1 hc).1
  refine ht.trans (List.foldlRecOn _ _ (BoundsTaken.refl t) fun u hu x hx => hu.trans ?_)
  dsimp only
  split
  · exact BoundsTaken.refl u
  · refine ⟨fun k other => State.reg_setReg_other _ _ _ _ fun same => other ⟨c, core, x, List.mem_range.1 hx, same⟩, rfl⟩

/-- The objects an open step shows, and the device's state, are not stack tops, and no two of a tenant are the same. -/
theorem not_stackTops {n : Nat} (low : n < 16) : ¬ stackTops (Obj.accumCount n) ∧ ¬ stackTops (Obj.stepSeed n) ∧ ¬ stackTops (Obj.seedStep n) ∧
    ¬ stackTops (Obj.serviceState n) ∧ ¬ stackTops Obj.deviceState := by
  simp only [stackTops, Obj.stackTop, Obj.accumCount, Obj.stepSeed, Obj.seedStep, Obj.serviceState, Obj.deviceState, obj]
  refine ⟨?_, ?_, ?_, ?_, ?_⟩
  all_goals
    rintro ⟨c, hc, x, hx, same⟩
    omega

/-- A tenant with a step opened (R112, R567, R585). -/
def State.tenantBegun (s : State) (n step : Nat) : Tenant :=
  { s.tenant n with
    steps := (s.tenant n).steps ++ [{
      step := step, seed := stepSeed (s.reg (Obj.jobSeed n)) step, service := s.serviceFor n step, cfg := s.watchCfg n,
      scaleRecs := if step = s.oldestStep n then (s.tenant n).waitingRecs else [],
      samples := s.reg (Obj.microBatchSamples n) * (s.tenant n).pendingAccum.getD (s.reg (Obj.accumCount n)) }]
    waitingRecs := if step = s.oldestStep n then [] else (s.tenant n).waitingRecs
    pendingAccum := none
    sealedSlots := if s.reg (Obj.slotBytes n) = 0 then (s.tenant n).sealedSlots else (s.tenant n).sealedSlots |||
      2 ^ (step % (if s.reg (Obj.ringSlots n) = 0 then 1 else s.reg (Obj.ringSlots n))) }

/-- The state with a step of a tenant opened and shown, before contexts take their stack bounds. -/
def State.stepBegun (s : State) (n step : Nat) : State :=
  ((((({ s with colls := { s.colls with aborted := s.colls.aborted.filter fun a => a != (n, step) } } : State).setTenant n
    (s.tenantBegun n step)).setReg (Obj.accumCount n) ((s.tenant n).pendingAccum.getD (s.reg (Obj.accumCount n)))).setReg (Obj.stepSeed n)
    (stepSeed (s.reg (Obj.jobSeed n)) step)).setReg (Obj.seedStep n) step).setReg (Obj.serviceState n) (s.serviceFor n step) |>.setReg
    (Obj.stepAttempt n) (Sparse.get 0 (s.oldestStep n) (s.tenant n).attempts)

theorem State.openStep_eq (s : State) (n step : Nat) : s.openStep n step = ((s.stepBegun n step).takeBounds n).settleDevice := by
  unfold State.openStep State.stepBegun State.tenantBegun
  dsimp only
  cases (s.tenant n).pendingAccum <;> rfl

theorem State.stepBegun_regs (s : State) (n step : Nat) :
    (s.stepBegun n step).reg (Obj.accumCount n) = (s.tenant n).pendingAccum.getD (s.reg (Obj.accumCount n)) ∧
    (s.stepBegun n step).reg (Obj.stepSeed n) = stepSeed (s.reg (Obj.jobSeed n)) step ∧
    (s.stepBegun n step).reg (Obj.seedStep n) = step ∧ (s.stepBegun n step).reg (Obj.serviceState n) = s.serviceFor n step ∧
    (n < 16 → (s.stepBegun n step).reg Obj.deviceState = s.reg Obj.deviceState) := by
  have apart : Obj.accumCount n ≠ Obj.stepSeed n ∧ Obj.accumCount n ≠ Obj.seedStep n ∧ Obj.accumCount n ≠ Obj.serviceState n ∧
      Obj.accumCount n ≠ Obj.stepAttempt n ∧ Obj.stepSeed n ≠ Obj.seedStep n ∧ Obj.stepSeed n ≠ Obj.serviceState n ∧
      Obj.stepSeed n ≠ Obj.stepAttempt n ∧ Obj.seedStep n ≠ Obj.serviceState n ∧ Obj.seedStep n ≠ Obj.stepAttempt n ∧
      Obj.serviceState n ≠ Obj.stepAttempt n := by
    simp only [Obj.accumCount, Obj.stepSeed, Obj.seedStep, Obj.serviceState, Obj.stepAttempt, obj]
    omega
  have device : Obj.deviceState ≠ Obj.accumCount n ∧ Obj.deviceState ≠ Obj.stepSeed n ∧ Obj.deviceState ≠ Obj.seedStep n ∧
      Obj.deviceState ≠ Obj.serviceState n ∧ Obj.deviceState ≠ Obj.stepAttempt n := by
    simp only [Obj.deviceState, Obj.accumCount, Obj.stepSeed, Obj.seedStep, Obj.serviceState, Obj.stepAttempt, obj]
    omega
  obtain ⟨ac1, ac2, ac3, ac4, se1, se2, se3, st1, st2, sv1⟩ := apart
  obtain ⟨d1, d2, d3, d4, d5⟩ := device
  have other {t : State} {k j v : Nat} (different : k ≠ j) : (t.setReg j v).reg k = t.reg k := State.reg_setReg_other _ _ _ _ different
  have same {t : State} {k v : Nat} : (t.setReg k v).reg k = v := State.reg_setReg_same _ _ _
  exact ⟨(other ac4).trans ((other ac3).trans ((other ac2).trans ((other ac1).trans same))),
    (other se3).trans ((other se2).trans ((other se1).trans same)), (other st2).trans ((other st1).trans same), (other sv1).trans same,
    fun _ => (other d5).trans ((other d4).trans ((other d3).trans ((other d2).trans (other d1))))⟩

theorem State.tenant_setReg (s : State) (k v n : Nat) : (s.setReg k v).tenant n = s.tenant n := rfl

theorem State.stepBegun_tenant (s : State) (n step k : Nat) : (s.stepBegun n step).tenant k =
    (({ s with colls := { s.colls with aborted := s.colls.aborted.filter fun a => a != (n, step) } } : State).setTenant n
      (s.tenantBegun n step)).tenant k := by
  rw [State.stepBegun, State.tenant_setReg, State.tenant_setReg, State.tenant_setReg, State.tenant_setReg, State.tenant_setReg]

theorem State.stepBegun_kept (s : State) (n step : Nat) : (s.stepBegun n step).mem = s.mem ∧ (s.stepBegun n step).entries = s.entries ∧
    (s.stepBegun n step).works = s.works ∧ (s.stepBegun n step).queues = s.queues ∧ (s.stepBegun n step).cores = s.cores := by
  simp only [State.stepBegun, State.setReg_frame, State.setTenant_frame, and_self]

theorem State.tenant_of_tenants {s t : State} (h : t.tenants = s.tenants) (k : Nat) : t.tenant k = s.tenant k := by
  rw [State.tenant, State.tenant, h]

theorem State.settleDevice_eq (s : State) : ∃ m, s.settleDevice = { s with regs := m } ∧ ∀ k, k ≠ Obj.deviceState → s.settleDevice.reg k = s.reg k := by
  have entered (d : Nat) : ∃ m, s.enter d = { s with regs := m } ∧ ∀ k, k ≠ Obj.deviceState → (s.enter d).reg k = s.reg k :=
    ⟨_, rfl, fun k other => State.reg_setReg_other _ _ _ _ other⟩
  unfold State.settleDevice
  split
  · split
    · exact entered _
    · split
      · exact entered _
      · exact entered _
  · exact ⟨s.regs, rfl, fun _ _ => rfl⟩

theorem State.settleDevice_running {s : State} {n : Nat} (up : s.isUp = true) (low : n < 16) (active : (s.tenant n).state ≠ 0)
    (busy : (s.tenant n).steps ≠ []) : s.settleDevice.reg Obj.deviceState = devRunning := by
  have stepOpen : s.anyStepOpen = true := by
    refine List.any_eq_true.2 ⟨n, List.mem_filter.2 ⟨List.mem_range.2 low, bne_iff_ne.2 active⟩, ?_⟩
    rw [Bool.not_eq_true', List.isEmpty_eq_false_iff]
    exact busy
  rw [State.settleDevice, if_pos up, if_pos stepOpen]
  exact State.reg_setReg_same _ _ _

/-- A step of an admitted tenant opens (R567). -/
theorem State.openStep_opened {s : State} {n : Nat} (step : Nat) (low : n < 16) (active : (s.tenant n).state ≠ 0) :
    StepOpened s (s.openStep n step) n step := by
  obtain ⟨accum, seed, shown, service, device⟩ := s.stepBegun_regs n step
  obtain ⟨notAccum, notSeed, notStep, notService, notDevice⟩ := not_stackTops low
  obtain ⟨taken, -⟩ := (s.stepBegun n step).takeBounds_taken n
  obtain ⟨tenants, mem, entries, works, queues, cores⟩ := ((s.stepBegun n step).takeBounds_taken n).kept
  have begun : ((s.stepBegun n step).takeBounds n).tenant n = s.tenantBegun n step :=
    (State.tenant_of_tenants tenants n).trans ((s.stepBegun_tenant n step n).trans (State.tenant_setTenant _ _ _))
  have others (k : Nat) (different : k ≠ n) : ((s.stepBegun n step).takeBounds n).tenant k = s.tenant k :=
    (State.tenant_of_tenants tenants k).trans ((s.stepBegun_tenant n step k).trans (State.tenant_setTenant_other _ _ _ _ different))
  rw [State.openStep_eq]
  generalize (s.stepBegun n step).takeBounds n = u at *
  obtain ⟨m, settled, unsettled⟩ := u.settleDevice_eq
  have other (k : Nat) (notTop : ¬ stackTops k) (notDevice : k ≠ Obj.deviceState) : u.settleDevice.reg k = (s.stepBegun n step).reg k :=
    (unsettled k notDevice).trans (taken k notTop)
  have apart : Obj.accumCount n ≠ Obj.deviceState ∧ Obj.stepSeed n ≠ Obj.deviceState ∧ Obj.seedStep n ≠ Obj.deviceState ∧
      Obj.serviceState n ≠ Obj.deviceState := by
    simp only [Obj.deviceState, Obj.accumCount, Obj.stepSeed, Obj.seedStep, Obj.serviceState, obj]
    omega
  have kept : u.settleDevice.tenants = u.tenants ∧ u.settleDevice.mem = u.mem ∧ u.settleDevice.entries = u.entries ∧
      u.settleDevice.works = u.works ∧ u.settleDevice.queues = u.queues ∧ u.settleDevice.cores = u.cores := by
    rw [settled]
    exact ⟨rfl, rfl, rfl, rfl, rfl, rfl⟩
  obtain ⟨tenants', mem', entries', works', queues', cores'⟩ := kept
  obtain ⟨mem0, entries0, works0, queues0, cores0⟩ := s.stepBegun_kept n step
  have tenant : u.settleDevice.tenant n = s.tenantBegun n step := (State.tenant_of_tenants tenants' n).trans begun
  refine ⟨⟨_, congrArg Tenant.steps tenant, rfl, rfl, rfl, rfl, rfl, rfl, rfl, rfl, rfl, rfl, rfl, rfl⟩, congrArg Tenant.waitingRecs tenant,
    ⟨congrArg Tenant.pendingAccum tenant, (other _ notAccum apart.1).trans accum⟩, fun bytes slots => ?_,
    ⟨(other _ notSeed apart.2.1).trans seed, (other _ notStep apart.2.2.1).trans shown, (other _ notService apart.2.2.2).trans service⟩,
    fun up => State.settleDevice_running ?_ low ?_ ?_,
    fun k different => (State.tenant_of_tenants tenants' k).trans (others k different),
    ⟨mem'.trans (mem.trans mem0), entries'.trans (entries.trans entries0), works'.trans (works.trans works0),
      queues'.trans (queues.trans queues0), cores'.trans (cores.trans cores0)⟩⟩
  · rw [tenant, State.tenantBegun, if_neg bytes, if_neg slots]
  · rw [State.isUp, State.device, taken _ notDevice, device low]
    exact up
  · rw [begun]
    exact active
  · rw [begun]
    exact List.append_ne_nil_of_right_ne_nil _ (List.cons_ne_nil _ _)

theorem State.ensureStep_images (s : State) (n step k : Nat) : ((s.ensureStep n step).tenant k).images = (s.tenant k).images := by
  unfold State.ensureStep
  split
  · rfl
  · rw [State.openStep_eq]
    obtain ⟨m, settled, -⟩ := ((s.stepBegun n step).takeBounds n).settleDevice_eq
    obtain ⟨tenants, -⟩ := ((s.stepBegun n step).takeBounds_taken n).kept
    have same : ((s.stepBegun n step).takeBounds n).settleDevice.tenants = (s.stepBegun n step).tenants := by rw [settled, ← tenants]
    rw [State.tenant_of_tenants same, State.stepBegun_tenant]
    by_cases here : k = n
    · subst here
      rw [State.tenant_setTenant]
      rfl
    · rw [State.tenant_setTenant_other _ _ _ _ here]
      rfl

theorem State.ensureStep_entryOf (s : State) (n step : Nat) (k : Work) : (s.ensureStep n step).entryOf k = s.entryOf k := by
  rw [State.entryOf, State.entryOf, State.imageOf, State.imageOf, s.ensureStep_images]

/-- What is read once a context, a work item, a queue and a tenant have changed. -/
theorem State.placed_reads (s : State) (c x w q n : Nat) (y : Ctx) (k : Work) (v : Queue) (tn : Tenant) :
    let u := (((s.setCtx c x y).setWork w k).setQueue q v).setTenant n tn
    u.ctx c x = y ∧ (∀ d z, ctxKey d z ≠ ctxKey c x → u.ctx d z = s.ctx d z) ∧ (u.work? w = some k ∧ ∀ j, j ≠ w → u.work? j = s.work? j) ∧
    (u.queue q = v ∧ ∀ p, p ≠ q → u.queue p = s.queue p) ∧ (u.tenant n = tn ∧ ∀ m, m ≠ n → u.tenant m = s.tenant m) ∧
    { u with ctxs := s.ctxs, works := s.works, queues := s.queues, tenants := s.tenants } = s := by
  simp only [State.ctx, State.work?, State.queue, State.tenant, State.setTenant_frame, State.setQueue_frame, State.setWork_frame, State.setCtx_frame]
  refine ⟨State.ctx_setCtx s c x y, fun d z other => State.ctx_setCtx_other s c x d z y other, ⟨?_, fun j other => ?_⟩,
    ⟨State.queue_setQueue s q v, fun p other => State.queue_setQueue_other s q p v other⟩,
    ⟨State.tenant_setTenant s n tn, fun m other => State.tenant_setTenant_other s n m tn other⟩, trivial⟩
  · exact (State.work?_setWork s w w k).trans (if_pos rfl)
  · exact (State.work?_setWork s w j k).trans (if_neg other)

/-- The context on which work is placed (R366, R373). -/
def Ctx.placed (y : Ctx) (w : Nat) (k : Work) (gs : List Nat) (ab sb start a b : Nat) : Ctx :=
  { y with
    state := 1, waits := .nothing, ip := start,
    sregs := [(1, k.arg0), (2, k.arg1), (3, k.microBatch), (4, k.step)].foldl (fun m p => Sparse.set 0 p.1 p.2 m) [],
    work := some w, groups := gs, accBase := ab, accSize := a * 64, sideBase := sb, sideSize := b * 1024, published := [],
    firstFault := none, stopping := none, tokens := [] }

theorem Ctx.sreg_placed (y : Ctx) (w : Nat) (k : Work) (gs : List Nat) (ab sb start a b i : Nat) :
    (y.placed w k gs ab sb start a b).sreg i = if i = 0 then 0 else if i = 4 then k.step else if i = 3 then k.microBatch
      else if i = 2 then k.arg1 else if i = 1 then k.arg0 else 0 := by
  simp only [Ctx.sreg, Ctx.placed, List.foldl_cons, List.foldl_nil, Sparse.get_set, Sparse.get]

/-- Work is placed (R366, R373, R386, R387). -/
theorem State.putOn_placed {s : State} {k : Work} {start i j a b : Nat} (entry : s.entryOf k = some (start, i, j, a, b)) (w c x : Nat)
    (gs : List Nat) (ab sb : Nat) : PlacedOn s (s.putOn w k c x gs ab sb) w k c x gs ab sb start a b := by
  have put : s.putOn w k c x gs ab sb = (((s.setCtx c x ((s.ctx c x).placed w k gs ab sb start a b)).setWork w
      { k with phase := 2, core := c, ctx := x }).setQueue k.queue { s.queue k.queue with
        consumed := ((s.queue k.queue).consumed + 1) % 2 ^ 32, placed := (s.queue k.queue).placed + 1 }).setTenant k.tenant
      { s.tenant k.tenant with rotCore := if k.pc then (s.tenant k.tenant).rotCore else (c + 1) % 512 } := by
    rw [State.putOn, entry]
    rfl
  obtain ⟨context, contexts, item, queue, tenant, rest⟩ := s.placed_reads c x w k.queue k.tenant ((s.ctx c x).placed w k gs ab sb start a b)
    { k with phase := 2, core := c, ctx := x } { s.queue k.queue with
      consumed := ((s.queue k.queue).consumed + 1) % 2 ^ 32, placed := (s.queue k.queue).placed + 1 }
    { s.tenant k.tenant with rotCore := if k.pc then (s.tenant k.tenant).rotCore else (c + 1) % 512 }
  rw [← put] at context contexts item queue tenant rest
  have sreg := (s.ctx c x).sreg_placed w k gs ab sb start a b
  refine ⟨?_, by rw [context]; rfl, contexts, item, queue, tenant, rest⟩
  rw [context, sreg, sreg, sreg, sreg]
  refine ⟨rfl, rfl, rfl, rfl, fun r high => ?_⟩
  rw [sreg]
  simp only [show r ≠ 0 by omega, show r ≠ 1 by omega, show r ≠ 2 by omega, show r ≠ 3 by omega, show r ≠ 4 by omega, if_false]

theorem descriptorPlace_head {s : State} {q w : Nat} {k : Work} (head : s.queueHead q = some (w, k)) : exec (.descriptorPlace q) s = .next (
    if !s.mayPlace k then s
    else if k.pc && (s.core k.coreField).outOfService then s.endWork w k 3 0
    else (s.placeFor k).elim s fun p =>
      (if k.ns then s else s.ensureStep k.tenant k.step).putOn w k p.1 p.2.1 p.2.2.1 p.2.2.2.1 p.2.2.2.2) := by
  refine congrArg Host.Outcome.next ?_
  unfold State.placeHead
  rw [head]
  dsimp only
  cases s.placeFor k <;> rfl

/-! DISPATCH (R382 to R384, R650, R663) -/

theorem authenticate_drops {s : State} {e : Envelope} {message : List Byte} (up : s.gdpUp = true) (bad : ∀ x, s.session? e.session = some x →
    e.tag ≠ tagOf x.key e.sequence message ∨ e.sequence + 1024 ≤ x.highest) : s.authenticate e message = .settled s.authFail := by
  unfold State.authenticate
  rw [up]
  cases found : s.session? e.session with
  | none => rfl
  | some x => exact if_pos (bad x found)

theorem authenticate_repeats {s : State} {e : Envelope} {message : List Byte} {x : Session} (up : s.gdpUp = true)
    (found : s.session? e.session = some x) (tag : e.tag = tagOf x.key e.sequence message) (recent : x.highest < e.sequence + 1024)
    (seen : x.seen.contains e.sequence = true) : s.authenticate e message = .settled (match x.replies.find? fun r => r.1 == e.sequence with
      | some r => s.sendControl e.net e.peer r.2
      | none => s) := by
  unfold State.authenticate
  rw [up, found]
  dsimp only
  rw [if_neg (by decide), if_neg, if_pos seen]
  rotate_left
  · rintro (other | old)
    exacts [other tag, absurd old (by omega)]
  · cases x.replies.find? fun r => r.1 == e.sequence <;> rfl

theorem dispatch_settled {s t : State} {e : Envelope} {q index : Nat} {d : List Byte}
    (settled : s.authenticate e (dispatchHead 1 q index e.session 0 ++ d) = .settled t) : exec (.dispatch e q index d) s = .next t := by
  change execDispatch e q index d s = _
  rw [execDispatch, settled]

section
variable {s t : State} {e : Envelope} {q index : Nat} {d : List Byte} {x : Session}
  (fresh : s.authenticate e (dispatchHead 1 q index e.session 0 ++ d) = .fresh t x)
include fresh

theorem dispatch_unauthorised (may : t.canWrite x ⟨Obj.queueConfig q / 256, Obj.queueConfig q % 256⟩ = false) :
    exec (.dispatch e q index d) s = .next ((t.violate x.id).dispatchAck e q ((index + 1) % 2 ^ 32) 0) := by
  change execDispatch e q index d s = _
  rw [execDispatch, fresh]
  exact if_pos (by rw [may]; rfl)

variable (may : t.canWrite x ⟨Obj.queueConfig q / 256, Obj.queueConfig q % 256⟩ = true)
include may

theorem dispatch_accepts {n : Nat} (status : t.dispatchStatus q index = 0) (tenant : t.tenantOfQueue q = some n) :
    exec (.dispatch e q index d) s = .next (((t.accept n q index d).setQueue q { (t.accept n q index d).queue q with
      posted := ((t.accept n q index d).queue q).accepted }).dispatchAck e q ((t.accept n q index d).queue q).accepted 0) := by
  change execDispatch e q index d s = _
  rw [execDispatch, fresh]
  dsimp only
  rw [if_neg (by rw [may]; decide), if_pos status, tenant]

theorem dispatch_wrongMode (status : t.dispatchStatus q index = 4) :
    exec (.dispatch e q index d) s = .next ((t.wrongMode q).dispatchAck e q (t.queue q).accepted 4) := by
  change execDispatch e q index d s = _
  rw [execDispatch, fresh]
  dsimp only
  rw [if_neg (by rw [may]; decide), if_neg (by rw [status]; decide), if_pos status]

theorem dispatch_refused {st : Nat} (status : t.dispatchStatus q index = st) (accepts : st ≠ 0) (mode : st ≠ 4) :
    exec (.dispatch e q index d) s = .next (t.dispatchAck e q (t.queue q).accepted st) := by
  change execDispatch e q index d s = _
  rw [execDispatch, fresh]
  dsimp only
  rw [if_neg (by rw [may]; decide), status, if_neg accepts, if_neg mode]

end

theorem State.dispatchStatus_wrongMode {t : State} {q : Nat} (index : Nat) (wrong : t.queueActive q = false ∨ (t.queue q).mode = 2) :
    t.dispatchStatus q index = 4 := by
  refine if_pos ?_
  rcases wrong with h | h <;> simp [h]

theorem State.dispatchStatus_takes {t : State} {q : Nat} (index : Nat) (active : t.queueActive q = true) (takes : (t.queue q).mode ≠ 2) :
    t.dispatchStatus q index = if (index + 2 ^ 32 - (t.queue q).accepted) % 2 ^ 32 = 0 then
      (if ((t.queue q).accepted + 2 ^ 32 - (t.queue q).consumed) % 2 ^ 32 < (t.queue q).submitDepth ∧
        (t.queue q).reserved < (t.queue q).completionDepth then 0 else 3)
    else if 2 ^ 31 ≤ (index + 2 ^ 32 - (t.queue q).accepted) % 2 ^ 32 then 1 else 2 := by
  refine if_neg ?_
  simp [active, takes]

/-- Settles O22: doorbells and acceptance by the run over the posted descriptors, placement by what `putOn` leaves, DISPATCH by its status. -/
theorem workSubmission : Obligations.WorkSubmission := by
  refine ⟨fun s q tail wrong => ⟨_, tailDoorbell_wrongMode wrong, Sparse.get_set_same _ _ _ _, fun p other => Sparse.get_set_other _ _ _ _ _ _ other, rfl⟩,
    ?_, ?_, ?_, ?_, ?_, ?_, ?_, ?_, ?_, ?_⟩
  case refine_1 =>
    intro s q tail active doorbell
    have run := tailDoorbell_run (tail := tail) active doorbell
    refine ⟨fun old => run.trans (if_pos old), fun new recent within => ?_, fun new recent beyond => ?_⟩
    · refine ⟨_, run.trans ((if_neg (by omega)).trans (if_pos within)), State.acceptMany_run q _ _⟩
    · refine ⟨_, run.trans ((if_neg (by omega)).trans (if_neg (Nat.not_le.2 beyond))), ?_, fun r other => ?_, rfl⟩
      · rw [State.queueError, State.queue_setQueue, State.queue_setQueue]
      · rw [State.queueError, State.queue_setQueue_other _ _ _ _ other, State.queue_setQueue_other _ _ _ _ other]
  case refine_2 =>
    intro s q n doorbell may
    exact ⟨_, congrArg Host.Outcome.next (if_pos doorbell), State.acceptNext_accepted may⟩
  case refine_3 =>
    intro s q none
    refine congrArg Host.Outcome.next ?_
    split
    next doorbell => exact State.acceptNext_none (none.resolve_left (not_not_intro doorbell))
    next => rfl
  case refine_4 =>
    intro s q w k c x gs ab sb start i j a b head may inService place entry low
    have active : (s.tenant k.tenant).state ≠ 0 := by
      intro free
      unfold State.mayPlace at may
      rw [free] at may
      exact absurd may (by simp)
    have run := descriptorPlace_head head
    rw [may, inService, place] at run
    refine ⟨if k.ns then s else s.ensureStep k.tenant k.step, _, run, ?_, State.putOn_placed (i := i) (j := j) ?_ w c x gs ab sb⟩
    · cases ns : k.ns with
      | true => exact (if_pos (.inl rfl)).mpr rfl
      | false =>
        by_cases isOpen : ((s.tenant k.tenant).step? k.step).isSome = true
        · exact (if_pos (.inr isOpen)).mpr (State.ensureStep_open isOpen)
        · refine (if_neg (not_or.2 ⟨Bool.false_ne_true, isOpen⟩)).mpr ?_
          have opens : s.ensureStep k.tenant k.step = s.openStep k.tenant k.step := if_neg isOpen
          rw [if_neg Bool.false_ne_true, opens]
          exact State.openStep_opened k.step low active
    · split
      · exact entry
      · rw [State.ensureStep_entryOf, entry]
  case refine_5 =>
    intro s q w k head may pc out
    have run := descriptorPlace_head head
    rw [may, pc, out] at run
    exact ⟨_, run, s.endWork_ended w k 3 0⟩
  case refine_6 =>
    intro s q w k head waits
    have run := descriptorPlace_head head
    refine run.trans (congrArg Host.Outcome.next ?_)
    rcases waits with may | ⟨place, inService⟩
    · rw [may]
      rfl
    · rw [place, inService]
      exact ite_self s
  case refine_7 =>
    intro s q none
    refine congrArg Host.Outcome.next ?_
    rw [State.placeHead, none]
  case refine_8 =>
    intro s e q index d up bad
    exact ⟨_, dispatch_settled (authenticate_drops up bad), s.onlyRegs_setReg _ _, State.reg_setReg_same _ _ _⟩
  case refine_9 =>
    intro s e q index d x up found tag recent seen
    exact dispatch_settled (authenticate_repeats up found tag recent seen)
  case refine_10 =>
    intro s e q index d t x fresh
    refine ⟨dispatch_unauthorised fresh, fun may => ⟨fun n tenant active takes => ?_, fun wrong => ?_⟩⟩
    · have status := State.dispatchStatus_takes index active takes
      refine ⟨fun next room => ?_, fun next full => ?_, fun earlier => ?_, fun later near => ?_⟩
      · exact ⟨_, t.accept_accepted n q index d,
          dispatch_accepts fresh may (status.trans ((if_pos next).trans (if_pos room))) tenant⟩
      · exact dispatch_refused fresh may (status.trans ((if_pos next).trans (if_neg full))) (by decide) (by decide)
      · exact dispatch_refused fresh may (status.trans ((if_neg (by omega)).trans (if_pos earlier))) (by decide) (by decide)
      · exact dispatch_refused fresh may (status.trans ((if_neg (by omega)).trans (if_neg (by omega)))) (by decide) (by decide)
    · exact dispatch_wrongMode fresh may (State.dispatchStatus_wrongMode index wrong)

end Sys2Proof.Machine
end

section
/-! The words of a context's stream (R12, R157, R158, R209, R215, R250, R251, R255, R279, R340, R375, R512): the command an opcode spells, and
the bits at which the fields of its word stand. -/

namespace Sys2Proof.Machine

set_option Elab.async false

/-! The command of an opcode (R215) -/

/-- The command of a word, by its opcode. -/
def decodeOpcode (core ctx op w : Nat) : Instr :=
  (if op < 0x040 then decodeScalar core ctx op (.ofWord w)
    else if op < 0x080 then decodeMover core ctx op w
    else if op < 0x100 then decodeMatrix core ctx op w
    else decodeRow core ctx op w).getD (.reservedOpcode core ctx op false)

theorem decodeStream_opcode {c x w o r : Nat} (word : w = o * 2 ^ 118 + r) (low : r < 2 ^ 118) (ten : o < 2 ^ 10) :
    decodeStream c x w = decodeOpcode c x o w := by
  have opcode : opcodeOf w = o := by
    unfold opcodeOf wordBits
    omega
  rw [decodeStream, opcode]
  rfl

section
variable (c x w : Nat)

theorem decodeOpcode_scalar : ∀ p ∈ scalarOpcodes, decodeOpcode c x p.1 w = p.2 c x (.ofWord w) := by
  simp only [scalarOpcodes, List.forall_mem_cons]
  exact ⟨rfl, rfl, rfl, rfl, rfl, rfl, rfl, rfl, rfl, rfl, rfl, rfl, rfl, rfl, rfl, rfl, rfl, rfl, rfl, rfl, List.forall_mem_nil _⟩

theorem decodeOpcode_mover : ∀ p ∈ moverOpcodes, decodeOpcode c x p.1 w = p.2 c x (.ofWord w) := by
  simp only [moverOpcodes, List.forall_mem_cons]
  exact ⟨rfl, rfl, rfl, rfl, rfl, rfl, rfl, List.forall_mem_nil _⟩

theorem decodeOpcode_fused : ∀ p ∈ fusedOpcodes, decodeOpcode c x p.1 w = p.2 c x (.ofWord w true) := by
  simp only [fusedOpcodes, List.forall_mem_cons]
  exact ⟨rfl, rfl, rfl, rfl, rfl, List.forall_mem_nil _⟩

theorem decodeOpcode_copy : ∀ p ∈ copyOpcodes, decodeOpcode c x p.1 w = p.2 c x (.ofWord w) := by
  simp only [copyOpcodes, List.forall_mem_cons]
  exact ⟨rfl, rfl, rfl, rfl, rfl, rfl, List.forall_mem_nil _⟩

theorem decodeOpcode_row : ∀ p ∈ rowOpcodes, decodeOpcode c x p.1 w = p.2 c x (.ofWord w) := by
  simp only [rowOpcodes, List.forall_mem_cons]
  exact ⟨rfl, rfl, rfl, rfl, rfl, List.forall_mem_nil _⟩

theorem decodeOpcode_update : ∀ p ∈ updOpcodes, decodeOpcode c x p.1 w = p.2 c x (.ofWord w) := by
  simp only [updOpcodes, List.forall_mem_cons]
  exact ⟨rfl, rfl, rfl, List.forall_mem_nil _⟩

/-- The opcodes of a context's stream that a chapter lists. -/
def streamOpcodes : List Nat := scalarOpcodes.map (·.1) ++ moverOpcodes.map (·.1) ++ fusedOpcodes.map (·.1) ++ copyOpcodes.map (·.1) ++
  rowOpcodes.map (·.1) ++ updOpcodes.map (·.1) ++ [0x80, 0x81, 0x41, 0x42, 0x230]

variable {o : Nat} (unlisted : o ∉ streamOpcodes)
include unlisted

theorem decodeScalar_unlisted (f : ScalarWord) : decodeScalar c x o f = none := by
  unfold decodeScalar
  split
  case h_21 => rfl
  all_goals exact absurd (by decide) unlisted

theorem decodeMover_unlisted : decodeMover c x o w = none := by
  unfold decodeMover
  split
  case h_10 => rfl
  all_goals exact absurd (by decide) unlisted

theorem decodeMatrix_unlisted : decodeMatrix c x o w = none := by
  unfold decodeMatrix
  split
  case h_14 => rfl
  all_goals exact absurd (by decide) unlisted

theorem decodeRow_unlisted : decodeRow c x o w = none := by
  unfold decodeRow
  split
  case h_10 => rfl
  all_goals exact absurd (by decide) unlisted

theorem decodeOpcode_unlisted : decodeOpcode c x o w = .reservedOpcode c x o false := by
  rw [decodeOpcode, decodeScalar_unlisted c x unlisted, decodeMover_unlisted c x w unlisted, decodeMatrix_unlisted c x w unlisted,
    decodeRow_unlisted c x w unlisted, ite_self, ite_self, ite_self, Option.getD_none]

end

/-! The fields of the words -/

theorem flagNat_lt (b : Bool) : flagNat b < 2 := by cases b <;> decide

/-- A flag stands at its bit. -/
theorem wordFlag_of {w i : Nat} {b : Bool} (h : w / 2 ^ i % 2 = flagNat b) : wordFlag w i = b := by
  rw [wordFlag, h]
  cases b <;> rfl

/-- The scalar word (R375). -/
theorem scalarWord_fields (f : ScalarWord) (o a b : Nat) (sd : f.sd < 32) (sa : f.sa < 32) (sb : f.sb < 32) (token : f.token < 256)
    (cnt : f.cnt < 2 ^ 16) (imm : f.imm < 2 ^ 64) (ha : a < 32) (hb : b < 2 ^ 9) :
    ScalarWord.ofWord (o * 2 ^ 118 + flagNat f.immFlag * 2 ^ 117 + a * 2 ^ 112 + f.sd * 2 ^ 107 + f.sa * 2 ^ 102 + f.sb * 2 ^ 97 +
      b * 2 ^ 88 + f.token * 2 ^ 80 + f.cnt * 2 ^ 64 + f.imm) = f := by
  have flag := flagNat_lt f.immFlag
  obtain ⟨immFlag, sd, sa, sb, token, cnt, imm⟩ := f
  dsimp only at *
  simp only [ScalarWord.ofWord, ScalarWord.mk.injEq, wordBits]
  refine ⟨wordFlag_of ?_, ?_, ?_, ?_, ?_, ?_, ?_⟩ <;> omega

/-- The MMA word (R158, R510). -/
theorem mmaWord_fields (f : MmaWord) (o cp r : Nat) (x : f.x < 2 ^ 12) (w : f.w < 2 ^ 12) (y : f.y < 2 ^ 12) (tout : f.tout < 2 ^ 12)
    (tx : f.tx < 2 ^ 12) (tw : f.tw < 2 ^ 12) (osc : f.osc < 2 ^ 8) (part : f.part < 4) (abase : f.abase < 2 ^ 11) (lst : f.lst < 32)
    (hcp : cp < 2 ^ 10) (hr : r < 16) (fused : Bool) :
    MmaWord.ofWord (o * 2 ^ 118 + flagNat f.acc * 2 ^ 117 + flagNat f.out * 2 ^ 116 + flagNat f.wt * 2 ^ 115 +
      flagNat f.xt * 2 ^ 114 + flagNat f.osr * 2 ^ 113 + f.x * 2 ^ 100 + f.w * 2 ^ 88 + f.y * 2 ^ 76 + f.tout * 2 ^ 64 + f.tx * 2 ^ 52 +
      f.tw * 2 ^ 40 + f.osc * 2 ^ 32 + f.part * 2 ^ 30 + f.abase * 2 ^ 19 + f.lst * 2 ^ 14 + cp * 2 ^ 4 + r) fused =
        { f with cp := if fused then cp else 0 } := by
  have acc := flagNat_lt f.acc
  have out := flagNat_lt f.out
  have wt := flagNat_lt f.wt
  have xt := flagNat_lt f.xt
  have osr := flagNat_lt f.osr
  obtain ⟨acc, out, wt, xt, osr, x, w, y, tout, tx, tw, osc, part, abase, lst, cp'⟩ := f
  dsimp only at *
  simp only [MmaWord.ofWord, MmaWord.mk.injEq, wordBits]
  refine ⟨wordFlag_of ?_, wordFlag_of ?_, wordFlag_of ?_, wordFlag_of ?_, wordFlag_of ?_, ?_, ?_, ?_, ?_, ?_, ?_, ?_, ?_, ?_, ?_,
    if_congr Iff.rfl ?_ rfl⟩ <;> omega

/-- The data mover word (R251, R344). -/
theorem dmWord_fields (f : DmWord) (o a : Nat) (x : f.x < 2 ^ 12) (y : f.y < 2 ^ 12) (g : f.g < 2 ^ 12) (cnt : f.cnt < 2 ^ 12)
    (imm0 : f.imm0 < 2 ^ 32) (imm1 : f.imm1 < 2 ^ 32) (ha : a < 4) :
    DmWord.ofWord (o * 2 ^ 118 + flagNat f.sr * 2 ^ 117 + flagNat f.ovf * 2 ^ 116 + flagNat f.cond * 2 ^ 115 + flagNat f.mode * 2 ^ 114 +
      a * 2 ^ 112 + f.x * 2 ^ 100 + f.y * 2 ^ 88 + f.g * 2 ^ 76 + f.cnt * 2 ^ 64 + f.imm0 * 2 ^ 32 + f.imm1) = f := by
  have sr := flagNat_lt f.sr
  have ovf := flagNat_lt f.ovf
  have cond := flagNat_lt f.cond
  have mode := flagNat_lt f.mode
  obtain ⟨sr, ovf, cond, mode, x, y, g, cnt, imm0, imm1⟩ := f
  dsimp only at *
  simp only [DmWord.ofWord, DmWord.mk.injEq, wordBits]
  refine ⟨wordFlag_of ?_, wordFlag_of ?_, wordFlag_of ?_, wordFlag_of ?_, ?_, ?_, ?_, ?_, ?_, ?_⟩ <;> omega

/-- The row operation word (R209). -/
theorem rowWord_fields (f : RowWord) (o a : Nat) (x : f.x < 2 ^ 12) (y : f.y < 2 ^ 12) (g : f.g < 2 ^ 12) (b : f.b < 2 ^ 12)
    (sbase : f.sbase < 2 ^ 16) (imm : f.imm < 2 ^ 32) (ofs : f.ofs < 2 ^ 16) (ha : a < 2) :
    RowWord.ofWord (o * 2 ^ 118 + flagNat f.mode * 2 ^ 117 + flagNat f.bmask * 2 ^ 116 + flagNat f.sr * 2 ^ 115 + flagNat f.ovf * 2 ^ 114 +
      flagNat f.psrc * 2 ^ 113 + a * 2 ^ 112 + f.x * 2 ^ 100 + f.y * 2 ^ 88 + f.g * 2 ^ 76 + f.b * 2 ^ 64 + f.sbase * 2 ^ 48 +
      f.imm * 2 ^ 16 + f.ofs) = f := by
  have mode := flagNat_lt f.mode
  have bmask := flagNat_lt f.bmask
  have sr := flagNat_lt f.sr
  have ovf := flagNat_lt f.ovf
  have psrc := flagNat_lt f.psrc
  obtain ⟨mode, bmask, sr, ovf, psrc, x, y, g, b, sbase, imm, ofs⟩ := f
  dsimp only at *
  simp only [RowWord.ofWord, RowWord.mk.injEq, wordBits]
  refine ⟨wordFlag_of ?_, wordFlag_of ?_, wordFlag_of ?_, wordFlag_of ?_, wordFlag_of ?_, ?_, ?_, ?_, ?_, ?_, ?_, ?_⟩ <;> omega

end Sys2Proof.Machine
end

section
/-! VLAUNCH and the ends of kernels and work (R197, R376, R377, R394), and the words of a context's stream (R157, R215, R375). -/

namespace Sys2Proof.Machine

set_option Elab.async false

/-! Launching a kernel (R197, R376) -/

/-- The kernel that VLAUNCH starts, before blocks of it run. -/
def launchedKernel (w : ScalarWord) (x : Nat) : Kernel :=
  { ctx := x, token := w.token, blocks := w.cnt, start := w.imm, nextBlock := 0, ended := 0, groups := [] }

/-- A token of a context has changed. -/
def State.withToken (s : State) (c x tk : Nat) (v : Token) : State :=
  if tk = 0 then s else s.setCtx c x ((s.ctx c x).setToken tk v)

theorem State.ctx_withToken (s : State) (c x tk : Nat) (v : Token) : (s.withToken c x tk v).ctx c x = (s.ctx c x).setToken tk v := by
  unfold State.withToken Ctx.setToken
  split
  · rfl
  · exact State.ctx_setCtx _ _ _ _

theorem State.ctx_withToken_other (s : State) (c x tk : Nat) (v : Token) {d y : Nat} (other : ctxKey d y ≠ ctxKey c x) :
    (s.withToken c x tk v).ctx d y = s.ctx d y := by
  unfold State.withToken
  split
  · rfl
  · exact State.ctx_setCtx_other s c x d y _ other

theorem State.withToken_eq (s : State) (c x tk : Nat) (v : Token) : ∃ m, s.withToken c x tk v = { s with ctxs := m } := by
  unfold State.withToken
  split
  · exact ⟨s.ctxs, rfl⟩
  · exact ⟨_, rfl⟩

theorem State.withToken_launches {s t : State} {c x : Nat} {w : ScalarWord} {v : Token}
    (h : t.ctxs = ((s.started c x).withToken c x w.token v).ctxs) : Launches s t c x w v := by
  have reads (d y : Nat) : t.ctx d y = ((s.started c x).withToken c x w.token v).ctx d y := by rw [State.ctx, State.ctx, h]
  have here : t.ctx c x = ({ s.ctx c x with state := 2, waits := .nothing, ip := (s.ctx c x).ip + 16 } : Ctx).setToken w.token v := by
    rw [reads, State.ctx_withToken, State.started_ctx]
  refine ⟨fun named => ?_, fun i other => ?_, ?_, fun d y other => ?_⟩
  · rw [here]
    exact Ctx.token_setToken_same _ v named
  · rw [here]
    exact Ctx.token_setToken_other _ v other
  · rw [here]
    have same := Ctx.setToken_tokens { s.ctx c x with state := 2, waits := .nothing, ip := (s.ctx c x).ip + 16 } w.token v
    exact same
  · rw [reads, State.ctx_withToken_other _ _ _ _ _ other]

/-- A token that was launched and is done at once. -/
theorem Launches.done {s u t : State} {c x : Nat} {w : ScalarWord} {v : Token} (h : Launches s u c x w v) (d : TokenDone u t c x w.token 0) :
    Launches s t c x w (.done 0) := by
  obtain ⟨-, tokens, context, contexts⟩ := h
  have idle : (u.ctx c x).waits = .nothing := by
    have waits := congrArg Ctx.waits context
    exact waits
  have finished (named : w.token ≠ 0) := d.done named fun sd => .inl fun waits => nomatch idle.symm.trans waits
  refine ⟨fun named => (finished named).1, fun i other => (d.others.1 i other).trans (tokens i other), ?_,
    fun e y other => (d.others.2.1 e y other).trans (contexts e y other)⟩
  by_cases named : w.token = 0
  · rw [d.none named]
    exact context
  · have same := congrArg (fun y : Ctx => { y with tokens := (s.ctx c x).tokens }) (finished named).2
    exact same.trans context

theorem State.issueToken_some {s : State} {c x tk : Nat} (free : tk = 0 ∨ (s.ctx c x).token tk = .free) :
    s.issueToken c x tk = some (s.withToken c x tk .outstanding) := by
  unfold State.issueToken State.withToken
  by_cases none : tk = 0
  · rw [if_pos none, if_pos none]
  · rw [if_neg none, if_neg none]
    exact if_pos (free.resolve_left none)

theorem State.issueToken_none {s : State} {c x tk : Nat} (named : tk ≠ 0) (taken : (s.ctx c x).token tk ≠ .free) :
    s.issueToken c x tk = none :=
  (if_neg named).trans (if_neg taken)

theorem State.started_token (s : State) (c x tk : Nat) : ((s.started c x).ctx c x).token tk = (s.ctx c x).token tk := by
  rw [State.started_ctx]
  rfl

/-- The state in which VLAUNCH has made its token outstanding. -/
def State.launching (s : State) (c x : Nat) (w : ScalarWord) : State := (s.started c x).withToken c x w.token .outstanding

theorem State.launching_eq (s : State) (c x : Nat) (w : ScalarWord) : ∃ m, s.launching c x w = { s with ctxs := m } := by
  obtain ⟨m, started⟩ := s.started_eq c x
  obtain ⟨m', token⟩ := (s.started c x).withToken_eq c x w.token .outstanding
  rw [State.launching, token, started]
  exact ⟨m', rfl⟩

theorem State.launching_groups (s : State) (c x : Nat) (w : ScalarWord) : ((s.launching c x w).ctx c x).groups = (s.ctx c x).groups := by
  obtain ⟨m, eq⟩ := Ctx.setToken_eq ((s.started c x).ctx c x) w.token .outstanding
  rw [State.launching, State.ctx_withToken, eq, State.started_ctx]

section
variable {s : State} {c x : Nat} {w : ScalarWord} {k : Work} (issues : Issues s c x k)
include issues

theorem vlaunch_run : exec (.vlaunch c x w) s = .next (match (s.started c x).issueToken c x w.token with
    | none => (s.started c x).instrFault c x
    | some t1 =>
      if w.cnt = 0 then t1.finishToken c x w.token 0
      else (t1.setCore c { t1.core c with kernels := (t1.core c).kernels ++ [launchedKernel w x] }).handOut c x) :=
  (congrArg Host.Outcome.next (State.issue_ok issues _)).trans (by rfl)

theorem vlaunch_taken (named : w.token ≠ 0) (taken : (s.ctx c x).token w.token ≠ .free) :
    exec (.vlaunch c x w) s = .next ((s.started c x).instrFault c x) := by
  rw [vlaunch_run issues, State.issueToken_none named (by rw [State.started_token]; exact taken)]

variable (free : w.token = 0 ∨ (s.ctx c x).token w.token = .free)
include free

theorem vlaunch_empty (empty : w.cnt = 0) : exec (.vlaunch c x w) s = .next ((s.launching c x w).finishToken c x w.token 0) := by
  rw [vlaunch_run issues, State.issueToken_some (by rw [State.started_token]; exact free)]
  exact congrArg Host.Outcome.next (if_pos empty)

theorem vlaunch_blocks (blocks : w.cnt ≠ 0) : exec (.vlaunch c x w) s = .next (((s.launching c x w).setCore c { s.core c with
    kernels := (s.core c).kernels ++ [launchedKernel w x] }).handOut c x) := by
  obtain ⟨m, eq⟩ := s.launching_eq c x w
  have core : (s.launching c x w).core c = s.core c := by rw [eq]; rfl
  rw [vlaunch_run issues, State.issueToken_some (by rw [State.started_token]; exact free)]
  refine (congrArg Host.Outcome.next (if_neg blocks)).trans ?_
  rw [← State.launching, core]

end

/-- A launched kernel runs no block yet, so that the idle groups are those before. -/
theorem State.idleGroups_launched (s : State) (c x : Nat) (w : ScalarWord) : ((s.launching c x w).setCore c { s.core c with
    kernels := (s.core c).kernels ++ [launchedKernel w x] }).idleGroups c x = s.idleGroups c x := by
  have groups : (((s.launching c x w).setCore c { s.core c with kernels := (s.core c).kernels ++ [launchedKernel w x] }).ctx c x).groups =
      (s.ctx c x).groups := s.launching_groups c x w
  rw [State.idleGroups, State.idleGroups, groups, State.core_setCore]
  simp [List.any_append, launchedKernel]

/-- The only idle group takes the first block of a kernel just launched. -/
theorem State.handOut_launched {s : State} {c x g : Nat} {w : ScalarWord} (blocks : w.cnt ≠ 0) (idle : s.idleGroups c x = [g])
    (noneLeft : ∀ kn ∈ (s.core c).kernels, kn.ctx = x → kn.blocks ≤ kn.nextBlock) :
    ((s.launching c x w).setCore c { s.core c with kernels := (s.core c).kernels ++ [launchedKernel w x] }).handOut c x =
      (((s.launching c x w).setCore c { s.core c with kernels := (s.core c).kernels ++ [launchedKernel w x] }).setCore c { s.core c with
        kernels := (s.core c).kernels ++ [{ launchedKernel w x with groups := [(g, 0, w.imm)], nextBlock := 1 }] }).startBlock c g 0 w.cnt := by
  have older : ∀ kn ∈ (s.core c).kernels, (kn.ctx == x && decide (kn.nextBlock < kn.blocks)) = false := by
    intro kn listed
    by_cases own : kn.ctx = x
    · have := noneLeft kn listed own
      simp [Nat.not_lt.2 this]
    · simp [own]
  have new : ((launchedKernel w x).ctx == x && decide ((launchedKernel w x).nextBlock < (launchedKernel w x).blocks)) = true := by
    simp [launchedKernel, Nat.pos_of_ne_zero blocks]
  have found : ((s.core c).kernels ++ [launchedKernel w x]).find? (fun kn => kn.ctx == x && decide (kn.nextBlock < kn.blocks)) =
      some (launchedKernel w x) := by
    rw [List.find?_append, List.find?_eq_none.2 fun kn listed => by rw [older kn listed]; decide]
    rw [Option.none_or, List.find?_cons, new]
  have place : ((s.core c).kernels ++ [launchedKernel w x]).findIdx (fun kn => kn.ctx == x && decide (kn.nextBlock < kn.blocks)) =
      (s.core c).kernels.length := by
    rw [List.findIdx_append, List.findIdx_eq_length_of_false older, if_neg (Nat.lt_irrefl _), List.findIdx_cons, new]
    exact Nat.zero_add _
  rw [State.handOut, State.idleGroups_launched, idle, List.foldl_cons, List.foldl_nil, State.core_setCore]
  dsimp only
  rw [found]
  dsimp only
  rw [place, List.set_append_right _ _ (Nat.le_refl _), Nat.sub_self]
  rfl

/-! The end of a kernel, and of work (R197, R376, R377, R394) -/

theorem kernelComplete_done {s : State} {c x tk : Nat} {k : Kernel}
    (found : ((s.core c).kernels.find? fun k => k.ctx == x && k.token == tk && k.done) = some k) : exec (.kernelComplete c x tk) s =
      .next ((s.setCore c { s.core c with kernels := (s.core c).kernels.erase k }).finishToken c x tk 0) := by
  change execKernelComplete c x tk s = _
  unfold execKernelComplete
  dsimp only
  rw [found]

theorem kernelComplete_none {s : State} {c x tk : Nat}
    (none : ((s.core c).kernels.all fun k => !(k.ctx == x && k.token == tk && k.done)) = true) : exec (.kernelComplete c x tk) s = .next s := by
  have found : ((s.core c).kernels.find? fun k => k.ctx == x && k.token == tk && k.done) = Option.none :=
    List.find?_eq_none.2 fun k listed done => by
      have other := List.all_eq_true.1 none k listed
      rw [done] at other
      exact absurd other (by decide)
  change execKernelComplete c x tk s = _
  unfold execKernelComplete
  dsimp only
  rw [found]

theorem State.endOnCtx_work {s : State} {c x w : Nat} {k : Work} (work : s.ctxWork c x = some (w, k)) (status : Nat) :
    s.endOnCtx c x status = (s.idleCtx c x).endWork w { k with published := (s.ctx c x).published } status
      (if status = 1 then (match (s.ctx c x).firstFault with | some f => f.1 + f.2 * 2 ^ 16 | none => 0) else 0) := by
  unfold State.endOnCtx
  dsimp only
  rw [work] <;> rfl

/-- Work that ends on a context frees it and completes (R377, R394). -/
theorem State.endOnCtx_ends {s : State} {c x w : Nat} {k : Work} (work : s.ctxWork c x = some (w, k)) (status detail : Nat)
    (said : (if status = 1 then (match (s.ctx c x).firstFault with | some f => f.1 + f.2 * 2 ^ 16 | none => 0) else 0) = detail) :
    ∃ u, CtxFreed s u c x ∧ { u with cores := s.cores, ctxs := s.ctxs } = s ∧
      WorkEnded u (s.endOnCtx c x status) w { k with published := (s.ctx c x).published } status detail := by
  obtain ⟨freed, rest⟩ := s.idleCtx_freed c x
  rw [State.endOnCtx_work work, said]
  exact ⟨_, freed, rest, State.endWork_ended _ _ _ _ _⟩

theorem workComplete_run (s : State) (c x : Nat) : exec (.workComplete c x) s = .next (
    if s.quiet c x = false then s
    else if (s.ctx c x).state = 4 then s.endOnCtx c x 1
    else if (s.ctx c x).state = 3 ∧ (s.ctx c x).waits = .ending then s.endOnCtx c x 0
    else s) := by
  change execWorkComplete c x s = _
  unfold execWorkComplete
  dsimp only
  simp only [apply_ite (Host.Outcome.next (σ := State) (φ := Fault) (ρ := Refusal)), Bool.not_eq_true']

theorem vlaunch_empty_launches : ∀ (s : State) (c x : Nat) (w : ScalarWord) (k : Work), Issues s c x k → w.cnt = 0 →
    w.token = 0 ∨ (s.ctx c x).token w.token = .free → ∃ t, exec (.vlaunch c x w) s = .next t ∧ Launches s t c x w (.done 0) ∧
      { t with ctxs := s.ctxs } = s := by
  intro s c x w k issues empty free
  obtain ⟨m, eq⟩ := s.launching_eq c x w
  have done := (s.launching c x w).finishToken_tokenDone c x w.token (st := 0) (by decide)
  refine ⟨_, vlaunch_empty issues free empty, Launches.done (State.withToken_launches rfl) done, ?_⟩
  have rest := congrArg (fun u : State => { u with ctxs := s.ctxs }) done.others.2.2
  exact rest.trans (by rw [eq])

theorem vlaunch_waits_launches : ∀ (s : State) (c x : Nat) (w : ScalarWord) (k : Work), Issues s c x k → w.cnt ≠ 0 →
    w.token = 0 ∨ (s.ctx c x).token w.token = .free → s.idleGroups c x = [] → ∃ t, exec (.vlaunch c x w) s = .next t ∧
      Launches s t c x w .outstanding ∧ t.core c = { s.core c with kernels := (s.core c).kernels ++
        [{ ctx := x, token := w.token, blocks := w.cnt, start := w.imm, nextBlock := 0, ended := 0, groups := [] }] } ∧
      (∀ d, d ≠ c → t.core d = s.core d) ∧ { t with ctxs := s.ctxs, cores := s.cores } = s := by
  intro s c x w k issues blocks free idle
  obtain ⟨m, eq⟩ := s.launching_eq c x w
  have none : ((s.launching c x w).setCore c { s.core c with kernels := (s.core c).kernels ++ [launchedKernel w x] }).handOut c x =
      (s.launching c x w).setCore c { s.core c with kernels := (s.core c).kernels ++ [launchedKernel w x] } := by
    rw [State.handOut, State.idleGroups_launched, idle, List.foldl_nil]
  refine ⟨_, (vlaunch_blocks issues free blocks).trans (congrArg Host.Outcome.next none), State.withToken_launches rfl,
    State.core_setCore _ _ _, fun d other => (State.core_setCore_other _ _ _ _ other).trans ?_, ?_⟩
  · rw [eq]
    rfl
  · rw [eq]
    rfl

/-- The state in which the launched kernel has handed its first block to a group, before that group starts it. -/
def State.handed (s : State) (c x g : Nat) (w : ScalarWord) : State :=
  ((s.launching c x w).setCore c { s.core c with kernels := (s.core c).kernels ++ [launchedKernel w x] }).setCore c { s.core c with
    kernels := (s.core c).kernels ++ [{ launchedKernel w x with groups := [(g, 0, w.imm)], nextBlock := 1 }] }

theorem State.handed_eq (s : State) (c x g : Nat) (w : ScalarWord) :
    ∃ m cs, s.handed c x g w = { s with ctxs := m, cores := cs } := by
  obtain ⟨m, eq⟩ := s.launching_eq c x w
  rw [State.handed, eq]
  exact ⟨m, _, rfl⟩

theorem State.handed_core_other (s : State) {c d : Nat} (x g : Nat) (w : ScalarWord) (other : d ≠ c) :
    (s.handed c x g w).core d = s.core d := by
  obtain ⟨m, eq⟩ := s.launching_eq c x w
  have before : (s.launching c x w).core d = s.core d := by
    rw [eq]
    exact rfl
  exact (State.core_setCore_other _ _ _ _ other).trans ((State.core_setCore_other _ _ _ _ other).trans before)

theorem State.handed_ctxs (s : State) (c x g : Nat) (w : ScalarWord) : (s.handed c x g w).ctxs = (s.launching c x w).ctxs := rfl

theorem State.handed_threads (s : State) (c x g : Nat) (w : ScalarWord) : (s.handed c x g w).threads = s.threads := by
  obtain ⟨m, cs, eq⟩ := s.handed_eq c x g w
  rw [eq]

/-- A block that starts writes threads alone. -/
theorem State.startBlock_eq (s : State) (c g block total : Nat) : ∃ ts, s.startBlock c g block total = { s with threads := ts } :=
  ⟨_, rfl⟩

section
variable (s : State) {c x g : Nat} (w : ScalarWord) (n : Nat)

theorem State.handed_startBlock_ctxs : ((s.handed c x g w).startBlock c g 0 n).ctxs = (s.launching c x w).ctxs := by
  obtain ⟨ts, block⟩ := (s.handed c x g w).startBlock_eq c g 0 n
  rw [block]
  exact s.handed_ctxs c x g w

theorem State.handed_startBlock_core (d : Nat) : ((s.handed c x g w).startBlock c g 0 n).core d = (s.handed c x g w).core d := by
  obtain ⟨ts, block⟩ := (s.handed c x g w).startBlock_eq c g 0 n
  rw [block]
  exact rfl

theorem State.handed_startBlock_frame :
    { (s.handed c x g w).startBlock c g 0 n with ctxs := s.ctxs, cores := s.cores, threads := s.threads } = s := by
  obtain ⟨ts, block⟩ := (s.handed c x g w).startBlock_eq c g 0 n
  obtain ⟨m, cs, eq⟩ := s.handed_eq c x g w
  rw [block, eq]

/-- The group's threads start with their index, block 0 and the number of blocks (R198). -/
theorem State.handed_startBlock_thread {i : Nat} (lane : i < 64) :
    (∀ r, (((s.handed c x g w).startBlock c g 0 n).thread c g i).reg r = if r = 0 then i else if r = 2 then n else 0) ∧
    (((s.handed c x g w).startBlock c g 0 n).thread c g i).preds = 15 ∧
    (((s.handed c x g w).startBlock c g 0 n).thread c g i).exited = false := by
  rw [State.thread_startBlock _ _ _ _ _ lane]
  refine ⟨fun r => ?_, rfl, rfl⟩
  rw [startThread_reg]
  split
  next => exact rfl
  next =>
    split
    next one => rw [if_neg (by omega)]
    next => exact rfl

theorem State.handed_startBlock_thread_other {d h i : Nat} (low : g < 64) (lane : i < 64) (group : h < 64) (other : d ≠ c ∨ h ≠ g) :
    ((s.handed c x g w).startBlock c g 0 n).thread d h i = s.thread d h i := by
  rw [State.thread_startBlock_other _ _ _ _ _ lane low group other, State.thread, State.handed_threads]
  exact rfl

end

theorem vlaunch_starts_block : ∀ (s : State) (c x g : Nat) (w : ScalarWord) (k : Work), Issues s c x k → w.cnt ≠ 0 → g < 64 →
    w.token = 0 ∨ (s.ctx c x).token w.token = .free → s.idleGroups c x = [g] →
    (∀ kn ∈ (s.core c).kernels, kn.ctx = x → kn.blocks ≤ kn.nextBlock) → ∃ t, exec (.vlaunch c x w) s = .next t ∧
      Launches s t c x w .outstanding ∧ t.core c = { s.core c with kernels := (s.core c).kernels ++
        [{ ctx := x, token := w.token, blocks := w.cnt, start := w.imm, nextBlock := 1, ended := 0, groups := [(g, 0, w.imm)] }] } ∧
      (∀ d, d ≠ c → t.core d = s.core d) ∧
      (∀ i r, i < 64 → (t.thread c g i).reg r = if r = 0 then i else if r = 2 then w.cnt else 0) ∧
      (∀ i, i < 64 → (t.thread c g i).preds = 15 ∧ (t.thread c g i).exited = false) ∧
      (∀ d h i, i < 64 → h < 64 → d ≠ c ∨ h ≠ g → t.thread d h i = s.thread d h i) ∧
      { t with ctxs := s.ctxs, cores := s.cores, threads := s.threads } = s := by
  intro s c x g w k issues blocks low free idle noneLeft
  have one : _ = (s.handed c x g w).startBlock c g 0 w.cnt := State.handOut_launched blocks idle noneLeft
  refine ⟨_, (vlaunch_blocks issues free blocks).trans (congrArg Host.Outcome.next one),
    State.withToken_launches (s.handed_startBlock_ctxs w _), ?_, fun d other => ?_, fun i r lane => ?_, fun i lane => ?_,
    fun d h i lane group other => s.handed_startBlock_thread_other w _ low lane group other, s.handed_startBlock_frame w _⟩
  · exact (s.handed_startBlock_core w _ c).trans (State.core_setCore _ _ _)
  · exact (s.handed_startBlock_core w _ d).trans (s.handed_core_other x g w other)
  · exact (s.handed_startBlock_thread w _ lane).1 r
  · exact (s.handed_startBlock_thread w _ lane).2

theorem kernelComplete_ends : ∀ (s : State) (c x tk : Nat) (k : Kernel),
    ((s.core c).kernels.find? fun k => k.ctx == x && k.token == tk && k.done) = some k →
    ∃ t, exec (.kernelComplete c x tk) s = .next t ∧ t.core c = { s.core c with kernels := (s.core c).kernels.erase k } ∧
      (∀ d, d ≠ c → t.core d = s.core d) ∧
      (tk = 0 → t.ctx c x = s.ctx c x) ∧
      (∀ sd, tk ≠ 0 → (s.ctx c x).waits = .token tk sd → (s.ctx c x).state = 3 → (t.ctx c x).token tk = .free ∧
        (t.ctx c x).sreg sd = 0 ∧ (t.ctx c x).state = 1 ∧ (t.ctx c x).waits = .nothing) ∧
      (tk ≠ 0 → (∀ sd, (s.ctx c x).waits ≠ .token tk sd) → (t.ctx c x).token tk = .done 0 ∧ (t.ctx c x).state = (s.ctx c x).state ∧
        (t.ctx c x).sregs = (s.ctx c x).sregs) ∧
      (∀ d y, ctxKey d y ≠ ctxKey c x → t.ctx d y = s.ctx d y) ∧ { t with cores := s.cores, ctxs := s.ctxs } = s := by
  intro s c x tk k found
  have done := (s.setCore c { s.core c with kernels := (s.core c).kernels.erase k }).finishToken_tokenDone c x tk (st := 0) (by decide)
  have cores : ((s.setCore c { s.core c with kernels := (s.core c).kernels.erase k }).finishToken c x tk 0).cores =
      (s.setCore c { s.core c with kernels := (s.core c).kernels.erase k }).cores := (congrArg State.cores done.others.2.2 :)
  refine ⟨_, kernelComplete_done found, ?_, fun d other => ?_, fun none => ?_, fun sd named waits waiting => ?_, fun named free => ?_,
    done.others.2.1, ?_⟩
  · rw [State.core, cores]
    exact State.core_setCore _ _ _
  · rw [State.core, cores]
    exact State.core_setCore_other _ _ _ _ other
  · rw [done.none none]
    rfl
  · obtain ⟨token, sreg, ready, idle⟩ := done.waited sd named waits waiting
    refine ⟨token, ?_, ready, idle⟩
    by_cases dest : sd = 0
    · rw [Ctx.sreg, if_pos dest]
    · exact sreg dest
  · obtain ⟨token, rest⟩ := done.done named fun sd => .inl (free sd)
    exact ⟨token, (congrArg Ctx.state rest :), (congrArg Ctx.sregs rest :)⟩
  · have rest := congrArg (fun u : State => { u with cores := s.cores, ctxs := s.ctxs }) done.others.2.2
    exact rest

/-- Settles O11: kernels by their token and their blocks, work by its context's end, words by their opcode and their bits. -/
theorem kernelsWorkEndAndStreamWords : Obligations.KernelsWorkEndAndStreamWords := by
  refine ⟨?_, ?_, ?_, ?_, ?_, fun _ _ _ _ => kernelComplete_none, ?_, ?_, ?_, ?_, ?_, ?_, scalarWord_fields, ?_, dmWord_fields, rowWord_fields⟩
  case refine_1 => exact vlaunch_empty_launches
  case refine_2 => exact vlaunch_waits_launches
  case refine_3 => exact vlaunch_starts_block
  case refine_4 =>
    intro s c x w k issues named taken
    exact ⟨_, vlaunch_taken issues named taken, State.faultCtx_faulted (s.started c x) c x (engineId c 5) 6 8 0 0⟩
  case refine_5 => exact kernelComplete_ends
  case refine_6 =>
    intro s c x w k quiet work waiting ending
    obtain ⟨u, freed, rest, ended⟩ := State.endOnCtx_ends work 0 0 rfl
    refine ⟨u, _, (workComplete_run s c x).trans (congrArg Host.Outcome.next ?_), freed, rest, ended⟩
    rw [if_neg (by rw [quiet]; decide), if_neg (by omega), if_pos ⟨waiting, ending⟩]
  case refine_7 =>
    intro s c x w e a k quiet work faulted first
    obtain ⟨u, freed, rest, ended⟩ := State.endOnCtx_ends work 1 (e + a * 2 ^ 16) (by rw [first]; rfl)
    refine ⟨u, _, (workComplete_run s c x).trans (congrArg Host.Outcome.next ?_), freed, rest, ended⟩
    rw [if_neg (by rw [quiet]; decide), if_pos faulted]
  case refine_8 =>
    intro s c x busy
    refine (workComplete_run s c x).trans (congrArg Host.Outcome.next ?_)
    rcases busy with unquiet | ⟨sound, going⟩
    · exact if_pos unquiet
    · have open_ : ¬ ((s.ctx c x).state = 3 ∧ (s.ctx c x).waits = .ending) := fun ends => going.elim (absurd ends.1) (absurd ends.2)
      rw [if_neg sound, if_neg open_, ite_self]
  case refine_9 =>
    intro s c x op k issues unlisted
    refine ⟨_, ?_, State.faultCtx_faulted _ c x (engineId c 5) 6 8 0 0⟩
    change execReservedOpcode c x op false s = _
    rw [execReservedOpcode]
    rw [if_neg (by decide), unlisted, if_neg (by decide), State.issue_ok issues, State.instrFault]
  case refine_10 =>
    intro s c x op other runs
    refine ⟨_, ?_, State.faultCtx_faulted _ c x (engineId c 5) 6 8 0 0⟩
    change execReservedOpcode c x op true s = _
    rw [execReservedOpcode]
    have stream : ¬ (decide (0x100 ≤ op) && decide (op ≤ 0x1FF)) = true := by
      simp only [Bool.and_eq_true, decide_eq_true_eq]
      omega
    rw [if_pos rfl, if_neg stream, if_pos runs, State.instrFault]
  case refine_11 =>
    intro c x w o r word low ten
    rw [decodeStream_opcode word low ten]
    refine ⟨fun p hp same => ?_, fun p hp same => ?_, fun p hp same => ?_, fun p hp same => ?_, fun p hp same => ?_, fun p hp same => ?_,
      fun same => ?_, fun same => ?_, fun same => ?_, fun same => ?_, fun same => ?_, decodeOpcode_unlisted c x w⟩
    · exact same ▸ decodeOpcode_scalar c x w p hp
    · exact same ▸ decodeOpcode_mover c x w p hp
    · exact same ▸ decodeOpcode_fused c x w p hp
    · exact same ▸ decodeOpcode_copy c x w p hp
    · exact same ▸ decodeOpcode_row c x w p hp
    · exact same ▸ decodeOpcode_update c x w p hp
    all_goals rw [same]
    · rfl
    · have mode : wordBits w 1 0 = w % 4 := congrArg (· % 4) (Nat.div_one w)
      rw [← mode]
      rfl
    · rfl
    · rfl
    · rfl
  case refine_12 =>
    intro f o cp r x w y tout tx tw osc part abase lst hcp hr fused
    exact mmaWord_fields f o cp r x w y tout tx tw osc part abase lst hcp hr fused

end Sys2Proof.Machine
end

section
/-! A packet that leaves a package: its flits on the die links, its credits, and what it asks of the port's scheduler (R23, R473, R484, R495). -/

namespace Sys2Proof.Machine

set_option Elab.async false

/-- A request of the arbiters lists one entry more; its jitter alone may draw a free value (R496, R633). -/
theorem State.ask_asked (s : State) (site requester deadline : Nat) : ∃ j d, s.ask site requester deadline =
    { s with fabric := { s.fabric with asks := s.fabric.asks ++ [(site, requester, s.askOffset deadline, j)] }, drawn := d } := by
  unfold State.ask State.drawJitter
  dsimp only
  split <;> exact ⟨_, _, rfl⟩

/-- Between two states only requests came, of some arbiters, and free values were drawn. -/
def AsksCame (s t : State) (new : List (Nat × Nat × Nat × Nat)) : Prop :=
  ∃ d, t = { s with fabric := { s.fabric with asks := s.fabric.asks ++ new }, drawn := d }

theorem State.askTimes_came (site requester deadline k : Nat) (s : State) : ∃ new, AsksCame s (s.askTimes k site requester deadline) new ∧
    (∀ a ∈ new, a.1 = site) ∧ new.map (fun a => (a.2.1, a.2.2.1)) = List.replicate k (requester, s.askOffset deadline) := by
  unfold State.askTimes
  induction k with
  | zero => exact ⟨[], ⟨s.drawn, by rw [List.append_nil]; rfl⟩, fun _ none => absurd none List.not_mem_nil, rfl⟩
  | succ k ih =>
    obtain ⟨new, ⟨d, eq⟩, sites, offsets⟩ := ih
    rw [List.range_succ, List.foldl_append, List.foldl_cons, List.foldl_nil, eq]
    obtain ⟨j, d', asked⟩ := State.ask_asked { s with fabric := { s.fabric with asks := s.fabric.asks ++ new }, drawn := d } site
      requester deadline
    rw [asked]
    refine ⟨new ++ [(site, requester, s.askOffset deadline, j)], ⟨d', by rw [← List.append_assoc]; rfl⟩, fun a listed => ?_, ?_⟩
    · rcases List.mem_append.1 listed with old | last
      · exact sites a old
      · exact List.mem_singleton.1 last ▸ rfl
    · rw [List.map_append, offsets, List.replicate_succ']
      rfl

/-- Between two states only flits came onto the die links, and what they asked there. -/
def FlitsCame (s t : State) : Prop :=
  ∃ ls new d, t = { s with links := ls, fabric := { s.fabric with asks := s.fabric.asks ++ new }, drawn := d } ∧ ∀ a ∈ new, 16 ≤ a.1

theorem FlitsCame.refl (s : State) : FlitsCame s s :=
  ⟨s.links, [], s.drawn, by rw [List.append_nil], fun _ none => absurd none List.not_mem_nil⟩

theorem State.queueFlit_came {s t : State} (came : FlitsCame s t) (die : Nat) (f : Flit) : FlitsCame s (t.queueFlit die f) := by
  unfold State.queueFlit
  split
  · exact came
  · split
    · exact came
    · next k _ =>
      obtain ⟨ls, new, d, rfl, high⟩ := came
      dsimp only
      obtain ⟨j, d', asked⟩ := State.ask_asked (({ s with links := ls, fabric := { s.fabric with asks := s.fabric.asks ++ new }, drawn := d } :
        State).setDieLink k { (State.dieLink _ k) with waiting := (State.dieLink _ k).waiting ++ [f] }) (0x10 + k) f.cls f.deadline
      rw [asked]
      refine ⟨_, new ++ [(0x10 + k, f.cls, s.askOffset f.deadline, j)], d', by rw [← List.append_assoc]; rfl, fun a listed => ?_⟩
      rcases List.mem_append.1 listed with old | last
      · exact high a old
      · rw [List.mem_singleton.1 last]
        exact Nat.le_add_right 16 k

@[simp] theorem State.dieLink_setDieLink (s : State) (k : Nat) (v : DieLink) : (s.setDieLink k v).dieLink k = v := Sparse.get_set_same _ _ _ _

theorem State.ask_links (s : State) (site requester deadline : Nat) : (s.ask site requester deadline).links = s.links := by
  obtain ⟨j, d, asked⟩ := s.ask_asked site requester deadline
  rw [asked]

/-- A flit waits at the first link of its path. -/
theorem State.queueFlit_waits (s : State) {die e k : Nat} {path : List Nat} {f : Flit} (first : f.path = e :: path)
    (link : linkKey die e = some k) : ((s.queueFlit die f).dieLink k).waiting = (s.dieLink k).waiting ++ [f] := by
  unfold State.queueFlit
  rw [first]
  dsimp only
  rw [link]
  dsimp only
  rw [State.dieLink, State.ask_links]
  exact congrArg DieLink.waiting (State.dieLink_setDieLink s k _)

theorem State.queueFlit_here (s : State) {die : Nat} {f : Flit} (here : f.path = []) : s.queueFlit die f = s := by
  unfold State.queueFlit
  rw [here]

/-- A flit as a packet's bytes cross the dies (R23). -/
def crossingFlit (a b cls deadline : Nat) : List Byte → Flit := fun x =>
  { cls := cls, number := 0, data := x, crc := 0, deadline := deadline, path := diePath a b }

theorem State.crossDies_came (s : State) (a b cls deadline : Nat) (data : List Byte) : FlitsCame s (s.crossDies a b cls deadline data) := by
  unfold State.crossDies
  exact List.foldlRecOn (motive := FlitsCame s) _ _ (FlitsCame.refl s) fun _ came x _ => State.queueFlit_came came a (crossingFlit a b cls deadline x)

theorem State.crossDies_here (s : State) {a b : Nat} (here : diePath a b = []) (cls deadline : Nat) (data : List Byte) :
    s.crossDies a b cls deadline data = s := by
  unfold State.crossDies
  exact List.foldlRecOn (motive := (· = s)) _ _ rfl fun t same x _ => (t.queueFlit_here (f := crossingFlit a b cls deadline x) here).trans same

theorem State.crossDies_waits (s : State) {a b e k : Nat} {path : List Nat} (first : diePath a b = e :: path) (link : linkKey a e = some k)
    (cls deadline : Nat) (data : List Byte) : ((s.crossDies a b cls deadline data).dieLink k).waiting =
      (s.dieLink k).waiting ++ (cutFlits data).map (crossingFlit a b cls deadline) := by
  change (DieLink.waiting (State.dieLink ((cutFlits data).foldl (fun t x => t.queueFlit a (crossingFlit a b cls deadline x)) s) k)) = _
  generalize cutFlits data = xs
  induction xs generalizing s with
  | nil => exact (List.append_nil _).symm
  | cons x xs ih =>
    rw [List.foldl_cons, ih, State.queueFlit_waits s (f := crossingFlit a b cls deadline x) first link, List.map_cons, List.append_assoc]
    rfl

/-! Credits of a port (R484) -/

/-- Of a port only the credits of the two fabric classes moved. -/
def CreditsMoved (s t : State) (port : Nat) (sent : Nat × Nat) : Prop :=
  (t.port port).sent = sent ∧ { t.port port with sent := (s.port port).sent } = s.port port ∧ (∀ q, q ≠ port → t.port q = s.port q) ∧
    { t with ports := s.ports } = s

theorem State.setPort_sent (s : State) (port : Nat) (sent : Nat × Nat) :
    CreditsMoved s (s.setPort port { s.port port with sent := sent }) port sent := by
  refine ⟨?_, ?_, fun q other => State.port_setPort_other s port q _ other, rfl⟩
  · rw [State.port_setPort]
  · rw [State.port_setPort]

theorem CreditsMoved.refl (s : State) (port : Nat) : CreditsMoved s s port (s.port port).sent := ⟨rfl, rfl, fun _ _ => rfl, rfl⟩

theorem State.useCredit_used (s : State) (port cls n : Nat) : CreditsMoved s (s.useCredit port cls n) port
    (if cls = clsF0 then ((s.port port).sent.1 + n, (s.port port).sent.2)
     else if cls = clsF1 then ((s.port port).sent.1, (s.port port).sent.2 + n) else (s.port port).sent) := by
  unfold State.useCredit
  dsimp only
  split
  · exact s.setPort_sent port _
  · split
    · exact s.setPort_sent port _
    · exact .refl s port

theorem State.giveCredit_given (s : State) (port cls n : Nat) : CreditsMoved s (s.giveCredit port cls n) port
    (if cls = clsF0 then ((s.port port).sent.1 - n, (s.port port).sent.2)
     else if cls = clsF1 then ((s.port port).sent.1, (s.port port).sent.2 - n) else (s.port port).sent) := by
  unfold State.giveCredit
  dsimp only
  split
  · exact s.setPort_sent port _
  · split
    · exact s.setPort_sent port _
    · exact .refl s port

theorem CreditsMoved.eq {s t : State} {port : Nat} {sent : Nat × Nat} (moved : CreditsMoved s t port sent) :
    t = { s with ports := t.ports } := by
  obtain ⟨_, _, _, rest⟩ := moved
  exact congrArg (fun u : State => { u with ports := t.ports }) rest

/-! The packet as a whole -/

/-- The requests of a port's scheduler. -/
def portAsks (asks : List (Nat × Nat × Nat × Nat)) (port : Nat) : List (Nat × Nat) :=
  (asks.filter fun a => a.1 == port).map fun a => (a.2.1, a.2.2.1)

theorem portAsks_append (xs ys : List (Nat × Nat × Nat × Nat)) (port : Nat) : portAsks (xs ++ ys) port = portAsks xs port ++ portAsks ys port := by
  rw [portAsks, List.filter_append, List.map_append]
  rfl

theorem portAsks_links {new : List (Nat × Nat × Nat × Nat)} (high : ∀ a ∈ new, 16 ≤ a.1) {port : Nat} (low : port < 16) : portAsks new port = [] := by
  have none : (new.filter fun a => a.1 == port) = [] := List.filter_eq_nil_iff.2 fun a listed same => by
    have far := high a listed
    have := beq_iff_eq.1 same
    omega
  rw [portAsks, none]
  rfl

theorem portAsks_own {new : List (Nat × Nat × Nat × Nat)} {port : Nat} (own : ∀ a ∈ new, a.1 = port) :
    portAsks new port = new.map fun a => (a.2.1, a.2.2.1) := by
  rw [portAsks, List.filter_eq_self.2 fun a listed => beq_iff_eq.2 (own a listed)]

theorem State.leave_left (s : State) (die port cls : Nat) (p : Packet) : PacketLeft s (s.leave die port cls p) die port cls p := by
  unfold State.leave
  dsimp only
  have waits := fun e path k first link => s.crossDies_waits (a := die) (b := portDie port) (e := e) (k := k) (path := path) first link cls
    p.deadline (packetWire { p with hops := p.hops + 1 })
  have here := fun none => congrArg State.links (s.crossDies_here (a := die) (b := portDie port) none cls p.deadline
    (packetWire { p with hops := p.hops + 1 }))
  obtain ⟨ls, new, d, eq, high⟩ := s.crossDies_came die (portDie port) cls p.deadline (packetWire { p with hops := p.hops + 1 })
  rw [eq] at waits here ⊢
  have used := State.useCredit_used { s with links := ls, fabric := { s.fabric with asks := s.fabric.asks ++ new }, drawn := d } port cls (flitsOf p)
  generalize ({ s with links := ls, fabric := { s.fabric with asks := s.fabric.asks ++ new }, drawn := d } : State).useCredit port cls
    (flitsOf p) = u at used ⊢
  have same := used.eq
  obtain ⟨sent, only, others, -⟩ := used
  obtain ⟨more, ⟨d', eq'⟩, own, offsets⟩ := State.askTimes_came port cls p.deadline (flitsOf p) u
  rw [eq']
  have out : u.out = s.out := by rw [same]
  have links : u.links = ls := by rw [same]
  have offset : u.askOffset p.deadline = s.askOffset p.deadline := by rw [same]; rfl
  have asks : u.fabric.asks = s.fabric.asks ++ new := by rw [same]
  exact {
    sent := by
      change u.out ++ _ = _
      rw [out]
    credit := sent
    ports := ⟨only, others⟩
    here := fun none => links.trans (here none)
    links := fun e path k first link => by
      have at_ := waits e path k first link
      unfold crossingFlit at at_
      rw [first] at at_
      rw [State.dieLink] at at_ ⊢
      change ((Sparse.get {} k u.links : DieLink)).waiting = _
      rw [links]
      exact at_
    asks := fun low => by
      change portAsks (u.fabric.asks ++ more) port = portAsks s.fabric.asks port ++ _
      rw [asks, portAsks_append, portAsks_append, portAsks_links high low, List.append_nil, portAsks_own own, offsets, offset]
    rest := by
      rw [same]
      rfl }

end Sys2Proof.Machine
end

section
/-! Streams between packages: sending again, release, credits and acknowledgements (R475, R479, R484, R487 to R491). -/

namespace Sys2Proof.Machine

set_option Elab.async false

/-! RESEND_TIMEOUT (R489 to R491) -/

theorem resendTimeout_idle (s : State) (d c : Nat) (idle : (s.txStream d c).unacked = [] ∨ s.linksUp = false) :
    exec (.resendTimeout d c) s = .next s := by
  refine if_pos ?_
  rcases idle with none | down
  · rw [none]
    rfl
  · rw [down]
    exact Bool.or_true _

section
variable {s : State} {d c : Nat} (some_ : (s.txStream d c).unacked ≠ []) (up : s.linksUp = true)
include some_ up

theorem resends : ((s.txStream d c).unacked.isEmpty || !s.linksUp) = false := by
  rw [up, List.isEmpty_eq_false_iff.2 some_]
  rfl

theorem resendTimeout_busy (busy : (s.txStream d c).busy = true) : exec (.resendTimeout d c) s =
    .next ((s.setTx d c { s.txStream d c with busy := false }).resendAll d c (s.txStream d c).unacked) := by
  change execResendTimeout d c s = _
  unfold execResendTimeout
  dsimp only
  rw [resends some_ up, if_neg Bool.false_ne_true, if_pos busy]

variable (ready : (s.txStream d c).busy = false)
include ready

theorem resendTimeout_piste (piste : (s.txStream d c).onPiste = true) : exec (.resendTimeout d c) s = .next (
    if 5 ≤ (s.txStream d c).timeouts ∧ d ∉ s.colls.suspended then
      (s.setTx d c { s.txStream d c with timeouts := (s.txStream d c).timeouts + 1 }).abandonStream d c
    else (s.setTx d c { s.txStream d c with timeouts := (s.txStream d c).timeouts + 1 }).resendAll d c
      ((s.txStream d c).unacked.take 1)) := by
  change execResendTimeout d c s = _
  unfold execResendTimeout
  dsimp only
  rw [resends some_ up, if_neg Bool.false_ne_true, if_neg (by rw [ready]; decide), if_pos piste]
  refine congrArg Host.Outcome.next (if_congr ?_ rfl rfl)
  rw [Bool.not_eq_true', ← Bool.not_eq_true, List.contains_iff_mem, Nat.succ_le_succ_iff]

theorem resendTimeout_pathB (piste : (s.txStream d c).onPiste = false) (onB : s.onPathB d (s.txStream d c) = true) :
    exec (.resendTimeout d c) s = .next (
    if 3 ≤ (s.txStream d c).timeouts then
      (s.setTx d c { s.txStream d c with timeouts := (s.txStream d c).timeouts + 1 }).abandonStream d c
    else (s.setTx d c { s.txStream d c with timeouts := (s.txStream d c).timeouts + 1 }).resendAll d c
      ((s.txStream d c).unacked.take 1)) := by
  change execResendTimeout d c s = _
  unfold execResendTimeout
  dsimp only
  rw [resends some_ up, if_neg Bool.false_ne_true, if_neg (by rw [ready]; decide), if_neg (by rw [piste]; decide), if_pos onB]
  exact congrArg Host.Outcome.next (if_congr Nat.succ_le_succ_iff rfl rfl)

theorem resendTimeout_pathA (piste : (s.txStream d c).onPiste = false) (onA : s.onPathB d (s.txStream d c) = false) :
    exec (.resendTimeout d c) s = .next (
    if 1 ≤ (s.txStream d c).timeouts then
      ((s.setTx d c { s.txStream d c with timeouts := 0, pathB := true }).count 32 Obj.routeSwitchCount).resendAll d c
        (s.txStream d c).unacked
    else (s.setTx d c { s.txStream d c with timeouts := (s.txStream d c).timeouts + 1 }).resendAll d c
      ((s.txStream d c).unacked.take 1)) := by
  change execResendTimeout d c s = _
  unfold execResendTimeout
  dsimp only
  rw [resends some_ up, if_neg Bool.false_ne_true, if_neg (by rw [ready]; decide), if_neg (by rw [piste]; decide),
    if_neg (by rw [onA]; decide), ← apply_ite Host.Outcome.next]
  exact congrArg Host.Outcome.next (if_congr Nat.succ_le_succ_iff rfl rfl)

end

/-- A packet sent again leaves as any packet does, and is counted (R29, R489). -/
theorem State.resendOne_left {s : State} {p : Packet} {onB : Bool} {port cls : Nat}
    (hop : s.nextHop { p with flags := p.flags / 4 * 4 + 2 + b2n onB, hops := 0 } = some (port, cls)) (free : s.hopBarred port cls = false) :
    s.resendOne p onB = (s.leave (portDie port) port cls { p with flags := p.flags / 4 * 4 + 2 + b2n onB, hops := 0 }).count 64
      Obj.resendCount := by
  unfold State.resendOne
  dsimp only
  rw [hop]
  exact if_neg (by rw [free]; decide)

theorem State.resendOne_barred {s : State} {p : Packet} {onB : Bool} {port cls : Nat}
    (hop : s.nextHop { p with flags := p.flags / 4 * 4 + 2 + b2n onB, hops := 0 } = some (port, cls)) (barred : s.hopBarred port cls = true) :
    s.resendOne p onB = s := by
  unfold State.resendOne
  dsimp only
  rw [hop]
  exact if_pos barred

/-! Abandoning a stream (R491) -/

@[simp] theorem State.txStream_setTx (s : State) (d c : Nat) (v : TxStream) : (s.setTx d c v).txStream d c = v := Sparse.get_set_same _ _ _ _

theorem State.freeRetransmit_spec (ps : List (Nat × Packet)) (s : State) (low : ∀ q ∈ ps, q.1 < 16) :
    (s.freeRetransmit ps).fabric = s.fabric ∧ (s.freeRetransmit ps).reg Obj.unreachableCount = s.reg Obj.unreachableCount := by
  unfold State.freeRetransmit
  induction ps generalizing s with
  | nil => exact ⟨rfl, rfl⟩
  | cons p ps ih =>
    obtain ⟨fabric, count⟩ := ih (s.setReg (Obj.retransmitBytes p.1) (s.reg (Obj.retransmitBytes p.1) - packetBytes p.2)) fun q later =>
      low q (List.mem_cons_of_mem _ later)
    rw [List.foldl_cons]
    refine ⟨fabric.trans (State.setReg_frame _ _ _).2.2.2.2.2.2.2.2.2.2.2.2.2.2.2.2.2.2.2.2.2.2.2.2.2.2.2.2.2.1, ?_⟩
    refine count.trans (State.reg_setReg_other _ _ _ _ ?_)
    have := low p List.mem_cons_self
    simp only [Obj.retransmitBytes, Obj.unreachableCount, obj]
    omega

/-- Replies given up are listed and counted, no more (R491). -/
theorem State.abandonReplies_spec (ps : List (Nat × Packet)) (s : State) (replies : ∀ q ∈ ps, q.2.ptype = ptReply) :
    (let t := ps.foldl (fun (t : State) p => t.abandonPacket p.2) s
     t.fabric.tx = s.fabric.tx ∧ t.fabric.unreached = s.fabric.unreached ++ ps.map (·.2) ∧
     t.reg Obj.unreachableCount = if ps = [] then s.reg Obj.unreachableCount else (s.reg Obj.unreachableCount + ps.length) % 2 ^ 32) := by
  induction ps generalizing s with
  | nil => exact ⟨rfl, (List.append_nil _).symm, rfl⟩
  | cons p ps ih =>
    have reply := replies p List.mem_cons_self
    have one : s.abandonPacket p.2 =
        ({ s with fabric := { s.fabric with unreached := s.fabric.unreached ++ [p.2] } } : State).count 32 Obj.unreachableCount := by
      unfold State.abandonPacket
      dsimp only
      rw [if_neg (by rw [reply]; decide), if_neg (by rw [reply]; decide)]
    have counted : (s.abandonPacket p.2).reg Obj.unreachableCount = (s.reg Obj.unreachableCount + 1) % 2 ^ 32 := by
      rw [one]
      exact State.reg_setReg_same _ _ _
    have fabric : (s.abandonPacket p.2).fabric = { s.fabric with unreached := s.fabric.unreached ++ [p.2] } := by
      rw [one]
      rfl
    obtain ⟨tx, unreached, count⟩ := ih (s.abandonPacket p.2) fun q later => replies q (List.mem_cons_of_mem _ later)
    rw [counted] at count
    rw [fabric] at tx unreached
    dsimp only
    rw [List.foldl_cons]
    refine ⟨tx, unreached.trans ?_, count.trans ?_⟩
    · rw [List.map_cons, List.append_assoc, List.singleton_append]
    · rw [if_neg (List.cons_ne_nil _ _), List.length_cons]
      split
      next none => rw [none]; rfl
      next => omega

theorem State.abandonStream_replies {s : State} {d c : Nat} (low : ∀ q ∈ (s.txStream d c).unacked, q.1 < 16 ∧ q.2.ptype = ptReply) :
    (s.abandonStream d c).txStream d c = { s.txStream d c with unacked := [], timeouts := 0, busy := false } ∧
    (s.abandonStream d c).fabric.unreached = s.fabric.unreached ++ (s.txStream d c).unacked.map (·.2) ∧
    (s.abandonStream d c).reg Obj.unreachableCount = (if (s.txStream d c).unacked = [] then s.reg Obj.unreachableCount
      else (s.reg Obj.unreachableCount + (s.txStream d c).unacked.length) % 2 ^ 32) := by
  unfold State.abandonStream
  dsimp only
  obtain ⟨fabric, count⟩ := State.freeRetransmit_spec (s.txStream d c).unacked s fun q listed => (low q listed).1
  generalize s.freeRetransmit (s.txStream d c).unacked = u at fabric count
  obtain ⟨tx, unreached, count'⟩ := State.abandonReplies_spec (s.txStream d c).unacked
    (u.setTx d c { s.txStream d c with unacked := [], timeouts := 0, busy := false }) fun q listed => (low q listed).2
  refine ⟨?_, unreached.trans ?_, count'.trans ?_⟩
  · rw [State.txStream, tx]
    exact State.txStream_setTx _ _ _ _
  · change u.fabric.unreached ++ _ = _
    rw [fabric]
  · change (if _ then u.reg _ else (u.reg _ + _) % _) = _
    rw [count]

/-! Held packets, credits and acknowledgements (R475, R484, R488) -/

/-- The packets held of one source, channel and number go, and are counted (R475). -/
theorem heldPacketTimeout_spec (s : State) (src ch q : Nat) :
    (let is := fun (p : Packet) => p.source == src && p.channel == ch && p.sequence == q
     let k := (s.fabric.held.filter is).length
     ∃ t, exec (.heldPacketTimeout src ch q) s = .next t ∧ t.fabric = { s.fabric with held := s.fabric.held.filter fun p => !is p } ∧
      (0 < k → t.reg Obj.fencedDiscardCount = (s.reg Obj.fencedDiscardCount + k) % 2 ^ 64) ∧
      OnlyRegs [Obj.fencedDiscardCount] { s with fabric := t.fabric } t) := by
  dsimp only
  by_cases any : (s.fabric.held.any fun (p : Packet) => p.source == src && p.channel == ch && p.sequence == q) = true
  · exact ⟨_, if_pos any, rfl, fun _ => State.reg_setReg_same _ _ _, State.onlyRegs_setReg _ _ _⟩
  · have none : ∀ p ∈ s.fabric.held, ¬ (p.source == src && p.channel == ch && p.sequence == q) = true := fun p held is =>
      any (List.any_eq_true.2 ⟨p, held, is⟩)
    refine ⟨s, if_neg any, ?_, fun some_ => ?_, .refl _ _⟩
    · rw [List.filter_eq_self.2 fun p held => by rw [Bool.eq_false_of_not_eq_true (none p held)]; rfl]
    · rw [List.filter_eq_nil_iff.2 none] at some_
      exact absurd some_ (Nat.lt_irrefl 0)

theorem PacketLeft.regs {s t : State} {die port cls : Nat} {p : Packet} (left : PacketLeft s t die port cls p) : t.regs = s.regs :=
  (congrArg State.regs left.rest :)

theorem State.sendAck_leaves {s : State} {src ch : Nat} (leaves : s.answersLeave src = true) : ∃ piste,
    (s.sendAck src ch).out = s.out ++ [.ackPacket src ch (s.rxStream src ch).last piste] ∧
    ((s.rxStream src ch).run = none → piste = none) ∧
    (s.sendAck src ch).rxStream src ch = { s.rxStream src ch with sinceAck := 0 } ∧
    { s.sendAck src ch with out := s.out, fabric := { (s.sendAck src ch).fabric with rx := s.fabric.rx } } = s := by
  unfold State.sendAck
  dsimp only
  rw [leaves, Bool.or_true, if_pos rfl]
  exact ⟨_, rfl, fun none => by rw [none]; rfl, Sparse.get_set_same _ _ _ _, rfl⟩

theorem State.sendCredits_sent (s : State) (port : Nat) :
    (let t := s.sendCredits port
     (t.port port).freed = (0, 0) ∧ { t.port port with freed := (s.port port).freed } = s.port port ∧
     (∀ q, q ≠ port → t.port q = s.port q) ∧
     t.out = s.out ++ (if (s.port port).freed.1 = 0 then [] else [.credit port clsF0 (s.port port).freed.1]) ++
       (if (s.port port).freed.2 = 0 then [] else [.credit port clsF1 (s.port port).freed.2]) ∧
     { t with ports := s.ports, out := s.out } = s) := by
  unfold State.sendCredits
  dsimp only
  split <;> split <;> refine ⟨?_, ?_, fun q other => State.port_setPort_other _ _ _ _ other, ?_, rfl⟩ <;> simp [State.emit]

theorem not_both {a : Bool} {p : Prop} [Decidable p] (no : a = false ∨ ¬ p) : ¬ (a && decide p) = true := fun both =>
  no.elim (fun f => Bool.false_ne_true (f.symm.trans (Bool.and_eq_true_iff.1 both).1)) fun f =>
    f (of_decide_eq_true (Bool.and_eq_true_iff.1 both).2)

/-- Settles O32: what is sent again on which path, what is given up, and the credits and acknowledgements that leave. -/
theorem streamsAndCredits : Obligations.StreamsAndCredits := by
  refine ⟨resendTimeout_idle, fun _ _ _ some_ up => resendTimeout_busy some_ up, fun _ _ _ some_ up => resendTimeout_piste some_ up,
    fun _ _ _ some_ up => resendTimeout_pathB some_ up, fun _ _ _ some_ up => resendTimeout_pathA some_ up, fun s d c => ?_, fun s d c => ?_,
    fun s p onB port cls hop => ⟨State.resendOne_barred hop, fun free => ?_⟩, fun _ _ _ _ => rfl, fun s d c low => ⟨_, rfl, State.abandonStream_replies low⟩,
    fun s src ch q => ?_, fun s port cls k up low => ?_, fun _ => rfl, fun s port cls k no => ?_, fun s port up low => ?_, fun s port no => ?_,
    fun s src ch up some_ leaves => ?_, fun s src ch no => ?_⟩
  case refine_1 =>
    refine congrArg Host.Outcome.next (if_congr ?_ rfl rfl)
    rw [Bool.and_eq_true, Bool.not_eq_true']
  case refine_2 =>
    refine congrArg Host.Outcome.next (if_congr ?_ rfl rfl)
    rw [Bool.and_eq_true, List.isEmpty_iff, bne_iff_ne]
  case refine_3 =>
    obtain ⟨only, counted⟩ := State.count_counted (s.leave (portDie port) port cls { p with flags := p.flags / 4 * 4 + 2 + b2n onB, hops := 0 }) 64
      Obj.resendCount
    have left := s.leave_left (portDie port) port cls { p with flags := p.flags / 4 * 4 + 2 + b2n onB, hops := 0 }
    refine ⟨_, _, left, State.resendOne_left hop free, only, counted.trans ?_⟩
    rw [State.reg, left.regs]
    rfl
  case refine_4 => exact heldPacketTimeout_spec s src ch q
  case refine_5 =>
    refine ⟨_, congrArg Host.Outcome.next (if_pos ?_), s.giveCredit_given port cls k⟩
    rw [up, decide_eq_true low]
    rfl
  case refine_6 => exact congrArg Host.Outcome.next (if_neg (not_both (no.imp_right Nat.not_lt.2)))
  case refine_7 =>
    refine ⟨_, congrArg Host.Outcome.next (if_pos ?_), s.sendCredits_sent port⟩
    rw [up, decide_eq_true low]
    rfl
  case refine_8 => exact congrArg Host.Outcome.next (if_neg (not_both (no.imp_right Nat.not_lt.2)))
  case refine_9 =>
    obtain ⟨piste, sent⟩ := State.sendAck_leaves (ch := ch) leaves
    refine ⟨_, piste, congrArg Host.Outcome.next (if_pos ?_), sent⟩
    rw [up, bne_iff_ne.2 some_]
    rfl
  case refine_10 =>
    refine congrArg Host.Outcome.next (if_neg ?_)
    rcases no with down | none
    · rw [down]
      exact Bool.false_ne_true
    · rw [none, bne_self_eq_false, Bool.and_false]
      exact Bool.false_ne_true

end Sys2Proof.Machine
end

section
/-! Packets sent, forwarded, received and acknowledged (R456, R473 to R489). -/

namespace Sys2Proof.Machine

set_option Elab.async false

/-! PACKET_INJECT (R456, R479, R482) -/

section
variable {s : State} {die : Nat} {p : Packet} (up : s.isUp = true) (away : p.dest ≠ s.chip)
include up away

theorem injects : (!s.isUp || p.dest == s.chip) = false := by
  rw [up, beq_eq_false_iff_ne.2 away]
  rfl

theorem packetInject_unreachable (out : s.inFabric p.dest = false) :
    exec (.packetInject ⟨die, p⟩) s = .next (s.abandonPacket (s.ownPacket p)) := by
  change execPacketInject ⟨die, p⟩ s = _
  unfold execPacketInject
  dsimp only
  rw [injects up away, if_neg Bool.false_ne_true, out]
  exact if_pos rfl

theorem packetInject_inside (inside : s.inFabric p.dest = true) : exec (.packetInject ⟨die, p⟩) s = match s.nextHop (s.ownPacket p) with
    | none => .next s
    | some (port, cls) =>
      if s.maySend (s.ownPacket p) port cls then .next ((s.leave die port cls (s.ownPacket p)).holdSent (s.ownPacket p) port) else .next s := by
  change execPacketInject ⟨die, p⟩ s = _
  unfold execPacketInject
  dsimp only
  rw [injects up away, if_neg Bool.false_ne_true, inside]
  exact if_neg Bool.false_ne_true

end

theorem State.abandonPacket_other {s : State} {p : Packet} (q : p.ptype ≠ ptRequest) (r : p.ptype ≠ ptRun) : s.abandonPacket p =
    ({ s with fabric := { s.fabric with unreached := s.fabric.unreached ++ [p] } } : State).count 32 Obj.unreachableCount := by
  unfold State.abandonPacket
  dsimp only
  rw [if_neg q, if_neg r]

/-- What a sent packet of a stream makes of its stream, before the reply slots and requests are touched. -/
def State.streamSent (s : State) (p : Packet) (port : Nat) : State :=
  if sequenced p then
    (s.setTx p.dest p.channel { s.txStream p.dest p.channel with
      last := p.sequence, unacked := (s.txStream p.dest p.channel).unacked ++ [(port, p)], released := false }).setReg
      (Obj.retransmitBytes port) (s.reg (Obj.retransmitBytes port) + packetBytes p)
  else s

theorem State.streamSent_spec (s : State) (p : Packet) (port : Nat) :
    (sequenced p = true → (s.streamSent p port).txStream p.dest p.channel = { s.txStream p.dest p.channel with
      last := p.sequence, unacked := (s.txStream p.dest p.channel).unacked ++ [(port, p)], released := false } ∧
      (s.streamSent p port).reg (Obj.retransmitBytes port) = s.reg (Obj.retransmitBytes port) + 64 + p.payload.length) ∧
    (sequenced p = false → s.streamSent p port = s) ∧ RegsBut [Obj.retransmitBytes port] s (s.streamSent p port) ∧
    ∃ tx, { s.streamSent p port with regs := s.regs } = { s with fabric := { s.fabric with tx := tx } } := by
  unfold State.streamSent
  split
  next stream =>
    refine ⟨fun _ => ⟨State.txStream_setTx _ _ _ _, (State.reg_setReg_same _ _ _).trans (Nat.add_assoc _ _ _).symm⟩,
      fun none => absurd (none.symm.trans stream) Bool.false_ne_true, fun k other => ?_, _, rfl⟩
    exact State.reg_setReg_other _ _ _ _ fun same => other (List.mem_singleton.2 same)
  next none =>
    exact ⟨fun stream => absurd stream none, fun _ => rfl, fun _ _ => rfl, s.fabric.tx, rfl⟩

theorem State.holdSent_eq (s : State) (p : Packet) (port : Nat) : s.holdSent p port =
    if p.ptype = ptRequest then
      { s.streamSent p port with fabric := { (s.streamSent p port).fabric with
          replySlots := (s.streamSent p port).fabric.replySlots ++ [(p.replySlot, p.dest)] } }
    else if p.ptype = ptReply then
      { s.streamSent p port with fabric := { (s.streamSent p port).fabric with
          requests := (s.streamSent p port).fabric.requests.filter fun q => !(q.source == p.dest && q.replySlot == p.replySlot) } }
    else s.streamSent p port := rfl

theorem State.holdSent_held (s : State) (p : Packet) (port : Nat) : SentHeld s (s.holdSent p port) p port := by
  obtain ⟨stream, none, regs, tx, eq⟩ := s.streamSent_spec p port
  have slots : (s.streamSent p port).fabric.replySlots = s.fabric.replySlots := (congrArg (fun t : State => t.fabric.replySlots) eq :)
  have requests : (s.streamSent p port).fabric.requests = s.fabric.requests := (congrArg (fun t : State => t.fabric.requests) eq :)
  have rest := congrArg (fun t : State => { t with fabric := { t.fabric with tx := s.fabric.tx } }) eq
  rw [State.holdSent_eq]
  change _ = s at rest
  generalize s.streamSent p port = u at *
  have noneTx : sequenced p = false → u.fabric.tx = s.fabric.tx ∧ u.regs = s.regs := fun no => by
    rw [none no]
    exact ⟨rfl, rfl⟩
  split
  next request =>
    refine ⟨stream, noneTx, ?_, ?_, regs, ?_⟩
    · rw [if_pos request, ← slots]
    · rw [if_neg (by rw [request]; decide)]
      exact requests
    · rw [← requests, ← slots]
      exact rest
  next notRequest =>
    split
    next reply =>
      refine ⟨stream, noneTx, ?_, ?_, regs, ?_⟩
      · rw [if_neg notRequest]
        exact slots
      · rw [if_pos reply, ← requests]
      · rw [← requests, ← slots]
        exact rest
    next notReply =>
      refine ⟨stream, noneTx, ?_, ?_, regs, ?_⟩
      · rw [if_neg notRequest]
        exact slots
      · rw [if_neg notReply]
        exact requests
      · rw [← requests, ← slots]
        exact rest

/-! PACKET_FORWARD (R476, R484, R485) -/

theorem packetForward_none {s : State} {port : Nat} {p : Packet} (no : s.linksUp = false ∨ 16 ≤ port ∨ p.dest = s.chip ∨ p.hops = 0 ∨
    (∀ h, (route p.source p.dest (bit p.flags 0) (p.ptype == ptRequest))[p.hops - 1]? = some h → h.dst ≠ s.chip)) :
    exec (.packetForward port p) s = .next s := by
  refine if_pos ?_
  rcases no with down | high | own | first | elsewhere
  · rw [down]
    rfl
  · rw [decide_eq_true high]
    simp only [Bool.or_true, Bool.true_or]
  · rw [own, beq_self_eq_true]
    simp only [Bool.or_true, Bool.true_or]
  · rw [first, beq_self_eq_true]
    simp only [Bool.or_true, Bool.true_or]
  · generalize (route p.source p.dest (bit p.flags 0) (p.ptype == ptRequest))[p.hops - 1]? = at_ at elsewhere ⊢
    cases at_ with
    | none => simp only [Bool.not_false, Bool.or_true]
    | some h => simp only [beq_eq_false_iff_ne.2 (elsewhere h rfl), Bool.not_false, Bool.or_true]

theorem packetForward_here {s : State} {port : Nat} {p : Packet} {h : Hop} (up : s.linksUp = true) (low : port < 16) (away : p.dest ≠ s.chip)
    (hops : p.hops ≠ 0) (hop : (route p.source p.dest (bit p.flags 0) (p.ptype == ptRequest))[p.hops - 1]? = some h) (here : h.dst = s.chip) :
    exec (.packetForward port p) s = .next ((s.packetWhole port (arrivalCls p) p).forward port p) := by
  change execPacketForward port p s = _
  unfold execPacketForward
  rw [hop, up, beq_eq_false_iff_ne.2 away, beq_eq_false_iff_ne.2 hops]
  dsimp only
  rw [here, beq_self_eq_true, decide_eq_false (Nat.not_le.2 low)]
  exact if_neg Bool.false_ne_true

theorem State.forward_waits {u : State} {port out cls : Nat} {p : Packet} (hop : u.nextHop p = some (out, cls))
    (no : u.hasCredit out cls (flitsOf p) = false ∨ u.hopBarred out cls = true) :
    u.forward port p = { u with fabric := { u.fabric with transit := u.fabric.transit ++ [(port, p)] } } := by
  unfold State.forward
  rw [hop]
  refine if_neg ?_
  rcases no with none | barred
  · rw [none]
    exact Bool.false_ne_true
  · rw [barred, Bool.not_true, Bool.and_false]
    exact Bool.false_ne_true

theorem State.forward_leaves {u : State} {port out cls : Nat} {p : Packet} (hop : u.nextHop p = some (out, cls))
    (credit : u.hasCredit out cls (flitsOf p) = true) (free : u.hopBarred out cls = false) :
    u.forward port p = ((u.leave (portDie port) out cls p).addReg 64 (Obj.transitFlits out) (flitsOf p)).freeFlits port (arrivalCls p)
      (flitsOf p) := by
  unfold State.forward
  rw [hop]
  exact if_pos (by rw [credit, free]; rfl)

/-- A port's two counts of credits freed, after one class's (R484). -/
def freedMore (cls n : Nat) (freed : Nat × Nat) : Nat × Nat :=
  if cls = clsF0 then (freed.1 + n, freed.2) else if cls = clsF1 then (freed.1, freed.2 + n) else freed

theorem freedMore_sum_le (cls n : Nat) (freed : Nat × Nat) : (freedMore cls n freed).1 + (freedMore cls n freed).2 ≤ freed.1 + freed.2 + n := by
  unfold freedMore
  split
  · omega
  · split <;> omega

/-- The buffers freed at a port are counted, before any credit leaves (R476, R484). -/
def State.flitsFreed (s : State) (port cls n : Nat) : State :=
  let u := s.setPort port { s.port port with freedAll := raiseCount cls n (s.port port).freedAll }
  if cls = clsF0 then u.setPort port { u.port port with freed := ((u.port port).freed.1 + n, (u.port port).freed.2) }
  else if cls = clsF1 then u.setPort port { u.port port with freed := ((u.port port).freed.1, (u.port port).freed.2 + n) }
  else u

theorem State.flitsFreed_spec (s : State) (port cls n : Nat) :
    (s.flitsFreed port cls n).port port = { s.port port with
      freedAll := raiseCount cls n (s.port port).freedAll, freed := freedMore cls n (s.port port).freed } ∧
    (∀ q, q ≠ port → (s.flitsFreed port cls n).port q = s.port q) ∧ { s.flitsFreed port cls n with ports := s.ports } = s := by
  unfold State.flitsFreed freedMore
  dsimp only
  split
  · exact ⟨by simp only [State.port_setPort], fun q other => (State.port_setPort_other _ _ _ _ other).trans
      (State.port_setPort_other _ _ _ _ other), rfl⟩
  · split
    · exact ⟨by simp only [State.port_setPort], fun q other => (State.port_setPort_other _ _ _ _ other).trans
        (State.port_setPort_other _ _ _ _ other), rfl⟩
    · exact ⟨by simp only [State.port_setPort], fun q other => State.port_setPort_other _ _ _ _ other, rfl⟩

theorem State.freeFlits_eq (s : State) (port cls n : Nat) : s.freeFlits port cls n =
    if port < 12 ∧ 64 ≤ (freedMore cls n (s.port port).freed).1 + (freedMore cls n (s.port port).freed).2 then
      (s.flitsFreed port cls n).sendCredits port
    else s.flitsFreed port cls n := by
  have freed := congrArg Port.freed (s.flitsFreed_spec port cls n).1
  dsimp only at freed
  rw [← freed]
  rfl

theorem State.freeFlits_spec (s : State) (port cls n : Nat) :
    (let t := s.freeFlits port cls n
     (t.port port).freedAll = raiseCount cls n (s.port port).freedAll ∧
     ((s.port port).freed.1 + (s.port port).freed.2 + n < 64 ∨ 12 ≤ port → t.out = s.out ∧ (t.port port).freed =
      (if cls = clsF0 then ((s.port port).freed.1 + n, (s.port port).freed.2)
       else if cls = clsF1 then ((s.port port).freed.1, (s.port port).freed.2 + n) else (s.port port).freed)) ∧
     (∀ q, q ≠ port → t.port q = s.port q) ∧ { t with ports := s.ports, out := s.out } = s) := by
  obtain ⟨own, others, rest⟩ := s.flitsFreed_spec port cls n
  have out : (s.flitsFreed port cls n).out = s.out := (congrArg State.out rest :)
  have most := freedMore_sum_le cls n (s.port port).freed
  dsimp only
  rw [State.freeFlits_eq]
  generalize s.flitsFreed port cls n = u at own others rest out ⊢
  split
  next leaves =>
    obtain ⟨-, same, others', -, rest'⟩ := u.sendCredits_sent port
    refine ⟨?_, fun stays => by omega, fun q other => (others' q other).trans (others q other), ?_⟩
    · exact (congrArg Port.freedAll same :).trans (congrArg Port.freedAll own :)
    · exact (congrArg (fun t : State => { t with ports := s.ports, out := s.out }) rest' :).trans
        ((congrArg (fun t : State => { t with out := s.out }) rest :))
  next =>
    exact ⟨(congrArg Port.freedAll own :), fun _ => ⟨out, (congrArg Port.freed own :)⟩, others,
      (congrArg (fun t : State => { t with out := s.out }) rest :)⟩

/-! PACKET_RECEIVE, ACK_RECEIVE and NAK_RECEIVE (R474, R475, R482, R487 to R489) -/

theorem receives_none {s : State} {p : Packet} (no : s.linksUp = false ∨ p.dest ≠ s.chip) : (!s.linksUp || p.dest != s.chip) = true := by
  rcases no with down | away
  · rw [down]
    rfl
  · rw [bne_iff_ne.2 away, Bool.or_true]

theorem receives {s : State} {p : Packet} (up : s.linksUp = true) (own : p.dest = s.chip) : (!s.linksUp || p.dest != s.chip) = false := by
  rw [up, own, bne_self_eq_false]
  rfl

theorem packetReceive_run {s : State} {die crc : Nat} {p : Packet} (up : s.linksUp = true) (own : p.dest = s.chip) :
    exec (.packetReceive ⟨die, p⟩ crc) s =
      if crc ≠ packetCrc p then .next (if sequenced p then (s.arrive die p).sendNak p 0 else s.arrive die p)
      else if p.ptype ≤ 4 then .next ((s.arrive die p).epochGate p)
      else if p.ptype = ptManage ∧ p.payload.length = 20 then .next ((s.arrive die p).pairWith (pairAskOf p))
      else .next (s.arrive die p) := if_neg (by rw [receives up own]; decide)

theorem ite_bne {α : Type} {n m : Nat} (x y : α) : (if (n != m) = true then x else y) = if n = m then y else x := by
  by_cases same : n = m
  · rw [if_pos same, if_neg (by rw [same, bne_self_eq_false]; exact Bool.false_ne_true)]
  · rw [if_neg same, if_pos (bne_iff_ne.2 same)]

theorem ackReceive_run {s : State} {p : Packet} (up : s.linksUp = true) (own : p.dest = s.chip) :
    exec (.ackReceive p) s = .next (if p.ptype = ptAck then s.epochGate p else s) := by
  change (if (!s.linksUp || p.dest != s.chip || p.ptype != ptAck) = true then Host.Outcome.next s else Host.Outcome.next (s.epochGate p)) = _
  rw [receives up own, Bool.false_or, ite_bne, apply_ite Host.Outcome.next]

theorem nakReceive_run {s : State} {p : Packet} (up : s.linksUp = true) (own : p.dest = s.chip) :
    exec (.nakReceive p) s = .next (if p.ptype = ptNak then s.epochGate p else s) := by
  change (if (!s.linksUp || p.dest != s.chip || p.ptype != ptNak) = true then Host.Outcome.next s else Host.Outcome.next (s.epochGate p)) = _
  rw [receives up own, Bool.false_or, ite_bne, apply_ite Host.Outcome.next]

/-! The epoch rule and the streams received (R470, R475, R487, R488) -/

theorem State.epochGate_discards {s : State} {p : Packet} (old : s.fenced p.source = true ∨ p.epoch < s.reg Obj.membershipEpoch) :
    s.epochGate p = s.count 64 Obj.fencedDiscardCount := if_pos old

theorem State.epochGate_holds {s : State} {p : Packet} (free : s.fenced p.source = false) (later : s.reg Obj.membershipEpoch < p.epoch) :
    s.epochGate p = { s with fabric := { s.fabric with held := s.fabric.held ++ [p] } } := by
  unfold State.epochGate
  dsimp only
  rw [if_neg, if_pos later]
  rintro (fenced | older)
  · exact Bool.false_ne_true (free.symm.trans fenced)
  · omega

theorem State.epochGate_takes {s : State} {p : Packet} (free : s.fenced p.source = false) (now : p.epoch = s.reg Obj.membershipEpoch) :
    s.epochGate p = s.takePacket p := by
  unfold State.epochGate
  dsimp only
  rw [if_neg, if_neg (by omega)]
  rintro (fenced | older)
  · exact Bool.false_ne_true (free.symm.trans fenced)
  · omega

/-- A packet of a stream against the stream as it stands (R487, R488). -/
def State.takeAgainst (s : State) (p : Packet) (v : RxStream) : State :=
  if p.sequence ≤ v.last then s.sendAck p.source p.channel
  else if p.sequence ≠ v.last + 1 then s.sendNak p 0
  else if s.busyFor p then (s.sendNak p 1).count 32 Obj.busyNakCount
  else
    let s1 := (s.setRx p.source p.channel { last := p.sequence, sinceAck := v.sinceAck + 1,
                                                run := if p.ptype = ptRun then some p.tenant else none }).deliver p
    if 16 ≤ v.sinceAck + 1 then s1.sendAck p.source p.channel else s1

/-- The restart flag, but on the resent packet that began the stream anew, sets the stream back (R487). -/
theorem State.takeSequenced_against {s : State} {p : Packet} (good : p.ptype ≠ ptRun ∨ s.drawingGood p.drawingId = true) :
    s.takeSequenced p = s.takeAgainst p
      (if bit p.flags flagRestart = true ∧ ¬ (bit p.flags 1 = true ∧ (s.rxStream p.source p.channel).last = p.sequence) then
        { last := p.sequence - 1 } else s.rxStream p.source p.channel) := by
  have drawing : ¬ (p.ptype = ptRun ∧ s.drawingGood p.drawingId = false) := fun bad =>
    good.elim (absurd bad.1) fun fine => Bool.false_ne_true (bad.2.symm.trans fine)
  have reads : (bit p.flags flagRestart && !(bit p.flags 1 && (s.rxStream p.source p.channel).last == p.sequence)) = true ↔
      bit p.flags flagRestart = true ∧ ¬ (bit p.flags 1 = true ∧ (s.rxStream p.source p.channel).last = p.sequence) := by
    rw [Bool.and_eq_true, Bool.not_eq_true', ← Bool.not_eq_true, Bool.and_eq_true, beq_iff_eq]
  unfold State.takeSequenced
  dsimp only
  rw [if_neg drawing, if_congr reads rfl rfl]
  rfl

theorem State.takeAgainst_spec (s : State) (p : Packet) (v : RxStream) :
    (p.sequence ≤ v.last → s.takeAgainst p v = s.sendAck p.source p.channel) ∧
    (v.last + 1 < p.sequence → s.takeAgainst p v = s.sendNak p 0) ∧
    (p.sequence = v.last + 1 → s.busyFor p = true → s.takeAgainst p v = (s.sendNak p 1).count 32 Obj.busyNakCount) ∧
    (p.sequence = v.last + 1 → s.busyFor p = false → ∃ t, t = State.deliver (State.setRx s p.source p.channel
        { last := p.sequence, sinceAck := v.sinceAck + 1, run := if p.ptype = ptRun then some p.tenant else none }) p ∧
      s.takeAgainst p v = if 16 ≤ v.sinceAck + 1 then t.sendAck p.source p.channel else t) := by
  unfold State.takeAgainst
  refine ⟨fun old => if_pos old, fun gap => ?_, fun next busy => ?_, fun next free => ⟨_, rfl, ?_⟩⟩
  · rw [if_neg (by omega), if_pos (by omega)]
  · rw [if_neg (by omega), if_neg (by omega), if_pos busy]
  · rw [if_neg (by omega), if_neg (by omega), if_neg (by rw [free]; decide)]

/-! Acknowledgements (R489) -/

theorem State.takeAck_none {s : State} {p : Packet} (posts : p.address % 1024 = 0)
    (later : ∀ q ∈ (s.txStream p.source p.channel).unacked, p.ackSequence < q.2.sequence) : s.takeAck p = s := by
  have none : ((s.txStream p.source p.channel).unacked.filter fun q => q.2.sequence ≤ p.ackSequence) = [] :=
    List.filter_eq_nil_iff.2 fun q listed => by
      have := later q listed
      rw [decide_eq_true_iff]
      omega
  unfold State.takeAck
  dsimp only
  rw [none, State.takePosts, if_pos posts]
  rfl

theorem State.runAcked_none {s : State} {p : Packet} (none : (s.colls.insts.all fun i => !i.packets.contains (p.dest, p.sequence)) = true) :
    s.runAcked p = s := by
  have lost : (s.colls.insts.find? fun i => i.n == p.tenant && i.plan % 64 == p.channel && i.packets.contains (p.dest, p.sequence)) =
      Option.none := List.find?_eq_none.2 fun i listed => by
    have := (Bool.not_eq_true' _).mp (List.all_eq_true.1 none i listed)
    rw [this, Bool.and_false]
    exact Bool.false_ne_true
  unfold State.runAcked
  rw [lost]

theorem State.takeAck_first {s : State} {p : Packet} {port : Nat} {q : Packet} {rest : List (Nat × Packet)} (posts : p.address % 1024 = 0)
    (unacked : (s.txStream p.source p.channel).unacked = (port, q) :: rest) (covers : q.sequence ≤ p.ackSequence)
    (later : ∀ r ∈ rest, p.ackSequence < r.2.sequence)
    (noRun : (s.colls.insts.all fun i => !i.packets.contains (q.dest, q.sequence)) = true) :
    s.takeAck p = (s.setReg (Obj.retransmitBytes port) (s.reg (Obj.retransmitBytes port) - packetBytes q)).setTx p.source p.channel
      { s.txStream p.source p.channel with unacked := rest, timeouts := 0 } := by
  have done : (((port, q) :: rest).filter fun q => q.2.sequence ≤ p.ackSequence) = [(port, q)] := by
    rw [List.filter_cons, if_pos (decide_eq_true covers), List.filter_eq_nil_iff.2 fun r listed => by
      have := later r listed
      rw [decide_eq_true_iff]
      omega]
  have left : (((port, q) :: rest).filter fun q => decide (p.ackSequence < q.2.sequence)) = rest := by
    rw [List.filter_cons, if_neg (by rw [decide_eq_true_iff]; exact Nat.not_lt.2 covers),
      List.filter_eq_self.2 fun r listed => decide_eq_true (later r listed)]
  unfold State.takeAck
  dsimp only
  rw [unacked, done, left, State.takePosts, if_pos posts, List.isEmpty_cons, if_neg Bool.false_ne_true, List.foldl_cons, List.foldl_nil]
  exact State.runAcked_none noRun

theorem State.takeNak_resends {s : State} {p : Packet} (gap : bit p.flags 2 = false) : s.takeNak p = s.resendAll p.source p.channel
    ((s.txStream p.source p.channel).unacked.filter fun q => decide (p.ackSequence ≤ q.2.sequence)) := if_neg (by rw [gap]; decide)

theorem State.takeNak_busy {s : State} {p : Packet} (busy : bit p.flags 2 = true) : s.takeNak p =
    if (s.txStream p.source p.channel).unacked = [] then s
    else s.setTx p.source p.channel { s.txStream p.source p.channel with busy := true } :=
  (if_pos busy).trans (if_congr List.isEmpty_iff rfl rfl)

/-- Settles O31: what a package sends, forwards, takes and answers, packet by packet. -/
theorem packetsAccepted : Obligations.PacketsAccepted := by
  refine ⟨fun s die p no => ?_, fun s die p up away out q r => ?_, fun _ _ _ up away out => packetInject_unreachable up away out,
    fun s die p up away inside => ⟨fun none => ?_, fun port cls hop => ⟨fun no => ?_, fun may => ?_⟩⟩, fun _ _ => rfl,
    fun _ _ _ no => packetForward_none no, fun s port out cls p h up low away hops hop here next => ⟨fun no => ?_, fun credit free => ?_⟩,
    fun s port cls n => ⟨_, rfl, s.freeFlits_spec port cls n⟩, fun s die crc p no => ?_, fun s die crc p up own => ⟨fun wrong => ?_, fun good low => ?_,
    fun good pairs len => ?_, fun good high other => ?_⟩, fun s p up own => ⟨ackReceive_run up own, nakReceive_run up own⟩,
    fun s p => ⟨fun old => ?_, State.epochGate_holds, State.epochGate_takes⟩, fun _ _ => rfl, fun s p run bad => ?_,
    fun s p good => ?_, fun s chip ch leaves none => ?_, fun _ _ _ => rfl, fun s p posts later => State.takeAck_none posts later,
    fun s p port q rest posts unacked covers later noRun => ?_, fun _ _ => State.takeNak_resends, fun _ _ => State.takeNak_busy⟩
  case refine_1 =>
    refine if_pos ?_
    rcases no with down | own
    · rw [down]
      rfl
    · rw [own, beq_self_eq_true, Bool.or_true]
  case refine_2 =>
    have one := State.abandonPacket_other (s := s) (p := s.ownPacket p) q r
    exact ⟨_, (packetInject_unreachable up away out).trans (congrArg Host.Outcome.next one), State.reg_setReg_same _ _ _, rfl,
      State.onlyRegs_setReg _ _ _⟩
  case refine_3 =>
    rw [packetInject_inside up away inside, none]
  case refine_4 =>
    rw [packetInject_inside up away inside, hop]
    exact if_neg (by rw [no]; decide)
  case refine_5 =>
    refine ⟨_, _, ?_, s.leave_left die port cls (s.ownPacket p), State.holdSent_held _ _ _⟩
    rw [packetInject_inside up away inside, hop]
    exact if_pos may
  case refine_6 =>
    rw [packetForward_here up low away hops hop here, State.forward_waits next no]
  case refine_7 =>
    refine ⟨_, _, State.leave_left _ _ _ _ _, State.reg_setReg_same _ _ _, State.onlyRegs_setReg _ _ _, ?_⟩
    rw [packetForward_here up low away hops hop here, State.forward_leaves next credit free]
    rfl
  case refine_8 =>
    have none := receives_none no
    refine ⟨if_pos none, if_pos ?_, if_pos ?_⟩
    · rw [none, Bool.true_or]
    · rw [none, Bool.true_or]
  case refine_9 => rw [packetReceive_run up own, if_pos wrong]
  case refine_10 => rw [packetReceive_run up own, if_neg (not_not.2 good), if_pos low]
  case refine_11 =>
    rw [packetReceive_run up own, if_neg (not_not.2 good), if_neg (by rw [pairs]; decide), if_pos ⟨pairs, len⟩]
  case refine_12 =>
    have unpaired : ¬ (p.ptype = ptManage ∧ p.payload.length = 20) := fun both => other.elim (absurd both.1) (absurd both.2)
    rw [packetReceive_run up own, if_neg (not_not.2 good), if_neg (Nat.not_le.2 high), if_neg unpaired]
  case refine_13 =>
    exact ⟨_, State.epochGate_discards old, State.onlyRegs_setReg _ _ _, State.reg_setReg_same _ _ _⟩
  case refine_14 =>
    exact ⟨_, if_pos ⟨run, bad⟩, State.onlyRegs_setReg _ _ _, State.reg_setReg_same _ _ _⟩
  case refine_15 =>
    have spec := s.takeAgainst_spec p
    dsimp only
    rw [State.takeSequenced_against good]
    split
    · exact spec { last := p.sequence - 1 }
    · exact spec (s.rxStream p.source p.channel)
  case refine_16 =>
    obtain ⟨piste, out, noRun, rx, same⟩ := State.sendAck_leaves (ch := ch) leaves
    exact ⟨_, rfl, noRun none ▸ out, rx, same⟩
  case refine_17 =>
    refine ⟨_, State.takeAck_first posts unacked covers later noRun, State.txStream_setTx _ _ _ _, ?_, fun k other => ?_, rfl⟩
    · exact (State.reg_setReg_same _ _ _).trans rfl
    · exact State.reg_setReg_other _ _ _ _ fun same => other (List.mem_singleton.2 same)

end Sys2Proof.Machine
end

section
/-! A feed and a write of the host into a tensor table out of order: as in O19, the first byte stored into an upper copy lists its entry
again, ahead of the one that covers the next byte (R314, R336, R602, R671). -/

namespace Sys2Proof.Machine

set_option Elab.async false

namespace OutOfOrder

/-- The package of the two entries, with a live feed target of tenant 0 that begins at offset 0 (R600). -/
def fed : State :=
  { package with tenants := [(0, { mirrors := [{ buddy := 0, localBase := 0, buddyBase := 0, tensorId := 0, role := 4, state := 3 }] })] }

/-- A feed's two bytes, one in each entry, change byte 128 of the first one's upper copy. -/
theorem fed_changes : (fed.pokeRun 0 (0 + 127) .plain [7, 9]).1.rdByte 3 128 ≠ fed.rdByte 3 128 := by decide +kernel

/-- The feed's two places: bytes 127 of allocation 3 and 0 of allocation 1. -/
theorem fed_places : ∀ w ∈ (List.range [(7 : Byte), 9].length).map fun k => (0 + 127 + k, VSel.plain), ∀ p,
    fed.locate 0 w.1 w.2 = some p → memKey p.1 p.2 ≠ memKey 3 128 := by
  have missed : (((List.range [(7 : Byte), 9].length).map fun k => (0 + 127 + k, VSel.plain)).all fun w =>
    (fed.locate 0 w.1 w.2).all fun p => memKey p.1 p.2 != memKey 3 128) = true := by decide +kernel
  intro w listed p found
  have one := List.all_eq_true.1 missed w listed
  rw [found, Option.all_some, bne_iff_ne] at one
  exact one

end OutOfOrder

open OutOfOrder in
/-- Refutes O33, by its FEED_RECEIVE clause: of a tensor table whose numbers do not rise the statement says too much. The feed's byte at
offset 127 marks entry 3 dirty, which lists it again ahead of entry 5; its byte at offset 128 then goes to byte 128 of entry 3's upper copy,
which is no place of the feed. -/
theorem not_collectiveRunsAndInstances : ¬ Obligations.CollectiveRunsAndInstances := by
  intro h
  obtain ⟨-, -, -, -, -, -, -, -, -, -, -, -, -, -, -, -, -, -, -, -, -, -, -, -, -, -, -, -, feed, -⟩ := h
  obtain ⟨-, -, -, bytes⟩ := feed fed 0 0 0 127 [7, 9] (by decide) ⟨_, List.mem_singleton.2 rfl, rfl, rfl, rfl⟩
  exact fed_changes (bytes 3 128 fed_places)

namespace OutOfOrder

/-- A write of the host to the same two bytes changes byte 128 of the first entry's upper copy. -/
theorem hostWrite_changes : (package.hostWrite 0 127 [7, 9]).2.rdByte 3 128 ≠ package.rdByte 3 128 := by decide +kernel

/-- Of the places that the host may write, none is that byte. -/
theorem hostWrite_places : ∀ w ∈ ((List.range [(7 : Byte), 9].length).map fun i => (127 + i, VSel.plain)).filter fun w =>
    !package.fencedAt 0 w.1 && package.writable 0 w.1 .plain, ∀ p,
    package.locate 0 w.1 w.2 = some p → memKey p.1 p.2 ≠ memKey 3 128 := by
  have missed : (((List.range [(7 : Byte), 9].length).map fun i => (127 + i, VSel.plain)).all fun w =>
    (package.locate 0 w.1 w.2).all fun p => memKey p.1 p.2 != memKey 3 128) = true := by decide +kernel
  intro w listed p found
  have one := List.all_eq_true.1 missed w (List.mem_filter.1 listed).1
  rw [found, Option.all_some, bne_iff_ne] at one
  exact one

end OutOfOrder

open OutOfOrder in
/-- Refutes O46, by its clause of a write through a tensor window: as the feed of O33 does, the host's byte at offset 127 lists entry 3
again ahead of entry 5, and its byte at offset 128 goes to entry 3's upper copy. -/
theorem not_itemsAndSegments : ¬ Obligations.ItemsAndSegments := by
  intro h
  obtain ⟨-, -, -, -, -, -, -, -, -, hostWrite, -⟩ := h
  obtain ⟨m, t, written, bytes, -⟩ := hostWrite package 0 127 [7, 9]
  have state : t = (package.hostWrite 0 127 [7, 9]).2 := (congrArg Prod.snd written).symm
  exact hostWrite_changes (state ▸ bytes 3 128 hostWrite_places)

/-- No byte outside its places is changed by an instruction that has stored. -/
theorem Stores.rdByte_outside {t u v : State} {n a o : Nat} {ws : List (Nat × VSel)} (h : Stores t u v n ws)
    (outside : (ws.any fun w => (t.locate n w.1 w.2).any fun p => memKey p.1 p.2 == memKey a o) = false) : u.rdByte a o = t.rdByte a o := by
  calc u.rdByte a o = v.rdByte a o := congrArg (Sparse.get 0 (memKey a o)) h.memory.1.symm
    _ = t.rdByte a o := h.bytes a o fun w hw p hp => by
      have missed := List.any_eq_false.1 outside w hw
      rw [hp, Option.any_some, beq_iff_eq] at missed
      exact missed

/-- So a store that changes such a byte answers nothing that keeps to those places. -/
theorem not_storeAnswers_outside {t t1 : State} {c x unit : Nat} {e : Host.Outcome State Fault Refusal}
    {done : State → Counts → State → Prop} {n : Nat} {ws : List (Nat × VSel)} {r : Stored} {a o : Nat}
    (stored : ∀ u m v, done u m v → Stores t u v n ws) (changed : r.changes t a o = true)
    (outside : (ws.any fun w => (t.locate n w.1 w.2).any fun p => memKey p.1 p.2 == memKey a o) = false) :
    ¬ StoreAnswers t1 c x unit e done r := by
  intro answer
  cases r with
  | done u m =>
    obtain ⟨v, -, hv⟩ := answer
    have kept := (stored u m v hv).rdByte_outside outside
    simp [Stored.changes, kept] at changed
  | full => simp [Stored.changes] at changed
  | bad z => simp [Stored.changes] at changed

/-- Nor does a store of raw elements. -/
theorem not_rawAnswers_outside {t : State} {c x unit : Nat} {e : Host.Outcome State Fault Refusal} {done : State → State → Prop}
    {n : Nat} {ws : List (Nat × VSel)} {r : State × Bool} {a o : Nat} (stored : ∀ u v, done u v → Stores t u v n ws)
    (changed : (!r.2 && r.1.rdByte a o != t.rdByte a o) = true)
    (outside : (ws.any fun w => (t.locate n w.1 w.2).any fun p => memKey p.1 p.2 == memKey a o) = false) : ¬ RawAnswers c x unit e done r := by
  rintro ⟨v, -, answer⟩
  obtain ⟨sound, other⟩ := Bool.and_eq_true_iff.1 changed
  rw [if_neg (by rw [Bool.not_eq_true'] at sound; rw [sound]; exact Bool.false_ne_true)] at answer
  exact bne_iff_ne.1 other ((stored _ _ answer).rdByte_outside outside)

namespace OutOfOrder

/-- A copy of the two F32 elements at 0 to those at 124, as the soft-maximum of O19. -/
def copyWord : DmWord :=
  { sr := false, ovf := false, cond := false, mode := false, x := 1, y := 2, g := 0, cnt := 0, imm0 := 0, imm1 := 0 }

/-- The operands of the copy are prepared for the data mover too. -/
theorem copyReady : OperandsReady (package.started 0 0) 0 0 (moverUnit 0) work [askRead (pair 0), askWrite (pair 124)]
    [(pair 0, .plain), (pair 124, .plain)] (package.started 0 0) :=
  ⟨package.started 0 0, rfl, by decide, .inl (by decide), rfl⟩

end OutOfOrder

open OutOfOrder in
/-- Refutes O21, by its DM_COPY clause: the element stored at offset 124 lists entry 3 again ahead of entry 5, and the element stored at
offset 128 then clears byte 128 of entry 3's upper copy, which is no place of the destination. -/
theorem not_moverInstructions : ¬ Obligations.MoverInstructions := by
  intro h
  obtain ⟨copy, -⟩ := h
  obtain ⟨answer, -⟩ := copy package 0 0 copyWord work (pair 0) (pair 124) (pair 0) (pair 124) .plain .plain (package.started 0 0) issues
    (by decide) (by decide) (by decide) (by decide) copyReady
  refine not_storeAnswers_outside (a := 3) (o := 128) (fun _ _ _ done => done.stored) ?_ not_placesReach
    (answer (by decide) (by decide))
  decide +kernel

namespace OutOfOrder

/-- Elements side by side of a format. -/
def row (address e0 fmt : Nat) (v : Bool) : Desc := { pair address with e0 := e0, fmt := fmt, v := v }

/-- Their descriptor's 64 bytes (R218). -/
def rowBytes (address e0 fmt : Nat) (v : Bool) : List Byte :=
  toBytes 8 address ++ toBytes 4 e0 ++ toBytes 4 1 ++ toBytes 4 1 ++ toBytes 4 1 ++ List.replicate 34 0 ++ toBytes 1 fmt ++
    toBytes 1 (4 * b2n v) ++ List.replicate 4 0

/-- Work with an update of two elements at 64, their weights' upper parts at 124, their extensions at 72, and an update record at 0. -/
def foldWork : Work :=
  { work with bindings := [(1, rowBytes 64 2 fmtF16 false), (2, rowBytes 124 2 fmtF32 true), (3, rowBytes 72 2 fmtF16 true),
      (4, rowBytes 0 64 fmtU8 false)] }

/-- The package of the two entries, with that work. -/
def foldPackage : State := { package with works := [(7, foldWork)] }

def foldWord : FoldWord := { sr := false, ovf := false, u := 1, w := 2, wx := 3, y := 0, r := 4 }

def foldOps : FoldOps := ⟨row 64 2 fmtF16 false, row 124 2 fmtF32 true, row 72 2 fmtF16 true, none, row 0 64 fmtU8 false⟩

theorem foldIssues : Issues foldPackage 0 0 foldWork := ⟨by decide, ⟨7, rfl⟩, by decide⟩

theorem foldOps_named : (foldPackage.started 0 0).foldOps foldWork foldWord = some foldOps := rfl

/-- The operands of the fold are prepared, and nothing of the package changes by it. -/
theorem foldReady : OperandsReady (foldPackage.started 0 0) 0 0 (rowUnit 0) foldWork
    ((foldPackage.started 0 0).optimAsks 0 [(foldOps.u, false), (foldOps.w, false), (foldOps.wx, false), (foldOps.r, false),
      (foldOps.w, true), (foldOps.wx, true)])
    [(foldOps.u, .plain), (foldOps.w, .plain), (foldOps.wx, .plain), (foldOps.r, .plain), (foldOps.w, .plain), (foldOps.wx, .plain)]
    (foldPackage.started 0 0) :=
  ⟨foldPackage.started 0 0, rfl, by decide, .inl (by decide), rfl⟩

/-- It is no place of the two tensors. -/
theorem fold_outside : ((foldOps.w.offsets.map (·, VSel.plain) ++ foldOps.wx.offsets.map (·, VSel.plain)).any fun w =>
    ((foldPackage.started 0 0).locate 0 w.1 w.2).any fun p => memKey p.1 p.2 == memKey 3 128) = false := by decide +kernel

end OutOfOrder

open OutOfOrder in
/-- Refutes O20, by its RFOLD clause: as in O21, the upper part stored at offset 124 lists entry 3 again ahead of entry 5, and the one at
offset 128 clears byte 128 of entry 3's upper copy. -/
theorem not_updateInstructions : ¬ Obligations.UpdateInstructions := by
  intro h
  obtain ⟨-, -, -, -, -, -, -, -, fold, -⟩ := h
  have answer := fold foldPackage 0 0 foldWord foldWork foldOps _ _ _ _ _ _ _ (foldPackage.started 0 0) foldIssues foldOps_named (by decide) rfl rfl
    foldReady
  refine not_rawAnswers_outside (a := 3) (o := 128) (fun _ _ done => done.1) ?_ fold_outside answer
  decide +kernel

namespace OutOfOrder

/-- One E4M3 element at 128, in a block of its own, with its scale record at 512 (R91). -/
def blockDesc : Desc := { pair 128 with e0 := 1, fmt := 3, block := 1, scalePtr := 512 }

/-- Its descriptor's 64 bytes (R218). -/
def blockBytes : List Byte :=
  toBytes 8 128 ++ toBytes 4 1 ++ toBytes 4 1 ++ toBytes 4 1 ++ toBytes 4 1 ++ List.replicate 18 0 ++ toBytes 8 512 ++
    List.replicate 8 0 ++ toBytes 1 (3 + 32) ++ List.replicate 5 0

/-- Work of tenant 0 with that element in slot 1. -/
def threadWork : Work := { work with bindings := [(1, blockBytes)] }

/-- A package as before, its entry 3 up to offset 1,023, with that work's kernel on thread group 0, where thread 0 alone has its first
predicate clear. -/
def threadPackage : State :=
  { package with
    works := [(7, threadWork)]
    entries := [(5, entry 128 1 1 none), (3, entry 0 16 2 (some ⟨0, 0, {}, 3, 0, 0⟩))]
    threads := [(threadKey 0 0 0, { preds := 14 })]
    cores := [(0, { kernels := [{ ctx := 0, token := 0, blocks := 1, start := 0, nextBlock := 1, ended := 0, groups := [(0, 0, 0)] }] })] }

/-- A store of register 0 into the element that register 0 names, by the threads whose first predicate is clear. -/
def threadWord : ThreadWord := { pred := 0, pneg := true, sr := false, ovf := false, d := 1, a := 0, b := 0, c := 0, imm := 0 }

theorem threadIssues : ThreadIssues threadPackage 0 0 0 threadWork :=
  ⟨_, 0, 7, rfl, rfl, by decide, rfl, by decide, by decide⟩

/-- Thread 0 alone stores. -/
theorem threadStores : [(0, 0)] = (threadPackage.activeOf 0 0 threadWord).map fun i =>
    ((threadPackage.thread 0 0 i).reg (threadWord.b % 32), (threadPackage.thread 0 0 i).reg (threadWord.c % 32)) := by decide +kernel

theorem threadReady : threadPackage.prepAt threadWork.asker blockDesc blockDesc.vtag true (vectorUnit 0) [] = .ready blockDesc .plain threadPackage := rfl

/-- Byte 128 of allocation 3 is no place of the element. -/
theorem thread_outside : ((blockDesc.elemPlaces .plain ([((0 : Nat), (0 : Nat))].map (·.1))).any fun w =>
    (threadPackage.locate 0 w.1 w.2).any fun p => memKey p.1 p.2 == memKey 3 128) = false := by decide +kernel

end OutOfOrder

open OutOfOrder in
/-- Refutes O18, by its clause of a store into a block-scaled tensor: the block's scale byte lists entry 3 again ahead of entry 5, and the
element at offset 128 then clears byte 128 of entry 3's upper copy, which is no place of the element. -/
theorem not_threadLoadsAndStores : ¬ Obligations.ThreadLoadsAndStores := by
  intro h
  obtain ⟨-, -, store, -⟩ := h
  obtain ⟨-, -, block, -⟩ := store threadPackage 0 0 0 false threadWord threadWork blockDesc blockDesc .plain threadPackage [(0, 0)] threadIssues
    (by decide) (by decide) (by decide) (by decide) (by decide) (by decide) threadStores (by decide) threadReady
  have answer := block (by decide +kernel) (by decide) [[(0, 0)]] (by decide)
  refine not_storeAnswers_outside (a := 3) (o := 128) (fun _ _ _ done => done.2.1) ?_ thread_outside answer
  decide +kernel

/-- A store that changes a byte was made. -/
theorem Stored.done_of_changes {t : State} {r : Stored} {a o : Nat} (changed : r.changes t a o = true) :
    ∃ u n, r = .done u n ∧ u.rdByte a o ≠ t.rdByte a o := by
  cases r with
  | done u n => exact ⟨u, n, rfl, bne_iff_ne.1 changed⟩
  | full => exact absurd changed Bool.false_ne_true
  | bad z => exact absurd changed Bool.false_ne_true

namespace OutOfOrder

/-- A matrix that is empty in dimension 0 (R147). -/
def emptyDesc : Desc := row 0 0 fmtBF16 false

/-- Work with an empty X and W in slots 1 and 2, and a Y of one F32 element at 126, two bytes of it in each entry. -/
def matrixWork : Work :=
  { work with bindings := [(1, rowBytes 0 0 fmtBF16 false), (2, rowBytes 0 0 fmtBF16 false), (3, rowBytes 126 1 fmtF32 false)] }

def matrixPackage : State :=
  { package with works := [(7, matrixWork)], ctxs := [(0, { state := 1, work := some 7, sideSize := 1, accSize := 1 })] }

/-- An MMA that reduces over nothing and converts its one row. -/
def matrixWord : MmaWord :=
  { acc := false, out := true, wt := false, xt := false, osr := false, x := 1, w := 2, y := 3, tout := 0, tx := 0, tw := 0, osc := 127,
    part := 0, abase := 0, lst := 0, cp := 0 }

def matrixDescs : Mma := { x := emptyDesc, w := emptyDesc, y := some (row 126 1 fmtF32 false), tout := none, tx := none, tw := none }

def matrixWindow : AccWin := accWin matrixWord matrixDescs 0 ((matrixPackage.started 0 0).ctx 0 0) false

theorem matrixIssues : Issues matrixPackage 0 0 matrixWork := ⟨by decide, ⟨7, rfl⟩, by decide⟩

theorem matrixChecked : MatrixChecked (matrixPackage.started 0 0) 0 0 matrixWork matrixWord false (yPlain matrixWord) (fun _ => true) matrixDescs
    matrixWindow :=
  ⟨⟨rfl, rfl, rfl, by decide, by decide, rfl⟩, by decide, by decide, by decide, by decide⟩

theorem matrixReady : OperandsReady (matrixPackage.started 0 0) 0 0 (engineId 0 0) matrixWork (matrixDescs.asks matrixWord)
    [(emptyDesc, .plain), (emptyDesc, .plain), (row 126 1 fmtF32 false, .plain)] (matrixPackage.started 0 0) :=
  ⟨matrixPackage.started 0 0, rfl, by decide, .inl (by decide), rfl⟩

def matrixOps : MmaOps :=
  { x := (emptyDesc, .plain), w := (emptyDesc, .plain), y := some (row 126 1 fmtF32 false, .plain), tout := none, tx := none, tw := none }

/-- The state once the planes are loaded. -/
def matrixLoaded : State := (matrixPackage.started 0 0).loadPlanes 0 0 matrixWork matrixWord matrixDescs matrixOps

/-- Its product: one row of one +0. -/
def matrixProduct : Product :=
  floatProduct (matrixLoaded.core 0) matrixWord matrixWindow (matrixLoaded.seedOf 0 matrixWork.stepOf) 0 16 0 [[]] [[]]

theorem matrixProduct_is : matrixLoaded.mmaProduct 0 matrixWork matrixWord matrixDescs matrixWindow matrixOps
    ((matrixPackage.started 0 0).mmaTensorId matrixWork matrixWord matrixDescs) = some matrixProduct := rfl

end OutOfOrder

/-- A store that changes a byte elsewhere keeps no conversion to its places. -/
theorem not_keeps_outside {t : State} {n a o faults : Nat} {ws : List (Nat × VSel)} {r : Stored} (sound : faults = 0)
    (changed : r.changes t a o = true)
    (outside : (ws.any fun w => (t.locate n w.1 w.2).any fun p => memKey p.1 p.2 == memKey a o) = false) :
    ¬ ∀ u m, faults = 0 → r = .done u m → ∃ v : State, v.mem = u.mem ∧ BytesBut n ws t v := by
  intro keeps
  obtain ⟨u, m, stored, other⟩ := Stored.done_of_changes changed
  obtain ⟨v, mem, bytes⟩ := keeps u m sound stored
  refine other ?_
  calc u.rdByte a o = v.rdByte a o := congrArg (Sparse.get 0 (memKey a o)) mem.symm
    _ = t.rdByte a o := bytes a o fun w hw p hp => by
      have missed := List.any_eq_false.1 outside w hw
      rw [hp, Option.any_some, beq_iff_eq] at missed
      exact missed

open OutOfOrder in
/-- Refutes O15, by its clause of an MMA with OUT: the first bytes of Y's element at offset 126 list entry 3 again ahead of entry 5, and its
byte at offset 128 then clears byte 128 of entry 3's upper copy, which is no place of Y. -/
theorem not_matrixProductsIssue : ¬ Obligations.MatrixProductsIssue := by
  intro h
  obtain ⟨-, converts, -⟩ := h
  obtain ⟨done, -⟩ := converts matrixPackage 0 0 matrixWork matrixWord matrixDescs matrixWindow
    [(emptyDesc, .plain), (emptyDesc, .plain), (row 126 1 fmtF32 false, .plain)] (matrixPackage.started 0 0) matrixOps matrixProduct
    (row 126 1 fmtF32 false, .plain) matrixIssues matrixChecked matrixReady rfl rfl (by decide) matrixProduct_is
  have keeps := fun u n sound stored => (done u n sound stored).elim fun v ⟨_, _, _, mem, _, bytes, _⟩ =>
    (⟨v, mem, bytes⟩ : ∃ v : State, v.mem = u.mem ∧ BytesBut _ _ _ v)
  refine not_keeps_outside (a := 3) (o := 128) ?_ ?_ ?_ keeps
  all_goals decide +kernel

end Sys2Proof.Machine
end

section
/-! A Judges slot listed twice: the statement of the slots asks nothing of the order of the list. A slot whose settings have become those
of a slot never written is no longer listed (R309), and a second listing of its number is then read in its place. -/

namespace Sys2Proof.Machine

set_option Elab.async false

namespace TwiceListed

/-- A package whose tenant 0 shares slot 0, listed twice: first with the settings of reset pending, then with others in force. -/
def package : State :=
  { State.reset with
    regs := [(Obj.slotCount 0, 1)]
    slots := [(0, { pendingCfg := some {} }), (0, { cfg := { silentMode := 2 } })] }

theorem shared : package.shareHas 0 0 = true := by decide

/-- The slot's settings are pending before a step of the tenant settles. -/
theorem pending : (package.slot 0).pendingCfg = some {} := rfl

/-- Afterwards the second listing's are in force. -/
theorem settled : ((package.settleSlots 0 0).slot 0).cfg = { silentMode := 2 } := by decide +kernel

end TwiceListed

open TwiceListed in
/-- Refutes O38, by its clause of pending settings: slot 0 takes the settings of reset, is listed no more, and its second listing, with
other settings, is what the slot holds. -/
theorem not_judgesCountAndJudge : ¬ Obligations.JudgesCountAndJudge := by
  intro h
  obtain ⟨-, -, -, -, -, -, -, -, -, -, -, -, -, -, -, -, -, -, -, -, -, -, settles, -⟩ := h
  obtain ⟨cfg, -⟩ := settles package 0 0 0 {} shared pending
  exact absurd (settled.symm.trans cfg) (by decide)

end Sys2Proof.Machine
end

section
/-! The instances of a fenced chip: the statement of fences says that they fail as a withdrawn one does, with status 16, a count and an
event (R537, R543). The model also faults their contributing contexts (R539). -/

namespace Sys2Proof.Machine

set_option Elab.async false

/-- Between two states no context, collective, held packet or tenant has changed. -/
def StillHere (s t : State) : Prop :=
  t.ctxs = s.ctxs ∧ t.colls = s.colls ∧ t.fabric.held = s.fabric.held ∧ t.tenants = s.tenants

theorem StillHere.trans {s t u : State} (h : StillHere s t) (k : StillHere t u) : StillHere s u := by
  obtain ⟨ctxs, colls, held, tenants⟩ := h
  obtain ⟨ctxs', colls', held', tenants'⟩ := k
  exact ⟨ctxs'.trans ctxs, colls'.trans colls, held'.trans held, tenants'.trans tenants⟩

theorem StillHere.refl (s : State) : StillHere s s := ⟨rfl, rfl, rfl, rfl⟩

theorem LifeChanged.stillHere {s t : State} {chip v : Nat} (h : LifeChanged s t chip v) (none : s.fabric.held = []) : StillHere s t := by
  obtain ⟨u, -, -, -, ⟨-, rest⟩, rfl⟩ := h
  have held : u.fabric.held = [] := (congrArg (fun w : State => w.fabric.held) rest :).trans none
  unfold State.releaseHeld
  rw [held]
  exact ⟨(congrArg State.ctxs rest :), (congrArg State.colls rest :), none.symm, (congrArg State.tenants rest :)⟩

theorem LifeChanged.chip {s t : State} {chip v : Nat} (h : LifeChanged s t chip v) (none : s.fabric.held = []) : t.chip = s.chip := by
  obtain ⟨u, -, -, -, ⟨others, rest⟩, rfl⟩ := h
  have held : u.fabric.held = [] := (congrArg (fun w : State => w.fabric.held) rest :).trans none
  unfold State.releaseHeld
  rw [held]
  exact others Obj.chipNumber (by decide)

theorem Emitted.stillHere {ms : List Msg} {s t : State} (h : Emitted ms s t) : StillHere s t := by
  obtain rfl := h
  exact .refl s

theorem State.raise_stillHere (s : State) (k : Nat) (v : List Byte) : StillHere s (s.raise k v) := by
  unfold State.raise
  obtain ⟨o, e, ss, h⟩ := State.notify_sends (s.setReg k (fromBytes v)) k v
  rw [h]
  exact ⟨rfl, rfl, rfl, rfl⟩

theorem Avoided.stillHere {s t : State} {chip : Nat} (h : Avoided s t chip) : StillHere s t := by
  obtain ⟨listed, more⟩ := h
  by_cases known : (∃ e, (chip, e) ∈ s.fabric.avoided) ∨ 256 ≤ s.fabric.avoided.length
  · exact listed known ▸ .refl s
  · obtain ⟨fresh, room⟩ := not_or.1 known
    have eq := more (fun e at_ => fresh ⟨e, at_⟩) (Nat.not_le.1 room)
    exact eq ▸ ⟨rfl, rfl, rfl, rfl⟩

theorem MembersLost.stillHere {chip : Nat} {ns : List Nat} {s t : State} (h : MembersLost chip ns s t)
    (none : ∀ n, (s.tenant n).live = []) : StillHere s t := by
  induction ns generalizing s with
  | nil => exact h ▸ .refl s
  | cons n ns ih =>
    obtain ⟨u, ⟨same, -⟩, later⟩ := h
    obtain rfl := same (none n ▸ List.not_mem_nil)
    exact ih later none

theorem AllOrphaned.stillHere {chip : Nat} {ns : List Nat} {s t : State} (h : AllOrphaned chip ns s t)
    (none : ∀ n, (s.tenant n).mirrors = []) : StillHere s t := by
  induction ns generalizing s with
  | nil => exact h ▸ .refl s
  | cons n ns ih =>
    obtain ⟨u, ⟨same, -⟩, later⟩ := h
    obtain rfl := same (by rw [none]; rfl)
    exact ih later none

theorem BecameMaster.stillHere {s t : State} (h : BecameMaster s t) : StillHere s t := by
  obtain ⟨-, rest⟩ := h.rest
  exact ⟨(congrArg State.ctxs rest :), (congrArg State.colls rest :), (congrArg (fun w : State => w.fabric.held) rest :),
    (congrArg State.tenants rest :)⟩

/-- A collective without a token that fails as the statement has it changes no context. -/
theorem InstFailed.ctxs {s t : State} {i : Inst} {chip : Nat} (h : InstFailed s t i chip) (noToken : i.token = 0) :
    t.ctxs = s.ctxs ∧ t.tenants = s.tenants := by
  obtain ⟨u, v, ⟨w, tokens, rfl⟩, ⟨-, only⟩, -, rfl⟩ := h
  have ended : ∀ (ps : List Contrib) (a b : State), TokensEnd i.token 16 ps a b → b = a := by
    intro ps
    induction ps with
    | nil => exact fun a b h => h
    | cons p ps ih =>
      rintro a b ⟨m, done, later⟩
      exact (ih m b later).trans (done.none noToken)
  obtain rfl := ended _ _ _ tokens
  obtain ⟨ctxs, -, -, tenants⟩ := State.raise_stillHere v (Obj.lastCollectiveEvent i.n) (toBytes 1 5 ++ toBytes 1 i.inst ++ toBytes 2 i.plan ++
    toBytes 8 i.step ++ toBytes 2 chip ++ toBytes 10 0 ++ toBytes 8 v.up)
  exact ⟨ctxs.trans (congrArg State.ctxs only :), tenants.trans (congrArg State.tenants only :)⟩

theorem InstsFailed.ctxs {chip : Nat} {is : List Inst} {s t : State} (h : InstsFailed chip is s t) (noToken : ∀ i ∈ is, i.token = 0) :
    t.ctxs = s.ctxs ∧ t.tenants = s.tenants := by
  induction is generalizing s with
  | nil => exact h ▸ ⟨rfl, rfl⟩
  | cons i is ih =>
    obtain ⟨u, failed, later⟩ := h
    obtain ⟨ctxs, tenants⟩ := failed.ctxs (noToken i List.mem_cons_self)
    obtain ⟨ctxs', tenants'⟩ := ih later fun j listed => noToken j (List.mem_cons_of_mem _ listed)
    exact ⟨ctxs'.trans ctxs, tenants'.trans tenants⟩

/-- A fence as the statement has it changes no context of a package without tenants and held packets whose instances have no token. -/
theorem PeerFenced.ctxs {s t : State} {chip : Nat} (h : PeerFenced s t chip) (noTenant : s.tenants = [])
    (noToken : ∀ i ∈ s.colls.insts, i.token = 0) : t.ctxs = s.ctxs := by
  obtain ⟨a, b, c, d, avoided, lost, failed, orphaned, master, same⟩ := h
  have toA := avoided.stillHere
  have noneA : a.tenants = [] := toA.2.2.2.trans noTenant
  have toB := toA.trans (lost.stillHere fun n => by rw [State.tenant, noneA]; rfl)
  obtain ⟨ctxsB, collsB, -, tenantsB⟩ := toB
  obtain ⟨ctxsC, tenantsC⟩ := failed.ctxs fun i listed => noToken i (collsB ▸ (List.mem_filter.1 listed).1)
  have noneC : c.tenants = [] := tenantsC.trans (tenantsB.trans noTenant)
  obtain ⟨ctxsD, -⟩ := orphaned.stillHere fun n => by rw [State.tenant, noneC]; rfl
  have ctxsT : t.ctxs = d.ctxs := by
    by_cases takes : d.reg Obj.cadenceMasterChip = chip ∧ d.time.seenTerm ≠ 0 ∧ d.lowestLive = some d.chip
    · exact (master takes).stillHere.1
    · rw [same takes]
  exact ctxsT.trans (ctxsD.trans (ctxsC.trans ctxsB))

namespace PeerFails

/-- A broadcast with chip 1 to which context 0 of core 0 contributes, without a token. -/
def inst : Inst :=
  { n := 0, plan := 0, inst := 0, step := 0, form := .broadcast, fused := false, exch := 0, code := 0, token := 0, bidir := false,
    cores := [0], ra := {}, rb := {}, ga := {}, gb := {}, members := [1], elems := 0, rowLen := 0, fmt := 0,
    record := none, margin := 0, x0 := 0, buffers := 0, countSlot := 0,
    contribs := [{ core := 0, ctx := 0, x := 0, y := 0, sr := false, ovf := false, word := none, vals := [], route := [] }] }

/-- A package at reset with that collective, its context running. -/
def package : State := { State.reset with ctxs := [(0, { state := 2 })], colls := { State.reset.colls with insts := [inst] } }

/-- The fence of chip 1 faults the context (R539). -/
theorem fence_faults : ((package.fenceChip 1 1).ctx 0 0).state = 4 := by decide +kernel

end PeerFails

open PeerFails in
/-- Refutes O41, by its clause that every fence does what R593 to R595 have it: the statement's instances end with an event, and the model
also faults the contexts that contributed to them. -/
theorem not_patrolAndLives : ¬ Obligations.PatrolAndLives := by
  intro h
  obtain ⟨-, -, -, -, -, -, -, -, -, -, -, -, -, -, fences, -⟩ := h
  obtain ⟨-, rises⟩ := fences package 1 1
  obtain ⟨u, ⟨w, changed, spread⟩, -, peer⟩ := rises (by decide)
  have toU := (changed.stillHere rfl).trans spread.stillHere
  obtain ⟨ctxs, colls, -, tenants⟩ := toU.trans (u.raise_stillHere Obj.lastMembershipEvent
    (eventBytes 1 0xFF 1 (u.reg Obj.membershipEpoch) 0 0 u.up))
  have away : 1 ≠ u.chip := by
    have own : u.chip = package.chip := by
      rw [spread]
      exact changed.chip rfl
    rw [own]
    decide
  have kept := (peer away).ctxs tenants fun i listed => by
    have same : (u.memberEvent 1 1).colls = package.colls := colls
    rw [same] at listed
    have one : i ∈ [inst] := listed
    exact List.mem_singleton.1 one ▸ rfl
  have state := fence_faults
  rw [State.ctx, kept.trans ctxs] at state
  exact absurd state (by decide)

end Sys2Proof.Machine
end

section
/-! The frames, the tones and the alignment of a lane, and how it leaves service and relocks (R413 to R425, R434, R474, R476, R484). -/

namespace Sys2Proof.Machine

set_option Elab.async false

/-! What a lane event and the settling of a port leave unchanged -/

/-- The objects of the ports and of the fabric lie below those of the faults. -/
def Obj.belowFaults (k : Nat) : Prop := k < obj 0x9000 0

theorem Obj.belowFaults_laneState {p l : Nat} (hp : p < 16) (hl : l ≤ 8) : Obj.belowFaults (Obj.laneState p l) := by
  simp only [Obj.belowFaults, Obj.laneState, obj]; omega

theorem Obj.belowFaults_spareRole {p : Nat} (hp : p < 16) : Obj.belowFaults (Obj.spareRole p) := by
  simp only [Obj.belowFaults, Obj.spareRole, obj]; omega

theorem Obj.not_mem_reportObjs {k : Nat} (below : Obj.belowFaults k) (r : FaultRep) : k ∉ reportObjs r := by
  simp only [Obj.belowFaults, obj] at below
  simp only [reportObjs, List.mem_cons, List.not_mem_nil, or_false, Obj.lastFaultEvent, Obj.eventDropCount, Obj.logSkipCount,
    Obj.correctedCount, Obj.containedCount, Obj.fatalCount, obj]
  omega

theorem State.laneEvent_reports (s : State) (p l : Nat) : Reports s (s.laneEvent p l) :=
  State.report_reports (show (1 : Nat) ≠ 3 by decide) s

theorem State.laneEvent_reg (s : State) (p l : Nat) {k : Nat} (below : Obj.belowFaults k) : (s.laneEvent p l).reg k = s.reg k :=
  State.report_regs (show (1 : Nat) ≠ 3 by decide) s k (Obj.not_mem_reportObjs below _)

theorem Reports.optics {s t : State} (h : Reports s t) : t.ports = s.ports ∧ t.lasers = s.lasers ∧ t.fabric = s.fabric := by
  obtain ⟨o, e, ss, cs, ls, d, ts, gs, m, rfl⟩ := h
  exact ⟨rfl, rfl, rfl⟩

theorem OnlyRegs.optics {ks : List Nat} {s t : State} (h : OnlyRegs ks s t) :
    t.ports = s.ports ∧ t.lasers = s.lasers ∧ t.fabric = s.fabric := by
  obtain ⟨-, frame⟩ := h
  rw [← frame]
  exact ⟨rfl, rfl, rfl⟩

theorem State.port_congr {s t : State} (h : t.ports = s.ports) (p : Nat) : t.port p = s.port p := by
  simp only [State.port, h]

theorem State.laser_congr {s t : State} (h : t.lasers = s.lasers) (p l : Nat) : t.laser p l = s.laser p l := by
  simp only [State.laser, h]

theorem State.laneEvent_port (s : State) (p l q : Nat) : (s.laneEvent p l).port q = s.port q :=
  State.port_congr (s.laneEvent_reports p l).optics.1 q

theorem State.portWritten_optics (s : State) (p : Nat) :
    (s.portWritten p).ports = s.ports ∧ (s.portWritten p).lasers = s.lasers := ⟨rfl, rfl⟩

/-- Settling a port changes neither the ports' own records nor the lasers', and no register of a lane. -/
theorem State.settlePort_optics (s : State) (p : Nat) : (s.settlePort p).ports = s.ports ∧ (s.settlePort p).lasers = s.lasers := by
  rw [State.settlePort_eq]
  split
  · obtain ⟨ports, lasers, -⟩ := (State.report_reports (r := { blockReport 2 15 (rxPathId p) with injected := _ })
      (show (2 : Nat) ≠ 3 by decide) (s.portWritten p)).optics
    exact ⟨ports, lasers⟩
  · exact s.portWritten_optics p

theorem State.settlePort_lane (s : State) {p l : Nat} (hp : p < 16) (hl : l ≤ 8) : (s.settlePort p).lane p l = s.lane p l := by
  have rate : Obj.laneState p l ≠ Obj.portRate16ths p := by simp only [Obj.laneState, Obj.portRate16ths, obj]; omega
  have state : Obj.laneState p l ≠ Obj.portState p := by simp only [Obj.laneState, Obj.portState, obj]; omega
  have written : (s.portWritten p).lane p l = s.lane p l :=
    (State.reg_setReg_other _ _ _ _ state).trans (State.reg_setReg_other _ _ _ _ rate)
  rw [State.settlePort_eq]
  split
  · exact (State.report_regs (show (2 : Nat) ≠ 3 by decide) _ _ (Obj.not_mem_reportObjs (Obj.belowFaults_laneState hp hl) _)).trans written
  · exact written

theorem State.laserOn_iff {s : State} {p l : Nat} :
    s.laserOn p l = true ↔ p < 16 ∧ l ≤ 8 ∧ s.lane p l ≠ lnOff ∧ s.device ≠ devOff := by
  simp [State.laserOn, and_assoc]

/-! Frames -/

section
variable {s : State} {p l : Nat} {b : LaneBlock}

theorem laneFrameReceive_off (off : s.laserOn p l = false) : exec (.laneFrameReceive p l b) s = .next s := by
  change execLaneFrameReceive p l b s = .next s
  rw [execLaneFrameReceive, off]
  rfl

theorem laneFrameReceive_bad (on : s.laserOn p l = true) (bad : b.syndrome = true ∨ headerOk b.bytes = false) : ∃ u t,
    exec (.laneFrameReceive p l b) s = .next t ∧ OnlyRegs [Obj.correctedBits p l, Obj.uncorrectedBlocks p l] s u ∧
    u.reg (Obj.correctedBits p l) = (s.reg (Obj.correctedBits p l) + b.correctedBits) % 2 ^ 64 ∧
    u.reg (Obj.uncorrectedBlocks p l) = (s.reg (Obj.uncorrectedBlocks p l) + 1) % 2 ^ 64 ∧
    PortSet u t p { s.port p with inFlits := [] } := by
  have apart : Obj.correctedBits p l ≠ Obj.uncorrectedBlocks p l := by
    simp only [Obj.correctedBits, Obj.uncorrectedBlocks, obj]; omega
  have uncorrected : b.syndrome = true ∨ (!headerOk b.bytes) = true := bad.imp_right fun h => by rw [h]; rfl
  refine ⟨(s.addReg 64 (Obj.correctedBits p l) b.correctedBits).count 64 (Obj.uncorrectedBlocks p l), _, ?_,
    ((OnlyRegs.refl _ s).setReg (by simp) _).setReg (by simp) _, ?_, ?_, State.portSet_setPort _ p _⟩
  · change execLaneFrameReceive p l b s = _
    rw [execLaneFrameReceive, on, Bool.not_true, if_neg Bool.false_ne_true, if_pos uncorrected]
    rfl
  · rw [State.reg_count, if_neg apart, State.reg_addReg, if_pos rfl]
  · rw [State.reg_count, if_pos rfl, State.reg_addReg, if_neg apart.symm]

theorem headerOk_iff (bs : List Byte) : headerOk bs = true ↔ field bs 0 4 = 0x5A3CC3A5 ∧ field bs 0x74 4 = crc32 (bs.take 0x74) := by
  simp only [headerOk, alignWord, Bool.and_eq_true, beq_iff_eq]

theorem State.heardFlits_eq (s : State) (p l : Nat) (bs : List Byte) : s.heardFlits p l bs = (
    if field bs 8 1 ≠ 0 ∨ (s.laser p l).rxOut = true then []
    else if inService (s.lane p l) = true then slotFlits bs
    else if s.lane p l = lnQuarantine then (slotFlits bs).filter fun f => f.1 == clsM else []) := rfl

/-- What is heard depends on the lane and on its laser alone. -/
theorem State.heardFlits_congr {s t : State} {p l : Nat} (lane : t.lane p l = s.lane p l)
    (out : (t.laser p l).rxOut = (s.laser p l).rxOut) (bs : List Byte) : t.heardFlits p l bs = s.heardFlits p l bs := by
  rw [State.heardFlits_eq, State.heardFlits_eq, lane, out]

/-- A port that is written again holds the last value. -/
theorem PortSet.setPort {s t : State} {p : Nat} {v : Port} (h : PortSet s t p v) (w : Port) : PortSet s (t.setPort p w) p w := by
  obtain ⟨-, others, frame⟩ := h
  exact ⟨State.port_setPort t p w, fun q other => (State.port_setPort_other t p q w other).trans (others q other), frame⟩

theorem State.giveCredit_f0 (s : State) (p n : Nat) : s.giveCredit p clsF0 n =
    s.setPort p { s.port p with sent := ((s.port p).sent.1 - n, (s.port p).sent.2) } := by
  rw [State.giveCredit, if_pos rfl]

theorem State.giveCredit_f1 (s : State) (p n : Nat) : s.giveCredit p clsF1 n =
    s.setPort p { s.port p with sent := ((s.port p).sent.1, (s.port p).sent.2 - n) } := by
  rw [State.giveCredit, if_neg (by decide), if_pos rfl]

/-- What of the class's credits the far end's cumulative count newly gives back (R476). -/
def State.newCredits (s : State) (p : Nat) (cs : List Nat) (c : Nat) : Nat :=
  (cs.getD c 0 + 2 ^ 16 - (s.port p).heard.getD c 0 % 2 ^ 16) % 2 ^ 16

/-- The state in which the credits of F0 and of F1 have come back. -/
def State.credited (s : State) (p : Nat) (cs : List Nat) : State :=
  ((s.setPort p { s.port p with heard := cs }).giveCredit p clsF0 (s.newCredits p cs clsF0)).giveCredit p clsF1
    (s.newCredits p cs clsF1)

theorem State.credited_portSet (s : State) (p : Nat) (cs : List Nat) : PortSet s (s.credited p cs) p { s.port p with
    heard := cs
    sent := ((s.port p).sent.1 - s.newCredits p cs clsF0, (s.port p).sent.2 - s.newCredits p cs clsF1) } := by
  rw [State.credited, State.giveCredit_f1, State.giveCredit_f0, State.port_setPort, State.port_setPort]
  exact ((s.portSet_setPort p _).setPort _).setPort _

theorem State.heardCredits_eq (s : State) (p : Nat) {cs : List Nat} (six : cs.length = 6) :
    s.heardCredits p cs = (s.credited p cs).retryTransit := if_neg (not_not.2 six)

/-! A good frame -/

/-- The state once the frame's block count and its time are kept (R413, R476). -/
def State.frameHeard (s : State) (p l : Nat) (b : LaneBlock) : State :=
  (s.addReg 64 (Obj.correctedBits p l) b.correctedBits).setLaser p l
    { s.laser p l with lastBlock := field b.bytes 4 4, heardAt := s.cadNow }

/-- The state once the loop delay that a rack port's in-neighbour tells on its base lane is kept too (R461). -/
def State.frameTold (s : State) (p l : Nat) (b : LaneBlock) : State :=
  if p < 12 ∧ l = s.carrier p (s.port p).baseLane then
    (s.frameHeard p l b).setPort p { s.port p with farLoop := field b.bytes 0x68 4 }
  else s.frameHeard p l b

/-- The state once a change of modulation that the frame's marker tells has taken force (R434). -/
def State.frameModulated (s : State) (p l : Nat) (b : LaneBlock) : State :=
  if bit (field b.bytes 9 1) 3 = true then
    if bit (field b.bytes 9 1) 4 = true then ((s.frameTold p l b).setReg (Obj.laneModulation p l) 0).settlePort p
    else (s.frameTold p l b).fallBack p l
  else s.frameTold p l b

theorem Obj.correctedBits_other {k p l : Nat} (hp : p < 16) (hl : l ≤ 8)
    (other : k < obj 0x5150 0 ∨ obj 0x5160 0 ≤ k) : k ≠ Obj.correctedBits p l := by
  have die : p / 4 < 4 := by omega
  have site : p % 4 < 4 := by omega
  simp only [Obj.correctedBits, obj] at *
  generalize p / 4 = d at *
  generalize p % 4 = q at *
  omega

section
variable {s : State} {p l : Nat} (hp : p < 16) (hl : l ≤ 8) (n : Nat)
include hp hl

theorem State.reg_correctedBits {k : Nat} (other : k < obj 0x5150 0 ∨ obj 0x5160 0 ≤ k) :
    (s.addReg 64 (Obj.correctedBits p l) n).reg k = s.reg k :=
  State.reg_setReg_other _ _ _ _ (Obj.correctedBits_other hp hl other)

theorem State.lane_correctedBits {m : Nat} (hm : m ≤ 8) : (s.addReg 64 (Obj.correctedBits p l) n).lane p m = s.lane p m :=
  State.reg_correctedBits hp hl n (.inl (by simp only [Obj.laneState, obj]; omega))

theorem State.carrier_correctedBits (m : Nat) : (s.addReg 64 (Obj.correctedBits p l) n).carrier p m = s.carrier p m := by
  have role : (s.addReg 64 (Obj.correctedBits p l) n).reg (Obj.spareRole p) = s.reg (Obj.spareRole p) :=
    State.reg_correctedBits hp hl n (.inr (by simp only [Obj.spareRole, obj]; omega))
  simp only [State.carrier, State.role, State.roleLane, role, State.lane_correctedBits hp hl n (m := spare) (by decide)] <;> rfl

theorem State.cadNow_correctedBits : (s.addReg 64 (Obj.correctedBits p l) n).cadNow = s.cadNow := by
  have cadence : (s.addReg 64 (Obj.correctedBits p l) n).reg Obj.cadenceState = s.reg Obj.cadenceState :=
    State.reg_correctedBits hp hl n (.inl (by decide))
  rw [State.cadNow, cadence]
  rfl

end

section
variable {s : State} {p l : Nat} {b : LaneBlock} (on : s.laserOn p l = true)
include on

/-- A good frame's fields, once its bits are counted: what it tells, its modulation, its flits and its credits. -/
theorem laneFrameReceive_good (good : b.syndrome = false) (header : headerOk b.bytes = true) :
    exec (.laneFrameReceive p l b) s = .next (
      let x := (s.frameModulated p l b).takeSlots p (s.heardFlits p l b.bytes)
      if p < 12 then x else x.heardCredits p (frameCredits b.bytes)) := by
  obtain ⟨hp, hl, -, -⟩ := State.laserOn_iff.1 on
  have sound : ¬ (b.syndrome = true ∨ (!headerOk b.bytes) = true) := by simp [good, header]
  have heard : (s.addReg 64 (Obj.correctedBits p l) b.correctedBits).heardFlits p l b.bytes = s.heardFlits p l b.bytes :=
    State.heardFlits_congr (State.lane_correctedBits hp hl _ hl) rfl _
  have told : (s.addReg 64 (Obj.correctedBits p l) b.correctedBits).takeFrameFields p l b.bytes =
      (let x := (s.frameModulated p l b).takeSlots p (s.heardFlits p l b.bytes)
       if 12 ≤ p then x.heardCredits p (frameCredits b.bytes) else x) := by
    unfold State.takeFrameFields
    simp only [heard, State.carrier_correctedBits hp hl, State.cadNow_correctedBits hp hl]
    rfl
  change execLaneFrameReceive p l b s = _
  rw [execLaneFrameReceive, on, Bool.not_true, if_neg Bool.false_ne_true, if_neg sound, told]
  by_cases rack : p < 12
  · simp only [if_pos rack, if_neg (Nat.not_le.2 rack)]
  · simp only [if_neg rack, if_pos (Nat.not_lt.1 rack)]

end

section
variable {s : State} {p l : Nat} {b : LaneBlock} (on : s.laserOn p l = true)

include on in
/-- The frame that is told leaves the lane's registers and its laser's direction as they were. -/
theorem State.frameTold_heard : (s.frameTold p l b).lane p l = s.lane p l ∧
    ((s.frameTold p l b).laser p l).rxOut = (s.laser p l).rxOut := by
  obtain ⟨hp, hl, -, -⟩ := State.laserOn_iff.1 on
  have lane : (s.frameHeard p l b).lane p l = s.lane p l := State.lane_correctedBits hp hl _ hl
  have laser : ((s.frameHeard p l b).laser p l).rxOut = (s.laser p l).rxOut := by
    rw [State.frameHeard, State.laser_setLaser]
  unfold State.frameTold
  split
  · exact ⟨lane, laser⟩
  · exact ⟨lane, laser⟩

variable (s p l b) in
theorem State.frameTold_portSet :
    (let far := if p < 12 ∧ l = s.carrier p (s.port p).baseLane then field b.bytes 0x68 4 else (s.port p).farLoop
     PortSet (s.frameHeard p l b) (s.frameTold p l b) p { s.port p with farLoop := far }) := by
  unfold State.frameTold
  split
  · exact State.portSet_setPort _ p _
  · exact ⟨rfl, fun _ _ => rfl, rfl⟩

end

/-- A fallback changes neither lanes' states nor the records of ports and lasers. -/
theorem State.fallBack_heard (s : State) {p l : Nat} (hp : p < 16) (hl : l ≤ 8) : (s.fallBack p l).lane p l = s.lane p l ∧
    (s.fallBack p l).lasers = s.lasers ∧ (s.fallBack p l).ports = s.ports := by
  unfold State.fallBack
  split
  · exact ⟨rfl, rfl, rfl⟩
  · have apart : Obj.laneState p l ≠ Obj.laneModulation p l := by simp only [Obj.laneState, Obj.laneModulation, obj]; omega
    obtain ⟨ports, lasers⟩ := State.settlePort_optics ((s.setReg (Obj.laneModulation p l) 1).laneEvent p l) p
    obtain ⟨ports', lasers', -⟩ := (State.laneEvent_reports (s.setReg (Obj.laneModulation p l) 1) p l).optics
    refine ⟨?_, lasers.trans lasers', ports.trans ports'⟩
    rw [State.settlePort_lane _ hp hl, State.lane, State.laneEvent_reg _ _ _ (Obj.belowFaults_laneState hp hl)]
    exact State.reg_setReg_other _ _ _ _ apart

/-- The flits that a good frame brings join those of its port. -/
theorem State.takeSlots_portSet {t w : State} {p : Nat} (ports : t.ports = w.ports) (before : List (Nat × List Byte))
    (was : (w.port p).inFlits = before) (fs : List (Nat × List Byte)) :
    PortSet t (t.takeSlots p fs) p { w.port p with inFlits := before ++ fs } := by
  rw [State.takeSlots, State.port_congr ports, was]
  exact State.portSet_setPort _ p _

theorem laneFrameReceive_takes : ∀ (s : State) (p l : Nat) (b : LaneBlock), s.laserOn p l = true → b.syndrome = false →
    headerOk b.bytes = true → ∃ u v w x : State, OnlyRegs [Obj.correctedBits p l] s u ∧
      u.reg (Obj.correctedBits p l) = (s.reg (Obj.correctedBits p l) + b.correctedBits) % 2 ^ 64 ∧
      LaserSet u v p l { s.laser p l with lastBlock := field b.bytes 4 4, heardAt := s.cadNow } ∧
      (let marker := field b.bytes 9 1
       let far := if p < 12 ∧ l = s.carrier p (s.port p).baseLane then field b.bytes 0x68 4 else (s.port p).farLoop
       PortSet v w p { s.port p with farLoop := far } ∧
       (bit marker 3 = false → PortSet w x p { w.port p with inFlits := (s.port p).inFlits ++ s.heardFlits p l b.bytes }) ∧
       (bit marker 3 = true → ∃ y z, OnlyRegs [Obj.laneModulation p l] w y ∧
         y.reg (Obj.laneModulation p l) = (if bit marker 4 = true then 0 else 1) ∧
         (bit marker 4 = true → PortSettled y z p) ∧ (bit marker 4 = false → z = w.fallBack p l) ∧
         PortSet z x p { w.port p with inFlits := (s.port p).inFlits ++ z.heardFlits p l b.bytes }) ∧
       exec (.laneFrameReceive p l b) s = .next (if p < 12 then x else
         x.heardCredits p ((List.range 6).map fun i => field b.bytes (0x48 + 2 * i) 2))) := by
  intro s p l b on good header
  obtain ⟨hp, hl, -, -⟩ := State.laserOn_iff.1 on
  have set := s.frameTold_portSet p l b
  obtain ⟨lane, out⟩ := State.frameTold_heard (b := b) on
  have flits : ((s.frameTold p l b).port p).inFlits = (s.port p).inFlits := by rw [set.1]
  have heard (z : State) (same : z.lane p l = (s.frameTold p l b).lane p l) (lasers : z.lasers = (s.frameTold p l b).lasers) :
      s.heardFlits p l b.bytes = z.heardFlits p l b.bytes :=
    (State.heardFlits_congr (same.trans lane) ((congrArg Laser.rxOut (State.laser_congr lasers p l)).trans out) _).symm
  refine ⟨_, s.frameHeard p l b, s.frameTold p l b, _, State.onlyRegs_setReg s _ _, State.reg_setReg_same _ _ _,
    State.laserSet_setLaser _ p l _, set, fun same => ?same, fun changes => ?changes, laneFrameReceive_good on good header⟩
  case same =>
    rw [State.frameModulated, if_neg (by rw [same]; decide)]
    exact State.takeSlots_portSet rfl _ flits _
  case changes =>
    rw [State.frameModulated, if_pos changes]
    by_cases qam : bit (field b.bytes 9 1) 4 = true
    · simp only [if_pos qam]
      have apart : Obj.laneState p l ≠ Obj.laneModulation p l := by simp only [Obj.laneState, Obj.laneModulation, obj]; omega
      obtain ⟨ports, lasers⟩ := State.settlePort_optics ((s.frameTold p l b).setReg (Obj.laneModulation p l) 0) p
      refine ⟨_, _, State.onlyRegs_setReg _ _ 0, State.reg_setReg_same _ _ _, fun _ => State.settlePort_portSettled _ p,
        fun off => absurd qam (by rw [off]; decide), ?_⟩
      rw [heard _ ((State.settlePort_lane _ hp hl).trans (State.reg_setReg_other _ _ _ _ apart)) lasers]
      exact State.takeSlots_portSet ports _ flits _
    · simp only [if_neg qam]
      obtain ⟨same, lasers, ports⟩ := State.fallBack_heard (s.frameTold p l b) hp hl
      refine ⟨_, _, State.onlyRegs_setReg _ _ 1, State.reg_setReg_same _ _ _, fun on => absurd on qam, fun _ => rfl, ?_⟩
      rw [heard _ same lasers]
      exact State.takeSlots_portSet ports _ flits _

end

end Sys2Proof.Machine
end

section
/-! How a lane leaves service: a mislock, a third failed relock, a lost alignment, a drop (R418 to R425, R433, R435, R448, R472). -/

namespace Sys2Proof.Machine

set_option Elab.async false

/-! The rings and the tones -/

/-- The state once a ring's heater and its margin hold the values drawn for them (log entry 2). -/
def State.driven (s : State) (p l r : Nat) : State :=
  ({ s with
    heaters := Sparse.set 0 (laserKey p l * 8 + r) (signedOf 16 (Config.freeValue 16 s.drawn).toNat) s.heaters
    drawn := s.drawn + 2 } : State).setReg (Obj.heaterMargin p l) (Config.freeValue 16 (s.drawn + 1)).toNat

theorem edgeLockUpdate_draws {s : State} {p l r : Nat} (e : Int) (on : s.laserOn p l = true) (ring : r ≤ 4) : ∃ (t : State) (v m : Nat),
    v < 2 ^ 16 ∧ m < 2 ^ 16 ∧ exec (.edgeLockUpdate p l r e) s = .next t ∧
    Sparse.get 0 (laserKey p l * 8 + r) t.heaters = signedOf 16 v ∧
    (∀ k, k ≠ laserKey p l * 8 + r → Sparse.get 0 k t.heaters = Sparse.get 0 k s.heaters) ∧ t.drawn = s.drawn + 2 ∧
    t.reg (Obj.heaterMargin p l) = m ∧ OnlyRegs [Obj.heaterMargin p l] { s with heaters := t.heaters, drawn := t.drawn } t := by
  have run : (!s.laserOn p l || decide (4 < r)) = false := by simp [on, ring]
  refine ⟨s.driven p l r, (Config.freeValue 16 s.drawn).toNat, (Config.freeValue 16 (s.drawn + 1)).toNat, BitVec.isLt _, BitVec.isLt _, ?_,
    Sparse.get_set_same _ _ _ _, fun k other => Sparse.get_set_other _ _ _ _ _ _ other, rfl, State.reg_setReg_same _ _ _,
    State.onlyRegs_setReg _ _ _⟩
  change execEdgeLockUpdate p l r e s = _
  rw [execEdgeLockUpdate, run, if_neg Bool.false_ne_true]
  exact rfl

theorem edgeLockUpdate_off {s : State} {p l r : Nat} (e : Int) (off : s.laserOn p l = false ∨ 4 < r) :
    exec (.edgeLockUpdate p l r e) s = .next s := by
  have stays : (!s.laserOn p l || decide (4 < r)) = true := by simpa using off
  exact if_pos stays

theorem heaterRangeLoss_run (s : State) (p l : Nat) :
    (s.laserOn p l = true → inService (s.lane p l) = true →
      exec (.heaterRangeLoss p l) s = .next ((s.laneEvent p l).mislock p l)) ∧
    (s.laserOn p l = false ∨ inService (s.lane p l) = false → exec (.heaterRangeLoss p l) s = .next s) := by
  refine ⟨fun on up => if_pos (by rw [on, up]; rfl), fun idle => if_neg ?_⟩
  rcases idle with h | h <;> simp [h]

theorem toneCorrelation_run (s : State) (p l heard passed : Nat) (word : Bool) : (let tone := s.reg (Obj.laneChannel p l) % 4
    (s.laserOn p l = true → heard ≠ tone ∨ passed ≠ tone ∨ word = false →
      exec (.toneCorrelation p l ⟨heard, passed⟩ word) s = .next (s.mislock p l)) ∧
    (s.laserOn p l = false ∨ (heard = tone ∧ passed = tone ∧ word = true) →
      exec (.toneCorrelation p l ⟨heard, passed⟩ word) s = .next s)) := by
  dsimp only
  refine ⟨fun on differs => congrArg _ (if_pos ?_), fun same => congrArg _ (if_neg ?_)⟩
  · rw [on, Bool.true_and, Bool.not_eq_true', Bool.and_eq_false_iff, Bool.and_eq_false_iff, beq_eq_false_iff_ne, beq_eq_false_iff_ne]
    exact or_assoc.2 differs
  · rcases same with off | ⟨h1, h2, h3⟩
    · simp [off]
    · simp [toneOf, h1, h2, h3]

/-! Mislocks and relocks -/

theorem State.mislock_relocks {s : State} {p l : Nat} (up : inService (s.lane p l) = true) : ∃ u v t, s.mislock p l = t ∧
    OnlyRegs [Obj.laneState p l, Obj.mislockCount p l] { s with out := s.out ++ [.marker p l mkRelock] } u ∧ u.lane p l = lnRelock ∧
    u.reg (Obj.mislockCount p l) = (s.reg (Obj.mislockCount p l) + 1) % 2 ^ 32 ∧
    LaserSet u v p l { s.laser p l with relocks := 0 } ∧ PortSettled (v.laneEvent p l) t p := by
  have apart : Obj.laneState p l ≠ Obj.mislockCount p l := by simp only [Obj.laneState, Obj.mislockCount, obj]; omega
  refine ⟨((s.emit (.marker p l mkRelock)).setLane p l lnRelock).count 32 (Obj.mislockCount p l), _, _, ?_,
    ((OnlyRegs.refl _ _).setReg (by simp) _).setReg (by simp) _, ?_, ?_, State.laserSet_setLaser _ p l _,
    State.settlePort_portSettled _ p⟩
  · rw [State.mislock, up, Bool.not_true, if_neg Bool.false_ne_true]
    rfl
  · exact (State.reg_setReg_other _ _ _ _ apart).trans (State.reg_setReg_same _ _ _)
  · rw [State.reg_count, if_pos rfl, State.setLane, State.reg_setReg_other _ _ _ _ apart.symm]
    rfl

theorem State.mislock_idle {s : State} {p l : Nat} (idle : inService (s.lane p l) = false) : s.mislock p l = s :=
  if_pos (by rw [idle]; rfl)

theorem relockComplete_idle {s : State} {p l : Nat} (ok : Bool) (idle : s.lane p l ≠ lnRelock) :
    exec (.relockComplete p l ok) s = .next s := if_pos idle

theorem relockComplete_good {s : State} {p l : Nat} (relocks : s.lane p l = lnRelock) : ∃ u v t,
    exec (.relockComplete p l true) s = .next t ∧
    OnlyRegs [Obj.laneState p l] s u ∧ u.lane p l = (if l = spare then lnSpareIn else lnService) ∧
    LaserSet u v p l { s.laser p l with relocks := 0 } ∧ PortSettled (v.laneEvent p l) t p :=
  ⟨_, _, _, (if_neg (not_not.2 relocks)).trans (if_pos rfl), State.onlyRegs_setReg s _ _, State.reg_setReg_same _ _ _,
    State.laserSet_setLaser _ p l _, State.settlePort_portSettled _ p⟩

theorem relockComplete_fails {s : State} {p l : Nat} (relocks : s.lane p l = lnRelock) : ∃ u,
    LaserSet s u p l { s.laser p l with relocks := (s.laser p l).relocks + 1 } ∧
    exec (.relockComplete p l false) s = .next (if 3 ≤ (s.laser p l).relocks + 1 then u.dropLane p l else u) :=
  ⟨_, s.laserSet_setLaser p l _, (if_neg (not_not.2 relocks)).trans (if_neg Bool.false_ne_true)⟩

/-! Alignment -/

theorem alignment_on {s : State} {p l : Nat} (on : s.laserOn p l = true) :
    (∃ t, exec (.alignmentLoss p l) s = .next t ∧ LaserSet s t p l { s.laser p l with rxOut := true }) ∧
    (∃ t, exec (.alignmentReturn p l) s = .next t ∧ LaserSet s t p l { s.laser p l with rxOut := false }) :=
  ⟨⟨_, congrArg Host.Outcome.next (if_pos on), s.laserSet_setLaser p l _⟩, ⟨_, congrArg Host.Outcome.next (if_pos on), s.laserSet_setLaser p l _⟩⟩

theorem alignment_off {s : State} {p l : Nat} (off : s.laserOn p l = false) :
    exec (.alignmentLoss p l) s = .next s ∧ exec (.alignmentReturn p l) s = .next s :=
  have off' : ¬ s.laserOn p l = true := by simp [off]
  ⟨congrArg Host.Outcome.next (if_neg off'), congrArg Host.Outcome.next (if_neg off')⟩

theorem alignmentLossDrop_run (s : State) (p l : Nat) :
    ((s.laser p l).rxOut = true → inService (s.lane p l) = true → ∃ u, LaserSet s u p l { s.laser p l with rxOut := false } ∧
      exec (.alignmentLossDrop p l) s = .next (u.dropLane p l)) ∧
    ((s.laser p l).rxOut = false ∨ inService (s.lane p l) = false → exec (.alignmentLossDrop p l) s = .next s) := by
  refine ⟨fun out up => ⟨_, s.laserSet_setLaser p l _, congrArg _ (if_pos (by rw [out, up]; rfl))⟩,
    fun idle => congrArg _ (if_neg ?_)⟩
  rcases idle with h | h <;> simp [h]

/-! A lane that has left service with nobody to take it (R433, R435, R472) -/

/-- A port's base lane is gone only if it is that of a base port. -/
theorem State.laneGone_eq (s : State) (p l : Nat) : s.laneGone p l =
    if isBasePort p = true ∧ (s.port p).baseLane = l then (s.loseLane p l).moveBase p else s.loseLane p l := by
  have base : ((s.loseLane p l).port p).baseLane = (s.port p).baseLane := by
    unfold State.loseLane
    split
    · rfl
    · split
      · rfl
      · rw [State.pisteEvent, State.port_congr (State.raise_spec _ _ _).1.optics.1]
        change ((s.setPort p _).port p).baseLane = _
        rw [State.port_setPort]
  unfold State.laneGone
  simp only [base, Bool.and_eq_true, beq_iff_eq]

theorem State.laneGone_undrawn {s : State} {p l : Nat} (undrawn : s.drawnLane p l = none)
    (other : isBasePort p = false ∨ (s.port p).baseLane ≠ l) : s.laneGone p l = s := by
  rw [State.laneGone_eq, if_neg (by rintro ⟨base, here⟩; rcases other with h | h <;> simp_all), State.loseLane, undrawn]

theorem State.laneGone_drawn {s : State} {p l : Nat} {e : LaneEntry} (drawn : s.drawnLane p l = some e)
    (held : l ∉ (s.port p).lostLanes) (other : isBasePort p = false ∨ (s.port p).baseLane ≠ l) : ∃ u v,
    PortSet s u p { s.port p with lostLanes := (s.port p).lostLanes ++ [l] } ∧
    OnlyRegs [Obj.pisteEventCount] u v ∧ v.reg Obj.pisteEventCount = (s.reg Obj.pisteEventCount + 1) % 2 ^ 32 ∧
    s.laneGone p l = v.raise Obj.lastPisteEvent (s.pisteBytes 1 p l 0 e.txChip) := by
  obtain ⟨regs, counted⟩ := State.count_counted (s.setPort p _) 32 Obj.pisteEventCount
  refine ⟨_, _, s.portSet_setPort p _, regs, counted, ?_⟩
  rw [State.laneGone_eq, if_neg (by rintro ⟨base, here⟩; rcases other with h | h <;> simp_all), State.loseLane, drawn]
  exact if_neg (by simpa using held)

theorem find?_reverse_range_of_last {n b : Nat} {f : Nat → Bool} (hb : b < n) (holds : f b = true)
    (last : ∀ l, b < l → l < n → f l = false) : (List.range n).reverse.find? f = some b := by
  induction n with
  | zero => exact absurd hb (Nat.not_lt_zero b)
  | succ n ih =>
    rw [List.range_succ, List.reverse_append, List.reverse_singleton, List.singleton_append, List.find?_cons]
    by_cases top : b = n
    · rw [← top, holds]
    · rw [last n (by omega) (Nat.lt_succ_self n)]
      exact ih (by omega) fun l above below => last l above (by omega)

theorem State.carrier_le {s : State} {p l : Nat} (hl : l ≤ 8) : s.carrier p l ≤ 8 := by
  unfold State.carrier
  split
  · exact Nat.le_refl 8
  · exact hl

/-- An event's bytes are those of the drawing in force and of the uptime. -/
theorem State.pisteEvent_eq (s : State) {t : State} (fabric : t.fabric = s.fabric) (uptime : t.up = s.up) (kind p l step n : Nat) :
    t.pisteEvent kind p l step n = (t.count 32 Obj.pisteEventCount).raise Obj.lastPisteEvent (s.pisteBytes kind p l step n) := by
  have bytes : t.pisteBytes kind p l step n = s.pisteBytes kind p l step n := by simp only [State.pisteBytes, fabric, uptime]
  rw [State.pisteEvent, ← bytes]

theorem State.carrier_setPort (s : State) (p q l : Nat) (v : Port) : (s.setPort p v).carrier q l = s.carrier q l := rfl

/-- Where the base lane goes (R435): to the last working lane, whose piste loses it. -/
def State.basePort (s : State) (p b : Nat) : Port := { s.port p with
  baseLane := b
  lostLanes := if (s.drawnLane p b).isSome then (s.port p).lostLanes ++ [b] else (s.port p).lostLanes }

/-- The state once the base lane has gone to lane `b`, and before the event is told. -/
def State.baseMoved (s : State) (p b : Nat) : State :=
  ((((s.setPort p (s.basePort p b)).emit (.marker p b mkRetune)).setReg (Obj.laneChannel p (s.carrier p b)) (baseChannel p)).count 32
    (Obj.retuneCount p (s.carrier p b))).count 32 Obj.pisteEventCount

theorem State.moveBase_moves {s : State} {p b : Nat} (hp : p < 16) (hb : b < 8) (other : b ≠ (s.port p).baseLane) (up : s.laneUp p b = true)
    (last : ∀ l, b < l → l < 8 → l = (s.port p).baseLane ∨ s.laneUp p l = false) : s.moveBase p =
    (s.baseMoved p b).raise Obj.lastPisteEvent (s.pisteBytes 2 p b 0 ((s.drawnLane p b).elim 0 fun e => e.txChip)) := by
  have found : ((List.range 8).reverse.find? fun l => l != (s.port p).baseLane && s.laneUp p l) = some b := by
    refine find?_reverse_range_of_last hb (by simp [other, up]) fun l above below => ?_
    rcases last l above below with h | h <;> simp [h]
  unfold State.moveBase
  rw [found]
  dsimp only
  rw [State.pisteEvent_eq s, State.carrier_setPort, State.baseMoved, State.basePort]
  case fabric => exact rfl
  case uptime =>
    have low := State.carrier_le (s := s) (p := p) (Nat.le_of_lt hb)
    have channel : Obj.uptime ≠ Obj.laneChannel p (s.carrier p b) := by simp only [Obj.uptime, Obj.laneChannel, obj]; omega
    have retune : Obj.uptime ≠ Obj.retuneCount p (s.carrier p b) := by simp only [Obj.uptime, Obj.retuneCount, obj]; omega
    exact (State.reg_setReg_other _ _ _ _ retune).trans (State.reg_setReg_other _ _ _ _ channel)
  congr 2
  cases s.drawnLane p b <;> rfl

theorem State.baseMoved_regs (s : State) {p b : Nat} (hp : p < 16) (hb : b ≤ 8) :
    (let c := s.carrier p b
     OnlyRegs [Obj.laneChannel p c, Obj.retuneCount p c, Obj.pisteEventCount]
       { s.setPort p (s.basePort p b) with out := (s.setPort p (s.basePort p b)).out ++ [.marker p b mkRetune] } (s.baseMoved p b) ∧
     (s.baseMoved p b).reg (Obj.laneChannel p c) = baseChannel p ∧
     (s.baseMoved p b).reg (Obj.retuneCount p c) = (s.reg (Obj.retuneCount p c) + 1) % 2 ^ 32 ∧
     (s.baseMoved p b).reg Obj.pisteEventCount = (s.reg Obj.pisteEventCount + 1) % 2 ^ 32) := by
  dsimp only
  have low := State.carrier_le (s := s) (p := p) hb
  generalize hc : s.carrier p b = c at low ⊢
  have retune : Obj.laneChannel p c ≠ Obj.retuneCount p c := by simp only [Obj.laneChannel, Obj.retuneCount, obj]; omega
  have channel : Obj.laneChannel p c ≠ Obj.pisteEventCount := by simp only [Obj.laneChannel, Obj.pisteEventCount, obj]; omega
  have piste : Obj.retuneCount p c ≠ Obj.pisteEventCount := by simp only [Obj.retuneCount, Obj.pisteEventCount, obj]; omega
  unfold State.baseMoved
  rw [hc]
  refine ⟨(((OnlyRegs.refl _ _).setReg (by simp) _).setReg (by simp) _).setReg (by simp) _, ?_, ?_, ?_⟩
  · rw [State.reg_count, if_neg channel, State.reg_count, if_neg retune, State.reg_setReg_same]
  · rw [State.reg_count, if_neg piste, State.reg_count, if_pos rfl, State.reg_setReg_other _ _ _ _ retune.symm]
    exact rfl
  · rw [State.reg_count, if_pos rfl, State.reg_count, if_neg piste.symm, State.reg_setReg_other _ _ _ _ channel.symm]
    exact rfl

theorem State.laneGone_base {s : State} {p b : Nat} (hp : p < 16) (base : isBasePort p = true) (undrawn : s.drawnLane p (s.port p).baseLane = none)
    (hb : b < 8) (other : b ≠ (s.port p).baseLane) (up : s.laneUp p b = true)
    (last : ∀ l, b < l → l < 8 → l = (s.port p).baseLane ∨ s.laneUp p l = false) : s.laneGone p (s.port p).baseLane =
    (s.baseMoved p b).raise Obj.lastPisteEvent (s.pisteBytes 2 p b 0 ((s.drawnLane p b).elim 0 fun e => e.txChip)) := by
  have kept : s.loseLane p (s.port p).baseLane = s := by rw [State.loseLane, undrawn]
  rw [State.laneGone_eq, if_pos ⟨base, rfl⟩, kept, State.moveBase_moves hp hb other up last]

/-! Drops (R433) -/

theorem State.abandonWax_none {s : State} {p : Nat} (idle : (s.port p).waxLaser = none) : s.abandonWax p = s := by
  rw [State.abandonWax, idle]

/-- The state once a dropped lane is retired and counted. -/
def State.laneRetired (s : State) (p l : Nat) : State := (s.setLane p l lnRetired).count 32 (Obj.dropCount p l)

theorem State.laneRetired_regs (s : State) (p l : Nat) : OnlyRegs [Obj.laneState p l, Obj.dropCount p l] s (s.laneRetired p l) ∧
    (s.laneRetired p l).lane p l = lnRetired ∧
    (s.laneRetired p l).reg (Obj.dropCount p l) = (s.reg (Obj.dropCount p l) + 1) % 2 ^ 32 := by
  have apart : Obj.laneState p l ≠ Obj.dropCount p l := by simp only [Obj.laneState, Obj.dropCount, obj]; omega
  refine ⟨((OnlyRegs.refl _ s).setReg (by simp) _).setReg (by simp) _, ?_, ?_⟩
  · exact (State.reg_setReg_other _ _ _ _ apart).trans (State.reg_setReg_same _ _ _)
  · rw [State.laneRetired, State.reg_count, if_pos rfl, State.setLane, State.reg_setReg_other _ _ _ _ apart.symm]

theorem State.spareFree_congr {s t : State} {p : Nat} (lane : t.lane p spare = s.lane p spare) (port : t.port p = s.port p) :
    t.spareFree p = s.spareFree p := by
  rw [State.spareFree, State.spareFree, lane, port]

section
variable {s : State} {p : Nat} (hp : p < 16) (unwaxed : (s.port p).waxLaser = none)
include unwaxed

theorem State.dropLane_spare : s.dropLane p spare =
    (let v := ((s.laneRetired p spare).laneEvent p spare).setRole p 5 0
     (if s.role p = 3 then v.laneGone p (s.roleLane p) else v).settlePort p) := by
  unfold State.dropLane
  rw [State.abandonWax_none unwaxed]
  exact if_pos rfl

include hp

theorem State.dropLane_lane {l : Nat} (hl : l < 8) (unswapped : (s.port p).swapLane ≠ some l) : s.dropLane p l =
    (let v := (s.laneRetired p l).laneEvent p l
     if s.spareFree p = true then ((v.setPort p { s.port p with takeover := some l }).setRole p 2 l).settlePort p
     else (v.laneGone p l).settlePort p) := by
  have other : l ≠ spare := by simp only [spare]; omega
  have port : ((s.laneRetired p l).laneEvent p l).port p = s.port p := State.laneEvent_port _ p l p
  have lane : ((s.laneRetired p l).laneEvent p l).lane p spare = s.lane p spare := by
    obtain ⟨⟨regs, -⟩, -⟩ := s.laneRetired_regs p l
    refine (State.laneEvent_reg _ _ _ (Obj.belowFaults_laneState hp (Nat.le_refl 8))).trans (regs _ ?_)
    simp only [List.mem_cons, List.not_mem_nil, or_false, Obj.laneState, Obj.dropCount, obj]
    omega
  unfold State.dropLane
  rw [State.abandonWax_none unwaxed]
  dsimp only
  rw [if_neg other, ← State.laneRetired, port, if_neg unswapped, State.spareFree_congr lane port, port]

theorem State.dropLane_takes {l : Nat} (hl : l < 8) (unswapped : (s.port p).swapLane ≠ some l) : ∃ u,
    OnlyRegs [Obj.laneState p l, Obj.dropCount p l] s u ∧ u.lane p l = lnRetired ∧
    u.reg (Obj.dropCount p l) = (s.reg (Obj.dropCount p l) + 1) % 2 ^ 32 ∧
    (s.spareFree p = true → ∃ v w, PortSet (u.laneEvent p l) v p { s.port p with takeover := some l } ∧
      OnlyRegs [Obj.spareRole p] v w ∧ w.reg (Obj.spareRole p) = 2 * 16 + l ∧ PortSettled w (s.dropLane p l) p) ∧
    (s.spareFree p = false → PortSettled ((u.laneEvent p l).laneGone p l) (s.dropLane p l) p) := by
  obtain ⟨regs, lane, count⟩ := s.laneRetired_regs p l
  have drop := State.dropLane_lane hp unwaxed hl unswapped
  refine ⟨s.laneRetired p l, regs, lane, count, fun free => ?_, fun taken => ?_⟩
  · refine ⟨_, _, State.portSet_setPort _ p _, State.onlyRegs_setReg _ _ _, State.reg_setReg_same _ _ _, ?_⟩
    rw [drop, if_pos free]
    exact State.settlePort_portSettled _ p
  · rw [drop, if_neg (by rw [taken]; decide)]
    exact State.settlePort_portSettled _ p

end

theorem State.dropLane_spareGone {s : State} {p : Nat} (unwaxed : (s.port p).waxLaser = none) : ∃ u v,
    OnlyRegs [Obj.laneState p spare, Obj.dropCount p spare] s u ∧ u.lane p spare = lnRetired ∧
    u.reg (Obj.dropCount p spare) = (s.reg (Obj.dropCount p spare) + 1) % 2 ^ 32 ∧ OnlyRegs [Obj.spareRole p] (u.laneEvent p spare) v ∧
    v.reg (Obj.spareRole p) = 5 * 16 ∧
    PortSettled (if s.role p = 3 then v.laneGone p (s.roleLane p) else v) (s.dropLane p spare) p := by
  obtain ⟨regs, lane, count⟩ := s.laneRetired_regs p spare
  refine ⟨s.laneRetired p spare, _, regs, lane, count, State.onlyRegs_setReg _ _ _, State.reg_setReg_same _ _ _, ?_⟩
  rw [State.dropLane_spare unwaxed]
  exact State.settlePort_portSettled _ p

end Sys2Proof.Machine
end

section
/-! The windows of the margins, their judgement, and the spare laser that is held (R426 to R431, R434). -/

namespace Sys2Proof.Machine

set_option Elab.async false

theorem marginWindowEnd_off {s : State} {p : Nat} {ws : List LaserWindow}
    (off : 16 ≤ p ∨ s.device = devOff ∨ s.device = devHalted) : exec (.marginWindowEnd p ws) s = .next s := if_pos off

theorem marginWindowEnd_on {s : State} {p : Nat} {ws : List LaserWindow} (hp : p < 16) (on : s.device ≠ devOff)
    (running : s.device ≠ devHalted) : exec (.marginWindowEnd p ws) s = .next (
      let u := (ws.filter fun w => s.laserOn p w.laser).foldl (fun t w => (t.measure p w).countWindows p w.laser) s
      ((List.range 8).foldl (fun (t : State × Bool) l => t.1.judgeLane p l t.2) (u, false)).1.holdSpare p) :=
  if_neg (by simp [hp, on, running])

theorem windowRate_cases (w : LaserWindow) : (3 ≤ w.uncorrectedBlocks → windowRate w = 20000001) ∧
    (w.uncorrectedBlocks < 3 → w.receivedBits ≠ 0 → windowRate w = w.correctedBits * 1000000000 / w.receivedBits) :=
  ⟨fun many => if_pos many, fun few received => (if_neg (Nat.not_le.2 few)).trans (if_neg received)⟩

theorem State.measure_eq (s : State) (p : Nat) (w : LaserWindow) : s.measure p w =
    ((s.emit (.farEnd p w.laser (windowRate w))).setReg (Obj.launchPowerCdb p w.laser)
      (wrapInt 16 (w.powerCdb + s.sreg 16 (Obj.laneFadeSim p w.laser)))).setReg (Obj.precorrectionRate p w.laser) (windowRateF w) := rfl

theorem State.measure_regs (s : State) (p : Nat) (w : LaserWindow) :
    OnlyRegs [Obj.launchPowerCdb p w.laser, Obj.precorrectionRate p w.laser]
      { s with out := s.out ++ [.farEnd p w.laser (windowRate w)] } (s.measure p w) ∧
    (s.measure p w).reg (Obj.launchPowerCdb p w.laser) = wrapInt 16 (w.powerCdb + s.sreg 16 (Obj.laneFadeSim p w.laser)) ∧
    (w.receivedBits ≠ 0 → (s.measure p w).reg (Obj.precorrectionRate p w.laser) =
      toF32 ((Num.ofInt w.correctedBits).div (Num.ofInt w.receivedBits))) := by
  have apart : Obj.launchPowerCdb p w.laser ≠ Obj.precorrectionRate p w.laser := by
    simp only [Obj.launchPowerCdb, Obj.precorrectionRate, obj]; omega
  rw [State.measure_eq]
  refine ⟨((OnlyRegs.refl _ _).setReg (by simp) _).setReg (by simp) _, ?_, fun received => ?_⟩
  · exact (State.reg_setReg_other _ _ _ _ apart).trans (State.reg_setReg_same _ _ _)
  · have rate : windowRateF w = toF32 ((Num.ofInt w.correctedBits).div (Num.ofInt w.receivedBits)) := by
      rw [windowRateF, if_neg received]
    exact (State.reg_setReg_same _ _ _).trans rate

/-- The laser's runs of windows once one more has ended (R429). -/
def State.windowsCounted (s : State) (p l : Nat) : Laser := { s.laser p l with
  highWindows := if 1000000 < (s.laser p l).farRate then min 2 ((s.laser p l).highWindows + 1) else 0
  fallWindows := if 3000000 < (s.laser p l).farRate then min 2 ((s.laser p l).fallWindows + 1) else 0
  clearWindows := if -50 < s.launch p l ∧ (s.laser p l).farRate ≤ 100000 then min 1000 ((s.laser p l).clearWindows + 1) else 0 }

theorem State.countWindows_eq (s : State) (p l : Nat) : s.countWindows p l = s.setLaser p l (s.windowsCounted p l) := by
  unfold State.countWindows State.windowsCounted
  simp only [Bool.and_eq_true, decide_eq_true_eq]
  simp only [rateSwapPpb, rateFallPpb, rateClearPpb]
  congr

theorem State.measure_counts (s : State) (p : Nat) (w : LaserWindow) : ∃ u t, (s.measure p w).countWindows p w.laser = t ∧
    OnlyRegs [Obj.launchPowerCdb p w.laser, Obj.precorrectionRate p w.laser]
      { s with out := s.out ++ [.farEnd p w.laser (windowRate w)] } u ∧
    u.reg (Obj.launchPowerCdb p w.laser) = wrapInt 16 (w.powerCdb + s.sreg 16 (Obj.laneFadeSim p w.laser)) ∧
    (w.receivedBits ≠ 0 → u.reg (Obj.precorrectionRate p w.laser) =
      toF32 ((Num.ofInt w.correctedBits).div (Num.ofInt w.receivedBits))) ∧
    (let v := s.laser p w.laser
     LaserSet u t p w.laser { v with
      highWindows := if 1000000 < v.farRate then min 2 (v.highWindows + 1) else 0
      fallWindows := if 3000000 < v.farRate then min 2 (v.fallWindows + 1) else 0
      clearWindows := if -50 < u.launch p w.laser ∧ v.farRate ≤ 100000 then min 1000 (v.clearWindows + 1) else 0 }) := by
  obtain ⟨regs, power, rate⟩ := s.measure_regs p w
  exact ⟨s.measure p w, _, rfl, regs, power, rate, by
    rw [State.countWindows_eq]
    exact State.laserSet_setLaser _ p w.laser _⟩

/-! The judgement of a lane (R429) -/

section
variable (s : State) (p l : Nat)

/-- Beyond the limits of a drop. -/
def State.mustDrop : Prop := s.launch p (s.carrier p l) ≤ -400 ∨ 20000000 < (s.laser p (s.carrier p l)).farRate

theorem State.not_mustDrop (stays : ¬ s.mustDrop p l) :
    ¬ (s.launch p (s.carrier p l) ≤ -400 ∨ rateDropPpb < (s.laser p (s.carrier p l)).farRate) := stays

/-- Beyond those of a swap. -/
def State.mustSwap : Prop := s.launch p (s.carrier p l) ≤ -200 ∨ (s.laser p (s.carrier p l)).highWindows = 2

/-- LS can take the lane, if need be from a calibration. -/
def State.maySwap : Prop := s.carrier p l ≠ spare ∧ (s.spareFree p = true ∨ (s.role p = 4 ∧ (s.port p).waxLaser ≠ some spare))

theorem State.wantsSwap_iff : (decide (s.launch p (s.carrier p l) ≤ -200) ||
    (s.laser p (s.carrier p l)).highWindows == 2) = true ↔ s.mustSwap p l := by
  rw [Bool.or_eq_true, decide_eq_true_eq, beq_iff_eq, State.mustSwap]

theorem State.may_iff : (s.carrier p l != spare && (s.spareFree p || (s.role p == 4 && (s.port p).waxLaser != some spare))) = true ↔
    s.maySwap p l := by
  simp only [Bool.and_eq_true, Bool.or_eq_true, bne_iff_ne, beq_iff_eq, State.maySwap]

variable {s p l} {sw : Bool}

theorem State.judgeLane_rests (h : inService (s.lane p (s.carrier p l)) = false ∨
    (¬ s.mustDrop p l ∧ s.lane p (s.carrier p l) = lnSwapping)) : s.judgeLane p l sw = (s, sw) := by
  unfold State.judgeLane
  dsimp only
  rcases h with out | ⟨stays, swaps⟩
  · rw [out]
    exact if_pos rfl
  · rw [swaps, show inService lnSwapping = true from rfl, Bool.not_true, if_neg Bool.false_ne_true, if_neg (s.not_mustDrop p l stays), if_pos rfl]

theorem State.judgeLane_drops (up : inService (s.lane p (s.carrier p l)) = true) (drop : s.mustDrop p l) :
    s.judgeLane p l sw = (s.dropLane p (s.carrier p l), sw) := by
  unfold State.judgeLane
  dsimp only
  rw [up, Bool.not_true, if_neg Bool.false_ne_true]
  exact if_pos drop

section
variable (still : inService (s.lane p (s.carrier p l)) = true ∧ ¬ s.mustDrop p l ∧ s.lane p (s.carrier p l) ≠ lnSwapping)
include still

theorem State.judgeLane_second (swap : s.mustSwap p l) : s.judgeLane p l true = (s, true) := by
  obtain ⟨up, stays, idle⟩ := still
  unfold State.judgeLane
  dsimp only
  rw [up, Bool.not_true, if_neg Bool.false_ne_true, if_neg (s.not_mustDrop p l stays), if_neg idle, (s.wantsSwap_iff p l).2 swap]
  exact if_pos rfl

theorem State.judgeLane_swaps (swap : s.mustSwap p l) (may : s.maySwap p l) :
    s.judgeLane p l false = ((s.abandonWax p).startSwap p l, true) := by
  obtain ⟨up, stays, idle⟩ := still
  unfold State.judgeLane
  dsimp only
  rw [up, Bool.not_true, if_neg Bool.false_ne_true, if_neg (s.not_mustDrop p l stays), if_neg idle, (s.wantsSwap_iff p l).2 swap, (s.may_iff p l).2 may]
  exact (if_neg Bool.false_ne_true).trans (if_pos rfl)

/-- A lane that neither drops nor swaps is judged by its rate, its power and its clear windows. -/
theorem State.judgeLane_next (next : ¬ s.mustSwap p l ∨ (sw = false ∧ ¬ s.maySwap p l)) : s.judgeLane p l sw =
    (let la := s.carrier p l
     if (s.laser p la).fallWindows = 2 then (s.sendFallBack p l la, sw)
     else if s.launch p la ≤ -100 then (if s.lane p la = lnService then s.setLane p la lnWatched else s, sw)
     else if (s.laser p la).clearWindows = 1000 then (if s.lane p la = lnWatched then s.setLane p la lnService else s, sw)
     else (s, sw)) := by
  obtain ⟨up, stays, idle⟩ := still
  have first (wants : Bool) (h : wants = true ↔ s.mustSwap p l) : (wants && sw) = false := by
    rcases next with no | ⟨none, -⟩
    · rw [Bool.eq_false_iff.2 fun yes => no (h.1 yes), Bool.false_and]
    · rw [none, Bool.and_false]
  have second (wants may : Bool) (h : wants = true ↔ s.mustSwap p l) (h' : may = true ↔ s.maySwap p l) : (wants && may) = false := by
    rcases next with no | ⟨-, cannot⟩
    · rw [Bool.eq_false_iff.2 fun yes => no (h.1 yes), Bool.false_and]
    · rw [Bool.eq_false_iff.2 fun yes => cannot (h'.1 yes), Bool.and_false]
  unfold State.judgeLane
  dsimp only
  rw [up, Bool.not_true, if_neg Bool.false_ne_true, if_neg (s.not_mustDrop p l stays), if_neg idle, first _ (s.wantsSwap_iff p l),
    second _ _ (s.wantsSwap_iff p l) (s.may_iff p l), if_neg Bool.false_ne_true, if_neg Bool.false_ne_true]

end

end

theorem judgeLane_judges : ∀ (s : State) (p l : Nat) (sw : Bool),
    (let la := s.carrier p l
     let v := s.laser p la
     let x := s.launch p la
     let st := s.lane p la
     let drop := x ≤ -400 ∨ 20000000 < v.farRate
     let swap := x ≤ -200 ∨ v.highWindows = 2
     let may := la ≠ spare ∧ (s.spareFree p = true ∨ (s.role p = 4 ∧ (s.port p).waxLaser ≠ some spare))
     let still := inService st = true ∧ ¬ drop ∧ st ≠ lnSwapping
     let next := still ∧ (¬ swap ∨ (sw = false ∧ ¬ may))
     (inService st = false ∨ (¬ drop ∧ st = lnSwapping) → s.judgeLane p l sw = (s, sw)) ∧
     (inService st = true → drop → s.judgeLane p l sw = (s.dropLane p la, sw)) ∧
     (still → swap → sw = true → s.judgeLane p l sw = (s, true)) ∧
     (still → swap → sw = false → may → s.judgeLane p l sw = ((s.abandonWax p).startSwap p l, true)) ∧
     (next → v.fallWindows = 2 → s.judgeLane p l sw = (s.sendFallBack p l la, sw)) ∧
     (next → v.fallWindows ≠ 2 → x ≤ -100 → s.judgeLane p l sw = (if st = lnService then s.setLane p la lnWatched else s, sw)) ∧
     (next → v.fallWindows ≠ 2 → -100 < x → v.clearWindows = 1000 →
       s.judgeLane p l sw = (if st = lnWatched then s.setLane p la lnService else s, sw)) ∧
     (next → v.fallWindows ≠ 2 → -100 < x → v.clearWindows ≠ 1000 → s.judgeLane p l sw = (s, sw))) := by
  intro s p l sw
  refine ⟨State.judgeLane_rests, State.judgeLane_drops, ?_, ?_, fun ⟨still, next⟩ falls => ?_, fun ⟨still, next⟩ holds low => ?_,
    fun ⟨still, next⟩ holds high clear => ?_, fun ⟨still, next⟩ holds high unclear => ?_⟩
  · rintro still swap rfl
    exact State.judgeLane_second still swap
  · rintro still swap rfl may
    exact State.judgeLane_swaps still swap may
  · exact (State.judgeLane_next still next).trans (if_pos falls)
  · exact (State.judgeLane_next still next).trans ((if_neg holds).trans (if_pos low))
  · exact (State.judgeLane_next still next).trans ((if_neg holds).trans ((if_neg (Int.not_le.2 high)).trans (if_pos clear)))
  · exact (State.judgeLane_next still next).trans ((if_neg holds).trans ((if_neg (Int.not_le.2 high)).trans (if_neg unclear)))

theorem State.sendFallBack_done {s : State} {p la : Nat} (l : Nat) (done : s.reg (Obj.laneModulation p la) = 1) :
    s.sendFallBack p l la = s := if_pos done

theorem State.sendFallBack_falls {s : State} {p la : Nat} (l : Nat) (qam : s.reg (Obj.laneModulation p la) ≠ 1) : ∃ u,
    OnlyRegs [Obj.laneModulation p la] { s with out := s.out ++ [.marker p l mkModulation] } u ∧ u.reg (Obj.laneModulation p la) = 1 ∧
    PortSettled (u.laneEvent p la) (s.sendFallBack p l la) p := by
  refine ⟨_, State.onlyRegs_setReg _ _ _, State.reg_setReg_same _ _ _, ?_⟩
  have falls : s.sendFallBack p l la =
      ((((s.emit (.marker p l mkModulation)).setReg (Obj.laneModulation p la) 1).laneEvent p la).settlePort p) :=
    (if_neg qam).trans (if_neg qam)
  rw [falls]
  exact State.settlePort_portSettled _ p

/-! The spare (R429 to R431) -/

theorem State.startSwap_starts {s : State} {p l : Nat} (hl : l < 8) : ∃ u,
    PortSet s u p { s.port p with swapLane := some l } ∧
    OnlyRegs [Obj.laneState p l, Obj.spareRole p, Obj.laneChannel p spare] u (s.startSwap p l) ∧ (s.startSwap p l).lane p l = lnSwapping ∧
    (s.startSwap p l).reg (Obj.spareRole p) = 2 * 16 + l ∧
    (s.startSwap p l).reg (Obj.laneChannel p spare) = s.reg (Obj.laneChannel p l) := by
  have role : Obj.laneState p l ≠ Obj.spareRole p := by simp only [Obj.laneState, Obj.spareRole, obj]; omega
  have channel : Obj.laneState p l ≠ Obj.laneChannel p spare := by simp only [Obj.laneState, Obj.laneChannel, obj, spare]; omega
  have channel' : Obj.spareRole p ≠ Obj.laneChannel p spare := by simp only [Obj.spareRole, Obj.laneChannel, obj, spare]; omega
  refine ⟨_, s.portSet_setPort p _, (((OnlyRegs.refl _ _).setReg (by simp) _).setReg (by simp) _).setReg (by simp) _, ?_, ?_,
    State.reg_setReg_same _ _ _⟩
  · exact (State.reg_setReg_other _ _ _ _ channel).trans ((State.reg_setReg_other _ _ _ _ role).trans (State.reg_setReg_same _ _ _))
  · exact (State.reg_setReg_other _ _ _ _ channel').trans (State.reg_setReg_same _ _ _)

theorem State.freeSpare_frees (s : State) (p : Nat) : OnlyRegs [Obj.laneState p spare, Obj.spareRole p] s (s.freeSpare p) ∧
    (s.freeSpare p).lane p spare = lnSpareIdle ∧ (s.freeSpare p).reg (Obj.spareRole p) = 0 := by
  have role : Obj.laneState p spare ≠ Obj.spareRole p := by simp only [Obj.laneState, Obj.spareRole, obj, spare]; omega
  refine ⟨((OnlyRegs.refl _ s).setReg (by simp) _).setReg (by simp) _, ?_, State.reg_setReg_same _ _ _⟩
  exact (State.reg_setReg_other _ _ _ _ role).trans (State.reg_setReg_same _ _ _)

/-- The watched lanes of a port, in the order of their numbers. -/
def State.watched (s : State) (p : Nat) : List Nat := (List.range 8).filter fun l => s.lane p l == lnWatched

theorem State.mem_watched {s : State} {p l : Nat} : l ∈ s.watched p ↔ l < 8 ∧ s.lane p l = lnWatched := by
  simp [State.watched]

theorem State.holdSpare_taken {s : State} {p : Nat} (taken : s.spareFree p = false) : s.holdSpare p = s :=
  if_pos (by rw [taken]; rfl)

theorem State.holdSpare_idle {s : State} {p : Nat} (free : s.spareFree p = true) (none : ∀ l, l < 8 → s.lane p l ≠ lnWatched) :
    s.holdSpare p = s.freeSpare p := by
  have empty : s.watched p = [] := List.eq_nil_iff_forall_not_mem.2 fun l h => none l (State.mem_watched.1 h).1 (State.mem_watched.1 h).2
  unfold State.holdSpare
  rw [free, Bool.not_true, if_neg Bool.false_ne_true]
  dsimp only
  rw [← State.watched, empty]

/-- The search for the least, which keeps the first of several. -/
theorem foldl_least {f : Nat → Int} {l : Nat} (ls : List Nat) (a : Nat) (sorted : (a :: ls).Pairwise (· < ·)) (listed : l ∈ a :: ls)
    (least : ∀ m ∈ a :: ls, f l < f m ∨ (f l = f m ∧ l ≤ m)) : ls.foldl (fun b k => if f k < f b then k else b) a = l := by
  induction ls generalizing a with
  | nil => exact (List.mem_singleton.1 listed).symm
  | cons k ls ih =>
    obtain ⟨first, rest⟩ := List.pairwise_cons.1 sorted
    have below := first k (by simp)
    have leastFirst := least a (by simp)
    have leastNext := least k (by simp)
    rw [List.foldl_cons]
    by_cases lower : f k < f a
    · rw [if_pos lower]
      refine ih k rest ?_ fun m hm => least m (List.mem_cons_of_mem a hm)
      rcases List.mem_cons.1 listed with rfl | later
      · omega
      · exact later
    · rw [if_neg lower]
      have other : l ≠ k := fun same => by rw [same] at leastFirst; omega
      refine ih a ?_ ?_ fun m hm => least m ?_
      · exact List.pairwise_cons.2 ⟨fun m hm => first m (List.mem_cons_of_mem k hm), (List.pairwise_cons.1 rest).2⟩
      · simpa [other] using listed
      · exact (List.mem_cons.1 hm).elim (fun h => by simp [h]) fun h => by simp [h]

theorem State.holdSpare_holds {s : State} {p l : Nat} (free : s.spareFree p = true) (hl : l < 8) (watched : s.lane p l = lnWatched)
    (least : ∀ m, m < 8 → s.lane p m = lnWatched → s.launch p l < s.launch p m ∨ (s.launch p l = s.launch p m ∧ l ≤ m)) :
    s.holdSpare p = ((s.setLane p spare lnSpareReady).setRole p 1 l).setReg (Obj.laneChannel p spare) (s.reg (Obj.laneChannel p l)) := by
  have listed : l ∈ s.watched p := State.mem_watched.2 ⟨hl, watched⟩
  have sorted : (s.watched p).Pairwise (· < ·) := List.pairwise_lt_range.filter _
  have lowest : ∀ m ∈ s.watched p, s.launch p l < s.launch p m ∨ (s.launch p l = s.launch p m ∧ l ≤ m) :=
    fun m hm => least m (State.mem_watched.1 hm).1 (State.mem_watched.1 hm).2
  unfold State.holdSpare
  rw [free, Bool.not_true, if_neg Bool.false_ne_true]
  dsimp only
  rw [← State.watched]
  cases ws : s.watched p with
  | nil => rw [ws] at listed; exact absurd listed (List.not_mem_nil)
  | cons a ls =>
    rw [ws] at listed sorted lowest
    dsimp only
    rw [foldl_least ls a sorted listed lowest]

theorem State.holdSpare_ready {s : State} {p l : Nat} (free : s.spareFree p = true) (hl : l < 8) (watched : s.lane p l = lnWatched)
    (least : ∀ m, m < 8 → s.lane p m = lnWatched → s.launch p l < s.launch p m ∨ (s.launch p l = s.launch p m ∧ l ≤ m)) : ∃ t,
    s.holdSpare p = t ∧
    OnlyRegs [Obj.laneState p spare, Obj.spareRole p, Obj.laneChannel p spare] s t ∧ t.lane p spare = lnSpareReady ∧
    t.reg (Obj.spareRole p) = 16 + l ∧ t.reg (Obj.laneChannel p spare) = s.reg (Obj.laneChannel p l) := by
  have role : Obj.laneState p spare ≠ Obj.spareRole p := by simp only [Obj.laneState, Obj.spareRole, obj, spare]; omega
  have channel : Obj.spareRole p ≠ Obj.laneChannel p spare := by simp only [Obj.spareRole, Obj.laneChannel, obj, spare]; omega
  refine ⟨_, State.holdSpare_holds free hl watched least,
    (((OnlyRegs.refl _ s).setReg (by simp) _).setReg (by simp) _).setReg (by simp) _, ?_, ?_, State.reg_setReg_same _ _ _⟩
  · exact (State.reg_setReg_other _ _ _ _ (Obj.laneState_ne_laneChannel p spare)).trans
      ((State.reg_setReg_other _ _ _ _ role).trans (State.reg_setReg_same _ _ _))
  · refine (State.reg_setReg_other _ _ _ _ channel).trans ((State.reg_setReg_same _ _ _).trans ?_)
    rw [Nat.one_mul]

theorem farEnd_on {s : State} {p l : Nat} (r : Nat) (on : s.laserOn p l = true) :
    (∃ t, exec (.farEndReport p l r) s = .next t ∧ LaserSet s t p l { s.laser p l with farRate := r }) ∧
    (∃ t, exec (.farEndReportTimeout p l) s = .next t ∧ LaserSet s t p l { s.laser p l with farRate := 20000001 }) :=
  ⟨⟨_, congrArg Host.Outcome.next (if_pos on), s.laserSet_setLaser p l _⟩,
    ⟨_, congrArg Host.Outcome.next (if_pos on), s.laserSet_setLaser p l _⟩⟩

theorem farEnd_off {s : State} {p l : Nat} (r : Nat) (off : s.laserOn p l = false) :
    exec (.farEndReport p l r) s = .next s ∧ exec (.farEndReportTimeout p l) s = .next s :=
  have off' : ¬ s.laserOn p l = true := by simp [off]
  ⟨congrArg Host.Outcome.next (if_neg off'), congrArg Host.Outcome.next (if_neg off')⟩

end Sys2Proof.Machine
end

section
/-! Swaps, takeovers and calibrations: what LS carries, and what a laser takes back (R430 to R434, R437, R441, R559). -/

namespace Sys2Proof.Machine

set_option Elab.async false

/-! The objects of a lane, of LS and of the port are different ones -/

section
variable {p l : Nat}

theorem Obj.laneState_spare (hl : l < 8) : Obj.laneState p spare ≠ Obj.laneState p l := by
  simp only [Obj.laneState, obj, spare]; omega

theorem Obj.laneState_ne_spareRole (hl : l ≤ 8) : Obj.laneState p l ≠ Obj.spareRole p := by
  simp only [Obj.laneState, Obj.spareRole, obj]; omega

theorem Obj.laneState_ne_laneModulation {m : Nat} (hl : l ≤ 8) (hm : m ≤ 8) : Obj.laneState p l ≠ Obj.laneModulation p m := by
  simp only [Obj.laneState, Obj.laneModulation, obj]; omega

theorem Obj.laneState_ne_swapCount {m : Nat} (hl : l ≤ 8) (hm : m ≤ 8) : Obj.laneState p l ≠ Obj.swapCount p m := by
  simp only [Obj.laneState, Obj.swapCount, obj]; omega

theorem Obj.laneState_ne_laneChannel' {m : Nat} (hl : l ≤ 8) (hm : m ≤ 8) : Obj.laneState p l ≠ Obj.laneChannel p m := by
  simp only [Obj.laneState, Obj.laneChannel, obj]; omega

theorem Obj.spareRole_ne_laneModulation (hl : l ≤ 8) : Obj.spareRole p ≠ Obj.laneModulation p l := by
  simp only [Obj.spareRole, Obj.laneModulation, obj]; omega

theorem Obj.spareRole_ne_swapCount (hl : l ≤ 8) : Obj.spareRole p ≠ Obj.swapCount p l := by
  simp only [Obj.spareRole, Obj.swapCount, obj]; omega

theorem Obj.spareRole_ne_laneChannel (hl : l ≤ 8) : Obj.spareRole p ≠ Obj.laneChannel p l := by
  simp only [Obj.spareRole, Obj.laneChannel, obj]; omega

theorem Obj.laneModulation_ne_swapCount {m : Nat} (hl : l ≤ 8) (hm : m ≤ 8) : Obj.laneModulation p l ≠ Obj.swapCount p m := by
  simp only [Obj.laneModulation, Obj.swapCount, obj]; omega

theorem Obj.laneChannel_ne_laneModulation {m : Nat} (hl : l ≤ 8) (hm : m ≤ 8) : Obj.laneChannel p l ≠ Obj.laneModulation p m := by
  simp only [Obj.laneChannel, Obj.laneModulation, obj]; omega

end

/-- The count of swaps wraps in its 24 bits alone (R451). -/
theorem swaps_counted (v : Nat) : v / 2 ^ 24 * 2 ^ 24 + (v % 2 ^ 24 + 1) % 2 ^ 24 = v / 2 ^ 24 * 2 ^ 24 + (v + 1) % 2 ^ 24 := by
  rw [Nat.mod_add_mod]

/-! Swaps (R431, R437) -/

section
variable {s : State} {p : Nat}

theorem swap_none (none : (s.port p).swapLane = none) : exec (.swapConfirm p) s = .next s ∧ exec (.swapAbandon p) s = .next s := by
  constructor
  · change execSwapConfirm p s = _
    rw [execSwapConfirm, none]
  · change execSwapAbandon p s = _
    rw [execSwapAbandon, none]

/-- The state in which LS carries the lane, and the swap is counted. -/
def State.swapped (s : State) (p l : Nat) : State :=
  (((((((s.setPort p { s.port p with swapLane := none }).emit (.marker p l mkSwap)).setLane p spare lnSpareIn).setLane p l
    (if (s.port p).waxLaser = some l then lnWax else lnRetired)).setRole p (if (s.port p).waxLaser = some l then 4 else 3) l)).setReg
    (Obj.laneModulation p spare) (s.reg (Obj.laneModulation p l))).setReg (Obj.swapCount p l)
    (s.reg (Obj.swapCount p l) / 2 ^ 24 * 2 ^ 24 + (s.reg (Obj.swapCount p l) + 1) % 2 ^ 24)

theorem State.swapped_regs {l : Nat} (hl : l < 8) :
    (let wax := (s.port p).waxLaser = some l
     let u := s.setPort p { s.port p with swapLane := none }
     OnlyRegs [Obj.laneState p spare, Obj.laneState p l, Obj.spareRole p, Obj.laneModulation p spare, Obj.swapCount p l]
       { u with out := u.out ++ [.marker p l mkSwap] } (s.swapped p l) ∧
     (s.swapped p l).lane p spare = lnSpareIn ∧ (s.swapped p l).lane p l = (if wax then lnWax else lnRetired) ∧
     (s.swapped p l).reg (Obj.spareRole p) = (if wax then 4 else 3) * 16 + l ∧
     (s.swapped p l).reg (Obj.laneModulation p spare) = s.reg (Obj.laneModulation p l) ∧
     (s.swapped p l).reg (Obj.swapCount p l) =
       s.reg (Obj.swapCount p l) / 2 ^ 24 * 2 ^ 24 + (s.reg (Obj.swapCount p l) + 1) % 2 ^ 24) := by
  have hl' : l ≤ 8 := Nat.le_of_lt hl
  have hs : spare ≤ 8 := Nat.le_refl 8
  unfold State.swapped State.setRole State.setLane
  refine ⟨(((((OnlyRegs.refl _ _).setReg (by simp) _).setReg (by simp) _).setReg (by simp) _).setReg (by simp) _).setReg (by simp) _,
    ?_, ?_, ?_, ?_, State.reg_setReg_same _ _ _⟩
  · rw [State.lane, State.reg_setReg_other _ _ _ _ (Obj.laneState_ne_swapCount hs hl'),
      State.reg_setReg_other _ _ _ _ (Obj.laneState_ne_laneModulation hs hs),
      State.reg_setReg_other _ _ _ _ (Obj.laneState_ne_spareRole hs), State.reg_setReg_other _ _ _ _ (Obj.laneState_spare hl),
      State.reg_setReg_same]
  · rw [State.lane, State.reg_setReg_other _ _ _ _ (Obj.laneState_ne_swapCount hl' hl'),
      State.reg_setReg_other _ _ _ _ (Obj.laneState_ne_laneModulation hl' hs),
      State.reg_setReg_other _ _ _ _ (Obj.laneState_ne_spareRole hl'), State.reg_setReg_same]
  · rw [State.reg_setReg_other _ _ _ _ (Obj.spareRole_ne_swapCount hl'),
      State.reg_setReg_other _ _ _ _ (Obj.spareRole_ne_laneModulation hs), State.reg_setReg_same]
  · rw [State.reg_setReg_other _ _ _ _ (Obj.laneModulation_ne_swapCount hs hl'), State.reg_setReg_same]

/-- What the count of swaps was before the swap's own writes. -/
theorem State.swapCount_kept {l st r m : Nat} {t : State} (hl : l < 8) : ((((t.setLane p spare lnSpareIn).setLane p l st).setRole p r l).setReg
    (Obj.laneModulation p spare) m).reg (Obj.swapCount p l) = t.reg (Obj.swapCount p l) := by
  have hl' : l ≤ 8 := Nat.le_of_lt hl
  have hs : spare ≤ 8 := Nat.le_refl 8
  unfold State.setRole State.setLane
  rw [State.reg_setReg_other _ _ _ _ (Obj.laneModulation_ne_swapCount hs hl').symm,
    State.reg_setReg_other _ _ _ _ (Obj.spareRole_ne_swapCount hl').symm,
    State.reg_setReg_other _ _ _ _ (Obj.laneState_ne_swapCount hl' hl').symm,
    State.reg_setReg_other _ _ _ _ (Obj.laneState_ne_swapCount hs hl').symm]

theorem swapConfirm_run {l : Nat} (hl : l < 8) (swaps : (s.port p).swapLane = some l) : exec (.swapConfirm p) s = .next (
    ((if (s.port p).waxLaser = some l then (s.swapped p l).laneEvent p l
      else ((s.swapped p l).laneEvent p l).laneEvent p l).settlePort p).settleRetune p l) := by
  change execSwapConfirm p s = _
  unfold execSwapConfirm
  rw [swaps]
  simp only [beq_iff_eq, State.countSwap, State.swapCount_kept hl, swaps_counted]
  exact rfl

theorem swapConfirm_swaps {l : Nat} (hl : l < 8) (swaps : (s.port p).swapLane = some l) : ∃ u v t,
    (let wax := (s.port p).waxLaser = some l
     PortSet s u p { s.port p with swapLane := none } ∧
     OnlyRegs [Obj.laneState p spare, Obj.laneState p l, Obj.spareRole p, Obj.laneModulation p spare, Obj.swapCount p l]
       { u with out := u.out ++ [.marker p l mkSwap] } v ∧
     v.lane p spare = lnSpareIn ∧ v.lane p l = (if wax then lnWax else lnRetired) ∧
     v.reg (Obj.spareRole p) = (if wax then 4 else 3) * 16 + l ∧
     v.reg (Obj.laneModulation p spare) = s.reg (Obj.laneModulation p l) ∧
     v.reg (Obj.swapCount p l) = s.reg (Obj.swapCount p l) / 2 ^ 24 * 2 ^ 24 + (s.reg (Obj.swapCount p l) + 1) % 2 ^ 24 ∧
     PortSettled (if wax then v.laneEvent p l else (v.laneEvent p l).laneEvent p l) t p ∧
     exec (.swapConfirm p) s = .next (t.settleRetune p l)) := by
  obtain ⟨regs, carried, old, role, modulation, count⟩ := State.swapped_regs (s := s) (p := p) hl
  exact ⟨_, s.swapped p l, _, s.portSet_setPort p _, regs, carried, old, role, modulation, count,
    State.settlePort_portSettled _ p, swapConfirm_run hl swaps⟩

/-- The state in which a lane stays on its laser, LS is free, and the abandoned swap is counted. -/
def State.unswapped (s : State) (p l : Nat) : State :=
  ((((s.setPort p { s.port p with
    swapLane := none, holdBack := true, waxLaser := if (s.port p).waxLaser = some l then none else (s.port p).waxLaser }).setLane p l
    lnService).freeSpare p).setReg (Obj.swapCount p l) ((s.reg (Obj.swapCount p l) + 2 ^ 24) % 2 ^ 32))

theorem swapAbandon_abandons {l : Nat} (hl : l < 8) (swaps : (s.port p).swapLane = some l) : ∃ u t,
    PortSet s u p { s.port p with
      swapLane := none, holdBack := true, waxLaser := if (s.port p).waxLaser = some l then none else (s.port p).waxLaser } ∧
    OnlyRegs [Obj.laneState p l, Obj.laneState p spare, Obj.spareRole p, Obj.swapCount p l] u t ∧ t.lane p l = lnService ∧
    t.lane p spare = lnSpareIdle ∧ t.reg (Obj.spareRole p) = 0 ∧
    t.reg (Obj.swapCount p l) = (s.reg (Obj.swapCount p l) + 2 ^ 24) % 2 ^ 32 ∧ exec (.swapAbandon p) s = .next (t.settleRetune p l) := by
  have hl' : l ≤ 8 := Nat.le_of_lt hl
  have hs : spare ≤ 8 := Nat.le_refl 8
  refine ⟨_, s.unswapped p l, s.portSet_setPort p _,
    ((((OnlyRegs.refl _ _).setReg (by simp) _).setReg (by simp) _).setReg (by simp) _).setReg (by simp) _, ?_, ?_, ?_,
    State.reg_setReg_same _ _ _, ?_⟩
  · unfold State.unswapped State.freeSpare State.setRole State.setLane
    rw [State.lane, State.reg_setReg_other _ _ _ _ (Obj.laneState_ne_swapCount hl' hl'),
      State.reg_setReg_other _ _ _ _ (Obj.laneState_ne_spareRole hl'), State.reg_setReg_other _ _ _ _ (Obj.laneState_spare hl).symm,
      State.reg_setReg_same]
  · unfold State.unswapped State.freeSpare State.setRole State.setLane
    rw [State.lane, State.reg_setReg_other _ _ _ _ (Obj.laneState_ne_swapCount hs hl'),
      State.reg_setReg_other _ _ _ _ (Obj.laneState_ne_spareRole hs), State.reg_setReg_same]
  · unfold State.unswapped State.freeSpare State.setRole State.setLane
    rw [State.reg_setReg_other _ _ _ _ (Obj.spareRole_ne_swapCount hl'), State.reg_setReg_same]
  · have kept (t : State) : ((t.setLane p l lnService).freeSpare p).reg (Obj.swapCount p l) = t.reg (Obj.swapCount p l) := by
      unfold State.freeSpare State.setRole State.setLane
      rw [State.reg_setReg_other _ _ _ _ (Obj.spareRole_ne_swapCount hl').symm,
        State.reg_setReg_other _ _ _ _ (Obj.laneState_ne_swapCount hs hl').symm,
        State.reg_setReg_other _ _ _ _ (Obj.laneState_ne_swapCount hl' hl').symm]
    change execSwapAbandon p s = _
    unfold execSwapAbandon
    rw [swaps]
    simp only [kept]
    exact rfl

theorem State.settleRetune_none {l : Nat} (h : s.drawnLane p l = none ∨ s.baseTaken p l = true) : s.settleRetune p l = s := by
  unfold State.settleRetune
  rcases h with undrawn | taken
  · rw [undrawn]
  · cases s.drawnLane p l with
    | none => exact rfl
    | some e => exact if_pos taken

theorem State.settleRetune_some {l : Nat} {e : LaneEntry} (drawn : s.drawnLane p l = some e) (free : s.baseTaken p l = false) :
    s.settleRetune p l = s.drawLane p l e.channel := by
  unfold State.settleRetune
  rw [drawn]
  exact if_neg (by rw [free]; decide)

theorem spareHoldbackEnd_run (s : State) (p : Nat) : ((s.port p).holdBack = false → exec (.spareHoldbackEnd p) s = .next s) ∧
    ((s.port p).holdBack = true → ∃ t, exec (.spareHoldbackEnd p) s = .next t ∧ PortSet s t p { s.port p with holdBack := false }) :=
  ⟨fun free => congrArg Host.Outcome.next (if_neg (by rw [free]; decide)),
    fun held => ⟨_, congrArg Host.Outcome.next (if_pos held), s.portSet_setPort p _⟩⟩

/-! A takeover (R433) -/

theorem spareTakeover_none (none : (s.port p).takeover = none) : exec (.spareTakeoverComplete p) s = .next s := by
  change execSpareTakeoverComplete p s = _
  rw [execSpareTakeoverComplete, none]

/-- The state in which LS carries a dropped lane. -/
def State.takenOver (s : State) (p l : Nat) : State :=
  ((((s.setPort p { s.port p with takeover := none }).setLane p spare lnSpareIn).setRole p 3 l).setReg (Obj.laneChannel p spare)
    (s.reg (Obj.laneChannel p l))).setReg (Obj.laneModulation p spare) (s.reg (Obj.laneModulation p l))

theorem spareTakeover_carries {l : Nat} (hl : l < 8) (takes : (s.port p).takeover = some l) : ∃ u v t,
    exec (.spareTakeoverComplete p) s = .next t ∧ PortSet s u p { s.port p with takeover := none } ∧
    OnlyRegs [Obj.laneState p spare, Obj.spareRole p, Obj.laneChannel p spare, Obj.laneModulation p spare] u v ∧
    v.lane p spare = lnSpareIn ∧ v.reg (Obj.spareRole p) = 3 * 16 + l ∧ v.reg (Obj.laneChannel p spare) = s.reg (Obj.laneChannel p l) ∧
    v.reg (Obj.laneModulation p spare) = s.reg (Obj.laneModulation p l) ∧ PortSettled v t p := by
  have hl' : l ≤ 8 := Nat.le_of_lt hl
  have hs : spare ≤ 8 := Nat.le_refl 8
  have channel (t : State) : (t.setLane p spare lnSpareIn).reg (Obj.laneChannel p l) = t.reg (Obj.laneChannel p l) :=
    State.reg_setReg_other _ _ _ _ (Obj.laneState_ne_laneChannel' hs hl').symm
  have modulation (t : State) : (t.setLane p spare lnSpareIn).reg (Obj.laneModulation p l) = t.reg (Obj.laneModulation p l) :=
    State.reg_setReg_other _ _ _ _ (Obj.laneState_ne_laneModulation hs hl').symm
  refine ⟨_, s.takenOver p l, (s.takenOver p l).settlePort p, ?_, s.portSet_setPort p _,
    ((((OnlyRegs.refl _ _).setReg (by simp) _).setReg (by simp) _).setReg (by simp) _).setReg (by simp) _, ?_, ?_, ?_,
    State.reg_setReg_same _ _ _, State.settlePort_portSettled _ p⟩
  · change execSpareTakeoverComplete p s = _
    unfold execSpareTakeoverComplete
    rw [takes]
    simp only [channel, modulation]
    exact rfl
  · unfold State.takenOver State.setRole State.setLane
    rw [State.lane, State.reg_setReg_other _ _ _ _ (Obj.laneState_ne_laneModulation hs hs),
      State.reg_setReg_other _ _ _ _ (Obj.laneState_ne_laneChannel' hs hs),
      State.reg_setReg_other _ _ _ _ (Obj.laneState_ne_spareRole hs), State.reg_setReg_same]
  · unfold State.takenOver State.setRole State.setLane
    rw [State.reg_setReg_other _ _ _ _ (Obj.spareRole_ne_laneModulation hs),
      State.reg_setReg_other _ _ _ _ (Obj.spareRole_ne_laneChannel hs), State.reg_setReg_same]
  · unfold State.takenOver
    rw [State.reg_setReg_other _ _ _ _ (Obj.laneChannel_ne_laneModulation hs hs), State.reg_setReg_same]

/-! Calibrations (R432, R434, R437, R559) -/

theorem waxCalibrationEnd_stays {l : Nat} {r : WaxResult} (h : (s.port p).waxLaser ≠ some l ∨ s.lane p l ≠ lnWax) :
    exec (.waxCalibrationEnd p l r) s = .next s := if_pos h

theorem waxCalibrationEnd_ends {l : Nat} {r : WaxResult} (waxed : (s.port p).waxLaser = some l) (wax : s.lane p l = lnWax) : ∃ u t,
    PortSet s u p { s.port p with waxLaser := none } ∧ PortSettled ((u.recordWax p l r).afterWax p l r) t p ∧
    exec (.waxCalibrationEnd p l r) s = .next (if l = spare ∧ p % 4 = 0 then t.scheduleLocal t.nextGate (.sketchCal (p / 4)) else t) := by
  refine ⟨_, _, s.portSet_setPort p _, State.settlePort_portSettled _ p, ?_⟩
  change execWaxCalibrationEnd p l r s = _
  unfold execWaxCalibrationEnd
  rw [if_neg (by simp [waxed, wax])]
  by_cases ls : l = spare
  · simp only [ls, if_true, true_and]
    exact rfl
  · simp only [ls, if_false, false_and]

/-- A laser that was retired stays so without its power, until power-on. -/
theorem State.afterWax_lost {l : Nat} {r : WaxResult} (retired : (s.laser p l).waxFrom = lnRetired) (weak : r.powerGood = false) : ∃ u v,
    OnlyRegs [Obj.laneState p l] s u ∧ u.lane p l = lnRetired ∧ LaserSet u v p l { s.laser p l with lost := true } ∧
    s.afterWax p l r = if l = spare then (v.laneEvent p l).setRole p 5 0 else v.laneEvent p l :=
  ⟨_, _, State.onlyRegs_setReg s _ _, State.reg_setReg_same _ _ _, State.laserSet_setLaser _ p l _,
    if_pos ⟨retired, by rw [weak]; rfl⟩⟩

section
variable {r : WaxResult}

theorem State.not_lost {l : Nat} (kept : (s.laser p l).waxFrom ≠ lnRetired ∨ r.powerGood = true) :
    ¬ ((s.laser p l).waxFrom = lnRetired ∧ (!r.powerGood) = true) := by
  rintro ⟨retired, weak⟩
  rcases kept with other | good
  · exact other retired
  · rw [good] at weak
    exact Bool.false_ne_true weak

theorem State.afterWax_spare (kept : (s.laser p spare).waxFrom ≠ lnRetired ∨ r.powerGood = true) : ∃ t,
    s.afterWax p spare r = t ∧ t.lane p spare = lnSpareIdle ∧ t.reg (Obj.spareRole p) = 0 ∧
    OnlyRegs [Obj.laneState p spare, Obj.spareRole p] s t := by
  obtain ⟨regs, idle, role⟩ := s.freeSpare_frees p
  exact ⟨_, (if_neg (State.not_lost kept)).trans (if_pos rfl), idle, role, regs⟩

/-- The lane's own laser in service again, in 16-QAM where its rate allows it (R434). -/
def State.laserBack (s : State) (p l : Nat) (r : WaxResult) : State :=
  if r.ratePpb ≤ 100000 then (s.setLane p l lnService).setReg (Obj.laneModulation p l) 0 else s.setLane p l lnService

theorem State.laserBack_regs {l : Nat} (hl : l < 8) : OnlyRegs [Obj.laneState p l, Obj.laneModulation p l] s (s.laserBack p l r) ∧
    (s.laserBack p l r).lane p l = lnService ∧
    (s.laserBack p l r).reg (Obj.laneModulation p l) = (if r.ratePpb ≤ 100000 then 0 else s.reg (Obj.laneModulation p l)) := by
  have apart := Obj.laneState_ne_laneModulation (p := p) (Nat.le_of_lt hl) (Nat.le_of_lt hl)
  unfold State.laserBack
  split
  next =>
    refine ⟨((OnlyRegs.refl _ s).setReg (by simp) _).setReg (by simp) _, ?_, State.reg_setReg_same _ _ _⟩
    exact (State.reg_setReg_other _ _ _ _ apart).trans (State.reg_setReg_same _ _ _)
  next =>
    exact ⟨(OnlyRegs.refl _ s).setReg (by simp) _, State.reg_setReg_same _ _ _, State.reg_setReg_other _ _ _ _ apart.symm⟩

theorem State.afterWax_back {l : Nat} (hl : l < 8) (kept : (s.laser p l).waxFrom ≠ lnRetired ∨ r.powerGood = true) : ∃ u,
    OnlyRegs [Obj.laneState p l, Obj.laneModulation p l] s u ∧ u.lane p l = lnService ∧
    u.reg (Obj.laneModulation p l) = (if r.ratePpb ≤ 100000 then 0 else s.reg (Obj.laneModulation p l)) ∧
    s.afterWax p l r = ((if s.roleLane p = l ∧ (s.role p = 3 ∨ s.role p = 4) then u.swapBack p l else u).regainLane p l) := by
  obtain ⟨regs, service, modulation⟩ := State.laserBack_regs (s := s) (p := p) (r := r) hl
  have hl' : l ≤ 8 := Nat.le_of_lt hl
  have other : l ≠ spare := by simp only [spare]; omega
  have role : (s.laserBack p l r).reg (Obj.spareRole p) = s.reg (Obj.spareRole p) := regs.1 _ (by
    simp only [List.mem_cons, List.not_mem_nil, or_false, not_or]
    exact ⟨(Obj.laneState_ne_spareRole hl').symm, Obj.spareRole_ne_laneModulation hl'⟩)
  refine ⟨s.laserBack p l r, regs, service, modulation, ?_⟩
  simp only [State.role, State.roleLane, ← role]
  exact (if_neg (State.not_lost kept)).trans (if_neg other)

end

theorem State.swapBack_frees {l : Nat} : ∃ u t,
    OnlyRegs [Obj.swapCount p l] { s with out := s.out ++ [.marker p l mkSwap] } u ∧
    u.reg (Obj.swapCount p l) = s.reg (Obj.swapCount p l) / 2 ^ 24 * 2 ^ 24 + (s.reg (Obj.swapCount p l) + 1) % 2 ^ 24 ∧
    s.swapBack p l = t ∧ OnlyRegs [Obj.laneState p spare, Obj.spareRole p] (u.laneEvent p l) t ∧ t.lane p spare = lnSpareIdle ∧
    t.reg (Obj.spareRole p) = 0 := by
  let u := (s.emit (.marker p l mkSwap)).setReg (Obj.swapCount p l)
    (s.reg (Obj.swapCount p l) / 2 ^ 24 * 2 ^ 24 + (s.reg (Obj.swapCount p l) % 2 ^ 24 + 1) % 2 ^ 24)
  obtain ⟨regs, idle, role⟩ := (u.laneEvent p l).freeSpare_frees p
  exact ⟨u, _, State.onlyRegs_setReg _ _ _, (State.reg_setReg_same _ _ _).trans (swaps_counted _), rfl, regs, idle, role⟩

end

end Sys2Proof.Machine
end

section
/-! What a calibration records (R437), and the statement of the lanes in service and of their margins. -/

namespace Sys2Proof.Machine

set_option Elab.async false

theorem zip_range_eq {n : Nat} {cs : List Nat} (all : cs.length = n) :
    (List.range n).zip cs = (List.range n).map fun i => (i, cs.getD i 0) := by
  refine List.ext_getElem (by simp [all]) fun i _ low => ?_
  have listed : i < cs.length := by simpa [all] using low
  simp [List.getElem?_eq_getElem listed]

/-- The coefficients that are drawn for a ring's feed-forward (log entry 2). -/
def State.drawnCoefs (s : State) : List Nat := (State.drawMany 16 10 s).1

/-- The heaters' coefficients once a laser's are recorded. -/
def State.coefsNow (s : State) (p l : Nat) : Sparse Int :=
  (List.range 10).foldl (fun m i => Sparse.set 0 (laserKey p l * 16 + i) (signedOf 16 (s.drawnCoefs.getD i 0)) m) s.heaterCoefs

theorem State.recordWax_eq (s : State) (p l : Nat) (r : WaxResult) : ∃ d, s.recordWax p l r =
    ((({ s with heaterCoefs := s.coefsNow p l, drawn := d } : State).setLaser p l { s.laser p l with loopDelay := r.loopDelayPs }).setReg
      (Obj.heaterMargin p l) (wrapInt 16 r.heaterMargin)).setReg (Obj.launchPowerCdb p l) 0 := by
  obtain ⟨ten, d, drawn⟩ := State.drawMany_spec 16 10 s
  refine ⟨d, ?_⟩
  have coefs : (((List.range 10).zip s.drawnCoefs).foldl (fun m q => Sparse.set 0 (laserKey p l * 16 + q.1) (signedOf 16 q.2) m)
      s.heaterCoefs) = s.coefsNow p l := by
    rw [zip_range_eq (by exact ten), List.foldl_map]
    exact rfl
  have split : State.drawMany 16 10 s = (s.drawnCoefs, { s with drawn := d }) := Prod.ext rfl drawn
  unfold State.recordWax
  rw [split]
  dsimp only
  rw [coefs]
  exact rfl

theorem State.recordWax_records (s : State) (p l : Nat) (r : WaxResult) : ∃ (t : State) (cs : List Nat), s.recordWax p l r = t ∧
    cs.length = 10 ∧ (∀ i, i < 10 → Sparse.get 0 (laserKey p l * 16 + i) t.heaterCoefs = signedOf 16 (cs.getD i 0)) ∧
    t.laser p l = { s.laser p l with loopDelay := r.loopDelayPs } ∧
    (∀ q m, laserKey q m ≠ laserKey p l → t.laser q m = s.laser q m) ∧
    t.reg (Obj.heaterMargin p l) = wrapInt 16 r.heaterMargin ∧ t.reg (Obj.launchPowerCdb p l) = 0 ∧
    OnlyRegs [Obj.heaterMargin p l, Obj.launchPowerCdb p l]
      { s with lasers := t.lasers, heaterCoefs := t.heaterCoefs, drawn := t.drawn } t := by
  obtain ⟨d, eq⟩ := s.recordWax_eq p l r
  have apart : Obj.heaterMargin p l ≠ Obj.launchPowerCdb p l := by simp only [Obj.heaterMargin, Obj.launchPowerCdb, obj]; omega
  have coef (i : Nat) (low : i < 10) :
      Sparse.get 0 (laserKey p l * 16 + i) (s.coefsNow p l) = signedOf 16 (s.drawnCoefs.getD i 0) := by
    refine (Sparse.get_foldl_set 0 (key := fun i => laserKey p l * 16 + i) (fun i j same => ?_) _ _ _ i).trans ?_
    · exact Nat.add_left_cancel same
    · rw [if_pos (List.mem_range.2 low)]
  refine ⟨_, s.drawnCoefs, eq, (State.drawMany_spec 16 10 s).1, coef, State.laser_setLaser _ p l _,
    fun q m other => Sparse.get_set_other _ _ _ _ _ _ other, ?_, State.reg_setReg_same _ _ _, ?_⟩
  · exact (State.reg_setReg_other _ _ _ _ apart).trans (State.reg_setReg_same _ _ _)
  · exact ((OnlyRegs.refl _ _).setReg (by simp) _).setReg (by simp) _

/-- Settles O39: each command of a lane, of its margins, of LS and of a calibration by its own lemma. -/
theorem lanesInServiceAndMargins : Obligations.LanesInServiceAndMargins := by
  refine ⟨fun _ _ _ _ off => laneFrameReceive_off off, ?bad, headerOk_iff, ?good, State.heardFlits_eq, ?credits, ?draws, ?undriven,
    heaterRangeLoss_run, fun _ _ _ => rfl, toneCorrelation_run, ?mislock, ?unlocked, ?idle, ?relocked, ?relockFails, ?alignment,
    ?unaligned, alignmentLossDrop_run, ?drop, ?dropSpare, ?undrawn, ?gone, ?base, ?unjudged, ?judged, ?measured, windowRate_cases,
    judgeLane_judges, ?fallen, ?falls, ?swap, ?taken, ?spareIdle, ?spareHeld, ?farEnd, ?farOff, ?unswapped, ?confirm, ?abandon,
    ?settled, ?retuned, spareHoldbackEnd_run, ?untaken, ?carried, ?unwaxed, ?waxed, ?recorded, ?lost, ?spareBack, ?laserBack,
    ?swapBack⟩
  case bad => exact fun _ _ _ _ on bad => laneFrameReceive_bad on bad
  case good => exact laneFrameReceive_takes
  case credits => exact fun s p _ six => ⟨_, s.credited_portSet p _, s.heardCredits_eq p six⟩
  case draws => exact fun _ _ _ _ e on ring => edgeLockUpdate_draws e on ring
  case undriven => exact fun _ _ _ _ e off => edgeLockUpdate_off e off
  case mislock => exact fun _ _ _ _ up => State.mislock_relocks up
  case unlocked => exact fun _ _ _ idle => State.mislock_idle idle
  case idle => exact fun _ _ _ ok idle => relockComplete_idle ok idle
  case relocked => exact fun _ _ _ relocks => relockComplete_good relocks
  case relockFails => exact fun _ _ _ relocks => relockComplete_fails relocks
  case alignment => exact fun _ _ _ on => alignment_on on
  case unaligned => exact fun _ _ _ off => alignment_off off
  case drop => exact fun _ _ _ hp hl unwaxed unswapped => State.dropLane_takes hp unwaxed hl unswapped
  case dropSpare => exact fun _ _ _ unwaxed => State.dropLane_spareGone unwaxed
  case undrawn => exact fun _ _ _ undrawn other => State.laneGone_undrawn undrawn other
  case gone => exact fun _ _ _ _ drawn held other => State.laneGone_drawn drawn held other
  case base =>
    intro s p b base undrawn hp hb other up last
    exact ⟨_, _, s.portSet_setPort p (s.basePort p b), s.baseMoved_regs hp (Nat.le_of_lt hb),
      State.laneGone_base hp base undrawn hb other up last⟩
  case unjudged => exact fun _ _ _ off => marginWindowEnd_off off
  case judged => exact fun _ _ _ hp on running => marginWindowEnd_on hp on running
  case measured => exact fun s p w _ _ => s.measure_counts p w
  case fallen => exact fun _ _ l _ done => State.sendFallBack_done l done
  case falls => exact fun _ _ l _ qam => State.sendFallBack_falls l qam
  case swap => exact fun _ _ _ _ hl => State.startSwap_starts hl
  case taken => exact fun _ _ taken => State.holdSpare_taken taken
  case spareIdle => exact fun s p _ free none => ⟨_, State.holdSpare_idle free none, s.freeSpare_frees p⟩
  case spareHeld => exact fun _ _ _ _ free hl watched least => State.holdSpare_ready free hl watched least
  case farEnd => exact fun _ _ _ r on => farEnd_on r on
  case farOff => exact fun _ _ _ r off => farEnd_off r off
  case unswapped => exact fun _ _ none => swap_none none
  case confirm => exact fun _ _ _ _ hl swaps => swapConfirm_swaps hl swaps
  case abandon => exact fun _ _ _ _ hl swaps => swapAbandon_abandons hl swaps
  case settled => exact fun _ _ _ h => State.settleRetune_none h
  case retuned => exact fun _ _ _ _ drawn free => State.settleRetune_some drawn free
  case untaken => exact fun _ _ none => spareTakeover_none none
  case carried => exact fun _ _ _ _ hl takes => spareTakeover_carries hl takes
  case unwaxed => exact fun _ _ _ _ h => waxCalibrationEnd_stays h
  case waxed => exact fun _ _ _ _ waxed wax => waxCalibrationEnd_ends waxed wax
  case recorded => exact fun s p l r _ _ => s.recordWax_records p l r
  case lost => exact fun _ _ _ _ retired weak => State.afterWax_lost retired weak
  case spareBack => exact fun _ _ _ _ kept => State.afterWax_spare kept
  case laserBack => exact fun _ _ _ _ _ hl kept => State.afterWax_back hl kept
  case swapBack => exact fun _ _ _ _ _ => State.swapBack_frees

end Sys2Proof.Machine
end

section
/-! What a report does at its die, in the package's records and to the step it vetoes (R613, R619 to R629). -/

namespace Sys2Proof.Machine

set_option Elab.async false

/-- Raising an event writes its object and sends. -/
theorem State.raise_eq (s : State) (k : Nat) (v : List Byte) : ∃ o e ss m, s.raise k v =
    { s with out := o, eth := e, sessions := ss, regs := m } := by
  obtain ⟨o, e, ss, sent⟩ := State.notify_sends (s.setReg k (fromBytes v)) k v
  exact ⟨o, e, ss, (s.setReg k (fromBytes v)).regs, by rw [State.raise, sent, State.setReg]⟩

section
variable (s : State) (r : FaultRep)

/-- The fault event sends, counts, and keeps how many it sent in this second. -/
theorem State.faultEvent_eq : ∃ o e ss m d, s.faultEvent r =
    { s with out := o, eth := e, sessions := ss, regs := m, dev := { s.dev with secondFaults := d } } := by
  unfold State.faultEvent
  split
  · exact ⟨s.out, s.eth, s.sessions, s.regs, s.dev.secondFaults, rfl⟩
  · dsimp only
    generalize (if s.dev.secondFaults.1 = s.up / 1000000000 then s.dev.secondFaults.2 else 0) = used
    split
    · obtain ⟨o, e, ss, m, raised⟩ := State.raise_eq { s with dev := { s.dev with secondFaults := (s.up / 1000000000, used + 1) } }
        Obj.lastFaultEvent ((s.recordOf r).bytes.take 32)
      exact ⟨o, e, ss, m, _, raised⟩
    · exact ⟨s.out, s.eth, s.sessions, _, s.dev.secondFaults, rfl⟩

/-- The log keeps a record or counts it, and no record of class 1. -/
theorem State.logFault_eq : ∃ m d gs, s.logFault r = { s with regs := m, dev := d, generations := gs } ∧ (r.cls = 1 → d = s.dev) := by
  have log (recent : Bool) (dev : Dev) : ∃ m d gs, (if recent then s.count 32 Obj.logSkipCount
      else ({ s with dev := dev } : State).bump Obj.faultLog) = { s with regs := m, dev := d, generations := gs } := by
    cases recent with
    | true => exact ⟨_, s.dev, s.generations, rfl⟩
    | false => exact ⟨s.regs, dev, _, rfl⟩
  by_cases corrected : r.cls = 1
  · exact ⟨s.regs, s.dev, s.generations, if_pos corrected, fun _ => rfl⟩
  · have logged : ∃ m d gs, s.logFault r = { s with regs := m, dev := d, generations := gs } := by
      unfold State.logFault
      rw [if_neg corrected]
      exact log _ _
    obtain ⟨m, d, gs, eq⟩ := logged
    exact ⟨m, d, gs, eq, fun same => absurd same corrected⟩

/-- The counter of a report's class at its die (R638), with its width. -/
def classCounter (r : FaultRep) : Nat × Nat :=
  if r.cls = 1 then (64, Obj.correctedCount (unitDie r.reporter))
  else if r.cls = 2 then (64, Obj.containedCount (unitDie r.reporter)) else (32, Obj.fatalCount (unitDie r.reporter))

theorem State.countClass_counts : s.countClass r = s.count (classCounter r).1 (classCounter r).2 := by
  unfold State.countClass classCounter
  dsimp only
  split
  · rfl
  · split <;> rfl

/-- The state once a report is collected, latched, counted, told and logged. -/
def State.faultLogged : State := ((((s.collect r).latchStatus r).countClass r).faultEvent r).logFault r

theorem State.faultLogged_eq : ∃ o e ss m d gs, s.faultLogged r = { s with
    out := o, eth := e, sessions := ss, captures := (s.collect r).captures, latches := (s.latchStatus r).latches, regs := m, dev := d,
    generations := gs } ∧ (r.cls = 1 → d.faultLog = s.dev.faultLog) := by
  obtain ⟨cs, collected⟩ := s.collect_eq r
  unfold State.faultLogged
  rw [State.countClass_counts]
  generalize hu : ((s.collect r).latchStatus r).count (classCounter r).1 (classCounter r).2 = u
  obtain ⟨o, e, ss, m, d, told⟩ := u.faultEvent_eq r
  obtain ⟨m', d', gs, logged, kept⟩ := (u.faultEvent r).logFault_eq r
  have base : u = { s with captures := (s.collect r).captures, latches := (s.latchStatus r).latches, regs := u.regs } := by
    rw [← hu, collected]
    exact rfl
  refine ⟨o, e, ss, m', d', gs, ?_, fun corrected => ?_⟩
  · rw [logged, told, base]
  · rw [kept corrected, told, base]

/-- A class's counter is none of the objects that are written after it. -/
theorem classCounter_apart : (classCounter r).2 ≠ Obj.lastFaultEvent ∧ (classCounter r).2 ≠ Obj.eventDropCount ∧
    (classCounter r).2 ≠ Obj.logSkipCount := by
  unfold classCounter
  refine ⟨?_, ?_, ?_⟩ <;> split
  all_goals
    try split
  all_goals
    simp only [Obj.correctedCount, Obj.containedCount, Obj.fatalCount, Obj.lastFaultEvent, Obj.eventDropCount, Obj.logSkipCount, obj]
    omega

theorem State.faultLogged_counts : (s.faultLogged r).reg (classCounter r).2 =
    (s.reg (classCounter r).2 + 1) % 2 ^ (classCounter r).1 := by
  obtain ⟨event, drop, skip⟩ := classCounter_apart r
  obtain ⟨cs, collected⟩ := s.collect_eq r
  unfold State.faultLogged
  rw [(State.logFault_spec _ _).2 _ skip, (State.faultEvent_spec _ _).2 _ event drop, State.countClass_counts, State.reg_count, if_pos rfl,
    collected]
  exact rfl

/-! The records and the status words -/

theorem clusterCaptureOf_apart {k : Nat} (h : clusterCaptureOf r.reporter = some k) :
    k ≠ Obj.dieCapture (unitDie r.reporter) ∧ k ≠ Obj.packageCapture := by
  unfold clusterCaptureOf at h
  split at h
  · have := Option.some.inj h
    simp only [Obj.clusterCapture, Obj.dieCapture, Obj.packageCapture, obj] at this ⊢
    omega
  · cases h

theorem dieCapture_ne_packageCapture (d : Nat) : Obj.dieCapture d ≠ Obj.packageCapture := by
  simp only [Obj.dieCapture, Obj.packageCapture, obj]; omega

/-- The state once the cluster's collector has taken the report, where one does. -/
def State.clusterCollected : State :=
  match clusterCaptureOf r.reporter with
  | some k => s.setCapture k ((s.capture k).take (s.recordOf r))
  | none => s

theorem State.clusterCollected_capture : (∀ k, clusterCaptureOf r.reporter = some k →
      (s.clusterCollected r).capture k = (s.capture k).take (s.recordOf r)) ∧
    ∀ j, clusterCaptureOf r.reporter ≠ some j → (s.clusterCollected r).capture j = s.capture j := by
  unfold State.clusterCollected
  cases clusterCaptureOf r.reporter with
  | none => exact ⟨nofun, fun _ _ => rfl⟩
  | some k =>
    refine ⟨fun j same => ?_, fun j other => State.capture_setCapture_other _ _ _ _ fun same => other (congrArg some same.symm)⟩
    cases same
    exact State.capture_setCapture _ _ _

theorem State.collect_captures : s.collect r =
    (((s.clusterCollected r).setCapture (Obj.dieCapture (unitDie r.reporter))
      (((s.clusterCollected r).capture (Obj.dieCapture (unitDie r.reporter))).take (s.recordOf r))).setCapture Obj.packageCapture
      (((s.clusterCollected r).capture Obj.packageCapture).take (s.recordOf r))) := by
  have other (t : State) (v : Capture) : (t.setCapture (Obj.dieCapture (unitDie r.reporter)) v).capture Obj.packageCapture =
      t.capture Obj.packageCapture := State.capture_setCapture_other _ _ _ _ (dieCapture_ne_packageCapture _).symm
  unfold State.collect
  dsimp only
  rw [other]
  exact rfl

theorem State.collect_records : (∀ k, clusterCaptureOf r.reporter = some k →
      (s.collect r).capture k = (s.capture k).take (s.recordOf r)) ∧
    (s.collect r).capture (Obj.dieCapture (unitDie r.reporter)) =
      (s.capture (Obj.dieCapture (unitDie r.reporter))).take (s.recordOf r) ∧
    (s.collect r).capture Obj.packageCapture = (s.capture Obj.packageCapture).take (s.recordOf r) := by
  obtain ⟨cluster, others⟩ := s.clusterCollected_capture r
  have die : clusterCaptureOf r.reporter ≠ some (Obj.dieCapture (unitDie r.reporter)) := fun h => (clusterCaptureOf_apart r h).1 rfl
  have package : clusterCaptureOf r.reporter ≠ some Obj.packageCapture := fun h => (clusterCaptureOf_apart r h).2 rfl
  rw [State.collect_captures]
  refine ⟨fun k h => ?_, ?_, ?_⟩
  · obtain ⟨d, p⟩ := clusterCaptureOf_apart r h
    rw [State.capture_setCapture_other _ _ _ _ p, State.capture_setCapture_other _ _ _ _ d, cluster k h]
  · rw [State.capture_setCapture_other _ _ _ _ (dieCapture_ne_packageCapture _), State.capture_setCapture, others _ die]
  · rw [State.capture_setCapture, others _ package]

theorem State.latchStatus_words : (s.latchStatus r).latch (Obj.dieStatus (unitDie r.reporter) (unitGroup r.reporter)) =
      (s.latch (Obj.dieStatus (unitDie r.reporter) (unitGroup r.reporter))).hit (2 ^ unitUnit r.reporter) ∧
    (s.latchStatus r).latch Obj.packageStatus = (s.latch Obj.packageStatus).hit
      (2 ^ (unitDie r.reporter + (if r.cls = 1 then 0 else if r.cls = 2 then 16 else 32))) := by
  have apart : Obj.dieStatus (unitDie r.reporter) (unitGroup r.reporter) ≠ Obj.packageStatus := by
    simp only [Obj.dieStatus, Obj.packageStatus, obj]; omega
  unfold State.latchStatus
  dsimp only
  refine ⟨?_, ?_⟩
  · rw [State.latch_setLatch_other _ _ _ _ apart, State.latch_setLatch]
  · rw [State.latch_setLatch, State.latch_setLatch_other _ _ _ _ apart.symm]

end

/-- A report is made, whatever it then does to the tenants, if that is its veto. -/
theorem State.faultLogged_reported {s : State} {r : FaultRep} {ts : Sparse Tenant}
    (veto : ∀ n x k, r.work = some (n, x, k) → r.cls = 2 → k ≠ 0 → TenantSet { s with tenants := s.tenants } { s with tenants := ts } n
      { s.tenant n with steps := (s.tenant n).steps.map fun p => if p.step = k then { p with faulted := true } else p }) :
    Reported s { s.faultLogged r with tenants := ts } r := by
  obtain ⟨cluster, die, package⟩ := s.collect_records r
  obtain ⟨group, word⟩ := s.latchStatus_words r
  have counts := s.faultLogged_counts r
  obtain ⟨o, e, ss, m, d, gs, eq, log⟩ := s.faultLogged_eq r
  rw [eq] at counts ⊢
  refine ⟨group, word, cluster, ⟨die, package⟩, fun corrected => ⟨?_, log corrected⟩, fun contained => ?_, fun fatal => ?_, veto, rfl⟩
  · have counter : classCounter r = (64, Obj.correctedCount (unitDie r.reporter)) := if_pos corrected
    rw [counter] at counts
    exact counts
  · have counter : classCounter r = (64, Obj.containedCount (unitDie r.reporter)) :=
      (if_neg (by omega)).trans (if_pos contained)
    rw [counter] at counts
    exact counts
  · have counter : classCounter r = (32, Obj.fatalCount (unitDie r.reporter)) := (if_neg (by omega)).trans (if_neg (by omega))
    rw [counter] at counts
    exact counts

theorem State.reportOnly_reported (s : State) (r : FaultRep) : Reported s (s.reportOnly r) r := by
  obtain ⟨o, e, ss, m, d, gs, eq, -⟩ := s.faultLogged_eq r
  have tenants : (s.faultLogged r).tenants = s.tenants := by rw [eq]
  have quiet (noVeto : ∀ n x k, r.work = some (n, x, k) → ¬ (r.cls = 2 ∧ k ≠ 0)) : Reported s (s.faultLogged r) r := by
    have := State.faultLogged_reported (s := s) (r := r) (ts := (s.faultLogged r).tenants) fun n x k work contained step =>
      absurd ⟨contained, step⟩ (noVeto n x k work)
    exact this
  cases work : r.work with
  | none =>
    have run : s.reportOnly r = s.faultLogged r := by
      unfold State.reportOnly
      rw [work] <;> rfl
    rw [run]
    exact quiet fun n x k h => by rw [work] at h; cases h
  | some w =>
    obtain ⟨n, x, k⟩ := w
    by_cases vetoes : r.cls = 2 ∧ k ≠ 0
    · have run : s.reportOnly r = (s.faultLogged r).vetoStep n k := by
        unfold State.reportOnly
        rw [work]
        exact if_pos vetoes
      rw [run]
      refine State.faultLogged_reported (ts := ((s.faultLogged r).vetoStep n k).tenants) fun n' x' k' work' _ _ => ?_
      rw [work] at work'
      cases work'
      have tenant : (s.faultLogged r).tenant n = s.tenant n := by rw [State.tenant, tenants, State.tenant]
      have set := s.setTenant_tenantSet n ((s.tenant n).modStep k fun p => { p with faulted := true })
      unfold State.vetoStep
      rw [tenant, State.setTenant, tenants]
      exact set
    · have run : s.reportOnly r = s.faultLogged r := by
        unfold State.reportOnly
        rw [work]
        exact if_neg vetoes
      rw [run]
      exact quiet fun n' x' k' h => by rw [work] at h; cases h; exact vetoes

theorem State.report_ends (s : State) (r : FaultRep) : ReportEnds s (s.report r) r := by
  refine ⟨fun survivable => ?_, fun fatal => ⟨_, s.reportOnly_reported r, if_pos fatal⟩⟩
  rw [State.report, if_neg survivable]
  exact s.reportOnly_reported r

end Sys2Proof.Machine
end

section
/-! What a reported error poisons, counts and faults, a pair of error lines, the watchdog, and the perturbations (R126, R144, R208, R350,
R613 to R618, R630 to R639). -/

namespace Sys2Proof.Machine

set_option Elab.async false

section
variable {s : State} {r : FaultRep}

/-! What a report names -/

theorem State.countInner_other (h : 8 ≤ unitDie r.reporter ∨ unitGroup r.reporter ≠ 16 ∨ 5 ≤ unitUnit r.reporter ∨
    ¬ ((r.cls = 1 ∧ r.cause = 1) ∨ (r.cls = 2 ∧ r.cause = 2))) : s.countInner r = s := by
  unfold State.countInner
  split
  next named =>
    obtain ⟨die, group, inner⟩ := named
    have unit : 5 ≤ unitUnit r.reporter := by
      rcases h with h | h | h | h
      · omega
      · exact absurd group h
      · exact h
      · exact absurd inner h
    exact (if_neg (by omega)).trans (if_neg (by omega))
  next => rfl

theorem State.count_isCounted (s : State) (w k : Nat) : Counted w k s (s.count w k) := s.count_counted w k

/-- The counter of a memory unit (R346, R360): of a Main stack, or of a Deep device. -/
theorem State.countDevice_counts {die k : Nat} (hk : k < 5) (corrected : Bool) : s.countDevice die k corrected =
    if corrected then s.count 64 (if k < 3 then Obj.mainCorrectedCount die k else Obj.deepCorrectedCount die (k - 3))
    else s.count 32 (if k < 3 then Obj.mainUncorrectedCount die k else Obj.deepUncorrectedCount die (k - 3)) := by
  unfold State.countDevice
  by_cases main : k < 3
  · simp only [if_pos main]
  · simp only [if_neg main, if_pos hk]

theorem State.countInner_corrected (die : unitDie r.reporter < 8) (group : unitGroup r.reporter = 16) (cls : r.cls = 1) (cause : r.cause = 1)
    (hk : unitUnit r.reporter < 5) : Counted 64 (if unitUnit r.reporter < 3 then Obj.mainCorrectedCount (unitDie r.reporter)
      (unitUnit r.reporter) else Obj.deepCorrectedCount (unitDie r.reporter) (unitUnit r.reporter - 3)) s (s.countInner r) := by
  have run : s.countInner r = s.count 64 (if unitUnit r.reporter < 3 then Obj.mainCorrectedCount (unitDie r.reporter)
      (unitUnit r.reporter) else Obj.deepCorrectedCount (unitDie r.reporter) (unitUnit r.reporter - 3)) := by
    unfold State.countInner
    rw [if_pos ⟨die, group, .inl ⟨cls, cause⟩⟩, State.countDevice_counts hk, cls]
    exact if_pos rfl
  rw [run]
  exact s.count_isCounted _ _

theorem State.countInner_uncorrected (die : unitDie r.reporter < 8) (group : unitGroup r.reporter = 16) (cls : r.cls = 2)
    (cause : r.cause = 2) (hk : unitUnit r.reporter < 5) : Counted 32 (if unitUnit r.reporter < 3 then
      Obj.mainUncorrectedCount (unitDie r.reporter) (unitUnit r.reporter)
      else Obj.deepUncorrectedCount (unitDie r.reporter) (unitUnit r.reporter - 3)) s (s.countInner r) := by
  have run : s.countInner r = s.count 32 (if unitUnit r.reporter < 3 then Obj.mainUncorrectedCount (unitDie r.reporter)
      (unitUnit r.reporter) else Obj.deepUncorrectedCount (unitDie r.reporter) (unitUnit r.reporter - 3)) := by
    unfold State.countInner
    rw [if_pos ⟨die, group, .inr ⟨cls, cause⟩⟩, State.countDevice_counts hk, cls]
    exact if_neg (by decide)
  rw [run]
  exact s.count_isCounted _ _

theorem State.poisonNamed_other (h : r.cls ≠ 2 ∨ r.cause ≠ 2 ∨ r.address / 2 ^ 50 ≠ s.chip) : s.poisonNamed r = s :=
  if_neg fun ⟨cls, cause, chip⟩ => h.elim (· cls) fun h => h.elim (· cause) (· chip)

theorem State.poisonNamed_poisons {n x st base : Nat} {e : Entry} (cls : r.cls = 2) (cause : r.cause = 2)
    (chip : r.address / 2 ^ 50 = s.chip) (work : r.work = some (n, x, st))
    (found : s.findEntry n (r.address % 2 ^ 50) .plain = some (base, e)) : s.poisonNamed r = { s with
      poison := Sparse.set 0 (lineKey e.committed ((r.address % 2 ^ 50 - e.base) / 64)) 1 s.poison } := by
  unfold State.poisonNamed
  rw [if_pos ⟨cls, cause, chip⟩, work]
  dsimp only
  rw [found]
  exact rfl

theorem State.faultReached_reaches {c n x st : Nat} (work : r.work = some (n, x, st)) (core : coreOfUnit r.reporter = some c) :
    (r.cls ≠ 2 ∨ s.ctxWork c x = none → s.faultReached r = s) ∧
    (r.cls = 2 → (s.ctxWork c x).isSome = true → ((s.faultReached r).ctx c x).state = 4 ∧
      ((s.faultReached r).ctx c x).firstFault = some ((s.ctx c x).firstFault.getD (r.reporter, r.access)) ∧
      (∀ d y, ctxKey d y ≠ ctxKey c x → (s.faultReached r).ctx d y = s.ctx d y)) := by
  have run : s.faultReached r = if r.cls = 2 ∧ (s.ctxWork c x).isSome then s.stopFaulted c x r.reporter r.access else s := by
    unfold State.faultReached
    rw [work, core]
  refine ⟨fun h => ?_, fun cls runs => ?_⟩
  · rw [run]
    refine if_neg fun ⟨cls, runs⟩ => ?_
    rcases h with other | idle
    · exact other cls
    · rw [idle] at runs
      exact Bool.false_ne_true runs
  · rw [run, if_pos ⟨cls, runs⟩]
    obtain ⟨-, state, -, first, -, others, -⟩ := State.stopFaulted_spec s c x r.reporter r.access
    exact ⟨state, first, others⟩

theorem State.faultReached_nothing (h : r.work = none ∨ coreOfUnit r.reporter = none) : s.faultReached r = s := by
  unfold State.faultReached
  rcases h with none | none
  · rw [none]
  · rw [none]
    cases r.work <;> rfl

/-! Where in a core (R126, R208) -/

theorem State.poisonSite_nothing {e : ErrSite}
    (h : coreOfUnit r.reporter = none ∨ r.cls ≠ 2 ∨ r.cause ≠ 2 ∨ e = .elsewhere) : s.poisonSite r e = s := by
  unfold State.poisonSite
  cases core : coreOfUnit r.reporter with
  | none => exact rfl
  | some c =>
    dsimp only
    by_cases other : r.cls ≠ 2 ∨ r.cause ≠ 2
    · exact if_pos other
    · rw [if_neg other]
      have site : e = .elsewhere := by
        rcases h with none | cls | cause | site
        · rw [core] at none; cases none
        · exact absurd (.inl cls) other
        · exact absurd (.inr cause) other
        · exact site
      rw [site]

section
variable {c : Nat} (core : coreOfUnit r.reporter = some c) (cls : r.cls = 2) (cause : r.cause = 2)
include core cls cause

theorem State.poisonSite_side (engine : r.reporter % 8 = 2) (k : Nat) : s.poisonSite r (.side k) =
    s.setCore c { s.core c with sidePoison := Sparse.set 0 k 1 (s.core c).sidePoison } := by
  have uncorrectable : ¬ (r.cls ≠ 2 ∨ r.cause ≠ 2) := by simp [cls, cause]
  unfold State.poisonSite
  rw [core]
  dsimp only
  rw [if_neg uncorrectable, if_neg (not_not.2 engine)]

omit core cls cause in
/-- The planes of a core once one of a partition is bad. -/
def State.planesHit (s : State) (c p w : Nat) : Sparse Plane :=
  let v : Plane := Sparse.get {} p (s.core c).planes
  Sparse.set {} p (if w = 0 then { v with badA := true } else { v with badB := true }) (s.core c).planes

theorem State.poisonSite_plane (engine : r.reporter % 8 = 0) {p : Nat} (mode : partOk (s.core c).mode p = true) (w : Nat) :
    s.poisonSite r (.plane p w) = (s.setCore c { s.core c with planes := s.planesHit c p w }).partitionErrors c r [p] := by
  have uncorrectable : ¬ (r.cls ≠ 2 ∨ r.cause ≠ 2) := by simp [cls, cause]
  have owned : ¬ (r.reporter % 8 ≠ 0 ∨ (!partOk (s.core c).mode p) = true) := by simp [engine, mode]
  unfold State.poisonSite
  rw [core]
  dsimp only
  rw [if_neg uncorrectable, if_neg owned]
  exact rfl

theorem State.poisonSite_accumulator (engine : r.reporter % 8 = 7) (row col : Nat) : ∃ own, s.poisonSite r (.accumulator row col) =
    (s.setCore c { s.core c with accBad := Sparse.set 0 (row * 64 + col) 1 (s.core c).accBad }).partitionErrors c r own := by
  have uncorrectable : ¬ (r.cls ≠ 2 ∨ r.cause ≠ 2) := by simp [cls, cause]
  unfold State.poisonSite
  rw [core]
  dsimp only
  rw [if_neg uncorrectable, if_neg (not_not.2 engine)]
  exact ⟨_, rfl⟩

end

/-! The partitions' own faults (R126, R144) -/

/-- A partition that runs nothing only counts. -/
theorem State.partitionErrors_idle {c p : Nat} (idle : ∀ i ∈ (s.core c).issued, i.part ≠ p) :
    s.partitionErrors c r [p] = s.count 32 (Obj.partitionFaultCount c) := by
  have none : (s.core c).issued.filter (fun i => i.part == p) = [] := List.filter_eq_nil_iff.2 fun i hi => by simpa using idle i hi
  unfold State.partitionErrors
  rw [List.foldl_cons, List.foldl_nil]
  dsimp only
  rw [none]
  exact rfl

/-- One that runs a single context drains it and faults it. -/
theorem State.partitionErrors_one {c p x : Nat}
    (one : (((s.core c).issued.filter fun i => i.part == p).map (·.ctx)).eraseDups = [x]) : s.partitionErrors c r [p] =
    ((s.count 32 (Obj.partitionFaultCount c)).modCore c fun v => v.drain x (v.running x)).stopFaulted c x r.reporter r.access := by
  unfold State.partitionErrors
  rw [List.foldl_cons, List.foldl_nil]
  dsimp only
  rw [one]
  exact rfl

theorem State.partitionErrors_drains {c p x : Nat}
    (one : (((s.core c).issued.filter fun i => i.part == p).map (·.ctx)).eraseDups = [x]) : ∃ u,
    s.partitionErrors c r [p] = u ∧ (u.ctx c x).state = 4 ∧ (u.core c).issued = (s.core c).issued.filter (fun i => i.ctx != x) ∧
    (∀ q ∈ regionKeys (s.core c).mode p, Sparse.get 0 q (u.core c).accPoison = 1) ∧
    u.reg (Obj.partitionFaultCount c) = (s.reg (Obj.partitionFaultCount c) + 1) % 2 ^ 32 := by
  obtain ⟨m, drained, poisoned⟩ := Core.drain_eq (s.core c) x ((s.core c).running x)
  have runs : p ∈ (s.core c).running x := by
    have listed : x ∈ (((s.core c).issued.filter fun i => i.part == p).map (·.ctx)).eraseDups := by rw [one]; exact List.mem_singleton.2 rfl
    obtain ⟨i, issued, ctx⟩ := List.mem_map.1 (List.mem_eraseDups.1 listed)
    obtain ⟨issued, part⟩ := List.mem_filter.1 issued
    have running := Core.mem_running issued ctx
    rwa [beq_iff_eq.1 part] at running
  refine ⟨_, State.partitionErrors_one one, ?_⟩
  generalize hu : (s.count 32 (Obj.partitionFaultCount c)).modCore c (fun v => v.drain x (v.running x)) = u
  have core : u.core c = { s.core c with issued := (s.core c).issued.filter fun i => i.ctx != x, accPoison := m } := by
    rw [← hu, ← drained]
    exact State.core_setCore _ c _
  obtain ⟨⟨ct, co, stopped⟩, state, -⟩ := State.stopFaulted_spec u c x r.reporter r.access
  refine ⟨state, ?_, ?_, ?_⟩
  · rw [State.core_stopFaulted, core]
  · rw [State.core_stopFaulted, core]
    exact poisoned p runs
  · rw [stopped, ← hu]
    exact State.reg_setReg_same _ _ _

/-- No partition's fault changes which accumulator entries are bad. -/
theorem State.partitionErrors_accBad (s : State) (c : Nat) (r : FaultRep) (parts : List Nat) :
    ((s.partitionErrors c r parts).core c).accBad = (s.core c).accBad := by
  refine List.foldlRecOn (motive := fun u : State => (u.core c).accBad = (s.core c).accBad) parts _ rfl fun t ht p _ => ?_
  refine List.foldlRecOn (motive := fun u : State => (u.core c).accBad = (s.core c).accBad) _ _ ht fun u hu x _ => ?_
  obtain ⟨m, drained, -⟩ := Core.drain_eq (u.core c) x ((u.core c).running x)
  rw [State.core_stopFaulted, State.modCore, State.core_setCore, drained]
  exact hu

theorem State.poisonSite_planeIdle {c p : Nat} (core : coreOfUnit r.reporter = some c) (cls : r.cls = 2) (cause : r.cause = 2)
    (engine : r.reporter % 8 = 0) (mode : partOk (s.core c).mode p = true) (idle : ∀ i ∈ (s.core c).issued, i.part ≠ p) (w : Nat) : ∃ u,
    s.poisonSite r (.plane p w) = u ∧
      Counted 32 (Obj.partitionFaultCount c) { s with cores := u.cores } u ∧ u.core c = { s.core c with planes := (u.core c).planes } ∧
      (w = 0 → (Sparse.get {} p (u.core c).planes).badA = true) ∧ (w ≠ 0 → (Sparse.get {} p (u.core c).planes).badB = true) ∧
      ∀ q, q ≠ p → Sparse.get {} q (u.core c).planes = Sparse.get {} q (s.core c).planes := by
  have run : s.poisonSite r (.plane p w) =
      (s.setCore c { s.core c with planes := s.planesHit c p w }).count 32 (Obj.partitionFaultCount c) := by
    rw [State.poisonSite_plane core cls cause engine mode w]
    refine State.partitionErrors_idle fun i hi => idle i ?_
    rwa [State.core_setCore] at hi
  have set : ((s.setCore c { s.core c with planes := s.planesHit c p w }).count 32 (Obj.partitionFaultCount c)).core c =
      { s.core c with planes := s.planesHit c p w } := State.core_setCore _ c _
  refine ⟨_, run, State.count_isCounted _ _ _, by rw [set], fun a => ?_, fun b => ?_, fun q other => ?_⟩
  · rw [set, State.planesHit, if_pos a, Sparse.get_set_same]
  · rw [set, State.planesHit, if_neg b, Sparse.get_set_same]
  · rw [set, State.planesHit, Sparse.get_set_other _ _ _ _ _ _ other]

end

/-! A pair of error lines (R616 to R618) -/

theorem pairState_invalid (p : Bool × Bool) : (pairState p == .invalid) = true ↔ ∃ b, p = (b, b) := by
  obtain ⟨a, b⟩ := p
  cases a <;> cases b <;> simp [pairState]

theorem heldInvalid_iff (ps : List (Bool × Bool)) : heldInvalid ps = true ↔
    ∃ i, i + 4 ≤ ps.length ∧ ∀ j, i ≤ j → j < i + 4 → ∃ b, ps[j]? = some (b, b) := by
  induction ps using heldInvalid.induct with
  | case1 a b c d rest ih =>
    rw [heldInvalid, Bool.or_eq_true, ih]
    have here : ([a, b, c, d].all fun p => pairState p == .invalid) = true ↔
        ∀ j, 0 ≤ j → j < 0 + 4 → ∃ v, (a :: b :: c :: d :: rest)[j]? = some (v, v) := by
      simp only [List.all_cons, List.all_nil, Bool.and_true, Bool.and_eq_true, pairState_invalid]
      constructor
      · rintro ⟨⟨va, ha⟩, ⟨vb, hb⟩, ⟨vc, hc⟩, vd, hd⟩ j - low
        match j, low with
        | 0, _ => exact ⟨va, congrArg some ha⟩
        | 1, _ => exact ⟨vb, congrArg some hb⟩
        | 2, _ => exact ⟨vc, congrArg some hc⟩
        | 3, _ => exact ⟨vd, congrArg some hd⟩
      · intro held
        exact ⟨(held 0 (by omega) (by omega)).imp fun _ => Option.some.inj, (held 1 (by omega) (by omega)).imp fun _ => Option.some.inj,
          (held 2 (by omega) (by omega)).imp fun _ => Option.some.inj, (held 3 (by omega) (by omega)).imp fun _ => Option.some.inj⟩
    constructor
    · rintro (first | ⟨i, fits, later⟩)
      · exact ⟨0, by simp, here.1 first⟩
      · refine ⟨i + 1, by simp only [List.length_cons] at fits ⊢; omega, fun j low high => ?_⟩
        obtain ⟨k, rfl⟩ : ∃ k, j = k + 1 := ⟨j - 1, by omega⟩
        exact later k (by omega) (by omega)
    · rintro ⟨i, fits, held⟩
      cases i with
      | zero => exact .inl (here.2 held)
      | succ i =>
        refine .inr ⟨i, by simp only [List.length_cons] at fits ⊢; omega, fun j low high => ?_⟩
        exact held (j + 1) (by omega) (by omega)
  | case2 ps short =>
    have few : ps.length < 4 := by
      match ps, short with
      | [], _ => exact (by decide : 0 < 4)
      | [_], _ => exact (by decide : 1 < 4)
      | [_, _], _ => exact (by decide : 2 < 4)
      | [_, _, _], _ => exact (by decide : 3 < 4)
      | a :: b :: c :: d :: rest, short => exact absurd rfl (short a b c d rest)
    rw [heldInvalid]
    · exact ⟨nofun, fun ⟨i, fits, _⟩ => absurd fits (by omega)⟩
    · exact short

theorem wiringFault_ignored {s : State} {u : Nat} {ps : List (Bool × Bool)}
    (h : wiringBit u = none ∨ heldInvalid ps = false ∨ s.device = devOff ∨ s.device = devHalted) :
    exec (.wiringFault ⟨u, ps⟩) s = .next s := by
  change execWiringFault ⟨u, ps⟩ s = .next s
  unfold execWiringFault
  dsimp only
  cases bit : wiringBit u with
  | none => exact rfl
  | some q =>
    obtain ⟨cl, b⟩ := q
    refine if_pos ?_
    rcases h with none | valid | off | halted
    · rw [bit] at none; cases none
    · exact .inr (.inr valid)
    · exact .inl off
    · exact .inr (.inl halted)

theorem State.stopCtx_stopped (s : State) (c x st : Nat) : CtxStopped s (s.stopCtx c x st) c x st := by
  have here : (s.stopCtx c x st).ctx c x = { s.ctx c x with
      stopping := some st
      state := 3
      waits := .nothing
      tokens := (s.ctx c x).tokens.filter fun p => p.2 != .outstanding } := State.ctx_setCtx _ _ _ _
  refine ⟨?_, ?_, ?_, fun d y other => State.ctx_setCtx_other _ _ _ _ _ _ other, State.core_setCore _ _ _,
    fun d other => State.core_setCore_other _ _ _ _ other, rfl⟩
  · rw [here]
    exact ⟨rfl, rfl, rfl⟩
  · rw [here]
  · rw [here]

theorem State.ctxsStopped_foldl (c st : Nat) (xs : List Nat) (s : State) :
    CtxsStopped c st xs s (xs.foldl (fun t x => if (t.ctxWork c x).isSome then t.stopCtx c x st else t) s) := by
  induction xs generalizing s with
  | nil => exact rfl
  | cons x xs ih =>
    rw [List.foldl_cons, CtxsStopped]
    split
    · exact ⟨_, s.stopCtx_stopped c x st, ih _⟩
    · exact ih s

theorem State.coresRetired_foldl (cs : List Nat) (s : State) : CoresRetired cs s (cs.foldl (fun t c => t.retireCore c) s) := by
  induction cs generalizing s with
  | nil => exact rfl
  | cons c cs ih =>
    refine ⟨s.retireCore c, ⟨_, State.core_setCore s c _, fun d other => State.core_setCore_other _ _ _ _ other, rfl, ?_⟩, ih _⟩
    exact State.ctxsStopped_foldl c 1 (List.range 4) _

theorem wiringFault_retires {s : State} {u cl b : Nat} {ps : List (Bool × Bool)} (on : s.device ≠ devOff) (running : s.device ≠ devHalted)
    (bit : wiringBit u = some (cl, b)) (held : heldInvalid ps = true) : (let k := Obj.clusterWiring (unitDie u) cl
     let first := unitDie u * 64 + cl * 8
     ∃ v w t, exec (.wiringFault ⟨u, ps⟩) s = .next t ∧ v.latch k = ⟨(s.latch k).word ||| 2 ^ b, bumpEvents (s.latch k).count⟩ ∧
      (∀ j, j ≠ k → v.latch j = s.latch j) ∧ { v with latches := s.latches } = s ∧
      CoresRetired (if b < 64 then [first + b / 8] else (List.range 8).map fun i => first + i) v w ∧
      ReportEnds w t (blockReport 2 13 u)) := by
  dsimp only
  refine ⟨_, _, _, ?_, State.latch_setLatch s _ ((s.latch (Obj.clusterWiring (unitDie u) cl)).hit (2 ^ b)),
    fun j other => State.latch_setLatch_other _ _ _ _ other, rfl, State.coresRetired_foldl _ _, State.report_ends _ _⟩
  change execWiringFault ⟨u, ps⟩ s = _
  unfold execWiringFault
  dsimp only
  rw [bit]
  exact if_neg (by simp [on, running, held])

/-! The watchdog (R630) -/

section
variable {s : State}

theorem State.afterWatchdogReset_iff : s.afterWatchdogReset = false ↔
    ∀ t0, s.dev.watchdogReset = some t0 → t0 + 10000000000 ≤ s.up := by
  unfold State.afterWatchdogReset
  cases s.dev.watchdogReset <;> simp

theorem State.secondExpiry_iff : s.secondExpiry = true ↔ ∃ t0, s.dev.lastWatchdog = some t0 ∧ s.up ≤ t0 + 1000000000 := by
  unfold State.secondExpiry
  cases s.dev.lastWatchdog <;> simp

/-- The state once an expiry is counted, and kept as the last one or not. -/
def State.expired (s : State) (last : Option Nat) : State :=
  { s.count 32 Obj.watchdogCount with dev := { (s.count 32 Obj.watchdogCount).dev with lastWatchdog := last } }

section
variable {p : Nat} (on : s.device ≠ devOff) (running : s.device ≠ devHalted) (well : s.device ≠ devRecovery)
include on running well

theorem watchdogExpiry_fatal (early : s.afterWatchdogReset = true) :
    exec (.watchdogExpiry p) s = .next ((s.count 32 Obj.watchdogCount).report (blockReport 3 18 (0xC000 + p))) := by
  change execWatchdogExpiry p s = _
  unfold execWatchdogExpiry
  rw [if_neg (by simp [on, running, well]), early, if_pos rfl]

theorem watchdogExpiry_first (late : s.afterWatchdogReset = false) (first : s.secondExpiry = false) :
    exec (.watchdogExpiry p) s = .next ((s.expired (some s.up)).report (blockReport 2 18 (0xC000 + p))) := by
  change execWatchdogExpiry p s = _
  unfold execWatchdogExpiry
  rw [if_neg (by simp [on, running, well]), late, first]
  dsimp only
  rw [if_neg Bool.false_ne_true, Bool.false_and, if_neg Bool.false_ne_true, if_neg Bool.false_ne_true, State.expired]

theorem watchdogExpiry_second (late : s.afterWatchdogReset = false) (second : s.secondExpiry = true) :
    exec (.watchdogExpiry p) s = .next (
      let v := (s.expired none).report (blockReport 2 18 (0xC000 + p))
      if v.isUp then State.coreReset { v with dev := { v.dev with watchdogReset := some s.up } } else v) := by
  change execWatchdogExpiry p s = _
  unfold execWatchdogExpiry
  rw [if_neg (by simp [on, running, well]), late, second]
  dsimp only
  rw [if_neg Bool.false_ne_true, Bool.true_and, if_pos rfl, State.expired]
  exact (apply_ite Host.Outcome.next _ _ _).symm

end

/-- The counting and the report leave the package up, or not, as it was. -/
theorem State.expired_isUp (last : Option Nat) (p : Nat) : ((s.expired last).report (blockReport 2 18 (0xC000 + p))).isUp = s.isUp := by
  have below : Obj.belowFaults Obj.deviceState := (by decide : Obj.deviceState < obj 0x9000 0)
  have device : ((s.expired last).report (blockReport 2 18 (0xC000 + p))).device = s.device := by
    refine (State.report_regs (show (2 : Nat) ≠ 3 by decide) _ _ (Obj.not_mem_reportObjs below _)).trans ?_
    exact State.reg_setReg_other _ _ _ _ (by decide)
  rw [State.isUp, device, State.isUp]

theorem watchdogExpiry_reports {p : Nat} (on : s.device ≠ devOff) (running : s.device ≠ devHalted) (well : s.device ≠ devRecovery) :
    (let late := ∀ t0, s.dev.watchdogReset = some t0 → t0 + 10000000000 ≤ s.up
     let second := ∃ t0, s.dev.lastWatchdog = some t0 ∧ s.up ≤ t0 + 1000000000
     ∃ u v t, exec (.watchdogExpiry p) s = .next t ∧ Counted 32 Obj.watchdogCount s u ∧
      (¬ late → ReportEnds u t (blockReport 3 18 (0xC000 + p))) ∧
      (late → ¬ second → ReportEnds { u with dev := { u.dev with lastWatchdog := some s.up } } t (blockReport 2 18 (0xC000 + p))) ∧
      (late → second → ReportEnds { u with dev := { u.dev with lastWatchdog := none } } v (blockReport 2 18 (0xC000 + p)) ∧
        (s.isUp = true → t = State.coreReset { v with dev := { v.dev with watchdogReset := some s.up } }) ∧
        (s.isUp = false → t = v))) := by
  intro late second
  have reset : s.afterWatchdogReset = false ↔ late := State.afterWatchdogReset_iff
  have again : s.secondExpiry = true ↔ second := State.secondExpiry_iff
  clear_value late second
  have counted := s.count_isCounted 32 Obj.watchdogCount
  by_cases past : late
  · by_cases twice : second
    · have run := watchdogExpiry_second (p := p) on running well (reset.2 past) (again.2 twice)
      refine ⟨_, (s.expired none).report (blockReport 2 18 (0xC000 + p)), _, run, counted, fun h => absurd past h,
        fun _ h => absurd twice h, fun _ _ => ⟨State.report_ends _ _, fun up => ?_, fun down => ?_⟩⟩
      · dsimp only
        rw [if_pos ((State.expired_isUp none p).trans up)]
      · dsimp only
        rw [if_neg (by rw [State.expired_isUp none p, down]; decide)]
    · have first : s.secondExpiry = false := Bool.eq_false_iff.2 fun h => twice (again.1 h)
      exact ⟨_, s, _, watchdogExpiry_first on running well (reset.2 past) first, counted, fun h => absurd past h,
        fun _ _ => State.report_ends _ _, fun _ h => absurd h twice⟩
  · have early : s.afterWatchdogReset = true := Bool.eq_true_of_not_eq_false fun h => past (reset.1 h)
    exact ⟨_, s, _, watchdogExpiry_fatal on running well early, counted, fun _ => State.report_ends _ _, fun h => absurd h past,
      fun h => absurd h past⟩

end

end Sys2Proof.Machine
end

section
/-! The perturbations and their end (R631 to R639), and the statement of faults. -/

namespace Sys2Proof.Machine

set_option Elab.async false

/-- A session that may write it sets test mode to 1 or 0; with a tenant admitted, the 0 ends every perturbation. -/
theorem testModeWrite_run {s : State} {sess v : Nat} (may : MayWrite s sess 0xC000 1) : exec (.testModeWrite sess v) s = .next (
    if v = 1 then s.setReg Obj.testMode 1
    else if (s.setReg Obj.testMode 0).notFree.isEmpty then s.setReg Obj.testMode 0 else (s.setReg Obj.testMode 0).clearPerturb) :=
  congrArg Host.Outcome.next (State.guarded_may _ may)

theorem testModeWrite_sets {s : State} {sess v : Nat} (may : MayWrite s sess 0xC000 1) : ∃ u t, exec (.testModeWrite sess v) s = .next t ∧
    OnlyRegs [Obj.testMode] s u ∧ u.reg Obj.testMode = (if v = 1 then 1 else 0) ∧
    (v = 1 ∨ s.notFree = [] → t = u) ∧ (v ≠ 1 → s.notFree ≠ [] → t = u.clearPerturb) := by
  have tenants (w : Nat) : (s.setReg Obj.testMode w).notFree = s.notFree := rfl
  by_cases one : v = 1
  · refine ⟨_, _, testModeWrite_run may, s.onlyRegs_setReg _ 1, ?_, fun _ => if_pos one, fun other => absurd one other⟩
    rw [State.reg_setReg_same, if_pos one]
  · refine ⟨_, _, testModeWrite_run may, s.onlyRegs_setReg _ 0, ?_, fun h => ?_, fun _ admitted => ?_⟩
    · rw [State.reg_setReg_same, if_neg one]
    · rw [if_neg one, tenants, h.resolve_left one]
      exact if_pos rfl
    · rw [if_neg one, tenants, if_neg (by rwa [List.isEmpty_iff])]

theorem perturbStop_run {s : State} {sess v : Nat} (may : MayWrite s sess 0xC000 3) : exec (.perturbStop sess v) s = .next (
    if v = 1 then s.clearPerturb else s) := congrArg Host.Outcome.next (State.guarded_may _ may)

/-- Registers that are no perturbation's name no row of R633. -/
theorem foldl_rows_none (regs : List (Nat × Nat)) (unlisted : ∀ p ∈ regs, perturbRow p.1 = .none) (a : Nat) :
    regs.foldl (fun a p => match perturbRow p.1 with | some r => a ||| 2 ^ r | none => a) a = a := by
  induction regs with
  | nil => rfl
  | cons p regs ih =>
    rw [List.foldl_cons, unlisted p List.mem_cons_self]
    exact ih fun q hq => unlisted q (List.mem_cons_of_mem _ hq)

theorem State.clearPerturb_clears (s : State) : s.clearPerturb.perturbActive = 0 ∧ s.clearPerturb.injections = [] ∧
    { s.clearPerturb with regs := s.regs, injections := s.injections } = s := by
  refine ⟨?_, rfl, rfl⟩
  have rows := foldl_rows_none s.clearPerturb.regs (fun p hp => Option.isNone_iff_eq_none.1 (List.mem_filter.1 hp).2) 0
  unfold State.perturbActive
  dsimp only
  rw [show s.clearPerturb.injections.isEmpty = true from rfl, if_pos rfl]
  exact rows

theorem State.clearPerturb_regs (s : State) (k : Nat) : (perturbRow k ≠ none → s.clearPerturb.reg k = regDefault k) ∧
    (perturbRow k = none → s.clearPerturb.reg k = s.reg k) := by
  have kept : s.clearPerturb.reg k = if (perturbRow k).isNone = true then s.reg k else regDefault k :=
    Sparse.get_filter (regDefault k) k (fun j => (perturbRow j).isNone) s.regs
  refine ⟨fun perturbs => ?_, fun other => ?_⟩
  · rw [kept, if_neg (by rwa [Option.isNone_iff_eq_none])]
  · rw [kept, if_pos (Option.isNone_iff_eq_none.2 other)]

theorem memoryInject_run {s : State} {sess a k : Nat} (may : MayWrite s sess 0xC200 1) : exec (.memoryInject sess a k) s = .next (
    if (s.notFree = [] ∨ s.reg Obj.testMode = 1) ∧ a / 2 ^ 50 = s.chip ∧ (k = 1 ∨ k = 2) ∧ s.injections.length < 16 then
      { s with injections := s.injections ++ [{ address := a % 2 ^ 50, kind := k }] }
    else s) := by
  have allowed : (s.perturbAllowed && a / 2 ^ 50 == s.chip && (k == 1 || k == 2) && decide (s.injections.length < 16)) = true ↔
      (s.notFree = [] ∨ s.reg Obj.testMode = 1) ∧ a / 2 ^ 50 = s.chip ∧ (k = 1 ∨ k = 2) ∧ s.injections.length < 16 := by
    simp only [State.perturbAllowed, Bool.and_eq_true, Bool.or_eq_true, List.isEmpty_iff, beq_iff_eq, decide_eq_true_eq, and_assoc]
  exact congrArg Host.Outcome.next ((State.guarded_may _ may).trans (if_congr allowed rfl rfl))

/-- Settles O43: a report ends as its class says, once what it names is counted, poisoned and faulted; and each of the other commands by
its own lemma. -/
theorem faultsAndPerturbations : Obligations.FaultsAndPerturbations := by
  refine ⟨?off, fun s r e on running => ⟨_, if_neg (by simp [on, running]), State.report_ends _ _⟩, fun s r _ => s.report_ends r,
    fun s r => ⟨State.countInner_other, State.countInner_corrected, State.countInner_uncorrected⟩, fun _ _ => State.poisonNamed_other,
    fun _ _ _ _ _ _ _ => State.poisonNamed_poisons, fun _ _ _ _ _ _ work core => State.faultReached_reaches work core,
    fun _ _ => State.faultReached_nothing, fun _ _ _ => State.poisonSite_nothing, ?side, ?plane, ?accumulator,
    fun _ _ _ _ _ => State.partitionErrors_drains, ?ignored, heldInvalid_iff, fun _ _ _ _ _ => wiringFault_retires, ?recovery,
    fun _ _ => watchdogExpiry_reports, fun _ _ _ => testModeWrite_sets, fun _ _ _ => perturbStop_run, State.clearPerturb_clears,
    State.clearPerturb_regs, fun _ _ _ _ => memoryInject_run⟩
  case off =>
    intro s r e u p ps off
    exact ⟨if_pos off, wiringFault_ignored (.inr (.inr off)), if_pos (off.imp_right .inl)⟩
  case side =>
    intro s r c k core cls cause engine
    rw [State.poisonSite_side core cls cause engine]
    exact State.core_setCore _ _ _
  case plane =>
    intro s r c p w core cls cause engine mode idle
    exact State.poisonSite_planeIdle core cls cause engine mode idle w
  case accumulator =>
    intro s r c row col core cls cause engine
    obtain ⟨own, run⟩ := State.poisonSite_accumulator (s := s) core cls cause engine row col
    rw [run, State.partitionErrors_accBad, State.core_setCore]
    exact Sparse.get_set_same (0 : Nat) (row * 64 + col) 1 (s.core c).accBad
  case ignored =>
    intro s u ps h
    exact wiringFault_ignored (h.imp_right .inl)
  case recovery =>
    intro s p recovery
    exact if_pos (.inr (.inr recovery))

end Sys2Proof.Machine
end

section
/-! Sessions as they open and end, their subscriptions, and the notices that they send (R657 to R664, R672 to R675). -/

namespace Sys2Proof.Machine

set_option Elab.async false

/-! What is sent (R662, R710) -/

theorem State.sendControl_ipSent (s : State) (net peer : Nat) (m : Msg) :
    IpSent s (s.sendControl net peer m) (s.controlPort net) false peer m := s.sendIp_ipSent _ _ _ _

theorem State.sendSession_sent (s : State) (id net peer : Nat) (m : Msg) : SessionSent s (s.sendSession id net peer m) id net peer m := by
  refine ⟨fun closed => ?_, fun x known => ⟨s.setSession { x with nextSend := x.nextSend + 1 }, ?_, ?_⟩⟩
  · rw [State.sendSession, closed]
  · have own : x.id = id := State.session?_id known
    exact State.setSession_sessionSet (y := { x with nextSend := x.nextSend + 1 }) (own.symm ▸ known)
  · rw [State.sendSession, known]
    exact rfl

theorem State.notices_sent (id net peer : Nat) (ns : List Notice) (s : State) : NoticesSent id net peer ns s
    (ns.foldl (fun t n => t.sendSession id net peer (.notice id n.sequence n.obj n.loss n.value)) s) := by
  induction ns generalizing s with
  | nil => exact rfl
  | cons n ns ih => exact ⟨_, s.sendSession_sent id net peer _, ih _⟩

/-- The notices behind those in flight follow, while eight are not in flight (R673). -/
theorem State.pump_pumped {s : State} {x : Session} (known : (s.session? x.id).isSome = true) : Pumped s (s.pump x) x := by
  obtain ⟨y, known⟩ := Option.isSome_iff_exists.1 known
  refine ⟨_, State.setSession_sessionSet (x := y) ?_, ?_⟩
  · exact known
  · rw [List.length_map]
    exact State.notices_sent x.id x.net x.peer _ _

theorem State.notices_resent (x : Session) (now : Nat) (ns : List Notice) (s : State) : NoticesResent x now ns s
    (ns.foldl (fun t n =>
      let m : Msg := .notice x.id n.sequence n.obj n.loss n.value
      let t1 := t.sendSession x.id x.net x.peer m
      if n.sentAt + otherNetAfter ≤ now then t1.sendSession x.id (1 - x.net) x.peer m else t1) s) := by
  induction ns generalizing s with
  | nil => exact rfl
  | cons n ns ih =>
    refine ⟨_, _, s.sendSession_sent x.id x.net x.peer (.notice x.id n.sequence n.obj n.loss n.value), fun early => ?_, fun late => ?_,
      ih _⟩
    · exact if_neg (Nat.not_le.2 early)
    · have both : n.sentAt + otherNetAfter ≤ now := late
      simp only [if_pos both]
      exact State.sendSession_sent _ _ _ _ _

section
variable {x : Session} {k : Nat} {v : List Byte}

theorem Session.push_room (room : x.queue.length < 256) : x.push k v =
    { x with queue := x.queue ++ [{ sequence := x.nextEvent, obj := k, loss := false, value := v }],
             nextEvent := x.nextEvent + 1 } := if_pos room

/-- A full queue loses its oldest notice that is not in flight, and marks the one behind it. -/
theorem Session.push_full {fly q : List Notice} {a b : Notice} (queue : x.queue = fly ++ a :: b :: q) (flight : fly.length = x.inflight)
    (full : x.queue.length = 256) : x.push k v =
    { x with queue := fly ++ { b with loss := true } :: q ++ [{ sequence := x.nextEvent, obj := k, loss := false, value := v }],
             nextEvent := x.nextEvent + 1, losses := x.losses + 1 } := by
  have behind : x.queue.drop (x.inflight + 1) = b :: q := by
    rw [queue, ← flight, ← List.drop_drop, List.drop_left, List.drop_one, List.tail_cons]
  have front : x.queue.take x.inflight = fly := by rw [queue, ← flight, List.take_left]
  unfold Session.push
  rw [if_neg (by omega), behind, front]
  dsimp only [List.cons_append]
  rw [List.append_assoc, List.cons_append]

end

/-! A delivery (R672) -/

/-- One subscribed object: it is delivered if its value is another, and may be read. -/
theorem State.deliverSub_served (s : State) (sess : Nat) (q : Nat × List Byte) : SubServed sess q s (s.deliverSub sess q) := by
  refine ⟨fun closed => ?_, fun x known => ⟨fun kept => ?_, fun other may changed => ?_⟩⟩
  · unfold State.deliverSub
    dsimp only
    rw [closed]
  · unfold State.deliverSub
    dsimp only
    rw [known]
    dsimp only
    rcases kept with event | unread | same
    · rw [event, Bool.true_or, if_pos rfl]
    · rw [unread, Bool.not_false, Bool.or_true, if_pos rfl]
    · rw [if_pos same, ite_self]
  · have run : s.deliverSub sess q = s.pump (Session.push { x with subs := x.subs.map fun (p : Nat × List Byte) =>
        if p.1 = q.1 then (p.1, s.objValue x ⟨q.1 / 256, q.1 % 256⟩) else p } q.1 (s.objValue x ⟨q.1 / 256, q.1 % 256⟩)) := by
      unfold State.deliverSub
      dsimp only
      rw [known]
      dsimp only
      rw [other, may, if_neg changed]
      exact if_neg (by decide)
    have own (y : Session) (k : Nat) (v : List Byte) : (y.push k v).id = y.id := by
      unfold Session.push
      dsimp only
      split
      · rfl
      · split <;> rfl
    rw [run]
    refine State.pump_pumped ?_
    rw [own]
    exact (congrArg (fun id => (s.session? id).isSome) (State.session?_id known)).trans (by rw [known]; rfl)

theorem State.subs_served (sess : Nat) (qs : List (Nat × List Byte)) (s : State) :
    SubsServed sess qs s (qs.foldl (fun t q => t.deliverSub sess q) s) := by
  induction qs generalizing s with
  | nil => exact rfl
  | cons q qs ih => exact ⟨_, s.deliverSub_served sess q, ih _⟩

theorem notices_closed {s : State} {sess : Nat} (closed : s.session? sess = none) : exec (.eventResend sess) s = .next s ∧
    exec (.subscriptionDelivery sess) s = .next s := by
  constructor
  · change execEventResend sess s = _
    rw [execEventResend, closed]
  · change execSubscriptionDelivery sess s = _
    rw [execSubscriptionDelivery, closed]

theorem eventResend_resends {s : State} {sess : Nat} {x : Session} (known : s.session? sess = some x) : ∃ t,
    exec (.eventResend sess) s = .next t ∧ NoticesResent x s.up (x.queue.take x.inflight) s t := by
  refine ⟨_, ?_, State.notices_resent x s.up _ s⟩
  change execEventResend sess s = _
  rw [execEventResend, known]

theorem subscriptionDelivery_serves {s : State} {sess : Nat} {x : Session} (known : s.session? sess = some x) : ∃ t,
    exec (.subscriptionDelivery sess) s = .next t ∧ SubsServed sess x.subs s t := by
  refine ⟨_, ?_, State.subs_served sess x.subs s⟩
  change execSubscriptionDelivery sess s = _
  rw [execSubscriptionDelivery, known]

/-! Requests of one item each (R653, R663, R672, R673) -/

theorem State.answer_answered (s : State) (e : Envelope) (kind items status : Nat) (body : List Byte) :
    Answered s (s.answer e kind items status body) e kind items status body := by
  refine ⟨fun closed => ?_, fun x known => ⟨_, State.setSession_sessionSet (x := x) ?_, ?_⟩⟩
  · rw [State.answer, State.answerWith, closed]
  · exact (congrArg s.session? (State.session?_id known)).trans known
  · rw [State.answer, State.answerWith, known]
    exact rfl

/-- A request that is taken carries its one item out, and answers it. -/
theorem State.answerItems_done {α : Type} {s : State} {e : Envelope} {kind : Nat} {bytes : α → List Byte} {item : α} {x : Session}
    {f : State → α → List Byte × State} {one : State → α → List Byte → State → Prop} (requested : Requested s e kind 0 1 (bytes item) x)
    (does : ∀ u, one u item (f u item).1 (f u item).2) : ∃ u t, SessionSet s u x ∧
    s.answerItems e kind 0 bytes [item] f = t ∧ RequestDone u t e kind one [item] := by
  obtain ⟨version, authentic⟩ := requested
  obtain ⟨y, -, -, fresh⟩ := authenticate_fresh authentic
  have taken : s.gdpAuth e kind 0 1 (bytes item) = .fresh (s.setSession x) x := (State.gdpAuth_version version).trans fresh
  refine ⟨s.setSession x, _, authentic.sessionSet, rfl, ?_⟩
  have run : s.answerItems e kind 0 bytes [item] f =
      (((f (s.setSession x) item).2.answer e kind 1 0 ((f (s.setSession x) item).1 ++ [])).endClosing) := by
    unfold State.answerItems
    rw [List.flatMap_singleton, List.length_singleton, taken]
    exact rfl
  rw [run]
  exact ⟨_, _, _, ⟨_, [], _, does _, ⟨rfl, rfl⟩, rfl⟩, State.answer_answered _ e kind 1 0 _, rfl⟩

section
variable (sess : Nat) (s : State)

theorem State.violate_violated : Violated s (s.violate sess) sess := by
  refine ⟨fun closed => by rw [State.violate, closed], fun x known => ?_⟩
  have own := State.session?_id known
  obtain ⟨here, others, rest⟩ := State.setSession_sessionSet (s := s) (y := { x with violations := x.violations + 1 }) (own.symm ▸ known)
  rw [State.violate, known]
  exact ⟨own ▸ here, fun j other => others j (own.symm ▸ other), rest⟩

theorem Session.unlisted {x : Session} {k : Nat} (none : ∀ v, (k, v) ∉ x.subs) : x.subs.any (fun q => q.1 == k) = false := by
  rw [List.any_eq_false]
  rintro ⟨j, v⟩ listed same
  exact none v (beq_iff_eq.1 same ▸ listed)

theorem State.subscribe_item (o : ObjRef) : ItemSubscribed sess s o (s.subscribe sess o).1 (s.subscribe sess o).2 := by
  unfold State.subscribe
  refine ⟨fun x known => ?_, fun closed => by rw [closed]; exact ⟨rfl, rfl⟩⟩
  have own := State.session?_id known
  rw [known]
  refine ⟨fun unread => ?_, fun may window => ?_, fun may whole => ⟨fun listed => ?_, fun unlisted full => ?_, fun unlisted room => ?_⟩⟩
  · dsimp only
    rw [unread, Bool.not_false, if_pos rfl]
    exact ⟨s.violate_violated sess, rfl⟩
  · dsimp only
    rw [may, Bool.not_true, if_neg Bool.false_ne_true, if_pos (Option.isSome_iff_ne_none.2 window)]
    exact ⟨rfl, rfl⟩
  · have any : x.subs.any (fun q => q.1 == objKey o) = true := by
      obtain ⟨v, hv⟩ := listed
      exact List.any_eq_true.2 ⟨_, hv, beq_self_eq_true _⟩
    dsimp only
    rw [may, Bool.not_true, if_neg Bool.false_ne_true, whole, Option.isSome_none, if_neg Bool.false_ne_true, any, if_pos rfl]
    exact ⟨rfl, rfl⟩
  · dsimp only
    rw [may, Bool.not_true, if_neg Bool.false_ne_true, whole, Option.isSome_none, if_neg Bool.false_ne_true, Session.unlisted unlisted,
      if_neg Bool.false_ne_true, if_pos full]
    exact ⟨rfl, rfl⟩
  · dsimp only
    rw [may, Bool.not_true, if_neg Bool.false_ne_true, whole, Option.isSome_none, if_neg Bool.false_ne_true, Session.unlisted unlisted,
      if_neg Bool.false_ne_true, if_neg (Nat.not_le.2 room)]
    exact ⟨rfl, State.setSession_sessionSet (x := x) ((congrArg s.session? own).trans known)⟩

theorem State.unsubscribe_item (o : ObjRef) : ItemUnsubscribed sess s o (s.unsubscribe sess o).1 (s.unsubscribe sess o).2 := by
  unfold State.unsubscribe
  cases known : s.session? sess with
  | none => exact ⟨rfl, fun _ => rfl, fun x h => by rw [known] at h; cases h⟩
  | some x =>
    refine ⟨rfl, fun h => (by rw [known] at h; cases h), fun y h => ?_⟩
    rw [known] at h
    cases h
    exact State.setSession_sessionSet (x := x) ((congrArg s.session? (State.session?_id known)).trans known)

theorem State.acknowledge_item (q : Nat) : ItemAcknowledged sess s q (s.acknowledge sess q).1 (s.acknowledge sess q).2 := by
  unfold State.acknowledge
  cases known : s.session? sess with
  | none => exact ⟨rfl, fun _ => rfl, fun x h => by rw [known] at h; cases h⟩
  | some x =>
    refine ⟨rfl, fun h => (by rw [known] at h; cases h), fun y h => ?_⟩
    rw [known] at h
    cases h
    refine State.pump_pumped ?_
    exact (congrArg (fun id => (s.session? id).isSome) (State.session?_id known)).trans (by rw [known]; rfl)

end

end Sys2Proof.Machine
end

section
/-! Handshakes: a HELLO, a PROOF, their ends, and the port they come to (R657 to R662, R674, R675, R689). -/

namespace Sys2Proof.Machine

set_option Elab.async false

theorem secretOf_bounds (v : Nat) : 0 < secretOf v ∧ secretOf v < ecN := by
  have low : v % (ecN - 1) < ecN - 1 := Nat.mod_lt _ (by decide)
  unfold secretOf
  omega

theorem State.authFail_counted (s : State) : Counted 32 Obj.authFailCount s s.authFail := s.count_counted 32 _

/-- What a HELLO draws: the secret of the package's ephemeral key, its nonce, and the secret number of its signature. -/
def State.drawnSecret (s : State) : Nat := secretOf (Config.freeValue 256 s.drawn).toNat
def State.drawnNonce (s : State) : List Byte := toBytes 32 (Config.freeValue 256 (s.drawn + 1)).toNat
def State.drawnSign (s : State) : Nat := secretOf (Config.freeValue 256 (s.drawn + 2)).toNat

section
variable (s : State) (net peer k : Nat) (key eph nonce : List Byte)

/-- The digest of the HELLO and of its CHALLENGE (R660). -/
def State.helloHash : List Byte :=
  sha256 ((toBytes 1 1 ++ toBytes 1 k ++ key ++ eph ++ nonce) ++
    (toBytes 1 2 ++ toBytes 4 s.serial ++ ecPublic s.drawnSecret ++ s.drawnNonce))

/-- The challenge's signature by the identity key. -/
def State.helloSign : List Byte := ecdsaSign Config.identityKey s.drawnSign (s.helloHash k key eph nonce)

/-- The handshake that a HELLO begins (R660). -/
def State.handshakeNow : Handshake where
  id := s.serial
  keySlot := k
  roleKey := key
  started := s.up
  transcript := sha256 (s.helloHash k key eph nonce ++ s.helloSign k key eph nonce)
  key := sessionKey s.drawnSecret eph nonce s.drawnNonce s.serial
  net := net
  peer := peer

/-- The state in which that handshake waits for its PROOF. -/
def State.challenging : State :=
  { s with handshakes := s.handshakes ++ [s.handshakeNow net peer k key eph nonce], serial := s.serial + 1, drawn := s.drawn + 3 }

end

section
variable {s : State} {net peer k : Nat} {key eph nonce : List Byte}

/-- A package that serves no GDP hears no handshake. -/
theorem handshake_down {fl : Nat} {sig : List Byte} {e : Envelope} (down : s.gdpUp = false) :
    exec (.hello net peer k key eph nonce) s = .next s ∧ exec (.proof e fl sig) s = .next s := by
  constructor
  · exact if_pos (by rw [down]; rfl)
  · exact if_pos (by rw [down]; rfl)

theorem hello_beyond (up : s.gdpUp = true) (full : 16 ≤ s.handshakes.length ∨ 64 ≤ s.sessions.length) : ∃ t,
    exec (.hello net peer k key eph nonce) s = .next t ∧ Counted 32 Obj.handshakeRefusedCount s t :=
  ⟨_, (if_neg (by rw [up]; decide)).trans (if_pos full), s.count_counted 32 _⟩

section
variable (up : s.gdpUp = true) (few : s.handshakes.length < 16) (room : s.sessions.length < 64)
include up few room

theorem hello_unknown (closed : s.slotOpens k key = false) : ∃ t,
    exec (.hello net peer k key eph nonce) s = .next t ∧ Counted 32 Obj.authFailCount s t := by
  have free : ¬ (16 ≤ s.handshakes.length ∨ 64 ≤ s.sessions.length) := by omega
  exact ⟨_, (if_neg (by rw [up]; decide)).trans ((if_neg free).trans (if_pos (by rw [closed]; rfl))), s.authFail_counted⟩

theorem hello_challenges (opens : s.slotOpens k key = true) : ∃ (u t : State) (h : Handshake) (d r : Nat) (own : List Byte),
    exec (.hello net peer k key eph nonce) s = .next t ∧ 0 < d ∧ d < ecN ∧ 0 < r ∧ r < ecN ∧ own.length = 32 ∧
    (let hello := toBytes 1 1 ++ toBytes 1 k ++ key ++ eph ++ nonce
     let challenge := toBytes 1 2 ++ toBytes 4 h.id ++ ecPublic d ++ own
     let h1 := sha256 (hello ++ challenge)
     let sig := ecdsaSign Config.identityKey r h1
     h.id = s.serial ∧ h.keySlot = k ∧ h.roleKey = key ∧ h.started = s.up ∧ h.net = net ∧ h.peer = peer ∧
     h.transcript = sha256 (h1 ++ sig) ∧
     h.key = hmac (ecdhX d eph) ([0x67, 0x64, 0x70, 0x2D, 0x6B, 0x65, 0x79] ++ nonce ++ own ++ toBytes 4 h.id) ∧
     u.handshakes = s.handshakes ++ [h] ∧ u.serial = s.serial + 1 ∧
     { u with handshakes := s.handshakes, serial := s.serial, drawn := s.drawn } = s ∧
     t = u.sendControl net peer (.challenge h.id (ecPublic d) own sig)) := by
  have free : ¬ (16 ≤ s.handshakes.length ∨ 64 ≤ s.sessions.length) := by omega
  obtain ⟨d0, d1⟩ := secretOf_bounds (Config.freeValue 256 s.drawn).toNat
  obtain ⟨r0, r1⟩ := secretOf_bounds (Config.freeValue 256 (s.drawn + 2)).toNat
  have run : exec (.hello net peer k key eph nonce) s = .next ((s.challenging net peer k key eph nonce).sendControl net peer
      (.challenge s.serial (ecPublic s.drawnSecret) s.drawnNonce (s.helloSign k key eph nonce))) :=
    (if_neg (by rw [up]; decide)).trans ((if_neg free).trans (if_neg (by rw [opens]; decide)))
  exact ⟨s.challenging net peer k key eph nonce, _, s.handshakeNow net peer k key eph nonce, s.drawnSecret, s.drawnSign, s.drawnNonce, run,
    d0, d1, r0, r1, toBytes_length 32 _, rfl, rfl, rfl, rfl, rfl, rfl, rfl, rfl, rfl, rfl, rfl, rfl⟩

end

theorem State.slotOpens_iff : s.slotOpens k key = true ↔ k < 32 ∧ (s.keySlot k).valid = true ∧
    sha256 key = (s.keySlot k).hash ∧ (s.device = devRecovery → k = 0 ∨ (s.keySlot k).role = roleOwner) := by
  simp only [State.slotOpens, Bool.and_eq_true, Bool.or_eq_true, decide_eq_true_eq, beq_iff_eq, bne_iff_ne, and_assoc, or_assoc,
    imp_iff_not_or, ne_eq]

end

/-! A PROOF (R659 to R662) -/

section
variable {s : State} {e : Envelope} {fl : Nat} {sig : List Byte}

theorem proof_version (other : e.version ≠ 1) : exec (.proof e fl sig) s = .next s :=
  if_pos (by simp [other])

section
variable (up : s.gdpUp = true) (version : e.version = 1)
include up version

theorem proof_unknown (unknown : s.handshakes.find? (fun h => h.id = e.session) = none) : ∃ t,
    exec (.proof e fl sig) s = .next t ∧ Counted 32 Obj.authFailCount s t := by
  refine ⟨s.authFail, ?_, s.authFail_counted⟩
  change execProof e fl sig s = _
  unfold execProof
  rw [if_neg (by simp [up, version]), unknown]

variable {h : Handshake} (found : s.handshakes.find? (fun h => h.id = e.session) = some h)
include found

theorem proof_run : exec (.proof e fl sig) s = .next (
    if e.tag ≠ tagOf h.key e.sequence (gdpMessage 1 7 (hostFlags fl) 0 e.session e.requestId 1 (toBytes 1 3 ++ sig)) ||
      !ecdsaVerify h.roleKey h.transcript sig || !s.slotOpens h.keySlot h.roleKey then s.authFail
    else if 64 ≤ s.sessions.length then s.count 32 Obj.handshakeRefusedCount else s.openSession h e.sequence e.requestId) := by
  change execProof e fl sig s = _
  unfold execProof
  rw [if_neg (by simp [up, version]), found]
  dsimp only
  rw [apply_ite Host.Outcome.next, apply_ite Host.Outcome.next]

theorem proof_wrong (wrong : ¬ ProofRight s e fl sig h) : ∃ t,
    exec (.proof e fl sig) s = .next t ∧ Counted 32 Obj.authFailCount s t := by
  refine ⟨_, proof_run up version found, ?_⟩
  rw [if_pos ?_]
  · exact s.authFail_counted
  · rw [← Bool.not_eq_false]
    intro right
    simp only [Bool.or_eq_false_iff, decide_eq_false_iff_not, not_not, Bool.not_eq_false'] at right
    exact wrong ⟨right.1.1, right.1.2, right.2⟩

omit up version found in
theorem State.right_not (right : ProofRight s e fl sig h) :
    ¬ (e.tag ≠ tagOf h.key e.sequence (gdpMessage 1 7 (hostFlags fl) 0 e.session e.requestId 1 (toBytes 1 3 ++ sig)) ||
      !ecdsaVerify h.roleKey h.transcript sig || !s.slotOpens h.keySlot h.roleKey) = true := by
  obtain ⟨tag, signature, opens⟩ := right
  have tag' : e.tag = tagOf h.key e.sequence (gdpMessage 1 7 (hostFlags fl) 0 e.session e.requestId 1 (toBytes 1 3 ++ sig)) := tag
  rw [signature, opens, ← tag']
  simp

theorem proof_full (right : ProofRight s e fl sig h) (full : 64 ≤ s.sessions.length) : ∃ t,
    exec (.proof e fl sig) s = .next t ∧ Counted 32 Obj.handshakeRefusedCount s t := by
  refine ⟨_, proof_run up version found, ?_⟩
  rw [if_neg (State.right_not right), if_pos full]
  exact s.count_counted 32 _

theorem proof_opens (right : ProofRight s e fl sig h) (room : s.sessions.length < 64) : ∃ u t, exec (.proof e fl sig) s = .next t ∧
      (let x := h.opens (s.keySlot h.keySlot) s.up e.sequence
       u = { s with handshakes := s.handshakes.filter (fun y => y.id != h.id), sessions := s.sessions ++ [x] } ∧
       SessionSent u t h.id h.net h.peer (.accept h.id e.requestId x.role x.tenant)) := by
  refine ⟨_, _, proof_run up version found, rfl, ?_⟩
  rw [if_neg (State.right_not right), if_neg (Nat.not_le.2 room)]
  exact State.sendSession_sent _ _ _ _ _

end

/-! How sessions and handshakes end (R661, R674, R675) -/

theorem close_ends {x : Session} (requested : Requested s e 7 0 1 (toBytes 1 5) x) : ∃ u t, SessionSet s u x ∧
    exec (.close e) s = .next t ∧ t = { u with sessions := u.sessions.filter fun y => y.id != x.id } ∧ t.session? e.session = none := by
  obtain ⟨version, authentic⟩ := requested
  obtain ⟨y, -, -, fresh⟩ := authenticate_fresh authentic
  have taken : s.gdpAuth e 7 0 1 (toBytes 1 5) = .fresh (s.setSession x) x := (State.gdpAuth_version version).trans fresh
  refine ⟨_, _, authentic.sessionSet, ?_, rfl, ?_⟩
  · change execClose e s = _
    rw [execClose, taken]
    exact rfl
  · exact (State.session?_endSession (s.setSession x) x.id e.session).trans (if_pos authentic.id_eq.symm)

theorem sessionClose_ends {sess v : Nat} (may : MayWrite s sess 0x0010 8) : ∃ t, exec (.sessionClose sess v) s = .next t ∧
    (v ≠ 1 → t = s) ∧ (v = 1 → t = { s with sessions := s.sessions.filter fun y => y.id != sess } ∧ t.session? sess = none) := by
  refine ⟨_, congrArg Host.Outcome.next (State.guarded_may _ may), fun other => if_neg other, fun one => ?_⟩
  rw [if_pos one]
  exact ⟨rfl, (s.session?_endSession sess sess).trans (if_pos rfl)⟩

theorem handshakeTimeout_early {id : Nat} (early : ∀ h ∈ s.handshakes, h.id ≠ id ∨ s.up < h.started + 1000000000) :
    exec (.handshakeTimeout id) s = .next s := by
  refine if_neg fun any => ?_
  obtain ⟨h, listed, due⟩ := List.any_eq_true.1 any
  rw [Bool.and_eq_true, beq_iff_eq, decide_eq_true_eq] at due
  rcases early h listed with other | soon
  · exact other due.1
  · exact absurd due.2 (Nat.not_le.2 soon)

theorem handshakeTimeout_ends {id : Nat} {h : Handshake} (listed : h ∈ s.handshakes) (own : h.id = id)
    (due : h.started + 1000000000 ≤ s.up) : ∃ t, exec (.handshakeTimeout id) s = .next t ∧
    Counted 32 Obj.authFailCount { s with handshakes := s.handshakes.filter fun h => h.id != id } t := by
  refine ⟨_, if_pos (List.any_eq_true.2 ⟨h, listed, ?_⟩), State.authFail_counted _⟩
  rw [Bool.and_eq_true, beq_iff_eq, decide_eq_true_eq]
  exact ⟨own, due⟩

theorem gdpPortChange_changes (s : State) : ∃ t, exec .gdpPortChange s = .next t ∧
    t.inForce Obj.gdpUdpPort = s.reg Obj.gdpUdpPort ∧ (∀ k, k ≠ Obj.gdpUdpPort → t.inForce k = s.inForce k) ∧
    { t with eth := { t.eth with oldAddr := s.eth.oldAddr } } = s := by
  have found (k : Nat) : (s.eth.oldAddr.filter fun p => p.1 != Obj.gdpUdpPort).find? (fun p => p.1 = k) =
      if k = Obj.gdpUdpPort then none else s.eth.oldAddr.find? fun p => p.1 = k := by
    rw [List.find?_filter]
    by_cases here : k = Obj.gdpUdpPort
    · rw [if_pos here, List.find?_eq_none]
      intro p _
      simp [here]
    · rw [if_neg here]
      congr 1
      funext p
      by_cases same : p.1 = k <;> simp [same, here]
  refine ⟨_, rfl, ?_, fun k other => ?_, rfl⟩
  · unfold State.inForce
    dsimp only
    rw [found, if_pos rfl] <;> rfl
  · unfold State.inForce
    dsimp only
    rw [found, if_neg other] <;> rfl

end

/-- Settles O47: handshakes by the order of their checks, requests by their one item, notices by their queue. -/
theorem sessionsAndNotices : Obligations.SessionsAndNotices := by
  refine ⟨fun _ _ _ _ _ _ _ _ _ _ down => handshake_down down, fun _ _ _ _ _ _ _ => hello_beyond, fun _ _ _ _ _ _ _ => hello_unknown,
    fun _ _ _ _ _ _ _ => hello_challenges, fun _ _ _ => State.slotOpens_iff, fun _ _ _ _ => proof_version, fun _ _ _ _ => proof_unknown,
    fun _ _ _ _ _ up version found => ⟨proof_wrong up version found, proof_full up version found, proof_opens up version found⟩,
    fun _ _ _ => close_ends, fun _ _ _ => sessionClose_ends, fun _ _ => handshakeTimeout_early, fun _ _ _ => handshakeTimeout_ends,
    gdpPortChange_changes, State.sendSession_sent, State.sendControl_ipSent, ?requests, fun _ _ _ => Session.push_room,
    fun _ _ _ _ _ _ _ => Session.push_full, fun _ _ => State.pump_pumped, fun _ _ => notices_closed, fun _ _ _ => eventResend_resends,
    fun _ _ _ => subscriptionDelivery_serves, fun _ _ _ _ _ => rfl⟩
  case requests =>
    intro s e x o q
    refine ⟨fun requested => ?_, fun requested => ?_, fun requested => ?_⟩
    · obtain ⟨u, t, set, run, done⟩ := State.answerItems_done (bytes := fun o => subscribeBytes 1 o 0) requested
        fun u => u.subscribe_item e.session o
      exact ⟨u, t, set, congrArg Host.Outcome.next run, done⟩
    · obtain ⟨u, t, set, run, done⟩ := State.answerItems_done (bytes := fun o => subscribeBytes 2 o 0) requested
        fun u => u.unsubscribe_item e.session o
      exact ⟨u, t, set, congrArg Host.Outcome.next run, done⟩
    · obtain ⟨u, t, set, run, done⟩ := State.answerItems_done (bytes := fun q => subscribeBytes 3 ⟨0, 0⟩ q) requested
        fun u => u.acknowledge_item e.session q
      exact ⟨u, t, set, congrArg Host.Outcome.next run, done⟩

end Sys2Proof.Machine
end

section
/-! LIFT.CLAIM and LIFT.DROP as they issue, and how a claim is settled, joins, starts a move or is refused (R330 to R343). -/

namespace Sys2Proof.Machine

set_option Elab.async false

section
variable {s : State} {c x : Nat} {w : LiftWord} {k : Work} (issues : Issues s c x k)
include issues

theorem liftClaim_unsound (bad : w.tier = 0 ∨ w.tier = 3 ∨ w.x = 0 ∨ (w.token ≠ 0 ∧ (s.ctx c x).token w.token ≠ .free)) :
    ∃ t, exec (.liftClaim c x w) s = .next t ∧ CtxFaulted (s.started c x) t c x (engineId c 3) 8 := by
  have issued : exec (.liftClaim c x w) s = .next _ := congrArg Host.Outcome.next (State.issue_ok issues _)
  by_cases word : w.tier = 0 ∨ w.tier = 3 ∨ w.x = 0
  · exact ⟨_, issued.trans (congrArg Host.Outcome.next (if_pos word)), State.faultCtx_faulted _ c x _ 5 8 0 0⟩
  · have taken : w.token ≠ 0 ∧ ((s.started c x).ctx c x).token w.token ≠ .free := by
      rw [State.started_token]
      rcases bad with h | h | h | h
      · exact absurd (.inl h) word
      · exact absurd (.inr (.inl h)) word
      · exact absurd (.inr (.inr h)) word
      · exact h
    exact ⟨_, issued.trans (congrArg Host.Outcome.next ((if_neg word).trans (if_pos taken))), State.faultCtx_faulted _ c x _ 6 8 0 0⟩

section
variable (tier : w.tier = 1 ∨ w.tier = 2) (named : w.x ≠ 0) (free : w.token = 0 ∨ (s.ctx c x).token w.token = .free)
include tier named free

/-- A sound claim looks its entry up. -/
theorem liftClaim_looks : exec (.liftClaim c x w) s = .next (
    match (s.started c x).liftEntry k ((s.started c x).descOf k w.x) with
    | .error f => (s.started c x).faultCtx c x (engineId c 3) f.cause 4 ((s.started c x).descOf k w.x).address 0
    | .ok (key, e) =>
      let (age, t1) := ((s.started c x).setCtx c x (((s.started c x).ctx c x).setToken w.token .outstanding)).fresh
      t1.applyClaim key e { claimOf (s.started c x) c x w k e with age := age }) := by
  have word : ¬ (w.tier = 0 ∨ w.tier = 3 ∨ w.x = 0) := by omega
  have idle : ¬ (w.token ≠ 0 ∧ ((s.started c x).ctx c x).token w.token ≠ .free) := by
    rw [State.started_token]
    rintro ⟨one, taken⟩
    exact taken (free.resolve_left one)
  refine (congrArg Host.Outcome.next (State.issue_ok issues _)).trans (congrArg Host.Outcome.next ?_)
  refine (if_neg word).trans ((if_neg idle).trans ?_)
  dsimp only
  cases (s.started c x).liftEntry k ((s.started c x).descOf k w.x) with
  | error f => exact rfl
  | ok q => exact rfl

theorem liftClaim_lost {f : OpFault} (lost : (s.started c x).liftEntry k ((s.started c x).descOf k w.x) = .error f) :
    ∃ t, exec (.liftClaim c x w) s = .next t ∧ CtxFaulted (s.started c x) t c x (engineId c 3) 4 := by
  refine ⟨_, (liftClaim_looks issues tier named free).trans ?_, State.faultCtx_faulted _ c x _ f.cause 4
    ((s.started c x).descOf k w.x).address 0⟩
  rw [lost]

theorem liftClaim_applies {key : Nat} {e : Entry} (found : (s.started c x).liftEntry k ((s.started c x).descOf k w.x) = .ok (key, e)) :
    (let u := s.started c x
     ∃ t : State, exec (.liftClaim c x w) s = .next (t.applyClaim key e (claimOf u c x w k e)) ∧ t.serial = s.serial + 1 ∧
      (w.token ≠ 0 → (t.ctx c x).token w.token = .outstanding) ∧ (∀ i, i ≠ w.token → (t.ctx c x).token i = (u.ctx c x).token i) ∧
      { t.ctx c x with tokens := (u.ctx c x).tokens } = u.ctx c x ∧ (∀ d y, ctxKey d y ≠ ctxKey c x → t.ctx d y = u.ctx d y) ∧
      { t with ctxs := s.ctxs, serial := s.serial } = s) := by
  dsimp only
  obtain ⟨m, started⟩ := s.started_eq c x
  have serial : (s.started c x).serial = s.serial := by rw [started]
  let y := ((s.started c x).ctx c x).setToken w.token .outstanding
  have here : (((s.started c x).setCtx c x y).fresh.2).ctx c x = y := State.ctx_setCtx _ c x y
  refine ⟨((s.started c x).setCtx c x y).fresh.2, ?_, congrArg (· + 1) serial, fun one => ?_, fun i other => ?_, ?_,
    fun d z other => State.ctx_setCtx_other _ _ _ _ _ _ other, ?_⟩
  · rw [liftClaim_looks issues tier named free, found]
    exact rfl
  · rw [here]
    exact Ctx.token_setToken_same _ _ one
  · rw [here]
    exact Ctx.token_setToken_other _ _ other
  · rw [here]
    exact Ctx.setToken_tokens _ _ _
  · rw [started]
    exact rfl

end

theorem liftDrop_unnamed (unnamed : w.x = 0) : ∃ t, exec (.liftDrop c x w) s = .next t ∧
    CtxFaulted (s.started c x) t c x (engineId c 3) 8 :=
  ⟨_, (congrArg Host.Outcome.next (State.issue_ok issues _)).trans (congrArg Host.Outcome.next (if_pos unnamed)),
    State.faultCtx_faulted _ c x _ 5 8 0 0⟩

theorem liftDrop_lost {f : OpFault} (named : w.x ≠ 0)
    (lost : (s.started c x).liftEntry k ((s.started c x).descOf k w.x) = .error f) :
    ∃ t, exec (.liftDrop c x w) s = .next t ∧ CtxFaulted (s.started c x) t c x (engineId c 3) 4 := by
  refine ⟨_, (congrArg Host.Outcome.next (State.issue_ok issues _)).trans (congrArg Host.Outcome.next ((if_neg named).trans ?_)),
    State.faultCtx_faulted _ c x _ f.cause 4 ((s.started c x).descOf k w.x).address 0⟩
  dsimp only
  rw [lost]

theorem liftDrop_run {key : Nat} {e : Entry} (named : w.x ≠ 0)
    (found : (s.started c x).liftEntry k ((s.started c x).descOf k w.x) = .ok (key, e)) :
    exec (.liftDrop c x w) s = .next ((s.started c x).dropClaim key k.tenant w.cid) := by
  refine (congrArg Host.Outcome.next (State.issue_ok issues _)).trans (congrArg Host.Outcome.next ((if_neg named).trans ?_))
  dsimp only
  rw [found]

end

/-! How a claim ends (R333 to R338) -/

section
variable {s : State} {key : Nat} {e : Entry} {cl : Claim}

theorem State.settleClaim_done (s : State) (cl : Claim) {st : Nat} (fits : st < 2 ^ 64) : ClaimDone s (s.settleClaim cl st) cl st := by
  unfold ClaimDone State.settleClaim
  cases cl.token with
  | none => exact rfl
  | some q => exact s.finishToken_tokenDone q.1 q.2.1 q.2.2 fits

theorem State.refuseClaim_refused (s : State) (cl : Claim) {st : Nat} (fits : st < 2 ^ 64) : ClaimRefused s (s.refuseClaim cl st) cl st := by
  obtain ⟨regs, counted⟩ := s.count_counted 32 (Obj.claimRefusedCount cl.tenant)
  exact ⟨_, regs, counted, State.settleClaim_done _ cl fits⟩

theorem State.applyClaim_low (low : e.homeTier ≤ cl.tier) : ClaimDone s (s.applyClaim key e cl) cl 5 := by
  rw [State.applyClaim, if_pos low]
  exact s.settleClaim_done cl (by decide)

theorem State.applyClaim_fixed (high : cl.tier < e.homeTier) (fixed : (e.pinned || s.onStack e) = true) :
    ClaimRefused s (s.applyClaim key e cl) cl 3 := by
  rw [State.applyClaim, if_neg (Nat.not_le.2 high), if_pos fixed]
  exact s.refuseClaim_refused cl (by decide)

theorem State.applyClaim_full (high : cl.tier < e.homeTier) (pinned : e.pinned = false) (stack : s.onStack e = false)
    (new : e.held cl.tenant cl.cid = none) (full : 255 ≤ e.claims.length ∨ 131072 ≤ s.claimCount) :
    ClaimRefused s (s.applyClaim key e cl) cl 4 := by
  have movable : ¬ (e.pinned || s.onStack e) = true := by simp [pinned, stack]
  rw [State.applyClaim, if_neg (Nat.not_le.2 high), if_neg movable, if_pos ⟨new, full⟩]
  exact s.refuseClaim_refused cl (by decide)

section
variable (claimable : Claimable s e cl)
include claimable

/-- A claim that can be recorded is settled by the move in flight, or by where the entry lies. -/
theorem State.applyClaim_recorded : s.applyClaim key e cl = (match s.moveOf key with
    | some (_, m) =>
      let joins : Bool := if m.committed then decide (e.tier ≤ cl.tier) else
        match m.dest with
        | some u => decide (u.tier < e.tier) && decide (u.tier ≤ cl.tier)
        | none => false
      if joins then (s.record key e { cl with token := none }).settleClaim cl 0 else s.record key e cl
    | none =>
      if e.tier ≤ cl.tier then
        let s1 := (s.record key e { cl with token := none }).settleClaim cl 0
        if (e.held cl.tenant cl.cid).isSome then s1.evaluate key else s1
      else
        match s.promoteRefusal e cl with
        | some st => s.refuseClaim cl st
        | none => (s.record key e { cl with token := none }).promote key e cl) := by
  obtain ⟨high, pinned, stack, room⟩ := claimable
  have movable : ¬ (e.pinned || s.onStack e) = true := by simp [pinned, stack]
  have fits : ¬ (e.held cl.tenant cl.cid = none ∧ (255 ≤ e.claims.length ∨ 131072 ≤ s.claimCount)) := by
    rintro ⟨new, full⟩
    rcases room with held | room
    · rw [new] at held
      exact Bool.false_ne_true held
    · omega
  rw [State.applyClaim, if_neg (Nat.not_le.2 high), if_neg movable, if_neg fits] <;> rfl

section
variable (still : s.moveOf key = none)
include still

theorem State.applyClaim_reached (reached : e.tier ≤ cl.tier) :
    (e.held cl.tenant cl.cid = none → ClaimDone (s.record key e { cl with token := none }) (s.applyClaim key e cl) cl 0) ∧
    ((e.held cl.tenant cl.cid).isSome = true →
      ∃ u, ClaimDone (s.record key e { cl with token := none }) u cl 0 ∧ s.applyClaim key e cl = u.evaluate key) := by
  have run : s.applyClaim key e cl = (let s1 := (s.record key e { cl with token := none }).settleClaim cl 0
      if (e.held cl.tenant cl.cid).isSome then s1.evaluate key else s1) := by
    rw [State.applyClaim_recorded claimable, still]
    exact if_pos reached
  refine ⟨fun new => ?_, fun held => ⟨_, State.settleClaim_done _ cl (by decide), run.trans (if_pos held)⟩⟩
  rw [run, new]
  exact State.settleClaim_done _ cl (by decide)

section
variable (above : cl.tier < e.tier)
include above

theorem State.applyClaim_climbs : s.applyClaim key e cl = (match s.promoteRefusal e cl with
    | some st => s.refuseClaim cl st
    | none => (s.record key e { cl with token := none }).promote key e cl) := by
  rw [State.applyClaim_recorded claimable, still]
  exact if_neg (Nat.not_le.2 above)

theorem State.applyClaim_short (short : s.borrowed cl.tier cl.tenant ≠ 0 ∨ s.freeRoom cl.tier cl.tenant < 64 * e.lines) :
    ClaimRefused s (s.applyClaim key e cl) cl 1 := by
  have refused : s.promoteRefusal e cl = some 1 := if_pos short
  rw [State.applyClaim_climbs claimable still above, refused]
  exact s.refuseClaim_refused cl (by decide)

section
variable (own : s.borrowed cl.tier cl.tenant = 0) (room : 64 * e.lines ≤ s.freeRoom cl.tier cl.tenant)
include own room

omit claimable still above in
theorem State.not_short : ¬ (s.borrowed cl.tier cl.tenant ≠ 0 ∨ s.freeRoom cl.tier cl.tenant < e.bytes) := by
  rw [Entry.bytes]
  omega

theorem State.applyClaim_crowded (near : cl.tier = 0) (crowded : s.fits 0 cl.die cl.place (64 * e.lines) = false) :
    ClaimRefused s (s.applyClaim key e cl) cl 2 := by
  have refused : s.promoteRefusal e cl = some 2 :=
    (if_neg (State.not_short own room)).trans (if_pos ⟨near, by rw [Entry.bytes, crowded]; rfl⟩)
  rw [State.applyClaim_climbs claimable still above, refused]
  exact s.refuseClaim_refused cl (by decide)

section
variable (fits : cl.tier = 0 → s.fits 0 cl.die cl.place (64 * e.lines) = true)
include fits

omit claimable still above own room in
theorem State.not_crowded : ¬ (cl.tier = 0 ∧ (!s.fits 0 cl.die cl.place e.bytes) = true) := by
  rintro ⟨near, crowded⟩
  rw [Entry.bytes, fits near] at crowded
  exact Bool.false_ne_true crowded

theorem State.applyClaim_queueFull (full : 1024 ≤ s.queuedOn (s.upperDie cl e.bytes)) : ClaimRefused s (s.applyClaim key e cl) cl 4 := by
  have refused : s.promoteRefusal e cl = some 4 :=
    (if_neg (State.not_short own room)).trans ((if_neg (State.not_crowded fits)).trans (if_pos full))
  rw [State.applyClaim_climbs claimable still above, refused]
  exact s.refuseClaim_refused cl (by decide)

omit claimable still above own room fits in
/-- A promotion makes and charges its copy, and queues its move (R332, R333). -/
theorem State.promote_started (s : State) (key : Nat) (e : Entry) (cl : Claim) : PromotionStarted s (s.promote key e cl) key e cl :=
  ⟨rfl, rfl, State.reg_setReg_same _ _ _, fun _ other => State.reg_setReg_other _ _ _ _ fun same => other (List.mem_singleton.2 same), rfl,
    rfl⟩

theorem State.applyClaim_promotes (queue : s.queuedOn (s.upperDie cl e.bytes) < 1024) :
    PromotionStarted (s.record key e { cl with token := none }) (s.applyClaim key e cl) key e cl := by
  have starts : s.promoteRefusal e cl = none :=
    (if_neg (State.not_short own room)).trans ((if_neg (State.not_crowded fits)).trans (if_neg (Nat.not_le.2 queue)))
  rw [State.applyClaim_climbs claimable still above, starts]
  exact State.promote_started _ key e cl

end

end

end

end

section
variable {m : Nat} {mv : Move} (moves : s.moveOf key = some (m, mv))
include moves

theorem State.applyClaim_rising {u : Upper} (flies : mv.committed = false) (dest : mv.dest = some u) :
    (u.tier < e.tier → u.tier ≤ cl.tier → ClaimDone (s.record key e { cl with token := none }) (s.applyClaim key e cl) cl 0) ∧
    (e.tier ≤ u.tier ∨ cl.tier < u.tier → s.applyClaim key e cl = s.record key e cl) := by
  have run : s.applyClaim key e cl = (if (decide (u.tier < e.tier) && decide (u.tier ≤ cl.tier)) = true then
      (s.record key e { cl with token := none }).settleClaim cl 0 else s.record key e cl) := by
    rw [State.applyClaim_recorded claimable, moves]
    dsimp only
    rw [flies, dest] <;> rfl
  refine ⟨fun rises serves => ?_, fun no => run.trans (if_neg ?_)⟩
  · rw [run, if_pos (by simp [rises, serves])]
    exact State.settleClaim_done _ cl (by decide)
  · rw [Bool.and_eq_true, decide_eq_true_eq, decide_eq_true_eq]
    omega

theorem State.applyClaim_falling (flies : mv.committed = false) (home : mv.dest = none) : s.applyClaim key e cl = s.record key e cl := by
  rw [State.applyClaim_recorded claimable, moves]
  dsimp only
  rw [flies, home]
  exact if_neg Bool.false_ne_true

theorem State.applyClaim_committed (committed : mv.committed = true) :
    (e.tier ≤ cl.tier → ClaimDone (s.record key e { cl with token := none }) (s.applyClaim key e cl) cl 0) ∧
    (cl.tier < e.tier → s.applyClaim key e cl = s.record key e cl) := by
  have run : s.applyClaim key e cl = (if decide (e.tier ≤ cl.tier) = true then
      (s.record key e { cl with token := none }).settleClaim cl 0 else s.record key e cl) := by
    rw [State.applyClaim_recorded claimable, moves]
    dsimp only
    rw [committed] <;> rfl
  refine ⟨fun reached => ?_, fun above => run.trans (if_neg ?_)⟩
  · rw [run, if_pos (decide_eq_true reached)]
    exact State.settleClaim_done _ cl (by decide)
  · rw [decide_eq_true_eq]
    exact Nat.not_le.2 above

end

end

/-- The claims of the other claimants (R330). -/
theorem Entry.without_new {tenant cid : Nat} (new : e.held tenant cid = none) : (e.without tenant cid).claims = e.claims := by
  rw [Entry.held, List.find?_eq_none] at new
  refine List.filter_eq_self.2 fun d hd => ?_
  simpa [imp_iff_not_or] using new d hd

theorem State.record_new (new : e.held cl.tenant cl.cid = none) : s.record key e cl =
    { s with entries := Sparse.insert key { e with claims := e.claims ++ [cl] } s.entries } := by
  rw [State.record, new, Entry.addClaim, Entry.without_new new]
  exact rfl

end

end Sys2Proof.Machine
end

section
/-! LIFT.DROP: a claim that is dropped is gone from its entry, whatever the entry's other claims then ask (R334 to R336, R343). -/

namespace Sys2Proof.Machine

set_option Elab.async false

theorem Entry.held_eq_none {e : Entry} {tenant cid : Nat} :
    e.held tenant cid = none ↔ ∀ d ∈ e.claims, (d.tenant == tenant && d.cid == cid) = false := by
  simp [Entry.held]

/-- The oldest claim of a tier is one of the entry's. -/
theorem Entry.oldest_mem {e : Entry} {tier : Nat} {d : Claim} (oldest : e.oldest tier = some d) : d ∈ e.claims := by
  have chosen : ∀ (l : List Claim) (b : Option Claim), l.foldl (fun b c =>
      match b with
      | none => some c
      | some d => if c.age < d.age then some c else some d) b = some d → d ∈ l ∨ b = some d := by
    intro l
    induction l with
    | nil => exact fun b same => .inr same
    | cons c l ih =>
      intro b same
      rcases ih _ same with later | now
      · exact .inl (List.mem_cons_of_mem c later)
      · cases b with
        | none => exact .inl (Option.some.inj now ▸ List.mem_cons_self)
        | some a =>
          dsimp only at now
          split at now
          · exact .inl (Option.some.inj now ▸ List.mem_cons_self)
          · exact .inr now
  rcases chosen _ none oldest with mine | no
  · exact (List.mem_filter.1 mine).1
  · cases no

/-- An entry keeps its place and its lines. -/
def Entry.Same (e f : Entry) : Prop := f.base = e.base ∧ f.lines = e.lines ∧ f.homeAlloc = e.homeAlloc

/-- The entry stands in the state without a claim of the claimant. -/
def ClaimGone (key tenant cid : Nat) (e : Entry) (t : State) : Prop :=
  ∃ f, t.entry? key = some f ∧ f.held tenant cid = none ∧ e.Same f

section
variable {key tenant cid : Nat} {e : Entry} {s t : State}

theorem ClaimGone.of_entry (gone : ClaimGone key tenant cid e s) (same : t.entry? key = s.entry? key) : ClaimGone key tenant cid e t := by
  obtain ⟨f, here, rest⟩ := gone
  exact ⟨f, same.trans here, rest⟩

theorem ClaimGone.of_entries (gone : ClaimGone key tenant cid e s) (same : t.entries = s.entries) : ClaimGone key tenant cid e t :=
  gone.of_entry (by rw [State.entry?, same, State.entry?])

theorem ClaimGone.setEntry {f g : Entry} (same : e.Same f) (without : g.held tenant cid = none) (kept : f.Same g) :
    ClaimGone key tenant cid e (t.setEntry key g) := by
  obtain ⟨base, lines, home⟩ := same
  obtain ⟨base', lines', home'⟩ := kept
  exact ⟨g, by rw [State.entry?_insert (s := t) rfl, if_pos rfl], without, base'.trans base, lines'.trans lines, home'.trans home⟩

theorem State.settleTokens_eq (s : State) (ts : List (Nat × Nat × Nat)) (st : Nat) : ∃ m, s.settleTokens ts st = { s with ctxs := m } := by
  unfold State.settleTokens
  induction ts generalizing s with
  | nil => exact ⟨s.ctxs, rfl⟩
  | cons k ts ih =>
    obtain ⟨m, done⟩ := State.finishToken_eq s k.1 k.2.1 k.2.2 st
    obtain ⟨n, rest⟩ := ih (s.finishToken k.1 k.2.1 k.2.2 st)
    exact ⟨n, by rw [List.foldl_cons, rest, done]⟩

theorem State.refuseClaim_entries (s : State) (cl : Claim) (st : Nat) : (s.refuseClaim cl st).entries = s.entries := by
  unfold State.refuseClaim State.settleClaim
  split
  · next c x tk _ =>
    obtain ⟨m, done⟩ := State.finishToken_eq (s.count 32 (Obj.claimRefusedCount cl.tenant)) c x tk st
    rw [done]
    exact rfl
  · exact rfl

/-- A copy that is freed touches no entry. -/
theorem State.freeAlloc_entry (s : State) (a : Nat) (later : Bool) (key : Nat) : (s.freeAlloc a later).entry? key = s.entry? key :=
  (State.freeAlloc_frees s (key + 1) a later).entries key (Nat.ne_of_lt (Nat.lt_succ_self key))

theorem State.passCharge_entry (s : State) (u : Upper) (heir : Claim) (key : Nat) : (s.passCharge u heir).entry? key = s.entry? key := by
  have other : key ≠ key + 1 := Nat.ne_of_lt (Nat.lt_succ_self key)
  unfold State.passCharge
  split
  case h_1 => exact rfl
  case h_2 a _ =>
    dsimp only
    split
    · exact rfl
    · exact ((State.settleLoans_frees _ (key + 1) _ _ _).entries key other).trans
        ((State.publishLoans_frees _ (key + 1)).entries key other)

theorem State.handToken_entries (s : State) (key : Nat) (cl : Claim) : (s.handToken key cl).entries = s.entries := by
  unfold State.handToken
  split <;> exact rfl

/-- The state once the upper copy has passed its anchor on (R334, R335). -/
def State.upperPassed (s : State) (key : Nat) (e : Entry) (tenant cid : Nat) : State :=
  match e.upper with
  | some u =>
    if u.tenant = tenant ∧ u.cid = cid then
      match e.oldest u.tier with
      | some c => (s.passCharge u c).setEntry key { e with upper := some { u with tenant := c.tenant, cid := c.cid } }
      | none => s
    else s
  | none => s

/-- The state once the destination of the move in flight has passed its anchor on (R334, R335). -/
def State.destPassed (s : State) (key : Nat) (e : Entry) (tenant cid : Nat) : State :=
  match s.moveOf key with
  | some (k, m) =>
    match m.dest with
    | some u =>
      if u.tenant = tenant ∧ u.cid = cid then
        match e.oldest u.tier with
        | some c =>
          { s.passCharge u c with
            moves := Sparse.insert k { m with dest := some { u with tenant := c.tenant, cid := c.cid } } (s.passCharge u c).moves }
        | none => s
      else s
    | none => s
  | none => s

theorem State.reAnchor_passes {f : Entry} (here : s.entry? key = some f) (n d : Nat) :
    s.reAnchor key n d = (s.upperPassed key f n d).destPassed key f n d := by
  unfold State.reAnchor
  rw [here]
  exact rfl

/-- Without a copy above and without a move there is no anchor to pass on. -/
theorem State.reAnchor_still {f : Entry} (here : s.entry? key = some f) (upper : f.upper = none) (still : s.moveOf key = none) (n d : Nat) :
    s.reAnchor key n d = s := by
  have home : s.upperPassed key f n d = s := by rw [State.upperPassed, upper]
  rw [State.reAnchor_passes here, home, State.destPassed, still]

/-- Passing an anchor on leaves the claims (R334, R335). -/
theorem ClaimGone.reAnchor (gone : ClaimGone key tenant cid e s) (n d : Nat) : ClaimGone key tenant cid e (s.reAnchor key n d) := by
  obtain ⟨f, here, none, same⟩ := gone
  have gone : ClaimGone key tenant cid e s := ⟨f, here, none, same⟩
  have upper : ClaimGone key tenant cid e (s.upperPassed key f n d) := by
    unfold State.upperPassed
    split
    · split
      · split
        · exact .setEntry same none ⟨rfl, rfl, rfl⟩
        · exact gone
      · exact gone
    · exact gone
  rw [State.reAnchor_passes here]
  generalize s.upperPassed key f n d = t at upper
  unfold State.destPassed
  split
  · split
    · next u _ =>
      split
      · split
        · next c _ => exact upper.of_entry (State.passCharge_entry t u c key)
        · exact upper
      · exact upper
    · exact upper
  · exact upper

theorem ClaimGone.joinClaims (gone : ClaimGone key tenant cid e s) (tier : Nat) : ClaimGone key tenant cid e (s.joinClaims key tier) := by
  obtain ⟨f, here, without, same⟩ := gone
  unfold State.joinClaims
  rw [here]
  dsimp only
  obtain ⟨m, settled⟩ := State.settleTokens_eq (s.setEntry key { f with claims := f.claims.map fun c =>
    if tier ≤ c.tier then { c with token := none } else c }) ((f.claims.filter fun c => decide (tier ≤ c.tier)).filterMap (·.token)) 0
  have joined : ClaimGone key tenant cid e (s.setEntry key { f with claims := f.claims.map fun c =>
      if tier ≤ c.tier then { c with token := none } else c }) := by
    refine .setEntry same (Entry.held_eq_none.2 fun d hd => ?_) ⟨rfl, rfl, rfl⟩
    obtain ⟨c, mine, rfl⟩ := List.mem_map.1 hd
    have other := Entry.held_eq_none.1 without c mine
    split <;> exact other
  rw [settled]
  exact joined.of_entries rfl

theorem Entry.without_held {f : Entry} (without : f.held tenant cid = none) (n d : Nat) : (f.without n d).held tenant cid = none :=
  Entry.held_eq_none.2 fun c mine => Entry.held_eq_none.1 without c (List.mem_filter.1 mine).1

theorem Entry.without_held_same (f : Entry) : (f.without tenant cid).held tenant cid = none :=
  Entry.held_eq_none.2 fun c mine => by simpa [imp_iff_not_or] using (List.mem_filter.1 mine).2

theorem Entry.addClaim_held {f : Entry} (without : f.held tenant cid = none) {c : Claim} (mine : c ∈ f.claims) :
    (f.addClaim { c with token := none }).held tenant cid = none := by
  refine Entry.held_eq_none.2 fun d hd => ?_
  rcases List.mem_append.1 hd with old | new
  · exact Entry.held_eq_none.1 (Entry.without_held without c.tenant c.cid) d old
  · rw [List.mem_singleton.1 new]
    exact Entry.held_eq_none.1 without c mine

theorem ClaimGone.promoteWaiting (fuel : Nat) (gone : ClaimGone key tenant cid e s) :
    ClaimGone key tenant cid e (State.promoteWaiting key fuel s) := by
  induction fuel generalizing s with
  | zero => exact gone
  | succ fuel ih =>
    obtain ⟨f, here, without, same⟩ := gone
    have gone : ClaimGone key tenant cid e s := ⟨f, here, without, same⟩
    unfold State.promoteWaiting
    rw [here]
    dsimp only
    split
    · split
      · exact gone
      · next c oldest =>
        split
        · have recorded : ClaimGone key tenant cid e (s.setEntry key (f.addClaim { c with token := none })) :=
            .setEntry same (Entry.addClaim_held without (Entry.oldest_mem oldest)) ⟨rfl, rfl, rfl⟩
          exact (recorded.of_entries (t := (s.setEntry key (f.addClaim { c with token := none })).promote key f c) rfl).joinClaims c.tier
        · next st _ =>
          have left : ClaimGone key tenant cid e (s.setEntry key (f.without c.tenant c.cid)) :=
            .setEntry same (Entry.without_held without c.tenant c.cid) ⟨rfl, rfl, rfl⟩
          exact ih (left.of_entries (State.refuseClaim_entries _ c st))
    · exact gone

/-- A demotion leaves the claims (R336). -/
theorem ClaimGone.demote {f : Entry} (here : s.entry? key = some f) (without : f.held tenant cid = none) (same : e.Same f) (u : Upper) :
    ClaimGone key tenant cid e (s.demote key f u) := by
  have gone : ClaimGone key tenant cid e s := ⟨f, here, without, same⟩
  have home : ClaimGone key tenant cid e (s.returnClean key f) := by
    unfold State.returnClean
    split
    · exact gone
    · exact ClaimGone.of_entry (ClaimGone.setEntry (t := s) (g := { f with upper := none, dirty := false }) same without ⟨rfl, rfl, rfl⟩)
        (State.freeAlloc_entry _ _ false key)
  unfold State.demote
  split
  · split
    · exact gone
    · exact gone.of_entries rfl
  · split
    · split
      · exact gone
      · exact gone.of_entries rfl
    · exact home.promoteWaiting _

/-- What an entry's claims ask for brings no claim back (R334, R336). -/
theorem ClaimGone.evaluate (gone : ClaimGone key tenant cid e s) : ClaimGone key tenant cid e (s.evaluate key) := by
  obtain ⟨f, here, without, same⟩ := gone
  have gone : ClaimGone key tenant cid e s := ⟨f, here, without, same⟩
  unfold State.evaluate
  rw [here]
  dsimp only
  split
  · exact gone
  · split
    · exact gone.joinClaims _
    · have waits := (gone.joinClaims f.tier).promoteWaiting f.claims.length
      revert waits
      generalize State.promoteWaiting key f.claims.length (s.joinClaims key f.tier) = t
      rintro ⟨g, here', without', same'⟩
      have waits : ClaimGone key tenant cid e t := ⟨g, here', without', same'⟩
      split
      · exact waits
      · rw [here']
        dsimp only
        split
        · exact waits
        · split
          · exact waits
          · exact .demote here' without' same' _

theorem State.dropClaim_gone (here : s.entry? key = some e) (held : (e.held tenant cid).isSome = true) :
    ClaimGone key tenant cid e (s.dropClaim key tenant cid) := by
  obtain ⟨c, held⟩ := Option.isSome_iff_exists.1 held
  unfold State.dropClaim
  rw [here]
  dsimp only
  rw [held]
  exact (ClaimGone.reAnchor (.setEntry ⟨rfl, rfl, rfl⟩ (Entry.without_held_same e) ⟨rfl, rfl, rfl⟩) tenant cid).evaluate

theorem State.dropClaim_unheld (here : s.entry? key = some e) (held : e.held tenant cid = none) : s.dropClaim key tenant cid = s := by
  unfold State.dropClaim
  rw [here]
  dsimp only
  rw [held]

/-- An entry with no copy above, no move and no claim asks for nothing (R336). -/
theorem State.evaluate_idle (here : s.entry? key = some e) (claims : e.claims = []) (upper : e.upper = none) (still : s.moveOf key = none) :
    s.evaluate key = s.setEntry key e := by
  have joined : s.joinClaims key e.tier = s.setEntry key e := by
    have same : { e with claims := [] } = e := by rw [← claims]
    rw [State.joinClaims, here]
    dsimp only
    rw [claims]
    exact congrArg (s.setEntry key) same
  have again : (s.setEntry key e).entry? key = some e := by rw [State.entry?_insert (s := s) rfl, if_pos rfl]
  have rests : (s.setEntry key e).moveOf key = none := still
  rw [State.evaluate, here]
  dsimp only
  rw [still, if_neg (by decide), joined, claims]
  split
  · exact rfl
  · show (if ((s.setEntry key e).moveOf key).isSome = true then s.setEntry key e else _) = _
    rw [rests, if_neg (by decide)]
    show (match (s.setEntry key e).entry? key with | none => _ | some e1 => _) = _
    rw [again]
    dsimp only
    rw [upper] <;> rfl

/-- The last claim of an entry that lies at home goes alone. -/
theorem State.dropClaim_last (here : s.entry? key = some e) (held : e.held tenant cid ≠ none) (upper : e.upper = none)
    (still : s.moveOf key = none) (mine : ∀ d ∈ e.claims, d.tenant = tenant ∧ d.cid = cid) :
    s.dropClaim key tenant cid = { s with entries := Sparse.insert key { e with claims := [] } s.entries } := by
  obtain ⟨c, held⟩ := Option.ne_none_iff_exists'.1 held
  have alone : e.without tenant cid = { e with claims := [] } := by
    rw [Entry.without, List.filter_eq_nil_iff.2 fun d hd => by simp [mine d hd]]
  have handed : s.handToken key c = s := by rw [State.handToken, still]
  have left : (s.setEntry key { e with claims := [] }).entry? key = some { e with claims := [] } := by
    rw [State.entry?_insert (s := s) rfl, if_pos rfl]
  have rests : (s.setEntry key { e with claims := [] }).moveOf key = none := still
  have anchored := State.reAnchor_still left upper rests tenant cid
  rw [State.dropClaim, here]
  dsimp only
  rw [held]
  dsimp only
  rw [handed, alone, anchored, State.evaluate_idle left rfl upper rests, State.setEntry, State.setEntry]
  dsimp only
  rw [Sparse.insert_insert_same]

end

section
variable {s : State} {c x key : Nat} {w : LiftWord} {k : Work} {e e0 : Entry} (issues : Issues s c x k) (named : w.x ≠ 0)
  (found : (s.started c x).liftEntry k ((s.started c x).descOf k w.x) = .ok (key, e0)) (here : s.entry? key = some e)
include issues named found here

theorem liftDrop_drops :
    (e.held k.tenant w.cid = none → exec (.liftDrop c x w) s = .next (s.started c x)) ∧
    ((e.held k.tenant w.cid).isSome = true → ∃ t f, exec (.liftDrop c x w) s = .next t ∧ t.entry? key = some f ∧
      f.held k.tenant w.cid = none ∧ f.base = e.base ∧ f.lines = e.lines ∧ f.homeAlloc = e.homeAlloc) ∧
    (e.held k.tenant w.cid ≠ none → e.upper = none → s.moveOf key = none → (∀ d ∈ e.claims, d.tenant = k.tenant ∧ d.cid = w.cid) →
      exec (.liftDrop c x w) s = .next { s.started c x with entries := Sparse.insert key { e with claims := [] } s.entries }) := by
  have run := liftDrop_run issues named found
  obtain ⟨m, started⟩ := s.started_eq c x
  have stands : (s.started c x).entry? key = some e := by rw [started]; exact here
  have entries : (s.started c x).entries = s.entries := by rw [started]
  refine ⟨fun free => ?_, fun held => ?_, fun held upper still mine => ?_⟩
  · rw [run, State.dropClaim_unheld stands free]
  · obtain ⟨f, left, without, base, lines, home⟩ := State.dropClaim_gone stands held
    exact ⟨_, f, run, left, without, base, lines, home⟩
  · have rests : (s.started c x).moveOf key = none := by rw [started]; exact still
    rw [run, State.dropClaim_last stands held upper rests mine, entries]

end

end Sys2Proof.Machine
end

section
/-! The moves of the Lift: how one starts, commits and is acknowledged, and how a copy is freed (R323 to R329, R334, R336, R342). -/

namespace Sys2Proof.Machine

set_option Elab.async false

/-! A move starts (R324, R329) -/

section
variable {s : State} {die : Nat}

theorem liftMoveStart_barred (barred : 8 ≤ s.flyingOn die ∨ s.reg Obj.supplyState = 1) : exec (.liftMoveStart die) s = .next s :=
  if_pos barred

section
variable (room : s.flyingOn die < 8) (supplied : s.reg Obj.supplyState ≠ 1)
include room supplied

theorem liftMoveStart_looks : exec (.liftMoveStart die) s = (match s.nextMove die with
    | none => .next s.retryMoves
    | some (k, m) =>
      match s.entry? m.entry with
      | none => .next s
      | some e =>
        .next (((({ s with moves := Sparse.insert k { m with flying := true } s.moves }).setEntry m.entry
          { e with moving := true }).askMove e m).retryMoves)) := by
  have free : ¬ (8 ≤ s.flyingOn die ∨ s.reg Obj.supplyState = 1) := not_or.2 ⟨Nat.not_le.2 room, supplied⟩
  exact if_neg free

theorem liftMoveStart_none (idle : s.nextMove die = none) : exec (.liftMoveStart die) s = .next s.retryMoves := by
  rw [liftMoveStart_looks room supplied, idle]

omit room supplied in
/-- The transfers of a move ask once for each site (R329). -/
theorem State.asks_came (l : List (Nat × Nat)) (deadline : Nat) (s : State) : ∃ new d,
    l.foldl (fun t q => t.ask q.1 q.2 deadline) s = { s with fabric := { s.fabric with asks := s.fabric.asks ++ new }, drawn := d } ∧
    new.map (fun a => (a.1, a.2.1, a.2.2.1)) = l.map fun q => (q.1, q.2, s.askOffset deadline) := by
  induction l generalizing s with
  | nil => exact ⟨[], s.drawn, by rw [List.append_nil] <;> rfl, rfl⟩
  | cons q l ih =>
    obtain ⟨j, d, asked⟩ := s.ask_asked q.1 q.2 deadline
    obtain ⟨new, d', came, named⟩ := ih (s.ask q.1 q.2 deadline)
    rw [asked] at came named
    refine ⟨(q.1, q.2, s.askOffset deadline, j) :: new, d', ?_, ?_⟩
    · rw [List.foldl_cons, asked, came]
      dsimp only
      rw [List.append_assoc, List.singleton_append]
    · rw [List.map_cons, named] <;> rfl

theorem liftMoveStart_starts {m : Nat} {mv : Move} {e : Entry} (next : s.nextMove die = some (m, mv)) (here : s.entry? mv.entry = some e) :
    ∃ t : State, exec (.liftMoveStart die) s = .next t.retryMoves ∧
      t.moves = Sparse.insert m { mv with flying := true } s.moves ∧ t.entry? mv.entry = some { e with moving := true } ∧
      (∀ k, k ≠ mv.entry → t.entry? k = s.entry? k) ∧
      t.fabric.asks.map (fun a => (a.1, a.2.1, a.2.2.1)) = s.fabric.asks.map (fun a => (a.1, a.2.1, a.2.2.1)) ++
        ((e.current.sites ++ (mv.dest.getD e.homeCopy).sites).map fun q => (q.1, q.2, s.askOffset (mv.deadline.getD (2 ^ 64 - 1)))) ∧
      { t with moves := s.moves, entries := s.entries, fabric := { t.fabric with asks := s.fabric.asks }, drawn := s.drawn } = s := by
  obtain ⟨new, d, came, named⟩ := State.asks_came (e.current.sites ++ (mv.dest.getD e.homeCopy).sites) (mv.deadline.getD (2 ^ 64 - 1))
    (({ s with moves := Sparse.insert m { mv with flying := true } s.moves }).setEntry mv.entry { e with moving := true })
  have run : exec (.liftMoveStart die) s = .next (State.retryMoves ((e.current.sites ++ (mv.dest.getD e.homeCopy).sites).foldl
      (fun t q => t.ask q.1 q.2 (mv.deadline.getD (2 ^ 64 - 1)))
      (({ s with moves := Sparse.insert m { mv with flying := true } s.moves }).setEntry mv.entry { e with moving := true }))) := by
    rw [liftMoveStart_looks room supplied, next]
    dsimp only
    rw [here] <;> rfl
  have entries := State.entry?_insert (s := s) (t := { s with
    moves := Sparse.insert m { mv with flying := true } s.moves
    entries := Sparse.insert mv.entry { e with moving := true } s.entries
    fabric := { s.fabric with asks := s.fabric.asks ++ new }
    drawn := d }) rfl
  refine ⟨_, run.trans (congrArg (fun t => Host.Outcome.next (State.retryMoves t)) came), rfl, ?_, fun k other => ?_, ?_, rfl⟩
  · exact (entries mv.entry).trans (if_pos rfl)
  · exact (entries k).trans (if_neg other)
  · exact List.map_append.trans (congrArg _ named)

end

end

/-! A move commits (R323, R327, R334, R342) -/

section
variable {s : State}

/-- A copy changes no byte of another allocation. -/
theorem State.rdByte_copyAlloc_other (s : State) (a : Nat) {b d p : Nat} (other : d ≠ b) (fits : p < 2 ^ 32) :
    (s.copyAlloc a b).rdByte d p = s.rdByte d p := by
  have apart : ∀ q, memKey d p ≠ memKey b (q % 2 ^ 32) := by
    intro q
    unfold memKey
    omega
  refine Eq.trans ?_ (s.rdByte_zeroAlloc_other b d p other fits)
  show Sparse.get 0 (memKey d p) (List.foldl (fun m (q : Nat × Byte) => Sparse.set (0 : Byte) (memKey b (q.1 % 2 ^ 32)) q.2 m) _ _) = _
  exact List.foldlRecOn (motive := fun m => Sparse.get 0 (memKey d p) m = (s.zeroAlloc b).rdByte d p) _ _ rfl fun _ same q _ =>
    (Sparse.get_set_other _ _ _ _ _ _ (apart q.1)).trans same

/-- A context that waits for a promotion waits on while tokens complete (R189, R376). -/
theorem State.settleTokens_waiting (ts : List (Nat × Nat × Nat)) (st : Nat) (s : State) {c x key : Nat} (state : (s.ctx c x).state = 3)
    (waits : (s.ctx c x).waits = .promotion key) :
    ((s.settleTokens ts st).ctx c x).state = 3 ∧ ((s.settleTokens ts st).ctx c x).waits = .promotion key := by
  unfold State.settleTokens
  induction ts generalizing s with
  | nil => exact ⟨state, waits⟩
  | cons k ts ih =>
    have kept : ((s.finishToken k.1 k.2.1 k.2.2 st).ctx c x).state = 3 ∧
        ((s.finishToken k.1 k.2.1 k.2.2 st).ctx c x).waits = .promotion key := by
      by_cases here : ctxKey c x = ctxKey k.1 k.2.1
      · have same : s.ctx k.1 k.2.1 = s.ctx c x := by rw [State.ctx, State.ctx, here]
        have done : ∀ tk, (s.setCtx k.1 k.2.1 ((s.ctx k.1 k.2.1).setToken k.2.2 tk)).ctx c x = (s.ctx c x).setToken k.2.2 tk := by
          intro tk
          rw [State.ctx_setCtx_ite, if_pos here, same]
        unfold State.finishToken
        split
        · exact ⟨state, waits⟩
        · dsimp only
          rw [same, waits]
          dsimp only
          rw [← same, done]
          obtain ⟨m, token⟩ := (s.ctx c x).setToken_eq k.2.2 (.done st)
          rw [token]
          exact ⟨state, waits⟩
      · obtain ⟨v, set⟩ : ∃ v, s.finishToken k.1 k.2.1 k.2.2 st = s ∨ s.finishToken k.1 k.2.1 k.2.2 st = s.setCtx k.1 k.2.1 v := by
          unfold State.finishToken
          dsimp only
          repeat' split
          · exact ⟨{}, .inl rfl⟩
          all_goals exact ⟨_, .inr rfl⟩
        rcases set with set | set
        · rw [set]
          exact ⟨state, waits⟩
        · rw [set, State.ctx_setCtx_other _ _ _ _ _ _ here]
          exact ⟨state, waits⟩
    exact ih _ kept.1 kept.2

/-- A value read after every value that meets a condition the default does not meet has changed. -/
theorem Sparse.get_map_if {α : Type} {P : α → Prop} [DecidablePred P] (g : α → α) {d : α} (hd : ¬ P d) (k : Nat) (m : Sparse α) :
    Sparse.get d k (m.map fun p => if P p.2 then (p.1, g p.2) else p) =
      if P (Sparse.get d k m) then g (Sparse.get d k m) else Sparse.get d k m := by
  induction m with
  | nil => exact (if_neg hd).symm
  | cons p m ih =>
    rw [List.map_cons, Sparse.get]
    by_cases meets : P p.2
    · rw [if_pos meets, Sparse.get]
      by_cases here : p.1 = k
      · rw [if_pos here, if_pos here, if_pos meets]
      · rw [if_neg here, if_neg here, ih]
    · rw [if_neg meets, Sparse.get]
      by_cases here : p.1 = k
      · rw [if_pos here, if_pos here, if_neg meets]
      · rw [if_neg here, if_neg here, ih]

theorem State.wakePromotion_wakes {c x key : Nat} (state : (s.ctx c x).state = 3) (waits : (s.ctx c x).waits = .promotion key) :
    ((s.wakePromotion key).ctx c x).state = 1 ∧ ((s.wakePromotion key).ctx c x).waits = .nothing := by
  have mapped := Sparse.get_map_if (P := fun y : Ctx => y.state = 3 ∧ y.waits = .promotion key)
    (fun y => { y with state := 1, waits := .nothing }) (d := {}) (by simp) (ctxKey c x) s.ctxs
  have woken : (s.wakePromotion key).ctx c x = { s.ctx c x with state := 1, waits := .nothing } := mapped.trans (if_pos ⟨state, waits⟩)
  rw [woken]
  exact ⟨rfl, rfl⟩

/-- The allocation a move copies into: that of its upper copy, or the entry's home (R323). -/
def Move.target (m : Move) (e : Entry) : Nat :=
  match m.dest with
  | some u => u.alloc
  | none => e.homeAlloc

/-- The state once the destination of a move is the committed copy, before its tokens complete (R323, R327). -/
def State.linesMoved (s : State) (move : Nat) (m : Move) (e : Entry) : State :=
  let t := s.copyAlloc e.committed (m.target e)
  ({ t with moves := Sparse.insert move { m with committed := true, order := e.committed, tokens := [] } t.moves }).setEntry m.entry
    { e with upper := m.dest, dirty := if m.dest.isNone then false else e.dirty }

/-- The state once a commit has been counted (R359). -/
def State.moveCounted (s : State) (m : Move) (bytes poisoned : Nat) (late : Bool) : State :=
  let t := (s.addReg 64 (Obj.bytesMoved m.engine) bytes).addReg 32 (Obj.poisonCopiedCount m.engine) poisoned
  if late then t.count 32 (Obj.lateCommitCount m.engine) else t

/-- The move's deadline is past (R329). -/
def Move.late (mv : Move) (cad : Nat) : Bool :=
  match mv.deadline with
  | some d => decide (d < cad)
  | none => false

theorem State.moveCounted_late (s : State) (m : Move) (bytes poisoned cad : Nat) :
    (let t := (s.addReg 64 (Obj.bytesMoved m.engine) bytes).addReg 32 (Obj.poisonCopiedCount m.engine) poisoned
     match m.deadline with
     | some d => if d < cad then t.count 32 (Obj.lateCommitCount m.engine) else t
     | none => t) = s.moveCounted m bytes poisoned (m.late cad) := by
  unfold Move.late State.moveCounted
  cases m.deadline with
  | none => exact rfl
  | some d =>
    by_cases late : d < cad
    · have counts : decide (d < cad) = true := decide_eq_true late
      exact (if_pos late).trans (if_pos counts).symm
    · have counts : ¬ decide (d < cad) = true := by rw [decide_eq_true_eq]; exact late
      exact (if_neg late).trans (if_neg counts).symm

theorem Obj.moveCounters_apart (d : Nat) : Obj.bytesMoved d ≠ Obj.poisonCopiedCount d ∧ Obj.bytesMoved d ≠ Obj.lateCommitCount d ∧
    Obj.poisonCopiedCount d ≠ Obj.lateCommitCount d := by
  simp only [Obj.bytesMoved, Obj.poisonCopiedCount, Obj.lateCommitCount, obj]
  omega

theorem State.moveCounted_regs (s : State) (m : Move) (bytes poisoned : Nat) (late : Bool) :
    ((s.moveCounted m bytes poisoned late).reg (Obj.bytesMoved m.engine) = (s.reg (Obj.bytesMoved m.engine) + bytes) % 2 ^ 64 ∧
    (s.moveCounted m bytes poisoned late).reg (Obj.poisonCopiedCount m.engine) =
      (s.reg (Obj.poisonCopiedCount m.engine) + poisoned) % 2 ^ 32 ∧
    (s.moveCounted m bytes poisoned late).reg (Obj.lateCommitCount m.engine) =
      (if late then (s.reg (Obj.lateCommitCount m.engine) + 1) % 2 ^ 32 else s.reg (Obj.lateCommitCount m.engine))) ∧
    { s.moveCounted m bytes poisoned late with regs := s.regs } = s := by
  obtain ⟨bytesPoison, bytesLate, poisonLate⟩ := Obj.moveCounters_apart m.engine
  unfold State.moveCounted
  dsimp only
  cases late
  · rw [if_neg Bool.false_ne_true, if_neg Bool.false_ne_true]
    refine ⟨⟨?_, ?_, ?_⟩, rfl⟩
    · rw [State.addReg, State.reg_setReg_other _ _ _ _ bytesPoison]
      exact State.reg_setReg_same _ _ _
    · rw [State.addReg, State.reg_setReg_same, State.addReg, State.reg_setReg_other _ _ _ _ bytesPoison.symm]
    · rw [State.addReg, State.reg_setReg_other _ _ _ _ poisonLate.symm, State.addReg, State.reg_setReg_other _ _ _ _ bytesLate.symm]
  · rw [if_pos rfl, if_pos rfl]
    refine ⟨⟨?_, ?_, ?_⟩, rfl⟩
    · rw [State.count, State.addReg, State.reg_setReg_other _ _ _ _ bytesLate, State.addReg,
        State.reg_setReg_other _ _ _ _ bytesPoison]
      exact State.reg_setReg_same _ _ _
    · rw [State.count, State.addReg, State.reg_setReg_other _ _ _ _ poisonLate, State.addReg, State.reg_setReg_same, State.addReg,
        State.reg_setReg_other _ _ _ _ bytesPoison.symm]
    · rw [State.count, State.addReg, State.reg_setReg_same, State.addReg, State.reg_setReg_other _ _ _ _ poisonLate.symm, State.addReg,
        State.reg_setReg_other _ _ _ _ bytesLate.symm]

section
variable {m : Nat} {mv : Move}

theorem liftMoveCommit_absent (absent : s.moves.find? (fun p => p.1 = m) = none) : exec (.liftMoveCommit m) s = .next s := by
  show execLiftMoveCommit m s = _
  rw [execLiftMoveCommit, absent] <;> rfl

theorem liftCommitAck_absent (absent : s.moves.find? (fun p => p.1 = m) = none) : exec (.liftCommitAck m) s = .next s := by
  show execLiftCommitAck m s = _
  rw [execLiftCommitAck, absent] <;> rfl

section
variable (listed : s.moves.find? (fun p => p.1 = m) = some (m, mv))
include listed

theorem liftMoveCommit_barred (barred : mv.flying = false ∨ mv.committed = true ∨ s.reg Obj.supplyState = 1) :
    exec (.liftMoveCommit m) s = .next s := by
  have stops : (!mv.flying || mv.committed || s.reg Obj.supplyState == 1) = true := by
    rcases barred with h | h | h <;> simp [h]
  show execLiftMoveCommit m s = _
  rw [execLiftMoveCommit, listed]
  exact if_pos stops

theorem liftCommitAck_uncommitted (flies : mv.committed = false) : exec (.liftCommitAck m) s = .next s := by
  show execLiftCommitAck m s = _
  rw [execLiftCommitAck, listed]
  exact if_pos (by rw [flies]; rfl)

theorem liftMoveCommit_run {e : Entry} (flying : mv.flying = true) (flies : mv.committed = false)
    (supplied : s.reg Obj.supplyState ≠ 1) (here : s.entry? mv.entry = some e) :
    exec (.liftMoveCommit m) s = .next ((((s.linesMoved m mv e).moveCounted mv (64 * e.lines) (s.poisonCount e.committed)
      (mv.late s.time.cad)).settleTokens mv.tokens 0).wakePromotion mv.entry) := by
  have goes : ¬ (!mv.flying || mv.committed || s.reg Obj.supplyState == 1) = true := by simp [flying, flies, supplied]
  show execLiftMoveCommit m s = _
  rw [execLiftMoveCommit, listed]
  refine (if_neg goes).trans ?_
  show (match s.entry? mv.entry with
    | none => _
    | some e => _) = _
  rw [here]
  refine congrArg (fun t : State => Host.Outcome.next ((t.settleTokens mv.tokens 0).wakePromotion mv.entry)) ?_
  exact State.moveCounted_late (s.linesMoved m mv e) mv e.bytes (s.poisonCount e.committed) s.time.cad

theorem liftMoveCommit_commits {e : Entry} (flying : mv.flying = true) (flies : mv.committed = false)
    (supplied : s.reg Obj.supplyState ≠ 1) (here : s.entry? mv.entry = some e) (wf : Memory.wf s.mem = true) :
    (let dst := match mv.dest with
       | some u => u.alloc
       | none => e.homeAlloc
     ∃ t, exec (.liftMoveCommit m) s = .next t ∧
      (dst ≠ e.committed → (∀ o, o < 2 ^ 32 → t.rdByte dst o = s.rdByte e.committed o) ∧
        (∀ a o, o < 2 ^ 32 → a ≠ dst → t.rdByte a o = s.rdByte a o)) ∧
      t.poison = (s.copyAlloc e.committed dst).poison ∧
      t.entry? mv.entry = some { e with upper := mv.dest, dirty := if mv.dest.isNone then false else e.dirty } ∧
      t.moves = Sparse.insert m { mv with committed := true, order := e.committed, tokens := [] } s.moves ∧
      t.reg (Obj.bytesMoved mv.engine) = (s.reg (Obj.bytesMoved mv.engine) + 64 * e.lines) % 2 ^ 64 ∧
      t.reg (Obj.poisonCopiedCount mv.engine) = (s.reg (Obj.poisonCopiedCount mv.engine) + s.poisonCount e.committed) % 2 ^ 32 ∧
      t.reg (Obj.lateCommitCount mv.engine) = (if (match mv.deadline with | some d => decide (d < s.time.cad) | none => false) then
        (s.reg (Obj.lateCommitCount mv.engine) + 1) % 2 ^ 32 else s.reg (Obj.lateCommitCount mv.engine)) ∧
      (∀ c x, (s.ctx c x).state = 3 → (s.ctx c x).waits = .promotion mv.entry →
        (t.ctx c x).state = 1 ∧ (t.ctx c x).waits = .nothing) ∧
      t.allocs = s.allocs ∧ t.tenants = s.tenants) := by
  dsimp only
  obtain ⟨counted, rest⟩ := (s.linesMoved m mv e).moveCounted_regs mv (64 * e.lines) (s.poisonCount e.committed) (mv.late s.time.cad)
  have run := liftMoveCommit_run listed flying flies supplied here
  generalize (s.linesMoved m mv e).moveCounted mv (64 * e.lines) (s.poisonCount e.committed) (mv.late s.time.cad) = u at counted rest run
  obtain ⟨regs, rfl⟩ : ∃ regs, u = { s.linesMoved m mv e with regs := regs } := ⟨u.regs, by rw [← rest]⟩
  obtain ⟨ctxs, settled⟩ := State.settleTokens_eq { s.linesMoved m mv e with regs := regs } mv.tokens 0
  obtain ⟨moved, poisoned, late⟩ := counted
  refine ⟨_, run, fun apart => ⟨fun o fits => ?_, fun a o fits other => ?_⟩, ?_, ?_, ?_, ?_, ?_, ?_, fun c x state waits => ?_, ?_, ?_⟩
  · rw [settled]
    exact State.rdByte_copyAlloc s e.committed _ fits wf
  · rw [settled]
    exact State.rdByte_copyAlloc_other s e.committed other fits
  · rw [settled] <;> rfl
  · rw [settled]
    exact (State.entry?_insert (s := s) (t := s.linesMoved m mv e) rfl mv.entry).trans (if_pos rfl)
  · rw [settled] <;> rfl
  · rw [settled]
    exact moved
  · rw [settled]
    exact poisoned
  · rw [settled]
    exact late
  · obtain ⟨state', waits'⟩ := State.settleTokens_waiting mv.tokens 0 { s.linesMoved m mv e with regs := regs } (c := c) (x := x) state waits
    exact State.wakePromotion_wakes state' waits'
  · rw [settled] <;> rfl
  · rw [settled] <;> rfl

/-! A commit is acknowledged (R325, R326, R328, R336) -/

theorem liftCommitAck_acks {e : Entry} (committed : mv.committed = true) (tokens : mv.tokens = []) (here : s.entry? mv.entry = some e) :
    ∃ u : State, u.moves = Sparse.erase m s.moves ∧
      u.entry? mv.entry = some { e with moving := false } ∧ (∀ k, k ≠ mv.entry → u.entry? k = s.entry? k) ∧
      { u with moves := s.moves, entries := s.entries } = s ∧ exec (.liftCommitAck m) s = .next (
        let v := if mv.order = e.homeAlloc then u else u.freeAlloc mv.order false
        (if e.removeAtCommit then v.removeEntry mv.entry false else v.evaluate mv.entry).resumeHost) := by
  have entries := State.entry?_insert (s := s) (t := { s with
    moves := Sparse.erase m s.moves
    entries := Sparse.insert mv.entry { e with moving := false } s.entries }) rfl
  refine ⟨{ s with moves := Sparse.erase m s.moves, entries := Sparse.insert mv.entry { e with moving := false } s.entries }, rfl,
    (entries mv.entry).trans (if_pos rfl), fun k other => (entries k).trans (if_neg other), rfl, ?_⟩
  have still : State.entry? { s with moves := Sparse.erase m s.moves } mv.entry = some e := here
  show execLiftCommitAck m s = _
  rw [execLiftCommitAck, listed]
  refine (if_neg (by rw [committed]; exact Bool.false_ne_true)).trans ?_
  dsimp only
  rw [tokens]
  show (match State.entry? { s with moves := Sparse.erase m s.moves } mv.entry with
    | none => _
    | some e => _) = _
  rw [still]
  dsimp only
  by_cases removed : e.removeAtCommit = true
  · rw [if_pos removed, if_pos removed] <;> rfl
  · rw [if_neg removed, if_neg removed] <;> rfl

end

end

end

/-- A freed allocation is gone, reads as zero, and its tenant is charged that much less (R335, R701). -/
theorem State.freeAlloc_freed (s : State) (a : Nat) (v : Alloc) (listed : s.allocs.find? (fun p => p.1 = a) = some (a, v))
    (charged : v.bytes ≤ s.reg (chargedObj v.tier v.tenant)) (lent : s.loans = []) : ∃ t, s.freeAlloc a false = t ∧
    t.allocs = Sparse.erase a s.allocs ∧ (∀ o, o < 2 ^ 32 → t.rdByte a o = 0) ∧
    t.reg (chargedObj v.tier v.tenant) + v.bytes = s.reg (chargedObj v.tier v.tenant) := by
  let u := s.setReg (chargedObj v.tier v.tenant) (s.reg (chargedObj v.tier v.tenant) - v.bytes)
  have repaid : u.settleLoans v.tier v.tenant v.bytes = u := by
    refine if_pos ?_
    show loansTo v.tier v.tenant s.loans = 0
    rw [lent] <;> rfl
  have freed : s.freeAlloc a false = ({ u with allocs := Sparse.erase a u.allocs }).zeroAlloc a := by
    show State.freeAlloc s a false = _
    rw [State.freeAlloc, listed]
    show (({ u.settleLoans v.tier v.tenant v.bytes with
      allocs := Sparse.erase a (u.settleLoans v.tier v.tenant v.bytes).allocs } : State)).zeroAlloc a = _
    rw [repaid]
  refine ⟨_, rfl, ?_, fun o fits => ?_, ?_⟩
  · rw [freed] <;> rfl
  · rw [freed]
    exact State.rdByte_zeroAlloc_same _ a o fits
  · have now : (s.freeAlloc a false).reg (chargedObj v.tier v.tenant) = s.reg (chargedObj v.tier v.tenant) - v.bytes := by
      rw [freed]
      exact State.reg_setReg_same _ _ _
    rw [now, Nat.sub_add_cancel charged]

/-- Settles O24: a claim is settled by the tier its entry has reached, by the move in flight, or by the refusals in their order; a dropped
claim is gone whatever the entry's other claims then ask; a move starts, commits and is acknowledged in one place each. -/
theorem liftClaimsAndMoves : Obligations.LiftClaimsAndMoves :=
  ⟨fun _ _ _ _ _ issues bad => liftClaim_unsound issues bad,
    fun _ _ _ _ _ _ issues tier named free lost => liftClaim_lost issues tier named free lost,
    fun _ _ _ _ _ _ _ issues tier named free found => liftClaim_applies issues tier named free found,
    fun _ _ _ _ => ⟨State.applyClaim_low, State.applyClaim_fixed, State.applyClaim_full,
      fun claimable still reached => (State.applyClaim_reached claimable still reached).1,
      fun claimable still reached => (State.applyClaim_reached claimable still reached).2,
      fun claimable still above own room fits queue => State.applyClaim_promotes claimable still above own room fits queue,
      fun claimable still above short => State.applyClaim_short claimable still above short,
      fun claimable still above own room near crowded => State.applyClaim_crowded claimable still above own room near crowded,
      fun claimable still above own room fits full => State.applyClaim_queueFull claimable still above own room fits full,
      fun _ _ _ claimable moves flies dest => State.applyClaim_rising claimable moves flies dest,
      fun _ _ claimable moves flies home => State.applyClaim_falling claimable moves flies home,
      fun _ _ claimable moves committed => State.applyClaim_committed claimable moves committed,
      State.record_new⟩,
    fun _ _ _ _ _ issues unnamed => liftDrop_unnamed issues unnamed,
    fun _ _ _ _ _ _ issues named lost => liftDrop_lost issues named lost,
    fun _ _ _ _ _ _ _ _ issues named found here => liftDrop_drops issues named found here,
    fun _ _ => liftMoveStart_barred,
    fun _ _ => liftMoveStart_none,
    fun _ _ _ _ _ room supplied next here => liftMoveStart_starts room supplied next here,
    fun _ _ _ _ listed flying flies supplied here _ wf => liftMoveCommit_commits listed flying flies supplied here wf,
    fun _ _ _ listed => ⟨liftMoveCommit_barred listed, liftCommitAck_uncommitted listed⟩,
    fun _ _ absent => ⟨liftMoveCommit_absent absent, liftCommitAck_absent absent⟩,
    fun _ _ _ _ listed committed tokens here => liftCommitAck_acks listed committed tokens here,
    fun s a v listed _ _ charged lent => s.freeAlloc_freed a v listed charged lent⟩

end Sys2Proof.Machine
end

section
/-! Decisions of the ledger: the root's, what a member takes and passes down its tree, aborts asked for, and the member list (R565, R566,
R574 to R582). -/

namespace Sys2Proof.Machine

set_option Elab.async false

/-! Messages down the tree (R572, R574) -/

section
variable {s t u : State} {n : Nat}

theorem LedgerSent.refl (s : State) (n : Nat) : LedgerSent s s n [] :=
  ⟨by rw [List.append_nil], fun _ _ => rfl, (List.append_nil _).symm, rfl⟩

theorem LedgerSent.trans {as bs : List (Nat × LedgerMsg)} (first : LedgerSent s t n as) (then_ : LedgerSent t u n bs) :
    LedgerSent s u n (as ++ bs) := by
  refine ⟨?_, fun k other => (then_.others k other).trans (first.others k other), ?_, ?_⟩
  · rw [then_.tenant, first.tenant]
    dsimp only
    rw [List.append_assoc]
  · rw [then_.out, first.out, List.map_append, List.append_assoc]
  · exact (congrArg (fun v : State => { v with tenants := s.tenants, out := s.out }) then_.rest).trans first.rest

theorem State.foldl_sendLedger {α : Type} (f : α → Nat × LedgerMsg) (l : List α) (s : State) :
    LedgerSent s (l.foldl (fun t a => t.sendLedger n (f a).1 (f a).2) s) n (l.map f) := by
  induction l generalizing s with
  | nil => exact .refl s n
  | cons a l ih => exact (s.sendLedger_sent n (f a).1 (f a).2).trans (ih _)

theorem State.sendDown_sent (s : State) (n : Nat) (m : LedgerMsg) : LedgerSent s (s.sendDown n m) n (s.toChildren n m) :=
  State.foldl_sendLedger (fun c => (c, { m with sender := s.chip })) (s.childChips n) s

/-- Who is in the tree depends on the live set and on this package alone (R572). -/
theorem State.childChips_keepDecision (s : State) (n : Nat) (d : Decision) : (s.keepDecision n d).childChips n = s.childChips n := by
  have live : (s.keepDecision n d).liveOf n = s.liveOf n := by
    unfold State.keepDecision State.liveOf
    rw [State.tenant_setTenant]
    exact rfl
  rw [State.childChips, State.childChips, State.indexIn, State.indexIn, live]
  exact rfl

theorem State.keepDecision_sends (s : State) (n : Nat) (d : Decision) (m : LedgerMsg) :
    LedgerSent (s.keepDecision n d) ((s.keepDecision n d).sendDown n m) n (s.toChildren n m) := by
  have sent := (s.keepDecision n d).sendDown_sent n m
  rw [State.toChildren, State.childChips_keepDecision] at sent
  exact sent

end

/-! Commits and aborts taken (R579 to R582) -/

section
variable {s : State} {n : Nat} {m : LedgerMsg}

theorem State.takeCommit_untimely (untimely : s.oldestStep n < m.step ∨ (m.step = s.oldestStep n ∧ m.attempt ≠ s.attemptOf n m.step)) :
    s.takeCommit n m = s := by
  have open_ : ¬ m.step < s.oldestStep n := by omega
  have apart : m.step ≠ s.oldestStep n ∨ m.attempt ≠ s.attemptOf n m.step := by omega
  rw [State.takeCommit, if_neg open_, if_pos apart]

theorem State.takeCommit_known (known : m.step < s.oldestStep n ∨
    (m.step = s.oldestStep n ∧ m.attempt = s.attemptOf n m.step ∧ s.decided n m.step m.attempt = true)) :
    LedgerSent s (s.takeCommit n m) n (s.toChildren n m) := by
  have down : s.takeCommit n m = s.sendDown n m := by
    rcases known with past | ⟨step, attempt, decided⟩
    · rw [State.takeCommit, if_pos past]
    · have open_ : ¬ m.step < s.oldestStep n := by omega
      have current : ¬ (m.step ≠ s.oldestStep n ∨ m.attempt ≠ s.attemptOf n m.step) := by omega
      rw [State.takeCommit, if_neg open_, if_neg current, if_pos decided]
  rw [down]
  exact s.sendDown_sent n m

/-- A commit is scheduled in an entry kept for commits (R579). -/
theorem State.schedule_commit (s : State) (gate n step attempt code : Nat) (late : Bool) :
    s.schedule ⟨gate, .commit n step attempt code late⟩ =
      { s with time := { s.time with events := s.time.events ++ [⟨gate, .commit n step attempt code late⟩] } } :=
  if_pos (Bool.true_or _)

theorem carriedBy_code (m : LedgerMsg) :
    (match carriedBy m with | some v => v + 1 | none => 0) = if m.hasProposal then m.proposal + 1 else 0 := by
  unfold carriedBy
  cases m.hasProposal <;> rfl

theorem State.takeCommit_taken (step : m.step = s.oldestStep n) (attempt : m.attempt = s.attemptOf n m.step)
    (undecided : s.decided n m.step m.attempt = false) : CommitTaken s (s.takeCommit n m) n m := by
  have open_ : ¬ m.step < s.oldestStep n := by omega
  have current : ¬ (m.step ≠ s.oldestStep n ∨ m.attempt ≠ s.attemptOf n m.step) := by omega
  have new : ¬ s.decided n m.step m.attempt = true := by rw [undecided]; exact Bool.false_ne_true
  have kept : s.keepDecision n (decisionOf m true) = s.setTenant n { s.tenant n with decisions := (s.tenant n).decisions ++
      [⟨m.step, m.attempt, true, m.commitGate / 1024, if m.hasProposal then some m.proposal else none⟩] } := rfl
  have sent := s.keepDecision_sends n (decisionOf m true) m
  have taken : s.takeCommit n m = ((s.keepDecision n (decisionOf m true)).sendDown n m).schedule
      ⟨m.commitGate / 1024, .commit n m.step m.attempt (match carriedBy m with | some v => v + 1 | none => 0) m.commitApplied⟩ := by
    rw [State.takeCommit, if_neg open_, if_neg current, if_neg new] <;> rfl
  rw [taken, State.schedule_commit, carriedBy_code]
  generalize (s.keepDecision n (decisionOf m true)).sendDown n m = v at sent
  rw [kept] at sent
  exact ⟨_, v, s.setTenant_tenantSet n _, sent, rfl, rfl⟩

theorem State.takeAbort_untimely (untimely : m.step < s.oldestStep n ∨ s.attemptOf n m.step < m.attempt) : s.takeAbort n m = s :=
  if_pos untimely

theorem State.takeAbort_known (open_ : s.oldestStep n ≤ m.step) (known : m.attempt < s.attemptOf n m.step ∨
    (m.attempt = s.attemptOf n m.step ∧ s.decided n m.step m.attempt = true)) :
    LedgerSent s (s.takeAbort n m) n (s.toChildren n m) := by
  have timely : ¬ (m.step < s.oldestStep n ∨ s.attemptOf n m.step < m.attempt) := by omega
  have ended : m.attempt ≠ s.attemptOf n m.step ∨ s.decided n m.step m.attempt = true :=
    known.imp Nat.ne_of_lt And.right
  rw [State.takeAbort, if_neg timely, if_pos ended]
  exact s.sendDown_sent n m

theorem State.takeAbort_taken (open_ : s.oldestStep n ≤ m.step) (attempt : m.attempt = s.attemptOf n m.step)
    (undecided : s.decided n m.step m.attempt = false) : AbortTaken s (s.takeAbort n m) n m := by
  have timely : ¬ (m.step < s.oldestStep n ∨ s.attemptOf n m.step < m.attempt) := by omega
  have runs : ¬ (m.attempt ≠ s.attemptOf n m.step ∨ s.decided n m.step m.attempt = true) := by
    rw [undecided]
    rintro (other | no)
    · exact other attempt
    · exact Bool.false_ne_true no
  have taken : s.takeAbort n m = ((s.keepDecision n (decisionOf m false)).sendDown n m).abortFrom n m.step m.causes := by
    rw [State.takeAbort, if_neg timely, if_neg runs]
  exact ⟨s.keepDecision n (decisionOf m false), (s.keepDecision n (decisionOf m false)).sendDown n m, s.setTenant_tenantSet n _,
    s.keepDecision_sends n _ m, taken⟩

end

/-! The root decides (R575 to R578) -/

section
variable {s : State} {n : Nat} {v : LedgerMsg}

theorem State.decideVote_commits (veto : v.veto = false) (mismatch : v.mismatch = false)
    (quorum : (s.membersOf n).length < 2 * (s.liveOf n).length) : s.decideVote n v = s.takeCommit n { s.ledgerMsg n 2 v.step with
      commitGate := gateFrom (s.beatNo + s.reg (Obj.commitLeadBeats n)) s.gatePeriod * 1024, hasProposal := v.hasProposal,
      proposal := v.proposal, voters := v.voters } := by
  have commits : ¬ (v.veto || v.mismatch || !decide ((s.membersOf n).length < 2 * (s.liveOf n).length)) = true := by
    simp [veto, mismatch, quorum]
  exact if_neg commits

theorem State.decideVote_aborts (fails : v.veto = true ∨ v.mismatch = true ∨ 2 * (s.liveOf n).length ≤ (s.membersOf n).length) :
    (let quorum : Prop := (s.membersOf n).length < 2 * (s.liveOf n).length
     let t := if v.mismatch = true then s.ledgerEvent n 10 0xFFFF v.step 0 else s
     let u := if quorum then t else t.ledgerEvent n 17 0xFFFF v.step 0
     s.decideVote n v = u.takeAbort n { u.ledgerMsg n 3 v.step with
       causes := (v.causes ||| if v.mismatch = true then 32 else 0) ||| if quorum then 0 else 64 }) := by
  have aborts : (v.veto || v.mismatch || !decide ((s.membersOf n).length < 2 * (s.liveOf n).length)) = true := by
    rcases fails with h | h | h
    · simp [h]
    · simp [h]
    · simp [Nat.not_lt.2 h]
  refine (if_pos aborts).trans ?_
  by_cases quorum : (s.membersOf n).length < 2 * (s.liveOf n).length
  · simp only [quorum, decide_true, if_true]
    exact rfl
  · simp only [quorum, decide_false, if_false, Bool.false_eq_true]
    exact rfl

end

/-! Acknowledgements, resends, requests and missing votes (R574, R576, R578) -/

theorem ledgerAckReceive_acks {s : State} {m : LedgerMsg} {n : Nat} (job : s.tenantOfJob m.jobId = some n) :
    ∃ t, exec (.ledgerAckReceive m) s = .next t ∧ TenantSet s t n { s.tenant n with unacked := (s.tenant n).unacked.filter fun u =>
      !(u.1 == m.sender && u.2.step == m.step && u.2.attempt == m.attempt && u.2.jobEpoch == m.jobEpoch) } := by
  refine ⟨_, ?_, s.setTenant_tenantSet n _⟩
  show execLedgerAckReceive m s = _
  rw [execLedgerAckReceive, job]
  exact rfl

theorem ledgerResend_sends (s : State) (n : Nat) : exec (.ledgerResend n) s =
    .next { s with out := s.out ++ (s.tenant n).unacked.map fun u => .ledger u.1 u.2 } :=
  congrArg Host.Outcome.next (State.foldl_emit (fun u : Nat × LedgerMsg => Msg.ledger u.1 u.2) _ s)

section
variable {s : State} {sess n : Nat} (step : Nat) (may : MayWrite s sess (0x7010 + n) 7)
include may

theorem abortRequest_may : exec (.abortRequest sess n step) s = .next (
    if (s.tenant n).state ≠ 1 then s
    else if s.isRoot n then s.requestedAbort n step
    else s.sendLedger n ((s.liveOf n).headD 0xFFFF) (s.ledgerMsg n 7 step)) :=
  congrArg Host.Outcome.next (State.guarded_may _ may)

theorem abortRequest_idle (idle : (s.tenant n).state ≠ 1) : exec (.abortRequest sess n step) s = .next s := by
  rw [abortRequest_may step may, if_pos idle]

theorem abortRequest_root (runs : (s.tenant n).state = 1) (root : s.isRoot n = true) :
    exec (.abortRequest sess n step) s = .next (s.requestedAbort n step) := by
  rw [abortRequest_may step may, if_neg (not_not.2 runs), if_pos root]

theorem abortRequest_member (runs : (s.tenant n).state = 1) (member : s.isRoot n = false) : ∃ t,
    exec (.abortRequest sess n step) s = .next t ∧ LedgerSent s t n [((s.liveOf n).headD 0xFFFF, s.ledgerMsg n 7 step)] := by
  refine ⟨_, ?_, s.sendLedger_sent n _ _⟩
  rw [abortRequest_may step may, if_neg (not_not.2 runs), if_neg (by rw [member]; exact Bool.false_ne_true)]

end

theorem State.requestedAbort_aborts {s : State} {n step : Nat} (open_ : s.oldestStep n ≤ step) (near : step ≤ s.oldestStep n + 1)
    (undecided : s.decided n step (s.attemptOf n step) = false) :
    AbortTaken s (s.requestedAbort n step) n { s.ledgerMsg n 3 step with causes := 4 } := by
  have aborts : ¬ (step < s.oldestStep n ∨ s.oldestStep n + 1 < step ∨ s.decided n step (s.attemptOf n step) = true) := by
    rw [undecided]
    rintro (past | far | no)
    · omega
    · omega
    · exact Bool.false_ne_true no
  rw [State.requestedAbort, if_neg aborts]
  exact State.takeAbort_taken (m := { s.ledgerMsg n 3 step with causes := 4 }) open_ rfl undecided

theorem State.requestedAbort_ignored {s : State} {n step : Nat}
    (ignored : step < s.oldestStep n ∨ s.oldestStep n + 1 < step ∨ s.decided n step (s.attemptOf n step) = true) :
    s.requestedAbort n step = s :=
  if_pos ignored

section
variable {s : State} {n : Nat}

theorem voteTimeout_idle (idle : (s.tenant n).state ≠ 1 ∨ s.isRoot n = false ∨ s.voteSeen n (s.oldestStep n) = false ∨
    s.decided n (s.oldestStep n) (s.attemptOf n (s.oldestStep n)) = true) : exec (.voteTimeout n) s = .next s := by
  refine if_neg ?_
  rintro ⟨runs, root, seen, undecided⟩
  rcases idle with h | h | h | h
  · exact h runs
  · exact Bool.false_ne_true (h.symm.trans root)
  · exact Bool.false_ne_true (h.symm.trans seen)
  · rw [h] at undecided
    exact Bool.false_ne_true undecided

theorem voteTimeout_aborts (runs : (s.tenant n).state = 1) (root : s.isRoot n = true) (seen : s.voteSeen n (s.oldestStep n) = true)
    (undecided : s.decided n (s.oldestStep n) (s.attemptOf n (s.oldestStep n)) = false) : exec (.voteTimeout n) s =
      .next ((s.ledgerEvent n 9 (s.missingChild n (s.oldestStep n)) (s.oldestStep n) 0).decideAbort n (s.oldestStep n) 16) :=
  if_pos ⟨runs, root, seen, by rw [undecided]; rfl⟩

end

/-! A new root asks (R582) -/

section
variable {s : State} {n : Nat}

/-- Every other member has reported on a step. -/
def State.heardAll (s : State) (n k : Nat) : Prop := ∀ c ∈ s.others n, ∃ m ∈ (s.tenant n).reports, m.sender = c ∧ m.step = k

theorem State.heardAll_iff (s : State) (n k : Nat) :
    ((s.others n).all fun c => (s.tenant n).reports.any fun m => m.sender == c && m.step == k) = true ↔ s.heardAll n k := by
  simp [State.heardAll]

theorem State.resolveQuery_waits (waits : (s.tenant n).querying = false ∨ ¬ s.heardAll n (s.oldestStep n)) : s.resolveQuery n = s := by
  refine if_pos ?_
  rw [Bool.or_eq_true, Bool.not_eq_true', Bool.not_eq_true']
  refine waits.imp id fun unheard => ?_
  rw [← Bool.not_eq_true, State.heardAll_iff]
  exact unheard

section
variable (asks : (s.tenant n).querying = true) (heard : s.heardAll n (s.oldestStep n))
include asks heard

theorem State.resolveQuery_resolves : s.resolveQuery n = (
    let s1 := s.setTenant n { s.tenant n with querying := false }
    match (s.tenant n).decisions.find? fun d => d.step == s.oldestStep n && d.attempt == s.attemptOf n (s.oldestStep n) && d.commit with
    | some d => s1.resendCommit n d
    | none =>
      match (s.tenant n).reports.find? fun m => m.step == s.oldestStep n && (m.commitHeld || m.commitApplied) with
      | some m => s1.resendCommit n (decisionOf m true)
      | none => s1.decideAbort n (s.oldestStep n) 8) := by
  have ready : ¬ (!(s.tenant n).querying ||
      !((s.others n).all fun c => (s.tenant n).reports.any fun m => m.sender == c && m.step == s.oldestStep n)) = true := by
    rw [asks, (s.heardAll_iff n (s.oldestStep n)).2 heard]
    exact Bool.false_ne_true
  exact if_neg ready

theorem State.resolveQuery_answers : ∃ u, TenantSet s u n { s.tenant n with querying := false } ∧
    (∀ d, (s.tenant n).decisions.find? (fun d => d.step == s.oldestStep n && d.attempt == s.attemptOf n (s.oldestStep n) && d.commit)
      = some d → s.resolveQuery n = u.resendCommit n d) ∧
    ((∀ d ∈ (s.tenant n).decisions, d.step ≠ s.oldestStep n ∨ d.attempt ≠ s.attemptOf n (s.oldestStep n) ∨ d.commit = false) →
      (∀ m ∈ (s.tenant n).reports, m.step ≠ s.oldestStep n ∨ (m.commitHeld = false ∧ m.commitApplied = false)) →
      s.resolveQuery n = u.decideAbort n (s.oldestStep n) 8) := by
  refine ⟨_, s.setTenant_tenantSet n _, fun d held => ?_, fun none silent => ?_⟩
  · rw [State.resolveQuery_resolves asks heard]
    dsimp only
    rw [held]
  · have undecided : (s.tenant n).decisions.find?
        (fun d => d.step == s.oldestStep n && d.attempt == s.attemptOf n (s.oldestStep n) && d.commit) = Option.none := by
      refine List.find?_eq_none.2 fun d hd => ?_
      rcases none d hd with h | h | h <;> simp [h]
    have unreported : (s.tenant n).reports.find? (fun m => m.step == s.oldestStep n && (m.commitHeld || m.commitApplied)) = Option.none := by
      refine List.find?_eq_none.2 fun m hm => ?_
      rcases silent m hm with h | ⟨h, h'⟩
      · simp [h]
      · simp [h, h']
    rw [State.resolveQuery_resolves asks heard]
    dsimp only
    rw [undecided]
    dsimp only
    rw [unreported]

end

end

end Sys2Proof.Machine
end

section
/-! A new job epoch, the member list, and a commit that runs at its gate (R565, R566, R578 to R582). -/

namespace Sys2Proof.Machine

set_option Elab.async false

theorem Obj.memberObjs_apart (n : Nat) : Obj.jobEpoch n ≠ Obj.liveMembers n ∧ Obj.jobEpoch n ≠ Obj.ledgerRoot n ∧
    Obj.liveMembers n ≠ Obj.ledgerRoot n := by
  simp only [Obj.jobEpoch, Obj.liveMembers, Obj.ledgerRoot, obj]
  omega

/-- The three objects that say what a tenant's live set is (R566). -/
def State.showMembers (s : State) (n epoch members root : Nat) : State :=
  ((s.setReg (Obj.jobEpoch n) epoch).setReg (Obj.liveMembers n) members).setReg (Obj.ledgerRoot n) root

theorem State.showMembers_shows (s : State) (n epoch members root : Nat) :
    (s.showMembers n epoch members root).reg (Obj.jobEpoch n) = epoch ∧
    (s.showMembers n epoch members root).reg (Obj.liveMembers n) = members ∧
    (s.showMembers n epoch members root).reg (Obj.ledgerRoot n) = root ∧
    OnlyRegs [Obj.jobEpoch n, Obj.liveMembers n, Obj.ledgerRoot n] s (s.showMembers n epoch members root) := by
  obtain ⟨epochMembers, epochRoot, membersRoot⟩ := Obj.memberObjs_apart n
  refine ⟨?_, ?_, State.reg_setReg_same _ _ _, ?_⟩
  · rw [State.showMembers, State.reg_setReg_other _ _ _ _ epochRoot, State.reg_setReg_other _ _ _ _ epochMembers, State.reg_setReg_same]
  · rw [State.showMembers, State.reg_setReg_other _ _ _ _ membersRoot, State.reg_setReg_same]
  · exact (((OnlyRegs.refl _ s).setReg (by simp) epoch).setReg (by simp) members).setReg (by simp) root

/-! A new job epoch (R578, R582) -/

/-- The state in which a tenant's ledger stands at a new job epoch, before anything is decided. -/
def State.epochChanged (s : State) (n epoch : Nat) : State :=
  (s.setTenant n { s.tenant n with
    votes := (s.tenant n).votes.filter fun m => m.jobEpoch == epoch, reports := [], querying := false }).showMembers n epoch
      (s.tenant n).live.length ((s.tenant n).live.head?.getD 0xFFFF)

theorem State.epochChanged_tenant (s : State) (n epoch : Nat) : (s.epochChanged n epoch).tenant n = { s.tenant n with
    votes := (s.tenant n).votes.filter fun m => m.jobEpoch == epoch, reports := [], querying := false } :=
  State.tenant_setTenant s n _

theorem State.jobEpochChange_idle {s : State} {n : Nat} (epoch : Nat) (idle : (s.tenant n).state ≠ 1) :
    s.jobEpochChange n epoch = s.epochChanged n epoch :=
  if_pos idle

section
variable {s : State} {n epoch : Nat} (runs : (s.tenant n).state = 1)
  (none : ∀ d ∈ (s.tenant n).decisions, d.step + 1 ≠ (s.epochChanged n epoch).oldestStep n ∨ d.commit = false)
include runs none

theorem State.jobEpochChange_undecided : s.jobEpochChange n epoch = (
    let u := s.epochChanged n epoch
    let k := u.oldestStep n
    if (s.tenant n).ownVote.isSome then
      State.abortUnvoted (if u.isRoot n then
          ((u.others n).foldl (fun t c => t.sendLedger n c (u.ledgerMsg n 5 k))
            (u.setTenant n { u.tenant n with querying := true })).resolveQuery n
        else u) n (k + 1)
    else if u.isRoot n then u.decideAbort n k 8
    else u.abortUnvoted n k) := by
  have undecided : (s.tenant n).decisions.find? (fun d => d.step + 1 == (s.epochChanged n epoch).oldestStep n && d.commit) =
      Option.none := by
    refine List.find?_eq_none.2 fun d hd => ?_
    rcases none d hd with h | h <;> simp [h]
  refine (if_neg (not_not.2 runs)).trans ?_
  show (let u := s.epochChanged n epoch
    let k := u.oldestStep n
    let v := match (s.tenant n).decisions.find? (fun d => d.step + 1 == (s.epochChanged n epoch).oldestStep n && d.commit) with
      | some d => if u.isRoot n then u.resendCommit n d else u
      | Option.none => u
    if (s.tenant n).ownVote.isSome then
      State.abortUnvoted (if v.isRoot n then
          ((v.others n).foldl (fun t c => t.sendLedger n c (v.ledgerMsg n 5 k))
            (v.setTenant n { v.tenant n with querying := true })).resolveQuery n
        else v) n (k + 1)
    else if v.isRoot n then v.decideAbort n k 8
    else v.abortUnvoted n k) = _
  rw [undecided]

theorem State.jobEpochChange_unvoted (unvoted : (s.tenant n).ownVote = Option.none) : s.jobEpochChange n epoch = (
    let u := s.epochChanged n epoch
    if u.isRoot n = true then u.decideAbort n (u.oldestStep n) 8
    else if ((s.tenant n).step? (u.oldestStep n)).isSome = true then u.abortFrom n (u.oldestStep n) 8 else u) := by
  rw [State.jobEpochChange_undecided runs none]
  dsimp only
  rw [unvoted, if_neg (by decide)]
  by_cases root : (s.epochChanged n epoch).isRoot n = true
  · rw [if_pos root, if_pos root]
  · have steps : ((s.epochChanged n epoch).tenant n).step? ((s.epochChanged n epoch).oldestStep n) =
        (s.tenant n).step? ((s.epochChanged n epoch).oldestStep n) := by
      rw [State.epochChanged_tenant] <;> rfl
    rw [if_neg root, if_neg root, State.abortUnvoted, steps, if_neg root]
    cases (s.tenant n).step? ((s.epochChanged n epoch).oldestStep n) with
    | none => exact rfl
    | some p => exact rfl

theorem State.jobEpochChange_voted (voted : (s.tenant n).ownVote ≠ Option.none) (member : (s.epochChanged n epoch).isRoot n = false) :
    s.jobEpochChange n epoch = (s.epochChanged n epoch).abortUnvoted n ((s.epochChanged n epoch).oldestStep n + 1) := by
  rw [State.jobEpochChange_undecided runs none]
  dsimp only
  rw [if_pos (Option.isSome_iff_ne_none.2 voted), if_neg (by rw [member]; exact Bool.false_ne_true)]

theorem State.jobEpochChange_asks (voted : (s.tenant n).ownVote ≠ Option.none) (root : (s.epochChanged n epoch).isRoot n = true) :
    (let u := s.epochChanged n epoch
     ∃ v, s.jobEpochChange n epoch = (v.resolveQuery n).abortUnvoted n (u.oldestStep n + 1) ∧
      ∃ w, TenantSet u w n { u.tenant n with querying := true } ∧
        LedgerSent w v n ((u.others n).map fun c => (c, u.ledgerMsg n 5 (u.oldestStep n)))) := by
  refine ⟨_, ?_, _, State.setTenant_tenantSet _ n _, State.foldl_sendLedger (fun c =>
    (c, (s.epochChanged n epoch).ledgerMsg n 5 ((s.epochChanged n epoch).oldestStep n))) _ _⟩
  rw [State.jobEpochChange_undecided runs none]
  dsimp only
  rw [if_pos (Option.isSome_iff_ne_none.2 voted), if_pos root]

end

theorem State.jobEpochChange_changes (s : State) (n epoch : Nat) : ∃ u : State,
    u.tenant n = { s.tenant n with
      votes := (s.tenant n).votes.filter fun m => m.jobEpoch == epoch, reports := [], querying := false } ∧
    u.reg (Obj.jobEpoch n) = epoch ∧ u.reg (Obj.liveMembers n) = (s.tenant n).live.length ∧
    u.reg (Obj.ledgerRoot n) = (s.tenant n).live.head?.getD 0xFFFF ∧
    OnlyRegs [Obj.jobEpoch n, Obj.liveMembers n, Obj.ledgerRoot n] { s with tenants := u.tenants } u ∧
    ((s.tenant n).state ≠ 1 → s.jobEpochChange n epoch = u) ∧
    ((s.tenant n).state = 1 → (∀ d ∈ (s.tenant n).decisions, d.step + 1 ≠ u.oldestStep n ∨ d.commit = false) →
      (s.tenant n).ownVote = none → s.jobEpochChange n epoch =
        if u.isRoot n = true then u.decideAbort n (u.oldestStep n) 8
        else if ((s.tenant n).step? (u.oldestStep n)).isSome = true then u.abortFrom n (u.oldestStep n) 8 else u) ∧
    ((s.tenant n).state = 1 → (∀ d ∈ (s.tenant n).decisions, d.step + 1 ≠ u.oldestStep n ∨ d.commit = false) →
      (s.tenant n).ownVote ≠ none → u.isRoot n = false → s.jobEpochChange n epoch = u.abortUnvoted n (u.oldestStep n + 1)) ∧
    ((s.tenant n).state = 1 → (∀ d ∈ (s.tenant n).decisions, d.step + 1 ≠ u.oldestStep n ∨ d.commit = false) →
      (s.tenant n).ownVote ≠ none → u.isRoot n = true → ∃ v, s.jobEpochChange n epoch =
        (v.resolveQuery n).abortUnvoted n (u.oldestStep n + 1) ∧ ∃ w, TenantSet u w n { u.tenant n with querying := true } ∧
        LedgerSent w v n ((u.others n).map fun c => (c, u.ledgerMsg n 5 (u.oldestStep n)))) := by
  obtain ⟨shown, live, root, only⟩ := State.showMembers_shows (s.setTenant n { s.tenant n with
    votes := (s.tenant n).votes.filter fun m => m.jobEpoch == epoch, reports := [], querying := false }) n epoch
      (s.tenant n).live.length ((s.tenant n).live.head?.getD 0xFFFF)
  exact ⟨s.epochChanged n epoch, s.epochChanged_tenant n epoch, shown, live, root, only, State.jobEpochChange_idle epoch,
    State.jobEpochChange_unvoted, State.jobEpochChange_voted, State.jobEpochChange_asks⟩

/-! The member list (R565, R566) -/

theorem ascending_iff (l : List Nat) : ascending l = true ↔ l.Pairwise (· < ·) := by
  rw [← List.isChain_iff_pairwise]
  induction l with
  | nil => simp [ascending]
  | cons a l ih =>
    cases l with
    | nil => simp [ascending]
    | cons b l => rw [ascending, Bool.and_eq_true, decide_eq_true_eq, List.isChain_cons_cons, ih]

theorem State.membersOk_iff (s : State) (l : List Nat) :
    s.membersOk l = true ↔ l.Pairwise (· < ·) ∧ l.length ≤ 16384 ∧ (l = [] ∨ s.chip ∈ l) := by
  rw [State.membersOk, Bool.and_eq_true, Bool.and_eq_true, ascending_iff, decide_eq_true_eq, Bool.or_eq_true, List.isEmpty_iff,
    List.contains_iff_mem, and_assoc]

section
variable {s : State} {sess n : Nat} {l : List Nat} (may : MayWrite s sess (0x7010 + n) 3)
include may

theorem ledgerMembersWrite_may : exec (.ledgerMembersWrite sess n l) s = .next (
    if !(s.tenant n).steps.isEmpty || !s.membersOk l then s
    else (State.setTenant (if l = (s.tenant n).members then s else s.bump (Obj.ledgerMembers n)) n { s.tenant n with
      members := l, live := l, votes := [], ownVote := none, sentVote := false, unacked := [], reports := [],
      querying := false }).showMembers n (s.reg Obj.membershipEpoch) l.length (l.headD 0xFFFF)) :=
  congrArg Host.Outcome.next (State.guarded_may _ may)

theorem ledgerMembersWrite_refused (refused : (s.tenant n).steps ≠ [] ∨ s.membersOk l = false) :
    exec (.ledgerMembersWrite sess n l) s = .next s := by
  rw [ledgerMembersWrite_may may, if_pos]
  rw [Bool.or_eq_true, Bool.not_eq_true', Bool.not_eq_true', List.isEmpty_eq_false_iff]
  exact refused

theorem ledgerMembersWrite_writes (idle : (s.tenant n).steps = []) (ok : s.membersOk l = true) :
    ∃ t, exec (.ledgerMembersWrite sess n l) s = .next t ∧ t.tenant n = { s.tenant n with
        members := l, live := l, votes := [], ownVote := none, sentVote := false, unacked := [], reports := [], querying := false } ∧
      (∀ k, k ≠ n → t.tenant k = s.tenant k) ∧ t.reg (Obj.jobEpoch n) = s.reg Obj.membershipEpoch ∧
      t.reg (Obj.liveMembers n) = l.length ∧ t.reg (Obj.ledgerRoot n) = l.headD 0xFFFF ∧
      OnlyRegs [Obj.jobEpoch n, Obj.liveMembers n, Obj.ledgerRoot n] { s with tenants := t.tenants, generations := t.generations } t := by
  obtain ⟨g, bumped⟩ : ∃ g, (if l = (s.tenant n).members then s else s.bump (Obj.ledgerMembers n)) = { s with generations := g } := by
    split
    · exact ⟨s.generations, rfl⟩
    · exact ⟨_, rfl⟩
  have writes : ¬ (!(s.tenant n).steps.isEmpty || !s.membersOk l) = true := by simp [idle, ok]
  let v : Tenant := { s.tenant n with
    members := l, live := l, votes := [], ownVote := none, sentVote := false, unacked := [], reports := [], querying := false }
  have run : exec (.ledgerMembersWrite sess n l) s = .next ((State.setTenant { s with generations := g } n v).showMembers n
      (s.reg Obj.membershipEpoch) l.length (l.headD 0xFFFF)) := by
    rw [ledgerMembersWrite_may may, if_neg writes, bumped]
  obtain ⟨shown, live, root, only⟩ := State.showMembers_shows (State.setTenant { s with generations := g } n v) n
    (s.reg Obj.membershipEpoch) l.length (l.headD 0xFFFF)
  exact ⟨_, run, State.tenant_setTenant s n v, fun k other => State.tenant_setTenant_other s n k v other, shown, live, root, only⟩

end

end Sys2Proof.Machine
end

section
/-! What a commit and an abort leave of a tenant's ledger and work (R388, R540, R579 to R582). -/

namespace Sys2Proof.Machine

set_option Elab.async false

/-! A commit runs at its gate (R579, R580) -/

theorem Obj.stepObjs_apart (n : Nat) : Obj.committedStep n ≠ Obj.commitCount n ∧ Obj.committedStep n ≠ Obj.stepAttempt n ∧
    Obj.committedStep n ≠ Obj.deviceState ∧ Obj.commitCount n ≠ Obj.stepAttempt n ∧ Obj.commitCount n ≠ Obj.deviceState ∧
    Obj.commitLateCount n ≠ Obj.lateEventCount := by
  simp only [Obj.committedStep, Obj.commitCount, Obj.stepAttempt, Obj.deviceState, Obj.commitLateCount, Obj.lateEventCount, obj]
  omega

theorem State.runCommit_stale {s : State} {n step attempt : Nat} (code gate : Nat) (late : Bool)
    (stale : step ≠ s.oldestStep n ∨ attempt ≠ s.attemptOf n step) : s.runCommit n step attempt code gate late = s :=
  if_pos stale

section
variable (s : State) (n code gate : Nat) (late : Bool)

/-- The commit that a run applies (R579). -/
def State.committed (s : State) (n code : Nat) : State :=
  s.applyCommit n (s.oldestStep n) (if code = 0 then none else some (code - 1))

theorem State.runCommit_current : s.runCommit n (s.oldestStep n) (s.attemptOf n (s.oldestStep n)) code gate late = (
    let u := s.committed n code
    if late || decide (gate < s.beatNo) then
      (((u.setTenant n { u.tenant n with lateVeto := true }).count 32 (Obj.commitLateCount n)).count 32 Obj.lateEventCount).ledgerEvent
        n 11 0xFFFF (s.oldestStep n) 0
    else u.setTenant n { u.tenant n with lateVeto := false }) := by
  have current : ¬ (s.oldestStep n ≠ s.oldestStep n ∨ s.attemptOf n (s.oldestStep n) ≠ s.attemptOf n (s.oldestStep n)) := by simp
  exact if_neg current

theorem State.runCommit_timely (early : late = false) (timely : s.beatNo ≤ gate) :
    TenantSet (s.committed n code) (s.runCommit n (s.oldestStep n) (s.attemptOf n (s.oldestStep n)) code gate late) n
      { (s.committed n code).tenant n with lateVeto := false } := by
  have punctual : ¬ (late || decide (gate < s.beatNo)) = true := by simp [early, timely]
  rw [State.runCommit_current]
  dsimp only
  rw [if_neg punctual]
  exact State.setTenant_tenantSet _ n _

theorem State.runCommit_late (tardy : late = true ∨ gate < s.beatNo) : ∃ v t,
    TenantSet (s.committed n code) v n { (s.committed n code).tenant n with lateVeto := true } ∧
    OnlyRegs [Obj.commitLateCount n, Obj.lateEventCount] v t ∧
    t.reg (Obj.commitLateCount n) = ((s.committed n code).reg (Obj.commitLateCount n) + 1) % 2 ^ 32 ∧
    t.reg Obj.lateEventCount = ((s.committed n code).reg Obj.lateEventCount + 1) % 2 ^ 32 ∧
    s.runCommit n (s.oldestStep n) (s.attemptOf n (s.oldestStep n)) code gate late = t.ledgerEvent n 11 0xFFFF (s.oldestStep n) 0 := by
  have counts : (late || decide (gate < s.beatNo)) = true := by
    rcases tardy with h | h <;> simp [h]
  obtain ⟨-, -, -, -, -, apart⟩ := Obj.stepObjs_apart n
  rw [State.runCommit_current]
  dsimp only
  rw [if_pos counts]
  generalize s.committed n code = u
  refine ⟨u.setTenant n { u.tenant n with lateVeto := true }, _, u.setTenant_tenantSet n _, ?_, ?_, ?_, rfl⟩
  · exact ((OnlyRegs.refl _ _).setReg (by simp) _).setReg (by simp) _
  · rw [State.count, State.addReg, State.reg_setReg_other _ _ _ _ apart, State.count, State.addReg, State.reg_setReg_same] <;> rfl
  · rw [State.count, State.addReg, State.reg_setReg_same, State.count, State.addReg, State.reg_setReg_other _ _ _ _ apart.symm] <;> rfl

end

/-! What a commit leaves (R579) -/

/-- The state of a commit once its versions, records, Judges, stacks and proposal are done (R579, parts 1 to 4). -/
def State.partsCommitted (s : State) (n step : Nat) (proposal : Option Nat) : State :=
  (((s.commitVersions n).commitOpen n step ((s.tenant n).step? step)).emptyStacks n true).applyProposal n proposal

/-- A tenant that keeps nothing of the steps up to one. -/
def Tenant.past (t : Tenant) (step : Nat) : Tenant :=
  { t with
    steps := t.steps.filter fun p => p.step != step
    closes := t.closes.filter fun c => decide (step < c.1)
    attempts := Sparse.keep (fun k _ => decide (step < k)) t.attempts
    spikes := Sparse.keep (fun k _ => decide (step < k)) t.spikes
    decisions := t.decisions.filter fun d => decide (step ≤ d.step)
    votes := t.votes.filter fun m => decide (step < m.step)
    ownVote := none
    sentVote := false
    commitsSince := t.commitsSince + 1 }

/-- The committed step has advanced (R579, part 5). -/
def State.advancedTo (s : State) (n step : Nat) : State :=
  ((((s.setTenant n ((s.tenant n).past step)).setReg (Obj.committedStep n) step).forgetUses n fun k => decide (k ≤ step)).count 64
    (Obj.commitCount n)).applyPendingRegs n

/-- The records that waited have joined, and what the tenant steers is settled. -/
def State.stepSettled (s : State) (n step : Nat) : State :=
  let t := s.joinWaiting n
  ((t.setTenant n { t.tenant n with proposal := t.steer n step (t.steerMembers n) }).showAttempt n).settleDevice

theorem State.applyCommit_parts (s : State) (n step : Nat) (proposal : Option Nat) :
    s.applyCommit n step proposal = ((s.partsCommitted n step proposal).advancedTo n step).stepSettled n step := rfl

/-- The parts of a tenant that a later record or proposal does not touch. -/
structure LedgerSame (t v : Tenant) : Prop where
  steps : v.steps.map (·.step) = t.steps.map (·.step)
  closes : v.closes = t.closes
  votes : v.votes = t.votes
  decisions : v.decisions = t.decisions
  own : v.ownVote = t.ownVote ∧ v.sentVote = t.sentVote

theorem LedgerSame.refl (t : Tenant) : LedgerSame t t := ⟨rfl, rfl, rfl, rfl, rfl, rfl⟩

theorem LedgerSame.trans {t v w : Tenant} (h : LedgerSame t v) (h' : LedgerSame v w) : LedgerSame t w :=
  ⟨h'.steps.trans h.steps, h'.closes.trans h.closes, h'.votes.trans h.votes, h'.decisions.trans h.decisions,
    h'.own.1.trans h.own.1, h'.own.2.trans h.own.2⟩

theorem State.joinWaiting_joins (s : State) (n : Nat) : (∃ m, s.joinWaiting n = { s with tenants := m }) ∧
    LedgerSame (s.tenant n) ((s.joinWaiting n).tenant n) := by
  unfold State.joinWaiting
  dsimp only
  split
  · exact ⟨⟨s.tenants, rfl⟩, .refl _⟩
  · refine ⟨⟨_, rfl⟩, ?_⟩
    rw [State.tenant_setTenant]
    refine ⟨?_, rfl, rfl, rfl, rfl, rfl⟩
    dsimp only [Tenant.modStep]
    rw [List.map_map]
    refine List.map_congr_left fun p _ => ?_
    dsimp only [Function.comp]
    split <;> rfl

theorem State.stepSettled_settles (s : State) (n step : Nat) : (∃ m r, s.stepSettled n step = { s with tenants := m, regs := r }) ∧
    LedgerSame (s.tenant n) ((s.stepSettled n step).tenant n) ∧ RegsBut [Obj.stepAttempt n, Obj.deviceState] s (s.stepSettled n step) := by
  obtain ⟨⟨m, joined⟩, same⟩ := s.joinWaiting_joins n
  unfold State.stepSettled
  dsimp only
  have steered := State.tenant_setTenant (s.joinWaiting n) n { (s.joinWaiting n).tenant n with
    proposal := (s.joinWaiting n).steer n step ((s.joinWaiting n).steerMembers n) }
  have regs : ((s.joinWaiting n).setTenant n { (s.joinWaiting n).tenant n with
      proposal := (s.joinWaiting n).steer n step ((s.joinWaiting n).steerMembers n) }).regs = s.regs := by rw [joined] <;> rfl
  have frame : ∃ m, (s.joinWaiting n).setTenant n { (s.joinWaiting n).tenant n with
      proposal := (s.joinWaiting n).steer n step ((s.joinWaiting n).steerMembers n) } = { s with tenants := m } := by
    rw [joined]
    exact ⟨_, rfl⟩
  generalize (s.joinWaiting n).setTenant n { (s.joinWaiting n).tenant n with
    proposal := (s.joinWaiting n).steer n step ((s.joinWaiting n).steerMembers n) } = u at steered regs frame
  obtain ⟨m', rfl⟩ := frame
  obtain ⟨r, settled, shown⟩ := State.settleDevice_eq (State.showAttempt { s with tenants := m' } n)
  refine ⟨⟨m', r, settled⟩, ?_, fun k other => ?_⟩
  · have kept : (State.settleDevice (State.showAttempt { s with tenants := m' } n)).tenant n = State.tenant { s with tenants := m' } n := by
      rw [settled] <;> rfl
    rw [kept, steered]
    exact same.trans ⟨rfl, rfl, rfl, rfl, rfl, rfl⟩
  · rw [List.mem_cons, List.mem_singleton, not_or] at other
    exact (shown k other.2).trans (State.reg_setReg_other _ _ _ _ other.1)

theorem State.applyPendingRegs_none {s : State} {n : Nat} (none : (s.tenant n).pendingRegs = []) :
    s.applyPendingRegs n = s.setTenant n { s.tenant n with pendingRegs := [] } := by
  unfold State.applyPendingRegs
  dsimp only
  rw [none] <;> rfl

theorem State.advancedTo_advances {s : State} {n : Nat} (step : Nat) (none : (s.tenant n).pendingRegs = []) :
    (∃ m r q, s.advancedTo n step = { s with tenants := m, regs := r, colls := q }) ∧
    (s.advancedTo n step).tenant n = { (s.tenant n).past step with pendingRegs := [] } ∧
    (s.advancedTo n step).reg (Obj.committedStep n) = step ∧
    (s.advancedTo n step).reg (Obj.commitCount n) = (s.reg (Obj.commitCount n) + 1) % 2 ^ 64 ∧
    RegsBut [Obj.committedStep n, Obj.commitCount n] s (s.advancedTo n step) := by
  obtain ⟨stepCount, -⟩ := Obj.stepObjs_apart n
  let u := ((s.setTenant n ((s.tenant n).past step)).setReg (Obj.committedStep n) step).forgetUses n fun k => decide (k ≤ step)
  have past : (u.count 64 (Obj.commitCount n)).tenant n = (s.tenant n).past step := State.tenant_setTenant s n _
  have advanced : s.advancedTo n step = (u.count 64 (Obj.commitCount n)).setTenant n { (s.tenant n).past step with pendingRegs := [] } := by
    have run := State.applyPendingRegs_none (s := u.count 64 (Obj.commitCount n)) (n := n) (by rw [past]; exact none)
    rw [past] at run
    exact run
  rw [advanced]
  refine ⟨⟨_, _, _, rfl⟩, State.tenant_setTenant _ n _, ?_, ?_, fun k other => ?_⟩
  · exact (State.reg_setReg_other _ _ _ _ stepCount).trans (State.reg_setReg_same _ _ _)
  · refine (State.reg_setReg_same _ _ _).trans (congrArg (fun v => (v + 1) % 2 ^ 64) ?_)
    exact State.reg_setReg_other (s.setTenant n ((s.tenant n).past step)) _ _ _ stepCount.symm
  · rw [List.mem_cons, List.mem_singleton, not_or] at other
    exact (State.reg_setReg_other _ _ _ _ other.2).trans (State.reg_setReg_other (s.setTenant n ((s.tenant n).past step)) _ _ _ other.1)

/-- The commit of a step leaves nothing of the steps up to it (R579, part 5). -/
theorem State.stepSettled_leaves {u : State} {n : Nat} (step : Nat) (none : (u.tenant n).pendingRegs = []) :
    ∃ t, (u.advancedTo n step).stepSettled n step = t ∧ t.reg (Obj.committedStep n) = step ∧
      t.reg (Obj.commitCount n) = (u.reg (Obj.commitCount n) + 1) % 2 ^ 64 ∧
      ((t.tenant n).steps.map (·.step)) = (((u.tenant n).steps.filter fun p => p.step != step).map (·.step)) ∧
      (t.tenant n).closes = (u.tenant n).closes.filter (fun c => decide (step < c.1)) ∧
      (t.tenant n).votes = (u.tenant n).votes.filter (fun m => decide (step < m.step)) ∧
      (t.tenant n).decisions = (u.tenant n).decisions.filter (fun d => decide (step ≤ d.step)) ∧
      (t.tenant n).ownVote = Option.none ∧ (t.tenant n).sentVote = false ∧
      t.mem = u.mem ∧ t.entries = u.entries ∧ t.slots = u.slots ∧ t.works = u.works ∧
      RegsBut [Obj.committedStep n, Obj.commitCount n, Obj.stepAttempt n, Obj.deviceState] u t := by
  obtain ⟨⟨m, r, q, frame⟩, past, advanced, counted, others⟩ := State.advancedTo_advances step none
  generalize u.advancedTo n step = v at frame past advanced counted others
  obtain ⟨⟨m', r', settled⟩, same, quiet⟩ := v.stepSettled_settles n step
  obtain ⟨-, stepAttempt, stepDevice, countAttempt, countDevice, -⟩ := Obj.stepObjs_apart n
  obtain ⟨steps, closes, votes, decisions, own, sent⟩ := same
  rw [past] at steps closes votes decisions own sent
  have kept {α : Type} (f : State → α) (fixed : ∀ m r q, f { u with tenants := m, regs := r, colls := q } = f u) :
      f (v.stepSettled n step) = f u := by
    rw [settled, frame]
    exact fixed m' r' q
  refine ⟨_, rfl, ?_, ?_, steps, closes, votes, decisions, own, sent, kept (·.mem) fun _ _ _ => rfl, kept (·.entries) fun _ _ _ => rfl,
    kept (·.slots) fun _ _ _ => rfl, kept (·.works) fun _ _ _ => rfl, fun k other => ?_⟩
  · exact (quiet _ (by simp [stepAttempt, stepDevice])).trans advanced
  · exact (quiet _ (by simp [countAttempt, countDevice])).trans counted
  · simp only [List.mem_cons, List.not_mem_nil, or_false, not_or] at other
    obtain ⟨notStep, notCount, notAttempt, notDevice⟩ := other
    exact (quiet k (by simp [notAttempt, notDevice])).trans (others k (by simp [notStep, notCount]))

end Sys2Proof.Machine
end

section
/-! What an abort leaves of a tenant's ledger and work (R388, R540, R581). -/

namespace Sys2Proof.Machine

set_option Elab.async false

/-- Ending work items ends those not yet placed and stops those on a context, one after another (R388). -/
theorem State.endWorks_ends (test : Work → Bool) (status : Nat) (s : State) :
    WorksEnd test status true s.works s (s.endWorks test status true) := by
  have all : ∀ (ws : List (Nat × Work)) (s : State), WorksEnd test status true ws s (ws.foldl (fun t q =>
      if !test q.2 then t
      else if q.2.phase = 1 then t.endWork q.1 q.2 status 0
      else if q.2.phase = 2 ∧ (true : Bool) then t.stopCtx q.2.core q.2.ctx status
      else t) s) := by
    intro ws
    induction ws with
    | nil => exact fun s => rfl
    | cons q ws ih =>
      intro s
      rw [List.foldl_cons, WorksEnd]
      by_cases named : test q.2 = true
      · have kept : ¬ (!test q.2) = true := by rw [named]; exact Bool.false_ne_true
        rw [if_neg kept]
        by_cases waits : q.2.phase = 1
        · rw [if_pos ⟨named, waits⟩, if_pos waits]
          exact ⟨_, s.endWork_ended q.1 q.2 status 0, ih _⟩
        · rw [if_neg (fun h => waits h.2), if_neg waits]
          by_cases runs : q.2.phase = 2
          · rw [if_pos ⟨named, runs, rfl⟩, if_pos ⟨runs, rfl⟩]
            exact ⟨_, s.stopCtx_stopped q.2.core q.2.ctx status, ih _⟩
          · rw [if_neg (fun h => runs h.2.1), if_neg (fun h => runs h.1)]
            exact ih s
      · have other : (!test q.2) = true := by simp [named]
        rw [if_neg (fun h => named h.1), if_neg (fun h => named h.1), if_pos other]
        exact ih s
  exact all s.works s

/-! What discarding a step's records leaves (R581) -/

/-- Between two states no work item and no attempt number of the tenant has changed. -/
structure AttemptsKept (n : Nat) (s t : State) : Prop where
  works : t.works = s.works
  attempts : (t.tenant n).attempts = (s.tenant n).attempts

section
variable {n : Nat} {s t u : State}

theorem AttemptsKept.refl (n : Nat) (s : State) : AttemptsKept n s s := ⟨rfl, rfl⟩

theorem AttemptsKept.trans (h : AttemptsKept n s t) (h' : AttemptsKept n t u) : AttemptsKept n s u :=
  ⟨h'.works.trans h.works, h'.attempts.trans h.attempts⟩

theorem AttemptsKept.same (works : t.works = s.works) (tenants : t.tenants = s.tenants) : AttemptsKept n s t :=
  ⟨works, by rw [State.tenant, tenants, State.tenant]⟩

theorem AttemptsKept.foldl {α : Type} {f : State → α → State} (step : ∀ t a, AttemptsKept n t (f t a)) (l : List α) (s : State) :
    AttemptsKept n s (l.foldl f s) := by
  induction l generalizing s with
  | nil => exact .refl n s
  | cons a l ih => exact (step s a).trans (ih _)

theorem AttemptsKept.setTenant {v : Tenant} (attempts : v.attempts = (s.tenant n).attempts) : AttemptsKept n s (s.setTenant n v) :=
  ⟨rfl, by rw [State.tenant_setTenant, attempts]⟩

theorem State.poke_attemptsKept (s : State) (m off : Nat) (v : VSel) (b : Byte) : AttemptsKept n s (s.poke m off v b) := by
  unfold State.poke
  split
  · exact .refl n s
  · dsimp only
    split
    · exact .same rfl rfl
    · exact .same rfl rfl

theorem State.setField_attemptsKept (s : State) (m off len v : Nat) : AttemptsKept n s (s.setField m off len v) := by
  unfold State.setField State.pokeRun State.pokeAll
  refine List.foldlRecOn (motive := fun p : State × Bool => AttemptsKept n s p.1) _ _ (.refl n s) fun p kept w _ => ?_
  split
  · exact kept
  · next a o _ =>
    split
    · split
      · exact kept
      · have cleared : AttemptsKept n p.1 (p.1.setPoison a (o / 64) false) := .same rfl rfl
        exact kept.trans (cleared.trans (State.poke_attemptsKept _ _ _ _ _))
    · exact kept.trans (State.poke_attemptsKept _ _ _ _ _)

theorem State.abortOpen_attemptsKept (s : State) (p : StepSt) : AttemptsKept n s (s.abortOpen n p) := by
  have scale (t : State) (o : Nat) : AttemptsKept n t (t.clearScale n p.step o) := t.setField_attemptsKept ..
  have update (t : State) (o : Nat) : AttemptsKept n t (t.clearUpdate n o) := t.setField_attemptsKept ..
  have unsealed (t : State) : AttemptsKept n t (t.unseal n p.step) := .setTenant rfl
  exact (AttemptsKept.foldl scale _ s).trans ((AttemptsKept.foldl update _ _).trans (unsealed _))

theorem State.judgesAbort_attemptsKept (s : State) (ended : List Nat) : AttemptsKept n s (s.judgesAbort n ended) := by
  have reset (t : State) : AttemptsKept n t (t.resetStats n) := by
    unfold State.resetStats
    split
    · exact (AttemptsKept.setTenant (v := { t.tenant n with statsReset := false }) rfl).trans (.same rfl rfl)
    · exact .refl n t
  have settings (t : State) : AttemptsKept n t (t.applyWatchCfg n) := by
    unfold State.applyWatchCfg
    split
    · exact .refl n t
    · exact (AttemptsKept.setTenant (v := { t.tenant n with pendingCfg := none }) rfl).trans (.same rfl rfl)
  have drops (t : State) (k : Nat) : AttemptsKept n t (t.dropOpens n k) := .same rfl rfl
  have settles (t : State) (k : Nat) : AttemptsKept n t (t.settleSlots n k) := .same rfl rfl
  exact (((AttemptsKept.foldl drops ended s).trans (reset _)).trans (settings _)).trans (.foldl settles ended _)

theorem State.releaseTags_attemptsKept (s : State) (p : Tag → Bool) : AttemptsKept n s (s.releaseTags n p) := by
  obtain ⟨cs, co, es, released⟩ := s.releaseTags_eq n p
  rw [released]
  exact (AttemptsKept.setTenant (v := { s.tenant n with tags := (s.tenant n).tags.filter fun g => !p g }) rfl).trans (.same rfl rfl)

theorem State.emptyStacks_attemptsKept (s : State) (m : Nat) (commit : Bool) : AttemptsKept n s (s.emptyStacks m commit) := by
  refine .foldl (fun t p => ?_) _ s
  dsimp only
  split
  · exact .same rfl rfl
  · exact .same rfl rfl

end

/-! The parts of an abort (R581) -/

/-- The state once an abort has ended the step's work and instances and discarded its pending versions. -/
def State.workAborted (s : State) (n step : Nat) : State :=
  let t := (s.endWorks (fun k => k.tenant == n && !k.ns && decide (step ≤ k.step)) 2 true).abortInsts n step ((s.tenant n).endedBy step)
  if decide (step ≤ s.oldestStep n) then (t.endVersionWaits n).abortVersions n else t

/-- The tags, records, judgements, sketches and stacks of the steps that end are discarded. -/
def State.recordsAborted (s : State) (n step : Nat) (opens : List StepSt) (ended : List Nat) : State :=
  let t := s.releaseTags n fun g => match g.step with
    | some k => decide (step ≤ k)
    | none => false
  (((opens.foldl (fun u p => u.abortOpen n p) t).judgesAbort n ended).dropSketches n step).emptyStacks n false

/-- A tenant's ledger without the steps that end, each of which has its next attempt. -/
def Tenant.aborted (t : Tenant) (step : Nat) (whole : Bool) (ended : List Nat) : Tenant :=
  { t with
    steps := t.steps.filter fun p => decide (p.step < step)
    closes := t.closes.filter fun c => decide (c.1 < step)
    attempts := ended.foldl (fun m k => Sparse.set 0 k (Sparse.get 0 k m + 1) m) t.attempts
    votes := t.votes.filter fun m => decide (m.step < step)
    ownVote := if whole then none else t.ownVote
    sentVote := !whole && t.sentVote
    querying := !whole && t.querying
    reports := if whole then [] else t.reports
    lateVeto := !whole && t.lateVeto }

/-- The abort is counted and reported (R581, R611). -/
def State.abortShown (s : State) (n step causes : Nat) (ended : List Nat) : State :=
  let t := (s.count 64 (Obj.abortCount n)).applyPendingRegs n
  ((ended.foldl (fun v k => v.ledgerEvent n 8 0xFFFF k (if k = step then causes else causePrev)) t).showAttempt n).settleDevice

theorem State.abortFrom_parts (s : State) (n step causes : Nat) : s.abortFrom n step causes = (
    let ended := (s.tenant n).endedBy step
    let u := (s.workAborted n step).recordsAborted n step ((s.tenant n).steps.filter fun p => decide (step ≤ p.step)) ended
    (u.setTenant n ((u.tenant n).aborted step (decide (step ≤ s.oldestStep n)) ended)).abortShown n step causes ended) :=
  rfl

theorem State.recordsAborted_attemptsKept (s : State) (n step : Nat) (opens : List StepSt) (ended : List Nat) :
    AttemptsKept n s (s.recordsAborted n step opens ended) := by
  have opened := AttemptsKept.foldl (n := n) (fun t p => State.abortOpen_attemptsKept t p) opens (s.releaseTags n fun g =>
    match g.step with
    | some k => decide (step ≤ k)
    | none => false)
  have dropped (t : State) : AttemptsKept n t (t.dropSketches n step) := .same rfl rfl
  exact (s.releaseTags_attemptsKept _).trans (opened.trans ((State.judgesAbort_attemptsKept _ ended).trans ((dropped _).trans
    (State.emptyStacks_attemptsKept _ n false))))

/-- The attempt of a step that ends rises by one, once (R581). -/
theorem attempts_endedBy (t : Tenant) (step : Nat) (m : Sparse Nat) :
    Sparse.get 0 step ((t.endedBy step).foldl (fun m k => Sparse.set 0 k (Sparse.get 0 k m + 1) m) m) = Sparse.get 0 step m + 1 := by
  rw [Tenant.endedBy, List.foldl_cons]
  refine List.foldlRecOn (motive := fun u => Sparse.get 0 step u = Sparse.get 0 step m + 1) _ _ (Sparse.get_set_same _ _ _ _)
    fun u same k later => ?_
  obtain ⟨p, above, rfl⟩ := List.mem_map.1 later
  have other : step ≠ p.step := Nat.ne_of_lt (of_decide_eq_true (List.mem_filter.1 above).2)
  exact (Sparse.get_set_other _ _ _ _ _ _ other).trans same

/-- Reporting an abort touches no part of the ledger but the pending settings. -/
theorem State.abortShown_shows (s : State) (n step causes : Nat) (ended : List Nat) :
    (s.abortShown n step causes ended).tenant n = { s.tenant n with pendingRegs := [] } ∧
    (s.abortShown n step causes ended).works = s.works := by
  have pending : ∀ (ps : List (Nat × Nat)) (t : State), (ps.foldl (fun u p => u.setReg p.1 p.2) t).tenants = t.tenants ∧
      (ps.foldl (fun u p => u.setReg p.1 p.2) t).works = t.works := fun ps t =>
    List.foldlRecOn (motive := fun u : State => u.tenants = t.tenants ∧ u.works = t.works) _ _ ⟨rfl, rfl⟩ fun _ kept _ _ => kept
  have events : ∀ (ks : List Nat) (t : State), (ks.foldl (fun v k => v.ledgerEvent n 8 0xFFFF k (if k = step then causes else causePrev))
      t).tenants = t.tenants ∧ (ks.foldl (fun v k => v.ledgerEvent n 8 0xFFFF k (if k = step then causes else causePrev)) t).works = t.works :=
    fun ks t => List.foldlRecOn (motive := fun u : State => u.tenants = t.tenants ∧ u.works = t.works) _ _ ⟨rfl, rfl⟩
      fun u kept k _ => by
        obtain ⟨o, e, ss, m, raised⟩ := State.raise_eq u (Obj.lastLedgerEvent n)
          (eventBytes 8 n 0xFFFF (u.reg Obj.membershipEpoch) k (if k = step then causes else causePrev) u.up)
        rw [State.ledgerEvent, raised]
        exact kept
  let t := (s.count 64 (Obj.abortCount n)).setTenant n { s.tenant n with pendingRegs := [] }
  obtain ⟨tenants, works⟩ := pending (s.tenant n).pendingRegs t
  obtain ⟨tenants', works'⟩ := events ended ((s.tenant n).pendingRegs.foldl (fun u p => u.setReg p.1 p.2) t)
  obtain ⟨m, settled, -⟩ := State.settleDevice_eq ((ended.foldl (fun v k => v.ledgerEvent n 8 0xFFFF k
    (if k = step then causes else causePrev)) ((s.tenant n).pendingRegs.foldl (fun u p => u.setReg p.1 p.2) t)).showAttempt n)
  have run : s.abortShown n step causes ended = _ := settled
  have here : t.tenant n = { s.tenant n with pendingRegs := [] } := State.tenant_setTenant _ n _
  rw [run]
  refine ⟨?_, works'.trans works⟩
  rw [← here]
  exact State.tenant_of_tenants (tenants'.trans tenants) n

theorem State.abortFrom_leaves (s : State) (n step causes : Nat) : ∃ a b c t,
    WorksEnd (fun k => k.tenant == n && !k.ns && decide (step ≤ k.step)) 2 true
    s.works s a ∧ b = a.abortInsts n step ((s.tenant n).endedBy step) ∧
    c = (if step ≤ s.oldestStep n then (b.endVersionWaits n).abortVersions n else b) ∧ s.abortFrom n step causes = t ∧
    (∀ p ∈ (t.tenant n).steps, p.step < step) ∧ (∀ c ∈ (t.tenant n).closes, c.1 < step) ∧
    (∀ m ∈ (t.tenant n).votes, m.step < step) ∧
    (step ≤ s.oldestStep n → (t.tenant n).ownVote = none ∧ (t.tenant n).sentVote = false ∧ (t.tenant n).lateVeto = false) ∧
    Sparse.get 0 step (t.tenant n).attempts = Sparse.get 0 step (c.tenant n).attempts + 1 ∧ t.works = c.works := by
  refine ⟨_, _, s.workAborted n step, _, s.endWorks_ends _ 2, rfl, by simp only [State.workAborted, decide_eq_true_eq], s.abortFrom_parts n step causes, ?_⟩
  dsimp only
  have kept := (s.workAborted n step).recordsAborted_attemptsKept n step
    ((s.tenant n).steps.filter fun p => decide (step ≤ p.step)) ((s.tenant n).endedBy step)
  generalize (s.workAborted n step).recordsAborted n step ((s.tenant n).steps.filter fun p => decide (step ≤ p.step))
    ((s.tenant n).endedBy step) = u at kept
  obtain ⟨works, attempts⟩ := kept
  obtain ⟨shown, worked⟩ := (u.setTenant n ((u.tenant n).aborted step (decide (step ≤ s.oldestStep n)) ((s.tenant n).endedBy step))).abortShown_shows
    n step causes ((s.tenant n).endedBy step)
  rw [shown, worked, State.tenant_setTenant]
  refine ⟨fun p hp => ?_, fun c hc => ?_, fun m hm => ?_, fun whole => ?_, ?_, works⟩
  · exact of_decide_eq_true (List.mem_filter.1 hp).2
  · exact of_decide_eq_true (List.mem_filter.1 hc).2
  · exact of_decide_eq_true (List.mem_filter.1 hm).2
  · dsimp only [Tenant.aborted]
    rw [decide_eq_true whole]
    exact ⟨rfl, rfl, rfl⟩
  · rw [← attempts]
    exact attempts_endedBy (s.tenant n) step (u.tenant n).attempts

/-- Settles O37: decisions by what is known of the attempt, a new root's query by who has reported, a commit and an abort as one list of
parts each, of which the ledger's own comes last. -/
theorem decisionsEndSteps : Obligations.DecisionsEndSteps :=
  ⟨fun _ _ _ veto mismatch quorum => State.decideVote_commits veto mismatch quorum,
    fun _ _ _ fails => State.decideVote_aborts fails,
    fun _ _ _ => ⟨State.takeCommit_untimely, State.takeCommit_known, State.takeCommit_taken⟩,
    fun _ _ _ => ⟨State.takeAbort_untimely, State.takeAbort_known, State.takeAbort_taken⟩,
    fun _ _ _ job => ledgerAckReceive_acks job,
    ledgerResend_sends,
    fun _ _ _ step may idle => abortRequest_idle step may idle,
    fun _ _ _ step may runs root => abortRequest_root step may runs root,
    fun _ _ _ step may runs member => abortRequest_member step may runs member,
    fun _ _ _ => ⟨State.requestedAbort_aborts, State.requestedAbort_ignored⟩,
    fun _ _ => ⟨voteTimeout_idle, voteTimeout_aborts⟩,
    fun _ _ _ _ => rfl,
    fun s n epoch _ => s.jobEpochChange_changes n epoch,
    fun _ _ => ⟨State.resolveQuery_waits, State.resolveQuery_answers⟩,
    fun _ _ _ _ may refused => ledgerMembersWrite_refused may refused,
    State.membersOk_iff,
    fun _ _ _ _ may idle ok _ => ledgerMembersWrite_writes may idle ok,
    fun _ _ _ _ code gate late stale => State.runCommit_stale code gate late stale,
    fun s n code gate late => ⟨s.runCommit_timely n code gate late, fun tardy _ => s.runCommit_late n code gate late tardy⟩,
    fun _ _ step _ _ none => State.stepSettled_leaves step none,
    fun _ _ _ _ => ⟨rfl, rfl⟩,
    fun s n step causes _ => s.abortFrom_leaves n step causes⟩

end Sys2Proof.Machine
end
